-- ==== Sys2Proof/Word.lean ====
section
/-!
DEFINITION. The words the machine is made of (R1, R5): bytes, 32-bit words, and the identity of a requester of
a register access (R611, GLOBAL_BADACC.REQUESTER).
-/

namespace Sys2Proof

/-- A byte of memory. -/
abbrev Byte := BitVec 8

/-- A register or memory word (R5). -/
abbrev Word := BitVec 32

/-- Who makes a register access (R611): a physical core, the host PCIe endpoint, the maintenance port, the debug
port, the boot register list, or the module itself (R615). -/
inductive Requester where
  | core (n : Nat)
  | host
  | mnt
  | debug
  | bootList
  | module
  deriving DecidableEq, Repr

/-- The REQUESTER code of GLOBAL_BADACC, GLOBAL_LASTREF and PW_OFFACC: 0x00 to 0x47 the physical core, 0x80 host,
0x81 maintenance port, 0x82 debug port, 0x83 boot register list, 0x84 the module itself. -/
def Requester.code : Requester → Nat
  | .core n => n % 128
  | .host => 0x80
  | .mnt => 0x81
  | .debug => 0x82
  | .bootList => 0x83
  | .module => 0x84

end Sys2Proof
end

