-- ==== Sys2Proof/Machine/Bits.lean ====
section
/-!
DEFINITION. Bit fields, signed readings, little-endian byte lists, and the sparse tables that hold every register
file and memory in one canonical form.
-/

namespace Sys2Proof.Machine

/-- Bits `hi` to `lo` of a number, as a number. -/
def bits (v hi lo : Nat) : Nat := (v >>> lo) % 2 ^ (hi + 1 - lo)

/-- `v` with bits `hi` to `lo` replaced by the low bits of `x`. -/
def setBits (v hi lo x : Nat) : Nat :=
  let w := 2 ^ (hi + 1 - lo)
  v % 2 ^ lo + (x % w) * 2 ^ lo + (v >>> (hi + 1)) * 2 ^ (hi + 1)

/-- Bit `i` of a number. -/
def bit (v i : Nat) : Bool := v.testBit i

/-- 1 for true, 0 for false. -/
def b2n (b : Bool) : Nat := if b then 1 else 0

/-- The `b` low bits of the greatest r with r^k ≤ n, found from the highest down, above those already found. -/
def rootBelow (k n : Nat) : Nat → Nat → Nat
  | 0, r => r
  | b + 1, r => rootBelow k n b (if (r + 2 ^ b) ^ k ≤ n then r + 2 ^ b else r)

/-- The number `v`, of width `w`, read as two's complement. -/
def toSigned (w v : Nat) : Int :=
  let u := v % 2 ^ w
  if u < 2 ^ (w - 1) then (u : Int) else (u : Int) - (2 ^ w : Nat)

/-- The two's-complement bits of `i` at width `w`. -/
def ofSigned (w : Nat) (i : Int) : Nat := (i % (2 ^ w : Nat)).toNat

/-- An integer clamped to the range from `lo` to `hi`. -/
def clampInt (lo hi i : Int) : Int := if i < lo then lo else if hi < i then hi else i

/-- The quotient of an integer by a natural number, rounded half to even. -/
def roundDiv (n : Int) (d : Nat) : Int :=
  let q := n / d
  let r := 2 * (n - q * d)
  if r < d then q else if (d : Int) < r then q + 1 else if q % 2 = 0 then q else q + 1

/-- An integer saturated to a signed 32-bit word. -/
def sat32 (i : Int) : Nat := ofSigned 32 (clampInt (-(2 ^ 31)) (2 ^ 31 - 1) i)

/-- A counter of `w` bits that saturates at its largest value (R614). -/
def satInc (w v : Nat) : Nat := if v + 1 < 2 ^ w then v + 1 else 2 ^ w - 1

/-- A sum that saturates at the largest value of `w` bits (R614). -/
def satAdd (w v n : Nat) : Nat := min (v + n) (2 ^ w - 1)

/-- The `n` bytes of a number, least significant first (R1). -/
def leBytes : Nat → Nat → List Byte
  | 0, _ => []
  | n + 1, v => BitVec.ofNat 8 v :: leBytes n (v / 256)

/-- The number whose bytes, least significant first, are given (R1). -/
def ofLe : List Byte → Nat
  | [] => 0
  | b :: bs => b.toNat + 256 * ofLe bs

/-! ## Sparse tables

A table lists the indices whose entry differs from the default, in strictly rising order; an unlisted index reads
as the default. Equal tables are then equal lists. -/

/-- The entry of index `k`. -/
def Tab.get {α : Type} (d : Nat → α) : List (Nat × α) → Nat → α
  | [], k => d k
  | (i, a) :: t, k => if k = i then a else Tab.get d t k

/-- An entry put before the first entry of a higher index. -/
def Tab.insert {α : Type} (k : Nat) (v : α) : List (Nat × α) → List (Nat × α)
  | [] => [(k, v)]
  | (i, a) :: t => if k < i then (k, v) :: (i, a) :: t else (i, a) :: Tab.insert k v t

/-- The table with the entry of index `k` replaced; the default removes the entry. -/
def Tab.set {α : Type} [DecidableEq α] (d : Nat → α) (t : List (Nat × α)) (k : Nat) (v : α) : List (Nat × α) :=
  let u := t.filter (fun e => e.1 ≠ k)
  if v = d k then u else Tab.insert k v u

/-- Every index of the table lies above `b`, rises strictly, and no entry is the default. -/
def Tab.wfFrom {α : Type} [DecidableEq α] (d : Nat → α) : Nat → List (Nat × α) → Bool
  | _, [] => true
  | b, (i, a) :: t => decide (b ≤ i) && decide (a ≠ d i) && Tab.wfFrom d (i + 1) t

/-- The canonical form of a table. -/
def Tab.wf {α : Type} [DecidableEq α] (d : Nat → α) (t : List (Nat × α)) : Bool := Tab.wfFrom d 0 t

/-- The entry of `k` changed by a function. -/
def Tab.modify {α : Type} [DecidableEq α] (d : Nat → α) (t : List (Nat × α)) (k : Nat) (f : α → α) :
    List (Nat × α) :=
  Tab.set d t k (f (Tab.get d t k))

/-! ## Byte memories -/

/-- What a byte of memory that nothing has written reads as: 0 (assumption 4). Log 4 (DESIGN CHOICE, unsafe). -/
def memDefault (_ : Nat) : Byte := 0#8

/-- One byte of a memory. -/
def Mem.read (m : List (Nat × Byte)) (a : Nat) : Byte := Tab.get memDefault m a

/-- A memory with one byte written. -/
def Mem.write (m : List (Nat × Byte)) (a : Nat) (b : Byte) : List (Nat × Byte) := Tab.set memDefault m a b

/-- `n` bytes from address `a`. -/
def Mem.readN (m : List (Nat × Byte)) (a : Nat) : Nat → List Byte
  | 0 => []
  | n + 1 => Mem.read m a :: Mem.readN m (a + 1) n

/-- A memory with a list of bytes written from address `a` on. -/
def Mem.writeN (m : List (Nat × Byte)) (a : Nat) : List Byte → List (Nat × Byte)
  | [] => m
  | b :: bs => Mem.writeN (Mem.write m a b) (a + 1) bs

/-- The little-endian number of `n` bytes at address `a` (R1). -/
def Mem.num (m : List (Nat × Byte)) (a n : Nat) : Nat := ofLe (Mem.readN m a n)

/-- A memory with the little-endian number `v` written in `n` bytes at address `a` (R1). -/
def Mem.setNum (m : List (Nat × Byte)) (a n v : Nat) : List (Nat × Byte) := Mem.writeN m a (leBytes n v)

/-- A memory without its bytes at addresses from `lo` up to but not including `hi`: they read 0 again (R513). -/
def Mem.clear (m : List (Nat × Byte)) (lo hi : Nat) : List (Nat × Byte) :=
  m.filter (fun c => c.1 < lo || hi ≤ c.1)

/-- The canonical form of a memory: addresses strictly rising, no listed byte equal to what an unlisted one reads.
Log 4 (DESIGN CHOICE, unsafe). -/
def Memory.wf (m : List (Nat × Byte)) : Bool := Tab.wf memDefault m

/-- The bytes of a memory whose addresses lie from `lo` up to but not including `hi`, moved to start at `dst`. -/
def Mem.slice (m : List (Nat × Byte)) (lo hi dst : Nat) : List (Nat × Byte) :=
  (m.filter (fun c => lo ≤ c.1 && c.1 < hi)).map (fun c => (c.1 - lo + dst, c.2))

/-- A memory overlaid with listed bytes. -/
def Mem.overlay (m : List (Nat × Byte)) : List (Nat × Byte) → List (Nat × Byte)
  | [] => m
  | c :: cs => Mem.overlay (Mem.write m c.1 c.2) cs

/-- Copies the `n` bytes at `src` of one memory to `dst` of another: every byte of the target range is replaced. -/
def Mem.copy (mSrc : List (Nat × Byte)) (src n : Nat) (mDst : List (Nat × Byte)) (dst : Nat) :
    List (Nat × Byte) :=
  Mem.overlay (Mem.clear mDst dst (dst + n)) (Mem.slice mSrc src (src + n) dst)

/-- The listed bytes of a run of bytes at address `a`: those that differ from what an unlisted byte reads as. -/
def Mem.listed (a : Nat) : List Byte → List (Nat × Byte)
  | [] => []
  | b :: bs => if b = memDefault a then Mem.listed (a + 1) bs else (a, b) :: Mem.listed (a + 1) bs

/-- A memory with the run of bytes at `a` replaced, in one pass. -/
def Mem.splice (m : List (Nat × Byte)) (a : Nat) (bs : List Byte) : List (Nat × Byte) :=
  m.filter (fun c => c.1 < a) ++ Mem.listed a bs ++ m.filter (fun c => a + bs.length ≤ c.1)

/-- The smallest of a list of numbers. -/
def minOf : List Nat → Option Nat
  | [] => none
  | x :: l => match minOf l with
    | some y => some (min x y)
    | none => some x

/-! ## CRC-32C -/

/-- One bit step of the reflected CRC-32C with polynomial 0x82F63B78. Log 6 (PRESUMED, unsafe). -/
def crcStep (c : Nat) : Nat := if c % 2 = 1 then (c / 2) ^^^ 0x82F63B78 else c / 2

/-- One byte of the reflected CRC-32C. -/
def crcByte (c : Nat) (b : Byte) : Nat :=
  crcStep (crcStep (crcStep (crcStep (crcStep (crcStep (crcStep (crcStep (c ^^^ b.toNat))))))))

/-- The CRC-32C of a list of bytes (assumption 6). Log 6 (PRESUMED, unsafe). -/
def crc32c (bs : List Byte) : Nat := (bs.foldl crcByte 0xFFFFFFFF) ^^^ 0xFFFFFFFF

end Sys2Proof.Machine
end

