-- ==== Sys2Proof/Syntax.lean ====
section
/-!
DEFINITION. The commands of the block: one constructor for each row of the opcode table, with the row's operands. `q` is
the requester of a register write, `v` the word written, `dt` TIME ticks that pass before the event.
-/

namespace Sys2Proof

/-- A range-guard trip inside a descriptor (R254, R256, R262): cluster, variable class, the kind of check, and the word
that tripped before saturation to 32 bits. -/
structure KnTrip where
  cluster : Nat
  cls : Nat
  input : Bool
  divsqrt : Bool
  acc : Bool
  value : Int
  deriving DecidableEq, Repr

/-- How far a solve has come when it ends (R307, R311): the iterations it had time to complete, and the SOLV cycles used. -/
structure KnIter where
  iters : Nat
  cycles : Nat
  deriving DecidableEq, Repr

/-- The commands of the block, one for each row of the opcode table, in the table's order. -/
inductive Instr where
  /-- R6. A write to a register that has no row of its own sets its RW fields, clears W1C flags and applies _LO/_HI
      pairs under R10. -/
  | registerWrite (q : Requester) (off : Nat) (v : Word)
  /-- R5. An access of the wrong width or alignment, or to a reserved offset, is discarded or returns 0 and is counted
      in GLOBAL_BADACC_CNT. -/
  | badAccess (q : Requester) (off width : Nat) (write : Bool)
  /-- R9. A read of a _LO register (including CT, PT and calendar seconds) latches the matching _HI and companion
      values for the same requester. -/
  | readLoLatch (q : Requester) (off : Nat)
  /-- R29. At each base-cycle start, the enabled ports send their sync and downlink frames and the per-base-cycle work
      begins. -/
  | baseCycleStart
  /-- R107. At CUTOFF the setpoint bank closes, and uncommitted records are copied from the last sent record with
      STALE set. -/
  | cutoff
  /-- R25. At each plan-cycle start the module takes snapshots and adopts the newest qualifying plan before any servo
      task fires. -/
  | planCycleStart
  /-- R320. If the path of the plan in force ends before standstill, the module commands a category 1 stop of the
      group's drives. -/
  | pathEndStop (g : Nat)
  /-- R23. At each super-cycle boundary the module rewrites node records and applies pending placement, mapping,
      pacing, adoption and switch changes. -/
  | superCycleBoundary
  /-- R27. A 0-to-1 change of a GLOBAL_AG_EN bit runs the arm group checks and enables the group or refuses. -/
  | agEnable (q : Requester) (v : Word)
  /-- R27. A 1-to-0 write of a GLOBAL_AG_EN bit starts a path-following stop at PFS_DECEL. -/
  | agDisable (q : Requester) (v : Word)
  /-- R27. When a stopping arm group reaches standstill, its GLOBAL_AG_EN bit reads 0. -/
  | agStandstill (g : Nat)
  /-- R33. A write of TIM_CYCLE is checked under R31, R33 and R34, and BASE and CUTOFF are set together. -/
  | timCycleWrite (q : Requester) (v : Word)
  /-- R650. At the first old-length base-cycle start that is a multiple of the new length, base cycles take the new
      length and the new numbering. -/
  | baseChangeEffect
  /-- R48. A write of SV_PLACE_CMD.COMMIT checks the shadow table and sets PENDING, or refuses. -/
  | placeCommit (q : Requester) (v : Word)
  /-- R54. A change of CLK_REF.SEL switches the PLL reference through holdover, or is refused if the source is absent. -/
  | refSelect (q : Requester) (v : Word)
  /-- R53. Loss of the selected reference puts the PLL in holdover and sets REF_LOSS. -/
  | refLoss
  /-- R58. The selected reference leaves its ±100 ppm window, and the module acts as for a reference loss. -/
  | refFreq
  /-- R53. The PLL finishes relocking to the TCXO without a phase step. -/
  | fallbackRelock
  /-- R53. The selected reference returns, and the PLL leaves holdover. -/
  | refReturn (src : Nat)
  /-- R55. A CLK_DVFS write is checked against the voltage order and the TRIM cap, and the dividers change within 4
      ns. -/
  | dvfsWrite (q : Requester) (v : Word)
  /-- R58. A derived clock leaves its ±1 % window, and DIV_FAULT is set (with TIM_CT_STAT.INVALID for TIME). -/
  | divFault (clk : Nat)
  /-- R58. The root leaves ±500 ppm outside holdover, and Crust holds the module in reset until relock, then boots. -/
  | pllUnlock
  /-- R57. Loss of the PCIe reference clears CLK_STAT.PCIE_REF and affects no other clock. -/
  | pcieRefLoss
  /-- R64. A write of TIM_CT_SET_HI loads CT at the next TIME tick and ends the base cycle in progress, or is refused
      while a port is enabled. -/
  | ctSet (q : Requester) (v : Word)
  /-- R67. A write of TIM_PT_INC_HI applies the PT increment at the next tick, or discards it if outside ±1,000 ppm. -/
  | ptIncSet (q : Requester) (v : Word)
  /-- R68. A write of TIM_PT_ADJ adds a signed ns value to PT at the next tick. -/
  | ptAdj (q : Requester) (v : Word)
  /-- R69. A write of TIM_PT_SET_HI loads PT at the next tick. -/
  | ptSet (q : Requester) (v : Word)
  /-- R70. VTO seconds without a PT write clear VALID and set STALE. -/
  | ptValidTimeout
  /-- R74. A capture channel's selected event latches CT and PT, or increments OVR_CNT if FULL is set. -/
  | timeCaptureEvent (src : Nat) (rising : Bool) (dt : Nat)
  /-- R73. A write of TIM_CAPn_CTL.SWTRIG makes a software capture event when SRC is 0x30. -/
  | swtrig (q : Requester) (n : Nat) (v : Word)
  /-- R78. A transmit descriptor reaches the head of its queue, and a past or too-distant launch time is handled by
      policy. -/
  | heTxHead (p q : Nat)
  /-- R76. A timed frame starts at its launch time in PT, and its descriptor is completed. -/
  | heTxLaunch (p q : Nat)
  /-- R587. A received plant Ethernet frame is stamped and written to ring 0 or 1, or discarded and counted. -/
  | heRxFrame (p : Nat) (b : List Byte) (fcsOk : Bool) (dt : Nat)
  /-- R84. A write of CAL_SET_HI loads the calendar seconds, or is refused while DISC is 1. -/
  | calSet (q : Requester) (v : Word)
  /-- R86. At each PT second under discipline the module measures the calendar lag and loads the calendar when
      required. -/
  | calDiscSecond
  /-- R86. At the end of each 1,024 s window under discipline, TRIM is recomputed. -/
  | calTrimWindow
  /-- R88. At the end of the UTC day, an announced leap second is inserted or deleted and UTC_OFS is adjusted. -/
  | leapSecond
  /-- R82. On loss of VIN12 the calendar runs from the supercap and then from VBAT. -/
  | calOnBackup
  /-- R89. After a total supply loss the calendar restarts at 0 with LOST set and VALID cleared. -/
  | calSupplyLost
  /-- R124. A port enable runs the consistency checks, may activate INIT_MODE, and starts MEASURE with START. -/
  | klPortEnable (q : Requester) (p : Nat) (v : Word)
  /-- R124. A port disable stops the port and returns the active mode to READY when it was the last port. -/
  | klPortDisable (q : Requester) (p : Nat) (v : Word)
  /-- R137. CNT_CLR sets every counter of the port to 0. -/
  | klCntClear (q : Requester) (p : Nat) (v : Word)
  /-- R132. An uplink frame is checked for timing and identity, and is accepted into the uplink image or discarded and
      counted. -/
  | uplinkReceive (p stamp : Nat) (fcsOk : Bool) (bs : List Byte)
  /-- R133. A served slot ends without an accepted record, so UL_MISS increments and no token is deposited. -/
  | ulMiss (p slot : Nat)
  /-- R138. A received event frame is written at RX_HEAD and a token is deposited, or it is discarded if stray or the
      ring is full. -/
  | eventReceive (p stamp : Nat) (fcsOk : Bool) (bs : List Byte)
  /-- R114. The module sends a transmit-ring entry in the event window if it fits, or defers it. -/
  | eventSend (p dt : Nat)
  /-- R139. A write of TX_HEAD or RX_TAIL is accepted only if it does not move the ring backwards. -/
  | evidxWrite (q : Requester) (p : Nat) (v : Word)
  /-- R121. A write to a schedule entry or LEN returns a READY mode to UNCHECKED, or is refused for PENDING or ACTIVE. -/
  | scheduleEntryWrite (q : Requester) (m w : Nat) (v : Word)
  /-- R122. KL_MODE_STATm.CHECK runs the mode checks and makes the mode READY with its CRC, or records the failing
      entry. -/
  | modeCheck (q : Requester) (m : Nat) (v : Word)
  /-- R125. A KL_MODE_SW write with REQ = 1 is checked, makes the target PENDING and fixes the boundary B. -/
  | modeSwitchRequest (q : Requester) (v : Word)
  /-- R128. At base cycle B − 4 the module commits or aborts the switch according to the acknowledgements, port
      disables and integration losses. -/
  | modeSwitchDecide
  /-- R146. A module port answers a node's PREQ with PRESP carrying TURN. -/
  | preqReceive (p dt : Nat) (fcsOk : Bool) (bs : List Byte)
  /-- R147. A node's delay REPORT is received and the link and path delays are summed. -/
  | reportReceive (p dt : Nat) (fcsOk : Bool) (bs : List Byte)
  /-- R148. Measurement ends 200 µs after the last REPORT or 1 ms after START, the RESULT frames are sent, and the
      candidate spread is checked. -/
  | measureEnd (p : Nat)
  /-- R153. The listen time L elapses, and a capable module enters RANK_WAIT. -/
  | listenElapsed
  /-- R153. A valid or corrupted cold-start frame heard moves the module to DEFERRED, BACKOFF or LISTEN. -/
  | coldStartFrameReceive (p dt : Nat) (fcsOk : Bool) (bs : List Byte)
  /-- R153. The rank delay elapses, and the module sends its cold-start frame and enters ATTEMPT. -/
  | rankDelayElapsed
  /-- R154. The attempt window closes clean, and the module becomes REFERENCE and starts sync frames. -/
  | attemptWindowEnd
  /-- R153. The backoff ends, and the module sends its cold-start frame again. -/
  | backoffElapsed
  /-- R155. At a + W the module either loads cell time from the winner and integrates, or returns to LISTEN. -/
  | deferWindowEnd
  /-- R162. An accepted TIME_REPORT gives the error sample, and the alignment loop updates the CT increment. -/
  | timeReportReceive (p dt : Nat) (fcsOk : Bool) (bs : List Byte)
  /-- R166. After TR_LIMIT missed TIME_REPORTs, or on the reference node's absence, the module enters HOLDOVER. -/
  | holdover
  /-- R172. A module at position 1–3 aligns its cell time to the received chain time word, loading it the first time. -/
  | chainTimeWordReceive (p ct dt : Nat) (ask : Bool) (turn : Option Nat)
  /-- R172. After 8 base cycles without a word, the module switches chain port or enters HOLDOVER. -/
  | chainSourceSwitch
  /-- R173. A KL_TIME_CTL write is checked against the port, TR_LIMIT and ring conditions. -/
  | klTimeCtlWrite (q : Requester) (v : Word)
  /-- R241. Levain dispatches the first eligible instance to an idle permitted core and starts the core. -/
  | dispatch
  /-- R218. An enabled tick generator deposits its token at its offset in a selected phase. -/
  | tick (k : Nat)
  /-- R230. An instance's deadline passes unfired, and it fires partial or is discarded according to DL_MODE. -/
  | instanceDeadline (t tag : Nat)
  /-- R238. A fired instance is released at REL_OFS, or at its scheduled instant for AHEAD templates. -/
  | instanceRelease (t tag : Nat)
  /-- R226. A write to a template word is applied, or refused while the template is ON. -/
  | templateWrite (q : Requester) (t w : Nat) (v : Word)
  /-- R227. LV_TPL_CMD ENABLE checks the template and turns it ON. -/
  | templateEnable (q : Requester) (t : Nat)
  /-- R228. LV_TPL_CMD DISABLE turns the template OFF and discards its waiting and undispatched instances. -/
  | templateDisable (q : Requester) (t : Nat)
  /-- R228. LV_TPL_CMD PURGE discards the waiting instances and leaves the template ON. -/
  | templatePurge (q : Requester) (t : Nat)
  /-- R235. A write to a flow record is applied, or refused if an ON template names the flow. -/
  | flowWrite (q : Requester) (f w : Nat) (v : Word)
  /-- R236. LV_FLOW_CMD RELEASE returns a HELD flow to IDLE. -/
  | flowRelease (q : Requester) (f : Nat)
  /-- R236. LV_FLOW_CMD PURGE discards the queued instances and makes the flow IDLE. -/
  | flowPurge (q : Requester) (f : Nat)
  /-- R246. A write of LV_TICKk_OFS is checked for offset range and enable conditions. -/
  | tickEnable (q : Requester) (k : Nat) (v : Word)
  /-- R191. gd = ga + gb modulo 2^32. -/
  | add (n gd ga gb pg : Nat)
  /-- R191. gd = ga − gb modulo 2^32. -/
  | sub (n gd ga gb pg : Nat)
  /-- R191. Bitwise AND of ga and gb. -/
  | and (n gd ga gb pg : Nat)
  /-- R191. Bitwise OR of ga and gb. -/
  | or (n gd ga gb pg : Nat)
  /-- R191. Bitwise XOR of ga and gb. -/
  | xor (n gd ga gb pg : Nat)
  /-- R191. Left shift of ga by gb[4:0]. -/
  | shl (n gd ga gb pg : Nat)
  /-- R191. Logical right shift of ga by gb[4:0]. -/
  | shr (n gd ga gb pg : Nat)
  /-- R191. Arithmetic right shift of ga by gb[4:0]. -/
  | sra (n gd ga gb pg : Nat)
  /-- R191. Low 32 bits of ga × gb. -/
  | mul (n gd ga gb pg : Nat)
  /-- R191. High 32 bits of the signed product. -/
  | mulh (n gd ga gb pg : Nat)
  /-- R191. High 32 bits of the unsigned product. -/
  | mulhu (n gd ga gb pg : Nat)
  /-- R191. Saturating signed add that sets FLAGS.SAT when it clips. -/
  | adds (n gd ga gb pg : Nat)
  /-- R191. Saturating signed subtract. -/
  | subs (n gd ga gb pg : Nat)
  /-- R191. Signed minimum. -/
  | min (n gd ga gb pg : Nat)
  /-- R191. Signed maximum. -/
  | max (n gd ga gb pg : Nat)
  /-- R191. Unsigned minimum. -/
  | minu (n gd ga gb pg : Nat)
  /-- R191. Unsigned maximum. -/
  | maxu (n gd ga gb pg : Nat)
  /-- R191. Absolute value, saturating at 0x7FFF_FFFF. -/
  | abs (n gd ga pg : Nat)
  /-- R191. Count of leading zeros of ga. -/
  | clz (n gd ga pg : Nat)
  /-- R189. Add of the sign-extended imm16. -/
  | addi (n gd ga imm : Nat)
  /-- R189. AND with the zero-extended imm16. -/
  | andi (n gd ga imm : Nat)
  /-- R189. OR with the zero-extended imm16. -/
  | ori (n gd ga imm : Nat)
  /-- R189. XOR with the zero-extended imm16. -/
  | xori (n gd ga imm : Nat)
  /-- R189. gd = imm16 << 16. -/
  | lui (n gd imm : Nat)
  /-- R189. Shift of ga by an immediate amount. -/
  | shi (n gd ga op sh : Nat)
  /-- R192. Sets pd from comparing ga with gb. -/
  | cmp (n pd ga gb pg cond : Nat)
  /-- R192. Sets pd from comparing ga with imm15. -/
  | cmpi (n pd cond ga imm : Nat)
  /-- R192. Sets pd by logic on pa and pb. -/
  | plog (n pd pa pb func : Nat)
  /-- R193. Loads a word, with optional circular addressing. -/
  | ldw (n : Nat) (f : Bool) (rt : Nat) (circ : Bool) (base : Nat) (off : Int)
  /-- R193. Stores a word. -/
  | stw (n : Nat) (f : Bool) (rt : Nat) (circ : Bool) (base : Nat) (off : Int)
  /-- R193. Loads a sign-extended halfword. -/
  | ldh (n : Nat) (f : Bool) (rt : Nat) (circ : Bool) (base : Nat) (off : Int)
  /-- R193. Loads a zero-extended halfword. -/
  | ldhu (n : Nat) (f : Bool) (rt : Nat) (circ : Bool) (base : Nat) (off : Int)
  /-- R193. Loads a sign-extended byte. -/
  | ldb (n : Nat) (f : Bool) (rt : Nat) (circ : Bool) (base : Nat) (off : Int)
  /-- R193. Loads a zero-extended byte. -/
  | ldbu (n : Nat) (f : Bool) (rt : Nat) (circ : Bool) (base : Nat) (off : Int)
  /-- R193. Stores a halfword. -/
  | sth (n : Nat) (f : Bool) (rt : Nat) (circ : Bool) (base : Nat) (off : Int)
  /-- R193. Stores a byte. -/
  | stb (n : Nat) (f : Bool) (rt : Nat) (circ : Bool) (base : Nat) (off : Int)
  /-- R196. acc = acc + product, single or dual. -/
  | mac (n acc wa gb pg : Nat) (d u : Bool)
  /-- R196. acc = acc − product, single or dual. -/
  | msu (n acc wa gb pg : Nat) (d u : Bool)
  /-- R196. acc = product, single or dual. -/
  | mxMul (n acc wa gb pg : Nat) (d u : Bool)
  /-- R198. Reads an accumulator rounded, shifted and optionally saturated. -/
  | accrd (n acc : Nat) (f : Bool) (rt sh rnd : Nat) (sat : Bool) (pg : Nat)
  /-- R198. Writes a shifted register value into an accumulator. -/
  | accwr (n acc : Nat) (f : Bool) (rt sh pg : Nat)
  /-- R198. Arithmetic right shift of an accumulator. -/
  | accshr (n acc sh pg : Nat)
  /-- R198. Clears an accumulator. -/
  | accclr (n acc pg : Nat)
  /-- R192. Rotating-register add. -/
  | wadd (n wd wa wb pg : Nat)
  /-- R192. Rotating-register subtract. -/
  | wsub (n wd wa wb pg : Nat)
  /-- R192. Saturating rotating-register add. -/
  | wadds (n wd wa wb pg : Nat)
  /-- R192. Saturating rotating-register subtract. -/
  | wsubs (n wd wa wb pg : Nat)
  /-- R192. Rotating-register negate. -/
  | wneg (n wd wa pg : Nat)
  /-- R192. Rotating-register move. -/
  | wmov (n wd wa pg : Nat)
  /-- R192. Moves a general register into a rotating register. -/
  | wfromg (n wd g pg : Nat)
  /-- R192. Moves a rotating register into a general register. -/
  | wtog (n g wa pg : Nat)
  /-- R202. Signed maximum search over a circular set. -/
  | maxi (n gd cb gn : Nat)
  /-- R202. Signed minimum search. -/
  | mini (n gd cb gn : Nat)
  /-- R202. Unsigned maximum search. -/
  | maxiu (n gd cb gn : Nat)
  /-- R202. Unsigned minimum search. -/
  | miniu (n gd cb gn : Nat)
  /-- R202. Maximum-magnitude search. -/
  | maxa (n gd cb gn : Nat)
  /-- R204. binary32 add. -/
  | fadd (n gd ga gb pg : Nat)
  /-- R204. binary32 subtract. -/
  | fsub (n gd ga gb pg : Nat)
  /-- R204. binary32 multiply. -/
  | fmul (n gd ga gb pg : Nat)
  /-- R204. binary32 divide. -/
  | fdiv (n gd ga gb pg : Nat)
  /-- R204. binary32 square root. -/
  | fsqrt (n gd ga pg : Nat)
  /-- R204. binary32 minimum. -/
  | fmin (n gd ga gb pg : Nat)
  /-- R204. binary32 maximum. -/
  | fmax (n gd ga gb pg : Nat)
  /-- R204. binary32 absolute value. -/
  | fabs (n gd ga pg : Nat)
  /-- R204. binary32 negate. -/
  | fneg (n gd ga pg : Nat)
  /-- R204. binary32 equality compare. -/
  | feq (n gd ga gb pg : Nat)
  /-- R204. binary32 less-than compare. -/
  | flt (n gd ga gb pg : Nat)
  /-- R204. binary32 less-or-equal compare. -/
  | fle (n gd ga gb pg : Nat)
  /-- R204. Converts a signed integer to binary32. -/
  | fcvtSW (n gd ga pg : Nat)
  /-- R204. Converts binary32 to a saturated signed integer. -/
  | fcvtWS (n gd ga pg : Nat)
  /-- R204. Converts Q15.16 to binary32. -/
  | fcvtSQ (n gd ga pg : Nat)
  /-- R204. Converts binary32 to saturated Q15.16. -/
  | fcvtQS (n gd ga pg : Nat)
  /-- R189. Conditional branch by pg xor N. -/
  | br (n pg : Nat) (neg : Bool) (off : Int)
  /-- R189. Conditional branch that writes g31 when taken. -/
  | call (n pg : Nat) (neg : Bool) (off : Int)
  /-- R189. Jump to a register, with the link in gd. -/
  | jr (n gd ga pg : Nat)
  /-- R200. Decrements LC, rotates, and branches while LC is not 0. -/
  | loop (n : Nat) (off : Int)
  /-- R177. Rotates the rotating registers by decrementing RRB. -/
  | rot (n : Nat)
  /-- R205. Deposits an operand token in Levain and returns the final outcome code. -/
  | post (n gd ga gb : Nat)
  /-- R206. Ends the task instance after earlier stores are accepted, and releases its flow. -/
  | done (n : Nat)
  /-- R207. Checks and enqueues a Kneader descriptor and returns a code within 100 ns. -/
  | solve (n gd ga gb : Nat)
  /-- R208. Waits with the clock gated until a CT instant, or returns TIME or RANGE at once. -/
  | twait (n gd ga gb : Nat)
  /-- R208. CT reaches the instant, and the waiting core writes gd = 0 and resumes. -/
  | twaitWake (n : Nat)
  /-- R209. Waits until every earlier access, POST and SOLVE has completed. -/
  | fence (n : Nat)
  /-- R210. Writes a CSR. -/
  | mtc (n ga imm : Nat)
  /-- R210. Reads a CSR. -/
  | mfc (n gd imm : Nat)
  /-- R210. Returns from HANDLER mode to EPC. -/
  | eret (n : Nat)
  /-- R210. Raises the TRAP exception with imm12. -/
  | trap (n imm : Nat)
  /-- R210. Raises the BRK exception. -/
  | brk (n : Nat)
  /-- R189. An undefined or malformed instruction word raises ILLEGAL. -/
  | illegal (n w : Nat)
  /-- R215. BUDGET counts down to 0 and raises the asynchronous BUDGET exception. -/
  | budget (n : Nat)
  /-- R211. VC_CTLn.HALT = 1 halts the core at the next bundle boundary. -/
  | coreHalt (q : Requester) (n : Nat) (v : Word)
  /-- R211. VC_CTLn.HALT = 0 returns a HALTED core to the state it left. -/
  | coreResume (q : Requester) (n : Nat) (v : Word)
  /-- R217. VC_CTLn.STEP executes one bundle on a HALTED core. -/
  | coreStep (q : Requester) (n : Nat) (v : Word)
  /-- R217. VC_CTLn.CLEAR returns a STOPPED core to IDLE. -/
  | coreClear (q : Requester) (n : Nat) (v : Word)
  /-- R279. A kernel descriptor at the head of its queue starts on its cluster. -/
  | kernelStart (k dt : Nat)
  /-- R282. A kernel writes its OUT header and results and deposits its completion token. -/
  | kernelComplete (k dt : Nat)
  /-- R281. A kernel that has not begun to write OUT by its deadline is removed with FAILED LATE. -/
  | kernelDeadline (k : Nat) (i : Option Nat) (same : Bool)
  /-- R288. Setting a KN_CTL.EN bit enables a cluster if it is powered and the ranges are consistent. -/
  | clusterEnable (q : Requester) (v : Word)
  /-- R288. Clearing a KN_CTL.EN bit disables a cluster unless it holds work. -/
  | clusterDisable (q : Requester) (v : Word)
  /-- R309. A waiting PLAN descriptor starts on the enabled clusters and reads and checks IN. -/
  | planStart (dt : Nat)
  /-- R310. A solve ends with DONE, PARTIAL, SHIFTED or FAILED, writes OUT, updates the slot and deposits its token. -/
  | planComplete (it : KnIter) (dt : Nat)
  /-- R311. The deadline of a PLAN descriptor abandons its iteration or its wait, and R310 decides the result. -/
  | planDeadline (n : Nat) (it : KnIter)
  /-- R316. A write of KN_PLAN_CTL.ADOPT sets PENDING until the next boundary, or is refused BUSY. -/
  | adoptSlotWrite (q : Requester) (v : Word)
  /-- R327. At each base-cycle start the profile generator takes pending commands and computes and commits the next
      sample. -/
  | profileTick
  /-- R331. A MOVE command is checked and starts a move to AX_TGTn. -/
  | axMove (q : Requester) (n : Nat)
  /-- R333. UPDATE applies new limits to the move in progress, keeping the deceleration needed to stop at the target. -/
  | axUpdate (q : Requester) (n : Nat)
  /-- R334. STOP brings the axis to rest at AX_DECn. -/
  | axStop (q : Requester) (n : Nat)
  /-- R334. QSTOP brings the axis to rest at DEC_HARD. -/
  | axQstop (q : Requester) (n : Nat)
  /-- R340. HOME starts a homing run in the selected mode. -/
  | axHome (q : Requester) (n : Nat)
  /-- R355. CLEAR returns a FAULT channel to IDLE, realigning the step phase after a driver loss. -/
  | axClear (q : Requester) (n : Nat)
  /-- R335. A limit or home input's filtered state changes after its debounce time. -/
  | limitInputChange (n w : Nat) (level : Bool) (hold dt : Nat)
  /-- R343. A homing run travels AX_HDISTn without its home event and is aborted. -/
  | homeNotFound (n : Nat)
  /-- R345. An armed compare unit's position crosses CMP_POS, and the unit fires its action, latches CT and re-arms if
      periodic. -/
  | cmpFire (k : Nat) (rising : Bool) (dt : Nat)
  /-- R346. ARM records the side of the position and arms the unit. -/
  | cmpArm (q : Requester) (k : Nat) (v : Word)
  /-- R362. Enabling a compare unit is checked for source and interval. -/
  | cmpEnable (q : Requester) (k : Nat) (v : Word)
  /-- R350. A write of AX_CMPk_POS while armed applies from the next PERI cycle. -/
  | cmpPosWrite (q : Requester) (k : Nat) (v : Word)
  /-- R354. The first rise of PG_GPIO records the driver's power-on phase. -/
  | driverPowerGood (g dt : Nat)
  /-- R355. A fall of PG_GPIO stops the output at once and puts the channel in FAULT. -/
  | driverLost (g dt : Nat)
  /-- R356. The deviation exceeds AX_SWINn for TIME samples, and the step axis is stopped. -/
  | stall (n : Nat)
  /-- R359. AX_CTLn.EN = 1 checks and enables a profiled channel. -/
  | axEnable (q : Requester) (n : Nat) (v : Word)
  /-- R360. AX_CTLn.EN = 0 disables an idle channel. -/
  | axDisable (q : Requester) (n : Nat) (v : Word)
  /-- R361. Enabling a step output is checked against the timing limits. -/
  | stepOutputEnable (q : Requester) (j : Nat) (v : Word)
  /-- R361. Disabling a step output is refused while a running channel uses it. -/
  | stepOutputDisable (q : Requester) (j : Nat) (v : Word)
  /-- R370. A filtered quadrature or Hall transition changes the count and the period speed, or counts as illegal. -/
  | fbCountEdge (n lines hold dt : Nat)
  /-- R372. An accepted index edge latches the count and CT, and performs an armed load. -/
  | fbIndexEdge (n : Nat) (level : Bool) (hold dt : Nat)
  /-- R375. An SSI read begins at its latch instant. -/
  | ssiReadStart (n : Nat)
  /-- R378. A completed SSI frame is checked and updates the count, the position and the speed. -/
  | ssiReadEnd (n : Nat) (low : Bool) (field errs : Nat) (trail : Bool)
  /-- R383. No edge for STILL_TO sets the speed to 0 and sets STILL. -/
  | fbStillTimeout (n : Nat)
  /-- R385. A wire disagreement lasting WIRE_T sets WIRE and increments WIRE_CNT. -/
  | wireDisagree (n l : Nat) (disagree : Bool) (hold dt : Nat)
  /-- R385. A disagreement lasting WIRE_LIM raises an encoder fault with WIRE. -/
  | wireFault (n l : Nat)
  /-- R386. At the end of each 1 ms window, the amplitude is recorded and THR is adapted, with AMP_LOW raised if
      needed. -/
  | thresholdWindow (n : Nat) (a b z : Option Nat) (beyond : Bool)
  /-- R373. ARM_IDX arms a load of FB_LOADn at the next index edge. -/
  | fbArmIdx (q : Requester) (n : Nat)
  /-- R374. LOAD loads FB_LOADn into the count and clears SUSPECT. -/
  | fbLoad (q : Requester) (n : Nat)
  /-- R391. CLEAR returns a FAULT channel to RUN. -/
  | fbClear (q : Requester) (n : Nat)
  /-- R398. FB_CFGn.EN = 1 checks and enables a feedback channel. -/
  | fbEnable (q : Requester) (n : Nat) (v : Word)
  /-- R406. At the input freeze of each safety cycle, Thallus starts its kinematics, pair and demand evaluation. -/
  | thallusEvaluation
  /-- R439. The evaluation ends, demands latch, registers are written and the completion token is deposited. -/
  | evaluationComplete (dt : Nat)
  /-- R424. An evaluation not complete 4.0 µs before the end of the safety cycle demands a stop of every monitored arm
      group. -/
  | evaluationOverrun
  /-- R461. A safe report frame part is checked and assembled into a complete person report. -/
  | safeReportReceive (p stamp : Nat) (fcsOk : Bool) (bs : List Byte)
  /-- R451. At the end of the safety cycle the output logic applies demands to the output pairs and the read-back is
      evaluated. -/
  | safetyCycleEnd (hs ls oc : Nat)
  /-- R451. The DELAY of a STOP1 ends, and the pair switches off. -/
  | outputDelayExpiry (j : Nat)
  /-- R453. A pair's switch is pulsed off and the expected node level is checked. -/
  | darkPulse (j : Nat) (ok : Bool) (dt : Nat)
  /-- R446. A test-pulse source pulses low and its inputs and read-back are checked. -/
  | testPulse (k lows : Nat) (low high : Bool) (dt : Nat)
  /-- R447. A pair of inputs disagrees longer than DISC, raising an input fault. -/
  | discrepancyTimeout (i : Nat)
  /-- R446. A safe input's filtered state changes after FILTER. -/
  | safeInputChange (i : Nat) (level : Bool) (hold dt : Nat)
  /-- R464. A decode fault on a Thallus-decoded feedback channel degrades or invalidates the source. -/
  | thallusDecodeFault (ch : Nat)
  /-- R445. A class A diagnostic failure switches every output pair off and puts Thallus in SAFE_STATE. -/
  | classAFault (item : Nat)
  /-- R457. Thallus sends the safe command frame on every enabled port at the event-window start. -/
  | safeCommandSend
  /-- R469. The staling timer expires and raises STALED for every monitored arm group. -/
  | staled
  /-- R471. Thallus writes the remaining time and faults to MRAM each minute and at every change. -/
  | degradedRecordWrite
  /-- R478. OPEN opens the safety lock when KEY_SI is active. -/
  | mbOpen (q : Requester)
  /-- R478. A TH_MB_DATA write stores a word at ADDR and advances ADDR. -/
  | mbData (q : Requester) (v : Word)
  /-- R478. CHECK starts the header and directory check of the staged set. -/
  | mbCheck (q : Requester)
  /-- R478. The check ends, giving READY with TH_MB_CRC or OPEN with TH_MB_ERR. -/
  | mbCheckComplete
  /-- R478. COMMIT compares TH_MB_CONFIRM with the check value and starts COMMITTING. -/
  | mbCommit (q : Requester)
  /-- R476. The commit checks end, and the staged set becomes active or is refused. -/
  | mbCommitComplete
  /-- R478. CLOSE closes the lock and empties the staging bank. -/
  | mbClose (q : Requester)
  /-- R478. 30 minutes without a mailbox write close the lock. -/
  | mbTimeout
  /-- R491. ARM writes the capture header and starts FILLING or WAITING. -/
  | soArm (q : Requester) (c : Nat)
  /-- R491. STOP ends a capture with END 2. -/
  | soStop (q : Requester) (c : Nat)
  /-- R496. FORCE triggers on the next sample while WAITING. -/
  | soForce (q : Requester) (c : Nat)
  /-- R484. At a sampling instant the capture latches its channels and evaluates triggers, masks, rate reduction and
      drops. -/
  | soSample (c level : Nat)
  /-- R495. An external, compare or Thallus trigger event is stamped for the next sample. -/
  | soTriggerEvent (kind groups : Nat) (rising : Bool) (dt : Nat)
  /-- R490. After the last record is in DRAM, the header is completed and the end token deposited. -/
  | soCaptureEnd (c : Nat)
  /-- R496. In MODE 2, AUTO_TO ms in WAITING force a trigger. -/
  | soAutoTimeout (c : Nat)
  /-- R491. HOLDOFF base cycles after DONE, the capture re-arms. -/
  | soRearm (c : Nat)
  /-- R506. SO_Cc_CTL.EN = 1 checks and enables a capture. -/
  | soEnable (q : Requester) (c : Nat) (v : Word)
  /-- R507. EN = 0 disables a capture in IDLE, DONE or STOPPED. -/
  | soDisable (q : Requester) (c : Nat) (v : Word)
  /-- R514. A PW_DOMd_CTL.REQ write starts a domain state change, with drain for leaving ON. -/
  | domainRequest (q : Requester) (d : Nat) (v : Word)
  /-- R515. The drain time ends, and the domain agrees and stops its clock or refuses. -/
  | domainDrainEnd (d : Nat)
  /-- R513. A domain reaches its target state and MOVING clears. -/
  | domainStateReached (d : Nat) (keepOk : Bool)
  /-- R523. A REQ with TARGET TRIM caps the islands. -/
  | moduleReqTrim (q : Requester)
  /-- R523. A REQ with TARGET RUN leaves TRIM or starts the wake from HOLD or NAP. -/
  | moduleReqRun (q : Requester)
  /-- R525. A REQ with TARGET HOLD starts the entry procedure. -/
  | moduleReqHold (q : Requester)
  /-- R525. A REQ with TARGET NAP starts the entry procedure to NAP. -/
  | moduleReqNap (q : Requester)
  /-- R529. An edge on the PW_WAKE GPIO wakes the module. -/
  | wakeGpio (rising : Bool)
  /-- R529. CT reaching PW_WAKE_CT wakes the module. -/
  | wakeCt
  /-- R528. The reload from NAP completes and RUN is set. -/
  | napReloadComplete
  /-- R531. A PW_KEEP_ADD write appends an offset to the selected user keep-list. -/
  | keepAdd (q : Requester) (v : Word)
  /-- R531. CLR empties the selected keep-list. -/
  | keepClr (q : Requester) (v : Word)
  /-- R523. The junction temperature reaching TJ enters TRIM with THERM. -/
  | thermalTrim (temp : Int)
  /-- R523. The temperature falling to TJ − 5 °C returns the module to RUN. -/
  | thermalTrimExit (temp : Int)
  /-- R642. At 115 °C the cores and SOLV step to /20 and TRIM is entered. -/
  | thermalThrottle (temp : Int)
  /-- R537. A PW_VOLTi_STEP GO write performs an ordered voltage and divider step. -/
  | voltStep (q : Requester) (i : Nat) (v : Word)
  /-- R536. The settled voltage passes its check, and the divider is written. -/
  | voltCheckPass (i mv : Nat)
  /-- R536. 200 µs without a passing check return the island and set VCHK_FAIL. -/
  | voltCheckFail (i mv : Nat)
  /-- R535. A write of PW_VOLTi_CTL.TARGET is checked for order, AVS and range. -/
  | voltTargetWrite (q : Requester) (i : Nat) (v : Word)
  /-- R538. The adaptive loop steps the island voltage, and AVS_LIMIT and FSTEP act at the limit. -/
  | avsAdjust (i need : Nat)
  /-- R541. Once per second the slice slack is updated and WORN is set when an indicator crosses its limit. -/
  | healthUpdate (sl vmin : Nat)
  /-- R543. SV_RETIRE GO retires a slice permanently. -/
  | sliceRetire (q : Requester) (v : Word)
  /-- R544. SV_UNRETIRE GO returns a slice to service in MANUFACTURE. -/
  | sliceUnretire (q : Requester) (v : Word)
  /-- R545. SV_MIG_CTL GO checks and starts a migration in COPY. -/
  | migGo (q : Requester) (v : Word)
  /-- R546. The copy engine's first pass ends and the migration becomes ARMED. -/
  | migArmed
  /-- R549. 0.5 µs after CUTOFF the freeze either completes and state is copied, or the cut-over is abandoned. -/
  | migFreezeCheck (ok : Bool)
  /-- R552. ABORT returns the migration to IDLE. -/
  | migAbort (q : Requester) (v : Word)
  /-- R554. STAGE checks the inactive image and copies code into the unselected window banks. -/
  | imgStage (q : Requester) (v : Word)
  /-- R554. Staging finishes and the state becomes STAGED. -/
  | imgStageComplete
  /-- R555. SWAP in STAGED sets PENDING for the next boundary. -/
  | imgSwap (q : Requester) (v : Word)
  /-- R557. A scrubber pass corrects and rewrites words and remaps weak rows or lines. -/
  | scrubPass (mem unit row pct : Nat)
  /-- R557. An access finds a corrected or uncorrectable error and counts or reports it. -/
  | eccError (mem unit region adr : Nat) (correctable fetch : Bool) (core : Nat)
  /-- R563. An event queues a journal entry, merges into a queued one, or is lost. -/
  | journalEvent (ev blk code cls : Nat) (detail : List Nat)
  /-- R564. Crust writes a queued entry to the next MRAM ring line. -/
  | journalWrite
  /-- R565. A write of SV_JNL_SEL loads that entry into SV_JNL_DATA. -/
  | journalSelect (q : Requester) (v : Word)
  /-- R566. The two-key write to SV_WDOG_KICK restarts the timeout, or bites if wrong or early. -/
  | wdogKick (q : Requester) (v : Word)
  /-- R567. The second key does not follow within 1 ms, so the watchdog bites. -/
  | wdogKeyTimeout
  /-- R567. TO/2 without a kick sets EARLY and deposits the health token. -/
  | wdogEarly
  /-- R567. TO without a kick makes the watchdog bite. -/
  | wdogTimeout
  /-- R570. SV_FORCE takes a domain OFF at once, ending its instances and descriptors. -/
  | domainForceOff (q : Requester) (v : Word)
  /-- R571. CH_CTL.EN checks the chain configuration and enables it. -/
  | chainEnable (q : Requester) (heard : Nat) (twice agree : Bool) (v : Word)
  /-- R572. A token forwarded over the chain is deposited at the remote template. -/
  | bridgeTokenReceive (t slot tag : Nat) (payload : Word)
  /-- R575. The standby applies a complete replication round. -/
  | replicationApply (round : Nat) (lines : List (Nat × List Byte)) (regs : List Nat)
  /-- R577. After FAIL_CYC missed words and sync frames, the standby becomes primary. -/
  | takeover
  /-- R576. Words missing while sync frames still arrive set CHAIN_LOST instead of a takeover. -/
  | chainLost
  /-- R583. A write of HS_MBX_DATA deposits a token and records the outcome. -/
  | mailboxDeposit (q : Requester) (v : Word)
  /-- R584. A write to HS_DB sets a vector's pending bit and may send MSI-X. -/
  | doorbell (q : Requester) (v : Word)
  /-- R581. A host read or write of spine SRAM through BAR2. -/
  | bar2Access (write : Bool) (off len : Nat) (data : List Byte)
  /-- R589. A maintenance-port read transfer returns a register word and STATUS. -/
  | mntRead (wa : Nat)
  /-- R589. A maintenance-port write transfer writes a register and returns STATUS. -/
  | mntWrite (wa : Nat) (v : Word) (complete : Bool)
  /-- R593. From reset the module checks and loads the image, runs the register list and enters RUN. -/
  | boot
  /-- R596. HS_IMG_CMD WRITE copies bytes into an image bank and invalidates it. -/
  | imgWrite (q : Requester) (v : Word)
  /-- R597. VERIFY checks a bank and sets its VALID bit. -/
  | imgVerify (q : Requester) (v : Word)
  /-- R597. BOOT marks a valid bank active and restarts boot at step 2. -/
  | imgBoot (q : Requester) (v : Word)
  /-- R598. SET_OWNER stores the owner key and moves to OWNER-OPEN. -/
  | setOwner (q : Requester)
  /-- R598. LOCK moves OWNER-OPEN to FIELD-LOCKED. -/
  | lock (q : Requester)
  /-- R600. CHALLENGE writes 32 fresh random bytes. -/
  | challenge (q : Requester)
  /-- R600. VERIFY checks the signature over the challenge and grants FULL. -/
  | lcVerify (q : Requester)
  /-- R601. PASSWORD compares the service password and grants SERVICE. -/
  | password (q : Requester)
  /-- R603. RELOCK ends reopened access. -/
  | relock (q : Requester)
  /-- R598. SET_PW stores the service password with FULL access. -/
  | setPw (q : Requester)
  /-- R603. 8 h after authentication, reopened access ends. -/
  | accessExpiry
  /-- R602. 15 min after four failures, authentication attempts are accepted again. -/
  | authWaitEnd
  /-- R627. VIN12 rising through 10.5 V brings up the rails, the PLL and Thallus, and starts boot. -/
  | powerUp
  /-- R628. MRST_N low for 10 µs resets the whole module as a power-on reset. -/
  | mrstReset
  /-- R629. VIN12 below 10.0 V turns off the outputs, finishes the MRAM write and holds reset. -/
  | vin12Loss
  /-- R631. VSIO below 18.0 V makes the inputs inactive and turns the output pairs off. -/
  | vsioLow
  /-- R631. VSIO above 18.5 V makes the inputs readable again. -/
  | vsioReturn
  /-- R170. A port of the module receives a sync frame, either the other port's copy on a ring pair (RING_CLOSED), the
      primary's sync frame at a standby (R576), or a sync frame accepted in LISTEN (R153). -/
  | syncFrameReceive (p link dt : Nat) (fcsOk : Bool) (bs : List Byte)
  /-- R368. A raw receiver pulse returns before MIN_EDGE, so it is rejected and counted as a fast edge, which can
      raise an EDGE_FAST encoder fault (R388). -/
  | fbFastEdge (n dt : Nat)
  /-- R618. A PCIe Function Level Reset resets the endpoint, its MSI-X state and the HS vector registers, and returns
      HS_VCNTv to 0. -/
  | functionLevelReset
  /-- R596. An HS_IMG_CMD WRITE or VERIFY finishes, so HS_IMG_STAT.STATE returns from WRITING or VERIFYING to IDLE,
      VALID or CODE is set, and vector source 0x09 fires. -/
  | imgCommandComplete
  /-- R565. The journal entry selected by SV_JNL_SEL has been loaded into SV_JNL_DATA0–15, and RESULT leaves 0
      (loading) for 1, 2 or 3. -/
  | journalLoadComplete
  /-- R82. After the on-module supercap is spent during a VIN12 loss, the calendar moves to VBAT, setting
      CAL_STAT.BAT_USED and incrementing BAT_CNT. -/
  | supercapExhausted
  deriving DecidableEq, Repr

end Sys2Proof
end

