-- ==== Sys2Proof/Machine/VelistWord.lean ====
section
/-!
DEFINITION. Velist instruction words (R188, R189): the fields of each format, the instruction a word spells or its being
illegal, the class of an instruction, and the registers by which R183 decides whether two instructions issue together.
-/

namespace Sys2Proof.Machine

/-! ## CSR numbers (R216) -/

/-- A CSR number that exists. -/
def csrExists (k : Nat) : Bool :=
  decide (k ≤ 6) || (decide (8 ≤ k) && decide (k ≤ 12)) || (decide (16 ≤ k) && decide (k ≤ 18)) ||
    (decide (32 ≤ k) && decide (k ≤ 55))

/-- Read-only CSRs, and those of HANDLER mode. -/
def csrReadOnly (k : Nat) : Bool := decide (k = 0) || decide (k = 2) || decide (k = 3) || (decide (16 ≤ k) && decide (k ≤ 18))
def csrHandler (k : Nat) : Bool := decide (8 ≤ k) && decide (k ≤ 12)

/-! ## Formats (R188) -/

/-- Format RR: op, gd, ga, gb, pg, func. -/
structure WordRR where
  gd : Nat
  ga : Nat
  gb : Nat
  pg : Nat
  func : Nat
  deriving DecidableEq, Repr

/-- The RR fields of a word. -/
def fieldsRR (w : Nat) : WordRR :=
  { gd := bits w 25 21, ga := bits w 20 16, gb := bits w 15 11, pg := bits w 10 8, func := bits w 7 0 }

/-- The register ALU, opcode 0x01 (R191). -/
def wordAlu (n w : Nat) : Option Instr :=
  let x := fieldsRR w
  match x.func with
  | 0x00 => some (.add n x.gd x.ga x.gb x.pg)
  | 0x01 => some (.sub n x.gd x.ga x.gb x.pg)
  | 0x02 => some (.and n x.gd x.ga x.gb x.pg)
  | 0x03 => some (.or n x.gd x.ga x.gb x.pg)
  | 0x04 => some (.xor n x.gd x.ga x.gb x.pg)
  | 0x05 => some (.shl n x.gd x.ga x.gb x.pg)
  | 0x06 => some (.shr n x.gd x.ga x.gb x.pg)
  | 0x07 => some (.sra n x.gd x.ga x.gb x.pg)
  | 0x08 => some (.mul n x.gd x.ga x.gb x.pg)
  | 0x09 => some (.mulh n x.gd x.ga x.gb x.pg)
  | 0x0A => some (.mulhu n x.gd x.ga x.gb x.pg)
  | 0x0B => some (.adds n x.gd x.ga x.gb x.pg)
  | 0x0C => some (.subs n x.gd x.ga x.gb x.pg)
  | 0x0D => some (.min n x.gd x.ga x.gb x.pg)
  | 0x0E => some (.max n x.gd x.ga x.gb x.pg)
  | 0x0F => some (.minu n x.gd x.ga x.gb x.pg)
  | 0x10 => some (.maxu n x.gd x.ga x.gb x.pg)
  | 0x11 => some (.abs n x.gd x.ga x.pg)
  | 0x12 => some (.clz n x.gd x.ga x.pg)
  | _ => none

/-- The binary32 group, opcode 0x1A (R204). -/
def wordFlt (n w : Nat) : Option Instr :=
  let x := fieldsRR w
  match x.func with
  | 0x00 => some (.fadd n x.gd x.ga x.gb x.pg)
  | 0x01 => some (.fsub n x.gd x.ga x.gb x.pg)
  | 0x02 => some (.fmul n x.gd x.ga x.gb x.pg)
  | 0x03 => some (.fdiv n x.gd x.ga x.gb x.pg)
  | 0x04 => if x.gb = 0 then some (.fsqrt n x.gd x.ga x.pg) else none
  | 0x05 => some (.fmin n x.gd x.ga x.gb x.pg)
  | 0x06 => some (.fmax n x.gd x.ga x.gb x.pg)
  | 0x07 => some (.fabs n x.gd x.ga x.pg)
  | 0x08 => some (.fneg n x.gd x.ga x.pg)
  | 0x09 => some (.feq n x.gd x.ga x.gb x.pg)
  | 0x0A => some (.flt n x.gd x.ga x.gb x.pg)
  | 0x0B => some (.fle n x.gd x.ga x.gb x.pg)
  | 0x0C => some (.fcvtSW n x.gd x.ga x.pg)
  | 0x0D => some (.fcvtWS n x.gd x.ga x.pg)
  | 0x0E => some (.fcvtSQ n x.gd x.ga x.pg)
  | 0x0F => some (.fcvtQS n x.gd x.ga x.pg)
  | _ => none

/-- Format RI: the immediate ALU, opcodes 0x02 to 0x07 (R189). -/
def wordImm (n w : Nat) : Option Instr :=
  let gd := bits w 25 21
  let ga := bits w 20 16
  let imm := bits w 15 0
  match bits w 31 26 with
  | 0x02 => some (.addi n gd ga imm)
  | 0x03 => some (.andi n gd ga imm)
  | 0x04 => some (.ori n gd ga imm)
  | 0x05 => some (.xori n gd ga imm)
  | 0x06 => if ga = 0 then some (.lui n gd imm) else none
  | 0x07 => if bits w 6 5 = 3 ∨ bits w 15 7 ≠ 0 then none else some (.shi n gd ga (bits w 6 5) (bits w 4 0))
  | _ => none

/-- Formats PC, PI and PL: compares and predicate logic, opcodes 0x08 to 0x0A (R192). -/
def wordPred (n w : Nat) : Option Instr :=
  let pd := bits w 25 23
  match bits w 31 26 with
  | 0x08 =>
    if bits w 22 21 ≠ 0 ∨ bits w 3 0 ≠ 0 ∨ 7 < bits w 7 4 then none
    else some (.cmp n pd (bits w 20 16) (bits w 15 11) (bits w 10 8) (bits w 7 4))
  | 0x09 => some (.cmpi n pd (bits w 22 20) (bits w 19 15) (bits w 14 0))
  | 0x0A => if 6 < bits w 16 14 ∨ bits w 13 0 ≠ 0 then none
    else some (.plog n pd (bits w 22 20) (bits w 19 17) (bits w 16 14))
  | _ => none

/-- Format MEM: loads and stores, opcodes 0x0C to 0x13. F = 0 names a general register, so rt[5] is 0; C = 1 names a
circular set in bits [15:13], so bits [17:16] are 0; the byte and halfword forms have F = 0 (R188, R193). -/
def wordMem (n w : Nat) : Option Instr :=
  let f := bit w 25
  let rt := bits w 24 19
  let circ := bit w 18
  let base := bits w 17 13
  let off := toSigned 13 (bits w 12 0)
  let op := bits w 31 26
  if (¬ f ∧ 32 ≤ rt) ∨ (circ ∧ 8 ≤ base) ∨ (f ∧ 0x0E ≤ op) then none
  else match op with
  | 0x0C => some (.ldw n f rt circ base off)
  | 0x0D => some (.stw n f rt circ base off)
  | 0x0E => some (.ldh n f rt circ base off)
  | 0x0F => some (.ldhu n f rt circ base off)
  | 0x10 => some (.ldb n f rt circ base off)
  | 0x11 => some (.ldbu n f rt circ base off)
  | 0x12 => some (.sth n f rt circ base off)
  | 0x13 => some (.stb n f rt circ base off)
  | _ => none

/-- Format MX: the MAC group, opcode 0x14; a dual form needs a next register of both pairs (R196). -/
def wordMac (n w : Nat) : Option Instr :=
  let acc := bits w 25 23
  let wa := bits w 22 17
  let gb := bits w 16 12
  let pg := bits w 11 9
  let d := bit w 8
  let u := bit w 5
  if bits w 4 0 ≠ 0 ∨ (d ∧ (30 < gb ∨ 62 < wa)) then none
  else match bits w 7 6 with
  | 0 => some (.mac n acc wa gb pg d u)
  | 1 => some (.msu n acc wa gb pg d u)
  | 2 => some (.mxMul n acc wa gb pg d u)
  | _ => none

/-- Format AC: the accumulator group, opcode 0x15 (R198). -/
def wordAcc (n w : Nat) : Option Instr :=
  let acc := bits w 25 23
  let f := bit w 22
  let rt := bits w 21 16
  let sh := bits w 15 10
  let rnd := bits w 9 8
  let pg := bits w 6 4
  if rnd = 3 ∨ (¬ f ∧ 32 ≤ rt) then none
  else match bits w 3 0 with
  | 0 => some (.accrd n acc f rt sh rnd (bit w 7) pg)
  | 1 => some (.accwr n acc f rt sh pg)
  | 2 => if rt = 0 then some (.accshr n acc sh pg) else none
  | 3 => if rt = 0 ∧ sh = 0 then some (.accclr n acc pg) else none
  | _ => none

/-- Format WW: the rotating-register group, opcode 0x16 (R192). -/
def wordRot (n w : Nat) : Option Instr :=
  let wd := bits w 25 20
  let wa := bits w 19 14
  let wb := bits w 13 8
  let pg := bits w 7 5
  match bits w 4 0 with
  | 0 => some (.wadd n wd wa wb pg)
  | 1 => some (.wsub n wd wa wb pg)
  | 2 => some (.wadds n wd wa wb pg)
  | 3 => some (.wsubs n wd wa wb pg)
  | 4 => some (.wneg n wd wa pg)
  | 5 => some (.wmov n wd wa pg)
  | 6 => if wa < 32 then some (.wfromg n wd wa pg) else none
  | 7 => if wd < 32 then some (.wtog n wd wa pg) else none
  | _ => none

/-- Format SR: the searches, opcode 0x18; gd is even, from g2 to g30 (R202). -/
def wordSearch (n w : Nat) : Option Instr :=
  let gd := bits w 25 21
  let cb := bits w 20 18
  let gn := bits w 17 13
  if bits w 9 0 ≠ 0 ∨ gd % 2 ≠ 0 ∨ gd < 2 then none
  else match bits w 12 10 with
  | 0 => some (.maxi n gd cb gn)
  | 1 => some (.mini n gd cb gn)
  | 2 => some (.maxiu n gd cb gn)
  | 3 => some (.miniu n gd cb gn)
  | 4 => some (.maxa n gd cb gn)
  | _ => none

/-- Formats BR, RR and LP: branches and loops, opcodes 0x20 to 0x23 (R189). -/
def wordBranch (n w : Nat) : Option Instr :=
  let off := toSigned 22 (bits w 21 0)
  match bits w 31 26 with
  | 0x20 => some (.br n (bits w 25 23) (bit w 22) off)
  | 0x21 => some (.call n (bits w 25 23) (bit w 22) off)
  | 0x22 =>
    let x := fieldsRR w
    if x.func ≠ 0 ∨ x.gb ≠ 0 then none else some (.jr n x.gd x.ga x.pg)
  | 0x23 =>
    if bits w 24 22 ≠ 0 then none
    else if ¬ bit w 25 then some (.loop n off)
    else if bits w 21 0 = 0 then some (.rot n) else none
  | _ => none

/-- Format SY: the system group, opcode 0x30. Register fields an instruction does not use are 0; MTC, MFC and TRAP hold
imm12 in bits [15:4] (R205 to R210). -/
def wordSys (n w : Nat) : Option Instr :=
  let gd := bits w 25 21
  let ga := bits w 20 16
  let gb := bits w 15 11
  let imm := bits w 15 4
  let plain := decide (bits w 10 4 = 0)
  let empty := decide (bits w 25 4 = 0)
  match bits w 3 0 with
  | 0x0 => if plain then some (.post n gd ga gb) else none
  | 0x1 => if empty then some (.done n) else none
  | 0x2 => if plain ∧ gb = 0 then some (.solve n gd ga gb) else none
  | 0x3 => if plain ∧ gb = 0 ∧ ga % 2 = 0 then some (.twait n gd ga gb) else none
  | 0x4 => if gd = 0 ∧ csrExists imm ∧ ¬ csrReadOnly imm then some (.mtc n ga imm) else none
  | 0x5 => if ga = 0 ∧ csrExists imm then some (.mfc n gd imm) else none
  | 0x6 => if empty then some (.eret n) else none
  | 0x7 => if empty then some (.fence n) else none
  | 0x8 => if gd = 0 ∧ ga = 0 then some (.trap n imm) else none
  | 0x9 => if empty then some (.brk n) else none
  | _ => none

/-- The instruction that a word spells for core `n`; none where the word is illegal (R189).
Log 3 (DESIGN CHOICE, unsafe). -/
def velistDecode (n w : Nat) : Option Instr :=
  match bits w 31 26 with
  | 0x01 => wordAlu n w
  | 0x02 | 0x03 | 0x04 | 0x05 | 0x06 | 0x07 => wordImm n w
  | 0x08 | 0x09 | 0x0A => wordPred n w
  | 0x0C | 0x0D | 0x0E | 0x0F | 0x10 | 0x11 | 0x12 | 0x13 => wordMem n w
  | 0x14 => wordMac n w
  | 0x15 => wordAcc n w
  | 0x16 => wordRot n w
  | 0x18 => wordSearch n w
  | 0x1A => wordFlt n w
  | 0x20 | 0x21 | 0x22 | 0x23 => wordBranch n w
  | 0x30 => wordSys n w
  | _ => none

/-- The word is illegal: no instruction of R189 has it. Log 3 (DESIGN CHOICE, unsafe). -/
def wordIllegal (w : Nat) : Bool := (velistDecode 0 w).isNone

/-! ## Class B (R183) -/

/-- A register by the name an instruction gives it. -/
inductive RegName where
  | g (k : Nat) | w (k : Nat) | p (k : Nat)
  deriving DecidableEq, Repr

/-- The registers by which a class-B instruction names what it reads: loads, stores, the MAC group and the accumulator
group (R183, R193, R196, R198). None for an instruction of another class. -/
def classBReads : Instr → Option (List RegName)
  | .ldw _ _ _ circ base _ | .ldh _ _ _ circ base _ | .ldhu _ _ _ circ base _ | .ldb _ _ _ circ base _
  | .ldbu _ _ _ circ base _ => some (if circ then [] else [.g base])
  | .stw _ f rt circ base _ | .sth _ f rt circ base _ | .stb _ f rt circ base _ =>
    some ((if circ then [] else [.g base]) ++ [if f then .w rt else .g rt])
  | .mac _ _ wa gb pg d _ | .msu _ _ wa gb pg d _ | .mxMul _ _ wa gb pg d _ =>
    some ([.w wa, .g gb, .p pg] ++ if d then [.w (wa + 1), .g (gb + 1)] else [])
  | .accwr _ _ f rt _ pg => some [if f then .w rt else .g rt, .p pg]
  | .accrd _ _ _ _ _ _ _ pg | .accshr _ _ _ pg | .accclr _ _ pg => some [.p pg]
  | _ => none

/-- g0 and p0 take no value, so a write of one is no write (R176). -/
def RegName.stands : RegName → Bool
  | .g k => decide (k ≠ 0)
  | .w _ => true
  | .p k => decide (k ≠ 0)

/-- A word can be the second of a bundle whose first instruction writes `wr`: it spells a class-B instruction that reads
none of them (R183). -/
def secondOf (wr : List RegName) (w : Nat) : Bool :=
  match (velistDecode 0 w).bind classBReads with
  | some rd => (wr.filter RegName.stands).all (fun r => !rd.contains r)
  | none => false

end Sys2Proof.Machine
end

