-- ==== Sys2Proof/Decode.lean ====
section
/-!
DEFINITION. The commands that words spell. No row of the opcode table gives bits; the formats of R188 and the opcodes of
R189 do, for the Velist instructions, each one word.
-/

namespace Sys2Proof

/-- The command a word spells: the Velist instruction of a 32-bit word, for core 0; none where the word is illegal, and for
every other row, which has no bits (R188, R189). Log 3 (DESIGN CHOICE, unsafe). -/
def decodeTableWord (nbits w : Nat) : Option Instr :=
  if nbits = 32 ∧ w < 2 ^ 32 then Machine.velistDecode 0 w else none

end Sys2Proof
end

