-- ==== Sys2Proof/Config.lean ====
section
/-!
DEFINITION. What one module fixes and the spec leaves per module, and the values the spec leaves open.
-/

namespace Sys2Proof

/-- The 64-bit module number written at manufacture (GLOBAL_UID): the spec gives it no value.
Log 7 (DESIGN CHOICE, unsafe). -/
opaque Config.uid : Nat

/-- A value the spec leaves open: the `n`-th one the machine met (State.freeCount is the number met so far).
Log 9 (DESIGN CHOICE, unsafe). -/
opaque Config.freeValue : Nat → Nat

/-- The MAC address of a Koastis port, first octet lowest (R92): the spec gives it no value.
Log 98 (DESIGN CHOICE, unsafe). -/
opaque Config.klMac : Nat → Nat

/-- The static signature of an input variable of the geometry engine (R418), and those of the two constants of a comparison
(R420): the coded program gives them. Log 68 (DEDUCED, unsafe). -/
opaque Config.thSignature : Nat → Nat
opaque Config.thVerdict : Bool → Nat

/-- The class, less 16, that the image's plan program gives each kind of variable of a plan (R252): 0 slacks, 1 duals, 2 to 4
the changes of accelerations, slacks and duals, 5 step factors, 6 and 7 the constants and coefficients of the rows.
Log 101 (DESIGN CHOICE, unsafe). -/
opaque Config.planClass : Nat → Nat

/-- The fraction of the mean product, in 2^-32, that the corrector of iteration `n` aims at: the plan program fixes it by what
the solve takes, its descriptor, IN, models and range table (R255). Log 101 (DESIGN CHOICE, unsafe). -/
opaque Config.planSigma : List Nat → Nat → Nat

/-- The level of an SSI error bit that Thallus takes for an error (R462, R464): the safety set names none.
Log 70 (DEDUCED, unsafe). -/
opaque Config.thErrPol : Bool

end Sys2Proof
end

