-- ==== Sys2Proof/Machine/RegMap.lean ====
section
/-!
DEFINITION. The register map of BAR0: every register of chapters 01 to 17, its first offset, strides and
instance counts (R608), its domain (R610), its reset value and the access type of its fields (R5 to R8).
One constructor of `Reg` per register description; one `Field` per named field.
-/

namespace Sys2Proof.Machine

/-- The registers of the map, under the spec's names (lower-case letters index instances). -/
inductive Reg where
  | GLOBAL_ID | GLOBAL_UID_LO | GLOBAL_UID_HI | GLOBAL_MAPVER | GLOBAL_BADACC_CNT | GLOBAL_BADACC
  | GLOBAL_BADACC_ADR | GLOBAL_SCRATCH | GLOBAL_RESET | GLOBAL_LASTREF | GLOBAL_LASTREF_ADR | GLOBAL_REFCNTb
  | GLOBAL_AG_EN | CLK_REF | CLK_DVFS | CLK_STAT | TIM_CT_NS_LO | TIM_CT_NS_HI | TIM_CT_FRAC | TIM_CT_STAT
  | TIM_CT_INC_LO | TIM_CT_INC_HI | TIM_CT_SET_LO | TIM_CT_SET_HI | TIM_PT_NS_LO | TIM_PT_NS_HI | TIM_PT_FRAC
  | TIM_PT_CTL | TIM_PT_INC_LO | TIM_PT_INC_HI | TIM_PT_ADJ | TIM_CYCLE | TIM_BCN_LO | TIM_BCN_HI
  | TIM_PT_SET_LO | TIM_PT_SET_HI | TIM_CAPn_CTL | TIM_CAPn_CT_LO | TIM_CAPn_CT_HI | TIM_CAPn_PT_LO
  | TIM_CAPn_PT_HI | CAL_SEC_LO | CAL_SEC_HI | CAL_SUBSEC | CAL_BD0 | CAL_BD1 | CAL_SET_LO | CAL_SET_HI
  | CAL_CTL | CAL_TRIM | CAL_STAT | CAL_UTC | KL_GLOBAL | KL_GADDR_LO | KL_GADDR_HI | KL_MODE_SW
  | KL_MODE_SWB_LO | KL_MODE_SWB_HI | KL_MODE_FAIL | KL_MODE_STATm | KL_MODE_CRCm | KL_MODE_ERRm
  | KL_TIME_CTL | KL_TIME_STAT | KL_TIME_ERR | KL_TIME_CHAIN | KL_PORTn_CTL | KL_PORTn_STAT | KL_PORTn_CNTk
  | KL_PORTn_EVTX_BASE | KL_PORTn_EVRX_BASE | KL_PORTn_EVIDX | KL_PORTn_EVTOK | KL_PORTn_LAT | KL_SCHEDm_Ww
  | LV_TPL_CMD | LV_FLOW_CMD | LV_STAT | LV_FAULT | LV_DROP | LV_CNTk | LV_TICKk_CTL | LV_TICKk_OFS
  | LV_TPLt_Ww | LV_FLOWf_Ww | VC_CTLn | VC_STATn | VC_PCn | VC_EXCn | KN_CTL | KN_AGMAP_SH | KN_AGMAP
  | KN_CLk_STAT | KN_CLk_CNTj | KN_GUARD | KN_GUARD_CNT | KN_GUARD_VAL | KN_GUARD_TAG | KN_MODEL
  | KN_MODEL_CNT | KN_MODEL_VALID | KN_SLOTs_STAT | KN_SLOTs_SIG | KN_PLAN_CTL | KN_PLAN_ADR | KN_PLAN_VF_LO
  | KN_PLAN_VF_HI | KN_PLAN_STAT | KN_PLAN_RUN | KN_PLAN_STOP | KN_RANGE_CTLc | KN_RANGE_MINc | KN_RANGE_MAXc
  | AX_CTLn | AX_TGTn | AX_VELn | AX_ACCn | AX_DECn | AX_JRKn | AX_CMDn | AX_STATn | AX_CNTAn | AX_CNTBn
  | AX_POSn | AX_SPDn | AX_DECUn | AX_INn | AX_HOMEn | AX_HSPDn | AX_HBSPDn | AX_HPOSn | AX_HDISTn
  | AX_SSCALEn | AX_DRVn | AX_SHIFTn | AX_STALLn | AX_SWINn | AX_TOKn | AX_CMPk_CTL | AX_CMPk_POS
  | AX_CMPk_INT | AX_CMPk_CNT | AX_CMPk_STAT | AX_CMPk_OUT | AX_CMPk_CT_LO | AX_CMPk_CT_HI | AX_STj_CTL
  | AX_STj_TIM | AX_STj_POS | FB_CFGn | FB_FILTn | FB_THRn | FB_AMPn | FB_SCALEn | FB_OFSn | FB_CNTn
  | FB_POSn | FB_SPDn | FB_LOADn | FB_CMDn | FB_IDXn | FB_IDXCT_LOn | FB_IDXCT_HIn | FB_SSIn | FB_SSITn
  | FB_SSIJn | FB_SPDCn | FB_FLTn | FB_STATn | FB_CNTAn | FB_CNTBn | FB_TOKn | FB_REPn | TH_STAT | TH_FAULT
  | TH_DEG | TH_SET_CRC | TH_SI | TH_SIFLT | TH_SENS_CNT | TH_SSM_STAT | TH_SSM_LOAD | TH_SSM_BOUND
  | TH_SSM_CHK | TH_PERS_LO | TH_PERS_HI | TH_AGn_SSM | TH_AGn_DMIN | TH_AGn_SP | TH_AGn_LIMIT | TH_AGn_VMON
  | TH_AGn_CNT | TH_SOj_STAT | TH_MB_CMD | TH_MB_ADDR | TH_MB_DATA | TH_MB_STAT | TH_MB_CRC | TH_MB_CONFIRM
  | TH_MB_ERR | SO_GLOBAL | SO_UBASE | SO_CHk | SO_Cc_CTL | SO_Cc_CMD | SO_Cc_STAT | SO_Cc_BASE | SO_Cc_SIZE
  | SO_Cc_PRE | SO_Cc_POST | SO_Cc_RATE | SO_Cc_TRG0 | SO_Cc_TRG1 | SO_Cc_T0A | SO_Cc_T0B | SO_Cc_T1A
  | SO_Cc_T1B | SO_Cc_TIME | SO_Cc_WIN | SO_Cc_MASK | SO_Cc_TOK | SO_Cc_CNT | SO_MISSED_TRIGc | SO_Cc_WRITTEN
  | PW_MOD | PW_KEEPMASK | PW_TRIM | PW_WAKE | PW_WAKE_CT_LO | PW_WAKE_CT_HI | PW_ABORT_CNT | PW_LASTREF
  | PW_LASTREF_CT_LO | PW_LASTREF_CT_HI | PW_OFFACC | PW_OFFACC_ADR | PW_OFFACC_CNT | PW_KEEP_CTL
  | PW_KEEP_ADD | PW_DOMd_CTL | PW_DOMd_STAT | PW_VOLTi_CTL | PW_VOLTi_STEP | PW_VOLTi_STAT | SV_HEALTHs
  | SV_WEAR | SV_TOK | SV_RETIRE | SV_UNRETIRE | SV_PLACEn | SV_PLACE_SHn | SV_PLACE_CMD | SV_MIG_CTL
  | SV_MIG_STAT | SV_MIG_BCN | SV_IMG_CTL | SV_IMG_STAT | SV_WDOG_CTL | SV_WDOG_KICK | SV_WDOG_STAT
  | SV_FORCE | SV_ECCm | SV_JNL_HEAD | SV_JNL_SEL | SV_JNL_STAT | SV_JNL_DATAk | HS_VECv_CTL | HS_VPEND_LO
  | HS_VPEND_HI | HS_DB | HS_MBX_TOK | HS_MBX_DATA | HS_VCNTv | HS_BOOT_STAT | HS_IMG_CMD | HS_IMG_SRC
  | HS_IMG_DST | HS_IMG_LEN | HS_IMG_STAT | HS_HEn_CTL | HS_HEn_MAC_LO | HS_HEn_MAC_HI | HS_HEn_LAT
  | HS_HEn_CNT | HS_HEn_TXq_CTL | HS_HEn_TXq_BASE | HS_HEn_TXq_IDX | HS_HEn_TXq_CNT | HS_HEn_RXr_CTL
  | HS_HEn_RXr_BASE | HS_HEn_RXr_IDX | HS_HEn_RXr_CNT | CH_CTL | CH_STAT | CH_REP_STAT | CH_REPr_BASE
  | CH_REPr_LEN | CH_BRIDGEk | LC_STATE | LC_CMD | LC_CHALk | LC_DATAk
  deriving DecidableEq, Repr

/-- Where a register lies in the power map (R610): Spine, Thallus, Crust, the slice domain of a core window,
PD_SOR, PD_CHN or PD_HST. -/
inductive RegDomain where
  | spine | thallus | crust | slice | sor | chn | hst
  deriving DecidableEq, Repr

/-- One register description: first offset, stride and count of the two instance indices, domain, reset value,
and the bits of each access type (R6 to R8). -/
structure RegRow where
  base : Nat
  stride : Nat
  count : Nat
  stride2 : Nat
  count2 : Nat
  dom : RegDomain
  reset : Nat
  ro : Nat
  rw : Nat
  w1c : Nat
  wo : Nat
  deriving DecidableEq, Repr

/-- The description of each register, from its description line and its field table. -/
def Reg.row : Reg → RegRow
  | .GLOBAL_ID => ⟨0x0000000, 0x0, 1, 0, 1, .spine, 0x256A001, 0xFFFFFFFF, 0x0, 0x0, 0x0⟩
  | .GLOBAL_UID_LO => ⟨0x0000004, 0x0, 1, 0, 1, .spine, 0x0, 0xFFFFFFFF, 0x0, 0x0, 0x0⟩
  | .GLOBAL_UID_HI => ⟨0x0000008, 0x0, 1, 0, 1, .spine, 0x0, 0xFFFFFFFF, 0x0, 0x0, 0x0⟩
  | .GLOBAL_MAPVER => ⟨0x000000C, 0x0, 1, 0, 1, .spine, 0x1, 0xFFFF, 0x0, 0x0, 0x0⟩
  | .GLOBAL_BADACC_CNT => ⟨0x0000010, 0x0, 1, 0, 1, .spine, 0x0, 0xFFFFFFFF, 0x0, 0x0, 0x0⟩
  | .GLOBAL_BADACC => ⟨0x0000014, 0x0, 1, 0, 1, .spine, 0x0, 0xFF010006, 0x0, 0x1, 0x0⟩
  | .GLOBAL_BADACC_ADR => ⟨0x0000018, 0x0, 1, 0, 1, .spine, 0x0, 0xFFFFFFFF, 0x0, 0x0, 0x0⟩
  | .GLOBAL_SCRATCH => ⟨0x000001C, 0x0, 1, 0, 1, .spine, 0x0, 0x0, 0xFFFFFFFF, 0x0, 0x0⟩
  | .GLOBAL_RESET => ⟨0x0000020, 0x0, 1, 0, 1, .crust, 0x0, 0xFFFF000F, 0x0, 0x0, 0x0⟩
  | .GLOBAL_LASTREF => ⟨0x0000040, 0x0, 1, 0, 1, .crust, 0xFF, 0xFFFF00FF, 0x0, 0x0, 0x0⟩
  | .GLOBAL_LASTREF_ADR => ⟨0x0000044, 0x0, 1, 0, 1, .crust, 0x0, 0xFFFFFFFF, 0x0, 0x0, 0x0⟩
  | .GLOBAL_REFCNTb => ⟨0x0000080, 0x4, 16, 0, 1, .crust, 0x0, 0xFFFFFFFF, 0x0, 0x0, 0x0⟩
  | .GLOBAL_AG_EN => ⟨0x0000100, 0x0, 1, 0, 1, .spine, 0x0, 0xFFF00000, 0xFFFF, 0x0, 0x0⟩
  | .CLK_REF => ⟨0x0100000, 0x0, 1, 0, 1, .spine, 0x1, 0xFF000300, 0x31, 0x0, 0x0⟩
  | .CLK_DVFS => ⟨0x0100010, 0x0, 1, 0, 1, .spine, 0x333, 0xFF000000, 0xFFF, 0x0, 0x0⟩
  | .CLK_STAT => ⟨0x0100020, 0x0, 1, 0, 1, .spine, 0x0, 0xFFFFFFF0, 0x0, 0xE, 0x0⟩
  | .TIM_CT_NS_LO => ⟨0x0200000, 0x0, 1, 0, 1, .spine, 0x0, 0xFFFFFFFF, 0x0, 0x0, 0x0⟩
  | .TIM_CT_NS_HI => ⟨0x0200004, 0x0, 1, 0, 1, .spine, 0x0, 0xFFFFFFFF, 0x0, 0x0, 0x0⟩
  | .TIM_CT_FRAC => ⟨0x0200008, 0x0, 1, 0, 1, .spine, 0x0, 0xFFFFFFFF, 0x0, 0x0, 0x0⟩
  | .TIM_CT_STAT => ⟨0x020000C, 0x0, 1, 0, 1, .spine, 0x0, 0xFFFFFF0B, 0x0, 0x4, 0x0⟩
  | .TIM_CT_INC_LO => ⟨0x0200010, 0x0, 1, 0, 1, .spine, 0x0, 0xFFFFFFFF, 0x0, 0x0, 0x0⟩
  | .TIM_CT_INC_HI => ⟨0x0200014, 0x0, 1, 0, 1, .spine, 0x2, 0xFF, 0x0, 0x0, 0x0⟩
  | .TIM_CT_SET_LO => ⟨0x0200018, 0x0, 1, 0, 1, .spine, 0x0, 0x0, 0x0, 0x0, 0xFFFFFFFF⟩
  | .TIM_CT_SET_HI => ⟨0x020001C, 0x0, 1, 0, 1, .spine, 0x0, 0x0, 0x0, 0x0, 0xFFFFFFFF⟩
  | .TIM_PT_NS_LO => ⟨0x0200020, 0x0, 1, 0, 1, .spine, 0x0, 0xFFFFFFFF, 0x0, 0x0, 0x0⟩
  | .TIM_PT_NS_HI => ⟨0x0200024, 0x0, 1, 0, 1, .spine, 0x0, 0xFFFFFFFF, 0x0, 0x0, 0x0⟩
  | .TIM_PT_FRAC => ⟨0x0200028, 0x0, 1, 0, 1, .spine, 0x0, 0xFFFFFFFF, 0x0, 0x0, 0x0⟩
  | .TIM_PT_CTL => ⟨0x020002C, 0x0, 1, 0, 1, .spine, 0x0, 0xFF00FF00, 0xFF0001, 0x4, 0x0⟩
  | .TIM_PT_INC_LO => ⟨0x0200030, 0x0, 1, 0, 1, .spine, 0x0, 0x0, 0xFFFFFFFF, 0x0, 0x0⟩
  | .TIM_PT_INC_HI => ⟨0x0200034, 0x0, 1, 0, 1, .spine, 0x2, 0x0, 0xFF, 0x0, 0x0⟩
  | .TIM_PT_ADJ => ⟨0x0200038, 0x0, 1, 0, 1, .spine, 0x0, 0x0, 0x0, 0x0, 0xFFFFFFFF⟩
  | .TIM_CYCLE => ⟨0x0200040, 0x0, 1, 0, 1, .spine, 0x10F00, 0xFF00000F, 0x3FFF0, 0x0, 0x0⟩
  | .TIM_BCN_LO => ⟨0x0200048, 0x0, 1, 0, 1, .spine, 0x0, 0xFFFFFFFF, 0x0, 0x0, 0x0⟩
  | .TIM_BCN_HI => ⟨0x020004C, 0x0, 1, 0, 1, .spine, 0x0, 0xFFFFFFFF, 0x0, 0x0, 0x0⟩
  | .TIM_PT_SET_LO => ⟨0x0200050, 0x0, 1, 0, 1, .spine, 0x0, 0x0, 0x0, 0x0, 0xFFFFFFFF⟩
  | .TIM_PT_SET_HI => ⟨0x0200054, 0x0, 1, 0, 1, .spine, 0x0, 0x0, 0x0, 0x0, 0xFFFFFFFF⟩
  | .TIM_CAPn_CTL => ⟨0x0200100, 0x20, 8, 0, 1, .spine, 0x0, 0xFF000000, 0xFF0301, 0x2, 0x4⟩
  | .TIM_CAPn_CT_LO => ⟨0x0200104, 0x20, 8, 0, 1, .spine, 0x0, 0xFFFFFFFF, 0x0, 0x0, 0x0⟩
  | .TIM_CAPn_CT_HI => ⟨0x0200108, 0x20, 8, 0, 1, .spine, 0x0, 0xFFFFFFFF, 0x0, 0x0, 0x0⟩
  | .TIM_CAPn_PT_LO => ⟨0x020010C, 0x20, 8, 0, 1, .spine, 0x0, 0xFFFFFFFF, 0x0, 0x0, 0x0⟩
  | .TIM_CAPn_PT_HI => ⟨0x0200110, 0x20, 8, 0, 1, .spine, 0x0, 0xFFFFFFFF, 0x0, 0x0, 0x0⟩
  | .CAL_SEC_LO => ⟨0x0208000, 0x0, 1, 0, 1, .crust, 0x0, 0xFFFFFFFF, 0x0, 0x0, 0x0⟩
  | .CAL_SEC_HI => ⟨0x0208004, 0x0, 1, 0, 1, .crust, 0x0, 0xFFFFFFFF, 0x0, 0x0, 0x0⟩
  | .CAL_SUBSEC => ⟨0x0208008, 0x0, 1, 0, 1, .crust, 0x0, 0x7FFF, 0x0, 0x0, 0x0⟩
  | .CAL_BD0 => ⟨0x020800C, 0x0, 1, 0, 1, .crust, 0x7B2010C, 0xFFFF0FFF, 0x0, 0x0, 0x0⟩
  | .CAL_BD1 => ⟨0x0208010, 0x0, 1, 0, 1, .crust, 0x0, 0x11F3F3F, 0x0, 0x0, 0x0⟩
  | .CAL_SET_LO => ⟨0x0208014, 0x0, 1, 0, 1, .crust, 0x0, 0x0, 0x0, 0x0, 0xFFFFFFFF⟩
  | .CAL_SET_HI => ⟨0x0208018, 0x0, 1, 0, 1, .crust, 0x0, 0x0, 0x0, 0x0, 0xFFFFFFFF⟩
  | .CAL_CTL => ⟨0x020801C, 0x0, 1, 0, 1, .crust, 0x0, 0xFF000000, 0x1, 0x0, 0x0⟩
  | .CAL_TRIM => ⟨0x0208020, 0x0, 1, 0, 1, .crust, 0x0, 0x0, 0x7FF, 0x0, 0x0⟩
  | .CAL_STAT => ⟨0x0208024, 0x0, 1, 0, 1, .crust, 0x0, 0xFFFF0003, 0x0, 0xC, 0x0⟩
  | .CAL_UTC => ⟨0x0208028, 0x0, 1, 0, 1, .crust, 0x0, 0x0, 0x3FFFF, 0x0, 0x0⟩
  | .KL_GLOBAL => ⟨0x0400000, 0x0, 1, 0, 1, .spine, 0x88B5, 0xFF000000, 0x7FFFF, 0x0, 0x0⟩
  | .KL_GADDR_LO => ⟨0x0400004, 0x0, 1, 0, 1, .spine, 0x4C4B03, 0x0, 0xFFFFFFFF, 0x0, 0x0⟩
  | .KL_GADDR_HI => ⟨0x0400008, 0x0, 1, 0, 1, .spine, 0x0, 0x0, 0xFFFF, 0x0, 0x0⟩
  | .KL_MODE_SW => ⟨0x0400010, 0x0, 1, 0, 1, .spine, 0x0, 0xFF00FF78, 0xFF0007, 0x0, 0x80⟩
  | .KL_MODE_SWB_LO => ⟨0x0400014, 0x0, 1, 0, 1, .spine, 0x0, 0xFFFFFFFF, 0x0, 0x0, 0x0⟩
  | .KL_MODE_SWB_HI => ⟨0x0400018, 0x0, 1, 0, 1, .spine, 0x0, 0xFFFFFFFF, 0x0, 0x0, 0x0⟩
  | .KL_MODE_FAIL => ⟨0x040001C, 0x0, 1, 0, 1, .spine, 0x0, 0xFFFF0FFF, 0x0, 0x0, 0x0⟩
  | .KL_MODE_STATm => ⟨0x0400040, 0x10, 8, 0, 1, .spine, 0x0, 0xFF030000, 0x1FFF, 0x0, 0x8000⟩
  | .KL_MODE_CRCm => ⟨0x0400044, 0x10, 8, 0, 1, .spine, 0x0, 0xFFFFFFFF, 0x0, 0x0, 0x0⟩
  | .KL_MODE_ERRm => ⟨0x0400048, 0x10, 8, 0, 1, .spine, 0x0, 0x1FFF, 0x0, 0x0, 0x0⟩
  | .KL_TIME_CTL => ⟨0x0400100, 0x0, 1, 0, 1, .spine, 0x800, 0xFF000000, 0xFF3F, 0x0, 0x0⟩
  | .KL_TIME_STAT => ⟨0x0400104, 0x0, 1, 0, 1, .spine, 0xFFF0, 0xFFFFFFFF, 0x0, 0x0, 0x0⟩
  | .KL_TIME_ERR => ⟨0x0400108, 0x0, 1, 0, 1, .spine, 0x0, 0xFFFFFFFF, 0x0, 0x0, 0x0⟩
  | .KL_TIME_CHAIN => ⟨0x040010C, 0x0, 1, 0, 1, .spine, 0x0, 0xFF000303, 0x0, 0x0, 0x0⟩
  | .KL_PORTn_CTL => ⟨0x0410000, 0x1000, 8, 0, 1, .spine, 0x30000, 0xFF000000, 0xF0111, 0x0, 0x2⟩
  | .KL_PORTn_STAT => ⟨0x0410004, 0x1000, 8, 0, 1, .spine, 0x0, 0xFF7FF007, 0x0, 0x0, 0x0⟩
  | .KL_PORTn_CNTk => ⟨0x0410010, 0x1000, 8, 4, 10, .spine, 0x0, 0xFFFFFFFF, 0x0, 0x0, 0x0⟩
  | .KL_PORTn_EVTX_BASE => ⟨0x0410040, 0x1000, 8, 0, 1, .spine, 0x0, 0x0, 0xFFFFFF, 0x0, 0x0⟩
  | .KL_PORTn_EVRX_BASE => ⟨0x0410044, 0x1000, 8, 0, 1, .spine, 0x0, 0x0, 0xFFFFFF, 0x0, 0x0⟩
  | .KL_PORTn_EVIDX => ⟨0x0410048, 0x1000, 8, 0, 1, .spine, 0x0, 0x3F3F00, 0x3F00003F, 0x0, 0x0⟩
  | .KL_PORTn_EVTOK => ⟨0x041004C, 0x1000, 8, 0, 1, .spine, 0xFFFF, 0x0, 0xFFFF, 0x0, 0x0⟩
  | .KL_PORTn_LAT => ⟨0x0410050, 0x1000, 8, 0, 1, .spine, 0x0, 0x0, 0xFFFFFFFF, 0x0, 0x0⟩
  | .KL_SCHEDm_Ww => ⟨0x0600000, 0x10000, 8, 4, 16384, .spine, 0x0, 0x0, 0xFFFFFFFF, 0x0, 0x0⟩
  | .LV_TPL_CMD => ⟨0x0800010, 0x0, 1, 0, 1, .spine, 0x0, 0xFF000000, 0xFFF, 0x0, 0x30000⟩
  | .LV_FLOW_CMD => ⟨0x0800014, 0x0, 1, 0, 1, .spine, 0x0, 0xFF000000, 0xFFF, 0x0, 0x30000⟩
  | .LV_STAT => ⟨0x0800020, 0x0, 1, 0, 1, .spine, 0x4000, 0x7FFF, 0x0, 0xC0000000, 0x0⟩
  | .LV_FAULT => ⟨0x0800030, 0x0, 1, 0, 1, .spine, 0x0, 0xFFFC0FFF, 0x0, 0x0, 0x0⟩
  | .LV_DROP => ⟨0x0800034, 0x0, 1, 0, 1, .spine, 0x0, 0xF000FFFF, 0x0, 0x0, 0x0⟩
  | .LV_CNTk => ⟨0x0800040, 0x4, 10, 0, 1, .spine, 0x0, 0xFFFFFFFF, 0x0, 0x0, 0x0⟩
  | .LV_TICKk_CTL => ⟨0x0800200, 0x8, 64, 0, 1, .spine, 0xFFFF, 0x0, 0xFFFFFFFF, 0x0, 0x0⟩
  | .LV_TICKk_OFS => ⟨0x0800204, 0x8, 64, 0, 1, .spine, 0x0, 0xFF000000, 0x103FF, 0x0, 0x0⟩
  | .LV_TPLt_Ww => ⟨0x0810000, 0x20, 4096, 4, 8, .spine, 0x0, 0x0, 0xFFFFFFFF, 0x0, 0x0⟩
  | .LV_FLOWf_Ww => ⟨0x0830000, 0x8, 4096, 4, 2, .spine, 0x0, 0x0, 0xFFFFFFFF, 0x0, 0x0⟩
  | .VC_CTLn => ⟨0x0C00000, 0x1000, 72, 0, 1, .slice, 0x0, 0xFF000000, 0x3, 0x0, 0x4⟩
  | .VC_STATn => ⟨0x0C00004, 0x1000, 72, 0, 1, .slice, 0xFF0000, 0xFFFF01FF, 0x0, 0x0, 0x0⟩
  | .VC_PCn => ⟨0x0C00008, 0x1000, 72, 0, 1, .slice, 0x0, 0xFFFFFFFF, 0x0, 0x0, 0x0⟩
  | .VC_EXCn => ⟨0x0C0000C, 0x1000, 72, 0, 1, .slice, 0x0, 0xFF0000FF, 0x0, 0x0, 0x0⟩
  | .KN_CTL => ⟨0x1000000, 0x0, 1, 0, 1, .spine, 0x0, 0xFFC00000, 0xF, 0x0, 0x0⟩
  | .KN_AGMAP_SH => ⟨0x1000004, 0x0, 1, 0, 1, .spine, 0xFFAA5500, 0x0, 0xFFFFFFFF, 0x0, 0x0⟩
  | .KN_AGMAP => ⟨0x1000008, 0x0, 1, 0, 1, .spine, 0xFFAA5500, 0xFFFFFFFF, 0x0, 0x0, 0x0⟩
  | .KN_CLk_STAT => ⟨0x1000100, 0x20, 4, 0, 1, .spine, 0x0, 0x3FFFF3, 0x0, 0x0, 0x0⟩
  | .KN_CLk_CNTj => ⟨0x1000104, 0x20, 4, 4, 7, .spine, 0x0, 0xFFFFFFFF, 0x0, 0x0, 0x0⟩
  | .KN_GUARD => ⟨0x1000200, 0x0, 1, 0, 1, .spine, 0x0, 0x7FFFC03F, 0x0, 0x80000000, 0x0⟩
  | .KN_GUARD_CNT => ⟨0x1000204, 0x0, 1, 0, 1, .spine, 0x0, 0xFFFFFFFF, 0x0, 0x0, 0x0⟩
  | .KN_GUARD_VAL => ⟨0x1000208, 0x0, 1, 0, 1, .spine, 0x0, 0xFFFFFFFF, 0x0, 0x0, 0x0⟩
  | .KN_GUARD_TAG => ⟨0x100020C, 0x0, 1, 0, 1, .spine, 0x0, 0xFFFFFFFF, 0x0, 0x0, 0x0⟩
  | .KN_MODEL => ⟨0x1000300, 0x0, 1, 0, 1, .spine, 0x0, 0xFFF1000F, 0x0, 0x0, 0x0⟩
  | .KN_MODEL_CNT => ⟨0x1000304, 0x0, 1, 0, 1, .spine, 0x0, 0xFFFFFFFF, 0x0, 0x0, 0x0⟩
  | .KN_MODEL_VALID => ⟨0x1000308, 0x0, 1, 0, 1, .spine, 0x0, 0xFFFF, 0x0, 0x0, 0x0⟩
  | .KN_SLOTs_STAT => ⟨0x1000400, 0x10, 8, 0, 1, .spine, 0x0, 0xFF0D0000, 0x0, 0x0, 0x0⟩
  | .KN_SLOTs_SIG => ⟨0x1000404, 0x10, 8, 0, 1, .spine, 0x0, 0xFFFFFFFF, 0x0, 0x0, 0x0⟩
  | .KN_PLAN_CTL => ⟨0x1000500, 0x0, 1, 0, 1, .spine, 0x0, 0xFF0000F0, 0x7, 0x0, 0x0⟩
  | .KN_PLAN_ADR => ⟨0x1000504, 0x0, 1, 0, 1, .spine, 0x0, 0xFFFFFFFF, 0x0, 0x0, 0x0⟩
  | .KN_PLAN_VF_LO => ⟨0x1000508, 0x0, 1, 0, 1, .spine, 0x0, 0xFFFFFFFF, 0x0, 0x0, 0x0⟩
  | .KN_PLAN_VF_HI => ⟨0x100050C, 0x0, 1, 0, 1, .spine, 0x0, 0xFFFFFFFF, 0x0, 0x0, 0x0⟩
  | .KN_PLAN_STAT => ⟨0x1000510, 0x0, 1, 0, 1, .spine, 0x3, 0xFFFF0003, 0x0, 0x0, 0x0⟩
  | .KN_PLAN_RUN => ⟨0x1000514, 0x0, 1, 0, 1, .spine, 0x0, 0xFFFFFFFF, 0x0, 0x0, 0x0⟩
  | .KN_PLAN_STOP => ⟨0x1000518, 0x0, 1, 0, 1, .spine, 0x0, 0xFF000000, 0x0, 0xFFFF, 0x0⟩
  | .KN_RANGE_CTLc => ⟨0x1001000, 0x10, 64, 0, 1, .spine, 0x0, 0x0, 0x11F, 0x0, 0x0⟩
  | .KN_RANGE_MINc => ⟨0x1001004, 0x10, 64, 0, 1, .spine, 0x80000000, 0x0, 0xFFFFFFFF, 0x0, 0x0⟩
  | .KN_RANGE_MAXc => ⟨0x1001008, 0x10, 64, 0, 1, .spine, 0x7FFFFFFF, 0x0, 0xFFFFFFFF, 0x0, 0x0⟩
  | .AX_CTLn => ⟨0x1400000, 0x80, 256, 0, 1, .spine, 0x10000, 0xFF000000, 0xF0111, 0x0, 0x0⟩
  | .AX_TGTn => ⟨0x1400004, 0x80, 256, 0, 1, .spine, 0x0, 0x0, 0xFFFFFFFF, 0x0, 0x0⟩
  | .AX_VELn => ⟨0x1400008, 0x80, 256, 0, 1, .spine, 0x0, 0x0, 0xFFFFFFFF, 0x0, 0x0⟩
  | .AX_ACCn => ⟨0x140000C, 0x80, 256, 0, 1, .spine, 0x0, 0x0, 0xFFFFFFFF, 0x0, 0x0⟩
  | .AX_DECn => ⟨0x1400010, 0x80, 256, 0, 1, .spine, 0x0, 0x0, 0xFFFFFFFF, 0x0, 0x0⟩
  | .AX_JRKn => ⟨0x1400014, 0x80, 256, 0, 1, .spine, 0x0, 0x0, 0xFFFFFFFF, 0x0, 0x0⟩
  | .AX_CMDn => ⟨0x1400018, 0x80, 256, 0, 1, .spine, 0x0, 0x0, 0x0, 0x0, 0xF⟩
  | .AX_STATn => ⟨0x140001C, 0x80, 256, 0, 1, .spine, 0x0, 0xFF0003FF, 0x0, 0xBC00, 0x0⟩
  | .AX_CNTAn => ⟨0x1400020, 0x80, 256, 0, 1, .spine, 0x0, 0xFFFFFF00, 0x0, 0x0, 0x0⟩
  | .AX_CNTBn => ⟨0x1400024, 0x80, 256, 0, 1, .spine, 0x0, 0xFFFFFF00, 0x0, 0x0, 0x0⟩
  | .AX_POSn => ⟨0x1400028, 0x80, 256, 0, 1, .spine, 0x0, 0xFFFFFFFF, 0x0, 0x0, 0x0⟩
  | .AX_SPDn => ⟨0x140002C, 0x80, 256, 0, 1, .spine, 0x0, 0xFFFFFFFF, 0x0, 0x0, 0x0⟩
  | .AX_DECUn => ⟨0x1400030, 0x80, 256, 0, 1, .spine, 0x0, 0xFFFFFFFF, 0x0, 0x0, 0x0⟩
  | .AX_INn => ⟨0x1400034, 0x80, 256, 0, 1, .spine, 0xFFFFFF0A, 0x0, 0xFFFFFFFF, 0x0, 0x0⟩
  | .AX_HOMEn => ⟨0x1400038, 0x80, 256, 0, 1, .spine, 0x0, 0x0, 0x7, 0x0, 0x0⟩
  | .AX_HSPDn => ⟨0x140003C, 0x80, 256, 0, 1, .spine, 0x0, 0x0, 0xFFFFFFFF, 0x0, 0x0⟩
  | .AX_HBSPDn => ⟨0x1400040, 0x80, 256, 0, 1, .spine, 0x0, 0x0, 0xFFFFFFFF, 0x0, 0x0⟩
  | .AX_HPOSn => ⟨0x1400044, 0x80, 256, 0, 1, .spine, 0x0, 0x0, 0xFFFFFFFF, 0x0, 0x0⟩
  | .AX_HDISTn => ⟨0x1400048, 0x80, 256, 0, 1, .spine, 0x0, 0x0, 0xFFFFFFFF, 0x0, 0x0⟩
  | .AX_SSCALEn => ⟨0x140004C, 0x80, 256, 0, 1, .spine, 0x0, 0x0, 0xFFFFFFFF, 0x0, 0x0⟩
  | .AX_DRVn => ⟨0x1400050, 0x80, 256, 0, 1, .spine, 0xFFFF0400, 0x0, 0xFFFFFFFF, 0x0, 0x0⟩
  | .AX_SHIFTn => ⟨0x1400054, 0x80, 256, 0, 1, .spine, 0x0, 0xFFFFFFFF, 0x0, 0x0, 0x0⟩
  | .AX_STALLn => ⟨0x1400058, 0x80, 256, 0, 1, .spine, 0x0, 0x0, 0xFFFF, 0x0, 0x0⟩
  | .AX_SWINn => ⟨0x140005C, 0x80, 256, 0, 1, .spine, 0x0, 0x0, 0xFFFFFFFF, 0x0, 0x0⟩
  | .AX_TOKn => ⟨0x1400060, 0x80, 256, 0, 1, .spine, 0xFFFF, 0x0, 0xFFFF, 0x0, 0x0⟩
  | .AX_CMPk_CTL => ⟨0x1410000, 0x20, 64, 0, 1, .spine, 0x0, 0xFF000000, 0xFFFFFD, 0x0, 0x2⟩
  | .AX_CMPk_POS => ⟨0x1410004, 0x20, 64, 0, 1, .spine, 0x0, 0x0, 0xFFFFFFFF, 0x0, 0x0⟩
  | .AX_CMPk_INT => ⟨0x1410008, 0x20, 64, 0, 1, .spine, 0x0, 0x0, 0xFFFFFFFF, 0x0, 0x0⟩
  | .AX_CMPk_CNT => ⟨0x141000C, 0x20, 64, 0, 1, .spine, 0x0, 0xFFFF0000, 0xFFFF, 0x0, 0x0⟩
  | .AX_CMPk_STAT => ⟨0x1410010, 0x20, 64, 0, 1, .spine, 0x0, 0xFFFFFF01, 0x0, 0xE, 0x0⟩
  | .AX_CMPk_OUT => ⟨0x1410014, 0x20, 64, 0, 1, .spine, 0x19FFFF, 0x0, 0xFFFFFFFF, 0x0, 0x0⟩
  | .AX_CMPk_CT_LO => ⟨0x1410018, 0x20, 64, 0, 1, .spine, 0x0, 0xFFFFFFFF, 0x0, 0x0, 0x0⟩
  | .AX_CMPk_CT_HI => ⟨0x141001C, 0x20, 64, 0, 1, .spine, 0x0, 0xFFFFFFFF, 0x0, 0x0, 0x0⟩
  | .AX_STj_CTL => ⟨0x1420000, 0x10, 32, 0, 1, .spine, 0x0, 0xFFFF0000, 0xD, 0x0, 0x0⟩
  | .AX_STj_TIM => ⟨0x1420004, 0x10, 32, 0, 1, .spine, 0x193219, 0x0, 0xFFFFFF, 0x0, 0x0⟩
  | .AX_STj_POS => ⟨0x1420008, 0x10, 32, 0, 1, .spine, 0x0, 0xFFFFFFFF, 0x0, 0x0, 0x0⟩
  | .FB_CFGn => ⟨0x1600000, 0x80, 32, 0, 1, .spine, 0x0, 0xFF010000, 0x33F7, 0x0, 0x0⟩
  | .FB_FILTn => ⟨0x1600004, 0x80, 32, 0, 1, .spine, 0xA001905, 0x0, 0xFF00FFFF, 0x0, 0x0⟩
  | .FB_THRn => ⟨0x1600008, 0x80, 32, 0, 1, .spine, 0x191E050A, 0x0, 0xFFFFFF9F, 0x0, 0x0⟩
  | .FB_AMPn => ⟨0x160000C, 0x80, 32, 0, 1, .spine, 0x0, 0xFFFFFF, 0x0, 0x0, 0x0⟩
  | .FB_SCALEn => ⟨0x1600010, 0x80, 32, 0, 1, .spine, 0x0, 0x0, 0xFFFFFFFF, 0x0, 0x0⟩
  | .FB_OFSn => ⟨0x1600014, 0x80, 32, 0, 1, .spine, 0x0, 0x0, 0xFFFFFFFF, 0x0, 0x0⟩
  | .FB_CNTn => ⟨0x1600018, 0x80, 32, 0, 1, .spine, 0x0, 0xFFFFFFFF, 0x0, 0x0, 0x0⟩
  | .FB_POSn => ⟨0x160001C, 0x80, 32, 0, 1, .spine, 0x0, 0xFFFFFFFF, 0x0, 0x0, 0x0⟩
  | .FB_SPDn => ⟨0x1600020, 0x80, 32, 0, 1, .spine, 0x0, 0xFFFFFFFF, 0x0, 0x0, 0x0⟩
  | .FB_LOADn => ⟨0x1600024, 0x80, 32, 0, 1, .spine, 0x0, 0x0, 0xFFFFFFFF, 0x0, 0x0⟩
  | .FB_CMDn => ⟨0x1600028, 0x80, 32, 0, 1, .spine, 0x0, 0x0, 0x0, 0x0, 0x7⟩
  | .FB_IDXn => ⟨0x160002C, 0x80, 32, 0, 1, .spine, 0x0, 0xFFFFFFFF, 0x0, 0x0, 0x0⟩
  | .FB_IDXCT_LOn => ⟨0x1600030, 0x80, 32, 0, 1, .spine, 0x0, 0xFFFFFFFF, 0x0, 0x0, 0x0⟩
  | .FB_IDXCT_HIn => ⟨0x1600034, 0x80, 32, 0, 1, .spine, 0x0, 0xFFFFFFFF, 0x0, 0x0, 0x0⟩
  | .FB_SSIn => ⟨0x1600038, 0x80, 32, 0, 1, .spine, 0x190031, 0x0, 0xCF3F07FF, 0x0, 0x0⟩
  | .FB_SSITn => ⟨0x160003C, 0x80, 32, 0, 1, .spine, 0x140000, 0x0, 0xFFFFFFFF, 0x0, 0x0⟩
  | .FB_SSIJn => ⟨0x1600040, 0x80, 32, 0, 1, .spine, 0x0, 0x0, 0xFFFFFFFF, 0x0, 0x0⟩
  | .FB_SPDCn => ⟨0x1600044, 0x80, 32, 0, 1, .spine, 0x3E80040, 0x0, 0xFFFF00FF, 0x0, 0x0⟩
  | .FB_FLTn => ⟨0x1600048, 0x80, 32, 0, 1, .spine, 0x8100400, 0x0, 0xFFFFFF00, 0x0, 0x0⟩
  | .FB_STATn => ⟨0x160004C, 0x80, 32, 0, 1, .spine, 0x0, 0xFF00101F, 0x0, 0xFE0, 0x0⟩
  | .FB_CNTAn => ⟨0x1600050, 0x80, 32, 0, 1, .spine, 0x0, 0xFFFFFFFF, 0x0, 0x0, 0x0⟩
  | .FB_CNTBn => ⟨0x1600054, 0x80, 32, 0, 1, .spine, 0x0, 0xFFFFFFFF, 0x0, 0x0, 0x0⟩
  | .FB_TOKn => ⟨0x1600058, 0x80, 32, 0, 1, .spine, 0xFFFF, 0x0, 0xFFFF, 0x0, 0x0⟩
  | .FB_REPn => ⟨0x160005C, 0x80, 32, 0, 1, .spine, 0x5, 0x0, 0xFFFF00FF, 0x0, 0x0⟩
  | .TH_STAT => ⟨0x1800000, 0x0, 1, 0, 1, .thallus, 0x4, 0xFFFF0F, 0x0, 0x0, 0x0⟩
  | .TH_FAULT => ⟨0x1800004, 0x0, 1, 0, 1, .thallus, 0x0, 0xFFC0FFFF, 0x0, 0x0, 0x0⟩
  | .TH_DEG => ⟨0x1800008, 0x0, 1, 0, 1, .thallus, 0x0, 0xFF001FFF, 0x0, 0x0, 0x0⟩
  | .TH_SET_CRC => ⟨0x180000C, 0x0, 1, 0, 1, .thallus, 0x0, 0xFFFFFFFF, 0x0, 0x0, 0x0⟩
  | .TH_SI => ⟨0x1800010, 0x0, 1, 0, 1, .thallus, 0x0, 0xFFFFFFFF, 0x0, 0x0, 0x0⟩
  | .TH_SIFLT => ⟨0x1800014, 0x0, 1, 0, 1, .thallus, 0x0, 0xFFFFFFFF, 0x0, 0x0, 0x0⟩
  | .TH_SENS_CNT => ⟨0x1800018, 0x0, 1, 0, 1, .thallus, 0x0, 0xFFFFFFFF, 0x0, 0x0, 0x0⟩
  | .TH_SSM_STAT => ⟨0x1810000, 0x0, 1, 0, 1, .thallus, 0x0, 0xFFFFFFFF, 0x0, 0x0, 0x0⟩
  | .TH_SSM_LOAD => ⟨0x1810004, 0x0, 1, 0, 1, .thallus, 0x0, 0xFFFFFFFF, 0x0, 0x0, 0x0⟩
  | .TH_SSM_BOUND => ⟨0x1810008, 0x0, 1, 0, 1, .thallus, 0x0, 0xFFFFFFFF, 0x0, 0x0, 0x0⟩
  | .TH_SSM_CHK => ⟨0x181000C, 0x0, 1, 0, 1, .thallus, 0x0, 0xFFFFFFFF, 0x0, 0x0, 0x0⟩
  | .TH_PERS_LO => ⟨0x1810010, 0x0, 1, 0, 1, .thallus, 0x0, 0xFFFFFFFF, 0x0, 0x0, 0x0⟩
  | .TH_PERS_HI => ⟨0x1810014, 0x0, 1, 0, 1, .thallus, 0x0, 0xFFFFFFFF, 0x0, 0x0, 0x0⟩
  | .TH_AGn_SSM => ⟨0x1810100, 0x20, 16, 0, 1, .thallus, 0x0, 0xFFFFF087, 0x0, 0x0, 0x0⟩
  | .TH_AGn_DMIN => ⟨0x1810104, 0x20, 16, 0, 1, .thallus, 0x0, 0xFFFFFFFF, 0x0, 0x0, 0x0⟩
  | .TH_AGn_SP => ⟨0x1810108, 0x20, 16, 0, 1, .thallus, 0x0, 0xFFFFFFFF, 0x0, 0x0, 0x0⟩
  | .TH_AGn_LIMIT => ⟨0x181010C, 0x20, 16, 0, 1, .thallus, 0x0, 0xFFFFFFFF, 0x0, 0x0, 0x0⟩
  | .TH_AGn_VMON => ⟨0x1810110, 0x20, 16, 0, 1, .thallus, 0x0, 0xFFFFFFFF, 0x0, 0x0, 0x0⟩
  | .TH_AGn_CNT => ⟨0x1810114, 0x20, 16, 0, 1, .thallus, 0x0, 0xFFFFFFFF, 0x0, 0x0, 0x0⟩
  | .TH_SOj_STAT => ⟨0x1820000, 0x10, 20, 0, 1, .thallus, 0x0, 0xFF0000FD, 0x0, 0x0, 0x0⟩
  | .TH_MB_CMD => ⟨0x18F0000, 0x0, 1, 0, 1, .thallus, 0x0, 0xFF000000, 0x0, 0x0, 0xF⟩
  | .TH_MB_ADDR => ⟨0x18F0004, 0x0, 1, 0, 1, .thallus, 0x0, 0x0, 0xFFFFF, 0x0, 0x0⟩
  | .TH_MB_DATA => ⟨0x18F0008, 0x0, 1, 0, 1, .thallus, 0x0, 0x0, 0x0, 0x0, 0xFFFFFFFF⟩
  | .TH_MB_STAT => ⟨0x18F000C, 0x0, 1, 0, 1, .thallus, 0x0, 0xFFFF0007, 0x0, 0x0, 0x0⟩
  | .TH_MB_CRC => ⟨0x18F0010, 0x0, 1, 0, 1, .thallus, 0x0, 0xFFFFFFFF, 0x0, 0x0, 0x0⟩
  | .TH_MB_CONFIRM => ⟨0x18F0014, 0x0, 1, 0, 1, .thallus, 0x0, 0x0, 0xFFFFFFFF, 0x0, 0x0⟩
  | .TH_MB_ERR => ⟨0x18F0018, 0x0, 1, 0, 1, .thallus, 0x0, 0xFFFFFFFF, 0x0, 0x0, 0x0⟩
  | .SO_GLOBAL => ⟨0x1C00000, 0x0, 1, 0, 1, .sor, 0x0, 0xFF000000, 0x1F30, 0x0, 0x0⟩
  | .SO_UBASE => ⟨0x1C00004, 0x0, 1, 0, 1, .sor, 0x0, 0x0, 0xFFFFFF, 0x0, 0x0⟩
  | .SO_CHk => ⟨0x1C00100, 0x4, 64, 0, 1, .sor, 0x0, 0x0, 0xF0001FFF, 0x0, 0x0⟩
  | .SO_Cc_CTL => ⟨0x1C10000, 0x100, 8, 0, 1, .sor, 0x0, 0xFF000000, 0x331C1, 0x0, 0x0⟩
  | .SO_Cc_CMD => ⟨0x1C10004, 0x100, 8, 0, 1, .sor, 0x0, 0x0, 0x0, 0x0, 0xF⟩
  | .SO_Cc_STAT => ⟨0x1C10008, 0x100, 8, 0, 1, .sor, 0x0, 0xFF0F0007, 0x0, 0xF00, 0x0⟩
  | .SO_Cc_BASE => ⟨0x1C1000C, 0x100, 8, 0, 1, .sor, 0x0, 0x0, 0xFFFFFFFF, 0x0, 0x0⟩
  | .SO_Cc_SIZE => ⟨0x1C10010, 0x100, 8, 0, 1, .sor, 0x0, 0x0, 0xFFFFFFFF, 0x0, 0x0⟩
  | .SO_Cc_PRE => ⟨0x1C10014, 0x100, 8, 0, 1, .sor, 0x0, 0x0, 0xFFFFFFF, 0x0, 0x0⟩
  | .SO_Cc_POST => ⟨0x1C10018, 0x100, 8, 0, 1, .sor, 0x0, 0x0, 0xFFFFFFF, 0x0, 0x0⟩
  | .SO_Cc_RATE => ⟨0x1C1001C, 0x100, 8, 0, 1, .sor, 0x0, 0x0, 0xF03FFFFF, 0x0, 0x0⟩
  | .SO_Cc_TRG0 => ⟨0x1C10020, 0x100, 8, 0, 1, .sor, 0x0, 0x0, 0xFC3FFFFF, 0x0, 0x0⟩
  | .SO_Cc_TRG1 => ⟨0x1C10024, 0x100, 8, 0, 1, .sor, 0x0, 0x0, 0xFC3FFFFF, 0x0, 0x0⟩
  | .SO_Cc_T0A => ⟨0x1C10028, 0x100, 8, 0, 1, .sor, 0x0, 0x0, 0xFFFFFFFF, 0x0, 0x0⟩
  | .SO_Cc_T0B => ⟨0x1C1002C, 0x100, 8, 0, 1, .sor, 0x0, 0x0, 0xFFFFFFFF, 0x0, 0x0⟩
  | .SO_Cc_T1A => ⟨0x1C10030, 0x100, 8, 0, 1, .sor, 0x0, 0x0, 0xFFFFFFFF, 0x0, 0x0⟩
  | .SO_Cc_T1B => ⟨0x1C10034, 0x100, 8, 0, 1, .sor, 0x0, 0x0, 0xFFFFFFFF, 0x0, 0x0⟩
  | .SO_Cc_TIME => ⟨0x1C10038, 0x100, 8, 0, 1, .sor, 0x0, 0x0, 0xFFFFFFFF, 0x0, 0x0⟩
  | .SO_Cc_WIN => ⟨0x1C1003C, 0x100, 8, 0, 1, .sor, 0x0, 0x0, 0xFFFFFF, 0x0, 0x0⟩
  | .SO_Cc_MASK => ⟨0x1C10040, 0x100, 8, 0, 1, .sor, 0x0, 0x0, 0xFFFFFF, 0x0, 0x0⟩
  | .SO_Cc_TOK => ⟨0x1C10044, 0x100, 8, 0, 1, .sor, 0xFFFF, 0x0, 0xFFFF, 0x0, 0x0⟩
  | .SO_Cc_CNT => ⟨0x1C10048, 0x100, 8, 0, 1, .sor, 0x0, 0xFFFFFFFF, 0x0, 0x0, 0x0⟩
  | .SO_MISSED_TRIGc => ⟨0x1C1004C, 0x100, 8, 0, 1, .sor, 0x0, 0xFFFFFFFF, 0x0, 0x0, 0x0⟩
  | .SO_Cc_WRITTEN => ⟨0x1C10050, 0x100, 8, 0, 1, .sor, 0x0, 0xFFFFFFFF, 0x0, 0x0, 0x0⟩
  | .PW_MOD => ⟨0x1E00000, 0x0, 1, 0, 1, .crust, 0x6400, 0xFF0F0000, 0xFF03, 0x0, 0x4⟩
  | .PW_KEEPMASK => ⟨0x1E00004, 0x0, 1, 0, 1, .crust, 0x0, 0x0, 0xFFFFFF, 0x0, 0x0⟩
  | .PW_TRIM => ⟨0x1E00008, 0x0, 1, 0, 1, .crust, 0x6403, 0x0, 0xFF0F, 0x0, 0x0⟩
  | .PW_WAKE => ⟨0x1E0000C, 0x0, 1, 0, 1, .crust, 0x0, 0x0, 0x3DF, 0x0, 0x0⟩
  | .PW_WAKE_CT_LO => ⟨0x1E00010, 0x0, 1, 0, 1, .crust, 0x0, 0x0, 0xFFFFFFFF, 0x0, 0x0⟩
  | .PW_WAKE_CT_HI => ⟨0x1E00014, 0x0, 1, 0, 1, .crust, 0x0, 0x0, 0xFFFFFFFF, 0x0, 0x0⟩
  | .PW_ABORT_CNT => ⟨0x1E00018, 0x0, 1, 0, 1, .crust, 0x0, 0xFFFFFFFF, 0x0, 0x0, 0x0⟩
  | .PW_LASTREF => ⟨0x1E0001C, 0x0, 1, 0, 1, .crust, 0x1F, 0xFF00001F, 0x0, 0x0, 0x0⟩
  | .PW_LASTREF_CT_LO => ⟨0x1E00020, 0x0, 1, 0, 1, .crust, 0x0, 0xFFFFFFFF, 0x0, 0x0, 0x0⟩
  | .PW_LASTREF_CT_HI => ⟨0x1E00024, 0x0, 1, 0, 1, .crust, 0x0, 0xFFFFFFFF, 0x0, 0x0, 0x0⟩
  | .PW_OFFACC => ⟨0x1E00030, 0x0, 1, 0, 1, .crust, 0x1F, 0xFF01001F, 0x0, 0x0, 0x0⟩
  | .PW_OFFACC_ADR => ⟨0x1E00034, 0x0, 1, 0, 1, .crust, 0x0, 0xFFFFFFFF, 0x0, 0x0, 0x0⟩
  | .PW_OFFACC_CNT => ⟨0x1E00038, 0x0, 1, 0, 1, .crust, 0x0, 0xFFFFFFFF, 0x0, 0x0, 0x0⟩
  | .PW_KEEP_CTL => ⟨0x1E00040, 0x0, 1, 0, 1, .crust, 0x0, 0xFF0001FF, 0x1F0000, 0x0, 0x200⟩
  | .PW_KEEP_ADD => ⟨0x1E00044, 0x0, 1, 0, 1, .crust, 0x0, 0x0, 0x0, 0x0, 0xFFFFFFFF⟩
  | .PW_DOMd_CTL => ⟨0x1E00100, 0x10, 28, 0, 1, .crust, 0x3, 0xFFFF0000, 0x3, 0x0, 0x0⟩
  | .PW_DOMd_STAT => ⟨0x1E00104, 0x10, 28, 0, 1, .crust, 0x3, 0xFFFF0007, 0x0, 0x8, 0x0⟩
  | .PW_VOLTi_CTL => ⟨0x1E00300, 0x10, 3, 0, 1, .crust, 0x2A8, 0xFF000000, 0x303FF, 0x0, 0x0⟩
  | .PW_VOLTi_STEP => ⟨0x1E00304, 0x10, 3, 0, 1, .crust, 0x0, 0x0, 0x0, 0x0, 0x1F⟩
  | .PW_VOLTi_STAT => ⟨0x1E00308, 0x10, 3, 0, 1, .crust, 0x2A88000, 0x3FFCFFF, 0x0, 0x3000, 0x0⟩
  | .SV_HEALTHs => ⟨0x1F00000, 0x4, 18, 0, 1, .spine, 0x800000, 0xFFFFFFE2, 0x0, 0x1, 0x0⟩
  | .SV_WEAR => ⟨0x1F00048, 0x0, 1, 0, 1, .spine, 0x400000, 0x0, 0xFF00FF, 0x0, 0x0⟩
  | .SV_TOK => ⟨0x1F0004C, 0x0, 1, 0, 1, .spine, 0xFFFF, 0x0, 0xFFFF, 0x0, 0x0⟩
  | .SV_RETIRE => ⟨0x1F00050, 0x0, 1, 0, 1, .spine, 0x0, 0xFF03FFFF, 0x0, 0x0, 0xFC0000⟩
  | .SV_UNRETIRE => ⟨0x1F00054, 0x0, 1, 0, 1, .spine, 0x0, 0xFF000000, 0x0, 0x0, 0x80001F⟩
  | .SV_PLACEn => ⟨0x1F00100, 0x4, 16, 0, 1, .spine, 0xE4, 0x1FFF, 0x0, 0x0, 0x0⟩
  | .SV_PLACE_SHn => ⟨0x1F00140, 0x4, 16, 0, 1, .spine, 0xE4, 0x0, 0x1FFF, 0x0, 0x0⟩
  | .SV_PLACE_CMD => ⟨0x1F00180, 0x0, 1, 0, 1, .spine, 0x0, 0xFFF0FF02, 0x0, 0x0, 0x1⟩
  | .SV_MIG_CTL => ⟨0x1F00200, 0x0, 1, 0, 1, .spine, 0x0, 0xFF000000, 0xF0FFFC, 0x0, 0x3⟩
  | .SV_MIG_STAT => ⟨0x1F00204, 0x0, 1, 0, 1, .spine, 0x0, 0xFFFFFFF7, 0x0, 0x0, 0x0⟩
  | .SV_MIG_BCN => ⟨0x1F00208, 0x0, 1, 0, 1, .spine, 0x0, 0xFFFFFFFF, 0x0, 0x0, 0x0⟩
  | .SV_IMG_CTL => ⟨0x1F00220, 0x0, 1, 0, 1, .spine, 0x0, 0xFF000100, 0x0, 0x0, 0x3⟩
  | .SV_IMG_STAT => ⟨0x1F00224, 0x0, 1, 0, 1, .spine, 0x0, 0xFF000087, 0x0, 0x0, 0x0⟩
  | .SV_WDOG_CTL => ⟨0x1F00280, 0x0, 1, 0, 1, .crust, 0x3E800, 0xFF000000, 0xFFFF03, 0x0, 0x0⟩
  | .SV_WDOG_KICK => ⟨0x1F00284, 0x0, 1, 0, 1, .crust, 0x0, 0x0, 0x0, 0x0, 0xFFFF⟩
  | .SV_WDOG_STAT => ⟨0x1F00288, 0x0, 1, 0, 1, .crust, 0x0, 0xFFFF0000, 0x0, 0x3, 0x0⟩
  | .SV_FORCE => ⟨0x1F00300, 0x0, 1, 0, 1, .crust, 0x0, 0xFF000000, 0x0, 0x0, 0x1F⟩
  | .SV_ECCm => ⟨0x1F00400, 0x4, 3, 0, 1, .spine, 0x0, 0xFFFFFFFF, 0x0, 0x0, 0x0⟩
  | .SV_JNL_HEAD => ⟨0x1F00500, 0x0, 1, 0, 1, .crust, 0x0, 0xFFFFFFFF, 0x0, 0x0, 0x0⟩
  | .SV_JNL_SEL => ⟨0x1F00504, 0x0, 1, 0, 1, .crust, 0x0, 0x0, 0xFFFFFFFF, 0x0, 0x0⟩
  | .SV_JNL_STAT => ⟨0x1F00508, 0x0, 1, 0, 1, .crust, 0x0, 0x3, 0x0, 0x0, 0x0⟩
  | .SV_JNL_DATAk => ⟨0x1F00540, 0x4, 16, 0, 1, .crust, 0x0, 0xFFFFFFFF, 0x0, 0x0, 0x0⟩
  | .HS_VECv_CTL => ⟨0x2000000, 0x4, 64, 0, 1, .hst, 0x0, 0x0, 0xFF03, 0x0, 0x0⟩
  | .HS_VPEND_LO => ⟨0x2000100, 0x0, 1, 0, 1, .hst, 0x0, 0x0, 0x0, 0xFFFFFFFF, 0x0⟩
  | .HS_VPEND_HI => ⟨0x2000104, 0x0, 1, 0, 1, .hst, 0x0, 0x0, 0x0, 0xFFFFFFFF, 0x0⟩
  | .HS_DB => ⟨0x2000108, 0x0, 1, 0, 1, .hst, 0x0, 0x0, 0x0, 0x0, 0x3F⟩
  | .HS_MBX_TOK => ⟨0x2000110, 0x0, 1, 0, 1, .hst, 0xFFFF, 0xFF000000, 0xFFFF, 0x0, 0x0⟩
  | .HS_MBX_DATA => ⟨0x2000114, 0x0, 1, 0, 1, .hst, 0x0, 0x0, 0x0, 0x0, 0xFFFFFFFF⟩
  | .HS_VCNTv => ⟨0x2000200, 0x4, 64, 0, 1, .hst, 0x0, 0xFFFFFFFF, 0x0, 0x0, 0x0⟩
  | .HS_BOOT_STAT => ⟨0x2000400, 0x0, 1, 0, 1, .hst, 0x0, 0xFFFFFF17, 0x0, 0x0, 0x0⟩
  | .HS_IMG_CMD => ⟨0x2000410, 0x0, 1, 0, 1, .hst, 0x0, 0xFF000000, 0x10, 0x0, 0xF⟩
  | .HS_IMG_SRC => ⟨0x2000414, 0x0, 1, 0, 1, .hst, 0x0, 0x0, 0xFFFFFFFF, 0x0, 0x0⟩
  | .HS_IMG_DST => ⟨0x2000418, 0x0, 1, 0, 1, .hst, 0x0, 0x0, 0xFFFFFFFF, 0x0, 0x0⟩
  | .HS_IMG_LEN => ⟨0x200041C, 0x0, 1, 0, 1, .hst, 0x0, 0x0, 0xFFFFFFFF, 0x0, 0x0⟩
  | .HS_IMG_STAT => ⟨0x2000420, 0x0, 1, 0, 1, .hst, 0x0, 0xFF000037, 0x0, 0x0, 0x0⟩
  | .HS_HEn_CTL => ⟨0x2010000, 0x1000, 2, 0, 1, .hst, 0x0, 0xFF000000, 0x11, 0x0, 0x0⟩
  | .HS_HEn_MAC_LO => ⟨0x2010004, 0x1000, 2, 0, 1, .hst, 0x0, 0x0, 0xFFFFFFFF, 0x0, 0x0⟩
  | .HS_HEn_MAC_HI => ⟨0x2010008, 0x1000, 2, 0, 1, .hst, 0x0, 0x0, 0xFFFF, 0x0, 0x0⟩
  | .HS_HEn_LAT => ⟨0x201000C, 0x1000, 2, 0, 1, .hst, 0x0, 0x0, 0xFFFFFFFF, 0x0, 0x0⟩
  | .HS_HEn_CNT => ⟨0x2010010, 0x1000, 2, 0, 1, .hst, 0x0, 0xFFFFFFFF, 0x0, 0x0, 0x0⟩
  | .HS_HEn_TXq_CTL => ⟨0x2010100, 0x1000, 2, 16, 8, .hst, 0x0, 0x0, 0xF0101, 0x0, 0x0⟩
  | .HS_HEn_TXq_BASE => ⟨0x2010104, 0x1000, 2, 16, 8, .hst, 0x0, 0x0, 0xFFFFFF, 0x0, 0x0⟩
  | .HS_HEn_TXq_IDX => ⟨0x2010108, 0x1000, 2, 16, 8, .hst, 0x0, 0xFFF0000, 0xFFF, 0x0, 0x0⟩
  | .HS_HEn_TXq_CNT => ⟨0x201010C, 0x1000, 2, 16, 8, .hst, 0x0, 0xFFFFFFFF, 0x0, 0x0, 0x0⟩
  | .HS_HEn_RXr_CTL => ⟨0x2010200, 0x1000, 2, 16, 2, .hst, 0x0, 0x0, 0xF0001, 0x0, 0x0⟩
  | .HS_HEn_RXr_BASE => ⟨0x2010204, 0x1000, 2, 16, 2, .hst, 0x0, 0x0, 0xFFFFFF, 0x0, 0x0⟩
  | .HS_HEn_RXr_IDX => ⟨0x2010208, 0x1000, 2, 16, 2, .hst, 0x0, 0xFFF0000, 0xFFF, 0x0, 0x0⟩
  | .HS_HEn_RXr_CNT => ⟨0x201020C, 0x1000, 2, 16, 2, .hst, 0x0, 0xFFFFFFFF, 0x0, 0x0, 0x0⟩
  | .CH_CTL => ⟨0x2100000, 0x0, 1, 0, 1, .chn, 0x20000, 0xFF000000, 0xF0301, 0x0, 0x0⟩
  | .CH_STAT => ⟨0x2100004, 0x0, 1, 0, 1, .chn, 0x0, 0xFFFFF033, 0x0, 0x100, 0x0⟩
  | .CH_REP_STAT => ⟨0x2100008, 0x0, 1, 0, 1, .chn, 0x0, 0xFFFFFFFF, 0x0, 0x0, 0x0⟩
  | .CH_REPr_BASE => ⟨0x2100100, 0x8, 8, 0, 1, .chn, 0x0, 0x0, 0xFFFFFF, 0x0, 0x0⟩
  | .CH_REPr_LEN => ⟨0x2100104, 0x8, 8, 0, 1, .chn, 0x0, 0x0, 0xFFFFFF, 0x0, 0x0⟩
  | .CH_BRIDGEk => ⟨0x2100200, 0x4, 16, 0, 1, .chn, 0x0, 0x0, 0xBFFF0FFF, 0x0, 0x0⟩
  | .LC_STATE => ⟨0x2200000, 0x0, 1, 0, 1, .hst, 0x0, 0xFFFFF3, 0x0, 0x0, 0x0⟩
  | .LC_CMD => ⟨0x2200004, 0x0, 1, 0, 1, .hst, 0x0, 0xFF000000, 0x0, 0x0, 0xF⟩
  | .LC_CHALk => ⟨0x2200010, 0x4, 8, 0, 1, .hst, 0x0, 0xFFFFFFFF, 0x0, 0x0, 0x0⟩
  | .LC_DATAk => ⟨0x2200040, 0x4, 16, 0, 1, .hst, 0x0, 0x0, 0x0, 0x0, 0xFFFFFFFF⟩

/-- The registers of the GLOBAL block. -/
def globalRegs : List Reg :=
  [.GLOBAL_ID, .GLOBAL_UID_LO, .GLOBAL_UID_HI, .GLOBAL_MAPVER, .GLOBAL_BADACC_CNT, .GLOBAL_BADACC,
   .GLOBAL_BADACC_ADR, .GLOBAL_SCRATCH, .GLOBAL_RESET, .GLOBAL_LASTREF, .GLOBAL_LASTREF_ADR, .GLOBAL_REFCNTb,
   .GLOBAL_AG_EN]

/-- The registers of the CLK block. -/
def clkRegs : List Reg :=
  [.CLK_REF, .CLK_DVFS, .CLK_STAT]

/-- The registers of the TIM block. -/
def timRegs : List Reg :=
  [.TIM_CT_NS_LO, .TIM_CT_NS_HI, .TIM_CT_FRAC, .TIM_CT_STAT, .TIM_CT_INC_LO, .TIM_CT_INC_HI, .TIM_CT_SET_LO,
   .TIM_CT_SET_HI, .TIM_PT_NS_LO, .TIM_PT_NS_HI, .TIM_PT_FRAC, .TIM_PT_CTL, .TIM_PT_INC_LO, .TIM_PT_INC_HI,
   .TIM_PT_ADJ, .TIM_CYCLE, .TIM_BCN_LO, .TIM_BCN_HI, .TIM_PT_SET_LO, .TIM_PT_SET_HI, .TIM_CAPn_CTL,
   .TIM_CAPn_CT_LO, .TIM_CAPn_CT_HI, .TIM_CAPn_PT_LO, .TIM_CAPn_PT_HI]

/-- The registers of the CAL block. -/
def calRegs : List Reg :=
  [.CAL_SEC_LO, .CAL_SEC_HI, .CAL_SUBSEC, .CAL_BD0, .CAL_BD1, .CAL_SET_LO, .CAL_SET_HI, .CAL_CTL, .CAL_TRIM,
   .CAL_STAT, .CAL_UTC]

/-- The registers of the KL block. -/
def klRegs : List Reg :=
  [.KL_GLOBAL, .KL_GADDR_LO, .KL_GADDR_HI, .KL_MODE_SW, .KL_MODE_SWB_LO, .KL_MODE_SWB_HI, .KL_MODE_FAIL,
   .KL_MODE_STATm, .KL_MODE_CRCm, .KL_MODE_ERRm, .KL_TIME_CTL, .KL_TIME_STAT, .KL_TIME_ERR, .KL_TIME_CHAIN,
   .KL_PORTn_CTL, .KL_PORTn_STAT, .KL_PORTn_CNTk, .KL_PORTn_EVTX_BASE, .KL_PORTn_EVRX_BASE, .KL_PORTn_EVIDX,
   .KL_PORTn_EVTOK, .KL_PORTn_LAT, .KL_SCHEDm_Ww]

/-- The registers of the LV block. -/
def lvRegs : List Reg :=
  [.LV_TPL_CMD, .LV_FLOW_CMD, .LV_STAT, .LV_FAULT, .LV_DROP, .LV_CNTk, .LV_TICKk_CTL, .LV_TICKk_OFS,
   .LV_TPLt_Ww, .LV_FLOWf_Ww]

/-- The registers of the VC block. -/
def vcRegs : List Reg :=
  [.VC_CTLn, .VC_STATn, .VC_PCn, .VC_EXCn]

/-- The registers of the KN block. -/
def knRegs : List Reg :=
  [.KN_CTL, .KN_AGMAP_SH, .KN_AGMAP, .KN_CLk_STAT, .KN_CLk_CNTj, .KN_GUARD, .KN_GUARD_CNT, .KN_GUARD_VAL,
   .KN_GUARD_TAG, .KN_MODEL, .KN_MODEL_CNT, .KN_MODEL_VALID, .KN_SLOTs_STAT, .KN_SLOTs_SIG, .KN_PLAN_CTL,
   .KN_PLAN_ADR, .KN_PLAN_VF_LO, .KN_PLAN_VF_HI, .KN_PLAN_STAT, .KN_PLAN_RUN, .KN_PLAN_STOP, .KN_RANGE_CTLc,
   .KN_RANGE_MINc, .KN_RANGE_MAXc]

/-- The registers of the AX block. -/
def axRegs : List Reg :=
  [.AX_CTLn, .AX_TGTn, .AX_VELn, .AX_ACCn, .AX_DECn, .AX_JRKn, .AX_CMDn, .AX_STATn, .AX_CNTAn, .AX_CNTBn,
   .AX_POSn, .AX_SPDn, .AX_DECUn, .AX_INn, .AX_HOMEn, .AX_HSPDn, .AX_HBSPDn, .AX_HPOSn, .AX_HDISTn,
   .AX_SSCALEn, .AX_DRVn, .AX_SHIFTn, .AX_STALLn, .AX_SWINn, .AX_TOKn, .AX_CMPk_CTL, .AX_CMPk_POS,
   .AX_CMPk_INT, .AX_CMPk_CNT, .AX_CMPk_STAT, .AX_CMPk_OUT, .AX_CMPk_CT_LO, .AX_CMPk_CT_HI, .AX_STj_CTL,
   .AX_STj_TIM, .AX_STj_POS]

/-- The registers of the FB block. -/
def fbRegs : List Reg :=
  [.FB_CFGn, .FB_FILTn, .FB_THRn, .FB_AMPn, .FB_SCALEn, .FB_OFSn, .FB_CNTn, .FB_POSn, .FB_SPDn, .FB_LOADn,
   .FB_CMDn, .FB_IDXn, .FB_IDXCT_LOn, .FB_IDXCT_HIn, .FB_SSIn, .FB_SSITn, .FB_SSIJn, .FB_SPDCn, .FB_FLTn,
   .FB_STATn, .FB_CNTAn, .FB_CNTBn, .FB_TOKn, .FB_REPn]

/-- The registers of the TH block. -/
def thRegs : List Reg :=
  [.TH_STAT, .TH_FAULT, .TH_DEG, .TH_SET_CRC, .TH_SI, .TH_SIFLT, .TH_SENS_CNT, .TH_SSM_STAT, .TH_SSM_LOAD,
   .TH_SSM_BOUND, .TH_SSM_CHK, .TH_PERS_LO, .TH_PERS_HI, .TH_AGn_SSM, .TH_AGn_DMIN, .TH_AGn_SP, .TH_AGn_LIMIT,
   .TH_AGn_VMON, .TH_AGn_CNT, .TH_SOj_STAT, .TH_MB_CMD, .TH_MB_ADDR, .TH_MB_DATA, .TH_MB_STAT, .TH_MB_CRC,
   .TH_MB_CONFIRM, .TH_MB_ERR]

/-- The registers of the SO block. -/
def soRegs : List Reg :=
  [.SO_GLOBAL, .SO_UBASE, .SO_CHk, .SO_Cc_CTL, .SO_Cc_CMD, .SO_Cc_STAT, .SO_Cc_BASE, .SO_Cc_SIZE, .SO_Cc_PRE,
   .SO_Cc_POST, .SO_Cc_RATE, .SO_Cc_TRG0, .SO_Cc_TRG1, .SO_Cc_T0A, .SO_Cc_T0B, .SO_Cc_T1A, .SO_Cc_T1B,
   .SO_Cc_TIME, .SO_Cc_WIN, .SO_Cc_MASK, .SO_Cc_TOK, .SO_Cc_CNT, .SO_MISSED_TRIGc, .SO_Cc_WRITTEN]

/-- The registers of the PW block. -/
def pwRegs : List Reg :=
  [.PW_MOD, .PW_KEEPMASK, .PW_TRIM, .PW_WAKE, .PW_WAKE_CT_LO, .PW_WAKE_CT_HI, .PW_ABORT_CNT, .PW_LASTREF,
   .PW_LASTREF_CT_LO, .PW_LASTREF_CT_HI, .PW_OFFACC, .PW_OFFACC_ADR, .PW_OFFACC_CNT, .PW_KEEP_CTL,
   .PW_KEEP_ADD, .PW_DOMd_CTL, .PW_DOMd_STAT, .PW_VOLTi_CTL, .PW_VOLTi_STEP, .PW_VOLTi_STAT]

/-- The registers of the SV block. -/
def svRegs : List Reg :=
  [.SV_HEALTHs, .SV_WEAR, .SV_TOK, .SV_RETIRE, .SV_UNRETIRE, .SV_PLACEn, .SV_PLACE_SHn, .SV_PLACE_CMD,
   .SV_MIG_CTL, .SV_MIG_STAT, .SV_MIG_BCN, .SV_IMG_CTL, .SV_IMG_STAT, .SV_WDOG_CTL, .SV_WDOG_KICK,
   .SV_WDOG_STAT, .SV_FORCE, .SV_ECCm, .SV_JNL_HEAD, .SV_JNL_SEL, .SV_JNL_STAT, .SV_JNL_DATAk]

/-- The registers of the HS block. -/
def hsRegs : List Reg :=
  [.HS_VECv_CTL, .HS_VPEND_LO, .HS_VPEND_HI, .HS_DB, .HS_MBX_TOK, .HS_MBX_DATA, .HS_VCNTv, .HS_BOOT_STAT,
   .HS_IMG_CMD, .HS_IMG_SRC, .HS_IMG_DST, .HS_IMG_LEN, .HS_IMG_STAT, .HS_HEn_CTL, .HS_HEn_MAC_LO,
   .HS_HEn_MAC_HI, .HS_HEn_LAT, .HS_HEn_CNT, .HS_HEn_TXq_CTL, .HS_HEn_TXq_BASE, .HS_HEn_TXq_IDX,
   .HS_HEn_TXq_CNT, .HS_HEn_RXr_CTL, .HS_HEn_RXr_BASE, .HS_HEn_RXr_IDX, .HS_HEn_RXr_CNT]

/-- The registers of the CH block. -/
def chRegs : List Reg :=
  [.CH_CTL, .CH_STAT, .CH_REP_STAT, .CH_REPr_BASE, .CH_REPr_LEN, .CH_BRIDGEk]

/-- The registers of the LC block. -/
def lcRegs : List Reg :=
  [.LC_STATE, .LC_CMD, .LC_CHALk, .LC_DATAk]

/-- The registers of the block that occupies an offset (R608); none in the reserved range. -/
def blockRegs (off : Nat) : List Reg :=
  if off < 0x0100000 then globalRegs
  else if off < 0x0200000 then clkRegs
  else if off < 0x0208000 then timRegs
  else if off < 0x0400000 then calRegs
  else if off < 0x0800000 then klRegs
  else if off < 0x0C00000 then lvRegs
  else if off < 0x1000000 then vcRegs
  else if off < 0x1400000 then knRegs
  else if off < 0x1600000 then axRegs
  else if off < 0x1800000 then fbRegs
  else if off < 0x1C00000 then thRegs
  else if off < 0x1E00000 then soRegs
  else if off < 0x1F00000 then pwRegs
  else if off < 0x2000000 then svRegs
  else if off < 0x2100000 then hsRegs
  else if off < 0x2200000 then chRegs
  else if off < 0x2300000 then lcRegs
  else []

/-- A named field of a register: its bits `hi` to `lo`. -/
structure Field where
  reg : Reg
  hi : Nat
  lo : Nat
  deriving DecidableEq, Repr

def F.GLOBAL_ID_PART : Field := ⟨.GLOBAL_ID, 31, 16⟩
def F.GLOBAL_ID_STEP_MAJ : Field := ⟨.GLOBAL_ID, 15, 12⟩
def F.GLOBAL_ID_STEP_MIN : Field := ⟨.GLOBAL_ID, 11, 8⟩
def F.GLOBAL_ID_VARIANT : Field := ⟨.GLOBAL_ID, 7, 0⟩
def F.GLOBAL_UID_LO_UID : Field := ⟨.GLOBAL_UID_LO, 31, 0⟩
def F.GLOBAL_UID_HI_UID : Field := ⟨.GLOBAL_UID_HI, 31, 0⟩
def F.GLOBAL_MAPVER_MAP : Field := ⟨.GLOBAL_MAPVER, 15, 0⟩
def F.GLOBAL_BADACC_CNT_COUNT : Field := ⟨.GLOBAL_BADACC_CNT, 31, 0⟩
def F.GLOBAL_BADACC_REQUESTER : Field := ⟨.GLOBAL_BADACC, 31, 24⟩
def F.GLOBAL_BADACC_WRITE : Field := ⟨.GLOBAL_BADACC, 16, 16⟩
def F.GLOBAL_BADACC_KIND : Field := ⟨.GLOBAL_BADACC, 2, 1⟩
def F.GLOBAL_BADACC_BAD : Field := ⟨.GLOBAL_BADACC, 0, 0⟩
def F.GLOBAL_BADACC_ADR_ADDR : Field := ⟨.GLOBAL_BADACC_ADR, 31, 0⟩
def F.GLOBAL_SCRATCH_VALUE : Field := ⟨.GLOBAL_SCRATCH, 31, 0⟩
def F.GLOBAL_RESET_BOOT_CNT : Field := ⟨.GLOBAL_RESET, 31, 16⟩
def F.GLOBAL_RESET_CAUSE : Field := ⟨.GLOBAL_RESET, 3, 0⟩
def F.GLOBAL_LASTREF_CODE : Field := ⟨.GLOBAL_LASTREF, 31, 24⟩
def F.GLOBAL_LASTREF_REQUESTER : Field := ⟨.GLOBAL_LASTREF, 23, 16⟩
def F.GLOBAL_LASTREF_BLOCK : Field := ⟨.GLOBAL_LASTREF, 7, 0⟩
def F.GLOBAL_LASTREF_ADR_ADDR : Field := ⟨.GLOBAL_LASTREF_ADR, 31, 0⟩
def F.GLOBAL_REFCNTb_COUNT : Field := ⟨.GLOBAL_REFCNTb, 31, 0⟩
def F.GLOBAL_AG_EN_REFUSE : Field := ⟨.GLOBAL_AG_EN, 31, 24⟩
def F.GLOBAL_AG_EN_REF_AG : Field := ⟨.GLOBAL_AG_EN, 23, 20⟩
def F.GLOBAL_AG_EN_EN : Field := ⟨.GLOBAL_AG_EN, 15, 0⟩
def F.CLK_REF_REFUSE : Field := ⟨.CLK_REF, 31, 24⟩
def F.CLK_REF_ACTIVE : Field := ⟨.CLK_REF, 9, 8⟩
def F.CLK_REF_SEL : Field := ⟨.CLK_REF, 5, 4⟩
def F.CLK_REF_FALLBACK : Field := ⟨.CLK_REF, 0, 0⟩
def F.CLK_DVFS_REFUSE : Field := ⟨.CLK_DVFS, 31, 24⟩
def F.CLK_DVFS_SOLV : Field := ⟨.CLK_DVFS, 11, 8⟩
def F.CLK_DVFS_CORE_B : Field := ⟨.CLK_DVFS, 7, 4⟩
def F.CLK_DVFS_CORE_A : Field := ⟨.CLK_DVFS, 3, 0⟩
def F.CLK_STAT_LOSS_CNT : Field := ⟨.CLK_STAT, 31, 24⟩
def F.CLK_STAT_FREQ_CNT : Field := ⟨.CLK_STAT, 23, 16⟩
def F.CLK_STAT_DIV_CNT : Field := ⟨.CLK_STAT, 15, 8⟩
def F.CLK_STAT_PLL_LOCK : Field := ⟨.CLK_STAT, 7, 7⟩
def F.CLK_STAT_HOLDOVER : Field := ⟨.CLK_STAT, 6, 6⟩
def F.CLK_STAT_PCIE_REF : Field := ⟨.CLK_STAT, 5, 5⟩
def F.CLK_STAT_EXT_PRESENT : Field := ⟨.CLK_STAT, 4, 4⟩
def F.CLK_STAT_DIV_FAULT : Field := ⟨.CLK_STAT, 3, 3⟩
def F.CLK_STAT_REF_FREQ : Field := ⟨.CLK_STAT, 2, 2⟩
def F.CLK_STAT_REF_LOSS : Field := ⟨.CLK_STAT, 1, 1⟩
def F.TIM_CT_NS_LO_NS : Field := ⟨.TIM_CT_NS_LO, 31, 0⟩
def F.TIM_CT_NS_HI_NS : Field := ⟨.TIM_CT_NS_HI, 31, 0⟩
def F.TIM_CT_FRAC_FRAC : Field := ⟨.TIM_CT_FRAC, 31, 0⟩
def F.TIM_CT_STAT_REFUSE : Field := ⟨.TIM_CT_STAT, 31, 24⟩
def F.TIM_CT_STAT_CLAMP_CNT : Field := ⟨.TIM_CT_STAT, 23, 16⟩
def F.TIM_CT_STAT_HOLD_CNT : Field := ⟨.TIM_CT_STAT, 15, 8⟩
def F.TIM_CT_STAT_INVALID : Field := ⟨.TIM_CT_STAT, 3, 3⟩
def F.TIM_CT_STAT_CLAMP : Field := ⟨.TIM_CT_STAT, 2, 2⟩
def F.TIM_CT_STAT_SRC : Field := ⟨.TIM_CT_STAT, 1, 0⟩
def F.TIM_CT_INC_LO_FRAC : Field := ⟨.TIM_CT_INC_LO, 31, 0⟩
def F.TIM_CT_INC_HI_INT : Field := ⟨.TIM_CT_INC_HI, 7, 0⟩
def F.TIM_CT_SET_LO_NS : Field := ⟨.TIM_CT_SET_LO, 31, 0⟩
def F.TIM_CT_SET_HI_NS : Field := ⟨.TIM_CT_SET_HI, 31, 0⟩
def F.TIM_PT_NS_LO_NS : Field := ⟨.TIM_PT_NS_LO, 31, 0⟩
def F.TIM_PT_NS_HI_NS : Field := ⟨.TIM_PT_NS_HI, 31, 0⟩
def F.TIM_PT_FRAC_FRAC : Field := ⟨.TIM_PT_FRAC, 31, 0⟩
def F.TIM_PT_CTL_REFUSE : Field := ⟨.TIM_PT_CTL, 31, 24⟩
def F.TIM_PT_CTL_VTO : Field := ⟨.TIM_PT_CTL, 23, 16⟩
def F.TIM_PT_CTL_STALE_CNT : Field := ⟨.TIM_PT_CTL, 15, 8⟩
def F.TIM_PT_CTL_STALE : Field := ⟨.TIM_PT_CTL, 2, 2⟩
def F.TIM_PT_CTL_VALID : Field := ⟨.TIM_PT_CTL, 0, 0⟩
def F.TIM_PT_INC_LO_FRAC : Field := ⟨.TIM_PT_INC_LO, 31, 0⟩
def F.TIM_PT_INC_HI_INT : Field := ⟨.TIM_PT_INC_HI, 7, 0⟩
def F.TIM_PT_ADJ_ADJ : Field := ⟨.TIM_PT_ADJ, 31, 0⟩
def F.TIM_CYCLE_REFUSE : Field := ⟨.TIM_CYCLE, 31, 24⟩
def F.TIM_CYCLE_BASE : Field := ⟨.TIM_CYCLE, 17, 16⟩
def F.TIM_CYCLE_CUTOFF : Field := ⟨.TIM_CYCLE, 15, 4⟩
def F.TIM_CYCLE_PHASE : Field := ⟨.TIM_CYCLE, 3, 0⟩
def F.TIM_BCN_LO_BCN : Field := ⟨.TIM_BCN_LO, 31, 0⟩
def F.TIM_BCN_HI_BCN : Field := ⟨.TIM_BCN_HI, 31, 0⟩
def F.TIM_PT_SET_LO_NS : Field := ⟨.TIM_PT_SET_LO, 31, 0⟩
def F.TIM_PT_SET_HI_NS : Field := ⟨.TIM_PT_SET_HI, 31, 0⟩
def F.TIM_CAPn_CTL_OVR_CNT : Field := ⟨.TIM_CAPn_CTL, 31, 24⟩
def F.TIM_CAPn_CTL_SRC : Field := ⟨.TIM_CAPn_CTL, 23, 16⟩
def F.TIM_CAPn_CTL_EDGE : Field := ⟨.TIM_CAPn_CTL, 9, 8⟩
def F.TIM_CAPn_CTL_SWTRIG : Field := ⟨.TIM_CAPn_CTL, 2, 2⟩
def F.TIM_CAPn_CTL_FULL : Field := ⟨.TIM_CAPn_CTL, 1, 1⟩
def F.TIM_CAPn_CTL_EN : Field := ⟨.TIM_CAPn_CTL, 0, 0⟩
def F.TIM_CAPn_CT_LO_NS : Field := ⟨.TIM_CAPn_CT_LO, 31, 0⟩
def F.TIM_CAPn_CT_HI_NS : Field := ⟨.TIM_CAPn_CT_HI, 31, 0⟩
def F.TIM_CAPn_PT_LO_NS : Field := ⟨.TIM_CAPn_PT_LO, 31, 0⟩
def F.TIM_CAPn_PT_HI_NS : Field := ⟨.TIM_CAPn_PT_HI, 31, 0⟩
def F.CAL_SEC_LO_SEC : Field := ⟨.CAL_SEC_LO, 31, 0⟩
def F.CAL_SEC_HI_SEC : Field := ⟨.CAL_SEC_HI, 31, 0⟩
def F.CAL_SUBSEC_SUBSEC : Field := ⟨.CAL_SUBSEC, 14, 0⟩
def F.CAL_BD0_YEAR : Field := ⟨.CAL_BD0, 31, 16⟩
def F.CAL_BD0_MONTH : Field := ⟨.CAL_BD0, 11, 8⟩
def F.CAL_BD0_DAY : Field := ⟨.CAL_BD0, 7, 3⟩
def F.CAL_BD0_WDAY : Field := ⟨.CAL_BD0, 2, 0⟩
def F.CAL_BD1_LEAP_NOW : Field := ⟨.CAL_BD1, 24, 24⟩
def F.CAL_BD1_HOUR : Field := ⟨.CAL_BD1, 20, 16⟩
def F.CAL_BD1_MIN : Field := ⟨.CAL_BD1, 13, 8⟩
def F.CAL_BD1_SEC : Field := ⟨.CAL_BD1, 5, 0⟩
def F.CAL_SET_LO_SEC : Field := ⟨.CAL_SET_LO, 31, 0⟩
def F.CAL_SET_HI_SEC : Field := ⟨.CAL_SET_HI, 31, 0⟩
def F.CAL_CTL_REFUSE : Field := ⟨.CAL_CTL, 31, 24⟩
def F.CAL_CTL_DISC : Field := ⟨.CAL_CTL, 0, 0⟩
def F.CAL_TRIM_TRIM : Field := ⟨.CAL_TRIM, 10, 0⟩
def F.CAL_STAT_LOST_CNT : Field := ⟨.CAL_STAT, 31, 24⟩
def F.CAL_STAT_BAT_CNT : Field := ⟨.CAL_STAT, 23, 16⟩
def F.CAL_STAT_LOST : Field := ⟨.CAL_STAT, 3, 3⟩
def F.CAL_STAT_BAT_USED : Field := ⟨.CAL_STAT, 2, 2⟩
def F.CAL_STAT_BATLOW : Field := ⟨.CAL_STAT, 1, 1⟩
def F.CAL_STAT_VALID : Field := ⟨.CAL_STAT, 0, 0⟩
def F.CAL_UTC_LEAP : Field := ⟨.CAL_UTC, 17, 16⟩
def F.CAL_UTC_UTC_OFS : Field := ⟨.CAL_UTC, 15, 0⟩
def F.KL_GLOBAL_REFUSE : Field := ⟨.KL_GLOBAL, 31, 24⟩
def F.KL_GLOBAL_INIT_MODE : Field := ⟨.KL_GLOBAL, 18, 16⟩
def F.KL_GLOBAL_ETYPE : Field := ⟨.KL_GLOBAL, 15, 0⟩
def F.KL_GADDR_LO_ADDR : Field := ⟨.KL_GADDR_LO, 31, 0⟩
def F.KL_GADDR_HI_ADDR : Field := ⟨.KL_GADDR_HI, 15, 0⟩
def F.KL_MODE_SW_REFUSE : Field := ⟨.KL_MODE_SW, 31, 24⟩
def F.KL_MODE_SW_DEFER : Field := ⟨.KL_MODE_SW, 23, 16⟩
def F.KL_MODE_SW_AGREE_ID : Field := ⟨.KL_MODE_SW, 15, 8⟩
def F.KL_MODE_SW_REQ : Field := ⟨.KL_MODE_SW, 7, 7⟩
def F.KL_MODE_SW_PENDING : Field := ⟨.KL_MODE_SW, 6, 6⟩
def F.KL_MODE_SW_ACTIVE : Field := ⟨.KL_MODE_SW, 5, 3⟩
def F.KL_MODE_SW_TARGET : Field := ⟨.KL_MODE_SW, 2, 0⟩
def F.KL_MODE_SWB_LO_BCN : Field := ⟨.KL_MODE_SWB_LO, 31, 0⟩
def F.KL_MODE_SWB_HI_BCN : Field := ⟨.KL_MODE_SWB_HI, 31, 0⟩
def F.KL_MODE_FAIL_REASON : Field := ⟨.KL_MODE_FAIL, 31, 24⟩
def F.KL_MODE_FAIL_ABORT_CNT : Field := ⟨.KL_MODE_FAIL, 23, 16⟩
def F.KL_MODE_FAIL_NODE : Field := ⟨.KL_MODE_FAIL, 11, 0⟩
def F.KL_MODE_STATm_REFUSE : Field := ⟨.KL_MODE_STATm, 31, 24⟩
def F.KL_MODE_STATm_STATE : Field := ⟨.KL_MODE_STATm, 17, 16⟩
def F.KL_MODE_STATm_CHECK : Field := ⟨.KL_MODE_STATm, 15, 15⟩
def F.KL_MODE_STATm_LEN : Field := ⟨.KL_MODE_STATm, 12, 0⟩
def F.KL_MODE_CRCm_CRC : Field := ⟨.KL_MODE_CRCm, 31, 0⟩
def F.KL_MODE_ERRm_ENTRY : Field := ⟨.KL_MODE_ERRm, 12, 0⟩
def F.KL_TIME_CTL_REFUSE : Field := ⟨.KL_TIME_CTL, 31, 24⟩
def F.KL_TIME_CTL_TR_LIMIT : Field := ⟨.KL_TIME_CTL, 15, 8⟩
def F.KL_TIME_CTL_RANK : Field := ⟨.KL_TIME_CTL, 5, 4⟩
def F.KL_TIME_CTL_CAP : Field := ⟨.KL_TIME_CTL, 3, 3⟩
def F.KL_TIME_CTL_REF_PORT : Field := ⟨.KL_TIME_CTL, 2, 0⟩
def F.KL_TIME_STAT_FAIL_CNT : Field := ⟨.KL_TIME_STAT, 31, 24⟩
def F.KL_TIME_STAT_TAKEOVER_CNT : Field := ⟨.KL_TIME_STAT, 23, 16⟩
def F.KL_TIME_STAT_REF_NODE : Field := ⟨.KL_TIME_STAT, 15, 4⟩
def F.KL_TIME_STAT_CS_STATE : Field := ⟨.KL_TIME_STAT, 3, 0⟩
def F.KL_TIME_ERR_ERR : Field := ⟨.KL_TIME_ERR, 31, 0⟩
def F.KL_TIME_CHAIN_CHLOSS_CNT : Field := ⟨.KL_TIME_CHAIN, 31, 24⟩
def F.KL_TIME_CHAIN_SRC_PORT : Field := ⟨.KL_TIME_CHAIN, 9, 8⟩
def F.KL_TIME_CHAIN_POSITION : Field := ⟨.KL_TIME_CHAIN, 1, 0⟩
def F.KL_PORTn_CTL_REFUSE : Field := ⟨.KL_PORTn_CTL, 31, 24⟩
def F.KL_PORTn_CTL_MISS_LIMIT : Field := ⟨.KL_PORTn_CTL, 19, 16⟩
def F.KL_PORTn_CTL_RING : Field := ⟨.KL_PORTn_CTL, 8, 8⟩
def F.KL_PORTn_CTL_SPEED : Field := ⟨.KL_PORTn_CTL, 4, 4⟩
def F.KL_PORTn_CTL_CNT_CLR : Field := ⟨.KL_PORTn_CTL, 1, 1⟩
def F.KL_PORTn_CTL_EN : Field := ⟨.KL_PORTn_CTL, 0, 0⟩
def F.KL_PORTn_STAT_ADMIT_REFUSE : Field := ⟨.KL_PORTn_STAT, 31, 24⟩
def F.KL_PORTn_STAT_PRESENT : Field := ⟨.KL_PORTn_STAT, 22, 12⟩
def F.KL_PORTn_STAT_RING_CLOSED : Field := ⟨.KL_PORTn_STAT, 2, 2⟩
def F.KL_PORTn_STAT_SYNC_OUT : Field := ⟨.KL_PORTn_STAT, 1, 1⟩
def F.KL_PORTn_STAT_LINK : Field := ⟨.KL_PORTn_STAT, 0, 0⟩
def F.KL_PORTn_CNTk_COUNT : Field := ⟨.KL_PORTn_CNTk, 31, 0⟩
def F.KL_PORTn_EVTX_BASE_BASE : Field := ⟨.KL_PORTn_EVTX_BASE, 23, 0⟩
def F.KL_PORTn_EVRX_BASE_BASE : Field := ⟨.KL_PORTn_EVRX_BASE, 23, 0⟩
def F.KL_PORTn_EVIDX_RX_TAIL : Field := ⟨.KL_PORTn_EVIDX, 29, 24⟩
def F.KL_PORTn_EVIDX_RX_HEAD : Field := ⟨.KL_PORTn_EVIDX, 21, 16⟩
def F.KL_PORTn_EVIDX_TX_TAIL : Field := ⟨.KL_PORTn_EVIDX, 13, 8⟩
def F.KL_PORTn_EVIDX_TX_HEAD : Field := ⟨.KL_PORTn_EVIDX, 5, 0⟩
def F.KL_PORTn_EVTOK_TOKEN : Field := ⟨.KL_PORTn_EVTOK, 15, 0⟩
def F.KL_PORTn_LAT_TX_EXT : Field := ⟨.KL_PORTn_LAT, 31, 16⟩
def F.KL_PORTn_LAT_RX_EXT : Field := ⟨.KL_PORTn_LAT, 15, 0⟩
def F.KL_SCHEDm_Ww_W : Field := ⟨.KL_SCHEDm_Ww, 31, 0⟩
def F.LV_TPL_CMD_REFUSE : Field := ⟨.LV_TPL_CMD, 31, 24⟩
def F.LV_TPL_CMD_OP : Field := ⟨.LV_TPL_CMD, 17, 16⟩
def F.LV_TPL_CMD_TEMPLATE : Field := ⟨.LV_TPL_CMD, 11, 0⟩
def F.LV_FLOW_CMD_REFUSE : Field := ⟨.LV_FLOW_CMD, 31, 24⟩
def F.LV_FLOW_CMD_OP : Field := ⟨.LV_FLOW_CMD, 17, 16⟩
def F.LV_FLOW_CMD_FLOW : Field := ⟨.LV_FLOW_CMD, 11, 0⟩
def F.LV_STAT_DROP : Field := ⟨.LV_STAT, 31, 31⟩
def F.LV_STAT_HELD : Field := ⟨.LV_STAT, 30, 30⟩
def F.LV_STAT_FREE : Field := ⟨.LV_STAT, 14, 0⟩
def F.LV_FAULT_CAUSE : Field := ⟨.LV_FAULT, 31, 24⟩
def F.LV_FAULT_LCORE : Field := ⟨.LV_FAULT, 23, 18⟩
def F.LV_FAULT_FLOW : Field := ⟨.LV_FAULT, 11, 0⟩
def F.LV_DROP_SRC : Field := ⟨.LV_DROP, 31, 28⟩
def F.LV_DROP_TOKEN : Field := ⟨.LV_DROP, 15, 0⟩
def F.LV_CNTk_COUNT : Field := ⟨.LV_CNTk, 31, 0⟩
def F.LV_TICKk_CTL_PHASES : Field := ⟨.LV_TICKk_CTL, 31, 16⟩
def F.LV_TICKk_CTL_TOKEN : Field := ⟨.LV_TICKk_CTL, 15, 0⟩
def F.LV_TICKk_OFS_REFUSE : Field := ⟨.LV_TICKk_OFS, 31, 24⟩
def F.LV_TICKk_OFS_EN : Field := ⟨.LV_TICKk_OFS, 16, 16⟩
def F.LV_TICKk_OFS_OFS : Field := ⟨.LV_TICKk_OFS, 9, 0⟩
def F.LV_TPLt_Ww_W : Field := ⟨.LV_TPLt_Ww, 31, 0⟩
def F.LV_FLOWf_Ww_W : Field := ⟨.LV_FLOWf_Ww, 31, 0⟩
def F.VC_CTLn_REFUSE : Field := ⟨.VC_CTLn, 31, 24⟩
def F.VC_CTLn_CLEAR : Field := ⟨.VC_CTLn, 2, 2⟩
def F.VC_CTLn_HALT : Field := ⟨.VC_CTLn, 1, 1⟩
def F.VC_CTLn_STEP : Field := ⟨.VC_CTLn, 0, 0⟩
def F.VC_STATn_EXC_CNT : Field := ⟨.VC_STATn, 31, 24⟩
def F.VC_STATn_LOGICAL : Field := ⟨.VC_STATn, 23, 16⟩
def F.VC_STATn_MODE : Field := ⟨.VC_STATn, 8, 8⟩
def F.VC_STATn_RRB_HI : Field := ⟨.VC_STATn, 7, 4⟩
def F.VC_STATn_STATE : Field := ⟨.VC_STATn, 3, 0⟩
def F.VC_PCn_PC : Field := ⟨.VC_PCn, 31, 0⟩
def F.VC_EXCn_DF_CNT : Field := ⟨.VC_EXCn, 31, 24⟩
def F.VC_EXCn_CAUSE : Field := ⟨.VC_EXCn, 7, 0⟩
def F.KN_CTL_REFUSE : Field := ⟨.KN_CTL, 31, 24⟩
def F.KN_CTL_REF_CL : Field := ⟨.KN_CTL, 23, 22⟩
def F.KN_CTL_EN : Field := ⟨.KN_CTL, 3, 0⟩
def F.KN_AGMAP_SH_MAP : Field := ⟨.KN_AGMAP_SH, 31, 0⟩
def F.KN_AGMAP_MAP : Field := ⟨.KN_AGMAP, 31, 0⟩
def F.KN_CLk_STAT_QUEUED : Field := ⟨.KN_CLk_STAT, 21, 16⟩
def F.KN_CLk_STAT_RUN_KIND : Field := ⟨.KN_CLk_STAT, 15, 8⟩
def F.KN_CLk_STAT_RUN_GROUP : Field := ⟨.KN_CLk_STAT, 7, 4⟩
def F.KN_CLk_STAT_PLAN : Field := ⟨.KN_CLk_STAT, 1, 1⟩
def F.KN_CLk_STAT_RUNNING : Field := ⟨.KN_CLk_STAT, 0, 0⟩
def F.KN_CLk_CNTj_COUNT : Field := ⟨.KN_CLk_CNTj, 31, 0⟩
def F.KN_GUARD_TRIP : Field := ⟨.KN_GUARD, 31, 31⟩
def F.KN_GUARD_ACC : Field := ⟨.KN_GUARD, 30, 30⟩
def F.KN_GUARD_INPUT : Field := ⟨.KN_GUARD, 29, 29⟩
def F.KN_GUARD_DIVSQRT : Field := ⟨.KN_GUARD, 28, 28⟩
def F.KN_GUARD_CLUSTER : Field := ⟨.KN_GUARD, 27, 26⟩
def F.KN_GUARD_GROUP : Field := ⟨.KN_GUARD, 25, 22⟩
def F.KN_GUARD_KIND : Field := ⟨.KN_GUARD, 21, 14⟩
def F.KN_GUARD_CLASS : Field := ⟨.KN_GUARD, 5, 0⟩
def F.KN_GUARD_CNT_COUNT : Field := ⟨.KN_GUARD_CNT, 31, 0⟩
def F.KN_GUARD_VAL_VALUE : Field := ⟨.KN_GUARD_VAL, 31, 0⟩
def F.KN_GUARD_TAG_TOKEN : Field := ⟨.KN_GUARD_TAG, 31, 16⟩
def F.KN_GUARD_TAG_TAG : Field := ⟨.KN_GUARD_TAG, 15, 0⟩
def F.KN_MODEL_REFUSE : Field := ⟨.KN_MODEL, 31, 24⟩
def F.KN_MODEL_REF_AG : Field := ⟨.KN_MODEL, 23, 20⟩
def F.KN_MODEL_HEADER : Field := ⟨.KN_MODEL, 16, 16⟩
def F.KN_MODEL_LINK : Field := ⟨.KN_MODEL, 3, 0⟩
def F.KN_MODEL_CNT_COUNT : Field := ⟨.KN_MODEL_CNT, 31, 0⟩
def F.KN_MODEL_VALID_VALID : Field := ⟨.KN_MODEL_VALID, 15, 0⟩
def F.KN_SLOTs_STAT_WSM_CNT : Field := ⟨.KN_SLOTs_STAT, 31, 24⟩
def F.KN_SLOTs_STAT_LAST_RESULT : Field := ⟨.KN_SLOTs_STAT, 19, 18⟩
def F.KN_SLOTs_STAT_BUSY : Field := ⟨.KN_SLOTs_STAT, 16, 16⟩
def F.KN_SLOTs_SIG_SIG : Field := ⟨.KN_SLOTs_SIG, 31, 0⟩
def F.KN_PLAN_CTL_REFUSE : Field := ⟨.KN_PLAN_CTL, 31, 24⟩
def F.KN_PLAN_CTL_PENDING : Field := ⟨.KN_PLAN_CTL, 7, 7⟩
def F.KN_PLAN_CTL_ACTIVE : Field := ⟨.KN_PLAN_CTL, 6, 4⟩
def F.KN_PLAN_CTL_ADOPT : Field := ⟨.KN_PLAN_CTL, 2, 0⟩
def F.KN_PLAN_ADR_ADDR : Field := ⟨.KN_PLAN_ADR, 31, 0⟩
def F.KN_PLAN_VF_LO_NS : Field := ⟨.KN_PLAN_VF_LO, 31, 0⟩
def F.KN_PLAN_VF_HI_NS : Field := ⟨.KN_PLAN_VF_HI, 31, 0⟩
def F.KN_PLAN_STAT_SHIFT_CNT : Field := ⟨.KN_PLAN_STAT, 31, 24⟩
def F.KN_PLAN_STAT_MISS_CNT : Field := ⟨.KN_PLAN_STAT, 23, 16⟩
def F.KN_PLAN_STAT_LAST : Field := ⟨.KN_PLAN_STAT, 1, 0⟩
def F.KN_PLAN_RUN_COUNT : Field := ⟨.KN_PLAN_RUN, 31, 0⟩
def F.KN_PLAN_STOP_STOP_CNT : Field := ⟨.KN_PLAN_STOP, 31, 24⟩
def F.KN_PLAN_STOP_STOP : Field := ⟨.KN_PLAN_STOP, 15, 0⟩
def F.KN_RANGE_CTLc_EN : Field := ⟨.KN_RANGE_CTLc, 8, 8⟩
def F.KN_RANGE_CTLc_FRAC : Field := ⟨.KN_RANGE_CTLc, 4, 0⟩
def F.KN_RANGE_MINc_BOUND : Field := ⟨.KN_RANGE_MINc, 31, 0⟩
def F.KN_RANGE_MAXc_BOUND : Field := ⟨.KN_RANGE_MAXc, 31, 0⟩
def F.AX_CTLn_REFUSE : Field := ⟨.AX_CTLn, 31, 24⟩
def F.AX_CTLn_CREDIT : Field := ⟨.AX_CTLn, 19, 16⟩
def F.AX_CTLn_PACE : Field := ⟨.AX_CTLn, 8, 8⟩
def F.AX_CTLn_PROFILE : Field := ⟨.AX_CTLn, 4, 4⟩
def F.AX_CTLn_EN : Field := ⟨.AX_CTLn, 0, 0⟩
def F.AX_TGTn_VALUE : Field := ⟨.AX_TGTn, 31, 0⟩
def F.AX_VELn_VALUE : Field := ⟨.AX_VELn, 31, 0⟩
def F.AX_ACCn_VALUE : Field := ⟨.AX_ACCn, 31, 0⟩
def F.AX_DECn_VALUE : Field := ⟨.AX_DECn, 31, 0⟩
def F.AX_JRKn_VALUE : Field := ⟨.AX_JRKn, 31, 0⟩
def F.AX_CMDn_OP : Field := ⟨.AX_CMDn, 3, 0⟩
def F.AX_STATn_CODE : Field := ⟨.AX_STATn, 31, 24⟩
def F.AX_STATn_ACC_CLAMP : Field := ⟨.AX_STATn, 15, 15⟩
def F.AX_STATn_HOME_WRONG_LIMIT : Field := ⟨.AX_STATn, 13, 13⟩
def F.AX_STATn_LIMIT_CHATTER : Field := ⟨.AX_STATn, 12, 12⟩
def F.AX_STATn_STALL : Field := ⟨.AX_STATn, 11, 11⟩
def F.AX_STATn_STEP_LAG : Field := ⟨.AX_STATn, 10, 10⟩
def F.AX_STATn_POS_LOST : Field := ⟨.AX_STATn, 9, 9⟩
def F.AX_STATn_HOMED : Field := ⟨.AX_STATn, 8, 8⟩
def F.AX_STATn_LIM_POS : Field := ⟨.AX_STATn, 7, 7⟩
def F.AX_STATn_LIM_NEG : Field := ⟨.AX_STATn, 6, 6⟩
def F.AX_STATn_HOME_IN : Field := ⟨.AX_STATn, 5, 5⟩
def F.AX_STATn_DRV_OK : Field := ⟨.AX_STATn, 4, 4⟩
def F.AX_STATn_STATE : Field := ⟨.AX_STATn, 3, 0⟩
def F.AX_CNTAn_CLAMP_CNT : Field := ⟨.AX_CNTAn, 31, 24⟩
def F.AX_CNTAn_WRONG_CNT : Field := ⟨.AX_CNTAn, 23, 16⟩
def F.AX_CNTAn_CHAT_CNT : Field := ⟨.AX_CNTAn, 15, 8⟩
def F.AX_CNTBn_STALL_CNT : Field := ⟨.AX_CNTBn, 31, 24⟩
def F.AX_CNTBn_LAG_CNT : Field := ⟨.AX_CNTBn, 23, 16⟩
def F.AX_CNTBn_REF_CNT : Field := ⟨.AX_CNTBn, 15, 8⟩
def F.AX_POSn_VALUE : Field := ⟨.AX_POSn, 31, 0⟩
def F.AX_SPDn_VALUE : Field := ⟨.AX_SPDn, 31, 0⟩
def F.AX_DECUn_VALUE : Field := ⟨.AX_DECUn, 31, 0⟩
def F.AX_INn_NEG_SRC : Field := ⟨.AX_INn, 31, 24⟩
def F.AX_INn_POS_SRC : Field := ⟨.AX_INn, 23, 16⟩
def F.AX_INn_HOME_SRC : Field := ⟨.AX_INn, 15, 8⟩
def F.AX_INn_NEG_INV : Field := ⟨.AX_INn, 7, 7⟩
def F.AX_INn_POS_INV : Field := ⟨.AX_INn, 6, 6⟩
def F.AX_INn_HOME_INV : Field := ⟨.AX_INn, 5, 5⟩
def F.AX_INn_DEBOUNCE : Field := ⟨.AX_INn, 4, 0⟩
def F.AX_HOMEn_MODE : Field := ⟨.AX_HOMEn, 2, 0⟩
def F.AX_HSPDn_VALUE : Field := ⟨.AX_HSPDn, 31, 0⟩
def F.AX_HBSPDn_VALUE : Field := ⟨.AX_HBSPDn, 31, 0⟩
def F.AX_HPOSn_VALUE : Field := ⟨.AX_HPOSn, 31, 0⟩
def F.AX_HDISTn_VALUE : Field := ⟨.AX_HDISTn, 31, 0⟩
def F.AX_SSCALEn_SCALE : Field := ⟨.AX_SSCALEn, 31, 0⟩
def F.AX_DRVn_ENA_GPIO : Field := ⟨.AX_DRVn, 31, 24⟩
def F.AX_DRVn_PG_GPIO : Field := ⟨.AX_DRVn, 23, 16⟩
def F.AX_DRVn_MS_CYCLE : Field := ⟨.AX_DRVn, 15, 0⟩
def F.AX_SHIFTn_SHIFT : Field := ⟨.AX_SHIFTn, 31, 0⟩
def F.AX_STALLn_TIME : Field := ⟨.AX_STALLn, 15, 0⟩
def F.AX_SWINn_WIN : Field := ⟨.AX_SWINn, 31, 0⟩
def F.AX_TOKn_TOKEN : Field := ⟨.AX_TOKn, 15, 0⟩
def F.AX_CMPk_CTL_REFUSE : Field := ⟨.AX_CMPk_CTL, 31, 24⟩
def F.AX_CMPk_CTL_SRC_ID : Field := ⟨.AX_CMPk_CTL, 23, 16⟩
def F.AX_CMPk_CTL_SRC_FB : Field := ⟨.AX_CMPk_CTL, 15, 15⟩
def F.AX_CMPk_CTL_DIR : Field := ⟨.AX_CMPk_CTL, 14, 13⟩
def F.AX_CMPk_CTL_GPIO : Field := ⟨.AX_CMPk_CTL, 12, 8⟩
def F.AX_CMPk_CTL_ACTION : Field := ⟨.AX_CMPk_CTL, 7, 5⟩
def F.AX_CMPk_CTL_SORUS : Field := ⟨.AX_CMPk_CTL, 4, 4⟩
def F.AX_CMPk_CTL_CMP_IMMEDIATE : Field := ⟨.AX_CMPk_CTL, 3, 3⟩
def F.AX_CMPk_CTL_PERIODIC : Field := ⟨.AX_CMPk_CTL, 2, 2⟩
def F.AX_CMPk_CTL_ARM : Field := ⟨.AX_CMPk_CTL, 1, 1⟩
def F.AX_CMPk_CTL_EN : Field := ⟨.AX_CMPk_CTL, 0, 0⟩
def F.AX_CMPk_POS_VALUE : Field := ⟨.AX_CMPk_POS, 31, 0⟩
def F.AX_CMPk_INT_VALUE : Field := ⟨.AX_CMPk_INT, 31, 0⟩
def F.AX_CMPk_CNT_FIRE_CNT : Field := ⟨.AX_CMPk_CNT, 31, 16⟩
def F.AX_CMPk_CNT_COUNT : Field := ⟨.AX_CMPk_CNT, 15, 0⟩
def F.AX_CMPk_STAT_BEHIND_CNT : Field := ⟨.AX_CMPk_STAT, 31, 24⟩
def F.AX_CMPk_STAT_SKIP_CNT : Field := ⟨.AX_CMPk_STAT, 23, 16⟩
def F.AX_CMPk_STAT_REF_CNT : Field := ⟨.AX_CMPk_STAT, 15, 8⟩
def F.AX_CMPk_STAT_SKIP : Field := ⟨.AX_CMPk_STAT, 3, 3⟩
def F.AX_CMPk_STAT_CMP_BEHIND : Field := ⟨.AX_CMPk_STAT, 2, 2⟩
def F.AX_CMPk_STAT_FIRED : Field := ⟨.AX_CMPk_STAT, 1, 1⟩
def F.AX_CMPk_STAT_ARMED : Field := ⟨.AX_CMPk_STAT, 0, 0⟩
def F.AX_CMPk_OUT_PULSE_W : Field := ⟨.AX_CMPk_OUT, 31, 16⟩
def F.AX_CMPk_OUT_TOKEN : Field := ⟨.AX_CMPk_OUT, 15, 0⟩
def F.AX_CMPk_CT_LO_NS : Field := ⟨.AX_CMPk_CT_LO, 31, 0⟩
def F.AX_CMPk_CT_HI_NS : Field := ⟨.AX_CMPk_CT_HI, 31, 0⟩
def F.AX_STj_CTL_REFUSE : Field := ⟨.AX_STj_CTL, 31, 24⟩
def F.AX_STj_CTL_REF_CNT : Field := ⟨.AX_STj_CTL, 23, 16⟩
def F.AX_STj_CTL_DIR_INV : Field := ⟨.AX_STj_CTL, 3, 3⟩
def F.AX_STj_CTL_STEP_INV : Field := ⟨.AX_STj_CTL, 2, 2⟩
def F.AX_STj_CTL_EN : Field := ⟨.AX_STj_CTL, 0, 0⟩
def F.AX_STj_TIM_DIR_HOLD : Field := ⟨.AX_STj_TIM, 23, 16⟩
def F.AX_STj_TIM_DIR_SETUP : Field := ⟨.AX_STj_TIM, 15, 8⟩
def F.AX_STj_TIM_STEP_W : Field := ⟨.AX_STj_TIM, 7, 0⟩
def F.AX_STj_POS_STEPS : Field := ⟨.AX_STj_POS, 31, 0⟩
def F.FB_CFGn_REFUSE : Field := ⟨.FB_CFGn, 31, 24⟩
def F.FB_CFGn_THAL : Field := ⟨.FB_CFGn, 16, 16⟩
def F.FB_CFGn_REP : Field := ⟨.FB_CFGn, 13, 12⟩
def F.FB_CFGn_INDEX : Field := ⟨.FB_CFGn, 9, 8⟩
def F.FB_CFGn_GATE : Field := ⟨.FB_CFGn, 7, 7⟩
def F.FB_CFGn_ZINV : Field := ⟨.FB_CFGn, 6, 6⟩
def F.FB_CFGn_DIR_INV : Field := ⟨.FB_CFGn, 5, 5⟩
def F.FB_CFGn_ROT : Field := ⟨.FB_CFGn, 4, 4⟩
def F.FB_CFGn_MODE : Field := ⟨.FB_CFGn, 2, 1⟩
def F.FB_CFGn_EN : Field := ⟨.FB_CFGn, 0, 0⟩
def F.FB_FILTn_WIRE_LIM : Field := ⟨.FB_FILTn, 31, 24⟩
def F.FB_FILTn_WIRE_T : Field := ⟨.FB_FILTn, 15, 8⟩
def F.FB_FILTn_MIN_EDGE : Field := ⟨.FB_FILTn, 7, 0⟩
def F.FB_THRn_AMP_MIN : Field := ⟨.FB_THRn, 31, 24⟩
def F.FB_THRn_THR_MAX : Field := ⟨.FB_THRn, 23, 16⟩
def F.FB_THRn_THR_MIN : Field := ⟨.FB_THRn, 15, 8⟩
def F.FB_THRn_ADAPT : Field := ⟨.FB_THRn, 7, 7⟩
def F.FB_THRn_THR : Field := ⟨.FB_THRn, 4, 0⟩
def F.FB_AMPn_AMP_Z : Field := ⟨.FB_AMPn, 23, 16⟩
def F.FB_AMPn_AMP_B : Field := ⟨.FB_AMPn, 15, 8⟩
def F.FB_AMPn_AMP_A : Field := ⟨.FB_AMPn, 7, 0⟩
def F.FB_SCALEn_VALUE : Field := ⟨.FB_SCALEn, 31, 0⟩
def F.FB_OFSn_VALUE : Field := ⟨.FB_OFSn, 31, 0⟩
def F.FB_CNTn_VALUE : Field := ⟨.FB_CNTn, 31, 0⟩
def F.FB_POSn_VALUE : Field := ⟨.FB_POSn, 31, 0⟩
def F.FB_SPDn_VALUE : Field := ⟨.FB_SPDn, 31, 0⟩
def F.FB_LOADn_VALUE : Field := ⟨.FB_LOADn, 31, 0⟩
def F.FB_CMDn_ARM_IDX : Field := ⟨.FB_CMDn, 2, 2⟩
def F.FB_CMDn_LOAD : Field := ⟨.FB_CMDn, 1, 1⟩
def F.FB_CMDn_CLEAR : Field := ⟨.FB_CMDn, 0, 0⟩
def F.FB_IDXn_VALUE : Field := ⟨.FB_IDXn, 31, 0⟩
def F.FB_IDXCT_LOn_NS : Field := ⟨.FB_IDXCT_LOn, 31, 0⟩
def F.FB_IDXCT_HIn_NS : Field := ⟨.FB_IDXCT_HIn, 31, 0⟩
def F.FB_SSIn_GRAY : Field := ⟨.FB_SSIn, 31, 31⟩
def F.FB_SSIn_ERR_POL : Field := ⟨.FB_SSIn, 30, 30⟩
def F.FB_SSIn_ERR_BITS : Field := ⟨.FB_SSIn, 27, 24⟩
def F.FB_SSIn_BITS : Field := ⟨.FB_SSIn, 21, 16⟩
def F.FB_SSIn_DIV : Field := ⟨.FB_SSIn, 10, 0⟩
def F.FB_SSITn_DLY : Field := ⟨.FB_SSITn, 31, 24⟩
def F.FB_SSITn_TM : Field := ⟨.FB_SSITn, 23, 16⟩
def F.FB_SSITn_PER : Field := ⟨.FB_SSITn, 15, 8⟩
def F.FB_SSITn_OFS : Field := ⟨.FB_SSITn, 7, 0⟩
def F.FB_SSIJn_JUMP : Field := ⟨.FB_SSIJn, 31, 0⟩
def F.FB_SPDCn_STILL_TO : Field := ⟨.FB_SPDCn, 31, 16⟩
def F.FB_SPDCn_SW_EDGES : Field := ⟨.FB_SPDCn, 7, 0⟩
def F.FB_FLTn_QERR_LIM : Field := ⟨.FB_FLTn, 31, 24⟩
def F.FB_FLTn_FAST_LIM : Field := ⟨.FB_FLTn, 23, 16⟩
def F.FB_FLTn_SSI_LIM : Field := ⟨.FB_FLTn, 15, 8⟩
def F.FB_STATn_CAUSE : Field := ⟨.FB_STATn, 31, 24⟩
def F.FB_STATn_SUSPECT : Field := ⟨.FB_STATn, 12, 12⟩
def F.FB_STATn_AMP_LOW : Field := ⟨.FB_STATn, 11, 11⟩
def F.FB_STATn_REP_LAG : Field := ⟨.FB_STATn, 10, 10⟩
def F.FB_STATn_WIRE : Field := ⟨.FB_STATn, 9, 9⟩
def F.FB_STATn_SSI_ERR : Field := ⟨.FB_STATn, 8, 8⟩
def F.FB_STATn_FAST : Field := ⟨.FB_STATn, 7, 7⟩
def F.FB_STATn_QERR : Field := ⟨.FB_STATn, 6, 6⟩
def F.FB_STATn_IDX : Field := ⟨.FB_STATn, 5, 5⟩
def F.FB_STATn_STILL : Field := ⟨.FB_STATn, 4, 4⟩
def F.FB_STATn_CNT_MODE : Field := ⟨.FB_STATn, 3, 3⟩
def F.FB_STATn_VALID : Field := ⟨.FB_STATn, 2, 2⟩
def F.FB_STATn_STATE : Field := ⟨.FB_STATn, 1, 0⟩
def F.FB_CNTAn_QERR_CNT : Field := ⟨.FB_CNTAn, 31, 24⟩
def F.FB_CNTAn_FAST_CNT : Field := ⟨.FB_CNTAn, 23, 16⟩
def F.FB_CNTAn_SSI_CNT : Field := ⟨.FB_CNTAn, 15, 8⟩
def F.FB_CNTAn_WIRE_CNT : Field := ⟨.FB_CNTAn, 7, 0⟩
def F.FB_CNTBn_IDX_CNT : Field := ⟨.FB_CNTBn, 31, 24⟩
def F.FB_CNTBn_LAG_CNT : Field := ⟨.FB_CNTBn, 23, 16⟩
def F.FB_CNTBn_AMP_CNT : Field := ⟨.FB_CNTBn, 15, 8⟩
def F.FB_CNTBn_REF_CNT : Field := ⟨.FB_CNTBn, 7, 0⟩
def F.FB_TOKn_TOKEN : Field := ⟨.FB_TOKn, 15, 0⟩
def F.FB_REPn_REP_IDX : Field := ⟨.FB_REPn, 31, 16⟩
def F.FB_REPn_REP_EDGE : Field := ⟨.FB_REPn, 7, 0⟩
def F.TH_STAT_DIAG : Field := ⟨.TH_STAT, 23, 16⟩
def F.TH_STAT_DEG_CNT : Field := ⟨.TH_STAT, 15, 8⟩
def F.TH_STAT_NO_SET : Field := ⟨.TH_STAT, 3, 3⟩
def F.TH_STAT_STARTUP : Field := ⟨.TH_STAT, 2, 2⟩
def F.TH_STAT_STATE : Field := ⟨.TH_STAT, 1, 0⟩
def F.TH_FAULT_CAUSE : Field := ⟨.TH_FAULT, 31, 24⟩
def F.TH_FAULT_CLASS : Field := ⟨.TH_FAULT, 23, 22⟩
def F.TH_FAULT_ITEM : Field := ⟨.TH_FAULT, 15, 8⟩
def F.TH_FAULT_UNIT : Field := ⟨.TH_FAULT, 7, 0⟩
def F.TH_DEG_FAULTS : Field := ⟨.TH_DEG, 31, 24⟩
def F.TH_DEG_REMAIN : Field := ⟨.TH_DEG, 12, 0⟩
def F.TH_SET_CRC_CHECK : Field := ⟨.TH_SET_CRC, 31, 0⟩
def F.TH_SI_STATE : Field := ⟨.TH_SI, 31, 0⟩
def F.TH_SIFLT_FAULT : Field := ⟨.TH_SIFLT, 31, 0⟩
def F.TH_SENS_CNT_COUNT : Field := ⟨.TH_SENS_CNT, 31, 0⟩
def F.TH_SSM_STAT_OVR_CNT : Field := ⟨.TH_SSM_STAT, 31, 24⟩
def F.TH_SSM_STAT_AGE_CNT : Field := ⟨.TH_SSM_STAT, 23, 16⟩
def F.TH_SSM_STAT_CYCLE : Field := ⟨.TH_SSM_STAT, 15, 0⟩
def F.TH_SSM_LOAD_NARROW : Field := ⟨.TH_SSM_LOAD, 31, 16⟩
def F.TH_SSM_LOAD_TIME : Field := ⟨.TH_SSM_LOAD, 15, 0⟩
def F.TH_SSM_BOUND_WINDOW : Field := ⟨.TH_SSM_BOUND, 31, 16⟩
def F.TH_SSM_BOUND_TMAX : Field := ⟨.TH_SSM_BOUND, 15, 0⟩
def F.TH_SSM_CHK_CODE : Field := ⟨.TH_SSM_CHK, 31, 24⟩
def F.TH_SSM_CHK_SECTION : Field := ⟨.TH_SSM_CHK, 23, 16⟩
def F.TH_SSM_CHK_ENTRY : Field := ⟨.TH_SSM_CHK, 15, 0⟩
def F.TH_PERS_LO_TRACKED : Field := ⟨.TH_PERS_LO, 31, 0⟩
def F.TH_PERS_HI_TRACKED : Field := ⟨.TH_PERS_HI, 31, 0⟩
def F.TH_AGn_SSM_CAUSE : Field := ⟨.TH_AGn_SSM, 31, 24⟩
def F.TH_AGn_SSM_OTHER : Field := ⟨.TH_AGn_SSM, 23, 16⟩
def F.TH_AGn_SSM_CAPSULE : Field := ⟨.TH_AGn_SSM, 15, 12⟩
def F.TH_AGn_SSM_LATCHED : Field := ⟨.TH_AGn_SSM, 7, 7⟩
def F.TH_AGn_SSM_DEMAND : Field := ⟨.TH_AGn_SSM, 2, 0⟩
def F.TH_AGn_DMIN_VALUE : Field := ⟨.TH_AGn_DMIN, 31, 0⟩
def F.TH_AGn_SP_VALUE : Field := ⟨.TH_AGn_SP, 31, 0⟩
def F.TH_AGn_LIMIT_VALUE : Field := ⟨.TH_AGn_LIMIT, 31, 0⟩
def F.TH_AGn_VMON_VALUE : Field := ⟨.TH_AGn_VMON, 31, 0⟩
def F.TH_AGn_CNT_STOP_CNT : Field := ⟨.TH_AGn_CNT, 31, 16⟩
def F.TH_AGn_CNT_LIMIT_CNT : Field := ⟨.TH_AGn_CNT, 15, 0⟩
def F.TH_SOj_STAT_FLT_CNT : Field := ⟨.TH_SOj_STAT, 31, 24⟩
def F.TH_SOj_STAT_HS_STUCK : Field := ⟨.TH_SOj_STAT, 7, 7⟩
def F.TH_SOj_STAT_LS_STUCK : Field := ⟨.TH_SOj_STAT, 6, 6⟩
def F.TH_SOj_STAT_OVERCURRENT : Field := ⟨.TH_SOj_STAT, 5, 5⟩
def F.TH_SOj_STAT_DELAYING : Field := ⟨.TH_SOj_STAT, 4, 4⟩
def F.TH_SOj_STAT_RB_HS : Field := ⟨.TH_SOj_STAT, 3, 3⟩
def F.TH_SOj_STAT_RB_LS : Field := ⟨.TH_SOj_STAT, 2, 2⟩
def F.TH_SOj_STAT_ON : Field := ⟨.TH_SOj_STAT, 0, 0⟩
def F.TH_MB_CMD_REFUSE : Field := ⟨.TH_MB_CMD, 31, 24⟩
def F.TH_MB_CMD_OP : Field := ⟨.TH_MB_CMD, 3, 0⟩
def F.TH_MB_ADDR_ADDR : Field := ⟨.TH_MB_ADDR, 19, 0⟩
def F.TH_MB_DATA_DATA : Field := ⟨.TH_MB_DATA, 31, 0⟩
def F.TH_MB_STAT_SIG_CNT : Field := ⟨.TH_MB_STAT, 31, 24⟩
def F.TH_MB_STAT_COMMIT_CNT : Field := ⟨.TH_MB_STAT, 23, 16⟩
def F.TH_MB_STAT_STATE : Field := ⟨.TH_MB_STAT, 2, 0⟩
def F.TH_MB_CRC_CHECK : Field := ⟨.TH_MB_CRC, 31, 0⟩
def F.TH_MB_CONFIRM_CHECK : Field := ⟨.TH_MB_CONFIRM, 31, 0⟩
def F.TH_MB_ERR_CODE : Field := ⟨.TH_MB_ERR, 31, 24⟩
def F.TH_MB_ERR_SECTION : Field := ⟨.TH_MB_ERR, 23, 16⟩
def F.TH_MB_ERR_ENTRY : Field := ⟨.TH_MB_ERR, 15, 0⟩
def F.SO_GLOBAL_REFUSE : Field := ⟨.SO_GLOBAL, 31, 24⟩
def F.SO_GLOBAL_EXT_GPIO : Field := ⟨.SO_GLOBAL, 12, 8⟩
def F.SO_GLOBAL_EXT_EDGE : Field := ⟨.SO_GLOBAL, 5, 4⟩
def F.SO_UBASE_BASE : Field := ⟨.SO_UBASE, 23, 0⟩
def F.SO_CHk_EN : Field := ⟨.SO_CHk, 31, 31⟩
def F.SO_CHk_CAPTURE : Field := ⟨.SO_CHk, 30, 28⟩
def F.SO_CHk_PROBE : Field := ⟨.SO_CHk, 12, 0⟩
def F.SO_Cc_CTL_REFUSE : Field := ⟨.SO_Cc_CTL, 31, 24⟩
def F.SO_Cc_CTL_MODE : Field := ⟨.SO_Cc_CTL, 17, 16⟩
def F.SO_Cc_CTL_COMB : Field := ⟨.SO_Cc_CTL, 13, 12⟩
def F.SO_Cc_CTL_STOP_ON_FAIL : Field := ⟨.SO_Cc_CTL, 8, 8⟩
def F.SO_Cc_CTL_MASK_EN : Field := ⟨.SO_Cc_CTL, 7, 7⟩
def F.SO_Cc_CTL_RATE_AUTO : Field := ⟨.SO_Cc_CTL, 6, 6⟩
def F.SO_Cc_CTL_EN : Field := ⟨.SO_Cc_CTL, 0, 0⟩
def F.SO_Cc_CMD_OP : Field := ⟨.SO_Cc_CMD, 3, 0⟩
def F.SO_Cc_STAT_CODE : Field := ⟨.SO_Cc_STAT, 31, 24⟩
def F.SO_Cc_STAT_RATE_LOG2 : Field := ⟨.SO_Cc_STAT, 19, 16⟩
def F.SO_Cc_STAT_DROPPED : Field := ⟨.SO_Cc_STAT, 11, 11⟩
def F.SO_Cc_STAT_MASK_FAIL : Field := ⟨.SO_Cc_STAT, 10, 10⟩
def F.SO_Cc_STAT_RATE_RED : Field := ⟨.SO_Cc_STAT, 9, 9⟩
def F.SO_Cc_STAT_MISSED : Field := ⟨.SO_Cc_STAT, 8, 8⟩
def F.SO_Cc_STAT_STATE : Field := ⟨.SO_Cc_STAT, 2, 0⟩
def F.SO_Cc_BASE_VALUE : Field := ⟨.SO_Cc_BASE, 31, 0⟩
def F.SO_Cc_SIZE_VALUE : Field := ⟨.SO_Cc_SIZE, 31, 0⟩
def F.SO_Cc_PRE_VALUE : Field := ⟨.SO_Cc_PRE, 27, 0⟩
def F.SO_Cc_POST_VALUE : Field := ⟨.SO_Cc_POST, 27, 0⟩
def F.SO_Cc_RATE_SRC : Field := ⟨.SO_Cc_RATE, 31, 31⟩
def F.SO_Cc_RATE_DIV : Field := ⟨.SO_Cc_RATE, 30, 28⟩
def F.SO_Cc_RATE_PER_OFS : Field := ⟨.SO_Cc_RATE, 21, 0⟩
def F.SO_Cc_TRG0_KIND : Field := ⟨.SO_Cc_TRG0, 31, 29⟩
def F.SO_Cc_TRG0_COND : Field := ⟨.SO_Cc_TRG0, 28, 26⟩
def F.SO_Cc_TRG0_CH : Field := ⟨.SO_Cc_TRG0, 21, 16⟩
def F.SO_Cc_TRG0_GROUPS : Field := ⟨.SO_Cc_TRG0, 15, 0⟩
def F.SO_Cc_TRG1_KIND : Field := ⟨.SO_Cc_TRG1, 31, 29⟩
def F.SO_Cc_TRG1_COND : Field := ⟨.SO_Cc_TRG1, 28, 26⟩
def F.SO_Cc_TRG1_CH : Field := ⟨.SO_Cc_TRG1, 21, 16⟩
def F.SO_Cc_TRG1_GROUPS : Field := ⟨.SO_Cc_TRG1, 15, 0⟩
def F.SO_Cc_T0A_VALUE : Field := ⟨.SO_Cc_T0A, 31, 0⟩
def F.SO_Cc_T0B_VALUE : Field := ⟨.SO_Cc_T0B, 31, 0⟩
def F.SO_Cc_T1A_VALUE : Field := ⟨.SO_Cc_T1A, 31, 0⟩
def F.SO_Cc_T1B_VALUE : Field := ⟨.SO_Cc_T1B, 31, 0⟩
def F.SO_Cc_TIME_AUTO_TO : Field := ⟨.SO_Cc_TIME, 31, 16⟩
def F.SO_Cc_TIME_HOLDOFF : Field := ⟨.SO_Cc_TIME, 15, 0⟩
def F.SO_Cc_WIN_VALUE : Field := ⟨.SO_Cc_WIN, 23, 0⟩
def F.SO_Cc_MASK_OFFSET : Field := ⟨.SO_Cc_MASK, 23, 0⟩
def F.SO_Cc_TOK_TOKEN : Field := ⟨.SO_Cc_TOK, 15, 0⟩
def F.SO_Cc_CNT_RED_CNT : Field := ⟨.SO_Cc_CNT, 31, 24⟩
def F.SO_Cc_CNT_DONE_CNT : Field := ⟨.SO_Cc_CNT, 23, 16⟩
def F.SO_Cc_CNT_FAIL_CNT : Field := ⟨.SO_Cc_CNT, 15, 8⟩
def F.SO_Cc_CNT_DROP_CNT : Field := ⟨.SO_Cc_CNT, 7, 0⟩
def F.SO_MISSED_TRIGc_COUNT : Field := ⟨.SO_MISSED_TRIGc, 31, 0⟩
def F.SO_Cc_WRITTEN_COUNT : Field := ⟨.SO_Cc_WRITTEN, 31, 0⟩
def F.PW_MOD_REFUSE : Field := ⟨.PW_MOD, 31, 24⟩
def F.PW_MOD_STATE : Field := ⟨.PW_MOD, 19, 18⟩
def F.PW_MOD_BUSY : Field := ⟨.PW_MOD, 17, 17⟩
def F.PW_MOD_THERM : Field := ⟨.PW_MOD, 16, 16⟩
def F.PW_MOD_DRAIN : Field := ⟨.PW_MOD, 15, 8⟩
def F.PW_MOD_REQ : Field := ⟨.PW_MOD, 2, 2⟩
def F.PW_MOD_TARGET : Field := ⟨.PW_MOD, 1, 0⟩
def F.PW_KEEPMASK_KEEP : Field := ⟨.PW_KEEPMASK, 23, 0⟩
def F.PW_TRIM_TJ : Field := ⟨.PW_TRIM, 15, 8⟩
def F.PW_TRIM_CAP : Field := ⟨.PW_TRIM, 3, 0⟩
def F.PW_WAKE_EDGE : Field := ⟨.PW_WAKE, 9, 8⟩
def F.PW_WAKE_GPIO_EN : Field := ⟨.PW_WAKE, 7, 7⟩
def F.PW_WAKE_CT_EN : Field := ⟨.PW_WAKE, 6, 6⟩
def F.PW_WAKE_GPIO : Field := ⟨.PW_WAKE, 4, 0⟩
def F.PW_WAKE_CT_LO_NS : Field := ⟨.PW_WAKE_CT_LO, 31, 0⟩
def F.PW_WAKE_CT_HI_NS : Field := ⟨.PW_WAKE_CT_HI, 31, 0⟩
def F.PW_ABORT_CNT_COUNT : Field := ⟨.PW_ABORT_CNT, 31, 0⟩
def F.PW_LASTREF_REASON : Field := ⟨.PW_LASTREF, 31, 24⟩
def F.PW_LASTREF_DOMAIN : Field := ⟨.PW_LASTREF, 4, 0⟩
def F.PW_LASTREF_CT_LO_NS : Field := ⟨.PW_LASTREF_CT_LO, 31, 0⟩
def F.PW_LASTREF_CT_HI_NS : Field := ⟨.PW_LASTREF_CT_HI, 31, 0⟩
def F.PW_OFFACC_REQUESTER : Field := ⟨.PW_OFFACC, 31, 24⟩
def F.PW_OFFACC_WRITE : Field := ⟨.PW_OFFACC, 16, 16⟩
def F.PW_OFFACC_DOMAIN : Field := ⟨.PW_OFFACC, 4, 0⟩
def F.PW_OFFACC_ADR_ADDR : Field := ⟨.PW_OFFACC_ADR, 31, 0⟩
def F.PW_OFFACC_CNT_COUNT : Field := ⟨.PW_OFFACC_CNT, 31, 0⟩
def F.PW_KEEP_CTL_REFUSE : Field := ⟨.PW_KEEP_CTL, 31, 24⟩
def F.PW_KEEP_CTL_DOMAIN : Field := ⟨.PW_KEEP_CTL, 20, 16⟩
def F.PW_KEEP_CTL_CLR : Field := ⟨.PW_KEEP_CTL, 9, 9⟩
def F.PW_KEEP_CTL_COUNT : Field := ⟨.PW_KEEP_CTL, 8, 0⟩
def F.PW_KEEP_ADD_ADDR : Field := ⟨.PW_KEEP_ADD, 31, 0⟩
def F.PW_DOMd_CTL_REFUSE : Field := ⟨.PW_DOMd_CTL, 31, 24⟩
def F.PW_DOMd_CTL_REF_CNT : Field := ⟨.PW_DOMd_CTL, 23, 16⟩
def F.PW_DOMd_CTL_REQ : Field := ⟨.PW_DOMd_CTL, 1, 0⟩
def F.PW_DOMd_STAT_KL_CNT : Field := ⟨.PW_DOMd_STAT, 31, 24⟩
def F.PW_DOMd_STAT_WAKE_CNT : Field := ⟨.PW_DOMd_STAT, 23, 16⟩
def F.PW_DOMd_STAT_KEEP_LOST : Field := ⟨.PW_DOMd_STAT, 3, 3⟩
def F.PW_DOMd_STAT_MOVING : Field := ⟨.PW_DOMd_STAT, 2, 2⟩
def F.PW_DOMd_STAT_STATE : Field := ⟨.PW_DOMd_STAT, 1, 0⟩
def F.PW_VOLTi_CTL_REFUSE : Field := ⟨.PW_VOLTi_CTL, 31, 24⟩
def F.PW_VOLTi_CTL_FSTEP : Field := ⟨.PW_VOLTi_CTL, 17, 17⟩
def F.PW_VOLTi_CTL_AVS : Field := ⟨.PW_VOLTi_CTL, 16, 16⟩
def F.PW_VOLTi_CTL_TARGET : Field := ⟨.PW_VOLTi_CTL, 9, 0⟩
def F.PW_VOLTi_STEP_GO : Field := ⟨.PW_VOLTi_STEP, 4, 4⟩
def F.PW_VOLTi_STEP_DIV : Field := ⟨.PW_VOLTi_STEP, 3, 0⟩
def F.PW_VOLTi_STAT_MEAS : Field := ⟨.PW_VOLTi_STAT, 25, 16⟩
def F.PW_VOLTi_STAT_CHECKED : Field := ⟨.PW_VOLTi_STAT, 15, 15⟩
def F.PW_VOLTi_STAT_STEPPING : Field := ⟨.PW_VOLTi_STAT, 14, 14⟩
def F.PW_VOLTi_STAT_AVS_LIMIT : Field := ⟨.PW_VOLTi_STAT, 13, 13⟩
def F.PW_VOLTi_STAT_VCHK_FAIL : Field := ⟨.PW_VOLTi_STAT, 12, 12⟩
def F.PW_VOLTi_STAT_LIM_CNT : Field := ⟨.PW_VOLTi_STAT, 11, 8⟩
def F.PW_VOLTi_STAT_VF_CNT : Field := ⟨.PW_VOLTi_STAT, 7, 0⟩
def F.SV_HEALTHs_CE_CNT : Field := ⟨.SV_HEALTHs, 31, 24⟩
def F.SV_HEALTHs_SLACK : Field := ⟨.SV_HEALTHs, 23, 16⟩
def F.SV_HEALTHs_ROWS : Field := ⟨.SV_HEALTHs, 15, 9⟩
def F.SV_HEALTHs_WORN_CNT : Field := ⟨.SV_HEALTHs, 8, 5⟩
def F.SV_HEALTHs_RETIRED : Field := ⟨.SV_HEALTHs, 1, 1⟩
def F.SV_HEALTHs_WORN : Field := ⟨.SV_HEALTHs, 0, 0⟩
def F.SV_WEAR_CE_LIM : Field := ⟨.SV_WEAR, 23, 16⟩
def F.SV_WEAR_SLACK_MIN : Field := ⟨.SV_WEAR, 7, 0⟩
def F.SV_TOK_TOKEN : Field := ⟨.SV_TOK, 15, 0⟩
def F.SV_RETIRE_REFUSE : Field := ⟨.SV_RETIRE, 31, 24⟩
def F.SV_RETIRE_GO : Field := ⟨.SV_RETIRE, 23, 23⟩
def F.SV_RETIRE_SLICE : Field := ⟨.SV_RETIRE, 22, 18⟩
def F.SV_RETIRE_RETIRED : Field := ⟨.SV_RETIRE, 17, 0⟩
def F.SV_UNRETIRE_REFUSE : Field := ⟨.SV_UNRETIRE, 31, 24⟩
def F.SV_UNRETIRE_GO : Field := ⟨.SV_UNRETIRE, 23, 23⟩
def F.SV_UNRETIRE_SLICE : Field := ⟨.SV_UNRETIRE, 4, 0⟩
def F.SV_PLACEn_SLICE : Field := ⟨.SV_PLACEn, 12, 8⟩
def F.SV_PLACEn_CORE_MAP : Field := ⟨.SV_PLACEn, 7, 0⟩
def F.SV_PLACE_SHn_SLICE : Field := ⟨.SV_PLACE_SHn, 12, 8⟩
def F.SV_PLACE_SHn_CORE_MAP : Field := ⟨.SV_PLACE_SHn, 7, 0⟩
def F.SV_PLACE_CMD_REFUSE : Field := ⟨.SV_PLACE_CMD, 31, 24⟩
def F.SV_PLACE_CMD_REF_AG : Field := ⟨.SV_PLACE_CMD, 23, 20⟩
def F.SV_PLACE_CMD_COMMITS : Field := ⟨.SV_PLACE_CMD, 15, 8⟩
def F.SV_PLACE_CMD_PENDING : Field := ⟨.SV_PLACE_CMD, 1, 1⟩
def F.SV_PLACE_CMD_COMMIT : Field := ⟨.SV_PLACE_CMD, 0, 0⟩
def F.SV_MIG_CTL_REFUSE : Field := ⟨.SV_MIG_CTL, 31, 24⟩
def F.SV_MIG_CTL_GROUP : Field := ⟨.SV_MIG_CTL, 23, 20⟩
def F.SV_MIG_CTL_CORE_MAP : Field := ⟨.SV_MIG_CTL, 15, 8⟩
def F.SV_MIG_CTL_TARGET : Field := ⟨.SV_MIG_CTL, 7, 3⟩
def F.SV_MIG_CTL_RETIRE_SRC : Field := ⟨.SV_MIG_CTL, 2, 2⟩
def F.SV_MIG_CTL_ABORT : Field := ⟨.SV_MIG_CTL, 1, 1⟩
def F.SV_MIG_CTL_GO : Field := ⟨.SV_MIG_CTL, 0, 0⟩
def F.SV_MIG_STAT_DEFER_CNT : Field := ⟨.SV_MIG_STAT, 31, 24⟩
def F.SV_MIG_STAT_DONE_CNT : Field := ⟨.SV_MIG_STAT, 23, 20⟩
def F.SV_MIG_STAT_DIRTY : Field := ⟨.SV_MIG_STAT, 19, 4⟩
def F.SV_MIG_STAT_STATE : Field := ⟨.SV_MIG_STAT, 2, 0⟩
def F.SV_MIG_BCN_BCN : Field := ⟨.SV_MIG_BCN, 31, 0⟩
def F.SV_IMG_CTL_REFUSE : Field := ⟨.SV_IMG_CTL, 31, 24⟩
def F.SV_IMG_CTL_ACTIVE : Field := ⟨.SV_IMG_CTL, 8, 8⟩
def F.SV_IMG_CTL_SWAP : Field := ⟨.SV_IMG_CTL, 1, 1⟩
def F.SV_IMG_CTL_STAGE : Field := ⟨.SV_IMG_CTL, 0, 0⟩
def F.SV_IMG_STAT_SWAP_CNT : Field := ⟨.SV_IMG_STAT, 31, 24⟩
def F.SV_IMG_STAT_WINDOW : Field := ⟨.SV_IMG_STAT, 7, 7⟩
def F.SV_IMG_STAT_STATE : Field := ⟨.SV_IMG_STAT, 2, 0⟩
def F.SV_WDOG_CTL_REFUSE : Field := ⟨.SV_WDOG_CTL, 31, 24⟩
def F.SV_WDOG_CTL_TO : Field := ⟨.SV_WDOG_CTL, 23, 8⟩
def F.SV_WDOG_CTL_EARLY_EN : Field := ⟨.SV_WDOG_CTL, 1, 1⟩
def F.SV_WDOG_CTL_EN : Field := ⟨.SV_WDOG_CTL, 0, 0⟩
def F.SV_WDOG_KICK_KEY : Field := ⟨.SV_WDOG_KICK, 15, 0⟩
def F.SV_WDOG_STAT_BITE_CNT : Field := ⟨.SV_WDOG_STAT, 31, 24⟩
def F.SV_WDOG_STAT_EARLY_CNT : Field := ⟨.SV_WDOG_STAT, 23, 16⟩
def F.SV_WDOG_STAT_BITTEN : Field := ⟨.SV_WDOG_STAT, 1, 1⟩
def F.SV_WDOG_STAT_EARLY : Field := ⟨.SV_WDOG_STAT, 0, 0⟩
def F.SV_FORCE_REFUSE : Field := ⟨.SV_FORCE, 31, 24⟩
def F.SV_FORCE_DOMAIN : Field := ⟨.SV_FORCE, 4, 0⟩
def F.SV_ECCm_CE_CNT : Field := ⟨.SV_ECCm, 31, 16⟩
def F.SV_ECCm_UE_CNT : Field := ⟨.SV_ECCm, 15, 8⟩
def F.SV_ECCm_REP_CNT : Field := ⟨.SV_ECCm, 7, 0⟩
def F.SV_JNL_HEAD_SEQ : Field := ⟨.SV_JNL_HEAD, 31, 0⟩
def F.SV_JNL_SEL_SEQ : Field := ⟨.SV_JNL_SEL, 31, 0⟩
def F.SV_JNL_STAT_RESULT : Field := ⟨.SV_JNL_STAT, 1, 0⟩
def F.SV_JNL_DATAk_DATA : Field := ⟨.SV_JNL_DATAk, 31, 0⟩
def F.HS_VECv_CTL_SRC : Field := ⟨.HS_VECv_CTL, 15, 8⟩
def F.HS_VECv_CTL_CLASS : Field := ⟨.HS_VECv_CTL, 1, 0⟩
def F.HS_VPEND_LO_PEND : Field := ⟨.HS_VPEND_LO, 31, 0⟩
def F.HS_VPEND_HI_PEND : Field := ⟨.HS_VPEND_HI, 31, 0⟩
def F.HS_DB_VECTOR : Field := ⟨.HS_DB, 5, 0⟩
def F.HS_MBX_TOK_RESULT : Field := ⟨.HS_MBX_TOK, 31, 24⟩
def F.HS_MBX_TOK_TOKEN : Field := ⟨.HS_MBX_TOK, 15, 0⟩
def F.HS_MBX_DATA_VALUE : Field := ⟨.HS_MBX_DATA, 31, 0⟩
def F.HS_VCNTv_VALUE : Field := ⟨.HS_VCNTv, 31, 0⟩
def F.HS_BOOT_STAT_CODE : Field := ⟨.HS_BOOT_STAT, 31, 24⟩
def F.HS_BOOT_STAT_ENTRY : Field := ⟨.HS_BOOT_STAT, 23, 8⟩
def F.HS_BOOT_STAT_BANK : Field := ⟨.HS_BOOT_STAT, 4, 4⟩
def F.HS_BOOT_STAT_STATE : Field := ⟨.HS_BOOT_STAT, 2, 0⟩
def F.HS_IMG_CMD_REFUSE : Field := ⟨.HS_IMG_CMD, 31, 24⟩
def F.HS_IMG_CMD_BANK : Field := ⟨.HS_IMG_CMD, 4, 4⟩
def F.HS_IMG_CMD_OP : Field := ⟨.HS_IMG_CMD, 3, 0⟩
def F.HS_IMG_SRC_VALUE : Field := ⟨.HS_IMG_SRC, 31, 0⟩
def F.HS_IMG_DST_VALUE : Field := ⟨.HS_IMG_DST, 31, 0⟩
def F.HS_IMG_LEN_VALUE : Field := ⟨.HS_IMG_LEN, 31, 0⟩
def F.HS_IMG_STAT_CODE : Field := ⟨.HS_IMG_STAT, 31, 24⟩
def F.HS_IMG_STAT_VALID1 : Field := ⟨.HS_IMG_STAT, 5, 5⟩
def F.HS_IMG_STAT_VALID0 : Field := ⟨.HS_IMG_STAT, 4, 4⟩
def F.HS_IMG_STAT_STATE : Field := ⟨.HS_IMG_STAT, 2, 0⟩
def F.HS_HEn_CTL_REFUSE : Field := ⟨.HS_HEn_CTL, 31, 24⟩
def F.HS_HEn_CTL_SPEED : Field := ⟨.HS_HEn_CTL, 4, 4⟩
def F.HS_HEn_CTL_EN : Field := ⟨.HS_HEn_CTL, 0, 0⟩
def F.HS_HEn_MAC_LO_ADDR : Field := ⟨.HS_HEn_MAC_LO, 31, 0⟩
def F.HS_HEn_MAC_HI_ADDR : Field := ⟨.HS_HEn_MAC_HI, 15, 0⟩
def F.HS_HEn_LAT_TX_EXT : Field := ⟨.HS_HEn_LAT, 31, 16⟩
def F.HS_HEn_LAT_RX_EXT : Field := ⟨.HS_HEn_LAT, 15, 0⟩
def F.HS_HEn_CNT_FCS_ERR : Field := ⟨.HS_HEn_CNT, 31, 16⟩
def F.HS_HEn_CNT_RX_OVR : Field := ⟨.HS_HEn_CNT, 15, 0⟩
def F.HS_HEn_TXq_CTL_LOG2SIZE : Field := ⟨.HS_HEn_TXq_CTL, 19, 16⟩
def F.HS_HEn_TXq_CTL_LATE : Field := ⟨.HS_HEn_TXq_CTL, 8, 8⟩
def F.HS_HEn_TXq_CTL_EN : Field := ⟨.HS_HEn_TXq_CTL, 0, 0⟩
def F.HS_HEn_TXq_BASE_BASE : Field := ⟨.HS_HEn_TXq_BASE, 23, 0⟩
def F.HS_HEn_TXq_IDX_TAIL : Field := ⟨.HS_HEn_TXq_IDX, 27, 16⟩
def F.HS_HEn_TXq_IDX_HEAD : Field := ⟨.HS_HEn_TXq_IDX, 11, 0⟩
def F.HS_HEn_TXq_CNT_LATE_CNT : Field := ⟨.HS_HEn_TXq_CNT, 31, 16⟩
def F.HS_HEn_TXq_CNT_SLIP_CNT : Field := ⟨.HS_HEn_TXq_CNT, 15, 0⟩
def F.HS_HEn_RXr_CTL_LOG2SIZE : Field := ⟨.HS_HEn_RXr_CTL, 19, 16⟩
def F.HS_HEn_RXr_CTL_EN : Field := ⟨.HS_HEn_RXr_CTL, 0, 0⟩
def F.HS_HEn_RXr_BASE_BASE : Field := ⟨.HS_HEn_RXr_BASE, 23, 0⟩
def F.HS_HEn_RXr_IDX_TAIL : Field := ⟨.HS_HEn_RXr_IDX, 27, 16⟩
def F.HS_HEn_RXr_IDX_HEAD : Field := ⟨.HS_HEn_RXr_IDX, 11, 0⟩
def F.HS_HEn_RXr_CNT_DISCARD : Field := ⟨.HS_HEn_RXr_CNT, 31, 16⟩
def F.HS_HEn_RXr_CNT_RX_OVR : Field := ⟨.HS_HEn_RXr_CNT, 15, 0⟩
def F.CH_CTL_REFUSE : Field := ⟨.CH_CTL, 31, 24⟩
def F.CH_CTL_FAIL_CYC : Field := ⟨.CH_CTL, 19, 16⟩
def F.CH_CTL_MODE : Field := ⟨.CH_CTL, 9, 8⟩
def F.CH_CTL_EN : Field := ⟨.CH_CTL, 0, 0⟩
def F.CH_STAT_TAKEOVER_CNT : Field := ⟨.CH_STAT, 31, 24⟩
def F.CH_STAT_LOST_CNT : Field := ⟨.CH_STAT, 23, 16⟩
def F.CH_STAT_PRESENT : Field := ⟨.CH_STAT, 15, 12⟩
def F.CH_STAT_CHAIN_LOST : Field := ⟨.CH_STAT, 8, 8⟩
def F.CH_STAT_ROLE : Field := ⟨.CH_STAT, 5, 4⟩
def F.CH_STAT_LINK1 : Field := ⟨.CH_STAT, 1, 1⟩
def F.CH_STAT_LINK0 : Field := ⟨.CH_STAT, 0, 0⟩
def F.CH_REP_STAT_LAG_CNT : Field := ⟨.CH_REP_STAT, 31, 16⟩
def F.CH_REP_STAT_ROUND : Field := ⟨.CH_REP_STAT, 15, 0⟩
def F.CH_REPr_BASE_VALUE : Field := ⟨.CH_REPr_BASE, 23, 0⟩
def F.CH_REPr_LEN_VALUE : Field := ⟨.CH_REPr_LEN, 23, 0⟩
def F.CH_BRIDGEk_EN : Field := ⟨.CH_BRIDGEk, 31, 31⟩
def F.CH_BRIDGEk_DEST : Field := ⟨.CH_BRIDGEk, 29, 28⟩
def F.CH_BRIDGEk_LOCAL : Field := ⟨.CH_BRIDGEk, 27, 16⟩
def F.CH_BRIDGEk_REMOTE : Field := ⟨.CH_BRIDGEk, 11, 0⟩
def F.LC_STATE_FAIL_CNT : Field := ⟨.LC_STATE, 23, 16⟩
def F.LC_STATE_REMAIN : Field := ⟨.LC_STATE, 15, 6⟩
def F.LC_STATE_ACCESS : Field := ⟨.LC_STATE, 5, 4⟩
def F.LC_STATE_STATE : Field := ⟨.LC_STATE, 1, 0⟩
def F.LC_CMD_REFUSE : Field := ⟨.LC_CMD, 31, 24⟩
def F.LC_CMD_OP : Field := ⟨.LC_CMD, 3, 0⟩
def F.LC_CHALk_DATA : Field := ⟨.LC_CHALk, 31, 0⟩
def F.LC_DATAk_DATA : Field := ⟨.LC_DATAk, 31, 0⟩

/-- The field that receives the reason code of a refused write of a register: its own REFUSE field, or the one
the table of R647 names; none where neither exists (the refusal is then recorded under R615 alone). -/
def Reg.refuseField : Reg → Option Field
  | .GLOBAL_AG_EN => some F.GLOBAL_AG_EN_REFUSE
  | .CLK_REF => some F.CLK_REF_REFUSE
  | .CLK_DVFS => some F.CLK_DVFS_REFUSE
  | .TIM_CT_STAT => some F.TIM_CT_STAT_REFUSE
  | .TIM_CT_SET_LO => some F.TIM_CT_STAT_REFUSE
  | .TIM_CT_SET_HI => some F.TIM_CT_STAT_REFUSE
  | .TIM_PT_CTL => some F.TIM_PT_CTL_REFUSE
  | .TIM_PT_INC_LO => some F.TIM_PT_CTL_REFUSE
  | .TIM_PT_INC_HI => some F.TIM_PT_CTL_REFUSE
  | .TIM_PT_ADJ => some F.TIM_PT_CTL_REFUSE
  | .TIM_CYCLE => some F.TIM_CYCLE_REFUSE
  | .TIM_PT_SET_LO => some F.TIM_PT_CTL_REFUSE
  | .TIM_PT_SET_HI => some F.TIM_PT_CTL_REFUSE
  | .CAL_SET_LO => some F.CAL_CTL_REFUSE
  | .CAL_SET_HI => some F.CAL_CTL_REFUSE
  | .CAL_CTL => some F.CAL_CTL_REFUSE
  | .CAL_TRIM => some F.CAL_CTL_REFUSE
  | .CAL_UTC => some F.CAL_CTL_REFUSE
  | .KL_GLOBAL => some F.KL_GLOBAL_REFUSE
  | .KL_MODE_SW => some F.KL_MODE_SW_REFUSE
  | .KL_MODE_STATm => some F.KL_MODE_STATm_REFUSE
  | .KL_TIME_CTL => some F.KL_TIME_CTL_REFUSE
  | .KL_PORTn_CTL => some F.KL_PORTn_CTL_REFUSE
  | .KL_PORTn_EVTX_BASE => some F.KL_PORTn_CTL_REFUSE
  | .KL_PORTn_EVRX_BASE => some F.KL_PORTn_CTL_REFUSE
  | .KL_PORTn_EVIDX => some F.KL_PORTn_CTL_REFUSE
  | .KL_PORTn_EVTOK => some F.KL_PORTn_CTL_REFUSE
  | .KL_PORTn_LAT => some F.KL_PORTn_CTL_REFUSE
  | .KL_SCHEDm_Ww => some F.KL_MODE_STATm_REFUSE
  | .LV_TPL_CMD => some F.LV_TPL_CMD_REFUSE
  | .LV_FLOW_CMD => some F.LV_FLOW_CMD_REFUSE
  | .LV_TICKk_CTL => some F.LV_TICKk_OFS_REFUSE
  | .LV_TICKk_OFS => some F.LV_TICKk_OFS_REFUSE
  | .LV_TPLt_Ww => some F.LV_TPL_CMD_REFUSE
  | .LV_FLOWf_Ww => some F.LV_FLOW_CMD_REFUSE
  | .VC_CTLn => some F.VC_CTLn_REFUSE
  | .KN_CTL => some F.KN_CTL_REFUSE
  | .KN_AGMAP_SH => some F.KN_CTL_REFUSE
  | .KN_MODEL => some F.KN_MODEL_REFUSE
  | .KN_PLAN_CTL => some F.KN_PLAN_CTL_REFUSE
  | .KN_RANGE_CTLc => some F.KN_CTL_REFUSE
  | .KN_RANGE_MINc => some F.KN_CTL_REFUSE
  | .KN_RANGE_MAXc => some F.KN_CTL_REFUSE
  | .AX_CTLn => some F.AX_CTLn_REFUSE
  | .AX_CMDn => some F.AX_STATn_CODE
  | .AX_CMPk_CTL => some F.AX_CMPk_CTL_REFUSE
  | .AX_CMPk_POS => some F.AX_CMPk_CTL_REFUSE
  | .AX_CMPk_INT => some F.AX_CMPk_CTL_REFUSE
  | .AX_CMPk_CNT => some F.AX_CMPk_CTL_REFUSE
  | .AX_CMPk_OUT => some F.AX_CMPk_CTL_REFUSE
  | .AX_STj_CTL => some F.AX_STj_CTL_REFUSE
  | .AX_STj_TIM => some F.AX_STj_CTL_REFUSE
  | .FB_CFGn => some F.FB_CFGn_REFUSE
  | .FB_FILTn => some F.FB_CFGn_REFUSE
  | .FB_THRn => some F.FB_CFGn_REFUSE
  | .FB_AMPn => some F.FB_CFGn_REFUSE
  | .FB_SCALEn => some F.FB_CFGn_REFUSE
  | .FB_OFSn => some F.FB_CFGn_REFUSE
  | .FB_CNTn => some F.FB_CFGn_REFUSE
  | .FB_POSn => some F.FB_CFGn_REFUSE
  | .FB_SPDn => some F.FB_CFGn_REFUSE
  | .FB_LOADn => some F.FB_CFGn_REFUSE
  | .FB_CMDn => some F.FB_CFGn_REFUSE
  | .FB_IDXn => some F.FB_CFGn_REFUSE
  | .FB_IDXCT_LOn => some F.FB_CFGn_REFUSE
  | .FB_IDXCT_HIn => some F.FB_CFGn_REFUSE
  | .FB_SSIn => some F.FB_CFGn_REFUSE
  | .FB_SSITn => some F.FB_CFGn_REFUSE
  | .FB_SSIJn => some F.FB_CFGn_REFUSE
  | .FB_SPDCn => some F.FB_CFGn_REFUSE
  | .FB_FLTn => some F.FB_CFGn_REFUSE
  | .FB_STATn => some F.FB_CFGn_REFUSE
  | .FB_CNTAn => some F.FB_CFGn_REFUSE
  | .FB_CNTBn => some F.FB_CFGn_REFUSE
  | .FB_TOKn => some F.FB_CFGn_REFUSE
  | .FB_REPn => some F.FB_CFGn_REFUSE
  | .TH_MB_CMD => some F.TH_MB_CMD_REFUSE
  | .TH_MB_ADDR => some F.TH_MB_CMD_REFUSE
  | .TH_MB_DATA => some F.TH_MB_CMD_REFUSE
  | .TH_MB_CONFIRM => some F.TH_MB_CMD_REFUSE
  | .SO_GLOBAL => some F.SO_GLOBAL_REFUSE
  | .SO_UBASE => some F.SO_GLOBAL_REFUSE
  | .SO_CHk => some F.SO_GLOBAL_REFUSE
  | .SO_Cc_CTL => some F.SO_Cc_CTL_REFUSE
  | .SO_Cc_CMD => some F.SO_Cc_CTL_REFUSE
  | .SO_Cc_STAT => some F.SO_Cc_CTL_REFUSE
  | .SO_Cc_BASE => some F.SO_Cc_CTL_REFUSE
  | .SO_Cc_SIZE => some F.SO_Cc_CTL_REFUSE
  | .SO_Cc_PRE => some F.SO_Cc_CTL_REFUSE
  | .SO_Cc_POST => some F.SO_Cc_CTL_REFUSE
  | .SO_Cc_RATE => some F.SO_Cc_CTL_REFUSE
  | .SO_Cc_TRG0 => some F.SO_Cc_CTL_REFUSE
  | .SO_Cc_TRG1 => some F.SO_Cc_CTL_REFUSE
  | .SO_Cc_T0A => some F.SO_Cc_CTL_REFUSE
  | .SO_Cc_T0B => some F.SO_Cc_CTL_REFUSE
  | .SO_Cc_T1A => some F.SO_Cc_CTL_REFUSE
  | .SO_Cc_T1B => some F.SO_Cc_CTL_REFUSE
  | .SO_Cc_TIME => some F.SO_Cc_CTL_REFUSE
  | .SO_Cc_WIN => some F.SO_Cc_CTL_REFUSE
  | .SO_Cc_MASK => some F.SO_Cc_CTL_REFUSE
  | .SO_Cc_TOK => some F.SO_Cc_CTL_REFUSE
  | .SO_Cc_CNT => some F.SO_Cc_CTL_REFUSE
  | .SO_MISSED_TRIGc => some F.SO_Cc_CTL_REFUSE
  | .SO_Cc_WRITTEN => some F.SO_Cc_CTL_REFUSE
  | .PW_MOD => some F.PW_MOD_REFUSE
  | .PW_KEEPMASK => some F.PW_MOD_REFUSE
  | .PW_TRIM => some F.PW_MOD_REFUSE
  | .PW_WAKE => some F.PW_MOD_REFUSE
  | .PW_WAKE_CT_LO => some F.PW_MOD_REFUSE
  | .PW_WAKE_CT_HI => some F.PW_MOD_REFUSE
  | .PW_KEEP_CTL => some F.PW_KEEP_CTL_REFUSE
  | .PW_KEEP_ADD => some F.PW_KEEP_CTL_REFUSE
  | .PW_DOMd_CTL => some F.PW_DOMd_CTL_REFUSE
  | .PW_VOLTi_CTL => some F.PW_VOLTi_CTL_REFUSE
  | .PW_VOLTi_STEP => some F.PW_VOLTi_CTL_REFUSE
  | .SV_RETIRE => some F.SV_RETIRE_REFUSE
  | .SV_UNRETIRE => some F.SV_UNRETIRE_REFUSE
  | .SV_PLACE_SHn => some F.SV_PLACE_CMD_REFUSE
  | .SV_PLACE_CMD => some F.SV_PLACE_CMD_REFUSE
  | .SV_MIG_CTL => some F.SV_MIG_CTL_REFUSE
  | .SV_IMG_CTL => some F.SV_IMG_CTL_REFUSE
  | .SV_WDOG_CTL => some F.SV_WDOG_CTL_REFUSE
  | .SV_FORCE => some F.SV_FORCE_REFUSE
  | .HS_IMG_CMD => some F.HS_IMG_CMD_REFUSE
  | .HS_IMG_SRC => some F.HS_IMG_CMD_REFUSE
  | .HS_IMG_DST => some F.HS_IMG_CMD_REFUSE
  | .HS_IMG_LEN => some F.HS_IMG_CMD_REFUSE
  | .HS_HEn_CTL => some F.HS_HEn_CTL_REFUSE
  | .HS_HEn_MAC_LO => some F.HS_HEn_CTL_REFUSE
  | .HS_HEn_MAC_HI => some F.HS_HEn_CTL_REFUSE
  | .HS_HEn_LAT => some F.HS_HEn_CTL_REFUSE
  | .HS_HEn_CNT => some F.HS_HEn_CTL_REFUSE
  | .HS_HEn_TXq_CTL => some F.HS_HEn_CTL_REFUSE
  | .HS_HEn_TXq_BASE => some F.HS_HEn_CTL_REFUSE
  | .HS_HEn_TXq_IDX => some F.HS_HEn_CTL_REFUSE
  | .HS_HEn_TXq_CNT => some F.HS_HEn_CTL_REFUSE
  | .HS_HEn_RXr_CTL => some F.HS_HEn_CTL_REFUSE
  | .HS_HEn_RXr_BASE => some F.HS_HEn_CTL_REFUSE
  | .HS_HEn_RXr_IDX => some F.HS_HEn_CTL_REFUSE
  | .HS_HEn_RXr_CNT => some F.HS_HEn_CTL_REFUSE
  | .CH_CTL => some F.CH_CTL_REFUSE
  | .CH_REPr_BASE => some F.CH_CTL_REFUSE
  | .CH_REPr_LEN => some F.CH_CTL_REFUSE
  | .CH_BRIDGEk => some F.CH_CTL_REFUSE
  | .LC_CMD => some F.LC_CMD_REFUSE
  | .LC_DATAk => some F.LC_CMD_REFUSE
  | _ => none

end Sys2Proof.Machine
end

