-- ==== Sys2Proof/Machine/State.lean ====
section
/-!
DEFINITION. The state of the NV256 module: its register file, its memories, and what each block holds beside its
registers. Every structure is plain data. A table (`List (Nat × α)`) lists only the indices that differ from the
block's default entry, in rising order. The `pending` queue holds the commands that wait.
-/

namespace Sys2Proof.Machine

/-! ## Stops -/

/-- The faults of the model: none. Every condition the spec calls a fault is an effect on the state. -/
inductive Fault where
  /-- No meaning raises it; the type needs a member. Safe. -/
  | unused
  deriving DecidableEq, Repr

/-- The refusals of the model. -/
inductive Refusal where
  /-- The command has no meaning in the model; raised by Dispatch alone. Safe. -/
  | notModelled (mnemonic : String)
  deriving DecidableEq, Repr

/-! ## Time (chapter 02) -/

/-- The counters of chapter 02 and the base cycle in progress (R28 to R30, R59, R650, R651). -/
structure TimeState where
  /-- Cell time, in units of 2^-32 ns (R59). -/
  ct : Nat
  /-- Plant time, in units of 2^-32 ns (R59). -/
  pt : Nat
  /-- The increment of CT in force, 8.32 fixed point (R61). -/
  ctInc : Nat
  /-- The increment of PT in force, 8.32 fixed point (R67). -/
  ptInc : Nat
  /-- A load of CT that applies at the next TIME tick (R64). -/
  ctLoad : Option Nat
  /-- A load of PT that applies at the next TIME tick (R69). -/
  ptLoad : Option Nat
  /-- The sum of the PT adjustments that apply at the next TIME tick (R68). -/
  ptAdj : Int
  /-- TIME ticks since power-on reset: the model's own time base of the module's timeouts. -/
  ticks : Nat
  /-- CT, in units of 2^-32 ns, at the last accepted PT write (R70). -/
  ptWriteAt : Nat
  /-- BASE code of the base cycle in force (R650). -/
  base : Nat
  /-- CUTOFF of the base cycle in force, in 0.25 µs units (R650). -/
  cutoff : Nat
  /-- Number of the base cycle in progress (R29). -/
  bcn : Nat
  /-- CT ns of the start of the base cycle in progress. -/
  bcStart : Nat
  /-- No base cycle runs: after a load of CT, until CT reaches a multiple of the length (R651). -/
  noBase : Bool
  /-- While no base cycle runs: CT ns of the start at which the next one begins (R651). -/
  startAt : Nat
  /-- The CUTOFF of the base cycle in progress has passed. -/
  cutoffDone : Bool
  /-- The plan-cycle work of the base cycle in progress has run (R25, R35). -/
  planDone : Bool
  /-- The super-cycle work of the base cycle in progress has run (R23). -/
  superDone : Bool
  /-- The sync and downlink frames of the base cycle in progress have been sent (R29). -/
  startDone : Bool
  /-- Cycles of the CORE_A and CORE_B clocks since power-on reset, and the root edges of the cycle in progress
  (R51, CSR CYCLE). -/
  cycA : Nat
  cycB : Nat
  edgA : Nat
  edgB : Nat
  /-- W1C flags that an event has set in the present TIME tick: register offset and bit (R7). -/
  raised : List (Nat × Nat)
  /-- Capture FULL flags and vector pending bits that a write has cleared in the present TIME tick: register offset and
  bit (R7, R74, R584). -/
  cleared : List (Nat × Nat)
  deriving DecidableEq, Repr

/-- What feeds the calendar (R82). -/
inductive CalSupply where
  | vin12 | supercap | vbat | none
  deriving DecidableEq, Repr

/-- The calendar (R81 to R89). -/
structure CalState where
  /-- UTC seconds since 1970-01-01, without leap seconds (R81). -/
  sec : Nat
  /-- Sub-second count in 2^-15 s (R81). -/
  sub : Nat
  /-- Crystal cycle within the present window of 2^25 cycles (R85). -/
  window : Nat
  /-- Fraction of a crystal cycle elapsed, in 1/500,000,000 (the model's own accumulator, assumption 12). -/
  frac : Nat
  /-- An inserted leap second is in progress (R88). -/
  leapNow : Bool
  /-- Lag at the start of the present discipline window, in crystal cycles (R86). -/
  eStart : Int
  /-- Lag last measured (R86). -/
  eLast : Int
  /-- A first PT second under the present discipline has been met (R86). -/
  started : Bool
  /-- A window of 2^25 cycles has ended, and TRIM is not yet recomputed for it (R86). -/
  windowDue : Bool
  supply : CalSupply
  deriving DecidableEq, Repr

/-! ## The cell (chapter 01) -/

/-- A snapshot in force: the bytes of the arm group record, of its axis records and of its capsule records (R25). -/
structure Snapshot where
  rec_ : List Byte
  axes : List Byte
  caps : List Byte
  deriving DecidableEq, Repr

/-- What the module keeps for an arm group beside its record (R25 to R27, R36, R37, R41 to R47). -/
structure AgState where
  snap : Option Snapshot
  /-- The snapshot in force was taken at the last super-cycle boundary (R26). -/
  fresh : Bool
  /-- A path-following stop at PFS_DECEL runs (R27, R319). -/
  stopping : Bool
  /-- Consecutive late base cycles (R37). -/
  lateRun : Nat
  /-- The enable bit at the start of the base cycle in progress (R36). -/
  enAtStart : Bool
  /-- PACE in force: true for CREDIT (R26). -/
  pace : Bool
  /-- CREDIT in force (R26). -/
  credit : Nat
  /-- The credit queue: the base-cycle tag and the PLAN_SEQ of each queued trajectory point (R41, R45). -/
  queue : List (Nat × Nat)
  /-- PACE has left CREDIT and the queue is still being consumed (R47). -/
  draining : Bool
  /-- A category 1 stop is commanded in the downlink control words of the group's drives (R37, R320). -/
  cat1 : Bool
  deriving DecidableEq, Repr

/-- The cell as the module holds it beside the records in spine SRAM. -/
structure CellState where
  ags : List (Nat × AgState)
  /-- Zone records in the snapshot in force (R25). -/
  zones : List (Nat × List Byte)
  /-- Person records in the snapshot in force (R25). -/
  persons : List (Nat × List Byte)
  deriving DecidableEq, Repr

/-! ## Levain (chapter 06) -/

/-- A task instance in the matching store (R218 to R232). -/
structure Inst where
  tpl : Nat
  tag : Nat
  /-- The slots that hold a token, with their payloads. -/
  slots : List (Nat × Word)
  /-- CT ns of the deadline (R230). -/
  deadline : Option Nat
  deriving DecidableEq, Repr

/-- A fired instance not yet dispatched (R233 to R240). -/
structure Fired where
  tpl : Nat
  tag : Nat
  slots : List (Nat × Word)
  part : Bool
  /-- CT ns at which the instance fired (R244), and the TIME tick (R237). -/
  fireCt : Nat
  tick : Nat
  /-- Released: eligible under R240. -/
  released : Bool
  /-- CT ns of the release, or of the instant at which it is due. -/
  relAt : Nat
  /-- CT ns of the scheduled instant of an AHEAD template (R239). -/
  sched : Option Nat
  deriving DecidableEq, Repr

/-- Levain beside its tables: the matching store, the fired instances in firing order, and the templates that have
fired or discarded an instance since they were enabled (R223). -/
structure LvState where
  waiting : List Inst
  fired : List Fired
  seqValid : List Nat
  /-- Tick generators that have deposited in the base cycle in progress. -/
  tickDone : List Nat
  /-- TIME tick and rank, in the order of R220, of the last token applied. -/
  turn : Nat × Nat
  deriving DecidableEq, Repr

/-! ## Velist cores (chapter 05) -/

/-- Run state of a core (R211, VC_STATn). -/
inductive CoreRun where
  | idle | run | wait | halted | stopped
  deriving DecidableEq, Repr

/-- The instance a core serves (R239, R244, R654). -/
structure Service where
  tpl : Nat
  tag : Nat
  flow : Nat
  /-- Logical core it is served on. -/
  lcore : Nat
  /-- Scheduled instant of an AHEAD template, CT ns (R43, R239). -/
  sched : Option Nat
  /-- AHEAD template (R239). -/
  ahead : Bool
  /-- It entered service before its scheduled instant: it runs ahead (R239). -/
  early : Bool
  /-- PLAN_SEQ of its arm group as it entered service (R45). -/
  planSeq : Nat
  /-- Code-window bank selected at dispatch (R553). -/
  bank : Nat
  deriving DecidableEq, Repr

/-- An open bundle: its class-A instruction has executed, its class-B instruction comes next (R179, R183). -/
structure Pair where
  /-- Where the bundle leads. -/
  next : Word
  /-- RRB after the bundle. -/
  rrb : Nat
  deriving DecidableEq, Repr

/-- One Velist core (R175 to R216). -/
structure Core where
  run : CoreRun
  /-- The state HALT left (R211). -/
  resume : CoreRun
  /-- HANDLER mode (R212). -/
  handler : Bool
  /-- Bits [15:8] of STATUS: the logical core (R210, R216). -/
  lcore : Nat
  pc : Word
  /-- The open bundle, between its two instructions. -/
  pair : Option Pair
  /-- g0 to g31 (g0 reads 0). -/
  g : List (Nat × Word)
  /-- Physical rotating registers w0 to w63. -/
  w : List (Nat × Word)
  /-- Accumulators acc0 to acc7, 72 bits. -/
  acc : List (Nat × BitVec 72)
  /-- Predicates p0 to p7, bit i for p i (p0 reads 1). -/
  p : BitVec 8
  /-- Circular-buffer registers cb0 to cb7: BASE, LEN and IDX at 3k, 3k + 1, 3k + 2. -/
  cb : List (Nat × Word)
  rrb : Nat
  lc : Word
  sat : Bool
  aovf : Bool
  satCnt : Nat
  aovfCnt : Nat
  fpsr : Word
  epc : Word
  ecause : Word
  eaddr : Word
  estatus : Word
  vbar : Word
  budget : Nat
  /-- BUDGET has counted to 0 and its exception is due (R215). -/
  budgetDue : Bool
  /-- Island cycles to subtract for the CYCLE CSR: those before core reset and those with the clock gated. -/
  cycOff : Nat
  /-- Island cycle count at which the core's clock was gated (TWAIT, domain not ON). -/
  gateAt : Option Nat
  /-- CT ns of a TWAIT in progress. -/
  twait : Option Nat
  /-- General register TWAIT writes at its wake. -/
  twaitRd : Nat
  /-- HALT requested by VC_CTL, not yet taken. -/
  haltReq : Bool
  excCnt : Nat
  dfCnt : Nat
  lastCause : Nat
  svc : Option Service
  /-- Frozen for a migration cut-over (R548). -/
  frozen : Bool
  deriving DecidableEq, Repr

/-! ## Power (chapter 14) -/

/-- A voltage step in progress (R536, R537). -/
structure VStep where
  /-- Voltage before the step, mV. -/
  prev : Nat
  /-- Voltage the step goes to, mV. -/
  goal : Nat
  /-- Divider to write when the check passes (an upward step). -/
  div : Option Nat
  /-- Tick at which the step began. -/
  began : Nat
  deriving DecidableEq, Repr

/-- An entry into HOLD or NAP in progress (R525, R526), or a wake (R528). -/
structure PwEntry where
  /-- 2 HOLD, 3 NAP, 0 a wake to RUN. -/
  target : Nat
  /-- Members that have agreed and are GATED, newest first. -/
  stopped : List Nat
  /-- Members still to take, in order. -/
  todo : List Nat
  /-- Steps 3 to 5 have begun: a wake source is held (R527). -/
  committed : Bool
  deriving DecidableEq, Repr

/-- The sequencer in Crust beside its registers. -/
structure PwState where
  /-- Target state of each moving domain. -/
  target : List (Nat × Nat)
  /-- Domains whose drain time runs, with the tick at which it began (R515). -/
  drain : List (Nat × Nat)
  entry : Option PwEntry
  /-- CLK_DVFS dividers and island targets saved at an entry (R525). -/
  savedDvfs : Nat
  savedMv : List Nat
  heldWake : Bool
  /-- The module reloads from NAP (R528). -/
  reload : Bool
  /-- User keep-list of each domain (R531). -/
  keep : List (Nat × List Nat)
  /-- Saved registers of each domain in RETAIN: offset and value (R532). -/
  saved : List (Nat × List (Nat × Word))
  /-- Voltage step of each island. -/
  vstep : List (Nat × VStep)
  /-- Domains with an access under R518 in this super-cycle (R521). -/
  offSeen : List Nat
  /-- A thermal entry into TRIM waits for a step to end (R523). -/
  thermWait : Bool
  /-- Junction temperature last measured, °C. -/
  temp : Int
  /-- Instant of PW_WAKE_CT that has been reached since it or CT_EN was written (R529). -/
  ctReached : Option Nat
  /-- Tick at which the adaptive loop of each island last lowered its voltage (R538). -/
  lowered : List (Nat × Nat)
  deriving DecidableEq, Repr

/-! ## Service (chapter 15) -/

/-- A journal entry in the queue or the ring (R562). -/
structure JournalEntry where
  block : Nat
  code : Nat
  cls : Nat
  ct : Nat
  calSec : Nat
  calSub : Nat
  rep : Nat
  data : List Nat
  deriving DecidableEq, Repr

/-- The journal (R562 to R565). -/
structure JnlState where
  queue : List JournalEntry
  /-- Entries were lost since the last one written (R563). -/
  lost : Bool
  /-- SEQ of the newest entry written, 0 for none. -/
  seq : Nat
  /-- Next line of the ring to write (R564). -/
  line : Nat
  /-- The 64-byte lines of the ring that hold an entry, by line number. -/
  ring : List (Nat × List Byte)
  /-- A selected entry is being loaded (R565). -/
  loading : Bool
  deriving DecidableEq, Repr

/-- A migration in progress (R545 to R552). -/
structure MigState where
  group : Nat
  source : Nat
  target : Nat
  coreMap : Nat
  retire : Bool
  /-- Line numbers (64 bytes) of the source's memory stored to since the engine copied them, oldest first, as of a tick. -/
  dirty : List Nat
  dirtyAt : Nat
  /-- The freeze completed and the state was copied: the cut-over applies at the boundary. -/
  moved : Bool
  /-- An abort waits for the cut-over to complete (R552). -/
  abortDue : Bool
  deriving DecidableEq, Repr

/-- Retirement, images, repair and the watchdog beside their registers. -/
structure SvState where
  /-- Slices retired in MRAM (R543), bit s. -/
  retired : Nat
  mig : Option MigState
  /-- Levain holds dispatch of this arm group for a cut-over (R548). -/
  hold : Option Nat
  /-- Valid image banks (R596, R597), bit b. -/
  imgValid : Nat
  /-- Active image bank in MRAM (R555). -/
  imgActive : Nat
  /-- Placement stored in MRAM at the last accepted commit or cut-over (R593). -/
  placeStored : Option (List Nat)
  /-- CT-independent tick of the start of the present 24 h health window (R542). -/
  dayStart : Nat
  /-- Slices that were within each wear limit at the last test, bit 3s + indicator. -/
  wornSeen : Nat
  /-- Scrub passes that corrected a row or page: memory, unit, row, tick of the pass (R558 to R560). -/
  scrub : List (Nat × Nat × Nat × Nat)
  /-- SRAM repairs recorded in MRAM: memory, unit, row (R558). -/
  repairs : List (Nat × Nat × Nat)
  /-- MRAM lines replaced from the spare pool (R559). -/
  spareLines : List Nat
  /-- Tick of the last kick, or of the enable (R566). -/
  wdKick : Nat
  /-- Tick of a first key that waits for the second (R566). -/
  wdKey : Option Nat
  /-- The early warning of the present period has been given. -/
  wdEarly : Bool
  /-- A kick has completed since the enable (R567). -/
  wdHad : Bool
  deriving DecidableEq, Repr

/-- A token forwarded over the chain (R572). -/
structure Bridged where
  dest : Nat
  tpl : Nat
  slot : Nat
  tag : Nat
  payload : Word
  deriving DecidableEq, Repr

/-- A part of a replication round: its number, whether the round ends with it, lines of spine SRAM with their bytes, and
GLOBAL_AG_EN, KN_PLAN_ADR and KN_PLAN_VF (R575). -/
structure ChRound where
  round : Nat
  complete : Bool
  lines : List (Nat × List Byte)
  regs : List Nat
  deriving DecidableEq, Repr

/-- The chain and the pair (R571 to R577). -/
structure ChState where
  /-- Strapped position (CHID1, CHID0). -/
  strap : Nat
  /-- Consecutive base-cycle starts without a chain time word on either link (R576). -/
  missed : Nat
  /-- A strapped position is heard twice; the pair's modules agree in image and schedules (R571). -/
  heardTwice : Bool
  peerMatch : Bool
  /-- A word arrived since the last base-cycle start, for each chain port. -/
  word0 : Bool
  word1 : Bool
  /-- A sync frame of the primary was accepted in the last base cycles without a word (R576). -/
  syncSeen : Bool
  /-- Tokens forwarded to other modules, oldest first (R572). -/
  sent : List Bridged
  /-- The measured delay of each chain port's link, Q24.8 ns, and the super-cycle of its exchange (R171). -/
  links : List (Nat × Nat × Nat)
  /-- Exchange requests sent and not yet answered: chain port, and CT of the stamp in 2^-32 ns (R146, R171). -/
  asks : List (Nat × Nat)
  /-- Exchange answers sent in the present base cycle: chain port, and TURN in Q24.8 ns (R146, R171). -/
  answers : List (Nat × Nat)
  /-- Chain time words of the present base cycle: chain port, CT in 2^-32 ns, position, time source (R171). -/
  words : List (Nat × Nat × Nat × Nat)
  /-- Spine SRAM lines written since the last replication round began, and lines of the round under way that wait (R575). -/
  written : List Nat
  left : List Nat
  /-- What was sent to the standby, oldest first (R575). -/
  rounds : List ChRound
  /-- GLOBAL_AG_EN, KN_PLAN_ADR and KN_PLAN_VF of the last complete round (R575, R577). -/
  repRegs : List Nat
  /-- Base cycle of a takeover in progress (R577). -/
  takeover : Option Nat
  /-- CT ns of the last chain time word of each chain port, base cycles without one (R172). -/
  quiet0 : Nat
  quiet1 : Nat
  deriving DecidableEq, Repr

/-! ## Host interfaces (chapter 16) -/

/-- A frame a plant Ethernet port sent: port, queue, bytes, PT ns of its stamp (R585, R588), and the tick of the module's
own time base at which the port may start the next one. -/
structure HeFrame where
  port : Nat
  queue : Nat
  bytes : List Byte
  stamp : Nat
  ends : Nat
  deriving DecidableEq, Repr

/-- The host complex beside its registers. -/
structure HsState where
  /-- Vectors whose MSI-X message was sent, oldest first (R584). -/
  msix : List Nat
  /-- The PCIe link is up; after the loss of its reference it stays down until a reset. -/
  link : Bool
  /-- Frames sent by the plant Ethernet ports, oldest first. -/
  sent : List HeFrame
  /-- Transmit queues whose head descriptor waits for its launch time: port × 8 + queue (R76, R78). -/
  waiting : List Nat
  /-- Those of them whose launch time a load or adjustment of PT has put in the past (R78, R80). -/
  late : List Nat
  /-- MNT: the answer bytes of the last transfer, STATUS last (R589). -/
  mntReply : List Nat
  /-- The data a BAR2 or register read returned last (R580, R581). -/
  readData : List Byte
  /-- An HS_IMG_CMD in progress: operation and bank (R596, R597). -/
  img : Option (Nat × Nat)
  /-- The boot waits at a register-list entry: its index, and the tick at which its wait began (R592, R593). -/
  boot : Option (Nat × Nat)
  deriving DecidableEq, Repr

/-- The lifecycle (R598 to R603). -/
structure LcState where
  /-- 0 MANUFACTURE, 1 OWNER-OPEN, 2 FIELD-LOCKED. -/
  state : Nat
  owner : List Byte
  /-- The stored service password, none before SET_PW (R598, R601). -/
  pw : Option (List Byte)
  /-- Access granted by authentication: 0 none, 1 SERVICE, 2 FULL. -/
  granted : Nat
  /-- Tick of the authentication that opened the present access (R603). -/
  authAt : Nat
  /-- Tick at which the present challenge was issued; none when none serves (R600). -/
  chal : Option Nat
  /-- Tick of the fourth consecutive failure (R602). -/
  waitFrom : Option Nat
  /-- FULL access ended by a reset: the journal entry is written during the boot that follows (R603, event 0x1F). -/
  endedByReset : Bool
  deriving DecidableEq, Repr

/-! ## Memories -/

/-- The byte memories of the module. -/
structure MemState where
  /-- Spine SRAM, 16 MB (R16). -/
  sram : List Host.Cell
  /-- Core TCMs without their code windows: core × 0x8_0000 + offset (R181). -/
  tcm : List Host.Cell
  /-- Code windows: (core × 2 + bank) × 0x1_0000 + offset (R553). -/
  win : List Host.Cell
  /-- Slice-shared SRAM: slice × 0x10_0000 + offset (R181). -/
  shared : List Host.Cell
  /-- DRAM, 2 GiB (R181). -/
  dram : List Host.Cell
  /-- MRAM image banks: bank × 0x200_0000 + offset (R553). -/
  img : List Host.Cell
  /-- MRAM safety-set banks: bank × 0x10_0000 + offset (R472). -/
  safety : List Host.Cell
  deriving DecidableEq, Repr

/-! ## Koastis Link (chapters 03, 04) -/

/-- One REPORT of a node: hop, link delay and forwarding residences, Q24.8 ns (R145). -/
structure KlReport where
  node : Nat
  hop : Nat
  link : Nat
  resAB : Nat
  resBA : Nat
  deriving DecidableEq, Repr

/-- A RESULT entry of a node (R145, R147). -/
structure KlResult where
  hopA : Nat
  hopB : Nat
  linkA : Nat
  delayA : Nat
  linkB : Nat
  delayB : Nat
  deriving DecidableEq, Repr

/-- What the module keeps for a node. -/
structure KlNode where
  /-- Present (R134), with its runs of accepted and missed records. -/
  present : Bool
  run : Nat
  miss : Nat
  /-- Integrated, as its last accepted uplink reported (R144), and there REFERENCE rather than INTEGRATED. -/
  integ : Bool
  refer : Bool
  /-- Passed the check of R123 at its integration. -/
  admitted : Bool
  /-- The RESULT entry applied, and one that waits for the boundary (R149). -/
  result : Option KlResult
  next : Option KlResult
  /-- Base cycles of the last accepted record and of the last counted miss. -/
  ulBcn : Option Nat
  missBcn : Option Nat
  /-- The downlink record last sent to the node (R108). -/
  sent : Option (List Byte)
  /-- Tick at which it was sent (R108). -/
  sentAt : Nat
  /-- EVT_REQ of its last uplink (R104). -/
  evtReq : Nat
  deriving DecidableEq, Repr

/-- A mode switch under way (R125 to R131). -/
structure KlSwitch where
  target : Nat
  old : Nat
  /-- Boundary B. -/
  boundary : Nat
  /-- Base cycle of the request. -/
  reqBcn : Nat
  /-- 1 announce, 2 commit, 3 abort (SWITCH_STATE). -/
  fate : Nat
  /-- The node R131 names, once a port was disabled or a node lost integration. -/
  lost : Option Nat
  byPort : Bool
  acks : List Nat
  /-- Nodes of the target mode alone that have had a grant (R127). -/
  granted : List Nat
  /-- The base cycle whose start has had its decision (R128, R131). -/
  decided : Option Nat
  deriving DecidableEq, Repr

/-- A frame sent by a Koastis port: CT of its stamp point in 2^-32 ns (R72), and its bytes from the destination address on,
without FCS. -/
structure KlFrame where
  port : Nat
  stamp : Nat
  bytes : List Byte
  deriving DecidableEq, Repr

/-- A grant of the present base cycle (R96, R104): port, node, start in 0.25 µs, length in 32-byte units. -/
structure KlGrant where
  port : Nat
  node : Nat
  start : Nat
  len : Nat
  deriving DecidableEq, Repr

/-- The module's own cold start (R153). -/
structure KlCold where
  /-- Tick at which the present state was entered (LISTEN, RANK_WAIT). -/
  since : Nat
  /-- Tick of the own frame's stamp point, or of the arrival of the frame deferred to. -/
  stamp : Nat
  attempt : Nat
  /-- A second or corrupted frame was heard in DEFERRED. -/
  spoiled : Bool
  /-- Sender of the frame deferred to, its CT in 2^-32 ns, and the own CT at its arrival. -/
  frm : Nat
  frmCt : Nat
  ownCt : Nat
  /-- Consecutive sync frames accepted in SYNCING (R160), and the BCN of the last. -/
  syncs : Nat
  syncBcn : Nat
  deriving DecidableEq, Repr

/-- Koastis Link beside its registers. -/
structure KlState where
  nodes : List (Nat × KlNode)
  /-- Records committed in the present base cycle: node ids, and 2,048 + axis for step records (R107). -/
  committed : List Nat
  /-- The records of the bank that closed last, by node (R107), those committed before it closed, by node or 2,048 + axis
  (R326), and the base cycle in which it closed. -/
  shut : List (Nat × List Byte)
  given : List (Nat × List Byte)
  shutBcn : Option Nat
  grants : List KlGrant
  /-- Node id after which the round robin of each network goes on (R104). -/
  rr : List (Nat × Nat)
  /-- Frames sent in the base cycle in progress. -/
  out : List KlFrame
  /-- Tick at which each network was last enabled, by its port (R108). -/
  onAt : List (Nat × Nat)
  /-- CT, in 1/1280 ns, until which each port's line carries frames of the event window (R114). -/
  busy : List (Nat × Nat)
  /-- RESULT frames that wait for the next event window: network, and payload after SUB and SEQ (R115, R149). -/
  held : List (Nat × List Byte)
  /-- Count of the module's own event and delay frames, modulo 256 (R93, R145). -/
  count : Nat
  sw : Option KlSwitch
  /-- A mode is ACTIVE (R124). -/
  active : Bool
  /-- Ports in MEASURE: tick of START, and of the last REPORT (R148). -/
  measure : List (Nat × Nat × Option Nat)
  /-- Ports whose MEASURE has ended. -/
  measured : List Nat
  /-- REPORTs of each network, by its port (R147). -/
  reports : List (Nat × List KlReport)
  /-- The closing link of a ring network, Q24.8 ns, and the stamp of the PREQ that measures it, CT in 2^-32 ns (R148). -/
  closing : List (Nat × Nat)
  preq : List (Nat × Nat)
  cold : KlCold
  /-- The reference: node id, or 0x800 plus chain position; none before one is known. Its rank. -/
  ref : Option Nat
  refRank : Nat
  /-- The reference node has been present while it was the reference (R166). -/
  refSeen : Bool
  /-- The integral i of the alignment loop, in units of 1 / (2^16 × 64 × 250,000) (R164). -/
  integral : Int
  /-- Base cycles without a TIME_REPORT, and whether the present one has had one (R166). -/
  trMiss : Nat
  trSeen : Bool
  /-- The module integrated by sync frames, and base cycles without an accepted one (R161). -/
  bySync : Bool
  syncMiss : Nat
  /-- Base cycle in which HOLDOVER was entered, until the takeover of R167 has been tried. -/
  holdBcn : Option Nat
  /-- Base cycle in which each port of a ring last received the other's sync frame (R170). -/
  ringHeard : List (Nat × Nat)
  /-- Step setpoint records have their NODE 0xFFFF (R106). -/
  stepIds : Bool
  deriving DecidableEq, Repr

/-- A node of which the module has heard nothing. Log 8 (DESIGN CHOICE, unsafe). -/
def klNodeReset : KlNode :=
  { present := false, run := 0, miss := 0, integ := false, refer := false, admitted := true, result := none,
    next := none, ulBcn := none, missBcn := none, sent := none, sentAt := 0, evtReq := 0 }

/-- Koastis Link after reset. Log 8 (DESIGN CHOICE, unsafe). -/
def klReset : KlState :=
  { nodes := [], committed := [], shut := [], given := [], shutBcn := none, grants := [], rr := [], out := [], onAt := [], busy := [],
    held := [], count := 0, sw := none, active := false, measure := [], measured := [], reports := [], closing := [],
    preq := [],
    cold := { since := 0, stamp := 0, attempt := 0, spoiled := false, frm := 0, frmCt := 0, ownCt := 0,
              syncs := 0, syncBcn := 0 },
    ref := none, refRank := 0, refSeen := false, integral := 0, trMiss := 0, trSeen := false, bySync := false,
    syncMiss := 0, holdBcn := none, ringHeard := [], stepIds := false }

/-! ## Thallus (chapters 11, 12) -/

/-- The person reports of one sensor (R460, R461): the report being assembled and the newest accepted one. -/
structure ThSensor where
  rseq : Option Nat
  parts : Nat
  got : List (Nat × List (List Byte))
  report : List (List Byte)
  deriving DecidableEq, Repr

/-- The latch of an arm group (R437, R438, R467): latched demand (0 none), the causes held since it latched, clear
safety cycles in a row, and whether the start-up latch is still held. -/
structure ThGroup where
  latch : Nat
  held : List Nat
  clear : Nat
  startup : Bool
  deriving DecidableEq, Repr

/-- A B-degradable fault present (R444): item, unit, and passes of its diagnostic still needed to clear it. -/
structure ThFault where
  item : Nat
  unit : Nat
  need : Nat
  deriving DecidableEq, Repr

/-- A cause present for an arm group (R434, R465): code, demand, OTHER and CAPSULE of its pair. -/
structure ThCause where
  group : Nat
  code : Nat
  demand : Nat
  other : Nat
  capsule : Nat
  deriving DecidableEq, Repr

/-- An evaluation in progress: the inputs frozen for safety cycle k (R406, R407). -/
structure ThEval where
  k : Nat
  /-- CT ns of the freeze. -/
  at_ : Nat
  /-- CT ns by which the evaluation must have completed (R424). -/
  due : Nat
  lenNs : Nat
  /-- In degraded run (R468). -/
  deg : Bool
  /-- The stop causes of the inputs, positions, sensors and diagnostics. -/
  causes : List ThCause
  /-- Arm groups without safe positions (R403). -/
  excluded : List Nat
  /-- Tracked persons: sensor entry, age in ns, person number (R404, R405). -/
  persons : List (Nat × Nat × Nat)
  /-- The coded input words, by variable (R417, R418). -/
  inputs : List (Nat × BitVec 48)
  /-- A sensor was too old. -/
  aged : Bool
  /-- Arm groups whose reset input fell (R450). -/
  resets : Nat
  deriving DecidableEq, Repr

/-- Three receiver outputs, A, B and Z or U, V and W, as 4 A + 2 B + Z: their raw and filtered levels, and the lines whose
raw level differs from the filtered one (2 A, 1 B, 0 Z), with the PERI cycle of the change (R368). -/
structure FbLines where
  raw : Nat
  filt : Nat
  wait : List (Nat × Nat)
  deriving DecidableEq, Repr

/-- An SSI frame as Thallus reads it at a receiver: its latch instant (CT ns), the line low before the first clock edge, and
the samples after the start bit, the first one highest (R397, R462). -/
structure ThFrame where
  latch : Nat
  low : Bool
  len : Nat
  bits : Nat
  deriving DecidableEq, Repr

/-- What Thallus decodes of a feedback channel, beside what FB decodes (R397, R462). -/
structure ThDec where
  /-- The receiver outputs, filtered with the set's MIN_EDGE. -/
  lines : FbLines
  /-- The quadrature count, and what it was at the start of base cycle `mark`. -/
  count : Int
  start : Int
  mark : Nat
  /-- The accepted SSI frames, newest first: at most two. -/
  frames : List ThFrame
  /-- Lines that disagree, with the tick at which it began and whether it has made a decode fault (R464). -/
  wires : List (Nat × Nat × Bool)
  deriving DecidableEq, Repr

/-- A decoder that has seen nothing. -/
def thDecReset : ThDec :=
  { lines := { raw := 0, filt := 0, wait := [] }, count := 0, start := 0, mark := 0, frames := [], wires := [] }

/-- Thallus beside its registers. -/
structure ThState where
  /-- Active set bank in MRAM; the other is the staging bank (R472, R476). -/
  active : Nat
  /-- Check value stored in MRAM at the last commit (R477). -/
  stored : Option Nat
  /-- No committed set is in force (R477). -/
  noSet : Bool
  /-- The set in Thallus SRAM, which the evaluation uses (R407). -/
  work : List Host.Cell
  eval : Option ThEval
  /-- Safety cycle last frozen, the one whose demands stand, and the one last ended (R424, R457). -/
  frozenK : Option Nat
  doneK : Option Nat
  endK : Option Nat
  groups : List (Nat × ThGroup)
  /-- Safe containers accepted in base cycle contBcn, by node (R403, R455). -/
  containers : List (Nat × List Byte)
  contBcn : Nat
  sensors : List (Nat × ThSensor)
  /-- Consecutive test pulses passed by each input (R449). -/
  passes : List (Nat × Nat)
  /-- Tick at which each input's filtered state last rose (R450). -/
  rise : List (Nat × Nat)
  /-- Tick at which each pair began to disagree (R447). -/
  disc : List (Nat × Nat)
  /-- Arm groups to reset at the next freeze (R450). -/
  resets : Nat
  /-- Test-pulse sources that failed to go low, and that failed to return high (R448). -/
  tpHigh : List Nat
  tpLow : List Nat
  faults : List ThFault
  /-- Tick at which the staling timer reaches 0, and whether it has (R469). -/
  staleEnd : Nat
  expired : Bool
  /-- Remaining ticks and faults in MRAM, and the tick of the last write of them (R471). -/
  record : Option (Nat × List (Nat × Nat))
  recAt : Nat
  /-- Thallus's own decoders, by channel (R397, R462). -/
  decs : List (Nat × ThDec)
  /-- Position correction of each quadrature cross-check that has been set (R463). -/
  sync : List (Nat × Int)
  /-- Channels with a decode fault since the last freeze (R464). -/
  dirty : List Nat
  /-- Tick at which the STOP1 delay of each pair ends (R451). -/
  delay : List (Nat × Nat)
  /-- Pairs whose next dark pulse is on the low side; the tick at which each pair was last pulsed; the tick at which the
  last dark pulse ends; and a pulse that ends after its safety cycle: pair, low side, the node followed (R453). -/
  darkLow : List Nat
  darkAt : List (Nat × Nat)
  darkEnd : Nat
  darkNow : Option (Nat × Bool × Bool)
  /-- Tick at which each test-pulse source last went low (R446). -/
  pulses : List (Nat × Nat)
  /-- The staling timer has reached 0 since the last freeze (R470). -/
  staled : Bool
  /-- Base cycle of the last command frame (R457). -/
  sentBcn : Option Nat
  /-- Tick of the last check of the active set (R443). -/
  crcAt : Nat
  /-- The committed set has not applied yet (R407). -/
  fresh : Bool
  /-- Tick of the last mailbox write (R478). -/
  mbAt : Nat
  /-- VSIO is below 18.0 V (R631). -/
  vsioLow : Bool
  deriving DecidableEq, Repr

/-- A sensor that has reported nothing. Log 8 (DESIGN CHOICE, unsafe). -/
def thSensorReset : ThSensor := { rseq := none, parts := 0, got := [], report := [] }

/-- The start-up latch of R467. -/
def thGroupReset : ThGroup := { latch := 4, held := [], clear := 0, startup := true }

/-- Thallus after power-on reset, with no set in MRAM. Log 8 (DESIGN CHOICE, unsafe). -/
def thReset : ThState :=
  { active := 0, stored := none, noSet := true, work := [], eval := none, frozenK := none, doneK := none,
    endK := none, groups := [], containers := [], contBcn := 0, sensors := [], passes := [], rise := [], disc := [],
    resets := 0, tpHigh := [], tpLow := [], faults := [], staleEnd := 0, expired := false, record := none, recAt := 0,
    decs := [], sync := [], dirty := [], delay := [], darkLow := [], darkAt := [], darkEnd := 0, darkNow := none,
    pulses := [], staled := false, sentBcn := none, crcAt := 0, fresh := false, mbAt := 0, vsioLow := false }

/-! ## Axes (chapter 09) -/

/-- What the generator of an axis channel does. -/
inductive AxMotion where
  | none
  /-- A move to the target (R331). -/
  | move
  /-- A stop to rest (R334, R337, R344). -/
  | stop
  /-- A homing run that searches, or backs off (R340). -/
  | search | back
  deriving DecidableEq, Repr

/-- A point of a profile: position, speed and acceleration in position LSBs and seconds. -/
structure AxPoint where
  p : ℚ
  v : ℚ
  a : ℚ
  deriving DecidableEq, Repr

/-- A piece of a profile: its time, the acceleration at its start and its jerk. -/
structure AxSeg where
  time : ℚ
  acc : ℚ
  jerk : ℚ
  deriving DecidableEq, Repr

/-- The profile a generator follows, and the ns of it that the committed samples have used (R329). -/
structure AxPlan where
  start : AxPoint
  segs : List AxSeg
  ns : Nat
  deriving DecidableEq, Repr

/-- One sample of a generator: commanded position, its speed, and whether the axis rests from it on (R329). -/
structure AxSample where
  pos : Int
  spd : Int
  last : Bool
  deriving DecidableEq, Repr

/-- The raw level of an input's uplink source: input, level, the base cycle of the uplink that first showed it, and the drive
position of that uplink (R335, R344). -/
structure AxInput where
  input : Nat
  level : Bool
  since : Nat
  pos : Int
  deriving DecidableEq, Repr

/-- An axis channel beside its registers. -/
structure AxChan where
  /-- The pending command: its OP and who wrote it (R330). -/
  pend : Option (Nat × Requester)
  motion : AxMotion
  /-- Target of the move (R332). -/
  target : Int
  /-- Limits in force: speed, acceleration, deceleration, jerk (0: trapezoidal). -/
  vel : Nat
  acc : Nat
  dec : Nat
  jrk : Nat
  /-- Token events and codes at standstill (R358), and whether the channel then enters FAULT (R336). -/
  ending : List (Nat × Nat)
  fault : Bool
  /-- Direction of the homing search, reversed by R341, and the position at which the run began. -/
  positive : Bool
  reversed : Bool
  start : Int
  /-- Commanded positions for the start of this base cycle, of the next, and of the one after (R325). -/
  p0 : Int
  p1 : Int
  p2 : Int
  /-- Ticks of the last changes of each filtered input: 0 negative, 1 positive, 2 home (R336). -/
  changes : List (Nat × Nat)
  /-- The levels that the sources of its inputs show in its drive's uplinks (R335). -/
  ins : List AxInput
  /-- The code of the cause for which it is in FAULT (R330, R355, R390). -/
  cause : Nat
  /-- PERI cycle in which it last left operation (R357). -/
  haltAt : Option Nat
  /-- Tick since which its deviation exceeds AX_SWINn (R356). -/
  devAt : Option Nat
  /-- Power-on phase of the driver (R354). -/
  phase : Option Nat
  /-- The planned channel's step output comes to rest after a stop of its arm group (R338). -/
  halting : Bool
  /-- The profile; it is stale when the motion has changed since it was formed. -/
  plan : AxPlan
  stale : Bool
  /-- Samples computed ahead and not yet committed, and the length of the base cycle they were computed for (R328). -/
  queue : List AxSample
  queueLen : Nat
  deriving DecidableEq, Repr

/-- A compare unit beside its registers (R346, R348): the side of the position on which its source was last (-1 below, 0 at, 1 above),
fires since it was armed, and a crossing of its position that has not fired yet, rising or falling. -/
structure CmpUnit where
  side : Int
  fires : Nat
  due : Option Bool
  deriving DecidableEq, Repr

/-- A step output beside its registers (R352): it last moved downward, the instant of its last active edge, and that of its
last DIR change, in ns since power-on reset. -/
structure StepOut where
  down : Bool
  edge : Option Nat
  dirAt : Nat
  deriving DecidableEq, Repr

/-- A step output that has emitted no step. Log 8 (DESIGN CHOICE, unsafe). -/
def stepOutReset : StepOut := { down := false, edge := none, dirAt := 0 }

/-- What compare units do to a GPIO in one PERI cycle (R349): its level before, and the units with their actions in
ascending order. -/
structure GpioActs where
  gpio : Nat
  peri : Nat
  before : Nat
  acts : List (Nat × Nat)
  deriving DecidableEq, Repr

/-- The AX block beside its registers, and the GPIO levels it drives and reads. -/
structure AxState where
  chans : List (Nat × AxChan)
  units : List (Nat × CmpUnit)
  /-- Level last set by any unit for each GPIO (R349). -/
  gpioOut : Nat
  /-- Pulses in progress: GPIO and the tick at which they end. -/
  pulses : List (Nat × Nat)
  /-- GPIO inputs that read high (R354). -/
  gpioIn : Nat
  /-- The actions of compare units in the present PERI cycle (R349). -/
  acts : List GpioActs
  /-- The step outputs. -/
  steps : List (Nat × StepOut)
  /-- Base cycle whose profile tick has run. -/
  tickBcn : Option Nat
  deriving DecidableEq, Repr

/-- Log 8 (DESIGN CHOICE, unsafe). -/
def axChanReset : AxChan :=
  { pend := none, motion := .none, target := 0, vel := 0, acc := 0, dec := 0, jrk := 0, ending := [], fault := false,
    positive := false, reversed := false, start := 0, p0 := 0, p1 := 0, p2 := 0, changes := [], ins := [],
    cause := 0, haltAt := none, devAt := none, phase := none,
    halting := false, plan := { start := { p := 0, v := 0, a := 0 }, segs := [], ns := 0 }, stale := false, queue := [],
    queueLen := 0 }

/-- Log 8 (DESIGN CHOICE, unsafe). -/
def axReset : AxState :=
  { chans := [], units := [], gpioOut := 0, pulses := [], gpioIn := 0, acts := [], steps := [], tickBcn := none }

/-! ## Sorus (chapter 13) -/

/-- A capture beside its registers. -/
structure SoCap where
  /-- CT ns at which ARM was accepted. -/
  armAt : Nat
  /-- CT ns of the last instant passed, of ARM before a first; instants passed since ARM (R484, R485). -/
  lastCt : Nat
  seen : Nat
  /-- NCH, REC_SIZE, CAPACITY, PRE and POST at ARM (R487, R489). -/
  nch : Nat
  recSize : Nat
  capacity : Nat
  pre : Nat
  post : Nat
  /-- Samples taken since ARM; the number of the latest on which T0 was true, with its event's stamp (R494, R495). -/
  taken : Nat
  t0At : Option (Nat × Option Nat)
  /-- Stamps of an event of T0 and of T1 that waits for the next sample (R493, R495). -/
  ev0 : Option Nat
  ev1 : Option Nat
  /-- A forced trigger waits: 4 FORCE, 5 auto timeout (R496). -/
  forced : Option Nat
  /-- Channel words of the previous record (R493). -/
  prev : Option (List Nat)
  /-- The trigger record: its number since ARM and its SEQ; TRIG_CT and TRIG_SRC. -/
  trig : Option (Nat × Nat)
  trigCt : Nat
  /-- TIME tick in which the trigger record was written (R497). -/
  trigTick : Option Nat
  trigSrc : Nat
  /-- Records since the last rate reduction, reductions recorded, RATE due in the next record (R502). -/
  sinceRed : Nat
  rates : List (Nat × Nat)
  rateFlag : Bool
  /-- DROPS, and DROP_BEFORE due in the next record (R503). -/
  drops : Nat
  dropFlag : Bool
  /-- The mask copied at ARM: for each masked channel its number and the LO and HI of its points (R499). -/
  mask : List (Nat × List (Int × Int))
  /-- SEQ and channel of the first mask failure (R500). -/
  fail : Option (Nat × Nat)
  /-- Tick at which WAITING began; base cycle of DONE. -/
  waitAt : Nat
  doneBcn : Nat
  /-- END value of a capture whose end has been decided and whose header is not yet complete (R490). -/
  ending : Option Nat
  /-- Captures completed since EN was set, modulo 65,536. -/
  capnum : Nat
  deriving DecidableEq, Repr

/-- Log 8 (DESIGN CHOICE, unsafe). -/
def soCapReset : SoCap :=
  { armAt := 0, lastCt := 0, seen := 0, nch := 0, recSize := 0, capacity := 0, pre := 0, post := 0, taken := 0,
    t0At := none, ev0 := none, ev1 := none, forced := none, prev := none, trig := none, trigCt := 0, trigTick := none, trigSrc := 0,
    sinceRed := 0, rates := [], rateFlag := false, drops := 0, dropFlag := false, mask := [], fail := none, waitAt := 0,
    doneBcn := 0, ending := none, capnum := 0 }

/-- Sorus beside its registers: captures C0 to C7. -/
structure SoState where
  caps : List (Nat × SoCap)
  deriving DecidableEq, Repr

/-! ## Feedback inputs (chapter 10) -/

/-- Steps that a synthesised repeat output has to emit: the PERI cycle of the first, how many, one every REP_EDGE, and
their direction (R393). -/
structure RepRun where
  first : Nat
  count : Nat
  up : Bool
  deriving DecidableEq, Repr

/-- A synthesised repeat output (R393, R394): the sum of the steps it has emitted, the count they stand for, the edges since
that count last reached a multiple of REP_IDX, the steps it has to emit, and the first PERI cycle for one more. -/
structure RepOut where
  steps : Int
  cnt : Int
  age : Option Nat
  runs : List RepRun
  free : Nat
  deriving DecidableEq, Repr

/-- A feedback channel beside its registers. Stamps are in PERI cycles of the module's own time base. -/
structure FbChan where
  /-- Its receiver outputs (R368). -/
  lines : FbLines
  /-- The stamp of its enable (R383). -/
  enAt : Nat
  /-- The PERI cycle of its last encoder fault (R391). -/
  faultAt : Option Nat
  /-- Tick at which the present amplitude window began, and the threshold that the receivers apply (R386). -/
  ampAt : Nat
  thr : Nat
  /-- The latest count edges, newest first: stamp and direction (R382). -/
  edges : List (Nat × Int)
  /-- Sum of the count edges since enable. -/
  total : Int
  /-- Count edges in the base cycle in progress (R384). -/
  num : Nat
  /-- Last edge before the previous base-cycle start, and first edge of the present direction: stamp and total. -/
  old : Option (Nat × Int)
  turn : Option (Nat × Int)
  /-- Interval of R382 in PERI cycles, and its m. -/
  perT : Nat
  perM : Nat
  /-- Window counts of R388: illegal transitions, fast edges, SSI frame errors; the window's number. -/
  winQ : Nat
  winF : Nat
  winS : Nat
  winNo : Nat
  /-- An index load is armed (R373). -/
  armed : Bool
  /-- v of the last accepted SSI frame, its latch instant, and the latch instant of the read in progress (CT ns). -/
  ssiPrev : Option Nat
  ssiAt : Nat
  ssiNow : Option Nat
  /-- Base cycle of the last read, and its latch instant (R375). -/
  ssiBcn : Option Nat
  ssiLast : Nat
  /-- Lines that disagree, with the tick at which it began and whether it is counted (R385), and lines whose amplitude is
  below AMP_MIN (R387): 0 A, 1 B, 2 Z. -/
  wires : List (Nat × Nat × Bool)
  low : List Nat
  /-- PERI cycle in which the last LOAD applies, and the count before it (R374). -/
  loaded : Option (Nat × Nat)
  /-- Its synthesised repeat output. -/
  rep : RepOut
  deriving DecidableEq, Repr

/-- Log 8 (DESIGN CHOICE, unsafe). -/
def fbChanReset : FbChan :=
  { lines := { raw := 0, filt := 0, wait := [] }, enAt := 0, faultAt := none, ampAt := 0, thr := 0, edges := [], total := 0, num := 0, old := none, turn := none, perT := 0, perM := 0, winQ := 0, winF := 0,
    winS := 0, winNo := 0, armed := false, ssiPrev := none, ssiAt := 0, ssiNow := none, ssiBcn := none, ssiLast := 0,
    wires := [], low := [], loaded := none,
    rep := { steps := 0, cnt := 0, age := none, runs := [], free := 0 } }

/-- The FB block beside its registers. -/
structure FbState where
  chans : List (Nat × FbChan)
  deriving DecidableEq, Repr

/-! ## Kneader (chapters 07, 08) -/

/-- An accepted descriptor (R275, R277): its 64 bytes, the issuing core, and its deadline in CT ns (R281). -/
structure KnDesc where
  bytes : List Byte
  core : Nat
  deadline : Option Nat
  deriving DecidableEq, Repr

/-- A kernel that runs, with what it took at its start (R257, R266, R277): arm group record, position limits of its axes
and capsules of the snapshot, model copy, IN, and the bounds of classes 0 to 12. -/
structure KnRun where
  desc : KnDesc
  arm : List Byte
  lims : List (Int × Int)
  caps : List (List Byte)
  model : List Byte
  input : List Byte
  bounds : List (Int × Int)
  deriving DecidableEq, Repr

/-- A cluster: the descriptors that wait, in order of acceptance, and the one that runs (R278). -/
structure KnCluster where
  queue : List KnDesc
  run : Option KnRun
  deriving DecidableEq, Repr

/-- A problem slot: its stored plan, as OUT bytes 16 on (R313), with its duals (R314), and its holding clusters (R284,
R285). -/
structure KnSlot where
  plan : Option (List Byte)
  duals : List ℚ
  hold : Nat
  deriving DecidableEq, Repr

/-- An arm group as a plan takes it at its start (R301): arm group record, model copy, axis records, capsule records. -/
structure PlanArm where
  group : Nat
  arm : List Byte
  model : List Byte
  axes : List (List Byte)
  caps : List (List Byte)
  deriving DecidableEq, Repr

/-- The PLAN descriptor that computes: its clusters, IN, the records of its arm groups, the range table, the stored plan it
may fall back to, the one it warm-starts from, the duals of that, the WS_MISMATCH of R303, and a pre-emption or a scratch
trip that waits to end it. -/
structure KnSolve where
  desc : KnDesc
  clusters : Nat
  input : List Byte
  arms : List PlanArm
  /-- The range table: FRAC, EN, MIN and MAX of each class (R257). -/
  table : List (Nat × Bool × Int × Int)
  stored : Option (List Byte)
  warm : Option (List Byte)
  duals : List ℚ
  wsm : Bool
  preempt : Bool
  trip : Bool
  /-- Clusters that the slot's state is moved from, and the TIME tick at which the move ends (R285). -/
  moveFrom : Nat
  moveEnd : Nat
  deriving DecidableEq, Repr

/-- A completed result that may be adopted (R317): slot, RESULT, core address and length of OUT, VALID_FROM, GROUPS, and
CT ns at which its token was deposited. -/
structure KnResult where
  slot : Nat
  result : Nat
  addr : Nat
  len : Nat
  vf : Nat
  groups : Nat
  doneAt : Nat
  deriving DecidableEq, Repr

/-- The Kneader beside its registers: clusters, model copies by arm group (R265), problem slots, waiting PLAN
descriptors, the one that computes, results that await adoption, and the plan in force. -/
structure KnState where
  clusters : List (Nat × KnCluster)
  models : List (Nat × List Byte)
  slots : List (Nat × KnSlot)
  waiting : List KnDesc
  solve : Option KnSolve
  results : List KnResult
  adopted : Option KnResult
  /-- CODE of the newest result of each problem slot, 0x00 before one (journal event 0x03). -/
  codes : List (Nat × Nat)
  deriving DecidableEq, Repr

/-- Log 8 (DESIGN CHOICE, unsafe). -/
def knReset : KnState :=
  { clusters := [], models := [], slots := [], waiting := [], solve := none, results := [], adopted := none,
    codes := [] }


/-! ## The module -/

/-- The state of the module. -/
structure State where
  /-- The commands that wait, oldest first. -/
  pending : List Instr
  /-- The register file: BAR0 offset and value, where it differs from the reset value. -/
  regs : List (Nat × Word)
  time : TimeState
  cal : CalState
  cell : CellState
  lv : LvState
  /-- Physical cores 0 to 71. -/
  cores : List (Nat × Core)
  pw : PwState
  sv : SvState
  jnl : JnlState
  ch : ChState
  hs : HsState
  lc : LcState
  kl : KlState
  th : ThState
  ax : AxState
  so : SoState
  fb : FbState
  kn : KnState
  mem : MemState
  /-- Crust holds the module in reset until VIN12 returns (R629). -/
  held : Bool
  /-- What the external reference lands carry: 0 nothing, 1 a 25 MHz and 2 a 10 MHz reference (R50, R54). -/
  extRef : Nat
  /-- _LO writes held, by requester and offset (R10, R611). -/
  holds : List (Nat × Option Nat)
  /-- _HI values latched, by requester and offset (R9, R611). -/
  latches : List (Nat × Option Nat)
  /-- Values met so far that the spec leaves open: the model's own counter (Config.freeValue). -/
  freeCount : Nat
  deriving DecidableEq, Repr

/-! ## Reset -/

/-- The counters after power-on reset (R61): CT and PT 0, increments 2.0 ns, the default base cycle of 62.5 µs.
Log 8 (DESIGN CHOICE, unsafe). -/
def timeReset : TimeState :=
  { ct := 0, pt := 0, ctInc := 2 * 2 ^ 32, ptInc := 2 * 2 ^ 32, ctLoad := none, ptLoad := none, ptAdj := 0, ticks := 0,
    ptWriteAt := 0, base := 1, cutoff := 0xF0, bcn := 0, bcStart := 0, noBase := false, startAt := 0, cutoffDone := false,
    planDone := false, superDone := false, startDone := true, cycA := 0, cycB := 0, edgA := 0, edgB := 0,
    raised := [], cleared := [] }

/-- The sequencer after power-on reset. Log 8 (DESIGN CHOICE, unsafe). -/
def pwReset : PwState :=
  { target := [], drain := [], entry := none, savedDvfs := 0, savedMv := [], heldWake := false, reload := false,
    keep := [], saved := [], vstep := [], offSeen := [], thermWait := false, temp := 0,
    ctReached := none, lowered := [] }

/-- The module right after power-on reset, before the root PLL locks: every register at its reset value (an unlisted
register reads as it), nothing in any memory, the calendar at 1970-01-01 on VIN12, delivered from manufacture.
Log 4 (DESIGN CHOICE, unsafe), 7 (DESIGN CHOICE, unsafe), 8 (DESIGN CHOICE, unsafe), 9 (DESIGN CHOICE, unsafe), 104 (DESIGN CHOICE, unsafe). -/
def State.reset : State :=
  { pending := []
    regs := []
    time := timeReset
    cal := { sec := 0, sub := 0, window := 0, frac := 0, leapNow := false, eStart := 0, eLast := 0, started := false,
             windowDue := false, supply := .vin12 }
    cell := { ags := [], zones := [], persons := [] }
    lv := { waiting := [], fired := [], seqValid := [], tickDone := [], turn := (0, 0) }
    cores := []
    pw := pwReset
    sv := { retired := 0, mig := none, hold := none, imgValid := 0, imgActive := 0, placeStored := none, dayStart := 0,
            wornSeen := 0, scrub := [], repairs := [], spareLines := [], wdKick := 0, wdKey := none, wdEarly := false,
            wdHad := false }
    jnl := { queue := [], lost := false, seq := 0, line := 0, ring := [], loading := false }
    ch := { strap := 0, missed := 0, heardTwice := false, peerMatch := false, word0 := false, word1 := false,
            syncSeen := false, sent := [], links := [], asks := [], answers := [], words := [], written := [], left := [], rounds := [], repRegs := [],
            takeover := none, quiet0 := 0, quiet1 := 0 }
    hs := { msix := [], link := true, sent := [], waiting := [], late := [], mntReply := [], readData := [], img := none,
            boot := none }
    lc := { state := 0, owner := [], pw := none, granted := 0, authAt := 0, chal := none, waitFrom := none,
            endedByReset := false }
    kl := klReset
    th := thReset
    ax := axReset
    so := { caps := [] }
    fb := { chans := [] }
    kn := knReset
    mem := { sram := [], tcm := [], win := [], shared := [], dram := [], img := [], safety := [] }
    held := false
    extRef := 1
    holds := []
    latches := []
    freeCount := 0 }

end Sys2Proof.Machine
end

