-- ==== Sys2Proof/Machine/Ops.lean ====
section
/-!
DEFINITION. The operations every block shares: the register file, refusals (R13, R615, R647), flags with paired
counters (R7, R614), the journal (R562, R563, R652), interrupt vectors (R584), power-domain tests (R510), and the
byte memories of the module.
-/

namespace Sys2Proof.Machine

/-! ## The register file -/

/-- The BAR0 offset of instance `i`, `j` of a register (R608). -/
def Reg.addr (r : Reg) (i j : Nat) : Nat := r.row.base + r.row.stride * i + r.row.stride2 * j

/-- The instance numbers of a register that lie at an offset, if any (R608). Log 10 (DESIGN CHOICE, unsafe). -/
def Reg.locate (r : Reg) (off : Nat) : Option (Nat × Nat) :=
  let w := r.row
  if off < w.base then none
  else
    let d := off - w.base
    let i := if w.stride = 0 then 0 else d / w.stride
    let rem := if w.stride = 0 then d else d % w.stride
    let j := if w.stride2 = 0 then 0 else rem / w.stride2
    let rem2 := if w.stride2 = 0 then rem else rem % w.stride2
    if rem2 = 0 ∧ i < w.count ∧ j < w.count2 then some (i, j) else none

/-- The first register of a list that occupies an offset. -/
def findIn (off : Nat) : List Reg → Option (Reg × Nat × Nat)
  | [] => none
  | r :: rs => match r.locate off with
    | some (i, j) => some (r, i, j)
    | none => findIn off rs

/-- The register that occupies a BAR0 offset; none at a reserved offset (R609). Log 10 (DESIGN CHOICE, unsafe). -/
def findReg (off : Nat) : Option (Reg × Nat × Nat) := findIn off (blockRegs off)

/-- FRAC of variable class `c` (R252): the KN_RANGE_CTL reset of classes 0 to 12. -/
def rangeFracReset (c : Nat) : Nat :=
  ([16, 24, 16, 16, 16, 16, 16, 16, 30, 16, 16, 16, 16] : List Nat).getD c 0

/-- The reset value of a register instance, as its description line states it. Log 7 (DESIGN CHOICE, unsafe). -/
def Reg.resetAt (r : Reg) (i j : Nat) : Nat :=
  match r with
  | .SV_PLACEn | .SV_PLACE_SHn => 0xE4 + i * 0x100
  | .PW_DOMd_CTL | .PW_DOMd_STAT => if 24 ≤ i then 0 else 3
  | .KN_RANGE_CTLc => if i ≤ 12 then 0x100 + rangeFracReset i else 0
  | .LV_FLOWf_Ww => if j = 1 then 0xFF0000 else 0
  | .GLOBAL_UID_LO => Config.uid % 2 ^ 32
  | .GLOBAL_UID_HI => Config.uid / 2 ^ 32 % 2 ^ 32
  | _ => r.row.reset

/-- What an unlisted entry of the register file reads as: its register's reset value.
Log 7 (DESIGN CHOICE, unsafe), 10 (DESIGN CHOICE, unsafe). -/
def regDefault (off : Nat) : Word :=
  match findReg off with
  | some (r, i, j) => BitVec.ofNat 32 (r.resetAt i j)
  | none => 0#32

/-- The value of a register instance. Log 10 (DESIGN CHOICE, unsafe). -/
def State.rg (s : State) (r : Reg) (i : Nat := 0) (j : Nat := 0) : Nat :=
  (Tab.get regDefault s.regs (r.addr i j)).toNat

/-- The state with a register instance set. Log 10 (DESIGN CHOICE, unsafe). -/
def State.setRg (s : State) (r : Reg) (i j v : Nat) : State :=
  { s with regs := Tab.set regDefault s.regs (r.addr i j) (BitVec.ofNat 32 v) }

/-- The value of a field. -/
def State.fd (s : State) (f : Field) (i : Nat := 0) (j : Nat := 0) : Nat := bits (s.rg f.reg i j) f.hi f.lo

/-- The value of a one-bit field. -/
def State.flag (s : State) (f : Field) (i : Nat := 0) (j : Nat := 0) : Bool := decide (s.fd f i j = 1)

/-- The state with a field set; the register's other bits are unchanged. -/
def State.setFd (s : State) (f : Field) (i j v : Nat) : State :=
  s.setRg f.reg i j (setBits (s.rg f.reg i j) f.hi f.lo v)

/-- A counter field incremented, saturating at its largest value (R614). -/
def State.incFd (s : State) (f : Field) (i j : Nat) : State :=
  s.setFd f i j (satInc (f.hi + 1 - f.lo) (s.fd f i j))

/-- A bit of a register is noted as set by an event in the present TIME tick (R7). Log 115 (DEDUCED, unsafe). -/
def State.noteRaise (s : State) (off b : Nat) : State :=
  { s with time := { s.time with raised := (off, b) :: s.time.raised } }

/-- An event that sets a W1C flag (R6, R7). -/
def State.raiseFlag (s : State) (fl : Field) (i j : Nat) : State := (s.setFd fl i j 1).noteRaise (fl.reg.addr i j) fl.lo

/-- An event that sets a W1C flag and increments its paired counter (R7, R613). -/
def State.raise (s : State) (fl cnt : Field) (i j : Nat) : State := (s.raiseFlag fl i j).incFd cnt i j

/-- The field of a written word. -/
def Field.of (f : Field) (v : Nat) : Nat := bits v f.hi f.lo

/-- A 64-bit value kept in a low and a high register. -/
def State.rg64 (s : State) (lo hi : Reg) (i : Nat := 0) : Nat := s.rg lo i 0 + 2 ^ 32 * s.rg hi i 0

/-- The state with a 64-bit value put into a low and a high register. -/
def State.setRg64 (s : State) (lo hi : Reg) (i v : Nat) : State :=
  (s.setRg lo i 0 (v % 2 ^ 32)).setRg hi i 0 (v / 2 ^ 32 % 2 ^ 32)

/-- The registers for which `drop` holds return to their reset values. -/
def State.resetRegs (s : State) (drop : Nat → Bool) : State :=
  { s with regs := s.regs.filter (fun e => !drop e.1) }

/-! ## Blocks and domains -/

/-- The journal BLOCK code of the block that owns a BAR0 offset (R562, R608). -/
def blockOf (off : Nat) : Nat :=
  if off < 0x100000 then 0x00 else if off < 0x200000 then 0x01 else if off < 0x400000 then 0x02
  else if off < 0x800000 then 0x03 else if off < 0xC00000 then 0x04 else if off < 0x1000000 then 0x05
  else if off < 0x1400000 then 0x06 else if off < 0x1600000 then 0x07 else if off < 0x1800000 then 0x08
  else if off < 0x1C00000 then 0x09 else if off < 0x1E00000 then 0x0A else if off < 0x1F00000 then 0x0B
  else if off < 0x2000000 then 0x0C else if off < 0x2100000 then 0x0D else if off < 0x2200000 then 0x0E
  else 0x0F

/-- The power-domain id (R510) of a register instance (R610): the slice of a core window is core number div 4. -/
def Reg.domain (r : Reg) (i : Nat) : Nat :=
  match r.row.dom with
  | .spine => 25
  | .thallus => 26
  | .crust => 27
  | .slice => i / 4
  | .sor => 22
  | .chn => 23
  | .hst => 24

/-- The state of a power domain: 0 ON, 1 GATED, 2 RETAIN, 3 OFF (R513); Spine, Thallus and Crust are always ON
(R511). -/
def State.domState (s : State) (d : Nat) : Nat := if 25 ≤ d then 0 else s.fd F.PW_DOMd_STAT_STATE d

/-- The domain is ON; no domain is while the module is held in reset. -/
def State.domOn (s : State) (d : Nat) : Bool := !s.held && decide (s.domState d = 0)

/-- An access to the domain is performed: the domain is ON, or a wake from GATED, which takes 50 ns, is on its way and the
access waits for it (R513, R519). Log 55 (DESIGN CHOICE, safe). -/
def State.answers (s : State) (d : Nat) : Bool :=
  s.domOn d || (!s.held && decide (s.domState d = 1) && s.flag F.PW_DOMd_STAT_MOVING d &&
    decide (Tab.get (fun _ => 0) s.pw.target d = 0))

/-! ## Time -/

/-- CT in whole ns (R59). -/
def State.ctNs (s : State) : Nat := s.time.ct / 2 ^ 32

/-- PT in whole ns (R59). -/
def State.ptNs (s : State) : Nat := s.time.pt / 2 ^ 32

/-- The base-cycle length of a BASE code, in ns (R28). -/
def baseNs (b : Nat) : Nat := 31250 * 2 ^ (b % 4)

/-- The length, in ns, of the base cycle in force. -/
def State.lenNs (s : State) : Nat := baseNs s.time.base

/-- Bits [15:0] of the base-cycle number: the tag of hardware tokens (R218). -/
def State.bcTag (s : State) : Nat := s.time.bcn % 2 ^ 16

/-- The phase of the present base cycle (R30). -/
def State.phase (s : State) : Nat := s.time.bcn % 16

/-! ## Interrupt vectors (R584) -/

/-- The pending bit of vector `v` is set by an event: a bit already set counts in HS_VCNTv, a rise sends the MSI-X
message of entry v. An event that finds it set is noted beside the bit, at 32 above it; one that finds it cleared in the
same TIME tick counts too, and sends a new message (R7, R584).
Log 80 (DESIGN CHOICE, unsafe), 94 (DESIGN CHOICE, unsafe). -/
def State.pendVector (s : State) (v : Nat) : State :=
  let r : Reg := if v < 32 then .HS_VPEND_LO else .HS_VPEND_HI
  let s := if s.time.cleared.contains (r.addr 0 0, v % 32) then s.incFd F.HS_VCNTv_VALUE v 0 else s
  if bit (s.rg r) (v % 32) then
    ((s.incFd F.HS_VCNTv_VALUE v 0).noteRaise (r.addr 0 0) (v % 32)).noteRaise (r.addr 0 0) (32 + v % 32)
  else
    let s := (s.setRg r 0 0 (s.rg r ||| 2 ^ (v % 32))).noteRaise (r.addr 0 0) (v % 32)
    { s with hs := { s.hs with msix := s.hs.msix ++ [v] } }

/-- An event of source `src` sets the pending bit of every vector that selects it; for source 0x01, of every
vector whose CLASS is at most the entry's (R584). The vectors are in PD_HST: nothing happens while it is not ON. -/
def State.vectorEvent (s : State) (src cls : Nat) : State :=
  if s.domOn 24 then
    (List.range 64).foldl (fun s v =>
      if s.fd F.HS_VECv_CTL_SRC v = src ∧ (src ≠ 1 ∨ s.fd F.HS_VECv_CTL_CLASS v ≤ cls) then s.pendVector v
      else s) s
  else s

/-! ## The journal (R562, R563, R652) -/

/-- The entry still in the queue with the same BLOCK, CODE and DATA bytes 0 to 3 gets its REPEAT incremented.
Log 80 (DESIGN CHOICE, unsafe). -/
def mergeEntry (blk code : Nat) (d : List Nat) : List JournalEntry → Option (List JournalEntry)
  | [] => none
  | e :: es =>
    if e.block = blk ∧ e.code = code ∧ e.data.take 4 = d.take 4 then
      some ({ e with rep := satInc 16 e.rep } :: es)
    else (mergeEntry blk code d es).map (e :: ·)

/-- The 32 DATA bytes of an entry: byte 0 the event number, the detail from byte 1, the rest 0 (R652). -/
def journalData (ev : Nat) (detail : List Nat) : List Nat :=
  ((ev :: detail).map (· % 256) ++ List.replicate 32 0).take 32

/-- An event queues a journal entry, merges into a queued one, or is lost when 256 entries wait (R563).
Log 80 (DESIGN CHOICE, unsafe). -/
def State.journal (s : State) (ev blk code cls : Nat) (detail : List Nat) : State :=
  let d := journalData ev detail
  match mergeEntry blk code d s.jnl.queue with
  | some q => { s with jnl := { s.jnl with queue := q } }
  | none =>
    if 256 ≤ s.jnl.queue.length then { s with jnl := { s.jnl with lost := true } }
    else
      let e : JournalEntry :=
        { block := blk, code := code, cls := cls, ct := s.ctNs, calSec := s.cal.sec, calSub := s.cal.sub,
          rep := 0, data := d }
      ({ s with jnl := { s.jnl with queue := s.jnl.queue ++ [e] } }).vectorEvent 1 cls

/-- The bytes of a number, least significant first, as journal detail. -/
def dBytes (n v : Nat) : List Nat := (leBytes n v).map BitVec.toNat

/-! ## Refusals (R13, R615, R647) -/

/-- R615: the block's refusal counter, the last refusal and its address. Log 93 (DEDUCED, unsafe). -/
def State.recordRefusal (s : State) (blk code : Nat) (q : Requester) (adr : Nat) : State :=
  let s := s.incFd F.GLOBAL_REFCNTb_COUNT (blk % 16) 0
  let s := s.setRg .GLOBAL_LASTREF 0 0 (code % 256 * 2 ^ 24 + q.code * 2 ^ 16 + blk % 256)
  s.setRg .GLOBAL_LASTREF_ADR 0 0 adr

/-- The block's own refusal counter, where its chapter defines one (R247, AX_CNTBn, AX_CMPk_STAT, AX_STj_CTL,
FB_CNTBn, R517). -/
def State.ownRefusalCount (s : State) (r : Reg) (i : Nat) : State :=
  let off := r.row.base
  if blockOf off = 4 then s.incFd F.LV_CNTk_COUNT 9 0
  else if 0x1400000 ≤ off ∧ off < 0x1410000 then s.incFd F.AX_CNTBn_REF_CNT i 0
  else if 0x1410000 ≤ off ∧ off < 0x1420000 then s.incFd F.AX_CMPk_STAT_REF_CNT i 0
  else if 0x1420000 ≤ off ∧ off < 0x1600000 then s.incFd F.AX_STj_CTL_REF_CNT i 0
  else if blockOf off = 8 then s.incFd F.FB_CNTBn_REF_CNT i 0
  else match r with
    | .PW_DOMd_CTL => s.incFd F.PW_DOMd_CTL_REF_CNT i 0
    | _ => s

/-- A refusal of a write of register `r`, instance `i`, `j`: the reason code goes to its REFUSE field (R647), the
block's counters and GLOBAL_LASTREF record it (R13, R615). Log 93 (DEDUCED, unsafe). -/
def State.refuse (s : State) (q : Requester) (r : Reg) (i j code : Nat) : State :=
  let s : State := match r.refuseField with
    | some f => s.setFd f i 0 code
    | none => s
  let s := s.ownRefusalCount r i
  s.recordRefusal (blockOf r.row.base) code q (r.addr i j)

/-- A refusal by the module itself: LASTREF.REQUESTER reads 0x84 and the address is that of the register whose
REFUSE field received the code (R615). -/
def State.refuseSelf (s : State) (f : Field) (i code : Nat) : State :=
  let s := s.setFd f i 0 code
  let s := s.ownRefusalCount f.reg i
  s.recordRefusal (blockOf f.reg.row.base) code .module (f.reg.addr i 0)

/-! ## Bad accesses (R5, R609) -/

/-- An access of the wrong width or alignment, or to a reserved offset, is counted and recorded.
Log 54 (DEDUCED, unsafe). -/
def State.badAccess (s : State) (q : Requester) (isWrite reserved : Bool) (off : Nat) : State :=
  let s := s.incFd F.GLOBAL_BADACC_CNT_COUNT 0 0
  let s := s.setRg .GLOBAL_BADACC 0 0 (q.code * 2 ^ 24 + b2n isWrite * 2 ^ 16 + b2n reserved * 2 + 1)
  let s := s.noteRaise (Reg.addr .GLOBAL_BADACC 0 0) F.GLOBAL_BADACC_BAD.lo
  s.setRg .GLOBAL_BADACC_ADR 0 0 off

/-- An access to a domain that is not ON: counted and recorded; the first one to each domain in a super-cycle
writes a journal entry (R521). Log 54 (DEDUCED, unsafe), 55 (DESIGN CHOICE, safe). -/
def State.offAccess (s : State) (q : Requester) (isWrite : Bool) (d adr : Nat) : State :=
  let s := s.incFd F.PW_OFFACC_CNT_COUNT 0 0
  let s := s.setRg .PW_OFFACC 0 0 (q.code * 2 ^ 24 + b2n isWrite * 2 ^ 16 + d % 32)
  let s := s.setRg .PW_OFFACC_ADR 0 0 adr
  if s.pw.offSeen.contains d then s
  else
    let s : State := { s with pw := { s.pw with offSeen := d :: s.pw.offSeen } }
    s.journal 0x10 0x0B 0x07 1 ([d, q.code, b2n isWrite] ++ dBytes 4 adr)

/-! ## Spine SRAM -/

/-- The little-endian number of `n` bytes at a spine SRAM offset. -/
def State.sramN (s : State) (a n : Nat) : Nat := Mem.num s.mem.sram a n

/-- The lines still dirty at tick `now`: the engine moves 16 bytes a ns, a line in two ticks (R546).
Log 57 (DEDUCED, unsafe). -/
def MigState.waiting (m : MigState) (now : Nat) : List Nat := m.dirty.drop ((now - m.dirtyAt) / 2)

/-- The 64-byte lines that `n` bytes from address `a` touch. -/
def linesOf (a n : Nat) : List Nat :=
  if n = 0 then [] else (List.range ((a + n - 1) / 64 - a / 64 + 1)).map (a / 64 + ·)

/-- Lines added to a list of lines, each once. -/
def addLines (l : List Nat) (new : List Nat) : List Nat := l ++ new.filter (fun x => !l.contains x)

/-- The primary of a pair notes the spine SRAM lines written since the last replication round (R575). -/
def State.noteLines (s : State) (a n : Nat) : State :=
  if s.fd F.CH_STAT_ROLE = 1 then { s with ch := { s.ch with written := addLines s.ch.written (linesOf a n) } } else s

/-- The setpoint records whose CTRL field a write of `n` bytes at `a` reaches, in the bank of the present base cycle,
before its CUTOFF (R105 to R107): node ids, and 2,048 + axis for step records. -/
def State.ctrlWritten (s : State) (a n : Nat) : List Nat :=
  let hit (lo cnt tag : Nat) : List Nat :=
    if a + n ≤ lo ∨ lo + 32 * cnt ≤ a then []
    else
      let first := (a - lo) / 32
      let last := min (cnt - 1) ((a + n - 1 - lo) / 32)
      ((List.range (last + 1 - first)).map (first + ·)).filterMap (fun k =>
        if a < lo + 32 * k + 4 ∧ lo + 32 * k + 2 < a + n then some (tag + k) else none)
  if s.time.cutoffDone ∨ s.time.noBase ∨ n = 0 then []
  else
    let b := s.time.bcn % 2
    hit (0x30800 + 0x10000 * b) 2048 0 ++ hit (0x50800 + 0x2000 * b) 256 2048

/-- A write of spine SRAM commits the setpoint records whose CTRL it reaches (R107). -/
def State.noteCommit (s : State) (a n : Nat) : State :=
  match s.ctrlWritten a n with
  | [] => s
  | l => { s with kl := { s.kl with committed := addLines s.kl.committed l } }

/-- The state with bytes written from a spine SRAM offset on; bytes beyond its 16 MB (R16) are nowhere. -/
def State.sramWrite (s : State) (a : Nat) (bs : List Byte) : State :=
  let bs := bs.take (0x1000000 - a)
  (({ s with mem := { s.mem with sram := Mem.writeN s.mem.sram a bs } }).noteLines a bs.length).noteCommit a bs.length

/-- The state with a long run of spine SRAM replaced by the module itself. -/
def State.sramSplice (s : State) (a : Nat) (bs : List Byte) : State :=
  let bs := bs.take (0x1000000 - a)
  ({ s with mem := { s.mem with sram := Mem.splice s.mem.sram a bs } }).noteLines a bs.length

/-- `n` bytes of spine SRAM. -/
def State.sramBytes (s : State) (a n : Nat) : List Byte := Mem.readN s.mem.sram a n

/-- The state with a little-endian number of `n` bytes written at a spine SRAM offset. -/
def State.setSram (s : State) (a n v : Nat) : State := s.sramWrite a (leBytes n v)

/-- A sequence of state changes over a list of indices. -/
def State.forEach {α : Type} (s : State) (l : List α) (f : α → State → State) : State :=
  l.foldl (fun s a => f a s) s

/-- The indices below `n` whose bit of `mask` is set, ascending. -/
def bitIndices (mask n : Nat) : List Nat := (List.range n).filter (fun i => bit mask i)

/-! ## Tables of the blocks -/

/-- A core as core reset leaves it (R175, assumption 5): every register 0, p0 1, IDLE, its clock stopped with its slice's
domain (R513). Log 5 (DESIGN CHOICE, unsafe), 8 (DESIGN CHOICE, unsafe). -/
def coreReset : Core :=
  { run := .idle, resume := .idle, handler := false, lcore := 0, pc := 0, pair := none, g := [], w := [], acc := [], p := 1, cb := [],
    rrb := 0, lc := 0, sat := false, aovf := false, satCnt := 0, aovfCnt := 0, fpsr := 0, epc := 0,
    ecause := 0, eaddr := 0, estatus := 0, vbar := 0, budget := 0, budgetDue := false, cycOff := 0,
    gateAt := some 0, twait := none, twaitRd := 0, haltReq := false, excCnt := 0, dfCnt := 0, lastCause := 0,
    svc := none, frozen := false }

/-- Physical core `n`. -/
def State.core (s : State) (n : Nat) : Core := Tab.get (fun _ => coreReset) s.cores n

/-- The state with physical core `n` replaced. -/
def State.setCore (s : State) (n : Nat) (c : Core) : State :=
  { s with cores := Tab.set (fun _ => coreReset) s.cores n c }

/-- An arm group with no snapshot, as after reset. Log 8 (DESIGN CHOICE, unsafe). -/
def agReset : AgState :=
  { snap := none, fresh := false, stopping := false, lateRun := 0, enAtStart := false, pace := false, credit := 1,
    queue := [], draining := false, cat1 := false }

/-- Arm group `g`. -/
def State.ag (s : State) (g : Nat) : AgState := Tab.get (fun _ => agReset) s.cell.ags g

/-- The state with arm group `g` replaced. -/
def State.setAg (s : State) (g : Nat) (a : AgState) : State :=
  { s with cell := { s.cell with ags := Tab.set (fun _ => agReset) s.cell.ags g a } }

/-- The next value that the spec leaves open (Config.freeValue), and the state that has met it.
Log 9 (DESIGN CHOICE, unsafe). -/
def State.free (s : State) : Nat × State :=
  (Config.freeValue s.freeCount, { s with freeCount := s.freeCount + 1 })

/-! ## The voltage of an island (R536) -/

/-- The voltage at tick `now` of a step: it moves by 1 mV in 100 ticks, 5 mV per µs, and stays at the goal (R536). -/
def VStep.mvAt (x : VStep) (now : Nat) : Nat :=
  let k := (now - x.began) / 100
  if x.prev ≤ x.goal then min x.goal (x.prev + k) else max x.goal (x.prev - k)

/-- The measured voltage of island `i` now: on its way during a step, else as the last check or adjustment left it (R536). -/
def State.islandMv (s : State) (i : Nat) : Nat :=
  match s.pw.vstep.find? (fun e => e.1 = i) with
  | some (_, x) => if s.flag F.PW_VOLTi_STAT_STEPPING i then x.mvAt s.time.ticks else s.fd F.PW_VOLTi_STAT_MEAS i
  | none => s.fd F.PW_VOLTi_STAT_MEAS i

/-! ## Placement (R48, R245) -/

/-- The slice that serves arm group `g`. -/
def State.sliceOf (s : State) (g : Nat) : Nat := s.fd F.SV_PLACEn_SLICE g

/-- The physical core of logical core `l`: core CORE_MAP names in the slice of arm group l / 4. -/
def State.physCore (s : State) (l : Nat) : Nat :=
  let g := l / 4
  let i := l % 4
  4 * s.sliceOf g + bits (s.fd F.SV_PLACEn_CORE_MAP g) (2 * i + 1) (2 * i)

/-- The arm group's bit of GLOBAL_AG_EN (R27). -/
def State.agEnabled (s : State) (g : Nat) : Bool := bit (s.fd F.GLOBAL_AG_EN_EN) g

end Sys2Proof.Machine
end

