-- ==== Sys2Proof/Machine/Time.lean ====
section
/-!
DEFINITION. The passing of TIME ticks: CT and PT (R59 to R71), loads of CT (R64, R651), the core clocks' cycle
counts (R51), BUDGET (R215), the calendar's crystal (R81, R85).
-/

namespace Sys2Proof.Machine

/-- The root divider of a CLK_DVFS code: /5, /6, /8, /10 or /20 (R51). -/
def dividerOf (code : Nat) : Nat := ([5, 6, 8, 10, 20] : List Nat).getD code 20

/-- The calendar after `n` crystal cycles: TRIM cycles are spread evenly over each window of 2^25 cycles (R85).
`w` is the cycle within the window. Log 12 (DEDUCED, unsafe). -/
def trimShift (trim : Int) (w : Nat) : Int := ((w : Int) * trim) / (2 ^ 25 : Nat)

/-- The sub-second steps that the next `n` crystal cycles of the window bring (R85). -/
def calSteps (trim : Int) (w n : Nat) : Nat :=
  ((n : Int) + trimShift trim (w + n) - trimShift trim w).toNat

/-- The calendar advanced by `n` TIME ticks: 32,768 crystal cycles in each 500,000,000 ticks (assumption 12).
Log 12 (DEDUCED, unsafe). -/
def CalState.advance (c : CalState) (trim : Int) (n : Nat) : CalState :=
  match c.supply with
  | .none => c
  | _ =>
    let f := c.frac + 32768 * n
    let cyc := f / 500000000
    let tot := c.sub + calSteps trim c.window cyc
    { c with frac := f % 500000000, window := (c.window + cyc) % 2 ^ 25,
             windowDue := c.windowDue || decide (2 ^ 25 ≤ c.window + cyc),
             sec := (c.sec + tot / 2 ^ 15) % 2 ^ 64, sub := tot % 2 ^ 15,
             leapNow := c.leapNow && decide (tot < 2 ^ 15) }

/-- BUDGET of a core after `n` TIME ticks: it counts down while an instance is in service and raises BUDGET when it
reaches 0 from 1 (R215). -/
def Core.spend (c : Core) (n : Nat) : Core :=
  if c.svc.isSome ∧ 0 < c.budget then
    { c with budget := c.budget - n, budgetDue := c.budgetDue || decide (c.budget ≤ n) }
  else c

/-- The combined increment of PT in its registers (R67). -/
def State.ptIncReg (s : State) : Nat := s.rg .TIM_PT_INC_LO + 2 ^ 32 * s.rg .TIM_PT_INC_HI

/-- A load of CT: the base cycle in progress ends without its CUTOFF, and no base cycle runs until CT reaches a
multiple of the length, at or after the loaded value (R651). -/
def TimeState.loadCt (t : TimeState) (ns frac : Nat) : TimeState :=
  let ct := (ns * 2 ^ 32 + frac) % 2 ^ 96
  let len := baseNs t.base
  { t with ct := ct, ctLoad := none, noBase := true, startAt := (ct + len * 2 ^ 32 - 1) / (len * 2 ^ 32) * len,
           cutoffDone := true, planDone := true, superDone := true, startDone := true }

/-- The counters after `n + 1` TIME ticks: loads and adjustments apply at the first of them (R64, R67 to R69).
Log 1 (DESIGN CHOICE, unsafe), 23 (DEDUCED, unsafe). -/
def TimeState.tick (t : TimeState) (ptInc n : Nat) : TimeState :=
  let t := { t with ptInc := ptInc }
  let pt := match t.ptLoad with
    | some v => (v * 2 ^ 32 : Nat)
    | none => (((t.pt + ptInc : Nat) : Int) + t.ptAdj * (2 ^ 32 : Nat)) % (2 ^ 96 : Nat) |>.toNat
  let t := { t with pt := (pt + n * ptInc) % 2 ^ 96, ptLoad := none, ptAdj := 0 }
  match t.ctLoad with
  | some v => let t := t.loadCt v 0; { t with ct := (t.ct + n * t.ctInc) % 2 ^ 96 }
  | none => { t with ct := (t.ct + (n + 1) * t.ctInc) % 2 ^ 96 }

/-- The clocks of the islands over `n` TIME ticks of 20 root edges each (R51). -/
def TimeState.cycle (t : TimeState) (divA divB n : Nat) : TimeState :=
  { t with cycA := t.cycA + (t.edgA + 20 * n) / divA, edgA := (t.edgA + 20 * n) % divA,
           cycB := t.cycB + (t.edgB + 20 * n) / divB, edgB := (t.edgB + 20 * n) % divB }

/-- The TIME clock runs: the root PLL is locked, or in holdover (R53, R61). -/
def State.clockOn (s : State) : Bool := s.flag F.CLK_STAT_PLL_LOCK || s.flag F.CLK_STAT_HOLDOVER

/-- PT after the next TIME tick, in 2^-32 ns: a pending load or adjustment applies at it (R67 to R69). -/
def State.ptNext (s : State) : Nat := (s.time.tick s.ptIncReg 0).pt

/-- Descriptors of transmit queue `q` of plant Ethernet port `p` (R586). -/
def State.txSize (s : State) (p q : Nat) : Nat := 2 ^ s.fd F.HS_HEn_TXq_CTL_LOG2SIZE p q

/-- Spine SRAM offset of the descriptor that the port finishes next (R588). -/
def State.txDesc (s : State) (p q : Nat) : Nat :=
  s.fd F.HS_HEn_TXq_BASE_BASE p q + 32 * (s.fd F.HS_HEn_TXq_IDX_TAIL p q % s.txSize p q)

/-- The launch time of a queue's head descriptor, PT ns (R76). -/
def State.txLaunch (s : State) (p q : Nat) : Nat := s.sramN (s.txDesc p q + 8) 8

/-- A load or adjustment of PT that applies at the next tick puts waiting launch times in the past, or out of it again
(R80). -/
def State.notePtJump (s : State) : State :=
  if s.time.ptLoad.isNone ∧ s.time.ptAdj = 0 then s
  else
    let past (k : Nat) (pt : Nat) : Bool := decide (s.txLaunch (k / 8) (k % 8) * 2 ^ 32 < pt)
    { s with hs := { s.hs with late := s.hs.waiting.filter (fun k =>
      past k s.ptNext && (s.hs.late.contains k || !past k (s.time.pt + s.ptIncReg))) } }

/-- `n` TIME ticks pass. Without the root clock only the calendar and the module's own time base pass (R61).
Log 1 (DESIGN CHOICE, unsafe). -/
def State.advance (s : State) (n : Nat) : State :=
  match n with
  | 0 => s
  | k + 1 =>
    let trim := toSigned 11 (s.fd F.CAL_TRIM_TRIM)
    let s : State := { s with cal := s.cal.advance trim n, time := { s.time with raised := [], cleared := [] } }
    if s.clockOn then
      let s := s.notePtJump
      let load := s.time.ctLoad.isSome
      let t := s.time.tick s.ptIncReg k
      let t := t.cycle (dividerOf (s.fd F.CLK_DVFS_CORE_A)) (dividerOf (s.fd F.CLK_DVFS_CORE_B)) n
      let s : State := { s with time := { t with ticks := t.ticks + n },
                                cores := s.cores.map (fun e => (e.1, e.2.spend n)) }
      if load then { (s.setFd F.TIM_CT_STAT_SRC 0 0 0).setRg .KL_TIME_ERR 0 0 0 with kl := { s.kl with integral := 0 } }
      else s
    else { s with time := { s.time with ticks := s.time.ticks + n } }

/-- Ticks of increment `inc` until a counter at `now` reaches `goal`; none for a goal already reached. -/
def ticksUp (inc now goal : Nat) : Nat := if goal ≤ now ∨ inc = 0 then 0 else (goal - now + inc - 1) / inc

/-- The TIME ticks until CT reaches a value, in 2^-32 ns, with a pending load applied at the first of them; none for a
value already passed. -/
def State.ticksToCt (s : State) (goal : Nat) : Nat :=
  match s.time.ctLoad with
  | some v => if goal ≤ s.time.ct then 0 else 1 + ticksUp s.time.ctInc (v * 2 ^ 32) goal
  | none => ticksUp s.time.ctInc s.time.ct goal

/-- The TIME ticks until CT reaches an instant in ns. Log 2 (DESIGN CHOICE, unsafe). -/
def State.ticksTo (s : State) (ns : Nat) : Nat := s.ticksToCt (ns * 2 ^ 32)

/-- The TIME ticks until PT reaches a value, in 2^-32 ns; none for a value already passed. -/
def State.ticksToPtRaw (s : State) (goal : Nat) : Nat :=
  if goal ≤ s.time.pt then 0 else 1 + ticksUp s.ptIncReg s.ptNext goal

/-- Time passes until CT has reached an instant in ns; an instant already passed is met at once.
Log 2 (DESIGN CHOICE, unsafe). -/
def State.advanceTo (s : State) (ns : Nat) : State := s.advance (s.ticksTo ns)

/-- Time passes until CT reaches an instant of the base cycle in progress, or until a pending load of CT ends that base
cycle (R651). -/
def State.advanceWithin (s : State) (ns : Nat) : State :=
  if s.time.ctLoad.isSome ∧ s.time.ct < ns * 2 ^ 32 then s.advance 1 else s.advanceTo ns

/-- Time passes until the module's own time base has reached a tick. Log 2 (DESIGN CHOICE, unsafe). -/
def State.advanceToTick (s : State) (tick : Nat) : State := s.advance (tick - s.time.ticks)

/-- TIME ticks in a number of milliseconds, and in a number of seconds. -/
def msTicks (ms : Nat) : Nat := ms * 500000
def secTicks (sec : Nat) : Nat := sec * 500000000

/-- The next base-cycle start, CT ns (R29, R651). -/
def State.nextStart (s : State) : Nat :=
  if s.time.noBase then s.time.startAt else s.time.bcStart + s.lenNs

/-- CT ns of an offset, in 0.25 µs units, within the base cycle in progress. -/
def State.offsetNs (s : State) (q : Nat) : Nat := s.time.bcStart + q * 250

end Sys2Proof.Machine
end

