-- ==== Sys2Proof/Machine/Levain.lean ====
section
/-!
DEFINITION. Levain (chapter 06): deposit of operand tokens, firing, deadlines, release, dispatch, flows and tick
generators, and the meanings of its commands.
-/

namespace Sys2Proof.Machine

/-! ## The template and flow tables -/

/-- A field of template `t`: `n` bytes from byte `b` of its record (R225). -/
def State.tpl (s : State) (t b n : Nat) : Nat :=
  bits (s.rg .LV_TPLt_Ww t (b / 4)) (8 * (b % 4) + 8 * n - 1) (8 * (b % 4))

/-- Template `t` with the `n` bytes from byte `b` set. -/
def State.setTpl (s : State) (t b n v : Nat) : State :=
  s.setRg .LV_TPLt_Ww t (b / 4) (setBits (s.rg .LV_TPLt_Ww t (b / 4)) (8 * (b % 4) + 8 * n - 1) (8 * (b % 4)) v)

/-- A byte of flow record `f` (R234). -/
def State.flow (s : State) (f b : Nat) : Nat := bits (s.rg .LV_FLOWf_Ww f (b / 4)) (8 * (b % 4) + 7) (8 * (b % 4))

/-- Flow record `f` with a byte set. -/
def State.setFlow (s : State) (f b v : Nat) : State :=
  s.setRg .LV_FLOWf_Ww f (b / 4) (setBits (s.rg .LV_FLOWf_Ww f (b / 4)) (8 * (b % 4) + 7) (8 * (b % 4)) v)

/-- Fields of a template (R225): entry, required slots, flow, level, flags, deadline, release, budget, state. -/
def State.tplEntry (s : State) (t : Nat) : Nat := s.tpl t 0 4
def State.tplReq (s : State) (t : Nat) : Nat := s.tpl t 4 2
def State.tplFlow (s : State) (t : Nat) : Nat := s.tpl t 6 2 % 2 ^ 12
def State.tplPrio (s : State) (t : Nat) : Nat := s.tpl t 8 1 % 32
def State.tplSeq (s : State) (t : Nat) : Bool := bit (s.tpl t 9 1) 0
def State.tplAhead (s : State) (t : Nat) : Bool := bit (s.tpl t 9 1) 1
def State.tplDlMode (s : State) (t : Nat) : Nat := bits (s.tpl t 9 1) 3 2
def State.tplOn (s : State) (t : Nat) : Bool := decide (s.tpl t 24 1 = 1)

/-- The arm group that owns a flow (R234). -/
def State.flowOwner (s : State) (f : Nat) : Nat := s.flow f 0

/-- The templates that are ON: a template that is ON has a non-reset word 6 in the register file. -/
def State.onTemplates (s : State) : List Nat :=
  s.regs.filterMap (fun e =>
    if 0x810000 ≤ e.1 ∧ e.1 < 0x830000 ∧ e.1 % 32 = 24 ∧ e.2.toNat % 256 = 1 then some ((e.1 - 0x810000) / 32)
    else none)

/-- Fired instances of flow `f`, in firing order. -/
def State.queueOf (s : State) (f : Nat) : List Fired := s.lv.fired.filter (fun x => s.tplFlow x.tpl = f)

/-- The module-written counts of waiting instances of `t` and of queued instances of `f` (R225, R234). -/
def State.recount (s : State) (t f : Nat) : State :=
  let s := s.setTpl t 25 1 (min 255 (s.lv.waiting.filter (fun x => x.tpl = t)).length)
  s.setFlow f 5 (s.queueOf f).length

/-- Operand entries returned to the store (R224). -/
def State.freeEntries (s : State) (n : Nat) : State :=
  s.setFd F.LV_STAT_FREE 0 0 (min 16384 (s.fd F.LV_STAT_FREE + n))

/-- Event counter `k` of R247. -/
def State.lvCount (s : State) (k : Nat) : State := s.incFd F.LV_CNTk_COUNT k 0

/-! ## Firing (R229 to R233) and release (R238, R239) -/

/-- The scheduled instant of an instance of an AHEAD template: REL_OFS in the first base cycle, at or after the
present one, whose number has bits [15:0] equal to the tag (R239). -/
def State.schedOf (s : State) (t tag : Nat) : Nat :=
  let n := s.time.bcn + (tag + 2 ^ 16 - s.time.bcn % 2 ^ 16) % 2 ^ 16
  n * s.lenNs + 2 * s.tpl t 16 4

/-- A fired instance with its release fixed by R238 and R239. -/
def State.mkFired (s : State) (x : Inst) (part : Bool) : Fired :=
  let now := s.ctNs
  let t := x.tpl
  if s.tplAhead t then
    let sc := s.schedOf t x.tag
    let rel := (s.ag (s.flowOwner (s.tplFlow t))).pace || decide (sc ≤ now)
    { tpl := t, tag := x.tag, slots := x.slots, part := part, fireCt := now, tick := s.time.ticks, released := rel,
      relAt := if rel then now else sc, sched := some sc }
  else
    let at_ := if s.tpl t 16 4 = 0xFFFFFFFF then now else s.time.bcStart + 2 * s.tpl t 16 4
    { tpl := t, tag := x.tag, slots := x.slots, part := part, fireCt := now, tick := s.time.ticks,
      released := decide (at_ ≤ now), relAt := max at_ now, sched := none }

/-- Whether fired instance `x` stands before `y` in firing order: by TIME tick, and within one by template and tag
(R237). -/
def Fired.precedes (x y : Fired) : Bool :=
  decide (x.tick < y.tick) || (decide (x.tick = y.tick) &&
    (decide (x.tpl < y.tpl) || (decide (x.tpl = y.tpl) && decide (x.tag < y.tag))))

/-- A fired instance put into the firing order (R237). -/
def insertFired (x : Fired) : List Fired → List Fired
  | [] => [x]
  | y :: r => if x.precedes y then x :: y :: r else y :: insertFired x r

/-- The matching store without one instance. -/
def dropInst (l : List Inst) (t tag : Nat) : List Inst := l.filter (fun x => !(x.tpl = t && x.tag = tag))

/-- An instance fires: LAST_TAG and the counters move, and it joins its flow's queue, or is discarded with code
0x23 when the flow already holds MAXQ fired instances (R232, R233). -/
def State.fire (s : State) (x : Inst) (part : Bool) : State × Nat :=
  let t := x.tpl
  let f := s.tplFlow t
  let s : State := { s with lv := { s.lv with waiting := dropInst s.lv.waiting t x.tag,
                                              seqValid := if s.lv.seqValid.contains t then s.lv.seqValid
                                                          else t :: s.lv.seqValid } }
  let s := s.setTpl t 26 2 x.tag
  let s := s.setTpl t 28 2 (satInc 16 (s.tpl t 28 2))
  let s : State := if part then (s.setTpl t 30 2 (satInc 16 (s.tpl t 30 2))).lvCount 5 else s
  if s.flow f 2 ≤ (s.queueOf f).length then
    (((s.freeEntries x.slots.length).lvCount 7).recount t f, 0x23)
  else
    let s : State := { s with lv := { s.lv with fired := insertFired (s.mkFired x part) s.lv.fired } }
    (s.recount t f, 0x00)

/-- The standby of a pair fires no instance of an arm group's flow (R574). Log 83 (DEDUCED, unsafe). -/
def State.isStandby (s : State) : Bool := decide (s.fd F.CH_STAT_ROLE = 2)

/-- An instance is complete: every slot named in REQ holds a token (R229). -/
def State.complete (s : State) (x : Inst) : Bool :=
  (bitIndices (s.tplReq x.tpl) 16).all (fun k => x.slots.any (fun e => e.1 = k))

/-! ## Deposit (R218 to R224, R572) -/

/-- Where a token comes from (R218): a port, a tick generator, a Kneader cluster, a block, a POST of a physical core; or
a health or bridged token. -/
inductive TokSrc where
  | port (n : Nat) | tick (k : Nat) | kneader (c : Nat) | ax | fb | sorus | thallus | mailbox | post (n : Nat) | other
  deriving DecidableEq, Repr

/-- The place of a source in the order of R220; none for a source the order does not name. Log 56 (DEDUCED, unsafe). -/
def TokSrc.rank : TokSrc → Option Nat
  | .port n => some (n % 8)
  | .tick k => some (8 + k % 64)
  | .kneader c => some (72 + c % 4)
  | .ax => some 76
  | .fb => some 77
  | .sorus => some 78
  | .thallus => some 79
  | .mailbox => some 80
  | .post n => some (81 + n)
  | .other => none

/-- The SRC code of LV_DROP; a health token (chapter 15) or a bridged one (R572) has none. Log 56 (DEDUCED, unsafe). -/
def TokSrc.code : TokSrc → Option Nat
  | .port n => some (n % 8)
  | .tick _ => some 8
  | .kneader _ => some 9
  | .ax => some 0xA
  | .fb => some 0xB
  | .sorus => some 0xC
  | .thallus => some 0xD
  | .mailbox => some 0xE
  | .post _ | .other => none

/-- A hardware token is dropped: DROP counts, LV_DROP and the journal record it (R224). -/
def State.dropToken (s : State) (code tok : Nat) : State :=
  let s := s.raise F.LV_STAT_DROP F.LV_CNTk_COUNT 0 0
  let s := s.setRg .LV_DROP 0 0 (code * 2 ^ 28 + tok % 2 ^ 16)
  s.journal 0x0B 0x04 0x00 2 ([code] ++ dBytes 2 tok)

/-- A token refused for a full store: POST_FULL for a POST, else the token is dropped (R224). -/
def State.storeFull (s : State) (src : TokSrc) (tok : Nat) : State :=
  match src, src.code with
  | .post _, _ => s.lvCount 1
  | _, some c => s.dropToken c tok
  | _, none => s.free.2.dropToken (s.free.1 % 16) tok

/-- The chain bridge that forwards a local template, if one is enabled (R572). -/
def State.bridgeOf (s : State) (t : Nat) : Option Nat :=
  if s.domOn 23 ∧ s.flag F.CH_CTL_EN then
    (List.range 16).find? (fun k => s.flag F.CH_BRIDGEk_EN k && decide (s.fd F.CH_BRIDGEk_LOCAL k = t))
  else none

/-- The slots of an instance with a token put into slot `k`, in slot order. -/
def putSlot (k : Nat) (p : Word) : List (Nat × Word) → List (Nat × Word)
  | [] => [(k, p)]
  | (i, q) :: r => if k = i then (k, p) :: r else if k < i then (k, p) :: (i, q) :: r else (i, q) :: putSlot k p r

/-- The deadline of an instance whose first token arrives now (R230). -/
def State.deadlineOf (s : State) (t : Nat) : Option Nat :=
  if s.tplDlMode t = 0 then none
  else some (s.time.bcStart + s.tpl t 10 1 * s.lenNs + 2 * s.tpl t 12 4)

/-- A token that R221 to R223 let through enters the matching store, and fires its instance if it completes it. -/
def State.match_ (s : State) (src : TokSrc) (t k tag : Nat) (payload : Word) : State × Nat :=
  let old := (s.lv.waiting.find? (fun x => x.tpl = t && x.tag = tag)).getD
    { tpl := t, tag := tag, slots := [], deadline := s.deadlineOf t }
  let new := { old with slots := putSlot k payload old.slots }
  if old.slots.any (fun e => e.1 = k) then
    let w := s.lv.waiting.map (fun x => if x.tpl = t ∧ x.tag = tag then new else x)
    (({ s with lv := { s.lv with waiting := w } }).lvCount 2, 0x20)
  else if s.fd F.LV_STAT_FREE = 0 then (s.storeFull src (k * 2 ^ 12 + t), 0x05)
  else
    let s := s.setFd F.LV_STAT_FREE 0 0 (s.fd F.LV_STAT_FREE - 1)
    let w := if old.slots.isEmpty then s.lv.waiting ++ [new]
      else s.lv.waiting.map (fun x => if x.tpl = t ∧ x.tag = tag then new else x)
    let s : State := { s with lv := { s.lv with waiting := w } }
    let s := s.recount t (s.tplFlow t)
    if s.complete new && !s.isStandby then s.fire new false else (s, 0x00)

/-- A token is applied (R218): the state after it, and Levain's outcome code (R205, R248). -/
def State.applyToken (s : State) (src : TokSrc) (tok tag : Nat) (payload : Word) : State × Nat :=
  let t := tok % 2 ^ 12
  let k := tok / 2 ^ 12 % 16
  let tag := tag % 2 ^ 16
  match s.bridgeOf t with
  | some b =>
    let m : Bridged := { dest := s.fd F.CH_BRIDGEk_DEST b, tpl := s.fd F.CH_BRIDGEk_REMOTE b, slot := k, tag := tag,
                         payload := payload }
    ({ s with ch := { s.ch with sent := s.ch.sent ++ [m] } }, 0x00)
  | none =>
    if ¬ s.tplOn t then (s.lvCount 3, 0x21)
    else if s.tplSeq t ∧ s.lv.seqValid.contains t ∧ (s.tpl t 26 2 + 2 ^ 16 - tag) % 2 ^ 16 < 2 ^ 15 then
      (s.lvCount 4, 0x22)
    else s.match_ src t k tag payload

/-- The present TIME tick is the one in which tick generator `k` deposits its token, and it has not yet: the tick at which
CT reaches its offset in a selected phase (R218, R219, R246). -/
def State.tickDue (s : State) (k : Nat) : Bool :=
  let ofs := s.offsetNs (s.fd F.LV_TICKk_OFS_OFS k) * 2 ^ 32
  decide (k < 64) && s.flag F.LV_TICKk_OFS_EN k && bit (s.fd F.LV_TICKk_CTL_PHASES k) s.phase && !s.time.noBase &&
    decide (ofs ≤ s.time.ct ∧ s.time.ct < ofs + s.time.ctInc) && !s.lv.tickDone.contains k

/-- Tick generator `k` deposits its token, in the tick of its offset (R219). -/
def State.tickToken (s : State) (k : Nat) : State :=
  let s : State := { s with lv := { s.lv with tickDone := k :: s.lv.tickDone } }
  let tok := s.fd F.LV_TICKk_CTL_TOKEN k
  if tok = 0xFFFF then s else (s.applyToken (.tick k) tok s.bcTag (BitVec.ofNat 32 s.phase)).1

/-- The tick generators below `n` whose tick the present one is deposit their tokens, in their order (R219, R220).
Log 113 (DEDUCED, unsafe). -/
def State.tickTokens (s : State) (n : Nat) : State :=
  s.forEach (List.range (min n 64)) (fun k s => if s.tickDue k then s.tickToken k else s)

/-- Tokens of one TIME tick are applied in the order of R220: the tick generators of the present tick that stand before a
source have deposited theirs, and a token of a source that stands before one already applied falls into the next tick.
Log 113 (DEDUCED, unsafe). -/
def State.takeTurn (s : State) (rank : Nat) : State :=
  let s := if s.lv.turn.1 = s.time.ticks ∧ rank < s.lv.turn.2 then s.advance 1 else s
  let s := s.tickTokens (rank - 8)
  { s with lv := { s.lv with turn := (s.time.ticks, rank) } }

/-- The turn of a source's token. Log 113 (DEDUCED, unsafe). -/
def State.takeTurnOf (s : State) (src : TokSrc) : State :=
  match src.rank with
  | some k => s.takeTurn k
  | none => s

/-- A token is deposited, and applied in its turn (R218, R220). Log 113 (DEDUCED, unsafe). -/
def State.deposit (s : State) (src : TokSrc) (tok tag : Nat) (payload : Word) : State × Nat :=
  (s.takeTurnOf src).applyToken src tok tag payload

/-- A hardware token with the tag of the present base cycle; TOKEN 0xFFFF means none (R120, R218). -/
def State.hwToken (s : State) (src : TokSrc) (tok payload : Nat) : State :=
  if tok = 0xFFFF then s else (s.deposit src tok s.bcTag (BitVec.ofNat 32 payload)).1

/-! ## Flows (R236) -/

/-- The flow's service ends with DONE: it becomes IDLE (R236). -/
def State.flowDone (s : State) (f : Nat) : State := (s.setFlow f 4 0).setFlow f 6 0xFF

/-- The instance a core serves ends abnormally (R214, R236, R654): its flow becomes HELD. -/
def State.endAbnormal (s : State) (n cause : Nat) : State :=
  let c := s.core n
  match c.svc with
  | none => s
  | some v =>
    let s := s.setCore n { c with svc := none }
    let s := (s.setFlow v.flow 4 2).setFlow v.flow 6 0xFF
    let s := (s.raiseFlag F.LV_STAT_HELD 0 0).lvCount 8
    let s := s.setRg .LV_FAULT 0 0 (cause % 256 * 2 ^ 24 + v.lcore % 64 * 2 ^ 18 + v.flow)
    s.journal 0x0A 0x04 0x00 2 ([cause, v.lcore] ++ dBytes 2 v.flow)

/-! ## Health token and the end of a migration (R551, R552, R567, R577) -/

/-- The health token: payload [7:0] event, [15:8] code, [20:16] slice (SV_TOK). Log 56 (DEDUCED, unsafe). -/
def State.healthToken (s : State) (ev code slice : Nat) : State :=
  s.hwToken .other (s.fd F.SV_TOK_TOKEN) (ev % 256 + code % 256 * 2 ^ 8 + slice % 32 * 2 ^ 16)

/-- A health token for an event to which the spec names no slice: that field is a value it leaves open. -/
def State.healthEvent (s : State) (ev : Nat) : State :=
  let (v, s) := s.free
  s.healthToken ev 0 v

/-- The migration ends without a cut-over: the cores resume, dispatch resumes, the source stays in use, and the health
token is deposited with event 0x03 (R552). -/
def State.migAbort (s : State) : State :=
  match s.sv.mig with
  | none => s
  | some m =>
    if m.moved then { s with sv := { s.sv with mig := some { m with abortDue := true } } }
    else
      let s := s.forEach (List.range 4) (fun c s =>
        let n := 4 * m.source + c
        s.setCore n { s.core n with frozen := false })
      let s : State := { s with sv := { s.sv with mig := none, hold := none } }
      (s.setFd F.SV_MIG_STAT_STATE 0 0 0).healthEvent 3

/-! ## Dispatch (R240 to R245) -/

/-- The slice that serves a flow (R245). -/
def State.flowSlice (s : State) (f : Nat) : Nat := s.sliceOf (s.flowOwner f % 16)

/-- An instance would run ahead: it belongs to an AHEAD template and its scheduled instant is still to come. -/
def State.runsAhead (s : State) (x : Fired) : Bool :=
  match x.sched with
  | some sc => decide (s.ctNs < sc)
  | none => false

/-- Producers of arm group `g`'s credit queue that are in service: each will fill an entry (R41).
Log 20 (DEDUCED, unsafe). -/
def State.producing (s : State) (g : Nat) : Nat :=
  (s.cores.filter (fun e => match e.2.svc with
    | some v => v.ahead && decide (s.flowOwner v.flow % 16 = g)
    | none => false)).length

/-- The credit a producer needs: with PACE 1 a free one, with PACE 0 none, at or after its scheduled instant and not while
the queue drains (R40, R41, R47). -/
def State.creditOk (s : State) (x : Fired) : Bool :=
  let g := s.flowOwner (s.tplFlow x.tpl) % 16
  let a := s.ag g
  if a.pace then decide (a.queue.length + s.producing g < a.credit)
  else !s.runsAhead x && (!a.draining || decide (a.queue.length ≤ 1))

/-- Ready-list order: level, release instant, template, tag (R240). -/
def State.before (s : State) (x y : Fired) : Bool :=
  let a := s.tplPrio x.tpl
  let b := s.tplPrio y.tpl
  decide (a < b) || (decide (a = b) && (decide (x.relAt < y.relAt) || (decide (x.relAt = y.relAt) &&
    (decide (x.tpl < y.tpl) || (decide (x.tpl = y.tpl) && decide (x.tag < y.tag))))))

/-- The head of an ORDERED flow's queue, in firing order (R237). -/
def State.isHead (s : State) (x : Fired) : Bool := decide ((s.queueOf (s.tplFlow x.tpl)).head? = some x)

/-- The next instance of its flow (R237): the head of an ORDERED flow, in an atomic one the first released in ready-list
order. -/
def State.isNext (s : State) (x : Fired) : Bool :=
  if bit (s.flow (s.tplFlow x.tpl) 1) 4 then s.isHead x
  else (s.queueOf (s.tplFlow x.tpl)).all (fun y => !(y.released && s.before y x))

/-- A fired instance is eligible (R240): released, its flow IDLE, or BUSY and it is the flow's next, its slice ON. -/
def State.eligible (s : State) (x : Fired) : Bool :=
  let st := s.flow (s.tplFlow x.tpl) 4
  x.released && (decide (st = 0) || (decide (st = 1) && s.isNext x)) && s.domOn (s.flowSlice (s.tplFlow x.tpl))

/-- An eligible instance can be dispatched: its flow is IDLE, it is the head of an ORDERED flow, dispatch to its slice and
for its arm group is not stopped (R515, R548), and a producer has its credit. -/
def State.canGo (s : State) (x : Fired) : Bool :=
  let f := s.tplFlow x.tpl
  s.eligible x && decide (s.flow f 4 = 0) && (!bit (s.flow f 1) 4 || s.isHead x) &&
    !(s.pw.drain.any (fun e => e.1 = s.flowSlice f)) &&
    decide (s.sv.hold ≠ some (s.flowOwner f % 16)) && (x.sched.isNone || s.creditOk x)

/-- R242: an instance that would run ahead waits while an instance of a template with AHEAD = 0 of the same slice
is eligible. -/
def State.mayGo (s : State) (x : Fired) : Bool :=
  s.canGo x && (!s.runsAhead x || s.lv.fired.all (fun y =>
    !(y.sched.isNone && s.eligible y && decide (s.flowSlice (s.tplFlow y.tpl) = s.flowSlice (s.tplFlow x.tpl)))))

/-- The lowest logical core that may serve a flow and is idle (R241). -/
def State.idleCore (s : State) (f : Nat) : Option Nat :=
  let g := s.flowOwner f % 16
  ((bitIndices (s.flow f 1 % 16) 4).map (4 * g + ·)).find? (fun l =>
    decide ((s.core (s.physCore l)).run = .idle))

/-- The first instance in ready-list order that can be dispatched now, with its logical core. -/
def State.nextDispatch (s : State) : List Fired → Option (Fired × Nat)
  | [] => none
  | x :: r =>
    let rest := s.nextDispatch r
    match s.mayGo x, s.idleCore (s.tplFlow x.tpl) with
    | true, some l =>
      match rest with
      | some (y, k) => if s.before y x then some (y, k) else some (x, l)
      | none => some (x, l)
    | _, _ => rest

/-- The general and rotating registers at dispatch (R244). -/
def dispatchRegs (c : Core) (x : Fired) (ahead : Bool) : Core :=
  let w := (List.range 16).foldl (fun w k =>
    let v := ((x.slots.find? (fun e => e.1 = k)).map (·.2)).getD 0
    Tab.set (fun _ => (0 : Word)) w k v) c.w
  let mask := x.slots.foldl (fun m e => m ||| 2 ^ e.1) 0
  let set (g : List (Nat × Word)) (i v : Nat) := Tab.set (fun _ => (0 : Word)) g i (BitVec.ofNat 32 v)
  let g := set c.g 1 (x.tpl * 2 ^ 16 + x.tag)
  let g := set g 2 (mask + b2n x.part * 2 ^ 16 + b2n ahead * 2 ^ 17)
  { c with w := w, g := set g 3 x.fireCt }

/-- PLAN_SEQ of arm group `g`, in its record (R17, R45). -/
def State.planSeq (s : State) (g : Nat) : Nat := s.sramN (64 * (g % 16) + 12) 4

/-- Levain dispatches an instance to a logical core and starts the core (R180, R244). -/
def State.dispatchTo (s : State) (x : Fired) (l : Nat) : State :=
  let f := s.tplFlow x.tpl
  let n := s.physCore l
  let ahead := s.runsAhead x
  let v : Service := { tpl := x.tpl, tag := x.tag, flow := f, lcore := l, sched := x.sched, ahead := x.sched.isSome,
                       early := ahead, planSeq := s.planSeq (s.flowOwner f), bank := s.fd F.SV_IMG_STAT_WINDOW }
  let c := dispatchRegs (s.core n) x ahead
  let c := { c with run := .run, handler := false, lcore := l, pair := none, pc := BitVec.ofNat 32 (s.tplEntry x.tpl), rrb := 0, lc := 0,
                    budget := s.tpl x.tpl 20 4, budgetDue := false, svc := some v }
  let s := s.setCore n c
  let s : State := { s with lv := { s.lv with fired := s.lv.fired.erase x } }
  let s := (s.freeEntries x.slots.length).recount x.tpl f
  (s.setFlow f 4 1).setFlow f 6 l

/-- DISPATCH: the first eligible instance goes to an idle permitted core (R240 to R245); with none, nothing.
Log 2 (DESIGN CHOICE, unsafe), 94 (DESIGN CHOICE, unsafe). -/
def execDispatch (s : State) : Host.Outcome State Fault Refusal :=
  match s.nextDispatch s.lv.fired with
  | some (x, l) => .next (s.dispatchTo x l)
  | none => .next s

/-- TICK: tick generator `k` reaches its offset in a selected phase and deposits its token in that TIME tick, after those
below it whose tick it is too (R218 to R220, R246). A base cycle that a pending load of CT ends before the offset has
none (R651). -/
def execTick (k : Nat) (s : State) : Host.Outcome State Fault Refusal :=
  let ofs := s.offsetNs (s.fd F.LV_TICKk_OFS_OFS k)
  if s.time.noBase ∨ (s.time.ctLoad.isSome ∧ s.time.ct < ofs * 2 ^ 32) then .next s
  else .next ((s.advanceTo ofs).tickTokens (k + 1))

/-- INSTANCE_DEADLINE: an instance that has not fired by its deadline fires partial or is discarded (R230, R232). It
stands after every token of its TIME tick: a later token falls into the next tick (R231). -/
def execInstanceDeadline (t tag : Nat) (s : State) : Host.Outcome State Fault Refusal :=
  let inst (s : State) := s.lv.waiting.find? (fun x => x.tpl = t && x.tag = tag)
  match (inst s).bind (·.deadline) with
  | none => .next s
  | some d =>
    let s := (s.advanceTo d).takeTurn 1000
    match inst s with
    | none => .next s
    | some x =>
      if s.tplDlMode t = 1 then (if s.isStandby then .next s else .next (s.fire x true).1)
      else
        let s : State := { s with lv := { s.lv with waiting := dropInst s.lv.waiting t tag,
                                                    seqValid := if s.lv.seqValid.contains t then s.lv.seqValid
                                                                else t :: s.lv.seqValid } }
        let s := (s.freeEntries x.slots.length).lvCount 6
        let s := s.setTpl t 26 2 tag
        .next ((s.setTpl t 30 2 (satInc 16 (s.tpl t 30 2))).recount t (s.tplFlow t))

/-- INSTANCE_RELEASE: a fired instance reaches its release instant (R238, R239). -/
def execInstanceRelease (t tag : Nat) (s : State) : Host.Outcome State Fault Refusal :=
  match s.lv.fired.find? (fun x => x.tpl = t && x.tag = tag && !x.released) with
  | none => .next s
  | some x =>
    let s := s.advanceTo x.relAt
    .next { s with lv := { s.lv with fired := s.lv.fired.map (fun y =>
      if y.tpl = t ∧ y.tag = tag ∧ y.relAt ≤ x.relAt then { y with released := true } else y) } }

/-! ## Tables and commands (R226 to R228, R235, R236, R246) -/

/-- A write of word `w` of template `t`: refused while the template is ON; words 6 and 7 are the module's (R225,
R226). -/
def writeTemplate (q : Requester) (t w : Nat) (v : Word) (s : State) : State :=
  if s.tplOn t then s.refuse q .LV_TPLt_Ww t w 0x02
  else if 6 ≤ w then s
  else s.setRg .LV_TPLt_Ww t w v.toNat

/-- A write of word `w` of flow `f`: bytes 0 to 3 are refused while an ON template names the flow; word 1 is the
module's (R234, R235). -/
def writeFlow (q : Requester) (f w : Nat) (v : Word) (s : State) : State :=
  if w = 0 then
    if s.onTemplates.any (fun t => decide (s.tplFlow t = f)) then s.refuse q .LV_FLOWf_Ww f w 0x02
    else s.setRg .LV_FLOWf_Ww f 0 (v.toNat % 2 ^ 24)
  else s

/-- The checks of ENABLE, in order (R227); none when the template passes. -/
def State.tplCheck (s : State) (t : Nat) : Option Nat :=
  let f := s.tplFlow t
  let ent := s.tplEntry t
  let ticks := baseNs (s.fd F.TIM_CYCLE_BASE) / 2
  let rel := s.tpl t 16 4
  if s.tpl t 24 1 ≠ 0 then some 0x02
  else if s.tplReq t = 0 ∨ s.tplDlMode t = 3 ∨ 15 < s.tpl t 10 1 ∨ s.tpl t 6 2 / 2 ^ 12 ≠ 0 ∨
      s.tpl t 8 1 / 32 ≠ 0 ∨ s.tpl t 9 1 / 16 ≠ 0 ∨ s.tpl t 11 1 ≠ 0 then some 0x03
  else if ticks ≤ s.tpl t 12 4 ∨ (rel ≠ 0xFFFFFFFF ∧ ticks ≤ rel) then some 0x03
  else if ent % 4 ≠ 0 ∨ ¬ (ent < 0x80000 ∨ (0x1000000 ≤ ent ∧ ent < 0x1100000)) then some 0x24
  else if 15 < s.flow f 0 ∨ s.flow f 1 % 16 = 0 ∨ s.flow f 2 = 0 ∨ 64 < s.flow f 2 then some 0x25
  else if s.tplAhead t ∧ (¬ s.tplSeq t ∨ rel = 0xFFFFFFFF) then some 0x04
  else none

/-- The waiting instances of a template are discarded and their entries freed (R228). -/
def State.purgeWaiting (s : State) (t : Nat) : State :=
  let n := ((s.lv.waiting.filter (fun x => x.tpl = t)).map (fun x => x.slots.length)).sum
  let s : State := { s with lv := { s.lv with waiting := s.lv.waiting.filter (fun x => x.tpl ≠ t) } }
  (s.freeEntries n).recount t (s.tplFlow t)

/-- Fired instances that satisfy `p` are discarded and their entries freed. -/
def State.dropFired (s : State) (p : Fired → Bool) : State :=
  let n := ((s.lv.fired.filter p).map (fun x => x.slots.length)).sum
  let s : State := { s with lv := { s.lv with fired := s.lv.fired.filter (fun x => !p x) } }
  s.freeEntries n

/-- An accepted LV_TPL_CMD.OP acts on a template (R227, R228). -/
def templateCommand (op t : Nat) (s : State) : State :=
  let f := s.tplFlow t
  match op with
  | 1 =>
    let s : State := { s with lv := { s.lv with seqValid := s.lv.seqValid.filter (· ≠ t) } }
    s.setTpl t 24 1 1
  | 2 => ((s.setTpl t 24 1 0).purgeWaiting t |>.dropFired (fun x => x.tpl = t)).recount t f
  | 3 => s.purgeWaiting t
  | _ => s

/-- A write of LV_TPL_CMD: TEMPLATE is set, and OP acts on it; an ENABLE that fails a check is refused and changes
nothing else (R13, R227). -/
def writeTplCmd (q : Requester) (v : Word) (s : State) : State :=
  let t := F.LV_TPL_CMD_TEMPLATE.of v.toNat
  let op := F.LV_TPL_CMD_OP.of v.toNat
  match (if op = 1 then s.tplCheck t else none) with
  | some c => s.refuse q .LV_TPL_CMD 0 0 c
  | none => templateCommand op t (s.setFd F.LV_TPL_CMD_TEMPLATE 0 0 t)

/-- Why LV_FLOW_CMD.OP is refused on a flow in state `st`; none where it acts (R236). -/
def flowRefusal (op st : Nat) : Option Nat :=
  if op = 3 then some 0x03
  else if (op = 1 ∧ st ≠ 2) ∨ (op = 2 ∧ st = 1) then some 0x02
  else none

/-- An accepted LV_FLOW_CMD.OP acts on a flow (R236). -/
def flowCommand (op f : Nat) (s : State) : State :=
  match op with
  | 1 => (s.setFlow f 4 0).setFlow f 6 0xFF
  | 2 =>
    let s := s.dropFired (fun x => s.tplFlow x.tpl = f)
    ((s.setFlow f 4 0).setFlow f 6 0xFF).setFlow f 5 0
  | _ => s

/-- A write of LV_FLOW_CMD: FLOW is set, and OP acts on it; a refused one changes nothing else (R13, R236). -/
def writeFlowCmd (q : Requester) (v : Word) (s : State) : State :=
  let f := F.LV_FLOW_CMD_FLOW.of v.toNat
  let op := F.LV_FLOW_CMD_OP.of v.toNat
  match flowRefusal op (s.flow f 4) with
  | some c => s.refuse q .LV_FLOW_CMD 0 0 c
  | none => flowCommand op f (s.setFd F.LV_FLOW_CMD_FLOW 0 0 f)

/-- A write of LV_TICKk_OFS (R246); a refused enable leaves EN 0 (R12). -/
def writeTickOfs (q : Requester) (k : Nat) (v : Word) (s : State) : State :=
  let ofs := F.LV_TICKk_OFS_OFS.of v.toNat
  let en := F.LV_TICKk_OFS_EN.of v.toNat
  if baseNs (s.fd F.TIM_CYCLE_BASE) ≤ ofs * 250 then s.refuse q .LV_TICKk_OFS k 0 0x03
  else if en = 1 ∧ ¬ s.flag F.LV_TICKk_OFS_EN k ∧
      (s.fd F.LV_TICKk_CTL_TOKEN k = 0xFFFF ∨ s.fd F.LV_TICKk_CTL_PHASES k = 0) then
    (s.setFd F.LV_TICKk_OFS_OFS k 0 ofs).refuse q .LV_TICKk_OFS k 0 0x04
  else (s.setFd F.LV_TICKk_OFS_EN k 0 en).setFd F.LV_TICKk_OFS_OFS k 0 ofs

end Sys2Proof.Machine
end

