-- ==== Sys2Proof/Machine/FbSpeed.lean ====
section
/-!
DEFINITION. Measured position and speed of a feedback channel as they read at an instant (R364, R365, R383).
-/

namespace Sys2Proof.Machine

/-- Feedback channel `n`. -/
def State.fbChan (s : State) (n : Nat) : FbChan := Tab.get (fun _ => fbChanReset) s.fb.chans n

/-- The state with feedback channel `n` replaced. -/
def State.setFbChan (s : State) (n : Nat) (c : FbChan) : State :=
  { s with fb := { s.fb with chans := Tab.set (fun _ => fbChanReset) s.fb.chans n c } }

/-- The PERI cycle in which the module stands: 2 TIME ticks each. -/
def State.peri (s : State) : Nat := s.time.ticks / 2

/-- The speed word of a count change `e` over `t` ns (R365). -/
def State.fbSpeedWord (s : State) (n : Nat) (e : Int) (t : Nat) : Nat :=
  let sh := if s.flag F.FB_CFGn_ROT n then 24 else 16
  sat32 (roundDiv (e * (s.rg .FB_SCALEn n : Int) * 1000000000) (2 ^ sh * t))

/-- FB_SPDn as it reads now: between the edges of period mode its magnitude falls to one count over the time since the
last edge, once that exceeds the interval of R382 divided by m (R383). -/
def State.fbSpeed (s : State) (n : Nat) : Nat :=
  let v := s.rg .FB_SPDn n
  let c := s.fbChan n
  match c.edges with
  | (t, d) :: _ =>
    let tau := s.peri - t
    if s.fd F.FB_CFGn_MODE n ≠ 1 ∧ ¬ s.flag F.FB_STATn_CNT_MODE n ∧ ¬ s.flag F.FB_STATn_STILL n ∧ v ≠ 0 ∧
        0 < c.perM ∧ c.perT < tau * c.perM then
      s.fbSpeedWord n d (4 * tau)
    else v
  | [] => v

end Sys2Proof.Machine
end

