-- ==== Sys2Proof/Machine/Records.lean ====
section
/-!
DEFINITION. The cell-model records in spine SRAM (R16 to R23) and the schedule entries (R119, R120), as the blocks
read them.
-/

namespace Sys2Proof.Machine

/-- `n` bytes at byte `b` of a list of bytes, as a number. -/
def fieldAt (bs : List Byte) (b n : Nat) : Nat := ofLe ((bs.drop b).take n)

/-- The same as a signed number. -/
def signedAt (bs : List Byte) (b n : Nat) : Int := toSigned (8 * n) (fieldAt bs b n)

/-! ## Arm groups and axes -/

/-- The record of arm group `g` as it stands in spine SRAM (R17). -/
def State.agLive (s : State) (g : Nat) : List Byte := s.sramBytes (g * 64) 64

/-- The arm group record in the snapshot in force; the live one before a first snapshot (R25). -/
def State.agRec (s : State) (g : Nat) : List Byte :=
  match (s.ag g).snap with
  | some x => x.rec_
  | none => s.agLive g

/-- Fields of the arm group record (R17). -/
def agAxes (r : List Byte) : Nat := fieldAt r 1 1
def agCapsules (r : List Byte) : Nat := fieldAt r 2 1
def agPace (r : List Byte) : Bool := bit (fieldAt r 3 1) 0
def agFirst (r : List Byte) : Nat := fieldAt r 4 2
def agCredit (r : List Byte) : Nat := fieldAt r 6 1
def agLateLimit (r : List Byte) : Nat := fieldAt r 7 1
def agSeq (r : List Byte) : Nat := fieldAt r 8 2
def agPfsDecel (r : List Byte) : Nat := fieldAt r 52 4
def agModel (r : List Byte) : Nat := fieldAt r 56 4
def agTcpSpeed (r : List Byte) : Nat := fieldAt r 60 4

/-- The spine SRAM offset of axis record `a` (R16). -/
def axisAt (a : Nat) : Nat := 0x400 + a * 48

/-- The record of axis `a` as it stands in spine SRAM (R18). -/
def State.axLive (s : State) (a : Nat) : List Byte := s.sramBytes (axisAt a) 48

/-- Axis `i` of arm group `g`, from the snapshot in force. -/
def State.agAxis (s : State) (g i : Nat) : List Byte :=
  match (s.ag g).snap with
  | some x => (x.axes.drop (48 * i)).take 48
  | none => s.axLive (agFirst (s.agLive g) + i)

/-- Fields of the axis record (R18). -/
def axGroup (r : List Byte) : Nat := fieldAt r 2 1
def axProfiled (r : List Byte) : Bool := bit (fieldAt r 3 1) 0
def axRotary (r : List Byte) : Bool := bit (fieldAt r 3 1) 1
def axNode (r : List Byte) : Nat := fieldAt r 4 2
def axChannel (r : List Byte) : Nat := fieldAt r 6 1
def axPosMin (r : List Byte) : Int := signedAt r 8 4
def axPosMax (r : List Byte) : Int := signedAt r 12 4
def axVelMax (r : List Byte) : Nat := fieldAt r 16 4
def axAccMax (r : List Byte) : Nat := fieldAt r 20 4
def axJerkMax (r : List Byte) : Nat := fieldAt r 24 4
def axEffortMax (r : List Byte) : Nat := fieldAt r 28 4
def axDecHard (r : List Byte) : Nat := fieldAt r 32 4
def axFbSrc (r : List Byte) : Nat := fieldAt r 36 1
def axStep (r : List Byte) : Nat := fieldAt r 37 1
def axPosOffset (r : List Byte) : Int := signedAt r 40 4

/-- The axis numbers of arm group `g` by its record in force. -/
def State.agAxisNumbers (s : State) (g : Nat) : List Nat :=
  let r := s.agRec g
  (List.range (agAxes r)).map (agFirst r + ·)

/-- The drive nodes of arm group `g`, each once (R37). -/
def State.agNodes (s : State) (g : Nat) : List Nat :=
  ((List.range (agAxes (s.agRec g))).map (fun i => axNode (s.agAxis g i))).filter (· < 2048) |>.dedup

/-- The setpoint records of arm group `g`: node ids, and 2,048 + axis for its step-driven axes (R105, R106). -/
def State.agSetpoints (s : State) (g : Nat) : List Nat :=
  let r := s.agRec g
  ((List.range (agAxes r)).map (fun i =>
    let n := axNode (s.agAxis g i)
    if n = 0xFFFF then 2048 + agFirst r + i else n)).dedup

/-- The enabled arm groups. -/
def State.agsOn (s : State) : List Nat := (List.range 16).filter (fun g => s.agEnabled g)

/-- The enabled arm group that has axis `a` by its record in force. -/
def State.agOfAxis (s : State) (a : Nat) : Option Nat :=
  s.agsOn.find? (fun g => (s.agAxisNumbers g).contains a)

/-! ## Schedule modes (R119, R120) -/

/-- A schedule entry (R120). -/
structure SchedEntry where
  node : Nat
  port : Nat
  slot : Nat
  rate : Nat
  phase : Nat
  kind : Nat
  profile : Nat
  flags : Nat
  owner : Nat
  hops : Nat
  token : Nat
  deriving DecidableEq, Repr

/-- Entry `e` of mode `m`. -/
def State.schedEntry (s : State) (m e : Nat) : SchedEntry :=
  let w (k : Nat) := s.rg .KL_SCHEDm_Ww m (4 * e + k)
  { node := bits (w 0) 15 0, port := bits (w 0) 18 16, slot := bits (w 0) 31 24,
    rate := bits (w 1) 2 0, phase := bits (w 1) 7 4, kind := bits (w 1) 15 8, profile := bits (w 1) 23 16,
    flags := bits (w 1) 31 24, owner := bits (w 2) 7 0, hops := bits (w 2) 15 8, token := bits (w 2) 31 16 }

def SchedEntry.safe (e : SchedEntry) : Bool := bit e.flags 0
def SchedEntry.cold (e : SchedEntry) : Bool := bit e.flags 1
def SchedEntry.rank (e : SchedEntry) : Nat := bits e.flags 3 2
def SchedEntry.dlEn (e : SchedEntry) : Bool := bit e.flags 4
def SchedEntry.ulEn (e : SchedEntry) : Bool := bit e.flags 5

/-- The entries of mode `m`: entries 0 to LEN − 1 (R119). -/
def State.schedEntries (s : State) (m : Nat) : List SchedEntry :=
  (List.range (min 4096 (s.fd F.KL_MODE_STATm_LEN m))).map (fun e => s.schedEntry m e)

/-- The active mode's number, none while no mode is ACTIVE (R124). -/
def State.activeMode (s : State) : Option Nat := if s.kl.active then some (s.fd F.KL_MODE_SW_ACTIVE) else none

/-- The entries of the active mode. -/
def State.activeEntries (s : State) : List SchedEntry :=
  match s.activeMode with
  | some m => s.schedEntries m
  | none => []

/-- The entry of a node in the active mode. -/
def State.entryOf (s : State) (node : Nat) : Option SchedEntry :=
  s.activeEntries.find? (fun e => decide (e.node = node ∧ node ≠ 0xFFFF))

/-- An entry is served in a base cycle (R116). -/
def SchedEntry.served (e : SchedEntry) (n : Nat) : Bool := decide (n % 2 ^ e.rate = e.phase)

/-- Node `n` as the module knows it. -/
def State.node (s : State) (n : Nat) : KlNode := Tab.get (fun _ => klNodeReset) s.kl.nodes n

/-- The state with node `n` replaced. -/
def State.setNode (s : State) (n : Nat) (k : KlNode) : State :=
  { s with kl := { s.kl with nodes := Tab.set (fun _ => klNodeReset) s.kl.nodes n k } }

/-! ## Windows and slots (R113) -/

/-- The slot count of a port: by speed (0 2500BASE-X, 1 1000BASE-X) and BASE. -/
def slotCount (speed base : Nat) : Nat :=
  if speed = 0 then ([32, 64, 64, 64] : List Nat).getD base 64 else ([8, 16, 32, 64] : List Nat).getD base 64

/-- The slot pitch in ns. -/
def slotPitch (speed base : Nat) : Nat :=
  if speed = 0 then ([500, 500, 1000, 2000] : List Nat).getD base 2000 else 2000

/-- Starts of the uplink, event and guard windows, ns from the base-cycle start. -/
def uplinkStart (base : Nat) : Nat := 4000 * 2 ^ base
def eventStart (base : Nat) : Nat := 20000 * 2 ^ base
def guardStart (base : Nat) : Nat := 28000 * 2 ^ base

/-- The wire time of `n` bytes in units of 2^-8 ns: 3.2 ns a byte at 2500BASE-X, rounded up once, 8 ns at
1000BASE-X (R113). -/
def wireTime (speed n : Nat) : Nat := if speed = 0 then (n * 16 * 256 + 4) / 5 else n * 8 * 256

end Sys2Proof.Machine
end

