-- ==== Sys2Proof/Machine/Steps.lean ====
section
/-!
DEFINITION. The axis channels' commanded positions now (R325), and the step outputs that follow them: the steps emitted,
their timing and the levels of the two lines (R351 to R354).
-/

namespace Sys2Proof.Machine

/-! ## Reading the state -/

def State.axChan (s : State) (n : Nat) : AxChan := Tab.get (fun _ => axChanReset) s.ax.chans n
def State.setAxChan (s : State) (n : Nat) (c : AxChan) : State :=
  { s with ax := { s.ax with chans := Tab.set (fun _ => axChanReset) s.ax.chans n c } }
def State.stepOut (s : State) (j : Nat) : StepOut := Tab.get (fun _ => stepOutReset) s.ax.steps j
def State.setStepOut (s : State) (j : Nat) (o : StepOut) : State :=
  { s with ax := { s.ax with steps := Tab.set (fun _ => stepOutReset) s.ax.steps j o } }

/-- AX_STATn.STATE: 0 DISABLED, 1 IDLE, 2 MOVING, 3 STOPPING, 4 HOMING, 5 FAULT, 6 PLANNED. -/
def State.axState (s : State) (n : Nat) : Nat := s.fd F.AX_STATn_STATE n

/-- The step output of an axis record, if it names one. -/
def axStepOut (r : List Byte) : Option Nat := if axStep r < 32 then some (axStep r) else none

/-- An axis is driven by a step output (R18). -/
def axStepped (r : List Byte) : Bool := decide (axNode r = 0xFFFF)

/-- PG_GPIO of channel `n` is absent or reads high (R331, R354). -/
def State.pgHigh (s : State) (n : Nat) : Bool :=
  let g := s.fd F.AX_DRVn_PG_GPIO n
  decide (32 ≤ g) || bit s.ax.gpioIn g

/-- ENA_GPIO of channel `n`: high while the channel or its arm group is enabled, provided it is not in FAULT, and while the
output comes to rest after a stop of its arm group (R338, R354). Log 63 (DEDUCED, unsafe), 64 (DEDUCED, unsafe). -/
def State.driverOn (s : State) (n : Nat) : Bool :=
  decide (s.axState n ≠ 5) && (decide (s.axState n ≠ 0) || (s.axChan n).halting)

/-! ## Commanded positions (R325) -/

/-- The commanded positions of the start of this base cycle and of the next: before the profile tick of this base cycle
has run they stand one place on (R325). -/
def State.axSpan (s : State) (n : Nat) : Int × Int :=
  let c := s.axChan n
  if s.ax.tickBcn = some s.time.bcn then (c.p0, c.p1) else (c.p1, c.p2)

/-- The commanded position of a channel now, interpolated between two base-cycle starts (R325). -/
def State.axPosNow (s : State) (n : Nat) : Int :=
  let (a, b) := s.axSpan n
  let len := s.lenNs
  a + (b - a) * (min len (s.ctNs - s.time.bcStart) : Nat) / (len : Int)

/-! ## Step outputs (R351 to R354) -/

/-- A position as a microstep target: numerator of (commanded position − POS_OFFSET) × AX_SSCALEn over `stepOne`.
Log 63 (DEDUCED, unsafe). -/
def State.stepTarget (s : State) (n : Nat) (r : List Byte) (p : Int) : Int := (p - axPosOffset r) * (s.rg .AX_SSCALEn n : Int)

/-- One microstep in units of the target. -/
def stepOne (r : List Byte) : Int := 2 ^ (if axRotary r then 40 else 32)

/-- The steps that a target passes, from the position `pos` on: the position it has led to (R351). -/
def stepWant (one pos t : Int) : Int :=
  if (pos + 1) * one ≤ t then t / one else if t ≤ (pos - 1) * one then -((-t) / one) else pos

/-- The instant, in ns after the start of a span of `len` ns from target `a` to `b`, at which the target reaches the step
`q`, in whole PERI cycles; 0 where it had reached it before (R351). -/
def stepReach (one a b : Int) (len : Nat) (q : Int) : Nat :=
  if a = b then 0 else (((q * one - a) * len / (b - a)).toNat + 3) / 4 * 4

/-- A step output with its timing: STEP_W, DIR_SETUP and DIR_HOLD in ns (R352). -/
structure StepTime where
  w : Nat
  setup : Nat
  hold : Nat

/-- A step output and its position after the module has followed the target of a span up to `now`: the span runs from `a`
to `b` over `len` ns from `t0` on, all in ns of the time base. Each step's active edge falls where the target reaches the
step, or as soon after as the timing lets it, and no step is dropped (R351 to R353). Log 63 (DEDUCED, unsafe). -/
def StepOut.follow (o : StepOut) (x : StepTime) (one pos a b : Int) (t0 len now : Nat) : StepOut × Int :=
  let t := a + (b - a) * (min len (now - t0) : Nat) / (len : Int)
  let want := stepWant one pos t
  let k := (want - pos).natAbs
  if k = 0 ∨ now < t0 then (o, pos)
  else
    let down := decide (want < pos)
    let sg : Int := if down then -1 else 1
    let first := t0 + stepReach one a b len (pos + sg)
    let low := match o.edge with | some e => e + x.w + x.hold | none => first
    let dirAt := if o.down = down then o.dirAt else max first low
    if now < dirAt then (o, pos)
    else
      let o : StepOut := { o with down := down, dirAt := dirAt }
      let free := match o.edge with | some e => max (e + 2 * x.w) (dirAt + x.setup) | none => dirAt + x.setup
      let e0 := max first free
      if now < e0 then (o, pos)
      else
        let m := min k ((now - e0) / max 1 (2 * x.w) + 1)
        let last := max (t0 + stepReach one a b len (pos + sg * m)) (e0 + (m - 1) * (2 * x.w))
        ({ o with edge := some last }, pos + sg * m)

/-- The time base of the step outputs: ns since power-on reset, a TIME tick being 2 ns. -/
def State.tickNs (s : State) : Nat := 2 * s.time.ticks

/-- The timing of step output `j`. -/
def State.stepTime (s : State) (j : Nat) : StepTime :=
  { w := 4 * s.fd F.AX_STj_TIM_STEP_W j, setup := 4 * s.fd F.AX_STj_TIM_DIR_SETUP j, hold := 4 * s.fd F.AX_STj_TIM_DIR_HOLD j }

/-- Step output `j` is enabled and its driver is on with power good (R353, R354). -/
def State.stepRuns (s : State) (j n : Nat) : Bool := s.flag F.AX_STj_CTL_EN j && s.driverOn n && s.pgHigh n

/-- Step output `j` and its position, as the commanded position of channel `n` has led it over a span (p, q) of positions
that began at `t0`, up to `now`. Log 63 (DEDUCED, unsafe). -/
def State.stepAlong (s : State) (n j : Nat) (p q : Int) (t0 now : Nat) : StepOut × Int :=
  let r := s.axLive n
  let pos := toSigned 32 (s.rg .AX_STj_POS j)
  if ¬ s.stepRuns j n then (s.stepOut j, pos)
  else (s.stepOut j).follow (s.stepTime j) (stepOne r) pos (s.stepTarget n r p) (s.stepTarget n r q) t0 s.lenNs now

/-- The instant of the base-cycle start, in the time base of the step outputs. -/
def State.startNs (s : State) : Nat := s.tickNs - (s.ctNs - s.time.bcStart)

/-- Step output `j` and its position now, driven by channel `n`. Log 63 (DEDUCED, unsafe). -/
def State.stepNow (s : State) (n j : Nat) : StepOut × Int :=
  let (p, q) := s.axSpan n
  s.stepAlong n j p q s.startNs s.tickNs

/-- The channel that drives step output `j`. -/
def State.stepOwner (s : State) (j : Nat) : Option Nat :=
  (List.range 256).find? (fun n => s.driverOn n && axStepped (s.axLive n) && decide (axStepOut (s.axLive n) = some j))

/-- AX_STj_POS as it reads now: with the steps emitted since the state last held it (R351). -/
def State.stepView (s : State) (j : Nat) : Nat :=
  match s.stepOwner j with
  | some n => ofSigned 32 (s.stepNow n j).2
  | none => s.rg .AX_STj_POS j

/-- The levels of the STEP and DIR lines of output `j` now: a step is active for STEP_W, and STEP_INV and DIR_INV invert
the lines (R352). Log 63 (DEDUCED, unsafe). -/
def State.stepLine (s : State) (j : Nat) : Bool :=
  let o := match s.stepOwner j with | some n => (s.stepNow n j).1 | none => s.stepOut j
  (o.edge.any (fun e => decide (s.tickNs < e + (s.stepTime j).w))) != s.flag F.AX_STj_CTL_STEP_INV j
def State.dirLine (s : State) (j : Nat) : Bool :=
  let o := match s.stepOwner j with | some n => (s.stepNow n j).1 | none => s.stepOut j
  o.down != s.flag F.AX_STj_CTL_DIR_INV j

end Sys2Proof.Machine
end

