-- ==== Sys2Proof/Machine/Access.lean ====
section
/-!
DEFINITION. Access to the register window: who may write (R599), what a domain that is not ON answers (R518), bad
accesses (R5, R609), the _LO and _HI pairs (R9, R10, R611, R612), and what a read returns.
-/

namespace Sys2Proof.Machine

/-- The access level (R598, R599): 0 NONE, 1 SERVICE, 2 FULL. -/
def State.accessLevel (s : State) : Nat := if s.lc.state = 2 then s.lc.granted else 2

/-- The lifecycle lock that guards RWL fields is open: FULL access (R8, R599). Log 93 (DEDUCED, unsafe). -/
def State.lockOpen (s : State) : Bool := decide (s.accessLevel = 2)

/-- Under NONE the maintenance port writes only PW, Crust-domain SV and LC registers (R599). -/
def mntAlways (r : Reg) : Bool :=
  let off := r.row.base
  blockOf off = 0x0B || blockOf off = 0x0F || (blockOf off = 0x0C && decide (r.row.dom = .crust))

/-- The requester's port is there: the host and debug ports lie in PD_HST. A module held
in reset has none (R629). -/
def State.portUp (s : State) (q : Requester) : Bool :=
  !s.held && match q with
  | .host | .debug => s.domOn 24
  | _ => true

/-- The STATUS of an access (R589): 0x00 performed or bad, 0x07 not ON, 0x06 forbidden; 0xFF when the requester's
port is not there. -/
abbrev Status := Nat

/-- A write of a register by a requester, in the order: the port, the access level, the offset, the domain; then
`act` is the write itself. Log 93 (DEDUCED, unsafe). -/
def State.guardWrite (s : State) (q : Requester) (r : Reg) (i j : Nat) (act : State → State) : State × Status :=
  if ¬ s.portUp q then (s, 0xFF)
  else if q = .mnt ∧ s.accessLevel = 0 ∧ ¬ mntAlways r then (s, 0x06)
  else if q = .debug ∧ s.accessLevel ≠ 2 then (s, 0x06)
  else if ¬ (i < r.row.count ∧ j < r.row.count2) then (s.badAccess q true true (r.addr i j), 0x00)
  else if ¬ s.answers (r.domain i) then (s.offAccess q true (r.domain i) (r.addr i j), 0x07)
  else (act s, 0x00)

/-- The outcome of a command that is one register write. Log 93 (DEDUCED, unsafe). -/
def State.write (s : State) (q : Requester) (r : Reg) (i j : Nat) (act : State → State) :
    Host.Outcome State Fault Refusal :=
  .next (s.guardWrite q r i j act).1

/-! ## Pairs -/

/-- The _LO register of a writable pair's _HI register (R10). Log 92 (DEDUCED, unsafe). -/
def Reg.loOf : Reg → Option Reg
  | .TIM_CT_SET_HI => some .TIM_CT_SET_LO
  | .TIM_PT_INC_HI => some .TIM_PT_INC_LO
  | .TIM_PT_SET_HI => some .TIM_PT_SET_LO
  | .CAL_SET_HI => some .CAL_SET_LO
  | .KL_GADDR_HI => some .KL_GADDR_LO
  | .PW_WAKE_CT_HI => some .PW_WAKE_CT_LO
  | .HS_HEn_MAC_HI => some .HS_HEn_MAC_LO
  | _ => none

/-- The _LO registers of the writable pairs: their writes are held (R10). -/
def Reg.isHeldLo : Reg → Bool
  | .TIM_CT_SET_LO | .TIM_PT_INC_LO | .TIM_PT_SET_LO | .CAL_SET_LO | .KL_GADDR_LO | .PW_WAKE_CT_LO
  | .HS_HEn_MAC_LO => true
  | _ => false

/-- The registers a read of a _LO register latches for its requester (R9, R60, R83). -/
def Reg.companions : Reg → List Reg
  | .TIM_CT_NS_LO => [.TIM_CT_NS_HI, .TIM_CT_FRAC]
  | .TIM_PT_NS_LO => [.TIM_PT_NS_HI, .TIM_PT_FRAC]
  | .CAL_SEC_LO => [.CAL_SEC_HI, .CAL_SUBSEC, .CAL_BD0, .CAL_BD1]
  | .TIM_BCN_LO => [.TIM_BCN_HI]
  | .TIM_CT_INC_LO => [.TIM_CT_INC_HI]
  | .TIM_PT_INC_LO => [.TIM_PT_INC_HI]
  | .TIM_CAPn_CT_LO => [.TIM_CAPn_CT_HI]
  | .TIM_CAPn_PT_LO => [.TIM_CAPn_PT_HI]
  | .KL_GADDR_LO => [.KL_GADDR_HI]
  | .KL_MODE_SWB_LO => [.KL_MODE_SWB_HI]
  | .KN_PLAN_VF_LO => [.KN_PLAN_VF_HI]
  | .AX_CMPk_CT_LO => [.AX_CMPk_CT_HI]
  | .FB_IDXCT_LOn => [.FB_IDXCT_HIn]
  | .TH_PERS_LO => [.TH_PERS_HI]
  | .PW_WAKE_CT_LO => [.PW_WAKE_CT_HI]
  | .PW_LASTREF_CT_LO => [.PW_LASTREF_CT_HI]
  | .GLOBAL_UID_LO => [.GLOBAL_UID_HI]
  | .HS_HEn_MAC_LO => [.HS_HEn_MAC_HI]
  | _ => []

/-- The registers whose reads return a latched value. -/
def Reg.isCompanion : Reg → Bool
  | .TIM_CT_NS_HI | .TIM_CT_FRAC | .TIM_PT_NS_HI | .TIM_PT_FRAC | .CAL_SEC_HI | .CAL_SUBSEC | .CAL_BD0
  | .CAL_BD1 | .TIM_BCN_HI | .TIM_CT_INC_HI | .TIM_PT_INC_HI | .TIM_CAPn_CT_HI | .TIM_CAPn_PT_HI
  | .KL_GADDR_HI | .KL_MODE_SWB_HI | .KN_PLAN_VF_HI | .AX_CMPk_CT_HI | .FB_IDXCT_HIn | .TH_PERS_HI
  | .PW_WAKE_CT_HI | .PW_LASTREF_CT_HI | .GLOBAL_UID_HI | .HS_HEn_MAC_HI => true
  | _ => false

/-- The key of a requester's latch or hold for the register at an offset (R611). Log 92 (DEDUCED, unsafe). -/
def latchKey (q : Requester) (off : Nat) : Nat := q.code * 2 ^ 26 + off

/-- The key under which a core's read of CYCLE_LO latches CYCLE_HI (R9). -/
def cycleKey (n : Nat) : Nat := latchKey (.core n) 0x3FFFFFC

/-- The requester's _LO write is held (R10). Log 92 (DEDUCED, unsafe). -/
def State.holdLo (s : State) (q : Requester) (r : Reg) (i : Nat) (v : Nat) : State :=
  { s with holds := Tab.set (fun _ => none) s.holds (latchKey q (r.addr i 0)) (some v) }

/-- The _LO half that a write of _HI applies: the requester's held value, else the present _LO; the hold is spent
(R612). Log 92 (DEDUCED, unsafe). -/
def State.takeLo (s : State) (q : Requester) (lo : Reg) (i : Nat) : Nat × State :=
  let k := latchKey q (lo.addr i 0)
  let v := (Tab.get (fun _ => none) s.holds k).getD (s.rg lo i)
  (v, { s with holds := Tab.set (fun _ => none) s.holds k none })

/-! ## The calendar's broken-down fields (R81) -/

/-- Days of the months of a year. -/
def monthDays (leap : Bool) : List Nat := [31, if leap then 29 else 28, 31, 30, 31, 30, 31, 31, 30, 31, 30, 31]

/-- Gregorian leap year. -/
def isLeap (y : Nat) : Bool := (y % 4 = 0 && y % 100 ≠ 0) || y % 400 = 0

/-- Month and day of a day number within a year. -/
def monthOf : Nat → Nat → List Nat → Nat × Nat
  | m, d, [] => (m, d + 1)
  | m, d, l :: ls => if d < l then (m, d + 1) else monthOf (m + 1) (d - l) ls

/-- Year and day within the year of a day number since 1970-01-01, counting years from `y`; `fuel` bounds the
years within one cycle of 400. -/
def yearOf : Nat → Nat → Nat → Nat × Nat
  | 0, y, d => (y, d)
  | fuel + 1, y, d =>
    let n := if isLeap y then 366 else 365
    if d < n then (y, d) else yearOf fuel (y + 1) (d - n)

/-- Year, month and day of a day number since 1970-01-01 in the proleptic Gregorian calendar (R81). -/
def civil (days : Nat) : Nat × Nat × Nat :=
  let (y, d) := yearOf 400 1970 (days % 146097)
  let (m, dd) := monthOf 1 d (monthDays (isLeap y))
  (y + 400 * (days / 146097), m, dd)

/-- CAL_BD0: year, month, day and ISO weekday; 1970-01-01 is a Thursday. Log 11 (DESIGN CHOICE, unsafe). -/
def CalState.bd0 (c : CalState) : Nat :=
  let days := c.sec / 86400
  let (y, m, d) := civil days
  y % 2 ^ 16 * 2 ^ 16 + m * 2 ^ 8 + d * 2 ^ 3 + ((days + 3) % 7 + 1)

/-- CAL_BD1: hour, minute and second; the second reads 60 while an inserted leap second runs (R88).
Log 11 (DESIGN CHOICE, unsafe). -/
def CalState.bd1 (c : CalState) : Nat :=
  let t := c.sec % 86400
  b2n c.leapNow * 2 ^ 24 + t / 3600 * 2 ^ 16 + t / 60 % 60 * 2 ^ 8 + (if c.leapNow then 60 else t % 60)

/-! ## What a read returns -/

/-- The STATE code of VC_STATn. -/
def CoreRun.code : CoreRun → Nat
  | .idle => 0 | .run => 1 | .wait => 2 | .halted => 3 | .stopped => 4

/-- The logical core a physical core serves: that of the instance in service, 0xFF for none (VC_STATn.LOGICAL).
Log 100 (DEDUCED, unsafe). -/
def Core.logical (c : Core) : Nat :=
  match c.svc with
  | some v => v.lcore
  | none => 0xFF

/-- VC_STATn as the core shows it. Log 11 (DESIGN CHOICE, unsafe), 100 (DEDUCED, unsafe). -/
def State.vcStat (s : State) (n : Nat) : Nat :=
  let c := s.core n
  c.excCnt % 256 * 2 ^ 24 + c.logical % 256 * 2 ^ 16 + b2n c.handler * 2 ^ 8 + c.rrb / 4 % 16 * 2 ^ 4 + c.run.code

/-- Minutes of reopened access left (LC_STATE.REMAIN, R603), rounded up. Log 11 (DESIGN CHOICE, unsafe). -/
def State.lcRemain (s : State) : Nat :=
  if s.lc.granted = 0 then 0
  else min 1023 ((secTicks 28800 - (s.time.ticks - s.lc.authAt) + secTicks 60 - 1) / secTicks 60)

/-- The value of a register: from its one home in the state, for the registers that show state held elsewhere.
Log 11 (DESIGN CHOICE, unsafe). -/
def State.view (s : State) (r : Reg) (i j : Nat) : Nat :=
  let v := s.rg r i j
  match r with
  | .TIM_CT_NS_LO => s.ctNs % 2 ^ 32
  | .TIM_CT_NS_HI => s.ctNs / 2 ^ 32
  | .TIM_CT_FRAC => s.time.ct % 2 ^ 32
  | .TIM_PT_NS_LO => s.ptNs % 2 ^ 32
  | .TIM_PT_NS_HI => s.ptNs / 2 ^ 32
  | .TIM_PT_FRAC => s.time.pt % 2 ^ 32
  | .TIM_CT_INC_LO => s.time.ctInc % 2 ^ 32
  | .TIM_CT_INC_HI => s.time.ctInc / 2 ^ 32
  | .TIM_CYCLE => setBits v 3 0 s.phase
  | .TIM_BCN_LO => s.time.bcn % 2 ^ 32
  | .TIM_BCN_HI => s.time.bcn / 2 ^ 32 % 2 ^ 32
  | .CAL_SEC_LO => s.cal.sec % 2 ^ 32
  | .CAL_SEC_HI => s.cal.sec / 2 ^ 32
  | .CAL_SUBSEC => s.cal.sub
  | .CAL_BD0 => s.cal.bd0
  | .CAL_BD1 => s.cal.bd1
  | .VC_STATn => s.vcStat i
  | .VC_PCn => (s.core i).pc.toNat
  | .VC_EXCn => (s.core i).dfCnt % 256 * 2 ^ 24 + (s.core i).lastCause % 256
  | .PW_KEEP_CTL => setBits v 8 0 (Tab.get (fun _ => []) s.pw.keep (bits v 20 16)).length
  | .FB_SPDn => s.fbSpeed i
  | .AX_STj_POS => s.stepView i
  | .PW_VOLTi_STAT => setBits v 25 16 (s.islandMv i)
  | .SV_RETIRE => setBits v 17 0 s.sv.retired
  | .SV_HEALTHs => setBits v 1 1 (b2n (bit s.sv.retired i))
  | .SV_IMG_CTL => setBits v 8 8 s.sv.imgActive
  | .SV_MIG_STAT => setBits v 19 4 (match s.sv.mig with | some m => min 0xFFFF (m.waiting s.time.ticks).length | none => 0)
  | .SV_JNL_HEAD => s.jnl.seq
  | .HS_IMG_STAT => setBits v 5 4 s.sv.imgValid
  | .LC_STATE => setBits (setBits (setBits v 15 6 s.lcRemain) 5 4 s.accessLevel) 1 0 s.lc.state
  | .KL_TIME_CHAIN => setBits v 1 0 s.ch.strap
  | _ => v

/-- The bits of a register a read returns: WO fields and reserved bits read 0 (R6). Log 10 (DESIGN CHOICE, unsafe). -/
def Reg.readMask (r : Reg) : Nat := r.row.ro ||| r.row.rw ||| r.row.w1c

/-- A read of a register: the value, and the state with the latches the read leaves (R9, R60, R83, R612).
Log 11 (DESIGN CHOICE, unsafe). -/
def State.readReg (s : State) (q : Requester) (r : Reg) (i j : Nat) : Nat × State :=
  let cur (c : Reg) : Nat := s.view c i j &&& c.readMask
  let v := if r.isCompanion then (Tab.get (fun _ => none) s.latches (latchKey q (r.addr i j))).getD (cur r)
           else cur r
  let l := r.companions.foldl (fun l c =>
    Tab.set (fun _ => none) l (latchKey q (c.addr i j)) (some (cur c))) s.latches
  (v, { s with latches := l })

/-- A read of a BAR0 offset of the given width in bytes by a requester: the value, the STATUS and the state. Host
reads of a domain that is not ON see all ones, the other requesters 0 (R518); a bad read returns 0 (R5).
Log 55 (DESIGN CHOICE, safe). -/
def State.busRead (s : State) (q : Requester) (off width : Nat) : Nat × Status × State :=
  if ¬ s.portUp q then (0, 0xFF, s)
  else if q = .debug ∧ s.accessLevel = 0 then (0, 0x06, s)
  else if width ≠ 4 ∨ off % 4 ≠ 0 then (0, 0x00, s.badAccess q false false off)
  else match findReg off with
    | none => (0, 0x00, s.badAccess q false true off)
    | some (r, i, j) =>
      if ¬ s.answers (r.domain i) then
        (if q = .host then 0xFFFFFFFF else 0, 0x07, s.offAccess q false (r.domain i) off)
      else
        let (v, s) := s.readReg q r i j
        (v, 0x00, s)

/-! ## The plain write of R6 -/

/-- The write of a register by the access types alone: RW bits are set, W1C flags written 1 are cleared, but for those
that an event has set in the same TIME tick, the other bits stay (R6, R7).
Log 93 (DEDUCED, unsafe), 115 (DEDUCED, unsafe). -/
def State.plainWrite (s : State) (r : Reg) (i j : Nat) (v : Nat) : State :=
  let old := s.rg r i j
  let rw := r.row.rw
  let won := s.time.raised.foldl (fun m e => if e.1 = r.addr i j then m ||| 2 ^ e.2 else m) 0
  let clr := v &&& r.row.w1c &&& (0xFFFFFFFF ^^^ won)
  s.setRg r i j (((old &&& (0xFFFFFFFF ^^^ rw)) &&& (0xFFFFFFFF ^^^ clr)) ||| (v &&& rw))

/-- A plain write that notes which of the bits of `mask` it has cleared, for an event of the same TIME tick
(R7, R74, R584). -/
def State.clearWrite (s : State) (r : Reg) (i j v mask : Nat) : State :=
  let t := s.plainWrite r i j v
  let gone := (s.rg r i j &&& mask) &&& (0xFFFFFFFF ^^^ t.rg r i j)
  { t with time := { t.time with cleared := (bitIndices gone 32).map (fun b => (r.addr i j, b)) ++ t.time.cleared } }

/-- A field keeps its value in a write: the write leaves it as the field reads (R648). -/
def State.keeps (s : State) (f : Field) (i j v : Nat) : Bool := decide (f.of v = bits (s.view f.reg i j) f.hi f.lo)

end Sys2Proof.Machine
end

