-- ==== Sys2Proof/Machine/Lanes.lean ====
section
/-!
DEFINITION. The arithmetic of a Kneader cluster (R249, R251 to R256, R261, R262): classes, lanes with 72-bit accumulators,
narrowing with the result check, and the divide and square-root units; vectors, quaternions and frames built from them.
A value is the rational number its word stands for. The spec names the classes of the quantities of a kernel but not the
steps between them: one accumulation gives each component of each quantity named here (assumption 50).
-/

namespace Sys2Proof.Machine

/-! ## Words and classes -/

/-- The value of a word of a class with FRAC `f` (R251). -/
def wordVal (f : Nat) (w : Int) : ℚ := (w : ℚ) / (2 ^ f : Nat)

/-- A value rounded half to even to a class with FRAC `f` (R253). -/
def valWord (f : Nat) (q : ℚ) : Int :=
  let x := q * (2 ^ f : Nat)
  roundDiv x.num x.den

/-- FRAC of classes 0 to 12 (R252). -/
def classFrac (c : Nat) : Nat := [16, 24, 16, 16, 16, 16, 16, 16, 30, 16, 16, 16, 16].getD c 16

/-- A trip of the range guard in a computation: the class and the word where the spec names them (R256, R262). -/
structure Trap where
  cls : Option Nat
  divsqrt : Bool
  acc : Bool
  value : Option Int
  deriving DecidableEq, Repr

/-- A computation of a cluster: a value, or the first trip. -/
abbrev Calc (α : Type) : Type := Except Trap α

/-- The lanes of a cluster as a descriptor finds them: the range table of classes 0 to 12, and for a plan that of classes 16
to 63 with FRAC, EN, MIN and MAX (R252, R257). Where the spec gives the values of a computation no class, they stay exact. -/
structure Lanes where
  bounds : List (Int × Int)
  exact : Bool
  plan : List (Nat × Bool × Int × Int)
  deriving DecidableEq, Repr

/-- A value trips the guard of a class (R256). -/
def knTrips (bounds : List (Int × Int)) (c : Nat) (v : Int) : Bool :=
  let b := bounds.getD c (-(2 ^ 31), 2 ^ 31 - 1)
  decide (v < b.1 ∨ b.2 < v ∨ v < -(2 ^ 31) ∨ 2 ^ 31 ≤ v)

/-- A word of class `c`, with the result check (R256). -/
def Lanes.check (x : Lanes) (c : Nat) (w : Int) : Calc ℚ :=
  if knTrips x.bounds c w then .error { cls := some c, divsqrt := false, acc := false, value := some w }
  else .ok (wordVal (classFrac c) w)

/-- A word of kind `v` of the plan program's variables: its class is one of 16 to 63, with the FRAC of the range table; it
trips where it does not fit 32 bits, and with EN where it lies outside MIN to MAX (R252, R256).
Log 101 (DESIGN CHOICE, unsafe). -/
def Lanes.planWord (x : Lanes) (v : Nat) (q : ℚ) : Calc ℚ :=
  let c := Config.planClass v % 48
  let (f, en, lo, hi) := x.plan.getD c (16, false, 0, 0)
  let w := valWord f q
  if w < -(2 ^ 31) ∨ 2 ^ 31 ≤ w ∨ (en = true ∧ (w < lo ∨ hi < w)) then
    .error { cls := some (16 + c), divsqrt := false, acc := false, value := some w }
  else .ok (wordVal f w)

/-- The least word above 0 of such a variable. -/
def Lanes.planLeast (x : Lanes) (v : Nat) : ℚ := wordVal (x.plan.getD (Config.planClass v % 48) (16, false, 0, 0)).1 1

/-- A lane narrows its accumulator to a word of class `c` (R253). Log 50 (DEDUCED, unsafe). -/
def Lanes.narrow (x : Lanes) (c : Nat) (q : ℚ) : Calc ℚ :=
  if x.exact then .ok q else x.check c (valWord (classFrac c) q)

/-- One product into an accumulator of `g` fraction bits: exact within 72 bits; beyond them it saturates and trips with
ACC set (R249, R253, R254). Log 50 (DEDUCED, unsafe). -/
def Lanes.mac (x : Lanes) (g c : Nat) (t : ℚ) (e : ℚ × ℚ) : Calc ℚ :=
  let v := t + e.1 * e.2
  let w := v * (2 ^ g : Nat)
  if x.exact || decide (-(2 ^ 71 : ℚ) ≤ w ∧ w ≤ 2 ^ 71 - 1) then .ok v
  else .error { cls := some c, divsqrt := false, acc := true, value := some (if 0 < v then 2 ^ 31 - 1 else -(2 ^ 31)) }

/-- A sum of products, accumulated at `g` fraction bits and narrowed to class `c`. Log 50 (DEDUCED, unsafe). -/
def Lanes.dot (x : Lanes) (g c : Nat) (l : List (ℚ × ℚ)) : Calc ℚ := do
  x.narrow c (← l.foldlM (x.mac g c) 0)

/-! ## Divide and square-root units (R261, R262) -/

/-- The trip of a unit whose operand is out of its domain. -/
def divTrap (c : Option Nat) (w : Option Int) : Trap := { cls := c, divsqrt := true, acc := false, value := w }

/-- The word nearest to the square root of a value that is not negative, half to even. -/
def rootWord (f : Nat) (a : ℚ) : Int :=
  let y := a * (4 ^ (f + 1) : Nat)
  let r := rootBelow 2 (y.num.toNat / y.den) 96 0
  if r % 2 = 0 then (r / 2 : Nat)
  else if (r * r * y.den : Nat) = y.num.toNat ∧ r / 2 % 2 = 0 then (r / 2 : Nat)
  else (r / 2 + 1 : Nat)

/-- DIV and RECIP. Log 50 (DEDUCED, unsafe). -/
def Lanes.div (x : Lanes) (c : Nat) (a b : ℚ) : Calc ℚ :=
  if b = 0 then .error (divTrap (some c) (some 0)) else x.check c (valWord (classFrac c) (a / b))
def Lanes.recip (x : Lanes) (c : Nat) (b : ℚ) : Calc ℚ := x.div c 1 b

/-- SQRT, and RSQRT of an operand with FRAC `f`. -/
def Lanes.sqrt (x : Lanes) (f c : Nat) (a : ℚ) : Calc ℚ :=
  if a < 0 then .error (divTrap (some c) (some (valWord f a))) else x.check c (rootWord (classFrac c) a)
def Lanes.rsqrt (x : Lanes) (f c : Nat) (a : ℚ) : Calc ℚ :=
  if a ≤ 0 then .error (divTrap (some c) (some (valWord f a))) else x.check c (rootWord (classFrac c) (1 / a))

/-! ## Cosine and sine -/

/-- The unit of the fixed-point series: far finer than any class. -/
def trigOne : Int := 2 ^ 96

/-- The series of cosine (`a` 0) or of sine over its argument (`a` 1), from term `k` on; `u` is the square of the argument. -/
def trigSeries (u : Int) (a : Nat) : Nat → Nat → Int
  | 0, _ => trigOne
  | n + 1, k => trigOne - u * trigSeries u a n (k + 1) / (trigOne * ((2 * k + 1 + a) * (2 * k + 2 + a) : Nat))

/-- Cosine and sine of twice an angle, `n` times. -/
def trigDouble : Nat → Int × Int → Int × Int
  | 0, e => e
  | n + 1, (c, s) => trigDouble n ((c * c - s * s) / trigOne, 2 * c * s / trigOne)

/-- Cosine and sine of an angle of at most 64 rad, to better than 2^-64 (R267). Log 50 (DEDUCED, unsafe). -/
def cosSin (a : ℚ) : ℚ × ℚ :=
  let y := a * (2 ^ 86 : Nat)
  let t := y.num / y.den
  let u := t * t / trigOne
  let e := trigDouble 10 (trigSeries u 0 16 0, t * trigSeries u 1 16 0 / trigOne)
  ((e.1 : ℚ) / trigOne, (e.2 : ℚ) / trigOne)

/-! ## Vectors -/

/-- A vector of three components. -/
structure V3 where
  x : ℚ
  y : ℚ
  z : ℚ
  deriving DecidableEq, Repr

def V3.zero : V3 := ⟨0, 0, 0⟩
def V3.add (a b : V3) : V3 := ⟨a.x + b.x, a.y + b.y, a.z + b.z⟩
def V3.sub (a b : V3) : V3 := ⟨a.x - b.x, a.y - b.y, a.z - b.z⟩
def V3.scale (k : ℚ) (a : V3) : V3 := ⟨k * a.x, k * a.y, k * a.z⟩
def V3.dot (a b : V3) : ℚ := a.x * b.x + a.y * b.y + a.z * b.z
def V3.cross (a b : V3) : V3 := ⟨a.y * b.z - a.z * b.y, a.z * b.x - a.x * b.z, a.x * b.y - a.y * b.x⟩
def V3.list (a : V3) : List ℚ := [a.x, a.y, a.z]

/-- A vector in class `c`: a sum of scaled vectors and of cross products, one accumulation for each component. -/
def Lanes.vec (x : Lanes) (g c : Nat) (scaled : List (V3 × ℚ)) (cross : List (V3 × V3)) : Calc V3 := do
  let a ← x.dot g c (scaled.map (fun e => (e.1.x, e.2)) ++ cross.flatMap (fun e => [(e.1.y, e.2.z), (-e.1.z, e.2.y)]))
  let b ← x.dot g c (scaled.map (fun e => (e.1.y, e.2)) ++ cross.flatMap (fun e => [(e.1.z, e.2.x), (-e.1.x, e.2.z)]))
  let d ← x.dot g c (scaled.map (fun e => (e.1.z, e.2)) ++ cross.flatMap (fun e => [(e.1.x, e.2.y), (-e.1.y, e.2.x)]))
  .ok ⟨a, b, d⟩

/-- The length of a vector in class `c`. Its square has no class: the root of the exact sum is rounded. -/
def Lanes.length (x : Lanes) (c : Nat) (v : V3) : Calc ℚ := x.check c (rootWord (classFrac c) (v.dot v))

/-- The unit vector along a vector that is not zero, class UNIT. -/
def Lanes.unitVec (x : Lanes) (v : V3) : Calc V3 := do
  let one (q : ℚ) : Calc ℚ :=
    let w := rootWord 30 (q * q / v.dot v)
    x.check 8 (if q < 0 then -w else w)
  .ok ⟨← one v.x, ← one v.y, ← one v.z⟩

/-! ## Quaternions and frames -/

/-- A quaternion w, x, y, z (R15). -/
structure Quat where
  w : ℚ
  v : V3
  deriving DecidableEq, Repr

def Quat.one : Quat := ⟨1, V3.zero⟩
def Quat.conj (a : Quat) : Quat := ⟨a.w, a.v.scale (-1)⟩
def Quat.neg (a : Quat) : Quat := ⟨-a.w, a.v.scale (-1)⟩

/-- The quaternion as it is put out: w ≥ 0 (R268). -/
def Quat.out (q : Quat) : Quat := if q.w < 0 then q.neg else q
def Quat.list (q : Quat) : List ℚ := q.w :: q.v.list

/-- A product of quaternions, class UNIT. -/
def Lanes.qmul (x : Lanes) (a b : Quat) : Calc Quat := do
  let w ← x.dot 60 8 [(a.w, b.w), (-a.v.x, b.v.x), (-a.v.y, b.v.y), (-a.v.z, b.v.z)]
  .ok ⟨w, ← x.vec 60 8 [(b.v, a.w), (a.v, b.w)] [(a.v, b.v)]⟩

/-- A quaternion brought to norm 1 by RSQRT (R261, R268). -/
def Lanes.unit (x : Lanes) (q : Quat) : Calc Quat := do
  let k ← x.rsqrt 30 8 (← x.dot 60 8 (q.list.map (fun c => (c, c))))
  .ok ⟨← x.dot 60 8 [(q.w, k)], ← x.vec 60 8 [(q.v, k)] []⟩

/-- A rotation, as its three columns. -/
structure Rot where
  a : V3
  b : V3
  c : V3
  deriving DecidableEq, Repr

/-- The rotation of a unit quaternion, its components of class UNIT. -/
def Lanes.rot (x : Lanes) (q : Quat) : Calc Rot := do
  let ⟨w, u⟩ := q
  let sum (one : ℚ) (l : List (ℚ × ℚ)) : Calc ℚ := x.dot 60 8 ((one, 1) :: l ++ l)
  .ok ⟨⟨← sum 1 [(-u.y, u.y), (-u.z, u.z)], ← sum 0 [(u.x, u.y), (w, u.z)], ← sum 0 [(u.x, u.z), (-w, u.y)]⟩,
    ⟨← sum 0 [(u.x, u.y), (-w, u.z)], ← sum 1 [(-u.x, u.x), (-u.z, u.z)], ← sum 0 [(u.y, u.z), (w, u.x)]⟩,
    ⟨← sum 0 [(u.x, u.z), (w, u.y)], ← sum 0 [(u.y, u.z), (-w, u.x)], ← sum 1 [(-u.x, u.x), (-u.y, u.y)]⟩⟩

/-- `o` and a vector turned by a rotation, in class `c`. -/
def Lanes.turn (x : Lanes) (g c : Nat) (m : Rot) (o u : V3) : Calc V3 :=
  x.vec g c [(o, 1), (m.a, u.x), (m.b, u.y), (m.c, u.z)] []

/-- A vector turned back by a rotation, in class `c`. -/
def Lanes.turnBack (x : Lanes) (g c : Nat) (m : Rot) (u : V3) : Calc V3 := do
  let d (v : V3) : Calc ℚ := x.dot g c [(v.x, u.x), (v.y, u.y), (v.z, u.z)]
  .ok ⟨← d m.a, ← d m.b, ← d m.c⟩

/-- A frame: its origin, its orientation, and the rotation of that. -/
structure Pose where
  p : V3
  r : Quat
  m : Rot
  deriving DecidableEq, Repr

/-- The frame at `p` with orientation `r`, which is brought to norm 1. -/
def Lanes.pose (x : Lanes) (p : V3) (r : Quat) : Calc Pose := do
  let r ← x.unit r
  .ok ⟨p, r, ← x.rot r⟩

/-- A frame composed with a fixed transform. -/
def Lanes.comp (x : Lanes) (a : Pose) (p : V3) (r : Quat) : Calc Pose := do
  x.pose (← x.turn 46 0 a.m a.p p) (← x.qmul a.r r)

/-- A point of a frame, in the cell frame. -/
def Lanes.point (x : Lanes) (a : Pose) (u : V3) : Calc V3 := x.turn 46 0 a.m a.p u

end Sys2Proof.Machine
end

