-- ==== Sys2Proof/Machine/Profile.lean ====
section
/-!
DEFINITION. The profile generator of the AX block (R329, R332 to R334, R340): the fastest profile under the limits of a
move, a stop, and the two speeds of a homing run, as pieces of constant jerk. Positions are in LSBs of the axis's format,
time is in seconds. A root is cut to 2^-32 (assumption 62); everything else is exact.
-/

namespace Sys2Proof.Machine

/-- The greatest square of step 2^-32 below a value. Log 114 (DEDUCED, unsafe). -/
def rootDown (q : ℚ) : ℚ :=
  let y := q * (4 ^ 32 : Nat)
  (rootBelow 2 (y.num.toNat / y.den) 96 0 : Nat) / (2 ^ 32 : Nat)

/-- The greatest `v` of `n` bits that a downward closed condition allows. Log 114 (DEDUCED, unsafe). -/
def highest (ok : Nat → Bool) : Nat → Nat → Nat
  | 0, v => v
  | n + 1, v => highest ok n (if ok (v + 2 ^ n) then v + 2 ^ n else v)

/-- The point `t` into a piece. -/
def AxSeg.at_ (g : AxSeg) (m : AxPoint) (t : ℚ) : AxPoint :=
  { p := m.p + m.v * t + g.acc * t * t / 2 + g.jerk * t * t * t / 6,
    v := m.v + g.acc * t + g.jerk * t * t / 2,
    a := g.acc + g.jerk * t }

/-- The point `t` into a list of pieces; after the last one the speed stays. -/
def pointAt : List AxSeg → AxPoint → ℚ → AxPoint
  | [], m, t => { p := m.p + m.v * t, v := m.v, a := 0 }
  | g :: l, m, t => if t < g.time then g.at_ m t else pointAt l (g.at_ m g.time) (t - g.time)

def segsTime (l : List AxSeg) : ℚ := (l.map (·.time)).sum
def segsLength (l : List AxSeg) (m : AxPoint) : ℚ := (pointAt l m (segsTime l)).p - m.p

/-- The change from speed `v` and acceleration `a` to speed `w` and acceleration 0 in the shortest time, at most `up`
upward and `down` downward, with jerk `j` (0: infinite). -/
def ramp (v a w up down j : ℚ) : List AxSeg :=
  if j = 0 then
    let lim := if v < w then up else down
    if v = w ∨ lim = 0 then [] else [{ time := |w - v| / lim, acc := if v < w then lim else -lim, jerk := 0 }]
  else
    let settled := v + a * |a| / (2 * j)
    if w = settled then (if a = 0 then [] else [{ time := |a| / j, acc := a, jerk := if 0 < a then -j else j }])
    else
      let sg : ℚ := if settled < w then 1 else -1
      let lim := if settled < w then up else down
      let b := sg * a
      let rise := sg * (w - v)
      let peak := min lim (rootDown (j * rise + b * b / 2))
      let t1 := |peak - b| / j
      let left := rise - (b + peak) / 2 * t1 - peak * peak / (2 * j)
      if peak = 0 then []
      else [{ time := t1, acc := a, jerk := if b < peak then sg * j else -(sg * j) },
            { time := max 0 (left / peak), acc := sg * peak, jerk := 0 },
            { time := peak / j, acc := sg * peak, jerk := -(sg * j) }]

/-- The limits of a move: speed, acceleration, deceleration, jerk, and the axis hard deceleration limit. -/
structure AxLimits where
  vel : ℚ
  acc : ℚ
  dec : ℚ
  jerk : ℚ
  hard : ℚ

/-- The pieces that bring a positive motion to rest at deceleration `d`. -/
def AxLimits.stop (x : AxLimits) (m : AxPoint) (d : ℚ) : List AxSeg := ramp m.v m.a 0 d d x.jerk

/-- The pieces up to the greatest speed `vp`, and from it to rest. -/
def AxLimits.legs (x : AxLimits) (m : AxPoint) (vp : ℚ) : List AxSeg × List AxSeg :=
  (ramp m.v m.a vp x.acc x.dec x.jerk, ramp vp 0 0 x.dec x.dec x.jerk)

/-- The pieces by way of the greatest speed `vp` that cover `rem`. -/
def AxLimits.through (x : AxLimits) (m : AxPoint) (rem vp : ℚ) : List AxSeg :=
  let (l, r) := x.legs m vp
  let left := rem - segsLength l m - segsLength r { p := 0, v := vp, a := 0 }
  l ++ (if 0 < left ∧ 0 < vp then [{ time := left / vp, acc := 0, jerk := 0 }] else []) ++ r

/-- A stop at the deceleration that begins after the jerk has lifted the present deceleration for a time `t`.
Log 114 (DEDUCED, unsafe). -/
def AxLimits.later (x : AxLimits) (m : AxPoint) (t : ℚ) : List AxSeg :=
  let g : AxSeg := { time := t, acc := m.a, jerk := x.jerk }
  g :: x.stop (g.at_ m t) x.dec

/-- The fastest profile over a remaining distance in the positive direction (R329), and whether the deceleration cannot
cover it: then it stops exactly at the target at the deceleration needed (R333). A motion that decelerates already, and can
stop later, first eases its deceleration. Log 114 (DEDUCED, unsafe). -/
def AxLimits.move (x : AxLimits) (m : AxPoint) (rem : ℚ) : List AxSeg × Bool :=
  let length (vp : ℚ) : ℚ := segsLength (x.legs m vp).1 m + segsLength (x.legs m vp).2 { p := 0, v := vp, a := 0 }
  if segsLength (x.stop m x.dec) m ≤ rem + 1 / 4096 then
    let ease := if x.jerk = 0 then 0 else -m.a / x.jerk
    if 0 < ease ∧ rem < segsLength (x.later m ease) m then
      let t (i : Nat) : ℚ := ease * i / (2 ^ 40 : Nat)
      (x.later m (t (highest (fun i => decide (segsLength (x.later m (t i)) m ≤ rem)) 40 0)), false)
    else if length x.vel ≤ rem then (x.through m rem x.vel, false)
    else
      let vp := x.vel * (highest (fun i => decide (length (x.vel * i / (2 ^ 40 : Nat)) ≤ rem)) 40 0 : Nat) / (2 ^ 40 : Nat)
      (if vp = 0 then x.stop m x.dec else x.through m rem vp, false)
  else
    let dec (i : Nat) : ℚ := x.dec + (x.hard - x.dec) * i / (2 ^ 40 : Nat)
    let short (i : Nat) : Bool := decide (rem + 1 / 4096 < segsLength (x.stop m (dec i)) m)
    (x.stop m (dec (highest short 40 0 + 1)), true)

/-- The greatest deceleration of a list of pieces in the positive direction (R333). -/
def peakDec (l : List AxSeg) : ℚ := l.foldl (fun v g => max v (max (-g.acc) (-(g.acc + g.jerk * g.time)))) 0

/-- A motion seen in the other direction. -/
def AxPoint.flip (m : AxPoint) : AxPoint := { p := -m.p, v := -m.v, a := -m.a }
def flipSegs (l : List AxSeg) : List AxSeg := l.map (fun g => { g with acc := -g.acc, jerk := -g.jerk })

/-- The pieces of a move to a target, its peak deceleration, and whether that had to exceed the one given (R333). -/
def AxLimits.moveTo (x : AxLimits) (m : AxPoint) (target : ℚ) : List AxSeg × ℚ × Bool :=
  if m.p ≤ target then let (l, c) := x.move m (target - m.p); (l, peakDec l, c)
  else let (l, c) := x.move m.flip (m.p - target); (flipSegs l, peakDec l, c)

/-- The pieces of a stop (R334). -/
def AxLimits.rest (x : AxLimits) (m : AxPoint) : List AxSeg :=
  if 0 ≤ m.v then x.stop m x.dec else flipSegs (x.stop m.flip x.dec)

/-- The pieces of a homing run up to speed `x.vel` in a direction: to rest first if the axis moves the other way
(R340). -/
def AxLimits.seek (x : AxLimits) (m : AxPoint) (positive : Bool) : List AxSeg :=
  let m := if positive then m else m.flip
  let l := if m.v < 0 then ramp m.v 0 0 x.dec x.dec 0 ++ ramp 0 0 x.vel x.acc x.dec 0 else ramp m.v 0 x.vel x.acc x.dec 0
  if positive then l else flipSegs l

/-- The point that a profile has reached. -/
def AxPlan.now (x : AxPlan) : AxPoint := pointAt x.segs x.start ((x.ns : ℚ) / 1000000000)

/-- A profile that rests, or moves at a constant speed, from a point on. -/
def AxPlan.steady (p v : ℚ) : AxPlan := { start := { p := p, v := v, a := 0 }, segs := [], ns := 0 }

/-- The nearest integer, half to even. Log 114 (DEDUCED, unsafe). -/
def nearest (q : ℚ) : Int := roundDiv q.num q.den

/-- The sample `t` ns into a profile; `ends` where it comes to rest, `unit` position LSBs per LSB of a speed, `target` the
last position of a move (R329). Log 114 (DEDUCED, unsafe). -/
def AxPlan.sample (x : AxPlan) (t : Nat) (ends : Bool) (unit : ℚ) (target : Option Int) : AxSample :=
  let m := pointAt x.segs x.start ((t : ℚ) / 1000000000)
  let last := ends && decide (segsTime x.segs ≤ (t : ℚ) / 1000000000)
  { pos := if last then target.getD (nearest m.p) else nearest m.p, spd := if last then 0 else nearest (m.v / unit),
    last := last }

end Sys2Proof.Machine
end

