-- ==== Sys2Proof/Machine/SoEvent.lean ====
section
/-!
DEFINITION. Trigger events as Sorus receives them (R349, R439, R492, R493, R495).
-/

namespace Sys2Proof.Machine

/-- Capture `c`. -/
def State.soCap (s : State) (c : Nat) : SoCap := Tab.get (fun _ => soCapReset) s.so.caps c

/-- The state with capture `c` replaced. -/
def State.setSoCap (s : State) (c : Nat) (x : SoCap) : State :=
  { s with so := { s.so with caps := Tab.set (fun _ => soCapReset) s.so.caps c x } }

/-- Trigger unit 0 or 1 of capture `c` takes events of a kind (R493); a Thallus event only for one of its GROUPS. T1
counts when COMB names it (R494). -/
def State.soUnit (s : State) (c u kind groups : Nat) : Bool :=
  let k := if u = 0 then s.fd F.SO_Cc_TRG0_KIND c else s.fd F.SO_Cc_TRG1_KIND c
  let g := if u = 0 then s.fd F.SO_Cc_TRG0_GROUPS c else s.fd F.SO_Cc_TRG1_GROUPS c
  decide (k = kind) && (decide (kind ≠ 4) || decide (g &&& groups ≠ 0)) &&
    (decide (u = 0) || decide (1 ≤ s.fd F.SO_Cc_CTL_COMB c))

/-- A trigger event ignored in FILLING or REARM is counted (R492). Log 74 (DEDUCED, unsafe). -/
def State.soMissed (s : State) (c : Nat) : State :=
  (s.raiseFlag F.SO_Cc_STAT_MISSED c 0).setRg .SO_MISSED_TRIGc c 0 (satInc 32 (s.rg .SO_MISSED_TRIGc c))

/-- An event of kind 2 external, 3 compare or 4 Thallus, with its stamp, reaches every capture (R492, R493).
Log 74 (DEDUCED, unsafe). -/
def State.soEvent (s : State) (kind groups ct : Nat) : State :=
  if ¬ s.domOn 22 then s
  else s.forEach (List.range 8) (fun c s =>
    let u0 := s.soUnit c 0 kind groups
    let u1 := s.soUnit c 1 kind groups
    let st := s.fd F.SO_Cc_STAT_STATE c
    if ¬ (u0 || u1) then s
    else if st = 1 ∨ st = 5 then s.soMissed c
    else if st = 2 then
      let x := s.soCap c
      s.setSoCap c { x with ev0 := if u0 && x.ev0.isNone then some ct else x.ev0,
                            ev1 := if u1 && x.ev1.isNone then some ct else x.ev1 }
    else s)

end Sys2Proof.Machine
end

