-- ==== Sys2Proof/Machine/Axis.lean ====
section
/-!
DEFINITION. The AX block (chapter 09): planned and profiled channels, commands, limit and home inputs, homing, compare
units, step outputs.
-/

namespace Sys2Proof.Machine

/-! ## Reading the state -/

def cmpReset : CmpUnit := { side := 0, fires := 0, due := none }
def State.cmpUnit (s : State) (k : Nat) : CmpUnit := Tab.get (fun _ => cmpReset) s.ax.units k
def State.setCmpUnit (s : State) (k : Nat) (u : CmpUnit) : State :=
  { s with ax := { s.ax with units := Tab.set (fun _ => cmpReset) s.ax.units k u } }

/-- The feedback channel of an axis record (R367). -/
def axFb (r : List Byte) : Option Nat := if axFbSrc r < 32 then some (axFbSrc r) else none

/-- A token of channel `n` (R358). -/
def State.axToken (s : State) (n ev code : Nat) : State :=
  s.hwToken .ax (s.fd F.AX_TOKn_TOKEN n) (ev + code * 2 ^ 8 + n * 2 ^ 16)

/-- A compare unit's source channel is running (R350, R362, R389): not DISABLED and not in FAULT. -/
def State.cmpRunning (s : State) (k : Nat) : Bool :=
  let id := s.fd F.AX_CMPk_CTL_SRC_ID k
  if s.flag F.AX_CMPk_CTL_SRC_FB k then decide (id < 32) && decide (s.fd F.FB_STATn_STATE id = 1)
  else decide (s.axState id ≠ 0) && decide (s.axState id ≠ 5)

/-- Units whose source has stopped running disarm (R350). -/
def State.cmpDisarm (s : State) : State :=
  s.forEach ((List.range 64).filter (fun k => s.flag F.AX_CMPk_STAT_ARMED k && !s.cmpRunning k)) (fun k s =>
    s.setFd F.AX_CMPk_STAT_ARMED k 0 0)

/-! ## Positions -/

/-- Bytes of the uplink image of a node (R105). -/
def State.uplinkBytes (s : State) (node : Nat) : List Byte := s.sramBytes (0x10800 + 64 * node) 64

/-- The byte of the position field of a channel in a record's DATA, and its size (R101).
Log 46 (DESIGN CHOICE, unsafe), 109 (DESIGN CHOICE, unsafe). -/
def posField (profile ch : Nat) (uplink : Bool) : Nat × Nat :=
  if profile = 0 then (0, 4) else if profile = 1 then (8 * (ch % 2), 4)
  else if uplink then (4 * (ch % 8), 4) else (3 * (ch % 8), 3)

/-- The record profile of a node in the active mode. -/
def State.profileOf (s : State) (node : Nat) : Nat :=
  match s.entryOf node with
  | some e => e.profile
  | none => 3

/-- The position AX_STj_POS / AX_SSCALEn as a drive position; a free value for a scale of 0 (R356, R359).
Log 63 (DEDUCED, unsafe). -/
def State.stepPos (s : State) (n : Nat) (r : List Byte) : Int × State :=
  let pos := toSigned 32 (match axStepOut r with | some j => s.rg .AX_STj_POS j | none => 0)
  let sc := s.rg .AX_SSCALEn n
  if sc = 0 then let (v, s) := s.free; (toSigned 32 v, s)
  else (roundDiv (pos * (2 ^ (if axRotary r then 40 else 32) : Nat)) sc, s)

/-- The measured drive position of an axis: its feedback channel's, or the one its drive reported (R367). -/
def State.drivePos (s : State) (r : List Byte) : Int :=
  match axFb r with
  | some f => toSigned 32 (s.rg .FB_POSn f)
  | none =>
    let (b, n) := posField (s.profileOf (axNode r)) (axChannel r) true
    toSigned 32 (fieldAt (s.uplinkBytes (axNode r)) (8 + b) n)

/-- The deviation of a step axis from its feedback channel exceeds AX_SWINn, or no longer does (R356). -/
def State.stallWatch (s : State) (n : Nat) : State :=
  let r := s.axLive n
  if s.fd F.AX_STALLn_TIME n = 0 ∨ ¬ axStepped r ∨ (axFb r).isNone then s
  else
    let (cmd, s) := s.stepPos n r
    let out := decide ((s.rg .AX_SWINn n : Int) < |cmd - s.drivePos r|)
    let c := s.axChan n
    s.setAxChan n { c with devAt := if out then some (c.devAt.getD s.time.ticks) else none }

/-- The step output of channel `n` takes what it has emitted by now (R351). -/
def State.stepSync (s : State) (n : Nat) : State :=
  let r := s.axLive n
  match (if axStepped r then axStepOut r else none) with
  | none => s
  | some j =>
    let (o, pos) := s.stepNow n j
    if pos = toSigned 32 (s.rg .AX_STj_POS j) ∧ o = s.stepOut j then s
    else ((s.setStepOut j o).setRg .AX_STj_POS j 0 (ofSigned 32 pos)).stallWatch n

/-- The channel's STATE changes, its step output having taken what it has emitted. -/
def State.setAxState (s : State) (n st : Nat) : State :=
  let s := (s.stepSync n).setFd F.AX_STATn_STATE n 0 st
  let s := if st = 0 ∨ st = 5 then s.setAxChan n { s.axChan n with haltAt := some s.peri } else s
  s.cmpDisarm

/-- A channel's last committed position and speed show in AX_POSn and AX_SPDn. -/
def State.showAx (s : State) (n : Nat) (spd : Int) : State :=
  (s.setRg .AX_POSn n 0 (ofSigned 32 (s.axChan n).p2)).setRg .AX_SPDn n 0 (sat32 spd)

/-- The speed word of a position change over one base cycle, half to even (assumption 46).
Log 46 (DESIGN CHOICE, unsafe). -/
def State.axSpeedWord (s : State) (r : List Byte) (d : Int) : Int :=
  roundDiv (d * 1000000000) (s.lenNs * (if axRotary r then 256 else 1))

/-- The drive position of an axis: measured, or for a step axis without feedback the one its output has emitted
(R344, R359, R367). -/
def State.measured (s : State) (n : Nat) (r : List Byte) : Int × State :=
  if axStepped r ∧ (axFb r).isNone then s.stepPos n r else (s.drivePos r, s)

/-- The commanded position of a channel starts at the measured one (R359). -/
def State.axStart (s : State) (n : Nat) (r : List Byte) : State :=
  let (p, s) := s.measured n r
  let p := toSigned 32 (ofSigned 32 (p + axPosOffset r))
  (s.setAxChan n { s.axChan n with p0 := p, p1 := p, p2 := p, motion := .none, pend := none, halting := false,
                                   ending := [], fault := false, plan := AxPlan.steady p 0, stale := false,
                                   queue := [], devAt := none }).showAx n 0

/-! ## Stops -/

/-- Position LSBs per LSB of a speed, acceleration or jerk of an axis (R3, R15). -/
def axUnit (r : List Byte) : ℚ := if axRotary r then 256 else 1

/-- The axis comes to rest with a deceleration; `ending` are the tokens due at standstill. -/
def State.axRest (s : State) (n dec : Nat) (ending : List (Nat × Nat)) (fault : Bool) : State :=
  let c := s.axChan n
  (s.setAxChan n { c with motion := .stop, dec := dec, ending := ending, fault := fault, stale := true }).setAxState n 3

/-- A category 1 stop in the downlink control words of an arm group's drives (R37, R320, R338).
Log 19 (DEDUCED, unsafe). -/
def State.cat1Stop (s : State) (g : Nat) : State := s.setAg g { s.ag g with cat1 := true }

/-- The limits that a channel's motion is under. -/
def AxChan.limits (c : AxChan) (r : List Byte) : AxLimits :=
  { vel := c.vel * axUnit r, acc := c.acc * axUnit r, dec := c.dec * axUnit r, jerk := c.jrk * axUnit r,
    hard := axDecHard r * axUnit r }

/-- A planned channel's step output comes to rest at DEC_HARD from the setpoint it has last, which is for the next
base-cycle start: the first position of the stop is for the one after (R325, R338). -/
def State.axBrake (s : State) (n : Nat) : State :=
  let r := s.axLive n
  let c := { s.axChan n with dec := axDecHard r, jrk := 0 }
  let m := c.plan.now
  let plan : AxPlan := { start := m, segs := (c.limits r).rest m, ns := 0 }
  let x := plan.sample s.lenNs true (axUnit r) none
  s.setAxChan n { c with motion := if x.last then .none else .stop, halting := true, ending := [], p2 := x.pos,
                         plan := { plan with ns := s.lenNs }, stale := false, queue := [] }

/-- An arm group's bit in GLOBAL_AG_EN becomes 0; its planned channels leave PLANNED, and its step-driven ones come to
rest at DEC_HARD when `hard` (R324, R338). A channel in FAULT stays there. A migration of the group ends (R552).
Log 19 (DEDUCED, unsafe), 64 (DEDUCED, unsafe). -/
def State.agOff (s : State) (g : Nat) (hard : Bool) : State :=
  let axes := s.agAxisNumbers g
  let s := s.setFd F.GLOBAL_AG_EN_EN 0 0 (s.fd F.GLOBAL_AG_EN_EN &&& (2 ^ 16 - 1 - 2 ^ g))
  let s := s.setAg g { s.ag g with stopping := false, lateRun := 0 }
  let s := if s.sv.mig.any (fun m => decide (m.group = g)) then s.migAbort else s
  s.forEach axes (fun a s =>
    if s.axState a = 5 then s
    else
      let s := s.stepSync a
      (if hard && axStepped (s.axLive a) then s.axBrake a else s).setAxState a 0)

/-- The stop of a planned axis (R338, R356, R390): journal event 0x02 with the cause. -/
def State.plannedStop (s : State) (a cause : Nat) : State :=
  match s.agOfAxis a with
  | none => s
  | some g => ((s.cat1Stop g).agOff g true).journal 0x02 0x07 cause 2 [g, a]

/-- The output of a step axis stops at once and its move ends (R355, R356, R390): flag and token are the caller's. The
channel enters FAULT; where `group`, a planned one stops its arm group instead. The token of a homing run that was aborted
is not lost (R358). Log 64 (DEDUCED, unsafe). -/
def State.stepHalt (s : State) (n code : Nat) (group : Bool) : State :=
  let s := s.stepSync n
  let r := s.axLive n
  let (p, s) := s.stepPos n r
  let p := toSigned 32 (ofSigned 32 (p + axPosOffset r))
  let c := s.axChan n
  let s := (s.setAxChan n { c with motion := .none, pend := none, p0 := p, p1 := p, p2 := p, ending := [], cause := code,
                                     halting := false, plan := AxPlan.steady p 0, stale := false, queue := [] }).showAx n 0
  let s := (c.ending.filter (fun e => e.1 = 4)).foldl (fun s e => s.axToken n e.1 e.2) s
  let s := s.setFd F.AX_STATn_CODE n 0 code
  if s.axState n = 6 ∧ group then s.plannedStop n code
  else if s.axState n = 0 then s
  else s.setAxState n 5

/-- A step axis whose feedback channel is in FAULT acts as on a stall, with the channel's cause as its code (R390). -/
def State.fbHalt (s : State) (n : Nat) : State :=
  let r := s.axLive n
  match (if axStepped r then axFb r else none) with
  | some f =>
    if s.fd F.FB_STATn_STATE f = 2 then
      let s := s.raise F.AX_STATn_STALL F.AX_CNTBn_STALL_CNT n 0
      (s.stepHalt n (s.fd F.FB_STATn_CAUSE f) true).axToken n 6 0x4C
    else s
  | none => s

/-! ## Commands (R330 to R334) -/

/-- The states in which a command is allowed (R330). -/
def axAllowed (op st : Nat) : Bool :=
  match op with
  | 1 | 5 => decide (st = 1)
  | 2 => decide (st = 2)
  | 3 => decide (st = 2) || decide (st = 4)
  | 4 => decide (st = 2) || decide (st = 3) || decide (st = 4)
  | 6 => decide (st = 5)
  | _ => false

/-- A write of AX_CMDn: the command waits for the next profile tick, and the samples computed ahead are discarded (R328,
R330). Log 62 (DEDUCED, unsafe). -/
def writeAxCmd (q : Requester) (n : Nat) (v : Word) (s : State) : State :=
  let op := F.AX_CMDn_OP.of v.toNat
  let c := s.axChan n
  if op = 0 ∨ 6 < op then s.refuse q .AX_CMDn n 0 0x03
  else
    match c.pend with
    | some (p, _) =>
      if (op = 3 ∨ op = 4) ∧ (p = 1 ∨ p = 2) then s.setAxChan n { c with pend := some (op, q), queue := [] }
      else s.refuse q .AX_CMDn n 0 0x01
    | none =>
      if axAllowed op (s.axState n) then s.setAxChan n { c with pend := some (op, q), queue := [] }
      else s.refuse q .AX_CMDn n 0 0x02

/-- Check 4 of R331: the limits a move or an UPDATE applies. -/
def State.axLimitsBad (s : State) (n : Nat) (r : List Byte) (jerk : Bool) : Bool :=
  let v := s.rg .AX_VELn n
  let a := s.rg .AX_ACCn n
  let d := s.rg .AX_DECn n
  let j := s.rg .AX_JRKn n
  decide (v = 0) || decide (axVelMax r < v) || decide (a = 0) || decide (axAccMax r < a) || decide (d = 0) ||
    decide (axDecHard r < d) || (jerk && (decide (j = 0) || decide (axJerkMax r < j)))

/-- The checks of a MOVE (R331). -/
def State.moveFail (s : State) (n : Nat) (r : List Byte) : Option Nat :=
  let t := toSigned 32 (s.rg .AX_TGTn n)
  let p := (s.axChan n).p2
  if s.flag F.AX_STATn_POS_LOST n then some 0x4B
  else if ¬ s.pgHigh n ∨ ¬ s.driverOn n then some 0x4A
  else if t < axPosMin r ∨ axPosMax r < t then some 0x03
  else if s.axLimitsBad n r (s.flag F.AX_CTLn_PROFILE n) then some 0x03
  else if (p < t ∧ s.flag F.AX_STATn_LIM_POS n) ∨ (t < p ∧ s.flag F.AX_STATn_LIM_NEG n) then some 0x46
  else none

/-- The expected limit of a homing mode is active. -/
def State.expectedOn (s : State) (n mode : Nat) : Bool :=
  if mode % 2 = 1 then s.flag F.AX_STATn_LIM_NEG n else s.flag F.AX_STATn_LIM_POS n

/-- The home event (R344): POS_OFFSET, HOMED, POS_LOST, the home token; the axis comes to rest at AX_DECn. -/
def State.homeEvent (s : State) (n : Nat) (dpos : Int) : State :=
  let r := s.axLive n
  let off := ofSigned 32 (toSigned 32 (s.rg .AX_HPOSn n) - dpos)
  let shift := toSigned 32 off - axPosOffset r
  let s := s.setSram (axisAt n + 40) 4 off
  let c := s.axChan n
  let s := s.setAxChan n { c with
    p0 := c.p0 + shift, p1 := c.p1 + shift, p2 := c.p2 + shift,
    plan := { c.plan with start := { c.plan.start with p := c.plan.start.p + shift } } }
  let s := s.setRg .AX_POSn n 0 (ofSigned 32 (c.p2 + shift))
  let s := (s.setFd F.AX_STATn_HOMED n 0 1).setFd F.AX_STATn_POS_LOST n 0 0
  (s.axToken n 3 0).axRest n (s.rg .AX_DECn n) [] false

/-- A homing run ends without its home event (R336, R342, R343). Log 62 (DEDUCED, unsafe). -/
def State.homeAbort (s : State) (n code dec : Nat) (fault : Bool) : State :=
  let s := if code = 0 then s else s.setFd F.AX_STATn_CODE n 0 code
  (s.setFd F.AX_STATn_HOMED n 0 0).axRest n dec [(4, code)] fault

/-- HOME is taken (R339, R340). -/
def State.startHoming (s : State) (q : Requester) (n : Nat) : State :=
  let mode := s.fd F.AX_HOMEn_MODE n
  let r := s.axLive n
  let c := s.axChan n
  if mode = 7 then s.refuse q .AX_CMDn n 0 0x03
  else if mode = 0 then
    let (dpos, s) := s.measured n r
    let s := s.setFd F.AX_STATn_STATE n 0 4
    let s := s.homeEvent n dpos
    (s.setAxChan n { s.axChan n with motion := .none, stale := false }).setAxState n 1
  else
    let back := (decide (mode ≤ 2) || decide (5 ≤ mode)) && s.expectedOn n mode
    let pos := decide (mode % 2 = 0)
    let c := { c with motion := if back then .back else .search, positive := if back then !pos else pos,
                      reversed := false, start := c.p2, vel := if back then s.rg .AX_HBSPDn n else s.rg .AX_HSPDn n,
                      acc := s.rg .AX_ACCn n, dec := s.rg .AX_DECn n, jrk := 0, ending := [], fault := false,
                      stale := true }
    ((s.setAxChan n c).setFd F.AX_STATn_HOMED n 0 0).setAxState n 4

/-- The shift Δ to the nearest position with the power-on phase (R355). Log 62 (DEDUCED, unsafe). -/
def phaseShift (pos : Int) (cyc phase : Nat) : Int :=
  let d := ((phase : Int) - pos) % (cyc : Int)
  if 2 * d ≤ (cyc : Int) then d else d - cyc

/-- CLEAR is taken: refused while the cause is present; a step axis that lost its driver is realigned, and a planned channel
whose arm group is enabled is PLANNED again (R330, R355, R390). Log 64 (DEDUCED, unsafe). -/
def State.axClear (s : State) (q : Requester) (n : Nat) : State :=
  let r := s.axLive n
  let code := (s.axChan n).cause
  let blind := (if axStepped r then axFb r else none).filter (fun f => s.fd F.FB_STATn_STATE f = 2)
  let chatter := [0, 1, 2].any (fun w =>
    4 < ((s.axChan n).changes.filter (fun e => e.1 = w && decide (s.time.ticks < e.2 + msTicks 20))).length)
  if code = 0x4A ∧ ¬ s.pgHigh n then s.refuse q .AX_CMDn n 0 0x4A
  else if code = 0x48 ∧ chatter then s.refuse q .AX_CMDn n 0 0x48
  else if let some f := blind then s.refuse q .AX_CMDn n 0 (s.fd F.FB_STATn_CAUSE f)
  else
    let s := s.setAxState n (match s.agOfAxis n with
      | some g => if axProfiled r then 1 else if s.agEnabled g then 6 else 0
      | none => 1)
    if code ≠ 0x4A then s
    else
      match axStepOut r, (s.axChan n).phase with
      | some j, some ph =>
        let pos := toSigned 32 (s.rg .AX_STj_POS j)
        let d := phaseShift pos (s.fd F.AX_DRVn_MS_CYCLE n) ph
        let s := (s.setRg .AX_STj_POS j 0 (ofSigned 32 (pos + d))).setRg .AX_SHIFTn n 0 (ofSigned 32 d)
        match axFb r with
        | some _ => s.axStart n r
        | none => ((s.setFd F.AX_STATn_POS_LOST n 0 1).setFd F.AX_STATn_HOMED n 0 0).axStart n r
      | _, _ => s

/-- A profile tick takes the pending command of a channel (R328, R330). Log 62 (DEDUCED, unsafe). -/
def State.takeCommand (s : State) (n : Nat) : State :=
  let c := s.axChan n
  match c.pend with
  | none => s
  | some (op, q) =>
    let s := s.setAxChan n { c with pend := none }
    let c := { c with pend := none }
    let r := s.axLive n
    let hard := axDecHard r
    let homing := decide (s.axState n = 4)
    match op with
    | 1 =>
      match s.moveFail n r with
      | some code => s.refuse q .AX_CMDn n 0 code
      | none =>
        let jrk := if s.flag F.AX_CTLn_PROFILE n then s.rg .AX_JRKn n else 0
        let s := s.setAxChan n { c with
          motion := .move, target := toSigned 32 (s.rg .AX_TGTn n), vel := s.rg .AX_VELn n,
          acc := s.rg .AX_ACCn n, dec := s.rg .AX_DECn n, jrk := jrk, ending := [(1, 0)], fault := false,
          stale := true }
        s.setAxState n 2
    | 2 =>
      if s.axState n ≠ 2 then s
      else if s.axLimitsBad n r false then s.refuse q .AX_CMDn n 0 0x03
      else s.setAxChan n { c with vel := s.rg .AX_VELn n, acc := s.rg .AX_ACCn n, dec := s.rg .AX_DECn n, stale := true }
    | 3 =>
      if homing then s.homeAbort n 0 (s.rg .AX_DECn n) false
      else if s.axState n = 2 then s.axRest n (s.rg .AX_DECn n) [(2, 0)] false
      else s
    | 4 =>
      if homing then s.homeAbort n 0 hard false
      else if s.axState n = 2 then s.axRest n hard [(2, 0)] false
      else if s.axState n = 3 then s.setAxChan n { c with dec := hard, stale := true }
      else s
    | 5 => if s.axState n = 1 then s.startHoming q n else s
    | 6 => if s.axState n = 5 then s.axClear q n else s
    | _ => s

/-! ## Samples (R325 to R329, R333) -/

/-- The generator forms the profile of a changed motion from the last committed sample on. A move's peak deceleration
shows in AX_DECUn; if after an UPDATE its deceleration cannot cover the distance, ACC_CLAMP is set (R329, R333, R334, R340).
Log 62 (DEDUCED, unsafe). -/
def State.formPlan (s : State) (n : Nat) (updated : Bool) : State :=
  let c := s.axChan n
  if ¬ c.stale then s
  else
    let r := s.axLive n
    let m := c.plan.now
    let x := c.limits r
    let set (l : List AxSeg) : State :=
      s.setAxChan n { c with plan := { start := m, segs := l, ns := 0 }, stale := false, queue := [] }
    match c.motion with
    | .none => set []
    | .stop => set (x.rest m)
    | .search | .back => set (x.seek m c.positive)
    | .move =>
      let (l, d, clamp) := x.moveTo m c.target
      let s := (set l).setRg .AX_DECUn n 0 (nearest (d / axUnit r)).toNat
      if updated && clamp then s.raise F.AX_STATn_ACC_CLAMP F.AX_CNTAn_CLAMP_CNT n 0 else s

/-- The samples of a channel from the first one not committed on, `k` of them. -/
def State.axSamples (s : State) (n k : Nat) : List AxSample :=
  let c := s.axChan n
  let ends := decide (c.motion = .move) || decide (c.motion = .stop)
  let target := if c.motion = .move then some c.target else none
  (List.range k).map (fun i => c.plan.sample (c.plan.ns + (i + 1) * s.lenNs) ends (axUnit (s.axLive n)) target)

/-- A sample of a moving channel is committed: the first one computed ahead, if there is one. In pacing mode CREDIT the
generator fills its run-ahead again (R328); in LOCKED it uses up what it holds (R327). The last sample of a move is its target (R329); at standstill the token of the
motion is deposited and the state left. Log 62 (DEDUCED, unsafe). -/
def State.takeSample (s : State) (n : Nat) (updated : Bool) : State :=
  let s := s.formPlan n updated
  let c := s.axChan n
  let ready := if c.queueLen = s.lenNs then c.queue else []
  let c := { c with queue := ready.drop 1 }
  match ready ++ s.axSamples n 1 with
  | [] => s
  | x :: _ =>
    let s := s.setAxChan n { c with p2 := x.pos, plan := { c.plan with ns := c.plan.ns + s.lenNs } }
    let s := s.showAx n x.spd
    if x.last then
      let s := s.setAxChan n { s.axChan n with motion := .none, ending := [], fault := false,
                                               plan := AxPlan.steady x.pos 0, queue := [] }
      let s := if c.halting then s else s.setAxState n (if c.fault then 5 else 1)
      c.ending.foldl (fun s e => s.axToken n e.1 e.2) s
    else if s.flag F.AX_CTLn_PACE n then
      s.setAxChan n { s.axChan n with queue := s.axSamples n (s.fd F.AX_CTLn_CREDIT n), queueLen := s.lenNs }
    else s

/-- The commanded position that a planned channel takes from the setpoint committed in the base cycle that closed last
(R326); none when nothing was committed for it. -/
def State.plannedPos (s : State) (n : Nat) (r : List Byte) : Option Int :=
  if s.kl.shutBcn ≠ some (s.time.bcn - 1) ∨ s.time.bcn = 0 then none
  else if axStepped r then
    (s.kl.given.find? (fun e => e.1 = 2048 + n)).map (fun e => signedAt e.2 4 4 + axPosOffset r)
  else
    (s.kl.given.find? (fun e => e.1 = axNode r)).map (fun e =>
      let (b, k) := posField (s.profileOf (axNode r)) (axChannel r) false
      let raw := fieldAt e.2 (4 + b) k
      if k = 3 then
        let prev := (s.axChan n).p1 - axPosOffset r
        prev + toSigned 24 (ofSigned 24 ((raw : Int) - prev)) + axPosOffset r
      else toSigned 32 raw + axPosOffset r)

/-- The record of a profiled channel's drive is completed in the bank of the base cycle (R327); `fresh`: the first
channel of its node, which copies the record from the other bank. -/
def State.commitProfiled (s : State) (n : Nat) (fresh : Bool) : State :=
  let r := s.axLive n
  let node := axNode r
  let bank := 0x30800 + 0x10000 * (s.time.bcn % 2) + 32 * node
  let other := 0x30800 + 0x10000 * ((s.time.bcn + 1) % 2) + 32 * node
  let s := if fresh then s.sramWrite (bank + 4) (s.sramBytes (other + 4) 28) else s
  let prof := s.profileOf node
  let (b, k) := posField prof (axChannel r) false
  let d := (s.axChan n).p2 - axPosOffset r
  let s := s.setSram (bank + 4 + b) k (ofSigned (8 * k) d)
  let s := if prof = 0 then s.setSram (bank + 8) 4 (s.rg .AX_SPDn n) else s
  s.setSram (bank + 2) 2 0x1000

/-! ## Step outputs (R351 to R354) -/

/-- The step output of an axis at a base-cycle start: it has followed the span that ends, and a lag of more than one
microstep sets STEP_LAG (R351 to R353). -/
def State.stepRest (s : State) (n : Nat) : State :=
  let r := s.axLive n
  match axStepOut r with
  | none => s
  | some j =>
    let c := s.axChan n
    let (o, pos) := s.stepAlong n j c.p0 c.p1 (s.startNs - s.lenNs) s.startNs
    let s := (s.setStepOut j o).setRg .AX_STj_POS j 0 (ofSigned 32 pos)
    let t := s.stepTarget n r c.p1
    if t < (pos - 1) * stepOne r ∨ (pos + 1) * stepOne r < t then
      s.raise F.AX_STATn_STEP_LAG F.AX_CNTBn_LAG_CNT n 0
    else s

/-- The step output of an axis has no step to emit: its target lies within one microstep of what it has emitted. -/
def State.stepIdle (s : State) (n : Nat) : Bool :=
  let r := s.axLive n
  match axStepOut r with
  | none => true
  | some j =>
    let pos := toSigned 32 (s.rg .AX_STj_POS j)
    decide (stepWant (stepOne r) pos (s.stepTarget n r (s.axChan n).p2) = pos)

/-- DRV_OK: the drive node is present, or the step driver is enabled with power good. -/
def State.showDrvOk (s : State) (n : Nat) (r : List Byte) : State :=
  let ok := if axStepped r then
      s.pgHigh n && s.driverOn n && (match axStepOut r with | some j => s.flag F.AX_STj_CTL_EN j | none => false)
    else (s.node (axNode r)).present
  s.setFd F.AX_STATn_DRV_OK n 0 (b2n ok)

/-- The channels that run: profiled and enabled, planned, or coming to rest after a stop of their arm group.
Log 64 (DEDUCED, unsafe). -/
def State.axRunning (s : State) : List Nat :=
  (List.range 256).filter (fun n => decide (s.axState n ≠ 0) || (s.axChan n).halting)

/-- One channel at a profile tick. -/
def State.axTick (s : State) (n : Nat) : State :=
  let r := s.axLive n
  let c := s.axChan n
  let updated := c.pend.any (fun e => e.1 = 2) && decide (s.axState n = 2)
  let s := (s.setAxChan n { c with p0 := c.p1, p1 := c.p2 }).takeCommand n
  let c := s.axChan n
  if s.axState n = 6 then
    let p := (s.plannedPos n r).getD c.p1
    let v : ℚ := (p - c.p0) * 1000000000 / s.lenNs
    let s := s.setAxChan n { c with p1 := p, p2 := p, plan := AxPlan.steady p v }
    s.showAx n (s.axSpeedWord r (p - c.p0))
  else if c.motion = .none then
    let s := s.setAxChan n { c with p2 := c.p1, halting := c.halting && !(decide (c.p0 = c.p1) && s.stepIdle n) }
    s.showAx n 0
  else s.takeSample n updated

/-- The side of the position on which a compare position lies. Log 65 (DEDUCED, unsafe). -/
def sideOf (p t : Int) : Int := if p < t then -1 else if t < p then 1 else 0

/-- Unit `k` sees its source at position `pos`: a crossing of CMP_POS from the side on which the source was, in a direction
that DIR takes, is due to fire (R346). Log 65 (DEDUCED, unsafe). -/
def State.cmpSee (s : State) (k : Nat) (pos : Int) : State :=
  let u := s.cmpUnit k
  let t := toSigned 32 (s.rg .AX_CMPk_POS k)
  let d := s.fd F.AX_CMPk_CTL_DIR k
  let new := if u.side < 0 ∧ t ≤ pos ∧ d ≠ 1 then some true else if 0 < u.side ∧ pos ≤ t ∧ d ≠ 0 then some false else none
  s.setCmpUnit k { u with side := if pos = t then u.side else sideOf pos t, due := u.due.or new }

/-- The armed units whose source is channel `id`, of the FB block if `fb`, see its position.
Log 65 (DEDUCED, unsafe). -/
def State.cmpSeeAll (s : State) (fb : Bool) (id : Nat) (pos : Int) : State :=
  s.forEach ((List.range 64).filter (fun k => s.flag F.AX_CMPk_STAT_ARMED k &&
    (s.flag F.AX_CMPk_CTL_SRC_FB k == fb) && decide (s.fd F.AX_CMPk_CTL_SRC_ID k = id))) (fun k s => s.cmpSee k pos)

/-- PROFILE_TICK: at a base-cycle start the step outputs and the compare units have followed the span that ends; then every
running channel takes its pending command and its next sample, and the records of the profiled drives are completed
(R325 to R329, R346, R351). -/
def execProfileTick (s : State) : Host.Outcome State Fault Refusal :=
  if s.time.noBase ∨ s.ax.tickBcn = some s.time.bcn then .next s
  else
    let run := s.axRunning
    let s := s.forEach (run.filter (fun n => axStepped (s.axLive n))) (fun n s => s.stepRest n)
    let s := s.forEach run (fun n s => s.cmpSeeAll false n (s.axChan n).p1)
    let s : State := { s with ax := { s.ax with tickBcn := some s.time.bcn } }
    let s := s.forEach run (fun n s => (s.axTick n).showDrvOk n (s.axLive n))
    let drives := run.filter (fun n => s.flag F.AX_CTLn_EN n && decide (s.axState n ≠ 6) && decide (s.axState n ≠ 0) &&
      !axStepped (s.axLive n))
    .next (s.forEach drives (fun n s =>
      s.commitProfiled n (drives.find? (fun m => axNode (s.axLive m) = axNode (s.axLive n)) = some n)))

/-- AX_MOVE: OP MOVE is written to AX_CMDn (R330, R331). -/
def execAxMove (q : Requester) (n : Nat) (s : State) : Host.Outcome State Fault Refusal := s.write q .AX_CMDn n 0 (writeAxCmd q n 1)
/-- AX_UPDATE (R330, R333). -/
def execAxUpdate (q : Requester) (n : Nat) (s : State) : Host.Outcome State Fault Refusal := s.write q .AX_CMDn n 0 (writeAxCmd q n 2)
/-- AX_STOP (R330, R334). -/
def execAxStop (q : Requester) (n : Nat) (s : State) : Host.Outcome State Fault Refusal := s.write q .AX_CMDn n 0 (writeAxCmd q n 3)
/-- AX_QSTOP (R330, R334). -/
def execAxQstop (q : Requester) (n : Nat) (s : State) : Host.Outcome State Fault Refusal := s.write q .AX_CMDn n 0 (writeAxCmd q n 4)
/-- AX_HOME (R330, R339, R340). -/
def execAxHome (q : Requester) (n : Nat) (s : State) : Host.Outcome State Fault Refusal := s.write q .AX_CMDn n 0 (writeAxCmd q n 5)
/-- AX_CLEAR (R330, R355). -/
def execAxClear (q : Requester) (n : Nat) (s : State) : Host.Outcome State Fault Refusal := s.write q .AX_CMDn n 0 (writeAxCmd q n 6)

/-! ## Limit and home inputs (R335 to R344) -/

/-- The flag of input `w`: 0 negative limit, 1 positive limit, 2 home switch. -/
def axInFlag (w : Nat) : Field := if w = 0 then F.AX_STATn_LIM_NEG else if w = 1 then F.AX_STATn_LIM_POS else F.AX_STATn_HOME_IN

/-- The source code of input `w`, and its INV bit (R335). -/
def State.inputSrc (s : State) (n w : Nat) : Nat :=
  s.fd (if w = 0 then F.AX_INn_NEG_SRC else if w = 1 then F.AX_INn_POS_SRC else F.AX_INn_HOME_SRC) n
def State.inputInv (s : State) (n w : Nat) : Bool :=
  s.flag (if w = 0 then F.AX_INn_NEG_INV else if w = 1 then F.AX_INn_POS_INV else F.AX_INn_HOME_INV) n

/-- More than 4 changes of one input within 20 ms: LIMIT_CHATTER (R336). The tokens that a stop under way owes stay due. -/
def State.axChatter (s : State) (n : Nat) : State :=
  let s := s.raise F.AX_STATn_LIMIT_CHATTER F.AX_CNTAn_CHAT_CNT n 0
  let hard := axDecHard (s.axLive n)
  let blame (s : State) : State := (s.setAxChan n { s.axChan n with cause := 0x48 }).setFd F.AX_STATn_CODE n 0 0x48
  match s.axState n with
  | 6 => s.plannedStop n 0x48
  | 4 => (blame s).homeAbort n 0x48 hard true
  | 3 => (blame s).axRest n hard (s.axChan n).ending true
  | 2 => (blame s).axRest n hard [] true
  | 1 => (blame s).setAxState n 5
  | _ => s

/-- A homing run meets a change of one of its inputs; the release of the home switch counts while the axis moves in the
direction in which it backs off, or searches after a reversal (R339 to R342, R344). -/
def State.homingInput (s : State) (n w : Nat) (level : Bool) (dpos : Int) : State :=
  let mode := s.fd F.AX_HOMEn_MODE n
  let c := s.axChan n
  let hard := axDecHard (s.axLive n)
  let back (dec : Nat) : State := s.setAxChan n { c with
    motion := .back, positive := !c.positive, vel := s.rg .AX_HBSPDn n, dec := dec, stale := true }
  let bySwitch := decide (mode = 3 ∨ mode = 4)
  let expected : Nat := if mode % 2 = 1 then 0 else 1
  let search := decide (c.motion = .search)
  let backing := decide (c.motion = .back)
  let (a, b) := s.axSpan n
  let turned := if c.positive then decide (a < b) else decide (b < a)
  if w = 2 then
    if bySwitch && level && search && !c.reversed then back (s.rg .AX_DECn n)
    else if bySwitch && !level && (backing || c.reversed) && turned then s.homeEvent n dpos
    else s
  else if level && decide (w ≠ expected) && (search || backing) then
    (s.raise F.AX_STATn_HOME_WRONG_LIMIT F.AX_CNTAn_WRONG_CNT n 0).homeAbort n 0x47 hard false
  else if level && decide (w = expected) && search && !c.reversed then
    if bySwitch then s.setAxChan n { c with positive := !c.positive, reversed := true, dec := hard, stale := true }
    else back hard
  else if !level && decide (w = expected) && backing && decide (mode ≤ 2) then s.homeEvent n dpos
  else s

/-- The filtered state of input `w` of channel `n` changes; `dpos` is the drive position at the raw transition that began the
change (R336 to R338, R344, R358). -/
def State.inputChange (s : State) (n w : Nat) (level : Bool) (dpos : Int) : State :=
  let s := s.setFd (axInFlag w) n 0 (b2n level)
  let c := s.axChan n
  let recent := (c.changes.filter (fun e => s.time.ticks < e.2 + msTicks 20)) ++ [(w, s.time.ticks)]
  let s := s.setAxChan n { c with changes := recent }
  let spd := toSigned 32 (s.rg .AX_SPDn n)
  let along := level && ((decide (w = 0) && decide (spd < 0)) || (decide (w = 1) && decide (0 < spd)))
  let hard := axDecHard (s.axLive n)
  if 4 < (recent.filter (fun e => e.1 = w)).length then s.axChatter n
  else
    match s.axState n with
    | 4 => s.homingInput n w level dpos
    | 6 => if along then (s.plannedStop n 0x46).axToken n 5 0x46 else s
    | 2 => if along then s.axRest n hard [(5, 0x46)] false else s
    | 3 => if along then
        let c := s.axChan n
        s.setAxChan n { c with dec := hard, ending := c.ending ++ [(5, 0x46)], stale := true } else s
    | _ => s

/-- DEBOUNCE of channel `n` in TIME ticks, and in whole base cycles for an uplink source (R335). -/
def State.debounceTicks (s : State) (n : Nat) : Nat := 50000 * s.fd F.AX_INn_DEBOUNCE n
def State.debounceCycles (s : State) (n : Nat) : Nat := (100000 * s.fd F.AX_INn_DEBOUNCE n + s.lenNs - 1) / s.lenNs

/-- An accepted uplink of a drive shows the levels of the inputs that lie in its DATA, in a word at byte 30; its position is
that of a transition which it is the first to show (R335, R344). -/
def State.inputsShown (s : State) (node : Nat) : State :=
  if s.profileOf node = 2 then s
  else
    let word := fieldAt (s.uplinkBytes node) 38 2
    s.forEach ((List.range 256).filter (fun n => decide (axNode (s.axLive n) = node) && (List.range 3).any (fun w =>
      decide (0x20 ≤ s.inputSrc n w ∧ s.inputSrc n w < 0x30)))) (fun n s =>
        s.forEach ((List.range 3).filter (fun w => decide (0x20 ≤ s.inputSrc n w ∧ s.inputSrc n w < 0x30))) (fun w s =>
          let c := s.axChan n
          let level := bit word (s.inputSrc n w - 0x20)
          if c.ins.any (fun e => e.input = w && e.level == level) then s
          else s.setAxChan n { c with ins := { input := w, level := level, since := s.time.bcn,
                                               pos := s.drivePos (s.axLive n) } :: c.ins.filter (fun e => e.input ≠ w) }))

/-- LIMIT_INPUT_CHANGE: after `dt` ticks the source of input `w` of channel `n`, a GPIO, goes to `level` and holds it for
`hold` ticks; the filtered state follows once DEBOUNCE has passed. For a source in the drive's uplinks the levels are
those that the accepted uplinks showed. The input is active when the source, inverted by INV, reads 1 (R335 to R338,
R344). -/
def execLimitInputChange (n w : Nat) (level : Bool) (hold dt : Nat) (s : State) : Host.Outcome State Fault Refusal :=
  let s := s.advance dt
  let src := s.inputSrc n w
  if 256 ≤ n ∨ 3 ≤ w ∨ 0x30 ≤ src then .next s
  else if src < 0x20 then
    let (dpos, s) := (s.stepSync n).measured n (s.axLive n)
    let put (s : State) (b : Bool) : State := { s with ax := { s.ax with gpioIn := setBits s.ax.gpioIn src src (b2n b) } }
    let s := put s level
    let act := level != s.inputInv n w
    if hold < s.debounceTicks n then .next (put (s.advance hold) (!level))
    else
      let s := s.advance (s.debounceTicks n)
      .next (if s.flag (axInFlag w) n = act then s else s.inputChange n w act dpos)
  else
    match (s.axChan n).ins.find? (fun e => e.input = w) with
    | none => .next s
    | some e =>
      let act := e.level != s.inputInv n w
      if s.flag (axInFlag w) n = act ∨ s.time.bcn < e.since + s.debounceCycles n then .next s
      else .next (s.inputChange n w act e.pos)

/-- An index pulse of a feedback channel is the home event of modes 5 and 6 after the expected limit's release (R339,
R344). -/
def State.homingIndex (s : State) (f : Nat) (dpos : Int) : State :=
  s.forEach ((List.range 256).filter (fun n => decide (s.axState n = 4) && decide (axFb (s.axLive n) = some f))) (fun n s =>
    let mode := s.fd F.AX_HOMEn_MODE n
    if 5 ≤ mode ∧ (s.axChan n).motion = .back ∧ ¬ s.expectedOn n mode then s.homeEvent n dpos else s)

/-- HOME_NOT_FOUND: a homing run has travelled AX_HDISTn from its start without its home event (R343). -/
def execHomeNotFound (n : Nat) (s : State) : Host.Outcome State Fault Refusal :=
  if s.axState n = 4 ∧ (s.rg .AX_HDISTn n : Int) ≤ |(s.axChan n).p2 - (s.axChan n).start| then .next (s.homeAbort n 0x49 (s.rg .AX_DECn n) false) else .next s

/-! ## Compare units (R345 to R350, R362) -/

/-- The position a unit watches, now. -/
def State.cmpPos (s : State) (k : Nat) : Int :=
  let id := s.fd F.AX_CMPk_CTL_SRC_ID k
  if s.flag F.AX_CMPk_CTL_SRC_FB k then toSigned 32 (s.rg .FB_POSn (id % 32)) else s.axPosNow id

/-- The direction in which a unit's source moves now: the sign of its measured or of its interpolated speed (R346). -/
def State.cmpSpeed (s : State) (k : Nat) : Int :=
  let id := s.fd F.AX_CMPk_CTL_SRC_ID k
  if s.flag F.AX_CMPk_CTL_SRC_FB k then toSigned 32 (s.fbSpeed (id % 32)) else (s.axChan id).p1 - (s.axChan id).p0

/-- The level of a GPIO after an action: 2 sets, 3 clears, 4 toggles (R349). -/
def actLevel (v act : Nat) : Nat := if act = 2 then 1 else if act = 3 then 0 else 1 - v

/-- The action of unit `k` on the level of a GPIO: the units of one PERI cycle apply theirs in ascending number, whatever
the order of their fires (R349). -/
def State.cmpSet (s : State) (k g act : Nat) : State :=
  let now := s.peri
  let e := (s.ax.acts.find? (fun e => e.gpio = g && e.peri = now)).getD
    { gpio := g, peri := now, before := bits s.ax.gpioOut g g, acts := [] }
  let l := e.acts.filter (fun x => x.1 < k) ++ [(k, act)] ++ e.acts.filter (fun x => k < x.1)
  let v := l.foldl (fun v x => actLevel v x.2) e.before
  { s with ax := { s.ax with gpioOut := setBits s.ax.gpioOut g g v,
                             acts := { e with acts := l } :: s.ax.acts.filter (fun x => x.gpio ≠ g && x.peri = now) } }

/-- The action of a fire on its GPIO (R349). -/
def State.cmpAction (s : State) (k : Nat) : State :=
  let g := s.fd F.AX_CMPk_CTL_GPIO k
  let act := s.fd F.AX_CMPk_CTL_ACTION k
  let now := s.time.ticks
  let s : State := { s with ax := { s.ax with pulses := s.ax.pulses.filter (fun e => now < e.2) } }
  if act = 1 then { s with ax := { s.ax with pulses := s.ax.pulses ++ [(g, now + 2 * s.fd F.AX_CMPk_OUT_PULSE_W k)] } }
  else if 2 ≤ act ∧ act ≤ 4 then s.cmpSet k g act else s

/-- The levels of the GPIOs: the last level set, or a pulse in progress, or a driver enable (R349, R354). -/
def State.gpioLevels (s : State) : Nat :=
  let p := s.ax.pulses.foldl (fun v e => if s.time.ticks < e.2 then v ||| 2 ^ e.1 else v) s.ax.gpioOut
  (List.range 256).foldl (fun v n =>
    let g := s.fd F.AX_DRVn_ENA_GPIO n
    if g < 32 ∧ s.driverOn n then v ||| 2 ^ g else v) p

/-- A unit fires (R345, R348, R349). Log 65 (DEDUCED, unsafe). -/
def State.cmpFire (s : State) (k : Nat) : State :=
  let pos := s.cmpPos k
  let s := s.setRg64 .AX_CMPk_CT_LO .AX_CMPk_CT_HI k s.ctNs
  let s := (s.raise F.AX_CMPk_STAT_FIRED F.AX_CMPk_CNT_FIRE_CNT k 0).cmpAction k
  let s := if s.flag F.AX_CMPk_CTL_SORUS k then s.soEvent 3 0 s.ctNs else s
  let s := s.hwToken .ax (s.fd F.AX_CMPk_OUT_TOKEN k) (0x10 + k * 2 ^ 8 + s.fd F.AX_CMPk_CNT_FIRE_CNT k * 2 ^ 16)
  let u := { s.cmpUnit k with due := none }
  let s := s.setCmpUnit k u
  if ¬ s.flag F.AX_CMPk_CTL_PERIODIC k then s.setFd F.AX_CMPk_STAT_ARMED k 0 0
  else
    let t := toSigned 32 (s.rg .AX_CMPk_POS k)
    let i := toSigned 32 (s.rg .AX_CMPk_INT k)
    let ahead : Int := if 0 < i then pos - t else t - pos
    let m : Int := if 0 ≤ ahead then ahead / |i| + 1 else 1
    let t := toSigned 32 (ofSigned 32 (t + m * i))
    let s := s.setRg .AX_CMPk_POS k 0 (ofSigned 32 t)
    let s := if 1 < m then
        (s.raiseFlag F.AX_CMPk_STAT_SKIP k 0).setFd F.AX_CMPk_STAT_SKIP_CNT k 0
          (satAdd 8 (s.fd F.AX_CMPk_STAT_SKIP_CNT k) (m - 1).toNat)
      else s
    let s := s.setCmpUnit k { side := sideOf pos t, fires := u.fires + 1, due := none }
    let n := s.fd F.AX_CMPk_CNT_COUNT k
    if n ≠ 0 ∧ n ≤ u.fires + 1 then s.setFd F.AX_CMPk_STAT_ARMED k 0 0 else s

/-- The position lies behind at arming (R346). Log 65 (DEDUCED, unsafe). -/
def State.cmpBehind (s : State) (k : Nat) : Bool :=
  let p := s.cmpPos k
  let t := toSigned 32 (s.rg .AX_CMPk_POS k)
  let v := s.cmpSpeed k
  match s.fd F.AX_CMPk_CTL_DIR k with
  | 0 => decide (t ≤ p)
  | 1 => decide (p ≤ t)
  | _ => if 0 < v then decide (t ≤ p) else if v < 0 then decide (p ≤ t) else decide (t = p)

/-- A unit takes up its compare position (R346, R347, R350). -/
def State.cmpTakeUp (s : State) (k : Nat) : State :=
  let p := s.cmpPos k
  let t := toSigned 32 (s.rg .AX_CMPk_POS k)
  let behind := s.cmpBehind k
  let s := s.setCmpUnit k { s.cmpUnit k with side := sideOf p t, due := none }
  let s := if behind then s.raise F.AX_CMPk_STAT_CMP_BEHIND F.AX_CMPk_STAT_BEHIND_CNT k 0 else s
  if behind && decide (s.cmpSpeed k ≠ 0) && s.flag F.AX_CMPk_CTL_CMP_IMMEDIATE k then s.cmpFire k else s

/-- A unit is armed. -/
def State.cmpArm (s : State) (k : Nat) : State :=
  ((s.setFd F.AX_CMPk_STAT_ARMED k 0 1).setCmpUnit k cmpReset).cmpTakeUp k

/-- The GPIO of a unit is an input source of an enabled channel (R362). -/
def State.gpioIsInput (s : State) (g : Nat) : Bool :=
  (List.range 256).any (fun n => s.flag F.AX_CTLn_EN n &&
    (decide (s.fd F.AX_INn_NEG_SRC n = g) || decide (s.fd F.AX_INn_POS_SRC n = g) || decide (s.fd F.AX_INn_HOME_SRC n = g)))

/-- A write of AX_CMPk_CTL (R346, R362). -/
def writeCmpCtl (q : Requester) (k : Nat) (v : Word) (s : State) : State :=
  let w := v.toNat
  if F.AX_CMPk_CTL_DIR.of w = 3 ∨ 4 < F.AX_CMPk_CTL_ACTION.of w then s.refuse q .AX_CMPk_CTL k 0 0x03
  else
    let was := s.flag F.AX_CMPk_CTL_EN k
    let b := s.setRg .AX_CMPk_CTL k 0 (setBits (w &&& (2 ^ 24 - 1 - 2)) 31 24 (s.fd F.AX_CMPk_CTL_REFUSE k))
    let i := toSigned 32 (s.rg .AX_CMPk_INT k)
    let d := F.AX_CMPk_CTL_DIR.of w
    let bad : Option Nat :=
      if was ∨ F.AX_CMPk_CTL_EN.of w = 0 then none
      else if ¬ b.cmpRunning k then some 0x4D
      else if s.gpioIsInput (F.AX_CMPk_CTL_GPIO.of w) ∨
          (F.AX_CMPk_CTL_PERIODIC.of w = 1 ∧ (i = 0 ∨ (d = 0 ∧ i < 0) ∨ (d = 1 ∧ 0 < i))) then some 0x04
      else none
    if F.AX_CMPk_CTL_ARM.of w = 1 ∧ F.AX_CMPk_CTL_EN.of w = 0 then s.refuse q .AX_CMPk_CTL k 0 0x02
    else
      match bad with
      | some c => (b.setFd F.AX_CMPk_CTL_EN k 0 0).refuse q .AX_CMPk_CTL k 0 c
      | none =>
        let s := if F.AX_CMPk_CTL_EN.of w = 0 then b.setFd F.AX_CMPk_STAT_ARMED k 0 0 else b
        if F.AX_CMPk_CTL_ARM.of w = 0 then s else s.cmpArm k

/-- A write of AX_CMPk_POS: the cycle of the write is evaluated with the old value; while armed the unit takes up the new one
from the next PERI cycle (R350). -/
def writeCmpPos (k : Nat) (v : Word) (s : State) : State :=
  let s := if s.flag F.AX_CMPk_STAT_ARMED k then s.cmpSee k (s.cmpPos k) else s
  let s := if s.flag F.AX_CMPk_STAT_ARMED k ∧ (s.cmpUnit k).due.isSome then s.cmpFire k else s
  let s := s.setRg .AX_CMPk_POS k 0 v.toNat
  if s.flag F.AX_CMPk_STAT_ARMED k then (s.advance 2).cmpTakeUp k else s

/-- CMP_FIRE: the position an armed unit watches has crossed CMP_POS, rising or falling (R345, R346).
Log 65 (DEDUCED, unsafe). -/
def execCmpFire (k : Nat) (rising : Bool) (dt : Nat) (s : State) : Host.Outcome State Fault Refusal :=
  let s := s.advance dt
  if s.flag F.AX_CMPk_STAT_ARMED k && s.cmpRunning k then
    let s := s.cmpSee k (s.cmpPos k)
    .next (if (s.cmpUnit k).due = some rising then s.cmpFire k else s)
  else .next s

/-- CMP_ARM: a write of AX_CMPk_CTL with ARM (R346). -/
def execCmpArm (q : Requester) (k : Nat) (v : Word) (s : State) : Host.Outcome State Fault Refusal :=
  s.write q .AX_CMPk_CTL k 0 (writeCmpCtl q k v)

/-- CMP_ENABLE: a write of AX_CMPk_CTL with EN (R362). -/
def execCmpEnable (q : Requester) (k : Nat) (v : Word) (s : State) : Host.Outcome State Fault Refusal :=
  s.write q .AX_CMPk_CTL k 0 (writeCmpCtl q k v)

/-- CMP_POS_WRITE (R350). -/
def execCmpPosWrite (q : Requester) (k : Nat) (v : Word) (s : State) : Host.Outcome State Fault Refusal :=
  s.write q .AX_CMPk_POS k 0 (writeCmpPos k v)

/-! ## Drivers and stalls (R354 to R356) -/

/-- The channels whose PG_GPIO is a GPIO. -/
def State.pgChannels (s : State) (g : Nat) : List Nat := (List.range 256).filter (fun n => s.fd F.AX_DRVn_PG_GPIO n = g)

/-- DRIVER_POWER_GOOD: PG_GPIO `g` rises; its first rise after the output is enabled records the power-on phase
(R354). -/
def execDriverPowerGood (g dt : Nat) (s : State) : Host.Outcome State Fault Refusal :=
  let s := s.advance dt
  if 32 ≤ g ∨ bit s.ax.gpioIn g then .next s
  else
    let s : State := { s with ax := { s.ax with gpioIn := setBits s.ax.gpioIn g g 1 } }
    .next (s.forEach (s.pgChannels g) (fun n s =>
      match axStepOut (s.axLive n) with
      | some j =>
        let c := s.axChan n
        if s.flag F.AX_STj_CTL_EN j && c.phase.isNone then
          s.setAxChan n { c with phase := some ((toSigned 32 (s.rg .AX_STj_POS j)) % (max 1 (s.fd F.AX_DRVn_MS_CYCLE n) : Nat)).toNat }
        else s
      | none => s))

/-- DRIVER_LOST: PG_GPIO `g` falls; the outputs stop at once (R355). -/
def execDriverLost (g dt : Nat) (s : State) : Host.Outcome State Fault Refusal :=
  let s := s.advance dt
  if 32 ≤ g ∨ ¬ bit s.ax.gpioIn g then .next s
  else
    let lost := (s.pgChannels g).filter (fun n => axStepped (s.axLive n) && s.driverOn n)
    let s := s.forEach lost (fun n s => s.stepSync n)
    let s : State := { s with ax := { s.ax with gpioIn := setBits s.ax.gpioIn g g 0 } }
    .next (s.forEach lost (fun n s => (s.stepHalt n 0x4A false).axToken n 7 0x4A))

/-- STALL: the deviation of a step axis exceeds AX_SWINn for TIME consecutive samples, one every 1 µs, from the one at or
after the tick since which it does. In FAULT and DISABLED it is a later cause of the PERI cycle in which the channel left
operation, and sets its flag alone (R356, R357). -/
def execStall (n : Nat) (s : State) : Host.Outcome State Fault Refusal :=
  let r := s.axLive n
  let time := s.fd F.AX_STALLn_TIME n
  if ¬ axStepped r ∨ (axFb r).isNone ∨ time = 0 then .next s
  else
    let s := (s.stepSync n).stallWatch n
    match (s.axChan n).devAt with
    | none => .next s
    | some t =>
      let s := (s.advanceToTick (((t + 499) / 500 + time - 1) * 500)).stepSync n
      let st := s.axState n
      if (s.axChan n).devAt ≠ some t ∨ ((st = 0 ∨ st = 5) ∧ (s.axChan n).haltAt ≠ some s.peri) then .next s
      else
        let s := s.raise F.AX_STATn_STALL F.AX_CNTBn_STALL_CNT n 0
        if st = 0 ∨ st = 5 then .next s else .next ((s.stepHalt n 0x4C true).axToken n 6 0x4C)

/-! ## Enables (R359 to R361) -/

/-- The enabled channels and enabled arm groups' axes that use step output `j`, but for channel `n` (R359).
Log 64 (DEDUCED, unsafe). -/
def State.stepUsed (s : State) (j n : Nat) : Bool :=
  (List.range 256).any (fun m => decide (m ≠ n) && s.flag F.AX_CTLn_EN m && decide (axStepOut (s.axLive m) = some j)) ||
    s.agsOn.any (fun g => (List.range (agAxes (s.agRec g))).any (fun i =>
      axStepped (s.agAxis g i) && decide (axStepOut (s.agAxis g i) = some j)))

/-- An input source is valid for the node's profile and is not driven by an enabled compare unit (R335, R359).
Log 64 (DEDUCED, unsafe). -/
def State.inputSrcOk (s : State) (r : List Byte) (src : Nat) : Bool :=
  if src < 0x20 then
    !((List.range 64).any (fun k => s.flag F.AX_CMPk_CTL_EN k && decide (s.fd F.AX_CMPk_CTL_ACTION k ≠ 0) &&
      decide (s.fd F.AX_CMPk_CTL_GPIO k = src)))
  else if src < 0x30 then !axStepped r && decide (s.profileOf (axNode r) ≠ 2)
  else decide (src = 0xFF)

/-- The checks of R359; `w` is the value written to AX_CTLn. -/
def State.axEnableFail (s : State) (n w : Nat) : Option Nat :=
  let r := s.axLive n
  let node := axNode r
  let prof := F.AX_CTLn_PROFILE.of w
  let cr := F.AX_CTLn_CREDIT.of w
  if axGroup r ≠ 0xFF ∨ ¬ axProfiled r then some 0x04
  else if axPosMax r ≤ axPosMin r ∨ axVelMax r = 0 ∨ axAccMax r = 0 ∨ axDecHard r = 0 ∨ (prof = 1 ∧ axJerkMax r = 0) ∨
      cr = 0 ∨ 8 < cr then some 0x03
  else if decide (node ≠ 0xFFFF) == decide (axStep r ≠ 0xFF) then some 0x04
  else if node ≠ 0xFFFF ∧ (s.entryOf node).isNone then some 0x04
  else if node ≠ 0xFFFF ∧ (s.entryOf node).any (fun e => decide (e.rate ≠ 0)) then some 0x41
  else if node ≠ 0xFFFF ∧ (List.range 256).any (fun m =>
      decide (axNode (s.axLive m) = node) && !(axProfiled (s.axLive m) && decide (axGroup (s.axLive m) = 0xFF))) then some 0x40
  else if node = 0xFFFF ∧ (axStepOut r).all (fun j => !s.flag F.AX_STj_CTL_EN j || s.stepUsed j n) then
    some 0x42
  else if node = 0xFFFF ∧ (axStepOut r).any (fun j =>
      decide (2 ^ 32 * 1000000000 < axVelMax r * s.rg .AX_SSCALEn n * (8 * s.fd F.AX_STj_TIM_STEP_W j))) then some 0x43
  else if ¬ (s.inputSrcOk r (s.fd F.AX_INn_NEG_SRC n) && s.inputSrcOk r (s.fd F.AX_INn_POS_SRC n) &&
      s.inputSrcOk r (s.fd F.AX_INn_HOME_SRC n)) then some 0x45
  else if ¬ s.pgHigh n then some 0x4A
  else none

/-- A write of AX_CTLn (R359, R360). A failed check leaves EN 0 and sets the other fields (R12).
Log 13 (DEDUCED, unsafe). -/
def writeAxCtl (q : Requester) (n : Nat) (v : Word) (s : State) : State :=
  let w := v.toNat
  let on := decide (F.AX_CTLn_EN.of w = 1)
  let was := s.flag F.AX_CTLn_EN n
  let busy := decide (s.axState n = 2) || decide (s.axState n = 3) || decide (s.axState n = 4)
  if was && !on && busy then s.refuse q .AX_CTLn n 0 0x01
  else
    let keep := setBits (w &&& 0x000F0110) 31 24 (s.fd F.AX_CTLn_REFUSE n)
    let s := s.setRg .AX_CTLn n 0 (setBits keep 0 0 (b2n was))
    if on && !was then
      match s.axEnableFail n w with
      | some c => s.refuse q .AX_CTLn n 0 c
      | none =>
        ((((s.setFd F.AX_CTLn_EN n 0 1).axStart n (s.axLive n)).setAxState n 1).showDrvOk n (s.axLive n)).fbHalt n
    else if was && !on then
      let s := (s.setFd F.AX_CTLn_EN n 0 0).setAxState n 0
      s.setAxChan n { s.axChan n with pend := none, motion := .none }
    else s

/-- AX_ENABLE: a write of AX_CTLn (R359). -/
def execAxEnable (q : Requester) (n : Nat) (v : Word) (s : State) : Host.Outcome State Fault Refusal :=
  s.write q .AX_CTLn n 0 (writeAxCtl q n v)

/-- AX_DISABLE: a write of AX_CTLn (R360). -/
def execAxDisable (q : Requester) (n : Nat) (v : Word) (s : State) : Host.Outcome State Fault Refusal :=
  s.write q .AX_CTLn n 0 (writeAxCtl q n v)

/-- Whether the timing fields of step output `j` lie within the limits (R361). -/
def State.stepTimed (s : State) (j : Nat) : Bool :=
  decide (25 ≤ s.fd F.AX_STj_TIM_STEP_W j) && decide (50 ≤ s.fd F.AX_STj_TIM_DIR_SETUP j) &&
    decide (25 ≤ s.fd F.AX_STj_TIM_DIR_HOLD j)

/-- Step output `j` switched on, with no phase recorded for its axes (R354, R361). -/
def State.stepEnable (s : State) (j : Nat) : State :=
  (s.setFd F.AX_STj_CTL_EN j 0 1).forEach
    ((List.range 256).filter (fun n => decide (axStepOut (s.axLive n) = some j)))
    (fun n s => s.setAxChan n { s.axChan n with phase := none })

/-- The written inversions of step output `j`, taken after the steps up to now (R352, R361). -/
def State.stepLines (s : State) (j w : Nat) (was : Bool) : State :=
  let s : State := match s.stepOwner j with
    | some n => s.stepSync n
    | none => s
  s.setRg .AX_STj_CTL j 0 (setBits (s.rg .AX_STj_CTL j) 3 0 (setBits (w &&& 0xC) 0 0 (b2n was)))

/-- A write of AX_STj_CTL (R361). Log 13 (DEDUCED, unsafe). -/
def writeStepCtl (q : Requester) (j : Nat) (v : Word) (s : State) : State :=
  let w := v.toNat
  let on := decide (F.AX_STj_CTL_EN.of w = 1)
  let was := s.flag F.AX_STj_CTL_EN j
  if was && !on && s.stepUsed j 256 then s.refuse q .AX_STj_CTL j 0 0x01
  else
    if on && !was && !s.stepTimed j then (s.stepLines j w was).refuse q .AX_STj_CTL j 0 0x44
    else if on && !was then (s.stepLines j w was).stepEnable j
    else (s.stepLines j w was).setFd F.AX_STj_CTL_EN j 0 (b2n on)

/-- STEP_OUTPUT_ENABLE: a write of AX_STj_CTL (R361). -/
def execStepOutputEnable (q : Requester) (j : Nat) (v : Word) (s : State) : Host.Outcome State Fault Refusal :=
  s.write q .AX_STj_CTL j 0 (writeStepCtl q j v)

/-- STEP_OUTPUT_DISABLE: a write of AX_STj_CTL (R361). -/
def execStepOutputDisable (q : Requester) (j : Nat) (v : Word) (s : State) : Host.Outcome State Fault Refusal :=
  s.write q .AX_STj_CTL j 0 (writeStepCtl q j v)

end Sys2Proof.Machine
end

