-- ==== Sys2Proof/Machine/Feedback.lean ====
section
/-!
DEFINITION. The FB block (chapter 10): quadrature, index, SSI and Hall decoding, speed, wires, thresholds, encoder
faults, the repeat output, and the channels' enables.
-/

namespace Sys2Proof.Machine

/-! ## The count -/

/-- The position of a count: FB_OFSn + bits [47:16] of (count × FB_SCALEn), modulo 2^32 (R364). -/
def State.fbPosOf (s : State) (n : Nat) (cnt : Int) : Nat :=
  ofSigned 32 ((s.rg .FB_OFSn n : Int) + cnt * (s.rg .FB_SCALEn n : Int) / 65536)

/-- FB_POSn follows the count. -/
def State.fbShow (s : State) (n : Nat) : State := s.setRg .FB_POSn n 0 (s.fbPosOf n (toSigned 32 (s.rg .FB_CNTn n)))

/-- The compare units and the step axes that watch channel `n` see its position (R346, R356, R367). -/
def State.fbSeen (s : State) (n : Nat) : State :=
  let s := s.cmpSeeAll true n (toSigned 32 (s.rg .FB_POSn n))
  s.forEach ((List.range 256).filter (fun a => decide (s.fd F.AX_STALLn_TIME a ≠ 0) && decide (axFb (s.axLive a) = some n)))
    (fun a s => (s.stepSync a).stallWatch a)

/-- The count takes a value, modulo 2^32. -/
def State.setCount (s : State) (n : Nat) (v : Int) : State :=
  ((s.setRg .FB_CNTn n 0 (ofSigned 32 v)).fbShow n).fbSeen n

/-- A token of a channel (R392). -/
def State.fbToken (s : State) (n ev code : Nat) : State :=
  s.hwToken .fb (s.fd F.FB_TOKn_TOKEN n) (ev + code * 2 ^ 8 + n * 2 ^ 16)

/-! ## The repeat output (R393, R394) -/

/-- A repeat output that emits `k` more steps: Z counts from the last multiple of `idx` that the count has reached. -/
def RepOut.emit (o : RepOut) (idx k : Nat) (up : Bool) : RepOut :=
  let cnt := if up then o.cnt + k else o.cnt - k
  let at_ : Int := if up then cnt - cnt % idx else cnt + (-cnt) % idx
  let met := decide (idx ≠ 0 ∧ 0 < k) && (if up then decide (o.cnt < at_) else decide (at_ < o.cnt))
  { o with steps := if up then o.steps + k else o.steps - k, cnt := cnt,
           age := if met then some (cnt - at_).natAbs else o.age.map (· + k) }

/-- The steps of the runs that are due by PERI cycle `now` are emitted, one every `gap` cycles. -/
def RepOut.upTo (gap idx now : Nat) : RepOut → List RepRun → RepOut
  | o, [] => { o with runs := [] }
  | o, r :: rest =>
    let k := if now < r.first then 0 else min r.count ((now - r.first) / gap + 1)
    let o := o.emit idx k r.up
    if k = r.count then o.upTo gap idx now rest
    else { o with runs := { r with first := r.first + k * gap, count := r.count - k } :: rest }

/-- A count change of `d` at PERI cycle `now` adds its steps. -/
def RepOut.add (o : RepOut) (gap idx now : Nat) (d : Int) : RepOut :=
  let o := o.upTo gap idx now o.runs
  let first := max now o.free
  { o with runs := o.runs ++ [{ first := first, count := d.natAbs, up := decide (0 < d) }], free := first + d.natAbs * gap }

/-- The steps a repeat output has still to emit. -/
def RepOut.behind (o : RepOut) : Nat := (o.runs.map (·.count)).sum

/-- The synthesised repeat output of channel `n` as it stands now. -/
def State.repNow (s : State) (n : Nat) : RepOut :=
  let o := (s.fbChan n).rep
  o.upTo (max 1 (s.fd F.FB_REPn_REP_EDGE n)) (s.fd F.FB_REPn_REP_IDX n) s.peri o.runs

/-- A count change of `d` reaches the repeat output; more than one count behind sets REP_LAG (R393, R394).
Log 67 (DEDUCED, unsafe). -/
def State.fbRepeat (s : State) (n : Nat) (d : Int) : State :=
  if s.fd F.FB_CFGn_REP n ≠ 2 ∨ d = 0 then s
  else
    let was := s.repNow n
    let o := was.add (max 1 (s.fd F.FB_REPn_REP_EDGE n)) (s.fd F.FB_REPn_REP_IDX n) s.peri d
    let o := o.upTo (max 1 (s.fd F.FB_REPn_REP_EDGE n)) (s.fd F.FB_REPn_REP_IDX n) s.peri o.runs
    let s := s.setFbChan n { s.fbChan n with rep := o }
    if 1 < o.behind ∧ was.behind ≤ 1 then s.raise F.FB_STATn_REP_LAG F.FB_CNTBn_LAG_CNT n 0 else s

/-- The levels (A, B, Z) as 4 A + 2 B + Z that the repeat output of channel `n` drives: the filtered lines, or one
quadrature step for each count change emitted, with Z for one A-B cycle from a multiple of REP_IDX on (R393, R394).
Log 67 (DEDUCED, unsafe). -/
def State.repeatOut (s : State) (n : Nat) : Nat :=
  match s.fd F.FB_CFGn_REP n with
  | 1 => (s.fbChan n).lines.filt
  | 2 =>
    let o := s.repNow n
    2 * (([0, 2, 3, 1] : List Nat).getD (o.steps % 4).toNat 0) + b2n (o.age.any (fun k => decide (k < 4)))
  | _ => 0

/-- A count change, with DIR_INV applied by the caller (R366). -/
def State.countBy (s : State) (n : Nat) (d : Int) : State :=
  (s.setCount n (toSigned 32 (s.rg .FB_CNTn n) + d)).fbRepeat n d

/-- A load of the count, which emits no step (R373, R374). -/
def State.countLoad (s : State) (n : Nat) (v : Int) : State :=
  let o := (s.fbChan n).rep
  let s := s.setFbChan n { s.fbChan n with rep := { o with cnt := o.cnt + (v - toSigned 32 (s.rg .FB_CNTn n)) } }
  s.setCount n v

/-! ## Faults (R388 to R391) -/

/-- An encoder fault, of a channel in RUN or in FAULT: FAULT, CAUSE, SUSPECT, the fault token; a step axis on the channel
stops as on a stall (R389, R390). -/
def State.fbFault (s : State) (n cause : Nat) : State :=
  if s.fd F.FB_STATn_STATE n = 0 then s
  else
    let s := s.setFbChan n { s.fbChan n with faultAt := some s.peri }
    let s := (s.setFd F.FB_STATn_STATE n 0 2).setFd F.FB_STATn_CAUSE n 0 cause
    let s := ((s.setFd F.FB_STATn_VALID n 0 0).setFd F.FB_STATn_SUSPECT n 0 1).cmpDisarm
    let axes := (List.range 256).filter (fun a => axStepped (s.axLive a) && decide (axFb (s.axLive a) = some n) &&
      decide (s.axState a ≠ 0) && decide (s.axState a ≠ 5))
    let s := s.forEach axes (fun a s => s.fbHalt a)
    s.fbToken n 1 cause

/-- The window of 1,024 base cycles: its counts start at 0 (R388). -/
def State.fbWindow (s : State) (n : Nat) : State :=
  let c := s.fbChan n
  let w := s.time.bcn / 1024
  if c.winNo = w then s else s.setFbChan n { c with winQ := 0, winF := 0, winS := 0, winNo := w }

/-- A window count goes from `old` to `new`: it reaches its limit, where there is one (R388). -/
def State.fbReached (s : State) (n lim old new : Nat) : Bool :=
  decide (lim ≠ 0 ∧ lim ≤ new ∧ (old < lim ∨ s.fd F.FB_STATn_STATE n = 1))

/-- An illegal transition (R371, R381). -/
def State.fbIllegal (s : State) (n : Nat) : State :=
  let s := (s.fbWindow n).raise F.FB_STATn_QERR F.FB_CNTAn_QERR_CNT n 0
  let c := s.fbChan n
  let s := s.setFbChan n { c with winQ := c.winQ + 1 }
  if s.fbReached n (s.fd F.FB_FLTn_QERR_LIM n) c.winQ (c.winQ + 1) then s.fbFault n 0x50 else s

/-- Fast edges that the filter rejected (R368). Log 66 (DEDUCED, unsafe). -/
def State.fbFast (s : State) (n k : Nat) : State :=
  if k = 0 then s
  else
    let s := (s.fbWindow n).raiseFlag F.FB_STATn_FAST n 0
    let s := s.setFd F.FB_CNTAn_FAST_CNT n 0 (satAdd 8 (s.fd F.FB_CNTAn_FAST_CNT n) k)
    let c := s.fbChan n
    let s := s.setFbChan n { c with winF := c.winF + k }
    if s.fbReached n (s.fd F.FB_FLTn_FAST_LIM n) c.winF (c.winF + k) then s.fbFault n 0x51 else s

/-- An SSI frame error (R377). -/
def State.fbFrameError (s : State) (n : Nat) : State :=
  let s := (s.fbWindow n).raise F.FB_STATn_SSI_ERR F.FB_CNTAn_SSI_CNT n 0
  let c := s.fbChan n
  let s := s.setFbChan n { c with winS := c.winS + 1 }
  if s.fbReached n (s.fd F.FB_FLTn_SSI_LIM n) c.winS (c.winS + 1) then s.fbFault n 0x53 else s

/-! ## Quadrature and Hall (R370, R371, R380 to R384) -/

/-- The quadrature cycle 00, 10, 11, 01 as positions 0 to 3 of a pair (A, B) = 2 A + B. -/
def quadIndex (ab : Nat) : Nat := ([0, 3, 1, 2] : List Nat).getD (ab % 4) 0

/-- The change of a quadrature transition; none for an illegal one (R370). -/
def quadStep (frm dst : Nat) : Option Int :=
  match (quadIndex dst + 4 - quadIndex frm) % 4 with
  | 0 => some 0
  | 1 => some 1
  | 3 => some (-1)
  | _ => none

/-- The place of a Hall state in its order, none for 0b000 and 0b111 (R380). -/
def hallIndex (uvw : Nat) : Option Nat := ([1, 3, 2, 6, 4, 5] : List Nat).idxOf? (uvw % 8)

/-- The change of a Hall transition: `some 0` when a legal state is taken as the reference after an illegal one; none
for an illegal transition (R380, R381). -/
def hallStep (frm dst : Nat) : Option Int :=
  match hallIndex dst with
  | none => none
  | some j =>
    match hallIndex frm with
    | none => some 0
    | some i =>
      match (j + 6 - i) % 6 with
      | 0 => some 0
      | 1 => some 1
      | 5 => some (-1)
      | _ => none

/-- The edges in the same direction after the latest one, in order of age. -/
def sameRun : List (Nat × Int) → List (Nat × Int)
  | [] => []
  | e :: t => e :: t.takeWhile (fun x => x.2 = e.2)

/-- A count edge: history, and in period mode the speed of R382. -/
def State.fbEdge (s : State) (n : Nat) (d : Int) : State :=
  let c := s.fbChan n
  let now := s.peri
  let edges := ((now, d) :: c.edges).take 8
  let lim := if s.fd F.FB_CFGn_MODE n = 2 then 6 else 4
  let run := sameRun edges
  let m := min lim (run.length - 1)
  let frm := ((run[m]?).map (·.1)).getD now
  let per := now - frm
  let turned := (c.edges.head?.map (·.2)) ≠ some d
  let tot := c.total + d
  let s := s.setFbChan n { c with
    edges := edges, total := tot, num := c.num + 1, turn := if turned then some (now, tot) else c.turn,
    perT := per, perM := m }
  let s := s.setFd F.FB_STATn_STILL n 0 0
  if s.flag F.FB_STATn_CNT_MODE n then s
  else if m = 0 then s.setRg .FB_SPDn n 0 0
  else s.setRg .FB_SPDn n 0 (s.fbSpeedWord n (d * m) (4 * per))

/-- The filtered (A, B) or (U, V, W) change from `frm` to `dst`, as 4 A + 2 B + Z: a count change, an illegal transition, or a
reference taken (R366, R370, R371, R380, R381). -/
def State.fbDecode (s : State) (n frm dst : Nat) : State :=
  let step := if s.fd F.FB_CFGn_MODE n = 0 then quadStep (frm / 2) (dst / 2) else hallStep frm dst
  match step with
  | none => s.fbIllegal n
  | some 0 => s
  | some d =>
    let d := if s.flag F.FB_CFGn_DIR_INV n then -d else d
    (s.fbEdge n d).countBy n d

/-- An index edge of the filtered Z line, after ZINV, with the filtered levels `lines` (R344, R372 to R374). The CT is that
of the raw edge. -/
def State.fbIndex (s : State) (n lines : Nat) : State :=
  let idx := s.fd F.FB_CFGn_INDEX n
  let c := s.fbChan n
  if idx = 0 ∨ (s.flag F.FB_CFGn_GATE n ∧ lines / 2 ≠ 3) then s
  else
    let same := c.loaded.filter (fun e => e.1 = s.peri)
    let cnt := (same.map (·.2)).getD (s.rg .FB_CNTn n)
    let pos := toSigned 32 (s.fbPosOf n (toSigned 32 cnt))
    let s := (s.setRg .FB_IDXn n 0 cnt).setRg64 .FB_IDXCT_LOn .FB_IDXCT_HIn n (s.ctNs - 4 * s.fd F.FB_FILTn_MIN_EDGE n)
    let s := s.raise F.FB_STATn_IDX F.FB_CNTBn_IDX_CNT n 0
    let s := if idx = 2 ∧ c.armed then
        let s := (s.setFbChan n { s.fbChan n with armed := false }).setFd F.FB_STATn_SUSPECT n 0 0
        if same.isSome then s else s.countLoad n (toSigned 32 (s.rg .FB_LOADn n))
      else s
    (s.homingIndex n pos).fbToken n 2 0

/-! ## The receiver filter (R368, R369) -/

/-- The raw levels become `raw` at PERI cycle `now`, and how many lines return before their change was taken. -/
def FbLines.put (x : FbLines) (raw now : Nat) : FbLines × Nat :=
  let moved := [2, 1, 0].filter (fun i => bit x.raw i != bit raw i)
  let back := moved.filter (fun i => x.wait.any (fun e => e.1 = i))
  let wait := x.wait.filter (fun e => !moved.contains e.1) ++ (moved.filter (fun i => !back.contains i)).map (fun i => (i, now))
  ({ x with raw := raw % 8, wait := wait }, back.length)

/-- The PERI cycle of the next filtered change. -/
def FbLines.nextDue (x : FbLines) (minEdge : Nat) : Option Nat := minOf (x.wait.map (fun e => e.2 + minEdge))

/-- The filtered levels take the raw changes that have held for `minEdge` cycles at `now`. -/
def FbLines.take (x : FbLines) (minEdge now : Nat) : FbLines :=
  let due := x.wait.filter (fun e => e.2 + minEdge ≤ now)
  { x with filt := due.foldl (fun v e => setBits v e.1 e.1 (b2n (bit x.raw e.1))) x.filt,
           wait := x.wait.filter (fun e => now < e.2 + minEdge) }

/-- The filtered levels of channel `n` change to what is due now: an index edge, and in quadrature and Hall mode what the
other lines decode (R370 to R374, R380, R381). -/
def State.fbTake (s : State) (n : Nat) : State :=
  let x := (s.fbChan n).lines
  let y := x.take (s.fd F.FB_FILTn_MIN_EDGE n) s.peri
  let s := s.setFbChan n { s.fbChan n with lines := y }
  let mode := s.fd F.FB_CFGn_MODE n
  if mode = 1 then s
  else
    let z := bit x.filt 0 != bit y.filt 0 && (bit y.filt 0 != s.flag F.FB_CFGn_ZINV n)
    let s := if mode = 0 ∧ z then s.fbIndex n y.filt else s
    if (if mode = 0 then x.filt / 2 = y.filt / 2 else x.filt = y.filt) then s else s.fbDecode n x.filt y.filt

/-- The receiver outputs of channel `n` become `raw` and stay so for `hold` PERI cycles: a line that returns too early is a
fast edge, and the changes that fall due in that time are taken, each in its cycle. The lines of a DISABLED channel are
taken at once (R368, R369). Log 66 (DEDUCED, unsafe). -/
def State.fbRaw (s : State) (n raw hold : Nat) : State :=
  if s.fd F.FB_STATn_STATE n = 0 then
    s.setFbChan n { s.fbChan n with lines := { raw := raw % 8, filt := raw % 8, wait := [] } }
  else
    let stop := s.peri + hold
    let (x, fast) := (s.fbChan n).lines.put raw s.peri
    let s := (s.setFbChan n { s.fbChan n with lines := x }).fbFast n fast
    let s := s.forEach (List.range 3) (fun _ s =>
      match (s.fbChan n).lines.nextDue (s.fd F.FB_FILTn_MIN_EDGE n) with
      | some d => if d ≤ stop then (s.advanceToTick (2 * d)).fbTake n else s
      | none => s)
    if (s.fbChan n).lines.wait = [] then s else s.advanceToTick (2 * stop)

/-- FB_FAST_EDGE: after `dt` ticks a raw receiver pulse of channel `n` returns before MIN_EDGE: it is rejected and counted
as a fast edge (R368, R388). Log 66 (DEDUCED, unsafe). -/
def execFbFastEdge (n dt : Nat) (s : State) : Host.Outcome State Fault Refusal :=
  let s := s.advance dt
  if 32 ≤ n ∨ s.fd F.FB_STATn_STATE n = 0 then .next s else .next (s.fbFast n 1)

/-- The work of a channel at a base-cycle start: the edges of the base cycle that ends decide the mode, and in count mode
the speed is updated (R384). -/
def State.fbCycle (s : State) (n : Nat) : State :=
  let c := s.fbChan n
  let sw := s.fd F.FB_SPDCn_SW_EDGES n
  let latest := c.edges.head?.map (fun e => (e.1, c.total))
  let s := if sw ≤ c.num then s.setFd F.FB_STATn_CNT_MODE n 0 1
    else if 2 * c.num < sw then s.setFd F.FB_STATn_CNT_MODE n 0 0
    else s
  let s := if s.flag F.FB_STATn_CNT_MODE n then
      match latest with
      | some (t, tot) =>
        let base := match c.old, c.turn with
          | some o, some u => if o.1 < u.1 then u else o
          | none, some u => u
          | some o, none => o
          | none, none => (t, tot)
        if base.1 < t then s.setRg .FB_SPDn n 0 (s.fbSpeedWord n (tot - base.2) (4 * (t - base.1)))
        else s.setRg .FB_SPDn n 0 0
      | none => s
    else s
  s.setFbChan n { s.fbChan n with num := 0, old := latest }

/-- The FB work of a base-cycle start: the quadrature and Hall channels that run (R384). -/
def State.fbCycles (s : State) : State :=
  s.forEach ((List.range 32).filter (fun n => decide (s.fd F.FB_STATn_STATE n ≠ 0) && decide (s.fd F.FB_CFGn_MODE n ≠ 1)))
    (fun n s => s.fbCycle n)

/-- FB_STILL_TIMEOUT: no edge, since the last one or since the enable, for STILL_TO × 10 µs (R383). -/
def execFbStillTimeout (n : Nat) (s : State) : Host.Outcome State Fault Refusal :=
  if 32 ≤ n ∨ s.fd F.FB_STATn_STATE n = 0 ∨ s.fd F.FB_CFGn_MODE n = 1 then .next s
  else
    let c := s.fbChan n
    let frm := match c.edges with | e :: _ => e.1 | [] => c.enAt
    let s := s.advanceToTick (2 * (frm + s.fd F.FB_SPDCn_STILL_TO n * 2500))
    .next ((s.setRg .FB_SPDn n 0 0).setFd F.FB_STATn_STILL n 0 1)

/-! ## SSI (R375 to R379) -/

/-- The read time of a channel in ns (R376). Log 67 (DEDUCED, unsafe). -/
def State.ssiReadNs (s : State) (n : Nat) : Nat :=
  8 * (s.fd F.FB_SSIn_DIV n + 1) * (s.fd F.FB_SSIn_BITS n + s.fd F.FB_SSIn_ERR_BITS n + 2) + 4 * s.fd F.FB_SSITn_DLY n

/-- The latch instant of the next read of the base cycle in progress, if one can still end with its TM (R375).
Log 67 (DEDUCED, unsafe). -/
def State.ssiNext (s : State) (n : Nat) : Option Nat :=
  let c := s.fbChan n
  let per := s.fd F.FB_SSITn_PER n * 1000
  let first := s.offsetNs (s.fd F.FB_SSITn_OFS n)
  if c.ssiBcn ≠ some s.time.bcn then some first
  else if per = 0 then none
  else
    let at_ := c.ssiLast + per
    if at_ + s.ssiReadNs n + s.fd F.FB_SSITn_TM n * 1000 ≤ s.time.bcStart + s.lenNs then some at_ else none

/-- SSI_READ_START: the next read begins at its latch instant (R375). Log 67 (DEDUCED, unsafe). -/
def execSsiReadStart (n : Nat) (s : State) : Host.Outcome State Fault Refusal :=
  if 32 ≤ n ∨ s.fd F.FB_STATn_STATE n = 0 ∨ s.fd F.FB_CFGn_MODE n ≠ 1 ∨ s.time.noBase then .next s
  else
    match s.ssiNext n with
    | none => .next s
    | some t =>
      let s := s.advanceTo t
      .next (s.setFbChan n { s.fbChan n with ssiNow := some t, ssiBcn := some s.time.bcn, ssiLast := t })

/-- Gray code to binary, `n` bits. -/
def fromGray : Nat → Nat → Nat
  | 0, _ => 0
  | k + 1, g => let h := fromGray k (g / 2); 2 * h + (g + h) % 2

/-- The read latched at CT ns `t` ends: the line was low before the first clock edge, the position field as sampled, the
error bits, the trailing bit (R376 to R379). Log 67 (DEDUCED, unsafe). -/
def State.ssiEnd (s : State) (n t : Nat) (low : Bool) (field errs : Nat) (trail : Bool) : State :=
  let c := s.fbChan n
  let s := s.setFbChan n { c with ssiNow := none }
  let bits_ := s.fd F.FB_SSIn_BITS n
  let raw := field % 2 ^ bits_
  let v := if s.flag F.FB_SSIn_GRAY n then fromGray bits_ raw else raw
  let badBit := (List.range (s.fd F.FB_SSIn_ERR_BITS n)).any (fun i => bit errs i == s.flag F.FB_SSIn_ERR_POL n)
  let sgn (d : Int) : Int := if s.flag F.FB_CFGn_DIR_INV n then -d else d
  if low || trail || badBit then s.fbFrameError n
  else
    match c.ssiPrev with
    | none =>
      let s := s.setFbChan n { s.fbChan n with ssiPrev := some v, ssiAt := t }
      (s.setCount n (v % 2 ^ 32 : Nat)).setFd F.FB_STATn_SUSPECT n 0 0
    | some u =>
      let d := toSigned bits_ (ofSigned bits_ ((v : Int) - u))
      let jump := s.rg .FB_SSIJn n
      if jump ≠ 0 ∧ (jump : Int) < |d| then s.fbFrameError n
      else
        let s := s.setFbChan n { s.fbChan n with ssiPrev := some v, ssiAt := t }
        let s := s.countBy n (sgn d)
        if t ≤ c.ssiAt then s else s.setRg .FB_SPDn n 0 (s.fbSpeedWord n (sgn d) (t - c.ssiAt))

/-! ## Wires, thresholds, amplitude (R385 to R387) -/

/-- A line of a channel is checked: 0 A, 1 B, 2 Z (R385). -/
def State.lineChecked (s : State) (n l : Nat) : Bool :=
  match s.fd F.FB_CFGn_MODE n with
  | 0 => decide (l < 2) || (decide (l = 2) && decide (s.fd F.FB_CFGn_INDEX n ≠ 0))
  | 1 => decide (l = 0)
  | _ => decide (l < 3)

/-- The comparators of line `l` disagree from now on, and stay so for `hold` ticks, or agree again. A disagreement of at
least WIRE_T × 4 ns counts once (R385). -/
def State.wireSeen (s : State) (n l : Nat) (disagree : Bool) (hold : Nat) : State :=
  let c := s.fbChan n
  let rest := c.wires.filter (fun e => e.1 ≠ l)
  if s.fd F.FB_STATn_STATE n = 0 ∨ ¬ s.lineChecked n l then s.advance hold
  else if ¬ disagree then s.setFbChan n { c with wires := rest }
  else
    let (t, counted) := ((c.wires.find? (fun e => e.1 = l)).map (·.2)).getD (s.time.ticks, false)
    let due := t + 2 * s.fd F.FB_FILTn_WIRE_T n
    let now := counted || decide (due ≤ s.time.ticks + hold)
    let stop := s.time.ticks + hold
    let s := s.setFbChan n { c with wires := rest ++ [(l, t, now)] }
    let s := if now && !counted then (s.advanceToTick due).raise F.FB_STATn_WIRE F.FB_CNTAn_WIRE_CNT n 0 else s
    s.advanceToTick stop

/-- WIRE_FAULT: line `l` has disagreed for WIRE_LIM µs without a break (R385). -/
def execWireFault (n l : Nat) (s : State) : Host.Outcome State Fault Refusal :=
  match (s.fbChan n).wires.find? (fun e => e.1 = l) with
  | none => .next s
  | some e => .next ((s.advanceToTick (e.2.1 + 500 * s.fd F.FB_FILTn_WIRE_LIM n)).fbFault n 0x52)

/-- The amplitude of a line of channel `n`, where a window measured one (R386). -/
def State.putAmp (s : State) (f : Field) (n : Nat) (v : Option Nat) : State :=
  match v with
  | some v => s.setFd f n 0 (min 255 v)
  | none => s

/-- THRESHOLD_WINDOW: the present window of 1 ms ends; the peak amplitude of each line that changed at least twice, in 10 mV
units, and whether each line's voltage lies beyond both the threshold applied and the new one, which then applies
(R386, R387). Log 66 (DEDUCED, unsafe). -/
def execThresholdWindow (n : Nat) (a b z : Option Nat) (beyond : Bool) (s : State) : Host.Outcome State Fault Refusal :=
  if 32 ≤ n ∨ s.fd F.FB_STATn_STATE n = 0 then .next s
  else
    let t := (s.fbChan n).ampAt
    let s := s.advanceToTick (t + 500000)
    let s := s.setFbChan n { s.fbChan n with ampAt := s.time.ticks - (s.time.ticks - t) % 500000 }
    let s := ((s.putAmp F.FB_AMPn_AMP_A n a).putAmp F.FB_AMPn_AMP_B n b).putAmp F.FB_AMPn_AMP_Z n z
    let seen : List (Nat × Nat) := [(0, a), (1, b), (2, z)].filterMap (fun e => e.2.map (fun v => (e.1, min 255 v)))
    let s := if s.flag F.FB_THRn_ADAPT n then
        match seen.map (·.2) with
        | [] => s
        | x :: xs =>
          let least := xs.foldl min x
          let thr := s.fd F.FB_THRn_THR n
          let next := if 4 * thr < least then thr + 1 else if least < 4 * thr then thr - 1 else thr
          s.setFd F.FB_THRn_THR n 0 (max (s.fd F.FB_THRn_THR_MIN n) (min (s.fd F.FB_THRn_THR_MAX n) next))
      else s
    let lim := s.fd F.FB_THRn_AMP_MIN n
    let checked := seen.filter (fun e => s.lineChecked n e.1)
    let lows := (checked.filter (fun e => e.2 < lim)).map (·.1)
    let c := s.fbChan n
    let fell := lows.any (fun l => !c.low.contains l)
    let keep := c.low.filter (fun l => !(checked.any (fun e => e.1 = l && decide (lim ≤ e.2))))
    let s := s.setFbChan n { c with low := addLines keep lows, thr := if beyond then s.fd F.FB_THRn_THR n else c.thr }
    if fell then .next ((s.raise F.FB_STATn_AMP_LOW F.FB_CNTBn_AMP_CNT n 0).fbToken n 3 0) else .next s

/-! ## Commands and enables (R373, R374, R391, R395, R398, R399) -/

/-- The registers of R395 may be written: THAL is 0, or the safety lock is open (R8, R395). -/
def State.fbUnlocked (s : State) (n : Nat) : Bool :=
  !s.flag F.FB_CFGn_THAL n || decide (s.fd F.TH_MB_STAT_STATE ≠ 0)

/-- The checks of R398 for the configuration as it stands. -/
def State.fbEnableFail (s : State) (n : Nat) : Option Nat :=
  let mode := s.fd F.FB_CFGn_MODE n
  let rep := s.fd F.FB_CFGn_REP n
  let idx := s.fd F.FB_CFGn_INDEX n
  let lo := s.fd F.FB_THRn_THR_MIN n
  let hi := s.fd F.FB_THRn_THR_MAX n
  let thr := s.fd F.FB_THRn_THR n
  let bits_ := s.fd F.FB_SSIn_BITS n
  let div := s.fd F.FB_SSIn_DIV n
  let tm := s.fd F.FB_SSITn_TM n * 1000
  let per := s.fd F.FB_SSITn_PER n * 1000
  if mode = 3 ∨ idx = 3 ∨ rep = 3 ∨ s.fd F.FB_FILTn_MIN_EDGE n = 0 ∨ thr < 2 ∨ 30 < thr ∨ lo < 2 ∨ hi < lo ∨ 30 < hi ∨
      s.fd F.FB_SPDCn_SW_EDGES n < 8 ∨ s.fd F.FB_SPDCn_STILL_TO n = 0 ∨ s.fd F.FB_REPn_REP_EDGE n < 5 then some 0x03
  else if mode = 1 ∧ (bits_ < 8 ∨ 40 < bits_ ∨ 48 < bits_ + s.fd F.FB_SSIn_ERR_BITS n ∨ div < 12 ∨ 1249 < div ∨ tm = 0) then
    some 0x03
  else if mode = 1 ∧ (s.lenNs < s.fd F.FB_SSITn_OFS n * 250 + s.ssiReadNs n + tm ∨ (per ≠ 0 ∧ per < s.ssiReadNs n + tm)) then
    some 0x54
  else if 16 ≤ n ∧ rep ≠ 0 then some 0x55
  else if (rep = 1 ∨ idx ≠ 0) ∧ mode ≠ 0 then some 0x04
  else if (List.range 256).any (fun a => decide (axFb (s.axLive a) = some n) && (axRotary (s.axLive a) != s.flag F.FB_CFGn_ROT n)) then
    some 0x04
  else none

/-- A write of FB_CFGn (R12, R395, R398, R399): while EN is 1 only EN may change. Log 13 (DEDUCED, unsafe). -/
def writeFbCfg (q : Requester) (n : Nat) (v : Word) (s : State) : State :=
  let w := v.toNat
  let old := s.rg .FB_CFGn n
  let rw := 0x000033F7 - 1
  let was := s.flag F.FB_CFGn_EN n
  let on := decide (F.FB_CFGn_EN.of w = 1)
  if ¬ s.fbUnlocked n ∧ (w &&& 0x33F7) ≠ (old &&& 0x33F7) then s.refuse q .FB_CFGn n 0 0x06
  else if was && decide ((w &&& rw) ≠ (old &&& rw)) then s.refuse q .FB_CFGn n 0 0x02
  else
    let s := s.setRg .FB_CFGn n 0 ((old &&& 0xFF010000) ||| (w &&& rw) ||| b2n was)
    if on && !was then
      match s.fbEnableFail n with
      | some c => s.refuse q .FB_CFGn n 0 c
      | none =>
        let x := (s.fbChan n).lines
        let s := (s.setFd F.FB_CFGn_EN n 0 1).setFbChan n { fbChanReset with
          lines := { x with filt := x.raw, wait := [] }, enAt := s.peri, ampAt := s.time.ticks, thr := s.fd F.FB_THRn_THR n,
          winNo := s.time.bcn / 1024 }
        let s := (s.setRg .FB_SPDn n 0 0).setCount n 0
        (((s.setFd F.FB_STATn_STATE n 0 1).setFd F.FB_STATn_VALID n 0 1).setFd F.FB_STATn_STILL n 0 0).setFd F.FB_STATn_CNT_MODE n 0 0
    else if was && !on then
      let s := s.setFd F.FB_CFGn_EN n 0 0
      ((s.setFd F.FB_STATn_STATE n 0 0).setFd F.FB_STATn_VALID n 0 0).cmpDisarm
    else s

/-- A write of another register of R395: refused with LOCKED while THAL holds it, with STATE while EN is 1. -/
def writeFbParam (q : Requester) (r : Reg) (n : Nat) (v : Word) (s : State) : State :=
  let new := (s.rg r n &&& (2 ^ 32 - 1 - r.row.rw)) ||| (v.toNat &&& r.row.rw)
  if ¬ s.fbUnlocked n ∧ new ≠ s.rg r n then s.refuse q r n 0 0x06
  else if s.flag F.FB_CFGn_EN n then s.refuse q r n 0 0x02
  else if s.flag F.FB_CFGn_THAL n && decide (r = .FB_THRn) then
    (s.setRg r n 0 (setBits (setBits new 7 7 0) 4 0 (s.fd F.FB_THRn_THR n))).fbShow n
  else (s.setRg r n 0 new).fbShow n

/-- A write of FB_CMDn: ARM_IDX, CLEAR and LOAD, each on its own. CLEAR leaves a channel in FAULT whose fault lies in the same
PERI cycle; LOAD acts at the next PERI cycle, for which the write waits (R373, R374, R391). Log 67 (DEDUCED, unsafe). -/
def writeFbCmd (q : Requester) (n : Nat) (v : Word) (s : State) : State :=
  let w := v.toNat
  let s := if bit w 2 then
      if s.fd F.FB_CFGn_INDEX n = 2 then s.setFbChan n { s.fbChan n with armed := true } else s.refuse q .FB_CMDn n 0 0x02
    else s
  let s := if bit w 0 then
      if s.fd F.FB_STATn_STATE n = 2 ∧ (s.fbChan n).wires = [] then
        let s := s.setFbChan n { s.fbChan n with winQ := 0, winF := 0, winS := 0, ssiPrev := none }
        if (s.fbChan n).faultAt = some s.peri then s
        else (s.setFd F.FB_STATn_STATE n 0 1).setFd F.FB_STATn_VALID n 0 1
      else s.refuse q .FB_CMDn n 0 0x02
    else s
  if bit w 1 then
    let s := s.advanceToTick (2 * (s.peri + 1))
    let s := s.setFbChan n { s.fbChan n with loaded := some (s.peri, s.rg .FB_CNTn n) }
    (s.countLoad n (toSigned 32 (s.rg .FB_LOADn n))).setFd F.FB_STATn_SUSPECT n 0 0
  else s

/-- FB_ARM_IDX: a write of FB_CMDn.ARM_IDX (R373). -/
def execFbArmIdx (q : Requester) (n : Nat) (s : State) : Host.Outcome State Fault Refusal :=
  s.write q .FB_CMDn n 0 (writeFbCmd q n 4)

/-- FB_LOAD: a write of FB_CMDn.LOAD (R374). -/
def execFbLoad (q : Requester) (n : Nat) (s : State) : Host.Outcome State Fault Refusal :=
  s.write q .FB_CMDn n 0 (writeFbCmd q n 2)

/-- FB_CLEAR: a write of FB_CMDn.CLEAR (R391). -/
def execFbClear (q : Requester) (n : Nat) (s : State) : Host.Outcome State Fault Refusal :=
  s.write q .FB_CMDn n 0 (writeFbCmd q n 1)

/-- FB_ENABLE: a write of FB_CFGn (R398). -/
def execFbEnable (q : Requester) (n : Nat) (v : Word) (s : State) : Host.Outcome State Fault Refusal :=
  s.write q .FB_CFGn n 0 (writeFbCfg q n v)

end Sys2Proof.Machine
end

