-- ==== Sys2Proof/Machine/Crypto.lean ====
section
/-!
DEFINITION. SHA-256 and ECDSA P-256 verification, as R590, R600 and R601 name them (assumption 51: the spec names the
algorithms; their definitions are FIPS 180-4 and FIPS 186-4).
-/

namespace Sys2Proof.Machine

/-! ## SHA-256 -/

/-- The first 32 bits after the binary point of the k-th root of `n`, a root below 2^32. -/
def rootFraction (k n : Nat) : BitVec 32 := BitVec.ofNat 32 (rootBelow k (n * 2 ^ (32 * k)) 64 0)

/-- The primes below 312: the first 64. -/
def smallPrimes : List Nat :=
  (List.range 312).filter (fun n => decide (2 ≤ n) && (List.range 18).all (fun d => d < 2 || n < d * d || n % d ≠ 0))

/-- The round constants: of the cube roots of the first 64 primes. -/
def shaK : List (BitVec 32) := smallPrimes.map (rootFraction 3)

/-- The initial hash value: of the square roots of the first 8 primes. -/
def shaInit : List (BitVec 32) := (smallPrimes.take 8).map (rootFraction 2)

/-- A big-endian number of a list of bytes. -/
def ofBe (bs : List Byte) : Nat := bs.foldl (fun a b => a * 256 + b.toNat) 0

/-- `n` words of a block, four bytes each. Log 52 (DEDUCED, unsafe). -/
def beWords : Nat → List Byte → List (BitVec 32)
  | 0, _ => []
  | n + 1, bs => BitVec.ofNat 32 (ofBe (bs.take 4)) :: beWords n (bs.drop 4)

/-- A word turned right by `i`, by `j`, and turned (`k` below 32) or shifted (`k - 32`) the third time. -/
def shaMix (i j k : Nat) (x : BitVec 32) : BitVec 32 :=
  x.rotateRight i ^^^ x.rotateRight j ^^^ (if k < 32 then x.rotateRight k else x >>> (k - 32))

/-- The schedule of a block, newest word first, with one more word. -/
def shaMore (w : List (BitVec 32)) : List (BitVec 32) :=
  let back (k : Nat) : BitVec 32 := w.getD (k - 1) 0
  (shaMix 17 19 42 (back 2) + back 7 + shaMix 7 18 35 (back 15) + back 16) :: w

/-- One round on the eight working words; `kw` is the sum of the round constant and the word of the schedule. -/
def shaRound (v : List (BitVec 32)) (kw : BitVec 32) : List (BitVec 32) :=
  match v with
  | [a, b, c, d, e, f, g, h] =>
    let t := kw + h + ((e &&& (f ^^^ g)) ^^^ g) + shaMix 6 11 25 e
    [((a &&& (b ||| c)) ||| (b &&& c)) + shaMix 2 13 22 a + t, a, b, c, t + d, e, f, g]
  | v => v

/-- One 64-byte block. Log 51 (PRESUMED, unsafe). -/
def shaBlock (v : List (BitVec 32)) (bs : List Byte) : List (BitVec 32) :=
  let w := ((List.range 48).foldl (fun w _ => shaMore w) (beWords 16 bs).reverse).reverse
  List.zipWith (· + ·) v ((List.zipWith (· + ·) shaK w).foldl shaRound v)

/-- `n` blocks. -/
def shaBlocks : Nat → List (BitVec 32) → List Byte → List (BitVec 32)
  | 0, v, _ => v
  | n + 1, v, bs => shaBlocks n (shaBlock v (bs.take 64)) (bs.drop 64)

/-- The SHA-256 digest of a message, as the number its 32 bytes spell, the first byte highest.
Log 51 (PRESUMED, unsafe). -/
def sha256 (m : List Byte) : Nat :=
  let zeros := (119 - m.length % 64) % 64
  let bs := (m ++ 0x80 :: List.replicate zeros 0) ++ (leBytes 8 (8 * m.length)).reverse
  (shaBlocks (bs.length / 64) shaInit bs).foldl (fun n w => n * 2 ^ 32 + w.toNat) 0

/-! ## ECDSA over P-256 -/

/-- The prime, the coefficient b, the order and the base point of P-256. -/
def p256P : Nat := 0xffffffff00000001000000000000000000000000ffffffffffffffffffffffff
def p256B : Nat := 0x5ac635d8aa3a93e7b3ebbd55769886bc651d06b0cc53b0f63bce3c3e27d2604b
def p256N : Nat := 0xffffffff00000000ffffffffffffffffbce6faada7179e84f3b9cac2fc632551
def p256Gx : Nat := 0x6b17d1f2e12c4247f8bce6e563a440f277037d812deb33a0f4a13945d898c296
def p256Gy : Nat := 0x4fe342e2fe1a7f9b8ee7eb4a7c0f9e162bce33576b315ececbb6406837bf51f5

/-- `b` to the power whose `n` low bits stand in `e`, modulo `m`. -/
def powMod (m : Nat) : Nat → Nat → Nat → Nat
  | 0, _, _ => 1 % m
  | n + 1, b, e =>
    let r := powMod m n (b * b % m) (e / 2)
    if e % 2 = 1 then r * b % m else r

/-- The inverse modulo a prime. -/
def invMod (m a : Nat) : Nat := powMod m 256 (a % m) (m - 2)

/-- The sum of two points of the curve; none is the point at infinity. -/
def ecAdd (x y : Option (Nat × Nat)) : Option (Nat × Nat) :=
  match x, y with
  | none, q => q
  | p, none => p
  | some (x1, y1), some (x2, y2) =>
    let m := p256P
    if x1 = x2 ∧ (y1 + y2) % m = 0 then none
    else
      let l := if x1 = x2 then (3 * x1 * x1 + (m - 3)) * invMod m (2 * y1) % m
        else (y2 + (m - y1)) * invMod m (x2 + (m - x1)) % m
      let x3 := (l * l + (m - x1) + (m - x2)) % m
      some (x3, (l * (x1 + (m - x3)) + (m - y1)) % m)

/-- `k` times a point, by the `n` low bits of `k`. Log 51 (PRESUMED, unsafe). -/
def ecMul : Nat → Nat → Option (Nat × Nat) → Option (Nat × Nat)
  | 0, _, _ => none
  | n + 1, k, p =>
    let r := ecMul n (k / 2) (ecAdd p p)
    if k % 2 = 1 then ecAdd p r else r

/-- The point lies on the curve. -/
def onCurve (x y : Nat) : Bool :=
  decide (x < p256P) && decide (y < p256P) &&
    decide (y * y % p256P = (x * x * x + (p256P - 3) * x + p256B) % p256P)

/-- The signature (r, s) over a digest verifies with the public key (x, y). Log 51 (PRESUMED, unsafe). -/
def ecdsaVerify (x y digest r s : Nat) : Bool :=
  let n := p256N
  if r = 0 ∨ n ≤ r ∨ s = 0 ∨ n ≤ s ∨ ¬ onCurve x y then false
  else
    let w := invMod n s
    match ecAdd (ecMul 256 (digest * w % n) (some (p256Gx, p256Gy))) (ecMul 256 (r * w % n) (some (x, y))) with
    | none => false
    | some (x1, _) => decide (x1 % n = r)

/-- A signature of 64 bytes, r then s, over a message with a 64-byte public key, x then y; each number stands least
significant byte first (R1; assumption 52). Log 52 (DEDUCED, unsafe). -/
def signed (key sig msg : List Byte) : Bool :=
  ecdsaVerify (ofLe (key.take 32)) (ofLe (key.drop 32)) (sha256 msg) (ofLe (sig.take 32)) (ofLe (sig.drop 32))

end Sys2Proof.Machine
end

