-- ==== Sys2Proof/Machine/CoreMem.lean ====
section
/-!
DEFINITION. The address map of a core (R181, R182) and its byte memories: the core's TCM, its code window (R553), the
slice-shared SRAM, spine SRAM and DRAM.
-/

namespace Sys2Proof.Machine

/-- Where a core address lies: a memory with its own offset, the register window, or nowhere. -/
inductive Place where
  | tcm (o : Nat) | win (o : Nat) | shared (o : Nat) | sram (o : Nat) | dram (o : Nat) | reg (o : Nat) | nowhere
  deriving DecidableEq, Repr

/-- The code-window bank of core `n`: that of the instance it serves, else the selected one (R553). -/
def State.coreBank (s : State) (n : Nat) : Nat :=
  match (s.core n).svc with
  | some v => v.bank
  | none => s.fd F.SV_IMG_STAT_WINDOW

/-- The place of address `a` as core `n` sees it (R181, R553). -/
def State.place (s : State) (n a : Nat) : Place :=
  if a < 0x70000 then .tcm (n * 0x80000 + a)
  else if a < 0x80000 then .win ((n * 2 + s.coreBank n % 2) * 0x10000 + (a - 0x70000))
  else if 0x1000000 ≤ a ∧ a < 0x1100000 then .shared (n / 4 * 0x100000 + (a - 0x1000000))
  else if 0x10000000 ≤ a ∧ a < 0x11000000 then .sram (a - 0x10000000)
  else if 0x40000000 ≤ a ∧ a < 0x44000000 then .reg (a - 0x40000000)
  else if 0x80000000 ≤ a ∧ a < 0x100000000 then .dram (a - 0x80000000)
  else .nowhere

/-- `n` bytes of a place that is a memory. -/
def State.placeBytes (s : State) (p : Place) (n : Nat) : List Byte :=
  match p with
  | .tcm o => Mem.readN s.mem.tcm o n
  | .win o => Mem.readN s.mem.win o n
  | .shared o => Mem.readN s.mem.shared o n
  | .sram o => Mem.readN s.mem.sram o n
  | .dram o => Mem.readN s.mem.dram o n
  | _ => []

/-- The lines of a slice's memory that a store of `n` bytes to a place marks dirty for a migration: TCM lines first, then
the slice-shared SRAM (R546). Log 57 (DEDUCED, unsafe). -/
def dirtyLines (sl : Nat) (p : Place) (n : Nat) : List Nat :=
  match p with
  | .tcm o => if o / 0x200000 = sl then linesOf (o - sl * 0x200000) n else []
  | .shared o => if o / 0x100000 = sl then (linesOf (o - sl * 0x100000) n).map (0x8000 + ·) else []
  | _ => []

/-- A store to the memory of a slice that is being migrated marks its lines dirty (R546). Log 57 (DEDUCED, unsafe). -/
def State.noteDirty (s : State) (p : Place) (n : Nat) : State :=
  match s.sv.mig with
  | some m =>
    { s with sv := { s.sv with mig := some { m with
      dirty := addLines (m.waiting s.time.ticks) (dirtyLines m.source p n), dirtyAt := s.time.ticks } } }
  | none => s

/-- Bytes stored to a place. The code window and the register window take none here. -/
def State.placeWrite (s : State) (p : Place) (bs : List Byte) : State :=
  match p with
  | .tcm o => ({ s with mem := { s.mem with tcm := Mem.writeN s.mem.tcm o bs } }).noteDirty p bs.length
  | .shared o => ({ s with mem := { s.mem with shared := Mem.writeN s.mem.shared o bs } }).noteDirty p bs.length
  | .sram o => s.sramWrite o bs
  | .dram o => { s with mem := { s.mem with dram := Mem.writeN s.mem.dram o bs } }
  | _ => s

/-- `n` bytes at a core address, and the state with bytes stored there: the run lies in one memory. -/
def State.coreBytes (s : State) (c a n : Nat) : List Byte :=
  if a < 0x70000 ∧ 0x70000 < a + n then
    s.placeBytes (s.place c a) (0x70000 - a) ++ s.placeBytes (s.place c 0x70000) (n - (0x70000 - a))
  else s.placeBytes (s.place c a) n

def State.coreWrite (s : State) (c a : Nat) (bs : List Byte) : State :=
  s.placeWrite (s.place c a) (if a < 0x70000 then bs.take (0x70000 - a) else bs)

/-- `n` bytes at `a` lie wholly in the core's TCM, its slice-shared SRAM or spine SRAM (R207, R276). -/
def inLocal (a n : Nat) : Bool :=
  decide (a + n ≤ 0x80000) || (decide (0x1000000 ≤ a) && decide (a + n ≤ 0x1100000)) ||
    (decide (0x10000000 ≤ a) && decide (a + n ≤ 0x11000000))

/-- `n` bytes at `a` lie wholly in spine SRAM. -/
def inSpine (a n : Nat) : Bool := decide (0x10000000 ≤ a) && decide (a + n ≤ 0x11000000)

end Sys2Proof.Machine
end

