-- ==== Sys2Proof/Machine/Kinematics.lean ====
section
/-!
DEFINITION. The kernels (R263, R264, R267 to R273) as computations of a cluster's lanes: forward kinematics, Jacobian,
inverse kinematics, inverse and forward dynamics, and the capsules of an arm group. Lengths are in mm, angles in rad,
masses in kg, inertias in kg·m²; forces come from mm/s² by 1/1000.
-/

namespace Sys2Proof.Machine

/-! ## The arm model (R263, R264) -/

/-- The word at byte `b`, in a class with FRAC `f`. -/
def valAt (bs : List Byte) (b f : Nat) : ℚ := wordVal f (signedAt bs b 4)
def vecAt (bs : List Byte) (b f : Nat) : V3 := ⟨valAt bs b f, valAt bs (b + 4) f, valAt bs (b + 8) f⟩
def quatAt (bs : List Byte) (b : Nat) : Quat := ⟨valAt bs b 30, vecAt bs (b + 4) 30⟩

/-- A link entry. -/
structure Link where
  prismatic : Bool
  parent : Nat
  offset : V3
  turn : Quat
  axis : V3
  mass : ℚ
  com : V3
  /-- Ixx, Iyy, Izz and Ixy, Ixz, Iyz about the centre of mass. -/
  diag : V3
  off : V3
  fricV : ℚ
  fricC : ℚ
  arm : ℚ
  deriving DecidableEq, Repr

/-- Link entry `k` of a model. -/
def linkAt (m : List Byte) (k : Nat) : Link :=
  let o := 64 + 96 * k
  { prismatic := decide (fieldAt m o 1 = 1), parent := fieldAt m (o + 1) 1, offset := vecAt m (o + 4) 16,
    turn := quatAt m (o + 16), axis := vecAt m (o + 32) 30, mass := valAt m (o + 44) 16, com := vecAt m (o + 48) 16,
    diag := vecAt m (o + 60) 16, off := vecAt m (o + 72) 16, fricV := valAt m (o + 84) 16, fricC := valAt m (o + 88) 16,
    arm := valAt m (o + 92) 16 }

/-- An arm as a kernel sees it: the base frame, the links, and the model header. -/
structure Arm where
  basePos : V3
  baseRot : Quat
  links : List Link
  toolLink : Nat
  toolPos : V3
  toolRot : Quat
  gravity : V3
  payMass : ℚ
  payCom : V3
  deriving DecidableEq, Repr

/-- The arm of an arm group record and a model copy. -/
def armOf (rec_ m : List Byte) : Arm :=
  { basePos := vecAt rec_ 24 16, baseRot := quatAt rec_ 36, links := (List.range (fieldAt m 1 1)).map (linkAt m),
    toolLink := fieldAt m 2 1, toolPos := vecAt m 4 16, toolRot := quatAt m 16, gravity := vecAt m 32 16,
    payMass := valAt m 44 16, payCom := vecAt m 48 16 }

/-- Classes of a joint's position, speed, acceleration and effort (R252). -/
def posClass (prismatic : Bool) : Nat := if prismatic then 0 else 1
def velClass (prismatic : Bool) : Nat := if prismatic then 2 else 3
def accClass (prismatic : Bool) : Nat := if prismatic then 4 else 5
def effClass (prismatic : Bool) : Nat := if prismatic then 7 else 6

/-! ## Frames (R267) -/

/-- The frame of a link, with its joint's origin and its axis in the cell frame. -/
structure LinkFrame where
  pose : Pose
  origin : V3
  axis : V3
  deriving DecidableEq, Repr

/-- The frame of a link with joint value `q`, on its parent's frame. -/
def Lanes.linkFrame (x : Lanes) (par : Pose) (l : Link) (q : ℚ) : Calc LinkFrame := do
  let j ← x.comp par l.offset l.turn
  let z ← x.turn 60 8 j.m V3.zero l.axis
  if l.prismatic then
    let p ← x.vec 46 0 [(j.p, 1), (z, q)] []
    .ok ⟨{ j with p := p }, j.p, z⟩
  else
    let e := cosSin (q / 2)
    let c ← x.narrow 8 e.1
    let s ← x.narrow 8 e.2
    let r ← x.qmul j.r ⟨c, ← x.vec 60 8 [(l.axis, s)] []⟩
    .ok ⟨← x.pose j.p r, j.p, z⟩

/-- The frames of the links, in order, after those already found. -/
def Lanes.linkFrames (x : Lanes) (base : Pose) : List Link → List ℚ → List LinkFrame → Calc (List LinkFrame)
  | [], _, fs => .ok fs
  | l :: ls, q, fs =>
    let par := if l.parent = 0xFF then base else (fs[l.parent]?.map LinkFrame.pose).getD base
    (x.linkFrame par l (q.headD 0)).bind (fun f => x.linkFrames base ls q.tail (fs ++ [f]))

/-- The base frame and the frames of the links. -/
def Lanes.frames (x : Lanes) (a : Arm) (q : List ℚ) : Calc (Pose × List LinkFrame) := do
  let base ← x.pose a.basePos a.baseRot
  .ok (base, ← x.linkFrames base a.links q [])

/-- The frame of link `k`; the base frame for a number that is no link's. -/
def frameOf (fs : Pose × List LinkFrame) (k : Nat) : Pose := (fs.2[k]?.map LinkFrame.pose).getD fs.1

/-- The tool frame. -/
def Lanes.toolPose (x : Lanes) (a : Arm) (fs : Pose × List LinkFrame) : Calc Pose :=
  x.comp (frameOf fs a.toolLink) a.toolPos a.toolRot

/-- Link `k` lies on the path from the base to link `j`; `fuel` bounds the walk. -/
def Arm.onPath (a : Arm) (k : Nat) : Nat → Nat → Bool
  | 0, _ => false
  | fuel + 1, j => decide (j = k) || (match a.links[j]? with
    | some l => if l.parent = 0xFF then false else a.onPath k fuel l.parent
    | none => false)

/-- A link moves with joint `k`. -/
def Arm.moves (a : Arm) (k j : Nat) : Bool := a.onPath k 17 j

/-- The links with their frames and numbers. -/
def Arm.joints (a : Arm) (fs : Pose × List LinkFrame) : List ((Link × LinkFrame) × Nat) := (a.links.zip fs.2).zipIdx

/-- FK: the frames of the links, the tool last. Log 50 (DEDUCED, unsafe). -/
def Lanes.fk (x : Lanes) (a : Arm) (q : List ℚ) : Calc (List Pose) := do
  let fs ← x.frames a q
  .ok (fs.2.map LinkFrame.pose ++ [← x.toolPose a fs])

/-- The Jacobian's columns for a point `p` of link `j`: linear and angular part (R269). -/
def Lanes.jacAt (x : Lanes) (a : Arm) (fs : Pose × List LinkFrame) (j : Nat) (p : V3) : Calc (List (V3 × V3)) :=
  (a.joints fs).mapM (fun e =>
    let (l, f) := e.1
    if ¬ a.moves e.2 j then .ok (V3.zero, V3.zero)
    else if l.prismatic then do .ok (← x.vec 46 11 [(f.axis, 1)] [], V3.zero)
    else do
      let d ← x.vec 16 0 [(p, 1), (f.origin, -1)] []
      .ok (← x.vec 46 11 [] [(f.axis, d)], f.axis))

/-- JAC: the tool frame and the columns for the tool origin. Log 50 (DEDUCED, unsafe). -/
def Lanes.jac (x : Lanes) (a : Arm) (q : List ℚ) : Calc (Pose × List (V3 × V3)) := do
  let fs ← x.frames a q
  let t ← x.toolPose a fs
  .ok (t, ← x.jacAt a fs a.toolLink t.p)

/-! ## Inverse dynamics (R270) -/

/-- The motion of a link: angular speed and acceleration, and the acceleration of its frame's origin. -/
structure LinkMotion where
  w : V3
  al : V3
  a : V3
  deriving DecidableEq, Repr

/-- The acceleration of a point fixed to a body, `d` from the body's reference point. -/
def Lanes.accelAt (x : Lanes) (m : LinkMotion) (d : V3) : Calc V3 := do
  let v ← x.vec 32 2 [] [(m.w, d)]
  x.vec 32 4 [(m.a, 1)] [(m.al, d), (m.w, v)]

/-- The motion of a link whose parent, with its origin at `o`, moves as `m`. -/
def Lanes.linkMotion (x : Lanes) (l : Link) (f : LinkFrame) (o : V3) (m : LinkMotion) (qd qdd : ℚ) : Calc LinkMotion := do
  let d ← x.vec 16 0 [(f.pose.p, 1), (o, -1)] []
  let a ← x.accelAt m d
  let v ← x.vec 46 (velClass l.prismatic) [(f.axis, qd)] []
  if l.prismatic then .ok ⟨m.w, m.al, ← x.vec 46 4 [(a, 1), (f.axis, qdd)] [(m.w, v), (m.w, v)]⟩
  else .ok ⟨← x.vec 46 3 [(m.w, 1), (f.axis, qd)] [], ← x.vec 46 5 [(m.al, 1), (f.axis, qdd)] [(m.w, v)], a⟩

/-- The motions of the links, in order, after those already found; the base carries the negative of gravity. -/
def Lanes.motions (x : Lanes) (base : V3) (still : LinkMotion) : List (Link × LinkFrame) → List ℚ → List ℚ →
    List (LinkFrame × LinkMotion) → Calc (List (LinkFrame × LinkMotion))
  | [], _, _, ms => .ok ms
  | (l, f) :: r, qd, qdd, ms =>
    let par := if l.parent = 0xFF then (base, still)
      else (ms[l.parent]?.map (fun e => (e.1.pose.p, e.2))).getD (base, still)
    (x.linkMotion l f par.1 par.2 (qd.headD 0) (qdd.headD 0)).bind (fun m =>
      x.motions base still r qd.tail qdd.tail (ms ++ [(f, m)]))

/-- Force and moment of a mass at `c`, about the origin of a link's frame. -/
def Lanes.massLoad (x : Lanes) (f : LinkFrame) (m : LinkMotion) (mass : ℚ) (c : V3) : Calc (V3 × V3) := do
  let d ← x.vec 16 0 [(c, 1), (f.pose.p, -1)] []
  let a ← x.accelAt m d
  let fo ← x.vec 32 7 [(a, mass / 1000)] []
  .ok (fo, ← x.vec 32 6 [] [(d.scale (1 / 1000), fo)])

/-- The inertia of a link applied to a vector, both in the link's axes, in class `c`. Log 50 (DEDUCED, unsafe). -/
def Lanes.inertia (x : Lanes) (c : Nat) (l : Link) (u : V3) : Calc V3 :=
  x.vec 32 c [(⟨l.diag.x, l.off.x, l.off.y⟩, u.x), (⟨l.off.x, l.diag.y, l.off.z⟩, u.y),
    (⟨l.off.y, l.off.z, l.diag.z⟩, u.z)] []

/-- Force and moment that a link's own mass and inertia ask for, about the origin of its frame. -/
def Lanes.linkLoad (x : Lanes) (l : Link) (f : LinkFrame) (m : LinkMotion) : Calc (V3 × V3) := do
  let (fo, n) ← x.massLoad f m l.mass (← x.point f.pose l.com)
  let w ← x.turnBack 46 3 f.pose.m m.w
  let al ← x.turnBack 46 5 f.pose.m m.al
  let b ← x.vec 32 6 [(← x.inertia 6 l al, 1)] [(w, ← x.inertia 10 l w)]
  .ok (fo, ← x.vec 46 6 [(n, 1), (f.pose.m.a, b.x), (f.pose.m.b, b.y), (f.pose.m.c, b.z)] [])

/-- Loads gathered from the last link inwards: each link's load joins its parent's. -/
def Lanes.inward (x : Lanes) (links : List Link) (fs : List LinkFrame) : Nat → List (V3 × V3) → Calc (List (V3 × V3))
  | 0, l => .ok l
  | k + 1, l =>
    match links[k]?, fs[k]?, l[k]? with
    | some ln, some f, some (fo, n) =>
      match fs[ln.parent]?, l[ln.parent]? with
      | some g, some (fp, np) =>
        if ln.parent = 0xFF then x.inward links fs k l
        else
          (x.vec 32 7 [(fp, 1), (fo, 1)] []).bind (fun f' =>
            (x.vec 16 0 [(f.pose.p, 1), (g.pose.p, -1)] []).bind (fun d =>
              (x.vec 32 6 [(np, 1), (n, 1)] [(d.scale (1 / 1000), fo)]).bind (fun n' =>
                x.inward links fs k (l.set ln.parent (f', n')))))
      | _, _ => x.inward links fs k l
    | _, _, _ => .ok l

/-- Sign of a speed: 0 at 0 (R270). -/
def sgnQ (q : ℚ) : ℚ := if 0 < q then 1 else if q < 0 then -1 else 0

/-- The efforts of the joints with the parts that TERMS selects, at frames already found (R270). -/
def Lanes.efforts (x : Lanes) (a : Arm) (terms : Nat) (fs : Pose × List LinkFrame) (qd qdd : List ℚ) : Calc (List ℚ) := do
  let on (b : Nat) (l : List ℚ) : List ℚ := if bit terms b then l else l.map (fun _ => 0)
  let still : LinkMotion := ⟨V3.zero, V3.zero, if bit terms 0 then a.gravity.scale (-1) else V3.zero⟩
  let ms ← x.motions fs.1.p still (a.links.zip fs.2) (on 1 qd) (on 2 qdd) []
  let own ← (a.links.zip ms).mapM (fun e => x.linkLoad e.1 e.2.1 e.2.2)
  let loads ← match bit terms 5, ms[a.toolLink]?, own[a.toolLink]? with
    | true, some (f, m), some (fo, n) => do
      let t ← x.toolPose a fs
      let (fp, np) ← x.massLoad f m a.payMass (← x.point t a.payCom)
      pure (own.set a.toolLink (← x.vec 32 7 [(fo, 1), (fp, 1)] [], ← x.vec 32 6 [(n, 1), (np, 1)] []))
    | _, _, _ => pure own
  let sums ← x.inward a.links fs.2 a.links.length loads
  ((a.links.zip fs.2).zip (sums.zip (qd.zip qdd))).mapM (fun e =>
    let ((l, f), (fo, n), v, u) := e
    let t := if l.prismatic then fo else n
    x.dot 46 (effClass l.prismatic) ([(f.axis.x, t.x), (f.axis.y, t.y), (f.axis.z, t.z)] ++
      (if bit terms 3 then [(l.fricV, v), (l.fricC, sgnQ v)] else []) ++
      (if bit terms 4 then [(l.arm, if l.prismatic then u / 1000 else u)] else [])))

/-- RNEA (R270). Log 50 (DEDUCED, unsafe). -/
def Lanes.rnea (x : Lanes) (a : Arm) (terms : Nat) (q qd qdd : List ℚ) : Calc (List ℚ) := do
  x.efforts a terms (← x.frames a q) qd qdd

/-- The class of an entry of the joint-space inertia: MASS between prismatic joints, else INER; `p`, `r` tell whether the
joints are prismatic. Log 50 (DEDUCED, unsafe). -/
def massClass (p r : Bool) : Nat := if p && r then 9 else 10

/-- The joint-space inertia at frames already found, column by column, for accelerations in m/s² of prismatic joints: each
column comes from a unit acceleration of its joint, and its entries are words of MASS and INER. `terms`: bit 4 ARMATURE, bit 5
PAYLOAD. Log 50 (DEDUCED, unsafe). -/
def Lanes.massCols (x : Lanes) (a : Arm) (terms : Nat) (fs : Pose × List LinkFrame) : Calc (List (List ℚ)) :=
  let zero := List.replicate a.links.length (0 : ℚ)
  a.links.zipIdx.mapM (fun e => do
    let col ← ({ x with exact := true } : Lanes).efforts a (4 + (terms &&& 0x30)) fs zero
      (zero.set e.2 (if e.1.prismatic then 1000 else 1))
    (a.links.zip col).mapM (fun c => x.narrow (massClass c.1.prismatic e.1.prismatic) c.2))

/-! ## Forward dynamics (R271) -/

/-- Elimination from the last joint inwards: each joint's articulated inertia, a word of MASS or INER, divides once, and one
of 0 trips. A row holds the joint, the coefficients, then the right side, an effort. Log 50 (DEDUCED, unsafe). -/
def Lanes.articulate (x : Lanes) : Nat → List (Bool × List ℚ) → Calc (List ℚ)
  | 0, _ => .ok []
  | _ + 1, [] => .ok []
  | n + 1, (pr, p) :: rest =>
    (x.narrow (massClass pr pr) (p.headD 0)).bind (fun w =>
      if w = 0 then .error (divTrap (some (accClass pr)) (some 0))
      else
        let low := rest.map (fun r => (r.1, (r.2.tail.zip p.tail).map (fun e => e.1 - r.2.headD 0 / w * e.2)))
        (x.articulate n low).bind (fun xs =>
          (x.narrow (effClass pr) (p.getLastD 0 - ((p.tail.zip xs).map (fun e => e.1 * e.2)).sum)).bind (fun t =>
            (x.div (accClass pr) (if pr then t * 1000 else t) w).bind (fun u =>
              .ok ((if pr then u / 1000 else u) :: xs)))))

/-- ABA: the accelerations under given efforts (R271). Log 50 (DEDUCED, unsafe). -/
def Lanes.aba (x : Lanes) (a : Arm) (terms : Nat) (q qd tau : List ℚ) : Calc (List ℚ) := do
  let n := a.links.length
  let fs ← x.frames a q
  let bias ← x.efforts a (terms &&& 0x2B) fs qd (List.replicate n 0)
  let cols ← x.massCols a terms fs
  let rows := ((List.range n).map (fun i =>
    ((a.links[i]?).any Link.prismatic,
      ((List.range n).map (fun j => (cols.getD j []).getD i 0)).reverse ++ [tau.getD i 0 - bias.getD i 0]))).reverse
  let u ← x.articulate n rows
  .ok ((a.links.zip u.reverse).map (fun e => if e.1.prismatic then e.2 * 1000 else e.2))

/-! ## Linear systems -/

/-- The solution of a square system, each row followed by its right side, by elimination in order; none where a pivot is
not positive. -/
def solveRows : Nat → List (List ℚ) → Option (List ℚ)
  | 0, _ => some []
  | _ + 1, [] => some []
  | n + 1, p :: rest =>
    let d := p.headD 0
    if d ≤ 0 then none
    else
      let low := rest.map (fun r => (r.tail.zip p.tail).map (fun e => e.1 - r.headD 0 / d * e.2))
      (solveRows n low).map (fun xs =>
        (p.getLastD 0 - ((p.tail.zip xs).map (fun e => e.1 * e.2)).sum) / d :: xs)

/-! ## Inverse kinematics (R272) -/

/-- What IK is given beside the seed: target, LAMBDA, TOL_POS, TOL_ANG, W_ANG, and the position limits of the axes. -/
structure IkTask where
  target : V3
  turn : Quat
  lambda : ℚ
  tolPos : ℚ
  tolAng : ℚ
  wAng : ℚ
  lims : List (ℚ × ℚ)
  deriving DecidableEq, Repr

/-- What one point of IK comes to. -/
structure IkEnd where
  q : List ℚ
  resPos : ℚ
  resAng : ℚ
  iter : Nat
  converged : Bool
  limit : Bool
  deriving DecidableEq, Repr

/-- The position and orientation errors against the target. -/
def Lanes.ikError (x : Lanes) (k : IkTask) (t : Pose) : Calc (V3 × V3) := do
  let ep ← x.vec 16 0 [(k.target, 1), (t.p, -1)] []
  let r ← x.qmul k.turn t.r.conj
  .ok (ep, ← x.vec 54 1 [((if r.w < 0 then r.neg else r).v, 2)] [])

/-- Row `l` of a Cholesky factor, by the rows before it, each with the word of the reciprocal of its pivot: the entries are
JLIN words, the pivot's reciprocal root an ANG word from RSQRT. Log 50 (DEDUCED, unsafe). -/
def Lanes.choleskyRow (x : Lanes) (before : List (List ℚ × ℚ)) (l : List ℚ) : Calc (List ℚ × ℚ) := do
  let row ← before.zipIdx.foldlM (fun t e => do
    let d := l.getD e.2 0 - (List.zipWith (· * ·) t e.1.1).sum
    .ok (t ++ [← x.narrow 11 (d * e.1.2)])) []
  let d := l.getD before.length 0 - (row.map (fun v => v * v)).sum
  let r ← x.rsqrt 32 1 d
  .ok (row ++ [← x.narrow 11 (d * r)], r)

/-- The Cholesky factor of a symmetric matrix, row by row. -/
def Lanes.cholesky (x : Lanes) (a : List (List ℚ)) : Calc (List (List ℚ × ℚ)) :=
  a.foldlM (fun t l => do .ok (t ++ [← x.choleskyRow t l])) []

/-- Forward substitution, and then backward, in ANG words. -/
def Lanes.forward (x : Lanes) (f : List (List ℚ × ℚ)) (e : List ℚ) : Calc (List ℚ) :=
  (f.zip e).foldlM (fun t l => do
    .ok (t ++ [← x.narrow 1 ((l.2 - (List.zipWith (· * ·) l.1.1 t).sum) * l.1.2)])) []
def Lanes.backward (x : Lanes) (f : List (List ℚ × ℚ)) (w : List ℚ) : Calc (List ℚ) :=
  (f.zip w).zipIdx.reverse.foldlM (fun t l => do
    let above := (f.drop (l.2 + 1)).map (fun r => r.1.getD l.2 0)
    .ok ((← x.narrow 1 ((l.1.2 - (List.zipWith (· * ·) above t).sum) * l.1.1.2)) :: t)) []

/-- One update of q: damped least squares, then the clamp to the position limits. W_ANG · e_a is of class LEN and the weighted
Jacobian of class JLIN; the entries of the 6 × 6 system stay in their accumulators until RSQRT takes them.
Log 50 (DEDUCED, unsafe). -/
def Lanes.ikStep (x : Lanes) (a : Arm) (k : IkTask) (cols : List (V3 × V3)) (ep ea : V3) (q : List ℚ) :
    Calc (List ℚ × Bool) := do
  let ew ← x.vec 40 0 [(ea, k.wAng)] []
  let e := ep.list ++ ew.list
  let cs ← cols.mapM (fun c => do .ok (c.1.list ++ (← x.vec 46 11 [(c.2, k.wAng)] []).list))
  let rows := (List.range 6).map (fun i => (List.range 6).map (fun j =>
    (cs.map (fun c => c.getD i 0 * c.getD j 0)).sum + (if i = j then k.lambda * k.lambda else 0)))
  let f ← x.cholesky rows
  let y ← x.backward f (← x.forward f e)
  let new ← ((a.links.zip q).zip cs).mapM (fun c =>
    x.dot 40 (posClass c.1.1.prismatic) ((c.1.2, 1) :: c.2.zip y))
  let clamped := (new.zip k.lims).map (fun c => max c.2.1 (min c.2.2 c.1))
  .ok (clamped, decide (clamped ≠ new))

/-- IK: at most `n` more updates after `iter` of them. Log 50 (DEDUCED, unsafe). -/
def Lanes.ikRun (x : Lanes) (a : Arm) (k : IkTask) : Nat → Nat → Bool → List ℚ → Calc IkEnd
  | n, iter, limit, q =>
    (x.jac a q).bind (fun e =>
      (x.ikError k e.1).bind (fun er =>
        (x.length 0 er.1).bind (fun rp =>
          (x.length 1 er.2).bind (fun ra =>
            if rp ≤ k.tolPos ∧ ra ≤ k.tolAng then .ok ⟨q, rp, ra, iter, true, limit⟩
            else match n with
            | 0 => .ok ⟨q, rp, ra, iter, false, limit⟩
            | m + 1 => (x.ikStep a k e.2 er.1 er.2 q).bind (fun w =>
                x.ikRun a k m (iter + 1) (limit || w.2) w.1)))))

/-! ## Capsules (R273) -/

/-- The end points of a capsule record in the cell frame. -/
def Lanes.capsule (x : Lanes) (fs : Pose × List LinkFrame) (rec_ : List Byte) : Calc (V3 × V3) := do
  let pose := frameOf fs (fieldAt rec_ 2 1)
  .ok (← x.point pose (vecAt rec_ 4 16), ← x.point pose (vecAt rec_ 16 16))

/-! ## Distance of two segments (R294) -/

/-- A number limited to 0 to 1. -/
def unitClamp (q : ℚ) : ℚ := max 0 (min 1 q)

/-- A point of a segment. -/
def along (a b : V3) (t : ℚ) : V3 := a.add ((b.sub a).scale t)

/-- The closest points of two segments; of parallel ones, a pair of them. Log 101 (DESIGN CHOICE, unsafe). -/
def closest (a0 a1 b0 b1 : V3) : V3 × V3 :=
  let u := a1.sub a0
  let v := b1.sub b0
  let r := a0.sub b0
  let a := u.dot u
  let e := v.dot v
  let b := u.dot v
  let c := u.dot r
  let f := v.dot r
  let ends (s t : ℚ) : V3 × V3 := (along a0 a1 s, along b0 b1 t)
  if a = 0 then ends 0 (if e = 0 then 0 else unitClamp (f / e))
  else if e = 0 then ends (unitClamp (-c / a)) 0
  else
    let d := a * e - b * b
    let s := if d = 0 then 0 else unitClamp ((b * f - c * e) / d)
    let t := (b * s + f) / e
    if t < 0 then ends (unitClamp (-c / a)) 0
    else if 1 < t then ends (unitClamp ((b - c) / a)) 1
    else ends s t

end Sys2Proof.Machine
end

