-- ==== Sys2Proof/Machine/Kneader.lean ====
section
/-!
DEFINITION. The Kneader (chapter 07): model copies, range guards, descriptors and their checks, kernels, clusters, and the
mapping of arm groups to clusters. Plans are in Planner.
-/

namespace Sys2Proof.Machine

/-! ## Tables -/

def knClusterReset : KnCluster := { queue := [], run := none }
def knSlotReset : KnSlot := { plan := none, duals := [], hold := 0 }

/-- Cluster `k`. -/
def State.knCluster (s : State) (k : Nat) : KnCluster := Tab.get (fun _ => knClusterReset) s.kn.clusters k

/-- Problem slot `n`. -/
def State.knSlot (s : State) (n : Nat) : KnSlot := Tab.get (fun _ => knSlotReset) s.kn.slots n

/-- The state with slot `n` replaced. -/
def State.setKnSlot (s : State) (n : Nat) (x : KnSlot) : State :=
  { s with kn := { s.kn with slots := Tab.set (fun _ => knSlotReset) s.kn.slots n x } }

/-- The model copy of arm group `g` (R265). -/
def State.knModel (s : State) (g : Nat) : List Byte := Tab.get (fun _ => []) s.kn.models g

/-- Fields of a descriptor (R275). -/
def KnDesc.fld (d : KnDesc) (b n : Nat) : Nat := fieldAt d.bytes b n
def KnDesc.kind (d : KnDesc) : Nat := d.fld 0 1
def KnDesc.group (d : KnDesc) : Nat := d.fld 2 1
def KnDesc.slot (d : KnDesc) : Nat := d.fld 3 1
def KnDesc.inAt (d : KnDesc) : Nat := d.fld 8 4
def KnDesc.outAt (d : KnDesc) : Nat := d.fld 12 4
def KnDesc.count (d : KnDesc) : Nat := d.fld 16 2
def KnDesc.urgent (d : KnDesc) : Bool := bit (d.fld 1 1) 1
def KnDesc.dlEn (d : KnDesc) : Bool := bit (d.fld 1 1) 0

/-- KN_CLk_STAT shows what the cluster holds and whether plan work is assigned to it (R278). -/
def State.knShow (s : State) (k : Nat) : State :=
  let c := s.knCluster k
  let run := match c.run with
    | some r => r.desc.kind * 2 ^ 8 + r.desc.group % 16 * 2 ^ 4 + 1
    | none => 0
  let held := c.queue.length + b2n c.run.isSome
  let plan := b2n (s.kn.solve.any (fun p => bit p.clusters k))
  s.setRg .KN_CLk_STAT k 0 (held * 2 ^ 16 + run + plan * 2)

/-- The state with cluster `k` replaced. -/
def State.setKnCluster (s : State) (k : Nat) (c : KnCluster) : State :=
  ({ s with kn := { s.kn with clusters := Tab.set (fun _ => knClusterReset) s.kn.clusters k c } }).knShow k

/-- Counter `j` of cluster `k` (R289). Log 58 (DEDUCED, unsafe). -/
def State.knCount (s : State) (k j : Nat) : State := s.incFd F.KN_CLk_CNTj_COUNT k j

/-! ## Range guards (R252, R256, R260) -/

/-- The bounds of class `c`. -/
def State.knBound (s : State) (c : Nat) : Int × Int :=
  (toSigned 32 (s.rg .KN_RANGE_MINc c), toSigned 32 (s.rg .KN_RANGE_MAXc c))

/-- The bounds of classes 0 to 12, as a kernel takes them at its start (R257). -/
def State.knBounds (s : State) : List (Int × Int) := (List.range 13).map s.knBound

/-- The first word of a list, each with its class, that trips. Log 61 (DESIGN CHOICE, safe). -/
def firstTrip (bounds : List (Int × Int)) (l : List (Nat × Int)) : Option (Nat × Int) :=
  l.find? (fun e => knTrips bounds e.1 e.2)

/-- A trip is counted, and recorded while none is held (R260). Log 61 (DESIGN CHOICE, safe). -/
def State.knTrip (s : State) (t : KnTrip) (d : KnDesc) : State :=
  let k := t.cluster % 4
  let s := ((s.incFd F.KN_GUARD_CNT_COUNT 0 0).knCount k 2).noteRaise (Reg.KN_GUARD.addr 0 0) 31
  if s.flag F.KN_GUARD_TRIP then s
  else
    let g := if d.kind = 0x10 then 0 else d.group % 16
    let s := s.setRg .KN_GUARD 0 0 (2 ^ 31 + b2n t.acc * 2 ^ 30 + b2n t.input * 2 ^ 29 + b2n t.divsqrt * 2 ^ 28 +
      k * 2 ^ 26 + g * 2 ^ 22 + d.kind * 2 ^ 14 + t.cls % 64)
    let s := s.setRg .KN_GUARD_VAL 0 0 (sat32 t.value)
    let s := s.setRg .KN_GUARD_TAG 0 0 (d.fld 4 2 * 2 ^ 16 + d.fld 6 2)
    s.journal 0x0C 0x06 0x31 2 (dBytes 4 (s.rg .KN_GUARD) ++ dBytes 4 (s.rg .KN_GUARD_VAL) ++ dBytes 4 (s.rg .KN_GUARD_TAG))

/-! ## Model copies (R265) -/

/-- A vector of `n` words of FRAC 30 at byte `b` has a norm within 2^-20 of 1. -/
def unitNorm (m : List Byte) (b n : Nat) : Bool :=
  let q := ((List.range n).map (fun i => signedAt m (b + 4 * i) 4)).foldl (fun t w => t + w * w) 0
  decide (((2 ^ 30 - 2 ^ 10 : Nat) : Int) ^ 2 ≤ q ∧ q ≤ ((2 ^ 30 + 2 ^ 10 : Nat) : Int) ^ 2)

/-- The words of the header and of a link entry with their classes (R263, R264). -/
def headerWords (m : List Byte) : List (Nat × Int) :=
  let v (b c n : Nat) : List (Nat × Int) := (List.range n).map (fun i => (c, signedAt m (b + 4 * i) 4))
  v 4 0 3 ++ v 16 8 4 ++ v 32 4 3 ++ v 44 9 1 ++ v 48 0 3

def linkWords (m : List Byte) (k : Nat) : List (Nat × Int) :=
  let o := 64 + 96 * k
  let pr := decide (fieldAt m o 1 = 1)
  let v (b c n : Nat) : List (Nat × Int) := (List.range n).map (fun i => (c, signedAt m (o + b + 4 * i) 4))
  v 4 0 3 ++ v 16 8 4 ++ v 32 8 3 ++ v 44 9 1 ++ v 48 0 3 ++ v 60 10 6 ++ v 84 12 1 ++ v 88 (if pr then 7 else 6) 1 ++
    v 92 (if pr then 9 else 10) 1

/-- The checks of R265 in their order: code, HEADER and LINK of the first failure. Log 58 (DEDUCED, unsafe). -/
def State.modelFail (s : State) (g : Nat) (m : List Byte) : Option (Nat × Bool × Nat) :=
  let r := s.agRec g
  let n := agAxes r
  let neg (b : Nat) : Bool := decide (signedAt m b 4 < 0)
  let bad (p : Nat → Bool) : Option Nat := (List.range n).find? p
  let shape (k : Nat) : Bool :=
    let o := 64 + 96 * k
    let t := fieldAt m o 1
    let par := fieldAt m (o + 1) 1
    !(decide (t ≤ 1) && (decide (t = 0) == axRotary (s.agAxis g k)) && (decide (par < k) || decide (par = 0xFF)) &&
      decide (fieldAt m (o + 2) 2 = 0))
  let sign (k : Nat) : Bool :=
    let o := 64 + 96 * k
    neg (o + 44) || neg (o + 60) || neg (o + 64) || neg (o + 68) || neg (o + 84) || neg (o + 88) || neg (o + 92)
  if agModel r % 64 ≠ 0 ∨ 2 ^ 24 < agModel r + 64 + 96 * n then some (0x34, true, 0)
  else if fieldAt m 0 1 ≠ 1 ∨ fieldAt m 1 1 ≠ n ∨ n ≤ fieldAt m 2 1 ∨ fieldAt m 3 1 ≠ 0 ∨ fieldAt m 60 4 ≠ 0 then
    some (0x34, true, 0)
  else match bad shape with
  | some k => some (0x34, false, k)
  | none =>
    if ¬ unitNorm m 16 4 then some (0x34, true, 0)
    else match bad (fun k => !(unitNorm m (64 + 96 * k + 16) 4 && unitNorm m (64 + 96 * k + 32) 3)) with
    | some k => some (0x34, false, k)
    | none =>
      if neg 44 then some (0x34, true, 0)
      else match bad sign with
      | some k => some (0x34, false, k)
      | none =>
        if (firstTrip s.knBounds (headerWords m)).isSome then some (0x31, true, 0)
        else (bad (fun k => (firstTrip s.knBounds (linkWords m k)).isSome)).map (fun k => (0x31, false, k))

/-- The Kneader takes or rejects a model copy of arm group `g` (R265). -/
def State.modelCopy (s : State) (g : Nat) : State :=
  let r := s.agRec g
  let m := s.sramBytes (agModel r) (64 + 96 * agAxes r)
  match s.modelFail g m with
  | none =>
    let s : State := { s with kn := { s.kn with models := Tab.set (fun _ => []) s.kn.models g m } }
    s.setFd F.KN_MODEL_VALID_VALID 0 0 (s.fd F.KN_MODEL_VALID_VALID ||| 2 ^ g)
  | some (code, header, link) =>
    let s := s.setRg .KN_MODEL 0 0 (g * 2 ^ 20 + b2n header * 2 ^ 16 + link)
    let s := (s.refuseSelf F.KN_MODEL_REFUSE 0 code).incFd F.KN_MODEL_CNT_COUNT 0 0
    s.journal 0x0D 0x06 code 1 [g, b2n header, link]

/-! ## Kernel shapes (R274) -/

/-- IN and OUT bytes of one point, and compute cycles of one point without IK iterations. -/
def kernelShape (kind n m : Nat) : Nat × Nat × Nat :=
  match kind with
  | 1 => (4 * n, 28 * (n + 1), 64 + 24 * n)
  | 2 => (4 * n, 28 + 24 * n, 96 + 30 * n)
  | 3 => (4 * n + 28, 4 * n + 12, 64)
  | 4 => (12 * n, 4 * n, 96 + 60 * n)
  | 5 => (12 * n, 4 * n, 160 + 130 * n)
  | _ => (4 * n, 32 * m, 80 + 24 * n + 4 * m)

/-- Compute cycles of a kernel descriptor: the sum over its points; `iters` are the iterations of each (R274). -/
def kernelCycles (kind n m : Nat) (iters : List Nat) : Nat :=
  (iters.map (fun i => (kernelShape kind n m).2.2 +
    (if kind = 3 then (i + 1) * (136 + 30 * n) + i * (200 + 12 * n) else 0))).sum

/-- The sizes of IN and OUT of a descriptor, whole (R274, R296). -/
def State.descSizes (s : State) (d : KnDesc) : Nat × Nat :=
  if d.kind = 0x10 then (d.fld 56 4, d.fld 60 4)
  else
    let r := s.agRec (d.group % 16)
    let sh := kernelShape d.kind (agAxes r) (agCapsules r)
    (d.count * sh.1, 16 + d.count * sh.2.1)

/-! ## SOLVE (R207, R276, R298, R299) -/

/-- The cluster that KN_AGMAP names for arm group `g` (R278). -/
def State.agCluster (s : State) (g : Nat) : Nat := bits (s.rg .KN_AGMAP) (2 * g + 1) (2 * g)

/-- The descriptor's deadline, CT ns, were SOLVE accepted now (R281). -/
def State.descDeadline (s : State) (d : KnDesc) : Option Nat :=
  if d.dlEn then some (s.time.bcStart + d.fld 18 1 * s.lenNs + 2 * d.fld 20 4) else none

/-- A range of bytes of a descriptor is 0. -/
def KnDesc.zero (d : KnDesc) (b n : Nat) : Bool := decide (d.fld b n = 0)

/-- The adopt slot in force (R316). -/
def State.adoptSlot (s : State) : Nat := s.fd F.KN_PLAN_CTL_ACTIVE

/-- Check 4 of R276 on a PLAN descriptor (R296, R298). -/
def State.planFieldsOk (s : State) (d : KnDesc) : Bool :=
  let t0 := d.fld 32 8
  let dt := 2 * d.fld 40 4
  decide (d.group = 0xFF ∧ d.slot ≤ 7 ∧ 1 ≤ d.fld 28 1 ∧ d.fld 28 1 ≤ 32) && d.zero 29 3 &&
    decide (t0 % (8 * s.lenNs) = 0 ∧ s.ctNs < t0 ∧ t0 ≤ s.ctNs + 1000000000) &&
    decide (dt % s.lenNs = 0 ∧ 8 * s.lenNs ≤ dt ∧ dt ≤ 256 * s.lenNs) &&
    decide (d.fld 44 4 ≤ d.fld 52 4 ∧ d.fld 56 4 ≤ 37520 ∧ d.fld 60 4 ≤ 28736) &&
    (decide (d.slot ≠ s.adoptSlot) || (s.descDeadline d).any (fun t => decide (t + 10000 ≤ t0)))

/-- Check 4 of R276 on a kernel descriptor (R275). -/
def kernelFieldsOk (d : KnDesc) : Bool :=
  decide (d.group ≤ 15 ∧ d.slot = 0xFF ∧ 1 ≤ d.count ∧ d.count ≤ 256) && !bit (d.fld 1 1) 2 && d.zero 24 4 &&
    (match d.kind with
     | 3 => decide (1 ≤ d.fld 28 1 ∧ d.fld 28 1 ≤ 64) && d.zero 29 3 && d.zero 48 16
     | 4 | 5 => decide (d.fld 28 1 < 64) && d.zero 29 35
     | _ => d.zero 28 36)

/-- Two runs of bytes overlap. -/
def overlap (a n b m : Nat) : Bool := decide (a < b + m ∧ b < a + n)

/-- OUT of a PLAN descriptor for the adopt slot: in spine SRAM, apart from the adopted plan and from results that await
adoption (R299). -/
def State.adoptOutFail (s : State) (d : KnDesc) : Option Nat :=
  let n := d.fld 60 4
  let held := s.kn.adopted.toList ++ s.kn.results.filter (fun r => decide (r.slot = s.adoptSlot))
  if d.kind ≠ 0x10 ∨ d.slot ≠ s.adoptSlot then none
  else if ¬ inSpine d.outAt n then some 0x37
  else if held.any (fun r => overlap d.outAt n r.addr r.len) then some 0x3A
  else none

/-- Checks 3 to 10 of R276, with those of R298 and R299. Log 58 (DEDUCED, unsafe). -/
def State.solveFail (s : State) (d : KnDesc) : Option Nat :=
  let plan := decide (d.kind = 0x10)
  let k := s.agCluster d.group
  let (ni, no) := s.descSizes d
  if ¬ (plan || decide (1 ≤ d.kind ∧ d.kind ≤ 6)) then some 0x30
  else if ¬ (decide (d.fld 18 1 ≤ 15 ∧ 2 * d.fld 20 4 < s.lenNs ∧ d.fld 1 1 < 8) && d.zero 19 1 &&
      (if plan then s.planFieldsOk d else kernelFieldsOk d) && decide (ni ≤ 65536 ∧ no ≤ 65536)) then some 0x36
  else if d.inAt % 4 ≠ 0 ∨ d.outAt % 4 ≠ 0 ∨ ¬ inLocal d.inAt ni ∨ ¬ inLocal d.outAt no ∨ overlap d.inAt ni d.outAt no then
    some 0x37
  else match s.adoptOutFail d with
  | some c => some c
  | none =>
    if ¬ plan ∧ ¬ bit (s.fd F.KN_MODEL_VALID_VALID) d.group then some 0x35
    else if (s.descDeadline d).any (fun t => decide (t < s.ctNs)) then some 0x33
    else if ¬ plan ∧ ¬ s.domOn (18 + k) then some 0x07
    else if (if plan then s.fd F.KN_CTL_EN = 0 else ¬ bit (s.fd F.KN_CTL_EN) k) then some 0x02
    else if ¬ plan ∧ 32 ≤ (s.knCluster k).queue.length + b2n (s.knCluster k).run.isSome then some 0x05
    else if plan ∧ s.flag F.KN_SLOTs_STAT_BUSY d.slot then some 0x01
    else none

/-- An accepted descriptor joins its cluster's queue, or the waiting plans; one for the adopt slot pre-empts a plan of
another slot that computes (R278, R284, R309). Log 58 (DEDUCED, unsafe). -/
def State.solveAccept (s : State) (d : KnDesc) : State :=
  let d : KnDesc := { d with deadline := s.descDeadline d }
  if d.kind = 0x10 then
    let s := s.setFd F.KN_SLOTs_STAT_BUSY d.slot 0 1
    let solve := s.kn.solve.map (fun p =>
      if d.slot = s.adoptSlot ∧ p.desc.slot ≠ d.slot then { p with preempt := true } else p)
    { s with kn := { s.kn with waiting := s.kn.waiting ++ [d], solve := solve } }
  else
    let k := s.agCluster d.group
    let c := s.knCluster k
    s.setKnCluster k { c with queue := c.queue ++ [d] }

/-- SOLVE by core `n` with the descriptor at `a`; `ahead`: the task runs ahead of its scheduled instant (R43). The code
for gd, and the state after it. -/
def State.solve (s : State) (n a : Nat) (ahead : Bool) : Nat × State :=
  let d : KnDesc := { bytes := s.coreBytes n a 64, core := n, deadline := none }
  let readable := a % 64 = 0 ∧ inLocal a 64
  let code : Option Nat := if ¬ readable then some 0x03 else if ahead then some 0x02 else s.solveFail d
  match code with
  | none => (0x00, s.solveAccept d)
  | some c =>
    let k := if readable ∧ d.kind ≠ 0x10 ∧ d.group ≤ 15 then s.agCluster d.group else 0
    let s := s.knCount k 6
    let s := if c = 0x05 then s.knCount k 4 else s
    (c, s.recordRefusal 0x06 c (.core n) a)

/-! ## Completion (R282, R283) -/

/-- The status word. -/
def statusWord (code result wsm guard deadline noconv cluster iter kind : Nat) : Nat :=
  code * 2 ^ 24 + result * 2 ^ 22 + wsm * 2 ^ 21 + guard * 2 ^ 20 + deadline * 2 ^ 19 + noconv * 2 ^ 18 + cluster * 2 ^ 16 +
    iter % 256 * 2 ^ 8 + kind

/-- OUT lies in memory whose domain is ON (R653). -/
def State.outReachable (s : State) (d : KnDesc) : Bool := decide (0x10000000 ≤ d.outAt) || s.domOn (d.core / 4)

/-- The OUT header, the results after it, and the completion token; `k` is the cluster, the lowest of a plan's (R220,
R282). -/
def State.knComplete (s : State) (k : Nat) (d : KnDesc) (status cycles : Nat) (results : List Byte) : State :=
  let hdr := leBytes 4 status ++ leBytes 8 s.ctNs ++ leBytes 4 cycles
  let s := if s.outReachable d then s.coreWrite d.core d.outAt (hdr ++ results) else s
  let tok := d.fld 4 2
  if tok = 0xFFFF then s else (s.deposit (.kneader k) tok (d.fld 6 2) (BitVec.ofNat 32 status)).1

/-- A trip inside a computation of cluster `k` as it is recorded: a class and a word that the spec does not name are free
values. Log 61 (DESIGN CHOICE, safe). -/
def State.trapOf (s : State) (k : Nat) (t : Trap) : KnTrip × State :=
  let (c, s) : Nat × State := match t.cls with
    | some c => (c, s)
    | none => s.free
  let (v, s) : Int × State := match t.value with
    | some v => (v, s)
    | none => (toSigned 32 s.free.1, s.free.2)
  ({ cluster := k, cls := c % 64, input := false, divsqrt := t.divsqrt, acc := t.acc, value := v }, s)

/-- An accumulator that saturated is counted (R254, R289). -/
def State.accCount (s : State) (k : Nat) (t : KnTrip) : State := if t.acc then s.knCount k 5 else s

/-- What one point of a kernel comes to: its bytes of OUT, for IK the iterations used, and whether it ended without
converging. -/
structure PointEnd where
  bytes : List Byte
  iter : Nat
  noconv : Bool
  deriving DecidableEq, Repr

/-- A point that is no IK's. -/
def PointEnd.plain (bs : List Byte) : PointEnd := { bytes := bs, iter := 0, noconv := false }

/-- A kernel of cluster `k` ends FAILED: a guard trip, LATE, both, or POWER; `pts` are the points of it that had ended, and
`cyc` its CYCLES, 0 for one that never ran (R258, R281, R283, R653). Log 58 (DEDUCED, unsafe). -/
def State.kernelFail (s : State) (k : Nat) (d : KnDesc) (code : Nat) (trip : Option KnTrip) (late : Bool) (cyc : Option Nat)
    (pts : List PointEnd) : State :=
  let s := match trip with
    | some t => (s.accCount k t).knTrip t d
    | none => s
  let s := if late then s.knCount k 3 else s
  let s := s.knCount k 1
  s.knComplete k d (statusWord code 3 0 (b2n trip.isSome) (b2n late) (b2n (pts.any PointEnd.noconv)) k
    ((pts.map PointEnd.iter).foldl max 0) d.kind) (cyc.getD 0 % 2 ^ 32) []

/-! ## Kernels start (R257, R266, R277 to R280) -/

/-- The next descriptor of a queue: the first URGENT one, else the first (R278). -/
def nextKernel (l : List KnDesc) : Option KnDesc := (l.find? KnDesc.urgent).or l.head?

/-- A queue without its first entry equal to `d`. -/
def dropDesc (d : KnDesc) : List KnDesc → List KnDesc
  | [] => []
  | x :: r => if x = d then r else x :: dropDesc d r

/-- The words of IN with their classes, point by point (R256, R274). -/
def kernelInWords (kind n count : Nat) (pris : List Bool) (bs : List Byte) : List (Nat × Int) :=
  let joint (o a b : Nat) : List (Nat × Int) := (List.range n).map (fun i =>
    (if pris.getD i false then a else b, signedAt bs (o + 4 * i) 4))
  (List.range count).flatMap (fun p =>
    let o := p * (kernelShape kind n 0).1
    match kind with
    | 3 => joint o 0 1 ++ (List.range 3).map (fun i => (0, signedAt bs (o + 4 * n + 4 * i) 4)) ++
        (List.range 4).map (fun i => (8, signedAt bs (o + 4 * n + 12 + 4 * i) 4))
    | 4 => joint o 0 1 ++ joint (o + 4 * n) 2 3 ++ joint (o + 8 * n) 4 5
    | 5 => joint o 0 1 ++ joint (o + 4 * n) 2 3 ++ joint (o + 8 * n) 7 6
    | _ => joint o 0 1)

/-- The links of a model that are prismatic. -/
def modelPris (m : List Byte) : List Bool := (List.range (fieldAt m 1 1)).map (fun k => decide (fieldAt m (64 + 96 * k) 1 = 1))

/-- The position limits of an arm group's axes as words (R18, R272). -/
def State.ikLimits (s : State) (g n : Nat) : List (Int × Int) :=
  (List.range n).map (fun i => (axPosMin (s.agAxis g i), axPosMax (s.agAxis g i)))

/-- Robot capsule `i` of arm group `g`, from the snapshot in force (R25, R273). -/
def State.agCapsule (s : State) (g i : Nat) : List Byte :=
  match (s.ag g).snap with
  | some x => (x.caps.drop (32 * i)).take 32
  | none => s.sramBytes (0x3400 + 32 * (12 * g + i)) 32

/-- What the next kernel `d` takes at its start: the records of its arm group's snapshot, the model copy, IN, and the range
table (R257, R266, R277). -/
def State.knRun (s : State) (d : KnDesc) : KnRun :=
  let g := d.group
  let m := s.knModel g
  { desc := d, arm := s.agRec g, lims := s.ikLimits g (fieldAt m 1 1),
    caps := (List.range (agCapsules (s.agRec g))).map (s.agCapsule g), model := m,
    input := s.coreBytes d.core d.inAt (s.descSizes d).1, bounds := s.knBounds }

/-- The words of a model, header and links, with their classes. -/
def modelWords (m : List Byte) : List (Nat × Int) := headerWords m ++ (List.range (fieldAt m 1 1)).flatMap (linkWords m)

/-- The words that a kernel reads from IN and from the model copy, with their classes (R256). -/
def KnRun.words (r : KnRun) : List (Nat × Int) :=
  kernelInWords r.desc.kind (fieldAt r.model 1 1) r.desc.count (modelPris r.model) r.input ++ modelWords r.model

/-- The deadline of a descriptor lies before `t`, CT ns. -/
def KnDesc.lateAt (d : KnDesc) (t : Nat) : Bool := d.deadline.any (fun x => decide (x < t))

/-- KERNEL_START: the next kernel of cluster `k` starts: it reads IN, and takes the model copy and the range table in
force; the input check may end it at once. One whose deadline has come ends LATE instead (R256 to R258, R266, R277 to
R279, R281). -/
def execKernelStart (k dt : Nat) (s : State) : Host.Outcome State Fault Refusal :=
  let s := s.advance dt
  let c := s.knCluster k
  match c.run, nextKernel c.queue with
  | none, some d =>
    if 4 ≤ k ∨ ¬ s.domOn (18 + k) then .next s
    else
      let queue := dropDesc d c.queue
      let r := s.knRun d
      if d.lateAt (s.ctNs + 1) then .next ((s.setKnCluster k { c with queue := queue }).kernelFail k d 0x32 none true none [])
      else match firstTrip r.bounds r.words with
      | some (cls, v) =>
        let (cyc, s) := (s.setKnCluster k { c with queue := queue }).free
        .next (s.kernelFail k d 0x31 (some { cluster := k, cls := cls, input := true, divsqrt := false, acc := false, value := v })
          false (some cyc) [])
      | none => .next (s.setKnCluster k { queue := queue, run := some r })
  | _, _ => .next s

/-! ## Kernel results (R267 to R274) -/

/-- The joint values of a point of IN from byte `o` on, in the classes that `cls` gives. -/
def jointVals (bs : List Byte) (pris : List Bool) (o : Nat) (cls : Bool → Nat) : List ℚ :=
  pris.zipIdx.map (fun e => valAt bs (o + 4 * e.2) (classFrac (cls e.1)))

/-- The bytes of values of a class, and of joint values. -/
def classBytes (c : Nat) (l : List ℚ) : List Byte :=
  (l.map (fun v => leBytes 4 (ofSigned 32 (valWord (classFrac c) v)))).flatten
def jointBytes (pris : List Bool) (cls : Bool → Nat) (l : List ℚ) : List Byte :=
  ((pris.zip l).map (fun e => classBytes (cls e.1) [e.2])).flatten

/-- A frame of OUT: position, then the quaternion with w ≥ 0 (R268, R274). -/
def poseBytes (p : Pose) : List Byte := classBytes 0 p.p.list ++ classBytes 8 p.r.out.list

/-- The task of an IK point, from the descriptor and the target in IN (R272, R275). -/
def KnRun.ikTask (r : KnRun) (o : Nat) : IkTask :=
  let d := r.desc
  let word (b f : Nat) : ℚ := wordVal f (signedAt d.bytes b 4)
  { target := vecAt r.input o 16, turn := quatAt r.input (o + 12), lambda := word 32 16, tolPos := word 36 16,
    tolAng := word 40 24, wAng := word 44 16,
    lims := ((modelPris r.model).zip r.lims).map (fun e =>
      let f := classFrac (posClass e.1)
      (wordVal f e.2.1, wordVal f e.2.2)) }

/-- The bytes of an IK point (R274). -/
def ikBytes (pris : List Bool) (e : IkEnd) : List Byte :=
  jointBytes pris posClass e.q ++ classBytes 0 [e.resPos] ++ classBytes 1 [e.resAng] ++ leBytes 1 e.iter ++
    leBytes 1 (b2n e.converged + 2 * b2n e.limit) ++ leBytes 2 0

/-- The 32 bytes of a capsule of CAPS: GROUP, INDEX, FLAGS and RADIUS as they are, LINK 0xFF, the end points moved; a record
with LINK 0xFF unchanged (R273). -/
def Lanes.capsBytes (x : Lanes) (fs : Pose × List LinkFrame) (c : List Byte) : Calc (List Byte) :=
  if fieldAt c 2 1 = 0xFF then .ok c
  else do
    let (a, b) ← x.capsule fs c
    .ok (c.take 2 ++ leBytes 1 0xFF ++ (c.drop 3).take 1 ++ classBytes 0 (a.list ++ b.list) ++ (c.drop 28).take 4)

/-- Point `p` of a kernel, a function of what it took at its start alone (R255, R267 to R274).
Log 50 (DEDUCED, unsafe). -/
def KnRun.point (r : KnRun) (p : Nat) : Calc PointEnd :=
  let x : Lanes := { bounds := r.bounds, exact := false, plan := [] }
  let d := r.desc
  let a := armOf r.arm r.model
  let pris := modelPris r.model
  let n := pris.length
  let o := p * (kernelShape d.kind n 0).1
  let q := jointVals r.input pris o posClass
  let qd := jointVals r.input pris (o + 4 * n) velClass
  match d.kind with
  | 1 => do .ok (.plain ((← x.fk a q).flatMap poseBytes))
  | 2 => do
    let (t, cols) ← x.jac a q
    .ok (.plain (poseBytes t ++ cols.flatMap (fun c => classBytes 11 c.1.list ++ classBytes 8 c.2.list)))
  | 3 => do
    let e ← x.ikRun a (r.ikTask (o + 4 * n)) (d.fld 28 1) 0 false q
    .ok { bytes := ikBytes pris e, iter := e.iter, noconv := !e.converged }
  | 4 => do
    .ok (.plain (jointBytes pris effClass (← x.rnea a (d.fld 28 1) q qd (jointVals r.input pris (o + 8 * n) accClass))))
  | 5 => do
    .ok (.plain (jointBytes pris accClass (← x.aba a (d.fld 28 1) q qd (jointVals r.input pris (o + 8 * n) effClass))))
  | _ => do
    let fs ← x.frames a q
    .ok (.plain (← r.caps.mapM (x.capsBytes fs)).flatten)

/-- All points of a kernel, or the first trip (R258). -/
def KnRun.eval (r : KnRun) : Calc (List PointEnd) := (List.range r.desc.count).mapM r.point

/-- The results before the first trip. -/
def endedFirst : List (Calc PointEnd) → List PointEnd
  | .ok p :: r => p :: endedFirst r
  | _ => []

/-- The points that end before a trip, at most `n` of them. -/
def KnRun.ended (r : KnRun) (n : Nat) : List PointEnd := endedFirst ((List.range (min n r.desc.count)).map r.point)

/-- A kernel that runs is stopped before it has begun to write OUT: how far it had computed is open, so that its CYCLES and
the number of its points that had ended are free values; at a trip inside its computation every point before that one had
ended (R258, R281, R283, R653). Log 58 (DEDUCED, unsafe). -/
def State.kernelStop (s : State) (k : Nat) (r : KnRun) (code : Nat) (trip : Option KnTrip) (late : Bool) : State :=
  let (cyc, s) := s.free
  let (n, s) := s.free
  s.kernelFail k r.desc code trip late (some cyc) (r.ended (n % (r.desc.count + 1)))
def State.kernelTrap (s : State) (k : Nat) (r : KnRun) (code : Nat) (t : KnTrip) (late : Bool) : State :=
  let (cyc, s) := s.free
  s.kernelFail k r.desc code (some t) late (some cyc) (r.ended r.desc.count)

/-- The time that OUT takes to be written, ns (R280). -/
def outNs (n : Nat) : Nat := 60 + (n + 31) / 32

/-- KERNEL_COMPLETE: the kernel of cluster `k` has computed and written OUT, or a guard trip inside it has stopped it; or its
deadline came before OUT was begun (R254, R258, R262, R267 to R274, R280 to R282). Log 50 (DEDUCED, unsafe). -/
def execKernelComplete (k dt : Nat) (s : State) : Host.Outcome State Fault Refusal :=
  let s := s.advance dt
  let c := s.knCluster k
  match c.run with
  | none => .next s
  | some r =>
    let d := r.desc
    let s := s.setKnCluster k { c with run := none }
    match r.eval with
    | .error t =>
      if d.lateAt s.ctNs then .next (s.kernelStop k r 0x32 none true)
      else
        let (t, s) := s.trapOf k t
        .next (s.kernelTrap k r (if t.divsqrt then 0x38 else 0x31) t false)
    | .ok pts =>
      let out := (pts.map PointEnd.bytes).flatten
      if d.lateAt (s.ctNs - outNs (16 + out.length)) then .next (s.kernelStop k r 0x32 none true)
      else
        let noconv := b2n (pts.any PointEnd.noconv)
        let iters := pts.map PointEnd.iter
        let cycles := kernelCycles d.kind (fieldAt r.model 1 1) r.caps.length iters
        .next ((s.knCount k 0).knComplete k d (statusWord 0 0 0 0 0 noconv k (iters.foldl max 0) d.kind) cycles out)

/-- KERNEL_DEADLINE: a kernel of cluster `k` that has not begun to write OUT by its deadline, the running one or the
`i`-th of the queue, is taken out with FAILED LATE; `same`: where its computation trips the range guard, it does so in the
same cycle (R281). -/
def execKernelDeadline (k : Nat) (i : Option Nat) (same : Bool) (s : State) : Host.Outcome State Fault Refusal :=
  let held (s : State) : Option KnDesc := match i with
    | none => (s.knCluster k).run.map KnRun.desc
    | some j => (s.knCluster k).queue[j]?
  match (held s).bind (fun d => d.deadline.map (d, ·)) with
  | none => .next s
  | some (d, t) =>
    let s := s.advanceTo t
    let c := s.knCluster k
    match i with
    | some j => .next ((s.setKnCluster k { c with queue := c.queue.eraseIdx j }).kernelFail k d 0x32 none true none [])
    | none =>
      let s := s.setKnCluster k { c with run := none }
      match c.run with
      | none => .next s
      | some r =>
        match same, r.eval with
        | true, .error t =>
          let (t, s) := s.trapOf k t
          .next (s.kernelTrap k r 0x31 t true)
        | _, _ => .next (s.kernelStop k r 0x32 none true)

/-! ## Clusters (R286 to R288) -/

/-- A slot's state is being moved off cluster `k` (R285). -/
def State.slotMoving (s : State) (k : Nat) : Bool :=
  s.kn.solve.any (fun p => bit p.moveFrom k && decide (s.time.ticks < p.moveEnd))

/-- A cluster holds descriptors, runs kernel or plan work, or gives up a slot's state (R285, R286).
Log 77 (DEDUCED, unsafe). -/
def State.clusterBusy (s : State) (k : Nat) : Bool :=
  let c := s.knCluster k
  !c.queue.isEmpty || c.run.isSome || s.kn.solve.any (fun p => bit p.clusters k) || s.slotMoving k

/-- A descriptor with IN or OUT in the memory of slice `sl` has not completed (R516, R547). -/
def State.descInSlice (s : State) (sl : Nat) : Bool :=
  let inIt (d : KnDesc) : Bool := decide (d.core / 4 = sl) && (decide (d.inAt < 0x10000000) || decide (d.outAt < 0x10000000))
  s.kn.waiting.any inIt || s.kn.solve.any (fun p => inIt p.desc) ||
    (List.range 4).any (fun k => (s.knCluster k).queue.any inIt || (s.knCluster k).run.any (fun r => inIt r.desc))

/-- One bit of KN_CTL.EN written (R288). -/
def State.clusterWrite (s : State) (q : Requester) (k : Nat) (on : Bool) : State :=
  let was := bit (s.fd F.KN_CTL_EN) k
  let no (code : Nat) : State := (s.refuse q .KN_CTL 0 0 code).setFd F.KN_CTL_REF_CL 0 0 k
  let guarded := (List.range 64).any (fun c => s.flag F.KN_RANGE_CTLc_EN c && decide ((s.knBound c).2 < (s.knBound c).1))
  if on = was then s
  else if on && !s.domOn (18 + k) then no 0x07
  else if on && guarded then no 0x04
  else if !on && s.clusterBusy k then no 0x01
  else s.setFd F.KN_CTL_EN 0 0 (setBits (s.fd F.KN_CTL_EN) k k (b2n on))

/-- A write of KN_CTL. -/
def writeKnCtl (q : Requester) (v : Word) (s : State) : State :=
  s.forEach (List.range 4) (fun k s => s.clusterWrite q k (bit v.toNat k))

/-- CLUSTER_ENABLE: a write of KN_CTL that sets bits (R288). -/
def execClusterEnable (q : Requester) (v : Word) (s : State) : Host.Outcome State Fault Refusal :=
  s.write q .KN_CTL 0 0 (writeKnCtl q v)

/-- CLUSTER_DISABLE: a write of KN_CTL that clears bits (R288). -/
def execClusterDisable (q : Requester) (v : Word) (s : State) : Host.Outcome State Fault Refusal :=
  s.write q .KN_CTL 0 0 (writeKnCtl q v)

/-- A write of a range-table register: EN and FRAC of classes 0 to 12 are read-only. -/
def writeKnRange (r : Reg) (c : Nat) (v : Word) (s : State) : State :=
  if r = .KN_RANGE_CTLc ∧ c ≤ 12 then s else s.plainWrite r c 0 v.toNat

/-- At a super-cycle boundary a changed mapping is checked and applied (R287). -/
def State.agmapApply (s : State) : State :=
  let sh := s.rg .KN_AGMAP_SH
  if sh = s.rg .KN_AGMAP then s
  else
    let named := (List.range 4).filter (fun k => (List.range 16).any (fun g => decide (bits sh (2 * g + 1) (2 * g) = k)))
    let fail := (named.map (fun k =>
      (k, if ¬ s.domOn (18 + k) then 0x07 else if ¬ bit (s.fd F.KN_CTL_EN) k then 0x04 else 0))).find? (fun e => decide (e.2 ≠ 0))
    match fail with
    | some (k, code) => (s.refuseSelf F.KN_CTL_REFUSE 0 code).setFd F.KN_CTL_REF_CL 0 0 k
    | none => s.setRg .KN_AGMAP 0 0 sh

end Sys2Proof.Machine
end

