-- ==== Sys2Proof/Machine/Image.lean ====
section
/-!
DEFINITION. Program images in MRAM: header, directory and checks (R590, R591, step 3 of R593), and the loading of their
sections (step 4 of R593, R528, R554).
-/

namespace Sys2Proof.Machine

/-- `n` bytes at offset `off` of image bank `b`. -/
def State.imgBytes (s : State) (b off n : Nat) : List Byte := Mem.readN s.mem.img (b * 0x2000000 + off) n

/-- The little-endian number of `n` bytes at offset `off` of image bank `b`. -/
def State.imgNum (s : State) (b off n : Nat) : Nat := ofLe (s.imgBytes b off n)

/-- A directory entry (R591). -/
structure ImgSection where
  kind : Nat
  target : Nat
  off : Nat
  len : Nat
  dest : Nat
  deriving DecidableEq, Repr

/-- Directory entry `k` of bank `b`. -/
def State.imgSection (s : State) (b k : Nat) : ImgSection :=
  let n (o w : Nat) := s.imgNum b (256 + 16 * k + o) w
  { kind := n 0 1, target := n 1 1, off := n 4 4, len := n 8 4, dest := n 12 4 }

/-- The directory of bank `b`, in order. Log 32 (DEDUCED, unsafe). -/
def State.imgSections (s : State) (b : Nat) : List ImgSection :=
  (List.range (min 512 (s.imgNum b 6 2))).map (s.imgSection b)

/-- A directory entry agrees with R591: kind, target, destination and size. Log 32 (DEDUCED, unsafe). -/
def ImgSection.ok (e : ImgSection) : Bool :=
  let within (lo hi : Nat) := decide (lo ≤ e.dest) && decide (e.dest + e.len ≤ hi)
  match e.kind with
  | 1 => decide (e.target < 16) && decide (e.dest = 0x70000) && decide (e.len ≤ 0x10000)
  | 2 => decide (e.target < 64) && within 0 0x70000
  | 3 => decide (e.target < 16) && within 0x1000000 0x1100000
  | 4 => decide (e.target = 0xFF) && within 0x10000000 0x11000000
  | 5 => decide (e.target = 0xFF) && decide (e.len % 16 = 0)
  | 6 => decide (e.target = 0xFF) && decide (e.len = 16384)
  | 7 => decide (e.target = 0xFF) && decide (e.len = 768)
  | _ => false

/-- The checks of step 3 of R593 on bank `b`: MAGIC, VERSION, LENGTH, the directory, the CRC, and in OWNER-OPEN and
FIELD-LOCKED the owner's signature. Log 31 (DEDUCED, unsafe). -/
def State.imgPasses (s : State) (b : Nat) : Bool :=
  let len := s.imgNum b 8 4
  let n := s.imgNum b 6 2
  if s.imgNum b 0 4 ≠ 0x4D49564E ∨ s.imgNum b 4 2 ≠ 1 then false
  else if n = 0 ∨ 512 < n ∨ len < 256 + 16 * n ∨ 0x2000000 < len then false
  else if ¬ (s.imgSections b).all (fun e => e.ok && decide (256 + 16 * n ≤ e.off) && decide (e.off + e.len ≤ len)) then
    false
  else
    let body := s.imgBytes b 256 (len - 256)
    decide (crc32c body = s.imgNum b 32 4) &&
      (decide (s.lc.state = 0) || signed s.lc.owner (s.imgBytes b 64 64) (s.imgBytes b 0 64 ++ body))

/-- The entry table of bank `b` gives template `t` an ENTRY (R591); none without a table. Log 32 (DEDUCED, unsafe). -/
def State.imgEntry (s : State) (b t : Nat) : Option Nat :=
  (((s.imgSections b).filter (fun e => e.kind = 6)).getLast?).map (fun e => s.imgNum b (e.off + 4 * t) 4)

/-! ## Loading -/

/-- A code section stands in window bank `w` of every core of its arm group's slice; a retired slice takes none
(R554, R591). Log 32 (DEDUCED, unsafe). -/
def State.loadCode (s : State) (b : Nat) (e : ImgSection) (w : Nat) : State :=
  let sl := s.sliceOf (e.target % 16)
  if bit s.sv.retired sl then s
  else s.forEach (List.range 4) (fun c s =>
    let dst := ((4 * sl + c) * 2 + w % 2) * 0x10000
    { s with mem := { s.mem with win := Mem.copy s.mem.img (b * 0x2000000 + e.off) e.len s.mem.win dst } })

/-- The slice into which a section loads; none for a section outside the slices. -/
def State.sectionSlice (s : State) (e : ImgSection) : Option Nat :=
  match e.kind with
  | 1 | 3 => some (s.sliceOf (e.target % 16))
  | 2 => some (s.sliceOf (e.target / 4 % 16))
  | _ => none

/-- A section of bank `b` is loaded: code into window bank `w`, data into the TCM, the slice-shared or the spine SRAM,
ENTRY of the templates the entry table names, and the range table (R591). A register list is executed later. A section
for a slice that is not ON is discarded (R518). Log 32 (DEDUCED, unsafe). -/
def State.loadSection (s : State) (b w : Nat) (e : ImgSection) : State :=
  let src := b * 0x2000000 + e.off
  let up := match s.sectionSlice e with
    | some d => s.domOn d
    | none => true
  if !up then s
  else match e.kind with
  | 1 => s.loadCode b e w
  | 2 =>
    let dst := s.physCore (e.target % 64) * 0x80000 + e.dest
    { s with mem := { s.mem with tcm := Mem.copy s.mem.img src e.len s.mem.tcm dst } }
  | 3 =>
    let dst := s.sliceOf (e.target % 16) * 0x100000 + (e.dest - 0x1000000)
    { s with mem := { s.mem with shared := Mem.copy s.mem.img src e.len s.mem.shared dst } }
  | 4 =>
    let dst := e.dest - 0x10000000
    { s with mem := { s.mem with sram := Mem.copy s.mem.img src e.len s.mem.sram dst } }
  | 6 => s.forEach (List.range 4096) (fun t s =>
    let v := Mem.num s.mem.img (src + 4 * t) 4
    if v = 0xFFFFFFFF then s else s.setTpl t 0 4 v)
  | 7 => s.forEach (List.range 64) (fun c s =>
    let v (k : Nat) : Word := BitVec.ofNat 32 (Mem.num s.mem.img (src + 12 * c + 4 * k) 4)
    writeKnRange .KN_RANGE_MAXc c (v 2) (writeKnRange .KN_RANGE_MINc c (v 1) (writeKnRange .KN_RANGE_CTLc c (v 0) s)))
  | _ => s

/-- The sections of the active bank that load into slice `d`, loaded again into the window bank in force (R528).
Log 32 (DEDUCED, unsafe). -/
def State.reloadSlice (s : State) (d : Nat) : State :=
  let b := s.sv.imgActive
  s.forEach (s.imgSections b) (fun e s =>
    if s.sectionSlice e = some d then s.loadSection b (s.fd F.SV_IMG_STAT_WINDOW) e else s)

/-- The memories of core `i` of a migration's source copied to the core of the target that CORE_MAP names, where `map` is
the group's present CORE_MAP: the TCM with both banks of the code window (R546, R550). -/
def State.copyCore (s : State) (m : MigState) (map i : Nat) : State :=
  let a := 4 * m.source + bits map (2 * i + 1) (2 * i)
  let b := 4 * m.target + bits m.coreMap (2 * i + 1) (2 * i)
  { s with mem := { s.mem with
      tcm := Mem.copy s.mem.tcm (a * 0x80000) 0x80000 s.mem.tcm (b * 0x80000),
      win := Mem.copy s.mem.win (a * 0x20000) 0x20000 s.mem.win (b * 0x20000) } }

/-- The slice-shared SRAM of a migration's source copied to its target (R546, R550). -/
def State.copyShared (s : State) (m : MigState) : State :=
  { s with mem := { s.mem with
      shared := Mem.copy s.mem.shared (m.source * 0x100000) 0x100000 s.mem.shared (m.target * 0x100000) } }

/-- The memories of a migration's source copied to its target: those of each core, and the slice-shared SRAM
(R546, R550). -/
def State.copySlice (s : State) (m : MigState) : State :=
  let map := s.fd F.SV_PLACEn_CORE_MAP m.group
  (s.forEach (List.range 4) (fun i s => s.copyCore m map i)).copyShared m

end Sys2Proof.Machine
end

