-- ==== Sys2Proof/Machine/Clock.lean ====
section
/-!
DEFINITION. Clocks, CT, PT, captures and the calendar (chapter 02): the register writes of CLK, TIM and CAL and the
events of the references, the PLL and the crystal.
-/

namespace Sys2Proof.Machine

/-- Some Koastis port is enabled (R31, R64). -/
def State.anyPort (s : State) : Bool := (List.range 8).any (fun n => s.flag F.KL_PORTn_CTL_EN n)

/-! ## The root (R50 to R58) -/

/-- The clock monitor reports reference source `src` present: 0 the TCXO, which it always does, 1 and 2 the external
reference (R54). Log 104 (DESIGN CHOICE, unsafe). -/
def State.refPresent (s : State) (src : Nat) : Bool :=
  if src = 0 then true else s.flag F.CLK_STAT_EXT_PRESENT && decide (s.extRef = src)

/-- The PLL goes to a source through holdover (R53, R54): ACTIVE follows when the source is locked to.
Log 25 (DESIGN CHOICE, unsafe). -/
def State.lockTo (s : State) (src : Nat) : State :=
  ((s.setFd F.CLK_REF_ACTIVE 0 0 src).setFd F.CLK_STAT_HOLDOVER 0 0 0).setFd F.CLK_STAT_PLL_LOCK 0 0 1

/-- A write of CLK_REF: SEL 0b11 is refused with RANGE, an absent source with STATE; a change of SEL switches
through holdover (R54, R648). -/
def writeClkRef (q : Requester) (v : Word) (s : State) : State :=
  let sel := F.CLK_REF_SEL.of v.toNat
  if s.keeps F.CLK_REF_SEL 0 0 v.toNat then s.plainWrite .CLK_REF 0 0 v.toNat
  else if sel = 3 then s.refuse q .CLK_REF 0 0 0x03
  else if ¬ s.refPresent sel then s.refuse q .CLK_REF 0 0 0x02
  else (s.plainWrite .CLK_REF 0 0 v.toNat).lockTo sel

/-- The selected reference is lost or leaves its window: holdover, and relock to the TCXO to follow when FALLBACK is
1 and the TCXO is the other source (R53, R58). Log 25 (DESIGN CHOICE, unsafe). -/
def State.enterHoldover (s : State) : State := s.setFd F.CLK_STAT_HOLDOVER 0 0 1

/-- REF_SELECT: a write of CLK_REF by a requester. -/
def execRefSelect (q : Requester) (v : Word) (s : State) : Host.Outcome State Fault Refusal :=
  s.write q .CLK_REF 0 0 (writeClkRef q v)

/-- REF_LOSS: no edge of the selected reference for 4 of its periods (R58).
Log 25 (DESIGN CHOICE, unsafe), 104 (DESIGN CHOICE, unsafe). -/
def execRefLoss (s : State) : Host.Outcome State Fault Refusal :=
  let s := s.raise F.CLK_STAT_REF_LOSS F.CLK_STAT_LOSS_CNT 0 0
  let s : State := if s.fd F.CLK_REF_SEL = 0 then s else { s.setFd F.CLK_STAT_EXT_PRESENT 0 0 0 with extRef := 0 }
  .next (s.enterHoldover.journal 0x05 0x01 0x00 1 [1])

/-- REF_FREQ: the selected reference leaves its ±100 ppm window (R58). -/
def execRefFreq (s : State) : Host.Outcome State Fault Refusal :=
  let s := s.raise F.CLK_STAT_REF_FREQ F.CLK_STAT_FREQ_CNT 0 0
  .next (s.enterHoldover.journal 0x05 0x01 0x00 1 [2])

/-- FALLBACK_RELOCK: in holdover, with FALLBACK 1 and the TCXO not the selected source, the PLL finishes relocking
to the TCXO (R53). Log 25 (DESIGN CHOICE, unsafe). -/
def execFallbackRelock (s : State) : Host.Outcome State Fault Refusal :=
  if s.flag F.CLK_STAT_HOLDOVER ∧ s.flag F.CLK_REF_FALLBACK ∧ s.fd F.CLK_REF_SEL ≠ 0 then .next (s.lockTo 0)
  else .next s

/-- REF_RETURN: reference source `src` appears; an external one reads present (R54). The selected one's return ends a
holdover, and the PLL locks to it, also after a fallback to the TCXO has completed (R53).
Log 103 (DESIGN CHOICE, unsafe), 104 (DESIGN CHOICE, unsafe). -/
def execRefReturn (src : Nat) (s : State) : Host.Outcome State Fault Refusal :=
  let s : State := if src = 0 then s
    else { s.setFd F.CLK_STAT_EXT_PRESENT 0 0 1 with extRef := src }
  if src = s.fd F.CLK_REF_SEL ∧ (s.flag F.CLK_STAT_HOLDOVER ∨ s.fd F.CLK_REF_ACTIVE ≠ src) then .next (s.lockTo src)
  else .next s

/-- DIV_FAULT: a derived clock leaves its ±1 % window; `clk` is its number in the journal (R58). -/
def execDivFault (clk : Nat) (s : State) : Host.Outcome State Fault Refusal :=
  let s := s.raise F.CLK_STAT_DIV_FAULT F.CLK_STAT_DIV_CNT 0 0
  let s : State := if clk = 4 then s.setFd F.TIM_CT_STAT_INVALID 0 0 1 else s
  .next (s.journal 0x05 0x01 0x00 2 [3, clk])

/-- PCIE_REF_LOSS: the PCIe reference is lost, and the link with it (R57, R582). Log 87 (DEDUCED, unsafe). -/
def execPcieRefLoss (s : State) : Host.Outcome State Fault Refusal :=
  .next { s.setFd F.CLK_STAT_PCIE_REF 0 0 0 with hs := { s.hs with link := false } }

/-! ## CLK_DVFS (R55, R56, R537) -/

/-- Nominal voltage of a divider code, in mV. -/
def nominalMv (code : Nat) : Nat := ([850, 800, 720, 680, 600] : List Nat).getD code 600

/-- The CLK_DVFS field of island `i`: CORE_A, CORE_B, SOLV. -/
def dvfsField (i : Nat) : Field :=
  if i = 0 then F.CLK_DVFS_CORE_A else if i = 1 then F.CLK_DVFS_CORE_B else F.CLK_DVFS_SOLV

/-- A settled and checked voltage of island `i` that covers a divider (R55): the checked voltage reaches the nominal
one, or the divider does not rise. While the adaptive loop holds the present divider, its voltage covers only that
divider (R534). Log 26 (DEDUCED, unsafe). -/
def State.dvfsCovered (s : State) (i code : Nat) : Bool :=
  decide (s.fd (dvfsField i) ≤ code) ||
    (s.flag F.PW_VOLTi_STAT_CHECKED i && decide (nominalMv code ≤ s.fd F.PW_VOLTi_STAT_MEAS i))

/-- A write of CLK_DVFS, in the order: RANGE, a step of the island in progress, the TRIM cap, the voltage order
(R55, R537, R648). While AVS is 1, TARGET reads the nominal voltage of the new divider (R538).
Log 26 (DEDUCED, unsafe). -/
def writeDvfs (q : Requester) (v : Word) (s : State) : State :=
  let isl : List Nat := [0, 1, 2]
  let new (i : Nat) := (dvfsField i).of v.toNat
  let old (i : Nat) := s.fd (dvfsField i)
  if isl.any (fun i => decide (4 < new i)) then s.refuse q .CLK_DVFS 0 0 0x03
  else if isl.any (fun i => decide (new i ≠ old i) && s.flag F.PW_VOLTi_STAT_STEPPING i) then
    s.refuse q .CLK_DVFS 0 0 0x01
  else if s.fd F.PW_MOD_STATE = 1 ∧ isl.any (fun i => decide (new i < old i ∧ new i < s.fd F.PW_TRIM_CAP)) then
    s.refuse q .CLK_DVFS 0 0 0x71
  else if isl.any (fun i => decide (new i < old i) && !s.dvfsCovered i (new i)) then
    s.refuse q .CLK_DVFS 0 0 0x0A
  else
    (s.plainWrite .CLK_DVFS 0 0 v.toNat).forEach isl (fun i s =>
      if s.flag F.PW_VOLTi_CTL_AVS i then s.setFd F.PW_VOLTi_CTL_TARGET i 0 (nominalMv (s.fd (dvfsField i))) else s)

/-- DVFS_WRITE: a write of CLK_DVFS by a requester. -/
def execDvfsWrite (q : Requester) (v : Word) (s : State) : Host.Outcome State Fault Refusal :=
  s.write q .CLK_DVFS 0 0 (writeDvfs q v)

/-! ## CT and PT (R59 to R71) -/

/-- A write of TIM_CT_SET_HI: the load applies at the next TIME tick, or is refused while a port is enabled (R10,
R64). -/
def writeCtSet (q : Requester) (v : Word) (s : State) : State :=
  let (lo, s) := s.takeLo q .TIM_CT_SET_LO 0
  if s.anyPort then s.refuse q .TIM_CT_SET_HI 0 0 0x02
  else
    let s := s.setRg64 .TIM_CT_SET_LO .TIM_CT_SET_HI 0 (v.toNat * 2 ^ 32 + lo)
    { s with time := { s.time with ctLoad := some (v.toNat * 2 ^ 32 + lo) } }

/-- An accepted PT write restarts the validity timeout (R70). Log 102 (DEDUCED, unsafe). -/
def State.ptTouched (s : State) : State := { s with time := { s.time with ptWriteAt := s.time.ct } }

/-- 1.998 ns and 2.002 ns in 8.32 form: the window of PT increments, ±1,000 ppm, bounds included (R67). The bounds
are compared exactly: 1,998 × 2^32 ≤ 1,000 × inc ≤ 2,002 × 2^32. -/
def ptIncOk (inc : Nat) : Bool := decide (1998 * 2 ^ 32 ≤ 1000 * inc ∧ 1000 * inc ≤ 2002 * 2 ^ 32)

/-- A write of TIM_PT_INC_HI applies the increment at the next tick, or discards both halves (R10, R67). -/
def writePtInc (q : Requester) (v : Word) (s : State) : State :=
  let (lo, s) := s.takeLo q .TIM_PT_INC_LO 0
  let hi := v.toNat % 2 ^ 8
  if ptIncOk (hi * 2 ^ 32 + lo) then
    (s.setRg64 .TIM_PT_INC_LO .TIM_PT_INC_HI 0 (hi * 2 ^ 32 + lo)).ptTouched
  else s.refuse q .TIM_PT_INC_HI 0 0 0x03

/-- A write of TIM_PT_ADJ adds its signed value at the next tick, with the others of that tick (R68).
Log 23 (DEDUCED, unsafe). -/
def writePtAdj (v : Word) (s : State) : State :=
  ({ s with time := { s.time with ptAdj := s.time.ptAdj + v.toInt } }).ptTouched

/-- A write of TIM_PT_SET_HI loads PT at the next tick (R10, R69). Log 23 (DEDUCED, unsafe). -/
def writePtSet (q : Requester) (v : Word) (s : State) : State :=
  let (lo, s) := s.takeLo q .TIM_PT_SET_LO 0
  let s := s.setRg64 .TIM_PT_SET_LO .TIM_PT_SET_HI 0 (v.toNat * 2 ^ 32 + lo)
  ({ s with time := { s.time with ptLoad := some (v.toNat * 2 ^ 32 + lo) } }).ptTouched

/-- CT_SET: a write of TIM_CT_SET_HI by a requester. -/
def execCtSet (q : Requester) (v : Word) (s : State) : Host.Outcome State Fault Refusal :=
  s.write q .TIM_CT_SET_HI 0 0 (writeCtSet q v)

/-- PT_INC_SET: a write of TIM_PT_INC_HI by a requester. -/
def execPtIncSet (q : Requester) (v : Word) (s : State) : Host.Outcome State Fault Refusal :=
  s.write q .TIM_PT_INC_HI 0 0 (writePtInc q v)

/-- PT_ADJ: a write of TIM_PT_ADJ by a requester. -/
def execPtAdj (q : Requester) (v : Word) (s : State) : Host.Outcome State Fault Refusal :=
  s.write q .TIM_PT_ADJ 0 0 (writePtAdj v)

/-- PT_SET: a write of TIM_PT_SET_HI by a requester. -/
def execPtSet (q : Requester) (v : Word) (s : State) : Host.Outcome State Fault Refusal :=
  s.write q .TIM_PT_SET_HI 0 0 (writePtSet q v)

/-- PT_VALID_TIMEOUT: VTO seconds of CT have passed without an accepted PT write: VALID is cleared and STALE set
(R70). Log 102 (DEDUCED, unsafe). -/
def execPtValidTimeout (s : State) : Host.Outcome State Fault Refusal :=
  let vto := s.fd F.TIM_PT_CTL_VTO
  if vto ≠ 0 ∧ s.flag F.TIM_PT_CTL_VALID then
    let s := s.advance (s.ticksToCt (s.time.ptWriteAt + vto * 1000000000 * 2 ^ 32))
    .next ((s.setFd F.TIM_PT_CTL_VALID 0 0 0).raise F.TIM_PT_CTL_STALE F.TIM_PT_CTL_STALE_CNT 0 0)
  else .next s

/-- A write of TIM_PT_CTL: VTO and VALID are set, STALE cleared by 1 (R6). VALID from 0 to 1 starts a
discipline of the calendar (R86), and does not restart the timeout (R70). Log 102 (DEDUCED, unsafe). -/
def writePtCtl (v : Word) (s : State) : State :=
  let was := s.flag F.TIM_PT_CTL_VALID
  let s := s.plainWrite .TIM_PT_CTL 0 0 v.toNat
  if ¬ was ∧ s.flag F.TIM_PT_CTL_VALID then { s with cal := { s.cal with started := false } } else s

/-! ## Captures (R72 to R75) -/

/-- A capture event on channel `n`: it latches CT and PT, or finds FULL set, or cleared by a write in the same TIME tick,
and counts in OVR_CNT with FULL set (R73, R74). -/
def State.capture (s : State) (n : Nat) : State :=
  let f := F.TIM_CAPn_CTL_FULL
  if s.flag f n ∨ s.time.cleared.contains (f.reg.addr n 0, f.lo) then s.raise f F.TIM_CAPn_CTL_OVR_CNT n 0
  else
    let s := s.setRg64 .TIM_CAPn_CT_LO .TIM_CAPn_CT_HI n s.ctNs
    (s.setRg64 .TIM_CAPn_PT_LO .TIM_CAPn_PT_HI n s.ptNs).raiseFlag f n 0

/-- The channels that an event of source `src` reaches; for a GPIO, those whose EDGE takes its direction. -/
def State.captureAll (s : State) (src : Nat) (rising : Bool) : State :=
  s.forEach (List.range 8) (fun n s =>
    let e := s.fd F.TIM_CAPn_CTL_EDGE n
    if s.flag F.TIM_CAPn_CTL_EN n ∧ s.fd F.TIM_CAPn_CTL_SRC n = src ∧
        (0x20 ≤ src ∨ e = 2 ∨ (e = 0 ∧ rising) ∨ (e = 1 ∧ ¬ rising)) then s.capture n
    else s)

/-- A write of TIM_CAPn_CTL: RANGE for an undefined SRC or EDGE; SWTRIG makes an event when SRC is 0x30, before FULL
can be cleared by the same write (R7, R74). -/
def writeCapCtl (q : Requester) (n : Nat) (v : Word) (s : State) : State :=
  let src := F.TIM_CAPn_CTL_SRC.of v.toNat
  if ¬ (src ≤ 0x29 ∨ src = 0x30) ∨ F.TIM_CAPn_CTL_EDGE.of v.toNat = 3 then s.refuse q .TIM_CAPn_CTL n 0 0x03
  else
    let trig := F.TIM_CAPn_CTL_SWTRIG.of v.toNat = 1 ∧ src = 0x30 ∧ F.TIM_CAPn_CTL_EN.of v.toNat = 1
    if trig then
      let s := s.plainWrite .TIM_CAPn_CTL n 0 (setBits v.toNat 1 1 0)
      s.capture n
    else
      s.clearWrite .TIM_CAPn_CTL n 0 v.toNat (2 ^ F.TIM_CAPn_CTL_FULL.lo)

/-- TIME_CAPTURE_EVENT: after `dt` TIME ticks the event of a source occurs (R73, R74). -/
def execTimeCaptureEvent (src : Nat) (rising : Bool) (dt : Nat) (s : State) : Host.Outcome State Fault Refusal :=
  .next ((s.advance dt).captureAll src rising)

/-- SWTRIG: a write of TIM_CAPn_CTL by a requester. -/
def execSwtrig (q : Requester) (n : Nat) (v : Word) (s : State) : Host.Outcome State Fault Refusal :=
  s.write q .TIM_CAPn_CTL n 0 (writeCapCtl q n v)

/-! ## The calendar (R81 to R89) -/

/-- A load of the calendar: the sub-second count is cleared, and VALID becomes 1 (R84, R89). -/
def State.loadCal (s : State) (sec : Nat) : State :=
  ({ s with cal := { s.cal with sec := sec % 2 ^ 64, sub := 0, leapNow := false } }).setFd F.CAL_STAT_VALID 0 0 1

/-- A write of CAL_SET_HI (R10, R84). -/
def writeCalSet (q : Requester) (v : Word) (s : State) : State :=
  let (lo, s) := s.takeLo q .CAL_SET_LO 0
  if s.flag F.CAL_CTL_DISC then s.refuse q .CAL_SET_HI 0 0 0x02
  else (s.setRg64 .CAL_SET_LO .CAL_SET_HI 0 (v.toNat * 2 ^ 32 + lo)).loadCal (v.toNat * 2 ^ 32 + lo)

/-- A write of CAL_CTL: discipline starts afresh when DISC becomes 1 (R86). -/
def writeCalCtl (v : Word) (s : State) : State :=
  let was := s.flag F.CAL_CTL_DISC
  let s := s.plainWrite .CAL_CTL 0 0 v.toNat
  if ¬ was then { s with cal := { s.cal with started := false } } else s

/-- A write of CAL_TRIM: refused with STATE while DISC is 1 (R648). -/
def writeCalTrim (q : Requester) (v : Word) (s : State) : State :=
  if s.flag F.CAL_CTL_DISC ∧ ¬ s.keeps F.CAL_TRIM_TRIM 0 0 v.toNat then s.refuse q .CAL_TRIM 0 0 0x02
  else s.plainWrite .CAL_TRIM 0 0 v.toNat

/-- A write of CAL_UTC: LEAP 0b11 is refused with RANGE. -/
def writeCalUtc (q : Requester) (v : Word) (s : State) : State :=
  if F.CAL_UTC_LEAP.of v.toNat = 3 then s.refuse q .CAL_UTC 0 0 0x03 else s.plainWrite .CAL_UTC 0 0 v.toNat

/-- CAL_SET: a write of CAL_SET_HI by a requester. -/
def execCalSet (q : Requester) (v : Word) (s : State) : Host.Outcome State Fault Refusal :=
  s.write q .CAL_SET_HI 0 0 (writeCalSet q v)

/-- UTC_OFS, signed seconds. -/
def State.utcOfs (s : State) : Int := toSigned 16 (s.fd F.CAL_UTC_UTC_OFS)

/-- The calendar follows PT: DISC and VALID are 1 (R86). Log 24 (DEDUCED, unsafe). -/
def State.disciplined (s : State) : Bool := s.flag F.CAL_CTL_DISC && s.flag F.TIM_PT_CTL_VALID

/-- The lag of the calendar behind PT − UTC_OFS, in crystal cycles, at the PT second in which PT stands (R86). -/
def State.calLag (s : State) : Int :=
  ((s.ptNs / 1000000000 : Nat) - s.utcOfs - (s.cal.sec : Int)) * 32768 +
    ((s.ptNs % 1000000000 * 32768 / 1000000000 : Nat) : Int) - (s.cal.sub : Int)

/-- Seconds of PT − UTC_OFS. -/
def State.ptUtc (s : State) : Nat := (((s.ptNs / 1000000000 : Nat) : Int) - s.utcOfs).toNat

/-- TIME ticks until PT reaches its next whole second; a pending load or adjustment applies at the first of them and may
itself reach one. -/
def State.ticksToPtSecond (s : State) : Nat :=
  let sec := 1000000000 * 2 ^ 32
  let first := s.ptNext
  let met := if s.time.ptLoad.isSome then decide (first % sec = 0) else decide (s.time.pt / sec < first / sec)
  if met then 1 else 1 + ticksUp s.ptIncReg first ((first / sec + 1) * sec)

/-- CAL_DISC_SECOND: at the next PT second under discipline the lag is measured; at the first one, and whenever it
reaches 32,768 cycles, the calendar is loaded (R86). Log 24 (DEDUCED, unsafe). -/
def execCalDiscSecond (s : State) : Host.Outcome State Fault Refusal :=
  let s := s.advance s.ticksToPtSecond
  if ¬ s.disciplined then .next s
  else
    let e := s.calLag
    if ¬ s.cal.started ∨ 32768 ≤ e.natAbs then
      let s := s.loadCal s.ptUtc
      .next { s with cal := { s.cal with started := true, eLast := 0,
                                         eStart := if s.cal.started then s.cal.eStart else 0 } }
    else .next { s with cal := { s.cal with eLast := e } }

/-- TIME ticks until the calendar has counted `n` more crystal cycles. -/
def State.ticksToCycles (s : State) (n : Nat) : Nat := (n * 500000000 - s.cal.frac + 32767) / 32768

/-- Time passes until the calendar's window of 2^25 cycles ends; one that has ended is met at once (R85, R86). -/
def State.toWindowEnd (s : State) : State :=
  let s := if s.cal.windowDue then s else s.advance (s.ticksToCycles (2 ^ 25 - s.cal.window))
  { s with cal := { s.cal with windowDue := false } }

/-- CAL_TRIM_WINDOW: at the end of a 1,024 s window under discipline, TRIM becomes
TRIM + (e_end − e_start) + clamp(e_end, ±64), clamped to ±1,023 (R86). -/
def execCalTrimWindow (s : State) : Host.Outcome State Fault Refusal :=
  let s := s.toWindowEnd
  if ¬ s.disciplined then .next s
  else
    let e := s.cal.eLast
    let t := toSigned 11 (s.fd F.CAL_TRIM_TRIM) + (e - s.cal.eStart) + clampInt (-64) 64 e
    let s := s.setFd F.CAL_TRIM_TRIM 0 0 (ofSigned 11 (clampInt (-1023) 1023 t))
    .next { s with cal := { s.cal with eStart := e } }

/-- The fewest crystal cycles that bring `k` sub-second steps from cycle `w` of the window on, with TRIM `trim` (R85). -/
def calCycles (trim : Int) (w k : Nat) : Nat :=
  let n := ((k : Int) * (2 ^ 25 : Nat) / ((2 ^ 25 : Nat) + trim)).toNat - 2
  ((List.range 6).map (n + ·)).find? (fun m => decide (k ≤ calSteps trim w m)) |>.getD k

/-- TIME ticks until the calendar, at its TRIM, reaches a second (R85). -/
def State.ticksToCal (s : State) (sec : Nat) : Nat :=
  let k := sec * 2 ^ 15 - (s.cal.sec * 2 ^ 15 + s.cal.sub)
  if k = 0 then 0 else s.ticksToCycles (calCycles (toSigned 11 (s.fd F.CAL_TRIM_TRIM)) s.cal.window k)

/-- UTC_OFS adjusted by a leap second, and LEAP cleared (R88). -/
def State.leapApply (s : State) (d : Int) (c : CalState) : State :=
  ({ s with cal := c }.setFd F.CAL_UTC_UTC_OFS 0 0 (ofSigned 16 (s.utcOfs + d))).setFd F.CAL_UTC_LEAP 0 0 0

/-- LEAP_SECOND: the announced leap second at the end of the present UTC day (R88). An insertion holds 23:59:59 with
the seconds at 60 for one more second; a deletion skips 23:59:59. -/
def execLeapSecond (s : State) : Host.Outcome State Fault Refusal :=
  let day := s.cal.sec / 86400
  match s.fd F.CAL_UTC_LEAP with
  | 1 =>
    let s := s.advance (s.ticksToCal ((day + 1) * 86400))
    .next (s.leapApply 1 { s.cal with sec := day * 86400 + 86399, leapNow := true })
  | 2 =>
    let s := s.advance (s.ticksToCal (day * 86400 + 86399))
    .next (s.leapApply (-1) { s.cal with sec := (day + 1) * 86400 })
  | _ => .next s

/-- CAL_ON_BACKUP: VIN12 is lost, and the calendar runs from the supercap (R82). -/
def execCalOnBackup (s : State) : Host.Outcome State Fault Refusal :=
  .next { s with cal := { s.cal with supply := .supercap } }

/-- SUPERCAP_EXHAUSTED: the calendar moves to VBAT: BAT_USED is set and BAT_CNT increments (R82). -/
def execSupercapExhausted (s : State) : Host.Outcome State Fault Refusal :=
  if s.cal.supply = .supercap then
    .next (({ s with cal := { s.cal with supply := .vbat } }).raise F.CAL_STAT_BAT_USED F.CAL_STAT_BAT_CNT 0 0)
  else .next s

/-- CAL_SUPPLY_LOST: after a loss of all supply the calendar restarts at 0 seconds with TRIM 0, VALID 0 and LOST 1
(R89); it runs from VBAT while the module is held without VIN12. Its other registers keep their values.
Log 105 (DEDUCED, unsafe). -/
def execCalSupplyLost (s : State) : Host.Outcome State Fault Refusal :=
  let s : State := { s with cal := { sec := 0, sub := 0, window := 0, frac := 0, leapNow := false, eStart := 0, eLast := 0,
                                     started := false, windowDue := false, supply := if s.held then .vbat else .vin12 } }
  let s := (s.setFd F.CAL_TRIM_TRIM 0 0 0).setFd F.CAL_STAT_VALID 0 0 0
  .next (s.raise F.CAL_STAT_LOST F.CAL_STAT_LOST_CNT 0 0)

end Sys2Proof.Machine
end

