-- ==== Sys2Proof/Machine/SafetySet.lean ====
section
/-!
DEFINITION. The safety parameter set (R408 to R412, R472 to R474): its fields as Thallus reads them, its check value,
and the checks of a commit (R413, R423, R475). A set is read from an image: the listed bytes of a bank, from 0 on.
-/

namespace Sys2Proof.Machine

/-- The image of a set: its listed bytes. -/
abbrev SetImg := List Host.Cell

/-- The image of safety-set bank `b` in MRAM. -/
def State.bankImg (s : State) (b : Nat) : SetImg :=
  Mem.slice s.mem.safety (b * 0x100000) ((b + 1) * 0x100000) 0

/-- Directory entry `i`: ID, OFFSET, LENGTH (R472). -/
def dirEntry (m : SetImg) (i : Nat) : Nat × Nat × Nat :=
  (Mem.num m (64 + 16 * i) 1, Mem.num m (68 + 16 * i) 4, Mem.num m (72 + 16 * i) 4)

/-- The directory. -/
def setDir (m : SetImg) : List (Nat × Nat × Nat) := (List.range (Mem.num m 2 2)).map (dirEntry m)

/-- The offset and the length of section `id`, 0 for a section that is absent. -/
def secAt (m : SetImg) (id : Nat) : Nat × Nat :=
  match (setDir m).find? (fun d => d.1 = id) with
  | some d => d.2
  | none => (0, 0)

/-- `n` bytes at byte `b` of entry `e`, of `size` bytes, of section `id`. -/
def setNum (m : SetImg) (id size e b n : Nat) : Nat := Mem.num m ((secAt m id).1 + size * e + b) n

/-- The same as a signed number. -/
def setInt (m : SetImg) (id size e b n : Nat) : Int := toSigned (8 * n) (setNum m id size e b n)

/-- LENGTH of the set and the check value of R473. -/
def setLen (m : SetImg) : Nat := Mem.num m 4 4
def setCheck (m : SetImg) : Nat := crc32c (Mem.readN m 0 (setLen m))

/-! ## Sections 0x01 to 0x06 (R474) -/

def gDegSpeed (m : SetImg) : Int := setInt m 0x01 32 0 0 4
def gStaleMin (m : SetImg) : Nat := setNum m 0x01 32 0 4 2
def gKeySi (m : SetImg) : Nat := setNum m 0x01 32 0 6 1
def gSlsScale (m : SetImg) : Nat := setNum m 0x01 32 0 8 4
def gSafeId (m : SetImg) : Nat := setNum m 0x01 32 0 12 4

def nNode (m : SetImg) (e : Nat) : Nat := setNum m 0x02 16 e 0 2
def nKind (m : SetImg) (e : Nat) : Nat := setNum m 0x02 16 e 2 1
def nOn (m : SetImg) (e : Nat) : Bool := bit (setNum m 0x02 16 e 3 1) 0
def nSafeId (m : SetImg) (e : Nat) : Nat := setNum m 0x02 16 e 4 4

/-- The ENABLED entries of section 0x02. -/
def nodesOn (m : SetImg) : List Nat := (List.range 512).filter (nOn m)

/-- The SAFE_ID of an ENABLED node of a kind (R455, R460). -/
def safeIdOf (m : SetImg) (kind node : Nat) : Option Nat :=
  ((nodesOn m).find? (fun e => nNode m e = node && nKind m e = kind)).map (nSafeId m)

def iFunc (m : SetImg) (i : Nat) : Nat := setNum m 0x03 8 i 0 1
def iTp (m : SetImg) (i : Nat) : Nat := setNum m 0x03 8 i 1 1
def iPair (m : SetImg) (i : Nat) : Nat := setNum m 0x03 8 i 2 1
def iCat (m : SetImg) (i : Nat) : Nat := setNum m 0x03 8 i 3 1
def iGroups (m : SetImg) (i : Nat) : Nat := setNum m 0x03 8 i 4 2
def iFilter (m : SetImg) (i : Nat) : Nat := setNum m 0x03 8 i 6 1
def iDisc (m : SetImg) (i : Nat) : Nat := setNum m 0x03 8 i 7 1

/-- Input `i` heads a pair (R447). -/
def iHeads (m : SetImg) (i : Nat) : Bool :=
  decide (i % 2 = 0) && (iPair m i = 1 || iPair m i = 2) && decide (iFunc m i ≠ 0)

/-- Input `i` is in use (R475). -/
def iUsed (m : SetImg) (i : Nat) : Bool := decide (iFunc m i ≠ 0) || (decide (i % 2 = 1) && iHeads m (i - 1))

/-- The entry that governs input `i`: the head of its pair, or itself. -/
def iOwner (m : SetImg) (i : Nat) : Nat := if i % 2 = 1 ∧ iHeads m (i - 1) then i - 1 else i

def tWidth (m : SetImg) (k : Nat) : Nat := setNum m 0x04 4 k 0 2
def tPeriod (m : SetImg) (k : Nat) : Nat := setNum m 0x04 4 k 2 2

def oGroups (m : SetImg) (j : Nat) : Nat := setNum m 0x05 8 j 0 2
def oOffAt (m : SetImg) (j : Nat) : Nat := setNum m 0x05 8 j 2 1
def oDark (m : SetImg) (j : Nat) : Nat := setNum m 0x05 8 j 3 1
def oDelay (m : SetImg) (j : Nat) : Nat := setNum m 0x05 8 j 4 2
def oDarkPer (m : SetImg) (j : Nat) : Nat := setNum m 0x05 8 j 6 2

def xCh (m : SetImg) (e : Nat) : Nat := setNum m 0x06 24 e 0 1
def xRole (m : SetImg) (e : Nat) : Nat := setNum m 0x06 24 e 1 1
def xMode (m : SetImg) (e : Nat) : Nat := setNum m 0x06 24 e 2 1
def xGray (m : SetImg) (e : Nat) : Nat := b2n (bit (setNum m 0x06 24 e 3 1) 0)
def xBits (m : SetImg) (e : Nat) : Nat := setNum m 0x06 24 e 4 1
def xErrBits (m : SetImg) (e : Nat) : Nat := setNum m 0x06 24 e 5 1
def xDirInv (m : SetImg) (e : Nat) : Bool := bit (setNum m 0x06 24 e 3 1) 1
def xMinEdge (m : SetImg) (e : Nat) : Nat := setNum m 0x06 24 e 6 1
def xThr (m : SetImg) (e : Nat) : Nat := setNum m 0x06 24 e 7 1
def xGroup (m : SetImg) (e : Nat) : Nat := setNum m 0x06 24 e 8 1
def xLink (m : SetImg) (e : Nat) : Nat := setNum m 0x06 24 e 9 1
def xScale (m : SetImg) (e : Nat) : Nat := setNum m 0x06 24 e 12 4
def xOffset (m : SetImg) (e : Nat) : Int := setInt m 0x06 24 e 16 4
def xTol (m : SetImg) (e : Nat) : Int := setInt m 0x06 24 e 20 4

/-- The used entries of section 0x06. -/
def xUsed (m : SetImg) : List Nat := (List.range 32).filter (fun e => xCh m e ≠ 0xFF)

/-- The entry of section 0x06 that names a channel (R462). -/
def xOf (m : SetImg) (ch : Nat) : Option Nat := (xUsed m).find? (fun e => xCh m e = ch)

/-! ## The separation sections (R408 to R412) -/

def mVh (m : SetImg) : Int := setInt m 0x10 32 0 0 4
def mVhMin (m : SetImg) : Int := setInt m 0x10 32 0 4 4
def mDrr (m : SetImg) : Int := setInt m 0x10 32 0 8 4
def mDegScale (m : SetImg) : Nat := setNum m 0x10 32 0 12 4
def mResToken (m : SetImg) : Nat := setNum m 0x10 32 0 16 2
def mResumeCyc (m : SetImg) : Nat := setNum m 0x10 32 0 18 1
def mAutoResume (m : SetImg) : Bool := bit (setNum m 0x10 32 0 19 1) 0

def aAxes (m : SetImg) (g : Nat) : Nat := setNum m 0x11 64 g 1 1
def aCapsules (m : SetImg) (g : Nat) : Nat := setNum m 0x11 64 g 2 1
def aOn (m : SetImg) (g : Nat) : Bool := bit (setNum m 0x11 64 g 3 1) 0
def aStopCat (m : SetImg) (g : Nat) : Nat := setNum m 0x11 64 g 4 1
def aToolLink (m : SetImg) (g : Nat) : Nat := setNum m 0x11 64 g 5 1
def aTDrive (m : SetImg) (g : Nat) : Nat := setNum m 0x11 64 g 48 4
def aAMax (m : SetImg) (g : Nat) : Int := setInt m 0x11 64 g 52 4
def aZr (m : SetImg) (g : Nat) : Int := setInt m 0x11 64 g 56 4

/-- The monitored arm groups (R401). -/
def groupsOn (m : SetImg) : List Nat := (List.range 16).filter (aOn m)

/-- Safety link `k` of arm group `g` is entry 16 g + k (R409). -/
def lType (m : SetImg) (e : Nat) : Nat := setNum m 0x12 64 e 0 1
def lParent (m : SetImg) (e : Nat) : Nat := setNum m 0x12 64 e 1 1
def lKind (m : SetImg) (e : Nat) : Nat := setNum m 0x12 64 e 2 1
def lCh (m : SetImg) (e : Nat) : Nat := setNum m 0x12 64 e 3 1
def lNode (m : SetImg) (e : Nat) : Nat := setNum m 0x12 64 e 4 2
def lPosOffset (m : SetImg) (e : Nat) : Int := setInt m 0x12 64 e 48 4

/-- Robot capsule `i` of arm group `g` is record 12 g + i (R410). -/
def cIndex (m : SetImg) (e : Nat) : Nat := setNum m 0x13 32 e 1 1
def cLink (m : SetImg) (e : Nat) : Nat := setNum m 0x13 32 e 2 1
def cOn (m : SetImg) (e : Nat) : Bool := bit (setNum m 0x13 32 e 3 1) 0
def cRadius (m : SetImg) (e : Nat) : Nat := setNum m 0x13 32 e 28 4

/-- The ENABLED capsules of arm group `g` (R421). Log 42 (DEDUCED, unsafe). -/
def capsulesOn (m : SetImg) (g : Nat) : List Nat :=
  (List.range (min 12 (aCapsules m g))).filter (fun i => cOn m (12 * g + i))

def zKind (m : SetImg) (z : Nat) : Nat := setNum m 0x14 64 z 1 1
def zShape (m : SetImg) (z : Nat) : Nat := setNum m 0x14 64 z 2 1
def zOn (m : SetImg) (z : Nat) : Bool := bit (setNum m 0x14 64 z 3 1) 0
def zGroups (m : SetImg) (z : Nat) : Nat := setNum m 0x14 64 z 6 2
def zGeom (m : SetImg) (z k : Nat) : Int := setInt m 0x14 64 z (8 + 4 * k) 4
def zSpeed (m : SetImg) (z : Nat) : Int := setInt m 0x14 64 z 56 4
def zCarrier (m : SetImg) (z : Nat) : Nat := setNum m 0x14 64 z 60 1
def zCarrierLink (m : SetImg) (z : Nat) : Nat := setNum m 0x14 64 z 61 1

/-- The arm group that carries a dynamic zone; records 0 to 63 are static (R20, R410). -/
def zCarriedBy (m : SetImg) (z : Nat) : Option Nat := if z < 64 then none else some (zCarrier m z)

/-- The radius of a capsule zone, unsigned (R19, R20). -/
def zRadius (m : SetImg) (z : Nat) : Nat := setNum m 0x14 64 z 32 4

/-- The ENABLED zones of a kind. -/
def zonesOn (m : SetImg) (kind : Nat) : List Nat :=
  (List.range 80).filter (fun z => zOn m z && decide (zKind m z = kind))

def sNode (m : SetImg) (e : Nat) : Nat := setNum m 0x15 32 e 0 2
def sFirst (m : SetImg) (e : Nat) : Nat := setNum m 0x15 32 e 2 1
def sCount (m : SetImg) (e : Nat) : Nat := setNum m 0x15 32 e 3 1
def sGroups (m : SetImg) (e : Nat) : Nat := setNum m 0x15 32 e 4 2
def sOn (m : SetImg) (e : Nat) : Bool := bit (setNum m 0x15 32 e 6 1) 0
def sVelOk (m : SetImg) (e : Nat) : Bool := bit (setNum m 0x15 32 e 6 1) 1
def sTSensor (m : SetImg) (e : Nat) : Nat := setNum m 0x15 32 e 8 4
def sMaxAge (m : SetImg) (e : Nat) : Nat := setNum m 0x15 32 e 12 4
def sC (m : SetImg) (e : Nat) : Int := setInt m 0x15 32 e 16 4
def sZd (m : SetImg) (e : Nat) : Int := setInt m 0x15 32 e 20 4

/-- The ENABLED person sensors. -/
def sensorsOn (m : SetImg) : List Nat := (List.range 16).filter (sOn m)

/-- The number of stopping envelopes (R412, R474). -/
def envCount (m : SetImg) : Nat := (secAt m 0x16).2 / 200
def eGroup (m : SetImg) (e : Nat) : Nat := setNum m 0x16 200 e 0 1
def eCat (m : SetImg) (e : Nat) : Nat := setNum m 0x16 200 e 1 1

/-- The points of envelope `e`: SPEED, T_S, S_S. -/
def ePoints (m : SetImg) (e : Nat) : List (Int × Nat × Int) :=
  (List.range (min 16 (setNum m 0x16 200 e 2 1))).map (fun i =>
    (setInt m 0x16 200 e (8 + 12 * i) 4, setNum m 0x16 200 e (12 + 12 * i) 4, setInt m 0x16 200 e (16 + 12 * i) 4))

/-- The points of the envelope of an arm group's STOP_CAT (R425). -/
def envOf (m : SetImg) (g : Nat) : List (Int × Nat × Int) :=
  match (List.range (envCount m)).find? (fun e => eGroup m e = g && eCat m e = aStopCat m g) with
  | some e => ePoints m e
  | none => []

/-! ## The evaluation bound (R423) -/

/-- The pairs of R421 with every person slot of every ENABLED sensor tracked. -/
def pairBound (m : SetImg) : Nat :=
  let caps (g : Nat) : Nat := (capsulesOn m g).length
  let on := groupsOn m
  let rp := ((sensorsOn m).map (fun e =>
    ((on.filter (fun g => bit (sGroups m e) g)).map (fun g => caps g * sCount m e * 4)).sum)).sum
  let rr := (on.map (fun a => ((on.filter (fun b => a < b)).map (fun b => caps a * caps b)).sum)).sum
  let rz := ((zonesOn m 0 ++ zonesOn m 1).map (fun z =>
    ((on.filter (fun g => bit (zGroups m z) g && decide (zCarriedBy m z ≠ some g))).map caps).sum)).sum
  let tz := ((zonesOn m 2).map (fun z => (on.filter (fun g => bit (zGroups m z) g)).length)).sum
  let pz := (zonesOn m 3).length * ((sensorsOn m).map (fun e => sCount m e * 4)).sum
  rp + rr + rz + tz + pz

/-- T_max in units of 10 ps: 8.0 µs + 1.2 µs × G + 1.76 ns × P. -/
def tMax (m : SetImg) : Nat := 800000 + 120000 * (groupsOn m).length + 176 * pairBound m

/-- The window W, µs, by BASE code. -/
def windowUs (base : Nat) : Nat := ([93, 190, 384, 772] : List Nat).getD base 772

/-! ## The checks of a commit (R475) -/

/-- The exact sizes of the sections; section 0x16 may hold any multiple of 200 bytes up to 9,600 (R474). -/
def secSizes : List (Nat × Nat) :=
  [(0x01, 32), (0x02, 8192), (0x03, 256), (0x04, 16), (0x05, 160), (0x06, 768), (0x10, 32), (0x11, 1024),
   (0x12, 16384), (0x13, 6144), (0x14, 5120), (0x15, 512), (0x16, 9600)]

/-- Directory entry `i` is in order, given the entries before it. -/
def dirEntryOk (m : SetImg) (i : Nat) : Bool :=
  let (id, off, len) := dirEntry m i
  let before := (List.range i).map (dirEntry m)
  let sizeOk := if id = 0x16 then decide (len % 200 = 0 ∧ len ≤ 9600) else secSizes.any (fun e => e = (id, len))
  secSizes.any (fun e => e.1 = id) && !(before.any (fun d => d.1 = id)) && decide (off % 4 = 0) &&
    decide (off + len ≤ setLen m) && decide (64 + 16 * Mem.num m 2 2 ≤ off) &&
    !(before.any (fun d => off < d.2.1 + d.2.2 && d.2.1 < off + len)) && sizeOk

/-- A failed check: code, section, entry. Log 41 (DEDUCED, unsafe). -/
abbrev SetFail := Nat × Nat × Nat

/-- The first entry below `n` that fails a check, as a failure of a section. -/
def failIn (code sec n : Nat) (bad : Nat → Bool) : Option SetFail :=
  ((List.range n).find? bad).map (fun e => (code, sec, e))

/-- A condition that is not tied to an entry below a bound. -/
def failIf (bad : Bool) (f : SetFail) : Option SetFail := if bad then some f else none

/-- Order 1: the header and the directory. Log 42 (DEDUCED, unsafe). -/
def checkHeader (m : SetImg) : Option SetFail :=
  let len := setLen m
  let n := Mem.num m 2 2
  (failIf (decide (Mem.num m 0 2 ≠ 1) || decide (len % 4 ≠ 0) || decide (1048576 < len) || decide (len < 64 + 16 * n))
      (0x03, 0, 0xFFFF)).or
    (((List.range n).find? (fun i => !dirEntryOk m i)).map (fun i =>
      let id := (dirEntry m i).1
      (0x03, if secSizes.any (fun e => e.1 = id) then id else 0, i)))

/-- Order 2: all thirteen sections present. -/
def checkSections (m : SetImg) : Option SetFail :=
  (secSizes.find? (fun e => !((setDir m).any (fun d => d.1 = e.1)))).map (fun e => (0x04, e.1, 0xFFFF))

/-- Order 3: sections 0x01 and 0x02. -/
def checkGlobal (m : SetImg) : Option SetFail :=
  (failIf (!(decide (0 < gDegSpeed m) && decide (gDegSpeed m ≤ 250 * 65536) && decide (1 ≤ gStaleMin m) &&
      decide (gStaleMin m ≤ 4320) && decide (gSlsScale m ≤ 65536) && decide (gSafeId m ≠ 0))) (0x03, 0x01, 0)).or
    (failIn 0x03 0x02 512 (fun e => nOn m e && decide (1 < nKind m e)))

/-- An input in use whose fields are out of range (order 4). -/
def inputBad (m : SetImg) (i : Nat) : Bool :=
  !(decide (iCat m i ≤ 2) && (decide (iTp m i ≤ 3) || decide (iTp m i = 0xFF)) &&
    (decide (iPair m i = 0) || (decide (i % 2 = 0) && decide (iFunc m (i + 1) = 0))) &&
    decide (1 ≤ iFilter m i) && decide (iFilter m i ≤ 50) && decide (1 ≤ iDisc m i) && decide (iDisc m i ≤ 50) &&
    (decide (3 < iTp m i) || decide (tWidth m (iTp m i) < iFilter m i * 1000)))

/-- Order 4: sections 0x03 and 0x04. The commissioning key's failure names the input KEY_SI (assumption 41).
Log 41 (DEDUCED, unsafe). -/
def checkInputs (m : SetImg) : Option SetFail :=
  (failIn 0x03 0x03 32 (fun i => decide (3 < iFunc m i))).or
  ((failIn 0x03 0x03 32 (fun i => iUsed m i && inputBad m i)).or
  ((failIf (decide ((List.range 32).filter (fun i => iFunc m i = 3) ≠ [gKeySi m])) (0x03, 0x03, gKeySi m)).or
  (failIn 0x03 0x04 4 (fun k => (List.range 32).any (fun i => iUsed m i && decide (iTp m i = k)) &&
    !(decide (200 ≤ tWidth m k) && decide (tWidth m k ≤ 1000) && decide (10 ≤ tPeriod m k) &&
      decide (tPeriod m k ≤ 1000))))))

/-- Order 5: section 0x05. -/
def checkPairs (m : SetImg) : Option SetFail :=
  failIn 0x03 0x05 20 (fun j => decide (oGroups m j ≠ 0) &&
    !(decide (2 ≤ oOffAt m j) && decide (oOffAt m j ≤ 4) && decide (oDelay m j ≤ 2000) && decide (5 ≤ oDark m j) &&
      decide (oDark m j ≤ 30) && decide (2 ≤ oDarkPer m j)))

/-- Order 6: section 0x02 against itself and the active mode. -/
def checkNodes (s : State) (m : SetImg) : Option SetFail :=
  failIn 0x04 0x02 512 (fun e => nOn m e &&
    (let before := (List.range e).filter (nOn m)
     let ent := s.entryOf (nNode m e)
     before.any (fun x => nNode m x = nNode m e || nSafeId m x = nSafeId m e) ||
       decide (nSafeId m e = 0) || decide (nSafeId m e = gSafeId m) ||
       (match ent with
        | none => true
        | some x => if nKind m e = 0 then !x.safe || decide (x.rate ≠ 0) else decide (x.kind ≠ 2))))

/-- Order 7: section 0x06 against FB. -/
def checkFeedback (s : State) (m : SetImg) : Option SetFail :=
  failIn 0x04 0x06 32 (fun e => decide (xCh m e ≠ 0xFF) &&
    (let c := xCh m e
     decide (31 < c) || (List.range e).any (fun x => xCh m x = c) || !s.flag F.FB_CFGn_EN c ||
       decide (s.fd F.FB_CFGn_MODE c ≠ xMode m e) || decide (xThr m e < 2) || decide (30 < xThr m e) ||
       decide (15 < xGroup m e) || !aOn m (xGroup m e) || decide (aAxes m (xGroup m e) ≤ xLink m e) ||
       (decide (xRole m e = 0) &&
        !(decide (xMode m e = 1) && decide (s.fd F.FB_SSITn_OFS c = 0) && decide (s.fd F.FB_SSIn_BITS c = xBits m e) &&
          decide (s.fd F.FB_SSIn_ERR_BITS c = xErrBits m e) && decide (s.fd F.FB_SSIn_GRAY c = xGray m e)))))

/-- Channel `c` is a position source by section 0x06 (ROLE 0). -/
def roleZero (m : SetImg) (c : Nat) : Bool := (xUsed m).any (fun e => xCh m e = c && xRole m e = 0)

/-- The links that are checked: entry 16 g + k for k below AXES of an ENABLED arm group. -/
def linkUsed (m : SetImg) (e : Nat) : Bool := aOn m (e / 16) && decide (e % 16 < aAxes m (e / 16))

/-- Order 8: sections 0x12 and 0x15 against sections 0x02 and 0x06. -/
def checkSources (m : SetImg) : Option SetFail :=
  (failIn 0x04 0x12 256 (fun e => linkUsed m e &&
    (if lKind m e = 0 then (safeIdOf m 0 (lNode m e)).isNone || decide (1 < lCh m e)
     else decide (lKind m e = 1) && !roleZero m (lCh m e)))).or
    (failIn 0x04 0x15 16 (fun e => sOn m e && (safeIdOf m 1 (sNode m e)).isNone))

/-! ## The separation checks (R413) -/

/-- The norm of a vector or quaternion of UNIT components is within 2^-20 of 1. -/
def normBad (l : List Int) : Bool :=
  let q : Int := (l.map (fun x => x * x)).sum
  let one : Int := 2 ^ 30
  let tol : Int := 2 ^ 10
  decide (q < (one - tol) * (one - tol)) || decide ((one + tol) * (one + tol) < q)

/-- `n` UNIT components at byte `b` of an entry. -/
def unitAt (m : SetImg) (id size e b n : Nat) : List Int := (List.range n).map (fun k => setInt m id size e (b + 4 * k) 4)

/-- Check 1. -/
def ssmParams (m : SetImg) : Option SetFail :=
  failIf (!(decide (0 < mVh m) && decide (mVhMin m ≤ mVh m) && decide (65536 ≤ mDegScale m) &&
    decide (mDegScale m ≤ 262144) && decide (1 ≤ mResumeCyc m) && decide (setNum m 0x10 32 0 19 1 < 2) &&
    decide (setNum m 0x10 32 0 20 12 = 0))) (0x60, 0x10, 0)

/-- Check 2. -/
def ssmGroups (m : SetImg) : Option SetFail :=
  failIn 0x60 0x11 16 (fun g => aOn m g &&
    (decide (16 < aAxes m g) || decide (12 < aCapsules m g) || decide (2 < aStopCat m g) ||
      decide (aAxes m g ≤ aToolLink m g) || normBad (unitAt m 0x11 64 g 20 4)))

/-- The position source a link names. -/
def linkSource (m : SetImg) (e : Nat) : Nat × Nat × Nat := if lKind m e = 0 then (0, lNode m e, lCh m e) else (1, lCh m e, 0)

/-- Check 3. -/
def ssmLinks (s : State) (m : SetImg) : Option SetFail :=
  failIn 0x60 0x12 256 (fun e => linkUsed m e &&
    (let srcOk := if lKind m e = 0 then (match s.entryOf (lNode m e) with | some x => x.safe | none => false)
       else decide (lKind m e = 1) && decide (lCh m e ≤ 31) && roleZero m (lCh m e)
     decide (1 < lType m e) || !(decide (lParent m e < e % 16) || decide (lParent m e = 0xFF)) ||
       normBad (unitAt m 0x12 64 e 36 3) || normBad (unitAt m 0x12 64 e 20 4) || !srcOk ||
       (List.range e).any (fun x => linkUsed m x && decide (linkSource m x = linkSource m e))))

/-- Check 4, for the capsules below CAPSULES of an ENABLED arm group (assumption 42). Log 42 (DEDUCED, unsafe). -/
def ssmCapsules (m : SetImg) : Option SetFail :=
  failIn 0x60 0x13 192 (fun e =>
    let g := e / 12
    aOn m g && decide (e % 12 < aCapsules m g) &&
      !(decide (cIndex m e < aCapsules m g) && decide (0 < cRadius m e) &&
        (decide (cLink m e < aAxes m g) || decide (cLink m e = 0xFE) || decide (cLink m e = 0xFF))))

/-- The cross product at vertex `i` of a prism is positive: convex, counter-clockwise seen from +z. -/
def turnsLeft (m : SetImg) (z i : Nat) : Bool :=
  let x (k : Nat) := zGeom m z (2 * (k % 4))
  let y (k : Nat) := zGeom m z (2 * (k % 4) + 1)
  decide (0 < (x (i + 1) - x i) * (y (i + 2) - y (i + 1)) - (y (i + 1) - y i) * (x (i + 2) - x (i + 1)))

/-- The geometry of a zone is in order. -/
def zoneGeomOk (m : SetImg) (z : Nat) : Bool :=
  if zShape m z = 0 then (List.range 3).all (fun k => zGeom m z k < zGeom m z (k + 3))
  else if zShape m z = 2 then (List.range 4).all (turnsLeft m z) && decide (zGeom m z 8 < zGeom m z 9)
  else true

/-- Check 5. -/
def ssmZones (m : SetImg) : Option SetFail :=
  failIn 0x60 0x14 80 (fun z => zOn m z &&
    (decide (3 < zKind m z) || decide (2 < zShape m z) || !zoneGeomOk m z ||
       (match zCarriedBy m z with
        | none => false
        | some c => !(decide (c ≤ 15) && aOn m c &&
            (decide (zCarrierLink m z < aAxes m c) || decide (zCarrierLink m z = 0xFE))))))

/-- Check 6. -/
def ssmSensors (s : State) (m : SetImg) : Option SetFail :=
  failIn 0x60 0x15 16 (fun e => sOn m e &&
    (let nodeOk := match s.entryOf (sNode m e) with | some x => decide (x.kind = 2) && x.safe | none => false
     !nodeOk || decide (64 < sFirst m e + sCount m e) || decide (sMaxAge m e = 0) ||
       (List.range e).any (fun x => sOn m x && decide (sFirst m e < sFirst m x + sCount m x) &&
         decide (sFirst m x < sFirst m e + sCount m e))))

/-- Speeds rise strictly, times and distances never fall. -/
def pointsRise : List (Int × Nat × Int) → Bool
  | a :: b :: r => decide (a.1 < b.1) && decide (a.2.1 ≤ b.2.1) && decide (a.2.2 ≤ b.2.2) && pointsRise (b :: r)
  | _ => true

/-- Check 7; a missing envelope names the arm group as the entry (assumption 41). Log 41 (DEDUCED, unsafe). -/
def ssmEnvelopes (m : SetImg) : Option SetFail :=
  (failIn 0x60 0x16 16 (fun g => aOn m g &&
    !((List.range (envCount m)).any (fun e => eGroup m e = g && eCat m e = aStopCat m g)))).or
    (failIn 0x60 0x16 (envCount m) (fun e =>
      let p := ePoints m e
      decide ((p.head?.map (·.1)).getD 0 ≠ 0) || !pointsRise p))

/-- Check 8: the evaluation bound fits its window. -/
def ssmBound (s : State) (m : SetImg) : Option SetFail :=
  failIf (decide (windowUs s.time.base * 100000 < tMax m)) (0x60, 0x17, 0)

/-- The checks of R475 and then of R413; the first failure refuses the commit. -/
def State.setFail (s : State) (m : SetImg) : Option SetFail :=
  (checkHeader m).or ((checkSections m).or ((checkGlobal m).or ((checkInputs m).or ((checkPairs m).or
    ((checkNodes s m).or ((checkFeedback s m).or ((checkSources m).or ((ssmParams m).or ((ssmGroups m).or
      ((ssmLinks s m).or ((ssmCapsules m).or ((ssmZones m).or ((ssmSensors s m).or ((ssmEnvelopes m).or
        (ssmBound s m)))))))))))))))

/-! ## The committed set -/

/-- The image of the committed set; none with NO_SET (R477). -/
def State.setImg (s : State) : Option SetImg := if s.th.noSet then none else some (s.bankImg s.th.active)

/-- The image of the set that applies: the committed one from the first freeze after its commit on (R407). -/
def State.workImg (s : State) : Option SetImg := if s.th.noSet || s.th.work.isEmpty then none else some s.th.work

/-- The node ids the committed set names (R125). -/
def State.safetyNodes (s : State) : List Nat :=
  match s.setImg with
  | none => []
  | some m =>
    let links := ((List.range 256).filter (fun e => linkUsed m e && decide (lKind m e = 0))).map (lNode m)
    ((nodesOn m).map (nNode m) ++ links ++ (sensorsOn m).map (sNode m)).dedup

/-- TH_SSM_BOUND shows the window and the bound of the committed set (R423). -/
def State.thBound (s : State) : State :=
  match s.setImg with
  | none => s.setRg .TH_SSM_BOUND 0 0 0
  | some m =>
    s.setRg .TH_SSM_BOUND 0 0 (windowUs s.time.base * 4 * 65536 + min 0xFFFF ((tMax m + 24999) / 25000))

end Sys2Proof.Machine
end

