-- ==== Sys2Proof/Machine/Koastis.lean ====
section
/-!
DEFINITION. Koastis Link, its schedule modes, ports and event rings (chapter 03): register writes, the frames of a
base cycle, mode switches and event frames.
-/

namespace Sys2Proof.Machine

/-! ## Ports and networks -/

/-- Port `p` is enabled. -/
def State.portOn (s : State) (p : Nat) : Bool := s.flag F.KL_PORTn_CTL_EN p

/-- The port whose number names the network of port `p`: the even port of a ring pair (R91). -/
def State.netOf (s : State) (p : Nat) : Nat :=
  if p % 2 = 1 ∧ s.flag F.KL_PORTn_CTL_RING (p - 1) then p - 1 else p

/-- The ports of network `p`. -/
def State.netPorts (s : State) (p : Nat) : List Nat := (List.range 8).filter (fun q => s.netOf q = p)

/-- A port of network `p` is enabled. Log 116 (DESIGN CHOICE, unsafe). -/
def State.netOn (s : State) (p : Nat) : Bool := (s.netPorts p).any s.portOn

/-- A port counter increments; that it did so in the present TIME tick is noted (R137). -/
def State.klCount (s : State) (p k : Nat) : State :=
  (s.setRg .KL_PORTn_CNTk p k (satInc 32 (s.rg .KL_PORTn_CNTk p k))).noteRaise (Reg.addr .KL_PORTn_CNTk p k) 32

/-- CNT_CLR: every counter of the port becomes 0, one that an event of the same tick has counted 1 (R137). -/
def State.klClear (s : State) (p : Nat) : State :=
  s.forEach (List.range 10) (fun k s =>
    s.setRg .KL_PORTn_CNTk p k (b2n (s.time.raised.contains (Reg.addr .KL_PORTn_CNTk p k, 32))))

/-- The module's id on Koastis Link (R93). -/
def State.selfId (s : State) : Nat := 0x800 + s.ch.strap % 4

/-- The module's state of R144. -/
def State.csState (s : State) : Nat := s.fd F.KL_TIME_STAT_CS_STATE

/-- The module's state set; KL_TIME_ERR reads 0 unless a reference node is followed. -/
def State.setCs (s : State) (st : Nat) : State :=
  let s := s.setFd F.KL_TIME_STAT_CS_STATE 0 0 st
  if st = 9 then s else s.setRg .KL_TIME_ERR 0 0 0

/-- Port `p` sends sync frames: its network's MEASURE has ended, and on the REF_PORT network of position 0 the cold
start has ended too (R154, R155, R158, R166). A standby sends nothing (R574). -/
def State.syncOk (s : State) (p : Nat) : Bool :=
  let n := s.netOf p
  s.portOn p && s.kl.measured.contains n && !s.isStandby &&
    (decide (0 < s.ch.strap % 4 ∨ n ≠ s.fd F.KL_TIME_CTL_REF_PORT) || decide (9 ≤ s.csState ∧ s.csState ≤ 11))

/-- The networks' counts of present nodes are rewritten (KL_PORTn_STAT.PRESENT). -/
def State.countPresent (s : State) (p : Nat) : State :=
  let n := s.activeEntries.filter (fun e => e.port = s.netOf p && (s.node e.node).present)
  s.setFd F.KL_PORTn_STAT_PRESENT (s.netOf p) 0 (min 2047 n.length)

/-! ## The mode check (R117, R118, R122) -/

/-- The first entry of a list, with its number, that fails a test which sees the entries before it. -/
def firstBad (bad : List (Nat × SchedEntry) → SchedEntry → Bool) :
    List (Nat × SchedEntry) → List (Nat × SchedEntry) → Option Nat
  | _, [] => none
  | seen, (i, e) :: r => if bad seen e then some i else firstBad bad (seen ++ [(i, e)]) r

/-- Axis records of arm groups name the node (R118). -/
def State.drivesAxis (s : State) (node : Nat) : Bool :=
  node ≠ 0xFFFF && (List.range 256).any (fun a =>
    let r := s.axLive a
    decide (axGroup r ≤ 15) && decide (axNode r = node))

/-- Condition 10 of R122 for an entry and a path delay in Q24.8 ns. -/
def delayFits (base speed : Nat) (e : SchedEntry) (delay : Nat) : Bool :=
  decide (delay + 1000 * 256 ≤ (uplinkStart base + e.slot * slotPitch speed base) * 256)

/-- The conditions 2 to 10 of R122, with their codes, each over the entries in turn. Log 14 (DEDUCED, unsafe). -/
def State.modeConds (s : State) : List (Nat × (List (Nat × SchedEntry) → SchedEntry → Bool)) :=
  let base := s.fd F.TIM_CYCLE_BASE
  let speed (p : Nat) := s.fd F.KL_PORTn_CTL_SPEED p
  [ (0x03, fun _ e => (2047 < e.node && e.node ≠ 0xFFFF) || 4 < e.rate || 2 ^ e.rate ≤ e.phase || 4 < e.kind ||
      3 < e.profile),
    (0x12, fun _ e => slotCount (speed e.port) base ≤ e.slot),
    (0x11, fun seen e => e.node ≠ 0xFFFF && seen.any (fun x => x.2.node = e.node)),
    (0x10, fun seen e => seen.any (fun x => x.2.port = e.port && x.2.slot = e.slot &&
      (x.2.rate ≠ e.rate || x.2.phase = e.phase))),
    (0x19, fun _ e => e.port % 2 = 1 && s.flag F.KL_PORTn_CTL_RING (e.port - 1)),
    (0x13, fun seen e => e.cold && (seen.any (fun x => x.2.cold && x.2.port = e.port && x.2.rank = e.rank) ||
      4 ≤ (seen.filter (fun x => x.2.cold && x.2.port = e.port)).length)),
    (0x17, fun _ e => (0 < e.rate && s.drivesAxis e.node) || (e.safe && 2 < e.rate)),
    (0x15, fun _ e => 64 < e.hops),
    (0x14, fun _ e => match (s.node e.node).result with
      | some r => e.node ≠ 0xFFFF && !delayFits base (speed e.port) e r.delayA
      | none => false) ]

/-- The first condition that fails over a list of entries: its code and the entry. -/
def firstFail (l : List (Nat × SchedEntry)) :
    List (Nat × (List (Nat × SchedEntry) → SchedEntry → Bool)) → Option (Nat × Nat)
  | [] => none
  | (c, bad) :: r => match firstBad bad [] l with
    | some i => some (c, i)
    | none => firstFail l r

/-- The entries of mode `m` with their numbers; with `port`, those of one port alone (R124). -/
def State.numbered (s : State) (m : Nat) (port : Option Nat) : List (Nat × SchedEntry) :=
  ((s.schedEntries m).zipIdx.map (fun x => (x.2, x.1))).filter (fun x => match port with
    | some p => x.2.port = p
    | none => true)

/-- Checks 2 to 10 of R122 on mode `m`: the code and the entry of the first failure. Log 14 (DEDUCED, unsafe). -/
def State.modeCheck (s : State) (m : Nat) (port : Option Nat) : Option (Nat × Nat) :=
  if 4096 < s.fd F.KL_MODE_STATm_LEN m then some (0x03, 0x1000)
  else firstFail (s.numbered m port) s.modeConds

/-- The bytes of the LEN entries of mode `m`. -/
def State.modeBytes (s : State) (m : Nat) : List Byte :=
  (List.range (4 * min 4096 (s.fd F.KL_MODE_STATm_LEN m))).flatMap (fun w => leBytes 4 (s.rg .KL_SCHEDm_Ww m w))

/-- CHECK written 1 (R122). -/
def State.runModeCheck (s : State) (q : Requester) (m : Nat) : State :=
  if 2 ≤ s.fd F.KL_MODE_STATm_STATE m then
    (s.refuse q .KL_MODE_STATm m 0 0x02).setFd F.KL_MODE_ERRm_ENTRY m 0 0x1000
  else match s.modeCheck m none with
    | some (c, e) =>
      ((s.refuse q .KL_MODE_STATm m 0 c).setFd F.KL_MODE_ERRm_ENTRY m 0 e).setFd F.KL_MODE_STATm_STATE m 0 0
    | none => (s.setFd F.KL_MODE_STATm_STATE m 0 1).setRg .KL_MODE_CRCm m 0 (crc32c (s.modeBytes m))

/-- A write of KL_MODE_STATm: LEN is refused in PENDING and ACTIVE, and takes READY back to UNCHECKED; then CHECK
runs (R121, R122, R648). -/
def writeModeStat (q : Requester) (m : Nat) (v : Word) (s : State) : State :=
  let st := s.fd F.KL_MODE_STATm_STATE m
  let chg := ¬ s.keeps F.KL_MODE_STATm_LEN m 0 v.toNat
  if chg ∧ 2 ≤ st then s.refuse q .KL_MODE_STATm m 0 0x02
  else
    let s : State := if chg then (s.setFd F.KL_MODE_STATm_LEN m 0 (F.KL_MODE_STATm_LEN.of v.toNat)).setFd
        F.KL_MODE_STATm_STATE m 0 0 else s
    if F.KL_MODE_STATm_CHECK.of v.toNat = 1 then s.runModeCheck q m else s

/-- A write of a word of the schedule RAM (R121). Log 14 (DEDUCED, unsafe). -/
def writeSched (q : Requester) (m w : Nat) (v : Word) (s : State) : State :=
  let st := s.fd F.KL_MODE_STATm_STATE m
  if 2 ≤ st then s.refuse q .KL_SCHEDm_Ww m w 0x02
  else (s.setRg .KL_SCHEDm_Ww m w v.toNat).setFd F.KL_MODE_STATm_STATE m 0 0

/-- SCHEDULE_ENTRY_WRITE: a write of word `w` of the schedule RAM of mode `m` by a requester. -/
def execScheduleEntryWrite (q : Requester) (m w : Nat) (v : Word) (s : State) : Host.Outcome State Fault Refusal :=
  s.write q .KL_SCHEDm_Ww m w (writeSched q m w v)

/-- MODE_CHECK: a write of KL_MODE_STATm by a requester. -/
def execModeCheck (q : Requester) (m : Nat) (v : Word) (s : State) : Host.Outcome State Fault Refusal :=
  s.write q .KL_MODE_STATm m 0 (writeModeStat q m v)

/-! ## Mode switches (R125 to R131) -/

/-- The node ids of mode `m`, reservations left out. -/
def State.modeNodes (s : State) (m : Nat) : List Nat :=
  ((s.schedEntries m).map (·.node)).filter (· ≠ 0xFFFF)

/-- The conditions of R125 on a request for `t`, in order. -/
def State.switchCheck (s : State) (t : Nat) : Option Nat :=
  let l := (s.schedEntries t).filter (·.node ≠ 0xFFFF)
  if s.flag F.KL_MODE_SW_PENDING then some 0x01
  else if ¬ s.anyPort ∨ s.activeMode = some t then some 0x02
  else if s.fd F.KL_MODE_STATm_STATE t ≠ 1 then some 0x18
  else if s.agsOn.any (fun g => (s.agNodes g).any (fun n => !(l.any (fun e => e.node = n && e.rate = 0)))) ||
      s.safetyNodes.any (fun n => !(l.any (fun e => e.node = n))) then some 0x1A
  else none

/-- A write of KL_MODE_SW (R125, R126). Log 36 (DEDUCED, unsafe). -/
def writeModeSw (q : Requester) (v : Word) (s : State) : State :=
  let t := F.KL_MODE_SW_TARGET.of v.toNat
  if F.KL_MODE_SW_REQ.of v.toNat = 0 then s.plainWrite .KL_MODE_SW 0 0 v.toNat
  else match s.switchCheck t with
    | some c => s.refuse q .KL_MODE_SW 0 0 c
    | none =>
      let s := s.plainWrite .KL_MODE_SW 0 0 v.toNat
      let b := (s.time.bcn + 17 + 16 * s.fd F.KL_MODE_SW_DEFER + 15) / 16 * 16
      let s := s.setFd F.KL_MODE_SW_AGREE_ID 0 0 (s.fd F.KL_MODE_SW_AGREE_ID + 1)
      let s := (s.setFd F.KL_MODE_SW_PENDING 0 0 1).setFd F.KL_MODE_STATm_STATE t 0 2
      let s := s.setRg64 .KL_MODE_SWB_LO .KL_MODE_SWB_HI 0 b
      let w : KlSwitch := { target := t, old := s.fd F.KL_MODE_SW_ACTIVE, boundary := b, reqBcn := s.time.bcn, fate := 1,
                            lost := none, byPort := false, acks := [], granted := [], decided := none }
      { s with kl := { s.kl with sw := some w } }

/-- MODE_SWITCH_REQUEST: a write of KL_MODE_SW by a requester. -/
def execModeSwitchRequest (q : Requester) (v : Word) (s : State) : Host.Outcome State Fault Refusal :=
  s.write q .KL_MODE_SW 0 0 (writeModeSw q v)

/-- A pending switch is aborted and names a node (R130, R131). Log 36 (DEDUCED, unsafe). -/
def State.switchAbort (s : State) (w : KlSwitch) (node : Nat) : State :=
  let s : State := { s with kl := { s.kl with sw := some { w with fate := 3 } } }
  let s := (s.setFd F.KL_MODE_STATm_STATE w.target 0 1).setFd F.KL_MODE_SW_PENDING 0 0 0
  let s := (s.setFd F.KL_MODE_FAIL_REASON 0 0 0x16).setFd F.KL_MODE_FAIL_NODE 0 0 (node % 4096)
  let s := s.incFd F.KL_MODE_FAIL_ABORT_CNT 0 0
  s.journal 0x07 0x03 0x16 1 ([w.target, s.fd F.KL_MODE_SW_AGREE_ID] ++ dBytes 2 (node % 4096) ++
    dBytes 4 w.boundary)

/-- The decision at a base-cycle start from B − 4 on, once at each (R128, R131). -/
def State.switchDecide (s : State) : State :=
  match s.kl.sw with
  | none => s
  | some w =>
    if s.time.bcn + 4 < w.boundary ∨ w.fate = 3 ∨ w.decided = some s.time.bcn then s
    else
      let w := { w with decided := some s.time.bcn }
      let s : State := { s with kl := { s.kl with sw := some w } }
      let need := (s.modeNodes w.old ++ s.modeNodes w.target).filter (fun n => !w.acks.contains n)
      match w.lost, w.fate, minOf need with
      | some n, _, _ => s.switchAbort w n
      | none, 1, some n => s.switchAbort w n
      | none, 1, none => { s with kl := { s.kl with sw := some { w with fate := 2 } } }
      | none, _, _ => s

/-- MODE_SWITCH_DECIDE: at base cycle B − 4, or at a later base-cycle start after a port was disabled or a node lost
integration (R128, R131). -/
def execModeSwitchDecide (s : State) : Host.Outcome State Fault Refusal := .next s.switchDecide

/-- At the boundary B: the target becomes ACTIVE and the old mode READY (R129). -/
def State.switchCommit (s : State) : State :=
  match s.kl.sw with
  | none => s
  | some w =>
    if s.time.bcn < w.boundary then s
    else
      let s : State := { s with kl := { s.kl with sw := none } }
      if w.fate ≠ 2 then s
      else
        let s := (s.setFd F.KL_MODE_STATm_STATE w.old 0 1).setFd F.KL_MODE_STATm_STATE w.target 0 3
        (s.setFd F.KL_MODE_SW_ACTIVE 0 0 w.target).setFd F.KL_MODE_SW_PENDING 0 0 0

/-- A node acknowledges the switch by the event window of B − 5 (R127, R128). Log 110 (DEDUCED, unsafe). -/
def State.noteAck (s : State) (node : Nat) : State :=
  match s.kl.sw with
  | some w =>
    if s.time.bcn + 5 ≤ w.boundary ∧ w.fate = 1 then
      { s with kl := { s.kl with sw := some { w with acks := addLines w.acks [node] } } }
    else s
  | none => s

/-- A node of either mode loses integration while a switch is PENDING (R131). Log 36 (DEDUCED, unsafe). -/
def State.nodeLost (s : State) (node : Nat) : State :=
  match s.kl.sw with
  | some w =>
    if w.fate ≠ 3 ∧ ¬ w.byPort ∧ (s.modeNodes w.old ++ s.modeNodes w.target).contains node then
      { s with kl := { s.kl with sw := some { w with lost := minOf (node :: w.lost.toList) } } }
    else s
  | none => s

/-- A port is disabled while a switch is PENDING (R131). Log 36 (DEDUCED, unsafe). -/
def State.portLost (s : State) (p : Nat) : State :=
  match s.kl.sw with
  | some w =>
    if w.fate = 3 ∨ w.byPort then s
    else
      let on := (s.schedEntries w.old ++ s.schedEntries w.target).filter (fun e =>
        e.node ≠ 0xFFFF && (e.port = p || e.port = s.netOf p))
      { s with kl := { s.kl with sw := some { w with byPort := true,
                                                     lost := some ((minOf (on.map (·.node))).getD 0xFFF) } } }
  | none => s

/-! ## Port enable and disable (R108, R124, R134, R141, R148, R156, R158) -/

/-- The candidates of network `p` in mode `m` (R153, R156). -/
def State.candidates (s : State) (m p : Nat) : List SchedEntry :=
  (s.schedEntries m).filter (fun e => e.cold && e.node ≠ 0xFFFF && e.port = p)

/-- The network of port `p` has a cold start: that of REF_PORT, of a module at position 0 (R152, R158). -/
def State.coldNet (s : State) (p : Nat) : Bool :=
  decide (s.ch.strap % 4 = 0 ∧ s.netOf p = s.fd F.KL_TIME_CTL_REF_PORT)

/-- The check of R156 at a port enable, on the entries of mode `m`. -/
def State.startCheck (s : State) (m p : Nat) : Option Nat :=
  let n := s.netOf p
  if ¬ s.coldNet p then none
  else
    let c := s.candidates m n
    let cap := s.flag F.KL_TIME_CTL_CAP
    if cap ∧ (c.any (fun e => e.rank = s.fd F.KL_TIME_CTL_RANK) ∨ 4 ≤ c.length) then some 0x13
    else if ¬ cap ∧ c = [] then some 0x04
    else none

/-- The common header of a frame of the module (R93): type, ring direction, index, payload bytes. -/
def State.klHeader (s : State) (typ : Nat) (ringDir : Bool) (index len : Nat) : List Byte :=
  leBytes 1 (0x10 + typ) ++ leBytes 1 (b2n ringDir) ++ leBytes 2 s.selfId ++ leBytes 4 s.time.bcn ++
    leBytes 1 (s.fd F.KL_MODE_SW_ACTIVE) ++ leBytes 1 index ++ leBytes 2 len

/-- The Ethernet header of a frame that port `p` sends (R2, R92): the group address, the port's own address, and the
EtherType, its high byte first. -/
def State.klEthernet (s : State) (p : Nat) : List Byte :=
  let et := s.fd F.KL_GLOBAL_ETYPE
  leBytes 6 (s.rg64 .KL_GADDR_LO .KL_GADDR_HI) ++ leBytes 6 (Config.klMac p) ++ leBytes 1 (et / 256) ++ leBytes 1 et

/-- Port `p` sends a frame, given from the common header on, whose stamp point leaves at CT `ct` (R72, R92).
Log 98 (DESIGN CHOICE, unsafe). -/
def State.klSendAt (s : State) (p ct : Nat) (bs : List Byte) : State :=
  { s with kl := { s.kl with out := s.kl.out ++ [{ port := p, stamp := ct, bytes := s.klEthernet p ++ bs }] } }

/-- Port `p` sends a frame now. Log 35 (DEDUCED, unsafe). -/
def State.klSend (s : State) (p : Nat) (bs : List Byte) : State := s.klSendAt p s.time.ct bs

/-- A frame of the delay measurement is sent, its stamp point at CT `ct`: its payload after SUB and SEQ is `body` (R145).
INDEX counts the module's event and delay frames (R93). Log 106 (DEDUCED, unsafe). -/
def State.sendDelayAt (s : State) (p ct sub : Nat) (body : List Byte) : State :=
  let pay := leBytes 1 sub ++ leBytes 1 s.kl.count ++ body
  let pay := pay ++ List.replicate (34 - pay.length) 0#8
  let s := s.klSendAt p ct (s.klHeader 0x7 (decide (s.netOf p ≠ p)) s.kl.count pay.length ++ pay)
  { s with kl := { s.kl with count := (s.kl.count + 1) % 256 } }

/-- The same, now. -/
def State.sendDelay (s : State) (p sub : Nat) (body : List Byte) : State := s.sendDelayAt p s.time.ct sub body

/-- The nodes that port `p`, enabled, starts with (R108, R134): those of the active mode on its network, and those that
another mode alone names, on that network. -/
def State.portNodes (s : State) (p : Nat) : List Nat :=
  let n := s.netOf p
  let active := s.activeEntries
  let other := ((List.range 8).flatMap (fun m => s.schedEntries m)).filter (fun e => active.all (fun a => a.node ≠ e.node))
  (((active ++ other).filter (fun e => e.port = n && e.node ≠ 0xFFFF)).map (·.node)).dedup

/-- The odd port of ring `n` sends a PREQ to its neighbour, its stamp point at CT `ct`: the exchange that measures the
closing link (R146, R148). -/
def State.ringPreq (s : State) (n ct : Nat) : State :=
  let s := s.sendDelayAt (n + 1) ct 0x2 []
  { s with kl := { s.kl with preq := (n, ct) :: s.kl.preq.filter (fun e => e.1 ≠ n) } }

/-- The nodes of a network whose first port is enabled are absent (R134). -/
def State.netFresh (s : State) (p : Nat) : State :=
  let s : State := { s with kl := { s.kl with onAt := Tab.set (fun _ => 0) s.kl.onAt (s.netOf p) s.time.ticks } }
  (s.forEach (s.portNodes p) (fun x s => s.setNode x { s.node x with
    present := false, run := 0, miss := 0, integ := false, refer := false, admitted := true, ulBcn := none,
    missBcn := none })).countPresent p

/-- Port `p` starts (R108, R134, R148): the first port of a network makes its nodes absent; MEASURE begins with START, and
on a ring in MEASURE the odd port, once both run, measures its own link.
Log 34 (DEDUCED, unsafe), 116 (DESIGN CHOICE, unsafe). -/
def State.portStart (s : State) (p : Nat) : State :=
  let n := s.netOf p
  let s := if s.netOn n then s else s.netFresh p
  let s := (s.setFd F.KL_PORTn_CTL_EN p 0 1).setFd F.KL_PORTn_STAT_LINK p 0 1
  let s : State := { s with kl := { s.kl with busy := Tab.set (fun _ => 0) s.kl.busy p 0 } }
  if n ≠ p then
    (if s.kl.measure.any (fun e => e.1 = n) ∧ ¬ s.isStandby then s.ringPreq n s.time.ct else s)
  else
    let s : State := { s with kl := { s.kl with
      measure := (p, s.time.ticks, none) :: s.kl.measure.filter (fun e => e.1 ≠ p),
      measured := s.kl.measured.filter (· ≠ p), reports := s.kl.reports.filter (fun e => e.1 ≠ p),
      closing := Tab.set (fun _ => 0) s.kl.closing p 0, preq := s.kl.preq.filter (fun e => e.1 ≠ p) } }
    let s : State := if s.coldNet p then s.setCs 1 else s
    if s.isStandby then s
    else
      let s := s.sendDelay p 0x1 []
      if s.flag F.KL_PORTn_CTL_RING p ∧ s.portOn (p + 1) then s.ringPreq p s.time.ct else s

/-- Whether some mode is ACTIVE (R124). -/
def State.setActive (s : State) (b : Bool) : State := { s with kl := { s.kl with active := b } }

/-- The mode that a port enable makes or finds ACTIVE (R124). -/
def State.enableMode (s : State) : Nat :=
  if s.anyPort then s.fd F.KL_MODE_SW_ACTIVE else s.fd F.KL_GLOBAL_INIT_MODE

/-- The present state does not allow an enable of port `p`: the code that refuses the whole write (R13, R124, R141, R158).
Log 34 (DEDUCED, unsafe). -/
def State.enableBlocked (s : State) (p : Nat) : Option Nat :=
  if s.flag F.KL_MODE_SW_PENDING then some 0x01
  else if ¬ s.coldNet p ∧ s.fd F.TIM_CT_STAT_SRC = 0 then some 0x02
  else if ¬ s.anyPort ∧ s.fd F.KL_MODE_STATm_STATE s.enableMode ≠ 1 then some 0x18
  else none

/-- EN changes from 0 to 1: the consistency checks of R124 and R156, then the start. A failed check leaves EN 0 (R12).
Log 13 (DEDUCED, unsafe), 34 (DEDUCED, unsafe), 112 (DEDUCED, unsafe). -/
def State.portEnable (s : State) (q : Requester) (p : Nat) : State :=
  let m := s.enableMode
  match s.modeCheck m (some p), s.startCheck m p with
  | some (c, _), _ => s.refuse q .KL_PORTn_CTL p 0 c
  | none, some c => s.refuse q .KL_PORTn_CTL p 0 c
  | none, none =>
    let s : State := if ¬ s.anyPort then
        ((s.setFd F.KL_MODE_STATm_STATE m 0 3).setFd F.KL_MODE_SW_ACTIVE 0 0 m).setActive true
      else s
    s.portStart p

/-- A port stops (R124, R131, R168): its network stops with its last port, and the last port of all returns the active mode
to READY. Log 116 (DESIGN CHOICE, unsafe). -/
def State.portDisable (s : State) (p : Nat) : State :=
  let s := s.portLost p
  let n := s.netOf p
  let s := ((s.setFd F.KL_PORTn_CTL_EN p 0 0).setFd F.KL_PORTn_STAT_LINK p 0 0).setFd F.KL_PORTn_STAT_SYNC_OUT p 0 0
  let s : State := { s with kl := { s.kl with measure := s.kl.measure.filter (fun e => e.1 ≠ p),
                                              preq := s.kl.preq.filter (fun e => e.1 ≠ n) } }
  let s : State := if s.netOn n then s
    else
      let s : State := { s with kl := { s.kl with measured := s.kl.measured.filter (· ≠ n) } }
      if s.coldNet p then s.setCs 0 else s
  if s.anyPort then s
  else match s.activeMode with
    | some m => (s.setFd F.KL_MODE_STATm_STATE m 0 1).setActive false
    | none => s

/-- A write of KL_PORTn_CTL: range, RING_PAIR and the present state refuse the whole write; then the fields are set, CNT_CLR
acts, and EN starts or stops the port (R13, R91, R124, R134, R137, R141, R158, R648).
Log 13 (DEDUCED, unsafe), 34 (DEDUCED, unsafe). -/
def writePortCtl (q : Requester) (p : Nat) (v : Word) (s : State) : State :=
  let was := s.portOn p
  let en := F.KL_PORTn_CTL_EN.of v.toNat
  let blocked := if en = 1 ∧ ¬ was then s.enableBlocked p else none
  if F.KL_PORTn_CTL_MISS_LIMIT.of v.toNat = 0 then s.refuse q .KL_PORTn_CTL p 0 0x03
  else if F.KL_PORTn_CTL_RING.of v.toNat = 1 ∧ p % 2 = 1 then s.refuse q .KL_PORTn_CTL p 0 0x19
  else if was ∧ ¬ (s.keeps F.KL_PORTn_CTL_RING p 0 v.toNat ∧ s.keeps F.KL_PORTn_CTL_SPEED p 0 v.toNat) then
    s.refuse q .KL_PORTn_CTL p 0 0x02
  else if let some c := blocked then s.refuse q .KL_PORTn_CTL p 0 c
  else
    let s := s.plainWrite .KL_PORTn_CTL p 0 (setBits v.toNat 0 0 (b2n was))
    let s : State := if F.KL_PORTn_CTL_CNT_CLR.of v.toNat = 1 then s.klClear p else s
    if en = 1 ∧ ¬ was then s.portEnable q p
    else if en = 0 ∧ was then s.portDisable p
    else s

/-- KL_PORT_ENABLE, KL_PORT_DISABLE and KL_CNT_CLEAR: writes of KL_PORTn_CTL by a requester. -/
def execKlPortEnable (q : Requester) (p : Nat) (v : Word) (s : State) : Host.Outcome State Fault Refusal :=
  s.write q .KL_PORTn_CTL p 0 (writePortCtl q p v)
def execKlPortDisable (q : Requester) (p : Nat) (v : Word) (s : State) : Host.Outcome State Fault Refusal :=
  s.write q .KL_PORTn_CTL p 0 (writePortCtl q p v)
def execKlCntClear (q : Requester) (p : Nat) (v : Word) (s : State) : Host.Outcome State Fault Refusal :=
  s.write q .KL_PORTn_CTL p 0 (writePortCtl q p v)

/-- A write of KL_GLOBAL: ETYPE below 0x0600 is refused with RANGE, a change of it while a port is enabled with STATE
(R648). -/
def writeKlGlobal (q : Requester) (v : Word) (s : State) : State :=
  if F.KL_GLOBAL_ETYPE.of v.toNat < 0x600 then s.refuse q .KL_GLOBAL 0 0 0x03
  else if s.anyPort ∧ ¬ s.keeps F.KL_GLOBAL_ETYPE 0 0 v.toNat then s.refuse q .KL_GLOBAL 0 0 0x02
  else s.plainWrite .KL_GLOBAL 0 0 v.toNat

/-- A write of KL_GADDR_HI applies both halves (R10). -/
def writeGaddr (q : Requester) (v : Word) (s : State) : State :=
  let (lo, s) := s.takeLo q .KL_GADDR_LO 0
  s.setRg64 .KL_GADDR_LO .KL_GADDR_HI 0 (v.toNat % 2 ^ 16 * 2 ^ 32 + lo)

/-- A write of KL_PORTn_LAT, or of a ring base, while EN is 1 is refused (R140, R174); a base is a multiple of 64. -/
def writePortLat (q : Requester) (p : Nat) (v : Word) (s : State) : State :=
  if s.portOn p then s.refuse q .KL_PORTn_LAT p 0 0x02 else s.plainWrite .KL_PORTn_LAT p 0 v.toNat

/-- A write of KL_PORTn_EVTX_BASE or KL_PORTn_EVRX_BASE (R140). -/
def writeEvBase (q : Requester) (r : Reg) (p : Nat) (v : Word) (s : State) : State :=
  if s.portOn p then s.refuse q r p 0 0x02
  else if v.toNat % 2 ^ 24 % 64 ≠ 0 then s.refuse q r p 0 0x03
  else s.setRg r p 0 (v.toNat % 2 ^ 24)

/-- A write of KL_PORTn_EVIDX must not move a ring backwards (R139). -/
def writeEvIdx (q : Requester) (p : Nat) (v : Word) (s : State) : State :=
  let d (a b : Nat) := (a + 64 - b) % 64
  let txT := s.fd F.KL_PORTn_EVIDX_TX_TAIL p
  let rxH := s.fd F.KL_PORTn_EVIDX_RX_HEAD p
  if d (F.KL_PORTn_EVIDX_TX_HEAD.of v.toNat) txT < d (s.fd F.KL_PORTn_EVIDX_TX_HEAD p) txT ∨
      d rxH (s.fd F.KL_PORTn_EVIDX_RX_TAIL p) < d rxH (F.KL_PORTn_EVIDX_RX_TAIL.of v.toNat) then
    s.refuse q .KL_PORTn_EVIDX p 0 0x03
  else s.plainWrite .KL_PORTn_EVIDX p 0 v.toNat

/-- EVIDX_WRITE: a write of KL_PORTn_EVIDX by a requester. -/
def execEvidxWrite (q : Requester) (p : Nat) (v : Word) (s : State) : Host.Outcome State Fault Refusal :=
  s.write q .KL_PORTn_EVIDX p 0 (writeEvIdx q p v)

/-! ## The frames of a base cycle (R95 to R100, R104, R163, R169) -/

/-- SWITCH_STATE in the sync frames of the present base cycle (R126, R128). -/
def State.switchState (s : State) : Nat :=
  match s.kl.sw with
  | some w => if w.reqBcn < s.time.bcn ∧ s.time.bcn < w.boundary then w.fate else 0
  | none => 0

/-- Nodes of network `p` served only in the target mode that have not acknowledged, granted before or not (R127). -/
def State.ackWanted (s : State) (p : Nat) (again : Bool) : List Nat :=
  match s.kl.sw with
  | some w =>
    if s.switchState ≠ 1 then []
    else
      let l := ((s.schedEntries w.target).filter (fun e => e.node ≠ 0xFFFF && e.port = p)).map (·.node)
      l.filter (fun n => (s.entryOf n).isNone && !w.acks.contains n && w.granted.contains n = again)
  | none => []

/-- How many of `k` nodes must have a grant in the present base cycle, at `room` grants in each, if all are to have one
before B − 4 (R127). -/
def State.ackDue (s : State) (k room : Nat) : Nat :=
  match s.kl.sw with
  | some w => k - room * (w.boundary - 5 - s.time.bcn)
  | none => 0

/-- The nodes of network `p` that ask for a grant with EVT_REQ `req`, in round-robin order (R104).
Log 33 (DESIGN CHOICE, unsafe). -/
def State.grantWanted (s : State) (p req : Nat) : List Nat :=
  let l := (s.activeEntries.filter (fun e => e.port = p && e.node ≠ 0xFFFF)).map (·.node) |>.mergeSort
  let r := Tab.get (fun _ => 0) s.kl.rr p
  let l := l.filter (fun n => r < n) ++ l.filter (fun n => n ≤ r)
  l.filter (fun n => (s.node n).evtReq = req)

/-- The nodes of network `p` in the order in which they have the `room` grants of the present base cycle: urgent requests,
the acknowledgements that R127 wants, the other requests. An acknowledgement that could no longer be granted before
B − 4 goes before all, and one granted before comes last (R104, R127). Log 33 (DESIGN CHOICE, unsafe). -/
def State.grantOrder (s : State) (p room : Nat) : List Nat :=
  let acks := s.ackWanted p false
  let due := s.ackDue acks.length room
  (acks.take due ++ s.grantWanted p 2 ++ acks.drop due ++ s.grantWanted p 1 ++ s.ackWanted p true).dedup.take room

/-- Grants of equal length for a list of nodes, from `start` on (assumption 33). Log 33 (DESIGN CHOICE, unsafe). -/
def grantList (p start share len : Nat) : List Nat → List KlGrant
  | [] => []
  | n :: r => { port := p, node := n, start := start, len := len } :: grantList p (start + share) share len r

/-- The grants of network `p` in the present base cycle: the reference node's TIME_REPORT first (R163).
Log 33 (DESIGN CHOICE, unsafe). -/
def State.makeGrants (s : State) (p : Nat) : List KlGrant :=
  let speed := s.fd F.KL_PORTn_CTL_SPEED p
  let s0 := if s.phase = 15 then 8 else 0
  let unit := if speed = 0 then 4096 * 32 else 10240 * 32
  let isRef := match s.kl.ref with
    | some r => decide (r < 0x800) && s.activeEntries.any (fun e => e.node = r && e.port = p)
    | none => false
  let tr : List KlGrant := if isRef then [{ port := p, node := s.kl.ref.getD 0, start := s0, len := 3 }] else []
  let s1 := if isRef then s0 + (3 * unit + 320000 - 1) / 320000 else s0
  let want := s.grantOrder p (8 - tr.length)
  let share := if want = [] then 0 else (32 * 2 ^ s.time.base - s1) / want.length
  tr ++ grantList p s1 share (min 255 (share * 320000 / unit)) want

/-- The sync payload (R96). Log 108 (DEDUCED, unsafe). -/
def State.syncPayload (s : State) (g : List KlGrant) : List Byte :=
  let w := s.kl.sw
  let st := s.switchState
  let grant (i : Nat) : List Byte := match g[i]? with
    | some x => leBytes 2 x.node ++ leBytes 1 x.start ++ leBytes 1 x.len
    | none => leBytes 2 0xFFFF ++ leBytes 2 0
  leBytes 8 (s.time.bcn * s.lenNs) ++ leBytes 8 0 ++ leBytes 2 (s.kl.ref.getD 0xFFFF) ++ leBytes 1 s.kl.refRank ++
    leBytes 1 0 ++ leBytes 1 s.time.base ++ leBytes 1 s.phase ++ leBytes 1 (s.fd F.KL_MODE_SW_ACTIVE) ++
    leBytes 1 (match w with | some x => if st = 0 then 0xFF else x.target | none => 0xFF) ++
    leBytes 4 (s.rg .KL_MODE_SWB_LO) ++ leBytes 1 st ++ leBytes 1 (s.fd F.KL_MODE_SW_AGREE_ID) ++ leBytes 2 0 ++
    (List.range 8).flatMap grant ++ List.replicate 14 0#8

/-- The arm group, if any, that holds a category 1 stop on a drive node (R37). -/
def State.stopForced (s : State) (node : Nat) : Bool :=
  (List.range 16).any (fun g => (s.ag g).cat1 && (s.agNodes g).contains node)

/-- The downlink record of a node in the present base cycle: the record its bank closed with, else the one that bank
holds; NODE and a forced stop are inserted by the module (R37, R99, R107, R108). Log 35 (DEDUCED, unsafe). -/
def State.dlRecord (s : State) (node : Nat) : List Byte × Bool :=
  let valid := decide (s.kl.shutBcn = some (s.time.bcn - 1) ∧ 0 < s.time.bcn)
  let bank := 0x30800 + 0x10000 * ((s.time.bcn + 1) % 2)
  let found := if valid then s.kl.shut.find? (fun e => e.1 = node) else none
  let raw := match found with
    | some (_, b) => b
    | none => s.sramBytes (bank + node * 32) 32
  let ctrl := fieldAt raw 2 2
  let ctrl := if s.stopForced node then ctrl / 4 * 4 + 2 else ctrl
  (leBytes 2 node ++ leBytes 2 ctrl ++ raw.drop 4, found.isSome)

/-- Bytes of line time from the start of the preamble to the end of the FCS of a frame with `len` bytes from the common
header on. -/
def klWire (len : Nat) : Nat := max 64 (len + 18) + 8

/-- The wire time of a byte at a port's speed, in 1/1280 ns: 3.2 ns or 8 ns (R113). -/
def byteWire (speed : Nat) : Nat := if speed = 0 then 4096 else 10240

/-- One downlink aggregate frame: `cnt` records from slot `first` on (R97). Log 35 (DEDUCED, unsafe). -/
def aggregate (first cnt : Nat) (recs : List (Nat × List Byte × Bool)) : List Byte :=
  let at_ (i : Nat) := recs.find? (fun r => r.1 = first + i)
  let valid := (List.range cnt).foldl (fun v i => match at_ i with
    | some (_, _, true) => v + 2 ^ i
    | _ => v) 0
  leBytes 2 first ++ leBytes 1 cnt ++ leBytes 1 0 ++ leBytes 4 valid ++ leBytes 8 0 ++
    (List.range cnt).flatMap (fun i => match at_ i with
      | some (_, b, _) => b
      | none => leBytes 2 0xFFFF ++ List.replicate 30 0#8)

/-- Port `p` sends a list of frames one after the other, each after the gap of 12 bytes, the first with its stamp point at
CT `ct` (R72, R113). Log 35 (DEDUCED, unsafe). -/
def State.sendRow (s : State) (p ct byte : Nat) : List (List Byte) → State
  | [] => s
  | b :: r => (s.klSendAt p ct b).sendRow p (ct + (klWire b.length + 12) * byte * 2 ^ 32 / 1280) byte r

/-- Port `p` sends its sync frame, its stamp point at the base-cycle start, and its downlink aggregate frames after it
(R95, R97, R98, R113). Log 35 (DEDUCED, unsafe). -/
def State.sendCycle (s : State) (p : Nat) : State :=
  let n := s.netOf p
  let dir := decide (n ≠ p) || s.ch.takeover.isSome
  let g := s.kl.grants.filter (fun x => x.port = n)
  let s := s.setFd F.KL_PORTn_STAT_SYNC_OUT p 0 1
  let sync := s.klHeader 0x1 dir 0 78 ++ s.syncPayload g
  let slots := slotCount (s.fd F.KL_PORTn_CTL_SPEED n) s.time.base
  let ents := s.activeEntries.filter (fun e => e.port = n && e.node ≠ 0xFFFF && e.dlEn && e.served s.time.bcn)
  let recs := ents.map (fun e => (e.slot, s.dlRecord e.node))
  let s := s.forEach ents (fun e s => s.setNode e.node { s.node e.node with
    sent := some (s.dlRecord e.node).1, sentAt := s.time.ticks })
  let frames := (List.range ((slots + 31) / 32)).map (fun i =>
    let cnt := min 32 (slots - 32 * i)
    s.klHeader 0x2 dir (i + 1) (16 + 32 * cnt) ++ aggregate (32 * i) cnt recs)
  (s.sendRow p s.time.ct (byteWire (s.fd F.KL_PORTn_CTL_SPEED n)) (sync :: frames)).captureAll (0x20 + p) true

/-- The round robin of network `p` goes on after the last node that a grant of `g` answers (R104). -/
def State.turnOn (s : State) (g : List KlGrant) (p : Nat) : State :=
  match (g.filter (fun x => x.port = p && 0 < (s.node x.node).evtReq)).getLast? with
  | some x => { s with kl := { s.kl with rr := Tab.set (fun _ => 0) s.kl.rr p x.node } }
  | none => s

/-- The CT ns at which the event window of the present base cycle begins, 2.0 µs later in phase 15 (R149). -/
def State.eventOpen (s : State) : Nat :=
  s.time.bcStart + eventStart s.time.base + (if s.phase = 15 then 2000 else 0)

/-- Where a frame of `len` bytes may start on port `p` in the event window of the present base cycle, not before CT ns
`from_`, and after the safe command frame of 152 bytes with which the window begins while Thallus sends it: CT in 1/1280 ns;
none if it would not end before the window does (R114, R149, R445, R457). -/
def State.eventSlot (s : State) (p from_ len : Nat) : Option Nat :=
  let safe := if s.fd F.TH_STAT_STATE = 3 then 0 else (klWire 152 + 12) * byteWire (s.fd F.KL_PORTn_CTL_SPEED p)
  let w1 := s.time.bcStart + guardStart s.time.base
  let start := max (max (from_ * 1280) (s.eventOpen * 1280 + safe)) (Tab.get (fun _ => 0) s.kl.busy p)
  if start + klWire len * byteWire (s.fd F.KL_PORTn_CTL_SPEED p) ≤ w1 * 1280 then some start else none

/-- Port `p`'s line is taken by a frame of `len` bytes from `start` on, and by the gap of 12 bytes after it. -/
def State.takeLine (s : State) (p start len : Nat) : State :=
  let b := byteWire (s.fd F.KL_PORTn_CTL_SPEED p)
  { s with kl := { s.kl with busy := Tab.set (fun _ => 0) s.kl.busy p (start + (klWire len + 12) * b) } }

/-- The CT, in 2^-32 ns, of the stamp point of a frame whose preamble starts at `start`, in 1/1280 ns. -/
def State.stampOf (s : State) (p start : Nat) : Nat :=
  (start + 8 * byteWire (s.fd F.KL_PORTn_CTL_SPEED p)) * 2 ^ 32 / 1280

/-- A RESULT frame goes out in the present event window, or is held for the next (R114, R115, R149).
Log 37 (DEDUCED, unsafe). -/
def State.sendResult (s : State) (p : Nat) (body : List Byte) : State :=
  let len := 12 + max 34 (2 + body.length)
  match s.eventSlot p s.ctNs len with
  | some t => (s.takeLine p t len).sendDelayAt p (s.stampOf p t) 0x5 body
  | none => { s with kl := { s.kl with held := s.kl.held ++ [(p, body)] } }

/-- The RESULT frames that wait go out (R149). -/
def State.sendHeld (s : State) : State :=
  let l := s.kl.held
  ({ s with kl := { s.kl with held := [] } }).forEach l (fun e s => s.sendResult e.1 e.2)

/-- The module enters HOLDOVER: CT free-runs at its last increment (R65). Log 38 (DEDUCED, unsafe). -/
def State.enterKlHoldover (s : State) : State :=
  ((s.setCs 11).setFd F.TIM_CT_STAT_SRC 0 0 3).incFd F.TIM_CT_STAT_HOLD_CNT 0 0

/-- A module that integrated by sync frames has lost its reference after 4 base cycles without an accepted one
(R65, R161). Log 38 (DEDUCED, unsafe). -/
def State.syncWatch (s : State) : State :=
  if s.csState ≠ 9 ∨ ¬ s.kl.bySync then s
  else
    let n := if s.kl.trSeen then 0 else s.kl.syncMiss + 1
    let s : State := { s with kl := { s.kl with syncMiss := n } }
    if 4 ≤ n then s.enterKlHoldover else s

/-- In phase 15 the odd port of every running ring repeats its link exchange at the event-window start (R148, R149, R170). -/
def State.ringExchange (s : State) : State :=
  if s.phase ≠ 15 then s
  else
    let rings := [0, 2, 4, 6].filter (fun p => s.flag F.KL_PORTn_CTL_RING p && s.syncOk p && s.syncOk (p + 1))
    s.forEach rings (fun p s =>
      s.ringPreq p (s.stampOf p ((s.time.bcStart + eventStart s.time.base) * 1280)))

/-- The Koastis work of a base-cycle start: the switch is decided, missed TIME_REPORTs are counted, and every port that
may send sends its frames (R29, R104, R128, R163, R166). The step records get their NODE once (R106).
Log 111 (DEDUCED, unsafe). -/
def State.klCycle (s : State) : State :=
  let s := s.switchDecide
  let s : State := if s.kl.stepIds then s
    else
      let s := s.forEach (List.range 512) (fun k s => s.sramSplice (0x50800 + 32 * k) (leBytes 2 0xFFFF))
      { s with kl := { s.kl with stepIds := true } }
  let s := s.syncWatch
  let follows := decide (s.csState = 9) && !s.kl.bySync &&
    (match s.kl.ref with | some r => decide (r < 0x800) | none => false)
  let miss := if follows && !s.kl.trSeen then s.kl.trMiss + 1 else if s.kl.trSeen then 0 else s.kl.trMiss
  let s : State := { s with kl := { s.kl with out := [], committed := [], trMiss := miss, trSeen := false } }
  let ports := (List.range 8).filter (fun p => s.syncOk p)
  let s := s.forEach (List.range 8) (fun p s => if s.syncOk p then s else s.setFd F.KL_PORTn_STAT_SYNC_OUT p 0 0)
  let nets := (ports.map s.netOf).dedup
  let g := nets.flatMap (fun p => s.makeGrants p)
  let s := s.forEach nets (fun p s => s.turnOn g p)
  let sw := s.kl.sw.map (fun w => { w with granted := addLines w.granted (g.map (·.node)) })
  let s : State := { s with kl := { s.kl with grants := g, sw := sw } }
  let s := ((s.forEach ports (fun p s => s.sendCycle p)).ringExchange).sendHeld
  s.forEach (List.range 4) (fun k s =>
    let heard (p : Nat) := decide ((s.kl.ringHeard.find? (fun e => e.1 = p)).map (·.2) = some (s.time.bcn - 1)) &&
      decide (0 < s.time.bcn)
    s.setFd F.KL_PORTn_STAT_RING_CLOSED (2 * k) 0 (b2n (s.flag F.KL_PORTn_CTL_RING (2 * k) && heard (2 * k) &&
      heard (2 * k + 1))))

/-- At CUTOFF the bank of the base cycle closes: committed records stand, the others are copied from the record last
sent, or from the other bank, with STALE set (R106 to R108). -/
def State.closeBank (s : State) : State :=
  let bank := 0x30800 + 0x10000 * (s.time.bcn % 2)
  let other := 0x30800 + 0x10000 * ((s.time.bcn + 1) % 2)
  let next := match s.kl.sw with
    | some w => if w.fate = 2 ∧ w.boundary = s.time.bcn + 1 then s.schedEntries w.target else []
    | none => []
  let ents := (next ++ s.activeEntries).filter (fun e => e.node ≠ 0xFFFF && e.dlEn && s.netOn e.port)
  let nodes := (ents.map (·.node)).dedup
  let given := s.kl.committed.map (fun k => (k, s.sramBytes (if k < 2048 then bank + k * 32
    else 0x50800 + 0x2000 * (s.time.bcn % 2) + (k - 2048) * 32) 32))
  let s : State := { s with kl := { s.kl with shut := [], given := given, shutBcn := some s.time.bcn } }
  s.forEach nodes (fun n s =>
    if s.kl.committed.contains n then
      { s with kl := { s.kl with shut := s.kl.shut ++ [(n, s.sramBytes (bank + n * 32) 32)] } }
    else
      let port := ((ents.find? (fun e => e.node = n)).map (·.port)).getD 0
      let raw := match (s.node n).sent with
        | some b => if Tab.get (fun _ => 0) s.kl.onAt (s.netOf port) ≤ (s.node n).sentAt then b
          else s.sramBytes (other + n * 32) 32
        | none => s.sramBytes (other + n * 32) 32
      let ctrl := setBits (fieldAt raw 2 2) 11 11 1
      let b := raw.take 2 ++ leBytes 2 ctrl ++ raw.drop 4
      let s := s.sramSplice (bank + n * 32) b
      { s with kl := { s.kl with shut := s.kl.shut ++ [(n, b)] } })

/-! ## Node records (R23) -/

/-- The record of a node that the active mode does not list. -/
def nodeBlank (n : Nat) : List Byte :=
  leBytes 2 n ++ leBytes 1 0xFF ++ leBytes 5 0 ++ leBytes 1 0xFF ++ leBytes 1 0 ++ leBytes 1 0xFF ++ leBytes 5 0

/-- The record of a listed node. -/
def State.nodeRecord (s : State) (e : SchedEntry) : List Byte :=
  let k := s.node e.node
  let flags := b2n k.present + 2 * b2n k.integ + 4 * b2n e.cold
  leBytes 2 e.node ++ leBytes 1 e.port ++ leBytes 1 e.slot ++ leBytes 1 e.rate ++ leBytes 1 e.phase ++
    leBytes 1 e.kind ++ leBytes 1 flags ++ leBytes 1 (if e.cold then e.rank else 0xFF) ++
    leBytes 1 (match k.result with | some r => r.hopA | none => 0) ++ leBytes 1 e.owner ++ leBytes 1 0 ++
    leBytes 4 (match k.result with | some r => r.delayA | none => 0)

/-- Every node record is rewritten from the active mode and the link state (R23). -/
def State.writeNodeRecords (s : State) : State :=
  let ents := s.activeEntries
  s.sramSplice 0x8800 ((List.range 2048).flatMap (fun n =>
    match ents.find? (fun e => e.node = n) with
    | some e => s.nodeRecord e
    | none => nodeBlank n))

/-- Measurement results that wait for the boundary are applied (R149). Log 118 (DESIGN CHOICE, unsafe). -/
def State.applyResults (s : State) : State :=
  { s with kl := { s.kl with nodes := s.kl.nodes.map (fun e => match e.2.next with
    | some r => (e.1, { e.2 with result := some r, next := none })
    | none => e) } }

/-! ## Presence (R133, R134) -/

/-- A served slot of a node passed without an accepted record (R133, R134). Log 36 (DEDUCED, unsafe). -/
def State.noteMiss (s : State) (p node : Nat) : State :=
  let k := s.node node
  let lim := s.fd F.KL_PORTn_CTL_MISS_LIMIT p
  let s := (s.klCount p 0).setNode node { k with run := 0, miss := k.miss + 1, missBcn := some s.time.bcn }
  if k.present ∧ lim ≤ k.miss + 1 then
    let s := s.setNode node { s.node node with present := false, integ := false, refer := false }
    ((s.countPresent p).journal 0x06 0x03 0x00 1 ([p] ++ dBytes 2 node)).nodeLost node
  else s

/-- An accepted record of a node (R134). -/
def State.noteHit (s : State) (p node : Nat) : State :=
  let k := s.node node
  let lim := s.fd F.KL_PORTn_CTL_MISS_LIMIT (s.netOf p)
  let s := s.setNode node { k with run := k.run + 1, miss := 0, ulBcn := some s.time.bcn,
                                   present := k.present || decide (lim ≤ k.run + 1) }
  let s : State := if s.kl.ref = some node ∧ (s.node node).present then
      { s with kl := { s.kl with refSeen := true } }
    else s
  s.countPresent p

/-- UL_MISS: a served slot of a port ends without an accepted record (R133). -/
def execUlMiss (p slot : Nat) (s : State) : Host.Outcome State Fault Refusal :=
  let speed := s.fd F.KL_PORTn_CTL_SPEED p
  match s.activeEntries.find? (fun e => e.port = p && e.slot = slot && e.node ≠ 0xFFFF && e.ulEn &&
      e.served s.time.bcn) with
  | none => .next s
  | some e =>
    let k := s.node e.node
    if ¬ s.netOn p ∨ s.time.noBase ∨ k.ulBcn = some s.time.bcn ∨ k.missBcn = some s.time.bcn then .next s
    else
      let s := s.advanceTo (s.time.bcStart + uplinkStart s.time.base + (slot + 1) * slotPitch speed s.time.base)
      .next (s.noteMiss p e.node)

/-! ## Event rings (R103, R104, R114, R136, R138, R139) -/

/-- Byte `k` on, `n` bytes, of the common header and what follows it, in a frame given from its destination address on. -/
def klField (bs : List Byte) (k n : Nat) : Nat := fieldAt bs (14 + k) n

/-- The header of a received frame, given from its destination address on and without FCS, is sound: the EtherType of
KL_GLOBAL, its high byte first, version 1 with type `typ`, and a LEN that agrees with the frame's length, which padding
makes at least 60 bytes (R2, R92, R94). Log 99 (DEDUCED, unsafe). -/
def State.headerOk (s : State) (bs : List Byte) (typ : Nat) : Bool :=
  decide (256 * fieldAt bs 12 1 + fieldAt bs 13 1 = s.fd F.KL_GLOBAL_ETYPE) && decide (klField bs 0 1 = 0x10 + typ) &&
    decide (26 ≤ bs.length) && (decide (klField bs 10 2 + 26 = bs.length) ||
      decide (bs.length = 60 ∧ klField bs 10 2 + 26 ≤ 60))

/-- A frame reaches a port that sends sync frames within the guard window of the base cycle (R115).
Log 99 (DEDUCED, unsafe). -/
def State.inGuard (s : State) (p : Nat) : Bool :=
  s.syncOk p && !s.time.noBase && decide (guardStart s.time.base ≤ s.ctNs - s.time.bcStart)

/-- The counter of R142 in which a received frame of type `typ` is counted as it is discarded; none for a sound one
(R94, R115). Log 99 (DEDUCED, unsafe). -/
def State.klReject (s : State) (p typ : Nat) (fcsOk : Bool) (bs : List Byte) : Option Nat :=
  if ¬ fcsOk then some 3
  else if ¬ s.headerOk bs typ ∨ s.inGuard p then some 4
  else none

/-! ## What a hearer of the cold start does (R152, R153) -/

/-- The module's cold-start record replaced. -/
def State.setCold (s : State) (c : KlCold) : State := { s with kl := { s.kl with cold := c } }

/-- The attempt window W: 50 µs in TIME ticks. -/
def windowTicks : Nat := 25000

/-- A failed attempt is observed (R153). -/
def State.coldFail (s : State) : State := s.incFd F.KL_TIME_STAT_FAIL_CNT 0 0

/-- A cold-start frame is heard now: a corrupted one, or a valid one of node `node` with its CT in 2^-32 ns (R153). -/
def State.coldHear (s : State) (bad : Bool) (node ct : Nat) : State :=
  let c := s.kl.cold
  let defer := (s.setCold { c with stamp := s.time.ticks, spoiled := false, frm := node, frmCt := ct,
                                   ownCt := s.time.ct }).setCs 6
  match s.csState with
  | 2 => if bad then s.setCold { c with since := s.time.ticks } else defer
  | 3 => if bad then (s.setCold { c with since := s.time.ticks }).setCs 2 else defer
  | 4 => if s.time.ticks < c.stamp + windowTicks then s.coldFail.setCs 5 else s
  | 5 => if bad then s else defer
  | 6 =>
    if s.time.ticks < c.stamp + windowTicks ∧ ¬ c.spoiled then s.coldFail.setCold { c with spoiled := true } else s
  | _ => s

/-- A received frame is discarded and counted; one with a bad FCS counts as a corrupted cold-start frame on the network
of the cold start (R94, R152). -/
def State.klDiscard (s : State) (p k : Nat) : State :=
  let s := s.klCount p k
  if k = 3 ∧ s.coldNet p then s.coldHear true 0 0 else s

/-- A received event frame lies in a grant of its sender (R104, R136): `stamp` is its stamp point, ns from the
base-cycle start. Log 110 (DEDUCED, unsafe). -/
def State.inGrant (s : State) (p node stamp len : Nat) : Bool :=
  let speed := s.fd F.KL_PORTn_CTL_SPEED p
  let byte := if speed = 0 then 4096 else 10240
  s.kl.grants.any (fun g =>
    let a := (eventStart s.time.base + 250 * g.start) * 1280
    decide (g.port = s.netOf p) && decide (g.node = node) && decide (a + 8 * byte ≤ stamp * 1280) &&
      decide (stamp * 1280 + (klWire len - 8) * byte ≤ a + 32 * g.len * byte))

/-- A received event frame is written at RX_HEAD, unless the ring is full (R136, R138, R139). -/
def State.ringFull (s : State) (p : Nat) : Bool :=
  decide ((s.fd F.KL_PORTn_EVIDX_RX_HEAD p + 1) % 64 = s.fd F.KL_PORTn_EVIDX_RX_TAIL p)
def State.ringReceive (s : State) (p : Nat) (bs : List Byte) : State :=
  let h := s.fd F.KL_PORTn_EVIDX_RX_HEAD p
  if s.ringFull p then s.klCount p 9
  else
    let a := s.rg .KL_PORTn_EVRX_BASE p + 1536 * h
    let s := s.sramWrite a (leBytes 2 bs.length ++ leBytes 2 0 ++ leBytes 4 0 ++ leBytes 8 s.ctNs ++ bs)
    let s := s.setFd F.KL_PORTn_EVIDX_RX_HEAD p 0 (h + 1)
    s.hwToken (.port p) (s.fd F.KL_PORTn_EVTOK_TOKEN p) (h + p * 2 ^ 8)

/-- A CLASS 0x05 event frame that carries AGREE_ID as its first data byte acknowledges a pending switch (R127).
Log 110 (DEDUCED, unsafe). -/
def State.ackFrame (s : State) (bs : List Byte) : Bool :=
  s.kl.sw.isSome && decide (klField bs 12 1 = 0x05 ∧ klField bs 20 1 = s.fd F.KL_MODE_SW_AGREE_ID)

/-- The counter of R142 in which a frame of type `typ` that a node sends in the event window, given from its destination
address on, is counted as it is discarded; none for a sound one. `stamp` is its stamp point, ns after the base-cycle start;
while no base cycle runs there is no grant to lie in (R94, R104, R115, R136, R651). Log 110 (DEDUCED, unsafe). -/
def State.grantReject (s : State) (p typ stamp : Nat) (fcsOk : Bool) (bs : List Byte) : Option Nat :=
  if ¬ fcsOk then some 3
  else if ¬ s.headerOk bs typ then some 4
  else if s.time.noBase then some 6
  else if guardStart s.time.base ≤ stamp ∨ klField bs 4 4 ≠ s.time.bcn % 2 ^ 32 then some 4
  else if ¬ s.inGrant p (klField bs 2 2) stamp (12 + klField bs 10 2) then some 6
  else none

/-- The instant `stamp` ns after the start of the base cycle in progress, where one is. -/
def State.toStamp (s : State) (stamp : Nat) : State :=
  if s.time.noBase then s else s.advanceTo (s.time.bcStart + stamp)

/-- EVENT_RECEIVE: port `p` receives an event frame, given from its destination address on, whose stamp point lies `stamp`
ns after the base-cycle start (R94, R103, R115, R136, R138). One that is written to the ring and of CLASS 0x05
acknowledges a switch (R127). While no base cycle runs there is no grant to lie in (R651). DLEN and the data's length
are not checked. Log 110 (DEDUCED, unsafe). -/
def execEventReceive (p stamp : Nat) (fcsOk : Bool) (bs : List Byte) (s : State) :
    Host.Outcome State Fault Refusal :=
  if ¬ s.portOn p then .next s
  else
    let s := s.toStamp stamp
    match s.grantReject p 4 stamp fcsOk bs with
    | some k => .next (s.klDiscard p k)
    | none =>
      let s := if s.ackFrame bs && !s.ringFull p then s.noteAck (klField bs 2 2) else s
      .next (s.ringReceive p ((bs.drop 14).take (12 + klField bs 10 2)))

/-- EVENT_SEND: port `p` sends the entry at TX_TAIL in the event window, at the earliest `dt` ticks from now, after the
frames sent before it and not before its CT stamp, if it ends before the window does; else it is held and EVT_DEFER
increments (R114, R138, R149). -/
def execEventSend (p dt : Nat) (s : State) : Host.Outcome State Fault Refusal :=
  let t := s.fd F.KL_PORTn_EVIDX_TX_TAIL p
  if ¬ s.portOn p ∨ s.isStandby ∨ s.time.noBase ∨ t = s.fd F.KL_PORTn_EVIDX_TX_HEAD p then .next s
  else
    let s := s.advance dt
    let a := s.rg .KL_PORTn_EVTX_BASE p + 1536 * t
    let len := s.sramN a 2
    match s.eventSlot p (max s.ctNs (s.sramN (a + 8) 8)) len with
    | some start =>
      let s := s.advanceTo ((start + 1279) / 1280)
      let s := (s.takeLine p start len).klSendAt p (s.stampOf p start) (s.sramBytes (a + 16) len)
      let s := s.setSram (a + 2) 2 0
      .next (s.setFd F.KL_PORTn_EVIDX_TX_TAIL p 0 (t + 1))
    | none =>
      if s.time.bcStart + guardStart s.time.base ≤ s.sramN (a + 8) 8 then .next s else .next (s.klCount p 5)

end Sys2Proof.Machine
end

