-- ==== Sys2Proof/Machine/KlTime.lean ====
section
/-!
DEFINITION. Koastis Link: delay measurement, cold start, integration, clock alignment, loss of the reference, rings
and chain time (chapter 04).
-/

namespace Sys2Proof.Machine

/-! ## Delay measurement (R145 to R150, R157) -/

/-- The REPORTs of network `p`, by hop. -/
def State.reportsOf (s : State) (p : Nat) : List KlReport :=
  (Tab.get (fun _ => []) s.kl.reports p).mergeSort (fun a b => decide (a.hop ≤ b.hop))

/-- The RESULT of each node of a list of REPORTs in hop order (R147): `la` and `ra` are the sums of links and of
residences towards port A of the nodes before, `both` says that the far port measures too, `closing` its link.
Log 37 (DEDUCED, unsafe). -/
def resultsOf (both : Bool) (closing count : Nat) : Nat → Nat → List KlReport → List (Nat × KlResult)
  | _, _, [] => []
  | la, ra, r :: rest =>
    let lb := closing + (rest.map (·.link)).sum
    let rb := (rest.map (·.resAB)).sum
    let e : KlResult :=
      { hopA := r.hop, hopB := if both then count + 1 - r.hop else 0, linkA := la + r.link,
        delayA := la + r.link + ra, linkB := if both then lb else 0, delayB := if both then lb + rb else 0 }
    (r.node, e) :: resultsOf both closing count (la + r.link) (ra + r.resBA) rest

/-- A link with port `p` at one end: what its exchange gave, less the port's two latencies (R146).
Log 117 (DEDUCED, unsafe). -/
def State.lessLat (s : State) (p link : Nat) : Nat :=
  link - s.fd F.KL_PORTn_LAT_TX_EXT p - s.fd F.KL_PORTn_LAT_RX_EXT p

/-- The RESULT entries of network `p`; a ring, or a line whose far end is the standby's port, has both directions
(R146, R148, R573). -/
def State.resultsAt (s : State) (p : Nat) : List (Nat × KlResult) :=
  let l := (s.reportsOf p).map (fun r => if r.hop = 1 then { r with link := s.lessLat p r.link } else r)
  let both := s.flag F.KL_PORTn_CTL_RING p || (s.flag F.CH_CTL_EN && decide (s.fd F.CH_CTL_MODE = 2))
  resultsOf both (Tab.get (fun _ => 0) s.kl.closing p) l.length 0 0 l

/-- The 20 bytes of a RESULT entry (R145). -/
def resultBytes (e : Nat × KlResult) : List Byte :=
  leBytes 2 e.1 ++ leBytes 1 e.2.hopA ++ leBytes 1 e.2.hopB ++ leBytes 4 e.2.linkA ++ leBytes 4 e.2.delayA ++
    leBytes 4 e.2.linkB ++ leBytes 4 e.2.delayB

/-- The payloads, after SUB and SEQ, of RESULT frames of at most 64 entries each (R145, R148); `fuel` bounds their
number. -/
def resultBodies : Nat → List (Nat × KlResult) → List (List Byte)
  | 0, _ => []
  | _ + 1, [] => []
  | fuel + 1, l =>
    (leBytes 1 (min 64 l.length) ++ leBytes 1 0 ++ (l.take 64).flatMap resultBytes) :: resultBodies fuel (l.drop 64)

/-- A frame of the delay measurement with one of the subtypes `subs` arrives at port `p`, given from its destination address on: it is
discarded and counted, or `k` acts on it (R94, R115, R145). -/
def State.delayFrame (s : State) (p : Nat) (subs : List Nat) (fcsOk : Bool) (bs : List Byte) (k : State → State) : State :=
  match s.klReject p 7 fcsOk bs with
  | some c => s.klDiscard p c
  | none => if ¬ subs.contains (klField bs 12 1) ∨ klField bs 10 2 < 34 then s.klCount p 4 else k s

/-- TURN of a PRESP, Q24.8 ns: from the PREQ's receive stamp to the PRESP's transmit stamp, both CT in 2^-32 ns and each
with the port's latency of that direction subtracted (R145, R174). Log 37 (DEDUCED, unsafe), 117 (DEDUCED, unsafe). -/
def State.turnOf (s : State) (p rx tx : Nat) : Nat :=
  (((tx / 2 ^ 24 : Nat) : Int) - s.fd F.KL_PORTn_LAT_TX_EXT p -
    (((rx / 2 ^ 24 : Nat) : Int) - s.fd F.KL_PORTn_LAT_RX_EXT p)).toNat

/-- The link that the odd port of ring `n` measured with the PRESP whose stamp point is at CT `rx`: ((t4 − t1) − TURN) / 2
with the port's latencies subtracted in both stamps, less those latencies, Q24.8 ns (R146, R174).
Log 37 (DEDUCED, unsafe), 117 (DEDUCED, unsafe). -/
def State.closingLink (s : State) (n t1 rx turn : Nat) : Nat :=
  s.lessLat (n + 1) ((((rx / 2 ^ 24 : Nat) : Int) - s.fd F.KL_PORTn_LAT_RX_EXT (n + 1) -
    (((t1 / 2 ^ 24 : Nat) : Int) - s.fd F.KL_PORTn_LAT_TX_EXT (n + 1)) - turn).toNat / 2)

/-- The RESULT entries of a running network that have changed are sent and wait for the next super-cycle boundary (R149).
Log 118 (DESIGN CHOICE, unsafe). -/
def State.sendNewResults (s : State) (n : Nat) : State :=
  if s.kl.measured.contains n then
    let new := (s.resultsAt n).filter (fun e => (s.node e.1).next.or (s.node e.1).result ≠ some e.2)
    let s := s.forEach new (fun e s => s.setNode e.1 { s.node e.1 with next := some e.2 })
    s.forEach (resultBodies 64 new) (fun b s => s.sendResult n b)
  else s

/-- A PRESP with TURN `turn` arrives at port `p`: it answers the open PREQ of a ring's odd port, and gives the closing link
(R146, R148, R170). -/
def State.takePresp (s : State) (p turn : Nat) : State :=
  let n := s.netOf p
  match s.kl.preq.find? (fun e => e.1 = n) with
  | some e =>
    if n = p then s
    else
      let l := s.closingLink n e.2 s.time.ct turn
      ({ s with kl := { s.kl with closing := Tab.set (fun _ => 0) s.kl.closing n l,
                                  preq := s.kl.preq.filter (fun x => x.1 ≠ n) } }).sendNewResults n
  | none => s

/-- The first CT from `ct` on, in 2^-32 ns, at which port `p` may send: in the guard window of a port that sends sync
frames it is the start of the next uplink window (R115). Log 99 (DEDUCED, unsafe). -/
def State.clearOfGuard (s : State) (p ct : Nat) : Nat :=
  let t := s.time
  if s.syncOk p ∧ ¬ t.noBase ∧ (t.bcStart + guardStart t.base) * 2 ^ 32 ≤ ct then
    max ct ((t.bcStart + s.lenNs + uplinkStart t.base) * 2 ^ 32)
  else ct

/-- PREQ_RECEIVE: after `dt` ticks a port receives a frame of a link exchange. It answers a PREQ with PRESP; how long it
takes to answer is left open, and TURN follows from the two stamps. A PRESP answers the module's own PREQ
(R115, R146, R148, R174). Log 37 (DEDUCED, unsafe). -/
def execPreqReceive (p dt : Nat) (fcsOk : Bool) (bs : List Byte) (s : State) : Host.Outcome State Fault Refusal :=
  if ¬ s.portOn p then .next s
  else
    let s := s.advance dt
    .next (s.delayFrame p [2, 3] fcsOk bs (fun s =>
      if klField bs 12 1 = 3 then s.takePresp p (klField bs 16 4)
      else if s.isStandby then s
      else
        let tx := s.clearOfGuard p (s.time.ct + s.free.1 % 1000 * 2 ^ 33)
        s.free.2.sendDelayAt p tx 0x3 (leBytes 2 0 ++ leBytes 4 (s.turnOf p s.time.ct tx))))

/-- A REPORT is taken into its network's sums (R145, R147 to R149). -/
def State.takeReport (s : State) (n : Nat) (r : KlReport) : State :=
  let old := Tab.get (fun _ => []) s.kl.reports n
  let rep := Tab.set (fun _ => []) s.kl.reports n (old.filter (fun x => x.node ≠ r.node) ++ [r])
  let meas := s.kl.measure.map (fun e => if e.1 = n then (e.1, e.2.1, some s.time.ticks) else e)
  ({ s with kl := { s.kl with reports := rep, measure := meas } }).sendNewResults n

/-- REPORT_RECEIVE: after `dt` ticks a node's REPORT arrives at a port (R145, R147 to R149). -/
def execReportReceive (p dt : Nat) (fcsOk : Bool) (bs : List Byte) (s : State) : Host.Outcome State Fault Refusal :=
  if ¬ s.portOn p then .next s
  else
    let s := s.advance dt
    .next (s.delayFrame p [4] fcsOk bs (fun s => s.takeReport (s.netOf p)
      { node := klField bs 14 2, hop := klField bs 16 1, link := klField bs 20 4, resAB := klField bs 24 4,
        resBA := klField bs 28 4 }))

/-- The spread of the candidates' DELAY_A on the REF_PORT network exceeds 4,000 ns (R157). -/
def State.spreadBad (s : State) (p : Nat) (res : List (Nat × KlResult)) : Bool :=
  let c := s.candidates (s.fd F.KL_MODE_SW_ACTIVE) p
  let d := (res.filter (fun e => c.any (fun x => x.node = e.1))).map (·.2.delayA)
  let d := if s.flag F.KL_TIME_CTL_CAP then 0 :: d else d
  decide (4000 * 256 < d.foldl max 0 - (minOf d).getD 0)

/-- MEASURE has ended on port `p`: the spread of a cold module's REF_PORT network is checked, every candidate gets its
result, and the cold start listens (R148, R151, R157). -/
def State.measureDone (s : State) (p : Nat) : State :=
  let res := s.resultsAt p
  if s.coldNet p ∧ s.spreadBad p res then
    (s.portDisable p).refuseSelf F.KL_PORTn_CTL_REFUSE p 0x04
  else
    let s : State := { s with kl := { s.kl with measure := s.kl.measure.filter (fun e => e.1 ≠ p),
                                                measured := p :: s.kl.measured } }
    let s := s.forEach res (fun e s => s.setNode e.1 { s.node e.1 with result := some e.2 })
    let s := if s.isStandby then s
      else s.forEach (resultBodies 64 res) (fun b s => s.sendDelay p 0x5 b)
    if s.coldNet p then
      let c := { s.kl.cold with since := s.time.ticks, attempt := 0, spoiled := false, syncs := 0 }
      { s with kl := { s.kl with cold := c } }.setCs 2
    else s

/-- The instant at which MEASURE, started at `t0` with its last REPORT at `last`, ends (R148). -/
def measureEndAt (t0 : Nat) (last : Option Nat) : Nat :=
  match last with
  | some t => min (t0 + 500000) (t + 100000)
  | none => t0 + 500000

/-- MEASURE_END: 200 µs after the last REPORT, or 1 ms after START, MEASURE ends on port `p` (R148, R157, R158).
Log 37 (DEDUCED, unsafe). -/
def execMeasureEnd (p : Nat) (s : State) : Host.Outcome State Fault Refusal :=
  match s.kl.measure.find? (fun e => e.1 = p) with
  | none => .next s
  | some e => .next ((s.advanceToTick (measureEndAt e.2.1 e.2.2)).measureDone p)

/-! ## Cold start (R151 to R155) -/

/-- The reference set, with its rank (KL_TIME_STAT.REF_NODE). -/
def State.setRef (s : State) (r : Option Nat) (rank : Nat) : State :=
  let seen := r.any (fun n => (s.node n).present)
  { s with kl := { s.kl with ref := r, refRank := rank, refSeen := seen } }.setFd F.KL_TIME_STAT_REF_NODE 0 0
    (r.getD 0xFFF)

/-- The listen time L and the rank delay, in TIME ticks: two super-cycles, and rank × 10 µs. -/
def State.listenTicks (s : State) : Nat := 32 * s.lenNs / 2
def State.rankTicks (s : State) : Nat := s.fd F.KL_TIME_CTL_RANK * 5000

/-- The module sends its cold-start frame and enters ATTEMPT (R151, R153). Log 106 (DEDUCED, unsafe). -/
def State.attempt (s : State) : State :=
  let p := s.fd F.KL_TIME_CTL_REF_PORT
  let c := s.kl.cold
  let pay := leBytes 1 (s.fd F.KL_TIME_CTL_RANK) ++ leBytes 1 (c.attempt + 1) ++
    leBytes 1 (if s.fd F.TIM_CT_STAT_SRC = 0 then 0 else 1) ++ leBytes 1 s.time.base ++ leBytes 8 s.ctNs ++
    leBytes 4 s.time.ct ++ List.replicate 18 0#8
  let s := s.klSend p (s.klHeader 0x6 false 0 34 ++ pay)
  (s.setCold { c with attempt := c.attempt + 1, stamp := s.time.ticks, spoiled := false }).setCs 4

/-- LISTEN_ELAPSED: L has elapsed in LISTEN, and a module with CAP enters RANK_WAIT (R153). -/
def execListenElapsed (s : State) : Host.Outcome State Fault Refusal :=
  if s.csState = 2 ∧ s.flag F.KL_TIME_CTL_CAP then
    let s := s.advanceToTick (s.kl.cold.since + s.listenTicks)
    .next ((s.setCold { s.kl.cold with since := s.time.ticks }).setCs 3)
  else .next s

/-- RANK_DELAY_ELAPSED: the rank delay has elapsed in RANK_WAIT (R153). -/
def execRankDelayElapsed (s : State) : Host.Outcome State Fault Refusal :=
  if s.csState = 3 then .next (s.advanceToTick (s.kl.cold.since + s.rankTicks)).attempt else .next s

/-- BACKOFF_ELAPSED: s + W + L + rank delay is reached in BACKOFF (R153). -/
def execBackoffElapsed (s : State) : Host.Outcome State Fault Refusal :=
  if s.csState = 5 then
    .next (s.advanceToTick (s.kl.cold.stamp + windowTicks + s.listenTicks + s.rankTicks)).attempt
  else .next s

/-- COLD_START_FRAME_RECEIVE: after `dt` ticks a cold-start frame reaches port `p`, given from its destination address on.
On the network of the cold start it is heard, as corrupted if its FCS is bad or its BASE differs (R151 to R153). -/
def execColdStartFrameReceive (p dt : Nat) (fcsOk : Bool) (bs : List Byte) (s : State) :
    Host.Outcome State Fault Refusal :=
  if ¬ s.portOn p then .next s
  else
    let s := s.advance dt
    match s.klReject p 6 fcsOk bs with
    | some c => .next (s.klDiscard p c)
    | none =>
      if s.coldNet p then
        .next (s.coldHear (decide (klField bs 15 1 % 4 ≠ s.time.base)) (klField bs 2 2)
          (klField bs 16 8 * 2 ^ 32 + klField bs 24 4))
      else .next s

/-- The CT increment at its nominal value (R61, R66). -/
def State.nominalInc (s : State) : State := { s with time := { s.time with ctInc := 2 * 2 ^ 32 } }

/-- ATTEMPT_WINDOW_END: the attempt window closes clean, and the module is the reference (R153, R154). -/
def execAttemptWindowEnd (s : State) : Host.Outcome State Fault Refusal :=
  if s.csState = 4 then
    let s := s.advanceToTick (s.kl.cold.stamp + windowTicks)
    let s := (s.setRef (some s.selfId) (s.fd F.KL_TIME_CTL_RANK)).nominalInc
    .next ((s.setFd F.TIM_CT_STAT_SRC 0 0 2).setCs 0xA)
  else .next s

/-- Cell time is loaded at integration: the loop starts afresh, and no line is taken in the new count (R63, R114, R164,
R651). -/
def State.loadTime (s : State) (ct : Nat) : State :=
  { s with time := s.time.loadCt (ct / 2 ^ 32) (ct % 2 ^ 32),
           kl := { s.kl with integral := 0, trMiss := 0, trSeen := true, bySync := false, syncMiss := 0, busy := [] } }

/-- DEFER_WINDOW_END: at a + W the module loads cell time from the winner and is INTEGRATED, or returns to LISTEN
(R153, R155). -/
def execDeferWindowEnd (s : State) : Host.Outcome State Fault Refusal :=
  if s.csState = 6 then
    let c := s.kl.cold
    let s := s.advanceToTick (c.stamp + windowTicks)
    if c.spoiled then .next ((s.setCold { c with since := s.time.ticks }).setCs 2)
    else
      let delay := match (s.node c.frm).result with | some r => r.delayA | none => 0
      let rank := match s.entryOf c.frm with | some e => e.rank | none => 0
      let s := s.loadTime (c.frmCt + delay * 2 ^ 24 + (s.time.ct - c.ownCt))
      .next (((s.setFd F.TIM_CT_STAT_SRC 0 0 1).setRef (some c.frm) rank).setCs 9)
  else .next s

/-! ## Alignment (R62, R162 to R164) -/

/-- The unit of the integral: e in 2^-16 ns over 64 × T, with T a divisor of 250,000 ns. -/
def alignUnit : Int := 2 ^ 16 * 64 * 250000

/-- The alignment loop takes an error sample `e` in 2^-16 ns (R164); ERR reads it in 2^-8 ns. -/
def State.align (s : State) (e : Int) : State :=
  let k : Int := 250000 / s.lenNs
  let c := s.kl.integral + 17 * e * k
  let lim : Int := alignUnit * 20 / 1000000
  let beyond := lim < c ∨ c < -lim
  let c' := if lim < c then lim else if c < -lim then -lim else c
  let inc : Int := 2 ^ 33 + (2 ^ 33 * c').tdiv alignUnit
  let i := if beyond then s.kl.integral else s.kl.integral + e * k
  let s : State := { s with time := { s.time with ctInc := inc.toNat }, kl := { s.kl with integral := i } }
  let s := s.setRg .KL_TIME_ERR 0 0 (ofSigned 32 (e / 256))
  if beyond then s.raise F.TIM_CT_STAT_CLAMP F.TIM_CT_STAT_CLAMP_CNT 0 0 else s

/-- A TIME_REPORT of node `node` gives its OFFSET, in 2^-16 ns, as the error sample of the present base cycle, the first
of it; it ends HOLDOVER too (R65, R162 to R164). -/
def State.takeTimeReport (s : State) (node : Nat) (offset : Int) : State :=
  if s.kl.trSeen ∨ ¬ (s.csState = 9 ∨ (s.csState = 11 ∧ (s.node node).present)) then s
  else
    let s := if s.csState = 11 then (s.setCs 9).setFd F.TIM_CT_STAT_SRC 0 0 1 else s
    { s with kl := { s.kl with trSeen := true, trMiss := 0, holdBcn := none } }.align offset

/-- TIME_REPORT_RECEIVE: after `dt` ticks a TIME_REPORT reaches port `p`. One that is not the reference node's, or not for
the present base cycle, counts as a mismatch (R94, R142, R162, R163). Log 38 (DEDUCED, unsafe). -/
def execTimeReportReceive (p dt : Nat) (fcsOk : Bool) (bs : List Byte) (s : State) :
    Host.Outcome State Fault Refusal :=
  if ¬ s.portOn p then .next s
  else
    let s := s.advance dt
    .next (s.delayFrame p [6] fcsOk bs (fun s =>
      if s.kl.ref ≠ some (klField bs 2 2) ∨ klField bs 16 4 ≠ s.time.bcn % 2 ^ 32 then s.klCount p 4
      else s.takeTimeReport (klField bs 2 2) (toSigned 64 (klField bs 20 8))))

/-- HOLDOVER: TR_LIMIT TIME_REPORTs are missing, or the reference node is absent (R166). -/
def execHoldover (s : State) : Host.Outcome State Fault Refusal :=
  match s.kl.ref with
  | none => .next s
  | some r =>
    let missed := decide (s.fd F.KL_TIME_CTL_TR_LIMIT ≤ s.kl.trMiss)
    if s.csState = 9 ∧ ¬ s.kl.bySync ∧ r < 0x800 ∧ (missed ∨ (s.kl.refSeen ∧ ¬ (s.node r).present)) then
      let s := s.journal 0x08 0x03 0x00 1 ([if missed then 0 else 1] ++ dBytes 2 r)
      .next ({ s with kl := { s.kl with holdBcn := some s.time.bcn } }.enterKlHoldover)
    else .next s

/-- The new reference of R167: rank and id of the lowest-ranked candidate, the module included. -/
def State.nextRef (s : State) : Option (Nat × Nat) :=
  let c := (s.candidates (s.fd F.KL_MODE_SW_ACTIVE) (s.fd F.KL_TIME_CTL_REF_PORT)).filter (fun e =>
    (s.node e.node).integ && !(s.node e.node).refer && (s.node e.node).present)
  let l := (if s.flag F.KL_TIME_CTL_CAP then [(s.fd F.KL_TIME_CTL_RANK, s.selfId)] else []) ++
    c.map (fun e => (e.rank, e.node))
  l.foldl (fun b x => match b with
    | none => some x
    | some y => if x.1 < y.1 then some x else some y) none

/-- The takeover of the reference at the first super-cycle boundary at least 16 base cycles after HOLDOVER was entered
(R167). Log 38 (DEDUCED, unsafe). -/
def State.refTakeover (s : State) : State :=
  match s.kl.holdBcn with
  | none => s
  | some h =>
    if s.csState ≠ 11 ∨ s.time.bcn < h + 16 then s
    else
      let s : State := { s with kl := { s.kl with holdBcn := none, trMiss := 0, trSeen := true } }
      match s.nextRef with
      | none => s.setRef none 0
      | some (rank, r) =>
        let s := (s.setRef (some r) rank).incFd F.KL_TIME_STAT_TAKEOVER_CNT 0 0
        if r < 0x800 then (s.setCs 9).setFd F.TIM_CT_STAT_SRC 0 0 1
        else (s.nominalInc.setCs 10).setFd F.TIM_CT_STAT_SRC 0 0 2

/-! ## Sync frames received (R153, R159, R160, R170, R576) -/

/-- An accepted sync frame gives the error sample of its base cycle, the first of it (R162). -/
def State.syncSample (s : State) (e : Int) : State :=
  if s.kl.trSeen then s
  else { s with kl := { s.kl with trSeen := true, syncMiss := 0 } }.align (e / 2 ^ 16)

/-- A sync frame takes the module to SYNCING, after three in a row to INTEGRATED, and there holds it aligned; after a loss
of the sync frames the loop resumes without a load (R65, R159 to R162). `at_` is the cell time it carries at its receive stamp, in 2^-32 ns.
Log 38 (DEDUCED, unsafe). -/
def State.syncStep (s : State) (at_ ref rank bcn : Nat) : State :=
  let c := s.kl.cold
  let e : Int := (at_ : Int) - s.time.ct
  match s.csState with
  | 8 =>
    if bcn % 2 ^ 32 = (c.syncBcn + 1) % 2 ^ 32 ∧ s.kl.ref = some ref ∧ e.natAbs ≤ 100 * 2 ^ 32 then
      let s := (s.setCold { c with syncs := c.syncs + 1, syncBcn := bcn }).syncSample e
      if 3 ≤ c.syncs + 1 then
        { (s.setCs 9).setFd F.TIM_CT_STAT_SRC 0 0 1 with kl := { s.kl with bySync := true, syncMiss := 0 } }
      else s
    else s.setCs 7
  | 9 => if s.kl.bySync ∧ e.natAbs ≤ 1000 * 2 ^ 32 then s.syncSample e else s
  | 11 =>
    if s.kl.bySync then ((s.setCs 9).setFd F.TIM_CT_STAT_SRC 0 0 1).syncSample e else s
  | _ =>
    let s := (s.loadTime at_).setRef (some ref) rank
    (s.setCold { c with syncs := 1, syncBcn := bcn }).setCs 8

/-- The module takes a sync frame of another sender on port `p`: a standby notes the primary's (R576), and on the network
of the cold start, in LISTEN, RANK_WAIT and from WAIT_SYNC on, the module integrates by it (R65, R153, R159 to R161). -/
def State.takeSync (s : State) (p at_ ref rank bcn : Nat) : State :=
  if s.isStandby then
    { s with ch := { s.ch with syncSeen := true }, kl := { s.kl with ref := some ref, refRank := rank } }
  else if s.coldNet p ∧ (s.csState = 2 ∨ s.csState = 3 ∨ (7 ≤ s.csState ∧ s.csState ≤ 9) ∨
      (s.csState = 11 ∧ s.kl.bySync)) then s.syncStep at_ ref rank bcn
  else s

/-- SYNC_FRAME_RECEIVE: after `dt` ticks port `p` receives a sync frame, given from its destination address on; `link` is
the LINK_A of the module on the sender's network, Q24.8 ns, and the frame carries the cell time CYCLE_CT + LINK_A + CORR
(R96, R159). Every sound one is a capture event of its port (R73). The module's own frame from the other port closes a
ring (R170). -/
def execSyncFrameReceive (p link dt : Nat) (fcsOk : Bool) (bs : List Byte) (s : State) :
    Host.Outcome State Fault Refusal :=
  if ¬ s.portOn p then .next s
  else
    let s := s.advance dt
    match s.klReject p 1 fcsOk bs with
    | some c => .next (s.klDiscard p c)
    | none =>
      let s := s.captureAll (0x20 + p) true
      if klField bs 2 2 = s.selfId then
        .next { s with kl := { s.kl with ringHeard := (p, s.time.bcn) :: s.kl.ringHeard.filter (fun e => e.1 ≠ p) } }
      else
        let at_ : Int := klField bs 12 8 * 2 ^ 32 + link * 2 ^ 24 + toSigned 64 (klField bs 20 8) * 2 ^ 16
        .next (s.takeSync p at_.toNat (klField bs 28 2) (klField bs 30 1) (klField bs 4 4))

/-! ## Chain time (R171, R172) -/

/-- The number of positions of the chain, from CH_STAT.PRESENT; four while nothing has been heard.
Log 39 (DEDUCED, unsafe). -/
def State.chainSize (s : State) : Nat :=
  let v := s.fd F.CH_STAT_PRESENT
  if v = 0 then 4 else Nat.log2 v + 1

/-- The chain port nearer to position 0, in chain hops (R172). Log 39 (DEDUCED, unsafe). -/
def State.nearPort (s : State) : Nat :=
  let p := s.ch.strap % 4
  if p ≤ s.chainSize - p then 0 else 1

/-- Base cycles without a word on a chain port. Log 39 (DEDUCED, unsafe). -/
def State.quietOf (s : State) (p : Nat) : Nat := if p = 0 then s.ch.quiet0 else s.ch.quiet1

/-- The measured delay of chain port `p`'s link, Q24.8 ns; 0 before an exchange (R171). -/
def State.chainLink (s : State) (p : Nat) : Nat := ((s.ch.links.find? (fun e => e.1 = p)).map (·.2.1)).getD 0

/-- The two-way exchange of chain port `p`: an answer with TURN `turn`, Q24.8 ns, has arrived, and its request is closed
(R146, R171). Log 39 (DEDUCED, unsafe). -/
def State.chainExchange (s : State) (p turn : Nat) : State :=
  match s.ch.asks.find? (fun e => e.1 = p) with
  | some e =>
    let l := (p, ((s.time.ct - e.2) / 2 ^ 24 - turn) / 2, s.time.bcn / 16)
    { s with ch := { s.ch with links := l :: s.ch.links.filter (fun x => x.1 ≠ p),
                               asks := s.ch.asks.filter (fun x => x.1 ≠ p) } }
  | none => s

/-- A neighbour's request on chain port `p` is answered with TURN; how long that takes is left open (R146, R171).
Log 39 (DEDUCED, unsafe). -/
def State.chainAnswer (s : State) (p : Nat) : State :=
  let turn := s.free.1 % 1000 * 2 ^ 9
  let s := s.free.2
  { s with ch := { s.ch with answers := s.ch.answers ++ [(p, turn)] } }

/-- A chain time word on the chain port in use: the first one loads cell time, and the first of each base cycle after it
gives the error sample; `at_` is the sender's cell time at the word's arrival, in 2^-32 ns (R62, R172). A change of port
that a loss has caused is counted. -/
def State.chainWord (s : State) (p at_ : Nat) : State :=
  let old := s.fd F.KL_TIME_CHAIN_SRC_PORT
  let s := if old ≠ 0 ∧ old ≠ p + 1 ∧ 8 ≤ s.quietOf (old - 1) then s.incFd F.KL_TIME_CHAIN_CHLOSS_CNT 0 0 else s
  let first := s.csState ≠ 9 ∧ s.csState ≠ 11
  let s := ((s.setFd F.KL_TIME_CHAIN_SRC_PORT 0 0 (p + 1)).setCs 9).setFd F.TIM_CT_STAT_SRC 0 0 1
  if first then s.loadTime at_
  else if s.kl.trSeen then s
  else { s with kl := { s.kl with trSeen := true } }.align (((at_ : Int) - s.time.ct) / 2 ^ 16)

/-- CHAIN_TIME_WORD_RECEIVE: after `dt` ticks a chain time word with the sender's cell time `ct` at its stamp point, in
2^-32 ns, arrives on chain port `p`; with it come the neighbour's exchange request, where `ask`, and its answer to the
module's, with TURN `turn` (R171). A module at position 1 to 3 aligns to the port it uses (R62, R172).
Log 39 (DEDUCED, unsafe). -/
def execChainTimeWordReceive (p ct dt : Nat) (ask : Bool) (turn : Option Nat) (s : State) :
    Host.Outcome State Fault Refusal :=
  let s := s.advance dt
  if ¬ s.domOn 23 ∨ 1 < p then .next s
  else
    let s : State := { s with ch := if p = 0 then { s.ch with word0 := true, quiet0 := 0 }
                                    else { s.ch with word1 := true, quiet1 := 0 } }
    let s := s.setFd (if p = 0 then F.CH_STAT_LINK0 else F.CH_STAT_LINK1) 0 0 1
    let s := match turn with
      | some t => s.chainExchange p t
      | none => s
    let s := if ask then s.chainAnswer p else s
    let near := s.nearPort
    let use := if s.quietOf near < 8 then near else 1 - near
    if s.ch.strap % 4 = 0 ∨ use ≠ p then .next s
    else .next (s.chainWord p (ct + s.chainLink p * 2 ^ 24))

/-- CHAIN_SOURCE_SWITCH: no word for 8 base cycles on the chain port in use: the other one is used, or with neither
HOLDOVER is entered (R172). Log 119 (DEDUCED, unsafe). -/
def execChainSourceSwitch (s : State) : Host.Outcome State Fault Refusal :=
  let src := s.fd F.KL_TIME_CHAIN_SRC_PORT
  if s.ch.strap % 4 = 0 ∨ src = 0 ∨ s.quietOf (src - 1) < 8 then .next s
  else if s.quietOf (2 - src) < 8 then
    .next ((s.setFd F.KL_TIME_CHAIN_SRC_PORT 0 0 (3 - src)).incFd F.KL_TIME_CHAIN_CHLOSS_CNT 0 0)
  else if s.csState = 9 then .next (s.setFd F.KL_TIME_CHAIN_SRC_PORT 0 0 0).enterKlHoldover
  else .next s

/-! ## KL_TIME_CTL (R173) -/

/-- A write of KL_TIME_CTL. -/
def writeTimeCtl (q : Requester) (v : Word) (s : State) : State :=
  let p := F.KL_TIME_CTL_REF_PORT.of v.toNat
  if s.anyPort then s.refuse q .KL_TIME_CTL 0 0 0x02
  else if F.KL_TIME_CTL_TR_LIMIT.of v.toNat = 0 then s.refuse q .KL_TIME_CTL 0 0 0x03
  else if s.netOf p ≠ p then s.refuse q .KL_TIME_CTL 0 0 0x19
  else s.plainWrite .KL_TIME_CTL 0 0 v.toNat

/-- KL_TIME_CTL_WRITE: a write of KL_TIME_CTL by a requester. -/
def execKlTimeCtlWrite (q : Requester) (v : Word) (s : State) : Host.Outcome State Fault Refusal :=
  s.write q .KL_TIME_CTL 0 0 (writeTimeCtl q v)

end Sys2Proof.Machine
end

