-- ==== Sys2Proof/Machine/Sorus.lean ====
section
/-!
DEFINITION. Sorus (chapter 13): probe points, sampling instants, records and headers in DRAM, triggers, mask tests,
automatic rate reduction, and the SO commands. How full a capture's write FIFO is (R486) is an operand of SO_SAMPLE.
-/

namespace Sys2Proof.Machine

/-- The DRAM offset of a core address in the capture area (R181). -/
def dramAt (a : Nat) : Nat := a - 0x80000000

/-- The state with bytes written to DRAM. -/
def State.dramWrite (s : State) (a : Nat) (bs : List Byte) : State :=
  { s with mem := { s.mem with dram := Mem.writeN s.mem.dram a bs } }

/-! ## Probe points (R481) -/

/-- The point can be assigned to a channel. -/
def probeOk (p : Nat) : Bool :=
  if p < 0x1000 then decide (p % 16 < 14)
  else if p < 0x1400 then decide (p % 32 < 6)
  else if p < 0x1500 then decide (p % 16 < 8)
  else if p < 0x1600 then decide (p % 32 < 11)
  else if p < 0x1700 then decide (p - 0x1600 < 0x0B)
  else decide (0x1E00 ≤ p)

/-- A word of axis `a`. -/
def State.probeAxis (s : State) (a q : Nat) : Nat :=
  let r := s.axLive a
  let up (b : Nat) : Nat := if axNode r < 2048 then s.sramN (0x10800 + 64 * axNode r + b) 4 else 0
  if q = 0 then s.view .AX_POSn a 0 else if q = 1 then s.view .AX_SPDn a 0
  else if q = 2 then s.view .AX_DECUn a 0 else if q = 3 then s.view .AX_STATn a 0
  else if q < 12 then up (8 + 4 * (q - 4)) else if q = 12 then up 0
  else match axStepOut r with
    | some j => s.view .AX_STj_POS j 0
    | none => 0

/-- A word of feedback channel `n`. -/
def State.probeFb (s : State) (n q : Nat) : Nat :=
  match q with
  | 0 => s.view .FB_CNTn n 0
  | 1 => s.view .FB_POSn n 0
  | 2 => s.view .FB_SPDn n 0
  | 3 => s.view .FB_STATn n 0
  | 4 => s.view .FB_AMPn n 0
  | _ => s.view .FB_IDXn n 0

/-- A word of arm group `g`. -/
def State.probeAg (s : State) (g q : Nat) : Nat :=
  match q with
  | 0 => s.view .TH_AGn_SSM g 0
  | 1 => s.view .TH_AGn_DMIN g 0
  | 2 => s.view .TH_AGn_SP g 0
  | 3 => s.view .TH_AGn_LIMIT g 0
  | 4 => s.view .TH_AGn_VMON g 0
  | 5 => fieldAt (s.agLive g) 12 4
  | 6 => fieldAt (s.agLive g) 16 4
  | _ => bits (s.rg .KN_PLAN_RUN) (2 * g + 1) (2 * g)

/-- A word of the module as a whole. -/
def State.probeModule (s : State) (q : Nat) : Nat :=
  match q with
  | 0 => s.ax.gpioIn
  | 1 => s.gpioLevels
  | 2 => s.view .TH_SI 0 0
  | 3 => s.view .TH_SIFLT 0 0
  | 4 => s.ctNs % 2 ^ 32
  | 5 => s.ctNs / 2 ^ 32
  | 6 => s.ptNs % 2 ^ 32
  | 7 => s.ptNs / 2 ^ 32
  | 8 => s.view .KL_TIME_ERR 0 0
  | 9 => s.view .LV_STAT 0 0
  | _ => s.view .TIM_CYCLE 0 0

/-- The word probe point `p` holds now. Log 120 (DEDUCED, unsafe). -/
def State.probeWord (s : State) (p : Nat) : Nat :=
  if p < 0x1000 then s.probeAxis (p / 16) (p % 16)
  else if p < 0x1400 then s.probeFb ((p - 0x1000) / 32) (p % 32)
  else if p < 0x1500 then s.probeAg ((p - 0x1400) / 16) (p % 16)
  else if p < 0x1600 then
    let n := (p - 0x1500) / 32
    if p % 32 < 10 then s.view .KL_PORTn_CNTk n (p % 32) else s.view .KL_PORTn_STAT n 0
  else if p < 0x1700 then s.probeModule (p - 0x1600)
  else s.sramN (s.fd F.SO_UBASE_BASE + 4 * (p - 0x1E00)) 4

/-- The probe points of capture `c`, in ascending channel order (R483). Log 75 (DEDUCED, unsafe). -/
def State.soProbes (s : State) (c : Nat) : List Nat :=
  ((List.range 64).filter (fun k => s.flag F.SO_CHk_EN k && decide (s.fd F.SO_CHk_CAPTURE k = c))).map
    (fun k => s.fd F.SO_CHk_PROBE k)

/-! ## Sampling instants (R484, R485) -/

/-- Period and offset, in ns, of the instants of capture `c`: instant number k falls at k periods plus the offset. -/
def State.soBase (s : State) (c : Nat) : Nat × Nat :=
  let po := s.fd F.SO_Cc_RATE_PER_OFS c
  if s.fd F.SO_Cc_RATE_SRC c = 0 then (2 ^ s.fd F.SO_Cc_RATE_DIV c * s.lenNs, bits po 9 0 * 250) else (po * 250, 0)

/-- The next instant on which capture `c` takes a sample: its CT and its SEQ. -/
def State.soNext (s : State) (c : Nat) : Nat × Nat :=
  let x := s.soCap c
  let (p, o) := s.soBase c
  let p := max 1 p
  let from_ := min x.lastCt s.ctNs
  let k0 := if from_ < o then 0 else (from_ - o) / p + 1
  let m := 2 ^ s.fd F.SO_Cc_STAT_RATE_LOG2 c
  let k := (k0 + m - 1) / m * m
  (k * p + o, x.seen + (k - k0))

/-! ## Mask tables (R499) -/

/-- The masked channels of a table, from byte `a` on; none when a condition is broken. -/
def readMask (bs : List Byte) (nch npts : Nat) : Nat → Nat → Option (List (Nat × List (Int × Int)))
  | 0, _ => some []
  | k + 1, a =>
    let ch := fieldAt bs a 1
    let pts := (List.range npts).map (fun i => (signedAt bs (a + 4 + 8 * i) 4, signedAt bs (a + 8 + 8 * i) 4))
    if ch < nch ∧ pts.all (fun e => decide (e.1 ≤ e.2)) then
      (readMask bs nch npts k (a + 4 + 8 * npts)).map ((ch, pts) :: ·)
    else none

/-- The mask table of capture `c`; none when it is not valid. Log 75 (DEDUCED, unsafe). -/
def State.soMask (s : State) (c nch : Nat) : Option (List (Nat × List (Int × Int))) :=
  if s.flag F.SO_Cc_CTL_MASK_EN c then
    let a := s.fd F.SO_Cc_MASK_OFFSET c
    let nm := s.sramN a 1
    let np := s.sramN (a + 2) 2
    let len := 16 + nm * (4 + 8 * np)
    if 1 ≤ nm ∧ nm ≤ 16 ∧ 1 ≤ np ∧ np ≤ 1024 ∧ a + len ≤ 2 ^ 24 then
      readMask (s.sramBytes a len) nch np nm 16
    else none
  else some []

/-! ## Headers (R489, R490) -/

/-- FIRST and COUNT (R490); `w` records are written. -/
def SoCap.extent (x : SoCap) (w : Nat) : Nat × Nat :=
  let cap := max 1 x.capacity
  match x.trig with
  | some (r, _) => ((r + cap * (x.pre / cap + 1) - x.pre) % cap, x.pre + (w - r))
  | none => (if w ≤ x.capacity then 0 else w % cap, min w x.capacity)

/-- The 256 header bytes of capture `c`, with STATE `st` and END `e`. Log 73 (DEDUCED, unsafe). -/
def State.soHeader (s : State) (c st e : Nat) : List Byte :=
  let x := s.soCap c
  let (first, count) := x.extent (s.rg .SO_Cc_WRITTEN c)
  let probes := s.soProbes c
  let idx := match x.trig with
    | some (r, _) => r % max 1 x.capacity
    | none => 0xFFFFFFFF
  let rates := (x.rates.map (fun r => leBytes 4 r.1 ++ leBytes 4 r.2)).flatten
  let (fs, fc) := x.fail.getD (0xFFFFFFFF, 0)
  leBytes 2 1 ++ leBytes 1 c ++ leBytes 1 st ++ leBytes 1 x.nch ++ leBytes 1 e ++ leBytes 2 x.recSize ++
    leBytes 4 x.capacity ++ leBytes 4 x.pre ++ leBytes 4 x.post ++ leBytes 4 first ++ leBytes 4 count ++ leBytes 4 idx ++
    leBytes 8 x.trigCt ++ leBytes 1 x.trigSrc ++ leBytes 1 x.rates.length ++ leBytes 2 x.capnum ++ leBytes 4 x.drops ++
    (rates ++ List.replicate 64 0#8).take 64 ++ leBytes 4 fs ++ leBytes 1 fc ++ List.replicate 11 0#8 ++
    ((probes.map (leBytes 2)).flatten ++ List.replicate 128 0xFF#8).take 128

/-- The state of capture `c` (SO_Cc_STAT.STATE). -/
def State.soState (s : State) (c : Nat) : Nat := s.fd F.SO_Cc_STAT_STATE c

/-- ARM, or a re-arm: the mask table is copied, the header written, and the capture fills or waits (R490, R491). A mask
table that is not valid refuses: `none`. Log 75 (DEDUCED, unsafe). -/
def State.soArm (s : State) (c : Nat) : Option State :=
  let nch := (s.soProbes c).length
  (s.soMask c nch).map (fun mask =>
    let x := s.soCap c
    let rec_ := (16 + 4 * nch + 15) / 16 * 16
    let pre := s.fd F.SO_Cc_PRE_VALUE c
    let x : SoCap :=
      { soCapReset with armAt := s.ctNs, lastCt := s.ctNs, nch := nch, recSize := rec_,
                        capacity := (s.rg .SO_Cc_SIZE c - 256) / rec_, pre := pre,
                        post := s.fd F.SO_Cc_POST_VALUE c, mask := mask, waitAt := s.time.ticks,
                        capnum := x.capnum }
    let s := (s.setSoCap c x).setRg .SO_Cc_WRITTEN c 0 0
    let s := s.setFd F.SO_Cc_STAT_RATE_LOG2 c 0 0
    let s := s.setFd F.SO_Cc_STAT_STATE c 0 (if pre = 0 then 2 else 1)
    s.dramWrite (dramAt (s.rg .SO_Cc_BASE c)) (s.soHeader c 1 0))

/-! ## Triggers (R493 to R496) -/

/-- Condition COND of a unit of KIND 1 on the channel words, the previous record's words and A and B (R493).
Log 74 (DEDUCED, unsafe). -/
def soCond (cond ch a b : Nat) (vals : List Nat) (prev : Option (List Nat)) : Bool :=
  let v := vals.getD ch 0
  let sv := toSigned 32 v
  let sa := toSigned 32 a
  let before := prev.map (fun l => toSigned 32 (l.getD ch 0))
  match cond with
  | 0 => decide (sa < sv)
  | 1 => decide (sv < sa)
  | 2 => before.any (fun p => decide (p < sa ∧ sa ≤ sv))
  | 3 => before.any (fun p => decide (sa < p ∧ sv ≤ sa))
  | 4 => decide (sa ≤ sv ∧ sv ≤ toSigned 32 b)
  | 5 => decide (sv < sa ∨ toSigned 32 b < sv)
  | _ => decide (v &&& b = a)

/-- Unit T0 or T1 on this sample: true or not, and the stamp of its event (KIND 2 to 4). Log 74 (DEDUCED, unsafe). -/
def State.soTrue (s : State) (c u : Nat) (vals : List Nat) : Bool × Option Nat :=
  let x := s.soCap c
  if u = 0 then
    match s.fd F.SO_Cc_TRG0_KIND c with
    | 0 => (false, none)
    | 1 => (soCond (s.fd F.SO_Cc_TRG0_COND c) (s.fd F.SO_Cc_TRG0_CH c) (s.rg .SO_Cc_T0A c) (s.rg .SO_Cc_T0B c) vals x.prev, none)
    | _ => (x.ev0.isSome, x.ev0)
  else
    match s.fd F.SO_Cc_TRG1_KIND c with
    | 0 => (false, none)
    | 1 => (soCond (s.fd F.SO_Cc_TRG1_COND c) (s.fd F.SO_Cc_TRG1_CH c) (s.rg .SO_Cc_T1A c) (s.rg .SO_Cc_T1B c) vals x.prev, none)
    | _ => (x.ev1.isSome, x.ev1)

/-- The earlier of the stamps of the deciding events, the sample's CT where there is none (R495).
Log 74 (DEDUCED, unsafe). -/
def soStamp (ct : Nat) (l : List (Option Nat)) : Nat :=
  match l.reduceOption with
  | [] => ct
  | e :: es => es.foldl min e

/-- The trigger decision on a sample at `ct`, the `taken`-th: TRIG_SRC and TRIG_CT (R494 to R497).
Log 74 (DEDUCED, unsafe). -/
def State.soDecide (s : State) (c ct : Nat) (vals : List Nat) : Option (Nat × Nat) :=
  let x := s.soCap c
  let (t0, e0) := s.soTrue c 0 vals
  let (t1, e1) := s.soTrue c 1 vals
  let unit : Option (Nat × Nat) :=
    match s.fd F.SO_Cc_CTL_COMB c with
    | 0 => if t0 then some (1, soStamp ct [e0]) else none
    | 1 => if t0 && t1 then some (3, soStamp ct [e0, e1]) else if t0 then some (1, soStamp ct [e0])
           else if t1 then some (2, soStamp ct [e1]) else none
    | 2 => if t0 && t1 then some (3, soStamp ct [e0, e1]) else none
    | _ => match x.t0At with
      | some (n, e) => if t1 && decide (x.taken - n ≤ s.fd F.SO_Cc_WIN_VALUE c) then some (3, soStamp ct [e, e1]) else none
      | none => none
  match unit with
  | some d => some d
  | none => x.forced.map (fun f => (f, ct))

/-! ## Samples -/

/-- The first masked channel that fails on a record at point `j` (R500). -/
def soMaskFail (mask : List (Nat × List (Int × Int))) (j : Nat) (vals : List Nat) : Option Nat :=
  (mask.find? (fun m => match m.2[j]? with
    | some (lo, hi) => let v := toSigned 32 (vals.getD m.1 0); decide (v < lo ∨ hi < v)
    | none => false)).map Prod.fst

/-- The rate reduction of R502 at a sample with SEQ `seq`. -/
def State.soReduce (s : State) (c level seq : Nat) : State :=
  let x := s.soCap c
  let l := s.fd F.SO_Cc_STAT_RATE_LOG2 c
  if s.flag F.SO_Cc_CTL_RATE_AUTO c ∧ 24 * 1024 ≤ level ∧ l < 8 ∧ 64 ≤ x.sinceRed then
    let s := s.setSoCap c { x with sinceRed := 0, rateFlag := true,
                                   rates := if x.rates.length < 8 then x.rates ++ [(seq, l + 1)] else x.rates }
    (s.setFd F.SO_Cc_STAT_RATE_LOG2 c 0 (l + 1)).raise F.SO_Cc_STAT_RATE_RED F.SO_Cc_CNT_RED_CNT c 0
  else s

/-- A sample that finds the FIFO full (R503). Log 73 (DEDUCED, unsafe). -/
def State.soDrop (s : State) (c : Nat) : State :=
  let x := s.soCap c
  (s.setSoCap c { x with drops := satInc 32 x.drops, dropFlag := true }).raise F.SO_Cc_STAT_DROPPED F.SO_Cc_CNT_DROP_CNT c 0

/-- A record is written: trigger and mask decisions, the record's bytes, and the state it brings (R487 to R501). -/
def State.soRecord (s : State) (c ct seq l : Nat) (vals : List Nat) (rate : Bool) : State :=
  let x := s.soCap c
  let st := s.soState c
  let r := s.rg .SO_Cc_WRITTEN c
  let hit := if st = 2 then s.soDecide c ct vals else none
  let (t0, e0) := s.soTrue c 0 vals
  let x : SoCap := { x with t0At := if st = 2 && t0 then some (x.taken, e0) else x.t0At, ev0 := none, ev1 := none,
                            prev := some vals }
  let x : SoCap := match hit with
    | some (src, tct) => { x with trig := some (r, seq), trigTick := some s.time.ticks, trigSrc := src, trigCt := tct,
                                     forced := none }
    | none => x
  let forced := decide (hit.any (fun h => decide (4 ≤ h.1)))
  let bad : Option Nat := x.trig.bind (fun t => soMaskFail x.mask (seq - t.2) vals)
  let x : SoCap := if bad.isSome ∧ x.fail.isNone then { x with fail := some (seq, bad.getD 0) } else x
  let flags := b2n hit.isSome + 2 * b2n rate + 4 * b2n bad.isSome + 8 * b2n forced + 16 * b2n x.dropFlag
  let x : SoCap := { x with dropFlag := false, sinceRed := x.sinceRed + 1 }
  let bs := leBytes 8 ct ++ leBytes 4 seq ++ leBytes 1 flags ++ leBytes 1 l ++ leBytes 2 0 ++
    (vals.map (leBytes 4)).flatten
  let bs := (bs ++ List.replicate 16 0#8).take x.recSize
  let s := s.dramWrite (dramAt (s.rg .SO_Cc_BASE c + 256 + r % max 1 x.capacity * x.recSize)) bs
  let s := s.setRg .SO_Cc_WRITTEN c 0 (satInc 32 r)
  let s := if bad.isSome then s.raise F.SO_Cc_STAT_MASK_FAIL F.SO_Cc_CNT_FAIL_CNT c 0 else s
  let stop := bad.isSome && s.flag F.SO_Cc_CTL_STOP_ON_FAIL c
  let done := x.trig.any (fun t => decide (x.post ≤ r - t.1))
  let x : SoCap := if stop then { x with ending := some 1 } else if done then { x with ending := some 0 } else x
  if st = 1 then
    if x.pre ≤ r + 1 then
      (s.setSoCap c { x with waitAt := s.time.ticks }).setFd F.SO_Cc_STAT_STATE c 0 2
    else s.setSoCap c x
  else
    let s := s.setSoCap c x
    if hit.isSome then s.setFd F.SO_Cc_STAT_STATE c 0 3 else s

/-- SO_SAMPLE: the next instant on which capture `c` takes a sample comes; its FIFO holds `level` bytes (R484 to
R503). Log 120 (DEDUCED, unsafe). -/
def execSoSample (c level : Nat) (s : State) : Host.Outcome State Fault Refusal :=
  let live (s : State) : Bool := s.domOn 22 && decide (1 ≤ s.soState c ∧ s.soState c ≤ 3) && (s.soCap c).ending.isNone
  if 8 ≤ c ∨ ¬ live s then .next s
  else
    let (ct, seq) := s.soNext c
    let s := s.advanceTo ct
    let x := s.soCap c
    let l := s.fd F.SO_Cc_STAT_RATE_LOG2 c
    let vals := (s.soProbes c).map s.probeWord
    let rate := x.rateFlag
    let full := decide (32 * 1024 < level + x.recSize)
    let s := s.setSoCap c { x with lastCt := ct, seen := seq + 1, taken := x.taken + 1,
                                   rateFlag := x.rateFlag && full }
    let s := s.soReduce c level seq
    .next (if full then s.soDrop c else s.soRecord c ct seq l vals rate)

/-- SO_TRIGGER_EVENT: an event reaches Sorus: an edge of the external trigger input, a compare trigger pulse, or a
Thallus rise in `groups` (R492, R493, R495). -/
def execSoTriggerEvent (kind groups : Nat) (rising : Bool) (dt : Nat) (s : State) :
    Host.Outcome State Fault Refusal :=
  let s := s.advance dt
  let edge := s.fd F.SO_GLOBAL_EXT_EDGE
  let wanted := decide (kind = 3) || decide (kind = 4) ||
    (decide (kind = 2) && (decide (edge = 2) || decide (edge = b2n (!rising))))
  .next (if wanted then s.soEvent kind groups s.ctNs else s)

/-- SO_CAPTURE_END: the last record is in DRAM; the header is completed and the end token deposited (R490, R504). In
MODE 1 and 2 a DONE capture goes on to REARM (R491, R498). Log 73 (DEDUCED, unsafe). -/
def execSoCaptureEnd (c : Nat) (s : State) : Host.Outcome State Fault Refusal :=
  let x := s.soCap c
  match x.ending with
  | none => .next s
  | some e =>
    if ¬ s.domOn 22 then .next s
    else
      let cap := (x.capnum + 1) % 65536
      let x : SoCap := { x with ending := none, capnum := cap, doneBcn := s.time.bcn }
      let s := s.setSoCap c x
      let s := s.dramWrite (dramAt (s.rg .SO_Cc_BASE c)) (s.soHeader c 2 e)
      let s := s.incFd F.SO_Cc_CNT_DONE_CNT c 0
      let code := if e = 1 then 0x6E else 0
      let s := s.setFd F.SO_Cc_STAT_CODE c 0 code
      let s := s.setFd F.SO_Cc_STAT_STATE c 0 (if e = 0 then (if s.fd F.SO_Cc_CTL_MODE c = 0 then 4 else 5) else 6)
      .next (s.hwToken .sorus (s.fd F.SO_Cc_TOK_TOKEN c)
        (e + 1 + code * 2 ^ 8 + c * 2 ^ 16 + cap % 2 ^ 13 * 2 ^ 19))

/-- SO_AUTO_TIMEOUT: in MODE 2, AUTO_TO ms in WAITING force a trigger (R496). -/
def execSoAutoTimeout (c : Nat) (s : State) : Host.Outcome State Fault Refusal :=
  let waits (s : State) : Bool := s.domOn 22 && decide (s.soState c = 2) && decide (s.fd F.SO_Cc_CTL_MODE c = 2) &&
    (s.soCap c).ending.isNone
  if ¬ waits s then .next s
  else
    let s := s.advanceToTick ((s.soCap c).waitAt + msTicks (s.fd F.SO_Cc_TIME_AUTO_TO c))
    let x := s.soCap c
    .next (s.setSoCap c { x with forced := x.forced.or (some 5) })

/-- SO_REARM: HOLDOFF base cycles after DONE the capture arms again (R491). A mask table that is not valid by then
leaves it IDLE, refused with 0x6C. Log 75 (DEDUCED, unsafe). -/
def execSoRearm (c : Nat) (s : State) : Host.Outcome State Fault Refusal :=
  let x := s.soCap c
  if s.domOn 22 ∧ s.soState c = 5 ∧ x.ending.isNone ∧ x.doneBcn + s.fd F.SO_Cc_TIME_HOLDOFF c ≤ s.time.bcn then
    .next (match s.soArm c with
      | some s => s
      | none => ((s.setFd F.SO_Cc_STAT_STATE c 0 0).setFd F.SO_Cc_STAT_CODE c 0 0x6C).refuseSelf F.SO_Cc_CTL_REFUSE c 0x6C)
  else .next s

/-! ## Commands (R491, R492, R496) -/

/-- ARM. -/
def State.soCmdArm (s : State) (q : Requester) (c : Nat) : State :=
  let st := s.soState c
  let x := s.soCap c
  if s.flag F.SO_Cc_CTL_EN c ∧ (st = 0 ∨ st = 4 ∨ st = 6) ∧ x.ending.isNone then
    match s.soArm c with
    | some s => s
    | none => (s.setFd F.SO_Cc_STAT_CODE c 0 0x6C).refuse q .SO_Cc_CMD c 0 0x6C
  else (s.setFd F.SO_Cc_STAT_CODE c 0 0x02).refuse q .SO_Cc_CMD c 0 0x02

/-- A trigger that fell on the TIME tick of a STOP is taken back: its record stays as a plain one (R497). -/
def State.soUntrigger (s : State) (c : Nat) : State :=
  let x := s.soCap c
  match x.trig with
  | some (r, _) =>
    if x.trigTick ≠ some s.time.ticks then s
    else
      let a := dramAt (s.rg .SO_Cc_BASE c + 256 + r % max 1 x.capacity * x.recSize) + 12
      let flags := ofLe (Mem.readN s.mem.dram a 1)
      (s.setSoCap c { x with trig := none, trigTick := none, trigSrc := 0, trigCt := 0, fail := none }).dramWrite a
        (leBytes 1 (flags &&& 0x12))
  | none => s

/-- STOP: it applies before a trigger of its own TIME tick (R491, R497). -/
def State.soCmdStop (s : State) (q : Requester) (c : Nat) : State :=
  let st := s.soState c
  let x := s.soCap c
  if (st = 1 ∨ st = 2 ∨ st = 3 ∨ st = 5) ∧ (x.ending.isNone ∨ (st = 3 ∧ x.trigTick = some s.time.ticks)) then
    let s := s.soUntrigger c
    s.setSoCap c { s.soCap c with ending := some 2 }
  else s.refuse q .SO_Cc_CMD c 0 0x02

/-- FORCE. Log 73 (DEDUCED, unsafe). -/
def State.soCmdForce (s : State) (q : Requester) (c : Nat) : State :=
  let st := s.soState c
  let x := s.soCap c
  if st = 1 ∨ st = 5 then s.soMissed c
  else if st = 2 ∧ x.ending.isNone then s.setSoCap c { x with forced := some 4 }
  else s.refuse q .SO_Cc_CMD c 0 0x02

/-- A write of SO_Cc_CMD. -/
def writeSoCmd (q : Requester) (c : Nat) (v : Word) (s : State) : State :=
  match F.SO_Cc_CMD_OP.of v.toNat with
  | 1 => s.soCmdArm q c
  | 2 => s.soCmdStop q c
  | 3 => s.soCmdForce q c
  | _ => s.refuse q .SO_Cc_CMD c 0 0x03

/-- SO_ARM: a write of SO_Cc_CMD with OP 0x1 (R491). -/
def execSoArm (q : Requester) (c : Nat) (s : State) : Host.Outcome State Fault Refusal :=
  s.write q .SO_Cc_CMD c 0 (writeSoCmd q c 1)

/-- SO_STOP: a write of SO_Cc_CMD with OP 0x2 (R491). -/
def execSoStop (q : Requester) (c : Nat) (s : State) : Host.Outcome State Fault Refusal :=
  s.write q .SO_Cc_CMD c 0 (writeSoCmd q c 2)

/-- SO_FORCE: a write of SO_Cc_CMD with OP 0x3 (R496). -/
def execSoForce (q : Requester) (c : Nat) (s : State) : Host.Outcome State Fault Refusal :=
  s.write q .SO_Cc_CMD c 0 (writeSoCmd q c 3)

/-! ## Enabling (R506 to R508) -/

/-- The regions of two captures overlap. -/
def State.soOverlap (s : State) (c d : Nat) : Bool :=
  let a := s.rg .SO_Cc_BASE c
  let b := s.rg .SO_Cc_BASE d
  decide (a < b + s.rg .SO_Cc_SIZE d ∧ b < a + s.rg .SO_Cc_SIZE c)

/-- The checks of R506 in their order; `w` is the value written to SO_Cc_CTL. -/
def State.soEnableFail (s : State) (c w : Nat) : Option Nat :=
  let probes := s.soProbes c
  let nch := probes.length
  let mode := F.SO_Cc_CTL_MODE.of w
  let comb := F.SO_Cc_CTL_COMB.of w
  let base := s.rg .SO_Cc_BASE c
  let size := s.rg .SO_Cc_SIZE c
  let cap := (size - 256) / ((16 + 4 * nch + 15) / 16 * 16)
  let post := s.fd F.SO_Cc_POST_VALUE c
  let po := s.fd F.SO_Cc_RATE_PER_OFS c
  let k0 := s.fd F.SO_Cc_TRG0_KIND c
  let k1 := s.fd F.SO_Cc_TRG1_KIND c
  let hold := s.fd F.SO_Cc_TIME_HOLDOFF c
  if ¬ (1 ≤ nch ∧ nch ≤ 64 ∧ mode ≤ 2 ∧ (mode = 2 → 1 ≤ s.fd F.SO_Cc_TIME_AUTO_TO c) ∧ (1 ≤ mode → 1 ≤ hold)) then
    some 0x03
  else if ¬ (probes.all probeOk) ∨
      (probes.any (fun p => decide (0x1E00 ≤ p)) ∧ 2 ^ 24 < s.fd F.SO_UBASE_BASE + 2048) then some 0x6A
  else if base % 4096 ≠ 0 ∨ size % 4096 ≠ 0 ∨ size < 8192 ∨ base < 0xC0000000 ∨ 2 ^ 32 < base + size ∨
      (List.range 8).any (fun d => decide (d ≠ c) && s.flag F.SO_Cc_CTL_EN d && s.soOverlap c d) then some 0x68
  else if post < 1 ∨ cap < s.fd F.SO_Cc_PRE_VALUE c + 1 + post then some 0x69
  else if (s.fd F.SO_Cc_RATE_SRC c = 0 ∧ s.lenNs ≤ bits po 9 0 * 250) ∨
      (s.fd F.SO_Cc_RATE_SRC c = 1 ∧ ¬ (4 ≤ po ∧ po ≤ 4000000)) then some 0x6B
  else if 4 < k0 ∨ 6 < s.fd F.SO_Cc_TRG0_COND c ∨ 4 < k1 ∨ 6 < s.fd F.SO_Cc_TRG1_COND c ∨ k0 = 0 ∨
      (1 ≤ comb ∧ k1 = 0) ∨ (k0 = 1 ∧ nch ≤ s.fd F.SO_Cc_TRG0_CH c) ∨ (k1 = 1 ∧ nch ≤ s.fd F.SO_Cc_TRG1_CH c) ∨
      (comb = 3 ∧ s.fd F.SO_Cc_WIN_VALUE c < 1) then some 0x6D
  else if F.SO_Cc_CTL_MASK_EN.of w = 1 ∧ s.fd F.SO_Cc_MASK_OFFSET c % 16 ≠ 0 then some 0x6C
  else none

/-- The fields of a written SO_Cc_CTL are stored but EN, which stays 0; REFUSE is kept. -/
def State.soStoreCtl (s : State) (c w : Nat) : State :=
  s.setRg .SO_Cc_CTL c 0 (setBits (w &&& 0x000331C0) 31 24 (s.fd F.SO_Cc_CTL_REFUSE c))

/-- SO_Cc_CTL written with EN 1 while it is 0: the checks of R506. -/
def State.soTakeEnable (s : State) (q : Requester) (c w : Nat) : State :=
  match s.soEnableFail c w with
  | some code => s.refuse q .SO_Cc_CTL c 0 code
  | none => (s.setFd F.SO_Cc_CTL_EN c 0 1).setSoCap c { s.soCap c with capnum := 0 }

/-- A write of SO_Cc_CTL (R506, R507). A failed check leaves EN 0 and sets the other fields (R12).
Log 13 (DEDUCED, unsafe). -/
def writeSoCtl (q : Requester) (c : Nat) (v : Word) (s : State) : State :=
  let w := v.toNat
  let on := decide (F.SO_Cc_CTL_EN.of w = 1)
  let was := s.flag F.SO_Cc_CTL_EN c
  let st := s.soState c
  if was && on then s.refuse q .SO_Cc_CTL c 0 0x02
  else if was && (!(decide (st = 0) || decide (st = 4) || decide (st = 6)) || (s.soCap c).ending.isSome) then
    s.refuse q .SO_Cc_CTL c 0 0x01
  else if was then s.setFd F.SO_Cc_CTL_EN c 0 0
  else if on then (s.soStoreCtl c w).soTakeEnable q c w
  else s.soStoreCtl c w

/-- SO_ENABLE: a write of SO_Cc_CTL (R506). -/
def execSoEnable (q : Requester) (c : Nat) (v : Word) (s : State) : Host.Outcome State Fault Refusal :=
  s.write q .SO_Cc_CTL c 0 (writeSoCtl q c v)

/-- SO_DISABLE: a write of SO_Cc_CTL (R507). Log 73 (DEDUCED, unsafe). -/
def execSoDisable (q : Requester) (c : Nat) (v : Word) (s : State) : Host.Outcome State Fault Refusal :=
  s.write q .SO_Cc_CTL c 0 (writeSoCtl q c v)

/-- A write of another SO_Cc register: refused while EN is 1, but for STAT and TOK (R507). -/
def writeSoParam (q : Requester) (r : Reg) (c : Nat) (v : Word) (s : State) : State :=
  if s.flag F.SO_Cc_CTL_EN c ∧ r ≠ .SO_Cc_STAT ∧ r ≠ .SO_Cc_TOK then s.refuse q r c 0 0x02
  else s.plainWrite r c 0 v.toNat

/-- Any capture has EN 1. -/
def State.soAnyOn (s : State) : Bool := (List.range 8).any (fun c => s.flag F.SO_Cc_CTL_EN c)

/-- A write of SO_GLOBAL or SO_UBASE (R508). -/
def writeSoGlobal (q : Requester) (r : Reg) (v : Word) (s : State) : State :=
  if s.soAnyOn then s.refuse q r 0 0 0x02
  else if r = .SO_GLOBAL ∧ F.SO_GLOBAL_EXT_EDGE.of v.toNat = 3 then s.refuse q r 0 0 0x03
  else s.plainWrite r 0 0 v.toNat

/-- A write of SO_CHk: refused when it names an enabled capture, before or after (R507). Log 75 (DEDUCED, unsafe). -/
def writeSoCh (q : Requester) (k : Nat) (v : Word) (s : State) : State :=
  let w := v.toNat
  let names (en c : Nat) : Bool := decide (en = 1) && s.flag F.SO_Cc_CTL_EN c
  if names (s.fd F.SO_CHk_EN k) (s.fd F.SO_CHk_CAPTURE k) || names (F.SO_CHk_EN.of w) (F.SO_CHk_CAPTURE.of w) then
    s.refuse q .SO_CHk k 0 0x02
  else s.plainWrite .SO_CHk k 0 w

/-- A capture is in FILLING, WAITING, POST or REARM (R505). Log 77 (DEDUCED, unsafe). -/
def State.sorusBusy (s : State) : Bool :=
  (List.range 8).any (fun c => let st := s.soState c; decide (st = 1 ∨ st = 2 ∨ st = 3 ∨ st = 5))

end Sys2Proof.Machine
end

