-- ==== Sys2Proof/Machine/Separation.lean ====
section
/-!
DEFINITION. The geometry engine of Thallus (R406, R414 to R422, R425 to R427, R431, R432): coded words, the kinematics of
the safety set, capsules, zones and tool points in the cell frame, sphere gaps, distances and directed speeds. A result is
the word of its class nearest to the exact value, half to even (assumption 68).
-/

namespace Sys2Proof.Machine

/-- A rational rounded half to even. Log 45 (DESIGN CHOICE, unsafe). -/
def roundEven (q : ℚ) : Int :=
  let f := q.floor
  let d := q - f
  if d < 1 / 2 then f else if 1 / 2 < d then f + 1 else if f % 2 = 0 then f else f + 1

/-! ## Coded arithmetic (R417 to R420) -/

/-- The constant A of the arithmetic code (R417). -/
def codeA : Int := 65521

/-- The coded word of a payload with signature `b`, the payload of a word, and the check of a word (R417, R419). -/
def codeWord (b : Nat) (x : Int) : BitVec 48 := BitVec.ofInt 48 (codeA * x + b)
def codeValue (b : Nat) (w : BitVec 48) : Int := (w.toInt - b) / codeA
def codeOk (b : Nat) (w : BitVec 48) : Bool := decide ((w.toInt - b) % codeA = 0)

/-- The signature of input variable `v` in safety cycle `k`: B_v + D_k (R418). -/
def inputSig (k v : Nat) : Nat := Config.thSignature v % 32768 + k % 8 * 4096

/-- The coded constant that a comparison yields: one for pass, one for fail (R420). -/
def verdict (b : Bool) : BitVec 48 := codeWord (Config.thVerdict b % 32768) (b2n b)

/-- What the safety core takes a word for: only the two constants are accepted (R420). -/
def verdictOf (w : BitVec 48) : Option Bool :=
  if w = verdict true then some true else if w = verdict false then some false else none

/-- A comparison that decides a demand, as the safety core takes it; a word it does not accept is no pass (R420).
Log 68 (DEDUCED, unsafe). -/
def passes (b : Bool) : Bool := (verdictOf (verdict b)).getD false

/-- The signature of a result, and the word in which the engine stores one, its payload 32 bits (R417). The coded program
gives the signatures. Log 68 (DEDUCED, unsafe). -/
def resultSig (v : Nat) : Nat := Config.thSignature (4096 + v) % 32768
def resultWord (v : Nat) (x : Int) : BitVec 48 := codeWord (resultSig v) (max (-(2 ^ 31)) (min (2 ^ 31 - 1) x))

/-- A result as it is read back from its word, and the check of the word (R417, R419). -/
def resultValue (v : Nat) (x : Int) : Int := codeValue (resultSig v) (resultWord v x)
def resultHolds (v : Nat) (x : Int) : Bool := codeOk (resultSig v) (resultWord v x)

/-- The two verdicts are words that the safety core accepts (R420). -/
def verdictsHold : Bool := [true, false].all (fun b => (verdictOf (verdict b)).isSome)

/-! ## Input words

Variable 2 e is the joint position of link entry e, 2 e + 1 its speed, 512 + 40 p + i word i of the record of person p. -/

/-- The coded input words of safety cycle `k` for payloads by variable. -/
def codeInputs (k : Nat) (l : List (Nat × Int)) : List (Nat × BitVec 48) :=
  l.map (fun e => (e.1, codeWord (inputSig k e.1) e.2))

/-- The words of a person record. -/
def recordWords (p : Nat) (bs : List Byte) : List (Nat × Int) :=
  (List.range 40).map (fun i => (512 + 40 * p + i, signedAt bs (4 * i) 4))

/-- Every input word carries the code and the signature of its variable and safety cycle (R418, R419). -/
def ThEval.codesHold (x : ThEval) : Bool := x.inputs.all (fun e => codeOk (inputSig x.k e.1) e.2)

/-- The payload of an input word. -/
def ThEval.input (x : ThEval) (v : Nat) : Int :=
  ((x.inputs.find? (fun e => e.1 = v)).map (fun e => codeValue (inputSig x.k v) e.2)).getD 0

/-- The record of person `p`. -/
def ThEval.record (x : ThEval) (p : Nat) : List Byte :=
  (List.range 40).flatMap (fun i => leBytes 4 (ofSigned 32 (x.input (512 + 40 * p + i))))

/-- The tracked persons: sensor entry, age in ns, record. -/
def ThEval.people (x : ThEval) : List (Nat × Nat × List Byte) := x.persons.map (fun p => (p.1, p.2.1, x.record p.2.2))

/-! ## Kinematics (R414, R415) -/

/-- A vector, and a quaternion, in an entry of a section. -/
def setVec (m : SetImg) (id size e b f : Nat) : V3 :=
  ⟨wordVal f (setInt m id size e b 4), wordVal f (setInt m id size e (b + 4) 4), wordVal f (setInt m id size e (b + 8) 4)⟩
def setQuat (m : SetImg) (id size e b : Nat) : Quat :=
  ⟨wordVal 30 (setInt m id size e b 4), setVec m id size e (b + 4) 30⟩

/-- Safety link entry `e` as a link: it has no dynamics (R409). -/
def safeLink (m : SetImg) (e : Nat) : Link :=
  { prismatic := decide (lType m e = 1), parent := lParent m e, offset := setVec m 0x12 64 e 8 16,
    turn := setQuat m 0x12 64 e 20, axis := setVec m 0x12 64 e 36 30, mass := 0, com := V3.zero, diag := V3.zero,
    off := V3.zero, fricV := 0, fricC := 0, arm := 0 }

/-- Arm group `g` as the safety set describes it (R409, R414). -/
def safeArm (m : SetImg) (g : Nat) : Arm :=
  { basePos := setVec m 0x11 64 g 8 16, baseRot := setQuat m 0x11 64 g 20,
    links := (List.range (min 16 (aAxes m g))).map (fun k => safeLink m (16 * g + k)), toolLink := aToolLink m g,
    toolPos := setVec m 0x11 64 g 36 16, toolRot := Quat.one, gravity := V3.zero, payMass := 0, payCom := V3.zero }

/-- Lanes that keep every step exact. -/
def exactLanes : Lanes := { bounds := [], exact := true, plan := [] }

/-- A frame with its motion: the angular velocity in rad/s, and the velocity of its origin in mm/s. -/
structure Body where
  pose : Pose
  w : V3
  v : V3

/-- A frame that rests at the origin of the cell frame. -/
def cellBody : Body := { pose := ⟨V3.zero, Quat.one, ⟨⟨1, 0, 0⟩, ⟨0, 1, 0⟩, ⟨0, 0, 1⟩⟩⟩, w := V3.zero, v := V3.zero }

/-- A point of a body in the cell frame, the same point in its own frame, and its velocity. -/
def Body.place (b : Body) (u : V3) : V3 :=
  b.pose.p.add ((b.pose.m.a.scale u.x).add ((b.pose.m.b.scale u.y).add (b.pose.m.c.scale u.z)))
def Body.within (b : Body) (x : V3) : V3 :=
  let d := x.sub b.pose.p
  ⟨d.dot b.pose.m.a, d.dot b.pose.m.b, d.dot b.pose.m.c⟩
def Body.speedAt (b : Body) (x : V3) : V3 := b.v.add (b.w.cross (x.sub b.pose.p))

/-- The motion of a link's frame, from its parent's body and its joint speed (R415). -/
def linkBody (par : Body) (l : Link) (f : LinkFrame) (qd : ℚ) : Body :=
  let v := par.speedAt f.pose.p
  if l.prismatic then { pose := f.pose, w := par.w, v := v.add (f.axis.scale qd) }
  else { pose := f.pose, w := par.w.add (f.axis.scale qd), v := v }

/-- The bodies of the links, in order, after those already found. -/
def linkBodies (base : Body) : List (Link × LinkFrame) → List ℚ → List Body → List Body
  | [], _, bs => bs
  | (l, f) :: r, qd, bs =>
    let par := if l.parent = 0xFF then base else (bs[l.parent]?).getD base
    linkBodies base r qd.tail (bs ++ [linkBody par l f (qd.headD 0)])

/-- The base and the links of an arm group in motion. -/
structure ArmBodies where
  base : Body
  links : List Body

/-- The bodies of an arm for its joint positions and speeds; none where an orientation has no direction. -/
def armBodies (a : Arm) (q qd : List ℚ) : Option ArmBodies :=
  match exactLanes.frames a q with
  | .error _ => none
  | .ok (b, fs) =>
    let base : Body := { pose := b, w := V3.zero, v := V3.zero }
    some { base := base, links := linkBodies base (a.links.zip fs) qd [] }

/-- The body of link number `k` of a capsule or zone record: 0xFE base, 0xFF cell frame (R19, R20). -/
def ArmBodies.body (x : ArmBodies) (k : Nat) : Body := if k = 0xFF then cellBody else (x.links[k]?).getD x.base

/-- The bodies of arm group `g` in a safety cycle (R414). -/
def ThEval.bodies (x : ThEval) (m : SetImg) (g : Nat) : Option ArmBodies :=
  let a := safeArm m g
  let pos (e : Link × Nat) : Int :=
    toSigned 32 (ofSigned 32 (x.input (2 * (16 * g + e.2)) + lPosOffset m (16 * g + e.2)))
  armBodies a (a.links.zipIdx.map (fun e => wordVal (classFrac (posClass e.1.prismatic)) (pos e)))
    (a.links.zipIdx.map (fun e => wordVal (classFrac (velClass e.1.prismatic)) (x.input (2 * (16 * g + e.2) + 1))))

/-! ## Words of results -/

/-- The word of a length or speed nearest to the root of a square, and its value. Log 68 (DEDUCED, unsafe). -/
def rootLen (sq : ℚ) : Int := rootWord 16 sq
def lenVal (w : Int) : ℚ := wordVal 16 w

/-- The length of a vector as a word. -/
def V3.len (a : V3) : Int := rootLen (a.dot a)

/-- The component of a vector along another one, as a word; 0 along a vector of no length. -/
def V3.alongWord (a d : V3) : Int :=
  let c := a.dot d
  if d.dot d = 0 then 0 else if 0 ≤ c then rootLen (c * c / d.dot d) else -rootLen (c * c / d.dot d)

/-- A vector whose components are words. -/
def V3.words (a : V3) : V3 := ⟨lenVal (valWord 16 a.x), lenVal (valWord 16 a.y), lenVal (valWord 16 a.z)⟩

/-! ## Capsules (R415, R416) -/

/-- A capsule in the cell frame: its ends with their velocities, its radius, and |ω| of its link. -/
structure Placed where
  a : V3
  b : V3
  va : V3
  vb : V3
  r : ℚ
  w : ℚ

/-- A capsule of a body. -/
def Body.capsule (x : Body) (a b : V3) (r : ℚ) : Placed :=
  let p := x.place a
  let q := x.place b
  { a := p.words, b := q.words, va := (x.speedAt p).words, vb := (x.speedAt q).words, r := r, w := lenVal x.w.len }

/-- Robot capsule `c` of arm group `g`. -/
def robotCapsule (m : SetImg) (bs : ArmBodies) (g c : Nat) : Placed :=
  let e := 12 * g + c
  (bs.body (cLink m e)).capsule (setVec m 0x13 32 e 4 16) (setVec m 0x13 32 e 16 16) (lenVal (cRadius m e))

/-- Capsule entry `k` of a person record; every point moves at VEL (R21). -/
def personCapsule (r : List Byte) (k : Nat) : Placed :=
  let o := 32 + 32 * k
  let v := vecAt r 16 16
  { a := vecAt r (o + 4) 16, b := vecAt r (o + 16) 16, va := v, vb := v, r := lenVal (fieldAt r (o + 28) 4), w := 0 }

/-- The speed bound of a capsule, as a word (R415). -/
def Placed.bound (x : Placed) : Int := valWord 16 (max (lenVal x.va.len) (lenVal x.vb.len) + x.r * x.w)

/-- v_mon and v_tcp of an arm group, LVEL (R415). -/
structure GeoGroup where
  group : Nat
  vmon : Nat
  vtcp : Nat
  deriving DecidableEq, Repr

/-- The two speeds are results 0 and 1 (R417, R419). -/
def GeoGroup.held (x : GeoGroup) : GeoGroup :=
  { x with vmon := (resultValue 0 x.vmon).toNat, vtcp := (resultValue 1 x.vtcp).toNat }
def GeoGroup.codesHold (x : GeoGroup) : Bool := resultHolds 0 x.vmon && resultHolds 1 x.vtcp

/-- The speeds of arm group `g`. -/
def groupSpeeds (m : SetImg) (bs : ArmBodies) (g : Nat) : GeoGroup :=
  let tool := bs.body (aToolLink m g)
  { group := g, vmon := ((capsulesOn m g).map (fun c => (robotCapsule m bs g c).bound.toNat)).foldl max 0,
    vtcp := (tool.speedAt (tool.place (setVec m 0x11 64 g 36 16))).len.toNat }

/-- The tool point of arm group `g` in the cell frame. -/
def toolPoint (m : SetImg) (bs : ArmBodies) (g : Nat) : V3 :=
  ((bs.body (aToolLink m g)).place (setVec m 0x11 64 g 36 16)).words

/-! ## Zones (R20, R416, R431, R432) -/

/-- A half-space n · x ≤ c. -/
structure Half where
  n : V3
  c : ℚ

def Half.over (h : Half) (x : V3) : ℚ := h.n.dot x - h.c

/-- A solid: a capsule, or a convex body by its half-spaces, edges and vertices. -/
inductive Solid where
  | capsule (a b : V3) (r : ℚ)
  | convex (sides : List Half) (edges : List (V3 × V3)) (verts : List V3)

/-- A vertical prism over vertices in counter-clockwise order. -/
def prismOf (l : List (ℚ × ℚ)) (z0 z1 : ℚ) : Solid :=
  let ring := l.zip (l.tail ++ l.take 1)
  let up (p : ℚ × ℚ) (z : ℚ) : V3 := ⟨p.1, p.2, z⟩
  .convex
    (⟨⟨0, 0, 1⟩, z1⟩ :: ⟨⟨0, 0, -1⟩, -z0⟩ :: ring.map (fun e =>
      let n : V3 := ⟨e.2.2 - e.1.2, e.1.1 - e.2.1, 0⟩
      ⟨n, n.dot (up e.1 0)⟩))
    (ring.flatMap (fun e => [(up e.1 z0, up e.2 z0), (up e.1 z1, up e.2 z1), (up e.1 z0, up e.1 z1)]))
    (l.flatMap (fun p => [up p z0, up p z1]))

/-- The volume of zone `z` in the frame that carries it. -/
def zoneSolid (m : SetImg) (z : Nat) : Solid :=
  let v (k : Nat) : ℚ := lenVal (zGeom m z k)
  match zShape m z with
  | 0 => prismOf [(v 0, v 1), (v 3, v 1), (v 3, v 4), (v 0, v 4)] (v 2) (v 5)
  | 1 => .capsule ⟨v 0, v 1, v 2⟩ ⟨v 3, v 4, v 5⟩ (lenVal (zRadius m z))
  | _ => prismOf [(v 0, v 1), (v 2, v 3), (v 4, v 5), (v 6, v 7)] (v 8) (v 9)

/-- The squared distance of two segments. -/
def segSq (a b c d : V3) : ℚ := let e := closest a b c d; (e.2.sub e.1).dot (e.2.sub e.1)

/-- The least of a list, none of an empty one. -/
def leastOf : List ℚ → Option ℚ
  | [] => none
  | a :: l => some (l.foldl min a)

/-- A segment meets a convex body: the half-spaces leave some of it. -/
def meets (sides : List Half) (a b : V3) : Bool :=
  let cut (e : ℚ × ℚ) (h : Half) : ℚ × ℚ :=
    let u := h.over a
    let d := h.over b - u
    if d = 0 then (if u ≤ 0 then e else (1, 0)) else if 0 < d then (e.1, min e.2 (-u / d)) else (max e.1 (-u / d), e.2)
  let e := sides.foldl cut (0, 1)
  decide (e.1 ≤ e.2)

/-- The squared distance of a segment from the axis of a capsule, or from a convex body. -/
def Solid.distSq (x : Solid) (a b : V3) : ℚ :=
  match x with
  | .capsule c d _ => segSq a b c d
  | .convex sides edges _ =>
    if meets sides a b then 0
    else
      let face (p : V3) (h : Half) : Option ℚ :=
        let o := h.over p
        let n2 := h.n.dot h.n
        let q := p.sub (h.n.scale (o / n2))
        if 0 < o ∧ 0 < n2 ∧ sides.all (fun k => decide (k.over q ≤ 0)) then some (o * o / n2) else none
      (leastOf (edges.map (fun e => segSq a b e.1 e.2) ++ [a, b].flatMap (fun p => sides.filterMap (face p)))).getD 0

/-- The radius of a capsule; 0 of a convex body. -/
def Solid.rad : Solid → ℚ
  | .capsule _ _ r => r
  | .convex .. => 0

/-- The surface distance of a capsule from a solid, as a word. -/
def Solid.distance (x : Solid) (a b : V3) (r : ℚ) : Int := rootLen (x.distSq a b) - valWord 16 (r + x.rad)

/-- A capsule reaches into a solid (R432). -/
def Solid.reached (x : Solid) (a b : V3) (r : ℚ) : Bool :=
  let d := x.distSq a b
  decide (d = 0) || decide (d < (r + x.rad) * (r + x.rad))

/-- The depth of a point inside a solid, as a word; negative outside. -/
def Solid.depth (x : Solid) (p : V3) : Int :=
  match x with
  | .capsule a b r => valWord 16 r - rootLen (segSq p p a b)
  | .convex sides _ _ =>
    (sides.map (fun h =>
      let o := h.over p
      let d := rootLen (o * o / h.n.dot h.n)
      if o ≤ 0 then d else -d)).foldl min (2 ^ 40)

/-- The least depth of a capsule's points: the depth is least at an end of its segment (R431). -/
def Solid.inside (x : Solid) (a b : V3) (r : ℚ) : Int := min (x.depth a) (x.depth b) - valWord 16 r

/-- The sphere around a segment with a radius: centre and radius (R422). -/
def segSphere (a b : V3) (r : ℚ) : V3 × ℚ := ((a.add b).scale (1 / 2), lenVal (b.sub a).len / 2 + r)

/-- The centres to try for the smallest circle around points: middles of two, circumcentres of three. -/
def circleCentres (l : List (ℚ × ℚ)) : List (ℚ × ℚ) :=
  let pairs := l.flatMap (fun p => l.map (fun q => ((p.1 + q.1) / 2, (p.2 + q.2) / 2)))
  let tri (p q s : ℚ × ℚ) : Option (ℚ × ℚ) :=
    let bx := q.1 - p.1
    let by_ := q.2 - p.2
    let cx := s.1 - p.1
    let cy := s.2 - p.2
    let d := 2 * (bx * cy - by_ * cx)
    if d = 0 then none
    else
      let b2 := bx * bx + by_ * by_
      let c2 := cx * cx + cy * cy
      some (p.1 + (cy * b2 - by_ * c2) / d, p.2 + (bx * c2 - cx * b2) / d)
  pairs ++ l.flatMap (fun p => l.flatMap (fun q => l.filterMap (tri p q)))

/-- The smallest sphere around the vertices of a prism, or around a capsule (R422). -/
def Solid.sphere (x : Solid) : V3 × ℚ :=
  match x with
  | .capsule a b r => segSphere a b r
  | .convex _ _ verts =>
    let z0 := (leastOf (verts.map (·.z))).getD 0
    let z1 := -((leastOf (verts.map (fun v => -v.z))).getD 0)
    let flat := (verts.map (fun v => (v.x, v.y))).dedup
    let far (c : ℚ × ℚ) : ℚ := (flat.map (fun p => (p.1 - c.1) * (p.1 - c.1) + (p.2 - c.2) * (p.2 - c.2))).foldl max 0
    let cs := circleCentres flat
    let least := (leastOf (cs.map far)).getD 0
    let c := (cs.find? (fun c => decide (far c = least))).getD (0, 0)
    (⟨c.1, c.2, (z0 + z1) / 2⟩, lenVal (rootLen (least + (z1 - z0) * (z1 - z0) / 4)))

/-- The gap of two spheres, as a word (R422). -/
def sphereGap (p q : V3 × ℚ) : Int := valWord 16 (lenVal (q.1.sub p.1).len - p.2 - q.2)

/-! ## Pairs (R421, R422, R425 to R427) -/

/-- What the engine finds for a pair of R421: the sphere gap (R422), the distance, and the directed speeds (R426, R427),
LEN and LVEL; `touch` when the segments touch. -/
inductive GeoPair where
  /-- Robot capsule `c` of arm group `g` and capsule entry `e` of person `p`; `vr` and `vp` are the projections of
  the robot's and of the person's velocity, `vabs` is |VEL|. -/
  | person (g c p e : Nat) (gap dist vr vp : Int) (vabs : Nat) (touch : Bool)
  /-- Capsule `c` of arm group `a` and capsule `d` of arm group `b`, with their directed speeds. -/
  | robot (a c b d : Nat) (gap dist va vb : Int) (touch : Bool)
  /-- A robot capsule and a zone of KIND 0 (distance from its volume) or KIND 1 (depth inside its boundary). -/
  | zone (g c z : Nat) (gap dist : Int)
  /-- The tool point of an arm group and a zone of KIND 2. -/
  | tool (g z : Nat) (inside : Bool)
  /-- Capsule entry `e` of person `p` and a zone of KIND 3. -/
  | reach (p e z : Nat) (inside : Bool)
  deriving DecidableEq, Repr

/-- The gap, the distance and the speeds of a pair are results 2 to 6 (R417, R419). -/
def GeoPair.held : GeoPair → GeoPair
  | .person g c p e gap dist vr vp vabs touch =>
    .person g c p e (resultValue 2 gap) (resultValue 3 dist) (resultValue 4 vr) (resultValue 5 vp)
      (resultValue 6 vabs).toNat touch
  | .robot a c b d gap dist va vb touch =>
    .robot a c b d (resultValue 2 gap) (resultValue 3 dist) (resultValue 4 va) (resultValue 5 vb) touch
  | .zone g c z gap dist => .zone g c z (resultValue 2 gap) (resultValue 3 dist)
  | .tool g z inside => .tool g z inside
  | .reach p e z inside => .reach p e z inside
def GeoPair.codesHold : GeoPair → Bool
  | .person _ _ _ _ gap dist vr vp vabs _ =>
    resultHolds 2 gap && resultHolds 3 dist && resultHolds 4 vr && resultHolds 5 vp && resultHolds 6 vabs
  | .robot _ _ _ _ gap dist va vb _ => resultHolds 2 gap && resultHolds 3 dist && resultHolds 4 va && resultHolds 5 vb
  | .zone _ _ _ gap dist => resultHolds 2 gap && resultHolds 3 dist
  | .tool .. => true
  | .reach .. => true

/-- The velocity of the point `t` of a capsule's segment, where `p` is that point. -/
def Placed.speedAt (x : Placed) (p : V3) : V3 :=
  let d := x.b.sub x.a
  let t : ℚ := if d.dot d = 0 then 0 else (p.sub x.a).dot d / d.dot d
  along x.va x.vb t

/-- Two capsules: the sphere gap, the surface distance, their directed speeds towards one another, and whether their
segments touch. -/
def Placed.against (x y : Placed) : Int × Int × Int × Int × Bool :=
  let (p, q) := closest x.a x.b y.a y.b
  let d := q.sub p
  (sphereGap (segSphere x.a x.b x.r) (segSphere y.a y.b y.r), d.len - valWord 16 (x.r + y.r),
    (x.speedAt p).alongWord d, (y.speedAt q).alongWord (d.scale (-1)), decide (d.dot d = 0))

/-- The capsule seen from a body's frame. -/
def Placed.seenFrom (x : Placed) (b : Body) : V3 × V3 := (b.within x.a, b.within x.b)

/-- The geometry of a safety cycle: the bodies of the arm groups that have safe positions, and the persons' records. -/
structure Scene where
  arms : List (Nat × ArmBodies)
  people : List (Nat × Nat × List Byte)

def Scene.arm (x : Scene) (g : Nat) : Option ArmBodies := (x.arms.find? (fun e => e.1 = g)).map (·.2)
def Scene.person (x : Scene) (p : Nat) : Option (List Byte) :=
  (x.people.find? (fun e => fieldAt e.2.2 0 1 = p)).map (·.2.2)

/-- The frame that carries zone `z` (R416). -/
def Scene.carrier (x : Scene) (m : SetImg) (z : Nat) : Option Body :=
  match zCarriedBy m z with
  | none => some cellBody
  | some g => (x.arm g).map (fun b => b.body (zCarrierLink m z))

/-- What the engine finds for the pair of a key: kind, and the four numbers that name it. Log 68 (DEDUCED, unsafe). -/
def Scene.pair (x : Scene) (m : SetImg) (k : Nat × Nat × Nat × Nat × Nat) : Option GeoPair :=
  match k with
  | (0, g, c, p, e) => do
    let bs ← x.arm g
    let r ← x.person p
    let y := personCapsule r e
    let (gap, dist, vr, vp, touch) := (robotCapsule m bs g c).against y
    some (.person g c p e gap dist vr vp y.va.len.toNat touch)
  | (1, a, c, b, d) => do
    let ba ← x.arm a
    let bb ← x.arm b
    let (gap, dist, va, vb, touch) := (robotCapsule m ba a c).against (robotCapsule m bb b d)
    some (.robot a c b d gap dist va vb touch)
  | (2, g, c, z, _) => do
    let bs ← x.arm g
    let f ← x.carrier m z
    let s := zoneSolid m z
    let y := robotCapsule m bs g c
    let (a, b) := y.seenFrom f
    some (.zone g c z (sphereGap (segSphere a b y.r) s.sphere)
      (if zKind m z = 0 then s.distance a b y.r else s.inside a b y.r))
  | (3, g, z, _, _) => do
    let bs ← x.arm g
    let f ← x.carrier m z
    let p := f.within (toolPoint m bs g)
    some (.tool g z (!passes (decide ((zoneSolid m z).depth p < 0))))
  | (_, p, e, z, _) => do
    let r ← x.person p
    let f ← x.carrier m z
    let y := personCapsule r e
    let (a, b) := y.seenFrom f
    some (.reach p e z (!passes (!(zoneSolid m z).reached a b y.r)))

end Sys2Proof.Machine
end

