-- ==== Sys2Proof/Machine/Thallus.lean ====
section
/-!
DEFINITION. Thallus: the evaluation of a safety cycle (R401 to R439), safe inputs, output pairs, safe frames,
diagnostics and degraded run (R441 to R471), and the commissioning mailbox (R476 to R478).
-/

namespace Sys2Proof.Machine

/-! ## Reading its state -/

def State.thGroup (s : State) (g : Nat) : ThGroup := Tab.get (fun _ => thGroupReset) s.th.groups g
def State.setThGroup (s : State) (g : Nat) (x : ThGroup) : State :=
  { s with th := { s.th with groups := Tab.set (fun _ => thGroupReset) s.th.groups g x } }

/-- Bit `i` of TH_STAT.STATE: 0 START, 1 RUN, 2 DEGRADED, 3 SAFE_STATE. -/
def State.thMode (s : State) : Nat := s.fd F.TH_STAT_STATE

/-- The state of input `i` as Thallus reads it: inactive while VSIO is low (R631) or its source stays low (R448). -/
def State.inputOn (s : State) (m : SetImg) (i : Nat) : Bool :=
  !s.th.vsioLow && bit (s.rg .TH_SI) i && !(iUsed m i && s.th.tpLow.contains (iTp m i))

/-- The state of input or pair `i` (R447): an antivalent pair is active with its first input active and its second
inactive (assumption 43). Log 43 (DEDUCED, unsafe). -/
def State.pairOn (s : State) (m : SetImg) (i : Nat) : Bool :=
  if iHeads m i then
    s.inputOn m i && (if iPair m i = 1 then s.inputOn m (i + 1) else !s.inputOn m (i + 1))
  else s.inputOn m i

/-- The inputs of the pair headed by `i` agree (R447). Log 43 (DEDUCED, unsafe). -/
def State.pairAgrees (s : State) (m : SetImg) (i : Nat) : Bool :=
  if iHeads m i then (s.inputOn m i == s.inputOn m (i + 1)) == decide (iPair m i = 1) else true

/-- The demand of stop category `c` (R433). -/
def catDemand (c : Nat) : Nat := 4 - min c 2

/-- The more severe of an arm group's STOP_CAT and category 1 (R434). -/
def atLeastStop1 (m : SetImg) (g : Nat) : Nat := max (catDemand (aStopCat m g)) 3

/-- The monitored arm groups of a GROUPS mask. -/
def groupsIn (m : SetImg) (mask : Nat) : List Nat := (groupsOn m).filter (fun g => bit mask g)

/-- TH_FAULT records a fault (R443, R444). -/
def State.thFault (s : State) (cause cls item unit : Nat) : State :=
  s.setRg .TH_FAULT 0 0 (cause * 2 ^ 24 + cls * 2 ^ 22 + item * 2 ^ 8 + unit % 256)

/-- TH_DEG shows the faults present and the staling time left, in whole minutes (R469). -/
def State.thDeg (s : State) : State :=
  let left := if s.thMode = 2 then (s.th.staleEnd - s.time.ticks) / secTicks 60 else 0
  s.setRg .TH_DEG 0 0 (min 255 s.th.faults.length * 2 ^ 24 + left % 2 ^ 13)

/-- The record of degraded run goes to MRAM (R471). -/
def State.thRecord (s : State) : State :=
  let r := if s.thMode = 2 then some (s.th.staleEnd - s.time.ticks, s.th.faults.map (fun f => (f.item, f.unit)))
    else none
  { s with th := { s.th with record := r, recAt := s.time.ticks } }

/-- A B-degradable fault is present: its diagnostic must pass `need` times to clear it, or as often as it must already. -/
def State.addFault (s : State) (item unit need : Nat) : State :=
  let (same, rest) := s.th.faults.partition (fun f => f.item = item && f.unit = unit)
  let need := (same.map (·.need)).foldl max need
  let s : State := { s with th := { s.th with faults := rest ++ [{ item := item, unit := unit, need := need }] } }
  s.thDeg.thRecord

/-- A diagnostic passed: its fault, if present, needs one pass less, and clears at none (R464, R471). -/
def State.passFault (s : State) (item unit : Nat) : State :=
  let hit (f : ThFault) : Bool := f.item = item && f.unit = unit
  if s.th.faults.any hit then
    let l := (s.th.faults.map (fun f => if hit f then { f with need := f.need - 1 } else f)).filter (fun f => 0 < f.need)
    let s : State := { s with th := { s.th with faults := l } }
    s.thDeg.thRecord
  else s

/-! ## The mailbox (R478) -/

/-- The mailbox state: 0 IDLE, 1 OPEN, 2 CHECKING, 3 READY, 4 COMMITTING. -/
def State.mbState (s : State) : Nat := s.fd F.TH_MB_STAT_STATE

/-- The staging bank. -/
def State.staging (s : State) : Nat := 1 - s.th.active

/-- The input KEY_SI names, SI0 with NO_SET (R477), reads active. -/
def State.keyOn (s : State) : Bool :=
  match s.workImg with
  | none => !s.th.vsioLow && bit (s.rg .TH_SI) 0
  | some m => s.inputOn m (gKeySi m)

/-- The staging bank is emptied. -/
def State.emptyStaging (s : State) : State :=
  let b := s.staging
  { s with mem := { s.mem with safety := Mem.clear s.mem.safety (b * 0x100000) ((b + 1) * 0x100000) } }

/-- The lock closes and the staging bank is emptied. -/
def State.mbClose (s : State) : State := s.emptyStaging.setFd F.TH_MB_STAT_STATE 0 0 0

/-- In OPEN or READY, an inactive KEY_SI closes the lock. -/
def State.keyCheck (s : State) : State :=
  if (s.mbState = 1 ∨ s.mbState = 3) ∧ ¬ s.keyOn then s.mbClose else s

/-- A mailbox write restarts the 30 minutes. -/
def State.mbTouch (s : State) : State := { s with th := { s.th with mbAt := s.time.ticks } }

/-- A command in a state that does not list it (R13, R478). Log 72 (DEDUCED, unsafe). -/
def State.mbWrong (s : State) (q : Requester) : State := s.refuse q .TH_MB_CMD 0 0 0x02

/-- A write of TH_MB_CMD (R478). -/
def writeMbCmd (q : Requester) (v : Word) (s : State) : State :=
  let s := s.mbTouch
  let st := s.mbState
  match F.TH_MB_CMD_OP.of v.toNat with
  | 1 =>
    if st ≠ 0 then s.mbWrong q
    else if s.keyOn then s.emptyStaging.setFd F.TH_MB_STAT_STATE 0 0 1
    else s.refuse q .TH_MB_CMD 0 0 0x06
  | 2 => if st = 1 then s.setFd F.TH_MB_STAT_STATE 0 0 2 else s.mbWrong q
  | 3 =>
    if st ≠ 3 then s.mbWrong q
    else if s.rg .TH_MB_CONFIRM = s.rg .TH_MB_CRC then s.setFd F.TH_MB_STAT_STATE 0 0 4
    else (s.incFd F.TH_MB_STAT_SIG_CNT 0 0).refuse q .TH_MB_CMD 0 0 0x08
  | 4 => if st = 1 ∨ st = 3 then s.mbClose else s.mbWrong q
  | _ => s.refuse q .TH_MB_CMD 0 0 0x03

/-- A write of TH_MB_DATA (R478). Log 72 (DEDUCED, unsafe). -/
def writeMbData (q : Requester) (v : Word) (s : State) : State :=
  let s := s.mbTouch
  let st := s.mbState
  if st = 0 then s.refuse q .TH_MB_DATA 0 0 0x06
  else if st = 2 ∨ st = 4 then s.refuse q .TH_MB_DATA 0 0 0x01
  else
    let a := s.fd F.TH_MB_ADDR_ADDR
    let s : State := { s with mem := { s.mem with
      safety := Mem.setNum s.mem.safety (s.staging * 0x100000 + a) 4 v.toNat } }
    let s := (s.setFd F.TH_MB_ADDR_ADDR 0 0 (a + 4)).setFd F.TH_MB_STAT_STATE 0 0 1
    if st = 3 then s.setRg .TH_MB_CRC 0 0 0 else s

/-- A write of TH_MB_ADDR: a multiple of 4. Log 72 (DEDUCED, unsafe). -/
def writeMbAddr (q : Requester) (v : Word) (s : State) : State :=
  let s := s.mbTouch
  if F.TH_MB_ADDR_ADDR.of v.toNat % 4 = 0 then s.setFd F.TH_MB_ADDR_ADDR 0 0 v.toNat
  else s.refuse q .TH_MB_ADDR 0 0 0x03

/-- A write of TH_MB_CONFIRM. -/
def writeMbConfirm (v : Word) (s : State) : State := (s.mbTouch).setRg .TH_MB_CONFIRM 0 0 v.toNat

/-- MB_OPEN (R478). -/
def execMbOpen (q : Requester) (s : State) : Host.Outcome State Fault Refusal :=
  s.write q .TH_MB_CMD 0 0 (writeMbCmd q 1)

/-- MB_DATA (R478). -/
def execMbData (q : Requester) (v : Word) (s : State) : Host.Outcome State Fault Refusal :=
  s.write q .TH_MB_DATA 0 0 (writeMbData q v)

/-- MB_CHECK (R478). -/
def execMbCheck (q : Requester) (s : State) : Host.Outcome State Fault Refusal :=
  s.write q .TH_MB_CMD 0 0 (writeMbCmd q 2)

/-- TH_MB_ERR records a failed check. -/
def State.mbError (s : State) (f : SetFail) : State :=
  s.setRg .TH_MB_ERR 0 0 (f.1 % 256 * 2 ^ 24 + f.2.1 % 256 * 2 ^ 16 + f.2.2 % 65536)

/-- MB_CHECK_COMPLETE: READY with the check value, or OPEN with TH_MB_ERR; an inactive KEY_SI then takes effect. -/
def execMbCheckComplete (s : State) : Host.Outcome State Fault Refusal :=
  if s.mbState ≠ 2 then .next s
  else
    let m := s.bankImg s.staging
    match checkHeader m with
    | none => .next ((s.setRg .TH_MB_CRC 0 0 (setCheck m)).setFd F.TH_MB_STAT_STATE 0 0 3).keyCheck
    | some f => .next ((s.mbError f).setFd F.TH_MB_STAT_STATE 0 0 1).keyCheck

/-- MB_COMMIT (R478). -/
def execMbCommit (q : Requester) (s : State) : Host.Outcome State Fault Refusal :=
  s.write q .TH_MB_CMD 0 0 (writeMbCmd q 3)

/-- FB_CFGn.THAL is set for the channels of section 0x06 and cleared for the others; THR is held (R395, R396). -/
def State.thalChannels (s : State) (m : SetImg) : State :=
  s.forEach (List.range 32) (fun n s =>
    match (xUsed m).find? (fun e => xCh m e = n) with
    | some e => ((s.setFd F.FB_CFGn_THAL n 0 1).setFd F.FB_THRn_ADAPT n 0 0).setFd F.FB_THRn_THR n 0 (xThr m e)
    | none => s.setFd F.FB_CFGn_THAL n 0 0)

/-! ## What Thallus decodes itself (R397, R462 to R464) -/

def State.thDec (s : State) (ch : Nat) : ThDec := Tab.get (fun _ => thDecReset) s.th.decs ch
def State.setThDec (s : State) (ch : Nat) (d : ThDec) : State :=
  { s with th := { s.th with decs := Tab.set (fun _ => thDecReset) s.th.decs ch d } }

/-- The decoders of a set that begins to be decoded: the receiver outputs as they are. -/
def State.thDecStart (s : State) (m : SetImg) : State :=
  let s : State := { s with th := { s.th with decs := [], sync := [] } }
  s.forEach (xUsed m) (fun e s =>
    let raw := (s.fbChan (xCh m e)).lines.raw
    s.setThDec (xCh m e) { thDecReset with lines := { raw := raw, filt := raw, wait := [] }, mark := s.time.bcn })

/-- A decode fault of the channel of entry `e` (R464). Log 70 (DEDUCED, unsafe). -/
def State.decodeFault (s : State) (m : SetImg) (e : Nat) : State :=
  let ch := xCh m e
  let s : State := { s with th := { s.th with
    dirty := s.th.dirty.filter (· ≠ ch) ++ [ch], sync := s.th.sync.filter (fun x => x.1 ≠ e) } }
  if xRole m e = 1 then (s.addFault 0x13 ch 16).thFault 0x64 2 0x13 ch else s.thFault 0x64 3 0x13 ch

/-- The filtered levels take the changes due at PERI cycle `at_`; an illegal transition is a fault (R370, R462, R464). -/
def ThDec.take (d : ThDec) (minEdge at_ : Nat) (inv : Bool) : ThDec × Bool :=
  let y := d.lines.take minEdge at_
  match quadStep (d.lines.filt / 2) (y.filt / 2) with
  | some k => ({ d with lines := y, count := d.count + (if inv then -k else k) }, false)
  | none => ({ d with lines := y }, true)

/-- At most `k` changes that fall due by PERI cycle `stop`, each in its cycle. -/
def ThDec.upTo (minEdge stop : Nat) (inv : Bool) : Nat → ThDec → ThDec × Bool
  | 0, d => (d, false)
  | k + 1, d =>
    match d.lines.nextDue minEdge with
    | none => (d, false)
    | some t =>
      if stop < t then (d, false)
      else
        let x := d.take minEdge t inv
        let y := ThDec.upTo minEdge stop inv k x.1
        (y.1, x.2 || y.2)

/-- The quadrature count at the start of base cycle `bcn`, PERI cycle `start`, and now. Log 70 (DEDUCED, unsafe). -/
def ThDec.settle (d : ThDec) (minEdge bcn start now : Nat) (inv : Bool) : ThDec × Bool :=
  let x := if d.mark = bcn then (d, false) else d.upTo minEdge start inv 3
  let d := if d.mark = bcn then d else { x.1 with start := x.1.count, mark := bcn }
  let y := d.upTo minEdge now inv 3
  (y.1, x.2 || y.2)

/-- The decoder of entry `e` at this instant: its quadrature count, and the disagreements of its wires that have lasted for
10 µs (R462, R464). -/
def State.thSettle (s : State) (m : SetImg) (e : Nat) : State :=
  let ch := xCh m e
  let d := s.thDec ch
  let back := if s.time.noBase then 0 else (s.ctNs - s.time.bcStart) / 4
  let (d, bad) := if xMode m e = 0 then d.settle (xMinEdge m e) s.time.bcn (s.peri - back) s.peri (xDirInv m e) else (d, false)
  let late (w : Nat × Nat × Bool) : Bool := decide (w.2.1 + 5000 ≤ s.time.ticks)
  let broke := d.wires.any (fun w => late w && !w.2.2)
  let s := s.setThDec ch { d with wires := d.wires.map (fun w => (w.1, w.2.1, w.2.2 || late w)) }
  if bad || broke then s.decodeFault m e else s

/-- The decoders of the committed set that tap channel `n`. -/
def State.tapped (s : State) (n : Nat) (f : SetImg → Nat → State → State) : State :=
  match s.setImg with
  | none => s
  | some m => match xOf m n with
    | none => s
    | some e => f m e s

/-- The receiver outputs of channel `n` become `raw` now (R369, R397). -/
def State.thTap (s : State) (n raw : Nat) : State :=
  s.tapped n (fun m e s =>
    let s := s.thSettle m e
    let d := s.thDec n
    s.setThDec n { d with lines := (d.lines.put raw s.peri).1 })

/-- Channel `n` is looked at after an event on it. -/
def State.thLook (s : State) (n : Nat) : State := s.tapped n (fun m e s => s.thSettle m e)

/-- Line `l` of channel `n` begins to disagree, or agrees again; Z is not decoded, nor B in SSI mode (R464). -/
def State.thWire (s : State) (n l : Nat) (disagree : Bool) : State :=
  s.tapped n (fun m e s =>
    let s := s.thSettle m e
    let d := s.thDec n
    let had := d.wires.any (fun w => w.1 = l)
    if l = 2 ∨ (l = 1 ∧ xMode m e = 1) then s
    else if ¬ disagree then s.setThDec n { d with wires := d.wires.filter (fun w => w.1 ≠ l) }
    else if had then s
    else s.setThDec n { d with wires := d.wires ++ [(l, s.time.ticks, false)] })

/-- The position field of a frame by the set's BITS and GRAY, and its count (R364, R378, R462). -/
def ThFrame.field (x : ThFrame) (m : SetImg) (e : Nat) : Nat :=
  let v := x.bits / 2 ^ (x.len - xBits m e) % 2 ^ xBits m e
  if xGray m e = 1 then fromGray (xBits m e) v else v
def ThFrame.count (x : ThFrame) (m : SetImg) (e : Nat) : Int :=
  let c := toSigned 32 (x.field m e % 2 ^ 32)
  if xDirInv m e then -c else c

/-- A frame is not in order: the line low before the first clock edge, an error bit, or the trailing bit 1; the set names no
polarity of the error bits (R377, R464). Log 70 (DEDUCED, unsafe). -/
def ThFrame.bad (x : ThFrame) (m : SetImg) (e : Nat) : Bool :=
  let k := xErrBits m e
  let rest := x.len - xBits m e - k - 1
  x.low || decide (x.len < xBits m e + k + 1) || bit x.bits rest ||
    (List.range k).any (fun i => bit x.bits (rest + 1 + i) == Config.thErrPol)

/-- A read of channel `n` ends: a position source takes the frame latched at the base-cycle start (R462, R464).
Log 70 (DEDUCED, unsafe). -/
def State.thRead (s : State) (n : Nat) (x : ThFrame) : State :=
  s.tapped n (fun m e s =>
    let d := s.thDec n
    if xMode m e ≠ 1 ∨ (xRole m e = 0 ∧ x.latch ≠ s.time.bcStart) then s
    else if x.bad m e then s.decodeFault m e
    else s.setThDec n { d with frames := x :: d.frames.take 1 })

/-- The speed word of a count change over a time in ns, in the manner of R365. -/
def countSpeed (m : SetImg) (e : Nat) (change : Int) (ns : Nat) : Int :=
  let d : ℚ := if lType m (16 * xGroup m e + xLink m e) = 1 then 65536 else 16777216
  let w := roundEven ((change * (xScale m e : Int) : ℚ) / d / ((ns : ℚ) / 1000000000))
  max (-(2 ^ 31)) (min (2 ^ 31 - 1) w)

/-- The count of an entry at the base-cycle start, and the speed that comes with it (R379, R402, R463).
Log 70 (DEDUCED, unsafe). -/
def ThDec.found (d : ThDec) (m : SetImg) (e : Nat) : Int × Int :=
  if xMode m e = 0 then (d.start, 0)
  else
    match d.frames with
    | [] => (0, 0)
    | [x] => (x.count m e, 0)
    | x :: y :: _ =>
      let k := toSigned (xBits m e) (ofSigned (xBits m e) ((x.field m e : Int) - y.field m e))
      (x.count m e, if x.latch ≤ y.latch then 0 else countSpeed m e (if xDirInv m e then -k else k) (x.latch - y.latch))

/-! ## The commit -/

/-- The steps of an accepted commit (R476). -/
def State.commitSet (s : State) (m : SetImg) : State :=
  let old := s.rg .TH_SET_CRC
  let new := setCheck m
  let s : State := { s with th := { s.th with
    active := s.staging, stored := some new, noSet := false, fresh := true } }
  let s := (((s.setRg .TH_SET_CRC 0 0 new).setFd F.TH_STAT_NO_SET 0 0 0).thalChannels m).thDecStart m
  let s := (s.setFd F.TH_MB_STAT_STATE 0 0 0).incFd F.TH_MB_STAT_COMMIT_CNT 0 0
  s.thBound.journal 0x0F 0x09 0x00 3 (dBytes 4 old ++ dBytes 4 new)

/-- MB_COMMIT_COMPLETE: the staged set becomes active, or the commit is refused with the code of the first failed
check, which TH_MB_ERR and, for the separation sections, TH_SSM_CHK record (R413, R475, R476, R478). -/
def execMbCommitComplete (s : State) : Host.Outcome State Fault Refusal :=
  if s.mbState ≠ 4 then .next s
  else
    let m := s.bankImg s.staging
    match s.setFail m with
    | none => .next (s.commitSet m)
    | some f =>
      let s := (s.mbError f).setFd F.TH_MB_STAT_STATE 0 0 3
      let s := if f.1 = 0x60 then
          s.setRg .TH_SSM_CHK 0 0 (0x60 * 2 ^ 24 + f.2.1 % 256 * 2 ^ 16 + f.2.2 % 65536)
        else s
      .next (s.refuseSelf F.TH_MB_CMD_REFUSE 0 f.1).keyCheck

/-- MB_CLOSE (R478). -/
def execMbClose (q : Requester) (s : State) : Host.Outcome State Fault Refusal :=
  s.write q .TH_MB_CMD 0 0 (writeMbCmd q 4)

/-- MB_TIMEOUT: 30 min without a mailbox write close the lock in OPEN or READY (R478). -/
def execMbTimeout (s : State) : Host.Outcome State Fault Refusal :=
  if s.mbState = 1 ∨ s.mbState = 3 then .next (s.advanceToTick (s.th.mbAt + secTicks 1800)).mbClose else .next s

/-! ## Safe inputs (R446 to R450) -/

/-- A pair that begins or ceases to disagree is noted (R447). -/
def State.noteDisc (s : State) (i : Nat) : State :=
  match s.workImg with
  | none => s
  | some m =>
    let h := iOwner m i
    if s.pairAgrees m h || s.th.vsioLow then { s with th := { s.th with disc := s.th.disc.filter (fun e => e.1 ≠ h) } }
    else if s.th.disc.any (fun e => e.1 = h) then s
    else { s with th := { s.th with disc := s.th.disc ++ [(h, s.time.ticks)] } }

/-- Every pair is looked at: a set begins to apply, or VSIO returns (R447). -/
def State.notePairs (s : State) : State :=
  s.forEach ((List.range 16).map (2 * ·)) (fun i s => s.noteDisc i)

/-- An input fault (R446, R447). -/
def State.inputFault (s : State) (i : Nat) : State :=
  let s := s.setRg .TH_SIFLT 0 0 (s.rg .TH_SIFLT ||| 2 ^ i)
  ({ s with th := { s.th with passes := s.th.passes.filter (fun e => e.1 ≠ i) } }).thFault 0x63 3 0x11 i

/-- An input fault clears once the input has passed two consecutive test pulses, where it has a source, and its pair
agrees (R449). -/
def State.clearInput (s : State) (m : SetImg) (i : Nat) : State :=
  let n := ((s.th.passes.find? (fun e => e.1 = i)).map (·.2)).getD 0
  if bit (s.rg .TH_SIFLT) i ∧ (3 < iTp m i ∨ 2 ≤ n) ∧ s.pairAgrees m (iOwner m i) then
    s.setRg .TH_SIFLT 0 0 (s.rg .TH_SIFLT - 2 ^ i)
  else s

/-- The faults of the inputs of the pair headed by `i` clear where they may (R449). -/
def State.clearPair (s : State) (m : SetImg) (i : Nat) : State :=
  if iHeads m i then (s.clearInput m i).clearInput m (i + 1) else s.clearInput m i

/-- The ticks for which the raw state of input `i` must have held: FILTER ms of an input in use (R446). An input that the set
does not use, or with no set, is not filtered. Log 43 (DEDUCED, unsafe). -/
def State.filterTicks (s : State) (i : Nat) : Nat :=
  match s.workImg with
  | some m => if iUsed m i then msTicks (iFilter m (iOwner m i)) else 0
  | none => 0

/-- The filtered state of input `i` changes to `level`: a reset is recognised at a falling edge after 0.2 s to 3.0 s (R450);
KEY_SI going inactive closes the mailbox (R478). -/
def State.safeInput (s : State) (i : Nat) (level : Bool) : State :=
  let s := s.setRg .TH_SI 0 0 (s.rg .TH_SI ^^^ 2 ^ i)
  let since := (s.th.rise.find? (fun e => e.1 = i)).map (·.2)
  let rest := s.th.rise.filter (fun e => e.1 ≠ i)
  let s : State := { s with th := { s.th with rise := if level then rest ++ [(i, s.time.ticks)] else rest } }
  let s := s.noteDisc i
  match s.workImg with
  | none => s.keyCheck
  | some m =>
    let s : State := match since with
      | some t =>
        if iFunc m i = 2 ∧ msTicks 200 ≤ s.time.ticks - t ∧ s.time.ticks - t ≤ msTicks 3000 ∧ ¬ level then
          { s with th := { s.th with resets := s.th.resets ||| iGroups m i } }
        else s
      | none => s
    (s.clearPair m (iOwner m i)).keyCheck

/-- SAFE_INPUT_CHANGE: after `dt` ticks the raw state of input `i` has been `level` for `hold` ticks; its filtered state
follows once that is FILTER ms (R446). -/
def execSafeInputChange (i : Nat) (level : Bool) (hold dt : Nat) (s : State) : Host.Outcome State Fault Refusal :=
  let s := s.advance dt
  if 32 ≤ i ∨ s.th.vsioLow ∨ bit (s.rg .TH_SI) i = level ∨ hold < s.filterTicks i then .next s
  else .next (s.safeInput i level)

/-- DISCREPANCY_TIMEOUT: the pair headed by input `i` has disagreed for longer than DISC × 10 ms (R447). -/
def execDiscrepancyTimeout (i : Nat) (s : State) : Host.Outcome State Fault Refusal :=
  match s.workImg, s.th.disc.find? (fun e => e.1 = i) with
  | some m, some e =>
    if iHeads m i then .next ((s.advanceToTick (e.2 + msTicks (10 * iDisc m i) + 1)).inputFault i) else .next s
  | _, _ => .next s

/-- The tick at which source `k` next goes low: PERIOD ms after the last time, the first time `dt` ticks from now
(R446). -/
def State.pulseStart (s : State) (m : SetImg) (k dt : Nat) : Nat :=
  match s.th.pulses.find? (fun e => e.1 = k) with
  | some e => max s.time.ticks (e.2 + msTicks (tPeriod m k))
  | none => s.time.ticks + dt

/-- What the pulse of source `k` shows: `lows` are the inputs that read low in its last 50 µs, `low` and `high` whether the
source went low and returned high (R446, R448, R449). -/
def State.pulseSeen (s : State) (m : SetImg) (k lows : Nat) (low high : Bool) : State :=
  let ins := (List.range 32).filter (fun i => iUsed m i && decide (iTp m i = k))
  let s : State := { s with th := { s.th with
    tpHigh := s.th.tpHigh.filter (· ≠ k) ++ (if low then [] else [k])
    tpLow := s.th.tpLow.filter (· ≠ k) ++ (if high then [] else [k]) } }
  let s := if low then s else (s.addFault 0x12 k 1).thFault 0x63 2 0x12 k
  let s := if high then s else s.thFault 0x63 3 0x12 k
  let s := if low && high then s.passFault 0x12 k else s
  let s := s.forEach ins (fun i s => s.noteDisc i)
  let s := if low then s.forEach ins (fun i s =>
      if bit lows i then
        let n := ((s.th.passes.find? (fun e => e.1 = i)).map (·.2)).getD 0
        let s : State := { s with th := { s.th with
          passes := s.th.passes.filter (fun e => e.1 ≠ i) ++ [(i, min 2 (n + 1))] } }
        s.clearInput m i
      else s.inputFault i)
    else s
  s.keyCheck

/-- TEST_PULSE: source `k` goes low for WIDTH µs once every PERIOD ms, no other source with it (R446, R448, R449). -/
def execTestPulse (k lows : Nat) (low high : Bool) (dt : Nat) (s : State) : Host.Outcome State Fault Refusal :=
  match s.workImg with
  | none => .next (s.advance dt)
  | some m =>
    if s.th.vsioLow ∨ 3 < k ∨ ¬ (List.range 32).any (fun i => iUsed m i && decide (iTp m i = k)) then .next (s.advance dt)
    else
      let t := s.pulseStart m k dt
      let s := s.advanceToTick (t + 500 * tWidth m k)
      let s : State := { s with th := { s.th with pulses := s.th.pulses.filter (fun e => e.1 ≠ k) ++ [(k, t)] } }
      .next (s.pulseSeen m k lows low high)

/-! ## Person reports (R460, R461) -/

/-- The records of a report part. -/
def partRecords (bs : List Byte) : List (List Byte) :=
  (List.range (fieldAt bs 7 1)).map (fun k => (bs.drop (12 + 160 * k)).take 160)

/-- The layout of a safe report frame and its SCRC (R460). -/
def reportOk (safeId : Nat) (bs : List Byte) : Bool :=
  let c := fieldAt bs 7 1
  decide (bs.length = 16 + 160 * c) && decide (fieldAt bs 0 1 = 2) && decide (fieldAt bs 1 1 = 1) &&
    decide (1 ≤ c) && decide (c ≤ 8) && decide (1 ≤ fieldAt bs 5 1) && decide (fieldAt bs 5 1 ≤ 8) &&
    decide (fieldAt bs 4 1 < fieldAt bs 5 1) && decide (fieldAt bs 8 4 = 0) &&
    decide (fieldAt bs (12 + 160 * c) 4 = crc32c (leBytes 4 safeId ++ bs.take (12 + 160 * c)))

/-- The persons of the sensor's range, each once, are the records of a report (R461). Log 44 (DEDUCED, unsafe). -/
def coversOnce (first count : Nat) (recs : List (List Byte)) : Bool :=
  decide (recs.length = count) &&
    (List.range count).all (fun k => (recs.filter (fun r => fieldAt r 0 1 = first + k)).length = 1)

/-- A part of a report of the sensor at node `n`, whose SAFE_ID is `id`, is checked and, with the other parts of its RSEQ,
makes a report (R460, R461). -/
def State.reportPart (s : State) (m : SetImg) (n id : Nat) (bs : List Byte) : State :=
  let recs := (List.range (fieldAt bs 7 1)).zip (partRecords bs)
  if ¬ reportOk id bs ∨ ¬ recs.all (fun r => fieldAt r.2 0 1 = fieldAt bs 6 1 + r.1) then s.incFd F.TH_SENS_CNT_COUNT 0 0
  else
    let x := Tab.get (fun _ => thSensorReset) s.th.sensors n
    let q := fieldAt bs 2 2
    let parts := fieldAt bs 5 1
    let x := if x.rseq = some q ∧ x.parts = parts then x else { x with rseq := some q, parts := parts, got := [] }
    let got := x.got.filter (fun e => e.1 ≠ fieldAt bs 4 1) ++ [(fieldAt bs 4 1, partRecords bs)]
    let all := ((List.range parts).map (fun p => ((got.find? (fun e => e.1 = p)).map (·.2)).getD [])).flatten
    let full := (List.range parts).all (fun p => got.any (fun e => e.1 = p))
    let covers := match (sensorsOn m).find? (fun e => sNode m e = n) with
      | some e => coversOnce (sFirst m e) (sCount m e) all
      | none => false
    let x := if full && covers then { x with got := [], rseq := none, report := all } else { x with got := got }
    { s with th := { s.th with sensors := Tab.set (fun _ => thSensorReset) s.th.sensors n x } }

/-- SAFE_REPORT_RECEIVE: port `p` receives a safe frame from a node, given from its destination address on, whose stamp point
lies `stamp` ns after the base-cycle start. It is judged as an event frame is; one of a node that the set names as no
person sensor carries a wrong node (R94, R104, R115, R142, R460). Log 110 (DEDUCED, unsafe). -/
def execSafeReportReceive (p stamp : Nat) (fcsOk : Bool) (bs : List Byte) (s : State) :
    Host.Outcome State Fault Refusal :=
  if ¬ s.portOn p then .next s
  else
    let s := s.toStamp stamp
    let n := klField bs 2 2
    match s.grantReject p 5 stamp fcsOk bs, s.workImg with
    | some k, _ => .next (s.klDiscard p k)
    | none, none => .next s
    | none, some m =>
      match safeIdOf m 1 n with
      | none => .next (s.klCount p 4)
      | some id => .next (s.reportPart m n id ((bs.drop 26).take (klField bs 10 2)))

/-- A safe container of an uplink accepted in base cycle `bcn` (R403, R455). -/
def State.takeContainer (s : State) (node bcn : Nat) (bs : List Byte) : State :=
  let old := if s.th.contBcn = bcn then s.th.containers.filter (fun e => e.1 ≠ node) else []
  { s with th := { s.th with containers := old ++ [(node, bs)], contBcn := bcn } }

/-! ## Safe positions (R402, R403, R456) -/

/-- The safe position of link entry `e` for base cycle `n`, where its container is accepted. -/
def State.safePos (s : State) (m : SetImg) (n e : Nat) : Option Int :=
  match safeIdOf m 0 (lNode m e), s.th.containers.find? (fun c => c.1 = lNode m e) with
  | some id, some (_, c) =>
    let ch := lCh m e
    if s.th.contBcn = n ∧ fieldAt c 20 4 = crc32c (leBytes 4 id ++ leBytes 4 n ++ c.take 20) ∧
        fieldAt c 0 1 % 16 = 1 ∧ ¬ bit (fieldAt c 1 1) 5 ∧ bit (fieldAt c 1 1) (3 + ch) then
      some (signedAt c (4 + 8 * ch) 4)
    else none
  | _, _ => none

/-- Link entry `e` has its safe position for base cycle `n`: of a feedback channel, a frame latched at the start of the base
cycle in progress, and no decode fault (R402, R403, R462, R464). -/
def State.linkPlaced (s : State) (m : SetImg) (n e : Nat) : Bool :=
  if lKind m e = 0 then (s.safePos m n e).isSome
  else !s.th.dirty.contains (lCh m e) &&
    (s.thDec (lCh m e)).frames.head?.any (fun x => decide (x.latch = s.time.bcStart))

/-- The safe speed that comes with the safe position of link entry `e` in a container (R402, R455). -/
def State.safeVel (s : State) (m : SetImg) (e : Nat) : Int :=
  match s.th.containers.find? (fun c => c.1 = lNode m e) with
  | some (_, c) => signedAt c (8 + 8 * lCh m e) 4
  | none => 0

/-- The monitored arm groups of which a link has no safe position (R403). -/
def State.unplaced (s : State) (m : SetImg) (n : Nat) : List Nat :=
  (groupsOn m).filter (fun g => !((List.range (aAxes m g)).all (fun k => s.linkPlaced m n (16 * g + k))))

/-! ## Cross-checks (R463, R464) -/

/-- The position of an entry of section 0x06 by its count, a word in the manner of R364. -/
def State.crossPos (s : State) (m : SetImg) (e : Nat) : Int :=
  let c := ((s.thDec (xCh m e)).found m e).1
  let adj := ((s.th.sync.find? (fun x => x.1 = e)).map (·.2)).getD 0
  toSigned 32 (ofSigned 32 (xOffset m e + (toSigned 32 (ofSigned 32 c) * (xScale m e : Int)) / 65536 + adj))

/-- The position and speed of a link whose source is channel `ch`, decoded by Thallus (R402, R462). -/
def State.decoded (s : State) (m : SetImg) (ch : Nat) : Int × Int :=
  match (xUsed m).find? (fun e => decide (xCh m e = ch) && decide (xRole m e = 0)) with
  | some e => (s.crossPos m e, ((s.thDec ch).found m e).2)
  | none => (0, 0)

/-- The input words of the links of arm group `g` in base cycle `n` (R402, R418). -/
def State.linkWords (s : State) (m : SetImg) (n g : Nat) : List (Nat × Int) :=
  (List.range (aAxes m g)).flatMap (fun k =>
    let e := 16 * g + k
    let (p, v) := if lKind m e = 0 then ((s.safePos m n e).getD 0, s.safeVel m e) else s.decoded m (lCh m e)
    [(2 * e, p), (2 * e + 1, v)])

/-- The joint position of the link an entry checks, where it is known. -/
def State.jointPos (s : State) (m : SetImg) (n e : Nat) : Option Int :=
  let l := 16 * xGroup m e + xLink m e
  if lKind m l = 0 then (s.safePos m n l).map (· + lPosOffset m l) else none

/-- The entries that are compared in this safety cycle: ROLE 1, no decode fault, and, in quadrature, a count that
has been set. -/
def State.compared (s : State) (m : SetImg) (e : Nat) : Bool :=
  decide (xRole m e = 1) && !(s.th.faults.any (fun f => f.item = 0x13 && f.unit = xCh m e)) &&
    (if xMode m e = 1 then !(s.thDec (xCh m e)).frames.isEmpty else s.th.sync.any (fun x => x.1 = e))

/-- The arm groups whose cross-check disagrees by more than TOL (R463). Log 70 (DEDUCED, unsafe). -/
def State.crossFails (s : State) (m : SetImg) (n : Nat) : List Nat :=
  ((xUsed m).filter (fun e => s.compared m e &&
    (match s.jointPos m n e with
     | some p => !passes (decide (|toSigned 32 (ofSigned 32 (p - s.crossPos m e))| ≤ xTol m e))
     | none => false))).map (xGroup m)

/-- Quadrature cross-checks without a fault have their count set so that the two positions agree (R463).
Log 70 (DEDUCED, unsafe). -/
def State.syncCross (s : State) (m : SetImg) (n : Nat) : State :=
  s.forEach (xUsed m) (fun e s =>
    if xRole m e = 1 ∧ xMode m e = 0 ∧ ¬ s.th.sync.any (fun x => x.1 = e) ∧
        ¬ s.th.faults.any (fun f => f.item = 0x13 && f.unit = xCh m e) then
      match s.jointPos m n e with
      | some p => { s with th := { s.th with sync := s.th.sync ++ [(e, p - s.crossPos m e)] } }
      | none => s
    else s)

/-- THALLUS_DECODE_FAULT: a decode fault on channel `ch` that no event of its receiver outputs shows (R464).
Log 70 (DEDUCED, unsafe). -/
def execThallusDecodeFault (ch : Nat) (s : State) : Host.Outcome State Fault Refusal :=
  match s.setImg with
  | none => .next s
  | some m =>
    match xOf m ch with
    | none => .next s
    | some e => .next (s.decodeFault m e)

/-- The clean safety cycles of the decode faults are counted at a freeze (R464). -/
def State.cleanCycles (s : State) : State :=
  let l := (s.th.faults.filter (fun f => f.item = 0x13)).map (·.unit)
  let s := s.forEach (l.filter (fun c => !s.th.dirty.contains c)) (fun c s => s.passFault 0x13 c)
  { s with th := { s.th with dirty := [] } }

/-! ## Degraded run (R468 to R471) -/

/-- The state change of a safety cycle: START ends, DEGRADED is entered, for `minutes`, or left (R468 to R470). -/
def State.degradeStep (s : State) (minutes : Nat) : State :=
  let s := if s.thMode = 0 then s.setFd F.TH_STAT_STATE 0 0 1 else s
  if s.th.faults ≠ [] ∧ s.thMode = 1 then
    let s := (s.setFd F.TH_STAT_STATE 0 0 2).incFd F.TH_STAT_DEG_CNT 0 0
    let s : State := { s with th := { s.th with
      staleEnd := s.time.ticks + secTicks (60 * minutes), expired := false } }
    s.thDeg.thRecord
  else if s.th.faults = [] ∧ s.thMode = 2 then
    let s : State := { s.setFd F.TH_STAT_STATE 0 0 1 with th := { s.th with expired := false } }
    s.thDeg.thRecord
  else s.thDeg

/-- STALED: the staling timer reaches 0 in DEGRADED; the next evaluation raises its cause (R469). -/
def execStaled (s : State) : Host.Outcome State Fault Refusal :=
  if s.thMode = 2 then
    let s := s.advanceToTick s.th.staleEnd
    .next ({ s with th := { s.th with expired := true, staled := true } }).thDeg
  else .next s

/-- DEGRADED_RECORD_WRITE: in degraded run, a minute after the last write (R471). -/
def execDegradedRecordWrite (s : State) : Host.Outcome State Fault Refusal :=
  if s.thMode = 2 then .next (s.advanceToTick (s.th.recAt + secTicks 60)).thDeg.thRecord else .next s

/-! ## The freeze (R404 to R407, R449, R465) -/

/-- The accepted records of a sensor: those of its range with at most 4 capsules, every capsule entry in the cell frame
(R404). Log 44 (DEDUCED, unsafe). -/
def State.sensorRecords (s : State) (m : SetImg) (e : Nat) : List (List Byte) :=
  (Tab.get (fun _ => thSensorReset) s.th.sensors (sNode m e)).report.filter (fun r =>
    decide (sFirst m e ≤ fieldAt r 0 1) && decide (fieldAt r 0 1 < sFirst m e + sCount m e) &&
      decide (fieldAt r 1 1 ≤ 4) && (List.range 4).all (fun k => fieldAt r (32 + 32 * k + 2) 1 = 0xFF))

/-- The age of a sensor in ns at t0, by its accepted records; none where there is none (R405, assumption 44).
Log 44 (DEDUCED, unsafe). -/
def State.sensorAge (s : State) (m : SetImg) (e t0 : Nat) : Option Nat :=
  (minOf ((s.sensorRecords m e).map (fun r => fieldAt r 8 8))).map (fun t => t0 - t)

/-- A sensor may not be relied on: a record of its range is missing, or its age exceeds MAX_AGE (R404, R405).
Log 44 (DEDUCED, unsafe). -/
def State.sensorOld (s : State) (m : SetImg) (e t0 : Nat) : Bool :=
  match s.sensorAge m e t0 with
  | some a => !passes (decide (a ≤ sMaxAge m e * 1000)) || !coversOnce (sFirst m e) (sCount m e) (s.sensorRecords m e)
  | none => true

/-- The causes of the inputs, sensors, positions and diagnostics at a freeze. -/
def State.frozenCauses (s : State) (m : SetImg) (n t0 : Nat) : List ThCause :=
  let mk (gs : List Nat) (code other : Nat) (dem : Nat → Nat) : List ThCause :=
    gs.map (fun g => { group := g, code := code, demand := dem g, other := other, capsule := 0 })
  let stops := (List.range 32).filter (fun i => decide (iFunc m i = 1) && !s.pairOn m i)
  let flts := (List.range 32).filter (fun i => iUsed m i && bit (s.rg .TH_SIFLT) i)
  let lows := (List.range 32).filter (fun i => iUsed m i && s.th.tpLow.contains (iTp m i))
  let outs := (List.range 20).filter (fun j => s.flag F.TH_SOj_STAT_OVERCURRENT j ||
    (s.flag F.TH_SOj_STAT_HS_STUCK j && s.flag F.TH_SOj_STAT_LS_STUCK j))
  let old := (sensorsOn m).filter (fun e => s.sensorOld m e t0)
  mk (s.unplaced m n) 0x5E 0xFF (atLeastStop1 m) ++
    (old.map (fun e => mk (groupsIn m (sGroups m e)) 0x5D (0xE0 + e) (atLeastStop1 m))).flatten ++
    (stops.map (fun i => mk (groupsIn m (iGroups m i)) 0x62 0xFF (fun _ => catDemand (iCat m i)))).flatten ++
    ((flts ++ lows).map (fun i => mk (groupsIn m (iGroups m (iOwner m i))) 0x63 0xFF (atLeastStop1 m))).flatten ++
    mk ((s.crossFails m n).filter (aOn m)) 0x64 0xFF (atLeastStop1 m) ++
    (outs.map (fun j => mk (groupsIn m (oGroups m j)) 0x65 0xFF (fun _ => 4))).flatten ++
    (if s.th.expired || s.th.staled then mk (groupsOn m) 0x66 0xFF (fun _ => 3) else [])

/-- The tracked persons at a freeze: sensor entry, age, record. -/
def State.tracked (s : State) (m : SetImg) (t0 : Nat) : List (Nat × Nat × List Byte) :=
  ((sensorsOn m).map (fun e => match s.sensorAge m e t0 with
    | none => []
    | some a => ((s.sensorRecords m e).filter (fun r => bit (fieldAt r 6 2) 0)).map (fun r => (e, a, r)))).flatten

/-! ## The protective separation distance (R425 to R431) -/

/-- T_S in µs and S_S in LEN at a speed, between the two points that enclose it. -/
def between (v : ℚ) : List (Int × Nat × Int) → ℚ × ℚ
  | a :: b :: r =>
    if v ≤ b.1 then
      let f : ℚ := if v ≤ a.1 then 0 else (v - a.1) / ((b.1 : ℚ) - a.1)
      ((a.2.1 : ℚ) + f * ((b.2.1 : ℚ) - a.2.1), (a.2.2 : ℚ) + f * ((b.2.2 : ℚ) - a.2.2))
    else between v (b :: r)
  | [a] => (a.2.1, a.2.2)
  | [] => (0, 0)

/-- R428: T_S and S_S at a speed, none beyond the last point. -/
def interp (v : ℚ) (l : List (Int × Nat × Int)) : Option (ℚ × ℚ) :=
  match l.getLast? with
  | some z => if passes (decide (v ≤ z.1)) then some (between v l) else none
  | none => none

/-- The scale of C, Z_d, Z_r and D_RR: DEG_SCALE in degraded run (R429). -/
def ThEval.scale (x : ThEval) (m : SetImg) : ℚ := if x.deg then (mDegScale m : ℚ) / 65536 else 1

/-- T_r of an arm group without a sensor, in seconds (R430). -/
def ThEval.tr (x : ThEval) (m : SetImg) (g : Nat) : ℚ := (6 * x.lenNs : ℚ) / 1000000000 + (aTDrive m g : ℚ) / 1000000

/-- S_p of R425 for arm group `g` and sensor entry `e`, in LEN: age in ns, speeds in LVEL; none beyond the envelope. -/
def ThEval.sp (x : ThEval) (m : SetImg) (g e age : Nat) (vr vmon vh : ℚ) : Option ℚ :=
  let t : ℚ := x.tr m g + (sTSensor m e : ℚ) / 1000000 + (age : ℚ) / 1000000000
  (interp (vmon + aAMax m g * t) (envOf m g)).map (fun p =>
    vh * (t + p.1 / 1000000) + (vr * t + aAMax m g * t * t / 2) + p.2 +
      ((sC m e : ℚ) + sZd m e + aZr m g) * x.scale m)

/-- S_r + S_s + Z_r of R430, S_z of R431. -/
def ThEval.sz (x : ThEval) (m : SetImg) (g : Nat) (vr vmon : ℚ) : Option ℚ :=
  let t := x.tr m g
  (interp (vmon + aAMax m g * t) (envOf m g)).map (fun p =>
    vr * t + aAMax m g * t * t / 2 + p.2 + aZr m g * x.scale m)

/-! ## Pairs (R421) -/

/-- What identifies a pair. -/
def geoKey : GeoPair → Nat × Nat × Nat × Nat × Nat
  | .person g c p e .. => (0, g, c, p, e)
  | .robot a c b d .. => (1, a, c, b, d)
  | .zone g c z .. => (2, g, c, z, 0)
  | .tool g z _ => (3, g, z, 0, 0)
  | .reach p e z _ => (4, p, e, z, 0)

/-- The capsule entries of a person that take part: valid and ENABLED. -/
def personCaps (r : List Byte) : List Nat :=
  (List.range (min 4 (fieldAt r 1 1))).filter (fun k => bit (fieldAt r (32 + 32 * k + 3) 1) 0)

/-- A zone takes part: it is not carried by an arm group without safe positions. -/
def ThEval.zonePlaced (x : ThEval) (m : SetImg) (z : Nat) : Bool :=
  (zCarriedBy m z).all (fun g => !x.excluded.contains g)

/-- The monitored arm groups with safe positions. -/
def ThEval.placed (x : ThEval) (m : SetImg) : List Nat := (groupsOn m).filter (fun g => !x.excluded.contains g)

/-- The pairs of R421 for the frozen inputs. Log 68 (DEDUCED, unsafe). -/
def ThEval.pairs (x : ThEval) (m : SetImg) : List (Nat × Nat × Nat × Nat × Nat) :=
  let on := x.placed m
  let zs (k : Nat) := (zonesOn m k).filter (x.zonePlaced m)
  (x.people.map (fun p => ((on.filter (fun g => bit (sGroups m p.1) g)).map (fun g =>
    ((capsulesOn m g).map (fun c => (personCaps p.2.2).map (fun e => (0, g, c, fieldAt p.2.2 0 1, e)))).flatten)).flatten)).flatten ++
  (on.map (fun a => ((on.filter (fun b => a < b)).map (fun b =>
    ((capsulesOn m a).map (fun c => (capsulesOn m b).map (fun d => (1, a, c, b, d)))).flatten)).flatten)).flatten ++
  ((zs 0 ++ zs 1).map (fun z => ((on.filter (fun g => bit (zGroups m z) g && decide (zCarriedBy m z ≠ some g))).map (fun g =>
    (capsulesOn m g).map (fun c => (2, g, c, z, 0)))).flatten)).flatten ++
  ((zs 2).map (fun z => (on.filter (fun g => bit (zGroups m z) g)).map (fun g => (3, g, z, 0, 0)))).flatten ++
  ((zs 3).map (fun z => (x.people.map (fun p => (personCaps p.2.2).map (fun e => (4, fieldAt p.2.2 0 1, e, z, 0)))).flatten)).flatten

/-- A robot–person pair as judged: arm group, capsule, person, sensor, age, distance and v_h in force, required
distance (none beyond the envelope), and whether the broad phase culled it. -/
structure RpPair where
  g : Nat
  c : Nat
  p : Nat
  e : Nat
  age : Nat
  d : Int
  vh : ℚ
  req : Option ℚ
  culled : Bool

/-- A pair's finding: arm group, cause, OTHER, capsule, margin (none: beyond the envelope). -/
structure ThHit where
  g : Nat
  code : Nat
  other : Nat
  capsule : Nat
  margin : Option ℚ

/-- v_mon of an arm group, LVEL. -/
def vmonOf (gs : List GeoGroup) (g : Nat) : Nat := ((gs.find? (fun x => x.group = g)).map (·.vmon)).getD 0

/-- v_tcp of an arm group, LVEL. -/
def vtcpOf (gs : List GeoGroup) (g : Nat) : Nat := ((gs.find? (fun x => x.group = g)).map (·.vtcp)).getD 0

/-- A robot–person pair under R422 and R425 to R427. Log 68 (DEDUCED, unsafe). -/
def ThEval.judgePerson (x : ThEval) (m : SetImg) (gs : List GeoGroup) : GeoPair → Option RpPair
  | .person g c p e gap dist vr vp vabs touch =>
    match x.persons.find? (fun y => y.2.2 = p) with
    | none => none
    | some (sn, age, _) =>
      let _ := e
      let vmon : ℚ := vmonOf gs g
      let vhMax : ℚ := if sVelOk m sn then max (mVhMin m : ℚ) vabs else mVh m
      let bound := x.sp m g sn age vmon vmon vhMax
      let culled := match bound with | some b => passes (decide (b ≤ gap)) | none => false
      if culled then some ⟨g, c, p, sn, age, gap, vhMax, bound, true⟩
      else
        let v : ℚ := if touch then vmon else max 0 (vr : ℚ)
        let vh : ℚ := if sVelOk m sn then max (mVhMin m : ℚ) (if touch then (vabs : ℚ) else vp) else mVh m
        some ⟨g, c, p, sn, age, dist, vh, x.sp m g sn age v vmon vh, false⟩
  | _ => none

/-- The findings of a robot–person pair (R425, R428). -/
def RpPair.hits (r : RpPair) : List ThHit :=
  match r.req with
  | none => [⟨r.g, 0x5C, r.p, r.c, none⟩]
  | some q => if passes (decide (q ≤ r.d)) then [] else [⟨r.g, 0x58, r.p, r.c, some (r.d - q)⟩]

/-- The findings of a robot–robot pair, and whether it went to the narrow phase: a pair that fails, by its distance or beyond
an envelope, gives both arm groups 0x59, and 0x5C to one whose envelope is exceeded (R422, R428, R430).
Log 68 (DEDUCED, unsafe). -/
def ThEval.judgeRobot (x : ThEval) (m : SetImg) (gs : List GeoGroup) : GeoPair → List ThHit × Bool
  | .robot a c b d gap dist va vb touch =>
    let ma : ℚ := vmonOf gs a
    let mb : ℚ := vmonOf gs b
    let drr : ℚ := mDrr m * x.scale m
    let culled := match x.sz m a ma ma, x.sz m b mb mb with
      | some p, some q => passes (decide (p + q + drr ≤ (gap : ℚ)))
      | _, _ => false
    if culled then ([], false)
    else
      match x.sz m a (if touch then ma else max 0 (va : ℚ)) ma, x.sz m b (if touch then mb else max 0 (vb : ℚ)) mb with
      | some p, some q =>
        let req := p + q + drr
        (if passes (decide (req ≤ dist)) then [] else
          [⟨a, 0x59, 0x40 + b, c, some (dist - req)⟩, ⟨b, 0x59, 0x40 + a, d, some (dist - req)⟩], true)
      | p, q =>
        ((if p.isNone then [⟨a, 0x5C, 0x40 + b, c, none⟩] else []) ++
          (if q.isNone then [⟨b, 0x5C, 0x40 + a, d, none⟩] else []) ++
          [⟨a, 0x59, 0x40 + b, c, none⟩, ⟨b, 0x59, 0x40 + a, d, none⟩], true)
  | _ => ([], false)

/-- The findings of a robot–zone pair (R422, R431). Log 68 (DEDUCED, unsafe). -/
def ThEval.judgeZone (x : ThEval) (m : SetImg) (gs : List GeoGroup) : GeoPair → List ThHit × Bool
  | .zone g c z gap dist =>
    let v : ℚ := vmonOf gs g
    match x.sz m g v v with
    | none => ([⟨g, 0x5C, 0x80 + z, c, none⟩], true)
    | some q =>
      if passes (decide (q ≤ gap)) then ([], false)
      else (if passes (decide (q ≤ dist)) then [] else [⟨g, 0x5A, 0x80 + z, c, some (dist - q)⟩], true)
  | _ => ([], false)

/-- The speed zones in force for each arm group: the arm group and the zone (R432, R436). -/
def ThEval.speedZones (x : ThEval) (m : SetImg) (ps : List GeoPair) : List (Nat × Nat) :=
  let tools := ps.filterMap (fun p => match p with
    | .tool g z true => some (g, z)
    | _ => none)
  let reached := (ps.filterMap (fun p => match p with
    | .reach _ _ z true => some z
    | _ => none)).dedup
  tools ++ (reached.map (fun z => ((x.placed m).filter (fun g => bit (zGroups m z) g)).map (fun g => (g, z)))).flatten

/-- R435 and R466: the causes in the order in which CAUSE takes them. Log 69 (DEDUCED, unsafe). -/
def causeOrder : List Nat := [0x66, 0x65, 0x63, 0x64, 0x62, 0x61, 0x5F, 0x5E, 0x5D, 0x5C, 0x5A, 0x59, 0x58, 0x5B]

/-- The finding of least margin. -/
def leastHit : List ThHit → Option ThHit
  | [] => none
  | h :: t => match leastHit t with
    | none => some h
    | some k =>
      match h.margin, k.margin with
      | none, _ => some h
      | some _, none => some k
      | some a, some b => if b < a then some k else some h

/-! ## Demands and latching (R433 to R438, R465 to R467) -/

/-- An arm group ends its evaluation: latch, release, and TH_AGn_SSM. `hits` are its causes with their pairs, `limit`
the limit lies below the last SPEED of its envelope. Log 69 (DEDUCED, unsafe). -/
def State.demandStep (s : State) (m : SetImg) (resets g : Nat) (hits : List (ThHit × Nat)) (limit : Bool) : State :=
  let x := s.thGroup g
  let codes := hits.map (fun h => h.1.code)
  let stop := (hits.map (·.2)).foldl max 0
  let auto := mAutoResume m && !x.startup && x.held.all (fun c => c = 0x58 || c = 0x59 || c = 0x5B) &&
    decide (mResumeCyc m ≤ x.clear + 1)
  let rises := decide (x.latch < stop)
  let x : ThGroup :=
    if hits ≠ [] then { x with latch := max x.latch stop, held := (x.held ++ codes).dedup, clear := 0 }
    else if x.latch ≠ 0 ∧ (auto || bit resets g) then { latch := 0, held := [], clear := x.clear + 1, startup := false }
    else { x with clear := min 255 (x.clear + 1) }
  let s := (if rises then s.incFd F.TH_AGn_CNT_STOP_CNT g 0 else s).setThGroup g x
  let demand := if x.latch ≠ 0 then x.latch else if limit then 1 else 0
  let cause := (causeOrder.find? (fun c => if hits = [] then x.held.contains c else codes.contains c)).getD 0
  let best := if hits = [] then none else leastHit ((hits.map (·.1)).filter (fun h => h.code = cause))
  let other := (best.map (·.other)).getD 0xFF
  let cap := (best.map (·.capsule)).getD 0
  let s := s.setRg .TH_AGn_SSM g 0 (cause * 2 ^ 24 + other % 256 * 2 ^ 16 + cap % 16 * 2 ^ 12 +
    b2n (decide (x.latch ≠ 0)) * 2 ^ 7 + demand)
  if demand = 1 then s.incFd F.TH_AGn_CNT_LIMIT_CNT g 0 else s

/-- A value register of Thallus: the number rounded half to even, or a free value where it has none or does not fit
(assumption 45). Log 45 (DESIGN CHOICE, unsafe). -/
def State.putLen (s : State) (r : Reg) (g : Nat) (v : Option ℚ) : State :=
  let i := (v.map roundEven).getD (2 ^ 40)
  if -(2 ^ 31 : Int) ≤ i ∧ i < 2 ^ 31 then s.setRg r g 0 (ofSigned 32 i)
  else let (x, s) := s.free; s.setRg r g 0 (x % 2 ^ 32)

/-- The smallest of a list of rationals. Log 45 (DESIGN CHOICE, unsafe). -/
def minQ : List ℚ → Option ℚ
  | [] => none
  | a :: t => match minQ t with
    | none => some a
    | some b => some (if b < a then b else a)

/-- The limit of an arm group (R436), LVEL. Log 68 (DEDUCED, unsafe). -/
def ThEval.limit (x : ThEval) (m : SetImg) (g : Nat) (rp : List RpPair) (zs : List (Nat × Nat)) : ℚ :=
  let ok (v : Int) : Bool := (rp.filter (fun r => r.g = g)).all (fun r => match x.sp m g r.e r.age v v r.vh with
    | some q => passes (decide (q ≤ r.d))
    | none => false)
  let base : ℚ := (((envOf m g).map (·.1)).filter ok).foldl (fun a v => max a (v : ℚ)) 0
  let zoned := ((zs.filter (fun z => z.1 = g)).map (fun z => zSpeed m z.2)).foldl (fun a v => min a (v : ℚ)) base
  if x.deg then min zoned (gDegSpeed m) else zoned

/-- The last SPEED of an arm group's envelope. -/
def lastSpeed (m : SetImg) (g : Nat) : Int := ((envOf m g).getLast?.map (·.1)).getD 0

/-- TH_STAT.STARTUP: a start-up latch of a monitored arm group is held (R467). -/
def State.startupFlag (s : State) (m : SetImg) : State :=
  s.setFd F.TH_STAT_STARTUP 0 0 (b2n ((groupsOn m).any (fun g => (s.thGroup g).startup)))

/-- The arm groups that are not monitored demand nothing. Log 69 (DEDUCED, unsafe). -/
def State.clearUnmonitored (s : State) (m : SetImg) : State :=
  s.forEach ((List.range 16).filter (fun g => !aOn m g)) (fun g s => s.setRg .TH_AGn_SSM g 0 0)

/-- The evaluation ends with its findings (R439). Log 68 (DEDUCED, unsafe), 69 (DEDUCED, unsafe). -/
def State.finishEval (s : State) (x : ThEval) (m : SetImg) (gs : List GeoGroup) (ps : List GeoPair) : State :=
  let rp := ps.filterMap (x.judgePerson m gs)
  let rr := ps.map (x.judgeRobot m gs)
  let rz := ps.map (x.judgeZone m gs)
  let zs := x.speedZones m ps
  let zhits : List ThHit := (zs.filter (fun z => !passes (decide (vtcpOf gs z.1 ≤ zSpeed m z.2)))).map (fun z =>
    ⟨z.1, 0x5B, 0x80 + z.2, 0, some ((zSpeed m z.2 : ℚ) - vtcpOf gs z.1)⟩)
  let dhits : List ThHit := if x.deg then
      ((x.placed m).filter (fun g => !passes (decide (vtcpOf gs g ≤ gDegSpeed m)))).map (fun g =>
        ⟨g, 0x61, 0xFF, 0, some ((gDegSpeed m : ℚ) - vtcpOf gs g)⟩)
    else []
  let found := (rp.map (·.hits)).flatten ++ (rr.map (·.1)).flatten ++ (rz.map (·.1)).flatten ++ zhits ++ dhits
  let before (g : Nat) : Nat := s.fd F.TH_AGn_SSM_DEMAND g
  let narrow := (rp.filter (fun r => !r.culled)).length + (rr.filter (·.2)).length + (rz.filter (·.2)).length +
    (ps.filter (fun p => match p with | .tool .. => true | .reach .. => true | _ => false)).length
  let s := s.forEach (groupsOn m) (fun g s =>
    let own := (found.filter (fun h => h.g = g)).map (fun h => (h, catDemand (aStopCat m g)))
    let frz := (x.causes.filter (fun c => c.group = g)).map (fun c =>
      ((⟨g, c.code, c.other, c.capsule, none⟩ : ThHit), c.demand))
    let lim := x.limit m g rp zs
    let s := s.demandStep m x.resets g (frz ++ own) (!x.excluded.contains g && !passes (decide ((lastSpeed m g : ℚ) ≤ lim)))
    if x.excluded.contains g then
      (((s.putLen .TH_AGn_DMIN g none).putLen .TH_AGn_SP g none).putLen .TH_AGn_LIMIT g none).putLen .TH_AGn_VMON g none
    else
      let mine := rp.filter (fun r => r.g = g)
      let best := minQ (mine.filterMap (fun r => r.req.map (fun q => (r.d : ℚ) - q)))
      let spv := (mine.find? (fun r => r.req.map (fun q => (r.d : ℚ) - q) = best && r.req.isSome)).bind (·.req)
      (((s.putLen .TH_AGn_DMIN g (minQ (mine.map (fun r => (r.d : ℚ))))).putLen .TH_AGn_SP g spv).putLen
        .TH_AGn_LIMIT g (some lim)).putLen .TH_AGn_VMON g (some (vmonOf gs g)))
  let s := (s.clearUnmonitored m).startupFlag m
  let s := s.setFd F.TH_SSM_STAT_CYCLE 0 0 x.k
  let s := if x.aged then s.incFd F.TH_SSM_STAT_AGE_CNT 0 0 else s
  let s := s.setRg .TH_SSM_LOAD 0 0 (min 0xFFFF narrow * 65536 + min 0xFFFF ((s.ctNs - x.at_) / 250))
  let mask := (x.persons.map (fun p => 2 ^ (p.2.2 % 64))).dedup.sum
  let s := s.setRg64 .TH_PERS_LO .TH_PERS_HI 0 mask
  let rose := (((List.range 16).filter (fun g => before g < 2 && 2 ≤ s.fd F.TH_AGn_SSM_DEMAND g)).map (2 ^ ·)).sum
  let s : State := { s with th := { s.th with eval := none, doneK := some x.k } }
  let s := if rose = 0 then s else s.soEvent 4 rose s.ctNs
  let busy := (((List.range 16).filter (fun g => s.fd F.TH_AGn_SSM_DEMAND g ≠ 0)).map (2 ^ ·)).sum
  s.hwToken .thallus (mResToken m) (x.k % 65536 * 65536 + busy)

/-- The evaluation has not completed in time: every monitored arm group stops with 0x5F (R424, R434).
Log 71 (DEDUCED, unsafe). -/
def State.overrunEval (s : State) (x : ThEval) : State :=
  let m := s.th.work
  let s := s.forEach (groupsOn m) (fun g s =>
    let frz := (x.causes.filter (fun c => c.group = g)).map (fun c =>
      ((⟨g, c.code, c.other, c.capsule, none⟩ : ThHit), c.demand))
    s.demandStep m x.resets g ((⟨g, 0x5F, 0xFF, 0, none⟩, atLeastStop1 m g) :: frz) false)
  let s := ((s.clearUnmonitored m).startupFlag m).incFd F.TH_SSM_STAT_OVR_CNT 0 0
  { s with th := { s.th with eval := none, doneK := some x.k } }

/-- Pair `j` switches on or off; a running delay ends. Log 71 (DEDUCED, unsafe). -/
def State.switchPair (s : State) (j : Nat) (on : Bool) : State :=
  let s := (s.setFd F.TH_SOj_STAT_ON j 0 (b2n on)).setFd F.TH_SOj_STAT_DELAYING j 0 0
  { s with th := { s.th with delay := s.th.delay.filter (fun e => e.1 ≠ j) } }

/-- Every output pair off. -/
def State.pairsOff (s : State) : State := s.forEach (List.range 20) (fun j s => s.switchPair j false)

/-- A class A fault: every output pair off, SAFE_STATE, TH_FAULT and a journal entry (R445). -/
def State.classA (s : State) (item : Nat) : State :=
  let s := s.pairsOff
  let s := (s.setFd F.TH_STAT_STATE 0 0 3).setFd F.TH_STAT_DIAG 0 0 item
  let s : State := { s with th := { s.th with eval := none } }
  (s.thDeg.thFault 0x67 1 item 0).journal 0x0E 0x09 0x67 3 [item]

/-- The set in force at a freeze: a new one applies from here, and its pairs are looked at; the decoders stand as they are
at this instant (R407, R447, R462). -/
def State.takeSet (s : State) (m : SetImg) : State :=
  let fresh := s.th.fresh
  let s : State := { s with th := { s.th with work := m, fresh := false } }
  let s := if fresh then s.notePairs else s
  s.forEach (xUsed m) (fun e s => s.thSettle m e)

/-- The check of the active set against TH_SET_CRC is due: once every second (R443). -/
def State.crcDue (s : State) : Bool := decide (s.th.crcAt + secTicks 1 ≤ s.time.ticks)

/-- THALLUS_EVALUATION: at the input freeze of a safety cycle, in base cycle 4k, Thallus freezes its inputs and starts
its evaluation (R403 to R407). An active set that fails its check value is a class A fault (R443). With no set the staling
timer takes its default of 8 h (R468, R471). In SAFE_STATE Thallus evaluates nothing (R445). -/
def execThallusEvaluation (s : State) : Host.Outcome State Fault Refusal :=
  let k := s.time.bcn / 4
  if s.time.noBase ∨ s.time.bcn % 4 ≠ 0 ∨ s.thMode = 3 ∨ s.th.frozenK = some k then .next s
  else
    let s := match s.th.eval with
      | some x => s.overrunEval x
      | none => s
    let t0 := s.time.bcStart
    let s := s.advanceTo (t0 + guardStart s.time.base)
    let s : State := { s with th := { s.th with frozenK := some k } }
    match s.setImg with
    | none =>
      let s := s.degradeStep 480
      let s : State := { s with th := { s.th with staled := false } }
      .next (s.setFd F.TH_STAT_NO_SET 0 0 1)
    | some m =>
      let s := s.takeSet m
      let due := s.crcDue
      let s : State := if due then { s with th := { s.th with crcAt := s.time.ticks } } else s
      if due ∧ setCheck m ≠ s.rg .TH_SET_CRC then .next (s.classA 0x06)
      else
        let s := s.degradeStep (gStaleMin m)
        let n := 4 * k
        let gone := s.unplaced m n
        let seen := s.tracked m t0
        let links := ((groupsOn m).filter (fun g => !gone.contains g)).flatMap (s.linkWords m n)
        let x : ThEval :=
          { k := k, at_ := s.ctNs, due := t0 + 4 * s.lenNs - 4000, lenNs := s.lenNs, deg := decide (s.thMode = 2),
            causes := s.frozenCauses m n t0, excluded := gone,
            persons := seen.map (fun p => (p.1, p.2.1, fieldAt p.2.2 0 1)),
            inputs := codeInputs k (links ++ seen.flatMap (fun p => recordWords (fieldAt p.2.2 0 1) p.2.2)),
            aged := (s.frozenCauses m n t0).any (fun c => c.code = 0x5D), resets := s.th.resets }
        let s := s.syncCross m n
        let s := s.cleanCycles
        .next { s with th := { s.th with eval := some x, resets := 0, staled := false } }

/-- What the geometry engine forms its results from; none where an orientation of the set has no direction. -/
def ThEval.scene (x : ThEval) (m : SetImg) : Option Scene :=
  ((x.placed m).mapM (fun g => (x.bodies m g).map (fun b => (g, b)))).map (fun l => { arms := l, people := x.people })

/-- EVALUATION_COMPLETE: the geometry engine has a result for every monitored arm group and every pair of R421, before
the deadline of R424, unless an input, a result or a verdict breaks the code; `dt` ticks have passed (R406, R414 to R439).
Log 68 (DEDUCED, unsafe). -/
def execEvaluationComplete (dt : Nat) (s : State) : Host.Outcome State Fault Refusal :=
  let s := s.advance dt
  match s.th.eval with
  | none => .next s
  | some x =>
    let m := s.th.work
    if s.thMode = 3 ∨ x.due < s.ctNs then .next s
    else if ¬ x.codesHold then .next (s.classA 0x01)
    else
      match x.scene m with
      | none => .next s
      | some c =>
        let gs := c.arms.map (fun e => groupSpeeds m e.2 e.1)
        let ps := (x.pairs m).filterMap (c.pair m)
        if ¬ (verdictsHold && gs.all (·.codesHold) && ps.all (·.codesHold)) then .next (s.classA 0x01)
        else .next (s.finishEval x m (gs.map (·.held)) (ps.map (·.held)))

/-- EVALUATION_OVERRUN (R424). -/
def execEvaluationOverrun (s : State) : Host.Outcome State Fault Refusal :=
  match s.th.eval with
  | none => .next s
  | some x => if s.thMode = 3 then .next s else .next ((s.advanceTo x.due).overrunEval x)

/-! ## Output pairs (R451 to R454) -/

/-- The stuck-switch bits of pair `j` are as found; one stuck switch is a B-degradable fault, two are B-stop (R454).
Log 70 (DEDUCED, unsafe). -/
def State.stuckFound (s : State) (j : Nat) (hs ls : Bool) : State :=
  let new := (if hs && !s.flag F.TH_SOj_STAT_HS_STUCK j then 1 else 0) + (if ls && !s.flag F.TH_SOj_STAT_LS_STUCK j then 1 else 0)
  let s := (s.setFd F.TH_SOj_STAT_HS_STUCK j 0 (b2n hs)).setFd F.TH_SOj_STAT_LS_STUCK j 0 (b2n ls)
  let s := s.setFd F.TH_SOj_STAT_FLT_CNT j 0 (satAdd 8 (s.fd F.TH_SOj_STAT_FLT_CNT j) new)
  let s := if new = 0 then s else s.thFault 0x65 (if hs && ls then 3 else 2) 0x10 j
  if hs && ls then s
  else if hs || ls then
    if new = 0 ∧ s.th.faults.any (fun f => f.item = 0x10 && f.unit = j) then s else s.addFault 0x10 j 1
  else s.passFault 0x10 j

/-- The read-back of pair `j`: OUT+ above 12 V, OUT− below 12 V, and an overcurrent (R454). Log 70 (DEDUCED, unsafe). -/
def State.readBack (s : State) (j : Nat) (hs ls oc : Bool) : State :=
  let on := s.flag F.TH_SOj_STAT_ON j
  let s := (s.setFd F.TH_SOj_STAT_RB_HS j 0 (b2n hs)).setFd F.TH_SOj_STAT_RB_LS j 0 (b2n ls)
  if s.th.vsioLow then s
  else
    let bad := oc || (on && !(hs && ls))
    let s := if bad && !s.flag F.TH_SOj_STAT_OVERCURRENT j then
        (s.incFd F.TH_SOj_STAT_FLT_CNT j 0).thFault 0x65 3 0x10 j
      else s
    let s := s.setFd F.TH_SOj_STAT_OVERCURRENT j 0 (b2n bad)
    if on then s else s.stuckFound j hs ls

/-- Pair `j` may be on (R451, R574, R631). -/
def State.pairMay (s : State) (m : SetImg) (j : Nat) : Bool :=
  decide (oGroups m j ≠ 0) && (decide (s.thMode = 1) || decide (s.thMode = 2)) && !s.th.noSet && !s.th.vsioLow &&
    !s.flag F.TH_SOj_STAT_OVERCURRENT j && !s.isStandby

/-- The most severe demand of a pair's arm groups. -/
def State.pairDemand (s : State) (m : SetImg) (j : Nat) : Nat :=
  (((List.range 16).filter (fun g => bit (oGroups m j) g)).map (fun g =>
    if s.th.doneK.isNone ∧ aOn m g then 4 else s.fd F.TH_AGn_SSM_DEMAND g)).foldl max 0

/-- The demands reach pair `j` at the end of a safety cycle (R451, R452). Log 71 (DEDUCED, unsafe). -/
def State.applyPair (s : State) (m : SetImg) (j : Nat) : State :=
  let may := s.pairMay m j
  let d := s.pairDemand m j
  if may && decide (d < oOffAt m j) then s.switchPair j true
  else if ¬ s.flag F.TH_SOj_STAT_ON j then s
  else if may && decide (d = 3) && decide (0 < oDelay m j) then
    if s.flag F.TH_SOj_STAT_DELAYING j then s
    else
      let s := s.setFd F.TH_SOj_STAT_DELAYING j 0 1
      { s with th := { s.th with delay := s.th.delay ++ [(j, s.time.ticks + msTicks (oDelay m j))] } }
  else s.switchPair j false

/-- The node of pair `j` followed its switch in a dark pulse on its low or high side, or not (R453, R454). -/
def State.darkSeen (s : State) (j : Nat) (low ok : Bool) : State :=
  s.stuckFound j (if low then s.flag F.TH_SOj_STAT_HS_STUCK j else !ok) (if low then !ok else s.flag F.TH_SOj_STAT_LS_STUCK j)

/-- The dark pulse that lay across the end of a safety cycle is evaluated, unless its pair has been switched off (R453).
Log 71 (DEDUCED, unsafe). -/
def State.darkSettle (s : State) : State :=
  match s.th.darkNow with
  | none => s
  | some (j, low, ok) =>
    let s : State := { s with th := { s.th with darkNow := none } }
    if s.flag F.TH_SOj_STAT_ON j then s.darkSeen j low ok else s

/-- SAFETY_CYCLE_END: at the end of safety cycle k the read-back of every pair is evaluated and the demands are
applied. `hs`, `ls`: the nodes as read back, `oc`: overcurrents, one bit for each pair (R451, R452, R454).
Log 71 (DEDUCED, unsafe). -/
def execSafetyCycleEnd (hs ls oc : Nat) (s : State) : Host.Outcome State Fault Refusal :=
  match s.th.frozenK with
  | none => .next s
  | some k =>
    if s.th.endK = some k ∨ s.thMode = 3 ∨ (s.time.bcn / 4 = k ∧ s.time.bcn % 4 ≠ 3) then .next s
    else
      let s := if s.time.bcn / 4 = k then s.advanceTo (s.time.bcStart + s.lenNs) else s
      let s := match s.th.eval with
        | some x => s.overrunEval x
        | none => s
      let s : State := { s with th := { s.th with endK := some k } }
      let s := s.forEach (List.range 20) (fun j s => s.readBack j (bit hs j) (bit ls j) (bit oc j))
      let s := match s.workImg with
        | none => s.pairsOff
        | some m => s.forEach (List.range 20) (fun j s => s.applyPair m j)
      .next s.darkSettle

/-- OUTPUT_DELAY_EXPIRY: the STOP1 delay of pair `j` ends (R451). -/
def execOutputDelayExpiry (j : Nat) (s : State) : Host.Outcome State Fault Refusal :=
  match s.th.delay.find? (fun e => e.1 = j) with
  | none => .next s
  | some e => .next ((s.advanceToTick e.2).switchPair j false)

/-- The tick at which pair `j` is next pulsed: DARK_PER × 10 ms and at least 20 ms after the last time, the first time `dt`
ticks from now, and after every other pulse (R453). -/
def State.darkStart (s : State) (m : SetImg) (j dt : Nat) : Nat :=
  let own := match s.th.darkAt.find? (fun e => e.1 = j) with
    | some e => max s.time.ticks (e.2 + msTicks (max 20 (10 * oDarkPer m j)))
    | none => s.time.ticks + dt
  max own s.th.darkEnd

/-- The ticks from now to the end of the safety cycle in progress. -/
def State.cycleLeft (s : State) : Nat := (s.time.bcStart + (4 - s.time.bcn % 4) * s.lenNs - s.ctNs) / 2

/-- DARK_PULSE: pair `j` is pulsed for DARK × 10 µs on the side whose turn it is; `ok`: the node followed. A pulse in which
the pair's delay ends is not evaluated, and one that outlasts the safety cycle is evaluated at that cycle's end, if the pair
is still on then (R453, R454). Log 71 (DEDUCED, unsafe). -/
def execDarkPulse (j : Nat) (ok : Bool) (dt : Nat) (s : State) : Host.Outcome State Fault Refusal :=
  match s.workImg with
  | none => .next (s.advance dt)
  | some m =>
    if 20 ≤ j ∨ ¬ s.flag F.TH_SOj_STAT_ON j ∨ s.th.vsioLow then .next (s.advance dt)
    else
      let start := s.darkStart m j dt
      let stop := start + 5000 * oDark m j
      let s := (s.advanceToTick start).darkSettle
      let low := s.th.darkLow.contains j
      let s : State := { s with th := { s.th with
        darkLow := if low then s.th.darkLow.filter (· ≠ j) else s.th.darkLow ++ [j], darkEnd := stop,
        darkAt := s.th.darkAt.filter (fun e => e.1 ≠ j) ++ [(j, start)] } }
      match s.th.delay.find? (fun e => e.1 = j) with
      | some e =>
        if e.2 < stop then .next ((s.advanceToTick e.2).switchPair j false)
        else .next ((s.advanceToTick stop).darkSeen j low ok)
      | none =>
        if ¬ s.time.noBase ∧ start + s.cycleLeft < stop then
          .next { s with th := { s.th with darkNow := some (j, low, ok) } }
        else .next ((s.advanceToTick stop).darkSeen j low ok)

/-! ## Safe command frames (R456 to R458) -/

/-- CMD of a demand (R458, R468). Log 72 (DEDUCED, unsafe). -/
def cmdOf (deg : Bool) (d : Nat) : Nat := if d ≤ 1 then b2n deg else d

/-- The safety data of the command frame: bytes 0 to 135 (R457). -/
def State.commandBytes (s : State) : List Byte :=
  let deg := decide (s.thMode = 2)
  let none_ := s.th.noSet || s.th.doneK.isNone
  let scale := match s.workImg with | some m => gSlsScale m | none => 0
  let entry (g : Nat) : List Byte :=
    let cmd := if none_ then 4 else cmdOf deg (s.fd F.TH_AGn_SSM_DEMAND g)
    leBytes 1 cmd ++ leBytes 1 (s.fd F.TH_AGn_SSM_CAUSE g) ++ leBytes 1 (s.fd F.TH_AGn_SSM_LATCHED g) ++ leBytes 1 0 ++
      leBytes 4 (if cmd = 1 then scale else 0)
  leBytes 1 1 ++ leBytes 1 1 ++ leBytes 1 (b2n deg + 2 * b2n s.th.noSet) ++ leBytes 1 0 ++
    leBytes 4 (s.th.doneK.getD 0) ++ ((List.range 16).map entry).flatten

/-- SAFE_COMMAND_SEND: Thallus hands its command frame to every enabled port at the event-window start, 2.0 µs later
in phase 15, once in each base cycle; not in SAFE_STATE, and not on a standby. The spec gives its INDEX no value: it carries 0
(R93, R445, R457, R574). Log 72 (DEDUCED, unsafe), 106 (DEDUCED, unsafe). -/
def execSafeCommandSend (s : State) : Host.Outcome State Fault Refusal :=
  if s.thMode = 3 ∨ s.time.noBase ∨ s.isStandby ∨ s.th.sentBcn = some s.time.bcn then .next s
  else
    let s := s.advanceTo s.eventOpen
    let d := s.commandBytes
    let id := match s.workImg with | some m => gSafeId m | none => 0
    let crc := crc32c (leBytes 4 id ++ leBytes 4 s.time.bcn ++ d)
    let s : State := { s with th := { s.th with sentBcn := some s.time.bcn } }
    .next (s.forEach ((List.range 8).filter s.portOn) (fun p s =>
      let start := max s.eventOpen s.ctNs * 1280
      (s.takeLine p start 152).klSendAt p (s.stampOf p start)
        (s.klHeader 0x5 (decide (s.netOf p ≠ p)) 0 140 ++ d ++ leBytes 4 crc)))

/-! ## Class A faults, start-up, VSIO -/

/-- CLASS_A_FAULT of diagnostic `item`: 0x01 to 0x07 are of class A (R443, R445). -/
def execClassAFault (item : Nat) (s : State) : Host.Outcome State Fault Refusal :=
  if s.thMode = 3 ∨ item = 0 ∨ 7 < item then .next s else .next (s.classA item)

/-- Thallus as a reset leaves it, and its start-up: the active bank is compared with the stored check value (R477),
a stored record of degraded run is taken up (R471), every start-up latch is held (R467). -/
def State.thStart (s : State) : State :=
  let t := s.th
  let s := s.resetRegs (fun off => blockOf off = 9)
  let s : State := { s with th := { thReset with
    active := t.active, stored := t.stored, record := t.record, vsioLow := t.vsioLow } }
  let m := s.bankImg t.active
  let ok := match t.stored with
    | some v => decide (setCheck m = v)
    | none => false
  let s : State := { s with th := { s.th with
    noSet := !ok, work := if ok then m else [], fresh := ok, crcAt := s.time.ticks } }
  let s := s.setFd F.TH_STAT_NO_SET 0 0 (b2n !ok)
  let s := if ok then (((s.setRg .TH_SET_CRC 0 0 (setCheck m)).thalChannels m).thDecStart m).thBound else s
  match t.record with
  | none => s
  | some (left, fs) =>
    let s : State := { s with th := { s.th with
      recAt := s.time.ticks, staleEnd := s.time.ticks + left, faults := fs.map (fun f => { item := f.1, unit := f.2, need := 2 }) } }
    (s.setFd F.TH_STAT_STATE 0 0 2).thDeg

/-- VSIO falls below 18.0 V or returns above 18.5 V (R631). -/
def State.vsio (s : State) (low : Bool) : State :=
  if s.th.vsioLow = low then s
  else
    let s : State := { s with th := { s.th with vsioLow := low, disc := [] } }
    let s := if low then s.pairsOff else s.notePairs
    s.keyCheck

end Sys2Proof.Machine
end

