-- ==== Sys2Proof/Machine/Float32.lean ====
section
/-!
DEFINITION. IEEE 754 binary32 arithmetic as the binary32 unit computes it (R204): exact results rounded once by RM, and
the five exception flags NX, UF, OF, DZ and NV in bits 0 to 4.
-/

namespace Sys2Proof.Machine

/-- A binary32 number: a NaN, an infinity, or (−1)^s × m × 2^e. -/
inductive Flt where
  | nan (signalling : Bool)
  | inf (s : Bool)
  | num (s : Bool) (m : Nat) (e : Int)
  deriving DecidableEq, Repr

/-- The number a word stands for. -/
def Flt.of (w : Nat) : Flt :=
  let s := bit w 31
  let x := bits w 30 23
  let f := bits w 22 0
  if x = 255 then (if f = 0 then .inf s else .nan (!bit f 22))
  else if x = 0 then .num s f (-149) else .num s (2 ^ 23 + f) ((x : Int) - 150)

/-- Every NaN result (R204). -/
def fltNan : Nat := 0x7FC00000
def fltInf (s : Bool) : Nat := b2n s * 2 ^ 31 + 0x7F800000
def fltZero (s : Bool) : Nat := b2n s * 2 ^ 31

/-- Flag bits of FPSR. -/
def fNX : Nat := 1
def fUF : Nat := 2
def fOF : Nat := 4
def fDZ : Nat := 8
def fNV : Nat := 16

/-- A result: its word, the flags raised, and whether the underflow flag is open: IEEE 754 lets an implementation detect
tininess before or after rounding. -/
structure FltRes where
  word : Nat
  flags : Nat
  ufOpen : Bool
  deriving DecidableEq, Repr

def FltRes.exact (w : Nat) : FltRes := ⟨w, 0, false⟩
def FltRes.invalid : FltRes := ⟨fltNan, fNV, false⟩

/-- Bits of a natural number. -/
def bitLen (n : Nat) : Nat := if n = 0 then 0 else Nat.log2 n + 1

/-- A remainder `r` of `2^k` (and a little more when `sticky`) makes a magnitude with last bit `odd` round up in mode
`rm`, for sign `s`. -/
def roundsUp (rm : Nat) (s odd : Bool) (r k : Nat) (sticky : Bool) : Bool :=
  let inexact := decide (r ≠ 0) || sticky
  match rm with
  | 0 => decide (2 ^ k < 2 * r) || (decide (2 * r = 2 ^ k) && (sticky || odd))
  | 1 => false
  | 2 => s && inexact
  | _ => !s && inexact

/-- A magnitude m × 2^e (and a little more when `sticky`) rounded so that its unit is 2^(e + k). -/
def roundAt (rm : Nat) (s : Bool) (m k : Nat) (sticky : Bool) : Nat :=
  let q := m / 2 ^ k
  if roundsUp rm s (decide (q % 2 = 1)) (m % 2 ^ k) k sticky then q + 1 else q

/-- (−1)^s × m × 2^e, or a little more in magnitude when `sticky`, rounded to binary32. Log 49 (DESIGN CHOICE, safe). -/
def fltRound (rm : Nat) (s : Bool) (m : Nat) (e : Int) (sticky : Bool) : FltRes :=
  if m = 0 then .exact (fltZero s)
  else
    let norm : Int := (bitLen m : Int) - 24
    let sh := max norm (-149 - e)
    let k := sh.toNat
    let m' := m * 2 ^ (-sh).toNat
    let q := roundAt rm s m' k sticky
    let inexact := decide (m' % 2 ^ k ≠ 0) || sticky
    let e' := e + sh
    let (q, e') := if q = 2 ^ 24 then (2 ^ 23, e' + 1) else (q, e')
    if 2 ^ 23 ≤ q ∧ 104 < e' then
      let big := match rm with
        | 0 => true
        | 1 => false
        | 2 => s
        | _ => !s
      ⟨if big then fltInf s else b2n s * 2 ^ 31 + 0x7F7FFFFF, fOF + fNX, false⟩
    else
      let w := if q < 2 ^ 23 then q else ((e' + 150).toNat) * 2 ^ 23 + (q - 2 ^ 23)
      let tinyBefore := decide ((bitLen m : Int) + e < -125)
      let free := roundAt rm s (m * 2 ^ (-norm).toNat) norm.toNat sticky
      let tinyAfter := tinyBefore && !(decide (free = 2 ^ 24) && decide ((bitLen m : Int) + e = -126))
      let uf := inexact && tinyAfter
      ⟨b2n s * 2 ^ 31 + w, b2n inexact * fNX + b2n uf * fUF, inexact && tinyBefore && !tinyAfter⟩

/-- A signed integer times 2^e rounded to binary32; an exact zero takes sign `z`. -/
def fltRoundInt (rm : Nat) (i : Int) (e : Int) (z : Bool) : FltRes :=
  if i = 0 then .exact (fltZero z) else fltRound rm (decide (i < 0)) i.natAbs e false

/-- The result of an operation with a NaN operand: NV for a signalling one. -/
def fltNanRes (a b : Flt) : FltRes :=
  let sig (x : Flt) : Bool := match x with
    | .nan t => t
    | _ => false
  ⟨fltNan, if sig a || sig b then fNV else 0, false⟩

def Flt.isNan : Flt → Bool
  | .nan _ => true
  | _ => false

/-- The sign flipped. -/
def Flt.neg : Flt → Flt
  | .nan t => .nan t
  | .inf s => .inf (!s)
  | .num s m e => .num (!s) m e

/-- A signed magnitude. -/
def signedMag (s : Bool) (m : Nat) : Int := if s then -(m : Int) else m

def fltAdd (rm : Nat) (a b : Flt) : FltRes :=
  match a, b with
  | .nan _, _ | _, .nan _ => fltNanRes a b
  | .inf s, .inf t => if s = t then .exact (fltInf s) else .invalid
  | .inf s, _ => .exact (fltInf s)
  | _, .inf t => .exact (fltInf t)
  | .num s m e, .num t n f =>
    let g := min e f
    let x := signedMag s (m * 2 ^ (e - g).toNat) + signedMag t (n * 2 ^ (f - g).toNat)
    fltRoundInt rm x g (if s = t then s else decide (rm = 2))

def fltMul (rm : Nat) (a b : Flt) : FltRes :=
  match a, b with
  | .nan _, _ | _, .nan _ => fltNanRes a b
  | .inf s, .inf t => .exact (fltInf (s != t))
  | .inf s, .num t n _ => if n = 0 then .invalid else .exact (fltInf (s != t))
  | .num s m _, .inf t => if m = 0 then .invalid else .exact (fltInf (s != t))
  | .num s m e, .num t n f => fltRound rm (s != t) (m * n) (e + f) false

def fltDiv (rm : Nat) (a b : Flt) : FltRes :=
  match a, b with
  | .nan _, _ | _, .nan _ => fltNanRes a b
  | .inf _, .inf _ => .invalid
  | .inf s, .num t _ _ => .exact (fltInf (s != t))
  | .num s _ _, .inf t => .exact (fltZero (s != t))
  | .num s m e, .num t n f =>
    if n = 0 then (if m = 0 then .invalid else ⟨fltInf (s != t), fDZ, false⟩)
    else fltRound rm (s != t) (m * 2 ^ 50 / n) (e - f - 50) (decide (m * 2 ^ 50 % n ≠ 0))

def fltSqrt (rm : Nat) (a : Flt) : FltRes :=
  match a with
  | .nan _ => fltNanRes a a
  | .inf s => if s then .invalid else .exact (fltInf false)
  | .num s m e =>
    if m = 0 then .exact (fltZero s)
    else if s then .invalid
    else
      let odd := (e % 2).toNat
      let x := m * 2 ^ (60 + odd)
      let r := rootBelow 2 x 64 0
      fltRound rm false r ((e - odd - 60) / 2) (decide (r * r ≠ x))

/-- The order of two numbers that are not NaN: a is below b. -/
def fltLess (a b : Flt) : Bool :=
  match a, b with
  | .inf s, .inf t => s && !t
  | .inf s, .num _ _ _ => s
  | .num _ _ _, .inf t => !t
  | .num s m e, .num t n f =>
    let g := min e f
    decide (signedMag s (m * 2 ^ (e - g).toNat) < signedMag t (n * 2 ^ (f - g).toNat))
  | _, _ => false

/-- Comparisons: `quiet` ones signal only a signalling NaN. The result and the flags. -/
def fltCompare (quiet : Bool) (p : Flt → Flt → Bool) (a b : Flt) : Nat × Nat :=
  if a.isNan || b.isNan then (0, if quiet then (fltNanRes a b).flags else fNV) else (b2n (p a b), 0)

def fltEq (a b : Flt) : Bool := !fltLess a b && !fltLess b a
def fltLe (a b : Flt) : Bool := !fltLess b a

/-- A number times 2^sh as a saturated signed 32-bit word, rounded by RM; NaN gives 0 and NV (R204).
Log 49 (DESIGN CHOICE, safe). -/
def fltToInt (rm sh : Nat) (a : Flt) : Nat × Nat :=
  match a with
  | .nan _ => (0, fNV)
  | .inf s => (if s then 0x80000000 else 0x7FFFFFFF, fNV)
  | .num s m e =>
    let e := e + sh
    let k := (-e).toNat
    let m' := m * 2 ^ e.toNat
    let i := signedMag s (roundAt rm s m' k false)
    if i < -(2 ^ 31) ∨ 2 ^ 31 ≤ i then (sat32 i, fNV) else (ofSigned 32 i, b2n (decide (m' % 2 ^ k ≠ 0)) * fNX)

end Sys2Proof.Machine
end

