-- ==== Sys2Proof/Machine/Solver.lean ====
section
/-!
DEFINITION. The planning problem and its solver (R291 to R295, R301, R304 to R307): trajectories, bounds, linearised efforts
and distances, the objective, the starts, and the interior-point iterations. The rows of the problem and the steps between
two iterates have no class the spec names: they are exact, and the accelerations of an iterate are words of their joints'
classes.
-/

namespace Sys2Proof.Machine

/-! ## The problem in IN (R297) -/

/-- The arm groups of a problem, ascending. -/
def inGroups (b : List Byte) : List Nat := bitIndices (fieldAt b 2 2) 16
def inNax (b : List Byte) : Nat := fieldAt b 4 2
def inCoup (b : List Byte) : Nat := fieldAt b 6 2
def inSteps (b : List Byte) : Nat := fieldAt b 1 1

/-- Byte offsets of arm group block `i`, axis block `j` and coupling entry `c`. -/
def inGroupAt (i : Nat) : Nat := 16 + 8 * i
def inAxisAt (b : List Byte) (j : Nat) : Nat := 16 + 8 * (inGroups b).length + 128 * j
def inCoupAt (b : List Byte) (c : Nat) : Nat := inAxisAt b (inNax b) + 12 * c

/-! ## Stored plans (R313): OUT from byte 16 on -/

def planT0 (p : List Byte) : Nat := fieldAt p 0 8
def planVf (p : List Byte) : Nat := fieldAt p 8 8
def planDt (p : List Byte) : Nat := fieldAt p 16 4
def planSteps (p : List Byte) : Nat := fieldAt p 20 1
def planShifts (p : List Byte) : Nat := fieldAt p 21 1
def planGroups (p : List Byte) : Nat := fieldAt p 22 2
def planStoredSig (p : List Byte) : Nat := fieldAt p 36 4

/-- CT ns at which a plan's horizon ends. -/
def planEndNs (p : List Byte) : Nat := planT0 p + planSteps p * 2 * planDt p

/-- The word of the acceleration of axis `j` at knot `k` of a stored plan. -/
def planQdd (p : List Byte) (j k : Nat) : Int := signedAt p (60 + 112 * j + 4 * k) 4

/-! ## Axes of a problem -/

/-- An axis of a problem: its arm group's place and its own in it, its joint type, its limits (R18, R292), and its initial
state, weights and references (R297). -/
structure PlanAxis where
  arm : Nat
  idx : Nat
  prismatic : Bool
  posMin : ℚ
  posMax : ℚ
  velMax : ℚ
  accMax : ℚ
  jerkMax : ℚ
  effMax : ℚ
  q0 : ℚ
  qd0 : ℚ
  qdd0 : ℚ
  wPos : ℚ
  wAcc : ℚ
  wJerk : ℚ
  ref : List ℚ
  deriving DecidableEq, Repr

/-- Axis `i` of the `a`-th arm group of a problem, the `j`-th axis block; VEL_MAX is scaled by the arm group's VSCALE. -/
def planAxis (b : List Byte) (r : PlanArm) (a i j : Nat) : PlanAxis :=
  let x := r.axes.getD i []
  let o := inAxisAt b j
  let pr := !axRotary x
  let f := classFrac (posClass pr)
  let w (n : Nat) : ℚ := (n : ℚ) / (2 ^ 16 : Nat)
  { arm := a, idx := i, prismatic := pr, posMin := wordVal f (axPosMin x), posMax := wordVal f (axPosMax x),
    velMax := w (axVelMax x) * valAt b (inGroupAt a + 4) 30, accMax := w (axAccMax x), jerkMax := w (axJerkMax x),
    effMax := w (axEffortMax x), q0 := valAt b (o + 4) f, qd0 := valAt b (o + 8) 16, qdd0 := valAt b (o + 12) 16,
    wPos := w (fieldAt b (o + 16) 4), wAcc := w (fieldAt b (o + 20) 4), wJerk := w (fieldAt b (o + 24) 4),
    ref := (List.range 25).map (fun k => valAt b (o + 28 + 4 * k) f) }

/-- The axes of a problem, in the order of IN. -/
def planAxesFrom (b : List Byte) : List PlanArm → Nat → Nat → List PlanAxis
  | [], _, _ => []
  | r :: rs, a, j =>
    (List.range (agAxes r.arm)).map (fun i => planAxis b r a i (j + i)) ++ planAxesFrom b rs (a + 1) (j + agAxes r.arm)

/-- The axes of the problem that computes. -/
def KnSolve.axes (p : KnSolve) : List PlanAxis := planAxesFrom p.input p.arms 0 0

/-- The step length in seconds. -/
def KnDesc.stepSec (d : KnDesc) : ℚ := (2 * d.fld 40 4 : Nat) / (10 ^ 9 : Nat)

/-! ## Trajectories (R291) -/

/-- An affine function of the plan's variables: a constant, and a coefficient for each variable. -/
structure Aff where
  c : ℚ
  a : List ℚ
  deriving DecidableEq, Repr

def Aff.const (n : Nat) (c : ℚ) : Aff := ⟨c, List.replicate n 0⟩
def Aff.var (n i : Nat) : Aff := ⟨0, (List.replicate n 0).set i 1⟩
def Aff.add (x y : Aff) : Aff := ⟨x.c + y.c, List.zipWith (· + ·) x.a y.a⟩
def Aff.scale (k : ℚ) (x : Aff) : Aff := ⟨k * x.c, x.a.map (k * ·)⟩
def Aff.sub (x y : Aff) : Aff := x.add (y.scale (-1))
/-- The value of an affine function, and its linear part, at a point. -/
def Aff.lin (x : Aff) (v : List ℚ) : ℚ := (List.zipWith (· * ·) x.a v).sum
def Aff.at_ (x : Aff) (v : List ℚ) : ℚ := x.c + x.lin v

/-- Position, speed and acceleration of an axis at a knot. -/
structure Knot where
  q : Aff
  qd : Aff
  qdd : Aff
  deriving DecidableEq, Repr

/-- The knots after one, for the accelerations that follow: exact integration (R291). -/
def knotsAfter (dt : ℚ) (k : Knot) : List Aff → List Knot
  | [] => []
  | u :: us =>
    let n : Knot :=
      { q := (k.q.add (k.qd.scale dt)).add (((k.qdd.scale 2).add u).scale (dt * dt / 6)),
        qd := k.qd.add ((k.qdd.add u).scale (dt / 2)), qdd := u }
    n :: knotsAfter dt n us

/-- Knots 0 to N of axis `j` of `m` axes: knot 0 is the fixed initial state, and the variables are the accelerations at
knots 1 to N, axis by axis. -/
def PlanAxis.knots (x : PlanAxis) (dt : ℚ) (n m j : Nat) : List Knot :=
  let k0 : Knot := { q := .const (m * n) x.q0, qd := .const (m * n) x.qd0, qdd := .const (m * n) x.qdd0 }
  k0 :: knotsAfter dt k0 ((List.range n).map (fun k => .var (m * n) (j * n + k)))

/-! ## Starts (R304, R305) -/

/-- A cold start: the second difference of the references, clamped; the last knot takes its predecessor's (R305). -/
def PlanAxis.cold (x : PlanAxis) (dt : ℚ) (n : Nat) : List ℚ :=
  let r (k : Nat) : ℚ := if k = 0 then x.q0 else x.ref.getD k 0
  let l := (List.range (n - 1)).map (fun k =>
    max (-x.accMax) (min x.accMax ((r (k + 2) - 2 * r (k + 1) + r k) / (dt * dt))))
  l ++ [l.getLastD x.qdd0]

/-- The acceleration of axis `j` of a stored plan at an instant, CT ns: linear between knots, that of the last knot after
it (R291, R304). Before its first knot it is that of knot 0. Log 101 (DESIGN CHOICE, unsafe). -/
def storedQdd (p : List Byte) (j t : Nat) : ℚ :=
  let dt := 2 * planDt p
  let e := t - planT0 p
  let v (k : Nat) : ℚ := wordVal 16 (planQdd p j k)
  let k := if dt = 0 then planSteps p else min (planSteps p) (e / dt)
  if k = planSteps p then v k else v k + (v (k + 1) - v k) * ((e - k * dt : Nat) : ℚ) / dt

/-- The knot of a stored plan nearest to an instant, 1 to its last; of two the earlier.
Log 101 (DESIGN CHOICE, unsafe). -/
def nearestKnot (p : List Byte) (t : Nat) : Nat :=
  let dt := 2 * planDt p
  if dt = 0 then 1 else max 1 (min (planSteps p) ((t - planT0 p + (dt - 1) / 2) / dt))

/-- CT ns of knot `k` of the plan a descriptor asks for. -/
def KnDesc.knotNs (d : KnDesc) (k : Nat) : Nat := d.fld 32 8 + k * 2 * d.fld 40 4

/-- The start trajectory: the accelerations at knots 1 to N, axis by axis, as words of their classes (R304, R305). -/
def KnSolve.start (p : KnSolve) (x : Lanes) : Calc (List ℚ) :=
  let n := inSteps p.input
  (p.axes.zipIdx.flatMap (fun e =>
    let l := match p.warm with
      | some old => (List.range n).map (fun k => storedQdd old e.2 (p.desc.knotNs (k + 1)))
      | none => e.1.cold p.desc.stepSec n
    l.map (fun v => (accClass e.1.prismatic, v)))).mapM (fun e => x.narrow e.1 e.2)

/-! ## Bounds (R292 to R294) -/

/-- The arm of an arm group of a plan. -/
def PlanArm.model_ (r : PlanArm) : Arm := armOf r.arm r.model

/-- The linearisation trajectory of an arm group at knot `k`: positions, speeds and accelerations of its axes, as words. -/
def linPoint (x : Lanes) (axes : List PlanAxis) (kn : List (List Knot)) (v : List ℚ) (arm k : Nat) :
    Calc (List (ℚ × ℚ × ℚ)) :=
  ((axes.zip kn).filter (fun e => decide (e.1.arm = arm))).mapM (fun e => do
    let n := e.2.getD k ⟨⟨0, []⟩, ⟨0, []⟩, ⟨0, []⟩⟩
    let pr := e.1.prismatic
    .ok (← x.narrow (posClass pr) (n.q.at_ v), ← x.narrow (velClass pr) (n.qd.at_ v), ← x.narrow (accClass pr) (n.qdd.at_ v)))

/-- The linearised efforts of an arm group's axes at knot `k` (R293): RNEA with TERMS 0x3F at the linearisation point, and
the joint-space inertia there times the change of the accelerations. -/
def effortRows (x : Lanes) (axes : List PlanAxis) (kn : List (List Knot)) (v : List ℚ) (r : PlanArm) (arm k nv : Nat) :
    Calc (List Aff) := do
  let pt ← linPoint x axes kn v arm k
  let a := r.model_
  let fs ← x.frames a (pt.map Prod.fst)
  let tau ← x.efforts a 0x3F fs (pt.map (·.2.1)) (pt.map (·.2.2))
  let cols ← x.massCols a 0x30 fs
  let dev := (((axes.zip kn).filter (fun e => decide (e.1.arm = arm))).zip pt).map (fun e =>
    ((((e.1.2)[k]?.map Knot.qdd).getD (.const nv 0)).sub (.const nv e.2.2.2)).scale (if e.1.1.prismatic then 1 / 1000 else 1))
  .ok (tau.zipIdx.map (fun e =>
    (cols.zip dev).foldl (fun t c => t.add (c.2.scale (c.1.getD e.2 0))) (.const nv e.1)))

/-- The capsule `c` of an arm group: its end points in the cell frame and its radius. -/
def capsuleOf (x : Lanes) (r : PlanArm) (fs : Pose × List LinkFrame) (c : Nat) : Calc ((V3 × V3) × ℚ) := do
  let rec_ := r.caps.getD c []
  let ends : V3 × V3 ← (if fieldAt rec_ 2 1 = 0xFF then .ok (vecAt rec_ 4 16, vecAt rec_ 16 16) else x.capsule fs rec_)
  .ok (ends, (fieldAt rec_ 28 4 : ℚ) / (2 ^ 16 : Nat))

/-- The projection of an arm group's Jacobian, at a point that its capsule's link carries, onto a unit vector. -/
def projected (x : Lanes) (r : PlanArm) (fs : Pose × List LinkFrame) (c : Nat) (p u : V3) : Calc (List ℚ) := do
  let cols ← x.jacAt r.model_ fs (fieldAt (r.caps.getD c []) 2 1) p
  cols.mapM (fun e => x.dot 46 11 [(e.1.x, u.x), (e.1.y, u.y), (e.1.z, u.z)])

/-- The unit vector from the closest point of B to that of A; where the segments intersect, from the midpoint of B to the
midpoint of A, and where those coincide +z (R294). -/
def pairUnit (x : Lanes) (pa pb a0 a1 b0 b1 : V3) : Calc V3 :=
  let v := pa.sub pb
  let m := (along a0 a1 (1 / 2)).sub (along b0 b1 (1 / 2))
  if v ≠ V3.zero then x.unitVec v else if m ≠ V3.zero then x.unitVec m else .ok ⟨0, 0, 1⟩

/-- The linearised distance of a coupling entry, less D_MIN, in its scale: the larger of D_MIN and 1 mm (R294, R306). -/
def couplingRow (x : Lanes) (p : KnSolve) (axes : List PlanAxis) (kn : List (List Knot)) (v : List ℚ) (c nv : Nat) :
    Calc Aff := do
  let b := p.input
  let o := inCoupAt b c
  let k := fieldAt b o 1
  let dMin := valAt b (o + 8) 16
  let side (g : Nat) : Nat := p.arms.findIdx (fun r => decide (r.group = g))
  let ia := side (fieldAt b (o + 1) 1)
  let ib := side (fieldAt b (o + 3) 1)
  match p.arms[ia]?, p.arms[ib]? with
  | some ra, some rb =>
    let ca := fieldAt b (o + 2) 1
    let cb := fieldAt b (o + 4) 1
    let qa ← linPoint x axes kn v ia k
    let qb ← linPoint x axes kn v ib k
    let fa ← x.frames ra.model_ (qa.map Prod.fst)
    let fb ← x.frames rb.model_ (qb.map Prod.fst)
    let ((a0, a1), r1) ← capsuleOf x ra fa ca
    let ((b0, b1), r2) ← capsuleOf x rb fb cb
    let (pa, pb) := closest a0 a1 b0 b1
    let d ← x.length 0 (pa.sub pb)
    let u ← pairUnit x pa pb a0 a1 b0 b1
    let ga ← projected x ra fa ca pa u
    let gb ← projected x rb fb cb pb (u.scale (-1))
    let part (i : Nat) (q : List (ℚ × ℚ × ℚ)) (g : List ℚ) : Aff :=
      ((((axes.zip kn).filter (fun e => decide (e.1.arm = i))).zip (q.zip g)).map (fun e =>
        ((((e.1.2)[k]?.map Knot.q).getD (.const nv 0)).sub (.const nv e.2.1.1)).scale e.2.2)).foldl Aff.add (.const nv 0)
    .ok ((((Aff.const nv (d - r1 - r2 - dMin)).add (part ia qa ga)).add (part ib qb gb)).scale (1 / max dMin 1))
  | _, _ => .ok (.const nv 0)

/-- Both sides of a bound |y| ≤ lim, as functions that are not negative within it, in the scale of `lim`. -/
def within (lim : ℚ) (y : Aff) : List Aff :=
  let n := y.a.length
  [(((Aff.const n lim).sub y).scale (1 / lim)), (((Aff.const n lim).add y).scale (1 / lim))]

/-- The ten bounds of an axis at knot `k`, each in its scale (R292, R306). -/
def knotBounds (x : PlanAxis) (dt : ℚ) (kn : List Knot) (effort : Aff) (k : Nat) : List Aff :=
  match kn[k - 1]?, kn[k]? with
  | some p, some n =>
    let m := n.q.a.length
    let r := x.posMax - x.posMin
    [(n.q.sub (.const m x.posMin)).scale (1 / r), ((Aff.const m x.posMax).sub n.q).scale (1 / r)] ++
      within x.velMax n.qd ++ within x.accMax n.qdd ++ within (x.jerkMax * dt) (n.qdd.sub p.qdd) ++
      within x.effMax effort
  | _, _ => []

/-! ## The quadratic programme (R295) -/

/-- A quadratic programme: the class of each variable, the weighted squares to minimise, and the functions that must not be
negative, each in its scale. -/
structure Programme where
  classes : List Nat
  cost : List (ℚ × Aff)
  rows : List Aff
  deriving DecidableEq, Repr

/-- The weighted squares of an axis (R295). -/
def axisCost (x : PlanAxis) (dt : ℚ) : Knot → List Knot → Nat → List (ℚ × Aff)
  | _, [], _ => []
  | p, n :: r, k =>
    let m := n.q.a.length
    [(x.wPos, (n.q.sub (.const m (x.ref.getD k 0))).scale (1 / (x.posMax - x.posMin))),
      (x.wAcc, n.qdd.scale (1 / x.accMax)), (x.wJerk, (n.qdd.sub p.qdd).scale (1 / (x.jerkMax * dt)))] ++
      axisCost x dt n r (k + 1)

/-- The programme of a solve, linearised on the trajectory `v` (R292 to R295, R301). -/
def KnSolve.programme (p : KnSolve) (x : Lanes) (v : List ℚ) : Calc Programme := do
  let n := inSteps p.input
  let axes := p.axes
  let m := axes.length
  let dt := p.desc.stepSec
  let kn := axes.zipIdx.map (fun e => e.1.knots dt n m e.2)
  let eff ← p.arms.zipIdx.mapM (fun e => (List.range n).mapM (fun k => effortRows x axes kn v e.1 e.2 (k + 1) (m * n)))
  let bounds := (axes.zip kn).flatMap (fun e => (List.range n).flatMap (fun k =>
    knotBounds e.1 dt e.2 ((((eff.getD e.1.arm []).getD k []).getD e.1.idx (.const (m * n) 0))) (k + 1)))
  let coup ← (List.range (inCoup p.input)).mapM (fun c => couplingRow x p axes kn v c (m * n))
  let rows ← (bounds ++ coup).mapM (fun r => do
    .ok { c := ← x.planWord 6 r.c, a := ← r.a.mapM (x.planWord 7) : Aff })
  .ok { classes := axes.flatMap (fun a => List.replicate n (accClass a.prismatic)),
        cost := (axes.zip kn).flatMap (fun e => match e.2 with
          | k0 :: r => axisCost e.1 dt k0 r 1
          | [] => []),
        rows := rows }

/-! ## Interior-point iterations (R304 to R307) -/

/-- An iterate: accelerations, slacks and duals in their scales, and the factor of the step that led to it. -/
structure Iterate where
  x : List ℚ
  s : List ℚ
  z : List ℚ
  step : ℚ
  deriving DecidableEq, Repr

/-- The duals of a warm start: those of the nearest stored knot, and of the coupling entry of the same index (R304). -/
def KnSolve.warmDuals (p : KnSolve) (old : List Byte) : List ℚ :=
  let n := inSteps p.input
  let m := inNax p.input
  ((List.range m).flatMap (fun j => (List.range n).flatMap (fun k =>
    (List.range 10).map (fun t =>
      p.duals.getD ((j * n + (nearestKnot old (p.desc.knotNs (k + 1)) - 1)) * 10 + t) 0)))) ++
    (List.range (inCoup p.input)).map (fun c => p.duals.getD (m * n * 10 + c) 0)

/-- The first iterate: on a warm start slacks and duals are raised to at least 2^-8, on a cold start they are 1 (R304,
R305). A warm slack is the value of its bound. Log 101 (DESIGN CHOICE, unsafe). -/
def KnSolve.first (p : KnSolve) (g : Programme) (v : List ℚ) : Iterate :=
  let low : ℚ := 1 / (2 ^ 8 : Nat)
  match p.warm with
  | some old =>
    { x := v, s := g.rows.map (fun r => max low (r.at_ v)), z := (p.warmDuals old).map (max low), step := 1 }
  | none => { x := v, s := g.rows.map (fun _ => 1), z := g.rows.map (fun _ => 1), step := 1 }

/-- A solution of the Newton system for complementarity residuals `rc`: the changes of variables, slacks and duals. -/
def Programme.newton (g : Programme) (it : Iterate) (rc : List ℚ) : Option (List ℚ × List ℚ × List ℚ) :=
  let nv := g.classes.length
  let rp := List.zipWith (fun r s => r.at_ it.x - s) g.rows it.s
  let add (t : List ℚ) (k : ℚ) (a : List ℚ) : List ℚ := List.zipWith (fun t a => t + k * a) t a
  let zero := List.replicate nv (0 : ℚ)
  let grad := (g.rows.zip it.z).foldl (fun t e => add t (-e.2) e.1.a)
    (g.cost.foldl (fun t e => add t (2 * e.1 * e.2.at_ it.x) e.2.a) zero)
  let weight := (g.rows.zip (it.s.zip it.z)).map (fun e => (e.2.2 / e.2.1, e.1.a)) ++ g.cost.map (fun e => (2 * e.1, e.2.a))
  let right := (g.rows.zip (it.s.zip (it.z.zip (rp.zip rc)))).foldl (fun t e =>
    let (r, s, z, p, c) := e
    add t (-(z * p + c) / s) r.a) (grad.map (-·))
  let rows := (List.range nv).map (fun i =>
    weight.foldl (fun t w => add t (w.1 * w.2.getD i 0) w.2) zero ++ [right.getD i 0])
  (solveRows nv rows).map (fun dx =>
    let ds := List.zipWith (fun r p => r.lin dx + p) g.rows rp
    let dz := (it.s.zip (it.z.zip (ds.zip rc))).map (fun e => (-e.2.2.2 - e.2.1 * e.2.2.1) / e.1)
    (dx, ds, dz))

/-- The largest step that keeps every one of a list of values and changes positive; none where no value falls. -/
def maxStep : List (ℚ × ℚ) → Option ℚ
  | [] => none
  | (v, d) :: r =>
    match decide (d < 0), maxStep r with
    | true, some m => some (min m (-v / d))
    | true, none => some (-v / d)
    | false, m => m

/-- The words of a Newton step: the changes of accelerations, slacks and duals. -/
def Lanes.stepWords (x : Lanes) (d : List ℚ × List ℚ × List ℚ) : Calc (List ℚ × List ℚ × List ℚ) := do
  .ok (← d.1.mapM (x.planWord 2), ← d.2.1.mapM (x.planWord 3), ← d.2.2.mapM (x.planWord 4))

/-- A slack (`v` 0) or dual (`v` 1) after a step: a word above 0. Log 101 (DESIGN CHOICE, unsafe). -/
def Lanes.positive (x : Lanes) (v : Nat) (q : ℚ) : Calc ℚ := do .ok (max (x.planLeast v) (← x.planWord v q))

/-- One iteration: predictor, corrector towards the fraction `sigma` of the mean product, and a step of 0.995 times the
largest that keeps every slack and dual positive, at most a whole one. The accelerations narrow to words.
Log 101 (DESIGN CHOICE, unsafe). -/
def Programme.iterate (g : Programme) (x : Lanes) (sigma : ℚ) (it : Iterate) : Calc Iterate := do
  let prod := List.zipWith (· * ·) it.s it.z
  let mu := prod.sum / prod.length
  match g.newton it prod with
  | none => .error (divTrap none none)
  | some p =>
    let (_, ds, dz) ← x.stepWords p
    let rc := (prod.zip (ds.zip dz)).map (fun e => e.1 + e.2.1 * e.2.2 - sigma * mu)
    match g.newton it rc with
    | none => .error (divTrap none none)
    | some p =>
      let (dx, ds, dz) ← x.stepWords p
      let al ← x.planWord 5 (match maxStep (it.s.zip ds ++ it.z.zip dz) with
        | some m => min 1 (m * 995 / 1000)
        | none => 1)
      let new ← (g.classes.zip (it.x.zip dx)).mapM (fun e => x.narrow e.1 (e.2.1 + al * e.2.2))
      .ok { x := new, s := ← (it.s.zip ds).mapM (fun e => x.positive 0 (e.1 + al * e.2)),
            z := ← (it.z.zip dz).mapM (fun e => x.positive 1 (e.1 + al * e.2)), step := al }

/-- A residual as an unsigned word with FRAC 30, saturated (R306). -/
def residualWord (q : ℚ) : Nat := min (valWord 30 q).toNat 0xFFFFFFFF

/-- RES_PRI: the largest violation of a bound by an iterate, in the bound's scale (R306). -/
def Programme.resPri (g : Programme) (it : Iterate) : Nat :=
  residualWord (g.rows.foldl (fun t r => max t (-(r.at_ it.x))) 0)

/-- GAP: the mean product of slack and dual (R306). -/
def Iterate.gap (it : Iterate) : Nat :=
  let prod := List.zipWith (· * ·) it.s it.z
  residualWord (prod.sum / prod.length)

/-- How a run of iterations ends: the iterations completed, the last iterate, its RES_PRI and GAP, whether it converged or
stalled, and a trip that abandoned the next iteration. -/
structure RunEnd where
  iters : Nat
  last : Option Iterate
  resPri : Nat
  gap : Nat
  done : Bool
  stall : Bool
  trap : Option Trap
  deriving DecidableEq, Repr

/-- A run that ends before a first iteration. -/
def RunEnd.early (t : Option Trap) : RunEnd :=
  { iters := 0, last := none, resPri := 0, gap := 0, done := false, stall := false, trap := t }

/-- At most `m` more iterations after those of `e`, from the iterate `it`: they end at convergence, at a stall (a step factor
below 2^-10 in 3 consecutive iterations; `small` counts them), or at a trip (R306, R307). -/
def Programme.run (g : Programme) (x : Lanes) (sigma : Nat → ℚ) (tolPri tolGap : Nat) :
    Nat → Nat → Iterate → RunEnd → RunEnd
  | 0, _, _, e => e
  | m + 1, small, it, e =>
    match g.iterate x (sigma e.iters) it with
    | .error t => { e with trap := some t }
    | .ok new =>
      let small := if new.step * 1024 < 1 then small + 1 else 0
      let n : RunEnd := { iters := e.iters + 1, last := some new, resPri := g.resPri new, gap := new.gap,
                          done := false, stall := false, trap := none }
      if n.resPri ≤ tolPri ∧ n.gap ≤ tolGap then { n with done := true }
      else if 3 ≤ small then { n with stall := true }
      else g.run x sigma tolPri tolGap m small new n

/-- The lanes that a solve uses: the range table it captured (R257). -/
def KnSolve.lanes (p : KnSolve) : Lanes :=
  { bounds := (p.table.take 13).map (fun e => e.2.2), exact := false, plan := p.table.drop 16 }

/-- What a solve takes: its descriptor, IN, the models of its arm groups and the range table, as numbers (R255). -/
def KnSolve.taken (p : KnSolve) : List Nat :=
  (p.desc.bytes ++ p.input ++ p.arms.flatMap PlanArm.model).map (·.toNat) ++
    p.table.flatMap (fun e => [e.1, b2n e.2.1, ofSigned 32 e.2.2.1, ofSigned 32 e.2.2.2])

/-- The fraction of the mean product that the corrector of iteration `n` aims at, at most 1.
Log 101 (DESIGN CHOICE, unsafe). -/
def KnSolve.sigma (p : KnSolve) (n : Nat) : ℚ :=
  ((Config.planSigma p.taken n % (2 ^ 32 + 1) : Nat) : ℚ) / (2 ^ 32 : Nat)

/-- A solve that has time for `m` iterations (R255, R304 to R307). -/
def KnSolve.run (p : KnSolve) (m : Nat) : RunEnd :=
  let x := p.lanes
  match (p.start x).bind (fun v => (p.programme x v).map (fun g => (v, g))) with
  | .error t => .early (some t)
  | .ok (v, g) =>
    g.run x p.sigma (p.desc.fld 44 4) (p.desc.fld 48 4) (min m (p.desc.fld 28 1)) 0 (p.first g v) (.early none)

end Sys2Proof.Machine
end

