-- ==== Sys2Proof/Machine/Planner.lean ====
section
/-!
DEFINITION. Plans (chapter 08): the checks of a problem, its signature, starts, ends and results, slots, and adoption.
-/

namespace Sys2Proof.Machine

/-! ## Checks of a problem (R297, R300) -/

/-- The structure signature (R302). -/
def planSig (b : List Byte) : Nat :=
  let part (o n : Nat) : List Byte := (b.drop o).take n
  crc32c (part 1 1 ++ ((List.range (inGroups b).length).flatMap (fun i => part (inGroupAt i) 4)) ++ part 6 2 ++
    ((List.range (inCoup b)).flatMap (fun c => part (inCoupAt b c) 2 ++ part (inCoupAt b c + 3) 1)))

/-- The axes of the problem by their arm groups' snapshots: arm group, index in it, axis number. -/
def State.problemAxes (s : State) (b : List Byte) : List (Nat × Nat × Nat) :=
  (inGroups b).flatMap (fun g =>
    let r := s.agRec g
    (List.range (agAxes r)).map (fun i => (g, i, agFirst r + i)))

/-- Check 2 of R300. -/
def State.problemGroupsOk (s : State) (b : List Byte) : Bool :=
  ((inGroups b).zipIdx.all (fun e =>
    let o := inGroupAt e.2
    let r := s.agRec e.1
    decide (fieldAt b o 1 = e.1 ∧ fieldAt b (o + 1) 1 = agAxes r ∧ fieldAt b (o + 2) 2 = agFirst r))) &&
    decide (inNax b = ((inGroups b).map (fun g => agAxes (s.agRec g))).sum)

/-- Check 4 of R300. -/
def State.problemAxesOk (s : State) (b : List Byte) : Bool :=
  ((s.problemAxes b).zipIdx.all (fun e =>
    let (g, i, a) := e.1
    let o := inAxisAt b e.2
    let r := s.agAxis g i
    decide (fieldAt b o 2 = a ∧ 0 < fieldAt b (o + 20) 4 ∧ axPosMin r < axPosMax r ∧ 0 < axVelMax r ∧ 0 < axAccMax r ∧
      0 < axJerkMax r ∧ 0 < axEffortMax r))) &&
    (List.range (inGroups b).length).all (fun i =>
      let v := signedAt b (inGroupAt i + 4) 4
      decide (0 < v ∧ v ≤ 2 ^ 30))

/-- Check 5 of R300. -/
def State.problemCoupOk (s : State) (b : List Byte) : Bool :=
  (List.range (inCoup b)).all (fun c =>
    let o := inCoupAt b c
    let capOk (g i : Nat) : Bool := (inGroups b).contains g && decide (i < agCapsules (s.agRec g)) &&
      bit (fieldAt (s.agCapsule g i) 3 1) 0
    let (ga, ca, gb, cb) := (fieldAt b (o + 1) 1, fieldAt b (o + 2) 1, fieldAt b (o + 3) 1, fieldAt b (o + 4) 1)
    decide (1 ≤ fieldAt b o 1 ∧ fieldAt b o 1 ≤ fieldAt b 1 1) && capOk ga ca && capOk gb cb &&
      !(decide (ga = gb) && decide (ca = cb)) && decide (0 ≤ signedAt b (o + 8) 4))

/-- The checks of R300 in their order. -/
def State.problemFail (s : State) (d : KnDesc) (b : List Byte) : Option Nat :=
  let n := fieldAt b 1 1
  let size := inCoupAt b (inCoup b)
  if ¬ (fieldAt b 0 1 = 1 ∧ 1 ≤ n ∧ n ≤ 24 ∧ fieldAt b 2 2 ≠ 0 ∧ inCoup b ≤ 384 ∧ d.fld 56 4 = size ∧
      d.fld 60 4 = 64 + 112 * inNax b ∧ fieldAt b 8 8 = 0 ∧
      (List.range (inNax b)).all (fun j => decide (fieldAt b (inAxisAt b j + 2) 2 = 0)) ∧
      (List.range (inCoup b)).all (fun c => decide (fieldAt b (inCoupAt b c + 5) 3 = 0))) then some 0x39
  else if ¬ s.problemGroupsOk b then some 0x39
  else if ¬ (inGroups b).all (fun g => bit (s.fd F.KN_MODEL_VALID_VALID) g) then some 0x35
  else if ¬ s.problemAxesOk b then some 0x39
  else if ¬ s.problemCoupOk b then some 0x39
  else if d.fld 24 4 ≠ planSig b then some 0x08
  else none

/-- The words of IN that have a class (R252, R297): VSCALE, the joint values, and D_MIN. -/
def State.problemWords (s : State) (b : List Byte) : List (Nat × Int) :=
  let ax := (s.problemAxes b).zipIdx.flatMap (fun e =>
    let (g, i, _) := e.1
    let o := inAxisAt b e.2
    let pr := !axRotary (s.agAxis g i)
    let q := if pr then 0 else 1
    [(q, signedAt b (o + 4) 4), (if pr then 2 else 3, signedAt b (o + 8) 4), (if pr then 4 else 5, signedAt b (o + 12) 4)] ++
      (List.range (fieldAt b 1 1)).map (fun k => (q, signedAt b (o + 32 + 4 * k) 4)))
  (List.range (inGroups b).length).map (fun i => (8, signedAt b (inGroupAt i + 4) 4)) ++ ax ++
    (List.range (inCoup b)).map (fun c => (0, signedAt b (inCoupAt b c + 8) 4))

/-! ## Results in OUT (R313) -/

/-- The result of one axis: its accelerations at knots 0 to 24, that of knot 0 the fixed one of IN. -/
def axisResult (b : List Byte) (j : Nat) (qdd : List ℚ) : List Byte :=
  let o := inAxisAt b j
  (b.drop o).take 2 ++ leBytes 2 0 ++ (b.drop (o + 4)).take 12 ++ (classBytes 4 qdd ++ List.replicate 96 0#8).take 96

/-- The new plan of a solve (R313). -/
def newPlan (d : KnDesc) (b : List Byte) (e : RunEnd) : List Byte :=
  let n := inSteps b
  let x := (e.last.map Iterate.x).getD []
  leBytes 8 (d.fld 32 8) ++ leBytes 8 (d.fld 32 8) ++ leBytes 4 (d.fld 40 4) ++ leBytes 1 n ++ leBytes 1 0 ++
    leBytes 2 (fieldAt b 2 2) ++ leBytes 2 (inNax b) ++ leBytes 2 (inCoup b) ++ leBytes 4 e.resPri ++
    leBytes 4 e.gap ++ leBytes 4 (d.fld 24 4) ++ leBytes 8 0 ++
    (List.range (inNax b)).flatMap (fun j => axisResult b j ((x.drop (j * n)).take n))

/-- The stored plan shifted to a descriptor's T0 (R313). -/
def shiftPlan (p : List Byte) (t0 cycle : Nat) : List Byte :=
  let sh := min 255 (planShifts p + (t0 - planVf p) / cycle)
  p.take 8 ++ leBytes 8 t0 ++ (p.drop 16).take 5 ++ leBytes 1 sh ++ p.drop 22

/-! ## Ends of a solve (R307, R310, R314) -/

/-- The waiting or computing descriptor leaves: its slot is no longer busy, and LAST_RESULT shows the end (R284). -/
def State.planLeave (s : State) (slot result code : Nat) : State :=
  let s : State := { s with kn := { s.kn with codes := Tab.set (fun _ => 0) s.kn.codes slot code } }
  (s.setFd F.KN_SLOTs_STAT_BUSY slot 0 0).setFd F.KN_SLOTs_STAT_LAST_RESULT slot 0 result

/-- The lowest of a plan's clusters deposits its token (R220, R282). Log 59 (DEDUCED, unsafe). -/
def lowCluster (mask : Nat) : Nat := (bitIndices mask 4).headD 0

/-- A descriptor ends FAILED: only the 16-byte header is written (R300, R313, R653). -/
def State.planFailed (s : State) (k : Nat) (d : KnDesc) (code wsm guard deadline iters cycles : Nat) : State :=
  let s := (s.planLeave d.slot 3 code).knCount 0 1
  s.knComplete k d (statusWord code 3 wsm guard deadline 0 0 iters 0x10) cycles []

/-- A plan with its duals is written, stored in its slot, and may be adopted (R313, R314, R317). -/
def State.planDone (s : State) (p : KnSolve) (plan : List Byte) (duals : List ℚ) (code result guard deadline iters cycles : Nat) :
    State :=
  let d := p.desc
  let s := s.planLeave d.slot result code
  let s := if result = 0 then s.knCount 0 0 else s
  let s := s.setKnSlot d.slot { plan := some plan, duals := duals, hold := p.clusters }
  let s := if result ≤ 1 then s.setRg .KN_SLOTs_SIG d.slot 0 (d.fld 24 4) else s
  let r : KnResult := { slot := d.slot, result := result, addr := d.outAt, len := d.fld 60 4, vf := planVf plan,
                        groups := planGroups plan, doneAt := s.ctNs }
  let s : State := { s with kn := { s.kn with results := s.kn.results ++ [r] } }
  s.knComplete (lowCluster p.clusters) d (statusWord code result (b2n p.wsm) guard deadline 0 0 iters 0x10) cycles plan

/-- The result of a solve that ended without DONE, by cause (R310). -/
def State.planFallback (s : State) (p : KnSolve) (e : RunEnd) (code guard deadline cycles : Nat) : State :=
  let d := p.desc
  let t0 := d.fld 32 8
  let failed := s.planFailed (lowCluster p.clusters) d 0x3C (b2n p.wsm) guard deadline e.iters cycles
  if 1 ≤ e.iters ∧ e.resPri ≤ d.fld 52 4 then
    s.planDone p (newPlan d p.input e) ((e.last.map Iterate.z).getD []) code 1 guard deadline e.iters cycles
  else match p.stored with
  | some old =>
    if planStoredSig old = d.fld 24 4 ∧ t0 < planEndNs old then
      s.planDone p (shiftPlan old t0 (8 * s.lenNs)) p.duals code 2 guard deadline e.iters cycles
    else failed
  | none => failed

/-- The solve leaves its clusters. -/
def State.solveFree (s : State) : State :=
  let s : State := { s with kn := { s.kn with solve := none } }
  s.forEach (List.range 4) (fun k s => s.knShow k)

/-- A solve ends (R307): converged, or by the first cause that is present; with none, nothing ends.
Log 59 (DEDUCED, unsafe), 101 (DESIGN CHOICE, unsafe). -/
def State.solveEnd (s : State) (p : KnSolve) (it : KnIter) (deadline : Bool) : State :=
  let d := p.desc
  let e := p.run it.iters
  let trip := e.trap.isSome || p.trip
  let cause : Option Nat := if trip then some 0x31 else if deadline then some 0x32 else if p.preempt then some 0x3E
    else if e.stall then some 0x3B else if e.iters = d.fld 28 1 then some 0x3D else none
  let noted : State := match e.trap with
    | some t =>
      let (t, s) := s.trapOf (lowCluster p.clusters) t
      (s.accCount t.cluster t).knTrip t d
    | none => s
  let gd := b2n trip
  let dl := b2n deadline
  if e.done then
    noted.solveFree.planDone p (newPlan d p.input e) ((e.last.map Iterate.z).getD []) 0 0 gd dl e.iters it.cycles
  else match cause with
  | some c => noted.solveFree.planFallback p e c gd dl it.cycles
  | none => s

/-- PLAN_COMPLETE: the solve that computes ends (R307, R310, R313, R314). Log 59 (DEDUCED, unsafe). -/
def execPlanComplete (it : KnIter) (dt : Nat) (s : State) : Host.Outcome State Fault Refusal :=
  let s := s.advance dt
  match s.kn.solve with
  | none => .next s
  | some p => .next (s.solveEnd p it (p.desc.deadline.any (fun t => decide (t ≤ s.ctNs))))

/-- A solve of a descriptor that never started: it has its slot's plan to fall back to (R312). -/
def State.notStarted (s : State) (d : KnDesc) : KnSolve :=
  let sl := s.knSlot d.slot
  { desc := d, clusters := sl.hold, input := [], arms := [], table := [], stored := sl.plan, warm := none,
    duals := sl.duals, wsm := false, preempt := false, trip := false, moveFrom := 0, moveEnd := 0 }

/-- PLAN_DEADLINE: the deadline of slot `n`'s descriptor is reached, while it computes or while it waits (R307, R311,
R312). Log 59 (DEDUCED, unsafe). -/
def execPlanDeadline (n : Nat) (it : KnIter) (s : State) : Host.Outcome State Fault Refusal :=
  match s.kn.solve.filter (fun p => decide (p.desc.slot = n)), s.kn.waiting.find? (fun d => decide (d.slot = n)) with
  | some p, _ =>
    match p.desc.deadline with
    | none => .next s
    | some t =>
      let s := s.advanceTo t
      .next (s.solveEnd p it true)
  | none, some d =>
    match d.deadline with
    | none => .next s
    | some t =>
      let s := s.advanceTo t
      let s : State := { s with kn := { s.kn with waiting := dropDesc d s.kn.waiting } }
      .next (s.planFallback (s.notStarted d) (.early none) 0x32 0 1 0)
  | none, none => .next s

/-! ## Starts (R285, R300 to R303, R309) -/

/-- The waiting descriptor that starts next: one for the adopt slot before any other (R309). -/
def State.nextPlan (s : State) : Option KnDesc :=
  (s.kn.waiting.find? (fun d => decide (d.slot = s.adoptSlot))).or s.kn.waiting.head?

/-- The clusters of a mask are all ON. -/
def State.allOn (s : State) (mask : Nat) : Bool := (bitIndices mask 4).all (fun k => s.domOn (18 + k))

/-- An arm group as a plan takes it: the snapshot in force (R301). -/
def State.planArm (s : State) (g : Nat) : PlanArm :=
  let r := s.agRec g
  { group := g, arm := r, model := s.knModel g, axes := (List.range (agAxes r)).map (s.agAxis g),
    caps := (List.range (agCapsules r)).map (s.agCapsule g) }

/-- The range table as a descriptor captures it (R257). -/
def State.knTable (s : State) : List (Nat × Bool × Int × Int) :=
  (List.range 64).map (fun c => (s.fd F.KN_RANGE_CTLc_FRAC c, s.flag F.KN_RANGE_CTLc_EN c, s.knBound c))

/-- TIME ticks of a number of SOLV cycles (R51). -/
def State.solvTicks (s : State) (n : Nat) : Nat := (n * dividerOf (s.fd F.CLK_DVFS_SOLV) + 19) / 20

/-- The end of the move of a slot's state from clusters `hold` to clusters `en`: at once where they are the same, else
after at most 5,000 SOLV cycles (R285). -/
def State.moveTicks (s : State) (hold en : Nat) : Nat × State :=
  if hold = en ∨ hold = 0 then (s.time.ticks, s)
  else (s.time.ticks + s.solvTicks (s.free.1 % 5001), s.free.2)

/-- The solve that descriptor `d` starts on the clusters of `en`, with IN `b`: it moves the slot's state to them and
warm-starts or cold-starts (R285, R301, R303). -/
def State.newSolve (s : State) (d : KnDesc) (b : List Byte) (en : Nat) : KnSolve × State :=
  let sl := s.knSlot d.slot
  let stored := if s.allOn sl.hold then sl.plan else none
  let fits := stored.filter (fun p => decide (planStoredSig p = d.fld 24 4))
  let warm := bit (d.fld 1 1) 2
  let wsm := warm && fits.isNone
  let s := if wsm then s.incFd F.KN_SLOTs_STAT_WSM_CNT d.slot 0 else s
  let s := if stored.isSome then s.setKnSlot d.slot { sl with hold := en } else s
  let from_ := if stored.isSome then sl.hold else 0
  let (t, s) := s.moveTicks from_ en
  ({ desc := d, clusters := en, input := b, arms := (inGroups b).map s.planArm, table := s.knTable, stored := stored,
     warm := if warm then fits else none, duals := sl.duals, wsm := wsm, preempt := false, trip := false,
     moveFrom := from_, moveEnd := t }, s)

/-- The clusters on which a plan starts: those enabled in KN_CTL.EN; one forced OFF takes no part until it is ON again (R309,
R570). Log 60 (DESIGN CHOICE, unsafe). -/
def State.plansOn (s : State) : Nat :=
  let en := s.fd F.KN_CTL_EN
  ((bitIndices en 4).filter (fun k => s.domOn (18 + k))).foldl (fun m k => m + 2 ^ k) 0

/-- PLAN_START: a waiting PLAN descriptor starts on the enabled clusters: it reads IN and checks it; an input-check trip ends
it with no iteration (R256, R259, R285, R300 to R303, R309). -/
def execPlanStart (dt : Nat) (s : State) : Host.Outcome State Fault Refusal :=
  let s := s.advance dt
  let en := s.plansOn
  match s.kn.solve, s.nextPlan with
  | none, some d =>
    if en = 0 ∨ d.lateAt (s.ctNs + 1) then .next s
    else
      let s : State := { s with kn := { s.kn with waiting := dropDesc d s.kn.waiting } }
      let b := s.coreBytes d.core d.inAt (d.fld 56 4)
      match s.problemFail d b with
      | some c =>
        let (cyc, s) := s.free
        .next (s.planFailed (lowCluster en) d c 0 0 0 0 (cyc % 2 ^ 32))
      | none =>
        let (p, s) := s.newSolve d b en
        match firstTrip p.lanes.bounds (s.problemWords b ++ p.arms.flatMap (fun r => modelWords r.model)) with
        | some (cls, v) =>
          let s := s.knTrip { cluster := lowCluster en, cls := cls, input := true, divsqrt := false, acc := false, value := v } d
          let (cyc, s) := s.free
          .next (s.planFallback p (.early none) 0x31 1 0 (cyc % 2 ^ 32))
        | none =>
          let s : State := { s with kn := { s.kn with solve := some p } }
          .next (s.forEach (List.range 4) (fun k s => s.knShow k))
  | _, _ => .next s

/-! ## Clusters that lose their state (R284, R561, R653) -/

/-- A slot holds no solution any more; a descriptor of it that computes has nothing to fall back to (R284).
Log 60 (DESIGN CHOICE, unsafe). -/
def State.slotLost (s : State) (n : Nat) : State :=
  let s := s.setKnSlot n knSlotReset
  { s with kn := { s.kn with solve := s.kn.solve.map (fun p => if p.desc.slot = n then { p with stored := none } else p) } }

/-- A plan that runs on cluster `k` is lost with it; how many iterations it had completed is open (R283, R284, R653).
Log 60 (DESIGN CHOICE, unsafe). -/
def State.solveLost (s : State) (k : Nat) : State :=
  match s.kn.solve with
  | some p =>
    if bit p.clusters k then
      let (it, s) := s.solveFree.free
      let (cyc, s) := s.free
      (s.slotLost p.desc.slot).planFailed (lowCluster p.clusters) p.desc 0x07 (b2n p.wsm) 0 0 (it % (p.desc.fld 28 1 + 1))
        (cyc % 2 ^ 32)
    else s
  | none => s

/-- The model copy of an arm group on a lost cluster is gone (R284). Log 60 (DESIGN CHOICE, unsafe). -/
def State.modelLost (s : State) (g : Nat) : State :=
  let s : State := { s with kn := { s.kn with models := Tab.set (fun _ => []) s.kn.models g [] } }
  s.setFd F.KN_MODEL_VALID_VALID 0 0 (setBits (s.fd F.KN_MODEL_VALID_VALID) g g 0)

/-- Cluster `k` goes OFF: its slots' state and model copies are lost, and its descriptors end FAILED with code POWER (R284,
R653). Log 60 (DESIGN CHOICE, unsafe). -/
def State.clusterLost (s : State) (k : Nat) : State :=
  let c := s.knCluster k
  let s := s.setKnCluster k knClusterReset
  let s := match c.run with
    | some r => s.kernelStop k r 0x07 none false
    | none => s
  let s := s.forEach c.queue (fun d s => s.kernelFail k d 0x07 none false none [])
  let moved := if s.slotMoving k then (s.kn.solve.map (fun p => p.desc.slot)).toList else []
  let s := s.forEach ((List.range 8).filter (fun n => bit (s.knSlot n).hold k) ++ moved) (fun n s => s.slotLost n)
  let s := s.solveLost k
  s.forEach ((List.range 16).filter (fun g => decide (s.agCluster g = k))) (fun g s => s.modelLost g)

/-- An uncorrectable error in the scratch SRAM of cluster `k` (R561): `what` 0 in a value the kernel reads, 1 in a value
the plan reads, 2 + n in the state of slot n. The class and the value of the trip are open.
Log 61 (DESIGN CHOICE, safe). -/
def State.scratchError (s : State) (k what : Nat) : State :=
  let (cls, s) := s.free
  let (v, s) := s.free
  let t : KnTrip := { cluster := k, cls := cls % 64, input := false, divsqrt := false, acc := false,
                      value := toSigned 32 v }
  let c := s.knCluster k
  let slot := (s.kn.solve.map (fun p => p.desc.slot)).getD 0
  if what = 0 then
    match c.run with
    | some r => (s.setKnCluster k { c with run := none }).kernelStop k r 0x31 (some t) false
    | none => s
  else
    let s := match s.kn.solve with
      | some p => if what = 1 ∨ what = slot + 2 then
          ({ s with kn := { s.kn with solve := some { p with trip := true } } }).knTrip t p.desc
        else s
      | none => s
    if 2 ≤ what ∧ what < 10 then s.slotLost (what - 2) else s

/-! ## Adoption (R316 to R319) -/

/-- A write of KN_PLAN_CTL.ADOPT (R316, R322, R648). -/
def writePlanCtl (q : Requester) (v : Word) (s : State) : State :=
  let a := F.KN_PLAN_CTL_ADOPT.of v.toNat
  if a = s.fd F.KN_PLAN_CTL_ADOPT then s
  else if s.flag F.KN_PLAN_CTL_PENDING then s.refuse q .KN_PLAN_CTL 0 0 0x01
  else (s.setFd F.KN_PLAN_CTL_ADOPT 0 0 a).setFd F.KN_PLAN_CTL_PENDING 0 0 (b2n (decide (a ≠ s.adoptSlot)))

/-- ADOPT_SLOT_WRITE: a write of KN_PLAN_CTL (R316). -/
def execAdoptSlotWrite (q : Requester) (v : Word) (s : State) : Host.Outcome State Fault Refusal :=
  s.write q .KN_PLAN_CTL 0 0 (writePlanCtl q v)

/-- At a super-cycle boundary a pending adopt slot takes effect (R316). -/
def State.adoptSwitch (s : State) : State :=
  (s.setFd F.KN_PLAN_CTL_ACTIVE 0 0 (s.fd F.KN_PLAN_CTL_ADOPT)).setFd F.KN_PLAN_CTL_PENDING 0 0 0

/-- PLAN_SEQ of arm group `g` moves on, and the queued points of the superseded plan return their credits (R45, R317).
Log 20 (DEDUCED, unsafe). -/
def State.bumpSeq (s : State) (g : Nat) : State :=
  let s := s.setSram (64 * g + 12) 4 ((s.sramN (64 * g + 12) 4 + 1) % 2 ^ 32)
  s.setAg g { s.ag g with queue := [], draining := false }

/-- At a plan-cycle start the newest result of the adopt slot that is valid from it, its token deposited before it, is adopted
(R317). The second part is
the RESULT adopted, 3 for none. -/
def State.planAdopt (s : State) : State × Nat :=
  let t := s.time.bcStart
  let fit := s.kn.results.filter (fun r => decide (r.slot = s.adoptSlot ∧ r.vf = t ∧ r.doneAt < t))
  let s : State := { s with kn := { s.kn with results := s.kn.results.filter (fun r => decide (t < r.vf)) } }
  match fit.getLast? with
  | none => ((s.incFd F.KN_PLAN_STAT_MISS_CNT 0 0).setFd F.KN_PLAN_STAT_LAST 0 0 3, 3)
  | some r =>
    let s : State := { s with kn := { s.kn with adopted := some r } }
    let s := (s.setRg .KN_PLAN_ADR 0 0 r.addr).setRg64 .KN_PLAN_VF_LO .KN_PLAN_VF_HI 0 r.vf
    let s := s.setFd F.KN_PLAN_STAT_LAST 0 0 r.result
    if r.result ≤ 1 then (s.forEach (bitIndices r.groups 16) (fun g s => s.bumpSeq g), r.result)
    else (s.incFd F.KN_PLAN_STAT_SHIFT_CNT 0 0, r.result)

/-- The count of arm group `g` (R318). Log 59 (DEDUCED, unsafe). -/
def State.planCount (s : State) (g : Nat) : Nat := bits (s.rg .KN_PLAN_RUN) (2 * g + 1) (2 * g)

def State.setPlanCount (s : State) (g n : Nat) : State :=
  s.setRg .KN_PLAN_RUN 0 0 (setBits (s.rg .KN_PLAN_RUN) (2 * g + 1) (2 * g) n)

/-- The counts of the enabled arm groups that the plan in force covers, after an adoption with RESULT `r` (R318, R321). The
second part: the arm groups whose count has reached 2 (R319). -/
def State.planCounts (s : State) (r : Nat) : State × List Nat :=
  let cover := (s.kn.adopted.map KnResult.groups).getD 0
  let gs := s.agsOn.filter (fun g => bit cover g)
  let hit := if r ≤ 1 then [] else gs.filter (fun g => decide (s.planCount g = 1))
  (s.forEach gs (fun g s => s.setPlanCount g (if r ≤ 1 then 0 else min 2 (s.planCount g + 1))), hit)

end Sys2Proof.Machine
end

