-- ==== Sys2Proof/Machine/Velist.lean ====
section
/-!
DEFINITION. The Velist cores (chapter 05) but for loads, stores and searches: registers, issue, exceptions, scalar,
rotating, MAC, accumulator and binary32 instructions, branches, loops, and the system group. A command of a core names
the core that issues the instruction and the instruction's fields. Two instructions that R183 lets issue together are
two commands of one bundle; the cycles they take (R185 to R187) are not modelled.
-/

namespace Sys2Proof.Machine

/-! ## Registers (R175 to R177) -/

/-- General register `k`: g0 reads 0 (R176). -/
def Core.gr (c : Core) (k : Nat) : Word := if k % 32 = 0 then 0 else Tab.get (fun _ => (0 : Word)) c.g (k % 32)

/-- The core with general register `k` written; a write of g0 is discarded (R176). -/
def Core.setG (c : Core) (k : Nat) (v : Word) : Core :=
  if k % 32 = 0 then c else { c with g := Tab.set (fun _ => (0 : Word)) c.g (k % 32) v }

/-- The physical register that wk names (R177). -/
def Core.phys (c : Core) (k : Nat) : Nat := (k + c.rrb) % 64

/-- Rotating register wk. -/
def Core.wr (c : Core) (k : Nat) : Word := Tab.get (fun _ => (0 : Word)) c.w (c.phys k)

/-- The core with wk written. -/
def Core.setW (c : Core) (k : Nat) (v : Word) : Core :=
  { c with w := Tab.set (fun _ => (0 : Word)) c.w (c.phys k) v }

/-- Predicate pk: p0 reads 1 (R176). -/
def Core.pr (c : Core) (k : Nat) : Bool := decide (k % 8 = 0) || c.p.getLsbD (k % 8)

/-- The core with pk written; a write of p0 is discarded (R176). -/
def Core.setP (c : Core) (k : Nat) (b : Bool) : Core :=
  if k % 8 = 0 then c else { c with p := BitVec.ofNat 8 (setBits c.p.toNat (k % 8) (k % 8) (b2n b)) }

/-- Accumulator k as a signed number. -/
def Core.ac (c : Core) (k : Nat) : Int := (Tab.get (fun _ => (0 : BitVec 72)) c.acc (k % 8)).toInt

/-- An AOVF or SAT event: the sticky flag and its counter (R199). -/
def Core.noteSat (c : Core) : Core := { c with sat := true, satCnt := satInc 32 c.satCnt }
def Core.noteAovf (c : Core) : Core := { c with aovf := true, aovfCnt := satInc 32 c.aovfCnt }

/-- The core with accumulator k written, saturated to 72 bits (R197). -/
def Core.setAc (c : Core) (k : Nat) (v : Int) : Core :=
  let r := clampInt (-(2 ^ 71)) (2 ^ 71 - 1) v
  let c : Core := { c with acc := Tab.set (fun _ => (0 : BitVec 72)) c.acc (k % 8) (BitVec.ofInt 72 r) }
  if r = v then c else c.noteAovf

/-- BASE, LEN and IDX of circular set k: `j` 0, 1, 2. -/
def Core.cbr (c : Core) (k j : Nat) : Word := Tab.get (fun _ => (0 : Word)) c.cb (3 * (k % 8) + j)

def Core.setCb (c : Core) (k j : Nat) (v : Word) : Core :=
  { c with cb := Tab.set (fun _ => (0 : Word)) c.cb (3 * (k % 8) + j) v }

/-- The register a MEM or AC instruction names: F selects a rotating one (R188). -/
def Core.fr (c : Core) (f : Bool) (rt : Nat) : Word := if f then c.wr rt else c.gr rt
def Core.setF (c : Core) (f : Bool) (rt : Nat) (v : Word) : Core := if f then c.setW rt v else c.setG rt v

/-- LOOP and ROT rotate (R177). -/
def Core.rotate (c : Core) : Core := { c with rrb := (c.rrb + 63) % 64 }

/-- The next instruction's address. -/
def Core.next (c : Core) : Core := { c with pc := c.pc + 4 }

/-! ## Exceptions (R211 to R215) -/

/-- The causes of R211 but HALT. -/
inductive Cause where
  | budget | fetchBus | fetchEcc | fetchAlign | illegal | priv | dataAlign | dataBus | dataEcc | trap | brk
  deriving DecidableEq, Repr

/-- The cause codes of R211. -/
def Cause.code : Cause → Nat
  | .budget => 0x10 | .fetchBus => 0x01 | .fetchEcc => 0x02 | .fetchAlign => 0x03 | .illegal => 0x04 | .priv => 0x05
  | .dataAlign => 0x06 | .dataBus => 0x07 | .dataEcc => 0x08 | .trap => 0x09 | .brk => 0x0A

/-- STATUS of core `n` (R216). -/
def State.coreStatus (s : State) (n : Nat) : Nat := b2n (s.core n).handler + (s.core n).lcore * 2 ^ 8

/-- Cycles of the clock of core `n`'s island since power-on reset (R51): slices 0 to 8 are in island A. -/
def State.islandCycles (s : State) (n : Nat) : Nat := if n / 4 < 9 then s.time.cycA else s.time.cycB

/-- The clock of a core that waited runs again: the gated cycles do not count (CSR CYCLE). -/
def State.ungate (s : State) (n : Nat) : State :=
  let c := s.core n
  match c.gateAt with
  | some g => s.setCore n { c with gateAt := none, cycOff := c.cycOff + (s.islandCycles n - g) }
  | none => s

/-! ## Bundles (R179, R183, R184) -/

/-- The class-B instruction of an open bundle has been left out: the class-A one has completed, and with it its
rotation (R184). -/
def Core.dropPair (c : Core) : Core :=
  match c.pair with
  | some p => { c with rrb := p.rrb, pair := none }
  | none => c

/-- The core goes past the instruction it has executed: past a bundle, to where its class-A instruction leads, with the
rotation base that one leaves (R179, R183). Log 47 (DEDUCED, unsafe). -/
def Core.retire (c : Core) : Core :=
  match c.pair with
  | some p => { c with pc := p.next, rrb := p.rrb, pair := none }
  | none => c.next

/-- The core may fetch at an address: its own TCM and its slice-shared SRAM (R211). -/
def fetchable (pc : Nat) : Bool := decide (pc < 0x80000) || (decide (0x1000000 ≤ pc) && decide (pc < 0x1100000))

/-- A class-A instruction of core `n` at `pc` that writes the registers `wr` issues together with the instruction that
follows it in memory (R183). Log 47 (DEDUCED, unsafe). -/
def State.pairs (s : State) (n : Nat) (pc : Word) (wr : List RegName) : Bool :=
  let a := (pc + 4).toNat
  fetchable a && secondOf wr (ofLe (s.placeBytes (s.place n a) 4))

/-- Core `n` has executed a class-A instruction that writes the registers `wr`: `c` is the core before it, `d` the core
after it but for PC, and `jump` the target of a taken branch. Where a class-B instruction issues with it, that one comes
next, under the rotation base of the bundle; what follows the bundle waits for it (R179, R183).
Log 47 (DEDUCED, unsafe). -/
def State.lead (s : State) (n : Nat) (wr : List RegName) (c d : Core) (jump : Option Word) : State :=
  if s.pairs n c.pc wr then
    s.setCore n { d with pc := c.pc + 4, rrb := c.rrb, pair := some { next := jump.getD (c.pc + 8), rrb := d.rrb } }
  else s.setCore n { d with pc := jump.getD (c.pc + 4) }

/-- An exception of core `n` (R212): EPC is the core's PC as it stands; one raised in HANDLER mode stops the core (R214).
`ea` is what EADDR takes; a cause that has no address and no code leaves it open.
Log 47 (DEDUCED, unsafe), 48 (DEDUCED, unsafe). -/
def State.exception (s : State) (n : Nat) (cause : Cause) (ea : Option Word) : State :=
  let s := s.ungate n
  let c := (s.core n).dropPair
  if c.handler then
    let s := s.setCore n { c with run := .stopped, budgetDue := false, twait := none, haltReq := false,
                                  dfCnt := satInc 8 c.dfCnt }
    let s := s.journal 0x09 0x05 0x00 2 ([n, cause.code, c.lcore] ++ dBytes 4 (if cause = .trap then c.pc - 4 else c.pc).toNat)
    s.endAbnormal n cause.code
  else
    let (a, s) : Word × State := match ea with
      | some a => (a, s)
      | none => let (v, s) := s.free; (BitVec.ofNat 32 v, s)
    let st := BitVec.ofNat 32 (s.coreStatus n)
    s.setCore n { c with run := .run, handler := true, epc := c.pc, ecause := BitVec.ofNat 32 cause.code, eaddr := a,
                         estatus := st, pc := c.vbar + BitVec.ofNat 32 (cause.code * 0x40), twait := none,
                         budgetDue := if cause = .budget then false else c.budgetDue, excCnt := satInc 8 c.excCnt,
                         lastCause := cause.code }

/-! ## Issue -/

/-- What an instruction comes to: the state after it, or an exception raised in a state. -/
inductive Issue where
  | done (s : State)
  | raise (s : State) (cause : Cause) (ea : Option Word)
  deriving DecidableEq, Repr

/-- Core `n` can issue: its slice is ON and it is in RUN, not frozen for a cut-over. -/
def State.issues (s : State) (n : Nat) : Bool :=
  decide (n < 72) && s.domOn (n / 4) && decide ((s.core n).run = .run) && !(s.core n).frozen

/-- A core enters HALTED at a bundle boundary: the HALT exception, counted and shown as every exception is, but not
delivered to a handler (R211, R212). Log 47 (DEDUCED, unsafe). -/
def State.haltNow (s : State) (n : Nat) : State :=
  let c := s.core n
  s.setCore n { c with run := .halted, resume := c.run, haltReq := false, excCnt := satInc 8 c.excCnt, lastCause := 0x11 }

/-- HALT stands in VC_CTLn and no STEP is under way. Log 47 (DEDUCED, unsafe). -/
def State.haltDue (s : State) (n : Nat) : Bool := s.flag F.VC_CTLn_HALT n && !(s.core n).haltReq

/-- An error found outside an instruction's own checks raises its exception in core `n`; at a bundle boundary BUDGET and
HALT, where due, come first (R211). -/
def State.eccRaise (s : State) (n : Nat) (cause : Cause) (adr : Word) : State :=
  let c := s.core n
  if c.pair.isNone ∧ c.budgetDue then s.exception n .budget none
  else if c.pair.isNone ∧ s.haltDue n then s.haltNow n
  else s.exception n cause (some adr)

/-- After a stepped bundle the core halts again (VC_CTLn.STEP). -/
def State.afterStep (s : State) (n : Nat) : State :=
  let c := s.core n
  if c.pair.isSome then s
  else if c.haltReq ∧ c.run ≠ .stopped ∧ c.run ≠ .idle then s.haltNow n
  else if c.haltReq then s.setCore n { c with haltReq := false } else s

/-- Core `n` fetches the instruction at its PC and executes `act` (R211). -/
def State.perform (s : State) (n : Nat) (act : Core → State → Issue) : State :=
  let c := s.core n
  if ¬ fetchable c.pc.toNat then (s.exception n .fetchBus (some c.pc)).afterStep n
  else match act c s with
  | .done t => t.afterStep n
  | .raise t cause ea => (t.exception n cause ea).afterStep n

/-- An open bundle of core `n` whose class-B instruction does not come next is at its end. Log 47 (DEDUCED, unsafe). -/
def State.atBundle (s : State) (n : Nat) : State :=
  if (s.core n).pair.isSome then s.setCore n (s.core n).retire else s

/-- Core `n` issues an instruction that begins a bundle: an asynchronous exception that is due is taken first (R211). A
core that cannot issue issues nothing. Log 96 (DESIGN CHOICE, unsafe). -/
def State.issue (s : State) (n : Nat) (act : Core → State → Issue) : Host.Outcome State Fault Refusal :=
  if ¬ s.issues n then .next s
  else
    let s := s.atBundle n
    if (s.core n).budgetDue then .next (s.exception n .budget none)
    else if s.haltDue n then .next (s.haltNow n)
    else .next (s.perform n act)

/-- Core `n` issues a class-B instruction: the second of the open bundle, which no asynchronous exception parts from the
first; else one that begins a bundle (R183, R211). -/
def State.issueB (s : State) (n : Nat) (act : Core → State → Issue) : Host.Outcome State Fault Refusal :=
  if s.issues n ∧ (s.core n).pair.isSome then .next (s.perform n act) else s.issue n act

/-- An instruction that issues alone and acts on the core alone. -/
def State.issueAlone (s : State) (n : Nat) (f : Core → Core) : Host.Outcome State Fault Refusal :=
  s.issue n (fun c s => .done (s.setCore n (f c).next))

/-- A class-A instruction that writes the registers `wr`, acts on the core alone, and is malformed when `bad` holds. -/
def State.issueA (s : State) (n : Nat) (wr : List RegName) (bad : Bool) (f : Core → Core) :
    Host.Outcome State Fault Refusal :=
  s.issue n (fun c s => if bad then .raise s .illegal none else .done (s.lead n wr c (f c) none))

/-- A class-A instruction under predicate pg (R190). -/
def State.issueIf (s : State) (n pg : Nat) (wr : List RegName) (bad : Bool) (f : Core → Core) :
    Host.Outcome State Fault Refusal :=
  s.issueA n wr bad (fun c => if c.pr pg then f c else c)

/-- A class-B instruction under predicate pg that acts on the core alone and is malformed when `bad` holds. -/
def State.issueMac (s : State) (n pg : Nat) (bad : Bool) (f : Core → Core) : Host.Outcome State Fault Refusal :=
  s.issueB n (fun c s =>
    if bad then .raise s .illegal none else .done (s.setCore n (if c.pr pg then f c else c).retire))

/-! ## Register ALU (R189, R191) -/

/-- An operation of ga and gb into gd, under pg. -/
def State.alu (s : State) (n gd ga gb pg : Nat) (f : Word → Word → Word) : Host.Outcome State Fault Refusal :=
  s.issueIf n pg [.g gd] false (fun c => c.setG gd (f (c.gr ga) (c.gr gb)))

/-- A signed result limited to 32 bits; a limit sets FLAGS.SAT (R191). -/
def Core.limit (c : Core) (i : Int) : Word × Core :=
  (BitVec.ofNat 32 (sat32 i), if i < -(2 ^ 31) ∨ 2 ^ 31 ≤ i then c.noteSat else c)

/-- A saturating operation of ga and gb into gd. -/
def State.aluSat (s : State) (n gd ga gb pg : Nat) (f : Int → Int → Int) : Host.Outcome State Fault Refusal :=
  s.issueIf n pg [.g gd] false (fun c =>
    let (v, c) := c.limit (f (c.gr ga).toInt (c.gr gb).toInt)
    c.setG gd v)

/-- ADD. -/
def execAdd (n gd ga gb pg : Nat) (s : State) : Host.Outcome State Fault Refusal := s.alu n gd ga gb pg (· + ·)
/-- SUB. -/
def execSub (n gd ga gb pg : Nat) (s : State) : Host.Outcome State Fault Refusal := s.alu n gd ga gb pg (· - ·)
/-- AND. -/
def execAnd (n gd ga gb pg : Nat) (s : State) : Host.Outcome State Fault Refusal := s.alu n gd ga gb pg (· &&& ·)
/-- OR. -/
def execOr (n gd ga gb pg : Nat) (s : State) : Host.Outcome State Fault Refusal := s.alu n gd ga gb pg (· ||| ·)
/-- XOR. -/
def execXor (n gd ga gb pg : Nat) (s : State) : Host.Outcome State Fault Refusal := s.alu n gd ga gb pg (· ^^^ ·)
/-- SHL: shift left by gb[4:0]. -/
def execShl (n gd ga gb pg : Nat) (s : State) : Host.Outcome State Fault Refusal :=
  s.alu n gd ga gb pg (fun a b => a <<< (b.toNat % 32))
/-- SHR: logical shift right by gb[4:0]. -/
def execShr (n gd ga gb pg : Nat) (s : State) : Host.Outcome State Fault Refusal :=
  s.alu n gd ga gb pg (fun a b => a >>> (b.toNat % 32))
/-- SRA: arithmetic shift right by gb[4:0]. -/
def execSra (n gd ga gb pg : Nat) (s : State) : Host.Outcome State Fault Refusal :=
  s.alu n gd ga gb pg (fun a b => a.sshiftRight (b.toNat % 32))
/-- MUL: bits [31:0] of the product. -/
def execMul (n gd ga gb pg : Nat) (s : State) : Host.Outcome State Fault Refusal := s.alu n gd ga gb pg (· * ·)
/-- MULH: bits [63:32] of the signed product. -/
def execMulh (n gd ga gb pg : Nat) (s : State) : Host.Outcome State Fault Refusal :=
  s.alu n gd ga gb pg (fun a b => BitVec.ofInt 32 (a.toInt * b.toInt / 2 ^ 32))
/-- MULHU: bits [63:32] of the unsigned product. -/
def execMulhu (n gd ga gb pg : Nat) (s : State) : Host.Outcome State Fault Refusal :=
  s.alu n gd ga gb pg (fun a b => BitVec.ofNat 32 (a.toNat * b.toNat / 2 ^ 32))
/-- ADDS. -/
def execAdds (n gd ga gb pg : Nat) (s : State) : Host.Outcome State Fault Refusal := s.aluSat n gd ga gb pg (· + ·)
/-- SUBS. -/
def execSubs (n gd ga gb pg : Nat) (s : State) : Host.Outcome State Fault Refusal := s.aluSat n gd ga gb pg (· - ·)
/-- MIN. -/
def execMin (n gd ga gb pg : Nat) (s : State) : Host.Outcome State Fault Refusal :=
  s.alu n gd ga gb pg (fun a b => if a.toInt < b.toInt then a else b)
/-- MAX. -/
def execMax (n gd ga gb pg : Nat) (s : State) : Host.Outcome State Fault Refusal :=
  s.alu n gd ga gb pg (fun a b => if a.toInt < b.toInt then b else a)
/-- MINU. -/
def execMinu (n gd ga gb pg : Nat) (s : State) : Host.Outcome State Fault Refusal :=
  s.alu n gd ga gb pg (fun a b => if a.toNat < b.toNat then a else b)
/-- MAXU. -/
def execMaxu (n gd ga gb pg : Nat) (s : State) : Host.Outcome State Fault Refusal :=
  s.alu n gd ga gb pg (fun a b => if a.toNat < b.toNat then b else a)
/-- ABS: the most negative number gives the limit and FLAGS.SAT. -/
def execAbs (n gd ga pg : Nat) (s : State) : Host.Outcome State Fault Refusal :=
  s.aluSat n gd ga ga pg (fun a _ => (a.natAbs : Int))
/-- CLZ. -/
def execClz (n gd ga pg : Nat) (s : State) : Host.Outcome State Fault Refusal :=
  s.alu n gd ga ga pg (fun a _ => BitVec.ofNat 32 (32 - bitLen a.toNat))

/-! ## Immediate forms (R189) -/

/-- An operation of ga and an immediate into gd. -/
def State.aluImm (s : State) (n gd ga : Nat) (f : Word → Word) : Host.Outcome State Fault Refusal :=
  s.issueA n [.g gd] false (fun c => c.setG gd (f (c.gr ga)))

/-- ADDI: imm16 sign-extended. -/
def execAddi (n gd ga imm : Nat) (s : State) : Host.Outcome State Fault Refusal :=
  s.aluImm n gd ga (· + (BitVec.ofNat 16 imm).signExtend 32)
/-- ANDI. -/
def execAndi (n gd ga imm : Nat) (s : State) : Host.Outcome State Fault Refusal :=
  s.aluImm n gd ga (· &&& (BitVec.ofNat 16 imm).zeroExtend 32)
/-- ORI. -/
def execOri (n gd ga imm : Nat) (s : State) : Host.Outcome State Fault Refusal :=
  s.aluImm n gd ga (· ||| (BitVec.ofNat 16 imm).zeroExtend 32)
/-- XORI. -/
def execXori (n gd ga imm : Nat) (s : State) : Host.Outcome State Fault Refusal :=
  s.aluImm n gd ga (· ^^^ (BitVec.ofNat 16 imm).zeroExtend 32)
/-- LUI. -/
def execLui (n gd imm : Nat) (s : State) : Host.Outcome State Fault Refusal :=
  s.issueA n [.g gd] false (fun c => c.setG gd ((BitVec.ofNat 16 imm).zeroExtend 32 <<< 16))
/-- SHI: `op` 0 SHL, 1 SHR, 2 SRA of ga by `sh`; 3 is illegal. -/
def execShi (n gd ga op sh : Nat) (s : State) : Host.Outcome State Fault Refusal :=
  s.issueA n [.g gd] (decide (3 ≤ op)) (fun c =>
    let a := c.gr ga
    c.setG gd (if op = 0 then a <<< (sh % 32) else if op = 1 then a >>> (sh % 32) else a.sshiftRight (sh % 32)))

/-! ## Compares and predicate logic (R192) -/

/-- The conditions of R192. -/
def condTrue (cond : Nat) (a b : Word) : Bool :=
  match cond with
  | 0 => decide (a = b)
  | 1 => decide (a ≠ b)
  | 2 => decide (a.toInt < b.toInt)
  | 3 => decide (b.toInt ≤ a.toInt)
  | 4 => decide (a.toNat < b.toNat)
  | 5 => decide (b.toNat ≤ a.toNat)
  | 6 => decide (a.toInt ≤ b.toInt)
  | _ => decide (b.toInt < a.toInt)

/-- CMP: conditions 8 to 15 of its 4-bit field are illegal. -/
def execCmp (n pd ga gb pg cond : Nat) (s : State) : Host.Outcome State Fault Refusal :=
  s.issueIf n pg [.p pd] (decide (8 ≤ cond)) (fun c => c.setP pd (condTrue cond (c.gr ga) (c.gr gb)))
/-- CMPI: imm15 sign-extended. -/
def execCmpi (n pd cond ga imm : Nat) (s : State) : Host.Outcome State Fault Refusal :=
  s.issueA n [.p pd] false (fun c => c.setP pd (condTrue (cond % 8) (c.gr ga) ((BitVec.ofNat 15 imm).signExtend 32)))
/-- PLOG: func 7 is illegal. -/
def execPlog (n pd pa pb func : Nat) (s : State) : Host.Outcome State Fault Refusal :=
  s.issueA n [.p pd] (decide (7 ≤ func)) (fun c =>
    let a := c.pr pa
    let b := c.pr pb
    c.setP pd (match func with
      | 0 => a && b
      | 1 => a || b
      | 2 => a != b
      | 3 => a && !b
      | 4 => !a
      | 5 => true
      | _ => false))

/-! ## MAC group (R196, R197) -/

/-- The product of R196. -/
def Core.product (c : Core) (wa gb : Nat) (d u : Bool) : Int :=
  let g (k : Nat) : Int := if u then ((c.gr k).toNat : Int) else (c.gr k).toInt
  (c.wr wa).toInt * g gb + (if d then (c.wr (wa + 1)).toInt * g (gb + 1) else 0)

/-- An MX instruction: `f` of the accumulator and the product. -/
def State.mx (s : State) (n acc wa gb pg : Nat) (d u : Bool) (f : Int → Int → Int) : Host.Outcome State Fault Refusal :=
  s.issueMac n pg (d && (decide (30 < gb) || decide (62 < wa)))
    (fun c => c.setAc acc (f (c.ac acc) (c.product wa gb d u)))

/-- MAC. -/
def execMac (n acc wa gb pg : Nat) (d u : Bool) (s : State) : Host.Outcome State Fault Refusal :=
  s.mx n acc wa gb pg d u (· + ·)
/-- MSU. -/
def execMsu (n acc wa gb pg : Nat) (d u : Bool) (s : State) : Host.Outcome State Fault Refusal :=
  s.mx n acc wa gb pg d u (· - ·)
/-- MUL of the MX group. -/
def execMxMul (n acc wa gb pg : Nat) (d u : Bool) (s : State) : Host.Outcome State Fault Refusal :=
  s.mx n acc wa gb pg d u (fun _ p => p)

/-! ## Accumulator group (R198) -/

/-- The rounding shift of ACCRD. -/
def accRound (v : Int) (sh rnd : Nat) : Int :=
  if sh = 0 then v
  else
    let v := if rnd = 1 then v + 2 ^ (sh - 1)
      else if rnd = 2 then v + 2 ^ (sh - 1) - 1 + (v / 2 ^ sh) % 2 else v
    v / 2 ^ sh

/-- ACCRD: rnd 3 is illegal, and a general register has rt below 32 (R188). -/
def execAccrd (n acc : Nat) (f : Bool) (rt sh rnd : Nat) (sat : Bool) (pg : Nat) (s : State) :
    Host.Outcome State Fault Refusal :=
  s.issueMac n pg (decide (rnd = 3) || (!f && decide (32 ≤ rt))) (fun c =>
    let v := accRound (c.ac acc) sh rnd
    let (x, c) := if sat then c.limit v else (BitVec.ofInt 32 v, c)
    c.setF f rt x)
/-- ACCWR. -/
def execAccwr (n acc : Nat) (f : Bool) (rt sh pg : Nat) (s : State) : Host.Outcome State Fault Refusal :=
  s.issueMac n pg (!f && decide (32 ≤ rt)) (fun c => c.setAc acc ((c.fr f rt).toInt * 2 ^ sh))
/-- ACCSHR. -/
def execAccshr (n acc sh pg : Nat) (s : State) : Host.Outcome State Fault Refusal :=
  s.issueMac n pg false (fun c => c.setAc acc (c.ac acc / 2 ^ sh))
/-- ACCCLR. -/
def execAccclr (n acc pg : Nat) (s : State) : Host.Outcome State Fault Refusal := s.issueMac n pg false (fun c => c.setAc acc 0)

/-! ## Rotating-register group (R192) -/

/-- An operation of wa and wb into wd. -/
def State.ww (s : State) (n wd wa wb pg : Nat) (f : Word → Word → Word) : Host.Outcome State Fault Refusal :=
  s.issueIf n pg [.w wd] false (fun c => c.setW wd (f (c.wr wa) (c.wr wb)))

/-- A saturating operation of wa and wb into wd. -/
def State.wwSat (s : State) (n wd wa wb pg : Nat) (f : Int → Int → Int) : Host.Outcome State Fault Refusal :=
  s.issueIf n pg [.w wd] false (fun c =>
    let (v, c) := c.limit (f (c.wr wa).toInt (c.wr wb).toInt)
    c.setW wd v)

/-- WADD. -/
def execWadd (n wd wa wb pg : Nat) (s : State) : Host.Outcome State Fault Refusal := s.ww n wd wa wb pg (· + ·)
/-- WSUB. -/
def execWsub (n wd wa wb pg : Nat) (s : State) : Host.Outcome State Fault Refusal := s.ww n wd wa wb pg (· - ·)
/-- WADDS. -/
def execWadds (n wd wa wb pg : Nat) (s : State) : Host.Outcome State Fault Refusal := s.wwSat n wd wa wb pg (· + ·)
/-- WSUBS. -/
def execWsubs (n wd wa wb pg : Nat) (s : State) : Host.Outcome State Fault Refusal := s.wwSat n wd wa wb pg (· - ·)
/-- WNEG. -/
def execWneg (n wd wa pg : Nat) (s : State) : Host.Outcome State Fault Refusal := s.ww n wd wa wa pg (fun a _ => -a)
/-- WMOV. -/
def execWmov (n wd wa pg : Nat) (s : State) : Host.Outcome State Fault Refusal := s.ww n wd wa wa pg (fun a _ => a)
/-- WFROMG: general register `g` into wd; bit 5 of its field must be 0. -/
def execWfromg (n wd g pg : Nat) (s : State) : Host.Outcome State Fault Refusal :=
  s.issueIf n pg [.w wd] (decide (32 ≤ g)) (fun c => c.setW wd (c.gr g))
/-- WTOG: wa into general register `g`; bit 5 of its field must be 0. -/
def execWtog (n g wa pg : Nat) (s : State) : Host.Outcome State Fault Refusal :=
  s.issueIf n pg [.g g] (decide (32 ≤ g)) (fun c => c.setG g (c.wr wa))

/-! ## Binary32 unit (R204) -/

/-- RM of FPSR. -/
def Core.rm (c : Core) : Nat := bits c.fpsr.toNat 9 8

/-- Flags accumulate in FPSR. Log 48 (DEDUCED, unsafe). -/
def Core.noteFp (c : Core) (flags : Nat) : Core := { c with fpsr := c.fpsr ||| BitVec.ofNat 32 flags }

/-- A binary32 operation of ga and gb into gd; an open underflow flag is a free value. -/
def State.fpOp (s : State) (n gd ga gb pg : Nat) (f : Nat → Flt → Flt → FltRes) : Host.Outcome State Fault Refusal :=
  s.issue n (fun c s =>
    if c.pr pg then
      let r := f c.rm (Flt.of (c.gr ga).toNat) (Flt.of (c.gr gb).toNat)
      let (v, s) : Nat × State := if r.ufOpen then s.free else (0, s)
      let flags := r.flags + b2n (decide (v % 2 = 1)) * fUF
      .done (s.lead n [.g gd] c ((c.noteFp flags).setG gd (BitVec.ofNat 32 r.word)) none)
    else .done (s.lead n [.g gd] c c none))

/-- A binary32 operation that gives a word and flags. Log 49 (DESIGN CHOICE, safe). -/
def State.fpWord (s : State) (n gd ga gb pg : Nat) (f : Nat → Word → Word → Nat × Nat) :
    Host.Outcome State Fault Refusal :=
  s.issueIf n pg [.g gd] false (fun c =>
    let (w, flags) := f c.rm (c.gr ga) (c.gr gb)
    (c.noteFp flags).setG gd (BitVec.ofNat 32 w))

/-- FADD. -/
def execFadd (n gd ga gb pg : Nat) (s : State) : Host.Outcome State Fault Refusal := s.fpOp n gd ga gb pg fltAdd
/-- FSUB. -/
def execFsub (n gd ga gb pg : Nat) (s : State) : Host.Outcome State Fault Refusal :=
  s.fpOp n gd ga gb pg (fun rm a b => fltAdd rm a b.neg)
/-- FMUL. -/
def execFmul (n gd ga gb pg : Nat) (s : State) : Host.Outcome State Fault Refusal := s.fpOp n gd ga gb pg fltMul
/-- FDIV. -/
def execFdiv (n gd ga gb pg : Nat) (s : State) : Host.Outcome State Fault Refusal := s.fpOp n gd ga gb pg fltDiv
/-- FSQRT: gb must be 0. -/
def execFsqrt (n gd ga pg : Nat) (s : State) : Host.Outcome State Fault Refusal :=
  s.fpOp n gd ga 0 pg (fun rm a _ => fltSqrt rm a)

/-- What FMIN or FMAX gives of two words: with one NaN operand IEEE 754's editions give the other operand or a NaN, and
of zeros of both signs either: of two such results the second alternative is named too. `pick a b` is true when the
result is `a`. Log 49 (DESIGN CHOICE, safe). -/
def fltPick (pick : Flt → Flt → Bool) (wa wb : Word) : Word × Option Word :=
  let a := Flt.of wa.toNat
  let b := Flt.of wb.toNat
  let nan := BitVec.ofNat 32 fltNan
  if a.isNan && b.isNan then (nan, none)
  else if a.isNan then (nan, some wb)
  else if b.isNan then (nan, some wa)
  else if fltEq a b then (wa, if wa = wb then none else some wb)
  else (if pick a b then wa else wb, none)

/-- FMIN and FMAX; where two results are open, a free value picks one. Log 49 (DESIGN CHOICE, safe). -/
def State.fpPick (s : State) (n gd ga gb pg : Nat) (pick : Flt → Flt → Bool) : Host.Outcome State Fault Refusal :=
  s.issue n (fun c s =>
    if ¬ c.pr pg then .done (s.lead n [.g gd] c c none)
    else
      let a := Flt.of (c.gr ga).toNat
      let b := Flt.of (c.gr gb).toNat
      let d := c.noteFp (if a.isNan || b.isNan then (fltNanRes a b).flags else 0)
      match fltPick pick (c.gr ga) (c.gr gb) with
      | (x, none) => .done (s.lead n [.g gd] c (d.setG gd x) none)
      | (x, some y) => .done (s.free.2.lead n [.g gd] c (d.setG gd (if s.free.1 % 2 = 0 then x else y)) none))

/-- FMIN. -/
def execFmin (n gd ga gb pg : Nat) (s : State) : Host.Outcome State Fault Refusal := s.fpPick n gd ga gb pg fltLess
/-- FMAX. -/
def execFmax (n gd ga gb pg : Nat) (s : State) : Host.Outcome State Fault Refusal :=
  s.fpPick n gd ga gb pg (fun a b => fltLess b a)
/-- FABS: of a NaN, the one NaN result. -/
def execFabs (n gd ga pg : Nat) (s : State) : Host.Outcome State Fault Refusal :=
  s.fpWord n gd ga ga pg (fun _ a _ => (if (Flt.of a.toNat).isNan then fltNan else bits a.toNat 30 0, 0))
/-- FNEG: of a NaN, the one NaN result. -/
def execFneg (n gd ga pg : Nat) (s : State) : Host.Outcome State Fault Refusal :=
  s.fpWord n gd ga ga pg (fun _ a _ => (if (Flt.of a.toNat).isNan then fltNan else (a ^^^ 0x80000000).toNat, 0))

/-- A comparison of ga and gb into gd. -/
def State.fpCmp (s : State) (n gd ga gb pg : Nat) (quiet : Bool) (p : Flt → Flt → Bool) : Host.Outcome State Fault Refusal :=
  s.fpWord n gd ga gb pg (fun _ a b => fltCompare quiet p (Flt.of a.toNat) (Flt.of b.toNat))

/-- FEQ. -/
def execFeq (n gd ga gb pg : Nat) (s : State) : Host.Outcome State Fault Refusal := s.fpCmp n gd ga gb pg true fltEq
/-- FLT. -/
def execFlt (n gd ga gb pg : Nat) (s : State) : Host.Outcome State Fault Refusal := s.fpCmp n gd ga gb pg false fltLess
/-- FLE. -/
def execFle (n gd ga gb pg : Nat) (s : State) : Host.Outcome State Fault Refusal := s.fpCmp n gd ga gb pg false fltLe

/-- A word as a signed number times 2^e, to binary32. -/
def intToFlt (rm : Nat) (a : Word) (e : Int) : Nat × Nat :=
  let r := fltRoundInt rm a.toInt e false
  (r.word, r.flags)

/-- FCVT.S.W. -/
def execFcvtSW (n gd ga pg : Nat) (s : State) : Host.Outcome State Fault Refusal :=
  s.fpWord n gd ga ga pg (fun rm a _ => intToFlt rm a 0)
/-- FCVT.W.S. -/
def execFcvtWS (n gd ga pg : Nat) (s : State) : Host.Outcome State Fault Refusal :=
  s.fpWord n gd ga ga pg (fun rm a _ => fltToInt rm 0 (Flt.of a.toNat))
/-- FCVT.S.Q. -/
def execFcvtSQ (n gd ga pg : Nat) (s : State) : Host.Outcome State Fault Refusal :=
  s.fpWord n gd ga ga pg (fun rm a _ => intToFlt rm a (-16))
/-- FCVT.Q.S. -/
def execFcvtQS (n gd ga pg : Nat) (s : State) : Host.Outcome State Fault Refusal :=
  s.fpWord n gd ga ga pg (fun rm a _ => fltToInt rm 16 (Flt.of a.toNat))

/-! ## Branches and loops (R189, R190, R200, R201) -/

/-- PC + 4 × off22. -/
def Core.target (c : Core) (off : Int) : Word := c.pc + BitVec.ofInt 32 (4 * off)

/-- BR: taken when pg xor N. -/
def execBr (n pg : Nat) (neg : Bool) (off : Int) (s : State) : Host.Outcome State Fault Refusal :=
  s.issue n (fun c s => .done (s.lead n [] c c (if c.pr pg != neg then some (c.target off) else none)))

/-- CALL: as BR, with g31 = PC + 4 when taken. -/
def execCall (n pg : Nat) (neg : Bool) (off : Int) (s : State) : Host.Outcome State Fault Refusal :=
  s.issue n (fun c s => .done
    (if c.pr pg != neg then s.lead n [.g 31] c (c.setG 31 (c.pc + 4)) (some (c.target off))
     else s.lead n [.g 31] c c none))

/-- JR: a target that is not a multiple of 4 raises FETCH_ALIGN. -/
def execJr (n gd ga pg : Nat) (s : State) : Host.Outcome State Fault Refusal :=
  s.issue n (fun c s =>
    let t := c.gr ga
    if ¬ c.pr pg then .done (s.lead n [.g gd] c c none)
    else if t.toNat % 4 ≠ 0 then .raise s .fetchAlign (some t)
    else .done (s.lead n [.g gd] c (c.setG gd (c.pc + 4)) (some t)))

/-- LOOP: LC counts down, the registers rotate after the bundle, and the branch is taken unless LC is 0 (R179, R200). -/
def execLoop (n : Nat) (off : Int) (s : State) : Host.Outcome State Fault Refusal :=
  s.issue n (fun c s =>
    let lc := c.lc - 1
    .done (s.lead n [] c { c.rotate with lc := lc } (if lc = 0 then none else some (c.target off))))

/-- ROT. -/
def execRot (n : Nat) (s : State) : Host.Outcome State Fault Refusal := s.issueAlone n Core.rotate

/-! ## System group (R205 to R210) -/

/-- POST: a token with the template and slot of ga[15:0], the tag of ga[31:16] and the payload of gb (R205). -/
def execPost (n gd ga gb : Nat) (s : State) : Host.Outcome State Fault Refusal :=
  s.issue n (fun c s =>
    let a := (c.gr ga).toNat
    let (s, code) := if a % 2 ^ 16 = 0xFFFF then (s, 0x03)
      else s.deposit (.post n) (a % 2 ^ 16) (a / 2 ^ 16) (c.gr gb)
    .done (s.setCore n ((s.core n).setG gd (BitVec.ofNat 32 code)).next))

/-- A task that entered service before its scheduled instant runs ahead (R43, R239). -/
def State.coreAhead (s : State) (n : Nat) : Bool := (s.core n).svc.any Service.early

/-- The instance's trajectory point joins the credit queue of its arm group when it completes, with the PLAN_SEQ of its
service: in CREDIT, and when PACE has left CREDIT while it was in service (R41, R45, R47).
Log 20 (DEDUCED, unsafe), 56 (DEDUCED, unsafe). -/
def State.pushPoint (s : State) (v : Service) : State :=
  let g := s.flowOwner v.flow % 16
  let a := s.ag g
  if v.ahead && (a.pace || v.early) then
    s.setAg g { a with queue := a.queue ++ [(v.tag, v.planSeq)],
                       draining := a.draining || (!a.pace && !a.queue.isEmpty) }
  else s

/-- DONE: the instance ends, its flow is released, and the core is IDLE (R206, R213). Log 56 (DEDUCED, unsafe). -/
def execDone (n : Nat) (s : State) : Host.Outcome State Fault Refusal :=
  s.issue n (fun c s =>
    let s := s.setCore n { c.next with run := .idle, handler := false, svc := none, budgetDue := false }
    .done (match c.svc with
      | some v => (s.pushPoint v).flowDone v.flow
      | none => s))

/-- SOLVE: gb must be g0 (R207). -/
def execSolve (n gd ga gb : Nat) (s : State) : Host.Outcome State Fault Refusal :=
  s.issue n (fun c s =>
    if gb % 32 ≠ 0 then .raise s .illegal none
    else
      let (code, s) := s.solve n (c.gr ga).toNat (s.coreAhead n)
      .done (s.setCore n ((s.core n).setG gd (BitVec.ofNat 32 code)).next))

/-- TWAIT: ga must be even and gb g0 (R208). -/
def execTwait (n gd ga gb : Nat) (s : State) : Host.Outcome State Fault Refusal :=
  s.issue n (fun c s =>
    let t := (c.gr ga).toNat + 2 ^ 32 * (c.gr (ga + 1)).toNat
    if ga % 2 ≠ 0 ∨ gb % 32 ≠ 0 then .raise s .illegal none
    else if t * 2 ^ 32 ≤ s.time.ct then .done (s.setCore n (c.setG gd 0x09).next)
    else if s.ctNs + 1000000000 < t then .done (s.setCore n (c.setG gd 0x03).next)
    else .done (s.setCore n { c with run := .wait, twait := some t, twaitRd := gd, gateAt := some (s.islandCycles n) }))

/-- TWAIT_WAKE: CT reaches the instant; the core writes gd = 0 and goes on. Where BUDGET has run out by then, its
exception ends the wait instead, without writing gd (R208). -/
def execTwaitWake (n : Nat) (s : State) : Host.Outcome State Fault Refusal :=
  let c := s.core n
  match c.run, c.twait with
  | .wait, some t =>
    let s := s.advanceTo t
    if (s.core n).budgetDue then .next (s.exception n .budget none)
    else
      let s := s.ungate n
      let c := s.core n
      .next (s.setCore n ({ c.setG c.twaitRd 0 with run := .run, twait := none }).next)
  | _, _ => .next s

/-- FENCE: in a model that performs every access in order it only advances the PC (R209). -/
def execFence (n : Nat) (s : State) : Host.Outcome State Fault Refusal := s.issueAlone n id

/-- CORE cycles of core `n` since core reset, its gated clock left out. Log 96 (DESIGN CHOICE, unsafe). -/
def State.coreCycles (s : State) (n : Nat) : Nat :=
  let c := s.core n
  (c.gateAt.getD (s.islandCycles n) - c.cycOff) % 2 ^ 64

/-- The value of a CSR. -/
def State.csr (s : State) (n k : Nat) : Word :=
  let c := s.core n
  let w (v : Nat) : Word := BitVec.ofNat 32 v
  match k with
  | 0 => w (s.coreStatus n)
  | 1 => w (b2n c.sat + 2 * b2n c.aovf)
  | 2 => w c.satCnt
  | 3 => w c.aovfCnt
  | 4 => c.lc
  | 5 => w c.rrb
  | 6 => c.fpsr
  | 8 => c.epc
  | 9 => c.ecause
  | 10 => c.eaddr
  | 11 => c.estatus
  | 12 => c.vbar
  | 16 => w c.budget
  | 17 => w (s.coreCycles n)
  | 18 => w ((Tab.get (fun _ => none) s.latches (cycleKey n)).getD (s.coreCycles n / 2 ^ 32))
  | _ => c.cbr ((k - 32) / 3) ((k - 32) % 3)

/-- A core with a CSR written. FLAGS clears the flags written 1 (R199); RRB, FPSR and VBAR hold only their fields.
Log 48 (DEDUCED, unsafe). -/
def Core.setCsr (c : Core) (k : Nat) (v : Word) : Core :=
  match k with
  | 1 => { c with sat := c.sat && !v.getLsbD 0, aovf := c.aovf && !v.getLsbD 1 }
  | 4 => { c with lc := v }
  | 5 => { c with rrb := v.toNat % 64 }
  | 6 => { c with fpsr := v &&& 0x31F }
  | 8 => { c with epc := v }
  | 9 => { c with ecause := v }
  | 10 => { c with eaddr := v }
  | 11 => { c with estatus := v }
  | 12 => { c with vbar := v &&& 0x7FC00 }
  | _ => c.setCb ((k - 32) / 3) ((k - 32) % 3) v

/-- MTC. -/
def execMtc (n ga imm : Nat) (s : State) : Host.Outcome State Fault Refusal :=
  s.issue n (fun c s =>
    if ¬ csrExists imm ∨ csrReadOnly imm then .raise s .illegal none
    else if csrHandler imm ∧ ¬ c.handler then .raise s .priv none
    else .done (s.setCore n (c.setCsr imm (c.gr ga)).next))

/-- MFC: a read of CYCLE_LO latches CYCLE_HI (R9). -/
def execMfc (n gd imm : Nat) (s : State) : Host.Outcome State Fault Refusal :=
  s.issue n (fun c s =>
    if ¬ csrExists imm then .raise s .illegal none
    else if csrHandler imm ∧ ¬ c.handler then .raise s .priv none
    else
      let v := s.csr n imm
      let s : State := if imm = 17 then
          { s with latches := Tab.set (fun _ => none) s.latches (cycleKey n) (some (s.coreCycles n / 2 ^ 32)) }
        else s
      .done (s.setCore n (c.setG gd v).next))

/-- ERET: to EPC, with STATUS restored from ESTATUS (R210); PC stays a multiple of 4 (R175).
Log 48 (DEDUCED, unsafe). -/
def execEret (n : Nat) (s : State) : Host.Outcome State Fault Refusal :=
  s.issue n (fun c s =>
    if ¬ c.handler then .raise s .priv none
    else .done (s.setCore n { c with pc := c.epc &&& 0xFFFFFFFC, handler := c.estatus.getLsbD 0,
                                     lcore := bits c.estatus.toNat 15 8 }))

/-- TRAP: EPC is the following instruction, EADDR the code (R211). -/
def execTrap (n imm : Nat) (s : State) : Host.Outcome State Fault Refusal :=
  s.issue n (fun c s => .raise (s.setCore n c.next) .trap (some (BitVec.ofNat 32 (imm % 2 ^ 12))))

/-- BRK: raised while no debugger holds the core; a core that a debugger steps goes past it (R211).
Log 47 (DEDUCED, unsafe). -/
def execBrk (n : Nat) (s : State) : Host.Outcome State Fault Refusal :=
  s.issue n (fun c s => if c.haltReq then .done (s.setCore n c.next) else .raise s .brk none)

/-! ## ILLEGAL (R188, R189) -/

/-- ILLEGAL: core `n` fetches an illegal word (R189); a legal word is not this command's.
Log 3 (DESIGN CHOICE, unsafe). -/
def execIllegal (n w : Nat) (s : State) : Host.Outcome State Fault Refusal :=
  if wordIllegal w then s.issue n (fun _ s => .raise s .illegal none) else .next s

/-! ## BUDGET (R215) and the debug window (R217) -/

/-- BUDGET: the count of the instance in service reaches 0, and the exception is taken at the next bundle boundary; a
waiting core takes it with EPC at its TWAIT (R208, R211, R215). -/
def execBudget (n : Nat) (s : State) : Host.Outcome State Fault Refusal :=
  let c := s.core n
  let s := if c.svc.isSome ∧ ¬ c.budgetDue then s.advance c.budget else s
  let c := s.core n
  if n < 72 ∧ s.domOn (n / 4) ∧ c.budgetDue ∧ ¬ c.frozen ∧ (c.run = .run ∨ c.run = .wait) ∧ c.pair = none then
    .next (s.exception n .budget none)
  else .next s

/-- A halt request meets core `n`: at a bundle boundary, and after a BUDGET exception that is due there (R211). A core
inside a bundle halts at its end. -/
def State.haltAsked (s : State) (n : Nat) : State :=
  let c := s.core n
  if c.pair.isSome ∨ ¬ (c.run = .run ∨ c.run = .wait) then s
  else
    let s := if c.budgetDue ∧ ¬ c.frozen then s.exception n .budget none else s
    if (s.core n).run = .stopped then s else s.haltNow n

/-- A write of VC_CTLn: HALT and STEP are guarded by the lifecycle lock (R8, R217). HALT = 0 ends a STEP under way too; a
core that HALT met in a TWAIT is stepped over the rest of its wait and the bundle after it. Log 47 (DEDUCED, unsafe). -/
def writeVcCtl (q : Requester) (n : Nat) (v : Word) (s : State) : State :=
  let w := v.toNat
  let c := s.core n
  let halt := decide (F.VC_CTLn_HALT.of w = 1)
  let step := decide (F.VC_CTLn_STEP.of w = 1)
  let clear := decide (F.VC_CTLn_CLEAR.of w = 1)
  if ¬ s.lockOpen ∧ (step ∨ halt ≠ s.flag F.VC_CTLn_HALT n) then s.refuse q .VC_CTLn n 0 0x06
  else if (clear ∧ c.run ≠ .stopped) ∨ (step ∧ c.run ≠ .halted) then s.refuse q .VC_CTLn n 0 0x02
  else
    let s := s.setFd F.VC_CTLn_HALT n 0 (b2n halt)
    if clear then s.setCore n { c with run := .idle, handler := false }
    else if halt ∧ c.run ≠ .halted then s.haltAsked n
    else if ¬ halt then s.setCore n { c with run := if c.run = .halted then c.resume else c.run, haltReq := false }
    else if step then s.setCore n { c with run := c.resume, haltReq := true }
    else s

/-- CORE_HALT: a write of VC_CTLn with HALT 1. Log 47 (DEDUCED, unsafe). -/
def execCoreHalt (q : Requester) (n : Nat) (v : Word) (s : State) : Host.Outcome State Fault Refusal :=
  s.write q .VC_CTLn n 0 (writeVcCtl q n v)
/-- CORE_RESUME: a write of VC_CTLn with HALT 0. -/
def execCoreResume (q : Requester) (n : Nat) (v : Word) (s : State) : Host.Outcome State Fault Refusal :=
  s.write q .VC_CTLn n 0 (writeVcCtl q n v)
/-- CORE_STEP: a write of VC_CTLn with STEP 1. Log 47 (DEDUCED, unsafe). -/
def execCoreStep (q : Requester) (n : Nat) (v : Word) (s : State) : Host.Outcome State Fault Refusal :=
  s.write q .VC_CTLn n 0 (writeVcCtl q n v)
/-- CORE_CLEAR: a write of VC_CTLn with CLEAR 1. -/
def execCoreClear (q : Requester) (n : Nat) (v : Word) (s : State) : Host.Outcome State Fault Refusal :=
  s.write q .VC_CTLn n 0 (writeVcCtl q n v)

end Sys2Proof.Machine
end

