-- ==== Sys2Proof/Machine/Domains.lean ====
section
/-!
DEFINITION. What each power domain keeps and loses in a change of state (R513, R530 to R533), what keeps a domain busy
(R516), and the resets of the module (R568, R58, R628).
-/

namespace Sys2Proof.Machine

/-! ## What is busy (R516, R524) -/

/-- A chain link carries cell time or pair traffic: the chain is enabled in ring or pair mode (R516).
Log 39 (DEDUCED, unsafe). -/
def State.chainBusy (s : State) : Bool := s.flag F.CH_CTL_EN && decide (s.fd F.CH_CTL_MODE ≠ 0)

/-- A core of the slice is in RUN, WAIT or HANDLER, or a descriptor has IN or OUT in the slice's memory (R516).
Log 77 (DEDUCED, unsafe). -/
def State.sliceBusy (s : State) (d : Nat) : Bool :=
  (List.range 4).any (fun c =>
    let k := s.core (4 * d + c)
    decide (k.run = .run) || decide (k.run = .wait) || (k.handler && decide (k.run ≠ .stopped))) || s.descInSlice d

/-- A plant Ethernet transmit descriptor is outstanding (R516). Log 77 (DEDUCED, unsafe). -/
def State.hostBusy (s : State) : Bool :=
  (List.range 2).any (fun n => s.flag F.HS_HEn_CTL_EN n && (List.range 8).any (fun q =>
    s.flag F.HS_HEn_TXq_CTL_EN n q && decide (s.fd F.HS_HEn_TXq_IDX_HEAD n q ≠ s.fd F.HS_HEn_TXq_IDX_TAIL n q)))

/-- Every AX channel is DISABLED, IDLE or FAULT, and no step output has steps pending (R524).
Log 77 (DEDUCED, unsafe). -/
def State.axesRest (s : State) : Bool :=
  (List.range 256).all (fun n =>
    let st := s.axState n
    decide (st = 0 ∨ st = 1 ∨ st = 5)) &&
  s.axRunning.all (fun n =>
    let r := s.axLive n
    match axStepOut r with
    | some _ => !axStepped r || (s.stepSync n).stepIdle n
    | none => true)

/-! ## Registers of a domain -/

/-- The register at an offset lies in power domain `d`. -/
def inDomain (d off : Nat) : Bool :=
  match findReg off with
  | some (r, i, _) => decide (r.domain i = d)
  | none => false

/-- The fixed keep-list of a domain, over its registers: every SO, CH, HS and LC register (R530). A slice keeps
VC_EXCn and VC_STATn.EXC_CNT with its cores. -/
def fixedKeep (d : Nat) : Bool := decide (22 ≤ d ∧ d ≤ 24)

/-- A latched CYCLE_HI of a core of slice `d` (R9). -/
def cycleLatched (d key : Nat) : Bool := decide (d < 18) && (List.range 4).any (fun c => decide (key = cycleKey (4 * d + c)))

/-- Registers of a domain return to their reset values; held _LO writes and latched _HI values of the domain go with
them, those of its cores' CYCLE too (R9, R612). -/
def State.domainReset (s : State) (d : Nat) : State :=
  let s := s.resetRegs (inDomain d)
  { s with holds := s.holds.filter (fun e => !inDomain d (e.1 % 2 ^ 26)),
           latches := s.latches.filter (fun e => !inDomain d (e.1 % 2 ^ 26) && !cycleLatched d e.1) }

/-- The listed registers of a domain as they stand at save: the whole state but for WO fields (R532).
Log 76 (DEDUCED, unsafe). -/
def State.keepSave (s : State) (d : Nat) : List (Nat × Word) :=
  let user := Tab.get (fun _ => []) s.pw.keep d
  let fixed := if fixedKeep d then (s.regs.map (·.1)).filter (inDomain d) else []
  ((user ++ fixed).dedup).filterMap (fun off =>
    (findReg off).map (fun (r, i, j) => (off, BitVec.ofNat 32 (s.rg r i j &&& r.readMask))))

/-- Saved registers returned, without any check (R532). Log 76 (DEDUCED, unsafe). -/
def State.keepRestore (s : State) (l : List (Nat × Word)) : State :=
  s.forEach l (fun e s => { s with regs := Tab.set regDefault s.regs e.1 e.2 })

/-! ## Cores -/

/-- The clock of a core stops: CYCLE stands still. Log 76 (DEDUCED, unsafe). -/
def State.gate (s : State) (n : Nat) : State :=
  let c := s.core n
  if c.gateAt.isSome then s else s.setCore n { c with gateAt := some (s.islandCycles n) }

/-- A core as core reset leaves it at this instant: CYCLE counts from here. Log 5 (DESIGN CHOICE, unsafe). -/
def State.coreFresh (s : State) (n : Nat) : Core :=
  { coreReset with cycOff := s.islandCycles n, gateAt := some (s.islandCycles n) }

/-- A core whose slice goes to RETAIN keeps its CSRs marked "kept" and its VC counters (R530); the rest is at reset.
Log 5 (DESIGN CHOICE, unsafe), 76 (DEDUCED, unsafe). -/
def Core.retained (c : Core) : Core :=
  { coreReset with sat := c.sat, aovf := c.aovf, satCnt := c.satCnt, aovfCnt := c.aovfCnt, fpsr := c.fpsr,
                   vbar := c.vbar, cb := c.cb, cycOff := c.cycOff, gateAt := c.gateAt, excCnt := c.excCnt,
                   dfCnt := c.dfCnt, lastCause := c.lastCause }

/-- An instance in service on a core whose slice loses its state ends abnormally (R654). -/
def State.endService (s : State) (n : Nat) : State := if (s.core n).svc.isSome then s.endAbnormal n 0x00 else s

/-- The memories of a slice are lost: they read 0 after the wake (R513). -/
def State.sliceLost (s : State) (d : Nat) : State :=
  { s with mem := { s.mem with
      tcm := Mem.clear s.mem.tcm (d * 0x200000) ((d + 1) * 0x200000),
      win := Mem.clear s.mem.win (d * 0x80000) ((d + 1) * 0x80000),
      shared := Mem.clear s.mem.shared (d * 0x100000) ((d + 1) * 0x100000) } }

/-- What authentication granted is gone (R598). -/
def State.dropGrant (s : State) : State := { s with lc := { s.lc with granted := 0 } }

/-- The next boot journals that access ended by a reset (R603). -/
def State.noteEnded (s : State) : State := { s with lc := { s.lc with endedByReset := true } }

/-- Every core is released from the debugger: HALT is clear, a core in HALTED goes on, and one in a single step does not halt
after it (R603). -/
def State.resumeAll (s : State) : State :=
  s.forEach (List.range 72) (fun n s =>
    let s := s.setFd F.VC_CTLn_HALT n 0 0
    let c := s.core n
    if c.run = .halted then s.setCore n { c with run := c.resume, haltReq := false }
    else if c.haltReq then s.setCore n { c with haltReq := false } else s)

/-- Access granted by authentication ends: cores held HALTED by the debugger resume (R603); `why` is the detail of
journal event 0x1F. Log 76 (DEDUCED, unsafe). -/
def State.endAccess (s : State) (why : Option Nat) : State :=
  let was := s.accessLevel
  let s := s.dropGrant
  if was = s.accessLevel then s
  else
    let s := s.vectorEvent 8 0
    if was ≠ 2 then s
    else
      match why with
      | some w => s.resumeAll.journal 0x1F 0x0F 0x00 0 [w]
      | none => s.resumeAll.noteEnded

/-! ## A domain leaves a state, and comes up (R513) -/

/-- Sorus loses its captures, and the capture area with them. -/
def State.sorusLost (s : State) : State := { s with so := { caps := [] }, mem := { s.mem with dram := [] } }

/-- The host complex loses what it was doing: commands that wait, an image command, a challenge and the wait of a failed
authentication. -/
def State.hostLost (s : State) : State :=
  { s with hs := { s.hs with waiting := [], late := [], img := none }, lc := { s.lc with chal := none, waitFrom := none } }

/-- The chain ports lose what they were doing. -/
def State.chainLost (s : State) : State :=
  { s with ch := { s.ch with missed := 0, word0 := false, word1 := false, syncSeen := false, words := [], asks := [],
                             answers := [], takeover := none, quiet0 := 0, quiet1 := 0 } }

/-- What a slice, a cluster, Sorus, the chain or the host complex loses when its logic loses supply. -/
def State.logicLost (s : State) (d : Nat) (sramToo : Bool) : State :=
  if d < 18 then
    let s := s.forEach (List.range 4) (fun c s => (s.endService (4 * d + c)).gate (4 * d + c))
    let s := s.forEach (List.range 4) (fun c s =>
      let n := 4 * d + c
      s.setCore n (if sramToo then s.coreFresh n else (s.core n).retained))
    if sramToo then s.sliceLost d else s
  else if d < 22 then (if sramToo then s.clusterLost (d - 18) else s)
  else if sramToo then
    match d with
    | 22 => s.sorusLost
    | 23 => s.chainLost
    | _ => (s.endAccess (some 0)).hostLost
  else s

/-- What RETAIN keeps of domain `d` is saved on the way into it, and lost on the way into OFF (R532). -/
def State.keepAt (s : State) (d cur st : Nat) : State :=
  if cur < 2 ∧ st = 2 then
    { s with pw := { s.pw with saved := Tab.set (fun _ => []) s.pw.saved d (s.keepSave d) } }
  else if st = 3 then { s with pw := { s.pw with saved := Tab.set (fun _ => []) s.pw.saved d [] } }
  else s

/-- A domain takes a lower state: 1 GATED stops its clock (a slice's SLACK reads 0x80 from then, R541), 2 RETAIN and 3 OFF reset its registers; a step down passes
through the states between (R513, R514, R532). Log 76 (DEDUCED, unsafe). -/
def State.domainDown (s : State) (d st : Nat) : State :=
  let cur := s.domState d
  let s : State := if d < 18 then (s.forEach (List.range 4) (fun c s => s.gate (4 * d + c))).setFd F.SV_HEALTHs_SLACK d 0 0x80
    else s
  let s := s.keepAt d cur st
  let s : State := if 2 ≤ st then (s.logicLost d (decide (st = 3))).domainReset d else s
  s.setFd F.PW_DOMd_STAT_STATE d 0 st

/-- A domain comes ON: from RETAIN its keep-lists are restored, or, where an entry fails its ECC check, it comes up as
after OFF (R513, R532, R533). Log 76 (DEDUCED, unsafe). -/
def State.domainUp (s : State) (d : Nat) (keepOk : Bool) : State :=
  let cur := s.domState d
  if cur = 0 then s
  else
    let s := (s.setFd F.PW_DOMd_STAT_STATE d 0 0).incFd F.PW_DOMd_STAT_WAKE_CNT d 0
    let saved := Tab.get (fun _ => []) s.pw.saved d
    let s : State := { s with pw := { s.pw with saved := Tab.set (fun _ => []) s.pw.saved d [] } }
    let s : State :=
      if cur ≠ 2 then s
      else if keepOk then s.keepRestore saved
      else
        let s : State := if d < 18 then s.forEach (List.range 4) (fun c s => s.setCore (4 * d + c) (s.coreFresh (4 * d + c)))
          else match d with
            | 22 => { s with so := { caps := [] } }
            | 23 => s.chainLost
            | 24 => (s.endAccess (some 0)).hostLost
            | _ => s
        (s.raise F.PW_DOMd_STAT_KEEP_LOST F.PW_DOMd_STAT_KL_CNT d 0).journal 0x12 0x0B 0x76 2 [d]
    if d < 18 then s.forEach (List.range 4) (fun c s => s.ungate (4 * d + c)) else s

/-! ## Resets of the module -/

/-- The register file after a reset: the calendar keeps its registers (R628); `crust` keeps those of Crust too, but for
the states of domains, module and islands and the watchdog's enable, which boot as after power-on (R512, R566, R568). -/
def resetDrops (crust : Bool) (off : Nat) : Bool :=
  if 0x208000 ≤ off ∧ off < 0x400000 then false
  else match findReg off with
  | some (r, _, _) => !(crust && decide (r.row.dom = .crust)) || decide (r = .SV_WDOG_CTL)
  | none => true

/-- The states of the domains, the module and the islands that a reset brings, in registers that keep their counters
(R512, R627). Log 28 (DESIGN CHOICE, unsafe). -/
def State.pwFresh (s : State) : State :=
  let s := s.forEach (List.range 25) (fun d s =>
    let v := if d = 24 then 0 else 3
    ((s.setFd F.PW_DOMd_CTL_REQ d 0 v).setFd F.PW_DOMd_STAT_STATE d 0 v).setFd F.PW_DOMd_STAT_MOVING d 0 0)
  let s := ((s.setFd F.PW_MOD_STATE 0 0 0).setFd F.PW_MOD_BUSY 0 0 0).setFd F.PW_MOD_THERM 0 0 0
  s.forEach (List.range 3) (fun i s =>
    let s := (s.setFd F.PW_VOLTi_CTL_TARGET i 0 680).setFd F.PW_VOLTi_CTL_AVS i 0 0
    let s := (s.setFd F.PW_VOLTi_CTL_FSTEP i 0 0).setFd F.PW_VOLTi_STAT_MEAS i 0 680
    (s.setFd F.PW_VOLTi_STAT_CHECKED i 0 1).setFd F.PW_VOLTi_STAT_STEPPING i 0 0)

/-- What a reset leaves of the state outside the register file; `full` says whether access by authentication ends with
it. Log 28 (DESIGN CHOICE, unsafe). -/
def State.freshModule (s : State) (crust full : Bool) : State :=
  { s with
    time := { State.reset.time with ticks := s.time.ticks }
    cell := State.reset.cell
    lv := State.reset.lv
    cores := []
    pw := if crust then { pwReset with keep := s.pw.keep, temp := s.pw.temp } else { pwReset with temp := s.pw.temp }
    sv := { s.sv with mig := none, hold := none, wdKick := s.time.ticks, wdKey := none, wdEarly := false, wdHad := false }
    jnl := if crust then s.jnl else { s.jnl with queue := [], lost := false, loading := false }
    ch := { State.reset.ch with strap := s.ch.strap, heardTwice := s.ch.heardTwice, peerMatch := s.ch.peerMatch }
    hs := { State.reset.hs with msix := s.hs.msix, sent := s.hs.sent }
    lc := { s.lc with granted := 0, chal := none, waitFrom := none, endedByReset := full }
    kl := State.reset.kl
    ax := State.reset.ax
    so := State.reset.so
    fb := State.reset.fb
    kn := State.reset.kn
    mem := { s.mem with sram := [], tcm := [], win := [], shared := [], dram := [] }
    holds := if crust then s.holds.filter (fun e => !resetDrops true (e.1 % 2 ^ 26)) else []
    latches := if crust then s.latches.filter (fun e => !resetDrops true (e.1 % 2 ^ 26)) else [] }

/-- Everything outside Crust and MRAM returns to its state after power-on reset; `crust` says whether Crust keeps its
own (R568), or is reset too (R628). MRAM contents, the calendar and the pins stay. Log 28 (DESIGN CHOICE, unsafe). -/
def State.moduleReset (s : State) (crust : Bool) : State :=
  let full := decide (s.accessLevel = 2 ∧ s.lc.state = 2)
  (((s.resetRegs (resetDrops crust)).pwFresh).freshModule crust full).thStart

/-- The clock monitor reports the references that are present: the external one at its lands, and the host's PCIe
reference, which a power-up or a reset finds present (R54, R57, R582). Log 104 (DESIGN CHOICE, unsafe). -/
def State.refsSeen (s : State) : State :=
  (s.setFd F.CLK_STAT_EXT_PRESENT 0 0 (b2n (s.extRef ≠ 0))).setFd F.CLK_STAT_PCIE_REF 0 0 1

/-- Step 1 of a boot: the root PLL locks, the straps have been sampled, a boot has started, and STATE reads CHECK (R61,
R593, R627). Log 27 (DEDUCED, unsafe). -/
def State.pllLock (s : State) : State :=
  ((s.refsSeen.setFd F.CLK_STAT_PLL_LOCK 0 0 1).incFd F.GLOBAL_RESET_BOOT_CNT 0 0).setFd F.HS_BOOT_STAT_STATE 0 0 1

/-- A watchdog bite (cause 1) or a PLL-unlock reset (cause 2): Crust keeps its state (R58, R568).
Log 28 (DESIGN CHOICE, unsafe). -/
def State.warmReset (s : State) (cause : Nat) : State :=
  ((s.moduleReset true).setFd F.GLOBAL_RESET_CAUSE 0 0 cause).pllLock

end Sys2Proof.Machine
end

