-- ==== Sys2Proof/Machine/Power.lean ====
section
/-!
DEFINITION. Power domains, module states, keep-lists and voltage steps (chapter 14).
-/

namespace Sys2Proof.Machine

/-! ## Domain requests (R514 to R517, R543, R552) -/

/-- A domain refuses to leave ON: counters, REFUSE, PW_LASTREF with the CT, REQ back to ON, dispatch resumes (R517).
`q` is the requester of the request. Log 80 (DESIGN CHOICE, unsafe). -/
def State.refuseLeave (s : State) (q : Requester) (d code : Nat) : State :=
  let s := s.refuse q .PW_DOMd_CTL d 0 code
  let s := s.setRg .PW_LASTREF 0 0 (code * 2 ^ 24 + d)
  let s := s.setRg64 .PW_LASTREF_CT_LO .PW_LASTREF_CT_HI 0 s.ctNs
  let s : State := { s with pw := { s.pw with drain := s.pw.drain.filter (fun e => e.1 ≠ d),
                                              target := s.pw.target.filter (fun e => e.1 ≠ d) } }
  (s.setFd F.PW_DOMd_CTL_REQ d 0 0).setFd F.PW_DOMd_STAT_MOVING d 0 0

/-- The immediate conditions under which a domain refuses to leave ON (R516, R552). -/
def State.leaveAtOnce (s : State) (d : Nat) : Option Nat :=
  if d < 18 then
    if (List.range 16).any (fun g => s.agEnabled g && decide (s.sliceOf g = d)) then some 0x70
    else if (match s.sv.mig with | some m => decide (m.target = d) | none => false) then some 0x70
    else if (List.range 4).any (fun c => decide ((s.core (4 * d + c)).run = .halted)) then some 0x02
    else none
  else if d < 22 then
    let k := d - 18
    if bit (s.fd F.KN_CTL_EN) k ∨ (List.range 16).any (fun g =>
        s.agEnabled g && decide (bits (s.rg .KN_AGMAP) (2 * g + 1) (2 * g) = k)) then some 0x70 else none
  else if d = 23 then (if s.chainBusy then some 0x70 else none)
  else none

/-- The conditions checked when the drain time ends (R516). -/
def State.leaveAfterDrain (s : State) (d : Nat) : Bool :=
  if d < 18 then s.sliceBusy d
  else if d < 22 then s.clusterBusy (d - 18)
  else if d = 22 then s.sorusBusy
  else if d = 24 then s.hostBusy
  else false

/-- A domain starts to leave ON for a target: dispatch stops and the drain time runs (R515). -/
def State.startDrain (s : State) (d target : Nat) : State :=
  let s : State := { s with pw := { s.pw with drain := (d, s.time.ticks) :: s.pw.drain,
                                              target := Tab.set (fun _ => 0) s.pw.target d target } }
  s.setFd F.PW_DOMd_STAT_MOVING d 0 1

/-- A domain that is not ON starts to move to a target. -/
def State.startMove (s : State) (d target : Nat) : State :=
  let s : State := { s with pw := { s.pw with target := Tab.set (fun _ => 0) s.pw.target d target } }
  s.setFd F.PW_DOMd_STAT_MOVING d 0 1

/-- A write of PW_DOMd_CTL (R511, R514 to R517, R543). Log 13 (DEDUCED, unsafe). -/
def writeDomCtl (q : Requester) (d : Nat) (v : Word) (s : State) : State :=
  let t := F.PW_DOMd_CTL_REQ.of v.toNat
  let cur := s.domState d
  let still := decide (2 ≤ s.fd F.PW_MOD_STATE) || s.flag F.PW_MOD_BUSY || s.flag F.PW_DOMd_STAT_MOVING d
  if s.keeps F.PW_DOMd_CTL_REQ d 0 v.toNat ∧ (25 ≤ d ∨ still ∨ cur = t) then s
  else if 25 ≤ d then s.refuse q .PW_DOMd_CTL d 0 0x74
  else if 2 ≤ s.fd F.PW_MOD_STATE ∨ s.flag F.PW_MOD_BUSY then s.refuse q .PW_DOMd_CTL d 0 0x02
  else if s.flag F.PW_DOMd_STAT_MOVING d then s.refuse q .PW_DOMd_CTL d 0 0x01
  else if t < 3 ∧ bit s.sv.retired d then s.refuse q .PW_DOMd_CTL d 0 0x78
  else if cur = t then s.setFd F.PW_DOMd_CTL_REQ d 0 t
  else if cur = 0 then
    match s.leaveAtOnce d with
    | some c => s.refuseLeave q d c
    | none => (s.setFd F.PW_DOMd_CTL_REQ d 0 t).startDrain d t
  else (s.setFd F.PW_DOMd_CTL_REQ d 0 t).startMove d t

/-- DOMAIN_REQUEST: a write of PW_DOMd_CTL by a requester. -/
def execDomainRequest (q : Requester) (d : Nat) (v : Word) (s : State) : Host.Outcome State Fault Refusal :=
  s.write q .PW_DOMd_CTL d 0 (writeDomCtl q d v)

/-! ## Entering HOLD or NAP, and waking (R524 to R529) -/

/-- The members of HOLD and NAP: domains 0 to 23 whose bit in PW_KEEPMASK is 0 (R522). -/
def State.members (s : State) : List Nat := (List.range 24).filter (fun d => !bit (s.fd F.PW_KEEPMASK_KEEP) d)

/-- The module takes a state: vector source 0x07 fires on a change (R584). -/
def State.setModState (s : State) (st : Nat) : State :=
  if s.fd F.PW_MOD_STATE = st then s else (s.setFd F.PW_MOD_STATE 0 0 st).vectorEvent 7 0

/-- R524: arm groups off, axes at rest with no steps pending, and for NAP every port disabled. -/
def State.mayRest (s : State) (nap : Bool) : Bool :=
  decide (s.fd F.GLOBAL_AG_EN_EN = 0) && s.axesRest && (!nap || !s.anyPort)

/-- The next member of an entry starts to drain, or refuses at once and aborts the entry; with none left the
members are committed and go to their target (R525, R526). Log 78 (DEDUCED, unsafe). -/
def State.entryNext (s : State) (e : PwEntry) : State :=
  match e.todo with
  | d :: _ => ({ s with pw := { s.pw with entry := some e } }).startDrain d 1
  | [] =>
    let goal := e.target
    let go := s.members.filter (fun d => decide (s.domState d < goal ∧ 0 < s.domState d))
    -- the dividers and targets of RUN or TRIM are saved; from HOLD they stay those saved at its entry
    let run := decide (s.fd F.PW_MOD_STATE < 2)
    let mv := (List.range 3).map (fun i => s.fd F.PW_VOLTi_CTL_TARGET i)
    let s : State := { s with pw := { s.pw with savedDvfs := if run then s.rg .CLK_DVFS % 2 ^ 12 else s.pw.savedDvfs,
                                                savedMv := if run then mv else s.pw.savedMv,
                                                entry := some { e with todo := go, committed := true } } }
    s.forEach go (fun d s => s.startMove d goal)

/-- The entry is complete: the islands go to /20 at 0.60 V and PW_MOD.STATE is written (R525, steps 4 and 5).
Log 78 (DEDUCED, unsafe). -/
def State.entryFinish (s : State) (target : Nat) : State :=
  let s := s.setRg .CLK_DVFS 0 0 (s.rg .CLK_DVFS / 2 ^ 12 * 2 ^ 12 + 0x444)
  let s := s.forEach (List.range 3) (fun i s =>
    ((s.setFd F.PW_VOLTi_CTL_TARGET i 0 600).setFd F.PW_VOLTi_STAT_MEAS i 0 600).setFd F.PW_VOLTi_STAT_CHECKED i 0 1)
  let s : State := { s with pw := { s.pw with entry := none } }
  (s.setModState target).setFd F.PW_MOD_BUSY 0 0 0

/-- A wake starts: saved dividers and island targets are restored and every member starts towards ON in descending
domain id (R528). A retired slice stays OFF (R543). Log 78 (DEDUCED, unsafe). -/
def State.startWake (s : State) : State :=
  let go := (s.members.filter (fun d => decide (s.domState d ≠ 0) && !bit s.sv.retired d)).reverse
  let nap := decide (s.fd F.PW_MOD_STATE = 3)
  let s := s.setRg .CLK_DVFS 0 0 (s.rg .CLK_DVFS / 2 ^ 12 * 2 ^ 12 + s.pw.savedDvfs)
  let s := s.forEach (List.range 3) (fun i s =>
    let mv := s.pw.savedMv.getD i 680
    (s.setFd F.PW_VOLTi_CTL_TARGET i 0 mv).setFd F.PW_VOLTi_STAT_MEAS i 0 mv)
  let s := s.setFd F.PW_MOD_BUSY 0 0 1
  let s := s.forEach go (fun d s => s.startMove d 0)
  let e : PwEntry := { target := 0, stopped := [], todo := go, committed := true }
  if go = [] then
    if nap then { s with pw := { s.pw with entry := none, reload := true } }
    else ({ s with pw := { s.pw with entry := none } }.setModState 0).setFd F.PW_MOD_BUSY 0 0 0
  else { s with pw := { s.pw with entry := some e, reload := nap } }

/-- An entry is aborted: every member it stopped returns to ON in reverse order, PW_ABORT_CNT and the refuser are
recorded (R526, R527). `q` made the request; `d` is the refusing domain, or none for a wake source.
Log 78 (DEDUCED, unsafe). -/
def State.abortEntry (s : State) (q : Requester) (e : PwEntry) (d : Option Nat) (code : Nat) : State :=
  let cancel := e.todo.take 1
  let s : State := { s with pw := { s.pw with entry := none, drain := s.pw.drain.filter (fun x => !cancel.contains x.1),
                                              target := s.pw.target.filter (fun x => !cancel.contains x.1) } }
  let s := s.forEach cancel (fun d s => s.setFd F.PW_DOMd_STAT_MOVING d 0 0)
  let s := s.forEach e.stopped (fun d s => s.domainUp d true)
  let s := s.incFd F.PW_ABORT_CNT_COUNT 0 0
  let s : State := match d with
    | some d => s.refuseLeave q d code
    | none =>
      (s.setRg .PW_LASTREF 0 0 (code * 2 ^ 24 + 0x1F)).setRg64 .PW_LASTREF_CT_LO .PW_LASTREF_CT_HI 0 s.ctNs
  (s.setFd F.PW_MOD_REFUSE 0 0 code).setFd F.PW_MOD_BUSY 0 0 0

/-- An entry goes on in step 2: the next member starts to drain or refuses at once, or, with none left, the committed
members move; an entry that has none to move is complete (R525, R526). -/
def State.entryGo (s : State) (q : Requester) (e : PwEntry) : State :=
  match e.todo.head?.bind (fun d => (s.leaveAtOnce d).map (fun c => (d, c))) with
  | some (d, c) => s.abortEntry q e (some d) c
  | none =>
    let s := s.entryNext e
    match s.pw.entry with
    | some e' => if e'.committed ∧ e'.todo = [] then s.entryFinish e'.target else s
    | none => s

/-- A wake source occurs (R523, R527, R529): it wakes HOLD and NAP, aborts an entry in step 1 or 2, and is held
during steps 3 to 5. Log 78 (DEDUCED, unsafe). -/
def State.wakeSource (s : State) : State :=
  match s.pw.entry with
  | some e =>
    if e.target = 0 then s
    else if e.committed then { s with pw := { s.pw with heldWake := true } }
    else s.abortEntry .module e none 0x73
  | none => if 2 ≤ s.fd F.PW_MOD_STATE ∧ ¬ s.flag F.PW_MOD_BUSY then s.startWake else s

/-- A voltage step of some island is in progress (R523). -/
def State.anyStep (s : State) : Bool := (List.range 3).any (fun i => s.flag F.PW_VOLTi_STAT_STEPPING i)

/-- The island starts a voltage step to a divider (R537): down, the divider is written first; up, when the check
passes. TARGET reads the new divider's nominal voltage. Log 79 (DEDUCED, unsafe). -/
def State.startStep (s : State) (i div : Nat) : State :=
  let up := decide (div < s.fd (dvfsField i))
  let st : VStep := { prev := s.islandMv i, goal := nominalMv div, div := if up then some div else none,
                       began := s.time.ticks }
  let s : State := if up then s else s.setFd (dvfsField i) 0 0 div
  let s := s.setFd F.PW_VOLTi_CTL_TARGET i 0 (nominalMv div)
  let s := (s.setFd F.PW_VOLTi_STAT_STEPPING i 0 1).setFd F.PW_VOLTi_STAT_CHECKED i 0 0
  { s with pw := { s.pw with vstep := s.pw.vstep.filter (fun e => e.1 ≠ i) ++ [(i, st)] } }

/-- The module enters TRIM: each island above CAP is stepped down to CAP (R523, R537). Log 78 (DEDUCED, unsafe). -/
def State.enterTrim (s : State) : State :=
  let cap := s.fd F.PW_TRIM_CAP
  (s.forEach (List.range 3) (fun i s => if s.fd (dvfsField i) < cap then s.startStep i cap else s)).setModState 1

/-- REQ with TARGET RUN (R523): it leaves a TRIM that software requested, or wakes HOLD and NAP. -/
def State.reqRun (s : State) : State := if s.fd F.PW_MOD_STATE = 1 then s.setModState 0 else s.wakeSource

/-- REQ with TARGET HOLD (2) or NAP (3): the entry procedure starts with its first member (R523, R525). -/
def State.reqRest (s : State) (q : Requester) (target : Nat) : State :=
  let e : PwEntry := { target := target, stopped := [], todo := s.members.filter (fun d => s.domOn d),
                       committed := false }
  let s := s.setFd F.PW_MOD_BUSY 0 0 1
  s.entryGo q e

/-- The refusal of a request for a module state: BUSY during a transition or a step of an island, STATE for a request the
table of R523 does not list for the state, out of a thermal TRIM, or where R524 does not hold. -/
def State.modRefusal (s : State) (target : Nat) : Option Nat :=
  let st := s.fd F.PW_MOD_STATE
  if s.flag F.PW_MOD_BUSY ∨ s.anyStep then some 0x01
  else
    let listed := match target with
      | 0 => decide (st ≠ 0) && !(decide (st = 1) && s.flag F.PW_MOD_THERM)
      | 1 => decide (st = 0)
      | t => decide (st ≠ 3) && !(decide (st = 2) && decide (t = 2)) && s.mayRest (decide (t = 3))
    if listed then none else some 0x02

/-- A request for a module state that is not refused (R523). -/
def State.modRequest (s : State) (q : Requester) (target : Nat) : State :=
  match target with
  | 0 => s.reqRun
  | 1 => s.enterTrim
  | t => s.reqRest q t

/-- A write of PW_MOD: DRAIN 0 is refused with RANGE; TARGET and DRAIN are set; REQ requests TARGET, and a refused request
changes nothing (R13, R523, R524). -/
def writePwMod (q : Requester) (v : Word) (s : State) : State :=
  let target := F.PW_MOD_TARGET.of v.toNat
  let req := decide (F.PW_MOD_REQ.of v.toNat = 1)
  match (if F.PW_MOD_DRAIN.of v.toNat = 0 then some 0x03 else if req then s.modRefusal target else none) with
  | some c => s.refuse q .PW_MOD 0 0 c
  | none =>
    let s := s.plainWrite .PW_MOD 0 0 v.toNat
    if req then s.modRequest q target else s

/-- A write of PW_MOD that requests a target and keeps DRAIN. -/
def State.modWriteReq (s : State) (q : Requester) (target : Nat) : Host.Outcome State Fault Refusal :=
  s.write q .PW_MOD 0 0 (fun s => writePwMod q (BitVec.ofNat 32 (s.fd F.PW_MOD_DRAIN * 2 ^ 8 + 4 + target)) s)

/-- MODULE_REQ_TRIM, MODULE_REQ_RUN, MODULE_REQ_HOLD and MODULE_REQ_NAP: a write of PW_MOD with REQ. -/
def execModuleReqTrim (q : Requester) (s : State) : Host.Outcome State Fault Refusal := s.modWriteReq q 1
def execModuleReqRun (q : Requester) (s : State) : Host.Outcome State Fault Refusal := s.modWriteReq q 0
def execModuleReqHold (q : Requester) (s : State) : Host.Outcome State Fault Refusal := s.modWriteReq q 2
def execModuleReqNap (q : Requester) (s : State) : Host.Outcome State Fault Refusal := s.modWriteReq q 3

/-- DOMAIN_DRAIN_END: the drain time of a domain ends; it agrees and its clock stops, or it refuses (R515 to R517,
R525, R526). -/
def execDomainDrainEnd (d : Nat) (s : State) : Host.Outcome State Fault Refusal :=
  match s.pw.drain.find? (fun e => e.1 = d) with
  | none => .next s
  | some (_, t0) =>
    let s := s.advanceToTick (t0 + s.fd F.PW_MOD_DRAIN * 500)
    let refuse := s.leaveAfterDrain d
    match s.pw.entry.filter (fun e => !e.committed && decide (e.todo.head? = some d)) with
    | some e =>
      if refuse then .next (s.abortEntry .module e (some d) 0x01)
      else
        let s : State := { s with pw := { s.pw with drain := s.pw.drain.filter (fun x => x.1 ≠ d),
                                                    target := s.pw.target.filter (fun x => x.1 ≠ d) } }
        let s := (s.domainDown d 1).setFd F.PW_DOMd_STAT_MOVING d 0 0
        let e := { e with stopped := d :: e.stopped, todo := e.todo.filter (· ≠ d) }
        .next (s.entryGo .module e)
    | none =>
      if refuse then .next (s.refuseLeave .module d 0x01)
      else .next ({ s with pw := { s.pw with drain := s.pw.drain.filter (fun x => x.1 ≠ d) } }.domainDown d 1)

/-- A committed entry or a wake with its members `e.todo` still moving: with none left it is complete, a wake in RUN or
before its reload, an entry in its state, where a wake source that was held takes effect (R525, R527, R528). -/
def State.entryEnd (s : State) (e : PwEntry) : State :=
  if e.todo ≠ [] then s
  else if e.target = 0 then
    let s : State := { s with pw := { s.pw with entry := none } }
    if s.pw.reload then s else (s.setModState 0).setFd F.PW_MOD_BUSY 0 0 0
  else
    let s := s.entryFinish e.target
    if s.pw.heldWake then { s with pw := { s.pw with heldWake := false } }.startWake else s

/-- The entry or wake no longer waits for domain `d`. -/
def State.entryLess (s : State) (e : PwEntry) (d : Nat) : State :=
  let e' := { e with todo := e.todo.filter (· ≠ d) }
  let s : State := { s with pw := { s.pw with entry := some e' } }
  if e.committed then s.entryEnd e' else s

/-- DOMAIN_STATE_REACHED: a moving domain reaches its target state and MOVING clears (R513, R514); `keepOk` is the
ECC check of the keep-list restored (R533). A step up goes to ON, and on to a lower target from there. -/
def execDomainStateReached (d : Nat) (keepOk : Bool) (s : State) : Host.Outcome State Fault Refusal :=
  if ¬ (d < 25 ∧ s.flag F.PW_DOMd_STAT_MOVING d) ∨ s.pw.drain.any (fun e => e.1 = d) then .next s
  else
    let t := Tab.get (fun _ => 0) s.pw.target d
    let cur := s.domState d
    let s : State := { s with pw := { s.pw with target := s.pw.target.filter (fun e => e.1 ≠ d) } }
    let s := s.setFd F.PW_DOMd_STAT_MOVING d 0 0
    let s :=
      if t < cur then
        let s := s.domainUp d keepOk
        if t = 0 then s
        else match s.leaveAtOnce d with
          | some c => s.refuseLeave .module d c
          | none => s.startDrain d t
      else s.domainDown d t
    match s.pw.entry with
    | none => .next s
    | some e => .next (s.entryLess e d)

/-- NAP_RELOAD_COMPLETE: the member slices' memories have been reloaded from the active image bank; the module is in
RUN (R528, R595). -/
def execNapReloadComplete (s : State) : Host.Outcome State Fault Refusal :=
  if s.pw.reload ∧ s.pw.entry.isNone then
    let s := s.forEach s.members (fun d s => if d < 18 then s.reloadSlice d else s)
    let s : State := { s with pw := { s.pw with reload := false } }
    .next ((s.setModState 0).setFd F.PW_MOD_BUSY 0 0 0)
  else .next s

/-- WAKE_GPIO: an edge on the GPIO named in PW_WAKE while GPIO_EN is 1 (R529). -/
def execWakeGpio (rising : Bool) (s : State) : Host.Outcome State Fault Refusal :=
  let e := s.fd F.PW_WAKE_EDGE
  if s.flag F.PW_WAKE_GPIO_EN ∧ (e = 2 ∨ (e = 0 ∧ rising) ∨ (e = 1 ∧ ¬ rising)) then .next s.wakeSource else .next s

/-- The instant of PW_WAKE_CT is noted as reached, or forgotten (R529). -/
def State.setCtReached (s : State) (x : Option Nat) : State := { s with pw := { s.pw with ctReached := x } }

/-- WAKE_CT: the first TIME tick at which CT reaches PW_WAKE_CT while CT_EN is 1 (R529). -/
def execWakeCt (s : State) : Host.Outcome State Fault Refusal :=
  let due := s.rg64 .PW_WAKE_CT_LO .PW_WAKE_CT_HI
  if s.flag F.PW_WAKE_CT_EN ∧ s.pw.ctReached ≠ some due then
    .next ((s.advanceTo due).setCtReached (some due)).wakeSource
  else .next s

/-- A write of PW_WAKE: EDGE 0b11 is refused; a CT instant already passed when CT_EN is written 1 wakes at once
(R529). -/
def writePwWake (q : Requester) (v : Word) (s : State) : State :=
  if F.PW_WAKE_EDGE.of v.toNat = 3 then s.refuse q .PW_WAKE 0 0 0x03
  else
    let s := s.plainWrite .PW_WAKE 0 0 v.toNat
    let due := s.rg64 .PW_WAKE_CT_LO .PW_WAKE_CT_HI
    if F.PW_WAKE_CT_EN.of v.toNat = 1 ∧ due ≤ s.ctNs then (s.setCtReached (some due)).wakeSource else s.setCtReached none

/-- A write of PW_WAKE_CT_HI applies both halves (R10). -/
def writePwWakeCt (q : Requester) (v : Word) (s : State) : State :=
  let (lo, s) := s.takeLo q .PW_WAKE_CT_LO 0
  (s.setCtReached none).setRg64 .PW_WAKE_CT_LO .PW_WAKE_CT_HI 0 (v.toNat * 2 ^ 32 + lo)

/-- A write of PW_KEEPMASK: refused in HOLD and NAP (R648). -/
def writeKeepMask (q : Requester) (v : Word) (s : State) : State :=
  if s.keeps F.PW_KEEPMASK_KEEP 0 0 v.toNat then s
  else if 2 ≤ s.fd F.PW_MOD_STATE then s.refuse q .PW_KEEPMASK 0 0 0x02
  else s.plainWrite .PW_KEEPMASK 0 0 v.toNat

/-- A write of PW_TRIM: CAP above 0x4 is refused with RANGE. -/
def writePwTrim (q : Requester) (v : Word) (s : State) : State :=
  if 4 < F.PW_TRIM_CAP.of v.toNat then s.refuse q .PW_TRIM 0 0 0x03 else s.plainWrite .PW_TRIM 0 0 v.toNat

/-! ## Keep-lists (R531) -/

/-- A write of PW_KEEP_CTL: DOMAIN is set (RANGE above 24); CLR empties the selected list, while its domain is ON. -/
def writeKeepCtl (q : Requester) (v : Word) (s : State) : State :=
  let d := F.PW_KEEP_CTL_DOMAIN.of v.toNat
  if 24 < d then s.refuse q .PW_KEEP_CTL 0 0 0x03
  else if F.PW_KEEP_CTL_CLR.of v.toNat = 1 ∧ ¬ s.domOn d then s.refuse q .PW_KEEP_CTL 0 0 0x02
  else
    let s := s.setFd F.PW_KEEP_CTL_DOMAIN 0 0 d
    if F.PW_KEEP_CTL_CLR.of v.toNat = 1 then
      { s with pw := { s.pw with keep := Tab.set (fun _ => []) s.pw.keep d [] } }
    else s

/-- A write of PW_KEEP_ADD appends an offset to the selected list (R531). -/
def writeKeepAdd (q : Requester) (v : Word) (s : State) : State :=
  let d := s.fd F.PW_KEEP_CTL_DOMAIN
  let l := Tab.get (fun _ => []) s.pw.keep d
  let ok := match findReg v.toNat with
    | some (r, i, _) => decide (r.domain i = d)
    | none => false
  if ¬ s.domOn d then s.refuse q .PW_KEEP_ADD 0 0 0x02
  else if ¬ (v.toNat % 4 = 0 ∧ ok = true) then s.refuse q .PW_KEEP_ADD 0 0 0x72
  else if 256 ≤ l.length then s.refuse q .PW_KEEP_ADD 0 0 0x05
  else { s with pw := { s.pw with keep := Tab.set (fun _ => []) s.pw.keep d (l ++ [v.toNat]) } }

/-- KEEP_ADD: a write of PW_KEEP_ADD by a requester. -/
def execKeepAdd (q : Requester) (v : Word) (s : State) : Host.Outcome State Fault Refusal :=
  s.write q .PW_KEEP_ADD 0 0 (writeKeepAdd q v)

/-- KEEP_CLR: a write of PW_KEEP_CTL by a requester. -/
def execKeepClr (q : Requester) (v : Word) (s : State) : Host.Outcome State Fault Refusal :=
  s.write q .PW_KEEP_CTL 0 0 (writeKeepCtl q v)

/-! ## Temperature (R523, R642) -/

/-- Thermal TRIM: THERM is set and a journal entry written (R523). -/
def State.thermTrim (s : State) : State :=
  let s := (s.enterTrim).setFd F.PW_MOD_THERM 0 0 1
  { s with pw := { s.pw with thermWait := false } }.journal 0x11 0x0B 0x00 1 [0, (ofSigned 8 s.pw.temp)]

/-- THERMAL_TRIM: the junction temperature reaches PW_TRIM.TJ in RUN; during a voltage step it takes effect when the
step ends (R523). -/
def execThermalTrim (temp : Int) (s : State) : Host.Outcome State Fault Refusal :=
  let s : State := { s with pw := { s.pw with temp := temp } }
  if s.fd F.PW_MOD_STATE = 0 ∧ (s.fd F.PW_TRIM_TJ : Int) ≤ temp then
    if s.anyStep then .next { s with pw := { s.pw with thermWait := true } } else .next s.thermTrim
  else .next s

/-- THERMAL_TRIM_EXIT: the junction temperature falls to TJ − 5 °C (R523). -/
def execThermalTrimExit (temp : Int) (s : State) : Host.Outcome State Fault Refusal :=
  let s : State := { s with pw := { s.pw with temp := temp, thermWait := s.pw.thermWait && decide (s.fd F.PW_TRIM_TJ ≤ temp) } }
  if s.fd F.PW_MOD_STATE = 1 ∧ s.flag F.PW_MOD_THERM ∧ temp + 5 ≤ s.fd F.PW_TRIM_TJ then
    .next ((s.setFd F.PW_MOD_THERM 0 0 0).setModState 0)
  else .next s

/-- At 115 °C every island steps down and the module stands in TRIM, with no thermal entry left to wait for
(R642). Log 79 (DEDUCED, unsafe). -/
def State.throttle (s : State) (temp : Int) : State :=
  let s := (s.forEach (List.range 3) (fun i s => s.startStep i 4)).setModState 1
  let s := (s.setFd F.PW_MOD_THERM 0 0 1).journal 0x11 0x0B 0x00 2 [1, ofSigned 8 temp]
  { s with pw := { s.pw with thermWait := false } }

/-- THERMAL_THROTTLE: the junction temperature reaches 115 °C: CORE_A, CORE_B and SOLV step to /20 and their islands to
0.60 V in any module state, and the module is in TRIM with THERM set (R642). Log 79 (DEDUCED, unsafe). -/
def execThermalThrottle (temp : Int) (s : State) : Host.Outcome State Fault Refusal :=
  let s : State := { s with pw := { s.pw with temp := temp } }
  if temp < 115 then .next s else .next (s.throttle temp)

/-! ## Voltage (R534 to R539) -/

/-- The step of an island ends: AVS resumes, and a thermal entry that waited takes effect (R523, R537). -/
def State.stepEnd (s : State) (i : Nat) : State :=
  let s : State := { s with pw := { s.pw with vstep := s.pw.vstep.filter (fun e => e.1 ≠ i) } }
  let s := s.setFd F.PW_VOLTi_STAT_STEPPING i 0 0
  if s.pw.thermWait ∧ ¬ s.anyStep ∧ s.fd F.PW_MOD_STATE = 0 then s.thermTrim else s

/-- A write of PW_VOLTi_STEP with GO = 1 (R537), its refusals in the order the rule lists them. -/
def writeVoltStep (q : Requester) (i : Nat) (v : Word) (s : State) : State :=
  let div := F.PW_VOLTi_STEP_DIV.of v.toNat
  if F.PW_VOLTi_STEP_GO.of v.toNat = 0 then s
  else if s.flag F.PW_VOLTi_STAT_STEPPING i ∨ s.flag F.PW_MOD_BUSY then s.refuse q .PW_VOLTi_STEP i 0 0x01
  else if s.fd F.PW_MOD_STATE = 1 ∧ div < s.fd F.PW_TRIM_CAP then s.refuse q .PW_VOLTi_STEP i 0 0x71
  else if 2 ≤ s.fd F.PW_MOD_STATE then s.refuse q .PW_VOLTi_STEP i 0 0x02
  else if 4 < div then s.refuse q .PW_VOLTi_STEP i 0 0x03
  else s.startStep i div

/-- A write of PW_VOLTi_CTL (R535, R537, R648): a change of TARGET is refused with BUSY during a step, STATE while
AVS is 1, RANGE outside 600 to 900 mV, ORDER below the nominal voltage of the present divider. AVS 1 makes TARGET
read the nominal voltage (R538). -/
def writeVoltCtl (q : Requester) (i : Nat) (v : Word) (s : State) : State :=
  let t := F.PW_VOLTi_CTL_TARGET.of v.toNat
  let nom := nominalMv (s.fd (dvfsField i))
  let avs (s : State) : State :=
    if s.flag F.PW_VOLTi_CTL_AVS i ∧ ¬ s.flag F.PW_VOLTi_STAT_STEPPING i then s.setFd F.PW_VOLTi_CTL_TARGET i 0 nom
    else s
  if s.keeps F.PW_VOLTi_CTL_TARGET i 0 v.toNat then avs (s.plainWrite .PW_VOLTi_CTL i 0 v.toNat)
  else if s.flag F.PW_VOLTi_STAT_STEPPING i then s.refuse q .PW_VOLTi_CTL i 0 0x01
  else if s.flag F.PW_VOLTi_CTL_AVS i then s.refuse q .PW_VOLTi_CTL i 0 0x02
  else if t < 600 ∨ 900 < t then s.refuse q .PW_VOLTi_CTL i 0 0x03
  else if t < nom then s.refuse q .PW_VOLTi_CTL i 0 0x0A
  else
    let st : VStep := { prev := s.fd F.PW_VOLTi_STAT_MEAS i, goal := t, div := none, began := s.time.ticks }
    let s := s.plainWrite .PW_VOLTi_CTL i 0 v.toNat
    let s := (s.setFd F.PW_VOLTi_STAT_STEPPING i 0 1).setFd F.PW_VOLTi_STAT_CHECKED i 0 0
    avs { s with pw := { s.pw with vstep := s.pw.vstep.filter (fun e => e.1 ≠ i) ++ [(i, st)] } }

/-- VOLT_STEP: a write of PW_VOLTi_STEP by a requester. -/
def execVoltStep (q : Requester) (i : Nat) (v : Word) (s : State) : Host.Outcome State Fault Refusal :=
  s.write q .PW_VOLTi_STEP i 0 (writeVoltStep q i v)

/-- VOLT_TARGET_WRITE: a write of PW_VOLTi_CTL by a requester. -/
def execVoltTargetWrite (q : Requester) (i : Nat) (v : Word) (s : State) : Host.Outcome State Fault Refusal :=
  s.write q .PW_VOLTi_CTL i 0 (writeVoltCtl q i v)

/-- The tick at which the monitor first checks a step: the ramp of 5 mV/µs has reached the target, and 20 µs of settling
have passed (R536). Log 79 (DEDUCED, unsafe). -/
def VStep.checkAt (x : VStep) : Nat := x.began + (x.goal - x.prev + (x.prev - x.goal)) * 100 + 20 * 500

/-- The tick by which a step's check must have passed: 200 µs from its start (R536). -/
def VStep.endAt (x : VStep) : Nat := x.began + 200 * 500

/-- VOLT_CHECK_PASS: the settled voltage measures `mv`, within ±10 mV of its target: CHECKED is set and an upward
step writes its divider (R536, R537). -/
def execVoltCheckPass (i mv : Nat) (s : State) : Host.Outcome State Fault Refusal :=
  match s.pw.vstep.find? (fun e => e.1 = i) with
  | none => .next s
  | some (_, st) =>
    let s := s.advanceToTick st.checkAt
    if mv + 10 < st.goal ∨ st.goal + 10 < mv ∨ st.endAt < s.time.ticks then .next s
    else
      let s := (s.setFd F.PW_VOLTi_STAT_MEAS i 0 mv).setFd F.PW_VOLTi_STAT_CHECKED i 0 1
      let s : State := match st.div with | some c => s.setFd (dvfsField i) 0 0 c | none => s
      .next (s.stepEnd i)

/-- VOLT_CHECK_FAIL: 200 µs pass without a passing check; the island returns to its previous voltage and the divider
stays (R536). -/
def execVoltCheckFail (i mv : Nat) (s : State) : Host.Outcome State Fault Refusal :=
  match s.pw.vstep.find? (fun e => e.1 = i) with
  | none => .next s
  | some (_, st) =>
    let s := s.advanceToTick st.endAt
    let s := (s.raise F.PW_VOLTi_STAT_VCHK_FAIL F.PW_VOLTi_STAT_VF_CNT i 0).journal 0x13 0x0B 0x75 2
      ([i] ++ dBytes 2 st.goal ++ dBytes 2 mv)
    let s := (s.setFd F.PW_VOLTi_STAT_MEAS i 0 st.prev).setFd F.PW_VOLTi_CTL_TARGET i 0
      (if s.flag F.PW_VOLTi_CTL_AVS i then nominalMv (s.fd (dvfsField i)) else st.prev)
    .next ((s.setFd F.PW_VOLTi_STAT_CHECKED i 0 1).stepEnd i)

/-- The adaptive loop lowers an island to `mv`, 1 ms after it last did so or later (R538). -/
def State.lowerAvs (s : State) (i mv : Nat) : State :=
  let s : State := match s.pw.lowered.find? (fun e => e.1 = i) with
    | some (_, t) => s.advanceToTick (t + msTicks 1)
    | none => s
  let s : State := { s with pw := { s.pw with lowered := Tab.set (fun _ => 0) s.pw.lowered i s.time.ticks } }
  s.setFd F.PW_VOLTi_STAT_MEAS i 0 mv

/-- AVS_ADJUST: the adaptive loop of an island needs `need` mV; it keeps between nominal − 100 mV and + 30 mV, and at
the upper limit raises AVS_LIMIT and, with FSTEP, gives up one DVFS point; it lowers the voltage by one step of 5 mV per 1 ms
at most (R538, R539). -/
def execAvsAdjust (i need : Nat) (s : State) : Host.Outcome State Fault Refusal :=
  if ¬ (i < 3 ∧ s.flag F.PW_VOLTi_CTL_AVS i) ∨ s.flag F.PW_VOLTi_STAT_STEPPING i then .next s
  else
    let div := s.fd (dvfsField i)
    let nom := nominalMv div
    let now := s.fd F.PW_VOLTi_STAT_MEAS i
    let want := max (nom - 100) ((need + 4) / 5 * 5)
    if nom + 30 < want then
      let fstep := s.flag F.PW_VOLTi_CTL_FSTEP i && decide (div < 4)
      let s := (s.setFd F.PW_VOLTi_STAT_MEAS i 0 (nom + 30)).raise F.PW_VOLTi_STAT_AVS_LIMIT F.PW_VOLTi_STAT_LIM_CNT i 0
      let s := s.journal 0x14 0x0B 0x00 1 [i, b2n fstep]
      .next (if fstep then s.startStep i (div + 1) else s)
    else if now ≤ want then .next (s.setFd F.PW_VOLTi_STAT_MEAS i 0 want)
    else .next (s.lowerAvs i (max want (now - 5)))

end Sys2Proof.Machine
end

