-- ==== Sys2Proof/Machine/Service.lean ====
section
/-!
DEFINITION. Forty years without a stop (chapter 15): health, retirement, migration, image swap, memory errors, the
journal, the watchdog, forced power-off, and the Nalsor chain.
-/

namespace Sys2Proof.Machine

/-! ## Health and retirement (R541 to R544) -/

/-- Indicator `k` of slice `sl` is beyond its limit: 0 slack, 1 corrected errors, 2 spare rows (R542). -/
def State.wornNow (s : State) (sl k : Nat) : Bool :=
  match k with
  | 0 => s.domOn sl && decide (toSigned 8 (s.fd F.SV_HEALTHs_SLACK sl) < toSigned 8 (s.fd F.SV_WEAR_SLACK_MIN))
  | 1 => decide (s.fd F.SV_WEAR_CE_LIM ≤ s.fd F.SV_HEALTHs_CE_CNT sl)
  | _ => decide (75 ≤ s.fd F.SV_HEALTHs_ROWS sl)

/-- The wear indicators of a slice are tested: one that crosses its limit sets WORN, counts, writes a journal entry and
deposits the health token (R542). -/
def State.wornCheck (s : State) (sl : Nat) : State :=
  s.forEach (List.range 3) (fun k s =>
    let now := s.wornNow sl k
    let seen := bit s.sv.wornSeen (3 * sl + k)
    let s : State := { s with sv := { s.sv with wornSeen := setBits s.sv.wornSeen (3 * sl + k) (3 * sl + k) (b2n now) } }
    if now ∧ ¬ seen then
      let s := (s.raise F.SV_HEALTHs_WORN F.SV_HEALTHs_WORN_CNT sl 0).journal 0x15 0x0C 0x00 1 [sl, k]
      s.healthToken 1 0 sl
    else s)

/-- The 24 h windows of the slices' corrected errors: one that has ended starts CE_CNT at 0 (R542). -/
def State.dayTurn (s : State) : State :=
  if s.sv.dayStart + secTicks 86400 ≤ s.time.ticks then
    let start := s.time.ticks - (s.time.ticks - s.sv.dayStart) % secTicks 86400
    let s : State := { s with sv := { s.sv with dayStart := start } }
    s.forEach (List.range 18) (fun i s => s.setFd F.SV_HEALTHs_CE_CNT i 0 0)
  else s

/-- A write of SV_WEAR: the wear of every slice is held to the new limits (R542). -/
def writeWear (v : Word) (s : State) : State :=
  (s.plainWrite .SV_WEAR 0 0 v.toNat).forEach (List.range 18) (fun sl s => s.wornCheck sl)

/-- HEALTH_UPDATE: slice `sl`, while ON, reports the lowest island voltage at which every monitor shows slack; the
slack margin is the nominal voltage minus it, minus 40 mV (R541). A new 24 h window starts CE_CNT at 0 (R542).
Log 81 (DEDUCED, unsafe). -/
def execHealthUpdate (sl vmin : Nat) (s : State) : Host.Outcome State Fault Refusal :=
  if 18 ≤ sl then .next s
  else
    let s := s.dayTurn
    let i := if sl < 9 then 0 else 1
    let slack : Int := (nominalMv (s.fd (dvfsField i)) : Int) - vmin - 40
    let s : State := if s.domOn sl then s.setFd F.SV_HEALTHs_SLACK sl 0 (ofSigned 8 (clampInt (-128) 127 slack))
             else s.setFd F.SV_HEALTHs_SLACK sl 0 0x80
    .next (s.wornCheck sl)

/-- A placement, active or shadow, names the slice. -/
def State.placed (s : State) (sl : Nat) : Bool :=
  (List.range 16).any (fun g => decide (s.sliceOf g = sl ∨ s.fd F.SV_PLACE_SHn_SLICE g = sl))

/-- A domain has been forced OFF during a module entry or a wake: it is no member of it any more, and the entry goes on where
it waited for that domain (R525, R570). Log 78 (DEDUCED, unsafe). -/
def State.entryDrop (s : State) (d : Nat) : State :=
  match s.pw.entry with
  | none => s
  | some e =>
    let e' := { e with stopped := e.stopped.filter (· ≠ d), todo := e.todo.filter (· ≠ d) }
    if e.committed = false ∧ e.todo.head? = some d then s.entryGo .module e' else s.entryLess e' d

/-- A domain is taken OFF at once, without agreement and without saving its keep-list (R570): instances in service
end abnormally (R654), its descriptors complete under R653, and its contents are lost (R513). -/
def State.forceOff (s : State) (d : Nat) : State :=
  let s : State := { s with pw := { s.pw with drain := s.pw.drain.filter (fun e => e.1 ≠ d),
                                              target := s.pw.target.filter (fun e => e.1 ≠ d) } }
  (((s.domainDown d 3).setFd F.PW_DOMd_CTL_REQ d 0 3).setFd F.PW_DOMd_STAT_MOVING d 0 0).entryDrop d

/-- The slice is retired in MRAM and its domain kept OFF (R543). -/
def State.retireSlice (s : State) (sl : Nat) : State :=
  { s with sv := { s.sv with retired := s.sv.retired ||| 2 ^ sl } }.forceOff sl

/-- A write of SV_RETIRE with GO = 1. -/
def writeRetire (q : Requester) (v : Word) (s : State) : State :=
  let sl := F.SV_RETIRE_SLICE.of v.toNat
  if F.SV_RETIRE_GO.of v.toNat = 0 then s
  else if 17 < sl then s.refuse q .SV_RETIRE 0 0 0x03
  else if s.placed sl then s.refuse q .SV_RETIRE 0 0 0x04
  else if (match s.sv.mig with | some m => decide (m.target = sl) | none => false) then s.refuse q .SV_RETIRE 0 0 0x01
  else s.retireSlice sl

/-- A write of SV_UNRETIRE with GO = 1 (R544). -/
def writeUnretire (q : Requester) (v : Word) (s : State) : State :=
  let sl := F.SV_UNRETIRE_SLICE.of v.toNat
  if F.SV_UNRETIRE_GO.of v.toNat = 0 then s
  else if s.lc.state ≠ 0 then s.refuse q .SV_UNRETIRE 0 0 0x06
  else if 17 < sl then s.refuse q .SV_UNRETIRE 0 0 0x03
  else if ¬ bit s.sv.retired sl then s.refuse q .SV_UNRETIRE 0 0 0x02
  else
    { s with sv := { s.sv with retired := s.sv.retired - 2 ^ sl } }.journal 0x16 0x0C 0x00 0 [sl]

/-- SLICE_RETIRE and SLICE_UNRETIRE: writes of SV_RETIRE and SV_UNRETIRE by a requester. -/
def execSliceRetire (q : Requester) (v : Word) (s : State) : Host.Outcome State Fault Refusal :=
  s.write q .SV_RETIRE 0 0 (writeRetire q v)
def execSliceUnretire (q : Requester) (v : Word) (s : State) : Host.Outcome State Fault Refusal :=
  s.write q .SV_UNRETIRE 0 0 (writeUnretire q v)

/-! ## Migration (R545 to R552) -/

/-- CORE_MAP names each of the four cores once (R48, R545). -/
def coreMapOk (m : Nat) : Bool :=
  (List.range 4).all (fun c => (List.range 4).any (fun i => decide (bits m (2 * i + 1) (2 * i) = c)))

/-- The checks of a migration request, in order (R545). -/
def State.migCheck (s : State) (g target coreMap : Nat) : Option Nat :=
  let isl (d : Nat) := if d < 9 then 0 else 1
  if s.fd F.SV_MIG_STAT_STATE ≠ 0 ∨ s.flag F.SV_PLACE_CMD_PENDING then some 0x01
  else if ¬ s.agEnabled g then some 0x02
  else if 17 < target ∨ ¬ coreMapOk coreMap then some 0x03
  else if bit s.sv.retired target then some 0x78
  else if s.placed target then some 0x04
  else if ¬ s.domOn target then some 0x07
  else if s.fd (dvfsField (isl target)) ≠ s.fd (dvfsField (isl (s.sliceOf g))) then some 0x79
  else none

/-- A write of SV_MIG_CTL (R545, R546, R552). -/
def writeMigCtl (q : Requester) (v : Word) (s : State) : State :=
  let g := F.SV_MIG_CTL_GROUP.of v.toNat
  let t := F.SV_MIG_CTL_TARGET.of v.toNat
  let map := F.SV_MIG_CTL_CORE_MAP.of v.toNat
  if F.SV_MIG_CTL_ABORT.of v.toNat = 1 then (s.plainWrite .SV_MIG_CTL 0 0 v.toNat).migAbort
  else if F.SV_MIG_CTL_GO.of v.toNat = 1 then
    match s.migCheck g t map with
    | some c => s.refuse q .SV_MIG_CTL 0 0 c
    | none =>
      let s := s.plainWrite .SV_MIG_CTL 0 0 v.toNat
      let m : MigState := { group := g, source := s.sliceOf g, target := t, coreMap := map,
                            retire := decide (F.SV_MIG_CTL_RETIRE_SRC.of v.toNat = 1), dirty := [], dirtyAt := s.time.ticks, moved := false,
                            abortDue := false }
      let s : State := { s with sv := { s.sv with mig := some m } }
      (s.setFd F.SV_MIG_STAT_STATE 0 0 1).setFd F.SV_MIG_STAT_DEFER_CNT 0 0 0
  else s.plainWrite .SV_MIG_CTL 0 0 v.toNat

/-- MIG_GO and MIG_ABORT: writes of SV_MIG_CTL by a requester. -/
def execMigGo (q : Requester) (v : Word) (s : State) : Host.Outcome State Fault Refusal :=
  s.write q .SV_MIG_CTL 0 0 (writeMigCtl q v)
def execMigAbort (q : Requester) (v : Word) (s : State) : Host.Outcome State Fault Refusal :=
  s.write q .SV_MIG_CTL 0 0 (writeMigCtl q v)

/-- MIG_ARMED: the copy engine's first pass ends: the target's memories hold the source's (R546). -/
def execMigArmed (s : State) : Host.Outcome State Fault Refusal :=
  match s.sv.mig with
  | none => .next s
  | some m =>
    if s.fd F.SV_MIG_STAT_STATE ≠ 1 then .next s
    else
      let s := (s.copySlice m)
      .next ({ s with sv := { s.sv with mig := some { m with dirty := [] } } }.setFd F.SV_MIG_STAT_STATE 0 0 2)

/-- A cut-over is abandoned: the cores resume, dispatch resumes, the state stays ARMED and DEFER_CNT increments (R549). -/
def State.migDefer (s : State) (m : MigState) : State :=
  let s := s.forEach (List.range 4) (fun c s =>
    let n := 4 * m.source + c
    s.setCore n { s.core n with frozen := false })
  let s : State := { s with sv := { s.sv with hold := none } }
  (s.setFd F.SV_MIG_STAT_STATE 0 0 2).incFd F.SV_MIG_STAT_DEFER_CNT 0 0

/-- The conditions of a cut-over, and its start, at CUTOFF of a base cycle of phase 15 (R547, R548).
Log 57 (DEDUCED, unsafe). -/
def State.migCutover (s : State) : State :=
  match s.sv.mig with
  | none => s
  | some m =>
    if s.fd F.SV_MIG_STAT_STATE ≠ 2 ∨ s.phase ≠ 15 then s
    else if 256 < (m.waiting s.time.ticks).length ∨ s.descInSlice m.source ∨
        (List.range 4).any (fun c => decide ((s.core (4 * m.source + c)).run = .halted)) then
      s.incFd F.SV_MIG_STAT_DEFER_CNT 0 0
    else
      let s := s.forEach (List.range 4) (fun c s =>
        let n := 4 * m.source + c
        let k := s.core n
        if k.run = .run ∨ k.run = .wait then s.setCore n { k with frozen := true } else s)
      { s with sv := { s.sv with hold := some m.group } }.setFd F.SV_MIG_STAT_STATE 0 0 3

/-- MIG_FREEZE_CHECK: 0.5 µs after CUTOFF the freeze has completed (`ok`: every outstanding access ended), and the
dirty lines are copied; or the cut-over is abandoned (R548, R549). -/
def execMigFreezeCheck (ok : Bool) (s : State) : Host.Outcome State Fault Refusal :=
  match s.sv.mig with
  | none => .next s
  | some m =>
    if s.fd F.SV_MIG_STAT_STATE ≠ 3 ∨ m.moved then .next s
    else
      let quiet := (List.range 4).all (fun c =>
        let k := s.core (4 * m.source + c)
        k.frozen || decide (k.run = .idle))
      if ok && quiet then
        let s := s.copySlice m
        .next { s with sv := { s.sv with mig := some { m with dirty := [], moved := true } } }
      else .next (s.migDefer m)

/-- The architectural state of a core, moved to another core: all of it but CYCLE and the counters of the VC window
(R550). Log 57 (DEDUCED, unsafe). -/
def moveCore (src dst : Core) : Core :=
  { src with cycOff := dst.cycOff, gateAt := dst.gateAt, excCnt := dst.excCnt, dfCnt := dst.dfCnt,
             lastCause := dst.lastCause, frozen := false }

/-- The cut-over completes at B, or, where its freeze was not complete by then, is abandoned (R549): the arm group runs on the target, the placement is rewritten and stored, the source
cores are IDLE, and RETIRE_SRC retires the source (R548, R550, R551). Log 57 (DEDUCED, unsafe). -/
def State.migComplete (s : State) : State :=
  match s.sv.mig with
  | none => s
  | some m =>
    if ¬ m.moved then (if s.fd F.SV_MIG_STAT_STATE = 3 then s.migDefer m else s)
    else
      let map := s.fd F.SV_PLACEn_CORE_MAP m.group
      let s := s.forEach (List.range 4) (fun i s =>
        let a := 4 * m.source + bits map (2 * i + 1) (2 * i)
        let b := 4 * m.target + bits m.coreMap (2 * i + 1) (2 * i)
        let src := s.core a
        let s := s.ungate b
        let s := s.setCore b (moveCore src (s.core b))
        let s := if src.run = .wait then s.gate b else s
        let s := s.ungate a
        s.setCore a { s.core a with run := .idle, svc := none, frozen := false, twait := none, pair := none,
                                    handler := false, budget := 0, budgetDue := false })
      let pl := m.target * 2 ^ 8 + m.coreMap
      let s := (s.setRg .SV_PLACEn m.group 0 pl).setRg .SV_PLACE_SHn m.group 0 pl
      let stored := (List.range 16).map (fun g => s.rg .SV_PLACEn g)
      let s : State := { s with sv := { s.sv with mig := none, hold := none, placeStored := some stored } }
      let s := (s.setFd F.SV_MIG_STAT_STATE 0 0 0).incFd F.SV_MIG_STAT_DONE_CNT 0 0
      let s := s.setRg .SV_MIG_BCN 0 0 (s.time.bcn % 2 ^ 32)
      let s := s.journal 0x17 0x0C 0x00 0
        ([m.group, m.source, m.target, b2n m.retire] ++ dBytes 4 s.time.bcn)
      let s := s.healthEvent 2
      let s : State := if m.retire then s.retireSlice m.source else s
      if m.abortDue then s.healthEvent 3 else s

/-! ## Image swap (R553 to R556) -/

/-- The checks of STAGE, in order (R554). -/
def State.stageCheck (s : State) : Option Nat :=
  let b := 1 - s.sv.imgActive
  let st := s.fd F.SV_IMG_STAT_STATE
  if ¬ (st = 0 ∨ st = 2) ∨ s.fd F.SV_MIG_STAT_STATE ≠ 0 then some 0x01
  else if ¬ bit s.sv.imgValid b then some 0x7A
  else if s.imgNum b 12 4 ≠ s.imgNum s.sv.imgActive 12 4 then some 0x7A
  else if s.onTemplates.any (fun t => decide (s.imgEntry b t ≠ some (s.tplEntry t))) then some 0x7A
  else none

/-- A write of SV_IMG_CTL (R554, R555). -/
def writeImgCtl (q : Requester) (v : Word) (s : State) : State :=
  let s : State := if F.SV_IMG_CTL_STAGE.of v.toNat = 1 then
      match s.stageCheck with
      | some c => s.refuse q .SV_IMG_CTL 0 0 c
      | none => s.setFd F.SV_IMG_STAT_STATE 0 0 1
    else s
  if F.SV_IMG_CTL_SWAP.of v.toNat = 1 then
    if s.fd F.SV_IMG_STAT_STATE = 2 then s.setFd F.SV_IMG_STAT_STATE 0 0 3 else s.refuse q .SV_IMG_CTL 0 0 0x02
  else s

/-- IMG_STAGE and IMG_SWAP: writes of SV_IMG_CTL by a requester. -/
def execImgStage (q : Requester) (v : Word) (s : State) : Host.Outcome State Fault Refusal :=
  s.write q .SV_IMG_CTL 0 0 (writeImgCtl q v)
def execImgSwap (q : Requester) (v : Word) (s : State) : Host.Outcome State Fault Refusal :=
  s.write q .SV_IMG_CTL 0 0 (writeImgCtl q v)

/-- IMG_STAGE_COMPLETE: each slice's code section of the inactive bank stands in the unselected window bank of its
cores, and the state is STAGED (R554). -/
def execImgStageComplete (s : State) : Host.Outcome State Fault Refusal :=
  if s.fd F.SV_IMG_STAT_STATE ≠ 1 then .next s
  else
    let b := 1 - s.sv.imgActive
    let w := 1 - s.fd F.SV_IMG_STAT_WINDOW
    .next (((s.imgSections b).foldl (fun s e => if e.kind = 1 then s.loadCode b e w else s) s).setFd
      F.SV_IMG_STAT_STATE 0 0 2)

/-- The pending swap applies at a super-cycle boundary (R555). -/
def State.swapApply (s : State) : State :=
  if s.fd F.SV_IMG_STAT_STATE ≠ 3 then s
  else
    let s := s.setFd F.SV_IMG_STAT_WINDOW 0 0 (1 - s.fd F.SV_IMG_STAT_WINDOW)
    let s : State := { s with sv := { s.sv with imgActive := 1 - s.sv.imgActive } }
    let s := s.incFd F.SV_IMG_STAT_SWAP_CNT 0 0
    (s.healthEvent 4).setFd F.SV_IMG_STAT_STATE 0 0 0

/-! ## Errors in memory (R557 to R561) -/

/-- The SV_ECCm instance of a memory: 0 SRAM, 1 DRAM, 2 MRAM. `mem` is the memory code of journal event 0x18. -/
def eccUnit (mem : Nat) : Nat := if mem = 5 then 1 else if mem = 6 then 2 else 0

/-- A corrected error is counted, in the slice's window too where the SRAM is a slice's (R542, R557).
Log 81 (DEDUCED, unsafe). -/
def State.corrected (s : State) (mem unit : Nat) : State :=
  let s := s.dayTurn.incFd F.SV_ECCm_CE_CNT (eccUnit mem) 0
  if mem ≤ 1 ∧ unit < 18 then (s.incFd F.SV_HEALTHs_CE_CNT unit 0).wornCheck unit else s

/-- SCRUB_PASS: a pass of the scrubber corrects a row (SRAM), page (DRAM) or line (MRAM). An SRAM row with three such
passes within 24 h goes to a spare row (`pct`: the slice's spare rows then used, in percent); a DRAM page is reported;
an MRAM line with two rewrites within 12 months is replaced (R557 to R560). Log 81 (DEDUCED, unsafe). -/
def execScrubPass (mem unit row pct : Nat) (s : State) : Host.Outcome State Fault Refusal :=
  let now := s.time.ticks
  let s := s.corrected mem unit
  let window := if mem = 6 then secTicks (365 * 86400) else secTicks 86400
  let same := s.sv.scrub.filter (fun e =>
    e.1 = mem && e.2.1 = unit && e.2.2.1 = row && (mem = 5 || decide (now < e.2.2.2 + window)))
  let n := same.length + 1
  let need := if mem = 6 then 2 else 3
  if n < need ∨ mem = 4 then
    .next { s with sv := { s.sv with scrub := s.sv.scrub ++ [(mem, unit, row, now)] } }
  else
    let rest := s.sv.scrub.filter (fun e => !(decide (e.1 = mem) && decide (e.2.1 = unit) && decide (e.2.2.1 = row)))
    let s : State := { s with sv := { s.sv with scrub := rest } }
    let s := s.incFd F.SV_ECCm_REP_CNT (eccUnit mem) 0
    if mem = 5 then .next (s.journal 0x19 0x0C 0x00 1 (dBytes 4 row))
    else if mem = 6 then .next { s with sv := { s.sv with spareLines := addLines s.sv.spareLines [row] } }
    else
      let s : State := { s with sv := { s.sv with repairs := s.sv.repairs ++ [(mem, unit, row)] } }
      if mem ≤ 1 ∧ unit < 18 then .next ((s.setFd F.SV_HEALTHs_ROWS unit 0 (min 100 pct)).wornCheck unit) else .next s

/-- An uncorrectable error is counted and written to the journal; one in a program-image bank makes the bank invalid
(R557, R559). Log 81 (DEDUCED, unsafe). -/
def State.uncorrectable (s : State) (mem unit region adr : Nat) : State :=
  let s := (s.incFd F.SV_ECCm_UE_CNT (eccUnit mem) 0).journal 0x18 0x0C 0x00 2
    ([mem, unit, region] ++ dBytes 4 adr)
  if mem = 6 ∧ region ≤ 1 then
    { s with sv := { s.sv with imgValid := setBits s.sv.imgValid region region 0 } }
  else s

/-- ECC_ERROR: an access finds an error in memory `mem` (the code of journal event 0x18), slice or cluster `unit`, MRAM
region `region`, at `adr`. Uncorrectable errors reach their reader: FETCH_ECC or DATA_ECC for core `core` (R211), a
guard trip for a Kneader scratch word (R561). Log 81 (DEDUCED, unsafe). -/
def execEccError (mem unit region adr : Nat) (correctable fetch : Bool) (core : Nat) (s : State) :
    Host.Outcome State Fault Refusal :=
  if correctable then .next (s.corrected mem unit)
  else
    let s := s.uncorrectable mem unit region adr
    if (mem ≤ 1 ∨ mem = 5) ∧ core < 72 ∧ (s.core core).run = .run then
      .next (s.eccRaise core (if fetch then .fetchEcc else .dataEcc) (BitVec.ofNat 32 adr))
    else if mem = 3 then .next (s.scratchError unit core)
    else .next s

/-! ## The journal (R562 to R565) -/

/-- The 64 bytes of a journal entry (R562). -/
def JournalEntry.bytes (e : JournalEntry) (seq : Nat) (lost : Bool) : List Byte :=
  let b := leBytes 4 seq ++ leBytes 1 e.block ++ leBytes 1 e.code ++ leBytes 1 e.cls ++ leBytes 1 (b2n lost) ++
    leBytes 8 e.ct ++ leBytes 8 e.calSec ++ leBytes 2 e.calSub ++ leBytes 2 e.rep ++
    e.data.map (fun n => BitVec.ofNat 8 n)
  b ++ leBytes 4 (crc32c b)

/-- JOURNAL_EVENT: an event of some block queues an entry, merges, or is lost (R563). -/
def execJournalEvent (ev blk code cls : Nat) (detail : List Nat) (s : State) : Host.Outcome State Fault Refusal :=
  .next (s.journal ev blk code cls detail)

/-- The oldest queued entry `e`, before the entries `es`, stands in the next line of the ring (R563, R564).
Log 80 (DESIGN CHOICE, unsafe). -/
def State.jnlTake (s : State) (e : JournalEntry) (es : List JournalEntry) : State :=
  let seq := if s.jnl.seq = 0xFFFFFFFF then 1 else s.jnl.seq + 1
  let l := s.jnl.line % 262144
  { s with jnl := { s.jnl with queue := es, lost := false, seq := seq, line := l + 1,
                               ring := Tab.set (fun _ => []) s.jnl.ring l (e.bytes seq s.jnl.lost) } }

/-- JOURNAL_WRITE: Crust writes the oldest queued entry to the next line of the ring (R563, R564). -/
def execJournalWrite (s : State) : Host.Outcome State Fault Refusal :=
  match s.jnl.queue with
  | [] => .next s
  | e :: es => .next (s.jnlTake e es)

/-- A load of a journal entry is under way, or not. Log 84 (DEDUCED, unsafe). -/
def State.setLoading (s : State) (b : Bool) : State := { s with jnl := { s.jnl with loading := b } }

/-- A write of SV_JNL_SEL starts the load of an entry (R565). -/
def writeJnlSel (v : Word) (s : State) : State :=
  ((s.setRg .SV_JNL_SEL 0 0 v.toNat).setFd F.SV_JNL_STAT_RESULT 0 0 0).setLoading true

/-- JOURNAL_SELECT: a write of SV_JNL_SEL by a requester. Log 84 (DEDUCED, unsafe). -/
def execJournalSelect (q : Requester) (v : Word) (s : State) : Host.Outcome State Fault Refusal :=
  s.write q .SV_JNL_SEL 0 0 (writeJnlSel v)

/-- JOURNAL_LOAD_COMPLETE: the selected entry stands in SV_JNL_DATA, or RESULT says why not (R565).
Log 84 (DEDUCED, unsafe). -/
def execJournalLoadComplete (s : State) : Host.Outcome State Fault Refusal :=
  if ¬ s.jnl.loading then .next s
  else
    let sel := s.rg .SV_JNL_SEL
    let s := s.setLoading false
    match s.jnl.ring.find? (fun e => decide (sel ≠ 0 ∧ ofLe (e.2.take 4) = sel)) with
    | none => .next (s.setFd F.SV_JNL_STAT_RESULT 0 0 2)
    | some (_, b) =>
      let s := s.forEach (List.range 16) (fun k s => s.setRg .SV_JNL_DATAk k 0 (ofLe ((b.drop (4 * k)).take 4)))
      let ok := decide (crc32c (b.take 60) = ofLe (b.drop 60))
      .next (s.setFd F.SV_JNL_STAT_RESULT 0 0 (if ok then 1 else 3))

/-! ## The watchdog (R566 to R568) -/

/-- The watchdog bites: 0 timeout, 1 early kick, 2 wrong value, 3 missing second key. Crust writes a journal entry and
holds the whole module in reset for 1 ms; Crust, the calendar, the journal and SV_WDOG_STAT keep their state (R568).
Log 82 (DEDUCED, unsafe). -/
def State.bite (s : State) (why : Nat) : State :=
  let s := s.journal 0x1A 0x0C 0x00 2 [why]
  let s := s.raise F.SV_WDOG_STAT_BITTEN F.SV_WDOG_STAT_BITE_CNT 0 0
  (s.warmReset 1).advance (msTicks 1)

/-- A write of SV_WDOG_CTL: TO 0 is refused with RANGE; once EN is 1, clearing EN or changing TO is refused with
STATE (R566, R648). -/
def writeWdogCtl (q : Requester) (v : Word) (s : State) : State :=
  let en := s.flag F.SV_WDOG_CTL_EN
  if F.SV_WDOG_CTL_TO.of v.toNat = 0 then s.refuse q .SV_WDOG_CTL 0 0 0x03
  else if en ∧ (F.SV_WDOG_CTL_EN.of v.toNat = 0 ∨ ¬ s.keeps F.SV_WDOG_CTL_TO 0 0 v.toNat) then
    s.refuse q .SV_WDOG_CTL 0 0 0x02
  else
    let s := s.plainWrite .SV_WDOG_CTL 0 0 v.toNat
    if ¬ en ∧ F.SV_WDOG_CTL_EN.of v.toNat = 1 then
      { s with sv := { s.sv with wdKick := s.time.ticks, wdKey := none, wdEarly := false, wdHad := false } }
    else s

/-- A write of SV_WDOG_KICK: the first key, the second key within 1 ms, or a bite (R566, R567).
Log 82 (DEDUCED, unsafe). -/
def writeWdogKick (v : Word) (s : State) : State :=
  let now := s.time.ticks
  if ¬ s.flag F.SV_WDOG_CTL_EN then s
  else match s.sv.wdKey with
    | none =>
      if v.toNat = 0xA5C3 then { s with sv := { s.sv with wdKey := some now } } else s.bite 2
    | some t =>
      if t + msTicks 1 < now then s.bite 3
      else if v.toNat ≠ 0x5A3C then s.bite 2
      else if s.sv.wdHad ∧ 4 * (now - s.sv.wdKick) < msTicks (s.fd F.SV_WDOG_CTL_TO) then s.bite 1
      else { s with sv := { s.sv with wdKick := now, wdKey := none, wdEarly := false, wdHad := true } }

/-- WDOG_KICK: a write of SV_WDOG_KICK by a requester. Log 82 (DEDUCED, unsafe). -/
def execWdogKick (q : Requester) (v : Word) (s : State) : Host.Outcome State Fault Refusal :=
  s.write q .SV_WDOG_KICK 0 0 (writeWdogKick v)

/-- WDOG_KEY_TIMEOUT: the second key does not follow within 1 ms (R567). Log 82 (DEDUCED, unsafe). -/
def execWdogKeyTimeout (s : State) : Host.Outcome State Fault Refusal :=
  match s.sv.wdKey with
  | some t => if s.flag F.SV_WDOG_CTL_EN then .next ((s.advanceToTick (t + msTicks 1)).bite 3) else .next s
  | none => .next s

/-- WDOG_EARLY: TO / 2 without a kick sets EARLY and deposits the health token with event 0x06 (R567).
Log 82 (DEDUCED, unsafe). -/
def execWdogEarly (s : State) : Host.Outcome State Fault Refusal :=
  if s.flag F.SV_WDOG_CTL_EN ∧ s.flag F.SV_WDOG_CTL_EARLY_EN ∧ ¬ s.sv.wdEarly then
    let s := s.advanceToTick (s.sv.wdKick + msTicks (s.fd F.SV_WDOG_CTL_TO) / 2)
    let s : State := { s with sv := { s.sv with wdEarly := true } }
    .next ((s.raise F.SV_WDOG_STAT_EARLY F.SV_WDOG_STAT_EARLY_CNT 0 0).healthEvent 6)
  else .next s

/-- WDOG_TIMEOUT: a TO period passes without a kick (R567, R568). Log 82 (DEDUCED, unsafe). -/
def execWdogTimeout (s : State) : Host.Outcome State Fault Refusal :=
  if s.flag F.SV_WDOG_CTL_EN then
    .next ((s.advanceToTick (s.sv.wdKick + msTicks (s.fd F.SV_WDOG_CTL_TO))).bite 0)
  else .next s

/-! ## Forced power-off (R570) -/

/-- A write of SV_FORCE. Log 78 (DEDUCED, unsafe). -/
def writeForce (q : Requester) (v : Word) (s : State) : State :=
  let d := F.SV_FORCE_DOMAIN.of v.toNat
  if 27 < d then s.refuse q .SV_FORCE 0 0 0x03
  else if 24 < d then s.refuse q .SV_FORCE 0 0 0x74
  else (s.forceOff d).journal 0x1B 0x0C 0x00 1 [d, q.code]

/-- DOMAIN_FORCE_OFF: a write of SV_FORCE by a requester. -/
def execDomainForceOff (q : Requester) (v : Word) (s : State) : Host.Outcome State Fault Refusal :=
  s.write q .SV_FORCE 0 0 (writeForce q v)

/-! ## The chain (R571 to R577) -/

/-- A write of CH_CTL (R571, R648). -/
def writeChCtl (q : Requester) (v : Word) (s : State) : State :=
  let mode := F.CH_CTL_MODE.of v.toNat
  let fc := F.CH_CTL_FAIL_CYC.of v.toNat
  let en := F.CH_CTL_EN.of v.toNat
  let was := s.flag F.CH_CTL_EN
  let pos := s.ch.strap
  if mode = 3 ∨ fc = 0 ∨ 8 < fc then s.refuse q .CH_CTL 0 0 0x03
  else if was ∧ ¬ (s.keeps F.CH_CTL_MODE 0 0 v.toNat ∧ s.keeps F.CH_CTL_FAIL_CYC 0 0 v.toNat) then
    s.refuse q .CH_CTL 0 0 0x02
  else if ¬ was ∧ en = 1 ∧ (s.ch.heardTwice ∨ (mode = 2 ∧ (1 < pos ∨ ¬ s.ch.peerMatch))) then
    s.refuse q .CH_CTL 0 0 0x7B
  else
    let s := s.plainWrite .CH_CTL 0 0 v.toNat
    if ¬ was ∧ en = 1 then
      let s : State := { s with ch := { s.ch with missed := 0, syncSeen := false } }
      if mode = 2 then
        let s := s.setFd F.CH_STAT_ROLE 0 0 (if pos = 0 then 1 else 2)
        if pos = 0 then s else s.pairsOff
      else s
    else if was ∧ en = 0 then s.setFd F.CH_STAT_ROLE 0 0 0
    else s

/-- CHAIN_ENABLE: the module hears positions `heard` (bit p) on the chain, `twice` if one is strapped twice, and the
pair's modules `agree` in image and schedules; then CH_CTL is written by a requester (R571). -/
def execChainEnable (q : Requester) (heard : Nat) (twice agree : Bool) (v : Word) (s : State) :
    Host.Outcome State Fault Refusal :=
  let s : State := { s with ch := { s.ch with heardTwice := twice, peerMatch := agree } }
  let s : State := if s.domOn 23 then s.setFd F.CH_STAT_PRESENT 0 0 heard else s
  s.write q .CH_CTL 0 0 (writeChCtl q v)

/-- A write of CH_REPr_BASE or CH_REPr_LEN: RANGE unless a multiple of 64 and the regions together at most 4 MB. -/
def writeChRep (q : Requester) (r : Reg) (i : Nat) (v : Word) (s : State) : State :=
  let n := v.toNat % 2 ^ 24
  let tot := ((List.range 8).map (fun k => if r = .CH_REPr_LEN ∧ k = i then n else s.rg .CH_REPr_LEN k)).sum
  if n % 64 ≠ 0 ∨ 4 * 2 ^ 20 < tot then s.refuse q r i 0 0x03 else s.setRg r i 0 n

/-- BRIDGE_TOKEN_RECEIVE: a token forwarded over the chain is deposited at its template (R572). -/
def execBridgeTokenReceive (t slot tag : Nat) (payload : Word) (s : State) : Host.Outcome State Fault Refusal :=
  .next (s.deposit .other (slot % 16 * 2 ^ 12 + t % 2 ^ 12) tag payload).1

/-- A spine SRAM line belongs to a replicated region (R575). Log 83 (DEDUCED, unsafe). -/
def State.replicated (s : State) (line : Nat) : Bool :=
  let a := line * 64
  decide (a < 0x54800) || (List.range 8).any (fun r =>
    decide (s.rg .CH_REPr_BASE r ≤ a ∧ a < s.rg .CH_REPr_BASE r + s.rg .CH_REPr_LEN r))

/-- The primary's replication round of this CUTOFF: at most 512 KB; a longer one continues and counts once in
LAG_CNT (R575). Log 83 (DEDUCED, unsafe). -/
def State.replicationRound (s : State) : State :=
  if s.fd F.CH_STAT_ROLE ≠ 1 ∨ ¬ s.flag F.CH_CTL_EN then s
  else
    let going := decide (s.ch.left ≠ [])
    let lines := if going then s.ch.left else s.ch.written.filter s.replicated
    let rest := lines.drop 8192
    let n := (s.fd F.CH_REP_STAT_ROUND + 1) % 2 ^ 16
    let part : ChRound :=
      { round := n, complete := decide (rest = []),
        lines := (lines.take 8192).map (fun l => (l, s.sramBytes (l * 64) 64)),
        regs := [s.fd F.GLOBAL_AG_EN_EN, s.rg .KN_PLAN_ADR, s.rg64 .KN_PLAN_VF_LO .KN_PLAN_VF_HI 0] }
    let s : State := { s with ch := { s.ch with
      written := if going then s.ch.written else [], left := rest, rounds := s.ch.rounds ++ [part] } }
    if rest = [] then s.setFd F.CH_REP_STAT_ROUND 0 0 n
    else if going then s else s.incFd F.CH_REP_STAT_LAG_CNT 0 0

/-- REPLICATION_APPLY: the standby applies a complete round: lines of spine SRAM, GLOBAL_AG_EN, KN_PLAN_ADR and
KN_PLAN_VF (R575). -/
def execReplicationApply (round : Nat) (lines : List (Nat × List Byte)) (regs : List Nat) (s : State) :
    Host.Outcome State Fault Refusal :=
  if ¬ s.isStandby then .next s
  else
    let s := s.forEach lines (fun l s => if s.replicated l.1 then s.sramWrite (l.1 * 64) (l.2.take 64) else s)
    .next ({ s with ch := { s.ch with repRegs := regs } }.setFd F.CH_REP_STAT_ROUND 0 0 round)

/-- The condition of a takeover or of CHAIN_LOST: no chain time word for FAIL_CYC base-cycle starts (R576). -/
def State.wordsMissing (s : State) : Bool := s.isStandby && decide (s.fd F.CH_CTL_FAIL_CYC ≤ s.ch.missed)

/-- The plan in force of a new primary: the one KN_PLAN_ADR and KN_PLAN_VF name in the replicated spine SRAM (R575,
R577); R318 reads its ADDR, VALID_FROM and GROUPS. Its length follows from its NAX (R313). Slot and RESULT of the
adopted result are not replicated. Log 83 (DEDUCED, unsafe). -/
def State.adoptReplicated (s : State) (addr vf : Nat) : State :=
  if addr = 0 then s
  else
    let groups := s.sramN (addr - 0x10000000 + 16 + 22) 2
    let r : KnResult := { slot := 0, result := 0, addr := addr, len := 64 + 112 * s.sramN (addr - 0x10000000 + 40) 2,
                          vf := vf, groups := groups, doneAt := s.ctNs }
    { s with kn := { s.kn with adopted := some r } }

/-- The new primary sends the REF of the old one's last sync frame, or its own id where the old primary, its neighbour
position, was the reference: then it is the reference itself, at the nominal increment (R66, R577).
Log 83 (DEDUCED, unsafe). -/
def State.takeReference (s : State) : State :=
  if s.kl.ref ≠ some (0x800 + (1 - s.ch.strap % 4)) then s
  else (((s.setRef (some s.selfId) (s.fd F.KL_TIME_CTL_RANK)).nominalInc).setFd F.TIM_CT_STAT_SRC 0 0 2).setCs 0xA

/-- TAKEOVER: the standby becomes primary (R576, R577): GLOBAL_AG_EN, KN_PLAN_ADR and KN_PLAN_VF are loaded from the
last complete round without the checks of R27, and KN_PLAN_RUN is cleared. Log 83 (DEDUCED, unsafe). -/
def execTakeover (s : State) : Host.Outcome State Fault Refusal :=
  if ¬ s.wordsMissing ∨ s.ch.syncSeen then .next s
  else
    let s := (s.setFd F.CH_STAT_ROLE 0 0 1).takeReference
    let r (k : Nat) := s.ch.repRegs.getD k 0
    let s := s.setFd F.GLOBAL_AG_EN_EN 0 0 (r 0)
    let s := (s.setRg .KN_PLAN_ADR 0 0 (r 1)).setRg64 .KN_PLAN_VF_LO .KN_PLAN_VF_HI 0 (r 2)
    let s := s.adoptReplicated (r 1) (r 2)
    let s := s.setRg .KN_PLAN_RUN 0 0 0
    let s : State := { s with ch := { s.ch with takeover := some s.time.bcn, missed := 0 } }
    let s := (s.incFd F.CH_STAT_TAKEOVER_CNT 0 0).journal 0x1C 0x0E 0x00 2 (dBytes 4 s.time.bcn)
    .next (s.healthEvent 5)

/-- CHAIN_LOST: the words are missing but the primary's sync frames still arrive (R576). -/
def execChainLost (s : State) : Host.Outcome State Fault Refusal :=
  if s.wordsMissing ∧ s.ch.syncSeen then
    .next (({ s with ch := { s.ch with missed := 0 } }).raise F.CH_STAT_CHAIN_LOST F.CH_STAT_LOST_CNT 0 0)
  else .next s

end Sys2Proof.Machine
end

