-- ==== Sys2Proof/Machine/Cell.lean ====
section
/-!
DEFINITION. The cell (chapter 01): arm groups and their enables, snapshots, the base cycle, its CUTOFF, plan cycles and
super-cycle boundaries, TIM_CYCLE, and the placement table.
-/

namespace Sys2Proof.Machine

/-! ## Enabling arm groups (R27) -/

/-- The record set of arm group `g` as it stands: record, axis records, capsule records (R25).
Log 18 (DESIGN CHOICE, unsafe). -/
def State.agTake (s : State) (g : Nat) : Snapshot :=
  let r := s.agLive g
  { rec_ := r, axes := s.sramBytes (axisAt (agFirst r)) (48 * agAxes r),
    caps := s.sramBytes (0x3400 + 32 * 12 * g) (32 * agCapsules r) }

/-- Another enabled arm group whose range, by its snapshot in force, holds one of the axes of record `r` (R27). -/
def State.agOverlap (s : State) (g : Nat) (r : List Byte) : Bool :=
  s.agsOn.any (fun h => decide (h ≠ g) && (s.agAxisNumbers h).any (fun a =>
    decide (agFirst r ≤ a ∧ a < agFirst r + agAxes r)))

/-- The checks of R27 on arm group `g`, in order. -/
def State.agFail (s : State) (g : Nat) : Option Nat :=
  let r := s.agLive g
  let axes := (List.range (agAxes r)).map (fun i => s.axLive (agFirst r + i))
  if 16 < agAxes r ∨ 12 < agCapsules r ∨ agCredit r = 0 ∨ 8 < agCredit r ∨ agLateLimit r = 0 ∨ 15 < agLateLimit r ∨
      256 < agFirst r + agAxes r then some 0x03
  else if agSeq r % 2 = 1 then some 0x02
  else if axes.any (fun x => decide (axGroup x ≠ g) || axProfiled x) then some 0x04
  else if s.agOverlap g r then some 0x04
  else if axes.any (fun x => decide (axNode x ≠ 0xFFFF) && (s.entryOf (axNode x)).isNone) then some 0x04
  else if axes.any (fun x => axStepped x && (match axStepOut x with
      | some j => !s.flag F.AX_STj_CTL_EN j || s.stepUsed j 256
      | none => true)) then some 0x04
  else if ¬ s.domOn (s.sliceOf g) then some 0x07
  else none

/-- Arm group `g` is enabled: its bit is set, its records are taken, its count of R318 is 0, its model is copied (R265),
and its channels are PLANNED (R324). It is judged first at the CUTOFF of the next base cycle (R36). -/
def State.agOn (s : State) (g : Nat) : State :=
  let s := s.setFd F.GLOBAL_AG_EN_EN 0 0 (s.fd F.GLOBAL_AG_EN_EN ||| 2 ^ g)
  let s := s.setAg g { s.ag g with snap := some (s.agTake g), fresh := false, stopping := false, lateRun := 0,
                                   enAtStart := false, queue := [], draining := false, cat1 := false }
  let s := (s.setPlanCount g 0).modelCopy g
  let r := s.agLive g
  s.forEach (List.range (agAxes r)) (fun i s =>
    let a := agFirst r + i
    if s.axState a = 5 then s else ((s.axStart a (s.axLive a)).setAxState a 6).fbHalt a)

/-- A write of GLOBAL_AG_EN: each bit from 0 to 1 runs the checks of R27 or is refused, each bit from 1 to 0 starts a
path-following stop (R27, R12). A group that stops keeps its bit. Several bits that go to 1 are taken in ascending order,
each beside those before it, and the last refusal stands. Log 97 (DESIGN CHOICE, unsafe). -/
def writeAgEn (q : Requester) (v : Word) (s : State) : State :=
  s.forEach (List.range 16) (fun g s =>
    let want := bit (F.GLOBAL_AG_EN_EN.of v.toNat) g
    if want = s.agEnabled g then s
    else if want then
      match s.agFail g with
      | some c => (s.refuse q .GLOBAL_AG_EN 0 0 c).setFd F.GLOBAL_AG_EN_REF_AG 0 0 g
      | none => s.agOn g
    else s.setAg g { s.ag g with stopping := true })

/-- AG_ENABLE and AG_DISABLE: writes of GLOBAL_AG_EN by a requester (R27). -/
def execAgEnable (q : Requester) (v : Word) (s : State) : Host.Outcome State Fault Refusal :=
  s.write q .GLOBAL_AG_EN 0 0 (writeAgEn q v)
def execAgDisable (q : Requester) (v : Word) (s : State) : Host.Outcome State Fault Refusal :=
  s.write q .GLOBAL_AG_EN 0 0 (writeAgEn q v)

/-- AG_STANDSTILL: a stopping arm group reaches standstill, and its bit reads 0 (R27). -/
def execAgStandstill (g : Nat) (s : State) : Host.Outcome State Fault Refusal :=
  if g < 16 ∧ s.agEnabled g ∧ (s.ag g).stopping then .next (s.agOff g false) else .next s

/-- CT ns of the end of the path of the plan in force: the adopted OUT as it stands in spine SRAM (R313, R320).
Log 22 (DEDUCED, unsafe). -/
def State.pathEnd (s : State) : Option Nat :=
  let a := s.rg .KN_PLAN_ADR
  if inSpine a 56 then some (planEndNs (s.sramBytes (a - 0x10000000 + 16) 40)) else none

/-- PATH_END_STOP: the path of the plan in force ends before a stopping arm group that it covers has reached standstill
(R320, R321). Log 22 (DEDUCED, unsafe). -/
def execPathEndStop (g : Nat) (s : State) : Host.Outcome State Fault Refusal :=
  match s.pathEnd with
  | some t =>
    if g < 16 ∧ s.agEnabled g ∧ (s.ag g).stopping ∧ ¬ (s.ag g).cat1 ∧ bit ((s.kn.adopted.map KnResult.groups).getD 0) g then
      .next (((s.advanceTo t).cat1Stop g).journal 0x04 0x06 0x00 2 [g])
    else .next s
  | none => .next s

/-! ## CUTOFF (R36, R37, R107) -/

/-- The setpoints of an arm group committed by CUTOFF (R36): one servo task commits them all.
Log 19 (DEDUCED, unsafe). -/
def State.agCommitted (s : State) (g : Nat) : Bool := (s.agSetpoints g).all (fun k => s.kl.committed.contains k)

/-- An arm group judged at CUTOFF: on time, or late, and after LATE_LIMIT late base cycles in a row stopped (R36, R37). -/
def State.judge (s : State) (g : Nat) : State :=
  let a := s.ag g
  if ¬ a.enAtStart then s
  else if s.agCommitted g then s.setAg g { a with lateRun := 0 }
  else
    let late := satInc 16 (s.sramN (64 * g + 16) 2)
    let s := s.setSram (64 * g + 16) 2 late
    let s := s.setAg g { s.ag g with lateRun := a.lateRun + 1 }
    if agLateLimit (s.agRec g) ≤ a.lateRun + 1 ∧ s.agEnabled g then
      ((s.cat1Stop g).agOff g true).journal 0x01 0x00 0x00 2 ([g] ++ dBytes 2 late)
    else s

/-- The work of CUTOFF: arm groups are judged, the setpoint bank closes, a migration may cut over, and the primary of a
pair sends its round (R36, R107, R547, R575). A base cycle that a pending load of CT ends first has none (R651).
Log 19 (DEDUCED, unsafe). -/
def State.cutoffWork (s : State) : State :=
  let s := s.advanceWithin (s.offsetNs s.time.cutoff)
  if s.time.cutoffDone then s
  else
    let s := s.forEach (List.range 16) (fun g s => s.judge g)
    let s := s.closeBank.migCutover.replicationRound
    { s with time := { s.time with cutoffDone := true } }

/-- CUTOFF of the base cycle in progress. -/
def execCutoff (s : State) : Host.Outcome State Fault Refusal :=
  if s.clockOn ∧ ¬ s.time.cutoffDone then .next s.cutoffWork else .next s

/-! ## The start of a base cycle (R29, R650, R651) -/

/-- The BASE code that holds from the next base-cycle start: a written one from the first start of the old length at which
CT is a multiple of the new length (R650). Log 17 (DESIGN CHOICE, unsafe). -/
def State.nextBase (s : State) : Nat :=
  let b := s.fd F.TIM_CYCLE_BASE
  if s.nextStart % baseNs b = 0 then b else s.time.base

/-- The base cycle in progress ends: it reaches its CUTOFF, or a pending load of CT ends it first (R651). -/
def State.leaveCycle (s : State) : State :=
  let s := if s.time.cutoffDone then s else s.cutoffWork
  if s.time.ctLoad.isSome then s.advance 1 else s

/-- Chain time words are missed: counts of R172 and R576 at a base-cycle start. -/
def State.chainCycle (s : State) : State :=
  let c := s.ch
  let got := c.word0 || c.word1
  let q0 := if c.word0 then c.quiet0 else c.quiet0 + 1
  let q1 := if c.word1 then c.quiet1 else c.quiet1 + 1
  let missed := if got then 0 else c.missed + 1
  let seen := c.syncSeen && !got
  let c : ChState := { c with word0 := false, word1 := false, quiet0 := q0, quiet1 := q1, missed := missed, syncSeen := seen }
  let s : State := { s with ch := c }
  let s := if 8 ≤ s.ch.quiet0 then s.setFd F.CH_STAT_LINK0 0 0 0 else s
  if 8 ≤ s.ch.quiet1 then s.setFd F.CH_STAT_LINK1 0 0 0 else s

/-- The next base cycle begins: the one in progress ends first, a change of the length applies, and the counters move on;
a written CUTOFF applies once its BASE is in force (R29, R650). Log 15 (DEDUCED, unsafe). -/
def State.enterCycle (s : State) : State :=
  let s := s.leaveCycle
  let t := s.nextStart
  let s := s.advanceTo t
  let b := s.nextBase
  let n := t / baseNs b
  let cut := if s.fd F.TIM_CYCLE_BASE = b then s.fd F.TIM_CYCLE_CUTOFF else s.time.cutoff
  let moved := decide (b ≠ s.time.base)
  let s : State := { s with
    time := { s.time with base := b, bcn := n, bcStart := t, noBase := false, cutoff := cut, cutoffDone := false,
                          planDone := false, superDone := false, startDone := false },
    lv := { s.lv with tickDone := [] },
    pw := { s.pw with offSeen := if n % 16 = 0 then [] else s.pw.offSeen } }
  let s := s.forEach (List.range 16) (fun g s => s.setAg g { s.ag g with enAtStart := s.agEnabled g })
  (if moved then s.thBound else s).chainCycle

/-- BASE_CHANGE_EFFECT (R650): the base cycle in progress ends, and the first of the new length begins. Nothing happens
where no change applies at the next start. Log 17 (DESIGN CHOICE, unsafe). -/
def execBaseChangeEffect (s : State) : Host.Outcome State Fault Refusal :=
  let b := (if s.time.ctLoad.isSome then s.leaveCycle else s).nextBase
  if s.clockOn ∧ b ≠ s.time.base then .next s.enterCycle else .next s

/-- The number of the next base cycle, in the length that holds from its start (R24, R31). -/
def State.nextBcn (s : State) : Nat :=
  s.nextStart / baseNs s.nextBase

/-- The base cycle of an event that falls at a start for which `p` holds: the one in progress if it still waits for the
event, else the next; none where neither is such a one. Log 15 (DEDUCED, unsafe). -/
def State.reach (s : State) (done : TimeState → Bool) (p : Nat → Bool) : Option State :=
  if ¬ s.clockOn then none
  else if ¬ s.time.noBase ∧ p s.time.bcn ∧ ¬ done s.time then some s
  else if p (if s.time.ctLoad.isSome then s.leaveCycle else s).nextBcn then some s.enterCycle
  else none

/-! ## Credit queues (R41, R45 to R47) -/

/-- Some AHEAD template of the arm group is ON: the producer of its credit queue (R239). Log 20 (DEDUCED, unsafe). -/
def State.hasProducer (s : State) (g : Nat) : Bool :=
  s.onTemplates.any (fun t => s.tplAhead t && decide (s.flowOwner (s.tplFlow t) = g))

/-- The consumer of a credit queue takes an entry at the base-cycle start, or finds it empty and computes it itself
(R41, R46, R47). Log 20 (DEDUCED, unsafe). -/
def State.takePoint (s : State) (g : Nat) : State :=
  let a := s.ag g
  match a.queue with
  | _ :: rest => s.setAg g { a with queue := rest, draining := a.draining && decide (1 < rest.length) }
  | [] =>
    if a.pace && s.agEnabled g && s.hasProducer g then
      s.setSram (64 * g + 18) 2 (satInc 16 (s.sramN (64 * g + 18) 2))
    else s

/-- The instances of arm group `g` that wait for their scheduled instants are released (R239). -/
def State.releaseAhead (s : State) (g : Nat) : State :=
  let now := s.ctNs
  { s with lv := { s.lv with fired := s.lv.fired.map (fun x =>
    if x.sched.isSome ∧ ¬ x.released ∧ s.flowOwner (s.tplFlow x.tpl) = g then { x with released := true, relAt := now }
    else x) } }

/-- PACE and CREDIT of an arm group whose snapshot was taken at this super-cycle boundary take effect: with PACE 1 what
waits for its scheduled instant is released, and from CREDIT to LOCKED the queue drains (R26, R47, R239).
Log 20 (DEDUCED, unsafe). -/
def State.pacingAg (s : State) (g : Nat) : State :=
  let a := s.ag g
  let r := s.agRec g
  if ¬ a.fresh then s
  else
    let s := s.setAg g { a with pace := agPace r, credit := agCredit r,
                                draining := (a.draining || a.pace) && !agPace r && decide (1 < a.queue.length) }
    if agPace r then s.releaseAhead g else s

/-- PACE and CREDIT at a super-cycle boundary (R26). Log 16 (DEDUCED, unsafe). -/
def State.pacing (s : State) : State :=
  if s.phase = 0 then s.forEach s.agsOn (fun g s => s.pacingAg g) else s

/-! ## Super-cycle boundaries (R23) -/

/-- A pending placement applies (R49). Log 21 (DESIGN CHOICE, unsafe). -/
def State.placeApply (s : State) : State :=
  if ¬ s.flag F.SV_PLACE_CMD_PENDING then s
  else
    let s := s.forEach (List.range 16) (fun g s => s.setRg .SV_PLACEn g 0 (s.rg .SV_PLACE_SHn g))
    (s.setFd F.SV_PLACE_CMD_PENDING 0 0 0).incFd F.SV_PLACE_CMD_COMMITS 0 0

/-- The work of a super-cycle boundary: placement, migration, code swap, Kneader mapping, adopt slot, schedule mode, link
results and reference takeover, and then the node records (R23, R49, R129, R149, R167, R287, R316, R548, R555).
Log 15 (DEDUCED, unsafe). -/
def State.superWork (s : State) : State :=
  let s := s.placeApply.migComplete.swapApply
  let s := s.agmapApply.adoptSwitch.switchDecide.switchCommit
  let s := s.applyResults.refTakeover.writeNodeRecords
  { s with time := { s.time with superDone := true } }

/-! ## Plan cycles (R25, R35) -/

/-- Arm group `g`'s snapshot: taken where SEQ is even, else the previous one is kept and counted (R25).
Log 18 (DESIGN CHOICE, unsafe). -/
def State.snapAg (s : State) (g : Nat) : State :=
  if agSeq (s.agLive g) % 2 = 1 then
    (s.setAg g { s.ag g with fresh := false }).setSram (64 * g + 20) 2 (satInc 16 (s.sramN (64 * g + 20) 2))
  else (s.setAg g { s.ag g with snap := some (s.agTake g), fresh := decide (s.phase = 0) }).modelCopy g

/-- A rejected zone or person snapshot counts against arm groups (R25). Log 18 (DESIGN CHOICE, unsafe). -/
def State.snapFails (s : State) (gs : List Nat) : State :=
  s.forEach gs (fun g s => s.setSram (64 * g + 20) 2 (satInc 16 (s.sramN (64 * g + 20) 2)))

/-- The snapshot of zone `z` and that of person `p` (R25). Log 18 (DESIGN CHOICE, unsafe). -/
def State.snapZone (s : State) (z : Nat) : State :=
  let b := s.sramBytes (0x4C00 + 64 * z) 64
  if fieldAt b 4 2 % 2 = 1 then s.snapFails (bitIndices (fieldAt b 6 2) 16)
  else { s with cell := { s.cell with zones := Tab.set (fun _ => List.replicate 64 0) s.cell.zones z b } }
/-- Log 18 (DESIGN CHOICE, unsafe). -/
def State.snapPerson (s : State) (p : Nat) : State :=
  let b := s.sramBytes (0x6000 + 160 * p) 160
  if fieldAt b 2 2 % 2 = 1 then s.snapFails s.agsOn
  else { s with cell := { s.cell with persons := Tab.set (fun _ => List.replicate 160 0) s.cell.persons p b } }

/-- An arm group stops on its path after repeated shifts (R319). Log 22 (DEDUCED, unsafe). -/
def State.shiftStop (s : State) (g : Nat) : State :=
  let s := s.setAg g { s.ag g with stopping := true }
  let s := (s.setRg .KN_PLAN_STOP 0 0 (s.rg .KN_PLAN_STOP ||| 2 ^ g)).noteRaise (Reg.addr .KN_PLAN_STOP 0 0) g
  let s := s.incFd F.KN_PLAN_STOP_STOP_CNT 0 0
  s.journal 0x03 0x06 0x00 2 [g, s.fd F.KN_PLAN_STAT_LAST, Tab.get (fun _ => 0) s.kn.codes s.adoptSlot]

/-- What an adoption `r` counts, and the arm groups that stop by it (R318, R319). -/
def State.planShift (s : State) (r : Nat) : State :=
  let c := s.planCounts r
  c.1.forEach c.2 (fun g s => s.shiftStop g)

/-- The work of a plan-cycle start: snapshots, adoption, counts and stops (R25, R317 to R319).
Log 15 (DEDUCED, unsafe). -/
def State.planWork (s : State) : State :=
  let s := s.forEach s.agsOn (fun g s => s.snapAg g)
  let s := s.forEach (List.range 80) (fun z s => s.snapZone z)
  let s := s.forEach (List.range 64) (fun p s => s.snapPerson p)
  let s := s.planAdopt.1.planShift s.planAdopt.2
  ({ s with time := { s.time with planDone := true } }).pacing

/-- What applies at a start, before any task of the base cycle fires (R35, R49): at a super-cycle boundary its work, and
at a plan-cycle start the plan-cycle work after it. -/
def State.boundaryWork (s : State) : State :=
  let s := if s.phase = 0 ∧ ¬ s.time.superDone then s.superWork else s
  if s.phase % 8 = 0 ∧ ¬ s.time.planDone then s.planWork else s

/-- SUPER_CYCLE_BOUNDARY. Log 15 (DEDUCED, unsafe). -/
def execSuperCycleBoundary (s : State) : Host.Outcome State Fault Refusal :=
  match s.reach TimeState.superDone (fun n => decide (n % 16 = 0)) with
  | some s => .next s.boundaryWork
  | none => .next s

/-- PLAN_CYCLE_START: at a super-cycle boundary, what applies there comes first. Log 15 (DEDUCED, unsafe). -/
def execPlanCycleStart (s : State) : Host.Outcome State Fault Refusal :=
  match s.reach TimeState.planDone (fun n => decide (n % 8 = 0)) with
  | some s => .next s.boundaryWork
  | none => .next s

/-! ## Base-cycle starts (R29) -/

/-- The chain time words of a base-cycle start: CT at the stamp point, chain position, own time source; at the start of a
super-cycle an exchange request with each (R146, R171). Log 39 (DEDUCED, unsafe). -/
def State.chainWords (s : State) : State :=
  let w (p : Nat) : Nat × Nat × Nat × Nat := (p, s.time.ct, s.ch.strap % 4, s.fd F.TIM_CT_STAT_SRC)
  let on := s.domOn 23 && s.flag F.CH_CTL_EN && decide (s.fd F.CH_CTL_MODE ≠ 0)
  let asks := if s.phase = 0 then (if on then [(0, s.time.ct), (1, s.time.ct)] else []) else s.ch.asks
  { s with ch := { s.ch with words := if on then [w 0, w 1] else [], asks := asks, answers := [] } }

/-- The work of a base-cycle start: at a boundary what applies there first; then the frames, the chain time words, the
consumers of the credit queues and the speed modes of the feedback channels (R29, R46, R95, R98, R171, R384). -/
def State.startWork (s : State) : State :=
  let s := s.boundaryWork.klCycle.chainWords
  let s := s.forEach (List.range 16) (fun g s => s.takePoint g)
  let s := s.fbCycles
  { s with time := { s.time with startDone := true } }

/-- BASE_CYCLE_START: the start of the base cycle in progress where it is still due, else of the next.
Log 2 (DESIGN CHOICE, unsafe), 15 (DEDUCED, unsafe). -/
def execBaseCycleStart (s : State) : Host.Outcome State Fault Refusal :=
  match s.reach TimeState.startDone (fun _ => true) with
  | some s => .next s.startWork
  | none => .next s

/-! ## TIM_CYCLE (R31 to R34, R650) -/

/-- CUTOFF fits a base-cycle length: inside the guard window and at least 2 µs before the end (R32).
Log 14 (DEDUCED, unsafe). -/
def cutoffFits (base cutoff : Nat) : Bool :=
  decide (guardStart base ≤ cutoff * 250) && decide (cutoff * 250 + 2000 ≤ baseNs base)

/-- An enabled tick generator, an ON template or an enabled capture has an offset at or beyond a length (R34). -/
def State.offsetBeyond (s : State) (len : Nat) : Bool :=
  (List.range 64).any (fun k => s.flag F.LV_TICKk_OFS_EN k && decide (len ≤ s.fd F.LV_TICKk_OFS_OFS k * 250)) ||
  s.onTemplates.any (fun t => decide (len ≤ s.tpl t 12 4 * 2) ||
    (decide (s.tpl t 16 4 ≠ 0xFFFFFFFF) && decide (len ≤ s.tpl t 16 4 * 2))) ||
  (List.range 8).any (fun c => s.flag F.SO_Cc_CTL_EN c && decide (s.fd F.SO_Cc_RATE_SRC c = 0) &&
    decide (len ≤ bits (s.fd F.SO_Cc_RATE_PER_OFS c) 9 0 * 250))

/-- A write of TIM_CYCLE, checked under R31, then R33, then R34. -/
def writeTimCycle (q : Requester) (v : Word) (s : State) : State :=
  let b := F.TIM_CYCLE_BASE.of v.toNat
  let change := decide (b ≠ s.fd F.TIM_CYCLE_BASE)
  if change ∧ s.anyPort then s.refuse q .TIM_CYCLE 0 0 0x02
  else if ¬ cutoffFits b (F.TIM_CYCLE_CUTOFF.of v.toNat) then s.refuse q .TIM_CYCLE 0 0 0x03
  else if change ∧ s.offsetBeyond (baseNs b) then s.refuse q .TIM_CYCLE 0 0 0x04
  else s.plainWrite .TIM_CYCLE 0 0 v.toNat

/-- TIM_CYCLE_WRITE: a write of TIM_CYCLE by a requester. -/
def execTimCycleWrite (q : Requester) (v : Word) (s : State) : Host.Outcome State Fault Refusal :=
  s.write q .TIM_CYCLE 0 0 (writeTimCycle q v)

/-! ## Placement (R48, R49) -/

/-- The checks of a commit: the code and REF_AG of the first failure (R48, R552). Log 21 (DESIGN CHOICE, unsafe). -/
def State.placeFail (s : State) : Option (Nat × Nat) :=
  let sh (g : Nat) : Nat := s.fd F.SV_PLACE_SHn_SLICE g
  let lowest (p : Nat → Bool) (code : Nat) : Option (Nat × Nat) := ((List.range 16).find? p).map (fun g => (code, g))
  if s.flag F.SV_PLACE_CMD_PENDING ∨ s.fd F.SV_MIG_STAT_STATE ≠ 0 then some (0x01, 0)
  else (lowest (fun g => decide (17 < sh g)) 0x03).or <|
    (lowest (fun g => (List.range g).any (fun h => decide (sh h = sh g)) ||
      !coreMapOk (s.fd F.SV_PLACE_SHn_CORE_MAP g)) 0x04).or <|
    (lowest (fun g => bit s.sv.retired (sh g)) 0x78).or <|
    (lowest (fun g => !s.domOn (sh g)) 0x07).or <|
    lowest (fun g => s.agEnabled g && decide (s.rg .SV_PLACE_SHn g ≠ s.rg .SV_PLACEn g)) 0x02

/-- A write of SV_PLACE_CMD with COMMIT = 1; the accepted table is stored in MRAM (R48, R593).
Log 21 (DESIGN CHOICE, unsafe). -/
def writePlaceCmd (q : Requester) (v : Word) (s : State) : State :=
  if F.SV_PLACE_CMD_COMMIT.of v.toNat = 0 then s
  else match s.placeFail with
  | some (c, g) => (s.refuse q .SV_PLACE_CMD 0 0 c).setFd F.SV_PLACE_CMD_REF_AG 0 0 g
  | none =>
    let s := s.setFd F.SV_PLACE_CMD_PENDING 0 0 1
    { s with sv := { s.sv with placeStored := some ((List.range 16).map (fun g => s.rg .SV_PLACE_SHn g)) } }

/-- PLACE_COMMIT: a write of SV_PLACE_CMD by a requester. -/
def execPlaceCommit (q : Requester) (v : Word) (s : State) : Host.Outcome State Fault Refusal :=
  s.write q .SV_PLACE_CMD 0 0 (writePlaceCmd q v)

end Sys2Proof.Machine
end

