-- ==== Sys2Proof/Machine/Ethernet.lean ====
section
/-!
DEFINITION. The plant Ethernet ports HE0 and HE1: transmit queues with timed launch (R76 to R80), receive rings, stamps
(R585 to R588) and the port enable.
-/

namespace Sys2Proof.Machine

/-! ## The line -/

/-- Ticks of the module's own time base that `n` bytes take at the port's speed: 0.8 ns or 8 ns a byte. -/
def State.heTicks (s : State) (p n : Nat) : Nat :=
  if s.fd F.HS_HEn_CTL_SPEED p = 0 then (n * 2 + 4) / 5 else n * 4

/-- Bytes on the wire of a frame of `n` bytes, from its preamble to the end of the gap after it: 8 of preamble, 4 of FCS
and 12 of gap. Log 85 (PRESUMED, unsafe). -/
def heWire (n : Nat) : Nat := n + 24

/-- The tick from which the port may start a frame. -/
def State.heFree (s : State) (p : Nat) : Nat :=
  match (s.hs.sent.filter (fun f => f.port = p)).getLast? with
  | some f => f.ends
  | none => 0

/-- TIME ticks until PT reaches an instant in ns, with a pending load or adjustment at the first of them. -/
def State.ticksToPt (s : State) (ns : Nat) : Nat := s.ticksToPtRaw (ns * 2 ^ 32)

/-- A frame is a PTP event message: EtherType 0x88F7 with a message type below 4, or UDP port 319 (R72, R73).
Log 85 (PRESUMED, unsafe). -/
def ptpEvent (b : List Byte) : Bool :=
  let et := fieldAt b 13 1 + 256 * fieldAt b 12 1
  let udp (ip : Nat) : Bool := decide (fieldAt b (ip + 3) 1 + 256 * fieldAt b (ip + 2) 1 = 319)
  (decide (et = 0x88F7) && decide (fieldAt b 14 1 % 16 < 4)) ||
    (decide (et = 0x0800) && decide (fieldAt b 23 1 = 17) && udp (14 + 4 * (fieldAt b 14 1 % 16))) ||
    (decide (et = 0x86DD) && decide (fieldAt b 20 1 = 17) && udp 54)

/-- A frame goes to ring 0: EtherType 0x88F7, or UDP over IPv4 or IPv6 to port 319 or 320 (R587).
Log 85 (PRESUMED, unsafe). -/
def ptpFrame (b : List Byte) : Bool :=
  let et := fieldAt b 13 1 + 256 * fieldAt b 12 1
  let udp (ip : Nat) : Bool :=
    let d := fieldAt b (ip + 3) 1 + 256 * fieldAt b (ip + 2) 1
    decide (d = 319 ∨ d = 320)
  decide (et = 0x88F7) || (decide (et = 0x0800) && decide (fieldAt b 23 1 = 17) && udp (14 + 4 * (fieldAt b 14 1 % 16))) ||
    (decide (et = 0x86DD) && decide (fieldAt b 20 1 = 17) && udp 54)

/-! ## Rings (R586 to R588) -/

/-- Descriptors of receive ring `r`, and the spine SRAM offset of the one the port finishes next. -/
def State.rxSize (s : State) (p r : Nat) : Nat := 2 ^ s.fd F.HS_HEn_RXr_CTL_LOG2SIZE p r
def State.rxDesc (s : State) (p r : Nat) : Nat :=
  s.fd F.HS_HEn_RXr_BASE_BASE p r + 32 * (s.fd F.HS_HEn_RXr_IDX_TAIL p r % s.rxSize p r)

/-- A transmit queue has a descriptor for its port: enabled, not empty, OWN set. -/
def State.txReady (s : State) (p q : Nat) : Bool :=
  s.domOn 24 && s.flag F.HS_HEn_CTL_EN p && s.flag F.HS_HEn_TXq_CTL_EN p q &&
    decide (s.fd F.HS_HEn_TXq_IDX_HEAD p q ≠ s.fd F.HS_HEn_TXq_IDX_TAIL p q) && bit (s.sramN (s.txDesc p q + 6) 1) 0

/-- A transmit descriptor is finished: STATUS, STAMP where the frame was sent, OWN cleared, TAIL, and then the vector
source (R588). Log 85 (PRESUMED, unsafe). -/
def State.txDone (s : State) (p q status : Nat) (stamp : Option Nat) : State :=
  let d := s.txDesc p q
  let s := s.setSram (d + 7) 1 status
  let s := match stamp with
    | some t => s.setSram (d + 16) 8 t
    | none => s
  let s := s.setSram (d + 6) 1 (setBits (s.sramN (d + 6) 1) 0 0 0)
  let s := s.setFd F.HS_HEn_TXq_IDX_TAIL p q ((s.fd F.HS_HEn_TXq_IDX_TAIL p q + 1) % s.txSize p q)
  let s : State := { s with hs := { s.hs with waiting := s.hs.waiting.filter (· ≠ 8 * p + q),
                                              late := s.hs.late.filter (· ≠ 8 * p + q) } }
  s.vectorEvent (2 + 2 * p) 0

/-- The port sends the head frame of a queue now: padded to 60 bytes, stamped with PT at the stamp point after TX_EXT is
subtracted (R72, R585). Log 98 (DESIGN CHOICE, unsafe). -/
def State.txSend (s : State) (p q status : Nat) : State :=
  let d := s.txDesc p q
  let b := s.sramBytes (s.sramN d 4) (min 1514 (s.sramN (d + 4) 2))
  let b := b ++ List.replicate (60 - b.length) 0#8
  let s := if ptpEvent b then s.captureAll (0x28 + p) true else s
  let pre := if s.fd F.HS_HEn_CTL_SPEED p = 0 then 6 else 64
  let stamp := s.ptNs + pre - s.fd F.HS_HEn_LAT_TX_EXT p / 256
  let f : HeFrame := { port := p, queue := q, bytes := b, stamp := stamp,
                       ends := s.time.ticks + s.heTicks p (heWire b.length) }
  ({ s with hs := { s.hs with sent := s.hs.sent ++ [f] } }).txDone p q status (some stamp)

/-- A head frame whose launch time has passed goes by its queue's late policy: sent once the line is free, or discarded;
both with status 0x09 and a count (R78). -/
def State.txLate (s : State) (p q : Nat) : State :=
  let s := s.incFd F.HS_HEn_TXq_CNT_LATE_CNT p q
  if s.flag F.HS_HEn_TXq_CTL_LATE p q then (s.advanceToTick (s.heFree p)).txSend p q 0x09 else s.txDone p q 0x09 none

/-- An untimed frame of the queue may start now: the line is free, no untimed head of a higher queue waits (R588), and it
finishes before every pending launch time (R77). Log 86 (DEDUCED, unsafe). -/
def State.untimedFits (s : State) (p q : Nat) : Bool :=
  let len := max 60 (min 1514 (s.sramN (s.txDesc p q + 4) 2))
  let done := s.ptNs + 2 * s.heTicks p (heWire len)
  decide (s.heFree p ≤ s.time.ticks) &&
    (List.range 8).all (fun k =>
      (!decide (q < k) || !s.txReady p k || bit (s.sramN (s.txDesc p k + 6) 1) 1) &&
      (!s.hs.waiting.contains (8 * p + k) || decide (done ≤ s.txLaunch p k)))

/-- HE_TX_HEAD: a transmit descriptor reaches the head of its queue. An untimed frame leaves as soon as the line and R77
let it; a launch time already passed goes by the queue's late policy, one more than 2 s away is discarded, and another
waits (R77 to R80). Log 86 (DEDUCED, unsafe). -/
def execHeTxHead (p q : Nat) (s : State) : Host.Outcome State Fault Refusal :=
  if ¬ s.txReady p q ∨ 2 ≤ p ∨ 8 ≤ q ∨ s.hs.waiting.contains (8 * p + q) then .next s
  else
    let l := s.txLaunch p q
    if ¬ bit (s.sramN (s.txDesc p q + 6) 1) 1 then
      let s := s.advanceToTick (s.heFree p)
      if s.untimedFits p q then .next (s.txSend p q 0) else .next s
    else if l < s.ptNs then .next (s.txLate p q)
    else if s.ptNs + 2000000000 < l then .next (s.txDone p q 0x03 none)
    else .next { s with hs := { s.hs with waiting := s.hs.waiting ++ [8 * p + q] } }

/-- The TIME tick, counted from the present one, at which PT reaches the launch time of the queue's head; negative for one
that has passed (R76, R80). -/
def State.txDue (s : State) (p q : Nat) : Int :=
  -(((s.time.pt : Int) - (s.txLaunch p q * 2 ^ 32 : Nat)) / (s.ptIncReg : Int))

/-- Another waiting frame of the port goes before the one of queue `q`: due at an earlier tick, or at the same tick with a
higher queue number (R80). Log 86 (DEDUCED, unsafe). -/
def State.txBehind (s : State) (p q : Nat) : Bool :=
  (List.range 8).any (fun k => decide (k ≠ q) && s.hs.waiting.contains (8 * p + k) &&
    (decide (s.txDue p k < s.txDue p q) || (decide (s.txDue p k = s.txDue p q) && decide (q < k))))

/-- A pending load or adjustment of PT has applied (R68, R69). -/
def State.ptJumped (s : State) : State := if s.time.ptLoad.isSome ∨ s.time.ptAdj ≠ 0 then s.advance 1 else s

/-- HE_TX_LAUNCH: a waiting frame starts at its launch time in PT, or back to back with the frame before it; one that
starts more than 16 ns late counts as a slip (R76, R80). One whose launch time a load or adjustment of PT has put in the
past is late, and one it has put more than 2 s away is discarded (R78 to R80). Log 86 (DEDUCED, unsafe). -/
def execHeTxLaunch (p q : Nat) (s : State) : Host.Outcome State Fault Refusal :=
  if ¬ s.txReady p q ∨ ¬ s.hs.waiting.contains (8 * p + q) then .next s
  else if (s.ptJumped).ptNs + 2000000000 < s.txLaunch p q then .next (s.ptJumped.txDone p q 0x03 none)
  else if s.txBehind p q then .next s
  else
    let l := s.txLaunch p q
    let s := s.advance (s.ticksToPt l)
    if s.hs.late.contains (8 * p + q) then .next (s.txLate p q)
    else
      let s := s.advanceToTick (s.heFree p)
      let s := if l + 16 < s.ptNs then s.incFd F.HS_HEn_TXq_CNT_SLIP_CNT p q else s
      .next (s.txSend p q 0)

/-! ## Receiving (R587) -/

/-- The MAC address of a port, first octet lowest. -/
def State.heMac (s : State) (p : Nat) : Nat := s.rg64 .HS_HEn_MAC_LO .HS_HEn_MAC_HI p % 2 ^ 48

/-- A frame's destination is the port's own, broadcast, or a PTP multicast address. Log 85 (PRESUMED, unsafe). -/
def State.heAddressed (s : State) (p : Nat) (b : List Byte) : Bool :=
  let d := fieldAt b 0 6
  decide (d = s.heMac p) || decide (d = 2 ^ 48 - 1) || decide (d = 0x000000191B01) || decide (d = 0x0E0000C28001)

/-- A receive descriptor is finished (R587, R588). Log 86 (DEDUCED, unsafe). -/
def State.rxDone (s : State) (p r status len stamp : Nat) : State :=
  let d := s.rxDesc p r
  let s := s.setSram (d + 7) 1 status
  let s := (s.setSram (d + 8) 2 len).setSram (d + 16) 8 stamp
  let s := s.setSram (d + 6) 1 (setBits (s.sramN (d + 6) 1) 0 0 0)
  let s := s.setFd F.HS_HEn_RXr_IDX_TAIL p r ((s.fd F.HS_HEn_RXr_IDX_TAIL p r + 1) % s.rxSize p r)
  s.vectorEvent (3 + 2 * p) 0

/-- HE_RX_FRAME: after `dt` ticks the stamp point of a frame passes port `p`; the frame, from its destination address on
and without FCS, goes to ring 0 or 1, or is discarded and counted (R585, R587). Log 86 (DEDUCED, unsafe). -/
def execHeRxFrame (p : Nat) (b : List Byte) (fcsOk : Bool) (dt : Nat) (s : State) : Host.Outcome State Fault Refusal :=
  let s := s.advance dt
  if 2 ≤ p ∨ ¬ s.domOn 24 ∨ ¬ s.flag F.HS_HEn_CTL_EN p then .next s
  else
    let stamp := s.ptNs - s.fd F.HS_HEn_LAT_RX_EXT p / 256
    let s := if fcsOk ∧ ptpEvent b then s.captureAll (0x28 + p) true else s
    let s := s.advance (s.heTicks p (b.length + 4))
    let r := if ptpFrame b then 0 else 1
    if ¬ fcsOk then .next (s.incFd F.HS_HEn_CNT_FCS_ERR p 0)
    else if r = 1 ∧ ¬ s.heAddressed p b then .next s
    else
      let d := s.rxDesc p r
      let own := s.flag F.HS_HEn_RXr_CTL_EN p r &&
        decide (s.fd F.HS_HEn_RXr_IDX_HEAD p r ≠ s.fd F.HS_HEn_RXr_IDX_TAIL p r) && bit (s.sramN (d + 6) 1) 0
      if ¬ own then .next ((s.incFd F.HS_HEn_RXr_CNT_RX_OVR p r).incFd F.HS_HEn_CNT_RX_OVR p 0)
      else if s.sramN (d + 4) 2 < b.length then
        .next ((s.incFd F.HS_HEn_RXr_CNT_DISCARD p r).rxDone p r 0x03 b.length stamp)
      else .next ((s.sramWrite (s.sramN d 4) b).rxDone p r 0 b.length stamp)

/-! ## Registers -/

/-- A ring has a valid base and size: LOG2SIZE 4 to 12, its descriptors in spine SRAM (R586). -/
def ringOk (base log : Nat) : Bool := decide (4 ≤ log ∧ log ≤ 12 ∧ base % 32 = 0 ∧ base + 32 * 2 ^ log ≤ 0x1000000)

/-- Every enabled ring of the port has a valid base and size. -/
def State.heRingsOk (s : State) (p : Nat) : Bool :=
  (List.range 8).all (fun q => !s.flag F.HS_HEn_TXq_CTL_EN p q ||
    ringOk (s.fd F.HS_HEn_TXq_BASE_BASE p q) (s.fd F.HS_HEn_TXq_CTL_LOG2SIZE p q)) &&
  (List.range 2).all (fun r => !s.flag F.HS_HEn_RXr_CTL_EN p r ||
    ringOk (s.fd F.HS_HEn_RXr_BASE_BASE p r) (s.fd F.HS_HEn_RXr_CTL_LOG2SIZE p r))

/-- A write of HS_HEn_CTL: a change of SPEED while EN is 1 is refused with STATE; an enable with RANGE unless the rings
are valid, which leaves EN 0 (R12). -/
def writeHeCtl (q : Requester) (p : Nat) (v : Word) (s : State) : State :=
  let was := s.flag F.HS_HEn_CTL_EN p
  let on := decide (F.HS_HEn_CTL_EN.of v.toNat = 1)
  if was ∧ ¬ s.keeps F.HS_HEn_CTL_SPEED p 0 v.toNat then s.refuse q .HS_HEn_CTL p 0 0x02
  else
    let s := s.plainWrite .HS_HEn_CTL p 0 (setBits v.toNat 0 0 (b2n was))
    if on && !was && !s.heRingsOk p then s.refuse q .HS_HEn_CTL p 0 0x03
    else
      let s := s.setFd F.HS_HEn_CTL_EN p 0 (b2n on)
      if on then s else { s with hs := { s.hs with waiting := s.hs.waiting.filter (fun k => k / 8 ≠ p),
                                                   late := s.hs.late.filter (fun k => k / 8 ≠ p) } }

/-- A write of HS_HEn_MAC_HI applies both halves (R10). -/
def writeHeMac (q : Requester) (p : Nat) (v : Word) (s : State) : State :=
  let (lo, s) := s.takeLo q .HS_HEn_MAC_LO p
  s.setRg64 .HS_HEn_MAC_LO .HS_HEn_MAC_HI p (v.toNat % 2 ^ 16 * 2 ^ 32 + lo)

/-- A write of a ring's BASE: a multiple of 32 bytes, else RANGE. -/
def writeHeBase (q : Requester) (r : Reg) (p k : Nat) (v : Word) (s : State) : State :=
  if v.toNat % 2 ^ 24 % 32 ≠ 0 then s.refuse q r p k 0x03 else s.plainWrite r p k v.toNat

end Sys2Proof.Machine
end

