-- ==== Sys2Proof/Machine/HostPort.lean ====
section
/-!
DEFINITION. The host mailbox, doorbells and vectors (R583, R584, R618), BAR2 (R581), image commands (R596, R597) and the
lifecycle (R598 to R603).
-/

namespace Sys2Proof.Machine

/-- The debug port's IEEE 1149.1 IDCODE: version, part, manufacturer field, and the bit that is always 1 (R637). -/
def debugIdcode : Word := 0x0#4 ++ 0x0256#16 ++ 0x4CC#11 ++ 1#1

/-- What the debug port shifts out for the instruction IDCODE: it reads so in every state of the life cycle, while the port
is there (R637). -/
def State.readIdcode (s : State) : Option Word := if s.portUp .debug then some debugIdcode else none

/-! ## Mailbox, doorbell, vectors -/

/-- A write of HS_MBX_DATA deposits a token and records Levain's outcome (R583). While the PCIe link is down the host
cannot write, and a write by another requester deposits nothing. Log 87 (DEDUCED, unsafe). -/
def writeMbxData (q : Requester) (v : Word) (s : State) : State :=
  let tok := s.fd F.HS_MBX_TOK_TOKEN
  if !s.hs.link && decide (q ≠ .host) then s
  else if tok = 0xFFFF then s.setFd F.HS_MBX_TOK_RESULT 0 0 0x03
  else
    let (s, code) := s.deposit .mailbox tok s.bcTag v
    s.setFd F.HS_MBX_TOK_RESULT 0 0 code

/-- MAILBOX_DEPOSIT: a write of HS_MBX_DATA by a requester. Log 87 (DEDUCED, unsafe). -/
def execMailboxDeposit (q : Requester) (v : Word) (s : State) : Host.Outcome State Fault Refusal :=
  s.write q .HS_MBX_DATA 0 0 (writeMbxData q v)

/-- A write of HS_DB sets the pending bit of a vector (R584). -/
def writeDoorbell (v : Word) (s : State) : State := s.pendVector (F.HS_DB_VECTOR.of v.toNat)

/-- A write of HS_VPEND_LO or _HI clears pending bits. One that an event of the same tick has found set stays set and
sends its message again (R7, R584). Log 115 (DEDUCED, unsafe). -/
def writeVpend (r : Reg) (v : Word) (s : State) : State :=
  let n := (List.range 32).filter (fun b => bit v.toNat b && s.time.raised.contains (r.addr 0 0, 32 + b))
  let s := s.clearWrite r 0 0 v.toNat 0xFFFFFFFF
  { s with hs := { s.hs with msix := s.hs.msix ++ n.map (fun b => if r = .HS_VPEND_LO then b else 32 + b) } }

/-- DOORBELL: a write of HS_DB by a requester. -/
def execDoorbell (q : Requester) (v : Word) (s : State) : Host.Outcome State Fault Refusal :=
  s.write q .HS_DB 0 0 (writeDoorbell v)

/-- A write of HS_VECv_CTL: a SRC above 0x09 is refused with RANGE (R584). Log 87 (DEDUCED, unsafe). -/
def writeVec (q : Requester) (k : Nat) (v : Word) (s : State) : State :=
  if 9 < F.HS_VECv_CTL_SRC.of v.toNat then s.refuse q .HS_VECv_CTL k 0 0x03 else s.plainWrite .HS_VECv_CTL k 0 v.toNat

/-- The registers a Function Level Reset returns to their reset values: HS_VECv_CTL, HS_VPEND and HS_VCNTv.
Log 87 (DEDUCED, unsafe). -/
def flrReg (off : Nat) : Bool := decide (0x2000000 ≤ off ∧ off < 0x2000108) || decide (0x2000200 ≤ off ∧ off < 0x2000300)

/-- FUNCTION_LEVEL_RESET: the endpoint, its MSI-X state and the HS vector registers are reset; no other block is touched
(R618). -/
def execFunctionLevelReset (s : State) : Host.Outcome State Fault Refusal :=
  if s.portUp .host then
    let s := s.resetRegs flrReg
    .next { s with hs := { s.hs with msix := [] } }
  else .next s

/-! ## BAR2 (R581) -/

/-- BAR2_ACCESS: a host read of `len` bytes, or a write of the given bytes, at a spine SRAM offset. One longer than 256
bytes, or that crosses a 4 KB boundary, is no access of this BAR. Log 87 (DEDUCED, unsafe). -/
def execBar2Access (write : Bool) (off len : Nat) (data : List Byte) (s : State) : Host.Outcome State Fault Refusal :=
  let n := if write then data.length else len
  if ¬ s.portUp .host ∨ n = 0 ∨ 256 < n ∨ 0x1000000 < off + n ∨ off / 4096 ≠ (off + n - 1) / 4096 then .next s
  else if write then .next (s.sramWrite off data)
  else .next { s with hs := { s.hs with readData := s.sramBytes off n } }

/-! ## Image commands (R596, R597) -/

/-- HS_BOOT_STAT.STATE changes: vector source 0x06 (R584). -/
def State.setBoot (s : State) (st : Nat) : State :=
  if s.fd F.HS_BOOT_STAT_STATE = st then s else (s.setFd F.HS_BOOT_STAT_STATE 0 0 st).vectorEvent 6 0

/-- A write of HS_IMG_SRC, HS_IMG_DST or HS_IMG_LEN: a multiple of 64, else RANGE. -/
def writeImgParam (q : Requester) (r : Reg) (v : Word) (s : State) : State :=
  if v.toNat % 64 ≠ 0 then s.refuse q r 0 0 0x03 else s.setRg r 0 0 v.toNat

/-- The checks of a WRITE command (R596). Log 89 (DEDUCED, unsafe). -/
def State.imgWriteFail (s : State) (b : Nat) : Option Nat :=
  let len := s.rg .HS_IMG_LEN
  if s.fd F.HS_BOOT_STAT_STATE = 3 ∧ b = s.sv.imgActive then some 0x02
  else if s.fd F.SV_IMG_STAT_STATE = 1 ∧ b = 1 - s.sv.imgActive then some 0x01
  else if 0x1000000 < s.rg .HS_IMG_SRC + len ∨ 0x2000000 < s.rg .HS_IMG_DST + len then some 0x03
  else none

/-- A WRITE or VERIFY command starts; it completes by IMG_COMMAND_COMPLETE. A WRITE makes its bank invalid (R596). -/
def State.imgStart (s : State) (op b : Nat) : State :=
  let s : State := if op = 1 then { s with sv := { s.sv with imgValid := setBits s.sv.imgValid b b 0 } } else s
  ({ s with hs := { s.hs with img := some (op, b) } }).setFd F.HS_IMG_STAT_STATE 0 0 op

/-- Acceptance of OP 0x1 and 0x2 of HS_IMG_CMD on bank `b`. Log 89 (DEDUCED, unsafe). -/
def State.imgOp (s : State) (q : Requester) (op b : Nat) : State :=
  if s.hs.img.isSome then s.refuse q .HS_IMG_CMD 0 0 0x01
  else match if op = 1 then s.imgWriteFail b else none with
    | some c => s.refuse q .HS_IMG_CMD 0 0 c
    | none => (s.setFd F.HS_IMG_CMD_BANK 0 0 b).imgStart op b

/-- A WRITE has copied its bytes from the spine SRAM into bank `b` (R596). Log 89 (DEDUCED, unsafe). -/
def State.imgCopy (s : State) (b : Nat) : State :=
  { s with mem := { s.mem with img := Mem.copy s.mem.sram (s.rg .HS_IMG_SRC) (s.rg .HS_IMG_LEN) s.mem.img
                                        (b * 0x2000000 + s.rg .HS_IMG_DST) } }

/-- IMG_COMMAND_COMPLETE: the WRITE has copied its bytes, or the VERIFY has run the checks of step 3 of R593 (R596,
R597). Log 89 (DEDUCED, unsafe). -/
def execImgCommandComplete (s : State) : Host.Outcome State Fault Refusal :=
  match s.hs.img with
  | none => .next s
  | some (op, b) =>
    let s := ({ s with hs := { s.hs with img := none } }).setFd F.HS_IMG_STAT_STATE 0 0 0
    let s : State :=
      if op = 1 then s.imgCopy b
      else if s.imgPasses b then
        ({ s with sv := { s.sv with imgValid := setBits s.sv.imgValid b b 1 } }).setFd F.HS_IMG_STAT_CODE 0 0 0
      else s.setFd F.HS_IMG_STAT_CODE 0 0 0x7A
    .next (s.vectorEvent 9 0)

/-! ## The lifecycle (R598 to R603) -/

/-- The bytes of LC_DATA0 to LC_DATA`n − 1`. Log 91 (DESIGN CHOICE, unsafe). -/
def State.lcBytes (s : State) (n : Nat) : List Byte := (List.range n).flatMap (fun k => leBytes 4 (s.rg .LC_DATAk k))

/-- ACCESS changes: vector source 0x08 (R584). -/
def State.accessEvent (s : State) (was : Nat) : State := if was = s.accessLevel then s else s.vectorEvent 8 0

/-- SET_OWNER: in MANUFACTURE, stores the owner key and moves to OWNER-OPEN (R598). -/
def State.lcSetOwner (s : State) (q : Requester) : State :=
  if s.lc.state ≠ 0 then s.refuse q .LC_CMD 0 0 0x02
  else { s with lc := { s.lc with state := 1, owner := s.lcBytes 16 } }

/-- The module becomes FIELD-LOCKED; no access beyond OBSERVE stands (R598). -/
def State.lockState (s : State) : State := { s with lc := { s.lc with state := 2, granted := 0 } }

/-- LOCK: in OWNER-OPEN with a stored password, moves to FIELD-LOCKED (R598): FULL access ends, and cores held HALTED
resume (R603). Log 90 (DEDUCED, unsafe). -/
def State.lcLock (s : State) (q : Requester) : State :=
  if s.lc.state ≠ 1 ∨ s.lc.pw = none then s.refuse q .LC_CMD 0 0 0x02
  else s.lockState.resumeAll.vectorEvent 8 0

/-- The instant a challenge was issued; none when it no longer serves. -/
def State.setChal (s : State) (c : Option Nat) : State := { s with lc := { s.lc with chal := c } }

/-- The instant from which VERIFY and PASSWORD are suspended; none when they are not. Log 90 (DEDUCED, unsafe). -/
def State.setAuthWait (s : State) (t : Option Nat) : State := { s with lc := { s.lc with waitFrom := t } }

/-- CHALLENGE: 32 fresh random bytes, which the spec leaves open (R600). Log 91 (DESIGN CHOICE, unsafe). -/
def State.lcChallenge (s : State) : State :=
  (s.forEach (List.range 8) (fun k s => s.free.2.setRg .LC_CHALk k 0 (s.free.1 % 2 ^ 32))).setChal (some s.time.ticks)

/-- VERIFY and PASSWORD are suspended: less than 15 min since the fourth consecutive failure (R602).
Log 90 (DEDUCED, unsafe). -/
def State.authWaiting (s : State) : Bool :=
  match s.lc.waitFrom with
  | some t => decide (s.time.ticks < t + secTicks 900)
  | none => false

/-- A failed VERIFY or PASSWORD (R602). Log 90 (DEDUCED, unsafe). -/
def State.authFail (s : State) (q : Requester) : State :=
  let s := (s.refuse q .LC_CMD 0 0 0x7C).incFd F.LC_STATE_FAIL_CNT 0 0
  if 4 ≤ s.fd F.LC_STATE_FAIL_CNT then s.setAuthWait (some s.time.ticks) else s

/-- In FIELD-LOCKED, authentication grants a level; the 8 h run from the first (R600, R601, R603). -/
def State.grant (s : State) (level : Nat) : State :=
  if s.lc.state = 2 then
    { s with lc := { s.lc with granted := max s.lc.granted level,
                               authAt := if s.lc.granted = 0 then s.time.ticks else s.lc.authAt } }
  else s

/-- A successful VERIFY (2) or PASSWORD (1) opens access in FIELD-LOCKED and clears FAIL_CNT; a second one does not
extend the 8 h (R600 to R603). Log 90 (DEDUCED, unsafe). -/
def State.authPass (s : State) (level : Nat) : State :=
  (((s.setFd F.LC_STATE_FAIL_CNT 0 0 0).grant level).setAuthWait none).accessEvent s.accessLevel

/-- The challenge in force still serves a VERIFY: issued at most 60 s ago (R600). -/
def State.chalValid (s : State) : Bool :=
  match s.lc.chal with
  | some t => decide (s.time.ticks ≤ t + secTicks 60)
  | none => false

/-- VERIFY (R600, R602). Log 90 (DEDUCED, unsafe). -/
def State.lcVerify (s : State) (q : Requester) : State :=
  if s.authWaiting then s.refuse q .LC_CMD 0 0 0x7D
  else if ¬ s.chalValid then s.refuse q .LC_CMD 0 0 0x7F
  else
    let chal := (List.range 8).flatMap (fun k => leBytes 4 (s.rg .LC_CHALk k))
    if signed s.lc.owner (s.lcBytes 16) chal then (s.setChal none).authPass 2 else (s.setChal none).authFail q

/-- Characters from 0x21 to 0x7E (R601). -/
def pwChars (b : List Byte) : Bool := b.all (fun c => decide (0x21 ≤ c.toNat ∧ c.toNat ≤ 0x7E))

/-- PASSWORD compares LC_DATA0–3 with the stored password (R601). The model holds the password itself.
Log 91 (DESIGN CHOICE, unsafe). -/
def State.lcPassword (s : State) (q : Requester) : State :=
  if s.authWaiting then s.refuse q .LC_CMD 0 0 0x7D
  else if pwChars (s.lcBytes 4) ∧ s.lc.pw = some (s.lcBytes 4) then s.authPass 1
  else s.authFail q

/-- SET_PW stores the password, with FULL access (R598, R601). Log 90 (DEDUCED, unsafe). -/
def State.lcSetPw (s : State) (q : Requester) : State :=
  if s.accessLevel ≠ 2 then s.refuse q .LC_CMD 0 0 0x06
  else if ¬ pwChars (s.lcBytes 4) then s.refuse q .LC_CMD 0 0 0x03
  else { s with lc := { s.lc with pw := some (s.lcBytes 4) } }

/-- A write of LC_CMD. -/
def writeLcCmd (q : Requester) (v : Word) (s : State) : State :=
  match F.LC_CMD_OP.of v.toNat with
  | 1 => s.lcSetOwner q
  | 2 => s.lcLock q
  | 3 => s.lcChallenge
  | 4 => s.lcVerify q
  | 5 => s.lcPassword q
  | 6 => s.endAccess (some 1)
  | 7 => s.lcSetPw q
  | _ => s.refuse q .LC_CMD 0 0 0x03

/-- SET_OWNER, LOCK, CHALLENGE, VERIFY, PASSWORD, RELOCK and SET_PW: writes of LC_CMD with their OP. -/
def execSetOwner (q : Requester) (s : State) : Host.Outcome State Fault Refusal := s.write q .LC_CMD 0 0 (writeLcCmd q 1)
def execLock (q : Requester) (s : State) : Host.Outcome State Fault Refusal := s.write q .LC_CMD 0 0 (writeLcCmd q 2)
def execChallenge (q : Requester) (s : State) : Host.Outcome State Fault Refusal := s.write q .LC_CMD 0 0 (writeLcCmd q 3)
def execLcVerify (q : Requester) (s : State) : Host.Outcome State Fault Refusal := s.write q .LC_CMD 0 0 (writeLcCmd q 4)
def execPassword (q : Requester) (s : State) : Host.Outcome State Fault Refusal := s.write q .LC_CMD 0 0 (writeLcCmd q 5)
def execRelock (q : Requester) (s : State) : Host.Outcome State Fault Refusal := s.write q .LC_CMD 0 0 (writeLcCmd q 6)
def execSetPw (q : Requester) (s : State) : Host.Outcome State Fault Refusal := s.write q .LC_CMD 0 0 (writeLcCmd q 7)

/-- ACCESS_EXPIRY: 8 h have passed since the authentication that granted access (R603). -/
def execAccessExpiry (s : State) : Host.Outcome State Fault Refusal :=
  if s.lc.granted = 0 then .next s
  else .next ((s.advanceToTick (s.lc.authAt + secTicks 28800)).endAccess (some 2))

/-- AUTH_WAIT_END: 15 min have passed since the fourth failure (R602). -/
def execAuthWaitEnd (s : State) : Host.Outcome State Fault Refusal :=
  match s.lc.waitFrom with
  | none => .next s
  | some t =>
    .next ((s.advanceToTick (t + secTicks 900)).setAuthWait none)

end Sys2Proof.Machine
end

