-- ==== Sys2Proof/Machine/LevainCmd.lean ====
section
/-!
DEFINITION. The commands that write Levain's tables and command registers (chapter 06).
-/

namespace Sys2Proof.Machine

/-- TEMPLATE_WRITE: a write of word `w` of template `t` by a requester (R225, R226). -/
def execTemplateWrite (q : Requester) (t w : Nat) (v : Word) (s : State) : Host.Outcome State Fault Refusal :=
  s.write q .LV_TPLt_Ww t w (writeTemplate q t w v)

/-- TEMPLATE_ENABLE: a write of LV_TPL_CMD with OP 1 for template `t` (R227). -/
def execTemplateEnable (q : Requester) (t : Nat) (s : State) : Host.Outcome State Fault Refusal :=
  s.write q .LV_TPL_CMD 0 0 (writeTplCmd q (BitVec.ofNat 32 (setBits (setBits 0 F.LV_TPL_CMD_TEMPLATE.hi
    F.LV_TPL_CMD_TEMPLATE.lo t) F.LV_TPL_CMD_OP.hi F.LV_TPL_CMD_OP.lo 1)))

/-- TEMPLATE_DISABLE: a write of LV_TPL_CMD with OP 2 (R228). -/
def execTemplateDisable (q : Requester) (t : Nat) (s : State) : Host.Outcome State Fault Refusal :=
  s.write q .LV_TPL_CMD 0 0 (writeTplCmd q (BitVec.ofNat 32 (setBits (setBits 0 F.LV_TPL_CMD_TEMPLATE.hi
    F.LV_TPL_CMD_TEMPLATE.lo t) F.LV_TPL_CMD_OP.hi F.LV_TPL_CMD_OP.lo 2)))

/-- TEMPLATE_PURGE: a write of LV_TPL_CMD with OP 3 (R228). -/
def execTemplatePurge (q : Requester) (t : Nat) (s : State) : Host.Outcome State Fault Refusal :=
  s.write q .LV_TPL_CMD 0 0 (writeTplCmd q (BitVec.ofNat 32 (setBits (setBits 0 F.LV_TPL_CMD_TEMPLATE.hi
    F.LV_TPL_CMD_TEMPLATE.lo t) F.LV_TPL_CMD_OP.hi F.LV_TPL_CMD_OP.lo 3)))

/-- FLOW_WRITE: a write of word `w` of flow `f` by a requester (R234, R235). -/
def execFlowWrite (q : Requester) (f w : Nat) (v : Word) (s : State) : Host.Outcome State Fault Refusal :=
  s.write q .LV_FLOWf_Ww f w (writeFlow q f w v)

/-- FLOW_RELEASE: a write of LV_FLOW_CMD with OP 1 for flow `f` (R236). -/
def execFlowRelease (q : Requester) (f : Nat) (s : State) : Host.Outcome State Fault Refusal :=
  s.write q .LV_FLOW_CMD 0 0 (writeFlowCmd q (BitVec.ofNat 32 (setBits (setBits 0 F.LV_FLOW_CMD_FLOW.hi
    F.LV_FLOW_CMD_FLOW.lo f) F.LV_FLOW_CMD_OP.hi F.LV_FLOW_CMD_OP.lo 1)))

/-- FLOW_PURGE: a write of LV_FLOW_CMD with OP 2 (R236). -/
def execFlowPurge (q : Requester) (f : Nat) (s : State) : Host.Outcome State Fault Refusal :=
  s.write q .LV_FLOW_CMD 0 0 (writeFlowCmd q (BitVec.ofNat 32 (setBits (setBits 0 F.LV_FLOW_CMD_FLOW.hi
    F.LV_FLOW_CMD_FLOW.lo f) F.LV_FLOW_CMD_OP.hi F.LV_FLOW_CMD_OP.lo 2)))

/-- TICK_ENABLE: a write of LV_TICKk_OFS by a requester (R246). -/
def execTickEnable (q : Requester) (k : Nat) (v : Word) (s : State) : Host.Outcome State Fault Refusal :=
  s.write q .LV_TICKk_OFS k 0 (writeTickOfs q k v)

end Sys2Proof.Machine
end

