-- ==== Sys2Proof/Machine/Bus.lean ====
section
/-!
DEFINITION. One write of the register window: each register's own write where its description gives one, the access
types of its fields elsewhere (R5 to R13).
-/

namespace Sys2Proof.Machine

/-- A write of HS_IMG_CMD with an OP other than 0x3 (R596, R597); OP 0x3 outside STATE 4 and 5 is refused with STATE.
Log 89 (DEDUCED, unsafe). -/
def writeImgOther (q : Requester) (v : Word) (s : State) : State :=
  let op := F.HS_IMG_CMD_OP.of v.toNat
  let b := F.HS_IMG_CMD_BANK.of v.toNat
  if op = 1 ∨ op = 2 then s.imgOp q op b
  else if op = 3 then s.refuse q .HS_IMG_CMD 0 0 0x02
  else s.refuse q .HS_IMG_CMD 0 0 0x03

/-- A write of LC_DATAk stores the word, which no read returns. -/
def writeLcData (k : Nat) (v : Word) (s : State) : State := s.setRg .LC_DATAk k 0 v.toNat

/-- A write of a register of chapters 01 to 04. -/
def writeRootReg (q : Requester) (r : Reg) (i j : Nat) (v : Word) (s : State) : State :=
  match r with
  | .GLOBAL_AG_EN => writeAgEn q v s
  | .CLK_REF => writeClkRef q v s
  | .CLK_DVFS => writeDvfs q v s
  | .TIM_CT_SET_HI => writeCtSet q v s
  | .TIM_PT_INC_HI => writePtInc q v s
  | .TIM_PT_SET_HI => writePtSet q v s
  | .TIM_PT_ADJ => writePtAdj v s
  | .TIM_PT_CTL => writePtCtl v s
  | .TIM_CYCLE => writeTimCycle q v s
  | .TIM_CAPn_CTL => writeCapCtl q i v s
  | .CAL_SET_HI => writeCalSet q v s
  | .CAL_CTL => writeCalCtl v s
  | .CAL_TRIM => writeCalTrim q v s
  | .CAL_UTC => writeCalUtc q v s
  | .KL_GLOBAL => writeKlGlobal q v s
  | .KL_GADDR_HI => writeGaddr q v s
  | .KL_MODE_SW => writeModeSw q v s
  | .KL_MODE_STATm => writeModeStat q i v s
  | .KL_TIME_CTL => writeTimeCtl q v s
  | .KL_PORTn_CTL => writePortCtl q i v s
  | .KL_PORTn_EVTX_BASE | .KL_PORTn_EVRX_BASE => writeEvBase q r i v s
  | .KL_PORTn_EVIDX => writeEvIdx q i v s
  | .KL_PORTn_LAT => writePortLat q i v s
  | .KL_SCHEDm_Ww => writeSched q i j v s
  | _ => s.plainWrite r i j v.toNat

/-- A write of a register of chapters 05 to 13. -/
def writeWorkReg (q : Requester) (r : Reg) (i j : Nat) (v : Word) (s : State) : State :=
  match r with
  | .LV_TPL_CMD => writeTplCmd q v s
  | .LV_FLOW_CMD => writeFlowCmd q v s
  | .LV_TICKk_OFS => writeTickOfs q i v s
  | .LV_TPLt_Ww => writeTemplate q i j v s
  | .LV_FLOWf_Ww => writeFlow q i j v s
  | .VC_CTLn => writeVcCtl q i v s
  | .KN_CTL => writeKnCtl q v s
  | .KN_PLAN_CTL => writePlanCtl q v s
  | .KN_RANGE_CTLc | .KN_RANGE_MINc | .KN_RANGE_MAXc => writeKnRange r i v s
  | .AX_CTLn => writeAxCtl q i v s
  | .AX_CMDn => writeAxCmd q i v s
  | .AX_CMPk_CTL => writeCmpCtl q i v s
  | .AX_CMPk_POS => writeCmpPos i v s
  | .AX_STj_CTL => writeStepCtl q i v s
  | .FB_CFGn => writeFbCfg q i v s
  | .FB_FILTn | .FB_THRn | .FB_SCALEn | .FB_OFSn | .FB_SSIn | .FB_SSITn | .FB_SSIJn | .FB_REPn => writeFbParam q r i v s
  | .FB_CMDn => writeFbCmd q i v s
  | .TH_MB_CMD => writeMbCmd q v s
  | .TH_MB_ADDR => writeMbAddr q v s
  | .TH_MB_DATA => writeMbData q v s
  | .TH_MB_CONFIRM => writeMbConfirm v s
  | .SO_GLOBAL | .SO_UBASE => writeSoGlobal q r v s
  | .SO_CHk => writeSoCh q i v s
  | .SO_Cc_CTL => writeSoCtl q i v s
  | .SO_Cc_CMD => writeSoCmd q i v s
  | .SO_Cc_STAT | .SO_Cc_BASE | .SO_Cc_SIZE | .SO_Cc_PRE | .SO_Cc_POST | .SO_Cc_RATE | .SO_Cc_TRG0 | .SO_Cc_TRG1
  | .SO_Cc_T0A | .SO_Cc_T0B | .SO_Cc_T1A | .SO_Cc_T1B | .SO_Cc_TIME | .SO_Cc_WIN | .SO_Cc_MASK | .SO_Cc_TOK =>
    writeSoParam q r i v s
  | _ => s.plainWrite r i j v.toNat

/-- A write of a register of chapters 14 to 17. -/
def writeServiceReg (q : Requester) (r : Reg) (i j : Nat) (v : Word) (s : State) : State :=
  match r with
  | .PW_MOD => writePwMod q v s
  | .PW_KEEPMASK => writeKeepMask q v s
  | .PW_TRIM => writePwTrim q v s
  | .PW_WAKE => writePwWake q v s
  | .PW_WAKE_CT_HI => writePwWakeCt q v s
  | .PW_KEEP_CTL => writeKeepCtl q v s
  | .PW_KEEP_ADD => writeKeepAdd q v s
  | .PW_DOMd_CTL => writeDomCtl q i v s
  | .PW_VOLTi_CTL => writeVoltCtl q i v s
  | .PW_VOLTi_STEP => writeVoltStep q i v s
  | .SV_WEAR => writeWear v s
  | .SV_RETIRE => writeRetire q v s
  | .SV_UNRETIRE => writeUnretire q v s
  | .SV_PLACE_CMD => writePlaceCmd q v s
  | .SV_MIG_CTL => writeMigCtl q v s
  | .SV_IMG_CTL => writeImgCtl q v s
  | .SV_WDOG_CTL => writeWdogCtl q v s
  | .SV_WDOG_KICK => writeWdogKick v s
  | .SV_FORCE => writeForce q v s
  | .SV_JNL_SEL => writeJnlSel v s
  | .HS_VECv_CTL => writeVec q i v s
  | .HS_VPEND_LO | .HS_VPEND_HI => writeVpend r v s
  | .HS_DB => writeDoorbell v s
  | .HS_MBX_DATA => writeMbxData q v s
  | .HS_IMG_CMD => writeImgOther q v s
  | .HS_IMG_SRC | .HS_IMG_DST | .HS_IMG_LEN => writeImgParam q r v s
  | .HS_HEn_CTL => writeHeCtl q i v s
  | .HS_HEn_MAC_HI => writeHeMac q i v s
  | .HS_HEn_TXq_BASE | .HS_HEn_RXr_BASE => writeHeBase q r i j v s
  | .CH_CTL => writeChCtl q v s
  | .CH_REPr_BASE | .CH_REPr_LEN => writeChRep q r i v s
  | .LC_CMD => writeLcCmd q v s
  | .LC_DATAk => writeLcData i v s
  | _ => s.plainWrite r i j v.toNat

/-- A write of a register that the port, the access level and the domain have let through. The _LO half of a writable
pair is held (R10). HS_IMG_CMD's OP 0x3 is acted on where a boot can restart, in `State.regWrite`. -/
def State.regWriteInBoot (s : State) (q : Requester) (r : Reg) (i j : Nat) (v : Word) : State :=
  if r.isHeldLo then s.holdLo q r i v.toNat
  else if r.row.base < 0x800000 then writeRootReg q r i j v s
  else if r.row.base < 0x1E00000 then writeWorkReg q r i j v s
  else writeServiceReg q r i j v s

/-- A write of a BAR0 offset, of the given width in bytes, by a requester; `act` is the register's write. The checks in
the order: the port, the access level, width and alignment, the offset, the domain (R5, R518, R589, R599, R609).
Log 55 (DESIGN CHOICE, safe). -/
def State.busWriteWith (act : State → Reg → Nat → Nat → State) (s : State) (q : Requester) (off width : Nat) :
    State × Status :=
  if ¬ s.portUp q then (s, 0xFF)
  else if q = .debug ∧ s.accessLevel ≠ 2 then (s, 0x06)
  else if width ≠ 4 ∨ off % 4 ≠ 0 then
    if q = .mnt ∧ s.accessLevel = 0 then (s, 0x06) else (s.badAccess q true false off, 0x00)
  else match findReg off with
    | none => if q = .mnt ∧ s.accessLevel = 0 then (s, 0x06) else (s.badAccess q true true off, 0x00)
    | some (r, i, j) => s.guardWrite q r i j (fun s => act s r i j)

/-- A write made by the register list of a program image: no list can start a boot (HS_BOOT_STAT.STATE is 2). -/
def State.bootWrite (s : State) (off : Nat) (v : Word) : State :=
  (s.busWriteWith (fun s r i j => s.regWriteInBoot .bootList r i j v) .bootList off 4).1

end Sys2Proof.Machine
end

