-- ==== Sys2Proof/Machine/Boot.lean ====
section
/-!
DEFINITION. Boot (R592 to R595, R649), HS_IMG_CMD whole (R597), register accesses as commands (R5 to R10), the maintenance
port (R589), and power-up, reset and loss of supply (R58, R627 to R631).
-/

namespace Sys2Proof.Machine

/-! ## The register list (R592, R595) -/

/-- An entry of a register list. -/
structure BootEntry where
  op : Nat
  off : Nat
  value : Nat
  mask : Nat
  deriving DecidableEq, Repr

/-- The entries of the register lists of bank `b`, in directory order. Log 30 (DEDUCED, unsafe). -/
def State.bootEntries (s : State) (b : Nat) : List BootEntry :=
  ((s.imgSections b).filter (fun e => e.kind = 5)).flatMap (fun e =>
    (List.range (e.len / 16)).map (fun k =>
      let n (o w : Nat) := s.imgNum b (e.off + 16 * k + o) w
      { op := n 0 1, off := n 4 4, value := n 8 4, mask := n 12 4 }))

/-- Entry `k` fails: the list stops, STATE reads FAILED, CODE 0x7E, and ENTRY the index (R595). -/
def State.bootFail (s : State) (k : Nat) : State :=
  let s : State := { s with hs := { s.hs with boot := none } }
  ((s.setFd F.HS_BOOT_STAT_CODE 0 0 0x7E).setFd F.HS_BOOT_STAT_ENTRY 0 0 k).setBoot 5

/-- The identifying fields of the cell-model records (R649). -/
def State.writeIds (s : State) : State :=
  let s := s.forEach (List.range 16) (fun g s => s.setSram (64 * g) 1 g)
  let s := s.forEach (List.range 256) (fun a s => s.setSram (axisAt a) 2 a)
  let s := s.forEach (List.range 80) (fun z s => s.setSram (0x4C00 + 64 * z) 1 z)
  s.forEach (List.range 64) (fun p s => s.setSram (0x6000 + 160 * p) 1 p)

/-- The journal entry of an access that a reset ended is written (R603). -/
def State.clearEnded (s : State) : State := { s with lc := { s.lc with endedByReset := false } }

/-- Step 6: the identifying fields, STATE RUN, and the journal entries of the boot (R593, R603). -/
def State.bootFinish (s : State) : State :=
  let b := s.sv.imgActive
  let s := s.writeIds.setBoot 3
  let s := s.journal 0x1D 0x0D 0x00 0 ([b] ++ dBytes 4 (s.imgNum b 16 4) ++ [s.fd F.GLOBAL_RESET_CAUSE])
  if s.lc.endedByReset then
    s.clearEnded.journal 0x1F 0x0F 0x00 0 [0]
  else s

/-- A read made by the register list. Log 30 (DEDUCED, unsafe). -/
def State.bootRead (s : State) (off : Nat) : Nat × State :=
  let (v, _, s) := s.busRead .bootList off 4
  (v, s)

/-- Entries from index `k` on: OP 0x1 writes and reads back, OP 0x2 waits, OP 0x3 lets time pass (R592). A boot whose
STATE has left LOAD (a reset) goes no further. Log 30 (DEDUCED, unsafe). -/
def State.runList (s : State) : List BootEntry → Nat → State
  | [], _ => s.bootFinish
  | e :: es, k =>
    if s.fd F.HS_BOOT_STAT_STATE ≠ 2 then s
    else if e.op = 1 then
      let (v, s) := (s.bootWrite e.off (BitVec.ofNat 32 e.value)).bootRead e.off
      if v &&& e.mask = e.value &&& e.mask then s.runList es (k + 1) else s.bootFail k
    else if e.op = 2 then
      let (v, s) := s.bootRead e.off
      if v &&& e.mask = e.value then s.runList es (k + 1)
      else { s with hs := { s.hs with boot := some (k, s.time.ticks) } }
    else if e.op = 3 then (s.advance (500 * e.value)).runList es (k + 1)
    else s.bootFail k

/-- A boot that waits at entry `k` since tick `t` goes on: the condition holds now, or 10 ms pass and the entry fails
(R592, R595). Log 29 (DEDUCED, unsafe). -/
def State.bootContinue (s : State) (k t : Nat) : State :=
  let last := t + msTicks 10
  match (s.bootEntries s.sv.imgActive).drop k with
  | [] => s.bootFail k
  | e :: es =>
    let (v, s') := s.bootRead e.off
    if s.time.ticks ≤ last ∧ v &&& e.mask = e.value then
      ({ s' with hs := { s'.hs with boot := none } }).runList es (k + 1)
    else (s.advanceToTick last).bootFail k

/-! ## The sequence (R593, R594) -/

/-- The bank a boot takes: the active bank if it passes step 3, else the other one; a bank that a WRITE or an
uncorrectable error has made invalid does not pass (R559, R593, R594, R596). Log 31 (DEDUCED, unsafe). -/
def State.bootBank (s : State) : Option Nat :=
  let ok (b : Nat) := bit s.sv.imgValid b && s.imgPasses b
  if ok s.sv.imgActive then some s.sv.imgActive
  else if ok (1 - s.sv.imgActive) then some (1 - s.sv.imgActive)
  else none

/-- The slices of arm groups with a code section come ON, but for retired ones (R543, R593).
Log 31 (DEDUCED, unsafe). -/
def State.bootSlices (s : State) (b : Nat) : State :=
  s.forEach ((s.imgSections b).filter (fun e => e.kind = 1)) (fun e s =>
    let d := s.sliceOf (e.target % 16)
    if 17 < d ∨ bit s.sv.retired d ∨ s.domOn d then s
    else (s.domainUp d true).setFd F.PW_DOMd_CTL_REQ d 0 0)

/-- The register-list entry at which the boot waits, and since which tick; none when it waits at none.
Log 30 (DEDUCED, unsafe). -/
def State.setBootWait (s : State) (w : Option (Nat × Nat)) : State := { s with hs := { s.hs with boot := w } }

/-- The stored placement is in force (R543, R593). Log 31 (DEDUCED, unsafe). -/
def State.bootPlaces (s : State) : State :=
  match s.sv.placeStored with
  | some l => s.forEach (List.range 16) (fun g s =>
      (s.setRg .SV_PLACEn g 0 (l.getD g 0)).setRg .SV_PLACE_SHn g 0 (l.getD g 0))
  | none => s

/-- Bank `b` becomes active, with a journal entry where it was not (R594). -/
def State.bootTake (s : State) (b : Nat) : State :=
  if b = s.sv.imgActive then s else ({ s with sv := { s.sv with imgActive := b } }).journal 0x1E 0x0D 0x7A 1 [b]

/-- The counters of the arm group records, LATE_CNT, UNDERRUN_CNT and SNAP_FAIL_CNT, return to 0 (R618).
Log 31 (DEDUCED, unsafe). -/
def State.clearCounts (s : State) : State :=
  s.forEach (List.range 16) (fun g s => s.sramWrite (64 * g + 16) (List.replicate 6 0#8))

/-- Steps 4 to 6 with bank `b` (R593). The arm group records' counters return to 0 before the register list runs
(R618). -/
def State.bootLoad (s : State) (b : Nat) : State :=
  let s := ((s.bootTake b).setFd F.HS_BOOT_STAT_BANK 0 0 b).setBoot 2
  let s := (s.bootSlices b).setFd F.SV_IMG_STAT_WINDOW 0 0 0
  let s := (s.imgSections b).foldl (fun s e => s.loadSection b 0 e) s
  s.clearCounts.runList (s.bootEntries b) 0

/-- Steps 2 to 6 (R593, R594). Log 29 (DEDUCED, unsafe). -/
def State.bootFrom2 (s : State) : State :=
  let s := ((s.setBootWait none).setBoot 1).bootPlaces
  match s.bootBank with
  | none => (s.setFd F.HS_BOOT_STAT_CODE 0 0 0x7A).setBoot 4
  | some b => s.bootLoad b

/-- BOOT: the module boots from reset; a boot that waits at a register-list entry goes on (R592, R593).
Log 29 (DEDUCED, unsafe). -/
def execBoot (s : State) : Host.Outcome State Fault Refusal :=
  if s.held then .next s
  else match s.fd F.HS_BOOT_STAT_STATE with
  | 0 => .next s.pllLock.bootFrom2
  | 1 => .next s.bootFrom2
  | 2 => match s.hs.boot with
    | some (k, t) => .next (s.bootContinue k t)
    | none => .next s
  | _ => .next s

/-- OP 0x3 of HS_IMG_CMD: in WAIT_HOST or FAILED, for a valid bank, which becomes active; the boot restarts at step 2
(R597). Log 29 (DEDUCED, unsafe). -/
def State.imgBoot (s : State) (q : Requester) (b : Nat) : State :=
  let st := s.fd F.HS_BOOT_STAT_STATE
  if ¬ (st = 4 ∨ st = 5) then s.refuse q .HS_IMG_CMD 0 0 0x02
  else if s.hs.img.isSome then s.refuse q .HS_IMG_CMD 0 0 0x01
  else if ¬ bit s.sv.imgValid b then s.refuse q .HS_IMG_CMD 0 0 0x7A
  else
    let s := s.setFd F.HS_IMG_CMD_BANK 0 0 b
    (({ s with sv := { s.sv with imgActive := b } }).vectorEvent 9 0).bootFrom2

/-- A write of HS_IMG_CMD. Log 89 (DEDUCED, unsafe). -/
def writeImgCmd (q : Requester) (v : Word) (s : State) : State :=
  if F.HS_IMG_CMD_OP.of v.toNat = 3 then s.imgBoot q (F.HS_IMG_CMD_BANK.of v.toNat) else writeImgOther q v s

/-- IMG_WRITE, IMG_VERIFY and IMG_BOOT: writes of HS_IMG_CMD by a requester. -/
def execImgWrite (q : Requester) (v : Word) (s : State) : Host.Outcome State Fault Refusal :=
  s.write q .HS_IMG_CMD 0 0 (writeImgCmd q v)
def execImgVerify (q : Requester) (v : Word) (s : State) : Host.Outcome State Fault Refusal :=
  s.write q .HS_IMG_CMD 0 0 (writeImgCmd q v)
def execImgBoot (q : Requester) (v : Word) (s : State) : Host.Outcome State Fault Refusal :=
  s.write q .HS_IMG_CMD 0 0 (writeImgCmd q v)

/-! ## Register accesses -/

/-- A write of a register that the port, the access level and the domain have let through. -/
def State.regWrite (s : State) (q : Requester) (r : Reg) (i j : Nat) (v : Word) : State :=
  if r = .HS_IMG_CMD then writeImgCmd q v s else s.regWriteInBoot q r i j v

/-- A write of `v`, of the given width in bytes, at a BAR0 offset by a requester. -/
def State.busWrite (s : State) (q : Requester) (off width : Nat) (v : Word) : State × Status :=
  s.busWriteWith (fun s r i j => s.regWrite q r i j v) q off width

/-- REGISTER_WRITE: a requester writes an aligned word of the register window (R5, R6, R10). -/
def execRegisterWrite (q : Requester) (off : Nat) (v : Word) (s : State) : Host.Outcome State Fault Refusal :=
  .next (s.busWrite q off 4 v).1

/-- BAD_ACCESS: an access of the wrong width or alignment, or to a reserved offset (R5, R609). An access that is not bad
is no BAD_ACCESS. Log 88 (DEDUCED, unsafe). -/
def execBadAccess (q : Requester) (off width : Nat) (write : Bool) (s : State) : Host.Outcome State Fault Refusal :=
  if width = 4 ∧ off % 4 = 0 ∧ (findReg off).isSome then .next s
  else if write then .next (s.busWrite q off width 0).1
  else .next (s.busRead q off width).2.2

/-- READ_LO_LATCH: a requester reads an aligned word of the register window; a read of a _LO register latches its
companions (R9, R60, R83). -/
def execReadLoLatch (q : Requester) (off : Nat) (s : State) : Host.Outcome State Fault Refusal :=
  let (v, _, s) := s.busRead q off 4
  .next { s with hs := { s.hs with readData := leBytes 4 v } }

/-- MNT_READ: a read transfer of the maintenance port at a BAR0 word address (R589): the marker, the data and STATUS.
Log 88 (DEDUCED, unsafe). -/
def execMntRead (wa : Nat) (s : State) : Host.Outcome State Fault Refusal :=
  if ¬ s.portUp .mnt then .next s
  else
    let (v, st, s) := s.busRead .mnt (wa % 2 ^ 24 * 4) 4
    .next { s with hs := { s.hs with mntReply := [0xA5] ++ (leBytes 4 v).map BitVec.toNat ++ [st] } }

/-- MNT_WRITE: a write transfer of the maintenance port; one that chip select ends before its last data byte writes
nothing (R589). Log 88 (DEDUCED, unsafe). -/
def execMntWrite (wa : Nat) (v : Word) (complete : Bool) (s : State) : Host.Outcome State Fault Refusal :=
  if ¬ s.portUp .mnt ∨ ¬ complete then .next s
  else
    let (s, st) := s.busWrite .mnt (wa % 2 ^ 24 * 4) 4 v
    .next { s with hs := { s.hs with mntReply := [0xA5, st] } }

/-! ## Supply and reset (R58, R627 to R631) -/

/-- PLL_UNLOCK: outside holdover the root leaves its range: a journal entry, reset until the PLL relocks, and boot
(R58). Log 27 (DEDUCED, unsafe). -/
def execPllUnlock (s : State) : Host.Outcome State Fault Refusal :=
  if s.held ∨ s.flag F.CLK_STAT_HOLDOVER ∨ ¬ s.flag F.CLK_STAT_PLL_LOCK then .next s
  else .next ((s.journal 0x05 0x01 0x00 2 [4]).warmReset 2)

/-- MRST_RESET: MRST_N is low for 10 µs and rises: the whole module is reset, Crust included, and boots; the calendar and
MRAM are kept (R628). While VIN12 is absent the module stays in reset. Log 27 (DEDUCED, unsafe). -/
def execMrstReset (s : State) : Host.Outcome State Fault Refusal :=
  let s := s.moduleReset false
  if s.held then .next s else .next s.pllLock

/-- POWER_UP: VIN12 rises through 10.5 V: the calendar moves to VIN12, and the module leaves power-on reset with its root
PLL locked (R627). Log 27 (DEDUCED, unsafe). -/
def execPowerUp (s : State) : Host.Outcome State Fault Refusal :=
  if ¬ s.held ∧ s.fd F.HS_BOOT_STAT_STATE ≠ 0 then .next s
  else
    let s : State := { s with held := false, cal := { s.cal with supply := .vin12 } }
    .next (s.moduleReset false).pllLock

/-- VIN12_LOSS: VIN12 falls below 10.0 V: the output pairs switch off, the transmitters go idle, and Crust holds the module
in reset; the calendar moves to the supercap (R629). Log 27 (DEDUCED, unsafe). -/
def execVin12Loss (s : State) : Host.Outcome State Fault Refusal :=
  if s.held then .next s
  else
    let s := s.pairsOff.moduleReset false
    .next { s with held := true, cal := { s.cal with supply := .supercap } }

/-- VSIO_LOW and VSIO_RETURN: VSIO falls below 18.0 V, and returns above 18.5 V (R631). -/
def execVsioLow (s : State) : Host.Outcome State Fault Refusal := .next (s.vsio true)
def execVsioReturn (s : State) : Host.Outcome State Fault Refusal := .next (s.vsio false)

end Sys2Proof.Machine
end

