-- ==== Sys2Proof/Machine/Taps.lean ====
section
/-!
DEFINITION. The events of the feedback receivers: each reaches the channel of FB and, before its filter, Thallus's own
decoder of the channel (R368, R369, R397).
-/

namespace Sys2Proof.Machine

/-- The receiver outputs of channel `n` become `raw` now and stay so for `hold` PERI cycles (R368, R369). -/
def State.receive (s : State) (n raw hold : Nat) : State := ((s.thTap n raw).fbRaw n raw hold).thLook n

/-- FB_COUNT_EDGE: after `dt` ticks the receiver outputs of channel `n` become `lines`, 2 A + B in quadrature mode with Z as
it is, else 4 U + 2 V + W, and stay so for `hold` PERI cycles (R368, R370, R371, R380, R381).
Log 66 (DEDUCED, unsafe). -/
def execFbCountEdge (n lines hold dt : Nat) (s : State) : Host.Outcome State Fault Refusal :=
  let s := s.advance dt
  if 32 ≤ n then .next s
  else
    let z := (s.fbChan n).lines.raw % 2
    .next (s.receive n (if s.fd F.FB_CFGn_MODE n = 2 then lines else 2 * (lines % 4) + z) hold)

/-- FB_INDEX_EDGE: after `dt` ticks the Z receiver output of channel `n`, in quadrature mode, becomes `level` and stays so
for `hold` PERI cycles; its filtered level, inverted by ZINV, rises at an index edge (R372 to R374, R344).
Log 66 (DEDUCED, unsafe). -/
def execFbIndexEdge (n : Nat) (level : Bool) (hold dt : Nat) (s : State) : Host.Outcome State Fault Refusal :=
  let s := s.advance dt
  if 32 ≤ n ∨ s.fd F.FB_CFGn_MODE n ≠ 0 then .next s
  else .next (s.receive n ((s.fbChan n).lines.raw / 2 * 2 + b2n level) hold)

/-- SSI_READ_END: a read ends: the line was low before the first clock edge, the position field as sampled, the error
bits, the trailing bit. Thallus reads the same samples (R376 to R379, R397). Log 67 (DEDUCED, unsafe). -/
def execSsiReadEnd (n : Nat) (low : Bool) (field errs : Nat) (trail : Bool) (s : State) :
    Host.Outcome State Fault Refusal :=
  match (s.fbChan n).ssiNow with
  | none => .next s
  | some t =>
    let s := s.advanceTo (t + s.ssiReadNs n)
    let b := s.fd F.FB_SSIn_BITS n
    let k := s.fd F.FB_SSIn_ERR_BITS n
    let s := s.thRead n { latch := t, low := low, len := b + k + 1,
                          bits := (field % 2 ^ b * 2 ^ k + errs % 2 ^ k) * 2 + b2n trail }
    .next (s.ssiEnd n t low field errs trail)

/-- WIRE_DISAGREE: after `dt` ticks the comparators of line `l` disagree, and stay so for `hold` ticks, or agree again
(R385, R464). -/
def execWireDisagree (n l : Nat) (disagree : Bool) (hold dt : Nat) (s : State) : Host.Outcome State Fault Refusal :=
  let s := s.advance dt
  if 32 ≤ n ∨ 3 ≤ l then .next s else .next (((s.thWire n l disagree).wireSeen n l disagree hold).thLook n)

end Sys2Proof.Machine
end

