-- ==== Sys2Proof/Machine/Traffic.lean ====
section
/-!
DEFINITION. Uplink frames (R100, R109, R115, R123, R132, R134, R135, R144, R170).
-/

namespace Sys2Proof.Machine

/-- The entry of the active mode that an uplink frame of a node on port `p` may belong to in the present base cycle
(R116, R132, R170). Log 40 (DEDUCED, unsafe). -/
def State.uplinkEntry (s : State) (p node : Nat) : Option SchedEntry :=
  s.activeEntries.find? (fun e => decide (e.node = node ∧ node ≠ 0xFFFF ∧ e.port = s.netOf p) && e.ulEn &&
    e.served s.time.bcn)

/-- The expected instant of R110 of slot `slot` on port `p`, from the base-cycle start, in 1/1280 ns. -/
def State.uplinkExpected (s : State) (p slot : Nat) : Nat :=
  let speed := s.fd F.KL_PORTn_CTL_SPEED (s.netOf p)
  (uplinkStart s.time.base + slot * slotPitch speed s.time.base) * 1280 + 8 * byteWire speed

/-- How an uplink frame on port `p` is judged (R94, R115, R132): the entry it is accepted for, or the counter of R142 in
which it is counted. `stamp` is its stamp point in ns from the base-cycle start, before RX_EXT is subtracted (R174).
Log 40 (DEDUCED, unsafe). -/
def State.uplinkJudge (s : State) (p stamp : Nat) (fcsOk : Bool) (bs : List Byte) : Nat ⊕ SchedEntry :=
  let at_ : Int := (stamp * 1280 : Nat) - ((s.fd F.KL_PORTn_LAT_RX_EXT p * 5 : Nat) : Int)
  if ¬ fcsOk then .inl 3
  else if ¬ s.headerOk bs 3 ∨ bs.length ≠ 90 ∨ (guardStart s.time.base * 1280 : Nat) ≤ at_ ∨
      klField bs 4 4 ≠ s.time.bcn % 2 ^ 32 then .inl 4
  else match s.uplinkEntry p (klField bs 12 2) with
    | none => .inl 4
    | some e =>
      let ex : Int := s.uplinkExpected p e.slot
      if at_ < ex - 80 * 1280 then .inl 2
      else if ex + 80 * 1280 < at_ then .inl 1
      else .inr e

/-- A node that reports INTEGRATED or REFERENCE for the first time is checked by condition 10 of R122 with its DELAY as
it stands (R123). Log 40 (DEDUCED, unsafe). -/
def State.admits (s : State) (p : Nat) (e : SchedEntry) : Bool :=
  match (s.node e.node).result with
  | some r => delayFits s.time.base (s.fd F.KL_PORTn_CTL_SPEED (s.netOf p)) e r.delayA
  | none => true

/-- An accepted uplink record (R104, R109, R127, R131, R134, R135, R144, R455). Log 40 (DEDUCED, unsafe). -/
def State.uplinkAccept (s : State) (p : Nat) (e : SchedEntry) (rec_ : List Byte) : State :=
  let st := fieldAt rec_ 2 2
  let integ := decide (bits st 7 4 = 9 ∨ bits st 7 4 = 10)
  let refer := decide (bits st 7 4 = 10)
  let was := (s.node e.node).integ
  let s := s.sramWrite (0x10800 + 64 * e.node) rec_
  let s := s.setNode e.node { s.node e.node with integ := integ, refer := refer, evtReq := bits st 11 10,
                                                 admitted := true }
  let s := s.noteHit p e.node
  let s := if was && !integ then s.nodeLost e.node else s
  let s := if bit st 9 then s.klCount p 7 else s
  let s := if bit st 8 then s.klCount p 8 else s
  let s := match s.kl.sw with
    | some w => if bit st 12 && decide (bits st 15 13 = w.target) then s.noteAck e.node else s
    | none => s
  let s := if e.safe then s.takeContainer e.node s.time.bcn (rec_.drop 40) else s
  (s.inputsShown e.node).hwToken (.port p) e.token (st + e.node % 2048 * 2 ^ 16)

/-- UPLINK_RECEIVE: port `p` receives an uplink frame, given from its destination address on; its 94 bytes after the stamp
point have arrived when it is judged (R219); while no base cycle runs it matches no served node (R132, R651).
Log 40 (DEDUCED, unsafe). -/
def execUplinkReceive (p stamp : Nat) (fcsOk : Bool) (bs : List Byte) (s : State) :
    Host.Outcome State Fault Refusal :=
  if ¬ s.portOn p then .next s
  else if s.time.noBase then .next (s.klDiscard p (if fcsOk then 4 else 3))
  else
    let wire := 94 * byteWire (s.fd F.KL_PORTn_CTL_SPEED (s.netOf p))
    let s := s.advanceTo (s.time.bcStart + stamp + (wire + 1279) / 1280)
    match s.uplinkJudge p stamp fcsOk bs with
    | .inl k => .next (s.klDiscard p k)
    | .inr e =>
      let k := s.node e.node
      if ¬ k.integ ∧ ¬ s.admits p e then
        let s := s.setNode e.node { k with admitted := false }
        .next ((s.setFd F.KL_PORTn_STAT_ADMIT_REFUSE p 0 0x14).klCount p 4)
      else .next (s.uplinkAccept p e (bs.drop 26))

end Sys2Proof.Machine
end

