-- ==== Sys2Proof/Machine/VelistMem.lean ====
section
/-!
DEFINITION. Loads, stores and searches of the Velist cores (R181, R182, R193 to R195, R202, R203, R518, R553).
-/

namespace Sys2Proof.Machine

/-! ## Accesses -/

/-- What a load gives: a value; 0 with DATA_BUS from a block that is not ON; DATA_BUS outside the map (R182). -/
inductive Loaded where
  | value (v : Nat)
  | off
  | outside
  deriving DecidableEq, Repr

/-- Core `n` loads `size` bytes at an aligned core address (R181, R182, R518). Log 54 (DEDUCED, unsafe). -/
def State.load (s : State) (n a size : Nat) : Loaded × State :=
  match s.place n a with
  | .nowhere => (.outside, s)
  | .reg o =>
    let (v, st, s) := s.busRead (.core n) o size
    if st = 0x07 then (.off, s) else (.value v, s)
  | .dram o =>
    if s.answers 22 then (.value (ofLe (s.placeBytes (.dram o) size)), s)
    else (.off, s.offAccess (.core n) false 22 a)
  | p => (.value (ofLe (s.placeBytes p size)), s)

/-- Core `n` stores the low `size` bytes of a word at an aligned core address; none where the store raises DATA_BUS: the
code window, and outside the map (R181, R182, R518, R553). Log 54 (DEDUCED, unsafe). -/
def State.store (s : State) (n a size : Nat) (v : Word) : Option State :=
  match s.place n a with
  | .nowhere | .win _ => none
  | .reg o => some (s.busWrite (.core n) o size v).1
  | .dram o =>
    if s.answers 22 then some (s.placeWrite (.dram o) (leBytes size v.toNat))
    else some (s.offAccess (.core n) true 22 a)
  | p => some (s.placeWrite p (leBytes size v.toNat))

/-- The address of a MEM instruction; none through a circular set whose LEN is 0 (R193, R195). -/
def Core.memAddr (c : Core) (circ : Bool) (base : Nat) (off : Int) : Option Word :=
  if circ then (if c.cbr base 1 = 0 then none else some (c.cbr base 0 + c.cbr base 2))
  else some (c.gr base + BitVec.ofInt 32 off)

/-- IDX of circular set `k` after an access (R194). -/
def Core.stepIdx (c : Core) (circ : Bool) (k : Nat) (off : Int) (size : Nat) : Core :=
  if circ then
    let len : Int := (c.cbr k 1).toNat
    c.setCb k 2 (BitVec.ofInt 32 ((((c.cbr k 2).toNat : Int) + off * size) % len))
  else c

/-- The form is malformed (R188, R193): rt[5] with F = 0; F in a byte or halfword form; a set above 7.
Log 53 (DEDUCED, unsafe). -/
def memIllegal (f : Bool) (rt : Nat) (circ : Bool) (base size : Nat) : Bool :=
  (!f && decide (32 ≤ rt)) || (f && decide (size ≠ 4)) || (circ && decide (8 ≤ base))

/-- Core `n` goes past an instruction whose store may have reset or gated it: a core whose slice is no longer ON stays as
the store left it. Log 54 (DEDUCED, unsafe). -/
def State.pastStore (s : State) (n : Nat) (f : Core → Core) : State :=
  if s.domOn (n / 4) then s.setCore n (f (s.core n)).retire else s

/-- A load of `size` bytes, extended by `ext`. Log 53 (DEDUCED, unsafe). -/
def State.loadOp (s : State) (n : Nat) (f : Bool) (rt : Nat) (circ : Bool) (base : Nat) (off : Int) (size : Nat)
    (ext : Nat → Word) : Host.Outcome State Fault Refusal :=
  s.issueB n (fun c s =>
    if memIllegal f rt circ base size then .raise s .illegal none
    else match c.memAddr circ base off with
    | none => .raise s .dataAlign (some (c.cbr base 0 + c.cbr base 2))
    | some a =>
      if a.toNat % size ≠ 0 then .raise s .dataAlign (some a)
      else match s.load n a.toNat size with
      | (.outside, s) => .raise s .dataBus (some a)
      | (.off, s) => .raise (s.setCore n (c.setF f rt 0)) .dataBus (some a)
      | (.value v, s) => .done (s.setCore n ((c.stepIdx circ base off size).setF f rt (ext v)).retire))

/-- A store of the low `size` bytes of the register. Log 53 (DEDUCED, unsafe). -/
def State.storeOp (s : State) (n : Nat) (f : Bool) (rt : Nat) (circ : Bool) (base : Nat) (off : Int) (size : Nat) :
    Host.Outcome State Fault Refusal :=
  s.issueB n (fun c s =>
    if memIllegal f rt circ base size then .raise s .illegal none
    else match c.memAddr circ base off with
    | none => .raise s .dataAlign (some (c.cbr base 0 + c.cbr base 2))
    | some a =>
      if a.toNat % size ≠ 0 then .raise s .dataAlign (some a)
      else match s.store n a.toNat size (c.fr f rt) with
      | none => .raise s .dataBus (some a)
      | some s => .done (s.pastStore n (fun c => c.stepIdx circ base off size)))

/-- LDW: a word into a general or a rotating register. -/
def execLdw (n : Nat) (f : Bool) (rt : Nat) (circ : Bool) (base : Nat) (off : Int) (s : State) :
    Host.Outcome State Fault Refusal := s.loadOp n f rt circ base off 4 (fun v => BitVec.ofNat 32 v)
/-- STW. -/
def execStw (n : Nat) (f : Bool) (rt : Nat) (circ : Bool) (base : Nat) (off : Int) (s : State) :
    Host.Outcome State Fault Refusal := s.storeOp n f rt circ base off 4
/-- LDH: sign-extended. -/
def execLdh (n : Nat) (f : Bool) (rt : Nat) (circ : Bool) (base : Nat) (off : Int) (s : State) :
    Host.Outcome State Fault Refusal := s.loadOp n f rt circ base off 2 (fun v => (BitVec.ofNat 16 v).signExtend 32)
/-- LDHU: zero-extended. -/
def execLdhu (n : Nat) (f : Bool) (rt : Nat) (circ : Bool) (base : Nat) (off : Int) (s : State) :
    Host.Outcome State Fault Refusal := s.loadOp n f rt circ base off 2 (fun v => (BitVec.ofNat 16 v).zeroExtend 32)
/-- LDB: sign-extended. -/
def execLdb (n : Nat) (f : Bool) (rt : Nat) (circ : Bool) (base : Nat) (off : Int) (s : State) :
    Host.Outcome State Fault Refusal := s.loadOp n f rt circ base off 1 (fun v => (BitVec.ofNat 8 v).signExtend 32)
/-- LDBU: zero-extended. -/
def execLdbu (n : Nat) (f : Bool) (rt : Nat) (circ : Bool) (base : Nat) (off : Int) (s : State) :
    Host.Outcome State Fault Refusal := s.loadOp n f rt circ base off 1 (fun v => (BitVec.ofNat 8 v).zeroExtend 32)
/-- STH. -/
def execSth (n : Nat) (f : Bool) (rt : Nat) (circ : Bool) (base : Nat) (off : Int) (s : State) :
    Host.Outcome State Fault Refusal := s.storeOp n f rt circ base off 2
/-- STB. -/
def execStb (n : Nat) (f : Bool) (rt : Nat) (circ : Bool) (base : Nat) (off : Int) (s : State) :
    Host.Outcome State Fault Refusal := s.storeOp n f rt circ base off 1

/-! ## Searches (R202, R203) -/

/-- How a search ends: with the best element and its position, or with a data exception at an address. -/
inductive SearchEnd where
  | found (best : Option (Word × Nat))
  | fail (cause : Cause) (a : Word)
  deriving DecidableEq, Repr

/-- The search of the next elements: `k` is the position of the next one and `idx` its offset in the set. The first of
equal values wins (R202). Log 53 (DEDUCED, unsafe). -/
def State.searchFrom (n : Nat) (better : Word → Word → Bool) (base : Word) (len : Nat) :
    Nat → Nat → Nat → Option (Word × Nat) → State → SearchEnd × State
  | 0, _, _, best, s => (.found best, s)
  | m + 1, k, idx, best, s =>
    let a := base + BitVec.ofNat 32 idx
    if len = 0 ∨ a.toNat % 4 ≠ 0 then (.fail .dataAlign a, s)
    else match s.load n a.toNat 4 with
    | (.value v, s) =>
      let w : Word := BitVec.ofNat 32 v
      let best := match best with
        | none => some (w, k)
        | some (b, p) => if better w b then some (w, k) else some (b, p)
      State.searchFrom n better base len m (k + 1) ((idx + 4) % len) best s
    | (_, s) => (.fail .dataBus a, s)

/-- A search instruction; `empty` is what gd receives with n = 0 (R203). Log 53 (DEDUCED, unsafe). -/
def State.searchOp (s : State) (n gd cb gn : Nat) (empty : Word) (better : Word → Word → Bool) :
    Host.Outcome State Fault Refusal :=
  s.issue n (fun c s =>
    if gd % 2 ≠ 0 ∨ gd < 2 ∨ 30 < gd then .raise s .illegal none
    else
      let count := (c.gr gn).toNat % 2 ^ 16
      match State.searchFrom n better (c.cbr cb 0) (c.cbr cb 1).toNat count 0 (c.cbr cb 2).toNat none s with
      | (.fail cause a, s) => .raise s cause (some a)
      | (.found none, s) => .done (s.setCore n ((c.setG gd empty).setG (gd + 1) 0xFFFFFFFF).next)
      | (.found (some (b, p)), s) => .done (s.setCore n ((c.setG gd b).setG (gd + 1) (BitVec.ofNat 32 p)).next))

/-- MAXI. -/
def execMaxi (n gd cb gn : Nat) (s : State) : Host.Outcome State Fault Refusal :=
  s.searchOp n gd cb gn 0x80000000 (fun a b => decide (b.toInt < a.toInt))
/-- MINI. -/
def execMini (n gd cb gn : Nat) (s : State) : Host.Outcome State Fault Refusal :=
  s.searchOp n gd cb gn 0x7FFFFFFF (fun a b => decide (a.toInt < b.toInt))
/-- MAXIU. -/
def execMaxiu (n gd cb gn : Nat) (s : State) : Host.Outcome State Fault Refusal :=
  s.searchOp n gd cb gn 0 (fun a b => decide (b.toNat < a.toNat))
/-- MINIU. -/
def execMiniu (n gd cb gn : Nat) (s : State) : Host.Outcome State Fault Refusal :=
  s.searchOp n gd cb gn 0xFFFFFFFF (fun a b => decide (a.toNat < b.toNat))
/-- MAXA: the magnitude decides, that of −2^31 taken as 2^31. -/
def execMaxa (n gd cb gn : Nat) (s : State) : Host.Outcome State Fault Refusal :=
  s.searchOp n gd cb gn 0 (fun a b => decide (b.toInt.natAbs < a.toInt.natAbs))

end Sys2Proof.Machine
end

