-- ==== Sys2Proof/Machine/Dispatch.lean ====
section
/-!
DEFINITION. The meaning of each command.
-/

namespace Sys2Proof.Machine

/-- The effect of a command on everything but the queue. Log 95 (DESIGN CHOICE, unsafe), 96 (DESIGN CHOICE, unsafe). -/
def exec (i : Instr) (s : State) : Host.Outcome State Fault Refusal :=
  match i with
  | .registerWrite q off v => Sys2Proof.Machine.execRegisterWrite q off v s
  | .badAccess q off width write => Sys2Proof.Machine.execBadAccess q off width write s
  | .readLoLatch q off => Sys2Proof.Machine.execReadLoLatch q off s
  | .baseCycleStart => Sys2Proof.Machine.execBaseCycleStart s
  | .cutoff => Sys2Proof.Machine.execCutoff s
  | .planCycleStart => Sys2Proof.Machine.execPlanCycleStart s
  | .pathEndStop g => Sys2Proof.Machine.execPathEndStop g s
  | .superCycleBoundary => Sys2Proof.Machine.execSuperCycleBoundary s
  | .agEnable q v => Sys2Proof.Machine.execAgEnable q v s
  | .agDisable q v => Sys2Proof.Machine.execAgDisable q v s
  | .agStandstill g => Sys2Proof.Machine.execAgStandstill g s
  | .timCycleWrite q v => Sys2Proof.Machine.execTimCycleWrite q v s
  | .baseChangeEffect => Sys2Proof.Machine.execBaseChangeEffect s
  | .placeCommit q v => Sys2Proof.Machine.execPlaceCommit q v s
  | .refSelect q v => Sys2Proof.Machine.execRefSelect q v s
  | .refLoss => Sys2Proof.Machine.execRefLoss s
  | .refFreq => Sys2Proof.Machine.execRefFreq s
  | .fallbackRelock => Sys2Proof.Machine.execFallbackRelock s
  | .refReturn src => Sys2Proof.Machine.execRefReturn src s
  | .dvfsWrite q v => Sys2Proof.Machine.execDvfsWrite q v s
  | .divFault clk => Sys2Proof.Machine.execDivFault clk s
  | .pllUnlock => Sys2Proof.Machine.execPllUnlock s
  | .pcieRefLoss => Sys2Proof.Machine.execPcieRefLoss s
  | .ctSet q v => Sys2Proof.Machine.execCtSet q v s
  | .ptIncSet q v => Sys2Proof.Machine.execPtIncSet q v s
  | .ptAdj q v => Sys2Proof.Machine.execPtAdj q v s
  | .ptSet q v => Sys2Proof.Machine.execPtSet q v s
  | .ptValidTimeout => Sys2Proof.Machine.execPtValidTimeout s
  | .timeCaptureEvent src rising dt => Sys2Proof.Machine.execTimeCaptureEvent src rising dt s
  | .swtrig q n v => Sys2Proof.Machine.execSwtrig q n v s
  | .heTxHead p q => Sys2Proof.Machine.execHeTxHead p q s
  | .heTxLaunch p q => Sys2Proof.Machine.execHeTxLaunch p q s
  | .heRxFrame p b fcsOk dt => Sys2Proof.Machine.execHeRxFrame p b fcsOk dt s
  | .calSet q v => Sys2Proof.Machine.execCalSet q v s
  | .calDiscSecond => Sys2Proof.Machine.execCalDiscSecond s
  | .calTrimWindow => Sys2Proof.Machine.execCalTrimWindow s
  | .leapSecond => Sys2Proof.Machine.execLeapSecond s
  | .calOnBackup => Sys2Proof.Machine.execCalOnBackup s
  | .calSupplyLost => Sys2Proof.Machine.execCalSupplyLost s
  | .klPortEnable q p v => Sys2Proof.Machine.execKlPortEnable q p v s
  | .klPortDisable q p v => Sys2Proof.Machine.execKlPortDisable q p v s
  | .klCntClear q p v => Sys2Proof.Machine.execKlCntClear q p v s
  | .uplinkReceive p stamp fcsOk bs => Sys2Proof.Machine.execUplinkReceive p stamp fcsOk bs s
  | .ulMiss p slot => Sys2Proof.Machine.execUlMiss p slot s
  | .eventReceive p stamp fcsOk bs => Sys2Proof.Machine.execEventReceive p stamp fcsOk bs s
  | .eventSend p dt => Sys2Proof.Machine.execEventSend p dt s
  | .evidxWrite q p v => Sys2Proof.Machine.execEvidxWrite q p v s
  | .scheduleEntryWrite q m w v => Sys2Proof.Machine.execScheduleEntryWrite q m w v s
  | .modeCheck q m v => Sys2Proof.Machine.execModeCheck q m v s
  | .modeSwitchRequest q v => Sys2Proof.Machine.execModeSwitchRequest q v s
  | .modeSwitchDecide => Sys2Proof.Machine.execModeSwitchDecide s
  | .preqReceive p dt fcsOk bs => Sys2Proof.Machine.execPreqReceive p dt fcsOk bs s
  | .reportReceive p dt fcsOk bs => Sys2Proof.Machine.execReportReceive p dt fcsOk bs s
  | .measureEnd p => Sys2Proof.Machine.execMeasureEnd p s
  | .listenElapsed => Sys2Proof.Machine.execListenElapsed s
  | .coldStartFrameReceive p dt fcsOk bs => Sys2Proof.Machine.execColdStartFrameReceive p dt fcsOk bs s
  | .rankDelayElapsed => Sys2Proof.Machine.execRankDelayElapsed s
  | .attemptWindowEnd => Sys2Proof.Machine.execAttemptWindowEnd s
  | .backoffElapsed => Sys2Proof.Machine.execBackoffElapsed s
  | .deferWindowEnd => Sys2Proof.Machine.execDeferWindowEnd s
  | .timeReportReceive p dt fcsOk bs => Sys2Proof.Machine.execTimeReportReceive p dt fcsOk bs s
  | .holdover => Sys2Proof.Machine.execHoldover s
  | .chainTimeWordReceive p ct dt ask turn => Sys2Proof.Machine.execChainTimeWordReceive p ct dt ask turn s
  | .chainSourceSwitch => Sys2Proof.Machine.execChainSourceSwitch s
  | .klTimeCtlWrite q v => Sys2Proof.Machine.execKlTimeCtlWrite q v s
  | .dispatch => Sys2Proof.Machine.execDispatch s
  | .tick k => Sys2Proof.Machine.execTick k s
  | .instanceDeadline t tag => Sys2Proof.Machine.execInstanceDeadline t tag s
  | .instanceRelease t tag => Sys2Proof.Machine.execInstanceRelease t tag s
  | .templateWrite q t w v => Sys2Proof.Machine.execTemplateWrite q t w v s
  | .templateEnable q t => Sys2Proof.Machine.execTemplateEnable q t s
  | .templateDisable q t => Sys2Proof.Machine.execTemplateDisable q t s
  | .templatePurge q t => Sys2Proof.Machine.execTemplatePurge q t s
  | .flowWrite q f w v => Sys2Proof.Machine.execFlowWrite q f w v s
  | .flowRelease q f => Sys2Proof.Machine.execFlowRelease q f s
  | .flowPurge q f => Sys2Proof.Machine.execFlowPurge q f s
  | .tickEnable q k v => Sys2Proof.Machine.execTickEnable q k v s
  | .add n gd ga gb pg => Sys2Proof.Machine.execAdd n gd ga gb pg s
  | .sub n gd ga gb pg => Sys2Proof.Machine.execSub n gd ga gb pg s
  | .and n gd ga gb pg => Sys2Proof.Machine.execAnd n gd ga gb pg s
  | .or n gd ga gb pg => Sys2Proof.Machine.execOr n gd ga gb pg s
  | .xor n gd ga gb pg => Sys2Proof.Machine.execXor n gd ga gb pg s
  | .shl n gd ga gb pg => Sys2Proof.Machine.execShl n gd ga gb pg s
  | .shr n gd ga gb pg => Sys2Proof.Machine.execShr n gd ga gb pg s
  | .sra n gd ga gb pg => Sys2Proof.Machine.execSra n gd ga gb pg s
  | .mul n gd ga gb pg => Sys2Proof.Machine.execMul n gd ga gb pg s
  | .mulh n gd ga gb pg => Sys2Proof.Machine.execMulh n gd ga gb pg s
  | .mulhu n gd ga gb pg => Sys2Proof.Machine.execMulhu n gd ga gb pg s
  | .adds n gd ga gb pg => Sys2Proof.Machine.execAdds n gd ga gb pg s
  | .subs n gd ga gb pg => Sys2Proof.Machine.execSubs n gd ga gb pg s
  | .min n gd ga gb pg => Sys2Proof.Machine.execMin n gd ga gb pg s
  | .max n gd ga gb pg => Sys2Proof.Machine.execMax n gd ga gb pg s
  | .minu n gd ga gb pg => Sys2Proof.Machine.execMinu n gd ga gb pg s
  | .maxu n gd ga gb pg => Sys2Proof.Machine.execMaxu n gd ga gb pg s
  | .abs n gd ga pg => Sys2Proof.Machine.execAbs n gd ga pg s
  | .clz n gd ga pg => Sys2Proof.Machine.execClz n gd ga pg s
  | .addi n gd ga imm => Sys2Proof.Machine.execAddi n gd ga imm s
  | .andi n gd ga imm => Sys2Proof.Machine.execAndi n gd ga imm s
  | .ori n gd ga imm => Sys2Proof.Machine.execOri n gd ga imm s
  | .xori n gd ga imm => Sys2Proof.Machine.execXori n gd ga imm s
  | .lui n gd imm => Sys2Proof.Machine.execLui n gd imm s
  | .shi n gd ga op sh => Sys2Proof.Machine.execShi n gd ga op sh s
  | .cmp n pd ga gb pg cond => Sys2Proof.Machine.execCmp n pd ga gb pg cond s
  | .cmpi n pd cond ga imm => Sys2Proof.Machine.execCmpi n pd cond ga imm s
  | .plog n pd pa pb func => Sys2Proof.Machine.execPlog n pd pa pb func s
  | .ldw n f rt circ base off => Sys2Proof.Machine.execLdw n f rt circ base off s
  | .stw n f rt circ base off => Sys2Proof.Machine.execStw n f rt circ base off s
  | .ldh n f rt circ base off => Sys2Proof.Machine.execLdh n f rt circ base off s
  | .ldhu n f rt circ base off => Sys2Proof.Machine.execLdhu n f rt circ base off s
  | .ldb n f rt circ base off => Sys2Proof.Machine.execLdb n f rt circ base off s
  | .ldbu n f rt circ base off => Sys2Proof.Machine.execLdbu n f rt circ base off s
  | .sth n f rt circ base off => Sys2Proof.Machine.execSth n f rt circ base off s
  | .stb n f rt circ base off => Sys2Proof.Machine.execStb n f rt circ base off s
  | .mac n acc wa gb pg d u => Sys2Proof.Machine.execMac n acc wa gb pg d u s
  | .msu n acc wa gb pg d u => Sys2Proof.Machine.execMsu n acc wa gb pg d u s
  | .mxMul n acc wa gb pg d u => Sys2Proof.Machine.execMxMul n acc wa gb pg d u s
  | .accrd n acc f rt sh rnd sat pg => Sys2Proof.Machine.execAccrd n acc f rt sh rnd sat pg s
  | .accwr n acc f rt sh pg => Sys2Proof.Machine.execAccwr n acc f rt sh pg s
  | .accshr n acc sh pg => Sys2Proof.Machine.execAccshr n acc sh pg s
  | .accclr n acc pg => Sys2Proof.Machine.execAccclr n acc pg s
  | .wadd n wd wa wb pg => Sys2Proof.Machine.execWadd n wd wa wb pg s
  | .wsub n wd wa wb pg => Sys2Proof.Machine.execWsub n wd wa wb pg s
  | .wadds n wd wa wb pg => Sys2Proof.Machine.execWadds n wd wa wb pg s
  | .wsubs n wd wa wb pg => Sys2Proof.Machine.execWsubs n wd wa wb pg s
  | .wneg n wd wa pg => Sys2Proof.Machine.execWneg n wd wa pg s
  | .wmov n wd wa pg => Sys2Proof.Machine.execWmov n wd wa pg s
  | .wfromg n wd g pg => Sys2Proof.Machine.execWfromg n wd g pg s
  | .wtog n g wa pg => Sys2Proof.Machine.execWtog n g wa pg s
  | .maxi n gd cb gn => Sys2Proof.Machine.execMaxi n gd cb gn s
  | .mini n gd cb gn => Sys2Proof.Machine.execMini n gd cb gn s
  | .maxiu n gd cb gn => Sys2Proof.Machine.execMaxiu n gd cb gn s
  | .miniu n gd cb gn => Sys2Proof.Machine.execMiniu n gd cb gn s
  | .maxa n gd cb gn => Sys2Proof.Machine.execMaxa n gd cb gn s
  | .fadd n gd ga gb pg => Sys2Proof.Machine.execFadd n gd ga gb pg s
  | .fsub n gd ga gb pg => Sys2Proof.Machine.execFsub n gd ga gb pg s
  | .fmul n gd ga gb pg => Sys2Proof.Machine.execFmul n gd ga gb pg s
  | .fdiv n gd ga gb pg => Sys2Proof.Machine.execFdiv n gd ga gb pg s
  | .fsqrt n gd ga pg => Sys2Proof.Machine.execFsqrt n gd ga pg s
  | .fmin n gd ga gb pg => Sys2Proof.Machine.execFmin n gd ga gb pg s
  | .fmax n gd ga gb pg => Sys2Proof.Machine.execFmax n gd ga gb pg s
  | .fabs n gd ga pg => Sys2Proof.Machine.execFabs n gd ga pg s
  | .fneg n gd ga pg => Sys2Proof.Machine.execFneg n gd ga pg s
  | .feq n gd ga gb pg => Sys2Proof.Machine.execFeq n gd ga gb pg s
  | .flt n gd ga gb pg => Sys2Proof.Machine.execFlt n gd ga gb pg s
  | .fle n gd ga gb pg => Sys2Proof.Machine.execFle n gd ga gb pg s
  | .fcvtSW n gd ga pg => Sys2Proof.Machine.execFcvtSW n gd ga pg s
  | .fcvtWS n gd ga pg => Sys2Proof.Machine.execFcvtWS n gd ga pg s
  | .fcvtSQ n gd ga pg => Sys2Proof.Machine.execFcvtSQ n gd ga pg s
  | .fcvtQS n gd ga pg => Sys2Proof.Machine.execFcvtQS n gd ga pg s
  | .br n pg neg off => Sys2Proof.Machine.execBr n pg neg off s
  | .call n pg neg off => Sys2Proof.Machine.execCall n pg neg off s
  | .jr n gd ga pg => Sys2Proof.Machine.execJr n gd ga pg s
  | .loop n off => Sys2Proof.Machine.execLoop n off s
  | .rot n => Sys2Proof.Machine.execRot n s
  | .post n gd ga gb => Sys2Proof.Machine.execPost n gd ga gb s
  | .done n => Sys2Proof.Machine.execDone n s
  | .solve n gd ga gb => Sys2Proof.Machine.execSolve n gd ga gb s
  | .twait n gd ga gb => Sys2Proof.Machine.execTwait n gd ga gb s
  | .twaitWake n => Sys2Proof.Machine.execTwaitWake n s
  | .fence n => Sys2Proof.Machine.execFence n s
  | .mtc n ga imm => Sys2Proof.Machine.execMtc n ga imm s
  | .mfc n gd imm => Sys2Proof.Machine.execMfc n gd imm s
  | .eret n => Sys2Proof.Machine.execEret n s
  | .trap n imm => Sys2Proof.Machine.execTrap n imm s
  | .brk n => Sys2Proof.Machine.execBrk n s
  | .illegal n w => Sys2Proof.Machine.execIllegal n w s
  | .budget n => Sys2Proof.Machine.execBudget n s
  | .coreHalt q n v => Sys2Proof.Machine.execCoreHalt q n v s
  | .coreResume q n v => Sys2Proof.Machine.execCoreResume q n v s
  | .coreStep q n v => Sys2Proof.Machine.execCoreStep q n v s
  | .coreClear q n v => Sys2Proof.Machine.execCoreClear q n v s
  | .kernelStart k dt => Sys2Proof.Machine.execKernelStart k dt s
  | .kernelComplete k dt => Sys2Proof.Machine.execKernelComplete k dt s
  | .kernelDeadline k idx same => Sys2Proof.Machine.execKernelDeadline k idx same s
  | .clusterEnable q v => Sys2Proof.Machine.execClusterEnable q v s
  | .clusterDisable q v => Sys2Proof.Machine.execClusterDisable q v s
  | .planStart dt => Sys2Proof.Machine.execPlanStart dt s
  | .planComplete it dt => Sys2Proof.Machine.execPlanComplete it dt s
  | .planDeadline n it => Sys2Proof.Machine.execPlanDeadline n it s
  | .adoptSlotWrite q v => Sys2Proof.Machine.execAdoptSlotWrite q v s
  | .profileTick => Sys2Proof.Machine.execProfileTick s
  | .axMove q n => Sys2Proof.Machine.execAxMove q n s
  | .axUpdate q n => Sys2Proof.Machine.execAxUpdate q n s
  | .axStop q n => Sys2Proof.Machine.execAxStop q n s
  | .axQstop q n => Sys2Proof.Machine.execAxQstop q n s
  | .axHome q n => Sys2Proof.Machine.execAxHome q n s
  | .axClear q n => Sys2Proof.Machine.execAxClear q n s
  | .limitInputChange n w level hold dt => Sys2Proof.Machine.execLimitInputChange n w level hold dt s
  | .homeNotFound n => Sys2Proof.Machine.execHomeNotFound n s
  | .cmpFire k rising dt => Sys2Proof.Machine.execCmpFire k rising dt s
  | .cmpArm q k v => Sys2Proof.Machine.execCmpArm q k v s
  | .cmpEnable q k v => Sys2Proof.Machine.execCmpEnable q k v s
  | .cmpPosWrite q k v => Sys2Proof.Machine.execCmpPosWrite q k v s
  | .driverPowerGood g dt => Sys2Proof.Machine.execDriverPowerGood g dt s
  | .driverLost g dt => Sys2Proof.Machine.execDriverLost g dt s
  | .stall n => Sys2Proof.Machine.execStall n s
  | .axEnable q n v => Sys2Proof.Machine.execAxEnable q n v s
  | .axDisable q n v => Sys2Proof.Machine.execAxDisable q n v s
  | .stepOutputEnable q j v => Sys2Proof.Machine.execStepOutputEnable q j v s
  | .stepOutputDisable q j v => Sys2Proof.Machine.execStepOutputDisable q j v s
  | .fbCountEdge n lines hold dt => Sys2Proof.Machine.execFbCountEdge n lines hold dt s
  | .fbIndexEdge n level hold dt => Sys2Proof.Machine.execFbIndexEdge n level hold dt s
  | .ssiReadStart n => Sys2Proof.Machine.execSsiReadStart n s
  | .ssiReadEnd n low field errs trail => Sys2Proof.Machine.execSsiReadEnd n low field errs trail s
  | .fbStillTimeout n => Sys2Proof.Machine.execFbStillTimeout n s
  | .wireDisagree n l disagree hold dt => Sys2Proof.Machine.execWireDisagree n l disagree hold dt s
  | .wireFault n l => Sys2Proof.Machine.execWireFault n l s
  | .thresholdWindow n a b z beyond => Sys2Proof.Machine.execThresholdWindow n a b z beyond s
  | .fbArmIdx q n => Sys2Proof.Machine.execFbArmIdx q n s
  | .fbLoad q n => Sys2Proof.Machine.execFbLoad q n s
  | .fbClear q n => Sys2Proof.Machine.execFbClear q n s
  | .fbEnable q n v => Sys2Proof.Machine.execFbEnable q n v s
  | .thallusEvaluation => Sys2Proof.Machine.execThallusEvaluation s
  | .evaluationComplete dt => Sys2Proof.Machine.execEvaluationComplete dt s
  | .evaluationOverrun => Sys2Proof.Machine.execEvaluationOverrun s
  | .safeReportReceive p stamp fcsOk bs => Sys2Proof.Machine.execSafeReportReceive p stamp fcsOk bs s
  | .safetyCycleEnd hs ls oc => Sys2Proof.Machine.execSafetyCycleEnd hs ls oc s
  | .outputDelayExpiry j => Sys2Proof.Machine.execOutputDelayExpiry j s
  | .darkPulse j ok dt => Sys2Proof.Machine.execDarkPulse j ok dt s
  | .testPulse k lows low high dt => Sys2Proof.Machine.execTestPulse k lows low high dt s
  | .discrepancyTimeout ix => Sys2Proof.Machine.execDiscrepancyTimeout ix s
  | .safeInputChange ix level hold dt => Sys2Proof.Machine.execSafeInputChange ix level hold dt s
  | .thallusDecodeFault ch => Sys2Proof.Machine.execThallusDecodeFault ch s
  | .classAFault item => Sys2Proof.Machine.execClassAFault item s
  | .safeCommandSend => Sys2Proof.Machine.execSafeCommandSend s
  | .staled => Sys2Proof.Machine.execStaled s
  | .degradedRecordWrite => Sys2Proof.Machine.execDegradedRecordWrite s
  | .mbOpen q => Sys2Proof.Machine.execMbOpen q s
  | .mbData q v => Sys2Proof.Machine.execMbData q v s
  | .mbCheck q => Sys2Proof.Machine.execMbCheck q s
  | .mbCheckComplete => Sys2Proof.Machine.execMbCheckComplete s
  | .mbCommit q => Sys2Proof.Machine.execMbCommit q s
  | .mbCommitComplete => Sys2Proof.Machine.execMbCommitComplete s
  | .mbClose q => Sys2Proof.Machine.execMbClose q s
  | .mbTimeout => Sys2Proof.Machine.execMbTimeout s
  | .soArm q c => Sys2Proof.Machine.execSoArm q c s
  | .soStop q c => Sys2Proof.Machine.execSoStop q c s
  | .soForce q c => Sys2Proof.Machine.execSoForce q c s
  | .soSample c level => Sys2Proof.Machine.execSoSample c level s
  | .soTriggerEvent kind groups rising dt => Sys2Proof.Machine.execSoTriggerEvent kind groups rising dt s
  | .soCaptureEnd c => Sys2Proof.Machine.execSoCaptureEnd c s
  | .soAutoTimeout c => Sys2Proof.Machine.execSoAutoTimeout c s
  | .soRearm c => Sys2Proof.Machine.execSoRearm c s
  | .soEnable q c v => Sys2Proof.Machine.execSoEnable q c v s
  | .soDisable q c v => Sys2Proof.Machine.execSoDisable q c v s
  | .domainRequest q d v => Sys2Proof.Machine.execDomainRequest q d v s
  | .domainDrainEnd d => Sys2Proof.Machine.execDomainDrainEnd d s
  | .domainStateReached d keepOk => Sys2Proof.Machine.execDomainStateReached d keepOk s
  | .moduleReqTrim q => Sys2Proof.Machine.execModuleReqTrim q s
  | .moduleReqRun q => Sys2Proof.Machine.execModuleReqRun q s
  | .moduleReqHold q => Sys2Proof.Machine.execModuleReqHold q s
  | .moduleReqNap q => Sys2Proof.Machine.execModuleReqNap q s
  | .wakeGpio rising => Sys2Proof.Machine.execWakeGpio rising s
  | .wakeCt => Sys2Proof.Machine.execWakeCt s
  | .napReloadComplete => Sys2Proof.Machine.execNapReloadComplete s
  | .keepAdd q v => Sys2Proof.Machine.execKeepAdd q v s
  | .keepClr q v => Sys2Proof.Machine.execKeepClr q v s
  | .thermalTrim temp => Sys2Proof.Machine.execThermalTrim temp s
  | .thermalTrimExit temp => Sys2Proof.Machine.execThermalTrimExit temp s
  | .thermalThrottle temp => Sys2Proof.Machine.execThermalThrottle temp s
  | .voltStep q ix v => Sys2Proof.Machine.execVoltStep q ix v s
  | .voltCheckPass ix mv => Sys2Proof.Machine.execVoltCheckPass ix mv s
  | .voltCheckFail ix mv => Sys2Proof.Machine.execVoltCheckFail ix mv s
  | .voltTargetWrite q ix v => Sys2Proof.Machine.execVoltTargetWrite q ix v s
  | .avsAdjust ix need => Sys2Proof.Machine.execAvsAdjust ix need s
  | .healthUpdate sl vmin => Sys2Proof.Machine.execHealthUpdate sl vmin s
  | .sliceRetire q v => Sys2Proof.Machine.execSliceRetire q v s
  | .sliceUnretire q v => Sys2Proof.Machine.execSliceUnretire q v s
  | .migGo q v => Sys2Proof.Machine.execMigGo q v s
  | .migArmed => Sys2Proof.Machine.execMigArmed s
  | .migFreezeCheck ok => Sys2Proof.Machine.execMigFreezeCheck ok s
  | .migAbort q v => Sys2Proof.Machine.execMigAbort q v s
  | .imgStage q v => Sys2Proof.Machine.execImgStage q v s
  | .imgStageComplete => Sys2Proof.Machine.execImgStageComplete s
  | .imgSwap q v => Sys2Proof.Machine.execImgSwap q v s
  | .scrubPass mem unit row pct => Sys2Proof.Machine.execScrubPass mem unit row pct s
  | .eccError mem unit region adr correctable fetch core => Sys2Proof.Machine.execEccError mem unit region adr correctable fetch core s
  | .journalEvent ev blk code cls detail => Sys2Proof.Machine.execJournalEvent ev blk code cls detail s
  | .journalWrite => Sys2Proof.Machine.execJournalWrite s
  | .journalSelect q v => Sys2Proof.Machine.execJournalSelect q v s
  | .wdogKick q v => Sys2Proof.Machine.execWdogKick q v s
  | .wdogKeyTimeout => Sys2Proof.Machine.execWdogKeyTimeout s
  | .wdogEarly => Sys2Proof.Machine.execWdogEarly s
  | .wdogTimeout => Sys2Proof.Machine.execWdogTimeout s
  | .domainForceOff q v => Sys2Proof.Machine.execDomainForceOff q v s
  | .chainEnable q heard twice agree v => Sys2Proof.Machine.execChainEnable q heard twice agree v s
  | .bridgeTokenReceive t slot tag payload => Sys2Proof.Machine.execBridgeTokenReceive t slot tag payload s
  | .replicationApply round lines regs => Sys2Proof.Machine.execReplicationApply round lines regs s
  | .takeover => Sys2Proof.Machine.execTakeover s
  | .chainLost => Sys2Proof.Machine.execChainLost s
  | .mailboxDeposit q v => Sys2Proof.Machine.execMailboxDeposit q v s
  | .doorbell q v => Sys2Proof.Machine.execDoorbell q v s
  | .bar2Access write off len data => Sys2Proof.Machine.execBar2Access write off len data s
  | .mntRead wa => Sys2Proof.Machine.execMntRead wa s
  | .mntWrite wa v complete => Sys2Proof.Machine.execMntWrite wa v complete s
  | .boot => Sys2Proof.Machine.execBoot s
  | .imgWrite q v => Sys2Proof.Machine.execImgWrite q v s
  | .imgVerify q v => Sys2Proof.Machine.execImgVerify q v s
  | .imgBoot q v => Sys2Proof.Machine.execImgBoot q v s
  | .setOwner q => Sys2Proof.Machine.execSetOwner q s
  | .lock q => Sys2Proof.Machine.execLock q s
  | .challenge q => Sys2Proof.Machine.execChallenge q s
  | .lcVerify q => Sys2Proof.Machine.execLcVerify q s
  | .password q => Sys2Proof.Machine.execPassword q s
  | .relock q => Sys2Proof.Machine.execRelock q s
  | .setPw q => Sys2Proof.Machine.execSetPw q s
  | .accessExpiry => Sys2Proof.Machine.execAccessExpiry s
  | .authWaitEnd => Sys2Proof.Machine.execAuthWaitEnd s
  | .powerUp => Sys2Proof.Machine.execPowerUp s
  | .mrstReset => Sys2Proof.Machine.execMrstReset s
  | .vin12Loss => Sys2Proof.Machine.execVin12Loss s
  | .vsioLow => Sys2Proof.Machine.execVsioLow s
  | .vsioReturn => Sys2Proof.Machine.execVsioReturn s
  | .syncFrameReceive p link dt fcsOk bs => Sys2Proof.Machine.execSyncFrameReceive p link dt fcsOk bs s
  | .fbFastEdge n dt => Sys2Proof.Machine.execFbFastEdge n dt s
  | .functionLevelReset => Sys2Proof.Machine.execFunctionLevelReset s
  | .imgCommandComplete => Sys2Proof.Machine.execImgCommandComplete s
  | .journalLoadComplete => Sys2Proof.Machine.execJournalLoadComplete s
  | .supercapExhausted => Sys2Proof.Machine.execSupercapExhausted s

end Sys2Proof.Machine
end

