-- ==== Sys2Proof/Machine/Step.lean ====
section
/-!
DEFINITION. One step of the block: the command at the front of the queue, or one TIME tick while none waits.
-/

namespace Sys2Proof.Machine

/-- One step. With a command waiting, its effect on the state with the rest of the queue; with none, one TIME tick passes
and nothing else happens (assumption 1). Log 1 (DESIGN CHOICE, unsafe), 95 (DESIGN CHOICE, unsafe). -/
def step (s : State) : Host.Outcome State Fault Refusal :=
  match s.pending with
  | [] => .next (s.advance 1)
  | c :: rest => exec c { s with pending := rest }

/-- The state with the command that a word spells put at the front of its queue; unchanged where the word spells none.
Log 3 (DESIGN CHOICE, unsafe). -/
def State.withFetchWord (s : State) (nbits w : Nat) : State :=
  match decodeTableWord nbits w with
  | some c => { s with pending := c :: s.pending }
  | none => s

end Sys2Proof.Machine
end

