-- ==== Sys2Proof/Safety.lean ====
section
/-!
DEFINITION. What the statements call a sound state, a command that is let through, and a core that issues.
-/

namespace Sys2Proof.Machine

/-! ## The invariant -/

/-- Every byte memory stands in its canonical form: addresses strictly rising, no listed byte equal to what an unlisted
one reads as. -/
def MemState.wf (m : MemState) : Bool :=
  Memory.wf m.sram && Memory.wf m.tcm && Memory.wf m.win && Memory.wf m.shared && Memory.wf m.dram &&
    Memory.wf m.img && Memory.wf m.safety

/-- The lifecycle is one of its three states; from OWNER-OPEN on an owner key of 64 bytes is stored, in FIELD-LOCKED a
password too; authentication grants SERVICE or FULL in FIELD-LOCKED alone (R598, R601, R603). -/
def LcState.ok (l : LcState) : Bool :=
  decide (l.state ≤ 2) && (decide (l.state = 0) || decide (l.owner.length = 64)) &&
    (decide (l.state ≠ 2) || l.pw.isSome) && (decide (l.state = 2) || decide (l.granted = 0)) && decide (l.granted ≤ 2)

/-- What every step keeps: the memories and the register file canonical, the lifecycle in order, at most 256 journal
entries waiting (R563). -/
def State.sound (s : State) : Bool :=
  s.mem.wf && Tab.wf regDefault s.regs && s.lc.ok && decide (s.jnl.queue.length ≤ 256)

/-! ## Who is let through -/

/-- A requester's write of an instance of a register is let through: the port is there, the access level admits it, the
instance exists, and its domain answers (R5, R518, R519, R599, R609). -/
def State.grants (s : State) (q : Requester) (r : Reg) (i : Nat := 0) (j : Nat := 0) : Bool :=
  s.portUp q && !(decide (q = .mnt) && decide (s.accessLevel = 0) && !mntAlways r) &&
    !(decide (q = .debug) && decide (s.accessLevel ≠ 2)) && decide (i < r.row.count) && decide (j < r.row.count2) &&
    s.answers (r.domain i)

/-! ## Cores -/

/-- Core `n` may execute the instruction at its PC: its slice is ON, it is in RUN and not frozen, no debugger steps it, and
it may fetch at its PC (R211). -/
def State.fetches (s : State) (n : Nat) : Bool := s.issues n && !(s.core n).haltReq && fetchable (s.core n).pc.toNat

/-- Core `n` is at a bundle boundary and issues the instruction at its PC: no asynchronous exception is due (R211, R217). -/
def State.ready (s : State) (n : Nat) : Bool :=
  s.fetches n && (s.core n).pair.isNone && !(s.core n).budgetDue && !s.flag F.VC_CTLn_HALT n

/-- Core `n` executes the class-B instruction at its PC: as the second of an open bundle, or at a bundle boundary (R183). -/
def State.readyB (s : State) (n : Nat) : Bool :=
  s.fetches n && ((s.core n).pair.isSome || (!(s.core n).budgetDue && !s.flag F.VC_CTLn_HALT n))

/-- Nothing but core `n` differs, which is now `d`. -/
def State.onlyCore (s t : State) (n : Nat) (d : Core) : Prop :=
  t = { s with cores := t.cores } ∧ t.core n = d ∧ ∀ m, m ≠ n → t.core m = s.core m

/-- `d` is `c` with general register `k` written, and nothing else; a write of g0 is discarded (R176). -/
def Core.wroteG (c d : Core) (k : Nat) (v : Word) : Prop :=
  d = { c with g := d.g } ∧ d.gr k = (if k % 32 = 0 then 0 else v) ∧ ∀ m, m % 32 ≠ k % 32 → d.gr m = c.gr m

/-- `d` is `c` with rotating register wk written, and nothing else. -/
def Core.wroteW (c d : Core) (k : Nat) (v : Word) : Prop :=
  d = { c with w := d.w } ∧ d.wr k = v ∧ ∀ m, (m + c.rrb) % 64 ≠ (k + c.rrb) % 64 → d.wr m = c.wr m

/-- `d` is `c` with predicate pk written, and nothing else; a write of p0 is discarded (R176). -/
def Core.wroteP (c d : Core) (k : Nat) (b : Bool) : Prop :=
  d = { c with p := d.p } ∧ d.pr k = (decide (k % 8 = 0) || b) ∧ ∀ m, m % 8 ≠ k % 8 → d.pr m = c.pr m

/-- `d` is `c` with accumulator k written, and nothing else. -/
def Core.wroteA (c d : Core) (k : Nat) (v : Int) : Prop :=
  d = { c with acc := d.acc } ∧ d.ac k = v ∧ ∀ m, m % 8 ≠ k % 8 → d.ac m = c.ac m

/-- `d` is `c` with accumulator k written, saturated at the limits of 72 bits; what is limited sets FLAGS.AOVF and counts
(R197, R199). -/
def Core.wroteAcc (c d : Core) (k : Nat) (v : Int) : Prop :=
  let lim := max (-(2 ^ 71)) (min (2 ^ 71 - 1) v)
  Core.wroteA (if lim = v then c else { c with aovf := true, aovfCnt := satInc 32 c.aovfCnt }) d k lim

/-- `c` after a result that did not fit in 32 bits: FLAGS.SAT set and counted (R191, R199). -/
def Core.clipped (c : Core) (i : Int) : Core :=
  if -(2 ^ 31) ≤ i ∧ i < 2 ^ 31 then c else { c with sat := true, satCnt := satInc 32 c.satCnt }

/-- A number limited to 32 bits, signed. -/
def limit32 (i : Int) : Word := BitVec.ofInt 32 (max (-(2 ^ 31)) (min (2 ^ 31 - 1) i))

/-- Core `n` went past an instruction that issues alone, whose effect made `d` of it. -/
def State.retired (s t : State) (n : Nat) (d : Core) : Prop := s.onlyCore t n { d with pc := (s.core n).pc + 4 }

/-- Core `n` went past a class-A instruction that writes the registers `wr`, whose effect made `d` of it, `jump` the target
of a taken branch: the class-B instruction that follows in memory and reads none of them comes next, under the rotation
base of the bundle, and what follows the bundle waits for it; else the core is where the instruction leads (R179, R183). -/
def State.led (s t : State) (n : Nat) (wr : List RegName) (jump : Option Word) (d : Core) : Prop :=
  let c := s.core n
  s.onlyCore t n (if s.pairs n c.pc wr then
      { d with pc := c.pc + 4, rrb := c.rrb, pair := some { next := jump.getD (c.pc + 8), rrb := d.rrb } }
    else { d with pc := jump.getD (c.pc + 4) })

/-- `d` past the class-B instruction at the PC of `c`: past its bundle, to where the class-A instruction leads, with the
rotation base that one leaves, or past it alone (R179, R183). -/
def Core.past (d c : Core) : Core :=
  match c.pair with
  | some p => { d with pc := p.next, rrb := p.rrb, pair := none }
  | none => { d with pc := c.pc + 4 }

/-- Core `n` went past a class-B instruction, whose effect made `d` of it: past its bundle, or past it alone
(R179, R183). -/
def State.ended (s t : State) (n : Nat) (d : Core) : Prop :=
  s.onlyCore t n (d.past (s.core n))

/-- Core `n` issues `i` alone and goes past it as `d`. -/
def State.passes (s : State) (i : Instr) (n : Nat) (d : Core) : Prop := ∃ t, exec i s = .next t ∧ s.retired t n d

/-- Core `n` issues `i` alone and goes past it as `c` with general register `k` written. -/
def State.givesG (s : State) (i : Instr) (n : Nat) (c : Core) (k : Nat) (v : Word) : Prop :=
  ∃ t d, exec i s = .next t ∧ c.wroteG d k v ∧ s.retired t n d

/-- Core `n` issues the class-A instruction `i` and goes past it as `c` with general register `k` written. -/
def State.leadsG (s : State) (i : Instr) (n : Nat) (c : Core) (k : Nat) (v : Word) : Prop :=
  ∃ t d, exec i s = .next t ∧ c.wroteG d k v ∧ s.led t n [.g k] none d

/-- The same with rotating register wk written. -/
def State.leadsW (s : State) (i : Instr) (n : Nat) (c : Core) (k : Nat) (v : Word) : Prop :=
  ∃ t d, exec i s = .next t ∧ c.wroteW d k v ∧ s.led t n [.w k] none d

/-- The same with predicate pk written. -/
def State.leadsP (s : State) (i : Instr) (n k : Nat) (b : Bool) : Prop :=
  ∃ t d, exec i s = .next t ∧ (s.core n).wroteP d k b ∧ s.led t n [.p k] none d

/-- Core `n` issues the class-B instruction `i` and goes past it as `c` with general register `k` written. -/
def State.endsG (s : State) (i : Instr) (n : Nat) (c : Core) (k : Nat) (v : Word) : Prop :=
  ∃ t d, exec i s = .next t ∧ c.wroteG d k v ∧ s.ended t n d

/-- The same with rotating register wk written. -/
def State.endsW (s : State) (i : Instr) (n : Nat) (c : Core) (k : Nat) (v : Word) : Prop :=
  ∃ t d, exec i s = .next t ∧ c.wroteW d k v ∧ s.ended t n d

/-- The same with accumulator k written, saturated to 72 bits (R197). -/
def State.endsA (s : State) (i : Instr) (n k : Nat) (v : Int) : Prop :=
  ∃ t d, exec i s = .next t ∧ (s.core n).wroteAcc d k v ∧ s.ended t n d

/-- Core `n`, in TASK mode, has taken the exception `cause` with EPC `epc`; `ea` is EADDR where R212 gives one. The
class-A instruction of an open bundle has completed, with its rotation (R184, R212). -/
def State.entered (s t : State) (n cause : Nat) (epc : Word) (ea : Option Word) : Prop :=
  t = { s with cores := t.cores, freeCount := t.freeCount } ∧ (∀ m, m ≠ n → t.core m = s.core m) ∧
    t.core n = { (s.core n).dropPair with
      run := .run, handler := true, epc := epc, ecause := BitVec.ofNat 32 cause, eaddr := (t.core n).eaddr,
      estatus := BitVec.ofNat 32 (s.coreStatus n), pc := (s.core n).vbar + BitVec.ofNat 32 (cause * 0x40), twait := none,
      budgetDue := (t.core n).budgetDue, excCnt := satInc 8 (s.core n).excCnt, lastCause := cause, gateAt := none,
      cycOff := (t.core n).cycOff } ∧
    (∀ a, ea = some a → (t.core n).eaddr = a) ∧
    (cause ≠ 0x10 → (t.core n).budgetDue = (s.core n).budgetDue) ∧
    ((s.core n).gateAt = none → (t.core n).cycOff = (s.core n).cycOff)

/-- Core `n` issues `i`, which raises an exception. -/
def State.raises (s : State) (i : Instr) (n cause : Nat) (epc : Word) (ea : Option Word) : Prop :=
  ∃ t, exec i s = .next t ∧ s.entered t n cause epc ea

/-! ## Memory -/

/-- A core address lies in a memory that answers: the core's TCM with its code window, its slice-shared SRAM, spine SRAM,
or DRAM while its domain is ON (R181, R182). -/
def State.inMemory (s : State) (n a : Nat) : Bool :=
  match s.place n a with
  | .nowhere | .reg _ => false
  | .dram _ => s.domOn 22
  | _ => true

/-- The same, without the code window, which no core writes (R553). -/
def State.inWritable (s : State) (n a : Nat) : Bool :=
  s.inMemory n a && !(match s.place n a with
    | .win _ => true
    | _ => false)

/-- The little-endian word of `size` bytes that core `n` reads at an address. -/
def State.wordAt (s : State) (n a size : Nat) : Nat := ofLe (s.placeBytes (s.place n a) size)

/-- One byte of a memory holds `bs` from offset `o` on, and what `m` holds elsewhere; with no offset, `m` throughout. -/
def overlaid (m m' : List Host.Cell) (o : Option Nat) (bs : List Byte) : Prop :=
  ∀ x, Mem.read m' x = match o with
    | some o => if o ≤ x ∧ x < o + bs.length then bs.getD (x - o) 0 else Mem.read m x
    | none => Mem.read m x

/-- `t` holds the bytes at a place, and every other byte of memory reads as in `s`. -/
def State.stored (s t : State) (p : Place) (bs : List Byte) : Prop :=
  overlaid s.mem.tcm t.mem.tcm (match p with | .tcm o => some o | _ => none) bs ∧
  overlaid s.mem.shared t.mem.shared (match p with | .shared o => some o | _ => none) bs ∧
  overlaid s.mem.sram t.mem.sram (match p with | .sram o => some o | _ => none) bs ∧
  overlaid s.mem.dram t.mem.dram (match p with | .dram o => some o | _ => none) bs ∧
  t.mem.win = s.mem.win ∧ t.mem.img = s.mem.img ∧ t.mem.safety = s.mem.safety

/-- `d` is `c` with IDX of circular set `k` moved by `off` elements of `size` bytes, modulo LEN, in a circular form; `c`
itself otherwise (R194). -/
def Core.stepped (c d : Core) (circ : Bool) (k : Nat) (off : Int) (size : Nat) : Prop :=
  d = { c with cb := d.cb } ∧ ∀ k' j, j < 3 → d.cbr k' j =
    if circ = true ∧ k' % 8 = k % 8 ∧ j = 2 then
      BitVec.ofInt 32 ((((c.cbr k 2).toNat : Int) + off * size) % ((c.cbr k 1).toNat : Int))
    else c.cbr k' j

/-- Element `k` of the circular buffer of set `cb`, from IDX on (R194, R202): its address. -/
def Core.element (c : Core) (cb k : Nat) : Word :=
  c.cbr cb 0 + (if k = 0 then c.cbr cb 2
    else BitVec.ofNat 32 (((c.cbr cb 2).toNat + 4 * k) % (c.cbr cb 1).toNat))

/-! ## Schedule modes -/

/-- Mode `m` meets the conditions 2 to 10 of R122, with R117 and R118: of each of its entries, of every two of them, and of
the cold-start candidates of each port. -/
def State.modeSound (s : State) (m : Nat) : Prop :=
  let l := s.schedEntries m
  let base := s.fd F.TIM_CYCLE_BASE
  s.fd F.KL_MODE_STATm_LEN m ≤ 4096 ∧
  (∀ e ∈ l,
    let speed := s.fd F.KL_PORTn_CTL_SPEED e.port
    (e.node ≤ 2047 ∨ e.node = 0xFFFF) ∧ e.rate ≤ 4 ∧ e.phase < 2 ^ e.rate ∧ e.kind ≤ 4 ∧ e.profile ≤ 3 ∧
    e.slot < slotCount speed base ∧ ¬ (e.port % 2 = 1 ∧ s.flag F.KL_PORTn_CTL_RING (e.port - 1) = true) ∧
    (0 < e.rate → s.drivesAxis e.node = false) ∧ (e.safe = true → e.rate ≤ 2) ∧ e.hops ≤ 64 ∧
    (∀ r ∈ (s.node e.node).result, e.node ≠ 0xFFFF →
      r.delayA + 1000 * 256 ≤ (uplinkStart base + e.slot * slotPitch speed base) * 256) ∧
    (l.filter (fun x => x.cold && x.port = e.port)).length ≤ 4) ∧
  l.Pairwise (fun a b => (a.node = b.node → a.node = 0xFFFF) ∧
    (a.port = b.port → a.slot = b.slot → a.rate = b.rate ∧ a.phase ≠ b.phase) ∧
    (a.cold = true → b.cold = true → a.port = b.port → a.rank ≠ b.rank))

/-! ## Registers -/

/-- The registers that an interrupt vector changes: HS_VPEND and HS_VCNT (R584). -/
def vectorReg (off : Nat) : Bool := decide (0x2000100 ≤ off) && decide (off < 0x2000300)

/-- Every bit of the register file reads as before, but for the fields listed with their instances and the registers for
which `own` holds. -/
def State.onlyFields (s t : State) (own : Nat → Bool) (fs : List (Field × Nat)) : Prop :=
  ∀ off b, own off = false → (∀ f ∈ fs, off = f.1.reg.addr f.2 0 → b < f.1.lo ∨ f.1.hi < b) →
    (Tab.get regDefault t.regs off).getLsbD b = (Tab.get regDefault s.regs off).getLsbD b

/-- Nothing differs but the fields listed, and the note of which W1C bits the present tick has set (R7). -/
def State.sets (s t : State) (fs : List (Field × Nat)) : Prop :=
  t = { s with regs := t.regs, time := { s.time with raised := t.time.raised } } ∧ s.onlyFields t (fun _ => false) fs

/-- Nothing differs but the fields listed, the journal, the interrupt vectors that a journal entry pends, and the note of
which W1C bits the present tick has set (R7). -/
def State.notes (s t : State) (fs : List (Field × Nat)) : Prop :=
  t = { s with regs := t.regs, jnl := t.jnl, hs := { s.hs with msix := t.hs.msix },
               time := { s.time with raised := t.time.raised } } ∧ s.onlyFields t vectorReg fs

end Sys2Proof.Machine
end

