-- ==== Sys2Proof/Certificates/Slice0/Obligations.lean ====
section
/-!
DEFINITION. The statements about the model of the NV256 module.
-/

open Sys2Proof Sys2Proof.Machine

/-! ## Velist -/

/-- ADD to CLZ (R191): while predicate pg is 1, gd receives the result and nothing else but PC changes; a write of g0 is
discarded (R176); a result limited to 32 bits sets FLAGS.SAT and counts in SAT_CNT. -/
def Obligations.RegisterAluWrites : Prop :=
  (∀ (s : State) (n gd ga gb pg : Nat), s.ready n = true → (s.core n).pr pg = true →
    let c := s.core n
    let a := c.gr ga
    let b := c.gr gb
    s.leadsG (.add n gd ga gb pg) n c gd (a + b) ∧ s.leadsG (.sub n gd ga gb pg) n c gd (a - b) ∧
    s.leadsG (.and n gd ga gb pg) n c gd (a &&& b) ∧ s.leadsG (.or n gd ga gb pg) n c gd (a ||| b) ∧
    s.leadsG (.xor n gd ga gb pg) n c gd (a ^^^ b) ∧
    s.leadsG (.shl n gd ga gb pg) n c gd (a <<< (b.toNat % 32)) ∧
    s.leadsG (.shr n gd ga gb pg) n c gd (a >>> (b.toNat % 32)) ∧
    s.leadsG (.sra n gd ga gb pg) n c gd (a.sshiftRight (b.toNat % 32)) ∧
    s.leadsG (.mul n gd ga gb pg) n c gd (a * b) ∧
    s.leadsG (.mulh n gd ga gb pg) n c gd ((a.signExtend 64 * b.signExtend 64).extractLsb' 32 32) ∧
    s.leadsG (.mulhu n gd ga gb pg) n c gd ((a.zeroExtend 64 * b.zeroExtend 64).extractLsb' 32 32)) ∧
  (∀ (s : State) (n gd ga gb pg : Nat), s.ready n = true → (s.core n).pr pg = true →
    let c := s.core n
    let a := c.gr ga
    let b := c.gr gb
    s.leadsG (.adds n gd ga gb pg) n (c.clipped (a.toInt + b.toInt)) gd (limit32 (a.toInt + b.toInt)) ∧
    s.leadsG (.subs n gd ga gb pg) n (c.clipped (a.toInt - b.toInt)) gd (limit32 (a.toInt - b.toInt)) ∧
    s.leadsG (.abs n gd ga pg) n (c.clipped (max a.toInt (-a.toInt))) gd (limit32 (max a.toInt (-a.toInt))) ∧
    s.leadsG (.min n gd ga gb pg) n c gd (BitVec.ofInt 32 (min a.toInt b.toInt)) ∧
    s.leadsG (.max n gd ga gb pg) n c gd (BitVec.ofInt 32 (max a.toInt b.toInt)) ∧
    s.leadsG (.minu n gd ga gb pg) n c gd (BitVec.ofNat 32 (min a.toNat b.toNat)) ∧
    s.leadsG (.maxu n gd ga gb pg) n c gd (BitVec.ofNat 32 (max a.toNat b.toNat)) ∧
    ∃ z, z ≤ 32 ∧ a.toNat < 2 ^ (32 - z) ∧ (z < 32 → 2 ^ (31 - z) ≤ a.toNat) ∧
      s.leadsG (.clz n gd ga pg) n c gd (BitVec.ofNat 32 z))

/-- ADDI, ANDI, ORI, XORI, LUI and the defined forms of SHI (R189). -/
def Obligations.ImmediateAluWrites : Prop :=
  ∀ (s : State) (n gd ga imm sh : Nat), s.ready n = true → sh < 32 →
    let c := s.core n
    let a := c.gr ga
    let u : Word := BitVec.ofNat 32 (imm % 2 ^ 16)
    s.leadsG (.addi n gd ga imm) n c gd (a + (BitVec.ofNat 16 imm).signExtend 32) ∧
    s.leadsG (.andi n gd ga imm) n c gd (a &&& u) ∧ s.leadsG (.ori n gd ga imm) n c gd (a ||| u) ∧
    s.leadsG (.xori n gd ga imm) n c gd (a ^^^ u) ∧ s.leadsG (.lui n gd imm) n c gd (u <<< 16) ∧
    s.leadsG (.shi n gd ga 0 sh) n c gd (a <<< sh) ∧ s.leadsG (.shi n gd ga 1 sh) n c gd (a >>> sh) ∧
    s.leadsG (.shi n gd ga 2 sh) n c gd (a.sshiftRight sh)

/-- CMP, CMPI and PLOG set pd alone, a write of p0 is discarded (R176); the rotating-register group, whose wk is physical
register (k + RRB) mod 64 (R177); their malformed forms raise ILLEGAL (R192). -/
def Obligations.ComparesAndRotatingGroup : Prop :=
  (∀ (s : State) (n pd ga gb pg imm pa pb : Nat), s.ready n = true →
    let c := s.core n
    let holds (x y : Word) : List Bool :=
      [x == y, x != y, x.slt y, !x.slt y, x.ult y, !x.ult y, x.sle y, !x.sle y]
    (∀ cond, cond < 8 →
      (c.pr pg = true → s.leadsP (.cmp n pd ga gb pg cond) n pd ((holds (c.gr ga) (c.gr gb)).getD cond false)) ∧
      s.leadsP (.cmpi n pd cond ga imm) n pd
        ((holds (c.gr ga) ((BitVec.ofNat 15 imm).signExtend 32)).getD cond false)) ∧
    ∀ func, func < 7 → s.leadsP (.plog n pd pa pb func) n pd
      (([c.pr pa && c.pr pb, c.pr pa || c.pr pb, xor (c.pr pa) (c.pr pb), c.pr pa && !c.pr pb, !c.pr pa, true,
          false] : List Bool).getD func false)) ∧
  (∀ (s : State) (n wd wa wb g pg : Nat), s.ready n = true → (s.core n).pr pg = true → g < 32 →
    let c := s.core n
    let a := c.wr wa
    let b := c.wr wb
    s.leadsW (.wadd n wd wa wb pg) n c wd (a + b) ∧ s.leadsW (.wsub n wd wa wb pg) n c wd (a - b) ∧
    s.leadsW (.wadds n wd wa wb pg) n (c.clipped (a.toInt + b.toInt)) wd (limit32 (a.toInt + b.toInt)) ∧
    s.leadsW (.wsubs n wd wa wb pg) n (c.clipped (a.toInt - b.toInt)) wd (limit32 (a.toInt - b.toInt)) ∧
    s.leadsW (.wneg n wd wa pg) n c wd (0 - a) ∧ s.leadsW (.wmov n wd wa pg) n c wd a ∧
    s.leadsW (.wfromg n wd g pg) n c wd (c.gr g) ∧ s.leadsG (.wtog n g wa pg) n c g a) ∧
  (∀ (s : State) (n a b c k pg : Nat), s.ready n = true → (s.core n).handler = false →
    ∀ i ∈ [Instr.cmp n a b c pg (8 + k), .plog n a b c 7, .wfromg n a (32 + b) pg, .wtog n (32 + a) b pg],
      s.raises i n 0x04 (s.core n).pc none)

/-- MAC, MSU and MUL add, subtract or set the product of R196, single or dual, signed or unsigned in gb; ACCWR, ACCSHR and
ACCCLR set the accumulator; it saturates at 72 bits (R197); ACCRD rounds by rnd, limits with sat, and writes the register
F and rt name (R198); a dual form past w62 or g30, rnd 3, and rt[5] = 1 with F = 0 raise ILLEGAL. -/
def Obligations.Accumulators : Prop :=
  (∀ (s : State) (n acc wa gb pg : Nat) (d u : Bool), s.readyB n = true → (s.core n).pr pg = true →
    (d = true → gb ≤ 30 ∧ wa ≤ 62) →
    let c := s.core n
    let coef (k : Nat) : Int := if u then (c.gr k).toNat else (c.gr k).toInt
    let p : Int := (c.wr wa).toInt * coef gb + if d then (c.wr (wa + 1)).toInt * coef (gb + 1) else 0
    s.endsA (.mac n acc wa gb pg d u) n acc (c.ac acc + p) ∧ s.endsA (.msu n acc wa gb pg d u) n acc (c.ac acc - p) ∧
    s.endsA (.mxMul n acc wa gb pg d u) n acc p) ∧
  (∀ (s : State) (n acc rt sh pg : Nat) (f : Bool), s.readyB n = true → (s.core n).pr pg = true → sh < 64 → rt < 64 →
    (f = false → rt < 32) →
    let c := s.core n
    let v := c.ac acc
    let r := if f then c.wr rt else c.gr rt
    s.endsA (.accwr n acc f rt sh pg) n acc (r.toInt * 2 ^ sh) ∧ s.endsA (.accshr n acc sh pg) n acc (v / 2 ^ sh) ∧
    s.endsA (.accclr n acc pg) n acc 0 ∧
    ∀ rnd, rnd < 3 →
      let x : Int := if sh = 0 ∨ rnd = 0 then v / 2 ^ sh
        else if rnd = 1 then (v + 2 ^ (sh - 1)) / 2 ^ sh
        else (v + 2 ^ (sh - 1) - 1 + v / 2 ^ sh % 2) / 2 ^ sh
      (f = false → s.endsG (.accrd n acc f rt sh rnd false pg) n c rt (BitVec.ofInt 32 x) ∧
        s.endsG (.accrd n acc f rt sh rnd true pg) n (c.clipped x) rt (limit32 x)) ∧
      (f = true → s.endsW (.accrd n acc f rt sh rnd false pg) n c rt (BitVec.ofInt 32 x) ∧
        s.endsW (.accrd n acc f rt sh rnd true pg) n (c.clipped x) rt (limit32 x))) ∧
  (∀ (s : State) (n a b c pg : Nat) (f u : Bool), s.readyB n = true → (s.core n).handler = false →
    ∀ i ∈ [Instr.mac n a 63 b pg true u, .mac n a b 31 pg true u, .msu n a 63 b pg true u, .msu n a b 31 pg true u,
        .mxMul n a 63 b pg true u, .mxMul n a b 31 pg true u, .accrd n a f b c 3 u pg, .accrd n a false (32 + b) c 0 u pg,
        .accwr n a false (32 + b) c pg],
      s.raises i n 0x04 (s.core n).pc none)

/-- A predicated instruction whose pg is 0 writes nothing, updates no index and sets no flag: the core goes past it
(R190). -/
def Obligations.FalsePredicateWritesNothing : Prop :=
  ∀ (s : State) (n a b d pg : Nat) (f u : Bool) (sh rnd cond : Nat), (s.core n).pr pg = false →
    rnd < 3 → cond < 8 → (f = false → b < 32) → a < 32 →
    (s.ready n = true →
      (∀ i ∈ [Instr.add n d a b pg, .sub n d a b pg, .and n d a b pg, .or n d a b pg, .xor n d a b pg, .shl n d a b pg,
          .shr n d a b pg, .sra n d a b pg, .mul n d a b pg, .mulh n d a b pg, .mulhu n d a b pg, .adds n d a b pg,
          .subs n d a b pg, .min n d a b pg, .max n d a b pg, .minu n d a b pg, .maxu n d a b pg, .abs n d a pg,
          .clz n d a pg, .fadd n d a b pg, .fsub n d a b pg, .fmul n d a b pg, .fdiv n d a b pg, .fsqrt n d a pg,
          .fmin n d a b pg, .fmax n d a b pg, .fabs n d a pg, .fneg n d a pg, .feq n d a b pg, .flt n d a b pg,
          .fle n d a b pg, .fcvtSW n d a pg, .fcvtWS n d a pg, .fcvtSQ n d a pg, .fcvtQS n d a pg, .jr n d a pg],
        ∃ t, exec i s = .next t ∧ s.led t n [.g d] none (s.core n)) ∧
      (∀ i ∈ [Instr.wadd n d a b pg, .wsub n d a b pg, .wadds n d a b pg, .wsubs n d a b pg, .wneg n d a pg,
          .wmov n d a pg, .wfromg n d a pg], ∃ t, exec i s = .next t ∧ s.led t n [.w d] none (s.core n)) ∧
      (∃ t, exec (.wtog n a d pg) s = .next t ∧ s.led t n [.g a] none (s.core n)) ∧
      ∃ t, exec (.cmp n d a b pg cond) s = .next t ∧ s.led t n [.p d] none (s.core n)) ∧
    (s.readyB n = true →
      ∀ i ∈ [Instr.mac n d b a pg false u, .msu n d b a pg false u, .mxMul n d b a pg false u,
          .accrd n d f b sh rnd u pg, .accwr n d f b sh pg, .accshr n d sh pg, .accclr n d pg],
        ∃ t, exec i s = .next t ∧ s.ended t n (s.core n))

/-- FADD to FSQRT write the rounded word and accumulate the exception flags, and every NaN result of the binary32 unit is
0x7FC0_0000 (R204). Where IEEE 754 leaves the detection of tininess open, the underflow flag is a free value of the model. -/
def Obligations.FloatArithmetic : Prop :=
  (∀ (s : State) (n gd ga gb pg : Nat), s.ready n = true → (s.core n).pr pg = true →
    let c := s.core n
    let a := Flt.of (c.gr ga).toNat
    let b := Flt.of (c.gr gb).toNat
    let rm := bits c.fpsr.toNat 9 8
    ∀ e ∈ [(Instr.fadd n gd ga gb pg, fltAdd rm a b), (.fsub n gd ga gb pg, fltAdd rm a b.neg),
        (.fmul n gd ga gb pg, fltMul rm a b), (.fdiv n gd ga gb pg, fltDiv rm a b), (.fsqrt n gd ga pg, fltSqrt rm a)],
      ∃ t d k, exec e.1 s = .next t ∧ (k = 0 ∨ (e.2.ufOpen = true ∧ k = fUF)) ∧
        Core.wroteG { c with fpsr := c.fpsr ||| BitVec.ofNat 32 (e.2.flags + k) } d gd (BitVec.ofNat 32 e.2.word) ∧
        State.led { s with freeCount := t.freeCount } t n [.g gd] none d ∧ (e.2.ufOpen = false → t.freeCount = s.freeCount)) ∧
  (∀ (s : State) (n gd ga gb pg : Nat), s.ready n = true → (s.core n).pr pg = true → gd % 32 ≠ 0 →
    ∀ i ∈ [Instr.fadd n gd ga gb pg, .fsub n gd ga gb pg, .fmul n gd ga gb pg, .fdiv n gd ga gb pg, .fsqrt n gd ga pg,
        .fmin n gd ga gb pg, .fmax n gd ga gb pg, .fabs n gd ga pg, .fneg n gd ga pg, .feq n gd ga gb pg,
        .flt n gd ga gb pg, .fle n gd ga gb pg, .fcvtSW n gd ga pg, .fcvtSQ n gd ga pg],
      ∃ t, exec i s = .next t ∧
        ((Flt.of ((t.core n).gr gd).toNat).isNan = true → (t.core n).gr gd = 0x7FC00000#32))

/-- FMIN, FMAX, FABS and FNEG: of two numbers the smaller or the larger one, with its sign cleared or flipped; which zero of
two with different signs, and which result with one NaN operand, is a free value of the model. FEQ, FLT and FLE give 1 or
0, 0 with a NaN operand; FLT and FLE then set NV. The conversions round by RM and saturate; a NaN gives 0 and sets NV
(R204). -/
def Obligations.FloatComparesAndConverts : Prop :=
  (∀ (s : State) (n gd ga gb pg : Nat), s.ready n = true → (s.core n).pr pg = true →
    let c := s.core n
    let wa := c.gr ga
    let wb := c.gr gb
    let a := Flt.of wa.toNat
    let b := Flt.of wb.toNat
    (a.isNan = false → b.isNan = false → fltLess a b = true →
      s.leadsG (.fmin n gd ga gb pg) n c gd wa ∧ s.leadsG (.fmax n gd ga gb pg) n c gd wb ∧
      s.leadsG (.fmin n gd gb ga pg) n c gd wa ∧ s.leadsG (.fmax n gd gb ga pg) n c gd wb) ∧
    (∃ t d v, exec (.fmin n gd ga gb pg) s = .next t ∧ (v = wa ∨ v = wb ∨ v = 0x7FC00000#32) ∧
      Core.wroteG { c with fpsr := d.fpsr } d gd v ∧ State.led { s with freeCount := t.freeCount } t n [.g gd] none d) ∧
    (∃ t d v, exec (.fmax n gd ga gb pg) s = .next t ∧ (v = wa ∨ v = wb ∨ v = 0x7FC00000#32) ∧
      Core.wroteG { c with fpsr := d.fpsr } d gd v ∧ State.led { s with freeCount := t.freeCount } t n [.g gd] none d) ∧
    s.leadsG (.fabs n gd ga pg) n c gd (if a.isNan then 0x7FC00000#32 else wa &&& 0x7FFFFFFF#32) ∧
    s.leadsG (.fneg n gd ga pg) n c gd (if a.isNan then 0x7FC00000#32 else wa ^^^ 0x80000000#32)) ∧
  (∀ (s : State) (n gd ga gb pg : Nat), s.ready n = true → (s.core n).pr pg = true →
    let c := s.core n
    let a := Flt.of (c.gr ga).toNat
    let b := Flt.of (c.gr gb).toNat
    let rm := bits c.fpsr.toNat 9 8
    let flags (k : Nat) : Core := { c with fpsr := c.fpsr ||| BitVec.ofNat 32 k }
    let one (p : Bool) : Word := if p then 1 else 0
    ((a.isNan || b.isNan) = false → s.leadsG (.feq n gd ga gb pg) n c gd (one (!fltLess a b && !fltLess b a)) ∧
      s.leadsG (.flt n gd ga gb pg) n c gd (one (fltLess a b)) ∧
      s.leadsG (.fle n gd ga gb pg) n c gd (one (!fltLess b a))) ∧
    ((a.isNan || b.isNan) = true → (∃ k, s.leadsG (.feq n gd ga gb pg) n (flags k) gd 0) ∧
      s.leadsG (.flt n gd ga gb pg) n (flags fNV) gd 0 ∧ s.leadsG (.fle n gd ga gb pg) n (flags fNV) gd 0) ∧
    s.leadsG (.fcvtSW n gd ga pg) n (flags (fltRoundInt rm (c.gr ga).toInt 0 false).flags) gd
      (BitVec.ofNat 32 (fltRoundInt rm (c.gr ga).toInt 0 false).word) ∧
    s.leadsG (.fcvtSQ n gd ga pg) n (flags (fltRoundInt rm (c.gr ga).toInt (-16) false).flags) gd
      (BitVec.ofNat 32 (fltRoundInt rm (c.gr ga).toInt (-16) false).word) ∧
    (a.isNan = true → s.leadsG (.fcvtWS n gd ga pg) n (flags fNV) gd 0 ∧
      s.leadsG (.fcvtQS n gd ga pg) n (flags fNV) gd 0) ∧
    s.leadsG (.fcvtWS n gd ga pg) n (flags (fltToInt rm 0 a).2) gd (BitVec.ofNat 32 (fltToInt rm 0 a).1) ∧
    s.leadsG (.fcvtQS n gd ga pg) n (flags (fltToInt rm 16 a).2) gd (BitVec.ofNat 32 (fltToInt rm 16 a).1))

/-- BR, CALL, JR, LOOP, ROT and FENCE move PC, and write what the spec names beside it: g31 by a taken CALL, gd by JR, LC
and RRB by LOOP, RRB by ROT (R177, R189, R190, R200, R209). A class-A instruction and the class-B instruction after it
in memory that reads nothing the first writes issue as a bundle: both resolve rotating registers with the RRB of
before it, a LOOP rotates after it, and the class-B instruction executes whether or not the branch is taken (R179,
R183). An exception of the class-B instruction leaves the class-A one complete, with EPC at the class-B instruction
(R184). A store that reads what the first writes issues by itself. -/
def Obligations.BranchesLoopsAndBundles : Prop :=
  (∀ (s : State) (n gd ga pg : Nat) (neg : Bool) (off : Int), s.ready n = true →
    let c := s.core n
    let next := c.pc + 4
    let target := c.pc + BitVec.ofInt 32 (4 * off)
    let taken := xor (c.pr pg) neg
    (∃ t, exec (.br n pg neg off) s = .next t ∧ s.led t n [] (if taken then some target else none) c) ∧
    (∃ t d, exec (.call n pg neg off) s = .next t ∧ (taken = true → c.wroteG d 31 next) ∧ (taken = false → d = c) ∧
      s.led t n [.g 31] (if taken then some target else none) d) ∧
    (c.pr pg = true → (c.gr ga).toNat % 4 = 0 → ∃ t d, exec (.jr n gd ga pg) s = .next t ∧ c.wroteG d gd next ∧
      s.led t n [.g gd] (some (c.gr ga)) d) ∧
    (∃ t, exec (.loop n off) s = .next t ∧ s.led t n [] (if c.lc = 1 then none else some target)
      { c with lc := c.lc - 1, rrb := (c.rrb + 63) % 64 }) ∧
    s.passes (.rot n) n { c with rrb := (c.rrb + 63) % 64 } ∧ s.passes (.fence n) n c) ∧
  (∀ (s : State) (n rt base gd ga gb pg : Nat) (f : Bool) (off off' : Int), s.ready n = true →
    let c := s.core n
    let a := c.gr base + BitVec.ofInt 32 off'
    let i := Instr.stw n f rt false base off'
    fetchable (c.pc + 4).toNat = true → velistDecode n (s.wordAt n (c.pc + 4).toNat 4) = some i →
    (s.inWritable n a.toNat = true → a.toNat % 4 = 0 →
      ∃ t u, exec (.loop n off) s = .next t ∧ exec i t = .next u ∧
        t.stored u (s.place n a.toNat) (leBytes 4 (if f then c.wr rt else c.gr rt).toNat) ∧
        u.core n = { c with lc := c.lc - 1, rrb := (c.rrb + 63) % 64,
                            pc := if c.lc = 1 then c.pc + 8 else c.pc + BitVec.ofInt 32 (4 * off) }) ∧
    (a.toNat % 4 ≠ 0 → c.handler = false →
      ∃ t u, exec (.loop n off) s = .next t ∧ exec i t = .next u ∧ (u.core n).epc = c.pc + 4 ∧
        (u.core n).ecause = 0x06 ∧ (u.core n).eaddr = a ∧ (u.core n).handler = true ∧ (u.core n).lc = c.lc - 1 ∧
        (u.core n).rrb = (c.rrb + 63) % 64 ∧ u.mem = s.mem) ∧
    (gd ≠ 0 → gd < 32 → (gd = base ∨ (f = false ∧ gd = rt)) →
      ∃ t, exec (.add n gd ga gb pg) s = .next t ∧ (t.core n).pair = none ∧ (t.core n).pc = c.pc + 4))

/-- POST and SOLVE write their code to gd after the deposit or the enqueue has taken place; the reserved TOKEN value gives
RANGE and deposits nothing (R205, R207). DONE ends the instance and leaves the core IDLE in TASK mode, its flow IDLE
(R206, R213, R236). -/
def Obligations.PostSolveAndDone : Prop :=
  (∀ (s : State) (n gd ga gb : Nat), s.ready n = true →
    let c := s.core n
    let a := (c.gr ga).toNat
    (a % 2 ^ 16 = 0xFFFF → s.givesG (.post n gd ga gb) n c gd 0x03) ∧
    (a % 2 ^ 16 ≠ 0xFFFF → ∃ t d, exec (.post n gd ga gb) s = .next t ∧
      (let r := s.deposit (.post n) (a % 2 ^ 16) (a / 2 ^ 16) (c.gr gb)
      (r.1.core n).wroteG d gd (BitVec.ofNat 32 r.2) ∧ r.1.retired t n d)) ∧
    (gb % 32 = 0 → ∃ t d, exec (.solve n gd ga gb) s = .next t ∧
      (let r := s.solve n a (s.coreAhead n)
      c.wroteG d gd (BitVec.ofNat 32 r.1) ∧ r.2.retired t n d))) ∧
  (∀ (s : State) (n : Nat), s.ready n = true →
    let c := s.core n
    ∃ t, exec (.done n) s = .next t ∧
      t.core n = { c with pc := c.pc + 4, run := .idle, handler := false, svc := none, budgetDue := false } ∧
      (∀ m, m ≠ n → t.core m = s.core m) ∧ t.mem = s.mem ∧
      ∀ v, c.svc = some v → t.flow v.flow 4 = 0 ∧ t.flow v.flow 6 = 0xFF)

/-- TWAIT gives TIME for an instant that has passed, RANGE for one more than 1 s ahead, and else waits with its clock gated;
at its wake, at the first tick at which CT has reached the instant, gd receives 0 and the core resumes past the TWAIT
(R208). -/
def Obligations.WaitsUntilTheInstant : Prop :=
  (∀ (s : State) (n gd ga : Nat), s.ready n = true → ga % 2 = 0 →
    let c := s.core n
    let t := (c.gr ga).toNat + 2 ^ 32 * (c.gr (ga + 1)).toNat
    (t * 2 ^ 32 ≤ s.time.ct → s.givesG (.twait n gd ga 0) n c gd 0x09) ∧
    (s.time.ct < t * 2 ^ 32 → s.ctNs + 1000000000 < t → s.givesG (.twait n gd ga 0) n c gd 0x03) ∧
    (s.time.ct < t * 2 ^ 32 → t ≤ s.ctNs + 1000000000 → ∃ u, exec (.twait n gd ga 0) s = .next u ∧
      s.onlyCore u n { c with run := .wait, twait := some t, twaitRd := gd, gateAt := some (s.islandCycles n) })) ∧
  (∀ (s : State) (n t : Nat), (s.core n).run = .wait → (s.core n).twait = some t → s.clockOn = true →
    0 < s.time.ctInc → s.time.ctLoad = none → t * 2 ^ 32 + s.time.ctInc < 2 ^ 96 → s.time.ct < 2 ^ 96 →
    let c := s.core n
    let late := c.budgetDue = true ∨ (c.svc.isSome = true ∧ 0 < c.budget ∧
      s.time.ct + s.time.ctInc * (c.budget - 1) < t * 2 ^ 32)
    (¬ late →
      ∃ u, exec (.twaitWake n) s = .next u ∧ t * 2 ^ 32 ≤ u.time.ct ∧
        (s.time.ct < t * 2 ^ 32 → u.time.ct < t * 2 ^ 32 + s.time.ctInc) ∧
        (u.core n).run = .run ∧ (u.core n).twait = none ∧ (u.core n).pc = c.pc + 4 ∧ (u.core n).gr c.twaitRd = 0 ∧
        ∀ k, k % 32 ≠ c.twaitRd % 32 → (u.core n).gr k = c.gr k) ∧
    (late → c.pair = none → c.handler = false →
      ∃ u, exec (.twaitWake n) s = .next u ∧ (u.core n).handler = true ∧ (u.core n).ecause = 0x10 ∧
        (u.core n).epc = c.pc ∧ (u.core n).twait = none ∧ (u.core n).g = c.g))

/-- MTC writes the CSR and MFC reads it, each in the modes R210 and R216 admit; ERET resumes at EPC, of which
PC keeps the multiple of 4, with STATUS restored from ESTATUS. -/
def Obligations.ControlRegisters : Prop :=
  ∀ (s : State) (n gd ga : Nat), s.ready n = true →
    let c := s.core n
    let v := c.gr ga
    (∀ k b, (k, b) ∈ [(4, { c with lc := v }), (5, { c with rrb := v.toNat % 64 }),
        (1, { c with sat := c.sat && !v.getLsbD 0, aovf := c.aovf && !v.getLsbD 1 }),
        (6, { c with fpsr := v &&& 0x31F#32 })] → s.passes (.mtc n ga k) n b) ∧
    (c.handler = true → ∀ k b, (k, b) ∈ [(8, { c with epc := v }), (9, { c with ecause := v }),
        (10, { c with eaddr := v }), (11, { c with estatus := v }), (12, { c with vbar := v &&& 0x7FC00#32 })] →
      s.passes (.mtc n ga k) n b) ∧
    (∀ k j, k < 8 → j < 3 → ∃ t d, exec (.mtc n ga (32 + 3 * k + j)) s = .next t ∧ s.retired t n d ∧
      d = { c with cb := d.cb } ∧ ∀ k' j', j' < 3 → d.cbr k' j' = if k' % 8 = k ∧ j' = j then v else c.cbr k' j') ∧
    (∀ k x, (k, x) ∈ [(1, BitVec.ofNat 32 (b2n c.sat + 2 * b2n c.aovf)), (2, BitVec.ofNat 32 c.satCnt),
        (3, BitVec.ofNat 32 c.aovfCnt), (4, c.lc), (5, BitVec.ofNat 32 c.rrb), (6, c.fpsr),
        (16, BitVec.ofNat 32 c.budget)] → s.givesG (.mfc n gd k) n c gd x) ∧
    (c.handler = true → ∀ k x, (k, x) ∈ [(8, c.epc), (9, c.ecause), (10, c.eaddr), (11, c.estatus), (12, c.vbar)] →
      s.givesG (.mfc n gd k) n c gd x) ∧
    (∀ k j, k < 8 → j < 3 → s.givesG (.mfc n gd (32 + 3 * k + j)) n c gd (c.cbr k j)) ∧
    (c.handler = true → ∃ t, exec (.eret n) s = .next t ∧
      s.onlyCore t n { c with pc := c.epc &&& 0xFFFFFFFC#32, handler := c.estatus.getLsbD 0,
                              lcore := bits c.estatus.toNat 15 8 })

/-- TRAP raises TRAP with its code in EADDR and EPC at the following instruction; BRK raises BRK; an illegal word and the
malformed forms raise ILLEGAL, an access to a handler CSR or ERET in TASK mode PRIV, a JR target that is not a
multiple of 4 FETCH_ALIGN; EPC is the instruction. The core enters HANDLER mode at VBAR + cause × 0x40 and keeps its
registers (R189, R196, R202, R207, R208, R210 to R212). -/
def Obligations.ExceptionsEnter : Prop :=
  (∀ (s : State) (n imm w : Nat), s.ready n = true → (s.core n).handler = false →
    let pc := (s.core n).pc
    (imm < 2 ^ 12 → s.raises (.trap n imm) n 0x09 (pc + 4) (some (BitVec.ofNat 32 imm))) ∧
    s.raises (.brk n) n 0x0A pc none ∧ (wordIllegal w = true → s.raises (.illegal n w) n 0x04 pc none)) ∧
  (∀ (s : State) (n a b c k pg : Nat), s.ready n = true → (s.core n).handler = false →
    let pc := (s.core n).pc
    (∀ i ∈ [Instr.shi n a b 3 c, .plog n a b c 7, .wfromg n a (32 + b) pg, .wtog n (32 + a) b pg,
        .cmp n a b c pg (8 + k), .maxi n (2 * a + 1) b c, .mini n 0 b c, .maxiu n (2 * a + 1) b c, .miniu n 0 b c,
        .maxa n (2 * a + 1) b c, .solve n a b 1, .twait n a (2 * b + 1) 0, .twait n a b 1, .mtc n a 0, .mtc n a 2,
        .mtc n a 7, .mfc n a 7, .mfc n a 56],
      s.raises i n 0x04 pc none) ∧
    (∀ i ∈ [Instr.mtc n a 8, .mtc n a 12, .mfc n a 8, .mfc n a 12, .eret n], s.raises i n 0x05 pc none) ∧
    ((s.core n).pr pg = true → ((s.core n).gr b).toNat % 4 ≠ 0 →
      s.raises (.jr n a b pg) n 0x03 pc (some ((s.core n).gr b))))

/-- An exception other than HALT in HANDLER mode stops the core: STOPPED, DF_CNT counted, the instance's flow HELD (R214,
R236). BUDGET of an instance in service counts down with the TIME ticks; when it reaches 0 the core takes BUDGET, with
EPC at the next bundle, or at the TWAIT it waits in (R208, R211, R215). -/
def Obligations.HandlerStopsAndBudget : Prop :=
  (∀ (s : State) (n imm w : Nat), s.ready n = true → (s.core n).handler = true → wordIllegal w = true →
    ∀ i ∈ [Instr.trap n imm, .brk n, .illegal n w],
      ∃ t, exec i s = .next t ∧ (t.core n).run = .stopped ∧ (t.core n).dfCnt = satInc 8 (s.core n).dfCnt ∧
        (t.core n).svc = none ∧ (∀ m, m ≠ n → t.core m = s.core m) ∧ t.mem = s.mem ∧
        ∀ v, (s.core n).svc = some v → v.flow < 4096 → t.flow v.flow 4 = 2) ∧
  (∀ (s : State) (n : Nat), n < 72 → s.domOn (n / 4) = true → s.clockOn = true → (s.core n).frozen = false →
    ((s.core n).run = .run ∨ (s.core n).run = .wait) → (s.core n).handler = false → (s.core n).pair = none →
    (s.core n).svc.isSome = true →
    0 < (s.core n).budget → (s.core n).budgetDue = false →
    ∃ t, exec (.budget n) s = .next t ∧ t.time.ticks = s.time.ticks + (s.core n).budget ∧
      (t.core n).run = .run ∧ (t.core n).handler = true ∧ (t.core n).ecause = 0x10 ∧ (t.core n).epc = (s.core n).pc ∧
      (t.core n).pc = (s.core n).vbar + 0x400 ∧ (t.core n).budget = 0 ∧ (t.core n).budgetDue = false ∧
      (t.core n).g = (s.core n).g ∧ (t.core n).w = (s.core n).w ∧ (t.core n).twait = none ∧ t.mem = s.mem)

/-- The address map of a core (R181): TCM with the code window on top, slice-shared SRAM, spine SRAM, the register window,
DRAM, and nothing else. A load of an aligned word, halfword or byte from memory writes its value, extended as the form
says, to the register that F and rt name; a circular form then steps IDX; memory and every other core are unchanged
(R193, R194). -/
def Obligations.LoadsReadMemory : Prop :=
  (∀ (s : State) (n a : Nat),
    (a < 0x70000 → s.place n a = .tcm (n * 0x80000 + a)) ∧
    (0x70000 ≤ a → a < 0x80000 → ∃ b, b < 2 ∧ s.place n a = .win ((n * 2 + b) * 0x10000 + (a - 0x70000))) ∧
    (0x1000000 ≤ a → a < 0x1100000 → s.place n a = .shared (n / 4 * 0x100000 + (a - 0x1000000))) ∧
    (0x10000000 ≤ a → a < 0x11000000 → s.place n a = .sram (a - 0x10000000)) ∧
    (0x40000000 ≤ a → a < 0x44000000 → s.place n a = .reg (a - 0x40000000)) ∧
    (0x80000000 ≤ a → a < 0x100000000 → s.place n a = .dram (a - 0x80000000)) ∧
    ((0x80000 ≤ a ∧ a < 0x1000000) ∨ (0x1100000 ≤ a ∧ a < 0x10000000) ∨ (0x11000000 ≤ a ∧ a < 0x40000000) ∨
      (0x44000000 ≤ a ∧ a < 0x80000000) → s.place n a = .nowhere)) ∧
  (∀ (s : State) (n rt base : Nat) (f circ : Bool) (off : Int) (a : Word), s.readyB n = true →
    let c := s.core n
    c.memAddr circ base off = some a → (circ = true → base < 8) → s.inMemory n a.toNat = true →
    (∀ e ∈ [(Instr.ldh n f rt circ base off, 2, (BitVec.ofNat 16 (s.wordAt n a.toNat 2)).signExtend 32),
        (.ldhu n f rt circ base off, 2, BitVec.ofNat 32 (s.wordAt n a.toNat 2)),
        (.ldb n f rt circ base off, 1, (BitVec.ofNat 8 (s.wordAt n a.toNat 1)).signExtend 32),
        (.ldbu n f rt circ base off, 1, BitVec.ofNat 32 (s.wordAt n a.toNat 1))],
      f = false → rt < 32 → a.toNat % e.2.1 = 0 →
      ∃ t d b, exec e.1 s = .next t ∧ c.stepped b circ base off e.2.1 ∧ b.wroteG d rt e.2.2 ∧ s.ended t n d) ∧
    (a.toNat % 4 = 0 → (f = false → rt < 32) →
      ∃ t d b, exec (.ldw n f rt circ base off) s = .next t ∧ c.stepped b circ base off 4 ∧
        (f = false → b.wroteG d rt (BitVec.ofNat 32 (s.wordAt n a.toNat 4))) ∧
        (f = true → b.wroteW d rt (BitVec.ofNat 32 (s.wordAt n a.toNat 4))) ∧ s.ended t n d))

/-- A store to memory writes the low bytes of the register at its address, least significant first, and no other byte; a
circular form then steps IDX (R1, R193, R194). -/
def Obligations.StoresWriteMemory : Prop :=
  ∀ (s : State) (n rt base : Nat) (f circ : Bool) (off : Int) (a : Word), s.readyB n = true →
    let c := s.core n
    c.memAddr circ base off = some a → (circ = true → base < 8) → s.inWritable n a.toNat = true →
    (f = false → rt < 32) →
    ∀ e ∈ [(Instr.stw n f rt circ base off, 4), (.sth n f rt circ base off, 2), (.stb n f rt circ base off, 1)],
      (f = true → e.2 = 4) → a.toNat % e.2 = 0 →
      ∃ t d, exec e.1 s = .next t ∧
        s.stored t (s.place n a.toNat) (leBytes e.2 (if f then c.wr rt else c.gr rt).toNat) ∧
        c.stepped d circ base off e.2 ∧ t.core n = d.past c ∧ (∀ m, m ≠ n → t.core m = s.core m) ∧
        t = { s with cores := t.cores, mem := t.mem, kl := { s.kl with committed := t.kl.committed },
                     ch := { s.ch with written := t.ch.written }, sv := { s.sv with mig := t.sv.mig } }

/-- A load or store at an address that is not a multiple of its size, or through a set whose LEN is 0, raises DATA_ALIGN with
IDX unchanged; a load or store outside the map and a store to the code window raise DATA_BUS (R182, R195, R553). A load
from a block that is not ON writes 0 to its destination and raises DATA_BUS; a store to it is discarded and raises nothing
(R182, R518): here DRAM, whose domain is PD_SOR. -/
def Obligations.DataAccessesRaise : Prop :=
  (∀ (s : State) (n rt base : Nat) (circ : Bool) (off : Int), s.readyB n = true → (s.core n).handler = false → rt < 32 →
    (circ = true → base < 8) →
    let c := s.core n
    let forms : List (Instr × Nat) := [(.ldw n false rt circ base off, 4), (.stw n false rt circ base off, 4),
      (.ldh n false rt circ base off, 2), (.ldhu n false rt circ base off, 2), (.sth n false rt circ base off, 2),
      (.ldb n false rt circ base off, 1), (.ldbu n false rt circ base off, 1), (.stb n false rt circ base off, 1)]
    (circ = true → c.cbr base 1 = 0 → ∀ e ∈ forms, s.raises e.1 n 0x06 c.pc (some (c.cbr base 0 + c.cbr base 2))) ∧
    ∀ a, c.memAddr circ base off = some a →
      (∀ e ∈ forms, (a.toNat % e.2 ≠ 0 → s.raises e.1 n 0x06 c.pc (some a)) ∧
        (a.toNat % e.2 = 0 → s.place n a.toNat = .nowhere → s.raises e.1 n 0x07 c.pc (some a))) ∧
      ∀ e ∈ [(Instr.stw n false rt circ base off, 4), (.sth n false rt circ base off, 2),
          (.stb n false rt circ base off, 1)],
        a.toNat % e.2 = 0 → (∃ o, s.place n a.toNat = .win o) → s.raises e.1 n 0x07 c.pc (some a)) ∧
  (∀ (s : State) (n rt base : Nat) (off : Int), s.readyB n = true → (s.core n).handler = false → rt < 32 →
    s.answers 22 = false →
    let c := s.core n
    let a := c.gr base + BitVec.ofInt 32 off
    0x80000000 ≤ a.toNat → a.toNat % 4 = 0 →
    (∃ t, exec (.ldw n false rt false base off) s = .next t ∧ (t.core n).gr rt = 0 ∧ (t.core n).handler = true ∧
      (t.core n).ecause = 0x07 ∧ (t.core n).epc = c.pc ∧ (t.core n).eaddr = a ∧ t.mem = s.mem) ∧
    (∃ t, exec (.stw n false rt false base off) s = .next t ∧ t.mem = s.mem ∧
      t.core n = c.past c ∧ t.fd F.PW_OFFACC_CNT_COUNT = satInc 32 (s.fd F.PW_OFFACC_CNT_COUNT)))

/-- A search over elements that all lie in memory writes the best element to gd and the position of the first of equal ones
to the register after it; over no element it writes what R203 says. IDX is unchanged. An odd gd, or g0, raises ILLEGAL
(R202). -/
def Obligations.SearchesFindTheBest : Prop :=
  (∀ (s : State) (n gd cb gn : Nat), s.ready n = true → gd % 2 = 0 → 2 ≤ gd → gd ≤ 30 →
    let c := s.core n
    let cnt := (c.gr gn).toNat % 2 ^ 16
    (∀ k, k < cnt → (c.cbr cb 1).toNat ≠ 0 ∧ (c.element cb k).toNat % 4 = 0 ∧
      s.inMemory n (c.element cb k).toNat = true) →
    let el (k : Nat) : Word := BitVec.ofNat 32 (s.wordAt n (c.element cb k).toNat 4)
    ∀ e ∈ ([(.maxi n gd cb gn, 0x80000000, fun a b => b.slt a), (.mini n gd cb gn, 0x7FFFFFFF, fun a b => a.slt b),
        (.maxiu n gd cb gn, 0, fun a b => b.ult a), (.miniu n gd cb gn, 0xFFFFFFFF, fun a b => a.ult b),
        (.maxa n gd cb gn, 0, fun a b => decide (b.toInt.natAbs < a.toInt.natAbs))] :
        List (Instr × Word × (Word → Word → Bool))),
      ∃ t d1 d2 v p, exec e.1 s = .next t ∧ c.wroteG d1 gd v ∧ d1.wroteG d2 (gd + 1) p ∧ s.retired t n d2 ∧
        (cnt = 0 → v = e.2.1 ∧ p = 0xFFFFFFFF) ∧
        (0 < cnt → p.toNat < cnt ∧ v = el p.toNat ∧ (∀ k, k < p.toNat → e.2.2 v (el k) = true) ∧
          ∀ k, p.toNat < k → k < cnt → e.2.2 (el k) v = false)) ∧
  (∀ (s : State) (n gd cb gn : Nat), s.ready n = true → (s.core n).handler = false → gd = 0 ∨ gd % 2 = 1 →
    ∀ i ∈ [Instr.maxi n gd cb gn, .mini n gd cb gn, .maxiu n gd cb gn, .miniu n gd cb gn, .maxa n gd cb gn],
      s.raises i n 0x04 (s.core n).pc none)

/-- HALT, resume, STEP and CLEAR of the debug window (R211, R217): with the lock open, HALT takes a running or waiting core
to HALTED at a bundle boundary, after a BUDGET that is due, its end returns it to the state it left, CLEAR returns a STOPPED core to IDLE, and STEP lets a halted core run
one bundle; the end of HALT ends a STEP under way as well. -/
def Obligations.DebugWindowControlsTheCore : Prop :=
  ∀ (s : State) (q : Requester) (n : Nat), s.grants q .VC_CTLn n = true → s.lockOpen = true →
    let c := s.core n
    ((c.run = .run ∨ c.run = .wait) → c.pair = none → c.budgetDue = false →
      ∃ t, exec (.coreHalt q n 2) s = .next t ∧ t.flag F.VC_CTLn_HALT n = true ∧
        t.core n = { c with run := .halted, resume := c.run, haltReq := false, excCnt := satInc 8 c.excCnt,
                            lastCause := 0x11 } ∧ ∀ m, m ≠ n → t.core m = s.core m) ∧
    (c.run = .run → c.pair.isSome = true → ∃ t, exec (.coreHalt q n 2) s = .next t ∧ t.flag F.VC_CTLn_HALT n = true ∧
      t.core n = c ∧ ∀ m, m ≠ n → t.core m = s.core m) ∧
    ((c.run = .run ∨ c.run = .wait) → c.pair = none → c.budgetDue = true → c.frozen = false → c.handler = false →
      ∃ t, exec (.coreHalt q n 2) s = .next t ∧ (t.core n).run = .halted ∧ (t.core n).handler = true ∧
        (t.core n).ecause = 0x10 ∧ (t.core n).epc = c.pc) ∧
    (c.run = .halted → ∃ t, exec (.coreResume q n 0) s = .next t ∧ t.flag F.VC_CTLn_HALT n = false ∧
      t.core n = { c with run := c.resume, haltReq := false } ∧ ∀ m, m ≠ n → t.core m = s.core m) ∧
    (c.run ≠ .halted → c.haltReq = true → ∃ t, exec (.coreResume q n 0) s = .next t ∧ t.flag F.VC_CTLn_HALT n = false ∧
      t.core n = { c with haltReq := false } ∧ ∀ m, m ≠ n → t.core m = s.core m) ∧
    (c.run = .halted → ∃ t, exec (.coreStep q n 3) s = .next t ∧ t.flag F.VC_CTLn_HALT n = true ∧
      t.core n = { c with run := c.resume, haltReq := true } ∧ ∀ m, m ≠ n → t.core m = s.core m) ∧
    (c.run = .stopped → ∃ t, exec (.coreClear q n 4) s = .next t ∧
      t.core n = { c with run := .idle, handler := false } ∧ ∀ m, m ≠ n → t.core m = s.core m)

/-! ## Clocks, CT, PT and the calendar -/

/-- The root's references (R53, R54, R58, R648): a write of CLK_REF.SEL locks the PLL to a present source; the loss of the
selected reference, or its leaving the window, is flagged, counted and puts the PLL in holdover, which ends with the
fallback to the TCXO or the reference's return. The divider and PCIe monitors set their flags, a PLL unlock restarts
the module. An accepted write of CLK_DVFS sets the three dividers: codes up to 4, no step of a changed island in
progress, the TRIM cap kept, and a faster divider only under a voltage that covers it (R55, R537). On an island with
AVS 1, TARGET then reads the nominal voltage of the divider (R538). -/
def Obligations.RootReferences : Prop :=
  (∀ (s : State) (q : Requester) (v : Word) (clk : Nat),
    (s.grants q .CLK_REF = true → bits v.toNat 5 4 ≠ 3 → s.refPresent (bits v.toNat 5 4) = true →
      ∃ t, exec (.refSelect q v) s = .next t ∧ t.fd F.CLK_REF_SEL = bits v.toNat 5 4 ∧
        t.fd F.CLK_REF_FALLBACK = bits v.toNat 0 0 ∧
        (bits v.toNat 5 4 ≠ s.fd F.CLK_REF_SEL →
          t.fd F.CLK_REF_ACTIVE = bits v.toNat 5 4 ∧ t.fd F.CLK_STAT_HOLDOVER = 0 ∧ t.fd F.CLK_STAT_PLL_LOCK = 1) ∧
        s.sets t [(F.CLK_REF_SEL, 0), (F.CLK_REF_FALLBACK, 0), (F.CLK_REF_ACTIVE, 0), (F.CLK_STAT_HOLDOVER, 0),
          (F.CLK_STAT_PLL_LOCK, 0)]) ∧
    (∃ t, exec .refLoss s = .next t ∧ t.fd F.CLK_STAT_REF_LOSS = 1 ∧ t.fd F.CLK_STAT_HOLDOVER = 1 ∧
      t.fd F.CLK_STAT_LOSS_CNT = satInc 8 (s.fd F.CLK_STAT_LOSS_CNT) ∧
      (s.fd F.CLK_REF_SEL ≠ 0 → t.fd F.CLK_STAT_EXT_PRESENT = 0) ∧
      (if s.fd F.CLK_REF_SEL = 0 then s else { s with extRef := 0 }).notes t
        [(F.CLK_STAT_REF_LOSS, 0), (F.CLK_STAT_LOSS_CNT, 0), (F.CLK_STAT_HOLDOVER, 0), (F.CLK_STAT_EXT_PRESENT, 0)]) ∧
    (∃ t, exec .refFreq s = .next t ∧ t.fd F.CLK_STAT_REF_FREQ = 1 ∧ t.fd F.CLK_STAT_HOLDOVER = 1 ∧
      t.fd F.CLK_STAT_FREQ_CNT = satInc 8 (s.fd F.CLK_STAT_FREQ_CNT) ∧
      s.notes t [(F.CLK_STAT_REF_FREQ, 0), (F.CLK_STAT_FREQ_CNT, 0), (F.CLK_STAT_HOLDOVER, 0)]) ∧
    (s.flag F.CLK_STAT_HOLDOVER = true → s.flag F.CLK_REF_FALLBACK = true → s.fd F.CLK_REF_SEL ≠ 0 →
      ∃ t, exec .fallbackRelock s = .next t ∧ t.fd F.CLK_REF_ACTIVE = 0 ∧ t.fd F.CLK_STAT_HOLDOVER = 0 ∧
        t.fd F.CLK_STAT_PLL_LOCK = 1 ∧
        s.sets t [(F.CLK_REF_ACTIVE, 0), (F.CLK_STAT_HOLDOVER, 0), (F.CLK_STAT_PLL_LOCK, 0)]) ∧
    (∀ src, src < 3 → ∃ t, exec (.refReturn src) s = .next t ∧
      (src ≠ 0 → t.fd F.CLK_STAT_EXT_PRESENT = 1 ∧ t.refPresent src = true) ∧
      (src = s.fd F.CLK_REF_SEL → s.flag F.CLK_STAT_HOLDOVER = true →
        t.fd F.CLK_REF_ACTIVE = src ∧ t.fd F.CLK_STAT_HOLDOVER = 0 ∧ t.fd F.CLK_STAT_PLL_LOCK = 1) ∧
      s.onlyFields t (fun _ => false) [(F.CLK_STAT_EXT_PRESENT, 0), (F.CLK_REF_ACTIVE, 0), (F.CLK_STAT_HOLDOVER, 0),
        (F.CLK_STAT_PLL_LOCK, 0)]) ∧
    (∃ t, exec (.divFault clk) s = .next t ∧ t.fd F.CLK_STAT_DIV_FAULT = 1 ∧
      t.fd F.CLK_STAT_DIV_CNT = satInc 8 (s.fd F.CLK_STAT_DIV_CNT) ∧ (clk = 4 → t.fd F.TIM_CT_STAT_INVALID = 1) ∧
      s.notes t [(F.CLK_STAT_DIV_FAULT, 0), (F.CLK_STAT_DIV_CNT, 0), (F.TIM_CT_STAT_INVALID, 0)]) ∧
    (∃ t, exec .pcieRefLoss s = .next t ∧ t.fd F.CLK_STAT_PCIE_REF = 0 ∧ t.hs.link = false ∧
      t = { s with regs := t.regs, hs := { s.hs with link := false } } ∧
      s.onlyFields t (fun _ => false) [(F.CLK_STAT_PCIE_REF, 0)]) ∧
    (s.held = false → s.flag F.CLK_STAT_PLL_LOCK = true → s.flag F.CLK_STAT_HOLDOVER = false →
      ∃ t, exec .pllUnlock s = .next t ∧ t.fd F.GLOBAL_RESET_CAUSE = 2 ∧ t.fd F.HS_BOOT_STAT_STATE = 1 ∧
        t.lc.state = s.lc.state ∧ t.lc.granted = 0)) ∧
  (∀ (s : State) (q : Requester) (v : Word), s.grants q .CLK_DVFS = true →
    let isl : List (Field × Nat) := [(F.CLK_DVFS_CORE_A, 0), (F.CLK_DVFS_CORE_B, 1), (F.CLK_DVFS_SOLV, 2)]
    let mv (c : Nat) : Nat := ([850, 800, 720, 680, 600] : List Nat).getD c 600
    ((∀ e ∈ isl, e.1.of v.toNat ≤ 4 ∧
        (e.1.of v.toNat ≠ s.fd e.1 → s.flag F.PW_VOLTi_STAT_STEPPING e.2 = false) ∧
        (e.1.of v.toNat < s.fd e.1 → (s.fd F.PW_MOD_STATE = 1 → s.fd F.PW_TRIM_CAP ≤ e.1.of v.toNat) ∧
          s.flag F.PW_VOLTi_STAT_CHECKED e.2 = true ∧ mv (e.1.of v.toNat) ≤ s.fd F.PW_VOLTi_STAT_MEAS e.2)) →
      ∃ t, exec (.dvfsWrite q v) s = .next t ∧ (∀ e ∈ isl, t.fd e.1 = e.1.of v.toNat ∧
          t.fd F.PW_VOLTi_CTL_TARGET e.2 =
            if s.flag F.PW_VOLTi_CTL_AVS e.2 then mv (e.1.of v.toNat) else s.fd F.PW_VOLTi_CTL_TARGET e.2) ∧
        s.sets t [(F.CLK_DVFS_CORE_A, 0), (F.CLK_DVFS_CORE_B, 0), (F.CLK_DVFS_SOLV, 0), (F.PW_VOLTi_CTL_TARGET, 0),
          (F.PW_VOLTi_CTL_TARGET, 1), (F.PW_VOLTi_CTL_TARGET, 2)]) ∧
    ((∃ e ∈ isl, 4 < e.1.of v.toNat) → ∃ t, exec (.dvfsWrite q v) s = .next t ∧ t.fd F.CLK_DVFS_REFUSE = 0x03 ∧
      ∀ e ∈ isl, t.fd e.1 = s.fd e.1))

/-- Accepted writes of CT and PT (R10, R64, R67 to R69): a load of CT or PT and an increment or an adjustment of PT apply
at the next TIME tick, and a write of a pair's _HI takes the writer's held _LO. VALID is cleared and STALE set when VTO
seconds of CT have passed since the last accepted PT write (R70). -/
def Obligations.TimeWrites : Prop :=
  ∀ (s : State) (q : Requester) (v : Word),
    let lo (r : Reg) : Nat := (Tab.get (fun _ => none) s.holds (latchKey q (r.addr 0 0))).getD (s.rg r)
    (s.grants q .TIM_CT_SET_HI = true → s.anyPort = false → ∃ t, exec (.ctSet q v) s = .next t ∧
      t.time = { s.time with ctLoad := some (v.toNat * 2 ^ 32 + lo .TIM_CT_SET_LO) } ∧ t.cores = s.cores ∧
      t.mem = s.mem ∧ (s.clockOn = true → (t.advance 1).time.ct = (v.toNat * 2 ^ 32 + lo .TIM_CT_SET_LO) * 2 ^ 32 % 2 ^ 96)) ∧
    (s.grants q .TIM_PT_INC_HI = true → ptIncOk (v.toNat % 2 ^ 8 * 2 ^ 32 + lo .TIM_PT_INC_LO) = true →
      ∃ t, exec (.ptIncSet q v) s = .next t ∧ t.ptIncReg = v.toNat % 2 ^ 8 * 2 ^ 32 + lo .TIM_PT_INC_LO ∧
        t.time = { s.time with ptWriteAt := s.time.ct } ∧ t.mem = s.mem) ∧
    (s.grants q .TIM_PT_ADJ = true → ∃ t, exec (.ptAdj q v) s = .next t ∧
      t = { s with time := { s.time with ptAdj := s.time.ptAdj + v.toInt, ptWriteAt := s.time.ct } }) ∧
    (s.grants q .TIM_PT_SET_HI = true → ∃ t, exec (.ptSet q v) s = .next t ∧
      t.time = { s.time with ptLoad := some (v.toNat * 2 ^ 32 + lo .TIM_PT_SET_LO), ptWriteAt := s.time.ct } ∧
      t.mem = s.mem ∧ (s.clockOn = true → (t.advance 1).time.pt = (v.toNat * 2 ^ 32 + lo .TIM_PT_SET_LO) * 2 ^ 32 % 2 ^ 96)) ∧
    (let goal := s.time.ptWriteAt + s.fd F.TIM_PT_CTL_VTO * 1000000000 * 2 ^ 32;
      s.fd F.TIM_PT_CTL_VTO ≠ 0 → s.flag F.TIM_PT_CTL_VALID = true → ∃ t, exec .ptValidTimeout s = .next t ∧
        t.fd F.TIM_PT_CTL_VALID = 0 ∧ t.fd F.TIM_PT_CTL_STALE = 1 ∧
        t.fd F.TIM_PT_CTL_STALE_CNT = satInc 8 (s.fd F.TIM_PT_CTL_STALE_CNT) ∧ t.mem = s.mem ∧
        (s.clockOn = true → s.time.ctLoad = none → 0 < s.time.ctInc → s.time.ct < 2 ^ 96 → goal + s.time.ctInc < 2 ^ 96 →
          goal ≤ t.time.ct ∧ (s.time.ct < goal → t.time.ct < goal + s.time.ctInc)))

/-- A capture event latches CT and PT of its instant and sets FULL; on a channel whose FULL stands, or was cleared in that
same TIME tick, it counts in OVR_CNT and the values stay, with FULL set. SWTRIG makes an event on a channel whose SRC is
0x30 (R73, R74); a GPIO event reaches the channels whose EDGE takes its direction. -/
def Obligations.CapturesOfTime : Prop :=
  ∀ (s : State) (q : Requester) (v : Word) (n : Nat),
    let full : Bool := s.flag F.TIM_CAPn_CTL_FULL n
    let gone : Bool := s.time.cleared.contains (Reg.addr .TIM_CAPn_CTL n 0, F.TIM_CAPn_CTL_FULL.lo)
    (s.grants q .TIM_CAPn_CTL n = true → bits v.toNat 23 16 = 0x30 → bits v.toNat 9 8 ≠ 3 → bits v.toNat 2 2 = 1 →
      bits v.toNat 0 0 = 1 → ∃ t, exec (.swtrig q n v) s = .next t ∧ t.fd F.TIM_CAPn_CTL_FULL n = 1 ∧
        (full = false → gone = false →
          t.rg64 .TIM_CAPn_CT_LO .TIM_CAPn_CT_HI n = s.ctNs % 2 ^ 64 ∧
          t.rg64 .TIM_CAPn_PT_LO .TIM_CAPn_PT_HI n = s.ptNs % 2 ^ 64) ∧
        (full = true ∨ gone = true →
          t.fd F.TIM_CAPn_CTL_OVR_CNT n = satInc 8 (s.fd F.TIM_CAPn_CTL_OVR_CNT n) ∧
          t.rg64 .TIM_CAPn_CT_LO .TIM_CAPn_CT_HI n = s.rg64 .TIM_CAPn_CT_LO .TIM_CAPn_CT_HI n ∧
          t.rg64 .TIM_CAPn_PT_LO .TIM_CAPn_PT_HI n = s.rg64 .TIM_CAPn_PT_LO .TIM_CAPn_PT_HI n) ∧
        t.cores = s.cores ∧ t.mem = s.mem) ∧
    ∀ src rising dt, ∃ t, exec (.timeCaptureEvent src rising dt) s = .next t ∧ t.time.ct = (s.advance dt).time.ct ∧
      t.time.pt = (s.advance dt).time.pt ∧ t.mem = s.mem ∧
      (n < 8 → s.fd F.TIM_CAPn_CTL_SRC n = src → s.flag F.TIM_CAPn_CTL_EN n = true →
        (0x20 ≤ src ∨ s.fd F.TIM_CAPn_CTL_EDGE n = 2 ∨ s.fd F.TIM_CAPn_CTL_EDGE n = b2n (!rising)) →
        t.fd F.TIM_CAPn_CTL_FULL n = 1 ∧
        (full = false → (gone = false ∨ 0 < dt) →
          t.rg64 .TIM_CAPn_CT_LO .TIM_CAPn_CT_HI n = t.ctNs % 2 ^ 64 ∧
          t.rg64 .TIM_CAPn_PT_LO .TIM_CAPn_PT_HI n = t.ptNs % 2 ^ 64) ∧
        (full = true ∨ (gone = true ∧ dt = 0) →
          t.fd F.TIM_CAPn_CTL_OVR_CNT n = satInc 8 (s.fd F.TIM_CAPn_CTL_OVR_CNT n) ∧
          t.rg64 .TIM_CAPn_CT_LO .TIM_CAPn_CT_HI n = s.rg64 .TIM_CAPn_CT_LO .TIM_CAPn_CT_HI n)) ∧
      (n < 8 → (s.fd F.TIM_CAPn_CTL_SRC n ≠ src ∨ s.flag F.TIM_CAPn_CTL_EN n = false) →
        t.fd F.TIM_CAPn_CTL_FULL n = s.fd F.TIM_CAPn_CTL_FULL n ∧
        t.rg64 .TIM_CAPn_CT_LO .TIM_CAPn_CT_HI n = s.rg64 .TIM_CAPn_CT_LO .TIM_CAPn_CT_HI n)

/-- The calendar (R82, R84, R86, R88, R89): a load sets the seconds and VALID; the first PT second under discipline loads
it from PT − UTC_OFS; a trim window adjusts TRIM; a leap second moves UTC_OFS and clears LEAP; the supplies follow one
another, and the loss of them all restarts the calendar at 0. -/
def Obligations.CalendarKeepsTime : Prop :=
  ∀ (s : State) (q : Requester) (v : Word),
    let lo : Nat := (Tab.get (fun _ => none) s.holds (latchKey q (Reg.addr .CAL_SET_LO 0 0))).getD (s.rg .CAL_SET_LO)
    (s.grants q .CAL_SET_HI = true → s.flag F.CAL_CTL_DISC = false → ∃ t, exec (.calSet q v) s = .next t ∧
      t.cal.sec = (v.toNat * 2 ^ 32 + lo) % 2 ^ 64 ∧ t.cal.sub = 0 ∧ t.fd F.CAL_STAT_VALID = 1 ∧
      t.cal.supply = s.cal.supply ∧ t.time = s.time ∧ t.mem = s.mem) ∧
    (let u := s.advance s.ticksToPtSecond;
      u.disciplined = true → ∃ t, exec .calDiscSecond s = .next t ∧ t.time = u.time ∧
        (u.cal.started = false → t.cal.started = true ∧ t.cal.sec = u.ptUtc % 2 ^ 64 ∧ t.cal.sub = 0 ∧
          t.fd F.CAL_STAT_VALID = 1) ∧
        (u.cal.started = true → u.calLag.natAbs < 32768 → t = { u with cal := { u.cal with eLast := u.calLag } })) ∧
    (let u := s.toWindowEnd;
      u.disciplined = true → ∃ t, exec .calTrimWindow s = .next t ∧ t.time = u.time ∧
        (let e := u.cal.eLast
        let x := toSigned 11 (u.fd F.CAL_TRIM_TRIM) + (e - u.cal.eStart) + max (-64) (min 64 e)
        toSigned 11 (t.fd F.CAL_TRIM_TRIM) = max (-1023) (min 1023 x) ∧ t.cal = { u.cal with eStart := e }) ∧
        u.onlyFields t (fun _ => false) [(F.CAL_TRIM_TRIM, 0)]) ∧
    (s.fd F.CAL_UTC_LEAP = 1 → ∃ t, exec .leapSecond s = .next t ∧ t.cal.sec % 86400 = 86399 ∧ t.cal.leapNow = true ∧
      t.fd F.CAL_UTC_LEAP = 0 ∧ t.fd F.CAL_UTC_UTC_OFS = ofSigned 16 (s.utcOfs + 1)) ∧
    (s.fd F.CAL_UTC_LEAP = 2 → ∃ t, exec .leapSecond s = .next t ∧ t.cal.sec = (s.cal.sec / 86400 + 1) * 86400 ∧
      t.fd F.CAL_UTC_LEAP = 0 ∧ t.fd F.CAL_UTC_UTC_OFS = ofSigned 16 (s.utcOfs - 1)) ∧
    (exec .calOnBackup s = .next { s with cal := { s.cal with supply := .supercap } }) ∧
    (s.cal.supply = .supercap → ∃ t, exec .supercapExhausted s = .next t ∧ t.cal = { s.cal with supply := .vbat } ∧
      t.fd F.CAL_STAT_BAT_USED = 1 ∧ t.fd F.CAL_STAT_BAT_CNT = satInc 8 (s.fd F.CAL_STAT_BAT_CNT) ∧
      s.onlyFields t (fun _ => false) [(F.CAL_STAT_BAT_USED, 0), (F.CAL_STAT_BAT_CNT, 0)]) ∧
    (∃ t, exec .calSupplyLost s = .next t ∧ t.cal.sec = 0 ∧ t.cal.sub = 0 ∧ t.fd F.CAL_TRIM_TRIM = 0 ∧
      t.fd F.CAL_STAT_VALID = 0 ∧ t.fd F.CAL_STAT_LOST = 1 ∧
      t.fd F.CAL_STAT_LOST_CNT = satInc 8 (s.fd F.CAL_STAT_LOST_CNT) ∧
      s.onlyFields t (fun _ => false) [(F.CAL_TRIM_TRIM, 0), (F.CAL_STAT_VALID, 0), (F.CAL_STAT_LOST, 0),
        (F.CAL_STAT_LOST_CNT, 0)])

/-! ## Koastis Link -/

/-- A port starts and stops by KL_PORTn_CTL.EN, and CNT_CLR clears its ten counters, of which one that
counts in the same tick reads 1 (R108, R124, R137, R148). The first
port enabled makes INIT_MODE active; the last one disabled returns the active mode to READY. -/
def Obligations.PortsStartAndStop : Prop :=
  ∀ (s : State) (q : Requester) (p : Nat) (v : Word), s.grants q .KL_PORTn_CTL p = true →
    bits v.toNat 19 16 ≠ 0 → (p % 2 = 1 → bits v.toNat 8 8 = 0) →
    (let u := s.plainWrite .KL_PORTn_CTL p 0 (setBits v.toNat 0 0 0)
    let m := if s.anyPort then s.fd F.KL_MODE_SW_ACTIVE else s.fd F.KL_GLOBAL_INIT_MODE
    s.portOn p = false → bits v.toNat 0 0 = 1 → bits v.toNat 1 1 = 0 → s.flag F.KL_MODE_SW_PENDING = false →
      (s.coldNet p = true ∨ s.fd F.TIM_CT_STAT_SRC ≠ 0) →
      (s.anyPort = false → s.fd F.KL_MODE_STATm_STATE m = 1) → u.modeCheck m (some p) = none → u.startCheck m p = none →
      ∃ t, exec (.klPortEnable q p v) s = .next t ∧ t.portOn p = true ∧ t.fd F.KL_PORTn_STAT_LINK p = 1 ∧
        (s.anyPort = false → t.fd F.KL_MODE_SW_ACTIVE = m ∧ t.fd F.KL_MODE_STATm_STATE m = 3 ∧ t.kl.active = true) ∧
        (u.netOf p = p → (p, s.time.ticks, none) ∈ t.kl.measure ∧ p ∉ t.kl.measured) ∧ t.mem = s.mem ∧
        t.cores = s.cores) ∧
    (s.portOn p = true → bits v.toNat 0 0 = 0 → bits v.toNat 8 8 = s.fd F.KL_PORTn_CTL_RING p →
      bits v.toNat 4 4 = s.fd F.KL_PORTn_CTL_SPEED p →
      ∃ t, exec (.klPortDisable q p v) s = .next t ∧ t.portOn p = false ∧ t.fd F.KL_PORTn_STAT_LINK p = 0 ∧
        t.fd F.KL_PORTn_STAT_SYNC_OUT p = 0 ∧ (∀ x ∈ t.kl.measure, x.1 ≠ p) ∧
        ((∀ r, r < 8 → r ≠ p → s.netOf r = s.netOf p → s.portOn r = false) → s.netOf p ∉ t.kl.measured) ∧
        (∀ m, (∀ r, r < 8 → r ≠ p → s.portOn r = false) → s.activeMode = some m →
          t.fd F.KL_MODE_STATm_STATE m = 1 ∧ t.kl.active = false) ∧ t.mem = s.mem ∧ t.cores = s.cores) ∧
    (bits v.toNat 0 0 = b2n (s.portOn p) → bits v.toNat 1 1 = 1 →
      (s.portOn p = true → bits v.toNat 8 8 = s.fd F.KL_PORTn_CTL_RING p ∧
        bits v.toNat 4 4 = s.fd F.KL_PORTn_CTL_SPEED p) →
      ∃ t, exec (.klCntClear q p v) s = .next t ∧ (∀ k, k < 10 → t.rg .KL_PORTn_CNTk p k =
          b2n (s.time.raised.contains (Reg.addr .KL_PORTn_CNTk p k, 32))) ∧
        t.portOn p = s.portOn p ∧ t = { s with regs := t.regs })

/-- A word of the schedule is written while its mode is UNCHECKED or READY (R121); a mode that meets the conditions 1 to 10
of R122 becomes READY by CHECK, with the CRC-32C of its entries; a request that meets the conditions of R125 makes its
target PENDING at the boundary of R126; at B − 4 the switch commits when every node of either mode has acknowledged, and
aborts otherwise, naming the node of the lowest id (R128, R130). -/
def Obligations.ModesAreCheckedAndSwitched : Prop :=
  ∀ (s : State) (q : Requester) (m w : Nat) (v : Word),
    let k := bits v.toNat 2 0
    (s.grants q .KL_SCHEDm_Ww m w = true → s.fd F.KL_MODE_STATm_STATE m < 2 →
      ∃ t, exec (.scheduleEntryWrite q m w v) s = .next t ∧ t.rg .KL_SCHEDm_Ww m w = v.toNat ∧
        t.fd F.KL_MODE_STATm_STATE m = 0 ∧ t = { s with regs := t.regs }) ∧
    (s.grants q .KL_MODE_STATm m = true → bits v.toNat 15 15 = 1 → bits v.toNat 12 0 = s.fd F.KL_MODE_STATm_LEN m →
      s.fd F.KL_MODE_STATm_STATE m < 2 → s.modeSound m →
      ∃ t, exec (.modeCheck q m v) s = .next t ∧ t.fd F.KL_MODE_STATm_STATE m = 1 ∧
        t.rg .KL_MODE_CRCm m = crc32c (s.modeBytes m) % 2 ^ 32 ∧ t = { s with regs := t.regs }) ∧
    (s.grants q .KL_MODE_SW = true → bits v.toNat 7 7 = 1 → s.flag F.KL_MODE_SW_PENDING = false → s.anyPort = true →
      s.activeMode ≠ some k → s.fd F.KL_MODE_STATm_STATE k = 1 →
      (∀ g ∈ s.agsOn, ∀ n ∈ s.agNodes g, n ≠ 0xFFFF ∧ ∃ e ∈ s.schedEntries k, e.node = n ∧ e.rate = 0) →
      (∀ n ∈ s.safetyNodes, n ≠ 0xFFFF ∧ ∃ e ∈ s.schedEntries k, e.node = n) →
      ∃ t, exec (.modeSwitchRequest q v) s = .next t ∧ t.fd F.KL_MODE_SW_PENDING = 1 ∧
        t.fd F.KL_MODE_STATm_STATE k = 2 ∧
        t.fd F.KL_MODE_SW_AGREE_ID = (s.fd F.KL_MODE_SW_AGREE_ID + 1) % 256 ∧
        (let b := (s.time.bcn + 17 + 16 * bits v.toNat 23 16 + 15) / 16 * 16
        let x : KlSwitch := { target := k, old := s.fd F.KL_MODE_SW_ACTIVE, boundary := b,
                              reqBcn := s.time.bcn, fate := 1, lost := none, byPort := false, acks := [],
                              granted := [], decided := none }
        t.rg64 .KL_MODE_SWB_LO .KL_MODE_SWB_HI = b % 2 ^ 64 ∧ t.kl = { s.kl with sw := some x })) ∧
    ∀ x : KlSwitch, s.kl.sw = some x → x.boundary ≤ s.time.bcn + 4 → x.fate = 1 → x.lost = none →
      x.decided ≠ some s.time.bcn →
      let d := some s.time.bcn
      ((∀ n ∈ s.modeNodes x.old ++ s.modeNodes x.target, n ∈ x.acks) →
        exec .modeSwitchDecide s = .next { s with kl := { s.kl with sw := some { x with fate := 2, decided := d } } }) ∧
      (∀ n ∈ s.modeNodes x.old ++ s.modeNodes x.target, n ∉ x.acks → x.target < 8 →
        ∃ t j, exec .modeSwitchDecide s = .next t ∧ j ≤ n ∧ t.fd F.KL_MODE_STATm_STATE x.target = 1 ∧
          t.fd F.KL_MODE_SW_PENDING = 0 ∧ t.fd F.KL_MODE_FAIL_REASON = 0x16 ∧ t.fd F.KL_MODE_FAIL_NODE = j % 4096 ∧
          t.kl = { s.kl with sw := some { x with fate := 3, decided := d } })

/-- Frames of a base cycle at a port (R109, R132 to R136, R138, R139): an accepted uplink record is stored and makes its node
heard, one turned away is counted, a served slot without one is a miss; an event frame in its grant joins the receive
ring, one outside any grant is counted, and one in the transmit ring is sent within the window or held and counted; EVIDX moves a ring forward. -/
def Obligations.FramesAtAPort : Prop :=
  ∀ (s : State) (q : Requester) (v : Word) (p stamp slot dt : Nat) (bs : List Byte) (ok : Bool), p < 8 →
    (s.portOn p = true → s.time.noBase = false →
      let wire := 94 * byteWire (s.fd F.KL_PORTn_CTL_SPEED (s.netOf p))
      let u := s.advanceTo (s.time.bcStart + stamp + (wire + 1279) / 1280)
      (∀ k, k < 10 → u.uplinkJudge p stamp ok bs = .inl k → ∃ t, exec (.uplinkReceive p stamp ok bs) s = .next t ∧
        t.rg .KL_PORTn_CNTk p k = satInc 32 (s.rg .KL_PORTn_CNTk p k) ∧ t.kl.nodes = s.kl.nodes ∧ t.mem = s.mem ∧
        t.lv = s.lv) ∧
      ∀ e, u.uplinkJudge p stamp ok bs = .inr e → (u.node e.node).integ = true → e.node < 2048 → e.safe = false →
        u.kl.sw = none → bits (fieldAt (bs.drop 26) 2 2) 7 4 = 9 →
        ∃ t, exec (.uplinkReceive p stamp ok bs) s = .next t ∧
          Mem.readN t.mem.sram (0x10800 + 64 * e.node) 64 = bs.drop 26 ∧
          (t.node e.node).integ = true ∧ (t.node e.node).miss = 0 ∧
          (t.node e.node).run = (u.node e.node).run + 1 ∧ (t.node e.node).ulBcn = some s.time.bcn) ∧
    (s.portOn p = true → s.time.noBase = true →
      (∃ t, exec (.uplinkReceive p stamp ok bs) s = .next t ∧ t.mem = s.mem ∧
        let k := if ok then 4 else 3
        t.rg .KL_PORTn_CNTk p k = satInc 32 (s.rg .KL_PORTn_CNTk p k)) ∧
      (s.headerOk bs 4 = true → ∃ t, exec (.eventReceive p stamp true bs) s = .next t ∧ t.mem = s.mem ∧
        t.rg .KL_PORTn_CNTk p 6 = satInc 32 (s.rg .KL_PORTn_CNTk p 6))) ∧
    (∀ e, s.activeEntries.find? (fun e => e.port = p && e.slot = slot && e.node ≠ 0xFFFF && e.ulEn &&
        e.served s.time.bcn) = some e → s.netOn p = true → s.time.noBase = false → (s.node e.node).ulBcn ≠ some s.time.bcn →
      (s.node e.node).missBcn ≠ some s.time.bcn →
      ∃ t, exec (.ulMiss p slot) s = .next t ∧ t.rg .KL_PORTn_CNTk p 0 = satInc 32 (s.rg .KL_PORTn_CNTk p 0) ∧
        (t.node e.node).miss = (s.node e.node).miss + 1 ∧ (t.node e.node).run = 0 ∧
        ((t.node e.node).present = true ↔ (s.node e.node).present = true ∧
          (s.node e.node).miss + 1 < s.fd F.KL_PORTn_CTL_MISS_LIMIT p) ∧ t.mem = s.mem) ∧
    (s.portOn p = true → s.time.noBase = false → s.headerOk bs 4 = true → stamp < guardStart s.time.base →
      klField bs 4 4 = s.time.bcn % 2 ^ 32 →
      let u := s.advanceTo (s.time.bcStart + stamp)
      let h := s.fd F.KL_PORTn_EVIDX_RX_HEAD p
      let a := s.rg .KL_PORTn_EVRX_BASE p + 1536 * h
      let f := (bs.drop 14).take (12 + klField bs 10 2)
      u.inGrant p (klField bs 2 2) stamp (12 + klField bs 10 2) = true →
      ((h + 1) % 64 ≠ s.fd F.KL_PORTn_EVIDX_RX_TAIL p → f.length ≤ 1520 → a + 1536 ≤ 2 ^ 24 →
        ∃ t, exec (.eventReceive p stamp true bs) s = .next t ∧ t.fd F.KL_PORTn_EVIDX_RX_HEAD p = (h + 1) % 64 ∧
          Mem.readN t.mem.sram (a + 16) f.length = f ∧ Mem.num t.mem.sram a 2 = f.length ∧
          ∀ x, (x < a ∨ a + 16 + f.length ≤ x) → Mem.read t.mem.sram x = Mem.read s.mem.sram x) ∧
      ((h + 1) % 64 = s.fd F.KL_PORTn_EVIDX_RX_TAIL p → ∃ t, exec (.eventReceive p stamp true bs) s = .next t ∧
        t.rg .KL_PORTn_CNTk p 9 = satInc 32 (s.rg .KL_PORTn_CNTk p 9) ∧ t.mem = s.mem ∧ t.kl.sw = s.kl.sw)) ∧
    (s.portOn p = true → s.isStandby = false → s.time.noBase = false →
      let u := s.advance dt
      let k := s.fd F.KL_PORTn_EVIDX_TX_TAIL p
      let a := s.rg .KL_PORTn_EVTX_BASE p + 1536 * k
      let len := s.sramN a 2
      let w0 := s.time.bcStart + eventStart s.time.base + (if s.phase = 15 then 2000 else 0)
      let w1 := s.time.bcStart + guardStart s.time.base
      k ≠ s.fd F.KL_PORTn_EVIDX_TX_HEAD p →
      (∀ start, u.eventSlot p (max u.ctNs (s.sramN (a + 8) 8)) len = some start →
        max (max u.ctNs w0) (s.sramN (a + 8) 8) * 1280 ≤ start ∧
        start + klWire len * byteWire (s.fd F.KL_PORTn_CTL_SPEED p) ≤ w1 * 1280 ∧
        ∃ t, exec (.eventSend p dt) s = .next t ∧ t.fd F.KL_PORTn_EVIDX_TX_TAIL p = (k + 1) % 64 ∧
          t.kl.out = s.kl.out ++ [{ port := p, stamp := s.stampOf p start,
                                    bytes := s.klEthernet p ++ s.sramBytes (a + 16) len }] ∧
          (a + 4 ≤ 2 ^ 24 → t.sramN (a + 2) 2 = 0)) ∧
      (u.eventSlot p (max u.ctNs (s.sramN (a + 8) 8)) len = none → s.sramN (a + 8) 8 < w1 →
        ∃ t, exec (.eventSend p dt) s = .next t ∧ t.fd F.KL_PORTn_EVIDX_TX_TAIL p = k ∧ t.kl.out = s.kl.out ∧
          t.rg .KL_PORTn_CNTk p 5 = satInc 32 (s.rg .KL_PORTn_CNTk p 5))) ∧
    (s.grants q .KL_PORTn_EVIDX p = true →
      let d (a b : Nat) : Nat := (a + 64 - b) % 64
      let txT := s.fd F.KL_PORTn_EVIDX_TX_TAIL p
      let rxH := s.fd F.KL_PORTn_EVIDX_RX_HEAD p
      d (s.fd F.KL_PORTn_EVIDX_TX_HEAD p) txT ≤ d (bits v.toNat 5 0) txT →
      d rxH (bits v.toNat 29 24) ≤ d rxH (s.fd F.KL_PORTn_EVIDX_RX_TAIL p) →
      ∃ t, exec (.evidxWrite q p v) s = .next t ∧ t.fd F.KL_PORTn_EVIDX_TX_HEAD p = bits v.toNat 5 0 ∧
        t.fd F.KL_PORTn_EVIDX_RX_TAIL p = bits v.toNat 29 24 ∧
        s.sets t [(F.KL_PORTn_EVIDX_TX_HEAD, p), (F.KL_PORTn_EVIDX_RX_TAIL, p)])

/-- Delay measurement, cold start, integration and the loss of the reference (R146, R148, R153, R154, R160, R163, R166). -/
def Obligations.ColdStartAndMeasurement : Prop :=
  ∀ (s : State) (q : Requester) (v : Word) (p dt : Nat) (bs : List Byte),
    let c := s.kl.cold
    let u := s.advance dt
    (s.portOn p = true → s.isStandby = false → u.klReject p 7 true bs = none → klField bs 12 1 = 2 →
      34 ≤ klField bs 10 2 →
      ∃ t, exec (.preqReceive p dt true bs) s = .next t ∧ t.kl.out.length = s.kl.out.length + 1 ∧
        (∀ x ∈ t.kl.out.drop s.kl.out.length, x.port = p ∧ klField x.bytes 12 1 = 3 ∧ u.time.ct ≤ x.stamp ∧
          klField x.bytes 16 4 = u.turnOf p u.time.ct x.stamp % 2 ^ 32) ∧
        t.kl.count = (s.kl.count + 1) % 256 ∧ t = { u with kl := t.kl, freeCount := u.freeCount + 1 }) ∧
    (s.portOn p = true → u.klReject p 7 true bs = none → klField bs 12 1 = 4 → 34 ≤ klField bs 10 2 →
      let r : KlReport := { node := klField bs 14 2, hop := klField bs 16 1, link := klField bs 20 4,
                            resAB := klField bs 24 4, resBA := klField bs 28 4 }
      ∃ t, exec (.reportReceive p dt true bs) s = .next t ∧ r ∈ t.reportsOf (s.netOf p) ∧
        ∀ x ∈ t.reportsOf (s.netOf p), x.node = r.node → x = r) ∧
    (∀ e, s.portOn p = true → s.netOf p ≠ p → s.kl.preq.find? (fun e => e.1 = s.netOf p) = some e →
      u.klReject p 7 true bs = none → klField bs 12 1 = 3 → 34 ≤ klField bs 10 2 →
      let tx := s.fd F.KL_PORTn_LAT_TX_EXT p
      let rx := s.fd F.KL_PORTn_LAT_RX_EXT p
      let rtt : Int := (((u.time.ct / 2 ^ 24 : Nat) : Int) - rx) - (((e.2 / 2 ^ 24 : Nat) : Int) - tx)
      ∃ t, exec (.preqReceive p dt true bs) s = .next t ∧
        Tab.get (fun _ => 0) t.kl.closing (s.netOf p) = (rtt - klField bs 16 4).toNat / 2 - tx - rx ∧
        ∀ x ∈ t.kl.preq, x.1 ≠ s.netOf p) ∧
    (∀ x, s.kl.measure.find? (fun e => e.1 = p) = some x →
      (s.coldNet p = true → s.spreadBad p (s.resultsAt p) = false) →
      ∃ t, exec (.measureEnd p) s = .next t ∧ p ∈ t.kl.measured ∧ (∀ y ∈ t.kl.measure, y.1 ≠ p) ∧
        t.time.ticks = max s.time.ticks (measureEndAt x.2.1 x.2.2) ∧
        (s.coldNet p = true → t.csState = 2 ∧ t.kl.cold.since = t.time.ticks)) ∧
    (s.csState = 2 → s.flag F.KL_TIME_CTL_CAP = true → ∃ t, exec .listenElapsed s = .next t ∧ t.csState = 3 ∧
      t.time.ticks = max s.time.ticks (c.since + 16 * s.lenNs) ∧ t.kl.cold = { c with since := t.time.ticks }) ∧
    (s.csState = 3 → ∃ t, exec .rankDelayElapsed s = .next t ∧ t.csState = 4 ∧
      t.time.ticks = max s.time.ticks (c.since + s.fd F.KL_TIME_CTL_RANK * 5000) ∧
      t.kl.cold = { c with attempt := c.attempt + 1, stamp := t.time.ticks, spoiled := false } ∧
      t.kl.out.length = s.kl.out.length + 1) ∧
    (s.csState = 5 → ∃ t, exec .backoffElapsed s = .next t ∧ t.csState = 4 ∧ t.kl.cold.attempt = c.attempt + 1 ∧
      t.kl.out.length = s.kl.out.length + 1 ∧ t.time.ticks =
        max s.time.ticks (c.stamp + 25000 + 16 * s.lenNs + s.fd F.KL_TIME_CTL_RANK * 5000)) ∧
    (s.csState = 4 → ∃ t, exec .attemptWindowEnd s = .next t ∧ t.csState = 10 ∧ t.fd F.TIM_CT_STAT_SRC = 2 ∧
      t.kl.ref = some (0x800 + s.ch.strap % 4) ∧ t.time.ctInc = 2 * 2 ^ 32 ∧
      t.time.ticks = max s.time.ticks (c.stamp + 25000)) ∧
    (s.portOn p = true → s.netOf p = s.fd F.KL_TIME_CTL_REF_PORT → s.ch.strap % 4 = 0 →
      ((s.csState = 2 ∨ s.csState = 3 ∨ s.csState = 5) → u.klReject p 6 true bs = none →
        klField bs 15 1 % 4 = s.time.base → ∃ t, exec (.coldStartFrameReceive p dt true bs) s = .next t ∧ t.csState = 6 ∧
          t.kl.cold.frm = klField bs 2 2 ∧ t.kl.cold.frmCt = klField bs 16 8 * 2 ^ 32 + klField bs 24 4 ∧
          t.kl.cold.stamp = s.time.ticks + dt) ∧
      ((s.csState = 2 ∨ s.csState = 3) → ∃ t, exec (.coldStartFrameReceive p dt false bs) s = .next t ∧ t.csState = 2 ∧
        t.kl.cold = { c with since := s.time.ticks + dt } ∧
        t.rg .KL_PORTn_CNTk p 3 = satInc 32 (s.rg .KL_PORTn_CNTk p 3))) ∧
    (s.csState = 6 → (c.spoiled = true → ∃ t, exec .deferWindowEnd s = .next t ∧ t.csState = 2) ∧
      (c.spoiled = false → ∃ t, exec .deferWindowEnd s = .next t ∧ t.csState = 9 ∧ t.fd F.TIM_CT_STAT_SRC = 1 ∧
        t.kl.ref = some c.frm ∧ t.time.noBase = true)) ∧
    (s.grants q .KL_TIME_CTL = true → s.anyPort = false → bits v.toNat 15 8 ≠ 0 →
      s.netOf (bits v.toNat 2 0) = bits v.toNat 2 0 → ∃ t, exec (.klTimeCtlWrite q v) s = .next t ∧
        t.fd F.KL_TIME_CTL_TR_LIMIT = bits v.toNat 15 8 ∧ t.fd F.KL_TIME_CTL_RANK = bits v.toNat 5 4 ∧
        t.fd F.KL_TIME_CTL_CAP = bits v.toNat 3 3 ∧ t.fd F.KL_TIME_CTL_REF_PORT = bits v.toNat 2 0 ∧
        t = { s with regs := t.regs })

/-- Following a reference (R65, R153, R160, R163, R164, R166, R172): an accepted TIME_REPORT sets the increment by the loop
of R164, whose correction is held at ±20 ppm; missing reports end in HOLDOVER, at the last increment; a sync frame heard
while listening loads cell time, and the third in a row integrates; chain time words do the same along a chain. -/
def Obligations.ReferenceIsFollowed : Prop :=
  ∀ (s : State) (p node dt : Nat) (bs : List Byte),
    let u := s.advance dt
    (s.csState = 9 → s.kl.ref = some node → s.kl.trSeen = false → s.portOn p = true → u.klReject p 7 true bs = none →
      klField bs 12 1 = 6 → 34 ≤ klField bs 10 2 → klField bs 2 2 = node → klField bs 16 4 = s.time.bcn % 2 ^ 32 →
      let e := toSigned 64 (klField bs 20 8)
      let k : Int := 250000 / s.lenNs
      let c := u.kl.integral + 17 * e * k
      let lim := alignUnit * 20 / 1000000
      ∃ t, exec (.timeReportReceive p dt true bs) s = .next t ∧ t.kl.trSeen = true ∧ t.kl.trMiss = 0 ∧
        t.time.ctInc = (2 ^ 33 + (2 ^ 33 * max (-lim) (min lim c)).tdiv alignUnit).toNat ∧
        t.rg .KL_TIME_ERR = ofSigned 32 (e / 256) ∧ t.mem = s.mem ∧
        (-lim ≤ c ∧ c ≤ lim → t.kl.integral = u.kl.integral + e * k ∧
          t.fd F.TIM_CT_STAT_CLAMP = s.fd F.TIM_CT_STAT_CLAMP) ∧
        (c < -lim ∨ lim < c → t.kl.integral = u.kl.integral ∧ t.fd F.TIM_CT_STAT_CLAMP = 1 ∧
          t.fd F.TIM_CT_STAT_CLAMP_CNT = satInc 8 (s.fd F.TIM_CT_STAT_CLAMP_CNT))) ∧
    (s.csState = 9 → s.kl.ref = some node → node < 0x800 →
      s.kl.bySync = false →
      (s.fd F.KL_TIME_CTL_TR_LIMIT ≤ s.kl.trMiss ∨ (s.kl.refSeen = true ∧ (s.node node).present = false)) →
      ∃ t, exec .holdover s = .next t ∧ t.csState = 11 ∧ t.fd F.TIM_CT_STAT_SRC = 3 ∧
        t.fd F.TIM_CT_STAT_HOLD_CNT = satInc 8 (s.fd F.TIM_CT_STAT_HOLD_CNT) ∧
        t.time = { s.time with raised := t.time.raised } ∧
        t.kl = { s.kl with holdBcn := some s.time.bcn } ∧ t.mem = s.mem) ∧
    (∀ link, s.portOn p = true → s.isStandby = false → s.coldNet p = true → u.klReject p 1 true bs = none → klField bs 2 2 ≠ s.selfId →
      let at_ := ((klField bs 12 8 * 2 ^ 32 + link * 2 ^ 24 : Nat) + toSigned 64 (klField bs 20 8) * 2 ^ 16).toNat
      let ref := klField bs 28 2
      ((s.csState = 2 ∨ s.csState = 3 ∨ s.csState = 7) → ∃ t,
        exec (.syncFrameReceive p link dt true bs) s = .next t ∧ t.csState = 8 ∧ t.kl.cold.syncs = 1 ∧
        t.time.ct = at_ % 2 ^ 96 ∧ t.time.noBase = true ∧ t.kl.ref = some ref ∧ t.mem = s.mem) ∧
      (s.csState = 8 → s.kl.cold.syncs = 2 → klField bs 4 4 % 2 ^ 32 = (s.kl.cold.syncBcn + 1) % 2 ^ 32 →
        s.kl.ref = some ref → ((at_ : Int) - u.time.ct).natAbs ≤ 100 * 2 ^ 32 → ∃ t,
        exec (.syncFrameReceive p link dt true bs) s = .next t ∧ t.csState = 9 ∧ t.fd F.TIM_CT_STAT_SRC = 1 ∧
        t.time.ct = u.time.ct ∧ t.kl.trSeen = true)) ∧
    (∀ ct ask turn, s.domOn 23 = true → s.ch.strap % 4 ≠ 0 → s.nearPort = p → s.csState ≠ 9 → s.csState ≠ 11 →
      let link := match turn, s.ch.asks.find? (fun e => e.1 = p) with
        | some k, some e => ((u.time.ct - e.2) / 2 ^ 24 - k) / 2
        | _, _ => s.chainLink p
      ∃ t, exec (.chainTimeWordReceive p ct dt ask turn) s = .next t ∧ t.csState = 9 ∧
        t.ch.answers.length = s.ch.answers.length + b2n ask ∧
        t.time.ct = (ct + link * 2 ^ 24) % 2 ^ 96 ∧ t.time.noBase = true ∧ t.fd F.KL_TIME_CHAIN_SRC_PORT = p + 1 ∧
        t.fd F.TIM_CT_STAT_SRC = 1 ∧ t.quietOf p = 0 ∧ t.chainLink p = link) ∧
    (s.ch.strap % 4 ≠ 0 → (s.fd F.KL_TIME_CHAIN_SRC_PORT = 1 ∨ s.fd F.KL_TIME_CHAIN_SRC_PORT = 2) →
      8 ≤ s.quietOf (s.fd F.KL_TIME_CHAIN_SRC_PORT - 1) → s.quietOf (2 - s.fd F.KL_TIME_CHAIN_SRC_PORT) < 8 →
      ∃ t, exec .chainSourceSwitch s = .next t ∧
        t.fd F.KL_TIME_CHAIN_SRC_PORT = 3 - s.fd F.KL_TIME_CHAIN_SRC_PORT ∧
        t.fd F.KL_TIME_CHAIN_CHLOSS_CNT = satInc 8 (s.fd F.KL_TIME_CHAIN_CHLOSS_CNT) ∧
        s.sets t [(F.KL_TIME_CHAIN_SRC_PORT, 0), (F.KL_TIME_CHAIN_CHLOSS_CNT, 0)])

/-! ## Levain -/

/-- What a deposit does (R205, R218 to R224, R229, R248): a token of a source that stands before one already applied in the
present tick falls into the next one, and the tick generators of its tick that stand before it deposit first; a template that is not ON counts and gives TEMPLATE_OFF; a late token of a SEQ
template LATE_TOKEN; a token for an occupied slot replaces its payload, REPLACED; else the token takes one operand entry,
and the instance fires when every required slot holds a token. -/
def Obligations.DepositMatchesTokens : Prop :=
  ∀ (s : State) (src : TokSrc) (t k tag : Nat) (v : Word), t < 4096 → k < 16 → tag < 2 ^ 16 → s.bridgeOf t = none →
    let u := s.takeTurnOf src
    let r := s.deposit src (k * 2 ^ 12 + t) tag v
    let late := u.tplSeq t = true ∧ t ∈ u.lv.seqValid ∧ (u.tpl t 26 2 + 2 ^ 16 - tag) % 2 ^ 16 < 2 ^ 15
    let old := u.lv.waiting.find? (fun x => x.tpl = t && x.tag = tag)
    let slots := (old.map (·.slots)).getD []
    let new : Inst := { tpl := t, tag := tag, slots := putSlot k v slots,
                        deadline := (old.map (·.deadline)).getD (u.deadlineOf t) }
    (∀ n, src.rank = some n →
      let w : State := if s.lv.turn.1 = s.time.ticks ∧ n < s.lv.turn.2 then s.advance 1 else s
      u.time = w.time ∧ u.lv.turn = (w.time.ticks, n) ∧
      (∀ j, j < min (n - 8) 64 → w.tickDue j = true → j ∈ u.lv.tickDone) ∧
      ((∀ j, j < min (n - 8) 64 → w.tickDue j = false) → u = { w with lv := { w.lv with turn := (w.time.ticks, n) } })) ∧
    (u.tplOn t = false → r.2 = 0x21 ∧ r.1.rg .LV_CNTk 3 = satInc 32 (s.rg .LV_CNTk 3) ∧
      r.1 = { u with regs := r.1.regs }) ∧
    (u.tplOn t = true → late → r.2 = 0x22 ∧ r.1.rg .LV_CNTk 4 = satInc 32 (s.rg .LV_CNTk 4) ∧
      r.1 = { u with regs := r.1.regs }) ∧
    (u.tplOn t = true → ¬ late → (∃ e ∈ slots, e.1 = k) → r.2 = 0x20 ∧ r.1.lv.fired = u.lv.fired ∧
      r.1.fd F.LV_STAT_FREE = u.fd F.LV_STAT_FREE ∧ new ∈ r.1.lv.waiting ∧
      r.1.lv.waiting.length = u.lv.waiting.length) ∧
    (u.tplOn t = true → ¬ late → (∀ e ∈ slots, e.1 ≠ k) → 0 < u.fd F.LV_STAT_FREE → u.complete new = false →
      r.2 = 0x00 ∧ new ∈ r.1.lv.waiting ∧ r.1.lv.fired = u.lv.fired ∧
      r.1.fd F.LV_STAT_FREE = u.fd F.LV_STAT_FREE - 1) ∧
    (u.tplOn t = true → ¬ late → (∀ e ∈ slots, e.1 ≠ k) → 0 < u.fd F.LV_STAT_FREE → u.complete new = true →
      u.isStandby = false → (∀ x ∈ u.lv.fired, x.tpl < 4096) →
      (u.queueOf (u.tplFlow t)).length < u.flow (u.tplFlow t) 2 →
      r.2 = 0x00 ∧ (∀ x ∈ r.1.lv.waiting, x.tpl = t → x.tag ≠ tag) ∧
      ∃ x, r.1.lv.fired = insertFired x u.lv.fired ∧ x.tpl = t ∧ x.tag = tag ∧ x.slots = new.slots ∧ x.part = false ∧
        x.fireCt = u.ctNs ∧ x.tick = u.time.ticks) ∧
    (u.tplOn t = true → ¬ late → (∀ e ∈ slots, e.1 ≠ k) → u.fd F.LV_STAT_FREE = 0 →
      r.2 = 0x05 ∧ r.1.lv = u.lv ∧ r.1.mem = s.mem)

/-- DISPATCH starts an eligible instance on an idle permitted core (R180, R240 to R244); a tick generator deposits its token in
the TIME tick of its offset (R219, R246); an instance that misses its deadline, at which every token of that tick has been
applied, fires partial or is discarded (R230, R231); a fired instance is released at
its instant (R238, R239). -/
def Obligations.InstancesMoveOn : Prop :=
  ∀ (s : State) (t tag k : Nat),
    (∀ x l, s.nextDispatch s.lv.fired = some (x, l) → x.tpl < 4096 → ∃ u, exec .dispatch s = .next u ∧
      x ∈ s.lv.fired ∧ s.eligible x = true ∧ (s.core (s.physCore l)).run = .idle ∧
      (let c := u.core (s.physCore l)
      c.run = .run ∧ c.handler = false ∧ c.pc = BitVec.ofNat 32 (s.tplEntry x.tpl) ∧ c.rrb = 0 ∧ c.lc = 0 ∧
        c.budget = s.tpl x.tpl 20 4 ∧ c.gr 1 = BitVec.ofNat 32 (x.tpl * 2 ^ 16 + x.tag) ∧
        c.gr 3 = BitVec.ofNat 32 x.fireCt ∧
        (∀ j, j < 16 → c.wr j = ((x.slots.find? (fun e => e.1 = j)).map (·.2)).getD 0) ∧
        ∃ v, c.svc = some v ∧ v.tpl = x.tpl ∧ v.tag = x.tag ∧ v.flow = s.tplFlow x.tpl ∧ v.lcore = l ∧
          v.planSeq = s.planSeq (s.flowOwner (s.tplFlow x.tpl))) ∧
      (∀ m, m ≠ s.physCore l → u.core m = s.core m) ∧ u.flow (s.tplFlow x.tpl) 4 = 1 ∧
      (l < 256 → u.flow (s.tplFlow x.tpl) 6 = l) ∧ u.lv.fired = s.lv.fired.erase x ∧ u.mem = s.mem) ∧
    (let ofs := s.offsetNs (s.fd F.LV_TICKk_OFS_OFS k) * 2 ^ 32
    k < 64 → s.flag F.LV_TICKk_OFS_EN k = true → bit (s.fd F.LV_TICKk_CTL_PHASES k) s.phase = true →
      s.time.noBase = false → k ∉ s.lv.tickDone → s.fd F.LV_TICKk_CTL_TOKEN k ≠ 0xFFFF → s.clockOn = true →
      s.time.ctLoad = none → s.time.ct < 2 ^ 96 → s.time.ct < ofs + s.time.ctInc → ofs + s.time.ctInc < 2 ^ 96 →
      ∃ u, exec (.tick k) s = .next u ∧ k ∈ u.lv.tickDone ∧
        (let w : State := (s.advanceTo (ofs / 2 ^ 32)).tickTokens k
        ofs ≤ u.time.ct ∧ u.time.ct < ofs + s.time.ctInc ∧
        u = ((({ w with lv := { w.lv with tickDone := k :: w.lv.tickDone } } : State).applyToken (.tick k)
          (s.fd F.LV_TICKk_CTL_TOKEN k) s.bcTag (BitVec.ofNat 32 s.phase)).1))) ∧
    (∀ x y d, s.lv.waiting.find? (fun x => x.tpl = t && x.tag = tag) = some y → y.deadline = some d → t < 4096 →
      tag < 2 ^ 16 →
      let w := (s.advanceTo d).takeTurn 1000
      w.lv.waiting.find? (fun x => x.tpl = t && x.tag = tag) = some x →
      (w.tplDlMode t = 1 → w.isStandby = false → (∀ y ∈ w.lv.fired, y.tpl < 4096) →
        (w.queueOf (w.tplFlow t)).length < w.flow (w.tplFlow t) 2 →
        ∃ u z, exec (.instanceDeadline t tag) s = .next u ∧ u.lv.fired = insertFired z w.lv.fired ∧ z.tpl = t ∧ z.tag = tag ∧
          z.part = true ∧ z.slots = x.slots ∧ (∀ z ∈ u.lv.waiting, z.tpl = t → z.tag ≠ tag) ∧
          u.rg .LV_CNTk 5 = satInc 32 (w.rg .LV_CNTk 5)) ∧
      (w.tplDlMode t ≠ 1 → ∃ u, exec (.instanceDeadline t tag) s = .next u ∧ u.lv.fired = w.lv.fired ∧
        (∀ z ∈ u.lv.waiting, z.tpl = t → z.tag ≠ tag) ∧ u.tpl t 26 2 = tag ∧
        u.rg .LV_CNTk 6 = satInc 32 (w.rg .LV_CNTk 6) ∧
        u.fd F.LV_STAT_FREE = min 16384 (w.fd F.LV_STAT_FREE + x.slots.length))) ∧
    ∀ x, s.lv.fired.find? (fun x => x.tpl = t && x.tag = tag && !x.released) = some x →
      ∃ u, exec (.instanceRelease t tag) s = .next u ∧ u.lv.fired.length = s.lv.fired.length ∧
        (∀ y ∈ u.lv.fired, y.tpl = t → y.tag = tag → y.relAt ≤ x.relAt → y.released = true) ∧ u.lv.waiting = s.lv.waiting ∧ u.mem = s.mem

/-- Accepted writes of Levain's tables and commands (R226 to R228, R235, R236, R246). -/
def Obligations.LevainTablesAndCommands : Prop :=
  ∀ (s : State) (q : Requester) (t f k w : Nat) (v : Word),
    (s.grants q .LV_TPLt_Ww t w = true → s.tplOn t = false → w < 6 → ∃ u, exec (.templateWrite q t w v) s = .next u ∧
      u.rg .LV_TPLt_Ww t w = v.toNat ∧ u = { s with regs := u.regs }) ∧
    (s.grants q .LV_TPL_CMD = true → t < 4096 →
      (s.tplCheck t = none → ∃ u, exec (.templateEnable q t) s = .next u ∧ u.tplOn t = true ∧
        t ∉ u.lv.seqValid ∧ u.lv.waiting = s.lv.waiting ∧ u.lv.fired = s.lv.fired) ∧
      (∃ u, exec (.templateDisable q t) s = .next u ∧ u.tplOn t = false ∧ (∀ x ∈ u.lv.waiting, x.tpl ≠ t) ∧
        (∀ x ∈ u.lv.fired, x.tpl ≠ t) ∧ ∀ x ∈ s.lv.fired, x.tpl ≠ t → x ∈ u.lv.fired) ∧
      ∃ u, exec (.templatePurge q t) s = .next u ∧ u.tplOn t = s.tplOn t ∧ (∀ x ∈ u.lv.waiting, x.tpl ≠ t) ∧
        u.lv.fired = s.lv.fired) ∧
    (s.grants q .LV_FLOWf_Ww f = true → (∀ x ∈ s.onTemplates, s.tplFlow x ≠ f) →
      ∃ u, exec (.flowWrite q f 0 v) s = .next u ∧ u.rg .LV_FLOWf_Ww f = v.toNat % 2 ^ 24 ∧ u = { s with regs := u.regs }) ∧
    (s.grants q .LV_FLOW_CMD = true → f < 4096 →
      (s.flow f 4 = 2 → ∃ u, exec (.flowRelease q f) s = .next u ∧ u.flow f 4 = 0 ∧ u.flow f 6 = 0xFF ∧
        u = { s with regs := u.regs }) ∧
      (s.flow f 4 ≠ 1 → ∃ u, exec (.flowPurge q f) s = .next u ∧ u.flow f 4 = 0 ∧ u.flow f 5 = 0 ∧
        (∀ x ∈ u.lv.fired, s.tplFlow x.tpl ≠ f) ∧ u.lv.waiting = s.lv.waiting) ∧
      (s.flow f 4 = 1 → ∃ u, exec (.flowPurge q f) s = .next u ∧ u.fd F.LV_FLOW_CMD_REFUSE = 0x02 ∧
        u.fd F.LV_FLOW_CMD_FLOW = s.fd F.LV_FLOW_CMD_FLOW ∧ u.lv = s.lv)) ∧
    (s.grants q .LV_TICKk_OFS k = true → bits v.toNat 9 0 * 250 < baseNs (s.fd F.TIM_CYCLE_BASE) →
      bits v.toNat 16 16 = 1 → s.fd F.LV_TICKk_CTL_TOKEN k ≠ 0xFFFF → s.fd F.LV_TICKk_CTL_PHASES k ≠ 0 →
      ∃ u, exec (.tickEnable q k v) s = .next u ∧ u.flag F.LV_TICKk_OFS_EN k = true ∧
        u.fd F.LV_TICKk_OFS_OFS k = bits v.toNat 9 0 ∧ s.sets u [(F.LV_TICKk_OFS_EN, k), (F.LV_TICKk_OFS_OFS, k)])

/-! ## The block -/

/-- A step with a command at the front of the queue is that command's effect on the state with the rest of the queue. -/
def Obligations.StepRunsFront : Prop :=
  ∀ (c : Instr) (rest : List Instr) (s : State), s.pending = c :: rest → step s = exec c { s with pending := rest }

/-- With no command waiting one TIME tick passes (the model's choice, assumption 1): the time base counts one, and while
the root clock runs a load or an adjustment that waits applies, and CT and PT otherwise gain their increments (R59, R61,
R64, R67 to R69, R651). -/
def Obligations.EmptyQueueTicks : Prop :=
  ∀ (s : State), s.pending = [] → ∃ t, step s = .next t ∧ t.time.ticks = s.time.ticks + 1 ∧ t.pending = [] ∧
    t.mem = s.mem ∧ t.lc = s.lc ∧ t.jnl = s.jnl ∧ t.time.raised = [] ∧ t.time.cleared = [] ∧
    (s.clockOn = true → t.time.ctLoad = none ∧ t.time.ptLoad = none ∧ t.time.ptAdj = 0 ∧
      (∀ v, s.time.ctLoad = some v → t.time.ct = v * 2 ^ 32 % 2 ^ 96 ∧ t.time.noBase = true) ∧
      (s.time.ctLoad = none → t.time.ct = (s.time.ct + s.time.ctInc) % 2 ^ 96 ∧ t.regs = s.regs) ∧
      (∀ v, s.time.ptLoad = some v → t.time.pt = v * 2 ^ 32 % 2 ^ 96) ∧
      (s.time.ptLoad = none → t.time.pt =
        ((((s.time.pt + s.ptIncReg : Nat) : Int) + s.time.ptAdj * 2 ^ 32) % 2 ^ 96).toNat)) ∧
    (s.clockOn = false → t = { s with cal := t.cal, time := { s.time with ticks := s.time.ticks + 1, raised := [],
                                                                          cleared := [] } })

/-- Every command answers a next state, in every state, and leaves the queue alone: the model has neither a fault nor a
refusal. -/
def Obligations.EveryCommandAnswers : Prop :=
  ∀ (c : Instr) (s : State), ∃ t, exec c s = .next t ∧ t.pending = s.pending

/-- Every step keeps the memories and the register file canonical, the lifecycle and what authentication granted in order
(R598, R601, R603), and at most 256 journal entries in the queue (R563). -/
def Obligations.StepKeepsSound : Prop :=
  ∀ (s t : State), s.sound = true → step s = .next t → t.sound = true

/-- The lifecycle state changes only forwards, whatever the command (R598). -/
def Obligations.LifecycleForward : Prop :=
  ∀ (c : Instr) (s t : State), s.sound = true → exec c s = .next t → s.lc.state ≤ t.lc.state ∧ t.lc.state ≤ 2

/-- The state after power-on reset is sound; the counters stand as R61 lays down, the module is delivered in MANUFACTURE
(R598), and only Spine, Thallus, Crust and PD_HST are ON (R512). -/
def Obligations.ResetState : Prop :=
  State.reset.sound = true ∧ State.reset.pending = [] ∧ State.reset.time.ct = 0 ∧ State.reset.time.pt = 0 ∧
    State.reset.time.ctInc = 2 * 2 ^ 32 ∧ State.reset.ptIncReg = 2 * 2 ^ 32 ∧ State.reset.lc.state = 0 ∧
    State.reset.fd F.TIM_CYCLE_BASE = 1 ∧ State.reset.fd F.CLK_DVFS_CORE_A = 3 ∧ State.reset.fd F.PW_MOD_STATE = 0 ∧
    ∀ d, d < 28 → (State.reset.domOn d = true ↔ 24 ≤ d)

/-! ## Accesses to the register window -/

/-- A write of the register window that is let through: the _LO half of a writable pair is held, a read-only register does
not change, flags written 1 are cleared unless the present tick has set them, read-write fields are set, and a
register that a command names does what that command does (R6, R7, R10). Accesses that are turned away: to a domain
that is not ON (R518, R521), of a requester whose access level forbids it (R599), of another width or to a reserved
offset (R5, R609). -/
def Obligations.RegisterAccesses : Prop :=
  (∀ (s : State) (q : Requester) (v : Word) (i j : Nat),
    (∀ r ∈ ([.TIM_CT_SET_LO, .TIM_PT_INC_LO, .TIM_PT_SET_LO, .CAL_SET_LO, .KL_GADDR_LO, .PW_WAKE_CT_LO,
        .HS_HEn_MAC_LO] : List Reg), s.grants q r i 0 = true →
      exec (.registerWrite q (r.addr i 0) v) s =
        .next { s with holds := Tab.set (fun _ => none) s.holds (latchKey q (r.addr i 0)) (some v.toNat) }) ∧
    (∀ r ∈ ([.GLOBAL_ID, .GLOBAL_MAPVER, .GLOBAL_SCRATCH, .GLOBAL_BADACC, .GLOBAL_RESET, .CLK_STAT, .TIM_CT_STAT,
        .CAL_STAT, .KL_MODE_ERRm, .KL_PORTn_CNTk, .KL_PORTn_EVTOK, .LV_STAT, .LV_CNTk, .LV_TICKk_CTL, .VC_STATn,
        .KN_AGMAP_SH, .KN_AGMAP, .KN_GUARD, .KN_PLAN_STOP, .AX_TGTn, .AX_VELn, .AX_STATn, .AX_CNTBn, .AX_CMPk_STAT,
        .AX_STj_TIM, .FB_LOADn, .FB_STATn, .FB_TOKn, .TH_STAT, .TH_AGn_SSM, .TH_MB_CRC, .SO_Cc_CNT, .PW_DOMd_STAT,
        .PW_VOLTi_STAT, .SV_HEALTHs, .SV_PLACE_SHn, .SV_WDOG_STAT, .SV_JNL_DATAk, .HS_VCNTv, .HS_HEn_LAT,
        .HS_HEn_TXq_CTL, .CH_STAT, .CH_BRIDGEk, .LC_CHALk] : List Reg), s.grants q r i j = true →
      ∃ t, exec (.registerWrite q (r.addr i j) v) s = .next t ∧ t = { s with regs := t.regs } ∧
        (∀ off, off ≠ r.addr i j → Tab.get regDefault t.regs off = Tab.get regDefault s.regs off) ∧
        ∀ b, b < 32 → (t.rg r i j).testBit b =
          if r.row.rw.testBit b then v.getLsbD b
          else (s.rg r i j).testBit b &&
            !(r.row.w1c.testBit b && v.getLsbD b && !s.time.raised.contains (r.addr i j, b))) ∧
    (∀ r ∈ ([.HS_VPEND_LO, .HS_VPEND_HI] : List Reg), s.grants q r 0 0 = true →
      ∃ t, exec (.registerWrite q (r.addr 0 0) v) s = .next t ∧
        t = { s with regs := t.regs, hs := { s.hs with msix := t.hs.msix },
                     time := { s.time with cleared := t.time.cleared } } ∧
        (∀ b, b < 32 → (t.rg r).testBit b =
            ((s.rg r).testBit b && !(v.getLsbD b && !s.time.raised.contains (r.addr 0 0, b))) ∧
          ((s.rg r).testBit b = true → (t.rg r).testBit b = false → (r.addr 0 0, b) ∈ t.time.cleared)) ∧
        ((∀ b, s.time.raised.contains (r.addr 0 0, 32 + b) = false) → t.hs.msix = s.hs.msix)) ∧
    exec (.registerWrite q (Reg.addr .CLK_REF 0 0) v) s = exec (.refSelect q v) s ∧
    exec (.registerWrite q (Reg.addr .GLOBAL_AG_EN 0 0) v) s = s.write q .GLOBAL_AG_EN 0 0 (writeAgEn q v) ∧
    (i < 28 → exec (.registerWrite q (Reg.addr .PW_DOMd_CTL i 0) v) s = exec (.domainRequest q i v) s)) ∧
  (∀ (s : State) (q : Requester) (r : Reg) (i j off width : Nat) (v : Word) (wr : Bool), s.portUp q = true →
    (q = .debug ∨ q = .mnt → s.accessLevel = 2) →
    (findReg (r.addr i j) = some (r, i, j) → r.addr i j % 4 = 0 → i < r.row.count → j < r.row.count2 →
      s.answers (r.domain i) = false → s.pw.offSeen.contains (r.domain i) = true →
      (∃ t, exec (.registerWrite q (r.addr i j) v) s = .next t ∧
        t.fd F.PW_OFFACC_CNT_COUNT = satInc 32 (s.fd F.PW_OFFACC_CNT_COUNT) ∧
        t.rg .PW_OFFACC = q.code * 2 ^ 24 + 2 ^ 16 + r.domain i ∧ t.rg .PW_OFFACC_ADR = r.addr i j ∧
        s.sets t [(F.PW_OFFACC_CNT_COUNT, 0), (⟨.PW_OFFACC, 31, 0⟩, 0), (⟨.PW_OFFACC_ADR, 31, 0⟩, 0)]) ∧
      (∃ t, exec (.readLoLatch q (r.addr i j)) s = .next t ∧
        t.hs.readData = leBytes 4 (if q = .host then 0xFFFFFFFF else 0) ∧
        t.rg .PW_OFFACC = q.code * 2 ^ 24 + r.domain i ∧ t.latches = s.latches)) ∧
    (s.domOn 24 = true → s.accessLevel = 0 → findReg (r.addr i j) = some (r, i, j) → r.addr i j % 4 = 0 →
      mntAlways r = false →
      exec (.registerWrite .mnt (r.addr i j) v) s = .next s) ∧
    (s.domOn 24 = true → s.accessLevel ≠ 2 → exec (.registerWrite .debug off v) s = .next s) ∧
    ((width ≠ 4 ∨ off % 4 ≠ 0 ∨ findReg off = none) → off < 2 ^ 32 →
      ∃ t, exec (.badAccess q off width wr) s = .next t ∧
        t.fd F.GLOBAL_BADACC_CNT_COUNT = satInc 32 (s.fd F.GLOBAL_BADACC_CNT_COUNT) ∧
        t.fd F.GLOBAL_BADACC_REQUESTER = q.code ∧ t.fd F.GLOBAL_BADACC_WRITE = (if wr then 1 else 0) ∧
        t.fd F.GLOBAL_BADACC_BAD = 1 ∧ t.rg .GLOBAL_BADACC_ADR = off ∧
        s.sets t [(F.GLOBAL_BADACC_CNT_COUNT, 0), (⟨.GLOBAL_BADACC, 31, 0⟩, 0), (⟨.GLOBAL_BADACC_ADR, 31, 0⟩, 0)]))

/-- A read of a _LO register latches its _HI register: the requester's next read of _HI returns what was latched, whatever
happened in between to the value and to other requesters' latches (R9, R611, R612). The maintenance port: a read
returns the marker, the four data bytes and STATUS; a write is the register write, with the marker and STATUS; a write
that chip select ends early writes nothing (R518, R589, R599). -/
def Obligations.LatchesAndMaintenancePort : Prop :=
  (∀ (s : State) (q : Requester) (i : Nat), s.portUp q = true → (q = .debug → s.accessLevel ≠ 0) →
    ∀ p ∈ ([(.TIM_CT_NS_LO, .TIM_CT_NS_HI), (.TIM_PT_NS_LO, .TIM_PT_NS_HI), (.TIM_BCN_LO, .TIM_BCN_HI),
      (.CAL_SEC_LO, .CAL_SEC_HI), (.TIM_CT_INC_LO, .TIM_CT_INC_HI), (.TIM_PT_INC_LO, .TIM_PT_INC_HI),
      (.TIM_CAPn_CT_LO, .TIM_CAPn_CT_HI), (.TIM_CAPn_PT_LO, .TIM_CAPn_PT_HI), (.KL_GADDR_LO, .KL_GADDR_HI),
      (.KL_MODE_SWB_LO, .KL_MODE_SWB_HI), (.KN_PLAN_VF_LO, .KN_PLAN_VF_HI), (.AX_CMPk_CT_LO, .AX_CMPk_CT_HI),
      (.FB_IDXCT_LOn, .FB_IDXCT_HIn), (.TH_PERS_LO, .TH_PERS_HI), (.PW_WAKE_CT_LO, .PW_WAKE_CT_HI),
      (.PW_LASTREF_CT_LO, .PW_LASTREF_CT_HI), (.GLOBAL_UID_LO, .GLOBAL_UID_HI), (.HS_HEn_MAC_LO, .HS_HEn_MAC_HI)] :
      List (Reg × Reg)), i < p.1.row.count → s.answers (p.1.domain i) = true →
    ∃ t, exec (.readLoLatch q (p.1.addr i 0)) s = .next t ∧
      t = { s with latches := t.latches, hs := { s.hs with readData := t.hs.readData } } ∧
      t.hs.readData = leBytes 4 (s.view p.1 i 0 &&& p.1.readMask) ∧
      ∀ u : State, u.portUp q = true → (q = .debug → u.accessLevel ≠ 0) → u.answers (p.2.domain i) = true →
        Tab.get (fun _ => none) u.latches (latchKey q (p.2.addr i 0)) =
          Tab.get (fun _ => none) t.latches (latchKey q (p.2.addr i 0)) →
        ∃ w, exec (.readLoLatch q (p.2.addr i 0)) u = .next w ∧
          w.hs.readData = leBytes 4 (s.view p.2 i 0 &&& p.2.readMask)) ∧
  (∀ (s : State) (wa : Nat) (v : Word) (r : Reg) (i j : Nat), s.held = false → wa < 2 ^ 24 →
    findReg (wa * 4) = some (r, i, j) →
    (s.answers (r.domain i) = true → r.isCompanion = false →
      ∃ t, exec (.mntRead wa) s = .next t ∧
        t.hs.mntReply = [0xA5] ++ (leBytes 4 (s.view r i j &&& r.readMask)).map BitVec.toNat ++ [0x00] ∧
        t = { s with latches := t.latches, hs := { s.hs with mntReply := t.hs.mntReply } }) ∧
    (s.answers (r.domain i) = false →
      ∃ t, exec (.mntRead wa) s = .next t ∧ t.hs.mntReply = [0xA5, 0, 0, 0, 0, 0x07]) ∧
    (∃ u, exec (.registerWrite .mnt (wa * 4) v) s = .next u ∧
      exec (.mntWrite wa v true) s = .next { u with hs := { u.hs with mntReply := [0xA5,
        if s.accessLevel = 0 ∧ mntAlways r = false then 0x06 else if s.answers (r.domain i) then 0x00 else 0x07] } }) ∧
    exec (.mntWrite wa v false) s = .next s)

/-! ## Supply, reset and boot -/

/-- Supply and reset (R58, R627 to R629, R631): the loss of VIN12 switches every output pair off and holds the module in
reset with the calendar on the supercap; power-up ends that and starts a boot; MRST_N resets everything but the
calendar and MRAM; a VSIO dip switches every output pair off. A boot (R593 to R595, R649): with no bank that passes
the checks STATE reads WAIT_HOST, CODE 0x7A, and no slice is powered; with a passing active bank whose list is empty
STATE reads RUN, the identifying fields stand in the records, and their counters read 0 (R618); a list entry whose
wait ends unmet stops the list. -/
def Obligations.SupplyResetAndBoot : Prop :=
  (∀ (s : State),
    (s.held = false → ∃ t, exec .vin12Loss s = .next t ∧ t.held = true ∧ t.cal = { s.cal with supply := .supercap } ∧
      (∀ d, t.domOn d = false) ∧ (∀ j, j < 20 → t.fd F.TH_SOj_STAT_ON j = 0) ∧ t.mem.img = s.mem.img ∧
      t.mem.sram = [] ∧ t.jnl.ring = s.jnl.ring ∧ t.lc.state = s.lc.state ∧ t.sv.retired = s.sv.retired) ∧
    (s.held = true → ∃ t, exec .powerUp s = .next t ∧ t.held = false ∧ t.cal = { s.cal with supply := .vin12 } ∧
      t.fd F.CLK_STAT_PLL_LOCK = 1 ∧ t.fd F.HS_BOOT_STAT_STATE = 1 ∧ t.fd F.GLOBAL_RESET_CAUSE = 0 ∧
      (∀ d, d < 28 → (t.domOn d = true ↔ 24 ≤ d)) ∧ t.mem.img = s.mem.img ∧ t.jnl.ring = s.jnl.ring) ∧
    (s.held = false → ∃ t, exec .mrstReset s = .next t ∧ t.held = false ∧ t.cal = s.cal ∧
      t.fd F.GLOBAL_RESET_CAUSE = 0 ∧ t.fd F.GLOBAL_RESET_BOOT_CNT = 1 ∧ t.fd F.HS_BOOT_STAT_STATE = 1 ∧
      (∀ d, d < 28 → (t.domOn d = true ↔ 24 ≤ d)) ∧ t.lc.state = s.lc.state ∧ t.lc.granted = 0 ∧
      t.jnl.queue = [] ∧ t.jnl.ring = s.jnl.ring ∧ t.sv.retired = s.sv.retired ∧ t.mem.img = s.mem.img) ∧
    (s.th.vsioLow = false → ∃ t, exec .vsioLow s = .next t ∧ t.th.vsioLow = true ∧
      (∀ j, j < 20 → t.fd F.TH_SOj_STAT_ON j = 0 ∧ t.fd F.TH_SOj_STAT_DELAYING j = 0) ∧ t.th.faults = s.th.faults ∧
      t = { s with regs := t.regs, th := t.th, mem := { s.mem with safety := t.mem.safety } }) ∧
    (s.th.vsioLow = true → ∃ t, exec .vsioReturn s = .next t ∧ t.th = { s.th with vsioLow := false, disc := t.th.disc } ∧
      (∀ j, j < 20 → t.fd F.TH_SOj_STAT_ON j = s.fd F.TH_SOj_STAT_ON j) ∧
      t = { s with regs := t.regs, th := t.th, mem := { s.mem with safety := t.mem.safety } })) ∧
  (∀ (s : State), s.held = false →
    (s.fd F.HS_BOOT_STAT_STATE = 1 → s.bootBank = none →
      ∃ t, exec .boot s = .next t ∧ t.fd F.HS_BOOT_STAT_STATE = 4 ∧ t.fd F.HS_BOOT_STAT_CODE = 0x7A ∧
        (∀ d, t.domState d = s.domState d) ∧ t.mem = s.mem) ∧
    (s.fd F.HS_BOOT_STAT_STATE = 1 → s.bootBank = some s.sv.imgActive → s.bootEntries s.sv.imgActive = [] →
      ∃ t, exec .boot s = .next t ∧ t.fd F.HS_BOOT_STAT_STATE = 3 ∧ t.fd F.HS_BOOT_STAT_BANK = s.sv.imgActive % 2 ∧
        t.fd F.SV_IMG_STAT_WINDOW = 0 ∧ t.sv = s.sv ∧ t.mem.img = s.mem.img ∧
        (∀ g, g < 16 → t.sramN (64 * g) 1 = g ∧ t.sramN (64 * g + 16) 2 = 0 ∧ t.sramN (64 * g + 18) 2 = 0 ∧
          t.sramN (64 * g + 20) 2 = 0) ∧ (∀ a, a < 256 → t.sramN (axisAt a) 2 = a) ∧
        (∀ z, z < 80 → t.sramN (0x4C00 + 64 * z) 1 = z) ∧ ∀ p, p < 64 → t.sramN (0x6000 + 160 * p) 1 = p) ∧
    ∀ k e t0, s.fd F.HS_BOOT_STAT_STATE = 2 → s.hs.boot = some (k, t0) →
      ((s.bootEntries s.sv.imgActive).drop k).head? = some e → (s.bootRead e.off).1 &&& e.mask ≠ e.value →
      ∃ t, exec .boot s = .next t ∧ t.fd F.HS_BOOT_STAT_STATE = 5 ∧ t.fd F.HS_BOOT_STAT_CODE = 0x7E ∧
        t.fd F.HS_BOOT_STAT_ENTRY = k % 2 ^ 16 ∧ t.hs.boot = none ∧ t.mem = s.mem ∧
        t.time.ticks = max s.time.ticks (t0 + 10 * 500000) ∧ ∀ d, t.domState d = s.domState d)

/-! ## Power and sleep -/

/-- Power domains (R511 to R517, R570): a request starts the drain time or the move, or is refused, and
one for the state the domain is in only sets REQ; the end of the drain
time gates the domain or refuses; a reached state sets or resets what it keeps; SV_FORCE takes a domain OFF at once. -/
def Obligations.DomainsMove : Prop :=
  ∀ (s : State) (q : Requester) (d : Nat) (v : Word) (keepOk : Bool),
    let req := F.PW_DOMd_CTL_REQ.of v.toNat
    let c := F.SV_FORCE_DOMAIN.of v.toNat
    let goal := Tab.get (fun _ => 0) s.pw.target d
    let clear := d < 25 ∧ req ≠ s.domState d ∧ s.fd F.PW_MOD_STATE < 2 ∧ s.flag F.PW_MOD_BUSY = false ∧
      s.flag F.PW_DOMd_STAT_MOVING d = false ∧ ¬ (req < 3 ∧ s.sv.retired.testBit d = true)
    (s.grants q .PW_DOMd_CTL d = true → 25 ≤ d → req ≠ s.fd F.PW_DOMd_CTL_REQ d →
      ∃ t, exec (.domainRequest q d v) s = .next t ∧ t.fd F.PW_DOMd_CTL_REFUSE d = 0x74 ∧
        ∀ e, t.domState e = s.domState e ∧ t.fd F.PW_DOMd_CTL_REQ e = s.fd F.PW_DOMd_CTL_REQ e) ∧
    (s.grants q .PW_DOMd_CTL d = true → clear → s.domState d ≠ 0 ∨ s.leaveAtOnce d = none →
      ∃ t, exec (.domainRequest q d v) s = .next t ∧ t.fd F.PW_DOMd_CTL_REQ d = req ∧
        t.fd F.PW_DOMd_STAT_MOVING d = 1 ∧ Tab.get (fun _ => 0) t.pw.target d = req ∧
        (t.pw.drain = if s.domState d = 0 then (d, s.time.ticks) :: s.pw.drain else s.pw.drain) ∧
        t = { s with regs := t.regs, pw := { s.pw with drain := t.pw.drain, target := t.pw.target } } ∧
        s.onlyFields t (fun _ => false) [(F.PW_DOMd_CTL_REQ, d), (F.PW_DOMd_STAT_MOVING, d)]) ∧
    (s.grants q .PW_DOMd_CTL d = true → d < 25 → s.domState d = req → s.fd F.PW_MOD_STATE < 2 →
      s.flag F.PW_MOD_BUSY = false → s.flag F.PW_DOMd_STAT_MOVING d = false → ¬ (req < 3 ∧ s.sv.retired.testBit d = true) →
      ∃ t, exec (.domainRequest q d v) s = .next t ∧ t.fd F.PW_DOMd_CTL_REQ d = req ∧
        s.sets t [(F.PW_DOMd_CTL_REQ, d)]) ∧
    (∀ code, s.grants q .PW_DOMd_CTL d = true → clear → s.domState d = 0 → s.leaveAtOnce d = some code →
      ∃ t, exec (.domainRequest q d v) s = .next t ∧ t.fd F.PW_DOMd_CTL_REFUSE d = code ∧ t.domState d = 0 ∧
        t.fd F.PW_DOMd_CTL_REF_CNT d = satInc 8 (s.fd F.PW_DOMd_CTL_REF_CNT d) ∧ t.fd F.PW_DOMd_CTL_REQ d = 0 ∧
        t.fd F.PW_DOMd_STAT_MOVING d = 0 ∧ t.rg .PW_LASTREF = code * 2 ^ 24 + d ∧
        t.rg64 .PW_LASTREF_CT_LO .PW_LASTREF_CT_HI = s.ctNs % 2 ^ 64 ∧ t.mem = s.mem ∧ t.cores = s.cores) ∧
    (∀ t0, d < 25 → s.pw.drain.find? (fun e => e.1 = d) = some (d, t0) →
      let u := s.advanceToTick (t0 + s.fd F.PW_MOD_DRAIN * 500)
      (s.pw.entry = none → u.leaveAfterDrain d = false → ∃ t, exec (.domainDrainEnd d) s = .next t ∧ t.domState d = 1 ∧
        (∀ e, e ≠ d → t.domState e = s.domState e) ∧ t.pw.drain = s.pw.drain.filter (fun e => e.1 ≠ d) ∧
        t.mem = s.mem ∧ t.lv = s.lv) ∧
      (s.pw.entry = none → u.leaveAfterDrain d = true → ∃ t, exec (.domainDrainEnd d) s = .next t ∧
        t.fd F.PW_DOMd_CTL_REFUSE d = 0x01 ∧ t.fd F.PW_DOMd_CTL_REQ d = 0 ∧ t.fd F.PW_DOMd_STAT_MOVING d = 0 ∧
        t.domState d = s.domState d ∧ t.pw.drain = s.pw.drain.filter (fun e => e.1 ≠ d)) ∧
      ∀ e, s.pw.entry = some e → e.committed = false → e.todo.head? = some d → (∀ x ∈ e.stopped, s.domState x = 1) →
        u.leaveAfterDrain d = true →
        ∃ t, exec (.domainDrainEnd d) s = .next t ∧ t.fd F.PW_MOD_REFUSE = 0x01 ∧ t.fd F.PW_MOD_BUSY = 0 ∧
          t.fd F.PW_ABORT_CNT_COUNT = satInc 32 (s.fd F.PW_ABORT_CNT_COUNT) ∧ t.pw.entry = none ∧
          (∀ x ∈ e.stopped, t.domState x = 0) ∧ t.fd F.PW_MOD_STATE = s.fd F.PW_MOD_STATE) ∧
    (d < 25 → s.flag F.PW_DOMd_STAT_MOVING d = true → s.pw.drain.any (fun e => e.1 = d) = false → s.pw.entry = none →
      (∀ e ∈ Tab.get (fun _ => []) s.pw.saved d, inDomain d e.1 = true) →
      (goal = 0 → s.domState d ≠ 0 → ∃ t, exec (.domainStateReached d keepOk) s = .next t ∧ t.domState d = 0 ∧
        t.fd F.PW_DOMd_STAT_MOVING d = 0 ∧
        t.fd F.PW_DOMd_STAT_WAKE_CNT d = satInc 8 (s.fd F.PW_DOMd_STAT_WAKE_CNT d) ∧ t.mem = s.mem ∧
        (s.domState d = 2 → keepOk = false → t.fd F.PW_DOMd_STAT_KEEP_LOST d = 1)) ∧
      (s.domState d ≤ goal → goal ≤ 3 → ∃ t, exec (.domainStateReached d keepOk) s = .next t ∧ t.domState d = goal ∧
        t.fd F.PW_DOMd_STAT_MOVING d = 0 ∧ (∀ e, e ≠ d → t.domState e = s.domState e) ∧
        (2 ≤ goal → ∀ off, inDomain d off = true → Tab.get regDefault t.regs off = regDefault off) ∧
        (goal = 3 → d < 18 → ∀ a, a < 0x200000 → Mem.read t.mem.tcm (d * 0x200000 + a) = 0) ∧
        (goal ≠ 3 → t.mem = s.mem))) ∧
    (s.grants q .SV_FORCE = true → c < 25 → s.pw.entry = none → ∃ t, exec (.domainForceOff q v) s = .next t ∧
      t.domState c = 3 ∧ t.fd F.PW_DOMd_CTL_REQ c = 3 ∧ t.fd F.PW_DOMd_STAT_MOVING c = 0 ∧
      (∀ e ∈ t.pw.drain, e.1 ≠ c) ∧ (∀ e, e ≠ c → t.domState e = s.domState e) ∧
      (c < 18 → ∀ k, k < 4 → (t.core (4 * c + k)).run = .idle ∧ (t.core (4 * c + k)).svc = none)) ∧
    (∀ e, s.grants q .SV_FORCE = true → c < 25 → s.pw.entry = some e → e.committed = false → e.target ≤ 3 →
      ∃ t, exec (.domainForceOff q v) s = .next t ∧ t.domState c = 3 ∧
        ∀ e', t.pw.entry = some e' → c ∉ e'.todo ∧ c ∉ e'.stopped) ∧
    (s.grants q .SV_FORCE = true → 25 ≤ c → c < 28 → ∃ t, exec (.domainForceOff q v) s = .next t ∧
      t.fd F.SV_FORCE_REFUSE = 0x74 ∧ ∀ e, t.domState e = s.domState e)

/-- Module states (R522 to R529, R642): TRIM caps the dividers, RUN lifts the cap, HOLD and NAP are entered member by
member or refused, a wake source starts every member towards ON or aborts an entry, and the temperature forces TRIM. -/
def Obligations.ModuleStates : Prop :=
  ∀ (s : State) (q : Requester) (temp : Int) (rising : Bool),
    let may := s.grants q .PW_MOD = true ∧ s.fd F.PW_MOD_DRAIN ≠ 0 ∧ s.flag F.PW_MOD_BUSY = false ∧ s.anyStep = false
    let asleep := s.pw.entry = none ∧ 2 ≤ s.fd F.PW_MOD_STATE ∧ s.flag F.PW_MOD_BUSY = false
    let stepped (t : State) (i div : Nat) : Prop := t.fd (dvfsField i) = div ∧ t.fd F.PW_VOLTi_STAT_STEPPING i = 1 ∧
      t.fd F.PW_VOLTi_STAT_CHECKED i = 0 ∧ t.fd F.PW_VOLTi_CTL_TARGET i = nominalMv div
    let capped (t : State) : Prop := ∀ i, i < 3 →
      if s.fd (dvfsField i) < s.fd F.PW_TRIM_CAP then stepped t i (s.fd F.PW_TRIM_CAP)
      else t.fd (dvfsField i) = s.fd (dvfsField i) ∧ t.fd F.PW_VOLTi_CTL_TARGET i = s.fd F.PW_VOLTi_CTL_TARGET i
    let go := s.members.filter (fun d => decide (s.domState d ≠ 0) && !s.sv.retired.testBit d)
    let waking (t : State) : Prop := t.fd F.PW_MOD_BUSY = 1 ∧ t.fd F.PW_MOD_STATE = s.fd F.PW_MOD_STATE ∧
      t.fd F.CLK_DVFS_CORE_A = s.pw.savedDvfs % 16 ∧
      ∀ d ∈ go, t.fd F.PW_DOMd_STAT_MOVING d = 1 ∧ Tab.get (fun _ => 0) t.pw.target d = 0
    (may → s.fd F.PW_MOD_STATE = 0 →
      ∃ t, exec (.moduleReqTrim q) s = .next t ∧ t.fd F.PW_MOD_STATE = 1 ∧ capped t ∧ t.mem = s.mem) ∧
    (may → s.fd F.PW_MOD_STATE = 1 → s.flag F.PW_MOD_THERM = false →
      ∃ t, exec (.moduleReqRun q) s = .next t ∧ t.fd F.PW_MOD_STATE = 0 ∧ t.rg .CLK_DVFS = s.rg .CLK_DVFS) ∧
    (may → s.fd F.PW_MOD_STATE = 1 → s.flag F.PW_MOD_THERM = true →
      ∃ t, exec (.moduleReqRun q) s = .next t ∧ t.fd F.PW_MOD_STATE = 1 ∧ t.fd F.PW_MOD_REFUSE = 0x02) ∧
    (∀ c ∈ ([(.moduleReqHold q, 2), (.moduleReqNap q, 3)] : List (Instr × Nat)), may → s.fd F.PW_MOD_STATE < 2 →
      (s.mayRest (decide (c.2 = 3)) = false → ∃ t, exec c.1 s = .next t ∧ t.fd F.PW_MOD_REFUSE = 0x02 ∧
        t.fd F.PW_MOD_STATE = s.fd F.PW_MOD_STATE ∧ t.fd F.PW_MOD_BUSY = 0 ∧ t.pw = s.pw) ∧
      (s.mayRest (decide (c.2 = 3)) = true → (∀ d ∈ s.members, c.2 ≤ s.domState d) →
        ∃ t, exec c.1 s = .next t ∧ t.fd F.PW_MOD_STATE = c.2 ∧ t.fd F.PW_MOD_BUSY = 0 ∧
          t.rg .CLK_DVFS % 2 ^ 12 = 0x444 ∧ (∀ i, i < 3 → t.fd F.PW_VOLTi_STAT_MEAS i = 600) ∧
          t.pw.savedDvfs = s.rg .CLK_DVFS % 2 ^ 12) ∧
      ∀ d l, s.mayRest (decide (c.2 = 3)) = true → s.members.filter (fun d => s.domOn d) = d :: l →
        s.leaveAtOnce d = none → ∃ t, exec c.1 s = .next t ∧ t.fd F.PW_MOD_BUSY = 1 ∧
          t.fd F.PW_MOD_STATE = s.fd F.PW_MOD_STATE ∧ t.fd F.PW_DOMd_STAT_MOVING d = 1 ∧
          t.pw.drain = (d, s.time.ticks) :: s.pw.drain ∧
          t.pw.entry = some { target := c.2, stopped := [], todo := d :: l, committed := false }) ∧
    (asleep → may → go ≠ [] → ∃ t, exec (.moduleReqRun q) s = .next t ∧ waking t) ∧
    (∀ c ∈ ([.wakeGpio rising, .wakeCt] : List Instr),
      (c = .wakeGpio rising → s.flag F.PW_WAKE_GPIO_EN = true ∧
        (s.fd F.PW_WAKE_EDGE = 2 ∨ s.fd F.PW_WAKE_EDGE = if rising then 0 else 1)) →
      (c = .wakeCt → s.flag F.PW_WAKE_CT_EN = true ∧
        s.pw.ctReached ≠ some (s.rg64 .PW_WAKE_CT_LO .PW_WAKE_CT_HI)) →
      (asleep → go ≠ [] → ∃ t, exec c s = .next t ∧ waking t) ∧
      ∀ e, s.pw.entry = some e → e.target ≠ 0 →
        (e.committed = true → ∃ t, exec c s = .next t ∧ t.pw = { s.pw with heldWake := true, ctReached := t.pw.ctReached } ∧
          t.fd F.PW_MOD_BUSY = s.fd F.PW_MOD_BUSY) ∧
        (e.committed = false → (∀ x ∈ e.stopped, s.domState x = 1) → ∃ t, exec c s = .next t ∧ t.pw.entry = none ∧
          t.fd F.PW_MOD_REFUSE = 0x73 ∧ t.fd F.PW_MOD_BUSY = 0 ∧ t.rg .PW_LASTREF = 0x7300001F ∧
          t.fd F.PW_ABORT_CNT_COUNT = satInc 32 (s.fd F.PW_ABORT_CNT_COUNT) ∧ ∀ x ∈ e.stopped, t.domState x = 0)) ∧
    (s.pw.reload = true → s.pw.entry = none → ∃ t, exec .napReloadComplete s = .next t ∧ t.pw = { s.pw with reload := false } ∧
      t.fd F.PW_MOD_STATE = 0 ∧ t.fd F.PW_MOD_BUSY = 0) ∧
    (s.fd F.PW_MOD_STATE = 0 → (s.fd F.PW_TRIM_TJ : Int) ≤ temp →
      (s.anyStep = false → ∃ t, exec (.thermalTrim temp) s = .next t ∧ t.fd F.PW_MOD_STATE = 1 ∧
        t.fd F.PW_MOD_THERM = 1 ∧ capped t ∧ t.pw.temp = temp ∧ t.mem = s.mem) ∧
      (s.anyStep = true → exec (.thermalTrim temp) s =
        .next { s with pw := { s.pw with temp := temp, thermWait := true } })) ∧
    (s.fd F.PW_MOD_STATE = 1 → s.flag F.PW_MOD_THERM = true → temp + 5 ≤ s.fd F.PW_TRIM_TJ →
      ∃ t, exec (.thermalTrimExit temp) s = .next t ∧ t.fd F.PW_MOD_STATE = 0 ∧ t.fd F.PW_MOD_THERM = 0 ∧
        t.rg .CLK_DVFS = s.rg .CLK_DVFS) ∧
    (115 ≤ temp → (∀ i, i < 3 → s.fd (dvfsField i) ≤ 4) → ∃ t, exec (.thermalThrottle temp) s = .next t ∧
      t.fd F.PW_MOD_STATE = 1 ∧ t.fd F.PW_MOD_THERM = 1 ∧ (∀ i, i < 3 → stepped t i 4) ∧ t.mem = s.mem)

/-- Keep-lists (R531) and voltages (R535 to R539): entries are appended or refused, a list is cleared; a step writes a
slower divider at once and a faster one when the check passes, 20 µs after its ramp at the soonest; after 200 µs without a
passing check the island returns to the previous voltage; the adaptive loop stays between nominal − 100 mV and + 30 mV, and
lowers by 5 mV per 1 ms at most. -/
def Obligations.KeepListsAndVoltages : Prop :=
  ∀ (s : State) (q : Requester) (v : Word) (i mv : Nat),
    let d := s.fd F.PW_KEEP_CTL_DOMAIN
    let l := Tab.get (fun _ => []) s.pw.keep d
    let nom := nominalMv (s.fd (dvfsField i))
    let div := F.PW_VOLTi_STEP_DIV.of v.toNat
    (s.grants q .PW_KEEP_ADD = true → s.domOn d = true →
      (∀ r a j, v.toNat % 4 = 0 → findReg v.toNat = some (r, a, j) → r.domain a = d → l.length < 256 →
        ∃ t, exec (.keepAdd q v) s = .next t ∧ Tab.get (fun _ => []) t.pw.keep d = l ++ [v.toNat] ∧
          t = { s with pw := { s.pw with keep := t.pw.keep } } ∧
          ∀ e, e ≠ d → Tab.get (fun _ => []) t.pw.keep e = Tab.get (fun _ => []) s.pw.keep e) ∧
      (findReg v.toNat = none → ∃ t, exec (.keepAdd q v) s = .next t ∧ t.fd F.PW_KEEP_CTL_REFUSE = 0x72 ∧
        t.pw = s.pw)) ∧
    (s.grants q .PW_KEEP_CTL = true → F.PW_KEEP_CTL_DOMAIN.of v.toNat ≤ 24 → F.PW_KEEP_CTL_CLR.of v.toNat = 1 →
      s.domOn (F.PW_KEEP_CTL_DOMAIN.of v.toNat) = true → ∃ t, exec (.keepClr q v) s = .next t ∧
        t.fd F.PW_KEEP_CTL_DOMAIN = F.PW_KEEP_CTL_DOMAIN.of v.toNat ∧
        Tab.get (fun _ => []) t.pw.keep (F.PW_KEEP_CTL_DOMAIN.of v.toNat) = [] ∧
        t = { s with regs := t.regs, pw := { s.pw with keep := t.pw.keep } } ∧
        s.onlyFields t (fun _ => false) [(F.PW_KEEP_CTL_DOMAIN, 0)]) ∧
    (s.grants q .PW_VOLTi_STEP i = true → F.PW_VOLTi_STEP_GO.of v.toNat = 1 →
      (s.flag F.PW_VOLTi_STAT_STEPPING i = false → s.flag F.PW_MOD_BUSY = false → s.fd F.PW_MOD_STATE < 2 →
        (s.fd F.PW_MOD_STATE = 1 → s.fd F.PW_TRIM_CAP ≤ div) → div ≤ 4 →
        ∃ t, exec (.voltStep q i v) s = .next t ∧ t.fd F.PW_VOLTi_STAT_STEPPING i = 1 ∧
          t.fd F.PW_VOLTi_STAT_CHECKED i = 0 ∧ t.fd F.PW_VOLTi_CTL_TARGET i = nominalMv div ∧
          t.fd (dvfsField i) = max div (s.fd (dvfsField i)) ∧
          t = { s with regs := t.regs, pw := { s.pw with vstep := t.pw.vstep } } ∧
          s.onlyFields t (fun _ => false) [(F.PW_VOLTi_STAT_STEPPING, i), (F.PW_VOLTi_STAT_CHECKED, i),
            (F.PW_VOLTi_CTL_TARGET, i), (dvfsField i, 0)]) ∧
      (s.flag F.PW_VOLTi_STAT_STEPPING i = true → ∃ t, exec (.voltStep q i v) s = .next t ∧
        t.fd F.PW_VOLTi_CTL_REFUSE i = 0x01 ∧ t.pw = s.pw)) ∧
    (∀ st, i < 3 → s.pw.vstep.find? (fun e => e.1 = i) = some (i, st) → s.pw.thermWait = false → st.prev < 1024 →
      (st.goal ≤ mv + 10 → mv ≤ st.goal + 10 → mv < 1024 → st.checkAt ≤ st.endAt → s.time.ticks ≤ st.endAt →
        ∃ t, exec (.voltCheckPass i mv) s = .next t ∧ t.time.ticks = max s.time.ticks st.checkAt ∧
        t.fd F.PW_VOLTi_STAT_MEAS i = mv ∧ t.fd F.PW_VOLTi_STAT_CHECKED i = 1 ∧ t.fd F.PW_VOLTi_STAT_STEPPING i = 0 ∧
        t.fd (dvfsField i) = (match st.div with | some c => c % 16 | none => s.fd (dvfsField i)) ∧
        s.onlyFields t (fun _ => false) [(F.PW_VOLTi_STAT_MEAS, i), (F.PW_VOLTi_STAT_CHECKED, i),
          (F.PW_VOLTi_STAT_STEPPING, i), (dvfsField i, 0), (F.TIM_CT_STAT_SRC, 0), (⟨.KL_TIME_ERR, 31, 0⟩, 0)]) ∧
      ∃ t, exec (.voltCheckFail i mv) s = .next t ∧ t.fd F.PW_VOLTi_STAT_VCHK_FAIL i = 1 ∧
        t.fd F.PW_VOLTi_STAT_VF_CNT i = satInc 8 (s.fd F.PW_VOLTi_STAT_VF_CNT i) ∧
        t.fd F.PW_VOLTi_STAT_MEAS i = st.prev ∧ t.fd F.PW_VOLTi_STAT_STEPPING i = 0 ∧
        t.time.ticks = max s.time.ticks st.endAt ∧
        t.fd F.PW_VOLTi_CTL_TARGET i = (if s.flag F.PW_VOLTi_CTL_AVS i then nom else st.prev) ∧
        t.fd (dvfsField i) = s.fd (dvfsField i)) ∧
    (s.grants q .PW_VOLTi_CTL i = true → F.PW_VOLTi_CTL_TARGET.of v.toNat ≠ s.fd F.PW_VOLTi_CTL_TARGET i →
      s.flag F.PW_VOLTi_STAT_STEPPING i = false → s.flag F.PW_VOLTi_CTL_AVS i = false →
      600 ≤ F.PW_VOLTi_CTL_TARGET.of v.toNat → F.PW_VOLTi_CTL_TARGET.of v.toNat ≤ 900 →
      nom ≤ F.PW_VOLTi_CTL_TARGET.of v.toNat → ∃ t, exec (.voltTargetWrite q i v) s = .next t ∧
        t.fd F.PW_VOLTi_CTL_TARGET i = F.PW_VOLTi_CTL_TARGET.of v.toNat ∧ t.fd F.PW_VOLTi_STAT_STEPPING i = 1 ∧
        t.fd F.PW_VOLTi_STAT_CHECKED i = 0 ∧ t.fd (dvfsField i) = s.fd (dvfsField i)) ∧
    (i < 3 → s.flag F.PW_VOLTi_CTL_AVS i = true → s.flag F.PW_VOLTi_STAT_STEPPING i = false →
      let want := max (nom - 100) ((mv + 4) / 5 * 5)
      (want ≤ nom + 30 → s.fd F.PW_VOLTi_STAT_MEAS i ≤ want → ∃ t, exec (.avsAdjust i mv) s = .next t ∧
        t.fd F.PW_VOLTi_STAT_MEAS i = want ∧ s.sets t [(F.PW_VOLTi_STAT_MEAS, i)]) ∧
      (want ≤ nom + 30 → want < s.fd F.PW_VOLTi_STAT_MEAS i → ∃ t, exec (.avsAdjust i mv) s = .next t ∧
        t.fd F.PW_VOLTi_STAT_MEAS i = max want (s.fd F.PW_VOLTi_STAT_MEAS i - 5) ∧
        (t.time.ticks = match s.pw.lowered.find? (fun e => e.1 = i) with
          | some e => max s.time.ticks (e.2 + 500000)
          | none => s.time.ticks) ∧
        Tab.get (fun _ => 0) t.pw.lowered i = t.time.ticks ∧ t.fd (dvfsField i) = s.fd (dvfsField i)) ∧
      (nom + 30 < want → ∃ t, exec (.avsAdjust i mv) s = .next t ∧ t.fd F.PW_VOLTi_STAT_MEAS i = nom + 30 ∧
        t.fd F.PW_VOLTi_STAT_AVS_LIMIT i = 1 ∧
        t.fd F.PW_VOLTi_STAT_LIM_CNT i = satInc 4 (s.fd F.PW_VOLTi_STAT_LIM_CNT i) ∧
        (t.fd (dvfsField i) = if s.flag F.PW_VOLTi_CTL_FSTEP i = true ∧ s.fd (dvfsField i) < 4
          then s.fd (dvfsField i) + 1 else s.fd (dvfsField i))))

/-! ## Forty years without a stop -/

/-- Wear, retirement, migration and image swap (R541 to R555): the slack margin and WORN, a slice retired and returned to
service, a migration that copies, freezes, defers or is aborted, an image staged in the unselected window bank and a swap
made pending. -/
def Obligations.WearMigrationAndSwap : Prop :=
  ∀ (s : State) (q : Requester) (v : Word) (sl vmin : Nat),
    let slack : Int := clampInt (-128) 127
      ((nominalMv (s.fd (dvfsField (if sl < 9 then 0 else 1))) : Int) - (vmin : Int) - 40)
    (sl < 18 → ∃ t, exec (.healthUpdate sl vmin) s = .next t ∧ t.mem = s.mem ∧ t.cores = s.cores ∧
      (t.fd F.SV_HEALTHs_CE_CNT sl =
        if s.sv.dayStart + secTicks 86400 ≤ s.time.ticks then 0 else s.fd F.SV_HEALTHs_CE_CNT sl) ∧
      (s.domOn sl = true → toSigned 8 (t.fd F.SV_HEALTHs_SLACK sl) = slack) ∧
      (s.domOn sl = false → t.fd F.SV_HEALTHs_SLACK sl = 0x80) ∧
      (s.domOn sl = true → slack < toSigned 8 (s.fd F.SV_WEAR_SLACK_MIN) → s.sv.wornSeen.testBit (3 * sl) = false →
        t.fd F.SV_HEALTHs_WORN sl = 1)) ∧
    (let c := F.SV_RETIRE_SLICE.of v.toNat
    s.grants q .SV_RETIRE = true → F.SV_RETIRE_GO.of v.toNat = 1 → c ≤ 17 →
      (s.placed c = false → s.sv.mig = none → ∃ t, exec (.sliceRetire q v) s = .next t ∧
        (∀ b, t.sv.retired.testBit b = (s.sv.retired.testBit b || decide (b = c))) ∧ t.domState c = 3 ∧
        (s.pw.entry = none → ∀ e, e ≠ c → t.domState e = s.domState e)) ∧
      (s.placed c = true → ∃ t, exec (.sliceRetire q v) s = .next t ∧ t.fd F.SV_RETIRE_REFUSE = 0x04 ∧ t.sv = s.sv)) ∧
    (let c := F.SV_UNRETIRE_SLICE.of v.toNat
    s.grants q .SV_UNRETIRE = true → F.SV_UNRETIRE_GO.of v.toNat = 1 →
      (s.lc.state = 0 → c ≤ 17 → s.sv.retired.testBit c = true → ∃ t, exec (.sliceUnretire q v) s = .next t ∧
        (∀ b, t.sv.retired.testBit b = (s.sv.retired.testBit b && decide (b ≠ c))) ∧ s.notes { t with sv := s.sv } []) ∧
      (s.lc.state ≠ 0 → ∃ t, exec (.sliceUnretire q v) s = .next t ∧ t.fd F.SV_UNRETIRE_REFUSE = 0x06 ∧
        t.sv = s.sv)) ∧
    (let g := F.SV_MIG_CTL_GROUP.of v.toNat
    let to_ := F.SV_MIG_CTL_TARGET.of v.toNat
    let map := F.SV_MIG_CTL_CORE_MAP.of v.toNat
    s.grants q .SV_MIG_CTL = true → F.SV_MIG_CTL_ABORT.of v.toNat = 0 → F.SV_MIG_CTL_GO.of v.toNat = 1 →
      (s.migCheck g to_ map = none → ∃ t, exec (.migGo q v) s = .next t ∧ t.fd F.SV_MIG_STAT_STATE = 1 ∧
        t.sv.mig = some { group := g, source := s.sliceOf g, target := to_, coreMap := map,
                          retire := decide (F.SV_MIG_CTL_RETIRE_SRC.of v.toNat = 1), dirty := [],
                          dirtyAt := s.time.ticks, moved := false, abortDue := false } ∧ t = { s with regs := t.regs, sv := { s.sv with mig := t.sv.mig } }) ∧
      ∀ code, s.migCheck g to_ map = some code → ∃ t, exec (.migGo q v) s = .next t ∧
        t.fd F.SV_MIG_CTL_REFUSE = code ∧ t.sv = s.sv ∧ t.mem = s.mem) ∧
    (∀ m, s.sv.mig = some m →
      (s.fd F.SV_MIG_STAT_STATE = 1 → coreMapOk m.coreMap = true → m.source ≠ m.target →
        ∃ t, exec .migArmed s = .next t ∧ t.fd F.SV_MIG_STAT_STATE = 2 ∧ t.sv.mig = some { m with dirty := [] } ∧
          (∀ i x, i < 4 → x < 0x80000 →
            Mem.read t.mem.tcm ((4 * m.target + bits m.coreMap (2 * i + 1) (2 * i)) * 0x80000 + x) =
              Mem.read s.mem.tcm ((4 * m.source + bits (s.fd F.SV_PLACEn_CORE_MAP m.group) (2 * i + 1) (2 * i)) *
                0x80000 + x)) ∧
          (∀ x, x < 0x100000 → Mem.read t.mem.shared (m.target * 0x100000 + x) =
            Mem.read s.mem.shared (m.source * 0x100000 + x)) ∧
          ∀ n x, n / 4 ≠ m.target → x < 0x80000 → Mem.read t.mem.tcm (n * 0x80000 + x) =
            Mem.read s.mem.tcm (n * 0x80000 + x)) ∧
      (let quiet := ∀ c, c < 4 → (s.core (4 * m.source + c)).frozen = true ∨ (s.core (4 * m.source + c)).run = .idle
      s.fd F.SV_MIG_STAT_STATE = 3 → m.moved = false →
        (quiet → ∃ t, exec (.migFreezeCheck true) s = .next t ∧
          t.sv.mig = some { m with dirty := [], moved := true } ∧ t.fd F.SV_MIG_STAT_STATE = 3 ∧ t.cores = s.cores) ∧
        ∀ ok, (ok = false ∨ ¬ quiet) → ∃ t, exec (.migFreezeCheck ok) s = .next t ∧ t.fd F.SV_MIG_STAT_STATE = 2 ∧
          t.fd F.SV_MIG_STAT_DEFER_CNT = satInc 8 (s.fd F.SV_MIG_STAT_DEFER_CNT) ∧ t.sv = { s.sv with hold := none } ∧
          (∀ c, c < 4 → t.core (4 * m.source + c) = { s.core (4 * m.source + c) with frozen := false }) ∧
          t.mem = s.mem) ∧
      (s.grants q .SV_MIG_CTL = true → F.SV_MIG_CTL_ABORT.of v.toNat = 1 →
        (m.moved = false → ∃ t, exec (.migAbort q v) s = .next t ∧ t.fd F.SV_MIG_STAT_STATE = 0 ∧
          t.sv = { s.sv with mig := none, hold := none } ∧ t.mem = s.mem ∧
          ∀ c, c < 4 → (t.core (4 * m.source + c)).frozen = false) ∧
        (m.moved = true → ∃ t, exec (.migAbort q v) s = .next t ∧ t.sv.mig = some { m with abortDue := true } ∧
          t.fd F.SV_MIG_STAT_STATE = s.fd F.SV_MIG_STAT_STATE ∧ t.cores = s.cores))) ∧
    (s.grants q .SV_IMG_CTL = true → F.SV_IMG_CTL_STAGE.of v.toNat = 1 → F.SV_IMG_CTL_SWAP.of v.toNat = 0 →
      (s.stageCheck = none → ∃ t, exec (.imgStage q v) s = .next t ∧ t.fd F.SV_IMG_STAT_STATE = 1 ∧
        s.sets t [(F.SV_IMG_STAT_STATE, 0)]) ∧
      ∀ code, s.stageCheck = some code → ∃ t, exec (.imgStage q v) s = .next t ∧ t.fd F.SV_IMG_CTL_REFUSE = code ∧
        t.fd F.SV_IMG_STAT_STATE = s.fd F.SV_IMG_STAT_STATE) ∧
    (s.fd F.SV_IMG_STAT_STATE = 1 → (∀ e ∈ s.imgSections (1 - s.sv.imgActive), e.kind = 1 → e.len ≤ 0x10000) →
      ∃ t, exec .imgStageComplete s = .next t ∧ t.fd F.SV_IMG_STAT_STATE = 2 ∧
        t = { s with regs := t.regs, mem := { s.mem with win := t.mem.win } } ∧
        ∀ n x, x < 0x10000 → Mem.read t.mem.win ((2 * n + s.fd F.SV_IMG_STAT_WINDOW) * 0x10000 + x) =
          Mem.read s.mem.win ((2 * n + s.fd F.SV_IMG_STAT_WINDOW) * 0x10000 + x)) ∧
    (s.grants q .SV_IMG_CTL = true → F.SV_IMG_CTL_STAGE.of v.toNat = 0 → F.SV_IMG_CTL_SWAP.of v.toNat = 1 →
      (s.fd F.SV_IMG_STAT_STATE = 2 → ∃ t, exec (.imgSwap q v) s = .next t ∧ t.fd F.SV_IMG_STAT_STATE = 3 ∧
        s.sets t [(F.SV_IMG_STAT_STATE, 0)]) ∧
      (s.fd F.SV_IMG_STAT_STATE ≠ 2 → ∃ t, exec (.imgSwap q v) s = .next t ∧ t.fd F.SV_IMG_CTL_REFUSE = 0x02 ∧
        t.fd F.SV_IMG_STAT_STATE = s.fd F.SV_IMG_STAT_STATE))

/-- Errors in memory, the journal and the watchdog (R557 to R568): corrections and repairs are counted, an uncorrectable
error reaches its reader, after a BUDGET exception that is due, entries queue, merge, are lost, are written in order and read back, and a bite resets the module
with its cause. -/
def Obligations.ErrorsJournalAndWatchdog : Prop :=
  ∀ (s : State) (q : Requester) (v : Word) (mem unit row pct : Nat),
    let hit (e : Nat × Nat × Nat × Nat) : Bool := e.1 = mem && e.2.1 = unit && e.2.2.1 = row
    let same := s.sv.scrub.filter hit
    let m := eccUnit mem
    let bitten (u t : State) : Prop := t.fd F.SV_WDOG_STAT_BITTEN = 1 ∧
      t.fd F.SV_WDOG_STAT_BITE_CNT = satInc 8 (s.fd F.SV_WDOG_STAT_BITE_CNT) ∧ t.fd F.GLOBAL_RESET_CAUSE = 1 ∧
      t.fd F.HS_BOOT_STAT_STATE = 1 ∧ t.fd F.SV_WDOG_CTL_EN = 0 ∧ t.time.ticks = u.time.ticks + 500000 ∧
      t.jnl.ring = s.jnl.ring ∧ t.mem.img = s.mem.img ∧ t.lc.state = s.lc.state ∧ ∀ d, d < 24 → t.domState d = 3
    (same = [] → ∃ t, exec (.scrubPass mem unit row pct) s = .next t ∧
      t.sv.scrub = s.sv.scrub ++ [(mem, unit, row, s.time.ticks)] ∧ t.sv.repairs = s.sv.repairs ∧
      t.fd F.SV_ECCm_CE_CNT m = satInc 16 (s.fd F.SV_ECCm_CE_CNT m)) ∧
    (2 ≤ same.length → (∀ e ∈ same, s.time.ticks < e.2.2.2 + secTicks 86400) → mem ≠ 4 →
      ∃ t, exec (.scrubPass mem unit row pct) s = .next t ∧ (∀ e ∈ t.sv.scrub, hit e = false) ∧
        t.fd F.SV_ECCm_REP_CNT m = satInc 8 (s.fd F.SV_ECCm_REP_CNT m) ∧
        t.fd F.SV_ECCm_CE_CNT m = satInc 16 (s.fd F.SV_ECCm_CE_CNT m) ∧
        (mem ≤ 3 → t.sv.repairs = s.sv.repairs ++ [(mem, unit, row)]) ∧
        (mem ≤ 1 → unit < 18 → t.fd F.SV_HEALTHs_ROWS unit = min 100 pct) ∧ (mem = 6 → row ∈ t.sv.spareLines)) ∧
    (∀ region adr fetch core,
      (∃ t, exec (.eccError mem unit region adr true fetch core) s = .next t ∧ t.cores = s.cores ∧ t.mem = s.mem ∧
        t.fd F.SV_ECCm_CE_CNT m = satInc 16 (s.fd F.SV_ECCm_CE_CNT m)) ∧
      (∃ t, exec (.eccError mem unit region adr false fetch core) s = .next t ∧
        t.fd F.SV_ECCm_UE_CNT m = satInc 8 (s.fd F.SV_ECCm_UE_CNT m) ∧
        (mem = 6 → region ≤ 1 → t.sv.imgValid.testBit region = false) ∧
        (mem ≤ 1 ∨ mem = 5 → core < 72 → (s.core core).run = .run → (s.core core).handler = false →
          (s.core core).pair = none → (s.core core).budgetDue = true →
          (t.core core).handler = true ∧ (t.core core).epc = (s.core core).pc ∧ (t.core core).ecause = 0x10 ∧
          (t.core core).pc = (s.core core).vbar + 0x400 ∧ (t.core core).budgetDue = false) ∧
        (mem ≤ 1 ∨ mem = 5 → core < 72 → (s.core core).run = .run → (s.core core).handler = false →
          ((s.core core).pair.isSome = true ∨ ((s.core core).budgetDue = false ∧ s.haltDue core = false)) →
          (t.core core).handler = true ∧ (t.core core).epc = (s.core core).pc ∧
          (t.core core).ecause = (if fetch then 0x02 else 0x08) ∧ (t.core core).eaddr = BitVec.ofNat 32 adr ∧
          (t.core core).pc = (s.core core).vbar + (if fetch then 0x80 else 0x200)))) ∧
    (∀ ev blk code cls detail,
      let d := journalData ev detail
      let alike (e : JournalEntry) : Prop := e.block = blk ∧ e.code = code ∧ e.data.take 4 = d.take 4
      ((∀ e ∈ s.jnl.queue, ¬ alike e) → s.jnl.queue.length < 256 →
        ∃ t, exec (.journalEvent ev blk code cls detail) s = .next t ∧ s.notes t [] ∧
          t.jnl = { s.jnl with queue := s.jnl.queue ++ [{ block := blk, code := code, cls := cls, ct := s.ctNs,
                                                          calSec := s.cal.sec, calSub := s.cal.sub, rep := 0,
                                                          data := d }] }) ∧
      (∀ a e b, s.jnl.queue = a ++ e :: b → alike e → (∀ x ∈ a, ¬ alike x) →
        exec (.journalEvent ev blk code cls detail) s = .next { s with jnl := { s.jnl with
          queue := a ++ { e with rep := satInc 16 e.rep } :: b } }) ∧
      ((∀ e ∈ s.jnl.queue, ¬ alike e) → 256 ≤ s.jnl.queue.length →
        exec (.journalEvent ev blk code cls detail) s = .next { s with jnl := { s.jnl with lost := true } })) ∧
    (∀ e es, s.jnl.queue = e :: es → ∃ t, exec .journalWrite s = .next t ∧ t = { s with jnl := t.jnl } ∧
      t.jnl.queue = es ∧ t.jnl.lost = false ∧
      t.jnl.seq = (if s.jnl.seq = 0xFFFFFFFF then 1 else s.jnl.seq + 1) ∧ t.jnl.line = s.jnl.line % 262144 + 1 ∧
      Tab.get (fun _ => []) t.jnl.ring (s.jnl.line % 262144) = e.bytes t.jnl.seq s.jnl.lost ∧
      ∀ l, l ≠ s.jnl.line % 262144 →
        Tab.get (fun _ => []) t.jnl.ring l = Tab.get (fun _ => []) s.jnl.ring l) ∧
    (s.grants q .SV_JNL_SEL = true → ∃ t, exec (.journalSelect q v) s = .next t ∧ t.rg .SV_JNL_SEL = v.toNat ∧
      t.fd F.SV_JNL_STAT_RESULT = 0 ∧ t = { s with regs := t.regs, jnl := { s.jnl with loading := true } }) ∧
    (s.jnl.loading = true → ∃ t, exec .journalLoadComplete s = .next t ∧ t.jnl = { s.jnl with loading := false } ∧
      match s.jnl.ring.find? (fun e => decide (s.rg .SV_JNL_SEL ≠ 0 ∧ ofLe (e.2.take 4) = s.rg .SV_JNL_SEL)) with
      | none => t.fd F.SV_JNL_STAT_RESULT = 2
      | some (_, b) => (t.fd F.SV_JNL_STAT_RESULT = if crc32c (b.take 60) = ofLe (b.drop 60) then 1 else 3) ∧
        ∀ k, k < 16 → t.rg .SV_JNL_DATAk k = ofLe ((b.drop (4 * k)).take 4)) ∧
    (s.flag F.SV_WDOG_CTL_EN = true →
      (s.grants q .SV_WDOG_KICK = true →
        (s.sv.wdKey = none → v = 0xA5C3 → exec (.wdogKick q v) s =
          .next { s with sv := { s.sv with wdKey := some s.time.ticks } }) ∧
        (s.sv.wdKey = none → v ≠ 0xA5C3 → ∃ t, exec (.wdogKick q v) s = .next t ∧ bitten s t) ∧
        ∀ t0, s.sv.wdKey = some t0 →
          (s.time.ticks ≤ t0 + 500000 → v = 0x5A3C →
            (s.sv.wdHad = true → s.fd F.SV_WDOG_CTL_TO * 500000 ≤ 4 * (s.time.ticks - s.sv.wdKick)) →
            exec (.wdogKick q v) s = .next { s with sv := { s.sv with wdKick := s.time.ticks, wdKey := none,
                                                                      wdEarly := false, wdHad := true } }) ∧
          (s.time.ticks ≤ t0 + 500000 → v = 0x5A3C → s.sv.wdHad = true →
            4 * (s.time.ticks - s.sv.wdKick) < s.fd F.SV_WDOG_CTL_TO * 500000 →
            ∃ t, exec (.wdogKick q v) s = .next t ∧ bitten s t)) ∧
      (∀ t0, s.sv.wdKey = some t0 → ∃ t, exec .wdogKeyTimeout s = .next t ∧
        bitten (s.advanceToTick (t0 + 500000)) t) ∧
      (s.flag F.SV_WDOG_CTL_EARLY_EN = true → s.sv.wdEarly = false → ∃ t, exec .wdogEarly s = .next t ∧
        t.fd F.SV_WDOG_STAT_EARLY = 1 ∧ t.fd F.SV_WDOG_STAT_EARLY_CNT = satInc 8 (s.fd F.SV_WDOG_STAT_EARLY_CNT) ∧
        t.sv = { s.sv with wdEarly := true } ∧ t.mem = s.mem) ∧
      ∃ t, exec .wdogTimeout s = .next t ∧
        bitten (s.advanceToTick (s.sv.wdKick + s.fd F.SV_WDOG_CTL_TO * 500000)) t)

/-- The Nalsor chain (R571, R572, R575 to R577): the checks of an enable, a bridged token, a replication round on the
standby, a takeover, and CHAIN_LOST in its place while sync frames arrive. -/
def Obligations.ChainAndTakeover : Prop :=
  ∀ (s : State) (q : Requester) (v : Word) (heard t tag slot : Nat) (agree : Bool) (p : Word),
    let mode := F.CH_CTL_MODE.of v.toNat
    let fc := F.CH_CTL_FAIL_CYC.of v.toNat
    (s.grants q .CH_CTL = true → s.flag F.CH_CTL_EN = false → F.CH_CTL_EN.of v.toNat = 1 → mode ≠ 3 → 1 ≤ fc → fc ≤ 8 →
      ((mode = 2 → s.ch.strap ≤ 1 ∧ agree = true) → ∃ u, exec (.chainEnable q heard false agree v) s = .next u ∧
        u.fd F.CH_CTL_EN = 1 ∧ u.fd F.CH_CTL_MODE = mode ∧ u.fd F.CH_CTL_FAIL_CYC = fc ∧
        (s.domOn 23 = true → u.fd F.CH_STAT_PRESENT = heard % 16) ∧ u.ch.missed = 0 ∧ u.mem = s.mem ∧
        (mode = 2 → u.fd F.CH_STAT_ROLE = if s.ch.strap = 0 then 1 else 2) ∧
        (mode = 2 → s.ch.strap = 1 → ∀ j, j < 20 → u.fd F.TH_SOj_STAT_ON j = 0)) ∧
      (∃ u, exec (.chainEnable q heard true agree v) s = .next u ∧ u.fd F.CH_CTL_EN = 0 ∧ u.fd F.CH_CTL_REFUSE = 0x7B) ∧
      (mode = 2 → agree = false → ∃ u, exec (.chainEnable q heard false agree v) s = .next u ∧ u.fd F.CH_CTL_EN = 0 ∧
        u.fd F.CH_CTL_REFUSE = 0x7B)) ∧
    (t < 4096 → slot < 16 → tag < 2 ^ 16 → s.bridgeOf t = none →
      (s.tplOn t = false → ∃ u, exec (.bridgeTokenReceive t slot tag p) s = .next u ∧
        u.rg .LV_CNTk 3 = satInc 32 (s.rg .LV_CNTk 3) ∧ u = { s with regs := u.regs }) ∧
      (s.tplOn t = true → s.tplSeq t = false → 0 < s.fd F.LV_STAT_FREE →
        s.lv.waiting.find? (fun x => x.tpl = t && x.tag = tag) = none →
        s.complete { tpl := t, tag := tag, slots := [(slot, p)], deadline := s.deadlineOf t } = false →
        ∃ u, exec (.bridgeTokenReceive t slot tag p) s = .next u ∧ u.lv.fired = s.lv.fired ∧
          u.lv.waiting = s.lv.waiting ++ [{ tpl := t, tag := tag, slots := [(slot, p)], deadline := s.deadlineOf t }] ∧
          u.fd F.LV_STAT_FREE = s.fd F.LV_STAT_FREE - 1)) ∧
    (∀ round line bs regs, s.isStandby = true → bs.length = 64 → line < 0x40000 → round < 2 ^ 16 →
      ∃ u, exec (.replicationApply round [(line, bs)] regs) s = .next u ∧ u.ch.repRegs = regs ∧
        u.fd F.CH_REP_STAT_ROUND = round ∧
        ∀ a, Mem.read u.mem.sram a = if s.replicated line = true ∧ line * 64 ≤ a ∧ a < line * 64 + 64
          then bs.getD (a - line * 64) 0 else Mem.read s.mem.sram a) ∧
    (s.isStandby = true → s.fd F.CH_CTL_FAIL_CYC ≤ s.ch.missed →
      (s.ch.syncSeen = false → ∃ u, exec .takeover s = .next u ∧ u.fd F.CH_STAT_ROLE = 1 ∧
        u.fd F.GLOBAL_AG_EN_EN = s.ch.repRegs.getD 0 0 % 2 ^ 16 ∧
        u.rg .KN_PLAN_ADR = s.ch.repRegs.getD 1 0 % 2 ^ 32 ∧ u.rg .KN_PLAN_RUN = 0 ∧
        u.fd F.CH_STAT_TAKEOVER_CNT = satInc 8 (s.fd F.CH_STAT_TAKEOVER_CNT) ∧ u.mem.sram = s.mem.sram) ∧
      (s.ch.syncSeen = true → ∃ u, exec .chainLost s = .next u ∧ u.fd F.CH_STAT_CHAIN_LOST = 1 ∧
        u.fd F.CH_STAT_LOST_CNT = satInc 8 (s.fd F.CH_STAT_LOST_CNT) ∧ u.fd F.CH_STAT_ROLE = s.fd F.CH_STAT_ROLE ∧
        u = { s with regs := u.regs, ch := { s.ch with missed := 0 }, time := { s.time with raised := u.time.raised } }))

/-! ## The host interface -/

/-- The host complex (R581, R583, R584, R596, R597): the mailbox deposits a token and records the outcome; a doorbell pends
its vector, and counts where the bit stood already or was cleared in that same tick; BAR2 reads and writes spine SRAM; a Function Level Reset clears the vectors; image commands are accepted,
refused and completed. -/
def Obligations.HostCommands : Prop :=
  ∀ (s : State) (q : Requester) (v : Word),
    let tok := s.fd F.HS_MBX_TOK_TOKEN
    let k := F.HS_DB_VECTOR.of v.toNat
    let vp : Reg := if k < 32 then .HS_VPEND_LO else .HS_VPEND_HI
    let gone : Bool := s.time.cleared.contains (vp.addr 0 0, k % 32)
    let b := F.HS_IMG_CMD_BANK.of v.toNat
    (s.grants q .HS_MBX_DATA = true → s.hs.link = true ∨ q = .host →
      (tok ≠ 0xFFFF → ∃ t, exec (.mailboxDeposit q v) s = .next t ∧
        t.fd F.HS_MBX_TOK_RESULT = (s.deposit .mailbox tok s.bcTag v).2 % 256 ∧
        t.lv = (s.deposit .mailbox tok s.bcTag v).1.lv ∧ t.mem = s.mem ∧ t.cores = (s.takeTurnOf .mailbox).cores) ∧
      (tok = 0xFFFF → ∃ t, exec (.mailboxDeposit q v) s = .next t ∧ t.fd F.HS_MBX_TOK_RESULT = 0x03 ∧
        s.sets t [(F.HS_MBX_TOK_RESULT, 0)])) ∧
    (s.grants q .HS_DB = true → ∃ t, exec (.doorbell q v) s = .next t ∧ (t.rg vp).testBit (k % 32) = true ∧
      t = { s with regs := t.regs, hs := { s.hs with msix := t.hs.msix },
                   time := { s.time with raised := t.time.raised } } ∧ s.onlyFields t vectorReg [] ∧
      ((s.rg vp).testBit (k % 32) = true → t.hs.msix = s.hs.msix ∧
        (gone = false → t.fd F.HS_VCNTv_VALUE k = satInc 32 (s.fd F.HS_VCNTv_VALUE k))) ∧
      ((s.rg vp).testBit (k % 32) = false → t.hs.msix = s.hs.msix ++ [k] ∧
        t.fd F.HS_VCNTv_VALUE k = if gone then satInc 32 (s.fd F.HS_VCNTv_VALUE k) else s.fd F.HS_VCNTv_VALUE k)) ∧
    (∀ off len bs, s.portUp .host = true →
      (bs.length = len → 0 < len → len ≤ 256 → off + len ≤ 0x1000000 → off / 4096 = (off + len - 1) / 4096 →
        (∃ t, exec (.bar2Access true off 0 bs) s = .next t ∧ t.regs = s.regs ∧ t.lv = s.lv ∧
          overlaid s.mem.sram t.mem.sram (some off) bs) ∧
        exec (.bar2Access false off len []) s =
          .next { s with hs := { s.hs with readData := s.sramBytes off len } })) ∧
    (s.portUp .host = true → ∃ t, exec .functionLevelReset s = .next t ∧ t.hs = { s.hs with msix := [] } ∧
      t = { s with regs := t.regs, hs := t.hs } ∧ ∀ off, Tab.get regDefault t.regs off =
        if (0x2000000 ≤ off ∧ off < 0x2000108) ∨ (0x2000200 ≤ off ∧ off < 0x2000300) then regDefault off
        else Tab.get regDefault s.regs off) ∧
    (s.grants q .HS_IMG_CMD = true →
      (F.HS_IMG_CMD_OP.of v.toNat = 1 → s.hs.img = none → s.imgWriteFail b = none →
        ∃ t, exec (.imgWrite q v) s = .next t ∧ t.hs = { s.hs with img := some (1, b) } ∧
          t.fd F.HS_IMG_STAT_STATE = 1 ∧ t.sv.imgValid.testBit b = false ∧
          t.sv = { s.sv with imgValid := t.sv.imgValid } ∧ t.mem = s.mem) ∧
      (F.HS_IMG_CMD_OP.of v.toNat = 1 → s.hs.img = none → s.fd F.HS_BOOT_STAT_STATE = 3 → b = s.sv.imgActive →
        ∃ t, exec (.imgWrite q v) s = .next t ∧ t.fd F.HS_IMG_CMD_REFUSE = 0x02 ∧ t.sv = s.sv ∧ t.hs = s.hs) ∧
      (F.HS_IMG_CMD_OP.of v.toNat = 2 → s.hs.img = none → ∃ t, exec (.imgVerify q v) s = .next t ∧
        t.hs = { s.hs with img := some (2, b) } ∧ t.fd F.HS_IMG_STAT_STATE = 2 ∧ t.sv = s.sv ∧ t.mem = s.mem) ∧
      (F.HS_IMG_CMD_OP.of v.toNat = 2 → s.hs.img ≠ none → ∃ t, exec (.imgVerify q v) s = .next t ∧
        t.fd F.HS_IMG_CMD_REFUSE = 0x01 ∧ t.hs = s.hs) ∧
      (F.HS_IMG_CMD_OP.of v.toNat = 3 → s.fd F.HS_BOOT_STAT_STATE = 4 ∨ s.fd F.HS_BOOT_STAT_STATE = 5 →
        s.hs.img = none → s.sv.imgValid.testBit b = true → s.imgPasses b = true → s.bootEntries b = [] →
        ∃ t, exec (.imgBoot q v) s = .next t ∧ t.sv = { s.sv with imgActive := b } ∧
          t.fd F.HS_BOOT_STAT_STATE = 3 ∧ t.mem.img = s.mem.img) ∧
      (F.HS_IMG_CMD_OP.of v.toNat = 3 → s.fd F.HS_BOOT_STAT_STATE < 4 → ∃ t, exec (.imgBoot q v) s = .next t ∧
        t.fd F.HS_IMG_CMD_REFUSE = 0x02 ∧ t.sv = s.sv)) ∧
    (∀ c, s.hs.img = some (1, c) → ∃ t, exec .imgCommandComplete s = .next t ∧ t.hs.img = none ∧
      t.fd F.HS_IMG_STAT_STATE = 0 ∧ t.sv = s.sv ∧
      ∀ a, Mem.read t.mem.img a =
        let d := c * 0x2000000 + s.rg .HS_IMG_DST
        if d ≤ a ∧ a < d + s.rg .HS_IMG_LEN then Mem.read s.mem.sram (s.rg .HS_IMG_SRC + (a - d))
        else Mem.read s.mem.img a) ∧
    ∀ c, s.hs.img = some (2, c) → ∃ t, exec .imgCommandComplete s = .next t ∧ t.hs.img = none ∧ t.mem = s.mem ∧
      (s.imgPasses c = true → t.sv.imgValid.testBit c = true ∧ t.fd F.HS_IMG_STAT_CODE = 0) ∧
      (s.imgPasses c = false → t.sv = s.sv ∧ t.fd F.HS_IMG_STAT_CODE = 0x7A)

/-- Plant Ethernet (R76 to R80, R585 to R588): an untimed frame leaves when the line is free; a late launch counts and is
discarded or sent, one too far ahead is discarded, another waits for its launch, which a load or adjustment of PT can make a late
one or put too far ahead; a received frame goes to its buffer with length and stamp, or is discarded and counted; the port clears OWN and advances TAIL. -/
def Obligations.PlantEthernetFrames : Prop :=
  ∀ (s : State) (p q : Nat), p < 2 → q < 8 →
    let d := s.txDesc p q
    let done (t : State) (status : Nat) : Prop := t.sramN (d + 7) 1 = status ∧ (t.sramN (d + 6) 1).testBit 0 = false ∧
      t.fd F.HS_HEn_TXq_IDX_TAIL p q = (s.fd F.HS_HEn_TXq_IDX_TAIL p q + 1) % s.txSize p q
    let ok := ringOk (s.fd F.HS_HEn_TXq_BASE_BASE p q) (s.fd F.HS_HEn_TXq_CTL_LOG2SIZE p q) = true ∧ s.txReady p q = true
    let timed := (s.sramN (d + 6) 1).testBit 1 = true
    (ok → s.hs.waiting.contains (8 * p + q) = false →
      (¬ timed → s.heFree p ≤ s.time.ticks → s.untimedFits p q = true → ∃ t f, exec (.heTxHead p q) s = .next t ∧
        t.hs.sent = s.hs.sent ++ [f] ∧ f.port = p ∧ f.queue = q ∧ f.bytes.take (min 1514 (s.sramN (d + 4) 2)) =
          s.sramBytes (s.sramN d 4) (min 1514 (s.sramN (d + 4) 2)) ∧ 60 ≤ f.bytes.length ∧ done t 0) ∧
      (timed → s.txLaunch p q < s.ptNs → s.flag F.HS_HEn_TXq_CTL_LATE p q = false →
        ∃ t, exec (.heTxHead p q) s = .next t ∧ t.hs.sent = s.hs.sent ∧ done t 0x09 ∧
          t.fd F.HS_HEn_TXq_CNT_LATE_CNT p q = satInc 16 (s.fd F.HS_HEn_TXq_CNT_LATE_CNT p q)) ∧
      (timed → s.txLaunch p q < s.ptNs → s.flag F.HS_HEn_TXq_CTL_LATE p q = true →
        ∃ t f, exec (.heTxHead p q) s = .next t ∧ t.hs.sent = s.hs.sent ++ [f] ∧ f.port = p ∧ f.queue = q ∧ done t 0x09 ∧
          t.fd F.HS_HEn_TXq_CNT_LATE_CNT p q = satInc 16 (s.fd F.HS_HEn_TXq_CNT_LATE_CNT p q)) ∧
      (timed → s.ptNs + 2000000000 < s.txLaunch p q →
        ∃ t, exec (.heTxHead p q) s = .next t ∧ t.hs.sent = s.hs.sent ∧ done t 0x03) ∧
      (timed → s.ptNs ≤ s.txLaunch p q → s.txLaunch p q ≤ s.ptNs + 2000000000 → exec (.heTxHead p q) s =
        .next { s with hs := { s.hs with waiting := s.hs.waiting ++ [8 * p + q] } })) ∧
    (ok → s.hs.waiting.contains (8 * p + q) = true → s.ptJumped.ptNs + 2000000000 < s.txLaunch p q →
      ∃ t, exec (.heTxLaunch p q) s = .next t ∧ t.hs.sent = s.hs.sent ∧ done t 0x03 ∧
        t.hs.waiting.contains (8 * p + q) = false) ∧
    (ok → s.hs.waiting.contains (8 * p + q) = true → s.txLaunch p q ≤ s.ptJumped.ptNs + 2000000000 →
      s.txBehind p q = false →
      let w := s.advance (s.ticksToPt (s.txLaunch p q))
      let u := w.advanceToTick (s.heFree p)
      (w.hs.late.contains (8 * p + q) = false → ∃ t f, exec (.heTxLaunch p q) s = .next t ∧
        t.hs.sent = s.hs.sent ++ [f] ∧ f.port = p ∧ f.queue = q ∧ done t 0 ∧
        f.stamp = u.ptNs + (if s.fd F.HS_HEn_CTL_SPEED p = 0 then 6 else 64) - s.fd F.HS_HEn_LAT_TX_EXT p / 256 ∧
        t.hs.waiting.contains (8 * p + q) = false ∧
        (t.fd F.HS_HEn_TXq_CNT_SLIP_CNT p q = if s.txLaunch p q + 16 < u.ptNs
          then satInc 16 (s.fd F.HS_HEn_TXq_CNT_SLIP_CNT p q) else s.fd F.HS_HEn_TXq_CNT_SLIP_CNT p q)) ∧
      (w.hs.late.contains (8 * p + q) = true → s.flag F.HS_HEn_TXq_CTL_LATE p q = false →
        ∃ t, exec (.heTxLaunch p q) s = .next t ∧ t.hs.sent = s.hs.sent ∧ done t 0x09 ∧
          t.fd F.HS_HEn_TXq_CNT_LATE_CNT p q = satInc 16 (s.fd F.HS_HEn_TXq_CNT_LATE_CNT p q))) ∧
    ∀ (b : List Byte) dt, s.domOn 24 = true → s.flag F.HS_HEn_CTL_EN p = true →
      let r := if ptpFrame b then 0 else 1
      let d := s.rxDesc p r
      let buf := s.sramN d 4
      let own := s.flag F.HS_HEn_RXr_CTL_EN p r = true ∧
        s.fd F.HS_HEn_RXr_IDX_HEAD p r ≠ s.fd F.HS_HEn_RXr_IDX_TAIL p r ∧ (s.sramN (d + 6) 1).testBit 0 = true
      (∃ t, exec (.heRxFrame p b false dt) s = .next t ∧ t.mem = s.mem ∧
        t.fd F.HS_HEn_CNT_FCS_ERR p = satInc 16 (s.fd F.HS_HEn_CNT_FCS_ERR p)) ∧
      (ptpFrame b = true ∨ s.heAddressed p b = true →
        (¬ own → ∃ t, exec (.heRxFrame p b true dt) s = .next t ∧ t.mem = s.mem ∧
          t.fd F.HS_HEn_RXr_CNT_RX_OVR p r = satInc 16 (s.fd F.HS_HEn_RXr_CNT_RX_OVR p r)) ∧
        (own → ringOk (s.fd F.HS_HEn_RXr_BASE_BASE p r) (s.fd F.HS_HEn_RXr_CTL_LOG2SIZE p r) = true →
          b.length ≤ s.sramN (d + 4) 2 → buf + b.length ≤ 0x1000000 → (buf + b.length ≤ d ∨ d + 32 ≤ buf) →
          ∃ t, exec (.heRxFrame p b true dt) s = .next t ∧ t.sramBytes buf b.length = b ∧ t.sramN (d + 7) 1 = 0 ∧
            t.sramN (d + 8) 2 = b.length ∧ (t.sramN (d + 6) 1).testBit 0 = false ∧
            t.sramN (d + 16) 8 = ((s.advance dt).ptNs - s.fd F.HS_HEn_LAT_RX_EXT p / 256) % 2 ^ 64 ∧
            t.fd F.HS_HEn_RXr_IDX_TAIL p r = (s.fd F.HS_HEn_RXr_IDX_TAIL p r + 1) % s.rxSize p r) ∧
        (own → ringOk (s.fd F.HS_HEn_RXr_BASE_BASE p r) (s.fd F.HS_HEn_RXr_CTL_LOG2SIZE p r) = true →
          s.sramN (d + 4) 2 < b.length → ∃ t, exec (.heRxFrame p b true dt) s = .next t ∧ t.sramN (d + 7) 1 = 0x03 ∧
            t.fd F.HS_HEn_RXr_CNT_DISCARD p r = satInc 16 (s.fd F.HS_HEn_RXr_CNT_DISCARD p r)))

/-- The lifecycle and field access (R598 to R603): SET_OWNER and LOCK move it forwards under their conditions, a fresh
challenge serves one VERIFY for 60 s, success opens access, failures count to a wait of 15 min, and reopened access ends at
RELOCK or after 8 h with every HALTED core resumed. -/
def Obligations.LifecycleAndAccess : Prop :=
  ∀ (s : State) (q : Requester), s.grants q .LC_CMD = true →
    let data (n : Nat) : List Byte := (List.range n).flatMap (fun k => leBytes 4 (s.rg .LC_DATAk k))
    let chal : List Byte := (List.range 8).flatMap (fun k => leBytes 4 (s.rg .LC_CHALk k))
    let waiting := ∃ t0, s.lc.waitFrom = some t0 ∧ s.time.ticks < t0 + 900 * 500000000
    let fresh := ∃ t0, s.lc.chal = some t0 ∧ s.time.ticks ≤ t0 + 60 * 500000000
    let failed (t : State) : Prop := t.fd F.LC_CMD_REFUSE = 0x7C ∧
      t.fd F.LC_STATE_FAIL_CNT = satInc 8 (s.fd F.LC_STATE_FAIL_CNT) ∧ t.lc.granted = s.lc.granted ∧
      (3 ≤ s.fd F.LC_STATE_FAIL_CNT → t.lc.waitFrom = some s.time.ticks)
    let opened (t : State) (level : Nat) : Prop := t.fd F.LC_STATE_FAIL_CNT = 0 ∧ t.lc.waitFrom = none ∧
      (s.lc.state = 2 → t.lc.granted = max s.lc.granted level ∧
        t.lc.authAt = (if s.lc.granted = 0 then s.time.ticks else s.lc.authAt)) ∧
      (s.lc.state ≠ 2 → t.lc.granted = s.lc.granted) ∧ t.lc.state = s.lc.state
    let closed (t : State) : Prop := t.lc.granted = 0 ∧ t.lc.state = s.lc.state ∧
      (s.lc.granted = 2 → ∀ n, n < 72 → t.fd F.VC_CTLn_HALT n = 0 ∧
        (t.core n).run = if (s.core n).run = .halted then (s.core n).resume else (s.core n).run)
    (s.lc.state = 0 → exec (.setOwner q) s = .next { s with lc := { s.lc with state := 1, owner := data 16 } }) ∧
    (s.lc.state ≠ 0 → ∃ t, exec (.setOwner q) s = .next t ∧ t.fd F.LC_CMD_REFUSE = 0x02 ∧ t.lc = s.lc) ∧
    (s.lc.state = 1 → s.lc.pw ≠ none → ∃ t, exec (.lock q) s = .next t ∧
      t.lc = { s.lc with state := 2, granted := 0 } ∧ t.accessLevel = 0 ∧ ∀ n, n < 72 →
        (t.core n).run = if (s.core n).run = .halted then (s.core n).resume else (s.core n).run) ∧
    (s.lc.state ≠ 1 ∨ s.lc.pw = none → ∃ t, exec (.lock q) s = .next t ∧ t.fd F.LC_CMD_REFUSE = 0x02 ∧ t.lc = s.lc) ∧
    (∃ t, exec (.challenge q) s = .next t ∧ t.lc = { s.lc with chal := some s.time.ticks } ∧
      t = { s with regs := t.regs, lc := t.lc, freeCount := t.freeCount } ∧
      s.onlyFields t (fun o => decide (0x2200010 ≤ o ∧ o < 0x2200030)) []) ∧
    (waiting → (∃ t, exec (.lcVerify q) s = .next t ∧ t.fd F.LC_CMD_REFUSE = 0x7D ∧ t.lc = s.lc) ∧
      ∃ t, exec (.password q) s = .next t ∧ t.fd F.LC_CMD_REFUSE = 0x7D ∧ t.lc = s.lc) ∧
    (¬ waiting → ¬ fresh → ∃ t, exec (.lcVerify q) s = .next t ∧ t.fd F.LC_CMD_REFUSE = 0x7F ∧ t.lc = s.lc ∧
      t.fd F.LC_STATE_FAIL_CNT = s.fd F.LC_STATE_FAIL_CNT) ∧
    (¬ waiting → fresh → ∃ t, exec (.lcVerify q) s = .next t ∧ t.lc.chal = none ∧
      if signed s.lc.owner (data 16) chal then opened t 2 else failed t) ∧
    (¬ waiting → ∃ t, exec (.password q) s = .next t ∧
      if pwChars (data 4) ∧ s.lc.pw = some (data 4) then opened t 1 else failed t) ∧
    (s.lc.state = 2 → s.lc.granted ≠ 0 → (∃ t, exec (.relock q) s = .next t ∧ closed t) ∧
      ∃ t, exec .accessExpiry s = .next t ∧ closed t ∧
        t.time.ticks = max s.time.ticks (s.lc.authAt + 28800 * 500000000)) ∧
    (s.accessLevel = 2 → pwChars (data 4) = true →
      exec (.setPw q) s = .next { s with lc := { s.lc with pw := some (data 4) } }) ∧
    (s.accessLevel ≠ 2 → ∃ t, exec (.setPw q) s = .next t ∧ t.fd F.LC_CMD_REFUSE = 0x06 ∧ t.lc = s.lc) ∧
    ∀ t0, s.lc.waitFrom = some t0 → ∃ t, exec .authWaitEnd s = .next t ∧ t.lc = { s.lc with waitFrom := none } ∧
      t.mem = s.mem ∧ t.time.ticks = max s.time.ticks (t0 + 900 * 500000000)

/-! ## The cell -/

/-- Arm groups, TIM_CYCLE and placement (R27, R31 to R33, R48, R320): a bit that goes to 1 runs the checks and takes the
records, or is refused with the failing group; a bit written 0 stays until standstill; the path of a plan that covers
the group and ends first gives a category 1 stop; TIM_CYCLE is set whole or refused; an accepted commit waits for the boundary. -/
def Obligations.ArmGroupsAndPlacement : Prop :=
  ∀ (s : State) (q : Requester) (v : Word) (g : Nat), g < 16 →
    let en := F.GLOBAL_AG_EN_EN.of v.toNat
    let now := s.fd F.GLOBAL_AG_EN_EN
    let base := F.TIM_CYCLE_BASE.of v.toNat
    let cut := F.TIM_CYCLE_CUTOFF.of v.toNat
    (s.grants q .GLOBAL_AG_EN = true → now.testBit g = false → en = now + 2 ^ g →
      (s.agFail g = none → (∀ i, i < agAxes (s.agLive g) → ∀ f, axStepped (s.axLive (agFirst (s.agLive g) + i)) = true →
          axFb (s.axLive (agFirst (s.agLive g) + i)) = some f → s.fd F.FB_STATn_STATE f ≠ 2) →
        ∃ t, exec (.agEnable q v) s = .next t ∧ t.fd F.GLOBAL_AG_EN_EN = en ∧
        (t.ag g).snap = some (s.agTake g) ∧ (t.ag g).stopping = false ∧ (t.ag g).lateRun = 0 ∧ (t.ag g).queue = [] ∧
        (t.ag g).enAtStart = false ∧ (t.ag g).draining = false ∧ (t.ag g).cat1 = false ∧ (∀ h, h ≠ g → t.ag h = s.ag h) ∧ t.mem = s.mem ∧
        ∀ i, i < agAxes (s.agLive g) → t.axState (agFirst (s.agLive g) + i) =
          if s.axState (agFirst (s.agLive g) + i) = 5 then 5 else 6) ∧
      ∀ code, s.agFail g = some code → ∃ t, exec (.agEnable q v) s = .next t ∧ t.fd F.GLOBAL_AG_EN_EN = now ∧
        t.fd F.GLOBAL_AG_EN_REFUSE = code ∧ t.fd F.GLOBAL_AG_EN_REF_AG = g ∧ t = { s with regs := t.regs }) ∧
    (s.grants q .GLOBAL_AG_EN = true → now.testBit g = true → en + 2 ^ g = now →
      ∃ t, exec (.agDisable q v) s = .next t ∧ t.ag g = { s.ag g with stopping := true } ∧
        (∀ h, h ≠ g → t.ag h = s.ag h) ∧ t = { s with cell := { s.cell with ags := t.cell.ags } }) ∧
    (s.agEnabled g = true → (s.ag g).stopping = true →
      (∃ t, exec (.agStandstill g) s = .next t ∧ (∀ h, h < 16 → t.agEnabled h = (s.agEnabled h && decide (h ≠ g))) ∧
        (t.ag g).stopping = false) ∧
      ∀ t0 r, s.pathEnd = some t0 → (s.ag g).cat1 = false → s.kn.adopted = some r → r.groups.testBit g = true →
        ∃ t, exec (.pathEndStop g) s = .next t ∧
        t.ag g = { s.ag g with cat1 := true } ∧ (∀ h, h ≠ g → t.ag h = s.ag h) ∧
        t.time = (s.advanceTo t0).time ∧ t.mem = s.mem) ∧
    (s.grants q .TIM_CYCLE = true →
      (base = s.fd F.TIM_CYCLE_BASE ∨ (s.anyPort = false ∧ s.offsetBeyond (baseNs base) = false) →
        cutoffFits base cut = true → ∃ t, exec (.timCycleWrite q v) s = .next t ∧ t.fd F.TIM_CYCLE_BASE = base ∧
          t.fd F.TIM_CYCLE_CUTOFF = cut ∧ s.sets t [(F.TIM_CYCLE_BASE, 0), (F.TIM_CYCLE_CUTOFF, 0)]) ∧
      (base ≠ s.fd F.TIM_CYCLE_BASE → s.anyPort = true → ∃ t, exec (.timCycleWrite q v) s = .next t ∧
        t.fd F.TIM_CYCLE_REFUSE = 0x02 ∧ t.fd F.TIM_CYCLE_BASE = s.fd F.TIM_CYCLE_BASE ∧
        t.fd F.TIM_CYCLE_CUTOFF = s.fd F.TIM_CYCLE_CUTOFF) ∧
      (base = s.fd F.TIM_CYCLE_BASE ∨ s.anyPort = false → cutoffFits base cut = false →
        ∃ t, exec (.timCycleWrite q v) s = .next t ∧ t.fd F.TIM_CYCLE_REFUSE = 0x03 ∧
          t.fd F.TIM_CYCLE_BASE = s.fd F.TIM_CYCLE_BASE ∧ t.fd F.TIM_CYCLE_CUTOFF = s.fd F.TIM_CYCLE_CUTOFF)) ∧
    (s.grants q .SV_PLACE_CMD = true → F.SV_PLACE_CMD_COMMIT.of v.toNat = 1 →
      (s.placeFail = none → ∃ t, exec (.placeCommit q v) s = .next t ∧ t.fd F.SV_PLACE_CMD_PENDING = 1 ∧
        t.sv = { s.sv with placeStored := some ((List.range 16).map (fun h => s.rg .SV_PLACE_SHn h)) } ∧
        (∀ h, h < 16 → t.rg .SV_PLACEn h = s.rg .SV_PLACEn h) ∧ t = { s with regs := t.regs, sv := t.sv }) ∧
      ∀ code h, s.placeFail = some (code, h) → ∃ t, exec (.placeCommit q v) s = .next t ∧
        t.fd F.SV_PLACE_CMD_REFUSE = code ∧ t.fd F.SV_PLACE_CMD_REF_AG = h ∧ t.sv = s.sv ∧
        t.fd F.SV_PLACE_CMD_PENDING = s.fd F.SV_PLACE_CMD_PENDING)

/-- The cycles of the cell (R23, R25, R29, R36, R37, R41, R49, R316, R555, R650): CUTOFF judges the enabled arm groups and
stops one after LATE_LIMIT late base cycles; a start numbers the base cycle by CT and the consumers take their points; plan
cycles take snapshots of even SEQ; a super-cycle boundary applies placement, swap and adopt slot before the plan cycle that
starts with it; a changed length takes effect where the starts meet. -/
def Obligations.CyclesOfTheCell : Prop :=
  ∀ (s : State) (g : Nat), g < 16 → s.clockOn = true → s.time.ctLoad = none →
    let a := s.ag g
    let late := satInc 16 (s.sramN (64 * g + 16) 2)
    let len := baseNs s.time.base
    let next := s.time.bcStart + len
    let stop := agLateLimit (s.agRec g) ≤ a.lateRun + 1 ∧ s.agEnabled g = true
    (s.time.cutoffDone = false → a.enAtStart = true → (∀ h, h ≠ g → (s.ag h).enAtStart = false) →
      ∃ t, exec .cutoff s = .next t ∧ t.time.cutoffDone = true ∧
        (s.agCommitted g = true → (t.ag g).lateRun = 0 ∧ t.sramN (64 * g + 16) 2 = s.sramN (64 * g + 16) 2 ∧
          t.agEnabled g = s.agEnabled g) ∧
        (s.agCommitted g = false → t.sramN (64 * g + 16) 2 = late ∧
          (¬ stop → (t.ag g).lateRun = a.lateRun + 1 ∧ t.agEnabled g = s.agEnabled g) ∧
          (stop → t.agEnabled g = false ∧ (t.ag g).cat1 = true))) ∧
    (s.time.noBase = false → s.time.startDone = false → (s.phase = 0 → s.time.superDone = true) →
      (s.phase % 8 = 0 → s.time.planDone = true) →
      ∃ t, exec .baseCycleStart s = .next t ∧ t.time.startDone = true ∧ t.time.bcn = s.time.bcn ∧
        (t.ag g).queue = a.queue.tail) ∧
    (s.time.noBase = false → s.time.startDone = true → s.time.cutoffDone = true → s.fd F.TIM_CYCLE_BASE = s.time.base →
      ∃ t, exec .baseCycleStart s = .next t ∧ t.time.bcn = next / len ∧ t.time.bcStart = next ∧
        t.time.startDone = true ∧ t.time.cutoffDone = false ∧ t.time.cutoff = s.fd F.TIM_CYCLE_CUTOFF ∧
        (t.ag g).enAtStart = s.agEnabled g ∧ (t.ag g).queue = a.queue.tail ∧
        (next / len % 16 = 0 → t.time.superDone = true) ∧ (next / len % 8 = 0 → t.time.planDone = true)) ∧
    (s.time.noBase = false → s.time.bcn % 8 = 0 → s.time.planDone = false → s.phase ≠ 0 ∨ s.time.superDone = true →
      s.agEnabled g = true → ∃ t, exec .planCycleStart s = .next t ∧ t.time.planDone = true ∧
        (t.ag g).snap = if agSeq (s.agLive g) % 2 = 0 then some (s.agTake g) else a.snap) ∧
    (s.time.noBase = false → s.time.bcn % 16 = 0 → s.time.superDone = false → s.sv.mig = none →
      ∃ t, exec .superCycleBoundary s = .next t ∧ t.time.superDone = true ∧ t.time.planDone = true ∧
        (t.rg .SV_PLACEn g = if s.flag F.SV_PLACE_CMD_PENDING then s.rg .SV_PLACE_SHn g else s.rg .SV_PLACEn g) ∧
        t.fd F.SV_PLACE_CMD_PENDING = 0 ∧
        (s.fd F.SV_IMG_STAT_STATE = 3 → t.sv.imgActive = 1 - s.sv.imgActive ∧ t.fd F.SV_IMG_STAT_STATE = 0 ∧
          t.fd F.SV_IMG_STAT_WINDOW = 1 - s.fd F.SV_IMG_STAT_WINDOW ∧
          t.fd F.SV_IMG_STAT_SWAP_CNT = satInc 8 (s.fd F.SV_IMG_STAT_SWAP_CNT)) ∧
        t.fd F.KN_PLAN_CTL_ACTIVE = s.fd F.KN_PLAN_CTL_ADOPT ∧ t.fd F.KN_PLAN_CTL_PENDING = 0) ∧
    (let b := s.fd F.TIM_CYCLE_BASE
    s.time.cutoffDone = true → b ≠ s.time.base → s.nextStart % baseNs b = 0 →
      ∃ t, exec .baseChangeEffect s = .next t ∧ t.time.base = b ∧ t.time.bcStart = s.nextStart ∧
        t.time.bcn = s.nextStart / baseNs b ∧ t.time.cutoff = s.fd F.TIM_CYCLE_CUTOFF ∧ t.time.noBase = false ∧
        t.time.startDone = false ∧ t.mem = s.mem)

/-! ## The Kneader -/

/-- Kernels and clusters (R254 to R258, R262, R266, R276 to R283, R286 to R288): KERNEL_START takes the next descriptor of an
ON cluster with its IN, model copy, records and bounds, or ends it at once on an input trip or after its deadline;
KERNEL_COMPLETE writes the OUT header and the results computed from what the start took, or the trip the computation met, and
deposits the completion token; KERNEL_DEADLINE takes out a late descriptor; ITER and NOCONV of a descriptor that ends early
are those of the points that had ended; KN_CTL enables and disables clusters. -/
def Obligations.KernelsRun : Prop :=
  ∀ (s : State) (q : Requester) (v : Word) (k dt : Nat), k < 4 →
    let a := s.advance dt
    let c := s.knCluster k
    let en := s.fd F.KN_CTL_EN
    let count (j : Nat) : Nat := s.rg .KN_CLk_CNTj k j
    let tokened (u t : State) (d : KnDesc) (st : Nat) : Prop :=
      t = if d.fld 4 2 = 0xFFFF then u else (u.deposit (.kneader k) (d.fld 4 2) (d.fld 6 2) (BitVec.ofNat 32 st)).1
    let wrote (u : State) (d : KnDesc) (now st cyc : Nat) (out : List Byte) : Prop :=
      u.mem = (if a.outReachable d then
        (a.coreWrite d.core d.outAt (leBytes 4 st ++ leBytes 8 now ++ leBytes 4 cyc ++ out)).mem else s.mem)
    let others (t : State) : Prop := ∀ j, j ≠ k → t.knCluster j = s.knCluster j
    let failed (u : State) : Prop := u.rg .KN_CLk_CNTj k 1 = satInc 32 (count 1) ∧ u.rg .KN_CLk_CNTj k 0 = count 0
    let ends (code guard dl : Nat) (r : KnRun) (m : Nat) : Nat :=
      statusWord code 3 0 guard dl (b2n ((r.ended m).any PointEnd.noconv)) k (((r.ended m).map PointEnd.iter).foldl max 0)
        r.desc.kind
    let late (u : State) : Prop := failed u ∧ u.rg .KN_CLk_CNTj k 3 = satInc 32 (count 3)
    (∀ d, c.run = none → nextKernel c.queue = some d → a.domOn (18 + k) = true →
      let r := a.knRun d
      let trip := firstTrip a.knBounds (kernelInWords d.kind (fieldAt r.model 1 1) d.count (modelPris r.model) r.input ++
        modelWords r.model)
      (d.lateAt (a.ctNs + 1) = false → trip = none → ∃ t, exec (.kernelStart k dt) s = .next t ∧
        t.knCluster k = ⟨dropDesc d c.queue, some r⟩ ∧ others t ∧ t.mem = s.mem ∧ t.cores = a.cores) ∧
      (d.lateAt (a.ctNs + 1) = false → ∀ e, trip = some e → ∃ t u st cyc, exec (.kernelStart k dt) s = .next t ∧
        u.knCluster k = { c with queue := dropDesc d c.queue } ∧ others u ∧ u.flag F.KN_GUARD_TRIP = true ∧ failed u ∧
        u.rg .KN_CLk_CNTj k 2 = satInc 32 (count 2) ∧ st = statusWord 0x31 3 0 1 0 0 k 0 d.kind ∧
        wrote u d a.ctNs st cyc [] ∧ tokened u t d st) ∧
      (d.lateAt (a.ctNs + 1) = true → ∃ t u st, exec (.kernelStart k dt) s = .next t ∧
        u.knCluster k = { c with queue := dropDesc d c.queue } ∧ others u ∧ late u ∧
        st = statusWord 0x32 3 0 0 1 0 k 0 d.kind ∧ wrote u d a.ctNs st 0 [] ∧ tokened u t d st)) ∧
    (∀ r, c.run = some r →
      let d := r.desc
      (∀ pts, r.eval = .ok pts →
        let out := (pts.map PointEnd.bytes).flatten
        d.lateAt (a.ctNs - outNs (16 + out.length)) = false → ∃ t u st, exec (.kernelComplete k dt) s = .next t ∧
          st = statusWord 0 0 0 0 0 (b2n (pts.any PointEnd.noconv)) k ((pts.map PointEnd.iter).foldl max 0) d.kind ∧
          u.knCluster k = { c with run := none } ∧ others u ∧ u.rg .KN_CLk_CNTj k 0 = satInc 32 (count 0) ∧
          u.rg .KN_CLk_CNTj k 1 = count 1 ∧ u.cores = a.cores ∧
          wrote u d a.ctNs st (kernelCycles d.kind (fieldAt r.model 1 1) r.caps.length (pts.map PointEnd.iter)) out ∧
          tokened u t d st) ∧
      ∀ e, r.eval = .error e → d.lateAt a.ctNs = false → ∃ t u st cyc, exec (.kernelComplete k dt) s = .next t ∧
        st = ends (if e.divsqrt then 0x38 else 0x31) 1 0 r d.count ∧
        u.knCluster k = { c with run := none } ∧ others u ∧ u.flag F.KN_GUARD_TRIP = true ∧ failed u ∧
        u.rg .KN_CLk_CNTj k 5 = (if e.acc then satInc 32 (count 5) else count 5) ∧
        wrote u d a.ctNs st cyc [] ∧ tokened u t d st) ∧
    (∀ d j t0, c.queue[j]? = some d → d.deadline = some t0 →
      ∃ t u st, exec (.kernelDeadline k (some j) false) s = .next t ∧ st = statusWord 0x32 3 0 0 1 0 k 0 d.kind ∧
        u.knCluster k = { c with queue := c.queue.eraseIdx j } ∧
        others u ∧ u.time = (s.advanceTo t0).time ∧ late u ∧ wrote u d (s.advanceTo t0).ctNs st 0 [] ∧ tokened u t d st) ∧
    (∀ r t0, c.run = some r → r.desc.deadline = some t0 →
      ∃ t u st cyc m, exec (.kernelDeadline k none false) s = .next t ∧ m ≤ r.desc.count ∧ st = ends 0x32 0 1 r m ∧
        u.knCluster k = { c with run := none } ∧
        others u ∧ u.time = (s.advanceTo t0).time ∧ late u ∧ wrote u r.desc (s.advanceTo t0).ctNs st cyc [] ∧
        tokened u t r.desc st) ∧
    (∀ r t0 e, c.run = some r → r.desc.deadline = some t0 → r.eval = .error e →
      ∃ t u st, exec (.kernelDeadline k none true) s = .next t ∧ st = ends 0x31 1 1 r r.desc.count ∧
        u.knCluster k = { c with run := none } ∧ late u ∧
        u.rg .KN_CLk_CNTj k 5 = (if e.acc then satInc 32 (count 5) else count 5) ∧ tokened u t r.desc st) ∧
    (s.grants q .KN_CTL = true → en.testBit k = false → F.KN_CTL_EN.of v.toNat = en + 2 ^ k →
      (s.domOn (18 + k) = true → (∀ e, e < 64 → s.flag F.KN_RANGE_CTLc_EN e = true → (s.knBound e).1 ≤ (s.knBound e).2) →
        ∃ t, exec (.clusterEnable q v) s = .next t ∧ t.fd F.KN_CTL_EN = en + 2 ^ k ∧ s.sets t [(F.KN_CTL_EN, 0)]) ∧
      (s.domOn (18 + k) = false → ∃ t, exec (.clusterEnable q v) s = .next t ∧ t.fd F.KN_CTL_EN = en ∧
        t.fd F.KN_CTL_REFUSE = 0x07 ∧ t.fd F.KN_CTL_REF_CL = k) ∧
      ∀ e, s.domOn (18 + k) = true → e < 64 → s.flag F.KN_RANGE_CTLc_EN e = true → (s.knBound e).2 < (s.knBound e).1 →
        ∃ t, exec (.clusterEnable q v) s = .next t ∧ t.fd F.KN_CTL_EN = en ∧ t.fd F.KN_CTL_REFUSE = 0x04 ∧
          t.fd F.KN_CTL_REF_CL = k) ∧
    (s.grants q .KN_CTL = true → en.testBit k = true → F.KN_CTL_EN.of v.toNat + 2 ^ k = en →
      (s.clusterBusy k = false → ∃ t, exec (.clusterDisable q v) s = .next t ∧ t.fd F.KN_CTL_EN + 2 ^ k = en ∧
        s.sets t [(F.KN_CTL_EN, 0)]) ∧
      (s.clusterBusy k = true → ∃ t, exec (.clusterDisable q v) s = .next t ∧ t.fd F.KN_CTL_EN = en ∧
        t.fd F.KN_CTL_REFUSE = 0x01 ∧ t.fd F.KN_CTL_REF_CL = k))

/-- Plans (R256, R257, R284, R285, R300 to R303, R306, R307, R310 to R317): PLAN_START takes the next waiting descriptor
whose problem passes, with the records and the range table of that moment, or ends it; a solve that converges ends DONE with
its plan in OUT, in its slot with its duals, and among the results; at ITER_LIMIT or the deadline a solve falls back to a
partial plan, to the stored plan shifted, or fails; ADOPT changes while no switch is pending. -/
def Obligations.PlansRun : Prop :=
  ∀ (s : State) (q : Requester) (v : Word) (n dt : Nat) (it : KnIter), n < 8 →
    let a := s.advance dt
    let tokened (u t : State) (k : Nat) (d : KnDesc) (st : Nat) : Prop :=
      t = if d.fld 4 2 = 0xFFFF then u else (u.deposit (.kneader k) (d.fld 4 2) (d.fld 6 2) (BitVec.ofNat 32 st)).1
    let left (u : State) (slot result : Nat) : Prop :=
      u.flag F.KN_SLOTs_STAT_BUSY slot = false ∧ u.fd F.KN_SLOTs_STAT_LAST_RESULT slot = result
    let kept (u : State) (p : KnSolve) (now : Nat) (plan : List Byte) (duals : List ℚ) (result : Nat) : Prop :=
      u.kn.solve = none ∧ u.knSlot p.desc.slot = { plan := some plan, duals := duals, hold := p.clusters } ∧
        u.rg .KN_SLOTs_SIG p.desc.slot = (if result ≤ 1 then p.desc.fld 24 4 else s.rg .KN_SLOTs_SIG p.desc.slot) ∧
        u.kn.results = s.kn.results ++ [{ slot := p.desc.slot, result := result, addr := p.desc.outAt, len := p.desc.fld 60 4,
                                          vf := planVf plan, groups := planGroups plan, doneAt := now }]
    let end_ (p : KnSolve) : RunEnd := p.run it.iters
    let duals (e : RunEnd) : List ℚ := (e.last.map Iterate.z).getD []
    let shifts (p : KnSolve) (old : List Byte) : Prop := planStoredSig old = p.desc.fld 24 4 ∧ p.desc.fld 32 8 < planEndNs old
    let falls (p : KnSolve) (now : Nat) (e : RunEnd) (t : State) (code dl : Nat) : Prop :=
      let st (c result : Nat) : Nat := statusWord c result (b2n p.wsm) 0 dl 0 0 e.iters 0x10
      let k := lowCluster p.clusters
      let near := 1 ≤ e.iters ∧ e.resPri ≤ p.desc.fld 52 4
      (near → ∃ u, left u p.desc.slot 1 ∧ kept u p now (newPlan p.desc p.input e) (duals e) 1 ∧
        tokened u t k p.desc (st code 1)) ∧
      (¬ near → ∀ old, p.stored = some old → shifts p old → ∃ u, left u p.desc.slot 2 ∧
        kept u p now (shiftPlan old (p.desc.fld 32 8) (8 * s.lenNs)) p.duals 2 ∧ tokened u t k p.desc (st code 2)) ∧
      (¬ near → (∀ old, p.stored = some old → ¬ shifts p old) → ∃ u, left u p.desc.slot 3 ∧ u.kn.solve = none ∧
        u.knSlot p.desc.slot = s.knSlot p.desc.slot ∧ u.kn.results = s.kn.results ∧ tokened u t k p.desc (st 0x3C 3))
    (∀ d, s.kn.solve = none → s.nextPlan = some d → d.slot < 8 → a.plansOn ≠ 0 → d.lateAt (a.ctNs + 1) = false →
      let en := a.plansOn
      let k := lowCluster en
      let b := a.coreBytes d.core d.inAt (d.fld 56 4)
      let sl := s.knSlot d.slot
      let stored := if a.allOn sl.hold then sl.plan else none
      let fits := stored.filter (fun p => decide (planStoredSig p = d.fld 24 4))
      let warm := bit (d.fld 1 1) 2
      let arms := (inGroups b).map a.planArm
      let trip := firstTrip a.knBounds (a.problemWords b ++ arms.flatMap (fun r => modelWords r.model))
      (a.problemFail d b = none → trip = none → ∃ t p, exec (.planStart dt) s = .next t ∧ t.kn.solve = some p ∧
        t.kn.waiting = dropDesc d s.kn.waiting ∧ p.desc = d ∧ p.clusters = en ∧ p.input = b ∧ p.arms = arms ∧
        p.table = a.knTable ∧ p.stored = stored ∧ p.warm = (if warm then fits else none) ∧ p.duals = sl.duals ∧
        p.wsm = (warm && fits.isNone) ∧ p.preempt = false ∧ p.trip = false ∧
        p.moveFrom = (if stored.isSome then sl.hold else 0) ∧
        t.knSlot d.slot = (if stored.isSome then { sl with hold := en } else sl) ∧
        t.kn.results = s.kn.results ∧ t.mem = s.mem ∧ t.cores = a.cores) ∧
      (a.problemFail d b = none → trip.isSome = true → fits = none → ∃ t u, exec (.planStart dt) s = .next t ∧
        u.kn.waiting = dropDesc d s.kn.waiting ∧ u.kn.solve = none ∧ left u d.slot 3 ∧ u.flag F.KN_GUARD_TRIP = true ∧
        u.kn.results = s.kn.results ∧ tokened u t k d (statusWord 0x3C 3 (b2n warm) 1 0 0 0 0 0x10)) ∧
      ∀ code, a.problemFail d b = some code → ∃ t u st cyc, exec (.planStart dt) s = .next t ∧
        u.kn.waiting = dropDesc d s.kn.waiting ∧ u.kn.solve = none ∧ left u d.slot 3 ∧
        u.knSlot d.slot = sl ∧ u.kn.results = s.kn.results ∧ st = statusWord code 3 0 0 0 0 0 0 0x10 ∧
        u.mem = (if a.outReachable d then
          (a.coreWrite d.core d.outAt (leBytes 4 st ++ leBytes 8 a.ctNs ++ leBytes 4 cyc ++ [])).mem else s.mem) ∧
        tokened u t k d st) ∧
    (∀ p, s.kn.solve = some p → p.desc.slot < 8 → p.trip = false →
      p.desc.deadline.any (fun t => decide (t ≤ a.ctNs)) = false →
      let e := end_ p
      (e.done = true → ∃ t u st, exec (.planComplete it dt) s = .next t ∧ left u p.desc.slot 0 ∧
        kept u p a.ctNs (newPlan p.desc p.input e) (duals e) 0 ∧ st = statusWord 0 0 (b2n p.wsm) 0 0 0 0 e.iters 0x10 ∧
        u.mem = (if a.outReachable p.desc then (a.coreWrite p.desc.core p.desc.outAt
          (leBytes 4 st ++ leBytes 8 a.ctNs ++ leBytes 4 it.cycles ++ newPlan p.desc p.input e)).mem else s.mem) ∧
        tokened u t (lowCluster p.clusters) p.desc st) ∧
      (e.done = false → e.trap = none → e.stall = false → p.preempt = false → e.iters = p.desc.fld 28 1 →
        ∃ t, exec (.planComplete it dt) s = .next t ∧ falls p a.ctNs e t 0x3D 0)) ∧
    (∀ p t0, s.kn.solve = some p → p.desc.slot = n → p.desc.deadline = some t0 → p.trip = false →
      (end_ p).done = false → (end_ p).trap = none →
      ∃ t, exec (.planDeadline n it) s = .next t ∧ falls p (s.advanceTo t0).ctNs (end_ p) t 0x32 1) ∧
    (∀ d t0, (∀ p, s.kn.solve = some p → p.desc.slot ≠ n) → s.kn.waiting.find? (fun d => decide (d.slot = n)) = some d →
      d.deadline = some t0 → (s.knSlot n).plan = none →
      ∃ t u, exec (.planDeadline n it) s = .next t ∧ left u n 3 ∧ u.kn.waiting = dropDesc d s.kn.waiting ∧
        u.kn.solve = s.kn.solve ∧
        tokened u t (lowCluster (s.knSlot n).hold) d (statusWord 0x3C 3 0 0 1 0 0 0 0x10)) ∧
    (s.grants q .KN_PLAN_CTL = true →
      let new := F.KN_PLAN_CTL_ADOPT.of v.toNat
      (s.flag F.KN_PLAN_CTL_PENDING = false → new ≠ s.fd F.KN_PLAN_CTL_ADOPT →
        ∃ t, exec (.adoptSlotWrite q v) s = .next t ∧ t.fd F.KN_PLAN_CTL_ADOPT = new ∧
          t.fd F.KN_PLAN_CTL_PENDING = b2n (decide (new ≠ s.fd F.KN_PLAN_CTL_ACTIVE)) ∧
          s.sets t [(F.KN_PLAN_CTL_ADOPT, 0), (F.KN_PLAN_CTL_PENDING, 0)]) ∧
      (s.flag F.KN_PLAN_CTL_PENDING = true → new ≠ s.fd F.KN_PLAN_CTL_ADOPT →
        ∃ t, exec (.adoptSlotWrite q v) s = .next t ∧ t.fd F.KN_PLAN_CTL_REFUSE = 0x01 ∧
          t.fd F.KN_PLAN_CTL_ADOPT = s.fd F.KN_PLAN_CTL_ADOPT ∧ t.fd F.KN_PLAN_CTL_ACTIVE = s.fd F.KN_PLAN_CTL_ACTIVE))

/-! ## Axes -/

/-- Commands of profiled channels (R325 to R331, R333, R334, R339, R340, R344, R355): a command waits where the state allows
it, STOP and QSTOP replace a waiting MOVE or UPDATE, and the next profile tick takes it, forms the profile and commits its
first sample, with CREDIT further ones ahead in pacing mode CREDIT; a channel without a command goes on. -/
def Obligations.ChannelsFollowCommands : Prop :=
  ∀ (s : State) (q : Requester) (n : Nat), n < 256 →
    let c := s.axChan n
    let r := s.axLive n
    let st := s.axState n
    let u := axUnit r
    let m := c.plan.now
    let chan (t : State) (e : AxChan) : Prop :=
      t.axChan n = { e with devAt := (t.axChan n).devAt, haltAt := (t.axChan n).haltAt }
    let shown (t : State) (p spd : Int) : Prop :=
      t.rg .AX_POSn n = ofSigned 32 p ∧ t.rg .AX_SPDn n = sat32 spd ∧ (∀ m, m ≠ n → t.axChan m = s.axChan m) ∧
        (s.fd F.AX_TOKn_TOKEN n = 0xFFFF → t.time = { s.time with raised := t.time.raised } ∧ t.cores = s.cores)
    let ticks (P : State → Prop) : Prop := ∃ t, exec .profileTick s = .next t ∧ P t
    let forms (d : AxChan) (st : Nat) (l : List AxSeg) (target : Option Int) (t : State) : Prop :=
      let x : AxPlan := ⟨m, l, s.lenNs⟩
      let y (i : Nat) : AxSample := x.sample (i * s.lenNs) (target.isSome || decide (d.motion = .stop)) u target
      let ahead := (List.range (s.fd F.AX_CTLn_CREDIT n)).map (fun i => y (i + 2))
      let e : AxChan := { d with pend := none, p0 := c.p1, p1 := c.p2, p2 := (y 1).pos, stale := false }
      shown t (y 1).pos (y 1).spd ∧
        ((y 1).last = false → t.axState n = st ∧ chan t
          (if s.flag F.AX_CTLn_PACE n then { e with plan := x, queue := ahead, queueLen := s.lenNs }
          else { e with plan := x, queue := [] })) ∧
        ((y 1).last = true → t.axState n = (if d.fault then 5 else 1) ∧ chan t
          { e with motion := .none, ending := [], fault := false, plan := AxPlan.steady (y 1).pos 0, queue := [] })
    let still (t : State) (st : Nat) : Prop :=
      chan t { c with pend := none, p0 := c.p1, p1 := c.p2, p2 := c.p2 } ∧ t.axState n = st ∧ shown t c.p2 0
    (∀ op i, (op, i) ∈ [(1, (.axMove q n : Instr)), (2, .axUpdate q n), (3, .axStop q n), (4, .axQstop q n), (5, .axHome q n),
        (6, .axClear q n)] → s.grants q .AX_CMDn n = true →
      (c.pend = none → axAllowed op st = true →
        exec i s = .next (s.setAxChan n { c with pend := some (op, q), queue := [] })) ∧
      (c.pend = none → axAllowed op st = false → ∃ t, exec i s = .next t ∧ t.fd F.AX_STATn_CODE n = 0x02 ∧
        t.axState n = st ∧ t = { s with regs := t.regs }) ∧
      ∀ p p', c.pend = some (p, p') →
        (op = 3 ∨ op = 4 → p = 1 ∨ p = 2 →
          exec i s = .next (s.setAxChan n { c with pend := some (op, q), queue := [] })) ∧
        (¬ ((op = 3 ∨ op = 4) ∧ (p = 1 ∨ p = 2)) → ∃ t, exec i s = .next t ∧ t.fd F.AX_STATn_CODE n = 0x01 ∧
          t = { s with regs := t.regs })) ∧
    (s.time.noBase = false → s.ax.tickBcn ≠ some s.time.bcn → s.axRunning = [n] → c.halting = false →
      (c.pend = some (1, q) → st = 1 → s.moveFail n r = none →
        let d : AxChan := { c with motion := .move, target := toSigned 32 (s.rg .AX_TGTn n), vel := s.rg .AX_VELn n,
                                   acc := s.rg .AX_ACCn n, dec := s.rg .AX_DECn n, ending := [(1, 0)], fault := false,
                                   jrk := if s.flag F.AX_CTLn_PROFILE n then s.rg .AX_JRKn n else 0 }
        let l := (d.limits r).moveTo m d.target
        ticks (fun t => forms d 2 l.1 (some d.target) t ∧ t.rg .AX_DECUn n = (nearest (l.2.1 / u)).toNat)) ∧
      (c.pend = some (2, q) → st = 2 → c.motion = .move → s.axLimitsBad n r false = false →
        let d : AxChan := { c with vel := s.rg .AX_VELn n, acc := s.rg .AX_ACCn n, dec := s.rg .AX_DECn n }
        let l := (d.limits r).moveTo m d.target
        ticks (fun t => forms d 2 l.1 (some d.target) t ∧ t.rg .AX_DECUn n = (nearest (l.2.1 / u)).toNat ∧
          t.flag F.AX_STATn_ACC_CLAMP n = (s.flag F.AX_STATn_ACC_CLAMP n || l.2.2))) ∧
      (c.pend = some (3, q) → st = 2 →
        let d : AxChan := { c with motion := .stop, dec := s.rg .AX_DECn n, ending := [(2, 0)], fault := false }
        ticks (forms d 3 ((d.limits r).rest m) none)) ∧
      (c.pend = some (4, q) → st = 2 →
        let d : AxChan := { c with motion := .stop, dec := axDecHard r, ending := [(2, 0)], fault := false }
        ticks (forms d 3 ((d.limits r).rest m) none)) ∧
      (c.pend = some (5, q) → st = 1 → s.fd F.AX_HOMEn_MODE n ≠ 0 → s.fd F.AX_HOMEn_MODE n ≠ 7 →
        s.expectedOn n (s.fd F.AX_HOMEn_MODE n) = false →
        let d : AxChan := { c with motion := .search, positive := decide (s.fd F.AX_HOMEn_MODE n % 2 = 0), reversed := false,
                                   start := c.p2, vel := s.rg .AX_HSPDn n, acc := s.rg .AX_ACCn n,
                                   dec := s.rg .AX_DECn n, jrk := 0, ending := [], fault := false }
        ticks (fun t => forms d 4 ((d.limits r).seek m d.positive) none t ∧ t.flag F.AX_STATn_HOMED n = false)) ∧
      (c.pend = none → st = 2 → c.motion = .move → c.stale = false → c.queue = [] →
        let y := c.plan.sample (c.plan.ns + s.lenNs) true u (some c.target)
        (y.last = true → ticks (fun t => t.axState n = (if c.fault then 5 else 1) ∧ shown t c.target 0 ∧
          chan t { c with p0 := c.p1, p1 := c.p2, p2 := c.target, motion := .none, ending := [], fault := false,
                          plan := AxPlan.steady c.target 0 })) ∧
        (y.last = false → s.flag F.AX_CTLn_PACE n = false → ticks (fun t => t.axState n = 2 ∧ shown t y.pos y.spd ∧
          chan t { c with p0 := c.p1, p1 := c.p2, p2 := y.pos, plan := { c.plan with ns := c.plan.ns + s.lenNs } }))) ∧
      (c.pend = some (1, q) → st = 1 → c.motion = .none → ∀ code, s.moveFail n r = some code →
        ticks (fun t => still t 1 ∧ t.fd F.AX_STATn_CODE n = code)) ∧
      (c.pend = some (5, q) → st = 1 → s.fd F.AX_HOMEn_MODE n = 0 → ticks (fun t =>
        t.axState n = 1 ∧ t.flag F.AX_STATn_HOMED n = true ∧ t.flag F.AX_STATn_POS_LOST n = false ∧
        let home (p : Int) : Prop := t.sramN (axisAt n + 40) 4 = ofSigned 32 (toSigned 32 (s.rg .AX_HPOSn n) - p)
        (axStepped r = false ∨ axFb r ≠ none → home (s.drivePos r)) ∧
        ∀ j, axStepped r = true → axFb r = none → axStepOut r = some j → s.rg .AX_SSCALEn n ≠ 0 →
          let pos := (s.stepAlong n j c.p0 c.p1 (s.startNs - s.lenNs) s.startNs).2
          home (roundDiv (toSigned 32 (ofSigned 32 pos) * stepOne r) (s.rg .AX_SSCALEn n)))) ∧
      (c.pend = some (6, q) → st = 5 → c.motion = .none → c.cause ≠ 0x4A → c.cause ≠ 0x48 → axFb r = none →
        s.agOfAxis n = none ∨ axProfiled r = true → ticks (fun t => still t 1)) ∧
      (c.pend = some (6, q) → st = 5 → c.motion = .none → c.cause = 0x4A → s.pgHigh n = false →
        ticks (fun t => still t 5 ∧ t.fd F.AX_STATn_CODE n = 0x4A)) ∧
      (c.pend = none → st = 6 → ∀ p, (s.setAxChan n { c with p0 := c.p1, p1 := c.p2 }).plannedPos n r = some p →
        ticks (fun t => t.axState n = 6 ∧ shown t p (s.axSpeedWord r (p - c.p1)) ∧
          chan t { c with p0 := c.p1, p1 := p, p2 := p,
                          plan := AxPlan.steady p (((p : ℚ) - c.p1) * 1000000000 / s.lenNs) })))

/-- Limit inputs, homing without its event, and compare units (R335 to R350, R362): a limit in the direction of motion stops
a channel hard, too many changes are chatter, a release is the home event; a unit that fires stamps CT, acts on its GPIO, in
ascending number with others of its PERI cycle, and disarms or moves on by its interval; it arms, enables and takes a new
position as its checks say. -/
def Obligations.InputsAndCompareUnits : Prop :=
  ∀ (s : State) (q : Requester) (n w k hold dt : Nat) (level : Bool) (v : Word), n < 256 → w < 3 → k < 64 →
    let a := s.advance dt
    let c := s.axChan n
    let r := s.axLive n
    let hard := axDecHard r
    let mode := s.fd F.AX_HOMEn_MODE n
    let src := s.inputSrc n w
    let spd := toSigned 32 (s.rg .AX_SPDn n)
    let chan (t : State) (e : AxChan) : Prop :=
      t.axChan n = { e with devAt := (t.axChan n).devAt, haltAt := (t.axChan n).haltAt }
    let inputs (now : Nat) (on : Bool) : Prop :=
      let recent := (c.changes.filter (fun e => now < e.2 + msTicks 20)) ++ [(w, now)]
      let input (t : State) (d : AxChan) (st : Nat) : Prop :=
        exec (.limitInputChange n w level hold dt) s = .next t ∧ t.flag (axInFlag w) n = on ∧
          chan t { d with changes := recent } ∧ t.axState n = st ∧ (∀ m, m ≠ n → t.axChan m = s.axChan m) ∧ t.mem = s.mem
      let along := on = true ∧ (w = 0 ∧ spd < 0 ∨ w = 1 ∧ 0 < spd)
      let expected := mode = 1 ∧ w = 0 ∨ mode = 2 ∧ w = 1
      s.flag (axInFlag w) n ≠ on →
      ((recent.filter (fun e => e.1 = w)).length ≤ 4 →
        (s.axState n = 1 → ∃ t, input t c 1) ∧
        (s.axState n = 2 → along →
          ∃ t, input t { c with motion := .stop, dec := hard, ending := [(5, 0x46)], fault := false, stale := true } 3) ∧
        (s.axState n = 2 → ¬ along → ∃ t, input t c 2) ∧
        (s.axState n = 4 → expected → on = true → c.motion = .search → c.reversed = false →
          ∃ t, input t { c with motion := .back, positive := !c.positive, vel := s.rg .AX_HBSPDn n, dec := hard,
                                stale := true } 4) ∧
        (s.axState n = 4 → expected → on = false → c.motion = .back → axStepped r = false ∨ axFb r ≠ none → src < 0x20 →
          ∃ t, exec (.limitInputChange n w level hold dt) s = .next t ∧ t.axState n = 3 ∧ t.flag F.AX_STATn_HOMED n = true ∧
            t.sramN (axisAt n + 40) 4 = ofSigned 32 (toSigned 32 (s.rg .AX_HPOSn n) - s.drivePos r))) ∧
      (4 < (recent.filter (fun e => e.1 = w)).length → s.axState n = 1 → ∃ t, input t { c with cause := 0x48 } 5 ∧
        t.fd F.AX_STATn_CODE n = 0x48 ∧ t.flag F.AX_STATn_LIMIT_CHATTER n = true)
    (src < 0x20 → 50000 * s.fd F.AX_INn_DEBOUNCE n ≤ hold →
      inputs (a.advance (50000 * s.fd F.AX_INn_DEBOUNCE n)).time.ticks (level != s.inputInv n w)) ∧
    (src < 0x20 → hold < 50000 * s.fd F.AX_INn_DEBOUNCE n → ∃ t, exec (.limitInputChange n w level hold dt) s = .next t ∧
      t.flag (axInFlag w) n = s.flag (axInFlag w) n ∧ t.axState n = s.axState n ∧ chan t c ∧ t.mem = s.mem) ∧
    (∀ e, 0x20 ≤ src → src < 0x30 → c.ins.find? (fun e => e.input = w) = some e →
      e.since + s.debounceCycles n ≤ a.time.bcn → inputs a.time.ticks (e.level != s.inputInv n w)) ∧
    (s.axState n = 4 → (s.rg .AX_HDISTn n : Int) ≤ |c.p2 - c.start| → ∃ t, exec (.homeNotFound n) s = .next t ∧
      t.axState n = 3 ∧ t.fd F.AX_STATn_CODE n = 0x49 ∧ t.flag F.AX_STATn_HOMED n = false ∧
      chan t { c with motion := .stop, dec := s.rg .AX_DECn n, ending := [(4, 0x49)], fault := false, stale := true } ∧
      t = { s with regs := t.regs, ax := t.ax, freeCount := t.freeCount }) ∧
    (let pos := a.cmpPos k
    let tgt := toSigned 32 (s.rg .AX_CMPk_POS k)
    let i := toSigned 32 (s.rg .AX_CMPk_INT k)
    let g := s.fd F.AX_CMPk_CTL_GPIO k
    let act := s.fd F.AX_CMPk_CTL_ACTION k
    let u := s.cmpUnit k
    let dir := s.fd F.AX_CMPk_CTL_DIR k
    let lvl (x v : Nat) : Nat := if x = 2 then 1 else if x = 3 then 0 else 1 - v
    s.flag F.AX_CMPk_STAT_ARMED k = true → s.cmpRunning k = true → u.due = none ∨ u.due = some level →
      (if level then u.side < 0 ∧ tgt ≤ pos ∧ dir ≠ 1 else 0 < u.side ∧ pos ≤ tgt ∧ dir ≠ 0) →
      ∃ t, exec (.cmpFire k level dt) s = .next t ∧ t.flag F.AX_CMPk_STAT_FIRED k = true ∧
        t.fd F.AX_CMPk_CNT_FIRE_CNT k = satInc 16 (s.fd F.AX_CMPk_CNT_FIRE_CNT k) ∧
        t.rg64 .AX_CMPk_CT_LO .AX_CMPk_CT_HI k = a.ctNs % 2 ^ 64 ∧ t.mem = s.mem ∧
        (act < 2 ∨ 4 < act → t.ax.gpioOut = s.ax.gpioOut) ∧
        (2 ≤ act → act ≤ 4 → s.ax.acts.find? (fun e => e.gpio = g && e.peri = a.peri) = none →
          t.ax.gpioOut = setBits s.ax.gpioOut g g (lvl act (bits s.ax.gpioOut g g))) ∧
        (∀ e j x, 2 ≤ act → act ≤ 4 → s.ax.acts.find? (fun e => e.gpio = g && e.peri = a.peri) = some e →
          e.acts = [(j, x)] → j ≠ k →
          t.ax.gpioOut = setBits s.ax.gpioOut g g (if j < k then lvl act (lvl x e.before) else lvl x (lvl act e.before))) ∧
        (act = 1 → (g, a.time.ticks + 2 * s.fd F.AX_CMPk_OUT_PULSE_W k) ∈ t.ax.pulses) ∧
        (s.flag F.AX_CMPk_CTL_PERIODIC k = false → t.flag F.AX_CMPk_STAT_ARMED k = false ∧
          t.rg .AX_CMPk_POS k = s.rg .AX_CMPk_POS k) ∧
        (s.flag F.AX_CMPk_CTL_PERIODIC k = true → 0 < i → tgt ≤ pos → pos < tgt + i →
          t.rg .AX_CMPk_POS k = ofSigned 32 (tgt + i) ∧
          t.flag F.AX_CMPk_STAT_ARMED k = decide (s.fd F.AX_CMPk_CNT_COUNT k = 0 ∨ u.fires + 1 < s.fd F.AX_CMPk_CNT_COUNT k))) ∧
    (let x := v.toNat
    let d := F.AX_CMPk_CTL_DIR.of x
    let i := toSigned 32 (s.rg .AX_CMPk_INT k)
    let b := s.setRg .AX_CMPk_CTL k 0 (setBits (x &&& (2 ^ 24 - 1 - 2)) 31 24 (s.fd F.AX_CMPk_CTL_REFUSE k))
    s.grants q .AX_CMPk_CTL k = true → d ≠ 3 → F.AX_CMPk_CTL_ACTION.of x ≤ 4 → F.AX_CMPk_CTL_EN.of x = 1 →
      (F.AX_CMPk_CTL_ARM.of x = 0 → s.flag F.AX_CMPk_CTL_EN k = false →
        (b.cmpRunning k = true → s.gpioIsInput (F.AX_CMPk_CTL_GPIO.of x) = false →
          F.AX_CMPk_CTL_PERIODIC.of x = 0 ∨ i ≠ 0 ∧ ¬ (d = 0 ∧ i < 0) ∧ ¬ (d = 1 ∧ 0 < i) →
          exec (.cmpEnable q k v) s = .next b ∧ b.flag F.AX_CMPk_CTL_EN k = true) ∧
        (b.cmpRunning k = true → s.gpioIsInput (F.AX_CMPk_CTL_GPIO.of x) = true → ∃ t, exec (.cmpEnable q k v) s = .next t ∧
          t.flag F.AX_CMPk_CTL_EN k = false ∧ t.fd F.AX_CMPk_CTL_REFUSE k = 0x04) ∧
        (b.cmpRunning k = false → ∃ t, exec (.cmpEnable q k v) s = .next t ∧ t.flag F.AX_CMPk_CTL_EN k = false ∧
          t.fd F.AX_CMPk_CTL_REFUSE k = 0x4D)) ∧
      (F.AX_CMPk_CTL_ARM.of x = 1 → s.flag F.AX_CMPk_CTL_EN k = true →
        (b.cmpBehind k = false → ∃ t, exec (.cmpArm q k v) s = .next t ∧ t.flag F.AX_CMPk_STAT_ARMED k = true ∧
          t.cmpUnit k = { side := sideOf (b.cmpPos k) (toSigned 32 (s.rg .AX_CMPk_POS k)), fires := 0, due := none } ∧
          t.flag F.AX_CMPk_STAT_CMP_BEHIND k = s.flag F.AX_CMPk_STAT_CMP_BEHIND k) ∧
        (b.cmpBehind k = true → F.AX_CMPk_CTL_CMP_IMMEDIATE.of x = 0 → ∃ t, exec (.cmpArm q k v) s = .next t ∧
          t.flag F.AX_CMPk_STAT_ARMED k = true ∧ t.flag F.AX_CMPk_STAT_CMP_BEHIND k = true ∧
          t.fd F.AX_CMPk_STAT_BEHIND_CNT k = satInc 8 (s.fd F.AX_CMPk_STAT_BEHIND_CNT k)))) ∧
    (s.grants q .AX_CMPk_POS k = true →
      (s.flag F.AX_CMPk_STAT_ARMED k = false → ∃ t, exec (.cmpPosWrite q k v) s = .next t ∧
        t.rg .AX_CMPk_POS k = v.toNat ∧ s.sets t [(F.AX_CMPk_POS_VALUE, k)]) ∧
      (let b := (s.setRg .AX_CMPk_POS k 0 v.toNat).advance 2
      let u := s.cmpUnit k
      let old := toSigned 32 (s.rg .AX_CMPk_POS k)
      let dir := s.fd F.AX_CMPk_CTL_DIR k
      s.flag F.AX_CMPk_STAT_ARMED k = true → b.cmpBehind k = false → u.due = none →
      ¬ (u.side < 0 ∧ old ≤ s.cmpPos k ∧ dir ≠ 1) → ¬ (0 < u.side ∧ s.cmpPos k ≤ old ∧ dir ≠ 0) →
      ∃ t, exec (.cmpPosWrite q k v) s = .next t ∧ t = { b with ax := t.ax } ∧ (∀ j, j ≠ k → t.cmpUnit j = s.cmpUnit j) ∧
        t.cmpUnit k = { side := sideOf (b.cmpPos k) (toSigned 32 v.toNat), fires := u.fires, due := none }))

/-- Step drivers, stalls and enables (R354 to R356, R359 to R361): power good records the phase, its loss and a stall stop the
output and put a profiled channel into FAULT; a channel or step output is enabled if its checks pass, and is not disabled
while it moves or is used. -/
def Obligations.DriversAndEnables : Prop :=
  ∀ (s : State) (q : Requester) (n j g dt : Nat) (v : Word), n < 256 → j < 32 → g < 32 →
    let a := s.advance dt
    let c := s.axChan n
    let r := s.axLive n
    let st := s.axState n
    let w := v.toNat
    let chan (t : State) (e : AxChan) : Prop :=
      t.axChan n = { e with devAt := (t.axChan n).devAt, haltAt := (t.axChan n).haltAt }
    let halted (u t : State) (code : Nat) : Prop :=
      t.axState n = 5 ∧ t.fd F.AX_STATn_CODE n = code ∧ t.rg .AX_SPDn n = 0 ∧
        (let p := toSigned 32 (ofSigned 32 (((u.stepSync n).stepPos n r).1 + axPosOffset r))
        s.rg .AX_SSCALEn n ≠ 0 → chan t
          { c with motion := .none, pend := none, p0 := p, p1 := p, p2 := p, ending := [], cause := code, halting := false,
                   plan := AxPlan.steady p 0, stale := false, queue := [] }) ∧
        (∀ m, m ≠ n → t.axChan m = s.axChan m) ∧ t.mem = s.mem
    (bit s.ax.gpioIn g = false → ∃ t, exec (.driverPowerGood g dt) s = .next t ∧
      t.ax.gpioIn = setBits s.ax.gpioIn g g 1 ∧ t = { a with ax := t.ax } ∧
      (s.fd F.AX_DRVn_PG_GPIO n = g → axStepOut r = some j → s.flag F.AX_STj_CTL_EN j = true → c.phase = none →
        let ph := ((toSigned 32 (s.rg .AX_STj_POS j)) % (max 1 (s.fd F.AX_DRVn_MS_CYCLE n) : Nat)).toNat
        t.axChan n = { c with phase := some ph }) ∧
      (s.fd F.AX_DRVn_PG_GPIO n ≠ g ∨ c.phase ≠ none → t.axChan n = c)) ∧
    (bit s.ax.gpioIn g = true → s.pgChannels g = [n] → axStepped r = true → 1 ≤ st → st ≠ 5 → st ≠ 6 →
      ∃ t, exec (.driverLost g dt) s = .next t ∧ t.ax.gpioIn = setBits s.ax.gpioIn g g 0 ∧ halted a t 0x4A) ∧
    (∀ f t0, axStepped r = true → axFb r = some f → s.fd F.AX_STALLn_TIME n ≠ 0 → 1 ≤ st → st ≠ 5 → st ≠ 6 →
      let u := (s.stepSync n).stallWatch n
      let y := (u.advanceToTick (((t0 + 499) / 500 + s.fd F.AX_STALLn_TIME n - 1) * 500)).stepSync n
      (u.axChan n).devAt = some t0 → (y.axChan n).devAt = some t0 →
      ∃ t, exec (.stall n) s = .next t ∧ t.flag F.AX_STATn_STALL n = true ∧
        t.fd F.AX_CNTBn_STALL_CNT n = satInc 8 (s.fd F.AX_CNTBn_STALL_CNT n) ∧ halted y t 0x4C) ∧
    (s.grants q .AX_CTLn n = true → F.AX_CTLn_EN.of w = 1 → s.flag F.AX_CTLn_EN n = false →
      (s.axEnableFail n w = none → (∀ f, axStepped r = true → axFb r = some f → s.fd F.FB_STATn_STATE f ≠ 2) →
        ∃ t p, exec (.axEnable q n v) s = .next t ∧ t.flag F.AX_CTLn_EN n = true ∧
        t.axState n = 1 ∧ t.fd F.AX_CTLn_CREDIT n = F.AX_CTLn_CREDIT.of w ∧
        t.fd F.AX_CTLn_PROFILE n = F.AX_CTLn_PROFILE.of w ∧ t.rg .AX_SPDn n = 0 ∧ t.rg .AX_POSn n = ofSigned 32 p ∧
        (axStepped r = false ∨ axFb r ≠ none → p = toSigned 32 (ofSigned 32 (s.drivePos r + axPosOffset r))) ∧
        (axStepped r = true → axFb r = none → s.rg .AX_SSCALEn n ≠ 0 →
          p = toSigned 32 (ofSigned 32 ((s.stepPos n r).1 + axPosOffset r))) ∧
        chan t { c with p0 := p, p1 := p, p2 := p, motion := .none, pend := none, halting := false, ending := [],
                        fault := false, plan := AxPlan.steady p 0, stale := false, queue := [] } ∧ t.mem = s.mem) ∧
      ∀ code, s.axEnableFail n w = some code → ∃ t, exec (.axEnable q n v) s = .next t ∧
        t.flag F.AX_CTLn_EN n = false ∧ t.fd F.AX_CTLn_REFUSE n = code ∧ t.axState n = st ∧ t.axChan n = c) ∧
    (s.grants q .AX_CTLn n = true → F.AX_CTLn_EN.of w = 0 → s.flag F.AX_CTLn_EN n = true →
      (st ≠ 2 → st ≠ 3 → st ≠ 4 → ∃ t, exec (.axDisable q n v) s = .next t ∧ t.flag F.AX_CTLn_EN n = false ∧
        t.axState n = 0 ∧ chan t { c with pend := none, motion := .none } ∧
        t = { s with regs := t.regs, ax := t.ax, freeCount := t.freeCount }) ∧
      (st = 2 ∨ st = 3 ∨ st = 4 → ∃ t, exec (.axDisable q n v) s = .next t ∧ t.flag F.AX_CTLn_EN n = true ∧
        t.fd F.AX_CTLn_REFUSE n = 0x01 ∧ t.axState n = st ∧ t = { s with regs := t.regs })) ∧
    (s.grants q .AX_STj_CTL j = true → F.AX_STj_CTL_EN.of w = 1 → s.flag F.AX_STj_CTL_EN j = false →
      let good := 25 ≤ s.fd F.AX_STj_TIM_STEP_W j ∧ 50 ≤ s.fd F.AX_STj_TIM_DIR_SETUP j ∧ 25 ≤ s.fd F.AX_STj_TIM_DIR_HOLD j
      (good → ∃ t, exec (.stepOutputEnable q j v) s = .next t ∧ t.flag F.AX_STj_CTL_EN j = true ∧
        t.fd F.AX_STj_CTL_DIR_INV j = F.AX_STj_CTL_DIR_INV.of w ∧ t.fd F.AX_STj_CTL_STEP_INV j = F.AX_STj_CTL_STEP_INV.of w ∧
        t.axChan n = (if axStepOut r = some j then { c with phase := none } else c) ∧
        t = { s with regs := t.regs, ax := t.ax }) ∧
      (¬ good → ∃ t, exec (.stepOutputEnable q j v) s = .next t ∧ t.flag F.AX_STj_CTL_EN j = false ∧
        t.fd F.AX_STj_CTL_REFUSE j = 0x44 ∧ t = { s with regs := t.regs })) ∧
    (s.grants q .AX_STj_CTL j = true → F.AX_STj_CTL_EN.of w = 0 → s.flag F.AX_STj_CTL_EN j = true →
      (s.stepUsed j 256 = false → ∃ t, exec (.stepOutputDisable q j v) s = .next t ∧ t.flag F.AX_STj_CTL_EN j = false ∧
        t = { s with regs := t.regs, ax := t.ax, freeCount := t.freeCount }) ∧
      (s.stepUsed j 256 = true → ∃ t, exec (.stepOutputDisable q j v) s = .next t ∧ t.flag F.AX_STj_CTL_EN j = true ∧
        t.fd F.AX_STj_CTL_REFUSE j = 0x01 ∧ t = { s with regs := t.regs }))

/-! ## Feedback -/

/-- Feedback channels (R364, R366, R368, R370 to R377, R380, R381, R383, R385 to R391, R395, R398): a receiver change that holds
for MIN_EDGE counts or is illegal, rejected pulses count, an index is captured and loads an armed count, SSI frames move the
count or are errors, wires and amplitudes are watched, and the commands and the enable do what their checks allow. -/
def Obligations.FeedbackChannels : Prop :=
  ∀ (s : State) (q : Requester) (n hold dt : Nat), n < 32 →
    let a := s.advance dt
    let c := s.fbChan n
    let mode := s.fd F.FB_CFGn_MODE n
    let cnt := toSigned 32 (s.rg .FB_CNTn n)
    let sgn (d : Int) : Int := if s.flag F.FB_CFGn_DIR_INV n then -d else d
    let counts (t : State) (v : Int) : Prop := t.rg .FB_CNTn n = ofSigned 32 v ∧ t.rg .FB_POSn n =
      ofSigned 32 ((s.rg .FB_OFSn n : Int) + toSigned 32 (ofSigned 32 v) * (s.rg .FB_SCALEn n : Int) / 65536)
    let same (t : State) : Prop := t.rg .FB_CNTn n = s.rg .FB_CNTn n ∧ t.rg .FB_POSn n = s.rg .FB_POSn n
    let faulted (t : State) (cause : Nat) : Prop := t.fd F.FB_STATn_STATE n = 2 ∧ t.fd F.FB_STATn_CAUSE n = cause ∧
      t.flag F.FB_STATn_VALID n = false ∧ t.flag F.FB_STATn_SUSPECT n = true
    let inWindow := c.winNo = s.time.bcn / 1024
    let old := c.lines.filt
    let held := c.lines.raw = old ∧ c.lines.wait = [] ∧ old < 8 ∧ s.fd F.FB_FILTn_MIN_EDGE n ≤ hold
    let took (raw : Nat) : FbLines := { raw := raw, filt := raw, wait := [] }
    (s.fd F.FB_STATn_STATE n = 1 →
      (∀ lines, mode = 0 ∨ mode = 2 → held →
        let raw := if mode = 2 then lines % 8 else 2 * (lines % 4) + old % 2
        let step := if mode = 0 then quadStep (old / 2) (raw / 2) else hallStep old raw
        (∀ d, step = some d → d ≠ 0 → ∃ t, exec (.fbCountEdge n lines hold dt) s = .next t ∧ counts t (cnt + sgn d) ∧
          (t.fbChan n).lines = took raw ∧ t.flag F.FB_STATn_STILL n = false ∧ t.fd F.FB_STATn_STATE n = 1 ∧
          (∀ m, m ≠ n → t.fbChan m = s.fbChan m) ∧ t.mem = s.mem) ∧
        (step = none → raw ≠ old → inWindow → ∃ t, exec (.fbCountEdge n lines hold dt) s = .next t ∧ same t ∧
          t.flag F.FB_STATn_QERR n = true ∧ t.fd F.FB_CNTAn_QERR_CNT n = satInc 8 (s.fd F.FB_CNTAn_QERR_CNT n) ∧
          (t.fbChan n).lines = took raw ∧
          (if s.fd F.FB_FLTn_QERR_LIM n ≠ 0 ∧ s.fd F.FB_FLTn_QERR_LIM n ≤ c.winQ + 1 then faulted t 0x50
          else t.fd F.FB_STATn_STATE n = 1))) ∧
      (inWindow → ∃ t, exec (.fbFastEdge n dt) s = .next t ∧ same t ∧ t.flag F.FB_STATn_FAST n = true ∧
        t.fd F.FB_CNTAn_FAST_CNT n = satInc 8 (s.fd F.FB_CNTAn_FAST_CNT n) ∧
        (if s.fd F.FB_FLTn_FAST_LIM n ≠ 0 ∧ s.fd F.FB_FLTn_FAST_LIM n ≤ c.winF + 1 then faulted t 0x51
        else t.fd F.FB_STATn_STATE n = 1)) ∧
      (∀ level, let idx := s.fd F.FB_CFGn_INDEX n
      let w := a.advanceToTick (2 * (a.peri + s.fd F.FB_FILTn_MIN_EDGE n))
      mode = 0 → idx ≠ 0 → held → old % 2 ≠ b2n level → (level != s.flag F.FB_CFGn_ZINV n) = true →
      (∀ e, c.loaded = some e → e.1 ≠ w.peri) → s.flag F.FB_CFGn_GATE n = false ∨ old / 2 = 3 →
        ∃ t, exec (.fbIndexEdge n level hold dt) s = .next t ∧ t.rg .FB_IDXn n = s.rg .FB_CNTn n ∧
          t.rg64 .FB_IDXCT_LOn .FB_IDXCT_HIn n = (w.ctNs - 4 * s.fd F.FB_FILTn_MIN_EDGE n) % 2 ^ 64 ∧
          t.flag F.FB_STATn_IDX n = true ∧ t.fd F.FB_CNTBn_IDX_CNT n = satInc 8 (s.fd F.FB_CNTBn_IDX_CNT n) ∧
          (t.fbChan n).lines = took (old / 2 * 2 + b2n level) ∧
          (if idx = 2 ∧ c.armed = true then counts t (toSigned 32 (s.rg .FB_LOADn n)) ∧ (t.fbChan n).armed = false ∧
            t.flag F.FB_STATn_SUSPECT n = false else same t ∧ t.fbChan n = { c with lines := (t.fbChan n).lines })) ∧
      (∀ t0, mode = 1 → s.time.noBase = false → s.ssiNext n = some t0 → exec (.ssiReadStart n) s = .next
        ((s.advanceTo t0).setFbChan n { c with ssiNow := some t0, ssiBcn := some s.time.bcn, ssiLast := t0 })) ∧
      (∀ t0 low field errs trail, c.ssiNow = some t0 →
        let bs := s.fd F.FB_SSIn_BITS n
        let v := if s.flag F.FB_SSIn_GRAY n then fromGray bs (field % 2 ^ bs) else field % 2 ^ bs
        let bad := low = true ∨ trail = true ∨ ∃ i, i < s.fd F.FB_SSIn_ERR_BITS n ∧
          bit errs i = s.flag F.FB_SSIn_ERR_POL n
        (¬ bad → c.ssiPrev = none → ∃ t, exec (.ssiReadEnd n low field errs trail) s = .next t ∧
          counts t (v % 2 ^ 32 : Nat) ∧ (t.fbChan n).ssiPrev = some v ∧ t.flag F.FB_STATn_SUSPECT n = false ∧
          t.time = { (s.advanceTo (t0 + s.ssiReadNs n)).time with raised := t.time.raised } ∧ t.mem = s.mem) ∧
        (∀ u, ¬ bad → c.ssiPrev = some u →
          let d := toSigned bs (ofSigned bs ((v : Int) - u))
          s.rg .FB_SSIJn n = 0 ∨ |d| ≤ s.rg .FB_SSIJn n → ∃ t, exec (.ssiReadEnd n low field errs trail) s = .next t ∧
            counts t (cnt + sgn d) ∧ (t.fbChan n).ssiPrev = some v ∧ (t.fbChan n).ssiNow = none) ∧
        (bad → inWindow → ∃ t, exec (.ssiReadEnd n low field errs trail) s = .next t ∧ same t ∧
          t.flag F.FB_STATn_SSI_ERR n = true ∧ t.fd F.FB_CNTAn_SSI_CNT n = satInc 8 (s.fd F.FB_CNTAn_SSI_CNT n) ∧
          (t.fbChan n).ssiPrev = c.ssiPrev ∧ (if s.fd F.FB_FLTn_SSI_LIM n ≠ 0 ∧ s.fd F.FB_FLTn_SSI_LIM n ≤ c.winS + 1
            then faulted t 0x53 else t.fd F.FB_STATn_STATE n = 1))) ∧
      (mode ≠ 1 → ∃ t, exec (.fbStillTimeout n) s = .next t ∧ t.rg .FB_SPDn n = 0 ∧ t.flag F.FB_STATn_STILL n = true ∧
        same t ∧ t.fb = s.fb ∧ t.mem = s.mem ∧
        (c.edges = [] → t.time = (s.advanceToTick (2 * (c.enAt + s.fd F.FB_SPDCn_STILL_TO n * 2500))).time) ∧
        ∀ e es, c.edges = e :: es →
          t.time = (s.advanceToTick (2 * (e.1 + s.fd F.FB_SPDCn_STILL_TO n * 2500))).time) ∧
      (∀ l, s.lineChecked n l = true → l < 3 →
        (∀ long, long = decide (2 * s.fd F.FB_FILTn_WIRE_T n ≤ hold) → (∀ e ∈ c.wires, e.1 ≠ l) →
          ∃ t, exec (.wireDisagree n l true hold dt) s = .next t ∧ same t ∧
            t.fbChan n = { c with wires := c.wires ++ [(l, a.time.ticks, long)] } ∧
            (if long then t.flag F.FB_STATn_WIRE n = true ∧ t.fd F.FB_CNTAn_WIRE_CNT n = satInc 8 (s.fd F.FB_CNTAn_WIRE_CNT n)
            else t.flag F.FB_STATn_WIRE n = s.flag F.FB_STATn_WIRE n ∧
              t.fd F.FB_CNTAn_WIRE_CNT n = s.fd F.FB_CNTAn_WIRE_CNT n)) ∧
        (∃ t, exec (.wireDisagree n l false hold dt) s = .next t ∧ same t ∧
          t.fbChan n = { c with wires := c.wires.filter (fun e => e.1 ≠ l) } ∧ t.mem = s.mem) ∧
        (∀ e, c.wires.find? (fun e => e.1 = l) = some e → ∃ t, exec (.wireFault n l) s = .next t ∧ faulted t 0x52 ∧
          (s.advanceToTick (e.2.1 + 500 * s.fd F.FB_FILTn_WIRE_LIM n)).time.ticks ≤ t.time.ticks ∧
          t.fbChan n = { c with faultAt := (t.fbChan n).faultAt } ∧ same t)) ∧
      (∀ x beyond, let thr := s.fd F.FB_THRn_THR n
        let amp := min 255 x
        ∃ t, exec (.thresholdWindow n (some x) none none beyond) s = .next t ∧ t.fd F.FB_AMPn_AMP_A n = amp ∧
          t.fd F.FB_AMPn_AMP_B n = s.fd F.FB_AMPn_AMP_B n ∧ t.fd F.FB_AMPn_AMP_Z n = s.fd F.FB_AMPn_AMP_Z n ∧
          (t.fd F.FB_THRn_THR n = if s.flag F.FB_THRn_ADAPT n then max (s.fd F.FB_THRn_THR_MIN n) (min
            (s.fd F.FB_THRn_THR_MAX n) (if 4 * thr < amp then thr + 1 else if amp < 4 * thr then thr - 1 else thr)) % 32
            else thr) ∧
          (if s.lineChecked n 0 = true ∧ amp < s.fd F.FB_THRn_AMP_MIN n ∧ 0 ∉ c.low then
            t.flag F.FB_STATn_AMP_LOW n = true ∧ t.fd F.FB_CNTBn_AMP_CNT n = satInc 8 (s.fd F.FB_CNTBn_AMP_CNT n)
          else t.fd F.FB_STATn_AMP_LOW n = s.fd F.FB_STATn_AMP_LOW n) ∧
          (t.fbChan n).thr = (if beyond then t.fd F.FB_THRn_THR n else c.thr) ∧ same t)) ∧
    (s.grants q .FB_CMDn n = true →
      (s.fd F.FB_CFGn_INDEX n = 2 → exec (.fbArmIdx q n) s = .next (s.setFbChan n { c with armed := true })) ∧
      (s.fd F.FB_CFGn_INDEX n ≠ 2 → ∃ t, exec (.fbArmIdx q n) s = .next t ∧ t.fd F.FB_CFGn_REFUSE n = 0x02 ∧
        t.fbChan n = c) ∧
      (∃ t, exec (.fbLoad q n) s = .next t ∧ counts t (toSigned 32 (s.rg .FB_LOADn n)) ∧
        t.flag F.FB_STATn_SUSPECT n = false ∧
        (let b := s.advanceToTick (2 * (s.peri + 1))
        t.time = b.time ∧ t.fbChan n = { c with
            loaded := some (b.peri, s.rg .FB_CNTn n),
            rep := { c.rep with cnt := c.rep.cnt + (toSigned 32 (s.rg .FB_LOADn n) - cnt) } }) ∧
        (∀ m, m ≠ n → t.fbChan m = s.fbChan m) ∧ t.mem = s.mem) ∧
      (s.fd F.FB_STATn_STATE n = 2 → c.wires = [] → ∃ t, exec (.fbClear q n) s = .next t ∧
        (t.fd F.FB_STATn_STATE n = if c.faultAt = some s.peri then 2 else 1) ∧
        t.flag F.FB_STATn_VALID n = (if c.faultAt = some s.peri then s.flag F.FB_STATn_VALID n else true) ∧
        t.fbChan n = { c with winQ := 0, winF := 0, winS := 0, ssiPrev := none } ∧ same t) ∧
      (s.fd F.FB_STATn_STATE n ≠ 2 ∨ c.wires ≠ [] → ∃ t, exec (.fbClear q n) s = .next t ∧
        t.fd F.FB_CFGn_REFUSE n = 0x02 ∧ t.fd F.FB_STATn_STATE n = s.fd F.FB_STATn_STATE n ∧ t.fbChan n = c)) ∧
    ∀ v : Word, s.grants q .FB_CFGn n = true → s.flag F.FB_CFGn_THAL n = false ∨ s.fd F.TH_MB_STAT_STATE ≠ 0 →
      let w := v.toNat
      let b := s.setRg .FB_CFGn n 0 ((s.rg .FB_CFGn n &&& 0xFF010000) ||| (w &&& 0x33F6))
      (F.FB_CFGn_EN.of w = 1 → s.flag F.FB_CFGn_EN n = false →
        (b.fbEnableFail n = none → ∃ t, exec (.fbEnable q n v) s = .next t ∧ t.flag F.FB_CFGn_EN n = true ∧
          t.fd F.FB_CFGn_MODE n = F.FB_CFGn_MODE.of w ∧ t.fd F.FB_STATn_STATE n = 1 ∧
          t.flag F.FB_STATn_VALID n = true ∧ counts t 0 ∧ t.rg .FB_SPDn n = 0 ∧ t.mem = s.mem ∧
          t.fbChan n = { fbChanReset with
            lines := took (c.lines.raw), enAt := s.peri, ampAt := s.time.ticks, thr := s.fd F.FB_THRn_THR n,
            winNo := s.time.bcn / 1024 }) ∧
        ∀ code, b.fbEnableFail n = some code → ∃ t, exec (.fbEnable q n v) s = .next t ∧ t.flag F.FB_CFGn_EN n = false ∧
          t.fd F.FB_CFGn_REFUSE n = code ∧ t.fbChan n = c) ∧
      (w = s.rg .FB_CFGn n - 1 → s.flag F.FB_CFGn_EN n = true → ∃ t, exec (.fbEnable q n v) s = .next t ∧
        t.flag F.FB_CFGn_EN n = false ∧ t.fd F.FB_STATn_STATE n = 0 ∧ t.flag F.FB_STATn_VALID n = false ∧ t.fbChan n = c)

/-! ## Sorus -/

/-- Captures (R484 to R508): ARM and REARM write the header and fill or wait; STOP, FORCE, events and the timeout mark the
capture; a sample becomes a record in DRAM, or is dropped, and decides the trigger; the end completes the header; enabling
runs its checks and disabling waits for the capture. -/
def Obligations.CapturesRun : Prop :=
  ∀ (s : State) (q : Requester) (c level : Nat), c < 8 →
    let x := s.soCap c
    let st := s.soState c
    let nch := (s.soProbes c).length
    let base := s.rg .SO_Cc_BASE c
    let rec_ := (16 + 4 * nch + 15) / 16 * 16
    let armed (t : State) (mask : List (Nat × List (Int × Int))) : Prop :=
      t.soState c = (if s.fd F.SO_Cc_PRE_VALUE c = 0 then 2 else 1) ∧ t.rg .SO_Cc_WRITTEN c = 0 ∧
        t.fd F.SO_Cc_STAT_RATE_LOG2 c = 0 ∧
        t.soCap c = { soCapReset with armAt := s.ctNs, lastCt := s.ctNs, nch := nch, recSize := rec_,
                                      capacity := (s.rg .SO_Cc_SIZE c - 256) / rec_, pre := s.fd F.SO_Cc_PRE_VALUE c,
                                      post := s.fd F.SO_Cc_POST_VALUE c, mask := mask, waitAt := s.time.ticks,
                                      capnum := x.capnum } ∧
        overlaid s.mem.dram t.mem.dram (some (dramAt base)) (t.soHeader c 1 0) ∧
        t.mem = { s.mem with dram := t.mem.dram } ∧ (∀ d, d ≠ c → t.soCap d = s.soCap d)
    let now := x.trigTick = some s.time.ticks
    let idle := st = 0 ∨ st = 4 ∨ st = 6
    let refused (i : Instr) (code : Nat) : Prop := ∃ t, exec i s = .next t ∧ t.fd F.SO_Cc_CTL_REFUSE c = code ∧
      t.soState c = st ∧ t = { s with regs := t.regs }
    (s.grants q .SO_Cc_CMD c = true →
      (s.flag F.SO_Cc_CTL_EN c = true → idle → x.ending = none →
        (∀ mask, s.soMask c nch = some mask → ∃ t, exec (.soArm q c) s = .next t ∧ armed t mask) ∧
        (s.soMask c nch = none → refused (.soArm q c) 0x6C)) ∧
      (s.flag F.SO_Cc_CTL_EN c = false ∨ ¬ idle ∨ x.ending ≠ none → refused (.soArm q c) 0x02) ∧
      (st = 1 ∨ st = 2 ∨ st = 3 ∨ st = 5 → x.ending = none → x.trig = none ∨ ¬ now →
        exec (.soStop q c) s = .next (s.setSoCap c { x with ending := some 2 })) ∧
      (st = 3 → x.trig.isSome = true → now → ∃ t, exec (.soStop q c) s = .next t ∧
        t.soCap c = { x with trig := none, trigTick := none, trigSrc := 0, trigCt := 0, fail := none, ending := some 2 } ∧
        t.soState c = st ∧ t.mem = { s.mem with dram := t.mem.dram }) ∧
      (idle ∨ x.ending ≠ none ∧ ¬ (st = 3 ∧ now) → refused (.soStop q c) 0x02) ∧
      (st = 2 → x.ending = none → exec (.soForce q c) s = .next (s.setSoCap c { x with forced := some 4 })) ∧
      (st = 1 ∨ st = 5 → ∃ t, exec (.soForce q c) s = .next t ∧ t.flag F.SO_Cc_STAT_MISSED c = true ∧
        t.rg .SO_MISSED_TRIGc c = satInc 32 (s.rg .SO_MISSED_TRIGc c) ∧
        s.sets t [(F.SO_Cc_STAT_MISSED, c), (F.SO_MISSED_TRIGc_COUNT, c)])) ∧
    (s.domOn 22 = true → 1 ≤ st → st ≤ 3 → x.ending = none →
      let ct := (s.soNext c).1
      let seq := (s.soNext c).2
      let l := s.fd F.SO_Cc_STAT_RATE_LOG2 c
      let y : SoCap := { x with lastCt := ct, seen := seq + 1, taken := x.taken + 1, rateFlag := false }
      let a := s.advanceTo ct
      let b := a.setSoCap c y
      let vals := (a.soProbes c).map a.probeWord
      let r := s.rg .SO_Cc_WRITTEN c
      let at_ := dramAt (base + 256 + r % max 1 x.capacity * x.recSize)
      (level + x.recSize ≤ 32768 → s.flag F.SO_Cc_CTL_RATE_AUTO c = false ∨ level < 24576 →
        ∃ t bs, exec (.soSample c level) s = .next t ∧ t.rg .SO_Cc_WRITTEN c = satInc 32 r ∧ t.time = { a.time with raised := t.time.raised } ∧
          t.mem = { s.mem with dram := t.mem.dram } ∧ overlaid s.mem.dram t.mem.dram (some at_) bs ∧ bs.take 12 = (leBytes 8 ct ++ leBytes 4 seq).take x.recSize ∧
          bs.drop 16 = ((vals.map (leBytes 4)).flatten ++ List.replicate 16 0#8).take (x.recSize - 16) ∧
          (t.soCap c).prev = some vals ∧ (t.soCap c).seen = seq + 1 ∧
          (st = 1 → t.soState c = if x.pre ≤ r + 1 then 2 else 1) ∧
          (st = 2 → b.soDecide c ct vals = none → t.soState c = 2 ∧ (t.soCap c).trig = x.trig) ∧
          (∀ src tct, st = 2 → b.soDecide c ct vals = some (src, tct) → t.soState c = 3 ∧
            (t.soCap c).trig = some (r, seq) ∧ (t.soCap c).trigSrc = src ∧ (t.soCap c).trigCt = tct) ∧
          (∀ r0 s0, st = 3 → x.trig = some (r0, s0) → x.mask = [] → t.soState c = 3 ∧
            (t.soCap c).ending = if x.post ≤ r - r0 then some 0 else none)) ∧
      (32768 < level + x.recSize → s.flag F.SO_Cc_CTL_RATE_AUTO c = false →
        ∃ t, exec (.soSample c level) s = .next t ∧ t.flag F.SO_Cc_STAT_DROPPED c = true ∧
          t.fd F.SO_Cc_CNT_DROP_CNT c = satInc 8 (s.fd F.SO_Cc_CNT_DROP_CNT c) ∧
          t.soCap c = { y with drops := satInc 32 x.drops, dropFlag := true, rateFlag := x.rateFlag } ∧
          t.rg .SO_Cc_WRITTEN c = r ∧ t.mem = s.mem) ∧
      (s.flag F.SO_Cc_CTL_RATE_AUTO c = true → 24576 ≤ level → l < 8 → 64 ≤ x.sinceRed →
        ∃ t, exec (.soSample c level) s = .next t ∧ t.fd F.SO_Cc_STAT_RATE_LOG2 c = l + 1 ∧
          t.flag F.SO_Cc_STAT_RATE_RED c = true ∧ t.fd F.SO_Cc_CNT_RED_CNT c = satInc 8 (s.fd F.SO_Cc_CNT_RED_CNT c) ∧
          (x.rates.length < 8 → (t.soCap c).rates = x.rates ++ [(seq, l + 1)]))) ∧
    (∀ kind groups dt, s.domOn 22 = true → kind = 3 ∨ kind = 4 ∨ kind = 2 ∧ s.fd F.SO_GLOBAL_EXT_EDGE = 2 →
      let a := s.advance dt
      ∃ t, exec (.soTriggerEvent kind groups true dt) s = .next t ∧
        t.time = { a.time with raised := t.time.raised } ∧ t.mem = s.mem ∧
        (st = 2 → t.soCap c = { x with
          ev0 := if s.soUnit c 0 kind groups then x.ev0.or (some a.ctNs) else x.ev0,
          ev1 := if s.soUnit c 1 kind groups then x.ev1.or (some a.ctNs) else x.ev1 }) ∧
        (st = 1 ∨ st = 5 → s.soUnit c 0 kind groups = true ∨ s.soUnit c 1 kind groups = true →
          t.flag F.SO_Cc_STAT_MISSED c = true ∧ t.rg .SO_MISSED_TRIGc c = satInc 32 (s.rg .SO_MISSED_TRIGc c) ∧
          t.soCap c = x)) ∧
    (∀ e, s.domOn 22 = true → x.ending = some e → ∃ t, exec (.soCaptureEnd c) s = .next t ∧
      t.soCap c = { x with ending := none, capnum := (x.capnum + 1) % 65536, doneBcn := s.time.bcn } ∧
      t.soState c = (if e = 0 then (if s.fd F.SO_Cc_CTL_MODE c = 0 then 4 else 5) else 6) ∧
      t.fd F.SO_Cc_CNT_DONE_CNT c = satInc 8 (s.fd F.SO_Cc_CNT_DONE_CNT c) ∧
      t.fd F.SO_Cc_STAT_CODE c = (if e = 1 then 0x6E else 0) ∧
      overlaid s.mem.dram t.mem.dram (some (dramAt base)) (t.soHeader c 2 e) ∧ t.mem = { s.mem with dram := t.mem.dram }) ∧
    (s.domOn 22 = true → st = 2 → s.fd F.SO_Cc_CTL_MODE c = 2 → x.ending = none →
      exec (.soAutoTimeout c) s = .next ((s.advanceToTick (x.waitAt + msTicks (s.fd F.SO_Cc_TIME_AUTO_TO c))).setSoCap c
        { x with forced := x.forced.or (some 5) })) ∧
    (s.domOn 22 = true → st = 5 → x.ending = none → x.doneBcn + s.fd F.SO_Cc_TIME_HOLDOFF c ≤ s.time.bcn →
      (∀ mask, s.soMask c nch = some mask → ∃ t, exec (.soRearm c) s = .next t ∧ armed t mask) ∧
      (s.soMask c nch = none → ∃ t, exec (.soRearm c) s = .next t ∧ t.soState c = 0 ∧
        t.fd F.SO_Cc_CTL_REFUSE c = 0x6C ∧ t = { s with regs := t.regs })) ∧
    ∀ v : Word, s.grants q .SO_Cc_CTL c = true →
      let w := v.toNat
      let b := s.soStoreCtl c w
      (F.SO_Cc_CTL_EN.of w = 1 → s.flag F.SO_Cc_CTL_EN c = false →
        (b.soEnableFail c w = none → ∃ t, exec (.soEnable q c v) s = .next t ∧ t.flag F.SO_Cc_CTL_EN c = true ∧
          t.fd F.SO_Cc_CTL_MODE c = F.SO_Cc_CTL_MODE.of w ∧ t.fd F.SO_Cc_CTL_COMB c = F.SO_Cc_CTL_COMB.of w ∧
          t.soCap c = { x with capnum := 0 } ∧ t.soState c = st ∧ t.mem = s.mem) ∧
        ∀ code, b.soEnableFail c w = some code → ∃ t, exec (.soEnable q c v) s = .next t ∧
          t.flag F.SO_Cc_CTL_EN c = false ∧ t.fd F.SO_Cc_CTL_REFUSE c = code ∧ t.so = s.so) ∧
      (F.SO_Cc_CTL_EN.of w = 0 → s.flag F.SO_Cc_CTL_EN c = true →
        (idle → x.ending = none → ∃ t, exec (.soDisable q c v) s = .next t ∧ t.flag F.SO_Cc_CTL_EN c = false ∧
          s.sets t [(F.SO_Cc_CTL_EN, c)]) ∧
        (¬ idle ∨ x.ending ≠ none → ∃ t, exec (.soDisable q c v) s = .next t ∧ t.flag F.SO_Cc_CTL_EN c = true ∧
          t.fd F.SO_Cc_CTL_REFUSE c = 0x01 ∧ t = { s with regs := t.regs }))

/-! ## Thallus -/

/-- The commissioning mailbox (R475 to R478): OPEN with KEY_SI active, words into the staging bank, CHECK, the confirmed check
value, COMMIT, CLOSE and the 30 minutes; a step out of its state is refused. -/
def Obligations.SafetySetIsCommissioned : Prop :=
  ∀ (s : State) (q : Requester) (v : Word),
    let st := s.mbState
    let bank := s.staging * 0x100000
    let m := s.bankImg s.staging
    let emptied (t : State) : Prop := t.mem = { s.mem with safety := t.mem.safety } ∧ ∀ a, Mem.read t.mem.safety a =
      if bank ≤ a ∧ a < bank + 0x100000 then 0 else Mem.read s.mem.safety a
    let refused (i : Instr) (code : Nat) : Prop := ∃ t, exec i s = .next t ∧ t.fd F.TH_MB_CMD_REFUSE = code ∧
      t.mbState = st ∧ t.mem = s.mem ∧ t.th.active = s.th.active
    (s.grants q .TH_MB_CMD = true →
      (st = 0 → s.keyOn = true → ∃ t, exec (.mbOpen q) s = .next t ∧ t.mbState = 1 ∧ emptied t ∧
        t.th = { s.th with mbAt := s.time.ticks }) ∧
      (st = 0 → s.keyOn = false → refused (.mbOpen q) 0x06) ∧
      (st ≠ 0 → refused (.mbOpen q) 0x02) ∧
      (st = 1 → ∃ t, exec (.mbCheck q) s = .next t ∧ t.mbState = 2 ∧ t.mem = s.mem) ∧
      (st ≠ 1 → refused (.mbCheck q) 0x02) ∧
      (st = 3 → s.rg .TH_MB_CONFIRM = s.rg .TH_MB_CRC → ∃ t, exec (.mbCommit q) s = .next t ∧ t.mbState = 4 ∧
        t.mem = s.mem) ∧
      (st = 3 → s.rg .TH_MB_CONFIRM ≠ s.rg .TH_MB_CRC → refused (.mbCommit q) 0x08 ∧ ∃ t, exec (.mbCommit q) s = .next t ∧
        t.fd F.TH_MB_STAT_SIG_CNT = satInc 8 (s.fd F.TH_MB_STAT_SIG_CNT)) ∧
      (st ≠ 3 → refused (.mbCommit q) 0x02) ∧
      (st = 1 ∨ st = 3 → ∃ t, exec (.mbClose q) s = .next t ∧ t.mbState = 0 ∧ emptied t) ∧
      (st ≠ 1 → st ≠ 3 → refused (.mbClose q) 0x02)) ∧
    (s.grants q .TH_MB_DATA = true →
      (let a := s.fd F.TH_MB_ADDR_ADDR
      st = 1 ∨ st = 3 → ∃ t, exec (.mbData q v) s = .next t ∧ t.mbState = 1 ∧
        overlaid s.mem.safety t.mem.safety (some (bank + a)) (leBytes 4 v.toNat) ∧
        t.mem = { s.mem with safety := t.mem.safety } ∧ t.fd F.TH_MB_ADDR_ADDR = (a + 4) % 2 ^ 20 ∧
        (st = 3 → t.rg .TH_MB_CRC = 0)) ∧
      (st = 0 → refused (.mbData q v) 0x06) ∧
      (st = 2 ∨ st = 4 → refused (.mbData q v) 0x01)) ∧
    (st = 2 →
      (checkHeader m = none → s.keyOn = true → ∃ t, exec .mbCheckComplete s = .next t ∧ t.mbState = 3 ∧
        t.rg .TH_MB_CRC = setCheck m % 2 ^ 32 ∧ t.mem = s.mem ∧ t.th = s.th) ∧
      (∀ f, checkHeader m = some f → s.keyOn = true → ∃ t, exec .mbCheckComplete s = .next t ∧ t.mbState = 1 ∧
        t.fd F.TH_MB_ERR_CODE = f.1 % 256 ∧ t.fd F.TH_MB_ERR_SECTION = f.2.1 % 256 ∧
        t.fd F.TH_MB_ERR_ENTRY = f.2.2 % 65536 ∧ t.mem = s.mem ∧ t.th = s.th) ∧
      (s.keyOn = false → ∃ t, exec .mbCheckComplete s = .next t ∧ t.mbState = 0 ∧ emptied t)) ∧
    (st = 4 →
      (s.setFail m = none → ∃ t, exec .mbCommitComplete s = .next t ∧ t.th.active = s.staging ∧ t.th.noSet = false ∧
        t.th.stored = some (setCheck m) ∧ t.rg .TH_SET_CRC = setCheck m % 2 ^ 32 ∧ t.mbState = 0 ∧
        t.flag F.TH_STAT_NO_SET = false ∧
        t.fd F.TH_MB_STAT_COMMIT_CNT = satInc 8 (s.fd F.TH_MB_STAT_COMMIT_CNT) ∧ t.mem = s.mem ∧
        ∀ n, n < 32 → t.fd F.FB_CFGn_THAL n = b2n ((xUsed m).any (fun e => xCh m e = n))) ∧
      ∀ f, s.setFail m = some f → s.keyOn = true → ∃ t, exec .mbCommitComplete s = .next t ∧ t.mbState = 3 ∧
        t.fd F.TH_MB_CMD_REFUSE = f.1 % 256 ∧ t.fd F.TH_MB_ERR_CODE = f.1 % 256 ∧ t.th = s.th ∧ t.mem = s.mem) ∧
    (st = 1 ∨ st = 3 → ∃ t, exec .mbTimeout s = .next t ∧ t.mbState = 0 ∧ emptied t ∧
      t.time = (s.advanceToTick (s.th.mbAt + secTicks 1800)).time)

/-- Safety cycles (R403 to R407, R424, R433 to R439, R443 to R445, R456 to R458, R460, R461, R464, R468 to R471): the freeze
starts an evaluation and moves between RUN and DEGRADED; its end or overrun sets the demands; reports, the command frame,
decode and class A faults, staling and the record of degraded run. -/
def Obligations.SafetyCyclesRun : Prop :=
  ∀ (s : State) (dt : Nat),
    let k := s.time.bcn / 4
    let t0 := s.time.bcStart
    let a := s.advanceTo (t0 + guardStart s.time.base)
    (s.time.noBase = false → s.time.bcn % 4 = 0 → s.thMode ≠ 3 → s.th.frozenK ≠ some k → s.th.eval = none →
      (s.setImg = none → ∃ t, exec .thallusEvaluation s = .next t ∧ t.flag F.TH_STAT_NO_SET = true ∧ t.time = a.time ∧
        t.mem = s.mem ∧ (s.th.faults = [] → s.thMode ≠ 2 →
          t.th = { s.th with frozenK := some k, staled := false } ∧ t.thMode = 1) ∧
        (s.th.faults ≠ [] → s.thMode ≤ 1 → t.thMode = 2 ∧ t.th.staleEnd = a.time.ticks + secTicks (60 * 480))) ∧
      ∀ m, s.setImg = some m →
        let c := ({ a with th := { a.th with frozenK := some k } } : State).takeSet m
        (c.crcDue = true → setCheck m ≠ s.rg .TH_SET_CRC → ∃ t, exec .thallusEvaluation s = .next t ∧ t.thMode = 3 ∧
          t.fd F.TH_STAT_DIAG = 0x06 ∧ ∀ j, j < 20 → t.flag F.TH_SOj_STAT_ON j = false) ∧
        (c.crcDue = false ∨ setCheck m = s.rg .TH_SET_CRC →
          let d : State := if c.crcDue then { c with th := { c.th with crcAt := c.time.ticks } } else c
          let b := d.degradeStep (gStaleMin m)
          let gone := b.unplaced m (4 * k)
          let seen := b.tracked m t0
          let links := ((groupsOn m).filter (fun g => !gone.contains g)).flatMap (b.linkWords m (4 * k))
          ∃ t, exec .thallusEvaluation s = .next t ∧
            t.th.eval = some
              { k := k, at_ := a.ctNs, due := t0 + 4 * s.lenNs - 4000, lenNs := s.lenNs, deg := decide (b.th.faults ≠ []),
                causes := b.frozenCauses m (4 * k) t0, excluded := gone,
                persons := seen.map (fun p => (p.1, p.2.1, fieldAt p.2.2 0 1)),
                inputs := codeInputs k (links ++ seen.flatMap (fun p => recordWords (fieldAt p.2.2 0 1) p.2.2)),
                aged := (b.frozenCauses m (4 * k) t0).any (fun c => c.code = 0x5D), resets := s.th.resets } ∧
            t.thMode = (if b.th.faults = [] then 1 else 2) ∧ t.th.frozenK = some k ∧ t.th.resets = 0 ∧ t.th.work = m ∧
            t.time = a.time ∧ t.mem = s.mem)) ∧
    (∀ x g, s.th.eval = some x → g < 16 → s.thMode ≠ 3 → (s.thGroup g).latch ≤ 4 → (∀ c ∈ x.causes, c.demand ≤ 4) →
      let m := s.th.work
      let y := s.advance dt
      let mine := x.causes.filter (fun c => c.group = g)
      (y.ctNs ≤ x.due → x.codesHold = false → ∃ t, exec (.evaluationComplete dt) s = .next t ∧ t.thMode = 3 ∧
        t.fd F.TH_STAT_DIAG = 1 ∧ t.th.eval = none ∧ ∀ j, j < 20 → t.flag F.TH_SOj_STAT_ON j = false) ∧
      (∀ sc, y.ctNs ≤ x.due → x.codesHold = true → x.scene m = some sc →
        ∃ t, exec (.evaluationComplete dt) s = .next t ∧ t.th.eval = none ∧ t.th.doneK = some x.k ∧
          t.fd F.TH_SSM_STAT_CYCLE = x.k % 2 ^ 16 ∧
          (mResToken m = 0xFFFF → t.time = { y.time with raised := t.time.raised }) ∧
          (∀ b, aOn m g = true → x.excluded.contains g = false → sc.arm g = some b → (groupSpeeds m b g).vmon < 2 ^ 31 →
            t.rg .TH_AGn_VMON g = (groupSpeeds m b g).vmon) ∧
          (aOn m g = false → t.rg .TH_AGn_SSM g = 0) ∧
          (aOn m g = true → (∀ c ∈ mine, c.demand ≤ t.fd F.TH_AGn_SSM_DEMAND g) ∧
            (mine ≠ [] → (∀ c ∈ mine, 0 < c.demand) → t.flag F.TH_AGn_SSM_LATCHED g = true) ∧
            (mine = [] → x.pairs m = [] → x.deg = false → (s.thGroup g).latch = 0 →
              t.fd F.TH_AGn_SSM_DEMAND g ≤ 1 ∧ t.flag F.TH_AGn_SSM_LATCHED g = false))) ∧
      (∃ t, exec .evaluationOverrun s = .next t ∧ t.th.eval = none ∧
        t.time = { (s.advanceTo x.due).time with raised := t.time.raised } ∧
        t.fd F.TH_SSM_STAT_OVR_CNT = satInc 8 (s.fd F.TH_SSM_STAT_OVR_CNT) ∧
        (aOn m g = true → t.flag F.TH_AGn_SSM_LATCHED g = true ∧ atLeastStop1 m g ≤ t.fd F.TH_AGn_SSM_DEMAND g ∧
          (mine = [] → t.fd F.TH_AGn_SSM_CAUSE g = 0x5F ∧
            t.fd F.TH_AGn_SSM_DEMAND g = max (s.thGroup g).latch (atLeastStop1 m g))))) ∧
    (∀ m p stamp ok bs, s.workImg = some m → p < 8 → s.portOn p = true →
      let b := s.toStamp stamp
      let n := klField bs 2 2
      let body := (bs.drop 26).take (klField bs 10 2)
      let count (k : Nat) : Prop := ∃ t, exec (.safeReportReceive p stamp ok bs) s = .next t ∧
        t.rg .KL_PORTn_CNTk p k = satInc 32 (s.rg .KL_PORTn_CNTk p k) ∧ t.th = s.th
      (∀ k, b.grantReject p 5 stamp ok bs = some k → count k) ∧
      (b.grantReject p 5 stamp ok bs = none →
        (safeIdOf m 1 n = none → count 4) ∧
        ∀ id, safeIdOf m 1 n = some id →
          (reportOk id body = false → ∃ t, exec (.safeReportReceive p stamp ok bs) s = .next t ∧
            t.rg .TH_SENS_CNT = satInc 32 (s.rg .TH_SENS_CNT) ∧ b.sets t [(F.TH_SENS_CNT_COUNT, 0)]) ∧
          ∀ e, reportOk id body = true → fieldAt body 5 1 = 1 →
            ((List.range (fieldAt body 7 1)).zip (partRecords body)).all
              (fun r => fieldAt r.2 0 1 = fieldAt body 6 1 + r.1) = true →
            (sensorsOn m).find? (fun e => sNode m e = n) = some e →
            coversOnce (sFirst m e) (sCount m e) (partRecords body) = true →
            ∃ t, exec (.safeReportReceive p stamp ok bs) s = .next t ∧
              (Tab.get (fun _ => thSensorReset) t.th.sensors n).report = partRecords body ∧
              (∀ h, h ≠ n → Tab.get (fun _ => thSensorReset) t.th.sensors h =
                Tab.get (fun _ => thSensorReset) s.th.sensors h) ∧
              t = { b with th := { s.th with sensors := t.th.sensors } })) ∧
    (s.thMode ≠ 3 → s.time.noBase = false → s.isStandby = false →
      (s.th.sentBcn = some s.time.bcn → exec .safeCommandSend s = .next s) ∧
      (s.th.sentBcn ≠ some s.time.bcn →
        let b := s.advanceTo s.eventOpen
        let d := b.commandBytes
        let crc := crc32c (leBytes 4 (match s.workImg with | some m => gSafeId m | none => 0) ++ leBytes 4 s.time.bcn ++ d)
        let sent := ((List.range 8).filter s.portOn).map (fun p =>
          ({ port := p, stamp := b.stampOf p (max b.eventOpen b.ctNs * 1280),
             bytes := s.klEthernet p ++ (b.klHeader 0x5 (decide (s.netOf p ≠ p)) 0 140 ++ d ++ leBytes 4 crc) } : KlFrame))
        ∃ t, exec .safeCommandSend s = .next t ∧
          t = { b with th := { b.th with sentBcn := some s.time.bcn },
                       kl := { b.kl with out := s.kl.out ++ sent, busy := t.kl.busy } })) ∧
    (∀ m e ch, s.setImg = some m → (xUsed m).find? (fun e => xCh m e = ch) = some e → ch < 256 →
      ∃ t, exec (.thallusDecodeFault ch) s = .next t ∧ ch ∈ t.th.dirty ∧ t.fd F.TH_FAULT_CAUSE = 0x64 ∧
        t.fd F.TH_FAULT_ITEM = 0x13 ∧ t.fd F.TH_FAULT_UNIT = ch ∧ t.mem = s.mem ∧
        (xRole m e = 1 → t.fd F.TH_FAULT_CLASS = 2 ∧ ∃ f ∈ t.th.faults, f.item = 0x13 ∧ f.unit = ch ∧ 16 ≤ f.need) ∧
        (xRole m e ≠ 1 → t.fd F.TH_FAULT_CLASS = 3 ∧ t.th.faults = s.th.faults)) ∧
    (∀ item, 1 ≤ item → item ≤ 7 → s.thMode ≠ 3 → ∃ t, exec (.classAFault item) s = .next t ∧ t.thMode = 3 ∧
      t.fd F.TH_STAT_DIAG = item ∧ (∀ j, j < 20 → t.flag F.TH_SOj_STAT_ON j = false) ∧ t.th.eval = none ∧
      t.fd F.TH_FAULT_CAUSE = 0x67 ∧ t.fd F.TH_FAULT_CLASS = 1 ∧ t.fd F.TH_FAULT_ITEM = item ∧ t.mem = s.mem) ∧
    (s.thMode = 2 → ∃ t, exec .staled s = .next t ∧ t.th = { s.th with expired := true, staled := true } ∧
      t.time = (s.advanceToTick s.th.staleEnd).time ∧ t.fd F.TH_DEG_REMAIN = 0 ∧ t.thMode = 2) ∧
    (s.thMode ≠ 2 → exec .degradedRecordWrite s = .next s) ∧
    (s.thMode = 2 →
      let b := s.advanceToTick (s.th.recAt + secTicks 60)
      let kept := s.th.faults.map (fun f => (f.item, f.unit))
      ∃ t, exec .degradedRecordWrite s = .next t ∧ t = { b with regs := t.regs, th := t.th } ∧
        t.fd F.TH_DEG_FAULTS = min 255 s.th.faults.length ∧
        t.th = { s.th with record := some (s.th.staleEnd - b.time.ticks, kept), recAt := b.time.ticks })

/-- Safe inputs and output pairs (R446 to R454): an input's change, a reset button, a lasting discrepancy, test and dark
pulses; at the end of a safety cycle each pair is on, delayed or off by the demand of its arm groups. -/
def Obligations.SafeInputsAndOutputs : Prop :=
  ∀ (s : State) (i j hold dt : Nat) (level : Bool), i < 32 → j < 20 → s.th.vsioLow = false →
    let a := s.advance dt
    let fault (t : State) (cause cls item unit : Nat) : Prop := t.fd F.TH_FAULT_CAUSE = cause ∧
      t.fd F.TH_FAULT_CLASS = cls ∧ t.fd F.TH_FAULT_ITEM = item ∧ t.fd F.TH_FAULT_UNIT = unit
    (bit (s.rg .TH_SI) i ≠ level →
      (hold < s.filterTicks i → exec (.safeInputChange i level hold dt) s = .next a) ∧
      (s.filterTicks i ≤ hold → ∃ t, exec (.safeInputChange i level hold dt) s = .next t ∧
        t.rg .TH_SI = s.rg .TH_SI ^^^ 2 ^ i ∧ t.time = a.time ∧
        ∀ m, s.workImg = some m →
          (level = true → t.th.resets = s.th.resets ∧ (i, a.time.ticks) ∈ t.th.rise) ∧
          (∀ t1, level = false → s.th.rise.find? (fun e => e.1 = i) = some (i, t1) → iFunc m i = 2 →
            msTicks 200 ≤ a.time.ticks - t1 → a.time.ticks - t1 ≤ msTicks 3000 →
            t.th.resets = s.th.resets ||| iGroups m i))) ∧
    (∀ m t1, s.workImg = some m → s.th.disc.find? (fun e => e.1 = i) = some (i, t1) → iHeads m i = true →
      ∃ t, exec (.discrepancyTimeout i) s = .next t ∧ t.rg .TH_SIFLT = s.rg .TH_SIFLT ||| 2 ^ i ∧ fault t 0x63 3 0x11 i ∧
        t.time = (s.advanceToTick (t1 + msTicks (10 * iDisc m i) + 1)).time ∧ t.mem = s.mem) ∧
    (∀ m k lows, s.workImg = some m → k ≤ 3 → iUsed m i = true → iTp m i = k →
      (bit lows i = false → ∃ t, exec (.testPulse k lows true true dt) s = .next t ∧
        (t.rg .TH_SIFLT).testBit i = true ∧ t.fd F.TH_FAULT_CAUSE = 0x63 ∧
        t.time = (s.advanceToTick (s.pulseStart m k dt + 500 * tWidth m k)).time) ∧
      (∃ t, exec (.testPulse k lows false true dt) s = .next t ∧ fault t 0x63 2 0x12 k ∧ k ∈ t.th.tpHigh ∧
        ∃ f ∈ t.th.faults, f.item = 0x12 ∧ f.unit = k ∧ 1 ≤ f.need)) ∧
    (∀ m, s.workImg = some m →
      let start := s.darkStart m j dt
      let stop := start + 5000 * oDark m j
      let w := s.advanceToTick start
      s.th.darkNow = none → s.th.delay.find? (fun e => e.1 = j) = none → s.time.noBase = true ∨ stop ≤ start + w.cycleLeft →
      s.flag F.TH_SOj_STAT_ON j = true → s.flag F.TH_SOj_STAT_HS_STUCK j = false → s.flag F.TH_SOj_STAT_LS_STUCK j = false →
      (j ∉ s.th.darkLow → ∃ t, exec (.darkPulse j false dt) s = .next t ∧ t.flag F.TH_SOj_STAT_HS_STUCK j = true ∧
        t.flag F.TH_SOj_STAT_LS_STUCK j = false ∧
        t.fd F.TH_SOj_STAT_FLT_CNT j = satInc 8 (s.fd F.TH_SOj_STAT_FLT_CNT j) ∧ fault t 0x65 2 0x10 j ∧
        j ∈ t.th.darkLow ∧ ∃ f ∈ t.th.faults, f.item = 0x10 ∧ f.unit = j ∧ 1 ≤ f.need) ∧
      (j ∈ s.th.darkLow → ∃ t, exec (.darkPulse j false dt) s = .next t ∧ t.flag F.TH_SOj_STAT_LS_STUCK j = true ∧
        t.flag F.TH_SOj_STAT_HS_STUCK j = false ∧ fault t 0x65 2 0x10 j ∧ j ∉ t.th.darkLow) ∧
      ∃ t, exec (.darkPulse j true dt) s = .next t ∧ t.flag F.TH_SOj_STAT_HS_STUCK j = false ∧
        t.flag F.TH_SOj_STAT_LS_STUCK j = false ∧ t.flag F.TH_SOj_STAT_ON j = true ∧
        (j ∈ t.th.darkLow ↔ j ∉ s.th.darkLow) ∧ t.th.darkEnd = stop ∧ t.time = (w.advanceToTick stop).time) ∧
    (∀ hs ls oc k, s.th.frozenK = some k → s.th.endK ≠ some k → s.thMode ≠ 3 → s.time.bcn = 4 * k + 3 → s.th.eval = none → s.th.darkNow = none →
      (∀ l, l < 20 → bit hs l = s.flag F.TH_SOj_STAT_ON l ∧ bit ls l = s.flag F.TH_SOj_STAT_ON l ∧ bit oc l = false) →
      let b := s.advanceTo (s.time.bcStart + s.lenNs)
      let w := s.th.work
      let d := s.pairDemand w j
      let may := oGroups w j ≠ 0 ∧ (s.thMode = 1 ∨ s.thMode = 2) ∧ s.isStandby = false
      ∃ t, exec (.safetyCycleEnd hs ls oc) s = .next t ∧ t.th.endK = some k ∧ t.time = b.time ∧
        t.flag F.TH_SOj_STAT_OVERCURRENT j = false ∧
        (s.workImg = none → t.flag F.TH_SOj_STAT_ON j = false) ∧
        ∀ m, s.workImg = some m →
          (may → d < oOffAt w j → t.flag F.TH_SOj_STAT_ON j = true ∧ t.flag F.TH_SOj_STAT_DELAYING j = false) ∧
          (may → oOffAt w j ≤ d → d ≠ 3 ∨ oDelay w j = 0 → t.flag F.TH_SOj_STAT_ON j = false) ∧
          (¬ may → t.flag F.TH_SOj_STAT_ON j = false) ∧
          (may → oOffAt w j ≤ 3 → d = 3 → 0 < oDelay w j → s.flag F.TH_SOj_STAT_ON j = true →
            s.flag F.TH_SOj_STAT_DELAYING j = false → t.flag F.TH_SOj_STAT_ON j = true ∧
            t.flag F.TH_SOj_STAT_DELAYING j = true ∧ (j, b.time.ticks + msTicks (oDelay w j)) ∈ t.th.delay)) ∧
    ∀ tick, s.th.delay.find? (fun e => e.1 = j) = some (j, tick) → ∃ t, exec (.outputDelayExpiry j) s = .next t ∧
      t.flag F.TH_SOj_STAT_ON j = false ∧ t.flag F.TH_SOj_STAT_DELAYING j = false ∧
      t.time = (s.advanceToTick tick).time ∧ t.th = { s.th with delay := s.th.delay.filter (fun e => e.1 ≠ j) }
end

