-- ==== Sys2Proof/Laws/Access.lean ====
section
/-!
SUPPORT. What a register write comes to: let through, or turned away.
-/

namespace Sys2Proof.Machine

/-- A write that is let through is the register's own write. -/
theorem State.write_of_grants {s : State} {q : Requester} {r : Reg} {i j : Nat} (act : State → State)
    (h : s.grants q r i j = true) : s.write q r i j act = .next (act s) := by
  simp only [State.grants, Bool.and_eq_true, Bool.not_eq_true', Bool.and_eq_false_iff, decide_eq_true_eq,
    decide_eq_false_iff_not, Bool.not_eq_false'] at h
  obtain ⟨⟨⟨⟨⟨h1, h2⟩, h3⟩, h4⟩, h5⟩, h6⟩ := h
  unfold State.write State.guardWrite
  rw [if_neg (by simp [h1]), if_neg (by rintro ⟨ha, hb, hc⟩; rcases h2 with (h2 | h2) | h2 <;> simp_all),
    if_neg (by rintro ⟨ha, hb⟩; rcases h3 with h3 | h3 <;> simp_all), if_neg (by simp [h4, h5]), if_neg (by simp [h6])]

end Sys2Proof.Machine
end

