-- ==== Sys2Proof/Laws/State.lean ====
section
/-!
SUPPORT. What the plain updates of the state leave alone: one lemma per field and update.
-/

namespace Sys2Proof.Machine

@[simp] theorem State.setRg_pending (s : State) (r : Reg) (i : Nat) (j : Nat) (v : Nat) : (s.setRg r i j v).pending = s.pending := by cases s; rfl
@[simp] theorem State.setRg_time (s : State) (r : Reg) (i : Nat) (j : Nat) (v : Nat) : (s.setRg r i j v).time = s.time := by cases s; rfl
@[simp] theorem State.setRg_cal (s : State) (r : Reg) (i : Nat) (j : Nat) (v : Nat) : (s.setRg r i j v).cal = s.cal := by cases s; rfl
@[simp] theorem State.setRg_cell (s : State) (r : Reg) (i : Nat) (j : Nat) (v : Nat) : (s.setRg r i j v).cell = s.cell := by cases s; rfl
@[simp] theorem State.setRg_lv (s : State) (r : Reg) (i : Nat) (j : Nat) (v : Nat) : (s.setRg r i j v).lv = s.lv := by cases s; rfl
@[simp] theorem State.setRg_cores (s : State) (r : Reg) (i : Nat) (j : Nat) (v : Nat) : (s.setRg r i j v).cores = s.cores := by cases s; rfl
@[simp] theorem State.setRg_pw (s : State) (r : Reg) (i : Nat) (j : Nat) (v : Nat) : (s.setRg r i j v).pw = s.pw := by cases s; rfl
@[simp] theorem State.setRg_sv (s : State) (r : Reg) (i : Nat) (j : Nat) (v : Nat) : (s.setRg r i j v).sv = s.sv := by cases s; rfl
@[simp] theorem State.setRg_jnl (s : State) (r : Reg) (i : Nat) (j : Nat) (v : Nat) : (s.setRg r i j v).jnl = s.jnl := by cases s; rfl
@[simp] theorem State.setRg_ch (s : State) (r : Reg) (i : Nat) (j : Nat) (v : Nat) : (s.setRg r i j v).ch = s.ch := by cases s; rfl
@[simp] theorem State.setRg_hs (s : State) (r : Reg) (i : Nat) (j : Nat) (v : Nat) : (s.setRg r i j v).hs = s.hs := by cases s; rfl
@[simp] theorem State.setRg_lc (s : State) (r : Reg) (i : Nat) (j : Nat) (v : Nat) : (s.setRg r i j v).lc = s.lc := by cases s; rfl
@[simp] theorem State.setRg_kl (s : State) (r : Reg) (i : Nat) (j : Nat) (v : Nat) : (s.setRg r i j v).kl = s.kl := by cases s; rfl
@[simp] theorem State.setRg_th (s : State) (r : Reg) (i : Nat) (j : Nat) (v : Nat) : (s.setRg r i j v).th = s.th := by cases s; rfl
@[simp] theorem State.setRg_ax (s : State) (r : Reg) (i : Nat) (j : Nat) (v : Nat) : (s.setRg r i j v).ax = s.ax := by cases s; rfl
@[simp] theorem State.setRg_so (s : State) (r : Reg) (i : Nat) (j : Nat) (v : Nat) : (s.setRg r i j v).so = s.so := by cases s; rfl
@[simp] theorem State.setRg_fb (s : State) (r : Reg) (i : Nat) (j : Nat) (v : Nat) : (s.setRg r i j v).fb = s.fb := by cases s; rfl
@[simp] theorem State.setRg_kn (s : State) (r : Reg) (i : Nat) (j : Nat) (v : Nat) : (s.setRg r i j v).kn = s.kn := by cases s; rfl
@[simp] theorem State.setRg_mem (s : State) (r : Reg) (i : Nat) (j : Nat) (v : Nat) : (s.setRg r i j v).mem = s.mem := by cases s; rfl
@[simp] theorem State.setRg_held (s : State) (r : Reg) (i : Nat) (j : Nat) (v : Nat) : (s.setRg r i j v).held = s.held := by cases s; rfl
@[simp] theorem State.setRg_extRef (s : State) (r : Reg) (i : Nat) (j : Nat) (v : Nat) : (s.setRg r i j v).extRef = s.extRef := by cases s; rfl
@[simp] theorem State.setRg_holds (s : State) (r : Reg) (i : Nat) (j : Nat) (v : Nat) : (s.setRg r i j v).holds = s.holds := by cases s; rfl
@[simp] theorem State.setRg_latches (s : State) (r : Reg) (i : Nat) (j : Nat) (v : Nat) : (s.setRg r i j v).latches = s.latches := by cases s; rfl
@[simp] theorem State.setRg_freeCount (s : State) (r : Reg) (i : Nat) (j : Nat) (v : Nat) : (s.setRg r i j v).freeCount = s.freeCount := by cases s; rfl

@[simp] theorem State.resetRegs_pending (s : State) (drop : Nat → Bool) : (s.resetRegs drop).pending = s.pending := by cases s; rfl
@[simp] theorem State.resetRegs_time (s : State) (drop : Nat → Bool) : (s.resetRegs drop).time = s.time := by cases s; rfl
@[simp] theorem State.resetRegs_cal (s : State) (drop : Nat → Bool) : (s.resetRegs drop).cal = s.cal := by cases s; rfl
@[simp] theorem State.resetRegs_cell (s : State) (drop : Nat → Bool) : (s.resetRegs drop).cell = s.cell := by cases s; rfl
@[simp] theorem State.resetRegs_lv (s : State) (drop : Nat → Bool) : (s.resetRegs drop).lv = s.lv := by cases s; rfl
@[simp] theorem State.resetRegs_cores (s : State) (drop : Nat → Bool) : (s.resetRegs drop).cores = s.cores := by cases s; rfl
@[simp] theorem State.resetRegs_pw (s : State) (drop : Nat → Bool) : (s.resetRegs drop).pw = s.pw := by cases s; rfl
@[simp] theorem State.resetRegs_sv (s : State) (drop : Nat → Bool) : (s.resetRegs drop).sv = s.sv := by cases s; rfl
@[simp] theorem State.resetRegs_jnl (s : State) (drop : Nat → Bool) : (s.resetRegs drop).jnl = s.jnl := by cases s; rfl
@[simp] theorem State.resetRegs_ch (s : State) (drop : Nat → Bool) : (s.resetRegs drop).ch = s.ch := by cases s; rfl
@[simp] theorem State.resetRegs_hs (s : State) (drop : Nat → Bool) : (s.resetRegs drop).hs = s.hs := by cases s; rfl
@[simp] theorem State.resetRegs_lc (s : State) (drop : Nat → Bool) : (s.resetRegs drop).lc = s.lc := by cases s; rfl
@[simp] theorem State.resetRegs_kl (s : State) (drop : Nat → Bool) : (s.resetRegs drop).kl = s.kl := by cases s; rfl
@[simp] theorem State.resetRegs_th (s : State) (drop : Nat → Bool) : (s.resetRegs drop).th = s.th := by cases s; rfl
@[simp] theorem State.resetRegs_ax (s : State) (drop : Nat → Bool) : (s.resetRegs drop).ax = s.ax := by cases s; rfl
@[simp] theorem State.resetRegs_so (s : State) (drop : Nat → Bool) : (s.resetRegs drop).so = s.so := by cases s; rfl
@[simp] theorem State.resetRegs_fb (s : State) (drop : Nat → Bool) : (s.resetRegs drop).fb = s.fb := by cases s; rfl
@[simp] theorem State.resetRegs_kn (s : State) (drop : Nat → Bool) : (s.resetRegs drop).kn = s.kn := by cases s; rfl
@[simp] theorem State.resetRegs_mem (s : State) (drop : Nat → Bool) : (s.resetRegs drop).mem = s.mem := by cases s; rfl
@[simp] theorem State.resetRegs_held (s : State) (drop : Nat → Bool) : (s.resetRegs drop).held = s.held := by cases s; rfl
@[simp] theorem State.resetRegs_extRef (s : State) (drop : Nat → Bool) : (s.resetRegs drop).extRef = s.extRef := by cases s; rfl
@[simp] theorem State.resetRegs_holds (s : State) (drop : Nat → Bool) : (s.resetRegs drop).holds = s.holds := by cases s; rfl
@[simp] theorem State.resetRegs_latches (s : State) (drop : Nat → Bool) : (s.resetRegs drop).latches = s.latches := by cases s; rfl
@[simp] theorem State.resetRegs_freeCount (s : State) (drop : Nat → Bool) : (s.resetRegs drop).freeCount = s.freeCount := by cases s; rfl

@[simp] theorem State.setFd_pending (s : State) (f : Field) (i : Nat) (j : Nat) (v : Nat) : (s.setFd f i j v).pending = s.pending := by cases s; rfl
@[simp] theorem State.setFd_time (s : State) (f : Field) (i : Nat) (j : Nat) (v : Nat) : (s.setFd f i j v).time = s.time := by cases s; rfl
@[simp] theorem State.setFd_cal (s : State) (f : Field) (i : Nat) (j : Nat) (v : Nat) : (s.setFd f i j v).cal = s.cal := by cases s; rfl
@[simp] theorem State.setFd_cell (s : State) (f : Field) (i : Nat) (j : Nat) (v : Nat) : (s.setFd f i j v).cell = s.cell := by cases s; rfl
@[simp] theorem State.setFd_lv (s : State) (f : Field) (i : Nat) (j : Nat) (v : Nat) : (s.setFd f i j v).lv = s.lv := by cases s; rfl
@[simp] theorem State.setFd_cores (s : State) (f : Field) (i : Nat) (j : Nat) (v : Nat) : (s.setFd f i j v).cores = s.cores := by cases s; rfl
@[simp] theorem State.setFd_pw (s : State) (f : Field) (i : Nat) (j : Nat) (v : Nat) : (s.setFd f i j v).pw = s.pw := by cases s; rfl
@[simp] theorem State.setFd_sv (s : State) (f : Field) (i : Nat) (j : Nat) (v : Nat) : (s.setFd f i j v).sv = s.sv := by cases s; rfl
@[simp] theorem State.setFd_jnl (s : State) (f : Field) (i : Nat) (j : Nat) (v : Nat) : (s.setFd f i j v).jnl = s.jnl := by cases s; rfl
@[simp] theorem State.setFd_ch (s : State) (f : Field) (i : Nat) (j : Nat) (v : Nat) : (s.setFd f i j v).ch = s.ch := by cases s; rfl
@[simp] theorem State.setFd_hs (s : State) (f : Field) (i : Nat) (j : Nat) (v : Nat) : (s.setFd f i j v).hs = s.hs := by cases s; rfl
@[simp] theorem State.setFd_lc (s : State) (f : Field) (i : Nat) (j : Nat) (v : Nat) : (s.setFd f i j v).lc = s.lc := by cases s; rfl
@[simp] theorem State.setFd_kl (s : State) (f : Field) (i : Nat) (j : Nat) (v : Nat) : (s.setFd f i j v).kl = s.kl := by cases s; rfl
@[simp] theorem State.setFd_th (s : State) (f : Field) (i : Nat) (j : Nat) (v : Nat) : (s.setFd f i j v).th = s.th := by cases s; rfl
@[simp] theorem State.setFd_ax (s : State) (f : Field) (i : Nat) (j : Nat) (v : Nat) : (s.setFd f i j v).ax = s.ax := by cases s; rfl
@[simp] theorem State.setFd_so (s : State) (f : Field) (i : Nat) (j : Nat) (v : Nat) : (s.setFd f i j v).so = s.so := by cases s; rfl
@[simp] theorem State.setFd_fb (s : State) (f : Field) (i : Nat) (j : Nat) (v : Nat) : (s.setFd f i j v).fb = s.fb := by cases s; rfl
@[simp] theorem State.setFd_kn (s : State) (f : Field) (i : Nat) (j : Nat) (v : Nat) : (s.setFd f i j v).kn = s.kn := by cases s; rfl
@[simp] theorem State.setFd_mem (s : State) (f : Field) (i : Nat) (j : Nat) (v : Nat) : (s.setFd f i j v).mem = s.mem := by cases s; rfl
@[simp] theorem State.setFd_held (s : State) (f : Field) (i : Nat) (j : Nat) (v : Nat) : (s.setFd f i j v).held = s.held := by cases s; rfl
@[simp] theorem State.setFd_extRef (s : State) (f : Field) (i : Nat) (j : Nat) (v : Nat) : (s.setFd f i j v).extRef = s.extRef := by cases s; rfl
@[simp] theorem State.setFd_holds (s : State) (f : Field) (i : Nat) (j : Nat) (v : Nat) : (s.setFd f i j v).holds = s.holds := by cases s; rfl
@[simp] theorem State.setFd_latches (s : State) (f : Field) (i : Nat) (j : Nat) (v : Nat) : (s.setFd f i j v).latches = s.latches := by cases s; rfl
@[simp] theorem State.setFd_freeCount (s : State) (f : Field) (i : Nat) (j : Nat) (v : Nat) : (s.setFd f i j v).freeCount = s.freeCount := by cases s; rfl

@[simp] theorem State.incFd_pending (s : State) (f : Field) (i : Nat) (j : Nat) : (s.incFd f i j).pending = s.pending := by cases s; rfl
@[simp] theorem State.incFd_time (s : State) (f : Field) (i : Nat) (j : Nat) : (s.incFd f i j).time = s.time := by cases s; rfl
@[simp] theorem State.incFd_cal (s : State) (f : Field) (i : Nat) (j : Nat) : (s.incFd f i j).cal = s.cal := by cases s; rfl
@[simp] theorem State.incFd_cell (s : State) (f : Field) (i : Nat) (j : Nat) : (s.incFd f i j).cell = s.cell := by cases s; rfl
@[simp] theorem State.incFd_lv (s : State) (f : Field) (i : Nat) (j : Nat) : (s.incFd f i j).lv = s.lv := by cases s; rfl
@[simp] theorem State.incFd_cores (s : State) (f : Field) (i : Nat) (j : Nat) : (s.incFd f i j).cores = s.cores := by cases s; rfl
@[simp] theorem State.incFd_pw (s : State) (f : Field) (i : Nat) (j : Nat) : (s.incFd f i j).pw = s.pw := by cases s; rfl
@[simp] theorem State.incFd_sv (s : State) (f : Field) (i : Nat) (j : Nat) : (s.incFd f i j).sv = s.sv := by cases s; rfl
@[simp] theorem State.incFd_jnl (s : State) (f : Field) (i : Nat) (j : Nat) : (s.incFd f i j).jnl = s.jnl := by cases s; rfl
@[simp] theorem State.incFd_ch (s : State) (f : Field) (i : Nat) (j : Nat) : (s.incFd f i j).ch = s.ch := by cases s; rfl
@[simp] theorem State.incFd_hs (s : State) (f : Field) (i : Nat) (j : Nat) : (s.incFd f i j).hs = s.hs := by cases s; rfl
@[simp] theorem State.incFd_lc (s : State) (f : Field) (i : Nat) (j : Nat) : (s.incFd f i j).lc = s.lc := by cases s; rfl
@[simp] theorem State.incFd_kl (s : State) (f : Field) (i : Nat) (j : Nat) : (s.incFd f i j).kl = s.kl := by cases s; rfl
@[simp] theorem State.incFd_th (s : State) (f : Field) (i : Nat) (j : Nat) : (s.incFd f i j).th = s.th := by cases s; rfl
@[simp] theorem State.incFd_ax (s : State) (f : Field) (i : Nat) (j : Nat) : (s.incFd f i j).ax = s.ax := by cases s; rfl
@[simp] theorem State.incFd_so (s : State) (f : Field) (i : Nat) (j : Nat) : (s.incFd f i j).so = s.so := by cases s; rfl
@[simp] theorem State.incFd_fb (s : State) (f : Field) (i : Nat) (j : Nat) : (s.incFd f i j).fb = s.fb := by cases s; rfl
@[simp] theorem State.incFd_kn (s : State) (f : Field) (i : Nat) (j : Nat) : (s.incFd f i j).kn = s.kn := by cases s; rfl
@[simp] theorem State.incFd_mem (s : State) (f : Field) (i : Nat) (j : Nat) : (s.incFd f i j).mem = s.mem := by cases s; rfl
@[simp] theorem State.incFd_held (s : State) (f : Field) (i : Nat) (j : Nat) : (s.incFd f i j).held = s.held := by cases s; rfl
@[simp] theorem State.incFd_extRef (s : State) (f : Field) (i : Nat) (j : Nat) : (s.incFd f i j).extRef = s.extRef := by cases s; rfl
@[simp] theorem State.incFd_holds (s : State) (f : Field) (i : Nat) (j : Nat) : (s.incFd f i j).holds = s.holds := by cases s; rfl
@[simp] theorem State.incFd_latches (s : State) (f : Field) (i : Nat) (j : Nat) : (s.incFd f i j).latches = s.latches := by cases s; rfl
@[simp] theorem State.incFd_freeCount (s : State) (f : Field) (i : Nat) (j : Nat) : (s.incFd f i j).freeCount = s.freeCount := by cases s; rfl

@[simp] theorem State.noteRaise_pending (s : State) (off : Nat) (b : Nat) : (s.noteRaise off b).pending = s.pending := by cases s; rfl
@[simp] theorem State.noteRaise_regs (s : State) (off : Nat) (b : Nat) : (s.noteRaise off b).regs = s.regs := by cases s; rfl
@[simp] theorem State.noteRaise_cal (s : State) (off : Nat) (b : Nat) : (s.noteRaise off b).cal = s.cal := by cases s; rfl
@[simp] theorem State.noteRaise_cell (s : State) (off : Nat) (b : Nat) : (s.noteRaise off b).cell = s.cell := by cases s; rfl
@[simp] theorem State.noteRaise_lv (s : State) (off : Nat) (b : Nat) : (s.noteRaise off b).lv = s.lv := by cases s; rfl
@[simp] theorem State.noteRaise_cores (s : State) (off : Nat) (b : Nat) : (s.noteRaise off b).cores = s.cores := by cases s; rfl
@[simp] theorem State.noteRaise_pw (s : State) (off : Nat) (b : Nat) : (s.noteRaise off b).pw = s.pw := by cases s; rfl
@[simp] theorem State.noteRaise_sv (s : State) (off : Nat) (b : Nat) : (s.noteRaise off b).sv = s.sv := by cases s; rfl
@[simp] theorem State.noteRaise_jnl (s : State) (off : Nat) (b : Nat) : (s.noteRaise off b).jnl = s.jnl := by cases s; rfl
@[simp] theorem State.noteRaise_ch (s : State) (off : Nat) (b : Nat) : (s.noteRaise off b).ch = s.ch := by cases s; rfl
@[simp] theorem State.noteRaise_hs (s : State) (off : Nat) (b : Nat) : (s.noteRaise off b).hs = s.hs := by cases s; rfl
@[simp] theorem State.noteRaise_lc (s : State) (off : Nat) (b : Nat) : (s.noteRaise off b).lc = s.lc := by cases s; rfl
@[simp] theorem State.noteRaise_kl (s : State) (off : Nat) (b : Nat) : (s.noteRaise off b).kl = s.kl := by cases s; rfl
@[simp] theorem State.noteRaise_th (s : State) (off : Nat) (b : Nat) : (s.noteRaise off b).th = s.th := by cases s; rfl
@[simp] theorem State.noteRaise_ax (s : State) (off : Nat) (b : Nat) : (s.noteRaise off b).ax = s.ax := by cases s; rfl
@[simp] theorem State.noteRaise_so (s : State) (off : Nat) (b : Nat) : (s.noteRaise off b).so = s.so := by cases s; rfl
@[simp] theorem State.noteRaise_fb (s : State) (off : Nat) (b : Nat) : (s.noteRaise off b).fb = s.fb := by cases s; rfl
@[simp] theorem State.noteRaise_kn (s : State) (off : Nat) (b : Nat) : (s.noteRaise off b).kn = s.kn := by cases s; rfl
@[simp] theorem State.noteRaise_mem (s : State) (off : Nat) (b : Nat) : (s.noteRaise off b).mem = s.mem := by cases s; rfl
@[simp] theorem State.noteRaise_held (s : State) (off : Nat) (b : Nat) : (s.noteRaise off b).held = s.held := by cases s; rfl
@[simp] theorem State.noteRaise_extRef (s : State) (off : Nat) (b : Nat) : (s.noteRaise off b).extRef = s.extRef := by cases s; rfl
@[simp] theorem State.noteRaise_holds (s : State) (off : Nat) (b : Nat) : (s.noteRaise off b).holds = s.holds := by cases s; rfl
@[simp] theorem State.noteRaise_latches (s : State) (off : Nat) (b : Nat) : (s.noteRaise off b).latches = s.latches := by cases s; rfl
@[simp] theorem State.noteRaise_freeCount (s : State) (off : Nat) (b : Nat) : (s.noteRaise off b).freeCount = s.freeCount := by cases s; rfl

@[simp] theorem State.raiseFlag_pending (s : State) (fl : Field) (i : Nat) (j : Nat) : (s.raiseFlag fl i j).pending = s.pending := by cases s; rfl
@[simp] theorem State.raiseFlag_cal (s : State) (fl : Field) (i : Nat) (j : Nat) : (s.raiseFlag fl i j).cal = s.cal := by cases s; rfl
@[simp] theorem State.raiseFlag_cell (s : State) (fl : Field) (i : Nat) (j : Nat) : (s.raiseFlag fl i j).cell = s.cell := by cases s; rfl
@[simp] theorem State.raiseFlag_lv (s : State) (fl : Field) (i : Nat) (j : Nat) : (s.raiseFlag fl i j).lv = s.lv := by cases s; rfl
@[simp] theorem State.raiseFlag_cores (s : State) (fl : Field) (i : Nat) (j : Nat) : (s.raiseFlag fl i j).cores = s.cores := by cases s; rfl
@[simp] theorem State.raiseFlag_pw (s : State) (fl : Field) (i : Nat) (j : Nat) : (s.raiseFlag fl i j).pw = s.pw := by cases s; rfl
@[simp] theorem State.raiseFlag_sv (s : State) (fl : Field) (i : Nat) (j : Nat) : (s.raiseFlag fl i j).sv = s.sv := by cases s; rfl
@[simp] theorem State.raiseFlag_jnl (s : State) (fl : Field) (i : Nat) (j : Nat) : (s.raiseFlag fl i j).jnl = s.jnl := by cases s; rfl
@[simp] theorem State.raiseFlag_ch (s : State) (fl : Field) (i : Nat) (j : Nat) : (s.raiseFlag fl i j).ch = s.ch := by cases s; rfl
@[simp] theorem State.raiseFlag_hs (s : State) (fl : Field) (i : Nat) (j : Nat) : (s.raiseFlag fl i j).hs = s.hs := by cases s; rfl
@[simp] theorem State.raiseFlag_lc (s : State) (fl : Field) (i : Nat) (j : Nat) : (s.raiseFlag fl i j).lc = s.lc := by cases s; rfl
@[simp] theorem State.raiseFlag_kl (s : State) (fl : Field) (i : Nat) (j : Nat) : (s.raiseFlag fl i j).kl = s.kl := by cases s; rfl
@[simp] theorem State.raiseFlag_th (s : State) (fl : Field) (i : Nat) (j : Nat) : (s.raiseFlag fl i j).th = s.th := by cases s; rfl
@[simp] theorem State.raiseFlag_ax (s : State) (fl : Field) (i : Nat) (j : Nat) : (s.raiseFlag fl i j).ax = s.ax := by cases s; rfl
@[simp] theorem State.raiseFlag_so (s : State) (fl : Field) (i : Nat) (j : Nat) : (s.raiseFlag fl i j).so = s.so := by cases s; rfl
@[simp] theorem State.raiseFlag_fb (s : State) (fl : Field) (i : Nat) (j : Nat) : (s.raiseFlag fl i j).fb = s.fb := by cases s; rfl
@[simp] theorem State.raiseFlag_kn (s : State) (fl : Field) (i : Nat) (j : Nat) : (s.raiseFlag fl i j).kn = s.kn := by cases s; rfl
@[simp] theorem State.raiseFlag_mem (s : State) (fl : Field) (i : Nat) (j : Nat) : (s.raiseFlag fl i j).mem = s.mem := by cases s; rfl
@[simp] theorem State.raiseFlag_held (s : State) (fl : Field) (i : Nat) (j : Nat) : (s.raiseFlag fl i j).held = s.held := by cases s; rfl
@[simp] theorem State.raiseFlag_extRef (s : State) (fl : Field) (i : Nat) (j : Nat) : (s.raiseFlag fl i j).extRef = s.extRef := by cases s; rfl
@[simp] theorem State.raiseFlag_holds (s : State) (fl : Field) (i : Nat) (j : Nat) : (s.raiseFlag fl i j).holds = s.holds := by cases s; rfl
@[simp] theorem State.raiseFlag_latches (s : State) (fl : Field) (i : Nat) (j : Nat) : (s.raiseFlag fl i j).latches = s.latches := by cases s; rfl
@[simp] theorem State.raiseFlag_freeCount (s : State) (fl : Field) (i : Nat) (j : Nat) : (s.raiseFlag fl i j).freeCount = s.freeCount := by cases s; rfl

@[simp] theorem State.raise_pending (s : State) (fl : Field) (cnt : Field) (i : Nat) (j : Nat) : (s.raise fl cnt i j).pending = s.pending := by cases s; rfl
@[simp] theorem State.raise_cal (s : State) (fl : Field) (cnt : Field) (i : Nat) (j : Nat) : (s.raise fl cnt i j).cal = s.cal := by cases s; rfl
@[simp] theorem State.raise_cell (s : State) (fl : Field) (cnt : Field) (i : Nat) (j : Nat) : (s.raise fl cnt i j).cell = s.cell := by cases s; rfl
@[simp] theorem State.raise_lv (s : State) (fl : Field) (cnt : Field) (i : Nat) (j : Nat) : (s.raise fl cnt i j).lv = s.lv := by cases s; rfl
@[simp] theorem State.raise_cores (s : State) (fl : Field) (cnt : Field) (i : Nat) (j : Nat) : (s.raise fl cnt i j).cores = s.cores := by cases s; rfl
@[simp] theorem State.raise_pw (s : State) (fl : Field) (cnt : Field) (i : Nat) (j : Nat) : (s.raise fl cnt i j).pw = s.pw := by cases s; rfl
@[simp] theorem State.raise_sv (s : State) (fl : Field) (cnt : Field) (i : Nat) (j : Nat) : (s.raise fl cnt i j).sv = s.sv := by cases s; rfl
@[simp] theorem State.raise_jnl (s : State) (fl : Field) (cnt : Field) (i : Nat) (j : Nat) : (s.raise fl cnt i j).jnl = s.jnl := by cases s; rfl
@[simp] theorem State.raise_ch (s : State) (fl : Field) (cnt : Field) (i : Nat) (j : Nat) : (s.raise fl cnt i j).ch = s.ch := by cases s; rfl
@[simp] theorem State.raise_hs (s : State) (fl : Field) (cnt : Field) (i : Nat) (j : Nat) : (s.raise fl cnt i j).hs = s.hs := by cases s; rfl
@[simp] theorem State.raise_lc (s : State) (fl : Field) (cnt : Field) (i : Nat) (j : Nat) : (s.raise fl cnt i j).lc = s.lc := by cases s; rfl
@[simp] theorem State.raise_kl (s : State) (fl : Field) (cnt : Field) (i : Nat) (j : Nat) : (s.raise fl cnt i j).kl = s.kl := by cases s; rfl
@[simp] theorem State.raise_th (s : State) (fl : Field) (cnt : Field) (i : Nat) (j : Nat) : (s.raise fl cnt i j).th = s.th := by cases s; rfl
@[simp] theorem State.raise_ax (s : State) (fl : Field) (cnt : Field) (i : Nat) (j : Nat) : (s.raise fl cnt i j).ax = s.ax := by cases s; rfl
@[simp] theorem State.raise_so (s : State) (fl : Field) (cnt : Field) (i : Nat) (j : Nat) : (s.raise fl cnt i j).so = s.so := by cases s; rfl
@[simp] theorem State.raise_fb (s : State) (fl : Field) (cnt : Field) (i : Nat) (j : Nat) : (s.raise fl cnt i j).fb = s.fb := by cases s; rfl
@[simp] theorem State.raise_kn (s : State) (fl : Field) (cnt : Field) (i : Nat) (j : Nat) : (s.raise fl cnt i j).kn = s.kn := by cases s; rfl
@[simp] theorem State.raise_mem (s : State) (fl : Field) (cnt : Field) (i : Nat) (j : Nat) : (s.raise fl cnt i j).mem = s.mem := by cases s; rfl
@[simp] theorem State.raise_held (s : State) (fl : Field) (cnt : Field) (i : Nat) (j : Nat) : (s.raise fl cnt i j).held = s.held := by cases s; rfl
@[simp] theorem State.raise_extRef (s : State) (fl : Field) (cnt : Field) (i : Nat) (j : Nat) : (s.raise fl cnt i j).extRef = s.extRef := by cases s; rfl
@[simp] theorem State.raise_holds (s : State) (fl : Field) (cnt : Field) (i : Nat) (j : Nat) : (s.raise fl cnt i j).holds = s.holds := by cases s; rfl
@[simp] theorem State.raise_latches (s : State) (fl : Field) (cnt : Field) (i : Nat) (j : Nat) : (s.raise fl cnt i j).latches = s.latches := by cases s; rfl
@[simp] theorem State.raise_freeCount (s : State) (fl : Field) (cnt : Field) (i : Nat) (j : Nat) : (s.raise fl cnt i j).freeCount = s.freeCount := by cases s; rfl

@[simp] theorem State.setRg64_pending (s : State) (lo : Reg) (hi : Reg) (i : Nat) (v : Nat) : (s.setRg64 lo hi i v).pending = s.pending := by cases s; rfl
@[simp] theorem State.setRg64_time (s : State) (lo : Reg) (hi : Reg) (i : Nat) (v : Nat) : (s.setRg64 lo hi i v).time = s.time := by cases s; rfl
@[simp] theorem State.setRg64_cal (s : State) (lo : Reg) (hi : Reg) (i : Nat) (v : Nat) : (s.setRg64 lo hi i v).cal = s.cal := by cases s; rfl
@[simp] theorem State.setRg64_cell (s : State) (lo : Reg) (hi : Reg) (i : Nat) (v : Nat) : (s.setRg64 lo hi i v).cell = s.cell := by cases s; rfl
@[simp] theorem State.setRg64_lv (s : State) (lo : Reg) (hi : Reg) (i : Nat) (v : Nat) : (s.setRg64 lo hi i v).lv = s.lv := by cases s; rfl
@[simp] theorem State.setRg64_cores (s : State) (lo : Reg) (hi : Reg) (i : Nat) (v : Nat) : (s.setRg64 lo hi i v).cores = s.cores := by cases s; rfl
@[simp] theorem State.setRg64_pw (s : State) (lo : Reg) (hi : Reg) (i : Nat) (v : Nat) : (s.setRg64 lo hi i v).pw = s.pw := by cases s; rfl
@[simp] theorem State.setRg64_sv (s : State) (lo : Reg) (hi : Reg) (i : Nat) (v : Nat) : (s.setRg64 lo hi i v).sv = s.sv := by cases s; rfl
@[simp] theorem State.setRg64_jnl (s : State) (lo : Reg) (hi : Reg) (i : Nat) (v : Nat) : (s.setRg64 lo hi i v).jnl = s.jnl := by cases s; rfl
@[simp] theorem State.setRg64_ch (s : State) (lo : Reg) (hi : Reg) (i : Nat) (v : Nat) : (s.setRg64 lo hi i v).ch = s.ch := by cases s; rfl
@[simp] theorem State.setRg64_hs (s : State) (lo : Reg) (hi : Reg) (i : Nat) (v : Nat) : (s.setRg64 lo hi i v).hs = s.hs := by cases s; rfl
@[simp] theorem State.setRg64_lc (s : State) (lo : Reg) (hi : Reg) (i : Nat) (v : Nat) : (s.setRg64 lo hi i v).lc = s.lc := by cases s; rfl
@[simp] theorem State.setRg64_kl (s : State) (lo : Reg) (hi : Reg) (i : Nat) (v : Nat) : (s.setRg64 lo hi i v).kl = s.kl := by cases s; rfl
@[simp] theorem State.setRg64_th (s : State) (lo : Reg) (hi : Reg) (i : Nat) (v : Nat) : (s.setRg64 lo hi i v).th = s.th := by cases s; rfl
@[simp] theorem State.setRg64_ax (s : State) (lo : Reg) (hi : Reg) (i : Nat) (v : Nat) : (s.setRg64 lo hi i v).ax = s.ax := by cases s; rfl
@[simp] theorem State.setRg64_so (s : State) (lo : Reg) (hi : Reg) (i : Nat) (v : Nat) : (s.setRg64 lo hi i v).so = s.so := by cases s; rfl
@[simp] theorem State.setRg64_fb (s : State) (lo : Reg) (hi : Reg) (i : Nat) (v : Nat) : (s.setRg64 lo hi i v).fb = s.fb := by cases s; rfl
@[simp] theorem State.setRg64_kn (s : State) (lo : Reg) (hi : Reg) (i : Nat) (v : Nat) : (s.setRg64 lo hi i v).kn = s.kn := by cases s; rfl
@[simp] theorem State.setRg64_mem (s : State) (lo : Reg) (hi : Reg) (i : Nat) (v : Nat) : (s.setRg64 lo hi i v).mem = s.mem := by cases s; rfl
@[simp] theorem State.setRg64_held (s : State) (lo : Reg) (hi : Reg) (i : Nat) (v : Nat) : (s.setRg64 lo hi i v).held = s.held := by cases s; rfl
@[simp] theorem State.setRg64_extRef (s : State) (lo : Reg) (hi : Reg) (i : Nat) (v : Nat) : (s.setRg64 lo hi i v).extRef = s.extRef := by cases s; rfl
@[simp] theorem State.setRg64_holds (s : State) (lo : Reg) (hi : Reg) (i : Nat) (v : Nat) : (s.setRg64 lo hi i v).holds = s.holds := by cases s; rfl
@[simp] theorem State.setRg64_latches (s : State) (lo : Reg) (hi : Reg) (i : Nat) (v : Nat) : (s.setRg64 lo hi i v).latches = s.latches := by cases s; rfl
@[simp] theorem State.setRg64_freeCount (s : State) (lo : Reg) (hi : Reg) (i : Nat) (v : Nat) : (s.setRg64 lo hi i v).freeCount = s.freeCount := by cases s; rfl

@[simp] theorem State.setCore_pending (s : State) (n : Nat) (c : Core) : (s.setCore n c).pending = s.pending := by cases s; rfl
@[simp] theorem State.setCore_regs (s : State) (n : Nat) (c : Core) : (s.setCore n c).regs = s.regs := by cases s; rfl
@[simp] theorem State.setCore_time (s : State) (n : Nat) (c : Core) : (s.setCore n c).time = s.time := by cases s; rfl
@[simp] theorem State.setCore_cal (s : State) (n : Nat) (c : Core) : (s.setCore n c).cal = s.cal := by cases s; rfl
@[simp] theorem State.setCore_cell (s : State) (n : Nat) (c : Core) : (s.setCore n c).cell = s.cell := by cases s; rfl
@[simp] theorem State.setCore_lv (s : State) (n : Nat) (c : Core) : (s.setCore n c).lv = s.lv := by cases s; rfl
@[simp] theorem State.setCore_pw (s : State) (n : Nat) (c : Core) : (s.setCore n c).pw = s.pw := by cases s; rfl
@[simp] theorem State.setCore_sv (s : State) (n : Nat) (c : Core) : (s.setCore n c).sv = s.sv := by cases s; rfl
@[simp] theorem State.setCore_jnl (s : State) (n : Nat) (c : Core) : (s.setCore n c).jnl = s.jnl := by cases s; rfl
@[simp] theorem State.setCore_ch (s : State) (n : Nat) (c : Core) : (s.setCore n c).ch = s.ch := by cases s; rfl
@[simp] theorem State.setCore_hs (s : State) (n : Nat) (c : Core) : (s.setCore n c).hs = s.hs := by cases s; rfl
@[simp] theorem State.setCore_lc (s : State) (n : Nat) (c : Core) : (s.setCore n c).lc = s.lc := by cases s; rfl
@[simp] theorem State.setCore_kl (s : State) (n : Nat) (c : Core) : (s.setCore n c).kl = s.kl := by cases s; rfl
@[simp] theorem State.setCore_th (s : State) (n : Nat) (c : Core) : (s.setCore n c).th = s.th := by cases s; rfl
@[simp] theorem State.setCore_ax (s : State) (n : Nat) (c : Core) : (s.setCore n c).ax = s.ax := by cases s; rfl
@[simp] theorem State.setCore_so (s : State) (n : Nat) (c : Core) : (s.setCore n c).so = s.so := by cases s; rfl
@[simp] theorem State.setCore_fb (s : State) (n : Nat) (c : Core) : (s.setCore n c).fb = s.fb := by cases s; rfl
@[simp] theorem State.setCore_kn (s : State) (n : Nat) (c : Core) : (s.setCore n c).kn = s.kn := by cases s; rfl
@[simp] theorem State.setCore_mem (s : State) (n : Nat) (c : Core) : (s.setCore n c).mem = s.mem := by cases s; rfl
@[simp] theorem State.setCore_held (s : State) (n : Nat) (c : Core) : (s.setCore n c).held = s.held := by cases s; rfl
@[simp] theorem State.setCore_extRef (s : State) (n : Nat) (c : Core) : (s.setCore n c).extRef = s.extRef := by cases s; rfl
@[simp] theorem State.setCore_holds (s : State) (n : Nat) (c : Core) : (s.setCore n c).holds = s.holds := by cases s; rfl
@[simp] theorem State.setCore_latches (s : State) (n : Nat) (c : Core) : (s.setCore n c).latches = s.latches := by cases s; rfl
@[simp] theorem State.setCore_freeCount (s : State) (n : Nat) (c : Core) : (s.setCore n c).freeCount = s.freeCount := by cases s; rfl

@[simp] theorem State.setAg_pending (s : State) (g : Nat) (a : AgState) : (s.setAg g a).pending = s.pending := by cases s; rfl
@[simp] theorem State.setAg_regs (s : State) (g : Nat) (a : AgState) : (s.setAg g a).regs = s.regs := by cases s; rfl
@[simp] theorem State.setAg_time (s : State) (g : Nat) (a : AgState) : (s.setAg g a).time = s.time := by cases s; rfl
@[simp] theorem State.setAg_cal (s : State) (g : Nat) (a : AgState) : (s.setAg g a).cal = s.cal := by cases s; rfl
@[simp] theorem State.setAg_lv (s : State) (g : Nat) (a : AgState) : (s.setAg g a).lv = s.lv := by cases s; rfl
@[simp] theorem State.setAg_cores (s : State) (g : Nat) (a : AgState) : (s.setAg g a).cores = s.cores := by cases s; rfl
@[simp] theorem State.setAg_pw (s : State) (g : Nat) (a : AgState) : (s.setAg g a).pw = s.pw := by cases s; rfl
@[simp] theorem State.setAg_sv (s : State) (g : Nat) (a : AgState) : (s.setAg g a).sv = s.sv := by cases s; rfl
@[simp] theorem State.setAg_jnl (s : State) (g : Nat) (a : AgState) : (s.setAg g a).jnl = s.jnl := by cases s; rfl
@[simp] theorem State.setAg_ch (s : State) (g : Nat) (a : AgState) : (s.setAg g a).ch = s.ch := by cases s; rfl
@[simp] theorem State.setAg_hs (s : State) (g : Nat) (a : AgState) : (s.setAg g a).hs = s.hs := by cases s; rfl
@[simp] theorem State.setAg_lc (s : State) (g : Nat) (a : AgState) : (s.setAg g a).lc = s.lc := by cases s; rfl
@[simp] theorem State.setAg_kl (s : State) (g : Nat) (a : AgState) : (s.setAg g a).kl = s.kl := by cases s; rfl
@[simp] theorem State.setAg_th (s : State) (g : Nat) (a : AgState) : (s.setAg g a).th = s.th := by cases s; rfl
@[simp] theorem State.setAg_ax (s : State) (g : Nat) (a : AgState) : (s.setAg g a).ax = s.ax := by cases s; rfl
@[simp] theorem State.setAg_so (s : State) (g : Nat) (a : AgState) : (s.setAg g a).so = s.so := by cases s; rfl
@[simp] theorem State.setAg_fb (s : State) (g : Nat) (a : AgState) : (s.setAg g a).fb = s.fb := by cases s; rfl
@[simp] theorem State.setAg_kn (s : State) (g : Nat) (a : AgState) : (s.setAg g a).kn = s.kn := by cases s; rfl
@[simp] theorem State.setAg_mem (s : State) (g : Nat) (a : AgState) : (s.setAg g a).mem = s.mem := by cases s; rfl
@[simp] theorem State.setAg_held (s : State) (g : Nat) (a : AgState) : (s.setAg g a).held = s.held := by cases s; rfl
@[simp] theorem State.setAg_extRef (s : State) (g : Nat) (a : AgState) : (s.setAg g a).extRef = s.extRef := by cases s; rfl
@[simp] theorem State.setAg_holds (s : State) (g : Nat) (a : AgState) : (s.setAg g a).holds = s.holds := by cases s; rfl
@[simp] theorem State.setAg_latches (s : State) (g : Nat) (a : AgState) : (s.setAg g a).latches = s.latches := by cases s; rfl
@[simp] theorem State.setAg_freeCount (s : State) (g : Nat) (a : AgState) : (s.setAg g a).freeCount = s.freeCount := by cases s; rfl

@[simp] theorem State.setNode_pending (s : State) (n : Nat) (k : KlNode) : (s.setNode n k).pending = s.pending := by cases s; rfl
@[simp] theorem State.setNode_regs (s : State) (n : Nat) (k : KlNode) : (s.setNode n k).regs = s.regs := by cases s; rfl
@[simp] theorem State.setNode_time (s : State) (n : Nat) (k : KlNode) : (s.setNode n k).time = s.time := by cases s; rfl
@[simp] theorem State.setNode_cal (s : State) (n : Nat) (k : KlNode) : (s.setNode n k).cal = s.cal := by cases s; rfl
@[simp] theorem State.setNode_cell (s : State) (n : Nat) (k : KlNode) : (s.setNode n k).cell = s.cell := by cases s; rfl
@[simp] theorem State.setNode_lv (s : State) (n : Nat) (k : KlNode) : (s.setNode n k).lv = s.lv := by cases s; rfl
@[simp] theorem State.setNode_cores (s : State) (n : Nat) (k : KlNode) : (s.setNode n k).cores = s.cores := by cases s; rfl
@[simp] theorem State.setNode_pw (s : State) (n : Nat) (k : KlNode) : (s.setNode n k).pw = s.pw := by cases s; rfl
@[simp] theorem State.setNode_sv (s : State) (n : Nat) (k : KlNode) : (s.setNode n k).sv = s.sv := by cases s; rfl
@[simp] theorem State.setNode_jnl (s : State) (n : Nat) (k : KlNode) : (s.setNode n k).jnl = s.jnl := by cases s; rfl
@[simp] theorem State.setNode_ch (s : State) (n : Nat) (k : KlNode) : (s.setNode n k).ch = s.ch := by cases s; rfl
@[simp] theorem State.setNode_hs (s : State) (n : Nat) (k : KlNode) : (s.setNode n k).hs = s.hs := by cases s; rfl
@[simp] theorem State.setNode_lc (s : State) (n : Nat) (k : KlNode) : (s.setNode n k).lc = s.lc := by cases s; rfl
@[simp] theorem State.setNode_th (s : State) (n : Nat) (k : KlNode) : (s.setNode n k).th = s.th := by cases s; rfl
@[simp] theorem State.setNode_ax (s : State) (n : Nat) (k : KlNode) : (s.setNode n k).ax = s.ax := by cases s; rfl
@[simp] theorem State.setNode_so (s : State) (n : Nat) (k : KlNode) : (s.setNode n k).so = s.so := by cases s; rfl
@[simp] theorem State.setNode_fb (s : State) (n : Nat) (k : KlNode) : (s.setNode n k).fb = s.fb := by cases s; rfl
@[simp] theorem State.setNode_kn (s : State) (n : Nat) (k : KlNode) : (s.setNode n k).kn = s.kn := by cases s; rfl
@[simp] theorem State.setNode_mem (s : State) (n : Nat) (k : KlNode) : (s.setNode n k).mem = s.mem := by cases s; rfl
@[simp] theorem State.setNode_held (s : State) (n : Nat) (k : KlNode) : (s.setNode n k).held = s.held := by cases s; rfl
@[simp] theorem State.setNode_extRef (s : State) (n : Nat) (k : KlNode) : (s.setNode n k).extRef = s.extRef := by cases s; rfl
@[simp] theorem State.setNode_holds (s : State) (n : Nat) (k : KlNode) : (s.setNode n k).holds = s.holds := by cases s; rfl
@[simp] theorem State.setNode_latches (s : State) (n : Nat) (k : KlNode) : (s.setNode n k).latches = s.latches := by cases s; rfl
@[simp] theorem State.setNode_freeCount (s : State) (n : Nat) (k : KlNode) : (s.setNode n k).freeCount = s.freeCount := by cases s; rfl

@[simp] theorem State.setFbChan_pending (s : State) (n : Nat) (c : FbChan) : (s.setFbChan n c).pending = s.pending := by cases s; rfl
@[simp] theorem State.setFbChan_regs (s : State) (n : Nat) (c : FbChan) : (s.setFbChan n c).regs = s.regs := by cases s; rfl
@[simp] theorem State.setFbChan_time (s : State) (n : Nat) (c : FbChan) : (s.setFbChan n c).time = s.time := by cases s; rfl
@[simp] theorem State.setFbChan_cal (s : State) (n : Nat) (c : FbChan) : (s.setFbChan n c).cal = s.cal := by cases s; rfl
@[simp] theorem State.setFbChan_cell (s : State) (n : Nat) (c : FbChan) : (s.setFbChan n c).cell = s.cell := by cases s; rfl
@[simp] theorem State.setFbChan_lv (s : State) (n : Nat) (c : FbChan) : (s.setFbChan n c).lv = s.lv := by cases s; rfl
@[simp] theorem State.setFbChan_cores (s : State) (n : Nat) (c : FbChan) : (s.setFbChan n c).cores = s.cores := by cases s; rfl
@[simp] theorem State.setFbChan_pw (s : State) (n : Nat) (c : FbChan) : (s.setFbChan n c).pw = s.pw := by cases s; rfl
@[simp] theorem State.setFbChan_sv (s : State) (n : Nat) (c : FbChan) : (s.setFbChan n c).sv = s.sv := by cases s; rfl
@[simp] theorem State.setFbChan_jnl (s : State) (n : Nat) (c : FbChan) : (s.setFbChan n c).jnl = s.jnl := by cases s; rfl
@[simp] theorem State.setFbChan_ch (s : State) (n : Nat) (c : FbChan) : (s.setFbChan n c).ch = s.ch := by cases s; rfl
@[simp] theorem State.setFbChan_hs (s : State) (n : Nat) (c : FbChan) : (s.setFbChan n c).hs = s.hs := by cases s; rfl
@[simp] theorem State.setFbChan_lc (s : State) (n : Nat) (c : FbChan) : (s.setFbChan n c).lc = s.lc := by cases s; rfl
@[simp] theorem State.setFbChan_kl (s : State) (n : Nat) (c : FbChan) : (s.setFbChan n c).kl = s.kl := by cases s; rfl
@[simp] theorem State.setFbChan_th (s : State) (n : Nat) (c : FbChan) : (s.setFbChan n c).th = s.th := by cases s; rfl
@[simp] theorem State.setFbChan_ax (s : State) (n : Nat) (c : FbChan) : (s.setFbChan n c).ax = s.ax := by cases s; rfl
@[simp] theorem State.setFbChan_so (s : State) (n : Nat) (c : FbChan) : (s.setFbChan n c).so = s.so := by cases s; rfl
@[simp] theorem State.setFbChan_kn (s : State) (n : Nat) (c : FbChan) : (s.setFbChan n c).kn = s.kn := by cases s; rfl
@[simp] theorem State.setFbChan_mem (s : State) (n : Nat) (c : FbChan) : (s.setFbChan n c).mem = s.mem := by cases s; rfl
@[simp] theorem State.setFbChan_held (s : State) (n : Nat) (c : FbChan) : (s.setFbChan n c).held = s.held := by cases s; rfl
@[simp] theorem State.setFbChan_extRef (s : State) (n : Nat) (c : FbChan) : (s.setFbChan n c).extRef = s.extRef := by cases s; rfl
@[simp] theorem State.setFbChan_holds (s : State) (n : Nat) (c : FbChan) : (s.setFbChan n c).holds = s.holds := by cases s; rfl
@[simp] theorem State.setFbChan_latches (s : State) (n : Nat) (c : FbChan) : (s.setFbChan n c).latches = s.latches := by cases s; rfl
@[simp] theorem State.setFbChan_freeCount (s : State) (n : Nat) (c : FbChan) : (s.setFbChan n c).freeCount = s.freeCount := by cases s; rfl

@[simp] theorem State.setSoCap_pending (s : State) (c : Nat) (x : SoCap) : (s.setSoCap c x).pending = s.pending := by cases s; rfl
@[simp] theorem State.setSoCap_regs (s : State) (c : Nat) (x : SoCap) : (s.setSoCap c x).regs = s.regs := by cases s; rfl
@[simp] theorem State.setSoCap_time (s : State) (c : Nat) (x : SoCap) : (s.setSoCap c x).time = s.time := by cases s; rfl
@[simp] theorem State.setSoCap_cal (s : State) (c : Nat) (x : SoCap) : (s.setSoCap c x).cal = s.cal := by cases s; rfl
@[simp] theorem State.setSoCap_cell (s : State) (c : Nat) (x : SoCap) : (s.setSoCap c x).cell = s.cell := by cases s; rfl
@[simp] theorem State.setSoCap_lv (s : State) (c : Nat) (x : SoCap) : (s.setSoCap c x).lv = s.lv := by cases s; rfl
@[simp] theorem State.setSoCap_cores (s : State) (c : Nat) (x : SoCap) : (s.setSoCap c x).cores = s.cores := by cases s; rfl
@[simp] theorem State.setSoCap_pw (s : State) (c : Nat) (x : SoCap) : (s.setSoCap c x).pw = s.pw := by cases s; rfl
@[simp] theorem State.setSoCap_sv (s : State) (c : Nat) (x : SoCap) : (s.setSoCap c x).sv = s.sv := by cases s; rfl
@[simp] theorem State.setSoCap_jnl (s : State) (c : Nat) (x : SoCap) : (s.setSoCap c x).jnl = s.jnl := by cases s; rfl
@[simp] theorem State.setSoCap_ch (s : State) (c : Nat) (x : SoCap) : (s.setSoCap c x).ch = s.ch := by cases s; rfl
@[simp] theorem State.setSoCap_hs (s : State) (c : Nat) (x : SoCap) : (s.setSoCap c x).hs = s.hs := by cases s; rfl
@[simp] theorem State.setSoCap_lc (s : State) (c : Nat) (x : SoCap) : (s.setSoCap c x).lc = s.lc := by cases s; rfl
@[simp] theorem State.setSoCap_kl (s : State) (c : Nat) (x : SoCap) : (s.setSoCap c x).kl = s.kl := by cases s; rfl
@[simp] theorem State.setSoCap_th (s : State) (c : Nat) (x : SoCap) : (s.setSoCap c x).th = s.th := by cases s; rfl
@[simp] theorem State.setSoCap_ax (s : State) (c : Nat) (x : SoCap) : (s.setSoCap c x).ax = s.ax := by cases s; rfl
@[simp] theorem State.setSoCap_fb (s : State) (c : Nat) (x : SoCap) : (s.setSoCap c x).fb = s.fb := by cases s; rfl
@[simp] theorem State.setSoCap_kn (s : State) (c : Nat) (x : SoCap) : (s.setSoCap c x).kn = s.kn := by cases s; rfl
@[simp] theorem State.setSoCap_mem (s : State) (c : Nat) (x : SoCap) : (s.setSoCap c x).mem = s.mem := by cases s; rfl
@[simp] theorem State.setSoCap_held (s : State) (c : Nat) (x : SoCap) : (s.setSoCap c x).held = s.held := by cases s; rfl
@[simp] theorem State.setSoCap_extRef (s : State) (c : Nat) (x : SoCap) : (s.setSoCap c x).extRef = s.extRef := by cases s; rfl
@[simp] theorem State.setSoCap_holds (s : State) (c : Nat) (x : SoCap) : (s.setSoCap c x).holds = s.holds := by cases s; rfl
@[simp] theorem State.setSoCap_latches (s : State) (c : Nat) (x : SoCap) : (s.setSoCap c x).latches = s.latches := by cases s; rfl
@[simp] theorem State.setSoCap_freeCount (s : State) (c : Nat) (x : SoCap) : (s.setSoCap c x).freeCount = s.freeCount := by cases s; rfl

@[simp] theorem State.setAxChan_pending (s : State) (n : Nat) (c : AxChan) : (s.setAxChan n c).pending = s.pending := by cases s; rfl
@[simp] theorem State.setAxChan_regs (s : State) (n : Nat) (c : AxChan) : (s.setAxChan n c).regs = s.regs := by cases s; rfl
@[simp] theorem State.setAxChan_time (s : State) (n : Nat) (c : AxChan) : (s.setAxChan n c).time = s.time := by cases s; rfl
@[simp] theorem State.setAxChan_cal (s : State) (n : Nat) (c : AxChan) : (s.setAxChan n c).cal = s.cal := by cases s; rfl
@[simp] theorem State.setAxChan_cell (s : State) (n : Nat) (c : AxChan) : (s.setAxChan n c).cell = s.cell := by cases s; rfl
@[simp] theorem State.setAxChan_lv (s : State) (n : Nat) (c : AxChan) : (s.setAxChan n c).lv = s.lv := by cases s; rfl
@[simp] theorem State.setAxChan_cores (s : State) (n : Nat) (c : AxChan) : (s.setAxChan n c).cores = s.cores := by cases s; rfl
@[simp] theorem State.setAxChan_pw (s : State) (n : Nat) (c : AxChan) : (s.setAxChan n c).pw = s.pw := by cases s; rfl
@[simp] theorem State.setAxChan_sv (s : State) (n : Nat) (c : AxChan) : (s.setAxChan n c).sv = s.sv := by cases s; rfl
@[simp] theorem State.setAxChan_jnl (s : State) (n : Nat) (c : AxChan) : (s.setAxChan n c).jnl = s.jnl := by cases s; rfl
@[simp] theorem State.setAxChan_ch (s : State) (n : Nat) (c : AxChan) : (s.setAxChan n c).ch = s.ch := by cases s; rfl
@[simp] theorem State.setAxChan_hs (s : State) (n : Nat) (c : AxChan) : (s.setAxChan n c).hs = s.hs := by cases s; rfl
@[simp] theorem State.setAxChan_lc (s : State) (n : Nat) (c : AxChan) : (s.setAxChan n c).lc = s.lc := by cases s; rfl
@[simp] theorem State.setAxChan_kl (s : State) (n : Nat) (c : AxChan) : (s.setAxChan n c).kl = s.kl := by cases s; rfl
@[simp] theorem State.setAxChan_th (s : State) (n : Nat) (c : AxChan) : (s.setAxChan n c).th = s.th := by cases s; rfl
@[simp] theorem State.setAxChan_so (s : State) (n : Nat) (c : AxChan) : (s.setAxChan n c).so = s.so := by cases s; rfl
@[simp] theorem State.setAxChan_fb (s : State) (n : Nat) (c : AxChan) : (s.setAxChan n c).fb = s.fb := by cases s; rfl
@[simp] theorem State.setAxChan_kn (s : State) (n : Nat) (c : AxChan) : (s.setAxChan n c).kn = s.kn := by cases s; rfl
@[simp] theorem State.setAxChan_mem (s : State) (n : Nat) (c : AxChan) : (s.setAxChan n c).mem = s.mem := by cases s; rfl
@[simp] theorem State.setAxChan_held (s : State) (n : Nat) (c : AxChan) : (s.setAxChan n c).held = s.held := by cases s; rfl
@[simp] theorem State.setAxChan_extRef (s : State) (n : Nat) (c : AxChan) : (s.setAxChan n c).extRef = s.extRef := by cases s; rfl
@[simp] theorem State.setAxChan_holds (s : State) (n : Nat) (c : AxChan) : (s.setAxChan n c).holds = s.holds := by cases s; rfl
@[simp] theorem State.setAxChan_latches (s : State) (n : Nat) (c : AxChan) : (s.setAxChan n c).latches = s.latches := by cases s; rfl
@[simp] theorem State.setAxChan_freeCount (s : State) (n : Nat) (c : AxChan) : (s.setAxChan n c).freeCount = s.freeCount := by cases s; rfl

@[simp] theorem State.setCmpUnit_pending (s : State) (k : Nat) (u : CmpUnit) : (s.setCmpUnit k u).pending = s.pending := by cases s; rfl
@[simp] theorem State.setCmpUnit_regs (s : State) (k : Nat) (u : CmpUnit) : (s.setCmpUnit k u).regs = s.regs := by cases s; rfl
@[simp] theorem State.setCmpUnit_time (s : State) (k : Nat) (u : CmpUnit) : (s.setCmpUnit k u).time = s.time := by cases s; rfl
@[simp] theorem State.setCmpUnit_cal (s : State) (k : Nat) (u : CmpUnit) : (s.setCmpUnit k u).cal = s.cal := by cases s; rfl
@[simp] theorem State.setCmpUnit_cell (s : State) (k : Nat) (u : CmpUnit) : (s.setCmpUnit k u).cell = s.cell := by cases s; rfl
@[simp] theorem State.setCmpUnit_lv (s : State) (k : Nat) (u : CmpUnit) : (s.setCmpUnit k u).lv = s.lv := by cases s; rfl
@[simp] theorem State.setCmpUnit_cores (s : State) (k : Nat) (u : CmpUnit) : (s.setCmpUnit k u).cores = s.cores := by cases s; rfl
@[simp] theorem State.setCmpUnit_pw (s : State) (k : Nat) (u : CmpUnit) : (s.setCmpUnit k u).pw = s.pw := by cases s; rfl
@[simp] theorem State.setCmpUnit_sv (s : State) (k : Nat) (u : CmpUnit) : (s.setCmpUnit k u).sv = s.sv := by cases s; rfl
@[simp] theorem State.setCmpUnit_jnl (s : State) (k : Nat) (u : CmpUnit) : (s.setCmpUnit k u).jnl = s.jnl := by cases s; rfl
@[simp] theorem State.setCmpUnit_ch (s : State) (k : Nat) (u : CmpUnit) : (s.setCmpUnit k u).ch = s.ch := by cases s; rfl
@[simp] theorem State.setCmpUnit_hs (s : State) (k : Nat) (u : CmpUnit) : (s.setCmpUnit k u).hs = s.hs := by cases s; rfl
@[simp] theorem State.setCmpUnit_lc (s : State) (k : Nat) (u : CmpUnit) : (s.setCmpUnit k u).lc = s.lc := by cases s; rfl
@[simp] theorem State.setCmpUnit_kl (s : State) (k : Nat) (u : CmpUnit) : (s.setCmpUnit k u).kl = s.kl := by cases s; rfl
@[simp] theorem State.setCmpUnit_th (s : State) (k : Nat) (u : CmpUnit) : (s.setCmpUnit k u).th = s.th := by cases s; rfl
@[simp] theorem State.setCmpUnit_so (s : State) (k : Nat) (u : CmpUnit) : (s.setCmpUnit k u).so = s.so := by cases s; rfl
@[simp] theorem State.setCmpUnit_fb (s : State) (k : Nat) (u : CmpUnit) : (s.setCmpUnit k u).fb = s.fb := by cases s; rfl
@[simp] theorem State.setCmpUnit_kn (s : State) (k : Nat) (u : CmpUnit) : (s.setCmpUnit k u).kn = s.kn := by cases s; rfl
@[simp] theorem State.setCmpUnit_mem (s : State) (k : Nat) (u : CmpUnit) : (s.setCmpUnit k u).mem = s.mem := by cases s; rfl
@[simp] theorem State.setCmpUnit_held (s : State) (k : Nat) (u : CmpUnit) : (s.setCmpUnit k u).held = s.held := by cases s; rfl
@[simp] theorem State.setCmpUnit_extRef (s : State) (k : Nat) (u : CmpUnit) : (s.setCmpUnit k u).extRef = s.extRef := by cases s; rfl
@[simp] theorem State.setCmpUnit_holds (s : State) (k : Nat) (u : CmpUnit) : (s.setCmpUnit k u).holds = s.holds := by cases s; rfl
@[simp] theorem State.setCmpUnit_latches (s : State) (k : Nat) (u : CmpUnit) : (s.setCmpUnit k u).latches = s.latches := by cases s; rfl
@[simp] theorem State.setCmpUnit_freeCount (s : State) (k : Nat) (u : CmpUnit) : (s.setCmpUnit k u).freeCount = s.freeCount := by cases s; rfl

@[simp] theorem State.setThGroup_pending (s : State) (g : Nat) (x : ThGroup) : (s.setThGroup g x).pending = s.pending := by cases s; rfl
@[simp] theorem State.setThGroup_regs (s : State) (g : Nat) (x : ThGroup) : (s.setThGroup g x).regs = s.regs := by cases s; rfl
@[simp] theorem State.setThGroup_time (s : State) (g : Nat) (x : ThGroup) : (s.setThGroup g x).time = s.time := by cases s; rfl
@[simp] theorem State.setThGroup_cal (s : State) (g : Nat) (x : ThGroup) : (s.setThGroup g x).cal = s.cal := by cases s; rfl
@[simp] theorem State.setThGroup_cell (s : State) (g : Nat) (x : ThGroup) : (s.setThGroup g x).cell = s.cell := by cases s; rfl
@[simp] theorem State.setThGroup_lv (s : State) (g : Nat) (x : ThGroup) : (s.setThGroup g x).lv = s.lv := by cases s; rfl
@[simp] theorem State.setThGroup_cores (s : State) (g : Nat) (x : ThGroup) : (s.setThGroup g x).cores = s.cores := by cases s; rfl
@[simp] theorem State.setThGroup_pw (s : State) (g : Nat) (x : ThGroup) : (s.setThGroup g x).pw = s.pw := by cases s; rfl
@[simp] theorem State.setThGroup_sv (s : State) (g : Nat) (x : ThGroup) : (s.setThGroup g x).sv = s.sv := by cases s; rfl
@[simp] theorem State.setThGroup_jnl (s : State) (g : Nat) (x : ThGroup) : (s.setThGroup g x).jnl = s.jnl := by cases s; rfl
@[simp] theorem State.setThGroup_ch (s : State) (g : Nat) (x : ThGroup) : (s.setThGroup g x).ch = s.ch := by cases s; rfl
@[simp] theorem State.setThGroup_hs (s : State) (g : Nat) (x : ThGroup) : (s.setThGroup g x).hs = s.hs := by cases s; rfl
@[simp] theorem State.setThGroup_lc (s : State) (g : Nat) (x : ThGroup) : (s.setThGroup g x).lc = s.lc := by cases s; rfl
@[simp] theorem State.setThGroup_kl (s : State) (g : Nat) (x : ThGroup) : (s.setThGroup g x).kl = s.kl := by cases s; rfl
@[simp] theorem State.setThGroup_ax (s : State) (g : Nat) (x : ThGroup) : (s.setThGroup g x).ax = s.ax := by cases s; rfl
@[simp] theorem State.setThGroup_so (s : State) (g : Nat) (x : ThGroup) : (s.setThGroup g x).so = s.so := by cases s; rfl
@[simp] theorem State.setThGroup_fb (s : State) (g : Nat) (x : ThGroup) : (s.setThGroup g x).fb = s.fb := by cases s; rfl
@[simp] theorem State.setThGroup_kn (s : State) (g : Nat) (x : ThGroup) : (s.setThGroup g x).kn = s.kn := by cases s; rfl
@[simp] theorem State.setThGroup_mem (s : State) (g : Nat) (x : ThGroup) : (s.setThGroup g x).mem = s.mem := by cases s; rfl
@[simp] theorem State.setThGroup_held (s : State) (g : Nat) (x : ThGroup) : (s.setThGroup g x).held = s.held := by cases s; rfl
@[simp] theorem State.setThGroup_extRef (s : State) (g : Nat) (x : ThGroup) : (s.setThGroup g x).extRef = s.extRef := by cases s; rfl
@[simp] theorem State.setThGroup_holds (s : State) (g : Nat) (x : ThGroup) : (s.setThGroup g x).holds = s.holds := by cases s; rfl
@[simp] theorem State.setThGroup_latches (s : State) (g : Nat) (x : ThGroup) : (s.setThGroup g x).latches = s.latches := by cases s; rfl
@[simp] theorem State.setThGroup_freeCount (s : State) (g : Nat) (x : ThGroup) : (s.setThGroup g x).freeCount = s.freeCount := by cases s; rfl

@[simp] theorem State.setKnSlot_pending (s : State) (n : Nat) (x : KnSlot) : (s.setKnSlot n x).pending = s.pending := by cases s; rfl
@[simp] theorem State.setKnSlot_regs (s : State) (n : Nat) (x : KnSlot) : (s.setKnSlot n x).regs = s.regs := by cases s; rfl
@[simp] theorem State.setKnSlot_time (s : State) (n : Nat) (x : KnSlot) : (s.setKnSlot n x).time = s.time := by cases s; rfl
@[simp] theorem State.setKnSlot_cal (s : State) (n : Nat) (x : KnSlot) : (s.setKnSlot n x).cal = s.cal := by cases s; rfl
@[simp] theorem State.setKnSlot_cell (s : State) (n : Nat) (x : KnSlot) : (s.setKnSlot n x).cell = s.cell := by cases s; rfl
@[simp] theorem State.setKnSlot_lv (s : State) (n : Nat) (x : KnSlot) : (s.setKnSlot n x).lv = s.lv := by cases s; rfl
@[simp] theorem State.setKnSlot_cores (s : State) (n : Nat) (x : KnSlot) : (s.setKnSlot n x).cores = s.cores := by cases s; rfl
@[simp] theorem State.setKnSlot_pw (s : State) (n : Nat) (x : KnSlot) : (s.setKnSlot n x).pw = s.pw := by cases s; rfl
@[simp] theorem State.setKnSlot_sv (s : State) (n : Nat) (x : KnSlot) : (s.setKnSlot n x).sv = s.sv := by cases s; rfl
@[simp] theorem State.setKnSlot_jnl (s : State) (n : Nat) (x : KnSlot) : (s.setKnSlot n x).jnl = s.jnl := by cases s; rfl
@[simp] theorem State.setKnSlot_ch (s : State) (n : Nat) (x : KnSlot) : (s.setKnSlot n x).ch = s.ch := by cases s; rfl
@[simp] theorem State.setKnSlot_hs (s : State) (n : Nat) (x : KnSlot) : (s.setKnSlot n x).hs = s.hs := by cases s; rfl
@[simp] theorem State.setKnSlot_lc (s : State) (n : Nat) (x : KnSlot) : (s.setKnSlot n x).lc = s.lc := by cases s; rfl
@[simp] theorem State.setKnSlot_kl (s : State) (n : Nat) (x : KnSlot) : (s.setKnSlot n x).kl = s.kl := by cases s; rfl
@[simp] theorem State.setKnSlot_th (s : State) (n : Nat) (x : KnSlot) : (s.setKnSlot n x).th = s.th := by cases s; rfl
@[simp] theorem State.setKnSlot_ax (s : State) (n : Nat) (x : KnSlot) : (s.setKnSlot n x).ax = s.ax := by cases s; rfl
@[simp] theorem State.setKnSlot_so (s : State) (n : Nat) (x : KnSlot) : (s.setKnSlot n x).so = s.so := by cases s; rfl
@[simp] theorem State.setKnSlot_fb (s : State) (n : Nat) (x : KnSlot) : (s.setKnSlot n x).fb = s.fb := by cases s; rfl
@[simp] theorem State.setKnSlot_mem (s : State) (n : Nat) (x : KnSlot) : (s.setKnSlot n x).mem = s.mem := by cases s; rfl
@[simp] theorem State.setKnSlot_held (s : State) (n : Nat) (x : KnSlot) : (s.setKnSlot n x).held = s.held := by cases s; rfl
@[simp] theorem State.setKnSlot_extRef (s : State) (n : Nat) (x : KnSlot) : (s.setKnSlot n x).extRef = s.extRef := by cases s; rfl
@[simp] theorem State.setKnSlot_holds (s : State) (n : Nat) (x : KnSlot) : (s.setKnSlot n x).holds = s.holds := by cases s; rfl
@[simp] theorem State.setKnSlot_latches (s : State) (n : Nat) (x : KnSlot) : (s.setKnSlot n x).latches = s.latches := by cases s; rfl
@[simp] theorem State.setKnSlot_freeCount (s : State) (n : Nat) (x : KnSlot) : (s.setKnSlot n x).freeCount = s.freeCount := by cases s; rfl

@[simp] theorem State.holdLo_pending (s : State) (q : Requester) (r : Reg) (i : Nat) (v : Nat) : (s.holdLo q r i v).pending = s.pending := by cases s; rfl
@[simp] theorem State.holdLo_regs (s : State) (q : Requester) (r : Reg) (i : Nat) (v : Nat) : (s.holdLo q r i v).regs = s.regs := by cases s; rfl
@[simp] theorem State.holdLo_time (s : State) (q : Requester) (r : Reg) (i : Nat) (v : Nat) : (s.holdLo q r i v).time = s.time := by cases s; rfl
@[simp] theorem State.holdLo_cal (s : State) (q : Requester) (r : Reg) (i : Nat) (v : Nat) : (s.holdLo q r i v).cal = s.cal := by cases s; rfl
@[simp] theorem State.holdLo_cell (s : State) (q : Requester) (r : Reg) (i : Nat) (v : Nat) : (s.holdLo q r i v).cell = s.cell := by cases s; rfl
@[simp] theorem State.holdLo_lv (s : State) (q : Requester) (r : Reg) (i : Nat) (v : Nat) : (s.holdLo q r i v).lv = s.lv := by cases s; rfl
@[simp] theorem State.holdLo_cores (s : State) (q : Requester) (r : Reg) (i : Nat) (v : Nat) : (s.holdLo q r i v).cores = s.cores := by cases s; rfl
@[simp] theorem State.holdLo_pw (s : State) (q : Requester) (r : Reg) (i : Nat) (v : Nat) : (s.holdLo q r i v).pw = s.pw := by cases s; rfl
@[simp] theorem State.holdLo_sv (s : State) (q : Requester) (r : Reg) (i : Nat) (v : Nat) : (s.holdLo q r i v).sv = s.sv := by cases s; rfl
@[simp] theorem State.holdLo_jnl (s : State) (q : Requester) (r : Reg) (i : Nat) (v : Nat) : (s.holdLo q r i v).jnl = s.jnl := by cases s; rfl
@[simp] theorem State.holdLo_ch (s : State) (q : Requester) (r : Reg) (i : Nat) (v : Nat) : (s.holdLo q r i v).ch = s.ch := by cases s; rfl
@[simp] theorem State.holdLo_hs (s : State) (q : Requester) (r : Reg) (i : Nat) (v : Nat) : (s.holdLo q r i v).hs = s.hs := by cases s; rfl
@[simp] theorem State.holdLo_lc (s : State) (q : Requester) (r : Reg) (i : Nat) (v : Nat) : (s.holdLo q r i v).lc = s.lc := by cases s; rfl
@[simp] theorem State.holdLo_kl (s : State) (q : Requester) (r : Reg) (i : Nat) (v : Nat) : (s.holdLo q r i v).kl = s.kl := by cases s; rfl
@[simp] theorem State.holdLo_th (s : State) (q : Requester) (r : Reg) (i : Nat) (v : Nat) : (s.holdLo q r i v).th = s.th := by cases s; rfl
@[simp] theorem State.holdLo_ax (s : State) (q : Requester) (r : Reg) (i : Nat) (v : Nat) : (s.holdLo q r i v).ax = s.ax := by cases s; rfl
@[simp] theorem State.holdLo_so (s : State) (q : Requester) (r : Reg) (i : Nat) (v : Nat) : (s.holdLo q r i v).so = s.so := by cases s; rfl
@[simp] theorem State.holdLo_fb (s : State) (q : Requester) (r : Reg) (i : Nat) (v : Nat) : (s.holdLo q r i v).fb = s.fb := by cases s; rfl
@[simp] theorem State.holdLo_kn (s : State) (q : Requester) (r : Reg) (i : Nat) (v : Nat) : (s.holdLo q r i v).kn = s.kn := by cases s; rfl
@[simp] theorem State.holdLo_mem (s : State) (q : Requester) (r : Reg) (i : Nat) (v : Nat) : (s.holdLo q r i v).mem = s.mem := by cases s; rfl
@[simp] theorem State.holdLo_held (s : State) (q : Requester) (r : Reg) (i : Nat) (v : Nat) : (s.holdLo q r i v).held = s.held := by cases s; rfl
@[simp] theorem State.holdLo_extRef (s : State) (q : Requester) (r : Reg) (i : Nat) (v : Nat) : (s.holdLo q r i v).extRef = s.extRef := by cases s; rfl
@[simp] theorem State.holdLo_latches (s : State) (q : Requester) (r : Reg) (i : Nat) (v : Nat) : (s.holdLo q r i v).latches = s.latches := by cases s; rfl
@[simp] theorem State.holdLo_freeCount (s : State) (q : Requester) (r : Reg) (i : Nat) (v : Nat) : (s.holdLo q r i v).freeCount = s.freeCount := by cases s; rfl

@[simp] theorem State.setCold_pending (s : State) (c : KlCold) : (s.setCold c).pending = s.pending := by cases s; rfl
@[simp] theorem State.setCold_regs (s : State) (c : KlCold) : (s.setCold c).regs = s.regs := by cases s; rfl
@[simp] theorem State.setCold_time (s : State) (c : KlCold) : (s.setCold c).time = s.time := by cases s; rfl
@[simp] theorem State.setCold_cal (s : State) (c : KlCold) : (s.setCold c).cal = s.cal := by cases s; rfl
@[simp] theorem State.setCold_cell (s : State) (c : KlCold) : (s.setCold c).cell = s.cell := by cases s; rfl
@[simp] theorem State.setCold_lv (s : State) (c : KlCold) : (s.setCold c).lv = s.lv := by cases s; rfl
@[simp] theorem State.setCold_cores (s : State) (c : KlCold) : (s.setCold c).cores = s.cores := by cases s; rfl
@[simp] theorem State.setCold_pw (s : State) (c : KlCold) : (s.setCold c).pw = s.pw := by cases s; rfl
@[simp] theorem State.setCold_sv (s : State) (c : KlCold) : (s.setCold c).sv = s.sv := by cases s; rfl
@[simp] theorem State.setCold_jnl (s : State) (c : KlCold) : (s.setCold c).jnl = s.jnl := by cases s; rfl
@[simp] theorem State.setCold_ch (s : State) (c : KlCold) : (s.setCold c).ch = s.ch := by cases s; rfl
@[simp] theorem State.setCold_hs (s : State) (c : KlCold) : (s.setCold c).hs = s.hs := by cases s; rfl
@[simp] theorem State.setCold_lc (s : State) (c : KlCold) : (s.setCold c).lc = s.lc := by cases s; rfl
@[simp] theorem State.setCold_th (s : State) (c : KlCold) : (s.setCold c).th = s.th := by cases s; rfl
@[simp] theorem State.setCold_ax (s : State) (c : KlCold) : (s.setCold c).ax = s.ax := by cases s; rfl
@[simp] theorem State.setCold_so (s : State) (c : KlCold) : (s.setCold c).so = s.so := by cases s; rfl
@[simp] theorem State.setCold_fb (s : State) (c : KlCold) : (s.setCold c).fb = s.fb := by cases s; rfl
@[simp] theorem State.setCold_kn (s : State) (c : KlCold) : (s.setCold c).kn = s.kn := by cases s; rfl
@[simp] theorem State.setCold_mem (s : State) (c : KlCold) : (s.setCold c).mem = s.mem := by cases s; rfl
@[simp] theorem State.setCold_held (s : State) (c : KlCold) : (s.setCold c).held = s.held := by cases s; rfl
@[simp] theorem State.setCold_extRef (s : State) (c : KlCold) : (s.setCold c).extRef = s.extRef := by cases s; rfl
@[simp] theorem State.setCold_holds (s : State) (c : KlCold) : (s.setCold c).holds = s.holds := by cases s; rfl
@[simp] theorem State.setCold_latches (s : State) (c : KlCold) : (s.setCold c).latches = s.latches := by cases s; rfl
@[simp] theorem State.setCold_freeCount (s : State) (c : KlCold) : (s.setCold c).freeCount = s.freeCount := by cases s; rfl

@[simp] theorem State.setLoading_pending (s : State) (b : Bool) : (s.setLoading b).pending = s.pending := by cases s; rfl
@[simp] theorem State.setLoading_regs (s : State) (b : Bool) : (s.setLoading b).regs = s.regs := by cases s; rfl
@[simp] theorem State.setLoading_time (s : State) (b : Bool) : (s.setLoading b).time = s.time := by cases s; rfl
@[simp] theorem State.setLoading_cal (s : State) (b : Bool) : (s.setLoading b).cal = s.cal := by cases s; rfl
@[simp] theorem State.setLoading_cell (s : State) (b : Bool) : (s.setLoading b).cell = s.cell := by cases s; rfl
@[simp] theorem State.setLoading_lv (s : State) (b : Bool) : (s.setLoading b).lv = s.lv := by cases s; rfl
@[simp] theorem State.setLoading_cores (s : State) (b : Bool) : (s.setLoading b).cores = s.cores := by cases s; rfl
@[simp] theorem State.setLoading_pw (s : State) (b : Bool) : (s.setLoading b).pw = s.pw := by cases s; rfl
@[simp] theorem State.setLoading_sv (s : State) (b : Bool) : (s.setLoading b).sv = s.sv := by cases s; rfl
@[simp] theorem State.setLoading_ch (s : State) (b : Bool) : (s.setLoading b).ch = s.ch := by cases s; rfl
@[simp] theorem State.setLoading_hs (s : State) (b : Bool) : (s.setLoading b).hs = s.hs := by cases s; rfl
@[simp] theorem State.setLoading_lc (s : State) (b : Bool) : (s.setLoading b).lc = s.lc := by cases s; rfl
@[simp] theorem State.setLoading_kl (s : State) (b : Bool) : (s.setLoading b).kl = s.kl := by cases s; rfl
@[simp] theorem State.setLoading_th (s : State) (b : Bool) : (s.setLoading b).th = s.th := by cases s; rfl
@[simp] theorem State.setLoading_ax (s : State) (b : Bool) : (s.setLoading b).ax = s.ax := by cases s; rfl
@[simp] theorem State.setLoading_so (s : State) (b : Bool) : (s.setLoading b).so = s.so := by cases s; rfl
@[simp] theorem State.setLoading_fb (s : State) (b : Bool) : (s.setLoading b).fb = s.fb := by cases s; rfl
@[simp] theorem State.setLoading_kn (s : State) (b : Bool) : (s.setLoading b).kn = s.kn := by cases s; rfl
@[simp] theorem State.setLoading_mem (s : State) (b : Bool) : (s.setLoading b).mem = s.mem := by cases s; rfl
@[simp] theorem State.setLoading_held (s : State) (b : Bool) : (s.setLoading b).held = s.held := by cases s; rfl
@[simp] theorem State.setLoading_extRef (s : State) (b : Bool) : (s.setLoading b).extRef = s.extRef := by cases s; rfl
@[simp] theorem State.setLoading_holds (s : State) (b : Bool) : (s.setLoading b).holds = s.holds := by cases s; rfl
@[simp] theorem State.setLoading_latches (s : State) (b : Bool) : (s.setLoading b).latches = s.latches := by cases s; rfl
@[simp] theorem State.setLoading_freeCount (s : State) (b : Bool) : (s.setLoading b).freeCount = s.freeCount := by cases s; rfl

@[simp] theorem State.setChal_pending (s : State) (c : Option Nat) : (s.setChal c).pending = s.pending := by cases s; rfl
@[simp] theorem State.setChal_regs (s : State) (c : Option Nat) : (s.setChal c).regs = s.regs := by cases s; rfl
@[simp] theorem State.setChal_time (s : State) (c : Option Nat) : (s.setChal c).time = s.time := by cases s; rfl
@[simp] theorem State.setChal_cal (s : State) (c : Option Nat) : (s.setChal c).cal = s.cal := by cases s; rfl
@[simp] theorem State.setChal_cell (s : State) (c : Option Nat) : (s.setChal c).cell = s.cell := by cases s; rfl
@[simp] theorem State.setChal_lv (s : State) (c : Option Nat) : (s.setChal c).lv = s.lv := by cases s; rfl
@[simp] theorem State.setChal_cores (s : State) (c : Option Nat) : (s.setChal c).cores = s.cores := by cases s; rfl
@[simp] theorem State.setChal_pw (s : State) (c : Option Nat) : (s.setChal c).pw = s.pw := by cases s; rfl
@[simp] theorem State.setChal_sv (s : State) (c : Option Nat) : (s.setChal c).sv = s.sv := by cases s; rfl
@[simp] theorem State.setChal_jnl (s : State) (c : Option Nat) : (s.setChal c).jnl = s.jnl := by cases s; rfl
@[simp] theorem State.setChal_ch (s : State) (c : Option Nat) : (s.setChal c).ch = s.ch := by cases s; rfl
@[simp] theorem State.setChal_hs (s : State) (c : Option Nat) : (s.setChal c).hs = s.hs := by cases s; rfl
@[simp] theorem State.setChal_kl (s : State) (c : Option Nat) : (s.setChal c).kl = s.kl := by cases s; rfl
@[simp] theorem State.setChal_th (s : State) (c : Option Nat) : (s.setChal c).th = s.th := by cases s; rfl
@[simp] theorem State.setChal_ax (s : State) (c : Option Nat) : (s.setChal c).ax = s.ax := by cases s; rfl
@[simp] theorem State.setChal_so (s : State) (c : Option Nat) : (s.setChal c).so = s.so := by cases s; rfl
@[simp] theorem State.setChal_fb (s : State) (c : Option Nat) : (s.setChal c).fb = s.fb := by cases s; rfl
@[simp] theorem State.setChal_kn (s : State) (c : Option Nat) : (s.setChal c).kn = s.kn := by cases s; rfl
@[simp] theorem State.setChal_mem (s : State) (c : Option Nat) : (s.setChal c).mem = s.mem := by cases s; rfl
@[simp] theorem State.setChal_held (s : State) (c : Option Nat) : (s.setChal c).held = s.held := by cases s; rfl
@[simp] theorem State.setChal_extRef (s : State) (c : Option Nat) : (s.setChal c).extRef = s.extRef := by cases s; rfl
@[simp] theorem State.setChal_holds (s : State) (c : Option Nat) : (s.setChal c).holds = s.holds := by cases s; rfl
@[simp] theorem State.setChal_latches (s : State) (c : Option Nat) : (s.setChal c).latches = s.latches := by cases s; rfl
@[simp] theorem State.setChal_freeCount (s : State) (c : Option Nat) : (s.setChal c).freeCount = s.freeCount := by cases s; rfl

@[simp] theorem State.setAuthWait_pending (s : State) (t : Option Nat) : (s.setAuthWait t).pending = s.pending := by cases s; rfl
@[simp] theorem State.setAuthWait_regs (s : State) (t : Option Nat) : (s.setAuthWait t).regs = s.regs := by cases s; rfl
@[simp] theorem State.setAuthWait_time (s : State) (t : Option Nat) : (s.setAuthWait t).time = s.time := by cases s; rfl
@[simp] theorem State.setAuthWait_cal (s : State) (t : Option Nat) : (s.setAuthWait t).cal = s.cal := by cases s; rfl
@[simp] theorem State.setAuthWait_cell (s : State) (t : Option Nat) : (s.setAuthWait t).cell = s.cell := by cases s; rfl
@[simp] theorem State.setAuthWait_lv (s : State) (t : Option Nat) : (s.setAuthWait t).lv = s.lv := by cases s; rfl
@[simp] theorem State.setAuthWait_cores (s : State) (t : Option Nat) : (s.setAuthWait t).cores = s.cores := by cases s; rfl
@[simp] theorem State.setAuthWait_pw (s : State) (t : Option Nat) : (s.setAuthWait t).pw = s.pw := by cases s; rfl
@[simp] theorem State.setAuthWait_sv (s : State) (t : Option Nat) : (s.setAuthWait t).sv = s.sv := by cases s; rfl
@[simp] theorem State.setAuthWait_jnl (s : State) (t : Option Nat) : (s.setAuthWait t).jnl = s.jnl := by cases s; rfl
@[simp] theorem State.setAuthWait_ch (s : State) (t : Option Nat) : (s.setAuthWait t).ch = s.ch := by cases s; rfl
@[simp] theorem State.setAuthWait_hs (s : State) (t : Option Nat) : (s.setAuthWait t).hs = s.hs := by cases s; rfl
@[simp] theorem State.setAuthWait_kl (s : State) (t : Option Nat) : (s.setAuthWait t).kl = s.kl := by cases s; rfl
@[simp] theorem State.setAuthWait_th (s : State) (t : Option Nat) : (s.setAuthWait t).th = s.th := by cases s; rfl
@[simp] theorem State.setAuthWait_ax (s : State) (t : Option Nat) : (s.setAuthWait t).ax = s.ax := by cases s; rfl
@[simp] theorem State.setAuthWait_so (s : State) (t : Option Nat) : (s.setAuthWait t).so = s.so := by cases s; rfl
@[simp] theorem State.setAuthWait_fb (s : State) (t : Option Nat) : (s.setAuthWait t).fb = s.fb := by cases s; rfl
@[simp] theorem State.setAuthWait_kn (s : State) (t : Option Nat) : (s.setAuthWait t).kn = s.kn := by cases s; rfl
@[simp] theorem State.setAuthWait_mem (s : State) (t : Option Nat) : (s.setAuthWait t).mem = s.mem := by cases s; rfl
@[simp] theorem State.setAuthWait_held (s : State) (t : Option Nat) : (s.setAuthWait t).held = s.held := by cases s; rfl
@[simp] theorem State.setAuthWait_extRef (s : State) (t : Option Nat) : (s.setAuthWait t).extRef = s.extRef := by cases s; rfl
@[simp] theorem State.setAuthWait_holds (s : State) (t : Option Nat) : (s.setAuthWait t).holds = s.holds := by cases s; rfl
@[simp] theorem State.setAuthWait_latches (s : State) (t : Option Nat) : (s.setAuthWait t).latches = s.latches := by cases s; rfl
@[simp] theorem State.setAuthWait_freeCount (s : State) (t : Option Nat) : (s.setAuthWait t).freeCount = s.freeCount := by cases s; rfl

@[simp] theorem State.dramWrite_pending (s : State) (a : Nat) (bs : List Byte) : (s.dramWrite a bs).pending = s.pending := by cases s; rfl
@[simp] theorem State.dramWrite_regs (s : State) (a : Nat) (bs : List Byte) : (s.dramWrite a bs).regs = s.regs := by cases s; rfl
@[simp] theorem State.dramWrite_time (s : State) (a : Nat) (bs : List Byte) : (s.dramWrite a bs).time = s.time := by cases s; rfl
@[simp] theorem State.dramWrite_cal (s : State) (a : Nat) (bs : List Byte) : (s.dramWrite a bs).cal = s.cal := by cases s; rfl
@[simp] theorem State.dramWrite_cell (s : State) (a : Nat) (bs : List Byte) : (s.dramWrite a bs).cell = s.cell := by cases s; rfl
@[simp] theorem State.dramWrite_lv (s : State) (a : Nat) (bs : List Byte) : (s.dramWrite a bs).lv = s.lv := by cases s; rfl
@[simp] theorem State.dramWrite_cores (s : State) (a : Nat) (bs : List Byte) : (s.dramWrite a bs).cores = s.cores := by cases s; rfl
@[simp] theorem State.dramWrite_pw (s : State) (a : Nat) (bs : List Byte) : (s.dramWrite a bs).pw = s.pw := by cases s; rfl
@[simp] theorem State.dramWrite_sv (s : State) (a : Nat) (bs : List Byte) : (s.dramWrite a bs).sv = s.sv := by cases s; rfl
@[simp] theorem State.dramWrite_jnl (s : State) (a : Nat) (bs : List Byte) : (s.dramWrite a bs).jnl = s.jnl := by cases s; rfl
@[simp] theorem State.dramWrite_ch (s : State) (a : Nat) (bs : List Byte) : (s.dramWrite a bs).ch = s.ch := by cases s; rfl
@[simp] theorem State.dramWrite_hs (s : State) (a : Nat) (bs : List Byte) : (s.dramWrite a bs).hs = s.hs := by cases s; rfl
@[simp] theorem State.dramWrite_lc (s : State) (a : Nat) (bs : List Byte) : (s.dramWrite a bs).lc = s.lc := by cases s; rfl
@[simp] theorem State.dramWrite_kl (s : State) (a : Nat) (bs : List Byte) : (s.dramWrite a bs).kl = s.kl := by cases s; rfl
@[simp] theorem State.dramWrite_th (s : State) (a : Nat) (bs : List Byte) : (s.dramWrite a bs).th = s.th := by cases s; rfl
@[simp] theorem State.dramWrite_ax (s : State) (a : Nat) (bs : List Byte) : (s.dramWrite a bs).ax = s.ax := by cases s; rfl
@[simp] theorem State.dramWrite_so (s : State) (a : Nat) (bs : List Byte) : (s.dramWrite a bs).so = s.so := by cases s; rfl
@[simp] theorem State.dramWrite_fb (s : State) (a : Nat) (bs : List Byte) : (s.dramWrite a bs).fb = s.fb := by cases s; rfl
@[simp] theorem State.dramWrite_kn (s : State) (a : Nat) (bs : List Byte) : (s.dramWrite a bs).kn = s.kn := by cases s; rfl
@[simp] theorem State.dramWrite_held (s : State) (a : Nat) (bs : List Byte) : (s.dramWrite a bs).held = s.held := by cases s; rfl
@[simp] theorem State.dramWrite_extRef (s : State) (a : Nat) (bs : List Byte) : (s.dramWrite a bs).extRef = s.extRef := by cases s; rfl
@[simp] theorem State.dramWrite_holds (s : State) (a : Nat) (bs : List Byte) : (s.dramWrite a bs).holds = s.holds := by cases s; rfl
@[simp] theorem State.dramWrite_latches (s : State) (a : Nat) (bs : List Byte) : (s.dramWrite a bs).latches = s.latches := by cases s; rfl
@[simp] theorem State.dramWrite_freeCount (s : State) (a : Nat) (bs : List Byte) : (s.dramWrite a bs).freeCount = s.freeCount := by cases s; rfl

@[simp] theorem State.ptTouched_pending (s : State) : (s.ptTouched).pending = s.pending := by cases s; rfl
@[simp] theorem State.ptTouched_regs (s : State) : (s.ptTouched).regs = s.regs := by cases s; rfl
@[simp] theorem State.ptTouched_cal (s : State) : (s.ptTouched).cal = s.cal := by cases s; rfl
@[simp] theorem State.ptTouched_cell (s : State) : (s.ptTouched).cell = s.cell := by cases s; rfl
@[simp] theorem State.ptTouched_lv (s : State) : (s.ptTouched).lv = s.lv := by cases s; rfl
@[simp] theorem State.ptTouched_cores (s : State) : (s.ptTouched).cores = s.cores := by cases s; rfl
@[simp] theorem State.ptTouched_pw (s : State) : (s.ptTouched).pw = s.pw := by cases s; rfl
@[simp] theorem State.ptTouched_sv (s : State) : (s.ptTouched).sv = s.sv := by cases s; rfl
@[simp] theorem State.ptTouched_jnl (s : State) : (s.ptTouched).jnl = s.jnl := by cases s; rfl
@[simp] theorem State.ptTouched_ch (s : State) : (s.ptTouched).ch = s.ch := by cases s; rfl
@[simp] theorem State.ptTouched_hs (s : State) : (s.ptTouched).hs = s.hs := by cases s; rfl
@[simp] theorem State.ptTouched_lc (s : State) : (s.ptTouched).lc = s.lc := by cases s; rfl
@[simp] theorem State.ptTouched_kl (s : State) : (s.ptTouched).kl = s.kl := by cases s; rfl
@[simp] theorem State.ptTouched_th (s : State) : (s.ptTouched).th = s.th := by cases s; rfl
@[simp] theorem State.ptTouched_ax (s : State) : (s.ptTouched).ax = s.ax := by cases s; rfl
@[simp] theorem State.ptTouched_so (s : State) : (s.ptTouched).so = s.so := by cases s; rfl
@[simp] theorem State.ptTouched_fb (s : State) : (s.ptTouched).fb = s.fb := by cases s; rfl
@[simp] theorem State.ptTouched_kn (s : State) : (s.ptTouched).kn = s.kn := by cases s; rfl
@[simp] theorem State.ptTouched_mem (s : State) : (s.ptTouched).mem = s.mem := by cases s; rfl
@[simp] theorem State.ptTouched_held (s : State) : (s.ptTouched).held = s.held := by cases s; rfl
@[simp] theorem State.ptTouched_extRef (s : State) : (s.ptTouched).extRef = s.extRef := by cases s; rfl
@[simp] theorem State.ptTouched_holds (s : State) : (s.ptTouched).holds = s.holds := by cases s; rfl
@[simp] theorem State.ptTouched_latches (s : State) : (s.ptTouched).latches = s.latches := by cases s; rfl
@[simp] theorem State.ptTouched_freeCount (s : State) : (s.ptTouched).freeCount = s.freeCount := by cases s; rfl

@[simp] theorem State.setBootWait_pending (s : State) (w : Option (Nat × Nat)) : (s.setBootWait w).pending = s.pending := by cases s; rfl
@[simp] theorem State.setBootWait_regs (s : State) (w : Option (Nat × Nat)) : (s.setBootWait w).regs = s.regs := by cases s; rfl
@[simp] theorem State.setBootWait_time (s : State) (w : Option (Nat × Nat)) : (s.setBootWait w).time = s.time := by cases s; rfl
@[simp] theorem State.setBootWait_cal (s : State) (w : Option (Nat × Nat)) : (s.setBootWait w).cal = s.cal := by cases s; rfl
@[simp] theorem State.setBootWait_cell (s : State) (w : Option (Nat × Nat)) : (s.setBootWait w).cell = s.cell := by cases s; rfl
@[simp] theorem State.setBootWait_lv (s : State) (w : Option (Nat × Nat)) : (s.setBootWait w).lv = s.lv := by cases s; rfl
@[simp] theorem State.setBootWait_cores (s : State) (w : Option (Nat × Nat)) : (s.setBootWait w).cores = s.cores := by cases s; rfl
@[simp] theorem State.setBootWait_pw (s : State) (w : Option (Nat × Nat)) : (s.setBootWait w).pw = s.pw := by cases s; rfl
@[simp] theorem State.setBootWait_sv (s : State) (w : Option (Nat × Nat)) : (s.setBootWait w).sv = s.sv := by cases s; rfl
@[simp] theorem State.setBootWait_jnl (s : State) (w : Option (Nat × Nat)) : (s.setBootWait w).jnl = s.jnl := by cases s; rfl
@[simp] theorem State.setBootWait_ch (s : State) (w : Option (Nat × Nat)) : (s.setBootWait w).ch = s.ch := by cases s; rfl
@[simp] theorem State.setBootWait_lc (s : State) (w : Option (Nat × Nat)) : (s.setBootWait w).lc = s.lc := by cases s; rfl
@[simp] theorem State.setBootWait_kl (s : State) (w : Option (Nat × Nat)) : (s.setBootWait w).kl = s.kl := by cases s; rfl
@[simp] theorem State.setBootWait_th (s : State) (w : Option (Nat × Nat)) : (s.setBootWait w).th = s.th := by cases s; rfl
@[simp] theorem State.setBootWait_ax (s : State) (w : Option (Nat × Nat)) : (s.setBootWait w).ax = s.ax := by cases s; rfl
@[simp] theorem State.setBootWait_so (s : State) (w : Option (Nat × Nat)) : (s.setBootWait w).so = s.so := by cases s; rfl
@[simp] theorem State.setBootWait_fb (s : State) (w : Option (Nat × Nat)) : (s.setBootWait w).fb = s.fb := by cases s; rfl
@[simp] theorem State.setBootWait_kn (s : State) (w : Option (Nat × Nat)) : (s.setBootWait w).kn = s.kn := by cases s; rfl
@[simp] theorem State.setBootWait_mem (s : State) (w : Option (Nat × Nat)) : (s.setBootWait w).mem = s.mem := by cases s; rfl
@[simp] theorem State.setBootWait_held (s : State) (w : Option (Nat × Nat)) : (s.setBootWait w).held = s.held := by cases s; rfl
@[simp] theorem State.setBootWait_extRef (s : State) (w : Option (Nat × Nat)) : (s.setBootWait w).extRef = s.extRef := by cases s; rfl
@[simp] theorem State.setBootWait_holds (s : State) (w : Option (Nat × Nat)) : (s.setBootWait w).holds = s.holds := by cases s; rfl
@[simp] theorem State.setBootWait_latches (s : State) (w : Option (Nat × Nat)) : (s.setBootWait w).latches = s.latches := by cases s; rfl
@[simp] theorem State.setBootWait_freeCount (s : State) (w : Option (Nat × Nat)) : (s.setBootWait w).freeCount = s.freeCount := by cases s; rfl

@[simp] theorem State.setCtReached_pending (s : State) (x : Option Nat) : (s.setCtReached x).pending = s.pending := by cases s; rfl
@[simp] theorem State.setCtReached_regs (s : State) (x : Option Nat) : (s.setCtReached x).regs = s.regs := by cases s; rfl
@[simp] theorem State.setCtReached_time (s : State) (x : Option Nat) : (s.setCtReached x).time = s.time := by cases s; rfl
@[simp] theorem State.setCtReached_cal (s : State) (x : Option Nat) : (s.setCtReached x).cal = s.cal := by cases s; rfl
@[simp] theorem State.setCtReached_cell (s : State) (x : Option Nat) : (s.setCtReached x).cell = s.cell := by cases s; rfl
@[simp] theorem State.setCtReached_lv (s : State) (x : Option Nat) : (s.setCtReached x).lv = s.lv := by cases s; rfl
@[simp] theorem State.setCtReached_cores (s : State) (x : Option Nat) : (s.setCtReached x).cores = s.cores := by cases s; rfl
@[simp] theorem State.setCtReached_sv (s : State) (x : Option Nat) : (s.setCtReached x).sv = s.sv := by cases s; rfl
@[simp] theorem State.setCtReached_jnl (s : State) (x : Option Nat) : (s.setCtReached x).jnl = s.jnl := by cases s; rfl
@[simp] theorem State.setCtReached_ch (s : State) (x : Option Nat) : (s.setCtReached x).ch = s.ch := by cases s; rfl
@[simp] theorem State.setCtReached_hs (s : State) (x : Option Nat) : (s.setCtReached x).hs = s.hs := by cases s; rfl
@[simp] theorem State.setCtReached_lc (s : State) (x : Option Nat) : (s.setCtReached x).lc = s.lc := by cases s; rfl
@[simp] theorem State.setCtReached_kl (s : State) (x : Option Nat) : (s.setCtReached x).kl = s.kl := by cases s; rfl
@[simp] theorem State.setCtReached_th (s : State) (x : Option Nat) : (s.setCtReached x).th = s.th := by cases s; rfl
@[simp] theorem State.setCtReached_ax (s : State) (x : Option Nat) : (s.setCtReached x).ax = s.ax := by cases s; rfl
@[simp] theorem State.setCtReached_so (s : State) (x : Option Nat) : (s.setCtReached x).so = s.so := by cases s; rfl
@[simp] theorem State.setCtReached_fb (s : State) (x : Option Nat) : (s.setCtReached x).fb = s.fb := by cases s; rfl
@[simp] theorem State.setCtReached_kn (s : State) (x : Option Nat) : (s.setCtReached x).kn = s.kn := by cases s; rfl
@[simp] theorem State.setCtReached_mem (s : State) (x : Option Nat) : (s.setCtReached x).mem = s.mem := by cases s; rfl
@[simp] theorem State.setCtReached_held (s : State) (x : Option Nat) : (s.setCtReached x).held = s.held := by cases s; rfl
@[simp] theorem State.setCtReached_extRef (s : State) (x : Option Nat) : (s.setCtReached x).extRef = s.extRef := by cases s; rfl
@[simp] theorem State.setCtReached_holds (s : State) (x : Option Nat) : (s.setCtReached x).holds = s.holds := by cases s; rfl
@[simp] theorem State.setCtReached_latches (s : State) (x : Option Nat) : (s.setCtReached x).latches = s.latches := by cases s; rfl
@[simp] theorem State.setCtReached_freeCount (s : State) (x : Option Nat) : (s.setCtReached x).freeCount = s.freeCount := by cases s; rfl

end Sys2Proof.Machine
end

