-- ==== Sys2Proof/Laws/Frames.lean ====
section
/-!
SUPPORT. What the shared operations leave alone: one lemma per operation and field of the state it does not touch.
-/

namespace Sys2Proof.Machine

theorem foldl_keeps {α β γ : Type} (g : β → γ) (f : β → α → β) (l : List α) (s : β) (h : ∀ t a, g (f t a) = g t) :
    g (l.foldl f s) = g s := by
  induction l generalizing s with
  | nil => rfl
  | cons a l ih => rw [List.foldl_cons, ih, h]

theorem forEach_keeps {α γ : Type} (g : State → γ) (s : State) (l : List α) (f : α → State → State)
    (h : ∀ a t, g (f a t) = g t) : g (s.forEach l f) = g s := foldl_keeps g _ l s (fun t a => h a t)

@[simp] theorem State.pendVector_pending (s : State) (v : Nat) :
    (s.pendVector v).pending = s.pending := by
  unfold State.pendVector
  (try dsimp only)
  repeat' split
  all_goals simp
@[simp] theorem State.pendVector_cal (s : State) (v : Nat) :
    (s.pendVector v).cal = s.cal := by
  unfold State.pendVector
  (try dsimp only)
  repeat' split
  all_goals simp
@[simp] theorem State.pendVector_cell (s : State) (v : Nat) :
    (s.pendVector v).cell = s.cell := by
  unfold State.pendVector
  (try dsimp only)
  repeat' split
  all_goals simp
@[simp] theorem State.pendVector_lv (s : State) (v : Nat) :
    (s.pendVector v).lv = s.lv := by
  unfold State.pendVector
  (try dsimp only)
  repeat' split
  all_goals simp
@[simp] theorem State.pendVector_cores (s : State) (v : Nat) :
    (s.pendVector v).cores = s.cores := by
  unfold State.pendVector
  (try dsimp only)
  repeat' split
  all_goals simp
@[simp] theorem State.pendVector_pw (s : State) (v : Nat) :
    (s.pendVector v).pw = s.pw := by
  unfold State.pendVector
  (try dsimp only)
  repeat' split
  all_goals simp
@[simp] theorem State.pendVector_sv (s : State) (v : Nat) :
    (s.pendVector v).sv = s.sv := by
  unfold State.pendVector
  (try dsimp only)
  repeat' split
  all_goals simp
@[simp] theorem State.pendVector_jnl (s : State) (v : Nat) :
    (s.pendVector v).jnl = s.jnl := by
  unfold State.pendVector
  (try dsimp only)
  repeat' split
  all_goals simp
@[simp] theorem State.pendVector_ch (s : State) (v : Nat) :
    (s.pendVector v).ch = s.ch := by
  unfold State.pendVector
  (try dsimp only)
  repeat' split
  all_goals simp
@[simp] theorem State.pendVector_lc (s : State) (v : Nat) :
    (s.pendVector v).lc = s.lc := by
  unfold State.pendVector
  (try dsimp only)
  repeat' split
  all_goals simp
@[simp] theorem State.pendVector_kl (s : State) (v : Nat) :
    (s.pendVector v).kl = s.kl := by
  unfold State.pendVector
  (try dsimp only)
  repeat' split
  all_goals simp
@[simp] theorem State.pendVector_th (s : State) (v : Nat) :
    (s.pendVector v).th = s.th := by
  unfold State.pendVector
  (try dsimp only)
  repeat' split
  all_goals simp
@[simp] theorem State.pendVector_ax (s : State) (v : Nat) :
    (s.pendVector v).ax = s.ax := by
  unfold State.pendVector
  (try dsimp only)
  repeat' split
  all_goals simp
@[simp] theorem State.pendVector_so (s : State) (v : Nat) :
    (s.pendVector v).so = s.so := by
  unfold State.pendVector
  (try dsimp only)
  repeat' split
  all_goals simp
@[simp] theorem State.pendVector_fb (s : State) (v : Nat) :
    (s.pendVector v).fb = s.fb := by
  unfold State.pendVector
  (try dsimp only)
  repeat' split
  all_goals simp
@[simp] theorem State.pendVector_kn (s : State) (v : Nat) :
    (s.pendVector v).kn = s.kn := by
  unfold State.pendVector
  (try dsimp only)
  repeat' split
  all_goals simp
@[simp] theorem State.pendVector_mem (s : State) (v : Nat) :
    (s.pendVector v).mem = s.mem := by
  unfold State.pendVector
  (try dsimp only)
  repeat' split
  all_goals simp
@[simp] theorem State.pendVector_held (s : State) (v : Nat) :
    (s.pendVector v).held = s.held := by
  unfold State.pendVector
  (try dsimp only)
  repeat' split
  all_goals simp
@[simp] theorem State.pendVector_extRef (s : State) (v : Nat) :
    (s.pendVector v).extRef = s.extRef := by
  unfold State.pendVector
  (try dsimp only)
  repeat' split
  all_goals simp
@[simp] theorem State.pendVector_holds (s : State) (v : Nat) :
    (s.pendVector v).holds = s.holds := by
  unfold State.pendVector
  (try dsimp only)
  repeat' split
  all_goals simp
@[simp] theorem State.pendVector_latches (s : State) (v : Nat) :
    (s.pendVector v).latches = s.latches := by
  unfold State.pendVector
  (try dsimp only)
  repeat' split
  all_goals simp
@[simp] theorem State.pendVector_freeCount (s : State) (v : Nat) :
    (s.pendVector v).freeCount = s.freeCount := by
  unfold State.pendVector
  (try dsimp only)
  repeat' split
  all_goals simp

@[simp] theorem State.vectorEvent_pending (s : State) (src : Nat) (cls : Nat) :
    (s.vectorEvent src cls).pending = s.pending := by
  unfold State.vectorEvent
  split
  · exact foldl_keeps State.pending _ _ s (fun t a => by split <;> simp)
  · rfl
@[simp] theorem State.vectorEvent_cal (s : State) (src : Nat) (cls : Nat) :
    (s.vectorEvent src cls).cal = s.cal := by
  unfold State.vectorEvent
  split
  · exact foldl_keeps State.cal _ _ s (fun t a => by split <;> simp)
  · rfl
@[simp] theorem State.vectorEvent_cell (s : State) (src : Nat) (cls : Nat) :
    (s.vectorEvent src cls).cell = s.cell := by
  unfold State.vectorEvent
  split
  · exact foldl_keeps State.cell _ _ s (fun t a => by split <;> simp)
  · rfl
@[simp] theorem State.vectorEvent_lv (s : State) (src : Nat) (cls : Nat) :
    (s.vectorEvent src cls).lv = s.lv := by
  unfold State.vectorEvent
  split
  · exact foldl_keeps State.lv _ _ s (fun t a => by split <;> simp)
  · rfl
@[simp] theorem State.vectorEvent_cores (s : State) (src : Nat) (cls : Nat) :
    (s.vectorEvent src cls).cores = s.cores := by
  unfold State.vectorEvent
  split
  · exact foldl_keeps State.cores _ _ s (fun t a => by split <;> simp)
  · rfl
@[simp] theorem State.vectorEvent_pw (s : State) (src : Nat) (cls : Nat) :
    (s.vectorEvent src cls).pw = s.pw := by
  unfold State.vectorEvent
  split
  · exact foldl_keeps State.pw _ _ s (fun t a => by split <;> simp)
  · rfl
@[simp] theorem State.vectorEvent_sv (s : State) (src : Nat) (cls : Nat) :
    (s.vectorEvent src cls).sv = s.sv := by
  unfold State.vectorEvent
  split
  · exact foldl_keeps State.sv _ _ s (fun t a => by split <;> simp)
  · rfl
@[simp] theorem State.vectorEvent_jnl (s : State) (src : Nat) (cls : Nat) :
    (s.vectorEvent src cls).jnl = s.jnl := by
  unfold State.vectorEvent
  split
  · exact foldl_keeps State.jnl _ _ s (fun t a => by split <;> simp)
  · rfl
@[simp] theorem State.vectorEvent_ch (s : State) (src : Nat) (cls : Nat) :
    (s.vectorEvent src cls).ch = s.ch := by
  unfold State.vectorEvent
  split
  · exact foldl_keeps State.ch _ _ s (fun t a => by split <;> simp)
  · rfl
@[simp] theorem State.vectorEvent_lc (s : State) (src : Nat) (cls : Nat) :
    (s.vectorEvent src cls).lc = s.lc := by
  unfold State.vectorEvent
  split
  · exact foldl_keeps State.lc _ _ s (fun t a => by split <;> simp)
  · rfl
@[simp] theorem State.vectorEvent_kl (s : State) (src : Nat) (cls : Nat) :
    (s.vectorEvent src cls).kl = s.kl := by
  unfold State.vectorEvent
  split
  · exact foldl_keeps State.kl _ _ s (fun t a => by split <;> simp)
  · rfl
@[simp] theorem State.vectorEvent_th (s : State) (src : Nat) (cls : Nat) :
    (s.vectorEvent src cls).th = s.th := by
  unfold State.vectorEvent
  split
  · exact foldl_keeps State.th _ _ s (fun t a => by split <;> simp)
  · rfl
@[simp] theorem State.vectorEvent_ax (s : State) (src : Nat) (cls : Nat) :
    (s.vectorEvent src cls).ax = s.ax := by
  unfold State.vectorEvent
  split
  · exact foldl_keeps State.ax _ _ s (fun t a => by split <;> simp)
  · rfl
@[simp] theorem State.vectorEvent_so (s : State) (src : Nat) (cls : Nat) :
    (s.vectorEvent src cls).so = s.so := by
  unfold State.vectorEvent
  split
  · exact foldl_keeps State.so _ _ s (fun t a => by split <;> simp)
  · rfl
@[simp] theorem State.vectorEvent_fb (s : State) (src : Nat) (cls : Nat) :
    (s.vectorEvent src cls).fb = s.fb := by
  unfold State.vectorEvent
  split
  · exact foldl_keeps State.fb _ _ s (fun t a => by split <;> simp)
  · rfl
@[simp] theorem State.vectorEvent_kn (s : State) (src : Nat) (cls : Nat) :
    (s.vectorEvent src cls).kn = s.kn := by
  unfold State.vectorEvent
  split
  · exact foldl_keeps State.kn _ _ s (fun t a => by split <;> simp)
  · rfl
@[simp] theorem State.vectorEvent_mem (s : State) (src : Nat) (cls : Nat) :
    (s.vectorEvent src cls).mem = s.mem := by
  unfold State.vectorEvent
  split
  · exact foldl_keeps State.mem _ _ s (fun t a => by split <;> simp)
  · rfl
@[simp] theorem State.vectorEvent_held (s : State) (src : Nat) (cls : Nat) :
    (s.vectorEvent src cls).held = s.held := by
  unfold State.vectorEvent
  split
  · exact foldl_keeps State.held _ _ s (fun t a => by split <;> simp)
  · rfl
@[simp] theorem State.vectorEvent_extRef (s : State) (src : Nat) (cls : Nat) :
    (s.vectorEvent src cls).extRef = s.extRef := by
  unfold State.vectorEvent
  split
  · exact foldl_keeps State.extRef _ _ s (fun t a => by split <;> simp)
  · rfl
@[simp] theorem State.vectorEvent_holds (s : State) (src : Nat) (cls : Nat) :
    (s.vectorEvent src cls).holds = s.holds := by
  unfold State.vectorEvent
  split
  · exact foldl_keeps State.holds _ _ s (fun t a => by split <;> simp)
  · rfl
@[simp] theorem State.vectorEvent_latches (s : State) (src : Nat) (cls : Nat) :
    (s.vectorEvent src cls).latches = s.latches := by
  unfold State.vectorEvent
  split
  · exact foldl_keeps State.latches _ _ s (fun t a => by split <;> simp)
  · rfl
@[simp] theorem State.vectorEvent_freeCount (s : State) (src : Nat) (cls : Nat) :
    (s.vectorEvent src cls).freeCount = s.freeCount := by
  unfold State.vectorEvent
  split
  · exact foldl_keeps State.freeCount _ _ s (fun t a => by split <;> simp)
  · rfl

@[simp] theorem State.journal_pending (s : State) (ev : Nat) (blk : Nat) (code : Nat) (cls : Nat) (detail : List Nat) :
    (s.journal ev blk code cls detail).pending = s.pending := by
  unfold State.journal
  (try dsimp only)
  repeat' split
  all_goals simp
@[simp] theorem State.journal_cal (s : State) (ev : Nat) (blk : Nat) (code : Nat) (cls : Nat) (detail : List Nat) :
    (s.journal ev blk code cls detail).cal = s.cal := by
  unfold State.journal
  (try dsimp only)
  repeat' split
  all_goals simp
@[simp] theorem State.journal_cell (s : State) (ev : Nat) (blk : Nat) (code : Nat) (cls : Nat) (detail : List Nat) :
    (s.journal ev blk code cls detail).cell = s.cell := by
  unfold State.journal
  (try dsimp only)
  repeat' split
  all_goals simp
@[simp] theorem State.journal_lv (s : State) (ev : Nat) (blk : Nat) (code : Nat) (cls : Nat) (detail : List Nat) :
    (s.journal ev blk code cls detail).lv = s.lv := by
  unfold State.journal
  (try dsimp only)
  repeat' split
  all_goals simp
@[simp] theorem State.journal_cores (s : State) (ev : Nat) (blk : Nat) (code : Nat) (cls : Nat) (detail : List Nat) :
    (s.journal ev blk code cls detail).cores = s.cores := by
  unfold State.journal
  (try dsimp only)
  repeat' split
  all_goals simp
@[simp] theorem State.journal_pw (s : State) (ev : Nat) (blk : Nat) (code : Nat) (cls : Nat) (detail : List Nat) :
    (s.journal ev blk code cls detail).pw = s.pw := by
  unfold State.journal
  (try dsimp only)
  repeat' split
  all_goals simp
@[simp] theorem State.journal_sv (s : State) (ev : Nat) (blk : Nat) (code : Nat) (cls : Nat) (detail : List Nat) :
    (s.journal ev blk code cls detail).sv = s.sv := by
  unfold State.journal
  (try dsimp only)
  repeat' split
  all_goals simp
@[simp] theorem State.journal_ch (s : State) (ev : Nat) (blk : Nat) (code : Nat) (cls : Nat) (detail : List Nat) :
    (s.journal ev blk code cls detail).ch = s.ch := by
  unfold State.journal
  (try dsimp only)
  repeat' split
  all_goals simp
@[simp] theorem State.journal_lc (s : State) (ev : Nat) (blk : Nat) (code : Nat) (cls : Nat) (detail : List Nat) :
    (s.journal ev blk code cls detail).lc = s.lc := by
  unfold State.journal
  (try dsimp only)
  repeat' split
  all_goals simp
@[simp] theorem State.journal_kl (s : State) (ev : Nat) (blk : Nat) (code : Nat) (cls : Nat) (detail : List Nat) :
    (s.journal ev blk code cls detail).kl = s.kl := by
  unfold State.journal
  (try dsimp only)
  repeat' split
  all_goals simp
@[simp] theorem State.journal_th (s : State) (ev : Nat) (blk : Nat) (code : Nat) (cls : Nat) (detail : List Nat) :
    (s.journal ev blk code cls detail).th = s.th := by
  unfold State.journal
  (try dsimp only)
  repeat' split
  all_goals simp
@[simp] theorem State.journal_ax (s : State) (ev : Nat) (blk : Nat) (code : Nat) (cls : Nat) (detail : List Nat) :
    (s.journal ev blk code cls detail).ax = s.ax := by
  unfold State.journal
  (try dsimp only)
  repeat' split
  all_goals simp
@[simp] theorem State.journal_so (s : State) (ev : Nat) (blk : Nat) (code : Nat) (cls : Nat) (detail : List Nat) :
    (s.journal ev blk code cls detail).so = s.so := by
  unfold State.journal
  (try dsimp only)
  repeat' split
  all_goals simp
@[simp] theorem State.journal_fb (s : State) (ev : Nat) (blk : Nat) (code : Nat) (cls : Nat) (detail : List Nat) :
    (s.journal ev blk code cls detail).fb = s.fb := by
  unfold State.journal
  (try dsimp only)
  repeat' split
  all_goals simp
@[simp] theorem State.journal_kn (s : State) (ev : Nat) (blk : Nat) (code : Nat) (cls : Nat) (detail : List Nat) :
    (s.journal ev blk code cls detail).kn = s.kn := by
  unfold State.journal
  (try dsimp only)
  repeat' split
  all_goals simp
@[simp] theorem State.journal_mem (s : State) (ev : Nat) (blk : Nat) (code : Nat) (cls : Nat) (detail : List Nat) :
    (s.journal ev blk code cls detail).mem = s.mem := by
  unfold State.journal
  (try dsimp only)
  repeat' split
  all_goals simp
@[simp] theorem State.journal_held (s : State) (ev : Nat) (blk : Nat) (code : Nat) (cls : Nat) (detail : List Nat) :
    (s.journal ev blk code cls detail).held = s.held := by
  unfold State.journal
  (try dsimp only)
  repeat' split
  all_goals simp
@[simp] theorem State.journal_extRef (s : State) (ev : Nat) (blk : Nat) (code : Nat) (cls : Nat) (detail : List Nat) :
    (s.journal ev blk code cls detail).extRef = s.extRef := by
  unfold State.journal
  (try dsimp only)
  repeat' split
  all_goals simp
@[simp] theorem State.journal_holds (s : State) (ev : Nat) (blk : Nat) (code : Nat) (cls : Nat) (detail : List Nat) :
    (s.journal ev blk code cls detail).holds = s.holds := by
  unfold State.journal
  (try dsimp only)
  repeat' split
  all_goals simp
@[simp] theorem State.journal_latches (s : State) (ev : Nat) (blk : Nat) (code : Nat) (cls : Nat) (detail : List Nat) :
    (s.journal ev blk code cls detail).latches = s.latches := by
  unfold State.journal
  (try dsimp only)
  repeat' split
  all_goals simp
@[simp] theorem State.journal_freeCount (s : State) (ev : Nat) (blk : Nat) (code : Nat) (cls : Nat) (detail : List Nat) :
    (s.journal ev blk code cls detail).freeCount = s.freeCount := by
  unfold State.journal
  (try dsimp only)
  repeat' split
  all_goals simp

@[simp] theorem State.recordRefusal_pending (s : State) (blk : Nat) (code : Nat) (q : Requester) (adr : Nat) :
    (s.recordRefusal blk code q adr).pending = s.pending := by
  simp [State.recordRefusal]
@[simp] theorem State.recordRefusal_time (s : State) (blk : Nat) (code : Nat) (q : Requester) (adr : Nat) :
    (s.recordRefusal blk code q adr).time = s.time := by
  simp [State.recordRefusal]
@[simp] theorem State.recordRefusal_cal (s : State) (blk : Nat) (code : Nat) (q : Requester) (adr : Nat) :
    (s.recordRefusal blk code q adr).cal = s.cal := by
  simp [State.recordRefusal]
@[simp] theorem State.recordRefusal_cell (s : State) (blk : Nat) (code : Nat) (q : Requester) (adr : Nat) :
    (s.recordRefusal blk code q adr).cell = s.cell := by
  simp [State.recordRefusal]
@[simp] theorem State.recordRefusal_lv (s : State) (blk : Nat) (code : Nat) (q : Requester) (adr : Nat) :
    (s.recordRefusal blk code q adr).lv = s.lv := by
  simp [State.recordRefusal]
@[simp] theorem State.recordRefusal_cores (s : State) (blk : Nat) (code : Nat) (q : Requester) (adr : Nat) :
    (s.recordRefusal blk code q adr).cores = s.cores := by
  simp [State.recordRefusal]
@[simp] theorem State.recordRefusal_pw (s : State) (blk : Nat) (code : Nat) (q : Requester) (adr : Nat) :
    (s.recordRefusal blk code q adr).pw = s.pw := by
  simp [State.recordRefusal]
@[simp] theorem State.recordRefusal_sv (s : State) (blk : Nat) (code : Nat) (q : Requester) (adr : Nat) :
    (s.recordRefusal blk code q adr).sv = s.sv := by
  simp [State.recordRefusal]
@[simp] theorem State.recordRefusal_jnl (s : State) (blk : Nat) (code : Nat) (q : Requester) (adr : Nat) :
    (s.recordRefusal blk code q adr).jnl = s.jnl := by
  simp [State.recordRefusal]
@[simp] theorem State.recordRefusal_ch (s : State) (blk : Nat) (code : Nat) (q : Requester) (adr : Nat) :
    (s.recordRefusal blk code q adr).ch = s.ch := by
  simp [State.recordRefusal]
@[simp] theorem State.recordRefusal_hs (s : State) (blk : Nat) (code : Nat) (q : Requester) (adr : Nat) :
    (s.recordRefusal blk code q adr).hs = s.hs := by
  simp [State.recordRefusal]
@[simp] theorem State.recordRefusal_lc (s : State) (blk : Nat) (code : Nat) (q : Requester) (adr : Nat) :
    (s.recordRefusal blk code q adr).lc = s.lc := by
  simp [State.recordRefusal]
@[simp] theorem State.recordRefusal_kl (s : State) (blk : Nat) (code : Nat) (q : Requester) (adr : Nat) :
    (s.recordRefusal blk code q adr).kl = s.kl := by
  simp [State.recordRefusal]
@[simp] theorem State.recordRefusal_th (s : State) (blk : Nat) (code : Nat) (q : Requester) (adr : Nat) :
    (s.recordRefusal blk code q adr).th = s.th := by
  simp [State.recordRefusal]
@[simp] theorem State.recordRefusal_ax (s : State) (blk : Nat) (code : Nat) (q : Requester) (adr : Nat) :
    (s.recordRefusal blk code q adr).ax = s.ax := by
  simp [State.recordRefusal]
@[simp] theorem State.recordRefusal_so (s : State) (blk : Nat) (code : Nat) (q : Requester) (adr : Nat) :
    (s.recordRefusal blk code q adr).so = s.so := by
  simp [State.recordRefusal]
@[simp] theorem State.recordRefusal_fb (s : State) (blk : Nat) (code : Nat) (q : Requester) (adr : Nat) :
    (s.recordRefusal blk code q adr).fb = s.fb := by
  simp [State.recordRefusal]
@[simp] theorem State.recordRefusal_kn (s : State) (blk : Nat) (code : Nat) (q : Requester) (adr : Nat) :
    (s.recordRefusal blk code q adr).kn = s.kn := by
  simp [State.recordRefusal]
@[simp] theorem State.recordRefusal_mem (s : State) (blk : Nat) (code : Nat) (q : Requester) (adr : Nat) :
    (s.recordRefusal blk code q adr).mem = s.mem := by
  simp [State.recordRefusal]
@[simp] theorem State.recordRefusal_held (s : State) (blk : Nat) (code : Nat) (q : Requester) (adr : Nat) :
    (s.recordRefusal blk code q adr).held = s.held := by
  simp [State.recordRefusal]
@[simp] theorem State.recordRefusal_extRef (s : State) (blk : Nat) (code : Nat) (q : Requester) (adr : Nat) :
    (s.recordRefusal blk code q adr).extRef = s.extRef := by
  simp [State.recordRefusal]
@[simp] theorem State.recordRefusal_holds (s : State) (blk : Nat) (code : Nat) (q : Requester) (adr : Nat) :
    (s.recordRefusal blk code q adr).holds = s.holds := by
  simp [State.recordRefusal]
@[simp] theorem State.recordRefusal_latches (s : State) (blk : Nat) (code : Nat) (q : Requester) (adr : Nat) :
    (s.recordRefusal blk code q adr).latches = s.latches := by
  simp [State.recordRefusal]
@[simp] theorem State.recordRefusal_freeCount (s : State) (blk : Nat) (code : Nat) (q : Requester) (adr : Nat) :
    (s.recordRefusal blk code q adr).freeCount = s.freeCount := by
  simp [State.recordRefusal]

@[simp] theorem State.ownRefusalCount_pending (s : State) (r : Reg) (i : Nat) :
    (s.ownRefusalCount r i).pending = s.pending := by
  unfold State.ownRefusalCount
  (try dsimp only)
  repeat' split
  all_goals simp
@[simp] theorem State.ownRefusalCount_time (s : State) (r : Reg) (i : Nat) :
    (s.ownRefusalCount r i).time = s.time := by
  unfold State.ownRefusalCount
  (try dsimp only)
  repeat' split
  all_goals simp
@[simp] theorem State.ownRefusalCount_cal (s : State) (r : Reg) (i : Nat) :
    (s.ownRefusalCount r i).cal = s.cal := by
  unfold State.ownRefusalCount
  (try dsimp only)
  repeat' split
  all_goals simp
@[simp] theorem State.ownRefusalCount_cell (s : State) (r : Reg) (i : Nat) :
    (s.ownRefusalCount r i).cell = s.cell := by
  unfold State.ownRefusalCount
  (try dsimp only)
  repeat' split
  all_goals simp
@[simp] theorem State.ownRefusalCount_lv (s : State) (r : Reg) (i : Nat) :
    (s.ownRefusalCount r i).lv = s.lv := by
  unfold State.ownRefusalCount
  (try dsimp only)
  repeat' split
  all_goals simp
@[simp] theorem State.ownRefusalCount_cores (s : State) (r : Reg) (i : Nat) :
    (s.ownRefusalCount r i).cores = s.cores := by
  unfold State.ownRefusalCount
  (try dsimp only)
  repeat' split
  all_goals simp
@[simp] theorem State.ownRefusalCount_pw (s : State) (r : Reg) (i : Nat) :
    (s.ownRefusalCount r i).pw = s.pw := by
  unfold State.ownRefusalCount
  (try dsimp only)
  repeat' split
  all_goals simp
@[simp] theorem State.ownRefusalCount_sv (s : State) (r : Reg) (i : Nat) :
    (s.ownRefusalCount r i).sv = s.sv := by
  unfold State.ownRefusalCount
  (try dsimp only)
  repeat' split
  all_goals simp
@[simp] theorem State.ownRefusalCount_jnl (s : State) (r : Reg) (i : Nat) :
    (s.ownRefusalCount r i).jnl = s.jnl := by
  unfold State.ownRefusalCount
  (try dsimp only)
  repeat' split
  all_goals simp
@[simp] theorem State.ownRefusalCount_ch (s : State) (r : Reg) (i : Nat) :
    (s.ownRefusalCount r i).ch = s.ch := by
  unfold State.ownRefusalCount
  (try dsimp only)
  repeat' split
  all_goals simp
@[simp] theorem State.ownRefusalCount_hs (s : State) (r : Reg) (i : Nat) :
    (s.ownRefusalCount r i).hs = s.hs := by
  unfold State.ownRefusalCount
  (try dsimp only)
  repeat' split
  all_goals simp
@[simp] theorem State.ownRefusalCount_lc (s : State) (r : Reg) (i : Nat) :
    (s.ownRefusalCount r i).lc = s.lc := by
  unfold State.ownRefusalCount
  (try dsimp only)
  repeat' split
  all_goals simp
@[simp] theorem State.ownRefusalCount_kl (s : State) (r : Reg) (i : Nat) :
    (s.ownRefusalCount r i).kl = s.kl := by
  unfold State.ownRefusalCount
  (try dsimp only)
  repeat' split
  all_goals simp
@[simp] theorem State.ownRefusalCount_th (s : State) (r : Reg) (i : Nat) :
    (s.ownRefusalCount r i).th = s.th := by
  unfold State.ownRefusalCount
  (try dsimp only)
  repeat' split
  all_goals simp
@[simp] theorem State.ownRefusalCount_ax (s : State) (r : Reg) (i : Nat) :
    (s.ownRefusalCount r i).ax = s.ax := by
  unfold State.ownRefusalCount
  (try dsimp only)
  repeat' split
  all_goals simp
@[simp] theorem State.ownRefusalCount_so (s : State) (r : Reg) (i : Nat) :
    (s.ownRefusalCount r i).so = s.so := by
  unfold State.ownRefusalCount
  (try dsimp only)
  repeat' split
  all_goals simp
@[simp] theorem State.ownRefusalCount_fb (s : State) (r : Reg) (i : Nat) :
    (s.ownRefusalCount r i).fb = s.fb := by
  unfold State.ownRefusalCount
  (try dsimp only)
  repeat' split
  all_goals simp
@[simp] theorem State.ownRefusalCount_kn (s : State) (r : Reg) (i : Nat) :
    (s.ownRefusalCount r i).kn = s.kn := by
  unfold State.ownRefusalCount
  (try dsimp only)
  repeat' split
  all_goals simp
@[simp] theorem State.ownRefusalCount_mem (s : State) (r : Reg) (i : Nat) :
    (s.ownRefusalCount r i).mem = s.mem := by
  unfold State.ownRefusalCount
  (try dsimp only)
  repeat' split
  all_goals simp
@[simp] theorem State.ownRefusalCount_held (s : State) (r : Reg) (i : Nat) :
    (s.ownRefusalCount r i).held = s.held := by
  unfold State.ownRefusalCount
  (try dsimp only)
  repeat' split
  all_goals simp
@[simp] theorem State.ownRefusalCount_extRef (s : State) (r : Reg) (i : Nat) :
    (s.ownRefusalCount r i).extRef = s.extRef := by
  unfold State.ownRefusalCount
  (try dsimp only)
  repeat' split
  all_goals simp
@[simp] theorem State.ownRefusalCount_holds (s : State) (r : Reg) (i : Nat) :
    (s.ownRefusalCount r i).holds = s.holds := by
  unfold State.ownRefusalCount
  (try dsimp only)
  repeat' split
  all_goals simp
@[simp] theorem State.ownRefusalCount_latches (s : State) (r : Reg) (i : Nat) :
    (s.ownRefusalCount r i).latches = s.latches := by
  unfold State.ownRefusalCount
  (try dsimp only)
  repeat' split
  all_goals simp
@[simp] theorem State.ownRefusalCount_freeCount (s : State) (r : Reg) (i : Nat) :
    (s.ownRefusalCount r i).freeCount = s.freeCount := by
  unfold State.ownRefusalCount
  (try dsimp only)
  repeat' split
  all_goals simp

@[simp] theorem State.refuse_pending (s : State) (q : Requester) (r : Reg) (i : Nat) (j : Nat) (code : Nat) :
    (s.refuse q r i j code).pending = s.pending := by
  unfold State.refuse
  (try dsimp only)
  repeat' split
  all_goals simp
@[simp] theorem State.refuse_time (s : State) (q : Requester) (r : Reg) (i : Nat) (j : Nat) (code : Nat) :
    (s.refuse q r i j code).time = s.time := by
  unfold State.refuse
  (try dsimp only)
  repeat' split
  all_goals simp
@[simp] theorem State.refuse_cal (s : State) (q : Requester) (r : Reg) (i : Nat) (j : Nat) (code : Nat) :
    (s.refuse q r i j code).cal = s.cal := by
  unfold State.refuse
  (try dsimp only)
  repeat' split
  all_goals simp
@[simp] theorem State.refuse_cell (s : State) (q : Requester) (r : Reg) (i : Nat) (j : Nat) (code : Nat) :
    (s.refuse q r i j code).cell = s.cell := by
  unfold State.refuse
  (try dsimp only)
  repeat' split
  all_goals simp
@[simp] theorem State.refuse_lv (s : State) (q : Requester) (r : Reg) (i : Nat) (j : Nat) (code : Nat) :
    (s.refuse q r i j code).lv = s.lv := by
  unfold State.refuse
  (try dsimp only)
  repeat' split
  all_goals simp
@[simp] theorem State.refuse_cores (s : State) (q : Requester) (r : Reg) (i : Nat) (j : Nat) (code : Nat) :
    (s.refuse q r i j code).cores = s.cores := by
  unfold State.refuse
  (try dsimp only)
  repeat' split
  all_goals simp
@[simp] theorem State.refuse_pw (s : State) (q : Requester) (r : Reg) (i : Nat) (j : Nat) (code : Nat) :
    (s.refuse q r i j code).pw = s.pw := by
  unfold State.refuse
  (try dsimp only)
  repeat' split
  all_goals simp
@[simp] theorem State.refuse_sv (s : State) (q : Requester) (r : Reg) (i : Nat) (j : Nat) (code : Nat) :
    (s.refuse q r i j code).sv = s.sv := by
  unfold State.refuse
  (try dsimp only)
  repeat' split
  all_goals simp
@[simp] theorem State.refuse_jnl (s : State) (q : Requester) (r : Reg) (i : Nat) (j : Nat) (code : Nat) :
    (s.refuse q r i j code).jnl = s.jnl := by
  unfold State.refuse
  (try dsimp only)
  repeat' split
  all_goals simp
@[simp] theorem State.refuse_ch (s : State) (q : Requester) (r : Reg) (i : Nat) (j : Nat) (code : Nat) :
    (s.refuse q r i j code).ch = s.ch := by
  unfold State.refuse
  (try dsimp only)
  repeat' split
  all_goals simp
@[simp] theorem State.refuse_hs (s : State) (q : Requester) (r : Reg) (i : Nat) (j : Nat) (code : Nat) :
    (s.refuse q r i j code).hs = s.hs := by
  unfold State.refuse
  (try dsimp only)
  repeat' split
  all_goals simp
@[simp] theorem State.refuse_lc (s : State) (q : Requester) (r : Reg) (i : Nat) (j : Nat) (code : Nat) :
    (s.refuse q r i j code).lc = s.lc := by
  unfold State.refuse
  (try dsimp only)
  repeat' split
  all_goals simp
@[simp] theorem State.refuse_kl (s : State) (q : Requester) (r : Reg) (i : Nat) (j : Nat) (code : Nat) :
    (s.refuse q r i j code).kl = s.kl := by
  unfold State.refuse
  (try dsimp only)
  repeat' split
  all_goals simp
@[simp] theorem State.refuse_th (s : State) (q : Requester) (r : Reg) (i : Nat) (j : Nat) (code : Nat) :
    (s.refuse q r i j code).th = s.th := by
  unfold State.refuse
  (try dsimp only)
  repeat' split
  all_goals simp
@[simp] theorem State.refuse_ax (s : State) (q : Requester) (r : Reg) (i : Nat) (j : Nat) (code : Nat) :
    (s.refuse q r i j code).ax = s.ax := by
  unfold State.refuse
  (try dsimp only)
  repeat' split
  all_goals simp
@[simp] theorem State.refuse_so (s : State) (q : Requester) (r : Reg) (i : Nat) (j : Nat) (code : Nat) :
    (s.refuse q r i j code).so = s.so := by
  unfold State.refuse
  (try dsimp only)
  repeat' split
  all_goals simp
@[simp] theorem State.refuse_fb (s : State) (q : Requester) (r : Reg) (i : Nat) (j : Nat) (code : Nat) :
    (s.refuse q r i j code).fb = s.fb := by
  unfold State.refuse
  (try dsimp only)
  repeat' split
  all_goals simp
@[simp] theorem State.refuse_kn (s : State) (q : Requester) (r : Reg) (i : Nat) (j : Nat) (code : Nat) :
    (s.refuse q r i j code).kn = s.kn := by
  unfold State.refuse
  (try dsimp only)
  repeat' split
  all_goals simp
@[simp] theorem State.refuse_mem (s : State) (q : Requester) (r : Reg) (i : Nat) (j : Nat) (code : Nat) :
    (s.refuse q r i j code).mem = s.mem := by
  unfold State.refuse
  (try dsimp only)
  repeat' split
  all_goals simp
@[simp] theorem State.refuse_held (s : State) (q : Requester) (r : Reg) (i : Nat) (j : Nat) (code : Nat) :
    (s.refuse q r i j code).held = s.held := by
  unfold State.refuse
  (try dsimp only)
  repeat' split
  all_goals simp
@[simp] theorem State.refuse_extRef (s : State) (q : Requester) (r : Reg) (i : Nat) (j : Nat) (code : Nat) :
    (s.refuse q r i j code).extRef = s.extRef := by
  unfold State.refuse
  (try dsimp only)
  repeat' split
  all_goals simp
@[simp] theorem State.refuse_holds (s : State) (q : Requester) (r : Reg) (i : Nat) (j : Nat) (code : Nat) :
    (s.refuse q r i j code).holds = s.holds := by
  unfold State.refuse
  (try dsimp only)
  repeat' split
  all_goals simp
@[simp] theorem State.refuse_latches (s : State) (q : Requester) (r : Reg) (i : Nat) (j : Nat) (code : Nat) :
    (s.refuse q r i j code).latches = s.latches := by
  unfold State.refuse
  (try dsimp only)
  repeat' split
  all_goals simp
@[simp] theorem State.refuse_freeCount (s : State) (q : Requester) (r : Reg) (i : Nat) (j : Nat) (code : Nat) :
    (s.refuse q r i j code).freeCount = s.freeCount := by
  unfold State.refuse
  (try dsimp only)
  repeat' split
  all_goals simp

@[simp] theorem State.refuseSelf_pending (s : State) (f : Field) (i : Nat) (code : Nat) :
    (s.refuseSelf f i code).pending = s.pending := by
  simp [State.refuseSelf]
@[simp] theorem State.refuseSelf_time (s : State) (f : Field) (i : Nat) (code : Nat) :
    (s.refuseSelf f i code).time = s.time := by
  simp [State.refuseSelf]
@[simp] theorem State.refuseSelf_cal (s : State) (f : Field) (i : Nat) (code : Nat) :
    (s.refuseSelf f i code).cal = s.cal := by
  simp [State.refuseSelf]
@[simp] theorem State.refuseSelf_cell (s : State) (f : Field) (i : Nat) (code : Nat) :
    (s.refuseSelf f i code).cell = s.cell := by
  simp [State.refuseSelf]
@[simp] theorem State.refuseSelf_lv (s : State) (f : Field) (i : Nat) (code : Nat) :
    (s.refuseSelf f i code).lv = s.lv := by
  simp [State.refuseSelf]
@[simp] theorem State.refuseSelf_cores (s : State) (f : Field) (i : Nat) (code : Nat) :
    (s.refuseSelf f i code).cores = s.cores := by
  simp [State.refuseSelf]
@[simp] theorem State.refuseSelf_pw (s : State) (f : Field) (i : Nat) (code : Nat) :
    (s.refuseSelf f i code).pw = s.pw := by
  simp [State.refuseSelf]
@[simp] theorem State.refuseSelf_sv (s : State) (f : Field) (i : Nat) (code : Nat) :
    (s.refuseSelf f i code).sv = s.sv := by
  simp [State.refuseSelf]
@[simp] theorem State.refuseSelf_jnl (s : State) (f : Field) (i : Nat) (code : Nat) :
    (s.refuseSelf f i code).jnl = s.jnl := by
  simp [State.refuseSelf]
@[simp] theorem State.refuseSelf_ch (s : State) (f : Field) (i : Nat) (code : Nat) :
    (s.refuseSelf f i code).ch = s.ch := by
  simp [State.refuseSelf]
@[simp] theorem State.refuseSelf_hs (s : State) (f : Field) (i : Nat) (code : Nat) :
    (s.refuseSelf f i code).hs = s.hs := by
  simp [State.refuseSelf]
@[simp] theorem State.refuseSelf_lc (s : State) (f : Field) (i : Nat) (code : Nat) :
    (s.refuseSelf f i code).lc = s.lc := by
  simp [State.refuseSelf]
@[simp] theorem State.refuseSelf_kl (s : State) (f : Field) (i : Nat) (code : Nat) :
    (s.refuseSelf f i code).kl = s.kl := by
  simp [State.refuseSelf]
@[simp] theorem State.refuseSelf_th (s : State) (f : Field) (i : Nat) (code : Nat) :
    (s.refuseSelf f i code).th = s.th := by
  simp [State.refuseSelf]
@[simp] theorem State.refuseSelf_ax (s : State) (f : Field) (i : Nat) (code : Nat) :
    (s.refuseSelf f i code).ax = s.ax := by
  simp [State.refuseSelf]
@[simp] theorem State.refuseSelf_so (s : State) (f : Field) (i : Nat) (code : Nat) :
    (s.refuseSelf f i code).so = s.so := by
  simp [State.refuseSelf]
@[simp] theorem State.refuseSelf_fb (s : State) (f : Field) (i : Nat) (code : Nat) :
    (s.refuseSelf f i code).fb = s.fb := by
  simp [State.refuseSelf]
@[simp] theorem State.refuseSelf_kn (s : State) (f : Field) (i : Nat) (code : Nat) :
    (s.refuseSelf f i code).kn = s.kn := by
  simp [State.refuseSelf]
@[simp] theorem State.refuseSelf_mem (s : State) (f : Field) (i : Nat) (code : Nat) :
    (s.refuseSelf f i code).mem = s.mem := by
  simp [State.refuseSelf]
@[simp] theorem State.refuseSelf_held (s : State) (f : Field) (i : Nat) (code : Nat) :
    (s.refuseSelf f i code).held = s.held := by
  simp [State.refuseSelf]
@[simp] theorem State.refuseSelf_extRef (s : State) (f : Field) (i : Nat) (code : Nat) :
    (s.refuseSelf f i code).extRef = s.extRef := by
  simp [State.refuseSelf]
@[simp] theorem State.refuseSelf_holds (s : State) (f : Field) (i : Nat) (code : Nat) :
    (s.refuseSelf f i code).holds = s.holds := by
  simp [State.refuseSelf]
@[simp] theorem State.refuseSelf_latches (s : State) (f : Field) (i : Nat) (code : Nat) :
    (s.refuseSelf f i code).latches = s.latches := by
  simp [State.refuseSelf]
@[simp] theorem State.refuseSelf_freeCount (s : State) (f : Field) (i : Nat) (code : Nat) :
    (s.refuseSelf f i code).freeCount = s.freeCount := by
  simp [State.refuseSelf]

@[simp] theorem State.badAccess_pending (s : State) (q : Requester) (isWrite : Bool) (reserved : Bool) (off : Nat) :
    (s.badAccess q isWrite reserved off).pending = s.pending := by
  simp [State.badAccess]
@[simp] theorem State.badAccess_cal (s : State) (q : Requester) (isWrite : Bool) (reserved : Bool) (off : Nat) :
    (s.badAccess q isWrite reserved off).cal = s.cal := by
  simp [State.badAccess]
@[simp] theorem State.badAccess_cell (s : State) (q : Requester) (isWrite : Bool) (reserved : Bool) (off : Nat) :
    (s.badAccess q isWrite reserved off).cell = s.cell := by
  simp [State.badAccess]
@[simp] theorem State.badAccess_lv (s : State) (q : Requester) (isWrite : Bool) (reserved : Bool) (off : Nat) :
    (s.badAccess q isWrite reserved off).lv = s.lv := by
  simp [State.badAccess]
@[simp] theorem State.badAccess_cores (s : State) (q : Requester) (isWrite : Bool) (reserved : Bool) (off : Nat) :
    (s.badAccess q isWrite reserved off).cores = s.cores := by
  simp [State.badAccess]
@[simp] theorem State.badAccess_pw (s : State) (q : Requester) (isWrite : Bool) (reserved : Bool) (off : Nat) :
    (s.badAccess q isWrite reserved off).pw = s.pw := by
  simp [State.badAccess]
@[simp] theorem State.badAccess_sv (s : State) (q : Requester) (isWrite : Bool) (reserved : Bool) (off : Nat) :
    (s.badAccess q isWrite reserved off).sv = s.sv := by
  simp [State.badAccess]
@[simp] theorem State.badAccess_jnl (s : State) (q : Requester) (isWrite : Bool) (reserved : Bool) (off : Nat) :
    (s.badAccess q isWrite reserved off).jnl = s.jnl := by
  simp [State.badAccess]
@[simp] theorem State.badAccess_ch (s : State) (q : Requester) (isWrite : Bool) (reserved : Bool) (off : Nat) :
    (s.badAccess q isWrite reserved off).ch = s.ch := by
  simp [State.badAccess]
@[simp] theorem State.badAccess_hs (s : State) (q : Requester) (isWrite : Bool) (reserved : Bool) (off : Nat) :
    (s.badAccess q isWrite reserved off).hs = s.hs := by
  simp [State.badAccess]
@[simp] theorem State.badAccess_lc (s : State) (q : Requester) (isWrite : Bool) (reserved : Bool) (off : Nat) :
    (s.badAccess q isWrite reserved off).lc = s.lc := by
  simp [State.badAccess]
@[simp] theorem State.badAccess_kl (s : State) (q : Requester) (isWrite : Bool) (reserved : Bool) (off : Nat) :
    (s.badAccess q isWrite reserved off).kl = s.kl := by
  simp [State.badAccess]
@[simp] theorem State.badAccess_th (s : State) (q : Requester) (isWrite : Bool) (reserved : Bool) (off : Nat) :
    (s.badAccess q isWrite reserved off).th = s.th := by
  simp [State.badAccess]
@[simp] theorem State.badAccess_ax (s : State) (q : Requester) (isWrite : Bool) (reserved : Bool) (off : Nat) :
    (s.badAccess q isWrite reserved off).ax = s.ax := by
  simp [State.badAccess]
@[simp] theorem State.badAccess_so (s : State) (q : Requester) (isWrite : Bool) (reserved : Bool) (off : Nat) :
    (s.badAccess q isWrite reserved off).so = s.so := by
  simp [State.badAccess]
@[simp] theorem State.badAccess_fb (s : State) (q : Requester) (isWrite : Bool) (reserved : Bool) (off : Nat) :
    (s.badAccess q isWrite reserved off).fb = s.fb := by
  simp [State.badAccess]
@[simp] theorem State.badAccess_kn (s : State) (q : Requester) (isWrite : Bool) (reserved : Bool) (off : Nat) :
    (s.badAccess q isWrite reserved off).kn = s.kn := by
  simp [State.badAccess]
@[simp] theorem State.badAccess_mem (s : State) (q : Requester) (isWrite : Bool) (reserved : Bool) (off : Nat) :
    (s.badAccess q isWrite reserved off).mem = s.mem := by
  simp [State.badAccess]
@[simp] theorem State.badAccess_held (s : State) (q : Requester) (isWrite : Bool) (reserved : Bool) (off : Nat) :
    (s.badAccess q isWrite reserved off).held = s.held := by
  simp [State.badAccess]
@[simp] theorem State.badAccess_extRef (s : State) (q : Requester) (isWrite : Bool) (reserved : Bool) (off : Nat) :
    (s.badAccess q isWrite reserved off).extRef = s.extRef := by
  simp [State.badAccess]
@[simp] theorem State.badAccess_holds (s : State) (q : Requester) (isWrite : Bool) (reserved : Bool) (off : Nat) :
    (s.badAccess q isWrite reserved off).holds = s.holds := by
  simp [State.badAccess]
@[simp] theorem State.badAccess_latches (s : State) (q : Requester) (isWrite : Bool) (reserved : Bool) (off : Nat) :
    (s.badAccess q isWrite reserved off).latches = s.latches := by
  simp [State.badAccess]
@[simp] theorem State.badAccess_freeCount (s : State) (q : Requester) (isWrite : Bool) (reserved : Bool) (off : Nat) :
    (s.badAccess q isWrite reserved off).freeCount = s.freeCount := by
  simp [State.badAccess]

@[simp] theorem State.offAccess_pending (s : State) (q : Requester) (isWrite : Bool) (d : Nat) (adr : Nat) :
    (s.offAccess q isWrite d adr).pending = s.pending := by
  unfold State.offAccess
  (try dsimp only)
  repeat' split
  all_goals simp
@[simp] theorem State.offAccess_cal (s : State) (q : Requester) (isWrite : Bool) (d : Nat) (adr : Nat) :
    (s.offAccess q isWrite d adr).cal = s.cal := by
  unfold State.offAccess
  (try dsimp only)
  repeat' split
  all_goals simp
@[simp] theorem State.offAccess_cell (s : State) (q : Requester) (isWrite : Bool) (d : Nat) (adr : Nat) :
    (s.offAccess q isWrite d adr).cell = s.cell := by
  unfold State.offAccess
  (try dsimp only)
  repeat' split
  all_goals simp
@[simp] theorem State.offAccess_lv (s : State) (q : Requester) (isWrite : Bool) (d : Nat) (adr : Nat) :
    (s.offAccess q isWrite d adr).lv = s.lv := by
  unfold State.offAccess
  (try dsimp only)
  repeat' split
  all_goals simp
@[simp] theorem State.offAccess_cores (s : State) (q : Requester) (isWrite : Bool) (d : Nat) (adr : Nat) :
    (s.offAccess q isWrite d adr).cores = s.cores := by
  unfold State.offAccess
  (try dsimp only)
  repeat' split
  all_goals simp
@[simp] theorem State.offAccess_sv (s : State) (q : Requester) (isWrite : Bool) (d : Nat) (adr : Nat) :
    (s.offAccess q isWrite d adr).sv = s.sv := by
  unfold State.offAccess
  (try dsimp only)
  repeat' split
  all_goals simp
@[simp] theorem State.offAccess_ch (s : State) (q : Requester) (isWrite : Bool) (d : Nat) (adr : Nat) :
    (s.offAccess q isWrite d adr).ch = s.ch := by
  unfold State.offAccess
  (try dsimp only)
  repeat' split
  all_goals simp
@[simp] theorem State.offAccess_lc (s : State) (q : Requester) (isWrite : Bool) (d : Nat) (adr : Nat) :
    (s.offAccess q isWrite d adr).lc = s.lc := by
  unfold State.offAccess
  (try dsimp only)
  repeat' split
  all_goals simp
@[simp] theorem State.offAccess_kl (s : State) (q : Requester) (isWrite : Bool) (d : Nat) (adr : Nat) :
    (s.offAccess q isWrite d adr).kl = s.kl := by
  unfold State.offAccess
  (try dsimp only)
  repeat' split
  all_goals simp
@[simp] theorem State.offAccess_th (s : State) (q : Requester) (isWrite : Bool) (d : Nat) (adr : Nat) :
    (s.offAccess q isWrite d adr).th = s.th := by
  unfold State.offAccess
  (try dsimp only)
  repeat' split
  all_goals simp
@[simp] theorem State.offAccess_ax (s : State) (q : Requester) (isWrite : Bool) (d : Nat) (adr : Nat) :
    (s.offAccess q isWrite d adr).ax = s.ax := by
  unfold State.offAccess
  (try dsimp only)
  repeat' split
  all_goals simp
@[simp] theorem State.offAccess_so (s : State) (q : Requester) (isWrite : Bool) (d : Nat) (adr : Nat) :
    (s.offAccess q isWrite d adr).so = s.so := by
  unfold State.offAccess
  (try dsimp only)
  repeat' split
  all_goals simp
@[simp] theorem State.offAccess_fb (s : State) (q : Requester) (isWrite : Bool) (d : Nat) (adr : Nat) :
    (s.offAccess q isWrite d adr).fb = s.fb := by
  unfold State.offAccess
  (try dsimp only)
  repeat' split
  all_goals simp
@[simp] theorem State.offAccess_kn (s : State) (q : Requester) (isWrite : Bool) (d : Nat) (adr : Nat) :
    (s.offAccess q isWrite d adr).kn = s.kn := by
  unfold State.offAccess
  (try dsimp only)
  repeat' split
  all_goals simp
@[simp] theorem State.offAccess_mem (s : State) (q : Requester) (isWrite : Bool) (d : Nat) (adr : Nat) :
    (s.offAccess q isWrite d adr).mem = s.mem := by
  unfold State.offAccess
  (try dsimp only)
  repeat' split
  all_goals simp
@[simp] theorem State.offAccess_held (s : State) (q : Requester) (isWrite : Bool) (d : Nat) (adr : Nat) :
    (s.offAccess q isWrite d adr).held = s.held := by
  unfold State.offAccess
  (try dsimp only)
  repeat' split
  all_goals simp
@[simp] theorem State.offAccess_extRef (s : State) (q : Requester) (isWrite : Bool) (d : Nat) (adr : Nat) :
    (s.offAccess q isWrite d adr).extRef = s.extRef := by
  unfold State.offAccess
  (try dsimp only)
  repeat' split
  all_goals simp
@[simp] theorem State.offAccess_holds (s : State) (q : Requester) (isWrite : Bool) (d : Nat) (adr : Nat) :
    (s.offAccess q isWrite d adr).holds = s.holds := by
  unfold State.offAccess
  (try dsimp only)
  repeat' split
  all_goals simp
@[simp] theorem State.offAccess_latches (s : State) (q : Requester) (isWrite : Bool) (d : Nat) (adr : Nat) :
    (s.offAccess q isWrite d adr).latches = s.latches := by
  unfold State.offAccess
  (try dsimp only)
  repeat' split
  all_goals simp
@[simp] theorem State.offAccess_freeCount (s : State) (q : Requester) (isWrite : Bool) (d : Nat) (adr : Nat) :
    (s.offAccess q isWrite d adr).freeCount = s.freeCount := by
  unfold State.offAccess
  (try dsimp only)
  repeat' split
  all_goals simp

@[simp] theorem State.plainWrite_pending (s : State) (r : Reg) (i : Nat) (j : Nat) (v : Nat) :
    (s.plainWrite r i j v).pending = s.pending := by
  simp [State.plainWrite]
@[simp] theorem State.plainWrite_time (s : State) (r : Reg) (i : Nat) (j : Nat) (v : Nat) :
    (s.plainWrite r i j v).time = s.time := by
  simp [State.plainWrite]
@[simp] theorem State.plainWrite_cal (s : State) (r : Reg) (i : Nat) (j : Nat) (v : Nat) :
    (s.plainWrite r i j v).cal = s.cal := by
  simp [State.plainWrite]
@[simp] theorem State.plainWrite_cell (s : State) (r : Reg) (i : Nat) (j : Nat) (v : Nat) :
    (s.plainWrite r i j v).cell = s.cell := by
  simp [State.plainWrite]
@[simp] theorem State.plainWrite_lv (s : State) (r : Reg) (i : Nat) (j : Nat) (v : Nat) :
    (s.plainWrite r i j v).lv = s.lv := by
  simp [State.plainWrite]
@[simp] theorem State.plainWrite_cores (s : State) (r : Reg) (i : Nat) (j : Nat) (v : Nat) :
    (s.plainWrite r i j v).cores = s.cores := by
  simp [State.plainWrite]
@[simp] theorem State.plainWrite_pw (s : State) (r : Reg) (i : Nat) (j : Nat) (v : Nat) :
    (s.plainWrite r i j v).pw = s.pw := by
  simp [State.plainWrite]
@[simp] theorem State.plainWrite_sv (s : State) (r : Reg) (i : Nat) (j : Nat) (v : Nat) :
    (s.plainWrite r i j v).sv = s.sv := by
  simp [State.plainWrite]
@[simp] theorem State.plainWrite_jnl (s : State) (r : Reg) (i : Nat) (j : Nat) (v : Nat) :
    (s.plainWrite r i j v).jnl = s.jnl := by
  simp [State.plainWrite]
@[simp] theorem State.plainWrite_ch (s : State) (r : Reg) (i : Nat) (j : Nat) (v : Nat) :
    (s.plainWrite r i j v).ch = s.ch := by
  simp [State.plainWrite]
@[simp] theorem State.plainWrite_hs (s : State) (r : Reg) (i : Nat) (j : Nat) (v : Nat) :
    (s.plainWrite r i j v).hs = s.hs := by
  simp [State.plainWrite]
@[simp] theorem State.plainWrite_lc (s : State) (r : Reg) (i : Nat) (j : Nat) (v : Nat) :
    (s.plainWrite r i j v).lc = s.lc := by
  simp [State.plainWrite]
@[simp] theorem State.plainWrite_kl (s : State) (r : Reg) (i : Nat) (j : Nat) (v : Nat) :
    (s.plainWrite r i j v).kl = s.kl := by
  simp [State.plainWrite]
@[simp] theorem State.plainWrite_th (s : State) (r : Reg) (i : Nat) (j : Nat) (v : Nat) :
    (s.plainWrite r i j v).th = s.th := by
  simp [State.plainWrite]
@[simp] theorem State.plainWrite_ax (s : State) (r : Reg) (i : Nat) (j : Nat) (v : Nat) :
    (s.plainWrite r i j v).ax = s.ax := by
  simp [State.plainWrite]
@[simp] theorem State.plainWrite_so (s : State) (r : Reg) (i : Nat) (j : Nat) (v : Nat) :
    (s.plainWrite r i j v).so = s.so := by
  simp [State.plainWrite]
@[simp] theorem State.plainWrite_fb (s : State) (r : Reg) (i : Nat) (j : Nat) (v : Nat) :
    (s.plainWrite r i j v).fb = s.fb := by
  simp [State.plainWrite]
@[simp] theorem State.plainWrite_kn (s : State) (r : Reg) (i : Nat) (j : Nat) (v : Nat) :
    (s.plainWrite r i j v).kn = s.kn := by
  simp [State.plainWrite]
@[simp] theorem State.plainWrite_mem (s : State) (r : Reg) (i : Nat) (j : Nat) (v : Nat) :
    (s.plainWrite r i j v).mem = s.mem := by
  simp [State.plainWrite]
@[simp] theorem State.plainWrite_held (s : State) (r : Reg) (i : Nat) (j : Nat) (v : Nat) :
    (s.plainWrite r i j v).held = s.held := by
  simp [State.plainWrite]
@[simp] theorem State.plainWrite_extRef (s : State) (r : Reg) (i : Nat) (j : Nat) (v : Nat) :
    (s.plainWrite r i j v).extRef = s.extRef := by
  simp [State.plainWrite]
@[simp] theorem State.plainWrite_holds (s : State) (r : Reg) (i : Nat) (j : Nat) (v : Nat) :
    (s.plainWrite r i j v).holds = s.holds := by
  simp [State.plainWrite]
@[simp] theorem State.plainWrite_latches (s : State) (r : Reg) (i : Nat) (j : Nat) (v : Nat) :
    (s.plainWrite r i j v).latches = s.latches := by
  simp [State.plainWrite]
@[simp] theorem State.plainWrite_freeCount (s : State) (r : Reg) (i : Nat) (j : Nat) (v : Nat) :
    (s.plainWrite r i j v).freeCount = s.freeCount := by
  simp [State.plainWrite]

@[simp] theorem State.noteLines_pending (s : State) (a : Nat) (n : Nat) :
    (s.noteLines a n).pending = s.pending := by
  unfold State.noteLines
  (try dsimp only)
  repeat' split
  all_goals simp
@[simp] theorem State.noteLines_regs (s : State) (a : Nat) (n : Nat) :
    (s.noteLines a n).regs = s.regs := by
  unfold State.noteLines
  (try dsimp only)
  repeat' split
  all_goals simp
@[simp] theorem State.noteLines_time (s : State) (a : Nat) (n : Nat) :
    (s.noteLines a n).time = s.time := by
  unfold State.noteLines
  (try dsimp only)
  repeat' split
  all_goals simp
@[simp] theorem State.noteLines_cal (s : State) (a : Nat) (n : Nat) :
    (s.noteLines a n).cal = s.cal := by
  unfold State.noteLines
  (try dsimp only)
  repeat' split
  all_goals simp
@[simp] theorem State.noteLines_cell (s : State) (a : Nat) (n : Nat) :
    (s.noteLines a n).cell = s.cell := by
  unfold State.noteLines
  (try dsimp only)
  repeat' split
  all_goals simp
@[simp] theorem State.noteLines_lv (s : State) (a : Nat) (n : Nat) :
    (s.noteLines a n).lv = s.lv := by
  unfold State.noteLines
  (try dsimp only)
  repeat' split
  all_goals simp
@[simp] theorem State.noteLines_cores (s : State) (a : Nat) (n : Nat) :
    (s.noteLines a n).cores = s.cores := by
  unfold State.noteLines
  (try dsimp only)
  repeat' split
  all_goals simp
@[simp] theorem State.noteLines_pw (s : State) (a : Nat) (n : Nat) :
    (s.noteLines a n).pw = s.pw := by
  unfold State.noteLines
  (try dsimp only)
  repeat' split
  all_goals simp
@[simp] theorem State.noteLines_sv (s : State) (a : Nat) (n : Nat) :
    (s.noteLines a n).sv = s.sv := by
  unfold State.noteLines
  (try dsimp only)
  repeat' split
  all_goals simp
@[simp] theorem State.noteLines_jnl (s : State) (a : Nat) (n : Nat) :
    (s.noteLines a n).jnl = s.jnl := by
  unfold State.noteLines
  (try dsimp only)
  repeat' split
  all_goals simp
@[simp] theorem State.noteLines_hs (s : State) (a : Nat) (n : Nat) :
    (s.noteLines a n).hs = s.hs := by
  unfold State.noteLines
  (try dsimp only)
  repeat' split
  all_goals simp
@[simp] theorem State.noteLines_lc (s : State) (a : Nat) (n : Nat) :
    (s.noteLines a n).lc = s.lc := by
  unfold State.noteLines
  (try dsimp only)
  repeat' split
  all_goals simp
@[simp] theorem State.noteLines_kl (s : State) (a : Nat) (n : Nat) :
    (s.noteLines a n).kl = s.kl := by
  unfold State.noteLines
  (try dsimp only)
  repeat' split
  all_goals simp
@[simp] theorem State.noteLines_th (s : State) (a : Nat) (n : Nat) :
    (s.noteLines a n).th = s.th := by
  unfold State.noteLines
  (try dsimp only)
  repeat' split
  all_goals simp
@[simp] theorem State.noteLines_ax (s : State) (a : Nat) (n : Nat) :
    (s.noteLines a n).ax = s.ax := by
  unfold State.noteLines
  (try dsimp only)
  repeat' split
  all_goals simp
@[simp] theorem State.noteLines_so (s : State) (a : Nat) (n : Nat) :
    (s.noteLines a n).so = s.so := by
  unfold State.noteLines
  (try dsimp only)
  repeat' split
  all_goals simp
@[simp] theorem State.noteLines_fb (s : State) (a : Nat) (n : Nat) :
    (s.noteLines a n).fb = s.fb := by
  unfold State.noteLines
  (try dsimp only)
  repeat' split
  all_goals simp
@[simp] theorem State.noteLines_kn (s : State) (a : Nat) (n : Nat) :
    (s.noteLines a n).kn = s.kn := by
  unfold State.noteLines
  (try dsimp only)
  repeat' split
  all_goals simp
@[simp] theorem State.noteLines_mem (s : State) (a : Nat) (n : Nat) :
    (s.noteLines a n).mem = s.mem := by
  unfold State.noteLines
  (try dsimp only)
  repeat' split
  all_goals simp
@[simp] theorem State.noteLines_held (s : State) (a : Nat) (n : Nat) :
    (s.noteLines a n).held = s.held := by
  unfold State.noteLines
  (try dsimp only)
  repeat' split
  all_goals simp
@[simp] theorem State.noteLines_extRef (s : State) (a : Nat) (n : Nat) :
    (s.noteLines a n).extRef = s.extRef := by
  unfold State.noteLines
  (try dsimp only)
  repeat' split
  all_goals simp
@[simp] theorem State.noteLines_holds (s : State) (a : Nat) (n : Nat) :
    (s.noteLines a n).holds = s.holds := by
  unfold State.noteLines
  (try dsimp only)
  repeat' split
  all_goals simp
@[simp] theorem State.noteLines_latches (s : State) (a : Nat) (n : Nat) :
    (s.noteLines a n).latches = s.latches := by
  unfold State.noteLines
  (try dsimp only)
  repeat' split
  all_goals simp
@[simp] theorem State.noteLines_freeCount (s : State) (a : Nat) (n : Nat) :
    (s.noteLines a n).freeCount = s.freeCount := by
  unfold State.noteLines
  (try dsimp only)
  repeat' split
  all_goals simp

@[simp] theorem State.noteCommit_pending (s : State) (a : Nat) (n : Nat) :
    (s.noteCommit a n).pending = s.pending := by
  unfold State.noteCommit
  (try dsimp only)
  repeat' split
  all_goals simp
@[simp] theorem State.noteCommit_regs (s : State) (a : Nat) (n : Nat) :
    (s.noteCommit a n).regs = s.regs := by
  unfold State.noteCommit
  (try dsimp only)
  repeat' split
  all_goals simp
@[simp] theorem State.noteCommit_time (s : State) (a : Nat) (n : Nat) :
    (s.noteCommit a n).time = s.time := by
  unfold State.noteCommit
  (try dsimp only)
  repeat' split
  all_goals simp
@[simp] theorem State.noteCommit_cal (s : State) (a : Nat) (n : Nat) :
    (s.noteCommit a n).cal = s.cal := by
  unfold State.noteCommit
  (try dsimp only)
  repeat' split
  all_goals simp
@[simp] theorem State.noteCommit_cell (s : State) (a : Nat) (n : Nat) :
    (s.noteCommit a n).cell = s.cell := by
  unfold State.noteCommit
  (try dsimp only)
  repeat' split
  all_goals simp
@[simp] theorem State.noteCommit_lv (s : State) (a : Nat) (n : Nat) :
    (s.noteCommit a n).lv = s.lv := by
  unfold State.noteCommit
  (try dsimp only)
  repeat' split
  all_goals simp
@[simp] theorem State.noteCommit_cores (s : State) (a : Nat) (n : Nat) :
    (s.noteCommit a n).cores = s.cores := by
  unfold State.noteCommit
  (try dsimp only)
  repeat' split
  all_goals simp
@[simp] theorem State.noteCommit_pw (s : State) (a : Nat) (n : Nat) :
    (s.noteCommit a n).pw = s.pw := by
  unfold State.noteCommit
  (try dsimp only)
  repeat' split
  all_goals simp
@[simp] theorem State.noteCommit_sv (s : State) (a : Nat) (n : Nat) :
    (s.noteCommit a n).sv = s.sv := by
  unfold State.noteCommit
  (try dsimp only)
  repeat' split
  all_goals simp
@[simp] theorem State.noteCommit_jnl (s : State) (a : Nat) (n : Nat) :
    (s.noteCommit a n).jnl = s.jnl := by
  unfold State.noteCommit
  (try dsimp only)
  repeat' split
  all_goals simp
@[simp] theorem State.noteCommit_ch (s : State) (a : Nat) (n : Nat) :
    (s.noteCommit a n).ch = s.ch := by
  unfold State.noteCommit
  (try dsimp only)
  repeat' split
  all_goals simp
@[simp] theorem State.noteCommit_hs (s : State) (a : Nat) (n : Nat) :
    (s.noteCommit a n).hs = s.hs := by
  unfold State.noteCommit
  (try dsimp only)
  repeat' split
  all_goals simp
@[simp] theorem State.noteCommit_lc (s : State) (a : Nat) (n : Nat) :
    (s.noteCommit a n).lc = s.lc := by
  unfold State.noteCommit
  (try dsimp only)
  repeat' split
  all_goals simp
@[simp] theorem State.noteCommit_th (s : State) (a : Nat) (n : Nat) :
    (s.noteCommit a n).th = s.th := by
  unfold State.noteCommit
  (try dsimp only)
  repeat' split
  all_goals simp
@[simp] theorem State.noteCommit_ax (s : State) (a : Nat) (n : Nat) :
    (s.noteCommit a n).ax = s.ax := by
  unfold State.noteCommit
  (try dsimp only)
  repeat' split
  all_goals simp
@[simp] theorem State.noteCommit_so (s : State) (a : Nat) (n : Nat) :
    (s.noteCommit a n).so = s.so := by
  unfold State.noteCommit
  (try dsimp only)
  repeat' split
  all_goals simp
@[simp] theorem State.noteCommit_fb (s : State) (a : Nat) (n : Nat) :
    (s.noteCommit a n).fb = s.fb := by
  unfold State.noteCommit
  (try dsimp only)
  repeat' split
  all_goals simp
@[simp] theorem State.noteCommit_kn (s : State) (a : Nat) (n : Nat) :
    (s.noteCommit a n).kn = s.kn := by
  unfold State.noteCommit
  (try dsimp only)
  repeat' split
  all_goals simp
@[simp] theorem State.noteCommit_mem (s : State) (a : Nat) (n : Nat) :
    (s.noteCommit a n).mem = s.mem := by
  unfold State.noteCommit
  (try dsimp only)
  repeat' split
  all_goals simp
@[simp] theorem State.noteCommit_held (s : State) (a : Nat) (n : Nat) :
    (s.noteCommit a n).held = s.held := by
  unfold State.noteCommit
  (try dsimp only)
  repeat' split
  all_goals simp
@[simp] theorem State.noteCommit_extRef (s : State) (a : Nat) (n : Nat) :
    (s.noteCommit a n).extRef = s.extRef := by
  unfold State.noteCommit
  (try dsimp only)
  repeat' split
  all_goals simp
@[simp] theorem State.noteCommit_holds (s : State) (a : Nat) (n : Nat) :
    (s.noteCommit a n).holds = s.holds := by
  unfold State.noteCommit
  (try dsimp only)
  repeat' split
  all_goals simp
@[simp] theorem State.noteCommit_latches (s : State) (a : Nat) (n : Nat) :
    (s.noteCommit a n).latches = s.latches := by
  unfold State.noteCommit
  (try dsimp only)
  repeat' split
  all_goals simp
@[simp] theorem State.noteCommit_freeCount (s : State) (a : Nat) (n : Nat) :
    (s.noteCommit a n).freeCount = s.freeCount := by
  unfold State.noteCommit
  (try dsimp only)
  repeat' split
  all_goals simp

@[simp] theorem State.sramWrite_pending (s : State) (a : Nat) (bs : List Byte) :
    (s.sramWrite a bs).pending = s.pending := by
  simp [State.sramWrite]
@[simp] theorem State.sramWrite_regs (s : State) (a : Nat) (bs : List Byte) :
    (s.sramWrite a bs).regs = s.regs := by
  simp [State.sramWrite]
@[simp] theorem State.sramWrite_time (s : State) (a : Nat) (bs : List Byte) :
    (s.sramWrite a bs).time = s.time := by
  simp [State.sramWrite]
@[simp] theorem State.sramWrite_cal (s : State) (a : Nat) (bs : List Byte) :
    (s.sramWrite a bs).cal = s.cal := by
  simp [State.sramWrite]
@[simp] theorem State.sramWrite_cell (s : State) (a : Nat) (bs : List Byte) :
    (s.sramWrite a bs).cell = s.cell := by
  simp [State.sramWrite]
@[simp] theorem State.sramWrite_lv (s : State) (a : Nat) (bs : List Byte) :
    (s.sramWrite a bs).lv = s.lv := by
  simp [State.sramWrite]
@[simp] theorem State.sramWrite_cores (s : State) (a : Nat) (bs : List Byte) :
    (s.sramWrite a bs).cores = s.cores := by
  simp [State.sramWrite]
@[simp] theorem State.sramWrite_pw (s : State) (a : Nat) (bs : List Byte) :
    (s.sramWrite a bs).pw = s.pw := by
  simp [State.sramWrite]
@[simp] theorem State.sramWrite_sv (s : State) (a : Nat) (bs : List Byte) :
    (s.sramWrite a bs).sv = s.sv := by
  simp [State.sramWrite]
@[simp] theorem State.sramWrite_jnl (s : State) (a : Nat) (bs : List Byte) :
    (s.sramWrite a bs).jnl = s.jnl := by
  simp [State.sramWrite]
@[simp] theorem State.sramWrite_hs (s : State) (a : Nat) (bs : List Byte) :
    (s.sramWrite a bs).hs = s.hs := by
  simp [State.sramWrite]
@[simp] theorem State.sramWrite_lc (s : State) (a : Nat) (bs : List Byte) :
    (s.sramWrite a bs).lc = s.lc := by
  simp [State.sramWrite]
@[simp] theorem State.sramWrite_th (s : State) (a : Nat) (bs : List Byte) :
    (s.sramWrite a bs).th = s.th := by
  simp [State.sramWrite]
@[simp] theorem State.sramWrite_ax (s : State) (a : Nat) (bs : List Byte) :
    (s.sramWrite a bs).ax = s.ax := by
  simp [State.sramWrite]
@[simp] theorem State.sramWrite_so (s : State) (a : Nat) (bs : List Byte) :
    (s.sramWrite a bs).so = s.so := by
  simp [State.sramWrite]
@[simp] theorem State.sramWrite_fb (s : State) (a : Nat) (bs : List Byte) :
    (s.sramWrite a bs).fb = s.fb := by
  simp [State.sramWrite]
@[simp] theorem State.sramWrite_kn (s : State) (a : Nat) (bs : List Byte) :
    (s.sramWrite a bs).kn = s.kn := by
  simp [State.sramWrite]
@[simp] theorem State.sramWrite_held (s : State) (a : Nat) (bs : List Byte) :
    (s.sramWrite a bs).held = s.held := by
  simp [State.sramWrite]
@[simp] theorem State.sramWrite_extRef (s : State) (a : Nat) (bs : List Byte) :
    (s.sramWrite a bs).extRef = s.extRef := by
  simp [State.sramWrite]
@[simp] theorem State.sramWrite_holds (s : State) (a : Nat) (bs : List Byte) :
    (s.sramWrite a bs).holds = s.holds := by
  simp [State.sramWrite]
@[simp] theorem State.sramWrite_latches (s : State) (a : Nat) (bs : List Byte) :
    (s.sramWrite a bs).latches = s.latches := by
  simp [State.sramWrite]
@[simp] theorem State.sramWrite_freeCount (s : State) (a : Nat) (bs : List Byte) :
    (s.sramWrite a bs).freeCount = s.freeCount := by
  simp [State.sramWrite]

@[simp] theorem State.setSram_pending (s : State) (a : Nat) (n : Nat) (v : Nat) :
    (s.setSram a n v).pending = s.pending := s.sramWrite_pending a _
@[simp] theorem State.setSram_regs (s : State) (a : Nat) (n : Nat) (v : Nat) :
    (s.setSram a n v).regs = s.regs := s.sramWrite_regs a _
@[simp] theorem State.setSram_time (s : State) (a : Nat) (n : Nat) (v : Nat) :
    (s.setSram a n v).time = s.time := s.sramWrite_time a _
@[simp] theorem State.setSram_cal (s : State) (a : Nat) (n : Nat) (v : Nat) :
    (s.setSram a n v).cal = s.cal := s.sramWrite_cal a _
@[simp] theorem State.setSram_cell (s : State) (a : Nat) (n : Nat) (v : Nat) :
    (s.setSram a n v).cell = s.cell := s.sramWrite_cell a _
@[simp] theorem State.setSram_lv (s : State) (a : Nat) (n : Nat) (v : Nat) :
    (s.setSram a n v).lv = s.lv := s.sramWrite_lv a _
@[simp] theorem State.setSram_cores (s : State) (a : Nat) (n : Nat) (v : Nat) :
    (s.setSram a n v).cores = s.cores := s.sramWrite_cores a _
@[simp] theorem State.setSram_pw (s : State) (a : Nat) (n : Nat) (v : Nat) :
    (s.setSram a n v).pw = s.pw := s.sramWrite_pw a _
@[simp] theorem State.setSram_sv (s : State) (a : Nat) (n : Nat) (v : Nat) :
    (s.setSram a n v).sv = s.sv := s.sramWrite_sv a _
@[simp] theorem State.setSram_jnl (s : State) (a : Nat) (n : Nat) (v : Nat) :
    (s.setSram a n v).jnl = s.jnl := s.sramWrite_jnl a _
@[simp] theorem State.setSram_hs (s : State) (a : Nat) (n : Nat) (v : Nat) :
    (s.setSram a n v).hs = s.hs := s.sramWrite_hs a _
@[simp] theorem State.setSram_lc (s : State) (a : Nat) (n : Nat) (v : Nat) :
    (s.setSram a n v).lc = s.lc := s.sramWrite_lc a _
@[simp] theorem State.setSram_th (s : State) (a : Nat) (n : Nat) (v : Nat) :
    (s.setSram a n v).th = s.th := s.sramWrite_th a _
@[simp] theorem State.setSram_ax (s : State) (a : Nat) (n : Nat) (v : Nat) :
    (s.setSram a n v).ax = s.ax := s.sramWrite_ax a _
@[simp] theorem State.setSram_so (s : State) (a : Nat) (n : Nat) (v : Nat) :
    (s.setSram a n v).so = s.so := s.sramWrite_so a _
@[simp] theorem State.setSram_fb (s : State) (a : Nat) (n : Nat) (v : Nat) :
    (s.setSram a n v).fb = s.fb := s.sramWrite_fb a _
@[simp] theorem State.setSram_kn (s : State) (a : Nat) (n : Nat) (v : Nat) :
    (s.setSram a n v).kn = s.kn := s.sramWrite_kn a _
@[simp] theorem State.setSram_held (s : State) (a : Nat) (n : Nat) (v : Nat) :
    (s.setSram a n v).held = s.held := s.sramWrite_held a _
@[simp] theorem State.setSram_extRef (s : State) (a : Nat) (n : Nat) (v : Nat) :
    (s.setSram a n v).extRef = s.extRef := s.sramWrite_extRef a _
@[simp] theorem State.setSram_holds (s : State) (a : Nat) (n : Nat) (v : Nat) :
    (s.setSram a n v).holds = s.holds := s.sramWrite_holds a _
@[simp] theorem State.setSram_latches (s : State) (a : Nat) (n : Nat) (v : Nat) :
    (s.setSram a n v).latches = s.latches := s.sramWrite_latches a _
@[simp] theorem State.setSram_freeCount (s : State) (a : Nat) (n : Nat) (v : Nat) :
    (s.setSram a n v).freeCount = s.freeCount := s.sramWrite_freeCount a _

@[simp] theorem State.sramSplice_pending (s : State) (a : Nat) (bs : List Byte) :
    (s.sramSplice a bs).pending = s.pending := by
  simp [State.sramSplice]
@[simp] theorem State.sramSplice_regs (s : State) (a : Nat) (bs : List Byte) :
    (s.sramSplice a bs).regs = s.regs := by
  simp [State.sramSplice]
@[simp] theorem State.sramSplice_time (s : State) (a : Nat) (bs : List Byte) :
    (s.sramSplice a bs).time = s.time := by
  simp [State.sramSplice]
@[simp] theorem State.sramSplice_cal (s : State) (a : Nat) (bs : List Byte) :
    (s.sramSplice a bs).cal = s.cal := by
  simp [State.sramSplice]
@[simp] theorem State.sramSplice_cell (s : State) (a : Nat) (bs : List Byte) :
    (s.sramSplice a bs).cell = s.cell := by
  simp [State.sramSplice]
@[simp] theorem State.sramSplice_lv (s : State) (a : Nat) (bs : List Byte) :
    (s.sramSplice a bs).lv = s.lv := by
  simp [State.sramSplice]
@[simp] theorem State.sramSplice_cores (s : State) (a : Nat) (bs : List Byte) :
    (s.sramSplice a bs).cores = s.cores := by
  simp [State.sramSplice]
@[simp] theorem State.sramSplice_pw (s : State) (a : Nat) (bs : List Byte) :
    (s.sramSplice a bs).pw = s.pw := by
  simp [State.sramSplice]
@[simp] theorem State.sramSplice_sv (s : State) (a : Nat) (bs : List Byte) :
    (s.sramSplice a bs).sv = s.sv := by
  simp [State.sramSplice]
@[simp] theorem State.sramSplice_jnl (s : State) (a : Nat) (bs : List Byte) :
    (s.sramSplice a bs).jnl = s.jnl := by
  simp [State.sramSplice]
@[simp] theorem State.sramSplice_hs (s : State) (a : Nat) (bs : List Byte) :
    (s.sramSplice a bs).hs = s.hs := by
  simp [State.sramSplice]
@[simp] theorem State.sramSplice_lc (s : State) (a : Nat) (bs : List Byte) :
    (s.sramSplice a bs).lc = s.lc := by
  simp [State.sramSplice]
@[simp] theorem State.sramSplice_kl (s : State) (a : Nat) (bs : List Byte) :
    (s.sramSplice a bs).kl = s.kl := by
  simp [State.sramSplice]
@[simp] theorem State.sramSplice_th (s : State) (a : Nat) (bs : List Byte) :
    (s.sramSplice a bs).th = s.th := by
  simp [State.sramSplice]
@[simp] theorem State.sramSplice_ax (s : State) (a : Nat) (bs : List Byte) :
    (s.sramSplice a bs).ax = s.ax := by
  simp [State.sramSplice]
@[simp] theorem State.sramSplice_so (s : State) (a : Nat) (bs : List Byte) :
    (s.sramSplice a bs).so = s.so := by
  simp [State.sramSplice]
@[simp] theorem State.sramSplice_fb (s : State) (a : Nat) (bs : List Byte) :
    (s.sramSplice a bs).fb = s.fb := by
  simp [State.sramSplice]
@[simp] theorem State.sramSplice_kn (s : State) (a : Nat) (bs : List Byte) :
    (s.sramSplice a bs).kn = s.kn := by
  simp [State.sramSplice]
@[simp] theorem State.sramSplice_held (s : State) (a : Nat) (bs : List Byte) :
    (s.sramSplice a bs).held = s.held := by
  simp [State.sramSplice]
@[simp] theorem State.sramSplice_extRef (s : State) (a : Nat) (bs : List Byte) :
    (s.sramSplice a bs).extRef = s.extRef := by
  simp [State.sramSplice]
@[simp] theorem State.sramSplice_holds (s : State) (a : Nat) (bs : List Byte) :
    (s.sramSplice a bs).holds = s.holds := by
  simp [State.sramSplice]
@[simp] theorem State.sramSplice_latches (s : State) (a : Nat) (bs : List Byte) :
    (s.sramSplice a bs).latches = s.latches := by
  simp [State.sramSplice]
@[simp] theorem State.sramSplice_freeCount (s : State) (a : Nat) (bs : List Byte) :
    (s.sramSplice a bs).freeCount = s.freeCount := by
  simp [State.sramSplice]

@[simp] theorem State.soMissed_pending (s : State) (c : Nat) :
    (s.soMissed c).pending = s.pending := by
  simp [State.soMissed]
@[simp] theorem State.soMissed_cal (s : State) (c : Nat) :
    (s.soMissed c).cal = s.cal := by
  simp [State.soMissed]
@[simp] theorem State.soMissed_cell (s : State) (c : Nat) :
    (s.soMissed c).cell = s.cell := by
  simp [State.soMissed]
@[simp] theorem State.soMissed_lv (s : State) (c : Nat) :
    (s.soMissed c).lv = s.lv := by
  simp [State.soMissed]
@[simp] theorem State.soMissed_cores (s : State) (c : Nat) :
    (s.soMissed c).cores = s.cores := by
  simp [State.soMissed]
@[simp] theorem State.soMissed_pw (s : State) (c : Nat) :
    (s.soMissed c).pw = s.pw := by
  simp [State.soMissed]
@[simp] theorem State.soMissed_sv (s : State) (c : Nat) :
    (s.soMissed c).sv = s.sv := by
  simp [State.soMissed]
@[simp] theorem State.soMissed_jnl (s : State) (c : Nat) :
    (s.soMissed c).jnl = s.jnl := by
  simp [State.soMissed]
@[simp] theorem State.soMissed_ch (s : State) (c : Nat) :
    (s.soMissed c).ch = s.ch := by
  simp [State.soMissed]
@[simp] theorem State.soMissed_hs (s : State) (c : Nat) :
    (s.soMissed c).hs = s.hs := by
  simp [State.soMissed]
@[simp] theorem State.soMissed_lc (s : State) (c : Nat) :
    (s.soMissed c).lc = s.lc := by
  simp [State.soMissed]
@[simp] theorem State.soMissed_kl (s : State) (c : Nat) :
    (s.soMissed c).kl = s.kl := by
  simp [State.soMissed]
@[simp] theorem State.soMissed_th (s : State) (c : Nat) :
    (s.soMissed c).th = s.th := by
  simp [State.soMissed]
@[simp] theorem State.soMissed_ax (s : State) (c : Nat) :
    (s.soMissed c).ax = s.ax := by
  simp [State.soMissed]
@[simp] theorem State.soMissed_so (s : State) (c : Nat) :
    (s.soMissed c).so = s.so := by
  simp [State.soMissed]
@[simp] theorem State.soMissed_fb (s : State) (c : Nat) :
    (s.soMissed c).fb = s.fb := by
  simp [State.soMissed]
@[simp] theorem State.soMissed_kn (s : State) (c : Nat) :
    (s.soMissed c).kn = s.kn := by
  simp [State.soMissed]
@[simp] theorem State.soMissed_mem (s : State) (c : Nat) :
    (s.soMissed c).mem = s.mem := by
  simp [State.soMissed]
@[simp] theorem State.soMissed_held (s : State) (c : Nat) :
    (s.soMissed c).held = s.held := by
  simp [State.soMissed]
@[simp] theorem State.soMissed_extRef (s : State) (c : Nat) :
    (s.soMissed c).extRef = s.extRef := by
  simp [State.soMissed]
@[simp] theorem State.soMissed_holds (s : State) (c : Nat) :
    (s.soMissed c).holds = s.holds := by
  simp [State.soMissed]
@[simp] theorem State.soMissed_latches (s : State) (c : Nat) :
    (s.soMissed c).latches = s.latches := by
  simp [State.soMissed]
@[simp] theorem State.soMissed_freeCount (s : State) (c : Nat) :
    (s.soMissed c).freeCount = s.freeCount := by
  simp [State.soMissed]

@[simp] theorem State.soEvent_pending (s : State) (kind : Nat) (groups : Nat) (ct : Nat) :
    (s.soEvent kind groups ct).pending = s.pending := by
  unfold State.soEvent
  split
  · rfl
  · exact forEach_keeps State.pending s _ _ (fun a t => by
      dsimp only
      repeat' split
      all_goals simp)
@[simp] theorem State.soEvent_cal (s : State) (kind : Nat) (groups : Nat) (ct : Nat) :
    (s.soEvent kind groups ct).cal = s.cal := by
  unfold State.soEvent
  split
  · rfl
  · exact forEach_keeps State.cal s _ _ (fun a t => by
      dsimp only
      repeat' split
      all_goals simp)
@[simp] theorem State.soEvent_cell (s : State) (kind : Nat) (groups : Nat) (ct : Nat) :
    (s.soEvent kind groups ct).cell = s.cell := by
  unfold State.soEvent
  split
  · rfl
  · exact forEach_keeps State.cell s _ _ (fun a t => by
      dsimp only
      repeat' split
      all_goals simp)
@[simp] theorem State.soEvent_lv (s : State) (kind : Nat) (groups : Nat) (ct : Nat) :
    (s.soEvent kind groups ct).lv = s.lv := by
  unfold State.soEvent
  split
  · rfl
  · exact forEach_keeps State.lv s _ _ (fun a t => by
      dsimp only
      repeat' split
      all_goals simp)
@[simp] theorem State.soEvent_cores (s : State) (kind : Nat) (groups : Nat) (ct : Nat) :
    (s.soEvent kind groups ct).cores = s.cores := by
  unfold State.soEvent
  split
  · rfl
  · exact forEach_keeps State.cores s _ _ (fun a t => by
      dsimp only
      repeat' split
      all_goals simp)
@[simp] theorem State.soEvent_pw (s : State) (kind : Nat) (groups : Nat) (ct : Nat) :
    (s.soEvent kind groups ct).pw = s.pw := by
  unfold State.soEvent
  split
  · rfl
  · exact forEach_keeps State.pw s _ _ (fun a t => by
      dsimp only
      repeat' split
      all_goals simp)
@[simp] theorem State.soEvent_sv (s : State) (kind : Nat) (groups : Nat) (ct : Nat) :
    (s.soEvent kind groups ct).sv = s.sv := by
  unfold State.soEvent
  split
  · rfl
  · exact forEach_keeps State.sv s _ _ (fun a t => by
      dsimp only
      repeat' split
      all_goals simp)
@[simp] theorem State.soEvent_jnl (s : State) (kind : Nat) (groups : Nat) (ct : Nat) :
    (s.soEvent kind groups ct).jnl = s.jnl := by
  unfold State.soEvent
  split
  · rfl
  · exact forEach_keeps State.jnl s _ _ (fun a t => by
      dsimp only
      repeat' split
      all_goals simp)
@[simp] theorem State.soEvent_ch (s : State) (kind : Nat) (groups : Nat) (ct : Nat) :
    (s.soEvent kind groups ct).ch = s.ch := by
  unfold State.soEvent
  split
  · rfl
  · exact forEach_keeps State.ch s _ _ (fun a t => by
      dsimp only
      repeat' split
      all_goals simp)
@[simp] theorem State.soEvent_hs (s : State) (kind : Nat) (groups : Nat) (ct : Nat) :
    (s.soEvent kind groups ct).hs = s.hs := by
  unfold State.soEvent
  split
  · rfl
  · exact forEach_keeps State.hs s _ _ (fun a t => by
      dsimp only
      repeat' split
      all_goals simp)
@[simp] theorem State.soEvent_lc (s : State) (kind : Nat) (groups : Nat) (ct : Nat) :
    (s.soEvent kind groups ct).lc = s.lc := by
  unfold State.soEvent
  split
  · rfl
  · exact forEach_keeps State.lc s _ _ (fun a t => by
      dsimp only
      repeat' split
      all_goals simp)
@[simp] theorem State.soEvent_kl (s : State) (kind : Nat) (groups : Nat) (ct : Nat) :
    (s.soEvent kind groups ct).kl = s.kl := by
  unfold State.soEvent
  split
  · rfl
  · exact forEach_keeps State.kl s _ _ (fun a t => by
      dsimp only
      repeat' split
      all_goals simp)
@[simp] theorem State.soEvent_th (s : State) (kind : Nat) (groups : Nat) (ct : Nat) :
    (s.soEvent kind groups ct).th = s.th := by
  unfold State.soEvent
  split
  · rfl
  · exact forEach_keeps State.th s _ _ (fun a t => by
      dsimp only
      repeat' split
      all_goals simp)
@[simp] theorem State.soEvent_ax (s : State) (kind : Nat) (groups : Nat) (ct : Nat) :
    (s.soEvent kind groups ct).ax = s.ax := by
  unfold State.soEvent
  split
  · rfl
  · exact forEach_keeps State.ax s _ _ (fun a t => by
      dsimp only
      repeat' split
      all_goals simp)
@[simp] theorem State.soEvent_fb (s : State) (kind : Nat) (groups : Nat) (ct : Nat) :
    (s.soEvent kind groups ct).fb = s.fb := by
  unfold State.soEvent
  split
  · rfl
  · exact forEach_keeps State.fb s _ _ (fun a t => by
      dsimp only
      repeat' split
      all_goals simp)
@[simp] theorem State.soEvent_kn (s : State) (kind : Nat) (groups : Nat) (ct : Nat) :
    (s.soEvent kind groups ct).kn = s.kn := by
  unfold State.soEvent
  split
  · rfl
  · exact forEach_keeps State.kn s _ _ (fun a t => by
      dsimp only
      repeat' split
      all_goals simp)
@[simp] theorem State.soEvent_mem (s : State) (kind : Nat) (groups : Nat) (ct : Nat) :
    (s.soEvent kind groups ct).mem = s.mem := by
  unfold State.soEvent
  split
  · rfl
  · exact forEach_keeps State.mem s _ _ (fun a t => by
      dsimp only
      repeat' split
      all_goals simp)
@[simp] theorem State.soEvent_held (s : State) (kind : Nat) (groups : Nat) (ct : Nat) :
    (s.soEvent kind groups ct).held = s.held := by
  unfold State.soEvent
  split
  · rfl
  · exact forEach_keeps State.held s _ _ (fun a t => by
      dsimp only
      repeat' split
      all_goals simp)
@[simp] theorem State.soEvent_extRef (s : State) (kind : Nat) (groups : Nat) (ct : Nat) :
    (s.soEvent kind groups ct).extRef = s.extRef := by
  unfold State.soEvent
  split
  · rfl
  · exact forEach_keeps State.extRef s _ _ (fun a t => by
      dsimp only
      repeat' split
      all_goals simp)
@[simp] theorem State.soEvent_holds (s : State) (kind : Nat) (groups : Nat) (ct : Nat) :
    (s.soEvent kind groups ct).holds = s.holds := by
  unfold State.soEvent
  split
  · rfl
  · exact forEach_keeps State.holds s _ _ (fun a t => by
      dsimp only
      repeat' split
      all_goals simp)
@[simp] theorem State.soEvent_latches (s : State) (kind : Nat) (groups : Nat) (ct : Nat) :
    (s.soEvent kind groups ct).latches = s.latches := by
  unfold State.soEvent
  split
  · rfl
  · exact forEach_keeps State.latches s _ _ (fun a t => by
      dsimp only
      repeat' split
      all_goals simp)
@[simp] theorem State.soEvent_freeCount (s : State) (kind : Nat) (groups : Nat) (ct : Nat) :
    (s.soEvent kind groups ct).freeCount = s.freeCount := by
  unfold State.soEvent
  split
  · rfl
  · exact forEach_keeps State.freeCount s _ _ (fun a t => by
      dsimp only
      repeat' split
      all_goals simp)

end Sys2Proof.Machine
end

