-- ==== Sys2Proof/Laws/Tab.lean ====
section
/-!
SUPPORT. Sparse tables and byte memories: read after write, other entries untouched, and the canonical form that every
operation keeps.
-/

namespace Sys2Proof.Machine

/-! ## Reading after writing -/

theorem Tab.get_insert {α : Type} (d : Nat → α) (t : List (Nat × α)) (k : Nat) (v : α) (h : ∀ e ∈ t, e.1 ≠ k) :
    Tab.get d (Tab.insert k v t) k = v := by
  induction t with
  | nil => simp [Tab.insert, Tab.get]
  | cons e t ih =>
    have he : k ≠ e.1 := fun hk => h e (by simp) hk.symm
    unfold Tab.insert
    split
    · simp [Tab.get]
    · simp only [Tab.get, if_neg he]
      exact ih (fun e he => h e (by simp [he]))

theorem Tab.get_insert_other {α : Type} (d : Nat → α) (t : List (Nat × α)) {k j : Nat} (v : α) (h : j ≠ k) :
    Tab.get d (Tab.insert k v t) j = Tab.get d t j := by
  induction t with
  | nil => simp [Tab.insert, Tab.get, h]
  | cons e t ih =>
    unfold Tab.insert
    split
    · simp [Tab.get, h]
    · simp only [Tab.get, ih]

theorem Tab.get_filter_same {α : Type} (d : Nat → α) (t : List (Nat × α)) (k : Nat) :
    Tab.get d (t.filter (fun e => e.1 ≠ k)) k = d k := by
  induction t with
  | nil => rfl
  | cons e t ih =>
    simp only [List.filter_cons]
    split
    · rename_i h
      have he : k ≠ e.1 := fun hk => (of_decide_eq_true h) hk.symm
      simp only [Tab.get, if_neg he, ih]
    · exact ih

theorem Tab.get_filter_other {α : Type} (d : Nat → α) (t : List (Nat × α)) {k j : Nat} (h : j ≠ k) :
    Tab.get d (t.filter (fun e => e.1 ≠ k)) j = Tab.get d t j := by
  induction t with
  | nil => rfl
  | cons e t ih =>
    simp only [List.filter_cons]
    split
    · simp only [Tab.get, ih]
    · rename_i he
      have : e.1 = k := by simpa using he
      simp only [Tab.get, ih]
      rw [if_neg (by omega)]

/-- A written entry reads back. -/
@[simp] theorem Tab.get_set {α : Type} [DecidableEq α] (d : Nat → α) (t : List (Nat × α)) (k : Nat) (v : α) :
    Tab.get d (Tab.set d t k v) k = v := by
  unfold Tab.set
  dsimp only
  split
  · rename_i h
    rw [Tab.get_filter_same, h]
  · exact Tab.get_insert d _ k v (fun e he => by simpa using (List.mem_filter.mp he).2)

/-- Every other entry reads as before. -/
theorem Tab.get_set_other {α : Type} [DecidableEq α] (d : Nat → α) (t : List (Nat × α)) {k j : Nat} (v : α)
    (h : j ≠ k) : Tab.get d (Tab.set d t k v) j = Tab.get d t j := by
  unfold Tab.set
  dsimp only
  split
  · exact Tab.get_filter_other d t h
  · rw [Tab.get_insert_other d _ v h, Tab.get_filter_other d t h]

/-- An entry after a write. -/
theorem Tab.get_set_if {α : Type} [DecidableEq α] (d : Nat → α) (t : List (Nat × α)) (k j : Nat) (v : α) :
    Tab.get d (Tab.set d t k v) j = if j = k then v else Tab.get d t j := by
  split
  · rename_i h; rw [h, Tab.get_set]
  · rename_i h; exact Tab.get_set_other d t v h

/-! ## The canonical form -/

theorem Tab.wfFrom_mono {α : Type} [DecidableEq α] (d : Nat → α) {b c : Nat} (h : c ≤ b) {t : List (Nat × α)}
    (hw : Tab.wfFrom d b t = true) : Tab.wfFrom d c t = true := by
  cases t with
  | nil => rfl
  | cons e t =>
    obtain ⟨i, a⟩ := e
    simp only [Tab.wfFrom, Bool.and_eq_true, decide_eq_true_eq] at hw ⊢
    exact ⟨⟨by omega, hw.1.2⟩, hw.2⟩

theorem Tab.wfFrom_filter {α : Type} [DecidableEq α] (d : Nat → α) (p : Nat × α → Bool) {t : List (Nat × α)} {b : Nat}
    (hw : Tab.wfFrom d b t = true) : Tab.wfFrom d b (t.filter p) = true := by
  induction t generalizing b with
  | nil => rfl
  | cons e t ih =>
    obtain ⟨i, a⟩ := e
    simp only [Tab.wfFrom, Bool.and_eq_true, decide_eq_true_eq] at hw
    obtain ⟨⟨hb, ha⟩, ht⟩ := hw
    simp only [List.filter]
    split
    · simp [Tab.wfFrom, hb, ha, ih ht]
    · exact Tab.wfFrom_mono d (by omega) (ih ht)

theorem Tab.wfFrom_insert {α : Type} [DecidableEq α] (d : Nat → α) {t : List (Nat × α)} {b k : Nat} {v : α} (hk : b ≤ k)
    (hv : v ≠ d k) (ht : ∀ e ∈ t, e.1 ≠ k) (hw : Tab.wfFrom d b t = true) : Tab.wfFrom d b (Tab.insert k v t) = true := by
  induction t generalizing b with
  | nil => simp [Tab.insert, Tab.wfFrom, hk, hv]
  | cons e t ih =>
    obtain ⟨i, a⟩ := e
    have hi : i ≠ k := ht (i, a) (by simp)
    simp only [Tab.wfFrom, Bool.and_eq_true, decide_eq_true_eq] at hw
    unfold Tab.insert
    split
    · simp only [Tab.wfFrom, Bool.and_eq_true, decide_eq_true_eq]
      exact ⟨⟨hk, hv⟩, ⟨by omega, hw.1.2⟩, hw.2⟩
    · simp only [Tab.wfFrom, Bool.and_eq_true, decide_eq_true_eq]
      exact ⟨hw.1, ih (by omega) (fun e he => ht e (by simp [he])) hw.2⟩

theorem Tab.wfFrom_set {α : Type} [DecidableEq α] (d : Nat → α) {t : List (Nat × α)} {b k : Nat} (v : α) (hk : b ≤ k)
    (hw : Tab.wfFrom d b t = true) : Tab.wfFrom d b (Tab.set d t k v) = true := by
  unfold Tab.set
  dsimp only
  split
  · exact Tab.wfFrom_filter d _ hw
  · exact Tab.wfFrom_insert d hk (by assumption) (fun e he => by simpa using (List.mem_filter.mp he).2)
      (Tab.wfFrom_filter d _ hw)

/-- A write keeps the canonical form. -/
theorem Tab.wf_set {α : Type} [DecidableEq α] (d : Nat → α) {t : List (Nat × α)} (k : Nat) (v : α)
    (hw : Tab.wf d t = true) : Tab.wf d (Tab.set d t k v) = true :=
  Tab.wfFrom_set d v (Nat.zero_le k) hw

/-- Dropping entries keeps the canonical form. -/
theorem Tab.wf_filter {α : Type} [DecidableEq α] (d : Nat → α) (p : Nat × α → Bool) {t : List (Nat × α)}
    (hw : Tab.wf d t = true) : Tab.wf d (t.filter p) = true := Tab.wfFrom_filter d p hw

/-! ## Byte memories -/

theorem Memory.wf_write {m : List (Nat × Byte)} (a : Nat) (b : Byte) (h : Memory.wf m = true) :
    Memory.wf (Mem.write m a b) = true := Tab.wf_set memDefault a b h

theorem Memory.wf_writeN {m : List (Nat × Byte)} (bs : List Byte) (a : Nat) (h : Memory.wf m = true) :
    Memory.wf (Mem.writeN m a bs) = true := by
  induction bs generalizing m a with
  | nil => exact h
  | cons b bs ih => exact ih (a + 1) (Memory.wf_write a b h)

theorem Memory.wf_setNum {m : List (Nat × Byte)} (a n v : Nat) (h : Memory.wf m = true) :
    Memory.wf (Mem.setNum m a n v) = true := Memory.wf_writeN _ a h

theorem Memory.wf_clear {m : List (Nat × Byte)} (lo hi : Nat) (h : Memory.wf m = true) :
    Memory.wf (Mem.clear m lo hi) = true := Tab.wf_filter memDefault _ h

theorem Memory.wf_overlay {m : List (Nat × Byte)} (cs : List (Nat × Byte)) (h : Memory.wf m = true) :
    Memory.wf (Mem.overlay m cs) = true := by
  induction cs generalizing m with
  | nil => exact h
  | cons c cs ih => exact ih (Memory.wf_write c.1 c.2 h)

theorem Memory.wf_copy {mDst : List (Nat × Byte)} (mSrc : List (Nat × Byte)) (src n dst : Nat)
    (h : Memory.wf mDst = true) : Memory.wf (Mem.copy mSrc src n mDst dst) = true :=
  Memory.wf_overlay _ (Memory.wf_clear _ _ h)

theorem Memory.wf_nil : Memory.wf [] = true := rfl

/-- Two runs of entries, the second above the first, form one canonical table. -/
theorem Tab.wfFrom_append {α : Type} [DecidableEq α] (d : Nat → α) {t u : List (Nat × α)} {b c : Nat}
    (ht : Tab.wfFrom d b t = true) (hu : Tab.wfFrom d c u = true) (hb : b ≤ c) (h : ∀ e ∈ t, e.1 < c) :
    Tab.wfFrom d b (t ++ u) = true := by
  induction t generalizing b with
  | nil => exact Tab.wfFrom_mono d hb hu
  | cons e t ih =>
    obtain ⟨i, a⟩ := e
    simp only [Tab.wfFrom, Bool.and_eq_true, decide_eq_true_eq] at ht
    have hi : i < c := h (i, a) (by simp)
    simp only [List.cons_append, Tab.wfFrom, Bool.and_eq_true, decide_eq_true_eq]
    exact ⟨ht.1, ih ht.2 (by omega) (fun e he => h e (by simp [he]))⟩

theorem Mem.wfFrom_listed (a : Nat) (bs : List Byte) : Tab.wfFrom memDefault a (Mem.listed a bs) = true := by
  induction bs generalizing a with
  | nil => rfl
  | cons b bs ih =>
    unfold Mem.listed
    split
    · exact Tab.wfFrom_mono memDefault (Nat.le_succ a) (ih (a + 1))
    · simp [Tab.wfFrom, *]

theorem Mem.listed_lt (a : Nat) (bs : List Byte) : ∀ e ∈ Mem.listed a bs, e.1 < a + bs.length := by
  induction bs generalizing a with
  | nil => simp [Mem.listed]
  | cons b bs ih =>
    intro e he
    unfold Mem.listed at he
    have key : ∀ e ∈ Mem.listed (a + 1) bs, e.1 < a + (b :: bs).length := by
      intro e he
      have := ih (a + 1) e he
      simp only [List.length_cons]
      omega
    split at he
    · exact key e he
    · rcases List.mem_cons.mp he with h | h
      · subst h; simp
      · exact key e h

theorem Tab.wfFrom_filter_ge {α : Type} [DecidableEq α] (d : Nat → α) {t : List (Nat × α)} {b c : Nat}
    (hw : Tab.wfFrom d b t = true) : Tab.wfFrom d c (t.filter (fun e => c ≤ e.1)) = true := by
  induction t generalizing b with
  | nil => rfl
  | cons e t ih =>
    obtain ⟨i, a⟩ := e
    simp only [Tab.wfFrom, Bool.and_eq_true, decide_eq_true_eq] at hw
    simp only [List.filter]
    split
    · rename_i hc
      have hc : c ≤ i := by simpa using hc
      simp only [Tab.wfFrom, Bool.and_eq_true, decide_eq_true_eq]
      exact ⟨⟨hc, hw.1.2⟩, Tab.wfFrom_filter d _ hw.2⟩
    · exact ih hw.2

theorem Memory.wf_splice {m : List (Nat × Byte)} (a : Nat) (bs : List Byte) (h : Memory.wf m = true) :
    Memory.wf (Mem.splice m a bs) = true := by
  unfold Mem.splice Memory.wf
  have h1 : Tab.wfFrom memDefault 0 (m.filter (fun c => c.1 < a)) = true := Tab.wfFrom_filter memDefault _ h
  have h2 := Mem.wfFrom_listed a bs
  have h3 : Tab.wfFrom memDefault (a + bs.length) (m.filter (fun c => a + bs.length ≤ c.1)) = true :=
    Tab.wfFrom_filter_ge memDefault h
  have h4 : Tab.wfFrom memDefault 0 (m.filter (fun c => c.1 < a) ++ Mem.listed a bs) = true :=
    Tab.wfFrom_append memDefault h1 h2 (Nat.zero_le _) (fun e he => by simpa using (List.mem_filter.mp he).2)
  refine Tab.wfFrom_append memDefault h4 h3 (Nat.zero_le _) (fun e he => ?_)
  rcases List.mem_append.mp he with h | h
  · have : e.1 < a := by simpa using (List.mem_filter.mp h).2
    omega
  · exact Mem.listed_lt a bs e h

/-- A byte outside a run of written bytes reads as before. -/
theorem Mem.read_writeN_other (m : List (Nat × Byte)) (bs : List Byte) (a b : Nat) (h : b < a ∨ a + bs.length ≤ b) :
    Mem.read (Mem.writeN m a bs) b = Mem.read m b := by
  induction bs generalizing m a with
  | nil => rfl
  | cons x bs ih =>
    simp only [List.length_cons] at h
    rw [Mem.writeN, ih (Mem.write m a x) (a + 1) (by omega)]
    exact Tab.get_set_other memDefault m x (by omega)

/-- A run of written bytes reads back. -/
theorem Mem.readN_writeN (m : List (Nat × Byte)) (bs : List Byte) (a : Nat) :
    Mem.readN (Mem.writeN m a bs) a bs.length = bs := by
  induction bs generalizing m a with
  | nil => rfl
  | cons x bs ih =>
    simp only [List.length_cons, Mem.readN, Mem.writeN]
    rw [ih (Mem.write m a x) (a + 1), Mem.read_writeN_other _ bs (a + 1) a (by omega)]
    rw [show Mem.read (Mem.write m a x) a = x from Tab.get_set memDefault m a x]

end Sys2Proof.Machine
end

