-- ==== Sys2Proof/Laws/Regs.lean ====
section
/-!
SUPPORT. Reading the register file after a write: registers, fields and counters.
-/

namespace Sys2Proof.Machine

/-! ## Bit fields -/

theorem bits_lt (v hi lo : Nat) : bits v hi lo < 2 ^ (hi + 1 - lo) := Nat.mod_lt _ (Nat.two_pow_pos _)

theorem setBits_testBit (v hi lo x k : Nat) (h : lo ≤ hi) :
    (setBits v hi lo x).testBit k = if lo ≤ k ∧ k ≤ hi then x.testBit (k - lo) else v.testBit k := by
  unfold setBits
  dsimp only
  have hsplit : v % 2 ^ lo + x % 2 ^ (hi + 1 - lo) * 2 ^ lo + (v >>> (hi + 1)) * 2 ^ (hi + 1) =
      2 ^ (hi + 1) * (v >>> (hi + 1)) + (2 ^ lo * (x % 2 ^ (hi + 1 - lo)) + v % 2 ^ lo) := by ring
  have hlo : v % 2 ^ lo < 2 ^ lo := Nat.mod_lt _ (Nat.two_pow_pos _)
  have hx : x % 2 ^ (hi + 1 - lo) < 2 ^ (hi + 1 - lo) := Nat.mod_lt _ (Nat.two_pow_pos _)
  have hp : 2 ^ lo * 2 ^ (hi + 1 - lo) = 2 ^ (hi + 1) := by rw [← pow_add]; congr 1; omega
  have hmid : 2 ^ lo * (x % 2 ^ (hi + 1 - lo)) + v % 2 ^ lo < 2 ^ (hi + 1) := by
    have : 2 ^ lo * (x % 2 ^ (hi + 1 - lo) + 1) ≤ 2 ^ lo * 2 ^ (hi + 1 - lo) := Nat.mul_le_mul_left _ hx
    rw [Nat.mul_add] at this
    omega
  rw [hsplit, Nat.testBit_two_pow_mul_add _ hmid, Nat.testBit_two_pow_mul_add _ hlo, Nat.testBit_shiftRight,
    Nat.testBit_mod_two_pow, Nat.testBit_mod_two_pow]
  by_cases h1 : k < hi + 1
  · rw [if_pos h1]
    by_cases h2 : k < lo
    · rw [if_pos h2, if_neg (by omega)]
      simp [h2]
    · rw [if_neg h2, if_pos (by omega)]
      simp only [Bool.and_eq_right_iff_imp, decide_eq_true_eq]
      intro _; omega
  · rw [if_neg h1, if_neg (by omega), show hi + 1 + (k - (hi + 1)) = k by omega]

theorem bits_testBit (v hi lo k : Nat) : (bits v hi lo).testBit k = (decide (k < hi + 1 - lo) && v.testBit (lo + k)) := by
  unfold bits
  rw [Nat.testBit_mod_two_pow, Nat.testBit_shiftRight]

/-- A written field reads back. -/
theorem bits_setBits (v hi lo x : Nat) (h : lo ≤ hi) : bits (setBits v hi lo x) hi lo = x % 2 ^ (hi + 1 - lo) := by
  apply Nat.eq_of_testBit_eq
  intro k
  rw [bits_testBit, setBits_testBit _ _ _ _ _ h, Nat.testBit_mod_two_pow]
  by_cases hk : k < hi + 1 - lo
  · rw [if_pos (by omega), show lo + k - lo = k by omega]
  · simp [hk]

/-- The other fields of a register read as before. -/
theorem bits_setBits_other (v hi lo x hi' lo' : Nat) (h : lo ≤ hi) (hd : hi' < lo ∨ hi < lo') :
    bits (setBits v hi lo x) hi' lo' = bits v hi' lo' := by
  apply Nat.eq_of_testBit_eq
  intro k
  rw [bits_testBit, bits_testBit, setBits_testBit _ _ _ _ _ h]
  by_cases hk : k < hi' + 1 - lo'
  · rw [if_neg (by omega)]
  · simp [hk]

theorem setBits_lt (v hi lo x w : Nat) (h : lo ≤ hi) (hw : hi < w) (hv : v < 2 ^ w) : setBits v hi lo x < 2 ^ w := by
  apply Nat.lt_pow_two_of_testBit
  intro k hk
  rw [setBits_testBit _ _ _ _ _ h, if_neg (by omega)]
  exact Nat.testBit_lt_two_pow (lt_of_lt_of_le hv (Nat.pow_le_pow_right (by decide) hk))

/-! ## Registers -/

theorem State.rg_lt (s : State) (r : Reg) (i j : Nat) : s.rg r i j < 2 ^ 32 := (Tab.get regDefault s.regs (r.addr i j)).isLt

/-- A written register reads back, as far as 32 bits hold it. -/
@[simp] theorem State.rg_setRg (s : State) (r : Reg) (i j v : Nat) : (s.setRg r i j v).rg r i j = v % 2 ^ 32 := by
  simp [State.rg, State.setRg]

/-- Every other register reads as before. -/
theorem State.rg_setRg_other (s : State) (r r' : Reg) (i j i' j' v : Nat) (h : r'.addr i' j' ≠ r.addr i j) :
    (s.setRg r i j v).rg r' i' j' = s.rg r' i' j' := by
  simp [State.rg, State.setRg, Tab.get_set_other _ _ _ h]

/-- A field of the register file: its bits in order, and within 32 bits. -/
def Field.ok (f : Field) : Bool := decide (f.lo ≤ f.hi) && decide (f.hi < 32)

/-- A written field reads back. -/
theorem State.fd_setFd (s : State) (f : Field) (i j v : Nat) (hf : f.ok = true) :
    (s.setFd f i j v).fd f i j = v % 2 ^ (f.hi + 1 - f.lo) := by
  simp only [Field.ok, Bool.and_eq_true, decide_eq_true_eq] at hf
  have h1 : setBits (s.rg f.reg i j) f.hi f.lo v < 2 ^ 32 := setBits_lt _ _ _ _ _ hf.1 hf.2 (s.rg_lt _ _ _)
  rw [State.fd, State.setFd, State.rg_setRg, Nat.mod_eq_of_lt h1, bits_setBits _ _ _ _ hf.1]

/-- A field of another register reads as before. -/
theorem State.fd_setFd_reg (s : State) (f g : Field) (i j i' j' v : Nat) (h : g.reg.addr i' j' ≠ f.reg.addr i j) :
    (s.setFd f i j v).fd g i' j' = s.fd g i' j' := by
  rw [State.fd, State.setFd, State.rg_setRg_other _ _ _ _ _ _ _ _ h, State.fd]

/-- Another field of the same register reads as before. -/
theorem State.fd_setFd_field (s : State) (f g : Field) (i j v : Nat) (hf : f.ok = true) (hr : g.reg = f.reg)
    (hd : g.hi < f.lo ∨ f.hi < g.lo) : (s.setFd f i j v).fd g i j = s.fd g i j := by
  simp only [Field.ok, Bool.and_eq_true, decide_eq_true_eq] at hf
  have h1 : setBits (s.rg f.reg i j) f.hi f.lo v < 2 ^ 32 := setBits_lt _ _ _ _ _ hf.1 hf.2 (s.rg_lt _ _ _)
  rw [State.fd, State.setFd, hr, State.rg_setRg, Nat.mod_eq_of_lt h1, bits_setBits_other _ _ _ _ _ _ hf.1 hd, State.fd, hr]

/-- A field of a register after a write of another register. -/
theorem State.fd_setRg_reg (s : State) (r : Reg) (g : Field) (i j i' j' v : Nat) (h : g.reg.addr i' j' ≠ r.addr i j) :
    (s.setRg r i j v).fd g i' j' = s.fd g i' j' := by
  rw [State.fd, State.rg_setRg_other _ _ _ _ _ _ _ _ h, State.fd]

/-- A field of a written register. -/
theorem State.fd_setRg (s : State) (r : Reg) (g : Field) (i j v : Nat) (h : g.reg = r) :
    (s.setRg r i j v).fd g i j = bits (v % 2 ^ 32) g.hi g.lo := by
  rw [State.fd, h, State.rg_setRg]

/-- A counter after an event (R614). -/
theorem State.fd_incFd (s : State) (f : Field) (i j : Nat) (hf : f.ok = true) :
    (s.incFd f i j).fd f i j = satInc (f.hi + 1 - f.lo) (s.fd f i j) := by
  rw [State.incFd, State.fd_setFd _ _ _ _ _ hf, Nat.mod_eq_of_lt]
  unfold satInc
  have := Nat.two_pow_pos (f.hi + 1 - f.lo)
  split <;> omega

theorem State.fd_lt (s : State) (f : Field) (i j : Nat) : s.fd f i j < 2 ^ (f.hi + 1 - f.lo) := bits_lt _ _ _

end Sys2Proof.Machine
end

