-- ==== Sys2Proof/Laws/Cores.lean ====
section
/-!
SUPPORT. The registers of a core after a write, and what issuing an instruction comes to.
-/

namespace Sys2Proof.Machine

/-! ## The table of cores -/

@[simp] theorem State.core_setCore (s : State) (n : Nat) (c : Core) : (s.setCore n c).core n = c := by
  simp [State.core, State.setCore]

theorem State.core_setCore_other (s : State) {n m : Nat} (c : Core) (h : m ≠ n) : (s.setCore n c).core m = s.core m := by
  simp [State.core, State.setCore, Tab.get_set_other _ _ _ h]

theorem State.onlyCore_setCore (s : State) (n : Nat) (d : Core) : s.onlyCore (s.setCore n d) n d :=
  ⟨rfl, s.core_setCore n d, fun _ h => s.core_setCore_other d h⟩

/-! ## Registers of a core -/

@[simp] theorem Core.gr_next (c : Core) (k : Nat) : c.next.gr k = c.gr k := by cases c; rfl

/-- A write of a general register writes it alone; g0 stays 0 (R176). -/
theorem Core.wroteG_setG (c : Core) (k : Nat) (v : Word) : c.wroteG (c.setG k v) k v := by
  unfold Core.wroteG Core.setG
  by_cases h : k % 32 = 0
  · rw [if_pos h, if_pos h]
    exact ⟨rfl, by simp [Core.gr, h], fun _ _ => rfl⟩
  · rw [if_neg h, if_neg h]
    refine ⟨rfl, by simp [Core.gr, h], fun m hm => ?_⟩
    simp only [Core.gr]
    split
    · rfl
    · exact Tab.get_set_other _ _ _ hm

theorem Core.wroteW_setW (c : Core) (k : Nat) (v : Word) : c.wroteW (c.setW k v) k v := by
  refine ⟨rfl, by simp [Core.wr, Core.setW, Core.phys], fun m hm => ?_⟩
  exact Tab.get_set_other _ _ _ hm

theorem Core.wroteP_setP (c : Core) (k : Nat) (b : Bool) : c.wroteP (c.setP k b) k b := by
  unfold Core.wroteP Core.setP
  by_cases h : k % 8 = 0
  · rw [if_pos h]
    exact ⟨rfl, by simp [Core.pr, h], fun _ _ => rfl⟩
  · rw [if_neg h]
    have hlt : setBits c.p.toNat (k % 8) (k % 8) (b2n b) < 2 ^ 8 :=
      setBits_lt _ _ _ _ _ (le_refl _) (by omega) c.p.isLt
    have ht : ∀ m, m < 8 → (BitVec.ofNat 8 (setBits c.p.toNat (k % 8) (k % 8) (b2n b))).getLsbD m =
        if m = k % 8 then b else c.p.getLsbD m := by
      intro m hm
      rw [← BitVec.testBit_toNat, BitVec.toNat_ofNat, Nat.mod_eq_of_lt hlt, setBits_testBit _ _ _ _ _ (le_refl _)]
      by_cases hk : m = k % 8
      · subst hk
        simp only [le_refl, and_self, if_true, Nat.sub_self]
        cases b <;> decide
      · rw [if_neg (by omega), if_neg hk, BitVec.testBit_toNat]
    refine ⟨rfl, ?_, fun m hm => ?_⟩
    · simp [Core.pr, ht (k % 8) (by omega), h]
    · simp only [Core.pr, ht (m % 8) (by omega), if_neg hm]

theorem Core.wroteA_setAc (c : Core) (k : Nat) (v : Int) (h : -(2 ^ 71) ≤ v ∧ v ≤ 2 ^ 71 - 1) :
    c.wroteA (c.setAc k v) k v := by
  have hc : clampInt (-(2 ^ 71)) (2 ^ 71 - 1) v = v := by unfold clampInt; rw [if_neg (by omega), if_neg (by omega)]
  unfold Core.setAc
  simp only [hc, if_true]
  refine ⟨rfl, ?_, fun m hm => ?_⟩
  · simp only [Core.ac, Tab.get_set]
    rw [BitVec.toInt_ofInt, Int.bmod_eq_of_le (by omega) (by omega)]
  · simp only [Core.ac]
    rw [Tab.get_set_other _ _ _ hm]

/-! ## Issue -/

theorem State.afterStep_of_run (s : State) (n : Nat) (h : (s.core n).haltReq = false) : s.afterStep n = s := by
  unfold State.afterStep
  dsimp only
  split
  · rfl
  · rw [if_neg (by simp [h]), if_neg (by simp [h])]

theorem State.fetches_haltReq {s : State} {n : Nat} (h : s.fetches n = true) : (s.core n).haltReq = false := by
  simp only [State.fetches, Bool.and_eq_true, Bool.not_eq_true'] at h
  exact h.1.2

/-- What a core that fetches does with an instruction (R211). -/
theorem State.perform_of_fetches {s : State} {n : Nat} (act : Core → State → Issue) (h : s.fetches n = true) :
    s.perform n act = match act (s.core n) s with
      | .done t => t.afterStep n
      | .raise t cause ea => (t.exception n cause ea).afterStep n := by
  simp only [State.fetches, Bool.and_eq_true] at h
  unfold State.perform
  rw [if_neg (by simp [h.2])]
  all_goals (cases act (s.core n) s <;> rfl)

/-- A core at a bundle boundary issues (R183, R211). -/
theorem State.issue_of_ready {s : State} {n : Nat} (act : Core → State → Issue) (h : s.ready n = true) :
    s.issue n act = .next (match act (s.core n) s with
      | .done t => t.afterStep n
      | .raise t cause ea => (t.exception n cause ea).afterStep n) := by
  simp only [State.ready, Bool.and_eq_true, Bool.not_eq_true', Option.isNone_iff_eq_none] at h
  obtain ⟨⟨⟨hf, hp⟩, hb⟩, hh⟩ := h
  have hi : s.issues n = true := by
    simp only [State.fetches, Bool.and_eq_true] at hf
    exact hf.1.1
  have ha : s.atBundle n = s := by unfold State.atBundle; rw [if_neg (by simp [hp])]
  unfold State.issue
  rw [if_neg (by simp [hi])]
  simp only [ha]
  rw [if_neg (by simp [hb]), if_neg (by simp [State.haltDue, hh]), State.perform_of_fetches act hf]

/-- A core issues a class-B instruction, whether it ends an open bundle or stands alone (R183). -/
theorem State.issueB_of_ready {s : State} {n : Nat} (act : Core → State → Issue) (h : s.readyB n = true) :
    s.issueB n act = .next (match act (s.core n) s with
      | .done t => t.afterStep n
      | .raise t cause ea => (t.exception n cause ea).afterStep n) := by
  simp only [State.readyB, Bool.and_eq_true, Bool.or_eq_true, Bool.not_eq_true'] at h
  obtain ⟨hf, h⟩ := h
  have hi : s.issues n = true := by
    simp only [State.fetches, Bool.and_eq_true] at hf
    exact hf.1.1
  unfold State.issueB
  by_cases hp : (s.core n).pair.isSome = true
  · rw [if_pos ⟨hi, hp⟩, State.perform_of_fetches act hf]
  · rw [if_neg (fun e => hp e.2)]
    have hd := h.resolve_left hp
    exact State.issue_of_ready act (by
      simp only [State.ready, Bool.and_eq_true, Bool.not_eq_true', Option.isNone_iff_eq_none]
      exact ⟨⟨⟨hf, by simpa using hp⟩, hd.1⟩, hd.2⟩)

end Sys2Proof.Machine
end

