-- ==== Sys2Proof/Laws/Events.lean ====
section
/-!
SUPPORT. What journal entries, vectors and refusals do to registers other than their own.
-/

namespace Sys2Proof.Machine

@[simp] theorem State.rg_noteRaise (s : State) (off b : Nat) (r : Reg) (i j : Nat) : (s.noteRaise off b).rg r i j = s.rg r i j :=
  rfl

theorem State.rg_pendVector (s : State) (v : Nat) (r : Reg) (i j : Nat) (hv : v < 64) (h : vectorReg (r.addr i j) = false) :
    (s.pendVector v).rg r i j = s.rg r i j := by
  have hne : ∀ k, vectorReg k = true → r.addr i j ≠ k := fun k hk he => by rw [he, hk] at h; cases h
  have hc : vectorReg (Reg.addr .HS_VCNTv v 0) = true := by
    simp [vectorReg, Reg.addr, Reg.row]; omega
  have h0 : vectorReg (Reg.addr (if v < 32 then .HS_VPEND_LO else .HS_VPEND_HI) 0 0) = true := by split <;> decide
  unfold State.pendVector
  generalize (if v < 32 then Reg.HS_VPEND_LO else .HS_VPEND_HI) = p at h0 ⊢
  have h1 : (if s.time.cleared.contains (p.addr 0 0, v % 32) then s.incFd F.HS_VCNTv_VALUE v 0 else s).rg r i j =
      s.rg r i j := by
    split
    · exact State.rg_setRg_other _ _ _ _ _ _ _ _ (hne _ hc)
    · rfl
  dsimp only
  generalize (if s.time.cleared.contains (p.addr 0 0, v % 32) then s.incFd F.HS_VCNTv_VALUE v 0 else s) = u at h1 ⊢
  rw [← h1]
  split
  · rw [State.rg_noteRaise, State.rg_noteRaise]
    exact State.rg_setRg_other _ _ _ _ _ _ _ _ (hne _ hc)
  · exact State.rg_setRg_other u p r 0 0 i j _ (hne _ h0)

theorem State.rg_vectorEvent (s : State) (src cls : Nat) (r : Reg) (i j : Nat) (h : vectorReg (r.addr i j) = false) :
    (s.vectorEvent src cls).rg r i j = s.rg r i j := by
  unfold State.vectorEvent
  split
  · have key : ∀ (l : List Nat) (t : State), (∀ v ∈ l, v < 64) →
        (l.foldl (fun s v =>
          if s.fd F.HS_VECv_CTL_SRC v = src ∧ (src ≠ 1 ∨ s.fd F.HS_VECv_CTL_CLASS v ≤ cls) then s.pendVector v
          else s) t).rg r i j = t.rg r i j := by
      intro l
      induction l with
      | nil => intro t _; rfl
      | cons v l ih =>
        intro t hl
        rw [List.foldl_cons, ih _ (fun w hw => hl w (by simp [hw]))]
        split
        · exact State.rg_pendVector _ _ _ _ _ (hl v (by simp)) h
        · rfl
    exact key _ s (fun v hv => List.mem_range.mp hv)
  · rfl

/-- A journal entry changes no register but those of the interrupt vectors (R563, R584). -/
theorem State.rg_journal (s : State) (ev blk code cls : Nat) (d : List Nat) (r : Reg) (i j : Nat)
    (h : vectorReg (r.addr i j) = false) : (s.journal ev blk code cls d).rg r i j = s.rg r i j := by
  unfold State.journal
  dsimp only
  split
  · rfl
  · split
    · rfl
    · rw [State.rg_vectorEvent _ _ _ _ _ _ h]
      rfl

theorem State.fd_vectorEvent (s : State) (src cls : Nat) (f : Field) (i j : Nat) (h : vectorReg (f.reg.addr i j) = false) :
    (s.vectorEvent src cls).fd f i j = s.fd f i j := by
  rw [State.fd, State.rg_vectorEvent _ _ _ _ _ _ h, State.fd]

theorem State.fd_journal (s : State) (ev blk code cls : Nat) (d : List Nat) (f : Field) (i j : Nat)
    (h : vectorReg (f.reg.addr i j) = false) : (s.journal ev blk code cls d).fd f i j = s.fd f i j := by
  rw [State.fd, State.rg_journal _ _ _ _ _ _ _ _ _ h, State.fd]

end Sys2Proof.Machine
end

