-- ==== Sys2Proof/Laws/Fields.lean ====
section
/-!
SUPPORT. Which fields of the register file an operation changes.
-/

namespace Sys2Proof.Machine

/-- What the register file holds at bit `b` of offset `off` after a write of a register. -/
theorem State.regs_setRg (s : State) (r : Reg) (i j v off : Nat) (h : off ≠ r.addr i j) :
    Tab.get regDefault (s.setRg r i j v).regs off = Tab.get regDefault s.regs off := by
  simp [State.setRg, Tab.get_set_other _ _ _ h]

theorem State.onlyFields_refl (s : State) (own : Nat → Bool) (fs : List (Field × Nat)) : s.onlyFields s own fs :=
  fun _ _ _ _ => rfl

theorem State.onlyFields_of_regs {s t u : State} {own : Nat → Bool} {fs : List (Field × Nat)} (h : s.onlyFields t own fs)
    (hr : u.regs = t.regs) : s.onlyFields u own fs := by
  intro off b ho hf
  rw [hr]
  exact h off b ho hf

/-- A field that is listed may be set. -/
theorem State.onlyFields_setFd {s t : State} {own : Nat → Bool} {fs : List (Field × Nat)} (h : s.onlyFields t own fs)
    (f : Field) (i v : Nat) (hf : f.ok = true) (hm : (f, i) ∈ fs) : s.onlyFields (t.setFd f i 0 v) own fs := by
  intro off b ho hl
  rw [← h off b ho hl]
  by_cases ha : off = f.reg.addr i 0
  · subst ha
    simp only [Field.ok, Bool.and_eq_true, decide_eq_true_eq] at hf
    have hb : b < f.lo ∨ f.hi < b := hl (f, i) hm rfl
    have hlt : setBits (t.rg f.reg i 0) f.hi f.lo v < 2 ^ 32 := setBits_lt _ _ _ _ _ hf.1 hf.2 (t.rg_lt _ _ _)
    rw [State.setFd, State.setRg]
    dsimp only
    rw [Tab.get_set, ← BitVec.testBit_toNat, BitVec.toNat_ofNat, Nat.mod_eq_of_lt hlt, setBits_testBit _ _ _ _ _ hf.1,
      if_neg (by omega), State.rg, BitVec.testBit_toNat]
  · rw [State.setFd, State.regs_setRg _ _ _ _ _ _ ha]

theorem State.onlyFields_incFd {s t : State} {own : Nat → Bool} {fs : List (Field × Nat)} (h : s.onlyFields t own fs)
    (f : Field) (i : Nat) (hf : f.ok = true) (hm : (f, i) ∈ fs) : s.onlyFields (t.incFd f i 0) own fs :=
  State.onlyFields_setFd h f i _ hf hm

theorem State.onlyFields_raise {s t : State} {own : Nat → Bool} {fs : List (Field × Nat)} (h : s.onlyFields t own fs)
    (f c : Field) (i : Nat) (hf : f.ok = true) (hm : (f, i) ∈ fs) (hc : c.ok = true) (hn : (c, i) ∈ fs) :
    s.onlyFields (t.raise f c i 0) own fs :=
  State.onlyFields_incFd (State.onlyFields_setFd h f i _ hf hm) c i hc hn

/-- A register that is listed whole, or that `own` takes in, may be set. -/
theorem State.onlyFields_setRg {s t : State} {own : Nat → Bool} {fs : List (Field × Nat)} (h : s.onlyFields t own fs)
    (r : Reg) (i j v : Nat)
    (hm : own (r.addr i j) = true ∨ ∃ f ∈ fs, f.1.reg.addr f.2 0 = r.addr i j ∧ f.1.lo = 0 ∧ 31 ≤ f.1.hi) :
    s.onlyFields (t.setRg r i j v) own fs := by
  intro off b ho hl
  rw [← h off b ho hl]
  by_cases ha : off = r.addr i j
  · subst ha
    rcases hm with hm | ⟨f, hf, h1, h2, h3⟩
    · rw [ho] at hm; cases hm
    · have := hl f hf h1.symm
      rw [BitVec.getLsbD_of_ge _ _ (by omega), BitVec.getLsbD_of_ge _ _ (by omega)]
  · rw [State.regs_setRg _ _ _ _ _ _ ha]

theorem State.onlyFields_journal {s t : State} {fs : List (Field × Nat)} (h : s.onlyFields t vectorReg fs)
    (ev blk code cls : Nat) (d : List Nat) : s.onlyFields (t.journal ev blk code cls d) vectorReg fs := by
  intro off b ho hl
  rw [← h off b ho hl]
  have key : ∀ (u : State) (v : Nat), v < 64 → Tab.get regDefault (u.pendVector v).regs off = Tab.get regDefault u.regs off := by
    intro u v hv
    have hne : ∀ k, vectorReg k = true → off ≠ k := fun k hk he => by rw [he, hk] at ho; cases ho
    have hc : vectorReg (Reg.addr .HS_VCNTv v 0) = true := by simp [vectorReg, Reg.addr, Reg.row]; omega
    have h0 : vectorReg (Reg.addr (if v < 32 then .HS_VPEND_LO else .HS_VPEND_HI) 0 0) = true := by split <;> decide
    unfold State.pendVector
    generalize (if v < 32 then Reg.HS_VPEND_LO else Reg.HS_VPEND_HI) = p at h0 ⊢
    have h1 : Tab.get regDefault
        (if u.time.cleared.contains (p.addr 0 0, v % 32) then u.incFd F.HS_VCNTv_VALUE v 0 else u).regs off =
        Tab.get regDefault u.regs off := by
      split
      · exact State.regs_setRg _ _ _ _ _ _ (hne _ hc)
      · rfl
    dsimp only
    generalize (if u.time.cleared.contains (p.addr 0 0, v % 32) then u.incFd F.HS_VCNTv_VALUE v 0 else u) = w at h1 ⊢
    rw [← h1]
    split
    · exact State.regs_setRg _ _ _ _ _ _ (hne _ hc)
    · exact State.regs_setRg _ _ _ _ _ _ (hne _ h0)
  have fold : ∀ (u : State) (a c : Nat), Tab.get regDefault (u.vectorEvent a c).regs off = Tab.get regDefault u.regs off := by
    intro u a c
    unfold State.vectorEvent
    split
    · have : ∀ (l : List Nat) (w : State), (∀ v ∈ l, v < 64) → Tab.get regDefault
          (l.foldl (fun s v => if s.fd F.HS_VECv_CTL_SRC v = a ∧ (a ≠ 1 ∨ s.fd F.HS_VECv_CTL_CLASS v ≤ c) then s.pendVector v
            else s) w).regs off = Tab.get regDefault w.regs off := by
        intro l
        induction l with
        | nil => intro w _; rfl
        | cons v l ih =>
          intro w hl
          rw [List.foldl_cons, ih _ (fun x hx => hl x (by simp [hx]))]
          split
          · exact key _ _ (hl v (by simp))
          · rfl
      exact this _ u (fun v hv => List.mem_range.mp hv)
    · rfl
  unfold State.journal
  dsimp only
  split
  · rfl
  · split
    · rfl
    · rw [fold]

/-! ## What a field reads after an operation -/

theorem State.fd_incFd_reg (s : State) (f g : Field) (i j i' j' : Nat) (h : g.reg.addr i' j' ≠ f.reg.addr i j) :
    (s.incFd f i j).fd g i' j' = s.fd g i' j' := State.fd_setFd_reg _ _ _ _ _ _ _ _ h

theorem State.fd_incFd_field (s : State) (f g : Field) (i j : Nat) (hf : f.ok = true) (hr : g.reg = f.reg)
    (hd : g.hi < f.lo ∨ f.hi < g.lo) : (s.incFd f i j).fd g i j = s.fd g i j := State.fd_setFd_field _ _ _ _ _ _ hf hr hd

end Sys2Proof.Machine
end

