-- ==== Sys2Proof/Laws/Good.lean ====
section
/-!
SUPPORT. What every command keeps.
-/

set_option linter.unusedSimpArgs false
set_option linter.unreachableTactic false
set_option linter.unusedTactic false

namespace Sys2Proof.Machine

/-- Of the parts of a state that few operations touch. -/
structure GoodC (q : List Instr) (l : Nat) (p : List Instr) (r : List (Nat × Word)) (j : JnlState) (lc : LcState)
    (m : MemState) : Prop where
  pending : p = q
  regs : Tab.wf regDefault r = true
  jnl : j.queue.length ≤ 256
  mem : m.wf = true
  fwd : l ≤ lc.state
  top : lc.state ≤ 2
  owner : lc.state ≠ 0 → lc.owner.length = 64
  locked : lc.state = 2 → lc.pw.isSome
  grant : lc.state ≠ 2 → lc.granted = 0
  level : lc.granted ≤ 2

def Good (q : List Instr) (l : Nat) (s : State) : Prop := GoodC q l s.pending s.regs s.jnl s.lc s.mem

/-- Of an outcome: it is a next state, and one that keeps all that. -/
def GoodO (q : List Instr) (l : Nat) (o : Host.Outcome State Fault Refusal) : Prop :=
  match o with
  | .next t => Good q l t
  | _ => False

theorem good_next {q l t} : GoodO q l (.next t) ↔ Good q l t := ⟨id, id⟩
theorem goodO_ite {q l} (c : Prop) [Decidable c] (a b) : GoodO q l (if c then a else b) = if c then GoodO q l a else GoodO q l b := by
  split <;> rfl

theorem good_mk {q l p r t cal cell lv cores pw sv j ch hs lc kl th ax so fb kn m held e hd la fc} :
    Good q l (State.mk p r t cal cell lv cores pw sv j ch hs lc kl th ax so fb kn m held e hd la fc) ↔
      GoodC q l p r j lc m := ⟨id, id⟩

theorem good_fold {q l} (s : State) : GoodC q l s.pending s.regs s.jnl s.lc s.mem ↔ Good q l s := ⟨id, id⟩

theorem good_ite {q l} (c : Prop) [Decidable c] (a b : State) :
    Good q l (if c then a else b) = if c then Good q l a else Good q l b := by split <;> rfl

theorem good_foldl {α : Type} {q l} (f : State → α → State) (L : List α) (s : State)
    (hf : ∀ a t, Good q l t → Good q l (f t a)) (h : Good q l s) : Good q l (L.foldl f s) := by
  induction L generalizing s with
  | nil => exact h
  | cons a L ih => exact ih _ (hf a s h)

theorem good_forEach {α : Type} {q l} (L : List α) (f : α → State → State) (s : State)
    (hf : ∀ a t, Good q l t → Good q l (f a t)) (h : Good q l s) : Good q l (s.forEach L f) :=
  good_foldl _ L s (fun a t => hf a t) h

theorem good_setRg {q l s} (r i j v) (h : Good q l s) : Good q l (s.setRg r i j v) :=
  { h with regs := Tab.wf_set _ _ _ h.regs }

theorem good_resetRegs {q l s} (d) (h : Good q l s) : Good q l (s.resetRegs d) :=
  { h with regs := Tab.wf_filter _ _ h.regs }

theorem mergeEntry_length {b c d} {L M : List JournalEntry} (h : mergeEntry b c d L = some M) : M.length = L.length := by
  induction L generalizing M with
  | nil => simp [mergeEntry] at h
  | cons e L ih =>
    unfold mergeEntry at h
    split at h
    · cases h; simp
    · cases hm : mergeEntry b c d L with
      | none => simp [hm] at h
      | some N => simp [hm] at h; subst h; simp [ih hm]

/-! One named value at a time -/

theorem good_letS {q l} {v : State} {f : State → State} (hv : Good q l v) (hf : ∀ s, Good q l s → Good q l (f s)) :
    Good q l (have s := v; f s) := hf v hv
theorem good_letA {α : Type} {q l} {v : α} {f : α → State} (hf : ∀ x, Good q l (f x)) :
    Good q l (have x := v; f x) := hf v
theorem goodO_letS {q l} {v : State} {f : State → Host.Outcome State Fault Refusal} (hv : Good q l v)
    (hf : ∀ s, Good q l s → GoodO q l (f s)) : GoodO q l (have s := v; f s) := hf v hv
theorem goodO_letA {α : Type} {q l} {v : α} {f : α → Host.Outcome State Fault Refusal}
    (hf : ∀ x, GoodO q l (f x)) : GoodO q l (have x := v; f x) := hf v

/-- The lifecycle's own part of what is kept. -/
def LcOk (l : Nat) (lc : LcState) : Prop :=
  l ≤ lc.state ∧ lc.state ≤ 2 ∧ (lc.state ≠ 0 → lc.owner.length = 64) ∧ (lc.state = 2 → lc.pw.isSome) ∧
    (lc.state ≠ 2 → lc.granted = 0) ∧ lc.granted ≤ 2

/-! A state with a memory, the journal or the lifecycle replaced -/

theorem good_memC {q l} {s : State} {m} (h : Good q l s) (hm : m.wf = true) :
    GoodC q l s.pending s.regs s.jnl s.lc m := { h with mem := hm }

theorem good_setMem {q l} {s : State} {m} (h : Good q l s) (hm : m.wf = true) : Good q l { s with mem := m } :=
  { h with mem := hm }

theorem good_setLc {q l} {s : State} {lc} (h : Good q l s) (hl : LcOk l lc) : Good q l { s with lc := lc } :=
  { h with fwd := hl.1, top := hl.2.1, owner := hl.2.2.1, locked := hl.2.2.2.1, grant := hl.2.2.2.2.1, level := hl.2.2.2.2.2 }

theorem good_setRegs {q l} {s : State} {r} (h : Good q l s) (hr : Tab.wf regDefault r = true) :
    Good q l { s with regs := r } := { h with regs := hr }

theorem good_jnlC {q l} {s : State} {j} (h : Good q l s) (hj : j.queue.length ≤ 256) :
    GoodC q l s.pending s.regs j s.lc s.mem := { h with jnl := hj }

theorem good_lc {q l} {s : State} (h : Good q l s) : LcOk l s.lc :=
  ⟨h.fwd, h.top, h.owner, h.locked, h.grant, h.level⟩

theorem good_lcC {q l} {s : State} {lc} (h : Good q l s) (hl : LcOk l lc) :
    GoodC q l s.pending s.regs s.jnl lc s.mem :=
  { h with fwd := hl.1, top := hl.2.1, owner := hl.2.2.1, locked := hl.2.2.2.1, grant := hl.2.2.2.2.1, level := hl.2.2.2.2.2 }

theorem memWf_mk {a b c d e f g} : (MemState.mk a b c d e f g).wf = true ↔
    Memory.wf a = true ∧ Memory.wf b = true ∧ Memory.wf c = true ∧ Memory.wf d = true ∧ Memory.wf e = true ∧
      Memory.wf f = true ∧ Memory.wf g = true := by
  simp [MemState.wf, and_assoc]

theorem good_memWf {q l} {s : State} (h : Good q l s) :
    Memory.wf s.mem.sram = true ∧ Memory.wf s.mem.tcm = true ∧ Memory.wf s.mem.win = true ∧
      Memory.wf s.mem.shared = true ∧ Memory.wf s.mem.dram = true ∧ Memory.wf s.mem.img = true ∧
      Memory.wf s.mem.safety = true := memWf_mk.mp h.mem

theorem good_wfSram {q l} {s : State} (h : Good q l s) : Memory.wf s.mem.sram = true := (good_memWf h).1
theorem good_wfTcm {q l} {s : State} (h : Good q l s) : Memory.wf s.mem.tcm = true := (good_memWf h).2.1
theorem good_wfWin {q l} {s : State} (h : Good q l s) : Memory.wf s.mem.win = true := (good_memWf h).2.2.1
theorem good_wfShared {q l} {s : State} (h : Good q l s) : Memory.wf s.mem.shared = true := (good_memWf h).2.2.2.1
theorem good_wfDram {q l} {s : State} (h : Good q l s) : Memory.wf s.mem.dram = true := (good_memWf h).2.2.2.2.1
theorem good_wfImg {q l} {s : State} (h : Good q l s) : Memory.wf s.mem.img = true := (good_memWf h).2.2.2.2.2.1
theorem good_wfSafety {q l} {s : State} (h : Good q l s) : Memory.wf s.mem.safety = true := (good_memWf h).2.2.2.2.2.2

end Sys2Proof.Machine
end

