-- ==== Sys2Proof/Laws/KeepsOps.lean ====
section
/-!
SUPPORT. What the operations of Machine/Ops.lean keep.
-/

set_option linter.unusedSimpArgs false
set_option linter.unreachableTactic false
set_option linter.unusedTactic false

namespace Sys2Proof.Machine

theorem good_setFd {qq ll} {s : State} (f : Field) (i : Nat) (j : Nat) (v : Nat) (h : Good qq ll s) : Good qq ll (State.setFd s f i j v) := by
  unfold State.setFd
  try simp +contextual (maxDischargeDepth := 40) only [↓good_mk, ↓good_fold, ↓good_ite, ↓good_next, ↓goodO_ite, ↓good_foldl, ↓good_forEach, ↓good_setRg, h, ite_self]
  all_goals (repeat' split)
  all_goals (try simp +contextual (maxDischargeDepth := 40) only [↓good_mk, ↓good_fold, ↓good_ite, ↓good_next, ↓goodO_ite, ↓good_foldl, ↓good_forEach, ↓good_setRg, h, ite_self])
  all_goals (try grind [good_setRg, good_mk, good_fold, good_foldl, good_forEach])

theorem good_incFd {qq ll} {s : State} (f : Field) (i : Nat) (j : Nat) (h : Good qq ll s) : Good qq ll (State.incFd s f i j) := by
  unfold State.incFd
  try simp +contextual (maxDischargeDepth := 40) only [↓good_mk, ↓good_fold, ↓good_ite, ↓good_next, ↓goodO_ite, ↓good_foldl, ↓good_forEach, ↓good_setFd, h, ite_self]
  all_goals (repeat' split)
  all_goals (try simp +contextual (maxDischargeDepth := 40) only [↓good_mk, ↓good_fold, ↓good_ite, ↓good_next, ↓goodO_ite, ↓good_foldl, ↓good_forEach, ↓good_setFd, h, ite_self])
  all_goals (try grind [good_setFd, good_mk, good_fold, good_foldl, good_forEach])

theorem good_noteRaise {qq ll} {s : State} (off : Nat) (b : Nat) (h : Good qq ll s) : Good qq ll (State.noteRaise s off b) := by
  unfold State.noteRaise
  try simp +contextual (maxDischargeDepth := 40) only [↓good_mk, ↓good_fold, ↓good_ite, ↓good_next, ↓goodO_ite, ↓good_foldl, ↓good_forEach, h, ite_self]
  all_goals (repeat' split)
  all_goals (try simp +contextual (maxDischargeDepth := 40) only [↓good_mk, ↓good_fold, ↓good_ite, ↓good_next, ↓goodO_ite, ↓good_foldl, ↓good_forEach, h, ite_self])
  all_goals (try grind [good_mk, good_fold, good_foldl, good_forEach])

theorem good_raiseFlag {qq ll} {s : State} (fl : Field) (i : Nat) (j : Nat) (h : Good qq ll s) : Good qq ll (State.raiseFlag s fl i j) := by
  unfold State.raiseFlag
  try simp +contextual (maxDischargeDepth := 40) only [↓good_mk, ↓good_fold, ↓good_ite, ↓good_next, ↓goodO_ite, ↓good_foldl, ↓good_forEach, ↓good_setFd, ↓good_noteRaise, h, ite_self]
  all_goals (repeat' split)
  all_goals (try simp +contextual (maxDischargeDepth := 40) only [↓good_mk, ↓good_fold, ↓good_ite, ↓good_next, ↓goodO_ite, ↓good_foldl, ↓good_forEach, ↓good_setFd, ↓good_noteRaise, h, ite_self])
  all_goals (try grind [good_setFd, good_noteRaise, good_mk, good_fold, good_foldl, good_forEach])

theorem good_raise {qq ll} {s : State} (fl : Field) (cnt : Field) (i : Nat) (j : Nat) (h : Good qq ll s) : Good qq ll (State.raise s fl cnt i j) := by
  unfold State.raise
  try simp +contextual (maxDischargeDepth := 40) only [↓good_mk, ↓good_fold, ↓good_ite, ↓good_next, ↓goodO_ite, ↓good_foldl, ↓good_forEach, ↓good_incFd, ↓good_raiseFlag, h, ite_self]
  all_goals (repeat' split)
  all_goals (try simp +contextual (maxDischargeDepth := 40) only [↓good_mk, ↓good_fold, ↓good_ite, ↓good_next, ↓goodO_ite, ↓good_foldl, ↓good_forEach, ↓good_incFd, ↓good_raiseFlag, h, ite_self])
  all_goals (try grind [good_incFd, good_raiseFlag, good_mk, good_fold, good_foldl, good_forEach])

theorem good_setRg64 {qq ll} {s : State} (lo : Reg) (hi : Reg) (i : Nat) (v : Nat) (h : Good qq ll s) : Good qq ll (State.setRg64 s lo hi i v) := by
  unfold State.setRg64
  try simp +contextual (maxDischargeDepth := 40) only [↓good_mk, ↓good_fold, ↓good_ite, ↓good_next, ↓goodO_ite, ↓good_foldl, ↓good_forEach, ↓good_setRg, h, ite_self]
  all_goals (repeat' split)
  all_goals (try simp +contextual (maxDischargeDepth := 40) only [↓good_mk, ↓good_fold, ↓good_ite, ↓good_next, ↓goodO_ite, ↓good_foldl, ↓good_forEach, ↓good_setRg, h, ite_self])
  all_goals (try grind [good_setRg, good_mk, good_fold, good_foldl, good_forEach])

theorem good_pendVector {qq ll} {s : State} (v : Nat) (h : Good qq ll s) : Good qq ll (State.pendVector s v) := by
  unfold State.pendVector
  try simp +contextual (maxDischargeDepth := 40) only [↓good_mk, ↓good_fold, ↓good_ite, ↓good_next, ↓goodO_ite, ↓good_foldl, ↓good_forEach, ↓good_setRg, ↓good_incFd, ↓good_noteRaise, h, ite_self]
  all_goals (repeat' split)
  all_goals (try simp +contextual (maxDischargeDepth := 40) only [↓good_mk, ↓good_fold, ↓good_ite, ↓good_next, ↓goodO_ite, ↓good_foldl, ↓good_forEach, ↓good_setRg, ↓good_incFd, ↓good_noteRaise, h, ite_self])
  all_goals (try grind [good_setRg, good_incFd, good_noteRaise, good_mk, good_fold, good_foldl, good_forEach])

theorem good_vectorEvent {qq ll} {s : State} (src : Nat) (cls : Nat) (h : Good qq ll s) : Good qq ll (State.vectorEvent s src cls) := by
  unfold State.vectorEvent
  try simp +contextual (maxDischargeDepth := 40) only [↓good_mk, ↓good_fold, ↓good_ite, ↓good_next, ↓goodO_ite, ↓good_foldl, ↓good_forEach, ↓good_pendVector, h, ite_self]
  all_goals (repeat' split)
  all_goals (try simp +contextual (maxDischargeDepth := 40) only [↓good_mk, ↓good_fold, ↓good_ite, ↓good_next, ↓goodO_ite, ↓good_foldl, ↓good_forEach, ↓good_pendVector, h, ite_self])
  all_goals (try grind [good_pendVector, good_mk, good_fold, good_foldl, good_forEach])

theorem good_journal {qq ll} {s : State} (ev : Nat) (blk : Nat) (code : Nat) (cls : Nat) (detail : List Nat) (h : Good qq ll s) : Good qq ll (State.journal s ev blk code cls detail) := by
  unfold State.journal
  simp only
  split
  · rename_i M hm
    exact good_jnlC (s := s) h (by have := mergeEntry_length hm; have := h.jnl; simp only; omega)
  · split
    · exact good_jnlC (s := s) h h.jnl
    · exact good_vectorEvent _ _ (good_jnlC (s := s) h (by simp only [List.length_append, List.length_singleton]; omega))

theorem good_recordRefusal {qq ll} {s : State} (blk : Nat) (code : Nat) (q : Requester) (adr : Nat) (h : Good qq ll s) : Good qq ll (State.recordRefusal s blk code q adr) := by
  unfold State.recordRefusal
  try simp +contextual (maxDischargeDepth := 40) only [↓good_mk, ↓good_fold, ↓good_ite, ↓good_next, ↓goodO_ite, ↓good_foldl, ↓good_forEach, ↓good_setRg, ↓good_incFd, h, ite_self]
  all_goals (repeat' split)
  all_goals (try simp +contextual (maxDischargeDepth := 40) only [↓good_mk, ↓good_fold, ↓good_ite, ↓good_next, ↓goodO_ite, ↓good_foldl, ↓good_forEach, ↓good_setRg, ↓good_incFd, h, ite_self])
  all_goals (try grind [good_setRg, good_incFd, good_mk, good_fold, good_foldl, good_forEach])

theorem good_ownRefusalCount {qq ll} {s : State} (r : Reg) (i : Nat) (h : Good qq ll s) : Good qq ll (State.ownRefusalCount s r i) := by
  unfold State.ownRefusalCount
  try simp +contextual (maxDischargeDepth := 40) only [↓good_mk, ↓good_fold, ↓good_ite, ↓good_next, ↓goodO_ite, ↓good_foldl, ↓good_forEach, ↓good_incFd, h, ite_self]
  all_goals (repeat' split)
  all_goals (try simp +contextual (maxDischargeDepth := 40) only [↓good_mk, ↓good_fold, ↓good_ite, ↓good_next, ↓goodO_ite, ↓good_foldl, ↓good_forEach, ↓good_incFd, h, ite_self])
  all_goals (try grind [good_incFd, good_mk, good_fold, good_foldl, good_forEach])

theorem good_refuse {qq ll} {s : State} (q : Requester) (r : Reg) (i : Nat) (j : Nat) (code : Nat) (h : Good qq ll s) : Good qq ll (State.refuse s q r i j code) := by
  unfold State.refuse
  try simp +contextual (maxDischargeDepth := 40) only [↓good_mk, ↓good_fold, ↓good_ite, ↓good_next, ↓goodO_ite, ↓good_foldl, ↓good_forEach, ↓good_setFd, ↓good_recordRefusal, ↓good_ownRefusalCount, h, ite_self]
  all_goals (repeat' split)
  all_goals (try simp +contextual (maxDischargeDepth := 40) only [↓good_mk, ↓good_fold, ↓good_ite, ↓good_next, ↓goodO_ite, ↓good_foldl, ↓good_forEach, ↓good_setFd, ↓good_recordRefusal, ↓good_ownRefusalCount, h, ite_self])
  all_goals (try grind [good_setFd, good_recordRefusal, good_ownRefusalCount, good_mk, good_fold, good_foldl, good_forEach])

theorem good_refuseSelf {qq ll} {s : State} (f : Field) (i : Nat) (code : Nat) (h : Good qq ll s) : Good qq ll (State.refuseSelf s f i code) := by
  unfold State.refuseSelf
  try simp +contextual (maxDischargeDepth := 40) only [↓good_mk, ↓good_fold, ↓good_ite, ↓good_next, ↓goodO_ite, ↓good_foldl, ↓good_forEach, ↓good_setFd, ↓good_recordRefusal, ↓good_ownRefusalCount, h, ite_self]
  all_goals (repeat' split)
  all_goals (try simp +contextual (maxDischargeDepth := 40) only [↓good_mk, ↓good_fold, ↓good_ite, ↓good_next, ↓goodO_ite, ↓good_foldl, ↓good_forEach, ↓good_setFd, ↓good_recordRefusal, ↓good_ownRefusalCount, h, ite_self])
  all_goals (try grind [good_setFd, good_recordRefusal, good_ownRefusalCount, good_mk, good_fold, good_foldl, good_forEach])

theorem good_badAccess {qq ll} {s : State} (q : Requester) (isWrite : Bool) (reserved : Bool) (off : Nat) (h : Good qq ll s) : Good qq ll (State.badAccess s q isWrite reserved off) := by
  unfold State.badAccess
  try simp +contextual (maxDischargeDepth := 40) only [↓good_mk, ↓good_fold, ↓good_ite, ↓good_next, ↓goodO_ite, ↓good_foldl, ↓good_forEach, ↓good_setRg, ↓good_incFd, ↓good_noteRaise, h, ite_self]
  all_goals (repeat' split)
  all_goals (try simp +contextual (maxDischargeDepth := 40) only [↓good_mk, ↓good_fold, ↓good_ite, ↓good_next, ↓goodO_ite, ↓good_foldl, ↓good_forEach, ↓good_setRg, ↓good_incFd, ↓good_noteRaise, h, ite_self])
  all_goals (try grind [good_setRg, good_incFd, good_noteRaise, good_mk, good_fold, good_foldl, good_forEach])

theorem good_offAccess {qq ll} {s : State} (q : Requester) (isWrite : Bool) (d : Nat) (adr : Nat) (h : Good qq ll s) : Good qq ll (State.offAccess s q isWrite d adr) := by
  unfold State.offAccess
  try simp +contextual (maxDischargeDepth := 40) only [↓good_mk, ↓good_fold, ↓good_ite, ↓good_next, ↓goodO_ite, ↓good_foldl, ↓good_forEach, ↓good_setRg, ↓good_incFd, ↓good_journal, h, ite_self]
  all_goals (repeat' split)
  all_goals (try simp +contextual (maxDischargeDepth := 40) only [↓good_mk, ↓good_fold, ↓good_ite, ↓good_next, ↓goodO_ite, ↓good_foldl, ↓good_forEach, ↓good_setRg, ↓good_incFd, ↓good_journal, h, ite_self])
  all_goals (try grind [good_setRg, good_incFd, good_journal, good_mk, good_fold, good_foldl, good_forEach])

theorem good_noteLines {qq ll} {s : State} (a : Nat) (n : Nat) (h : Good qq ll s) : Good qq ll (State.noteLines s a n) := by
  unfold State.noteLines
  try simp +contextual (maxDischargeDepth := 40) only [↓good_mk, ↓good_fold, ↓good_ite, ↓good_next, ↓goodO_ite, ↓good_foldl, ↓good_forEach, h, ite_self]
  all_goals (repeat' split)
  all_goals (try simp +contextual (maxDischargeDepth := 40) only [↓good_mk, ↓good_fold, ↓good_ite, ↓good_next, ↓goodO_ite, ↓good_foldl, ↓good_forEach, h, ite_self])
  all_goals (try grind [good_mk, good_fold, good_foldl, good_forEach])

theorem good_noteCommit {qq ll} {s : State} (a : Nat) (n : Nat) (h : Good qq ll s) : Good qq ll (State.noteCommit s a n) := by
  unfold State.noteCommit
  try simp +contextual (maxDischargeDepth := 40) only [↓good_mk, ↓good_fold, ↓good_ite, ↓good_next, ↓goodO_ite, ↓good_foldl, ↓good_forEach, h, ite_self]
  all_goals (repeat' split)
  all_goals (try simp +contextual (maxDischargeDepth := 40) only [↓good_mk, ↓good_fold, ↓good_ite, ↓good_next, ↓goodO_ite, ↓good_foldl, ↓good_forEach, h, ite_self])
  all_goals (try grind [good_mk, good_fold, good_foldl, good_forEach])

theorem good_sramWrite {qq ll} {s : State} (a : Nat) (bs : List Byte) (h : Good qq ll s) : Good qq ll (State.sramWrite s a bs) := by
  unfold State.sramWrite
  have hw := good_memWf h
  simp +contextual (maxDischargeDepth := 40) only [↓good_mk, ↓good_fold, ↓good_ite, ↓good_next, ↓goodO_ite, ↓good_foldl, ↓good_forEach, ↓good_noteLines, ↓good_noteCommit, h, hw, ↓good_memC, memWf_mk, Memory.wf_writeN, Memory.wf_splice, Memory.wf_clear, Memory.wf_copy, Memory.wf_nil, and_self]

theorem good_sramSplice {qq ll} {s : State} (a : Nat) (bs : List Byte) (h : Good qq ll s) : Good qq ll (State.sramSplice s a bs) := by
  unfold State.sramSplice
  have hw := good_memWf h
  simp +contextual (maxDischargeDepth := 40) only [↓good_mk, ↓good_fold, ↓good_ite, ↓good_next, ↓goodO_ite, ↓good_foldl, ↓good_forEach, ↓good_noteLines, h, hw, ↓good_memC, memWf_mk, Memory.wf_writeN, Memory.wf_splice, Memory.wf_clear, Memory.wf_copy, Memory.wf_nil, and_self]

theorem good_setSram {qq ll} {s : State} (a : Nat) (n : Nat) (v : Nat) (h : Good qq ll s) : Good qq ll (State.setSram s a n v) := by
  unfold State.setSram
  try simp +contextual (maxDischargeDepth := 40) only [↓good_mk, ↓good_fold, ↓good_ite, ↓good_next, ↓goodO_ite, ↓good_foldl, ↓good_forEach, ↓good_sramWrite, h, ite_self]
  all_goals (repeat' split)
  all_goals (try simp +contextual (maxDischargeDepth := 40) only [↓good_mk, ↓good_fold, ↓good_ite, ↓good_next, ↓goodO_ite, ↓good_foldl, ↓good_forEach, ↓good_sramWrite, h, ite_self])
  all_goals (try grind [good_sramWrite, good_mk, good_fold, good_foldl, good_forEach])

theorem good_setCore {qq ll} {s : State} (n : Nat) (c : Core) (h : Good qq ll s) : Good qq ll (State.setCore s n c) := by
  unfold State.setCore
  try simp +contextual (maxDischargeDepth := 40) only [↓good_mk, ↓good_fold, ↓good_ite, ↓good_next, ↓goodO_ite, ↓good_foldl, ↓good_forEach, h, ite_self]
  all_goals (repeat' split)
  all_goals (try simp +contextual (maxDischargeDepth := 40) only [↓good_mk, ↓good_fold, ↓good_ite, ↓good_next, ↓goodO_ite, ↓good_foldl, ↓good_forEach, h, ite_self])
  all_goals (try grind [good_mk, good_fold, good_foldl, good_forEach])

theorem good_setAg {qq ll} {s : State} (g : Nat) (a : AgState) (h : Good qq ll s) : Good qq ll (State.setAg s g a) := by
  unfold State.setAg
  try simp +contextual (maxDischargeDepth := 40) only [↓good_mk, ↓good_fold, ↓good_ite, ↓good_next, ↓goodO_ite, ↓good_foldl, ↓good_forEach, h, ite_self]
  all_goals (repeat' split)
  all_goals (try simp +contextual (maxDischargeDepth := 40) only [↓good_mk, ↓good_fold, ↓good_ite, ↓good_next, ↓goodO_ite, ↓good_foldl, ↓good_forEach, h, ite_self])
  all_goals (try grind [good_mk, good_fold, good_foldl, good_forEach])

theorem good_free {qq ll} {s : State} (h : Good qq ll s) : Good qq ll (State.free s).2 := by
  unfold State.free
  try simp +contextual (maxDischargeDepth := 40) only [↓good_mk, ↓good_fold, ↓good_ite, ↓good_next, ↓goodO_ite, ↓good_foldl, ↓good_forEach, h, ite_self]
  all_goals (repeat' split)
  all_goals (try simp +contextual (maxDischargeDepth := 40) only [↓good_mk, ↓good_fold, ↓good_ite, ↓good_next, ↓goodO_ite, ↓good_foldl, ↓good_forEach, h, ite_self])
  all_goals (try grind [good_mk, good_fold, good_foldl, good_forEach])

end Sys2Proof.Machine
end

