-- ==== Sys2Proof/Laws/KeepsTime.lean ====
section
/-!
SUPPORT. What the operations of Machine/Time.lean keep.
-/

set_option linter.unusedSimpArgs false
set_option linter.unreachableTactic false
set_option linter.unusedTactic false

namespace Sys2Proof.Machine

theorem good_notePtJump {qq ll} {s : State} (h : Good qq ll s) : Good qq ll (State.notePtJump s) := by
  unfold State.notePtJump
  try simp +contextual (maxDischargeDepth := 40) only [↓good_mk, ↓good_fold, ↓good_ite, ↓good_next, ↓goodO_ite, ↓good_foldl, ↓good_forEach, h, ite_self]
  all_goals (repeat' split)
  all_goals (try simp +contextual (maxDischargeDepth := 40) only [↓good_mk, ↓good_fold, ↓good_ite, ↓good_next, ↓goodO_ite, ↓good_foldl, ↓good_forEach, h, ite_self])
  all_goals (try grind [good_mk, good_fold, good_foldl, good_forEach])

theorem good_advance {qq ll} {s : State} (n : Nat) (h : Good qq ll s) : Good qq ll (State.advance s n) := by
  unfold State.advance
  try simp +contextual (maxDischargeDepth := 40) only [↓good_mk, ↓good_fold, ↓good_ite, ↓good_next, ↓goodO_ite, ↓good_foldl, ↓good_forEach, ↓good_setRg, ↓good_setFd, ↓good_notePtJump, h, ite_self]
  all_goals (repeat' split)
  all_goals (try simp +contextual (maxDischargeDepth := 40) only [↓good_mk, ↓good_fold, ↓good_ite, ↓good_next, ↓goodO_ite, ↓good_foldl, ↓good_forEach, ↓good_setRg, ↓good_setFd, ↓good_notePtJump, h, ite_self])
  all_goals (try grind [good_setRg, good_setFd, good_notePtJump, good_mk, good_fold, good_foldl, good_forEach])

theorem good_advanceTo {qq ll} {s : State} (ns : Nat) (h : Good qq ll s) : Good qq ll (State.advanceTo s ns) := by
  unfold State.advanceTo
  try simp +contextual (maxDischargeDepth := 40) only [↓good_mk, ↓good_fold, ↓good_ite, ↓good_next, ↓goodO_ite, ↓good_foldl, ↓good_forEach, ↓good_advance, h, ite_self]
  all_goals (repeat' split)
  all_goals (try simp +contextual (maxDischargeDepth := 40) only [↓good_mk, ↓good_fold, ↓good_ite, ↓good_next, ↓goodO_ite, ↓good_foldl, ↓good_forEach, ↓good_advance, h, ite_self])
  all_goals (try grind [good_advance, good_mk, good_fold, good_foldl, good_forEach])

theorem good_advanceWithin {qq ll} {s : State} (ns : Nat) (h : Good qq ll s) : Good qq ll (State.advanceWithin s ns) := by
  unfold State.advanceWithin
  try simp +contextual (maxDischargeDepth := 40) only [↓good_mk, ↓good_fold, ↓good_ite, ↓good_next, ↓goodO_ite, ↓good_foldl, ↓good_forEach, ↓good_advance, ↓good_advanceTo, h, ite_self]
  all_goals (repeat' split)
  all_goals (try simp +contextual (maxDischargeDepth := 40) only [↓good_mk, ↓good_fold, ↓good_ite, ↓good_next, ↓goodO_ite, ↓good_foldl, ↓good_forEach, ↓good_advance, ↓good_advanceTo, h, ite_self])
  all_goals (try grind [good_advance, good_advanceTo, good_mk, good_fold, good_foldl, good_forEach])

theorem good_advanceToTick {qq ll} {s : State} (tick : Nat) (h : Good qq ll s) : Good qq ll (State.advanceToTick s tick) := by
  unfold State.advanceToTick
  try simp +contextual (maxDischargeDepth := 40) only [↓good_mk, ↓good_fold, ↓good_ite, ↓good_next, ↓goodO_ite, ↓good_foldl, ↓good_forEach, ↓good_advance, h, ite_self]
  all_goals (repeat' split)
  all_goals (try simp +contextual (maxDischargeDepth := 40) only [↓good_mk, ↓good_fold, ↓good_ite, ↓good_next, ↓goodO_ite, ↓good_foldl, ↓good_forEach, ↓good_advance, h, ite_self])
  all_goals (try grind [good_advance, good_mk, good_fold, good_foldl, good_forEach])

end Sys2Proof.Machine
end

