-- ==== Sys2Proof/Laws/KeepsFbSpeed.lean ====
section
/-!
SUPPORT. What the operations of Machine/FbSpeed.lean keep.
-/

set_option linter.unusedSimpArgs false
set_option linter.unreachableTactic false
set_option linter.unusedTactic false

namespace Sys2Proof.Machine

theorem good_setFbChan {qq ll} {s : State} (n : Nat) (c : FbChan) (h : Good qq ll s) : Good qq ll (State.setFbChan s n c) := by
  unfold State.setFbChan
  try simp +contextual (maxDischargeDepth := 40) only [↓good_mk, ↓good_fold, ↓good_ite, ↓good_next, ↓goodO_ite, ↓good_foldl, ↓good_forEach, h, ite_self]
  all_goals (repeat' split)
  all_goals (try simp +contextual (maxDischargeDepth := 40) only [↓good_mk, ↓good_fold, ↓good_ite, ↓good_next, ↓goodO_ite, ↓good_foldl, ↓good_forEach, h, ite_self])
  all_goals (try grind [good_mk, good_fold, good_foldl, good_forEach])

end Sys2Proof.Machine
end

