-- ==== Sys2Proof/Laws/KeepsSoEvent.lean ====
section
/-!
SUPPORT. What the operations of Machine/SoEvent.lean keep.
-/

set_option linter.unusedSimpArgs false
set_option linter.unreachableTactic false
set_option linter.unusedTactic false

namespace Sys2Proof.Machine

theorem good_setSoCap {qq ll} {s : State} (c : Nat) (x : SoCap) (h : Good qq ll s) : Good qq ll (State.setSoCap s c x) := by
  unfold State.setSoCap
  try simp +contextual (maxDischargeDepth := 40) only [↓good_mk, ↓good_fold, ↓good_ite, ↓good_next, ↓goodO_ite, ↓good_foldl, ↓good_forEach, h, ite_self]
  all_goals (repeat' split)
  all_goals (try simp +contextual (maxDischargeDepth := 40) only [↓good_mk, ↓good_fold, ↓good_ite, ↓good_next, ↓goodO_ite, ↓good_foldl, ↓good_forEach, h, ite_self])
  all_goals (try grind [good_mk, good_fold, good_foldl, good_forEach])

theorem good_soMissed {qq ll} {s : State} (c : Nat) (h : Good qq ll s) : Good qq ll (State.soMissed s c) := by
  unfold State.soMissed
  try simp +contextual (maxDischargeDepth := 40) only [↓good_mk, ↓good_fold, ↓good_ite, ↓good_next, ↓goodO_ite, ↓good_foldl, ↓good_forEach, ↓good_setRg, ↓good_raiseFlag, h, ite_self]
  all_goals (repeat' split)
  all_goals (try simp +contextual (maxDischargeDepth := 40) only [↓good_mk, ↓good_fold, ↓good_ite, ↓good_next, ↓goodO_ite, ↓good_foldl, ↓good_forEach, ↓good_setRg, ↓good_raiseFlag, h, ite_self])
  all_goals (try grind [good_setRg, good_raiseFlag, good_mk, good_fold, good_foldl, good_forEach])

theorem good_soEvent {qq ll} {s : State} (kind : Nat) (groups : Nat) (ct : Nat) (h : Good qq ll s) : Good qq ll (State.soEvent s kind groups ct) := by
  unfold State.soEvent
  try simp +contextual (maxDischargeDepth := 40) only [↓good_mk, ↓good_fold, ↓good_ite, ↓good_next, ↓goodO_ite, ↓good_foldl, ↓good_forEach, ↓good_setSoCap, ↓good_soMissed, h, ite_self]
  all_goals (repeat' split)
  all_goals (try simp +contextual (maxDischargeDepth := 40) only [↓good_mk, ↓good_fold, ↓good_ite, ↓good_next, ↓goodO_ite, ↓good_foldl, ↓good_forEach, ↓good_setSoCap, ↓good_soMissed, h, ite_self])
  all_goals (try grind [good_setSoCap, good_soMissed, good_mk, good_fold, good_foldl, good_forEach])

end Sys2Proof.Machine
end

