-- ==== Sys2Proof/Laws/KeepsLevain.lean ====
section
/-!
SUPPORT. What the operations of Machine/Levain.lean keep.
-/

set_option linter.unusedSimpArgs false
set_option linter.unreachableTactic false
set_option linter.unusedTactic false

namespace Sys2Proof.Machine

theorem good_setTpl {qq ll} {s : State} (t : Nat) (b : Nat) (n : Nat) (v : Nat) (h : Good qq ll s) : Good qq ll (State.setTpl s t b n v) := by
  unfold State.setTpl
  try simp +contextual (maxDischargeDepth := 40) only [↓good_mk, ↓good_fold, ↓good_ite, ↓good_next, ↓goodO_ite, ↓good_foldl, ↓good_forEach, ↓good_setRg, h, ite_self]
  all_goals (repeat' split)
  all_goals (try simp +contextual (maxDischargeDepth := 40) only [↓good_mk, ↓good_fold, ↓good_ite, ↓good_next, ↓goodO_ite, ↓good_foldl, ↓good_forEach, ↓good_setRg, h, ite_self])
  all_goals (try grind [good_setRg, good_mk, good_fold, good_foldl, good_forEach])

theorem good_setFlow {qq ll} {s : State} (f : Nat) (b : Nat) (v : Nat) (h : Good qq ll s) : Good qq ll (State.setFlow s f b v) := by
  unfold State.setFlow
  try simp +contextual (maxDischargeDepth := 40) only [↓good_mk, ↓good_fold, ↓good_ite, ↓good_next, ↓goodO_ite, ↓good_foldl, ↓good_forEach, ↓good_setRg, h, ite_self]
  all_goals (repeat' split)
  all_goals (try simp +contextual (maxDischargeDepth := 40) only [↓good_mk, ↓good_fold, ↓good_ite, ↓good_next, ↓goodO_ite, ↓good_foldl, ↓good_forEach, ↓good_setRg, h, ite_self])
  all_goals (try grind [good_setRg, good_mk, good_fold, good_foldl, good_forEach])

theorem good_recount {qq ll} {s : State} (t : Nat) (f : Nat) (h : Good qq ll s) : Good qq ll (State.recount s t f) := by
  unfold State.recount
  try simp +contextual (maxDischargeDepth := 40) only [↓good_mk, ↓good_fold, ↓good_ite, ↓good_next, ↓goodO_ite, ↓good_foldl, ↓good_forEach, ↓good_setTpl, ↓good_setFlow, h, ite_self]
  all_goals (repeat' split)
  all_goals (try simp +contextual (maxDischargeDepth := 40) only [↓good_mk, ↓good_fold, ↓good_ite, ↓good_next, ↓goodO_ite, ↓good_foldl, ↓good_forEach, ↓good_setTpl, ↓good_setFlow, h, ite_self])
  all_goals (try grind [good_setTpl, good_setFlow, good_mk, good_fold, good_foldl, good_forEach])

theorem good_freeEntries {qq ll} {s : State} (n : Nat) (h : Good qq ll s) : Good qq ll (State.freeEntries s n) := by
  unfold State.freeEntries
  try simp +contextual (maxDischargeDepth := 40) only [↓good_mk, ↓good_fold, ↓good_ite, ↓good_next, ↓goodO_ite, ↓good_foldl, ↓good_forEach, ↓good_setFd, h, ite_self]
  all_goals (repeat' split)
  all_goals (try simp +contextual (maxDischargeDepth := 40) only [↓good_mk, ↓good_fold, ↓good_ite, ↓good_next, ↓goodO_ite, ↓good_foldl, ↓good_forEach, ↓good_setFd, h, ite_self])
  all_goals (try grind [good_setFd, good_mk, good_fold, good_foldl, good_forEach])

theorem good_lvCount {qq ll} {s : State} (k : Nat) (h : Good qq ll s) : Good qq ll (State.lvCount s k) := by
  unfold State.lvCount
  try simp +contextual (maxDischargeDepth := 40) only [↓good_mk, ↓good_fold, ↓good_ite, ↓good_next, ↓goodO_ite, ↓good_foldl, ↓good_forEach, ↓good_incFd, h, ite_self]
  all_goals (repeat' split)
  all_goals (try simp +contextual (maxDischargeDepth := 40) only [↓good_mk, ↓good_fold, ↓good_ite, ↓good_next, ↓goodO_ite, ↓good_foldl, ↓good_forEach, ↓good_incFd, h, ite_self])
  all_goals (try grind [good_incFd, good_mk, good_fold, good_foldl, good_forEach])

theorem good_fire {qq ll} {s : State} (x : Inst) (part : Bool) (h : Good qq ll s) : Good qq ll (State.fire s x part).1 := by
  unfold State.fire
  try simp +contextual (maxDischargeDepth := 40) only [↓good_mk, ↓good_fold, ↓good_ite, ↓good_next, ↓goodO_ite, ↓good_foldl, ↓good_forEach, ↓good_setTpl, ↓good_recount, ↓good_freeEntries, ↓good_lvCount, h, ite_self]
  all_goals (repeat' split)
  all_goals (try simp +contextual (maxDischargeDepth := 40) only [↓good_mk, ↓good_fold, ↓good_ite, ↓good_next, ↓goodO_ite, ↓good_foldl, ↓good_forEach, ↓good_setTpl, ↓good_recount, ↓good_freeEntries, ↓good_lvCount, h, ite_self])
  all_goals (try grind [good_setTpl, good_recount, good_freeEntries, good_lvCount, good_mk, good_fold, good_foldl, good_forEach])

theorem good_dropToken {qq ll} {s : State} (code : Nat) (tok : Nat) (h : Good qq ll s) : Good qq ll (State.dropToken s code tok) := by
  unfold State.dropToken
  try simp +contextual (maxDischargeDepth := 40) only [↓good_mk, ↓good_fold, ↓good_ite, ↓good_next, ↓goodO_ite, ↓good_foldl, ↓good_forEach, ↓good_setRg, ↓good_raise, ↓good_journal, h, ite_self]
  all_goals (repeat' split)
  all_goals (try simp +contextual (maxDischargeDepth := 40) only [↓good_mk, ↓good_fold, ↓good_ite, ↓good_next, ↓goodO_ite, ↓good_foldl, ↓good_forEach, ↓good_setRg, ↓good_raise, ↓good_journal, h, ite_self])
  all_goals (try grind [good_setRg, good_raise, good_journal, good_mk, good_fold, good_foldl, good_forEach])

theorem good_storeFull {qq ll} {s : State} (src : TokSrc) (tok : Nat) (h : Good qq ll s) : Good qq ll (State.storeFull s src tok) := by
  unfold State.storeFull
  try simp +contextual (maxDischargeDepth := 40) only [↓good_mk, ↓good_fold, ↓good_ite, ↓good_next, ↓goodO_ite, ↓good_foldl, ↓good_forEach, ↓good_free, ↓good_lvCount, ↓good_dropToken, h, ite_self]
  all_goals (repeat' split)
  all_goals (try simp +contextual (maxDischargeDepth := 40) only [↓good_mk, ↓good_fold, ↓good_ite, ↓good_next, ↓goodO_ite, ↓good_foldl, ↓good_forEach, ↓good_free, ↓good_lvCount, ↓good_dropToken, h, ite_self])
  all_goals (try grind [good_free, good_lvCount, good_dropToken, good_mk, good_fold, good_foldl, good_forEach])

theorem good_match_ {qq ll} {s : State} (src : TokSrc) (t : Nat) (k : Nat) (tag : Nat) (payload : Word) (h : Good qq ll s) : Good qq ll (State.match_ s src t k tag payload).1 := by
  unfold State.match_
  try simp +contextual (maxDischargeDepth := 40) only [↓good_mk, ↓good_fold, ↓good_ite, ↓good_next, ↓goodO_ite, ↓good_foldl, ↓good_forEach, ↓good_setFd, ↓good_recount, ↓good_lvCount, ↓good_fire, ↓good_storeFull, h, ite_self]
  all_goals (repeat' split)
  all_goals (try simp +contextual (maxDischargeDepth := 40) only [↓good_mk, ↓good_fold, ↓good_ite, ↓good_next, ↓goodO_ite, ↓good_foldl, ↓good_forEach, ↓good_setFd, ↓good_recount, ↓good_lvCount, ↓good_fire, ↓good_storeFull, h, ite_self])
  all_goals (try grind [good_setFd, good_recount, good_lvCount, good_fire, good_storeFull, good_mk, good_fold, good_foldl, good_forEach])

theorem good_applyToken {qq ll} {s : State} (src : TokSrc) (tok : Nat) (tag : Nat) (payload : Word) (h : Good qq ll s) : Good qq ll (State.applyToken s src tok tag payload).1 := by
  unfold State.applyToken
  try simp +contextual (maxDischargeDepth := 40) only [↓good_mk, ↓good_fold, ↓good_ite, ↓good_next, ↓goodO_ite, ↓good_foldl, ↓good_forEach, ↓good_lvCount, ↓good_match_, h, ite_self]
  all_goals (repeat' split)
  all_goals (try simp +contextual (maxDischargeDepth := 40) only [↓good_mk, ↓good_fold, ↓good_ite, ↓good_next, ↓goodO_ite, ↓good_foldl, ↓good_forEach, ↓good_lvCount, ↓good_match_, h, ite_self])
  all_goals (try grind [good_lvCount, good_match_, good_mk, good_fold, good_foldl, good_forEach])

theorem good_tickToken {qq ll} {s : State} (k : Nat) (h : Good qq ll s) : Good qq ll (State.tickToken s k) := by
  unfold State.tickToken
  try simp +contextual (maxDischargeDepth := 40) only [↓good_mk, ↓good_fold, ↓good_ite, ↓good_next, ↓goodO_ite, ↓good_foldl, ↓good_forEach, ↓good_applyToken, h, ite_self]
  all_goals (repeat' split)
  all_goals (try simp +contextual (maxDischargeDepth := 40) only [↓good_mk, ↓good_fold, ↓good_ite, ↓good_next, ↓goodO_ite, ↓good_foldl, ↓good_forEach, ↓good_applyToken, h, ite_self])
  all_goals (try grind [good_applyToken, good_mk, good_fold, good_foldl, good_forEach])

theorem good_tickTokens {qq ll} {s : State} (n : Nat) (h : Good qq ll s) : Good qq ll (State.tickTokens s n) := by
  unfold State.tickTokens
  try simp +contextual (maxDischargeDepth := 40) only [↓good_mk, ↓good_fold, ↓good_ite, ↓good_next, ↓goodO_ite, ↓good_foldl, ↓good_forEach, ↓good_tickToken, h, ite_self]
  all_goals (repeat' split)
  all_goals (try simp +contextual (maxDischargeDepth := 40) only [↓good_mk, ↓good_fold, ↓good_ite, ↓good_next, ↓goodO_ite, ↓good_foldl, ↓good_forEach, ↓good_tickToken, h, ite_self])
  all_goals (try grind [good_tickToken, good_mk, good_fold, good_foldl, good_forEach])

theorem good_takeTurn {qq ll} {s : State} (rank : Nat) (h : Good qq ll s) : Good qq ll (State.takeTurn s rank) := by
  unfold State.takeTurn
  try simp +contextual (maxDischargeDepth := 40) only [↓good_mk, ↓good_fold, ↓good_ite, ↓good_next, ↓goodO_ite, ↓good_foldl, ↓good_forEach, ↓good_advance, ↓good_tickTokens, h, ite_self]
  all_goals (repeat' split)
  all_goals (try simp +contextual (maxDischargeDepth := 40) only [↓good_mk, ↓good_fold, ↓good_ite, ↓good_next, ↓goodO_ite, ↓good_foldl, ↓good_forEach, ↓good_advance, ↓good_tickTokens, h, ite_self])
  all_goals (try grind [good_advance, good_tickTokens, good_mk, good_fold, good_foldl, good_forEach])

theorem good_takeTurnOf {qq ll} {s : State} (src : TokSrc) (h : Good qq ll s) : Good qq ll (State.takeTurnOf s src) := by
  unfold State.takeTurnOf
  try simp +contextual (maxDischargeDepth := 40) only [↓good_mk, ↓good_fold, ↓good_ite, ↓good_next, ↓goodO_ite, ↓good_foldl, ↓good_forEach, ↓good_takeTurn, h, ite_self]
  all_goals (repeat' split)
  all_goals (try simp +contextual (maxDischargeDepth := 40) only [↓good_mk, ↓good_fold, ↓good_ite, ↓good_next, ↓goodO_ite, ↓good_foldl, ↓good_forEach, ↓good_takeTurn, h, ite_self])
  all_goals (try grind [good_takeTurn, good_mk, good_fold, good_foldl, good_forEach])

theorem good_deposit {qq ll} {s : State} (src : TokSrc) (tok : Nat) (tag : Nat) (payload : Word) (h : Good qq ll s) : Good qq ll (State.deposit s src tok tag payload).1 := by
  unfold State.deposit
  try simp +contextual (maxDischargeDepth := 40) only [↓good_mk, ↓good_fold, ↓good_ite, ↓good_next, ↓goodO_ite, ↓good_foldl, ↓good_forEach, ↓good_applyToken, ↓good_takeTurnOf, h, ite_self]
  all_goals (repeat' split)
  all_goals (try simp +contextual (maxDischargeDepth := 40) only [↓good_mk, ↓good_fold, ↓good_ite, ↓good_next, ↓goodO_ite, ↓good_foldl, ↓good_forEach, ↓good_applyToken, ↓good_takeTurnOf, h, ite_self])
  all_goals (try grind [good_applyToken, good_takeTurnOf, good_mk, good_fold, good_foldl, good_forEach])

theorem good_hwToken {qq ll} {s : State} (src : TokSrc) (tok : Nat) (payload : Nat) (h : Good qq ll s) : Good qq ll (State.hwToken s src tok payload) := by
  unfold State.hwToken
  try simp +contextual (maxDischargeDepth := 40) only [↓good_mk, ↓good_fold, ↓good_ite, ↓good_next, ↓goodO_ite, ↓good_foldl, ↓good_forEach, ↓good_deposit, h, ite_self]
  all_goals (repeat' split)
  all_goals (try simp +contextual (maxDischargeDepth := 40) only [↓good_mk, ↓good_fold, ↓good_ite, ↓good_next, ↓goodO_ite, ↓good_foldl, ↓good_forEach, ↓good_deposit, h, ite_self])
  all_goals (try grind [good_deposit, good_mk, good_fold, good_foldl, good_forEach])

theorem good_flowDone {qq ll} {s : State} (f : Nat) (h : Good qq ll s) : Good qq ll (State.flowDone s f) := by
  unfold State.flowDone
  try simp +contextual (maxDischargeDepth := 40) only [↓good_mk, ↓good_fold, ↓good_ite, ↓good_next, ↓goodO_ite, ↓good_foldl, ↓good_forEach, ↓good_setFlow, h, ite_self]
  all_goals (repeat' split)
  all_goals (try simp +contextual (maxDischargeDepth := 40) only [↓good_mk, ↓good_fold, ↓good_ite, ↓good_next, ↓goodO_ite, ↓good_foldl, ↓good_forEach, ↓good_setFlow, h, ite_self])
  all_goals (try grind [good_setFlow, good_mk, good_fold, good_foldl, good_forEach])

theorem good_endAbnormal {qq ll} {s : State} (n : Nat) (cause : Nat) (h : Good qq ll s) : Good qq ll (State.endAbnormal s n cause) := by
  unfold State.endAbnormal
  try simp +contextual (maxDischargeDepth := 40) only [↓good_mk, ↓good_fold, ↓good_ite, ↓good_next, ↓goodO_ite, ↓good_foldl, ↓good_forEach, ↓good_setRg, ↓good_raiseFlag, ↓good_journal, ↓good_setCore, ↓good_setFlow, ↓good_lvCount, h, ite_self]
  all_goals (repeat' split)
  all_goals (try simp +contextual (maxDischargeDepth := 40) only [↓good_mk, ↓good_fold, ↓good_ite, ↓good_next, ↓goodO_ite, ↓good_foldl, ↓good_forEach, ↓good_setRg, ↓good_raiseFlag, ↓good_journal, ↓good_setCore, ↓good_setFlow, ↓good_lvCount, h, ite_self])
  all_goals (try grind [good_setRg, good_raiseFlag, good_journal, good_setCore, good_setFlow, good_lvCount, good_mk, good_fold, good_foldl, good_forEach])

theorem good_healthToken {qq ll} {s : State} (ev : Nat) (code : Nat) (slice : Nat) (h : Good qq ll s) : Good qq ll (State.healthToken s ev code slice) := by
  unfold State.healthToken
  try simp +contextual (maxDischargeDepth := 40) only [↓good_mk, ↓good_fold, ↓good_ite, ↓good_next, ↓goodO_ite, ↓good_foldl, ↓good_forEach, ↓good_hwToken, h, ite_self]
  all_goals (repeat' split)
  all_goals (try simp +contextual (maxDischargeDepth := 40) only [↓good_mk, ↓good_fold, ↓good_ite, ↓good_next, ↓goodO_ite, ↓good_foldl, ↓good_forEach, ↓good_hwToken, h, ite_self])
  all_goals (try grind [good_hwToken, good_mk, good_fold, good_foldl, good_forEach])

theorem good_healthEvent {qq ll} {s : State} (ev : Nat) (h : Good qq ll s) : Good qq ll (State.healthEvent s ev) := by
  unfold State.healthEvent
  try simp +contextual (maxDischargeDepth := 40) only [↓good_mk, ↓good_fold, ↓good_ite, ↓good_next, ↓goodO_ite, ↓good_foldl, ↓good_forEach, ↓good_free, ↓good_healthToken, h, ite_self]
  all_goals (repeat' split)
  all_goals (try simp +contextual (maxDischargeDepth := 40) only [↓good_mk, ↓good_fold, ↓good_ite, ↓good_next, ↓goodO_ite, ↓good_foldl, ↓good_forEach, ↓good_free, ↓good_healthToken, h, ite_self])
  all_goals (try grind [good_free, good_healthToken, good_mk, good_fold, good_foldl, good_forEach])

theorem good_migAbort {qq ll} {s : State} (h : Good qq ll s) : Good qq ll (State.migAbort s) := by
  unfold State.migAbort
  try simp +contextual (maxDischargeDepth := 40) only [↓good_mk, ↓good_fold, ↓good_ite, ↓good_next, ↓goodO_ite, ↓good_foldl, ↓good_forEach, ↓good_setFd, ↓good_setCore, ↓good_healthEvent, h, ite_self]
  all_goals (repeat' split)
  all_goals (try simp +contextual (maxDischargeDepth := 40) only [↓good_mk, ↓good_fold, ↓good_ite, ↓good_next, ↓goodO_ite, ↓good_foldl, ↓good_forEach, ↓good_setFd, ↓good_setCore, ↓good_healthEvent, h, ite_self])
  all_goals (try grind [good_setFd, good_setCore, good_healthEvent, good_mk, good_fold, good_foldl, good_forEach])

theorem good_dispatchTo {qq ll} {s : State} (x : Fired) (l : Nat) (h : Good qq ll s) : Good qq ll (State.dispatchTo s x l) := by
  unfold State.dispatchTo
  try simp +contextual (maxDischargeDepth := 40) only [↓good_mk, ↓good_fold, ↓good_ite, ↓good_next, ↓goodO_ite, ↓good_foldl, ↓good_forEach, ↓good_setCore, ↓good_setFlow, ↓good_recount, ↓good_freeEntries, h, ite_self]
  all_goals (repeat' split)
  all_goals (try simp +contextual (maxDischargeDepth := 40) only [↓good_mk, ↓good_fold, ↓good_ite, ↓good_next, ↓goodO_ite, ↓good_foldl, ↓good_forEach, ↓good_setCore, ↓good_setFlow, ↓good_recount, ↓good_freeEntries, h, ite_self])
  all_goals (try grind [good_setCore, good_setFlow, good_recount, good_freeEntries, good_mk, good_fold, good_foldl, good_forEach])

theorem good_execDispatch {qq ll} {s : State} (h : Good qq ll s) : GoodO qq ll (execDispatch s) := by
  unfold execDispatch
  try simp +contextual (maxDischargeDepth := 40) only [↓good_mk, ↓good_fold, ↓good_ite, ↓good_next, ↓goodO_ite, ↓good_foldl, ↓good_forEach, ↓good_dispatchTo, h, ite_self]
  all_goals (repeat' split)
  all_goals (try simp +contextual (maxDischargeDepth := 40) only [↓good_mk, ↓good_fold, ↓good_ite, ↓good_next, ↓goodO_ite, ↓good_foldl, ↓good_forEach, ↓good_dispatchTo, h, ite_self])
  all_goals (try grind [good_dispatchTo, good_mk, good_fold, good_foldl, good_forEach])

theorem good_execTick {qq ll} {s : State} (k : Nat) (h : Good qq ll s) : GoodO qq ll (execTick k s) := by
  unfold execTick
  try simp +contextual (maxDischargeDepth := 40) only [↓good_mk, ↓good_fold, ↓good_ite, ↓good_next, ↓goodO_ite, ↓good_foldl, ↓good_forEach, ↓good_advanceTo, ↓good_tickTokens, h, ite_self]
  all_goals (repeat' split)
  all_goals (try simp +contextual (maxDischargeDepth := 40) only [↓good_mk, ↓good_fold, ↓good_ite, ↓good_next, ↓goodO_ite, ↓good_foldl, ↓good_forEach, ↓good_advanceTo, ↓good_tickTokens, h, ite_self])
  all_goals (try grind [good_advanceTo, good_tickTokens, good_mk, good_fold, good_foldl, good_forEach])

theorem good_execInstanceDeadline {qq ll} {s : State} (t : Nat) (tag : Nat) (h : Good qq ll s) : GoodO qq ll (execInstanceDeadline t tag s) := by
  unfold execInstanceDeadline
  try simp +contextual (maxDischargeDepth := 40) only [↓good_mk, ↓good_fold, ↓good_ite, ↓good_next, ↓goodO_ite, ↓good_foldl, ↓good_forEach, ↓good_advanceTo, ↓good_setTpl, ↓good_recount, ↓good_freeEntries, ↓good_lvCount, ↓good_fire, ↓good_takeTurn, h, ite_self]
  all_goals (repeat' split)
  all_goals (try simp +contextual (maxDischargeDepth := 40) only [↓good_mk, ↓good_fold, ↓good_ite, ↓good_next, ↓goodO_ite, ↓good_foldl, ↓good_forEach, ↓good_advanceTo, ↓good_setTpl, ↓good_recount, ↓good_freeEntries, ↓good_lvCount, ↓good_fire, ↓good_takeTurn, h, ite_self])
  all_goals (try grind [good_advanceTo, good_setTpl, good_recount, good_freeEntries, good_lvCount, good_fire, good_takeTurn, good_mk, good_fold, good_foldl, good_forEach])

theorem good_execInstanceRelease {qq ll} {s : State} (t : Nat) (tag : Nat) (h : Good qq ll s) : GoodO qq ll (execInstanceRelease t tag s) := by
  unfold execInstanceRelease
  try simp +contextual (maxDischargeDepth := 40) only [↓good_mk, ↓good_fold, ↓good_ite, ↓good_next, ↓goodO_ite, ↓good_foldl, ↓good_forEach, ↓good_advanceTo, h, ite_self]
  all_goals (repeat' split)
  all_goals (try simp +contextual (maxDischargeDepth := 40) only [↓good_mk, ↓good_fold, ↓good_ite, ↓good_next, ↓goodO_ite, ↓good_foldl, ↓good_forEach, ↓good_advanceTo, h, ite_self])
  all_goals (try grind [good_advanceTo, good_mk, good_fold, good_foldl, good_forEach])

theorem good_writeTemplate {qq ll} {s : State} (q : Requester) (t : Nat) (w : Nat) (v : Word) (h : Good qq ll s) : Good qq ll (writeTemplate q t w v s) := by
  unfold writeTemplate
  try simp +contextual (maxDischargeDepth := 40) only [↓good_mk, ↓good_fold, ↓good_ite, ↓good_next, ↓goodO_ite, ↓good_foldl, ↓good_forEach, ↓good_setRg, ↓good_refuse, h, ite_self]
  all_goals (repeat' split)
  all_goals (try simp +contextual (maxDischargeDepth := 40) only [↓good_mk, ↓good_fold, ↓good_ite, ↓good_next, ↓goodO_ite, ↓good_foldl, ↓good_forEach, ↓good_setRg, ↓good_refuse, h, ite_self])
  all_goals (try grind [good_setRg, good_refuse, good_mk, good_fold, good_foldl, good_forEach])

theorem good_writeFlow {qq ll} {s : State} (q : Requester) (f : Nat) (w : Nat) (v : Word) (h : Good qq ll s) : Good qq ll (writeFlow q f w v s) := by
  unfold writeFlow
  try simp +contextual (maxDischargeDepth := 40) only [↓good_mk, ↓good_fold, ↓good_ite, ↓good_next, ↓goodO_ite, ↓good_foldl, ↓good_forEach, ↓good_setRg, ↓good_refuse, h, ite_self]
  all_goals (repeat' split)
  all_goals (try simp +contextual (maxDischargeDepth := 40) only [↓good_mk, ↓good_fold, ↓good_ite, ↓good_next, ↓goodO_ite, ↓good_foldl, ↓good_forEach, ↓good_setRg, ↓good_refuse, h, ite_self])
  all_goals (try grind [good_setRg, good_refuse, good_mk, good_fold, good_foldl, good_forEach])

theorem good_purgeWaiting {qq ll} {s : State} (t : Nat) (h : Good qq ll s) : Good qq ll (State.purgeWaiting s t) := by
  unfold State.purgeWaiting
  try simp +contextual (maxDischargeDepth := 40) only [↓good_mk, ↓good_fold, ↓good_ite, ↓good_next, ↓goodO_ite, ↓good_foldl, ↓good_forEach, ↓good_recount, ↓good_freeEntries, h, ite_self]
  all_goals (repeat' split)
  all_goals (try simp +contextual (maxDischargeDepth := 40) only [↓good_mk, ↓good_fold, ↓good_ite, ↓good_next, ↓goodO_ite, ↓good_foldl, ↓good_forEach, ↓good_recount, ↓good_freeEntries, h, ite_self])
  all_goals (try grind [good_recount, good_freeEntries, good_mk, good_fold, good_foldl, good_forEach])

theorem good_dropFired {qq ll} {s : State} (p : Fired → Bool) (h : Good qq ll s) : Good qq ll (State.dropFired s p) := by
  unfold State.dropFired
  try simp +contextual (maxDischargeDepth := 40) only [↓good_mk, ↓good_fold, ↓good_ite, ↓good_next, ↓goodO_ite, ↓good_foldl, ↓good_forEach, ↓good_freeEntries, h, ite_self]
  all_goals (repeat' split)
  all_goals (try simp +contextual (maxDischargeDepth := 40) only [↓good_mk, ↓good_fold, ↓good_ite, ↓good_next, ↓goodO_ite, ↓good_foldl, ↓good_forEach, ↓good_freeEntries, h, ite_self])
  all_goals (try grind [good_freeEntries, good_mk, good_fold, good_foldl, good_forEach])

theorem good_templateCommand {qq ll} {s : State} (op : Nat) (t : Nat) (h : Good qq ll s) : Good qq ll (templateCommand op t s) := by
  unfold templateCommand
  try simp +contextual (maxDischargeDepth := 40) only [↓good_mk, ↓good_fold, ↓good_ite, ↓good_next, ↓goodO_ite, ↓good_foldl, ↓good_forEach, ↓good_setTpl, ↓good_recount, ↓good_purgeWaiting, ↓good_dropFired, h, ite_self]
  all_goals (repeat' split)
  all_goals (try simp +contextual (maxDischargeDepth := 40) only [↓good_mk, ↓good_fold, ↓good_ite, ↓good_next, ↓goodO_ite, ↓good_foldl, ↓good_forEach, ↓good_setTpl, ↓good_recount, ↓good_purgeWaiting, ↓good_dropFired, h, ite_self])
  all_goals (try grind [good_setTpl, good_recount, good_purgeWaiting, good_dropFired, good_mk, good_fold, good_foldl, good_forEach])

theorem good_writeTplCmd {qq ll} {s : State} (q : Requester) (v : Word) (h : Good qq ll s) : Good qq ll (writeTplCmd q v s) := by
  unfold writeTplCmd
  try simp +contextual (maxDischargeDepth := 40) only [↓good_mk, ↓good_fold, ↓good_ite, ↓good_next, ↓goodO_ite, ↓good_foldl, ↓good_forEach, ↓good_setFd, ↓good_refuse, ↓good_templateCommand, h, ite_self]
  all_goals (repeat' split)
  all_goals (try simp +contextual (maxDischargeDepth := 40) only [↓good_mk, ↓good_fold, ↓good_ite, ↓good_next, ↓goodO_ite, ↓good_foldl, ↓good_forEach, ↓good_setFd, ↓good_refuse, ↓good_templateCommand, h, ite_self])
  all_goals (try grind [good_setFd, good_refuse, good_templateCommand, good_mk, good_fold, good_foldl, good_forEach])

theorem good_flowCommand {qq ll} {s : State} (op : Nat) (f : Nat) (h : Good qq ll s) : Good qq ll (flowCommand op f s) := by
  unfold flowCommand
  try simp +contextual (maxDischargeDepth := 40) only [↓good_mk, ↓good_fold, ↓good_ite, ↓good_next, ↓goodO_ite, ↓good_foldl, ↓good_forEach, ↓good_setFlow, ↓good_dropFired, h, ite_self]
  all_goals (repeat' split)
  all_goals (try simp +contextual (maxDischargeDepth := 40) only [↓good_mk, ↓good_fold, ↓good_ite, ↓good_next, ↓goodO_ite, ↓good_foldl, ↓good_forEach, ↓good_setFlow, ↓good_dropFired, h, ite_self])
  all_goals (try grind [good_setFlow, good_dropFired, good_mk, good_fold, good_foldl, good_forEach])

theorem good_writeFlowCmd {qq ll} {s : State} (q : Requester) (v : Word) (h : Good qq ll s) : Good qq ll (writeFlowCmd q v s) := by
  unfold writeFlowCmd
  try simp +contextual (maxDischargeDepth := 40) only [↓good_mk, ↓good_fold, ↓good_ite, ↓good_next, ↓goodO_ite, ↓good_foldl, ↓good_forEach, ↓good_setFd, ↓good_refuse, ↓good_flowCommand, h, ite_self]
  all_goals (repeat' split)
  all_goals (try simp +contextual (maxDischargeDepth := 40) only [↓good_mk, ↓good_fold, ↓good_ite, ↓good_next, ↓goodO_ite, ↓good_foldl, ↓good_forEach, ↓good_setFd, ↓good_refuse, ↓good_flowCommand, h, ite_self])
  all_goals (try grind [good_setFd, good_refuse, good_flowCommand, good_mk, good_fold, good_foldl, good_forEach])

theorem good_writeTickOfs {qq ll} {s : State} (q : Requester) (k : Nat) (v : Word) (h : Good qq ll s) : Good qq ll (writeTickOfs q k v s) := by
  unfold writeTickOfs
  try simp +contextual (maxDischargeDepth := 40) only [↓good_mk, ↓good_fold, ↓good_ite, ↓good_next, ↓goodO_ite, ↓good_foldl, ↓good_forEach, ↓good_setFd, ↓good_refuse, h, ite_self]
  all_goals (repeat' split)
  all_goals (try simp +contextual (maxDischargeDepth := 40) only [↓good_mk, ↓good_fold, ↓good_ite, ↓good_next, ↓goodO_ite, ↓good_foldl, ↓good_forEach, ↓good_setFd, ↓good_refuse, h, ite_self])
  all_goals (try grind [good_setFd, good_refuse, good_mk, good_fold, good_foldl, good_forEach])

end Sys2Proof.Machine
end

