-- ==== Sys2Proof/Laws/KeepsRecords.lean ====
section
/-!
SUPPORT. What the operations of Machine/Records.lean keep.
-/

set_option linter.unusedSimpArgs false
set_option linter.unreachableTactic false
set_option linter.unusedTactic false

namespace Sys2Proof.Machine

theorem good_setNode {qq ll} {s : State} (n : Nat) (k : KlNode) (h : Good qq ll s) : Good qq ll (State.setNode s n k) := by
  unfold State.setNode
  try simp +contextual (maxDischargeDepth := 40) only [↓good_mk, ↓good_fold, ↓good_ite, ↓good_next, ↓goodO_ite, ↓good_foldl, ↓good_forEach, h, ite_self]
  all_goals (repeat' split)
  all_goals (try simp +contextual (maxDischargeDepth := 40) only [↓good_mk, ↓good_fold, ↓good_ite, ↓good_next, ↓goodO_ite, ↓good_foldl, ↓good_forEach, h, ite_self])
  all_goals (try grind [good_mk, good_fold, good_foldl, good_forEach])

end Sys2Proof.Machine
end

