-- ==== Sys2Proof/Laws/KeepsCoreMem.lean ====
section
/-!
SUPPORT. What the operations of Machine/CoreMem.lean keep.
-/

set_option linter.unusedSimpArgs false
set_option linter.unreachableTactic false
set_option linter.unusedTactic false

namespace Sys2Proof.Machine

theorem good_noteDirty {qq ll} {s : State} (p : Place) (n : Nat) (h : Good qq ll s) : Good qq ll (State.noteDirty s p n) := by
  unfold State.noteDirty
  try simp +contextual (maxDischargeDepth := 40) only [↓good_mk, ↓good_fold, ↓good_ite, ↓good_next, ↓goodO_ite, ↓good_foldl, ↓good_forEach, h, ite_self]
  all_goals (repeat' split)
  all_goals (try simp +contextual (maxDischargeDepth := 40) only [↓good_mk, ↓good_fold, ↓good_ite, ↓good_next, ↓goodO_ite, ↓good_foldl, ↓good_forEach, h, ite_self])
  all_goals (try grind [good_mk, good_fold, good_foldl, good_forEach])

theorem good_placeWrite {qq ll} {s : State} (p : Place) (bs : List Byte) (h : Good qq ll s) : Good qq ll (State.placeWrite s p bs) := by
  unfold State.placeWrite
  have hw := good_memWf h
  (split) <;> simp +contextual (maxDischargeDepth := 40) only [↓good_mk, ↓good_fold, ↓good_ite, ↓good_next, ↓goodO_ite, ↓good_foldl, ↓good_forEach, ↓good_sramWrite, ↓good_noteDirty, h, hw, ↓good_memC, memWf_mk, Memory.wf_writeN, Memory.wf_splice, Memory.wf_clear, Memory.wf_copy, Memory.wf_nil, and_self]

theorem good_coreWrite {qq ll} {s : State} (c : Nat) (a : Nat) (bs : List Byte) (h : Good qq ll s) : Good qq ll (State.coreWrite s c a bs) := by
  unfold State.coreWrite
  try simp +contextual (maxDischargeDepth := 40) only [↓good_mk, ↓good_fold, ↓good_ite, ↓good_next, ↓goodO_ite, ↓good_foldl, ↓good_forEach, ↓good_placeWrite, h, ite_self]
  all_goals (repeat' split)
  all_goals (try simp +contextual (maxDischargeDepth := 40) only [↓good_mk, ↓good_fold, ↓good_ite, ↓good_next, ↓goodO_ite, ↓good_foldl, ↓good_forEach, ↓good_placeWrite, h, ite_self])
  all_goals (try grind [good_placeWrite, good_mk, good_fold, good_foldl, good_forEach])

end Sys2Proof.Machine
end

