-- ==== Sys2Proof/Laws/KeepsSafetySet.lean ====
section
/-!
SUPPORT. What the operations of Machine/SafetySet.lean keep.
-/

set_option linter.unusedSimpArgs false
set_option linter.unreachableTactic false
set_option linter.unusedTactic false

namespace Sys2Proof.Machine

theorem good_thBound {qq ll} {s : State} (h : Good qq ll s) : Good qq ll (State.thBound s) := by
  unfold State.thBound
  try simp +contextual (maxDischargeDepth := 40) only [↓good_mk, ↓good_fold, ↓good_ite, ↓good_next, ↓goodO_ite, ↓good_foldl, ↓good_forEach, ↓good_setRg, h, ite_self]
  all_goals (repeat' split)
  all_goals (try simp +contextual (maxDischargeDepth := 40) only [↓good_mk, ↓good_fold, ↓good_ite, ↓good_next, ↓goodO_ite, ↓good_foldl, ↓good_forEach, ↓good_setRg, h, ite_self])
  all_goals (try grind [good_setRg, good_mk, good_fold, good_foldl, good_forEach])

end Sys2Proof.Machine
end

