-- ==== Sys2Proof/Laws/KeepsAccess.lean ====
section
/-!
SUPPORT. What the operations of Machine/Access.lean keep.
-/

set_option linter.unusedSimpArgs false
set_option linter.unreachableTactic false
set_option linter.unusedTactic false

namespace Sys2Proof.Machine

theorem good_guardWrite {qq ll} {s : State} (q : Requester) (r : Reg) (i j : Nat) (act : State → State)
    (ha : ∀ t, Good qq ll t → Good qq ll (act t)) (h : Good qq ll s) :
    Good qq ll (State.guardWrite s q r i j act).1 := by
  unfold State.guardWrite
  split <;> (try exact h)
  split <;> (try exact h)
  split <;> (try exact h)
  split
  · exact good_badAccess _ _ _ _ h
  · split
    · exact good_offAccess _ _ _ _ h
    · exact ha s h

theorem good_write {qq ll} {s : State} (q : Requester) (r : Reg) (i j : Nat) (act : State → State)
    (ha : ∀ t, Good qq ll t → Good qq ll (act t)) (h : Good qq ll s) : GoodO qq ll (State.write s q r i j act) :=
  good_guardWrite q r i j act ha h

theorem good_holdLo {qq ll} {s : State} (q : Requester) (r : Reg) (i : Nat) (v : Nat) (h : Good qq ll s) : Good qq ll (State.holdLo s q r i v) := by
  unfold State.holdLo
  try simp +contextual (maxDischargeDepth := 40) only [↓good_mk, ↓good_fold, ↓good_ite, ↓good_next, ↓goodO_ite, ↓good_foldl, ↓good_forEach, h, ite_self]
  all_goals (repeat' split)
  all_goals (try simp +contextual (maxDischargeDepth := 40) only [↓good_mk, ↓good_fold, ↓good_ite, ↓good_next, ↓goodO_ite, ↓good_foldl, ↓good_forEach, h, ite_self])
  all_goals (try grind [good_mk, good_fold, good_foldl, good_forEach])

theorem good_takeLo {qq ll} {s : State} (q : Requester) (lo : Reg) (i : Nat) (h : Good qq ll s) : Good qq ll (State.takeLo s q lo i).2 := by
  unfold State.takeLo
  try simp +contextual (maxDischargeDepth := 40) only [↓good_mk, ↓good_fold, ↓good_ite, ↓good_next, ↓goodO_ite, ↓good_foldl, ↓good_forEach, h, ite_self]
  all_goals (repeat' split)
  all_goals (try simp +contextual (maxDischargeDepth := 40) only [↓good_mk, ↓good_fold, ↓good_ite, ↓good_next, ↓goodO_ite, ↓good_foldl, ↓good_forEach, h, ite_self])
  all_goals (try grind [good_mk, good_fold, good_foldl, good_forEach])

theorem good_readReg {qq ll} {s : State} (q : Requester) (r : Reg) (i : Nat) (j : Nat) (h : Good qq ll s) : Good qq ll (State.readReg s q r i j).2 := by
  unfold State.readReg
  try simp +contextual (maxDischargeDepth := 40) only [↓good_mk, ↓good_fold, ↓good_ite, ↓good_next, ↓goodO_ite, ↓good_foldl, ↓good_forEach, h, ite_self]
  all_goals (repeat' split)
  all_goals (try simp +contextual (maxDischargeDepth := 40) only [↓good_mk, ↓good_fold, ↓good_ite, ↓good_next, ↓goodO_ite, ↓good_foldl, ↓good_forEach, h, ite_self])
  all_goals (try grind [good_mk, good_fold, good_foldl, good_forEach])

theorem good_busRead {qq ll} {s : State} (q : Requester) (off : Nat) (width : Nat) (h : Good qq ll s) : Good qq ll (State.busRead s q off width).2.2 := by
  unfold State.busRead
  try simp +contextual (maxDischargeDepth := 40) only [↓good_mk, ↓good_fold, ↓good_ite, ↓good_next, ↓goodO_ite, ↓good_foldl, ↓good_forEach, ↓good_badAccess, ↓good_offAccess, ↓good_readReg, h, ite_self]
  all_goals (repeat' split)
  all_goals (try simp +contextual (maxDischargeDepth := 40) only [↓good_mk, ↓good_fold, ↓good_ite, ↓good_next, ↓goodO_ite, ↓good_foldl, ↓good_forEach, ↓good_badAccess, ↓good_offAccess, ↓good_readReg, h, ite_self])
  all_goals (try grind [good_badAccess, good_offAccess, good_readReg, good_mk, good_fold, good_foldl, good_forEach])

theorem good_plainWrite {qq ll} {s : State} (r : Reg) (i : Nat) (j : Nat) (v : Nat) (h : Good qq ll s) : Good qq ll (State.plainWrite s r i j v) := by
  unfold State.plainWrite
  try simp +contextual (maxDischargeDepth := 40) only [↓good_mk, ↓good_fold, ↓good_ite, ↓good_next, ↓goodO_ite, ↓good_foldl, ↓good_forEach, ↓good_setRg, h, ite_self]
  all_goals (repeat' split)
  all_goals (try simp +contextual (maxDischargeDepth := 40) only [↓good_mk, ↓good_fold, ↓good_ite, ↓good_next, ↓goodO_ite, ↓good_foldl, ↓good_forEach, ↓good_setRg, h, ite_self])
  all_goals (try grind [good_setRg, good_mk, good_fold, good_foldl, good_forEach])

theorem good_clearWrite {qq ll} {s : State} (r : Reg) (i : Nat) (j : Nat) (v : Nat) (mask : Nat) (h : Good qq ll s) : Good qq ll (State.clearWrite s r i j v mask) := by
  unfold State.clearWrite
  try simp +contextual (maxDischargeDepth := 40) only [↓good_mk, ↓good_fold, ↓good_ite, ↓good_next, ↓goodO_ite, ↓good_foldl, ↓good_forEach, ↓good_plainWrite, h, ite_self]
  all_goals (repeat' split)
  all_goals (try simp +contextual (maxDischargeDepth := 40) only [↓good_mk, ↓good_fold, ↓good_ite, ↓good_next, ↓goodO_ite, ↓good_foldl, ↓good_forEach, ↓good_plainWrite, h, ite_self])
  all_goals (try grind [good_plainWrite, good_mk, good_fold, good_foldl, good_forEach])

end Sys2Proof.Machine
end

