-- ==== Sys2Proof/Laws/KeepsKneader.lean ====
section
/-!
SUPPORT. What the operations of Machine/Kneader.lean keep.
-/

set_option linter.unusedSimpArgs false
set_option linter.unreachableTactic false
set_option linter.unusedTactic false

namespace Sys2Proof.Machine

theorem good_setKnSlot {qq ll} {s : State} (n : Nat) (x : KnSlot) (h : Good qq ll s) : Good qq ll (State.setKnSlot s n x) := by
  unfold State.setKnSlot
  try simp +contextual (maxDischargeDepth := 40) only [↓good_mk, ↓good_fold, ↓good_ite, ↓good_next, ↓goodO_ite, ↓good_foldl, ↓good_forEach, h, ite_self]
  all_goals (repeat' split)
  all_goals (try simp +contextual (maxDischargeDepth := 40) only [↓good_mk, ↓good_fold, ↓good_ite, ↓good_next, ↓goodO_ite, ↓good_foldl, ↓good_forEach, h, ite_self])
  all_goals (try grind [good_mk, good_fold, good_foldl, good_forEach])

theorem good_knShow {qq ll} {s : State} (k : Nat) (h : Good qq ll s) : Good qq ll (State.knShow s k) := by
  unfold State.knShow
  try simp +contextual (maxDischargeDepth := 40) only [↓good_mk, ↓good_fold, ↓good_ite, ↓good_next, ↓goodO_ite, ↓good_foldl, ↓good_forEach, ↓good_setRg, h, ite_self]
  all_goals (repeat' split)
  all_goals (try simp +contextual (maxDischargeDepth := 40) only [↓good_mk, ↓good_fold, ↓good_ite, ↓good_next, ↓goodO_ite, ↓good_foldl, ↓good_forEach, ↓good_setRg, h, ite_self])
  all_goals (try grind [good_setRg, good_mk, good_fold, good_foldl, good_forEach])

theorem good_setKnCluster {qq ll} {s : State} (k : Nat) (c : KnCluster) (h : Good qq ll s) : Good qq ll (State.setKnCluster s k c) := by
  unfold State.setKnCluster
  try simp +contextual (maxDischargeDepth := 40) only [↓good_mk, ↓good_fold, ↓good_ite, ↓good_next, ↓goodO_ite, ↓good_foldl, ↓good_forEach, ↓good_knShow, h, ite_self]
  all_goals (repeat' split)
  all_goals (try simp +contextual (maxDischargeDepth := 40) only [↓good_mk, ↓good_fold, ↓good_ite, ↓good_next, ↓goodO_ite, ↓good_foldl, ↓good_forEach, ↓good_knShow, h, ite_self])
  all_goals (try grind [good_knShow, good_mk, good_fold, good_foldl, good_forEach])

theorem good_knCount {qq ll} {s : State} (k : Nat) (j : Nat) (h : Good qq ll s) : Good qq ll (State.knCount s k j) := by
  unfold State.knCount
  try simp +contextual (maxDischargeDepth := 40) only [↓good_mk, ↓good_fold, ↓good_ite, ↓good_next, ↓goodO_ite, ↓good_foldl, ↓good_forEach, ↓good_incFd, h, ite_self]
  all_goals (repeat' split)
  all_goals (try simp +contextual (maxDischargeDepth := 40) only [↓good_mk, ↓good_fold, ↓good_ite, ↓good_next, ↓goodO_ite, ↓good_foldl, ↓good_forEach, ↓good_incFd, h, ite_self])
  all_goals (try grind [good_incFd, good_mk, good_fold, good_foldl, good_forEach])

theorem good_knTrip {qq ll} {s : State} (t : KnTrip) (d : KnDesc) (h : Good qq ll s) : Good qq ll (State.knTrip s t d) := by
  unfold State.knTrip
  try simp +contextual (maxDischargeDepth := 40) only [↓good_mk, ↓good_fold, ↓good_ite, ↓good_next, ↓goodO_ite, ↓good_foldl, ↓good_forEach, ↓good_setRg, ↓good_incFd, ↓good_noteRaise, ↓good_journal, ↓good_knCount, h, ite_self]
  all_goals (repeat' split)
  all_goals (try simp +contextual (maxDischargeDepth := 40) only [↓good_mk, ↓good_fold, ↓good_ite, ↓good_next, ↓goodO_ite, ↓good_foldl, ↓good_forEach, ↓good_setRg, ↓good_incFd, ↓good_noteRaise, ↓good_journal, ↓good_knCount, h, ite_self])
  all_goals (try grind [good_setRg, good_incFd, good_noteRaise, good_journal, good_knCount, good_mk, good_fold, good_foldl, good_forEach])

theorem good_modelCopy {qq ll} {s : State} (g : Nat) (h : Good qq ll s) : Good qq ll (State.modelCopy s g) := by
  unfold State.modelCopy
  try simp +contextual (maxDischargeDepth := 40) only [↓good_mk, ↓good_fold, ↓good_ite, ↓good_next, ↓goodO_ite, ↓good_foldl, ↓good_forEach, ↓good_setRg, ↓good_setFd, ↓good_incFd, ↓good_journal, ↓good_refuseSelf, h, ite_self]
  all_goals (repeat' split)
  all_goals (try simp +contextual (maxDischargeDepth := 40) only [↓good_mk, ↓good_fold, ↓good_ite, ↓good_next, ↓goodO_ite, ↓good_foldl, ↓good_forEach, ↓good_setRg, ↓good_setFd, ↓good_incFd, ↓good_journal, ↓good_refuseSelf, h, ite_self])
  all_goals (try grind [good_setRg, good_setFd, good_incFd, good_journal, good_refuseSelf, good_mk, good_fold, good_foldl, good_forEach])

theorem good_solveAccept {qq ll} {s : State} (d : KnDesc) (h : Good qq ll s) : Good qq ll (State.solveAccept s d) := by
  unfold State.solveAccept
  try simp +contextual (maxDischargeDepth := 40) only [↓good_mk, ↓good_fold, ↓good_ite, ↓good_next, ↓goodO_ite, ↓good_foldl, ↓good_forEach, ↓good_setFd, ↓good_setKnCluster, h, ite_self]
  all_goals (repeat' split)
  all_goals (try simp +contextual (maxDischargeDepth := 40) only [↓good_mk, ↓good_fold, ↓good_ite, ↓good_next, ↓goodO_ite, ↓good_foldl, ↓good_forEach, ↓good_setFd, ↓good_setKnCluster, h, ite_self])
  all_goals (try grind [good_setFd, good_setKnCluster, good_mk, good_fold, good_foldl, good_forEach])

theorem good_solve {qq ll} {s : State} (n : Nat) (a : Nat) (ahead : Bool) (h : Good qq ll s) : Good qq ll (State.solve s n a ahead).2 := by
  unfold State.solve
  try simp +contextual (maxDischargeDepth := 40) only [↓good_mk, ↓good_fold, ↓good_ite, ↓good_next, ↓goodO_ite, ↓good_foldl, ↓good_forEach, ↓good_recordRefusal, ↓good_knCount, ↓good_solveAccept, h, ite_self]
  all_goals (repeat' split)
  all_goals (try simp +contextual (maxDischargeDepth := 40) only [↓good_mk, ↓good_fold, ↓good_ite, ↓good_next, ↓goodO_ite, ↓good_foldl, ↓good_forEach, ↓good_recordRefusal, ↓good_knCount, ↓good_solveAccept, h, ite_self])
  all_goals (try grind [good_recordRefusal, good_knCount, good_solveAccept, good_mk, good_fold, good_foldl, good_forEach])

theorem good_knComplete {qq ll} {s : State} (k : Nat) (d : KnDesc) (status : Nat) (cycles : Nat) (results : List Byte) (h : Good qq ll s) : Good qq ll (State.knComplete s k d status cycles results) := by
  unfold State.knComplete
  try simp +contextual (maxDischargeDepth := 40) only [↓good_mk, ↓good_fold, ↓good_ite, ↓good_next, ↓goodO_ite, ↓good_foldl, ↓good_forEach, ↓good_deposit, ↓good_coreWrite, h, ite_self]
  all_goals (repeat' split)
  all_goals (try simp +contextual (maxDischargeDepth := 40) only [↓good_mk, ↓good_fold, ↓good_ite, ↓good_next, ↓goodO_ite, ↓good_foldl, ↓good_forEach, ↓good_deposit, ↓good_coreWrite, h, ite_self])
  all_goals (try grind [good_deposit, good_coreWrite, good_mk, good_fold, good_foldl, good_forEach])

theorem good_trapOf {qq ll} {s : State} (k : Nat) (t : Trap) (h : Good qq ll s) : Good qq ll (State.trapOf s k t).2 := by
  unfold State.trapOf
  cases t.cls <;> cases t.value
  · exact good_free (good_free h)
  · exact good_free h
  · exact good_free h
  · exact h

theorem good_accCount {qq ll} {s : State} (k : Nat) (t : KnTrip) (h : Good qq ll s) : Good qq ll (State.accCount s k t) := by
  unfold State.accCount
  try simp +contextual (maxDischargeDepth := 40) only [↓good_mk, ↓good_fold, ↓good_ite, ↓good_next, ↓goodO_ite, ↓good_foldl, ↓good_forEach, ↓good_knCount, h, ite_self]
  all_goals (repeat' split)
  all_goals (try simp +contextual (maxDischargeDepth := 40) only [↓good_mk, ↓good_fold, ↓good_ite, ↓good_next, ↓goodO_ite, ↓good_foldl, ↓good_forEach, ↓good_knCount, h, ite_self])
  all_goals (try grind [good_knCount, good_mk, good_fold, good_foldl, good_forEach])

theorem good_kernelFail {qq ll} {s : State} (k : Nat) (d : KnDesc) (code : Nat) (trip : Option KnTrip) (late : Bool) (cyc : Option Nat) (pts : List PointEnd) (h : Good qq ll s) : Good qq ll (State.kernelFail s k d code trip late cyc pts) := by
  unfold State.kernelFail
  try simp +contextual (maxDischargeDepth := 40) only [↓good_mk, ↓good_fold, ↓good_ite, ↓good_next, ↓goodO_ite, ↓good_foldl, ↓good_forEach, ↓good_knCount, ↓good_knTrip, ↓good_knComplete, ↓good_accCount, h, ite_self]
  all_goals (repeat' split)
  all_goals (try simp +contextual (maxDischargeDepth := 40) only [↓good_mk, ↓good_fold, ↓good_ite, ↓good_next, ↓goodO_ite, ↓good_foldl, ↓good_forEach, ↓good_knCount, ↓good_knTrip, ↓good_knComplete, ↓good_accCount, h, ite_self])
  all_goals (try grind [good_knCount, good_knTrip, good_knComplete, good_accCount, good_mk, good_fold, good_foldl, good_forEach])

theorem good_execKernelStart {qq ll} {s : State} (k : Nat) (dt : Nat) (h : Good qq ll s) : GoodO qq ll (execKernelStart k dt s) := by
  unfold execKernelStart
  try simp +contextual (maxDischargeDepth := 40) only [↓good_mk, ↓good_fold, ↓good_ite, ↓good_next, ↓goodO_ite, ↓good_foldl, ↓good_forEach, ↓good_free, ↓good_advance, ↓good_setKnCluster, ↓good_kernelFail, h, ite_self]
  all_goals (repeat' split)
  all_goals (try simp +contextual (maxDischargeDepth := 40) only [↓good_mk, ↓good_fold, ↓good_ite, ↓good_next, ↓goodO_ite, ↓good_foldl, ↓good_forEach, ↓good_free, ↓good_advance, ↓good_setKnCluster, ↓good_kernelFail, h, ite_self])
  all_goals (try grind [good_free, good_advance, good_setKnCluster, good_kernelFail, good_mk, good_fold, good_foldl, good_forEach])

theorem good_kernelStop {qq ll} {s : State} (k : Nat) (r : KnRun) (code : Nat) (trip : Option KnTrip) (late : Bool) (h : Good qq ll s) : Good qq ll (State.kernelStop s k r code trip late) := by
  unfold State.kernelStop
  try simp +contextual (maxDischargeDepth := 40) only [↓good_mk, ↓good_fold, ↓good_ite, ↓good_next, ↓goodO_ite, ↓good_foldl, ↓good_forEach, ↓good_free, ↓good_kernelFail, h, ite_self]
  all_goals (repeat' split)
  all_goals (try simp +contextual (maxDischargeDepth := 40) only [↓good_mk, ↓good_fold, ↓good_ite, ↓good_next, ↓goodO_ite, ↓good_foldl, ↓good_forEach, ↓good_free, ↓good_kernelFail, h, ite_self])
  all_goals (try grind [good_free, good_kernelFail, good_mk, good_fold, good_foldl, good_forEach])

theorem good_kernelTrap {qq ll} {s : State} (k : Nat) (r : KnRun) (code : Nat) (t : KnTrip) (late : Bool) (h : Good qq ll s) : Good qq ll (State.kernelTrap s k r code t late) := by
  unfold State.kernelTrap
  try simp +contextual (maxDischargeDepth := 40) only [↓good_mk, ↓good_fold, ↓good_ite, ↓good_next, ↓goodO_ite, ↓good_foldl, ↓good_forEach, ↓good_free, ↓good_kernelFail, h, ite_self]
  all_goals (repeat' split)
  all_goals (try simp +contextual (maxDischargeDepth := 40) only [↓good_mk, ↓good_fold, ↓good_ite, ↓good_next, ↓goodO_ite, ↓good_foldl, ↓good_forEach, ↓good_free, ↓good_kernelFail, h, ite_self])
  all_goals (try grind [good_free, good_kernelFail, good_mk, good_fold, good_foldl, good_forEach])

theorem good_execKernelComplete {qq ll} {s : State} (k : Nat) (dt : Nat) (h : Good qq ll s) : GoodO qq ll (execKernelComplete k dt s) := by
  unfold execKernelComplete
  have h1 := good_advance dt h
  dsimp only
  split
  · exact h1
  · have h2 := fun c => good_setKnCluster k c h1
    split
    · split
      · exact good_kernelStop _ _ _ _ _ (h2 _)
      · exact good_kernelTrap _ _ _ _ _ (good_trapOf _ _ (h2 _))
    · split
      · exact good_kernelStop _ _ _ _ _ (h2 _)
      · exact good_knComplete _ _ _ _ _ (good_knCount _ _ (h2 _))

theorem good_execKernelDeadline {qq ll} {s : State} (k : Nat) (i : Option Nat) (same : Bool) (h : Good qq ll s) : GoodO qq ll (execKernelDeadline k i same s) := by
  unfold execKernelDeadline
  dsimp only
  split
  · exact h
  · have h1 := good_advanceTo (by assumption) h
    split
    · exact good_kernelFail _ _ _ _ _ _ _ (good_setKnCluster k _ h1)
    · have h2 := fun c => good_setKnCluster k c h1
      split
      · exact h2 _
      split
      · exact good_kernelTrap _ _ _ _ _ (good_trapOf _ _ (h2 _))
      · exact good_kernelStop _ _ _ _ _ (h2 _)

theorem good_clusterWrite {qq ll} {s : State} (q : Requester) (k : Nat) (on : Bool) (h : Good qq ll s) : Good qq ll (State.clusterWrite s q k on) := by
  unfold State.clusterWrite
  try simp +contextual (maxDischargeDepth := 40) only [↓good_mk, ↓good_fold, ↓good_ite, ↓good_next, ↓goodO_ite, ↓good_foldl, ↓good_forEach, ↓good_setFd, ↓good_refuse, h, ite_self]
  all_goals (repeat' split)
  all_goals (try simp +contextual (maxDischargeDepth := 40) only [↓good_mk, ↓good_fold, ↓good_ite, ↓good_next, ↓goodO_ite, ↓good_foldl, ↓good_forEach, ↓good_setFd, ↓good_refuse, h, ite_self])
  all_goals (try grind [good_setFd, good_refuse, good_mk, good_fold, good_foldl, good_forEach])

theorem good_writeKnCtl {qq ll} {s : State} (q : Requester) (v : Word) (h : Good qq ll s) : Good qq ll (writeKnCtl q v s) := by
  unfold writeKnCtl
  try simp +contextual (maxDischargeDepth := 40) only [↓good_mk, ↓good_fold, ↓good_ite, ↓good_next, ↓goodO_ite, ↓good_foldl, ↓good_forEach, ↓good_clusterWrite, h, ite_self]
  all_goals (repeat' split)
  all_goals (try simp +contextual (maxDischargeDepth := 40) only [↓good_mk, ↓good_fold, ↓good_ite, ↓good_next, ↓goodO_ite, ↓good_foldl, ↓good_forEach, ↓good_clusterWrite, h, ite_self])
  all_goals (try grind [good_clusterWrite, good_mk, good_fold, good_foldl, good_forEach])

theorem good_execClusterEnable {qq ll} {s : State} (q : Requester) (v : Word) (h : Good qq ll s) : GoodO qq ll (execClusterEnable q v s) := by
  unfold execClusterEnable
  exact good_write _ _ _ _ _ (fun _ h => good_writeKnCtl _ _ h) h

theorem good_execClusterDisable {qq ll} {s : State} (q : Requester) (v : Word) (h : Good qq ll s) : GoodO qq ll (execClusterDisable q v s) := by
  unfold execClusterDisable
  exact good_write _ _ _ _ _ (fun _ h => good_writeKnCtl _ _ h) h

theorem good_writeKnRange {qq ll} {s : State} (r : Reg) (c : Nat) (v : Word) (h : Good qq ll s) : Good qq ll (writeKnRange r c v s) := by
  unfold writeKnRange
  try simp +contextual (maxDischargeDepth := 40) only [↓good_mk, ↓good_fold, ↓good_ite, ↓good_next, ↓goodO_ite, ↓good_foldl, ↓good_forEach, ↓good_plainWrite, h, ite_self]
  all_goals (repeat' split)
  all_goals (try simp +contextual (maxDischargeDepth := 40) only [↓good_mk, ↓good_fold, ↓good_ite, ↓good_next, ↓goodO_ite, ↓good_foldl, ↓good_forEach, ↓good_plainWrite, h, ite_self])
  all_goals (try grind [good_plainWrite, good_mk, good_fold, good_foldl, good_forEach])

theorem good_agmapApply {qq ll} {s : State} (h : Good qq ll s) : Good qq ll (State.agmapApply s) := by
  unfold State.agmapApply
  try simp +contextual (maxDischargeDepth := 40) only [↓good_mk, ↓good_fold, ↓good_ite, ↓good_next, ↓goodO_ite, ↓good_foldl, ↓good_forEach, ↓good_setRg, ↓good_setFd, ↓good_refuseSelf, h, ite_self]
  all_goals (repeat' split)
  all_goals (try simp +contextual (maxDischargeDepth := 40) only [↓good_mk, ↓good_fold, ↓good_ite, ↓good_next, ↓goodO_ite, ↓good_foldl, ↓good_forEach, ↓good_setRg, ↓good_setFd, ↓good_refuseSelf, h, ite_self])
  all_goals (try grind [good_setRg, good_setFd, good_refuseSelf, good_mk, good_fold, good_foldl, good_forEach])

end Sys2Proof.Machine
end

