-- ==== Sys2Proof/Laws/KeepsPlanner.lean ====
section
/-!
SUPPORT. What the operations of Machine/Planner.lean keep.
-/

set_option linter.unusedSimpArgs false
set_option linter.unreachableTactic false
set_option linter.unusedTactic false

namespace Sys2Proof.Machine

theorem good_planLeave {qq ll} {s : State} (slot : Nat) (result : Nat) (code : Nat) (h : Good qq ll s) : Good qq ll (State.planLeave s slot result code) := by
  unfold State.planLeave
  try simp +contextual (maxDischargeDepth := 40) only [↓good_mk, ↓good_fold, ↓good_ite, ↓good_next, ↓goodO_ite, ↓good_foldl, ↓good_forEach, ↓good_setFd, h, ite_self]
  all_goals (repeat' split)
  all_goals (try simp +contextual (maxDischargeDepth := 40) only [↓good_mk, ↓good_fold, ↓good_ite, ↓good_next, ↓goodO_ite, ↓good_foldl, ↓good_forEach, ↓good_setFd, h, ite_self])
  all_goals (try grind [good_setFd, good_mk, good_fold, good_foldl, good_forEach])

theorem good_planFailed {qq ll} {s : State} (k : Nat) (d : KnDesc) (code : Nat) (wsm : Nat) (guard : Nat) (deadline : Nat) (iters : Nat) (cycles : Nat) (h : Good qq ll s) : Good qq ll (State.planFailed s k d code wsm guard deadline iters cycles) := by
  unfold State.planFailed
  try simp +contextual (maxDischargeDepth := 40) only [↓good_mk, ↓good_fold, ↓good_ite, ↓good_next, ↓goodO_ite, ↓good_foldl, ↓good_forEach, ↓good_knCount, ↓good_knComplete, ↓good_planLeave, h, ite_self]
  all_goals (repeat' split)
  all_goals (try simp +contextual (maxDischargeDepth := 40) only [↓good_mk, ↓good_fold, ↓good_ite, ↓good_next, ↓goodO_ite, ↓good_foldl, ↓good_forEach, ↓good_knCount, ↓good_knComplete, ↓good_planLeave, h, ite_self])
  all_goals (try grind [good_knCount, good_knComplete, good_planLeave, good_mk, good_fold, good_foldl, good_forEach])

theorem good_planDone {qq ll} {s : State} (p : KnSolve) (plan : List Byte) (duals : List ℚ) (code : Nat) (result : Nat) (guard : Nat) (deadline : Nat) (iters : Nat) (cycles : Nat) (h : Good qq ll s) : Good qq ll (State.planDone s p plan duals code result guard deadline iters cycles) := by
  unfold State.planDone
  try simp +contextual (maxDischargeDepth := 40) only [↓good_mk, ↓good_fold, ↓good_ite, ↓good_next, ↓goodO_ite, ↓good_foldl, ↓good_forEach, ↓good_setRg, ↓good_setKnSlot, ↓good_knCount, ↓good_knComplete, ↓good_planLeave, h, ite_self]
  all_goals (repeat' split)
  all_goals (try simp +contextual (maxDischargeDepth := 40) only [↓good_mk, ↓good_fold, ↓good_ite, ↓good_next, ↓goodO_ite, ↓good_foldl, ↓good_forEach, ↓good_setRg, ↓good_setKnSlot, ↓good_knCount, ↓good_knComplete, ↓good_planLeave, h, ite_self])
  all_goals (try grind [good_setRg, good_setKnSlot, good_knCount, good_knComplete, good_planLeave, good_mk, good_fold, good_foldl, good_forEach])

theorem good_planFallback {qq ll} {s : State} (p : KnSolve) (e : RunEnd) (code : Nat) (guard : Nat) (deadline : Nat) (cycles : Nat) (h : Good qq ll s) : Good qq ll (State.planFallback s p e code guard deadline cycles) := by
  unfold State.planFallback
  try simp +contextual (maxDischargeDepth := 40) only [↓good_mk, ↓good_fold, ↓good_ite, ↓good_next, ↓goodO_ite, ↓good_foldl, ↓good_forEach, ↓good_planFailed, ↓good_planDone, h, ite_self]
  all_goals (repeat' split)
  all_goals (try simp +contextual (maxDischargeDepth := 40) only [↓good_mk, ↓good_fold, ↓good_ite, ↓good_next, ↓goodO_ite, ↓good_foldl, ↓good_forEach, ↓good_planFailed, ↓good_planDone, h, ite_self])
  all_goals (try grind [good_planFailed, good_planDone, good_mk, good_fold, good_foldl, good_forEach])

theorem good_solveFree {qq ll} {s : State} (h : Good qq ll s) : Good qq ll (State.solveFree s) := by
  unfold State.solveFree
  try simp +contextual (maxDischargeDepth := 40) only [↓good_mk, ↓good_fold, ↓good_ite, ↓good_next, ↓goodO_ite, ↓good_foldl, ↓good_forEach, ↓good_knShow, ↓good_solve, h, ite_self]
  all_goals (repeat' split)
  all_goals (try simp +contextual (maxDischargeDepth := 40) only [↓good_mk, ↓good_fold, ↓good_ite, ↓good_next, ↓goodO_ite, ↓good_foldl, ↓good_forEach, ↓good_knShow, ↓good_solve, h, ite_self])
  all_goals (try grind [good_knShow, good_solve, good_mk, good_fold, good_foldl, good_forEach])

theorem good_solveEnd {qq ll} {s : State} (p : KnSolve) (it : KnIter) (deadline : Bool) (h : Good qq ll s) : Good qq ll (State.solveEnd s p it deadline) := by
  unfold State.solveEnd
  try simp +contextual (maxDischargeDepth := 40) only [↓good_mk, ↓good_fold, ↓good_ite, ↓good_next, ↓goodO_ite, ↓good_foldl, ↓good_forEach, ↓good_knTrip, ↓good_trapOf, ↓good_accCount, ↓good_planDone, ↓good_planFallback, ↓good_solveFree, h, ite_self]
  all_goals (repeat' split)
  all_goals (try simp +contextual (maxDischargeDepth := 40) only [↓good_mk, ↓good_fold, ↓good_ite, ↓good_next, ↓goodO_ite, ↓good_foldl, ↓good_forEach, ↓good_knTrip, ↓good_trapOf, ↓good_accCount, ↓good_planDone, ↓good_planFallback, ↓good_solveFree, h, ite_self])
  all_goals (try grind [good_knTrip, good_trapOf, good_accCount, good_planDone, good_planFallback, good_solveFree, good_mk, good_fold, good_foldl, good_forEach])

theorem good_execPlanComplete {qq ll} {s : State} (it : KnIter) (dt : Nat) (h : Good qq ll s) : GoodO qq ll (execPlanComplete it dt s) := by
  unfold execPlanComplete
  try simp +contextual (maxDischargeDepth := 40) only [↓good_mk, ↓good_fold, ↓good_ite, ↓good_next, ↓goodO_ite, ↓good_foldl, ↓good_forEach, ↓good_advance, ↓good_solve, ↓good_solveEnd, h, ite_self]
  all_goals (repeat' split)
  all_goals (try simp +contextual (maxDischargeDepth := 40) only [↓good_mk, ↓good_fold, ↓good_ite, ↓good_next, ↓goodO_ite, ↓good_foldl, ↓good_forEach, ↓good_advance, ↓good_solve, ↓good_solveEnd, h, ite_self])
  all_goals (try grind [good_advance, good_solve, good_solveEnd, good_mk, good_fold, good_foldl, good_forEach])

theorem good_execPlanDeadline {qq ll} {s : State} (n : Nat) (it : KnIter) (h : Good qq ll s) : GoodO qq ll (execPlanDeadline n it s) := by
  unfold execPlanDeadline
  try simp +contextual (maxDischargeDepth := 40) only [↓good_mk, ↓good_fold, ↓good_ite, ↓good_next, ↓goodO_ite, ↓good_foldl, ↓good_forEach, ↓good_advanceTo, ↓good_solve, ↓good_planFallback, ↓good_solveEnd, h, ite_self]
  all_goals (repeat' split)
  all_goals (try simp +contextual (maxDischargeDepth := 40) only [↓good_mk, ↓good_fold, ↓good_ite, ↓good_next, ↓goodO_ite, ↓good_foldl, ↓good_forEach, ↓good_advanceTo, ↓good_solve, ↓good_planFallback, ↓good_solveEnd, h, ite_self])
  all_goals (try grind [good_advanceTo, good_solve, good_planFallback, good_solveEnd, good_mk, good_fold, good_foldl, good_forEach])

theorem good_moveTicks {qq ll} {s : State} (hold : Nat) (en : Nat) (h : Good qq ll s) : Good qq ll (State.moveTicks s hold en).2 := by
  unfold State.moveTicks
  try simp +contextual (maxDischargeDepth := 40) only [↓good_mk, ↓good_fold, ↓good_ite, ↓good_next, ↓goodO_ite, ↓good_foldl, ↓good_forEach, ↓good_free, h, ite_self]
  all_goals (repeat' split)
  all_goals (try simp +contextual (maxDischargeDepth := 40) only [↓good_mk, ↓good_fold, ↓good_ite, ↓good_next, ↓goodO_ite, ↓good_foldl, ↓good_forEach, ↓good_free, h, ite_self])
  all_goals (try grind [good_free, good_mk, good_fold, good_foldl, good_forEach])

theorem good_newSolve {qq ll} {s : State} (d : KnDesc) (b : List Byte) (en : Nat) (h : Good qq ll s) : Good qq ll (State.newSolve s d b en).2 := by
  unfold State.newSolve
  try simp +contextual (maxDischargeDepth := 40) only [↓good_mk, ↓good_fold, ↓good_ite, ↓good_next, ↓goodO_ite, ↓good_foldl, ↓good_forEach, ↓good_incFd, ↓good_setKnSlot, ↓good_moveTicks, h, ite_self]
  all_goals (repeat' split)
  all_goals (try simp +contextual (maxDischargeDepth := 40) only [↓good_mk, ↓good_fold, ↓good_ite, ↓good_next, ↓goodO_ite, ↓good_foldl, ↓good_forEach, ↓good_incFd, ↓good_setKnSlot, ↓good_moveTicks, h, ite_self])
  all_goals (try grind [good_incFd, good_setKnSlot, good_moveTicks, good_mk, good_fold, good_foldl, good_forEach])

theorem good_execPlanStart {qq ll} {s : State} (dt : Nat) (h : Good qq ll s) : GoodO qq ll (execPlanStart dt s) := by
  unfold execPlanStart
  try simp +contextual (maxDischargeDepth := 40) only [↓good_mk, ↓good_fold, ↓good_ite, ↓good_next, ↓goodO_ite, ↓good_foldl, ↓good_forEach, ↓good_free, ↓good_advance, ↓good_knShow, ↓good_knTrip, ↓good_solve, ↓good_planFailed, ↓good_planFallback, ↓good_newSolve, h, ite_self]
  all_goals (repeat' split)
  all_goals (try simp +contextual (maxDischargeDepth := 40) only [↓good_mk, ↓good_fold, ↓good_ite, ↓good_next, ↓goodO_ite, ↓good_foldl, ↓good_forEach, ↓good_free, ↓good_advance, ↓good_knShow, ↓good_knTrip, ↓good_solve, ↓good_planFailed, ↓good_planFallback, ↓good_newSolve, h, ite_self])
  all_goals (try grind [good_free, good_advance, good_knShow, good_knTrip, good_solve, good_planFailed, good_planFallback, good_newSolve, good_mk, good_fold, good_foldl, good_forEach])

theorem good_slotLost {qq ll} {s : State} (n : Nat) (h : Good qq ll s) : Good qq ll (State.slotLost s n) := by
  unfold State.slotLost
  try simp +contextual (maxDischargeDepth := 40) only [↓good_mk, ↓good_fold, ↓good_ite, ↓good_next, ↓goodO_ite, ↓good_foldl, ↓good_forEach, ↓good_setKnSlot, ↓good_solve, h, ite_self]
  all_goals (repeat' split)
  all_goals (try simp +contextual (maxDischargeDepth := 40) only [↓good_mk, ↓good_fold, ↓good_ite, ↓good_next, ↓goodO_ite, ↓good_foldl, ↓good_forEach, ↓good_setKnSlot, ↓good_solve, h, ite_self])
  all_goals (try grind [good_setKnSlot, good_solve, good_mk, good_fold, good_foldl, good_forEach])

theorem good_solveLost {qq ll} {s : State} (k : Nat) (h : Good qq ll s) : Good qq ll (State.solveLost s k) := by
  unfold State.solveLost
  try simp +contextual (maxDischargeDepth := 40) only [↓good_mk, ↓good_fold, ↓good_ite, ↓good_next, ↓goodO_ite, ↓good_foldl, ↓good_forEach, ↓good_free, ↓good_solve, ↓good_planFailed, ↓good_solveFree, ↓good_slotLost, h, ite_self]
  all_goals (repeat' split)
  all_goals (try simp +contextual (maxDischargeDepth := 40) only [↓good_mk, ↓good_fold, ↓good_ite, ↓good_next, ↓goodO_ite, ↓good_foldl, ↓good_forEach, ↓good_free, ↓good_solve, ↓good_planFailed, ↓good_solveFree, ↓good_slotLost, h, ite_self])
  all_goals (try grind [good_free, good_solve, good_planFailed, good_solveFree, good_slotLost, good_mk, good_fold, good_foldl, good_forEach])

theorem good_modelLost {qq ll} {s : State} (g : Nat) (h : Good qq ll s) : Good qq ll (State.modelLost s g) := by
  unfold State.modelLost
  try simp +contextual (maxDischargeDepth := 40) only [↓good_mk, ↓good_fold, ↓good_ite, ↓good_next, ↓goodO_ite, ↓good_foldl, ↓good_forEach, ↓good_setFd, h, ite_self]
  all_goals (repeat' split)
  all_goals (try simp +contextual (maxDischargeDepth := 40) only [↓good_mk, ↓good_fold, ↓good_ite, ↓good_next, ↓goodO_ite, ↓good_foldl, ↓good_forEach, ↓good_setFd, h, ite_self])
  all_goals (try grind [good_setFd, good_mk, good_fold, good_foldl, good_forEach])

theorem good_clusterLost {qq ll} {s : State} (k : Nat) (h : Good qq ll s) : Good qq ll (State.clusterLost s k) := by
  unfold State.clusterLost
  try simp +contextual (maxDischargeDepth := 40) only [↓good_mk, ↓good_fold, ↓good_ite, ↓good_next, ↓goodO_ite, ↓good_foldl, ↓good_forEach, ↓good_setKnCluster, ↓good_solve, ↓good_kernelFail, ↓good_kernelStop, ↓good_slotLost, ↓good_solveLost, ↓good_modelLost, h, ite_self]
  all_goals (repeat' split)
  all_goals (try simp +contextual (maxDischargeDepth := 40) only [↓good_mk, ↓good_fold, ↓good_ite, ↓good_next, ↓goodO_ite, ↓good_foldl, ↓good_forEach, ↓good_setKnCluster, ↓good_solve, ↓good_kernelFail, ↓good_kernelStop, ↓good_slotLost, ↓good_solveLost, ↓good_modelLost, h, ite_self])
  all_goals (try grind [good_setKnCluster, good_solve, good_kernelFail, good_kernelStop, good_slotLost, good_solveLost, good_modelLost, good_mk, good_fold, good_foldl, good_forEach])

theorem good_scratchError {qq ll} {s : State} (k : Nat) (what : Nat) (h : Good qq ll s) : Good qq ll (State.scratchError s k what) := by
  unfold State.scratchError
  try simp +contextual (maxDischargeDepth := 40) only [↓good_mk, ↓good_fold, ↓good_ite, ↓good_next, ↓goodO_ite, ↓good_foldl, ↓good_forEach, ↓good_free, ↓good_setKnCluster, ↓good_knTrip, ↓good_solve, ↓good_kernelStop, ↓good_slotLost, h, ite_self]
  all_goals (repeat' split)
  all_goals (try simp +contextual (maxDischargeDepth := 40) only [↓good_mk, ↓good_fold, ↓good_ite, ↓good_next, ↓goodO_ite, ↓good_foldl, ↓good_forEach, ↓good_free, ↓good_setKnCluster, ↓good_knTrip, ↓good_solve, ↓good_kernelStop, ↓good_slotLost, h, ite_self])
  all_goals (try grind [good_free, good_setKnCluster, good_knTrip, good_solve, good_kernelStop, good_slotLost, good_mk, good_fold, good_foldl, good_forEach])

theorem good_writePlanCtl {qq ll} {s : State} (q : Requester) (v : Word) (h : Good qq ll s) : Good qq ll (writePlanCtl q v s) := by
  unfold writePlanCtl
  try simp +contextual (maxDischargeDepth := 40) only [↓good_mk, ↓good_fold, ↓good_ite, ↓good_next, ↓goodO_ite, ↓good_foldl, ↓good_forEach, ↓good_setFd, ↓good_refuse, h, ite_self]
  all_goals (repeat' split)
  all_goals (try simp +contextual (maxDischargeDepth := 40) only [↓good_mk, ↓good_fold, ↓good_ite, ↓good_next, ↓goodO_ite, ↓good_foldl, ↓good_forEach, ↓good_setFd, ↓good_refuse, h, ite_self])
  all_goals (try grind [good_setFd, good_refuse, good_mk, good_fold, good_foldl, good_forEach])

theorem good_execAdoptSlotWrite {qq ll} {s : State} (q : Requester) (v : Word) (h : Good qq ll s) : GoodO qq ll (execAdoptSlotWrite q v s) := by
  unfold execAdoptSlotWrite
  exact good_write _ _ _ _ _ (fun _ h => good_writePlanCtl _ _ h) h

theorem good_adoptSwitch {qq ll} {s : State} (h : Good qq ll s) : Good qq ll (State.adoptSwitch s) := by
  unfold State.adoptSwitch
  try simp +contextual (maxDischargeDepth := 40) only [↓good_mk, ↓good_fold, ↓good_ite, ↓good_next, ↓goodO_ite, ↓good_foldl, ↓good_forEach, ↓good_setFd, h, ite_self]
  all_goals (repeat' split)
  all_goals (try simp +contextual (maxDischargeDepth := 40) only [↓good_mk, ↓good_fold, ↓good_ite, ↓good_next, ↓goodO_ite, ↓good_foldl, ↓good_forEach, ↓good_setFd, h, ite_self])
  all_goals (try grind [good_setFd, good_mk, good_fold, good_foldl, good_forEach])

theorem good_bumpSeq {qq ll} {s : State} (g : Nat) (h : Good qq ll s) : Good qq ll (State.bumpSeq s g) := by
  unfold State.bumpSeq
  try simp +contextual (maxDischargeDepth := 40) only [↓good_mk, ↓good_fold, ↓good_ite, ↓good_next, ↓goodO_ite, ↓good_foldl, ↓good_forEach, ↓good_setSram, ↓good_setAg, h, ite_self]
  all_goals (repeat' split)
  all_goals (try simp +contextual (maxDischargeDepth := 40) only [↓good_mk, ↓good_fold, ↓good_ite, ↓good_next, ↓goodO_ite, ↓good_foldl, ↓good_forEach, ↓good_setSram, ↓good_setAg, h, ite_self])
  all_goals (try grind [good_setSram, good_setAg, good_mk, good_fold, good_foldl, good_forEach])

theorem good_planAdopt {qq ll} {s : State} (h : Good qq ll s) : Good qq ll (State.planAdopt s).1 := by
  unfold State.planAdopt
  try simp +contextual (maxDischargeDepth := 40) only [↓good_mk, ↓good_fold, ↓good_ite, ↓good_next, ↓goodO_ite, ↓good_foldl, ↓good_forEach, ↓good_setRg, ↓good_setFd, ↓good_incFd, ↓good_setRg64, ↓good_bumpSeq, h, ite_self]
  all_goals (repeat' split)
  all_goals (try simp +contextual (maxDischargeDepth := 40) only [↓good_mk, ↓good_fold, ↓good_ite, ↓good_next, ↓goodO_ite, ↓good_foldl, ↓good_forEach, ↓good_setRg, ↓good_setFd, ↓good_incFd, ↓good_setRg64, ↓good_bumpSeq, h, ite_self])
  all_goals (try grind [good_setRg, good_setFd, good_incFd, good_setRg64, good_bumpSeq, good_mk, good_fold, good_foldl, good_forEach])

theorem good_setPlanCount {qq ll} {s : State} (g : Nat) (n : Nat) (h : Good qq ll s) : Good qq ll (State.setPlanCount s g n) := by
  unfold State.setPlanCount
  try simp +contextual (maxDischargeDepth := 40) only [↓good_mk, ↓good_fold, ↓good_ite, ↓good_next, ↓goodO_ite, ↓good_foldl, ↓good_forEach, ↓good_setRg, h, ite_self]
  all_goals (repeat' split)
  all_goals (try simp +contextual (maxDischargeDepth := 40) only [↓good_mk, ↓good_fold, ↓good_ite, ↓good_next, ↓goodO_ite, ↓good_foldl, ↓good_forEach, ↓good_setRg, h, ite_self])
  all_goals (try grind [good_setRg, good_mk, good_fold, good_foldl, good_forEach])

theorem good_planCounts {qq ll} {s : State} (r : Nat) (h : Good qq ll s) : Good qq ll (State.planCounts s r).1 := by
  unfold State.planCounts
  try simp +contextual (maxDischargeDepth := 40) only [↓good_mk, ↓good_fold, ↓good_ite, ↓good_next, ↓goodO_ite, ↓good_foldl, ↓good_forEach, ↓good_setPlanCount, h, ite_self]
  all_goals (repeat' split)
  all_goals (try simp +contextual (maxDischargeDepth := 40) only [↓good_mk, ↓good_fold, ↓good_ite, ↓good_next, ↓goodO_ite, ↓good_foldl, ↓good_forEach, ↓good_setPlanCount, h, ite_self])
  all_goals (try grind [good_setPlanCount, good_mk, good_fold, good_foldl, good_forEach])

end Sys2Proof.Machine
end

