-- ==== Sys2Proof/Laws/KeepsClock.lean ====
section
/-!
SUPPORT. What the operations of Machine/Clock.lean keep.
-/

set_option linter.unusedSimpArgs false
set_option linter.unreachableTactic false
set_option linter.unusedTactic false

namespace Sys2Proof.Machine

theorem good_lockTo {qq ll} {s : State} (src : Nat) (h : Good qq ll s) : Good qq ll (State.lockTo s src) := by
  unfold State.lockTo
  try simp +contextual (maxDischargeDepth := 40) only [↓good_mk, ↓good_fold, ↓good_ite, ↓good_next, ↓goodO_ite, ↓good_foldl, ↓good_forEach, ↓good_setFd, h, ite_self]
  all_goals (repeat' split)
  all_goals (try simp +contextual (maxDischargeDepth := 40) only [↓good_mk, ↓good_fold, ↓good_ite, ↓good_next, ↓goodO_ite, ↓good_foldl, ↓good_forEach, ↓good_setFd, h, ite_self])
  all_goals (try grind [good_setFd, good_mk, good_fold, good_foldl, good_forEach])

theorem good_writeClkRef {qq ll} {s : State} (q : Requester) (v : Word) (h : Good qq ll s) : Good qq ll (writeClkRef q v s) := by
  unfold writeClkRef
  try simp +contextual (maxDischargeDepth := 40) only [↓good_mk, ↓good_fold, ↓good_ite, ↓good_next, ↓goodO_ite, ↓good_foldl, ↓good_forEach, ↓good_refuse, ↓good_plainWrite, ↓good_lockTo, h, ite_self]
  all_goals (repeat' split)
  all_goals (try simp +contextual (maxDischargeDepth := 40) only [↓good_mk, ↓good_fold, ↓good_ite, ↓good_next, ↓goodO_ite, ↓good_foldl, ↓good_forEach, ↓good_refuse, ↓good_plainWrite, ↓good_lockTo, h, ite_self])
  all_goals (try grind [good_refuse, good_plainWrite, good_lockTo, good_mk, good_fold, good_foldl, good_forEach])

theorem good_enterHoldover {qq ll} {s : State} (h : Good qq ll s) : Good qq ll (State.enterHoldover s) := by
  unfold State.enterHoldover
  try simp +contextual (maxDischargeDepth := 40) only [↓good_mk, ↓good_fold, ↓good_ite, ↓good_next, ↓goodO_ite, ↓good_foldl, ↓good_forEach, ↓good_setFd, h, ite_self]
  all_goals (repeat' split)
  all_goals (try simp +contextual (maxDischargeDepth := 40) only [↓good_mk, ↓good_fold, ↓good_ite, ↓good_next, ↓goodO_ite, ↓good_foldl, ↓good_forEach, ↓good_setFd, h, ite_self])
  all_goals (try grind [good_setFd, good_mk, good_fold, good_foldl, good_forEach])

theorem good_execRefSelect {qq ll} {s : State} (q : Requester) (v : Word) (h : Good qq ll s) : GoodO qq ll (execRefSelect q v s) := by
  unfold execRefSelect
  exact good_write _ _ _ _ _ (fun _ h => good_writeClkRef _ _ h) h

theorem good_execRefLoss {qq ll} {s : State} (h : Good qq ll s) : GoodO qq ll (execRefLoss s) := by
  unfold execRefLoss
  try simp +contextual (maxDischargeDepth := 40) only [↓good_mk, ↓good_fold, ↓good_ite, ↓good_next, ↓goodO_ite, ↓good_foldl, ↓good_forEach, ↓good_setFd, ↓good_raise, ↓good_journal, ↓good_enterHoldover, h, ite_self]
  all_goals (repeat' split)
  all_goals (try simp +contextual (maxDischargeDepth := 40) only [↓good_mk, ↓good_fold, ↓good_ite, ↓good_next, ↓goodO_ite, ↓good_foldl, ↓good_forEach, ↓good_setFd, ↓good_raise, ↓good_journal, ↓good_enterHoldover, h, ite_self])
  all_goals (try grind [good_setFd, good_raise, good_journal, good_enterHoldover, good_mk, good_fold, good_foldl, good_forEach])

theorem good_execRefFreq {qq ll} {s : State} (h : Good qq ll s) : GoodO qq ll (execRefFreq s) := by
  unfold execRefFreq
  try simp +contextual (maxDischargeDepth := 40) only [↓good_mk, ↓good_fold, ↓good_ite, ↓good_next, ↓goodO_ite, ↓good_foldl, ↓good_forEach, ↓good_raise, ↓good_journal, ↓good_enterHoldover, h, ite_self]
  all_goals (repeat' split)
  all_goals (try simp +contextual (maxDischargeDepth := 40) only [↓good_mk, ↓good_fold, ↓good_ite, ↓good_next, ↓goodO_ite, ↓good_foldl, ↓good_forEach, ↓good_raise, ↓good_journal, ↓good_enterHoldover, h, ite_self])
  all_goals (try grind [good_raise, good_journal, good_enterHoldover, good_mk, good_fold, good_foldl, good_forEach])

theorem good_execFallbackRelock {qq ll} {s : State} (h : Good qq ll s) : GoodO qq ll (execFallbackRelock s) := by
  unfold execFallbackRelock
  try simp +contextual (maxDischargeDepth := 40) only [↓good_mk, ↓good_fold, ↓good_ite, ↓good_next, ↓goodO_ite, ↓good_foldl, ↓good_forEach, ↓good_lockTo, h, ite_self]
  all_goals (repeat' split)
  all_goals (try simp +contextual (maxDischargeDepth := 40) only [↓good_mk, ↓good_fold, ↓good_ite, ↓good_next, ↓goodO_ite, ↓good_foldl, ↓good_forEach, ↓good_lockTo, h, ite_self])
  all_goals (try grind [good_lockTo, good_mk, good_fold, good_foldl, good_forEach])

theorem good_execRefReturn {qq ll} {s : State} (src : Nat) (h : Good qq ll s) : GoodO qq ll (execRefReturn src s) := by
  unfold execRefReturn
  repeat' first
    | with_reducible assumption
    | (intro s; refine (show Good qq ll s → _ from fun h => ?_) ?_ <;> [clear_value s; subst s])
    | (intro (x : MemState); subst x)
    | (intro x; clear_value x)
    | lift_lets
    | with_reducible refine good_next.mpr ?_
    | with_reducible refine good_forEach _ _ _ (fun a s h => ?_) ?_
    | split
  all_goals (have hw := good_memWf h)
  all_goals (first
    | (simp +contextual (maxDischargeDepth := 40) only [↓good_mk, ↓good_fold, ↓good_ite, ↓good_next, ↓goodO_ite, ↓good_foldl, ↓good_forEach, ↓good_setFd, ↓good_lockTo, h, hw, ite_self, ↓good_memC, memWf_mk, Memory.wf_writeN, Memory.wf_setNum, Memory.wf_splice, Memory.wf_clear, Memory.wf_copy, Memory.wf_nil, and_self]; done)
    | simp +contextual (maxDischargeDepth := 40) only [↓good_mk, ↓good_fold, ↓good_ite, ↓good_next, ↓goodO_ite, ↓good_foldl, ↓good_forEach, ↓good_setFd, ↓good_lockTo, ite_self, *, ↓good_memC, memWf_mk, Memory.wf_writeN, Memory.wf_setNum, Memory.wf_splice, Memory.wf_clear, Memory.wf_copy, Memory.wf_nil, and_self])

theorem good_execDivFault {qq ll} {s : State} (clk : Nat) (h : Good qq ll s) : GoodO qq ll (execDivFault clk s) := by
  unfold execDivFault
  try simp +contextual (maxDischargeDepth := 40) only [↓good_mk, ↓good_fold, ↓good_ite, ↓good_next, ↓goodO_ite, ↓good_foldl, ↓good_forEach, ↓good_setFd, ↓good_raise, ↓good_journal, h, ite_self]
  all_goals (repeat' split)
  all_goals (try simp +contextual (maxDischargeDepth := 40) only [↓good_mk, ↓good_fold, ↓good_ite, ↓good_next, ↓goodO_ite, ↓good_foldl, ↓good_forEach, ↓good_setFd, ↓good_raise, ↓good_journal, h, ite_self])
  all_goals (try grind [good_setFd, good_raise, good_journal, good_mk, good_fold, good_foldl, good_forEach])

theorem good_execPcieRefLoss {qq ll} {s : State} (h : Good qq ll s) : GoodO qq ll (execPcieRefLoss s) := by
  unfold execPcieRefLoss
  try simp +contextual (maxDischargeDepth := 40) only [↓good_mk, ↓good_fold, ↓good_ite, ↓good_next, ↓goodO_ite, ↓good_foldl, ↓good_forEach, ↓good_setFd, h, ite_self]
  all_goals (repeat' split)
  all_goals (try simp +contextual (maxDischargeDepth := 40) only [↓good_mk, ↓good_fold, ↓good_ite, ↓good_next, ↓goodO_ite, ↓good_foldl, ↓good_forEach, ↓good_setFd, h, ite_self])
  all_goals (try grind [good_setFd, good_mk, good_fold, good_foldl, good_forEach])

theorem good_writeDvfs {qq ll} {s : State} (q : Requester) (v : Word) (h : Good qq ll s) : Good qq ll (writeDvfs q v s) := by
  unfold writeDvfs
  try simp +contextual (maxDischargeDepth := 40) only [↓good_mk, ↓good_fold, ↓good_ite, ↓good_next, ↓goodO_ite, ↓good_foldl, ↓good_forEach, ↓good_setFd, ↓good_refuse, ↓good_plainWrite, h, ite_self]
  all_goals (repeat' split)
  all_goals (try simp +contextual (maxDischargeDepth := 40) only [↓good_mk, ↓good_fold, ↓good_ite, ↓good_next, ↓goodO_ite, ↓good_foldl, ↓good_forEach, ↓good_setFd, ↓good_refuse, ↓good_plainWrite, h, ite_self])
  all_goals (try grind [good_setFd, good_refuse, good_plainWrite, good_mk, good_fold, good_foldl, good_forEach])

theorem good_execDvfsWrite {qq ll} {s : State} (q : Requester) (v : Word) (h : Good qq ll s) : GoodO qq ll (execDvfsWrite q v s) := by
  unfold execDvfsWrite
  exact good_write _ _ _ _ _ (fun _ h => good_writeDvfs _ _ h) h

theorem good_writeCtSet {qq ll} {s : State} (q : Requester) (v : Word) (h : Good qq ll s) : Good qq ll (writeCtSet q v s) := by
  unfold writeCtSet
  try simp +contextual (maxDischargeDepth := 40) only [↓good_mk, ↓good_fold, ↓good_ite, ↓good_next, ↓goodO_ite, ↓good_foldl, ↓good_forEach, ↓good_setRg64, ↓good_refuse, ↓good_takeLo, h, ite_self]
  all_goals (repeat' split)
  all_goals (try simp +contextual (maxDischargeDepth := 40) only [↓good_mk, ↓good_fold, ↓good_ite, ↓good_next, ↓goodO_ite, ↓good_foldl, ↓good_forEach, ↓good_setRg64, ↓good_refuse, ↓good_takeLo, h, ite_self])
  all_goals (try grind [good_setRg64, good_refuse, good_takeLo, good_mk, good_fold, good_foldl, good_forEach])

theorem good_ptTouched {qq ll} {s : State} (h : Good qq ll s) : Good qq ll (State.ptTouched s) := by
  unfold State.ptTouched
  try simp +contextual (maxDischargeDepth := 40) only [↓good_mk, ↓good_fold, ↓good_ite, ↓good_next, ↓goodO_ite, ↓good_foldl, ↓good_forEach, h, ite_self]
  all_goals (repeat' split)
  all_goals (try simp +contextual (maxDischargeDepth := 40) only [↓good_mk, ↓good_fold, ↓good_ite, ↓good_next, ↓goodO_ite, ↓good_foldl, ↓good_forEach, h, ite_self])
  all_goals (try grind [good_mk, good_fold, good_foldl, good_forEach])

theorem good_writePtInc {qq ll} {s : State} (q : Requester) (v : Word) (h : Good qq ll s) : Good qq ll (writePtInc q v s) := by
  unfold writePtInc
  try simp +contextual (maxDischargeDepth := 40) only [↓good_mk, ↓good_fold, ↓good_ite, ↓good_next, ↓goodO_ite, ↓good_foldl, ↓good_forEach, ↓good_setRg64, ↓good_refuse, ↓good_takeLo, ↓good_ptTouched, h, ite_self]
  all_goals (repeat' split)
  all_goals (try simp +contextual (maxDischargeDepth := 40) only [↓good_mk, ↓good_fold, ↓good_ite, ↓good_next, ↓goodO_ite, ↓good_foldl, ↓good_forEach, ↓good_setRg64, ↓good_refuse, ↓good_takeLo, ↓good_ptTouched, h, ite_self])
  all_goals (try grind [good_setRg64, good_refuse, good_takeLo, good_ptTouched, good_mk, good_fold, good_foldl, good_forEach])

theorem good_writePtAdj {qq ll} {s : State} (v : Word) (h : Good qq ll s) : Good qq ll (writePtAdj v s) := by
  unfold writePtAdj
  try simp +contextual (maxDischargeDepth := 40) only [↓good_mk, ↓good_fold, ↓good_ite, ↓good_next, ↓goodO_ite, ↓good_foldl, ↓good_forEach, ↓good_ptTouched, h, ite_self]
  all_goals (repeat' split)
  all_goals (try simp +contextual (maxDischargeDepth := 40) only [↓good_mk, ↓good_fold, ↓good_ite, ↓good_next, ↓goodO_ite, ↓good_foldl, ↓good_forEach, ↓good_ptTouched, h, ite_self])
  all_goals (try grind [good_ptTouched, good_mk, good_fold, good_foldl, good_forEach])

theorem good_writePtSet {qq ll} {s : State} (q : Requester) (v : Word) (h : Good qq ll s) : Good qq ll (writePtSet q v s) := by
  unfold writePtSet
  try simp +contextual (maxDischargeDepth := 40) only [↓good_mk, ↓good_fold, ↓good_ite, ↓good_next, ↓goodO_ite, ↓good_foldl, ↓good_forEach, ↓good_setRg64, ↓good_takeLo, ↓good_ptTouched, h, ite_self]
  all_goals (repeat' split)
  all_goals (try simp +contextual (maxDischargeDepth := 40) only [↓good_mk, ↓good_fold, ↓good_ite, ↓good_next, ↓goodO_ite, ↓good_foldl, ↓good_forEach, ↓good_setRg64, ↓good_takeLo, ↓good_ptTouched, h, ite_self])
  all_goals (try grind [good_setRg64, good_takeLo, good_ptTouched, good_mk, good_fold, good_foldl, good_forEach])

theorem good_execCtSet {qq ll} {s : State} (q : Requester) (v : Word) (h : Good qq ll s) : GoodO qq ll (execCtSet q v s) := by
  unfold execCtSet
  exact good_write _ _ _ _ _ (fun _ h => good_writeCtSet _ _ h) h

theorem good_execPtIncSet {qq ll} {s : State} (q : Requester) (v : Word) (h : Good qq ll s) : GoodO qq ll (execPtIncSet q v s) := by
  unfold execPtIncSet
  exact good_write _ _ _ _ _ (fun _ h => good_writePtInc _ _ h) h

theorem good_execPtAdj {qq ll} {s : State} (q : Requester) (v : Word) (h : Good qq ll s) : GoodO qq ll (execPtAdj q v s) := by
  unfold execPtAdj
  exact good_write _ _ _ _ _ (fun _ h => good_writePtAdj _ h) h

theorem good_execPtSet {qq ll} {s : State} (q : Requester) (v : Word) (h : Good qq ll s) : GoodO qq ll (execPtSet q v s) := by
  unfold execPtSet
  exact good_write _ _ _ _ _ (fun _ h => good_writePtSet _ _ h) h

theorem good_execPtValidTimeout {qq ll} {s : State} (h : Good qq ll s) : GoodO qq ll (execPtValidTimeout s) := by
  unfold execPtValidTimeout
  try simp +contextual (maxDischargeDepth := 40) only [↓good_mk, ↓good_fold, ↓good_ite, ↓good_next, ↓goodO_ite, ↓good_foldl, ↓good_forEach, ↓good_setFd, ↓good_raise, ↓good_advance, h, ite_self]
  all_goals (repeat' split)
  all_goals (try simp +contextual (maxDischargeDepth := 40) only [↓good_mk, ↓good_fold, ↓good_ite, ↓good_next, ↓goodO_ite, ↓good_foldl, ↓good_forEach, ↓good_setFd, ↓good_raise, ↓good_advance, h, ite_self])
  all_goals (try grind [good_setFd, good_raise, good_advance, good_mk, good_fold, good_foldl, good_forEach])

theorem good_writePtCtl {qq ll} {s : State} (v : Word) (h : Good qq ll s) : Good qq ll (writePtCtl v s) := by
  unfold writePtCtl
  try simp +contextual (maxDischargeDepth := 40) only [↓good_mk, ↓good_fold, ↓good_ite, ↓good_next, ↓goodO_ite, ↓good_foldl, ↓good_forEach, ↓good_plainWrite, h, ite_self]
  all_goals (repeat' split)
  all_goals (try simp +contextual (maxDischargeDepth := 40) only [↓good_mk, ↓good_fold, ↓good_ite, ↓good_next, ↓goodO_ite, ↓good_foldl, ↓good_forEach, ↓good_plainWrite, h, ite_self])
  all_goals (try grind [good_plainWrite, good_mk, good_fold, good_foldl, good_forEach])

theorem good_capture {qq ll} {s : State} (n : Nat) (h : Good qq ll s) : Good qq ll (State.capture s n) := by
  unfold State.capture
  try simp +contextual (maxDischargeDepth := 40) only [↓good_mk, ↓good_fold, ↓good_ite, ↓good_next, ↓goodO_ite, ↓good_foldl, ↓good_forEach, ↓good_raiseFlag, ↓good_raise, ↓good_setRg64, h, ite_self]
  all_goals (repeat' split)
  all_goals (try simp +contextual (maxDischargeDepth := 40) only [↓good_mk, ↓good_fold, ↓good_ite, ↓good_next, ↓goodO_ite, ↓good_foldl, ↓good_forEach, ↓good_raiseFlag, ↓good_raise, ↓good_setRg64, h, ite_self])
  all_goals (try grind [good_raiseFlag, good_raise, good_setRg64, good_mk, good_fold, good_foldl, good_forEach])

theorem good_captureAll {qq ll} {s : State} (src : Nat) (rising : Bool) (h : Good qq ll s) : Good qq ll (State.captureAll s src rising) := by
  unfold State.captureAll
  try simp +contextual (maxDischargeDepth := 40) only [↓good_mk, ↓good_fold, ↓good_ite, ↓good_next, ↓goodO_ite, ↓good_foldl, ↓good_forEach, ↓good_capture, h, ite_self]
  all_goals (repeat' split)
  all_goals (try simp +contextual (maxDischargeDepth := 40) only [↓good_mk, ↓good_fold, ↓good_ite, ↓good_next, ↓goodO_ite, ↓good_foldl, ↓good_forEach, ↓good_capture, h, ite_self])
  all_goals (try grind [good_capture, good_mk, good_fold, good_foldl, good_forEach])

theorem good_writeCapCtl {qq ll} {s : State} (q : Requester) (n : Nat) (v : Word) (h : Good qq ll s) : Good qq ll (writeCapCtl q n v s) := by
  unfold writeCapCtl
  try simp +contextual (maxDischargeDepth := 40) only [↓good_mk, ↓good_fold, ↓good_ite, ↓good_next, ↓goodO_ite, ↓good_foldl, ↓good_forEach, ↓good_refuse, ↓good_plainWrite, ↓good_clearWrite, ↓good_capture, h, ite_self]
  all_goals (repeat' split)
  all_goals (try simp +contextual (maxDischargeDepth := 40) only [↓good_mk, ↓good_fold, ↓good_ite, ↓good_next, ↓goodO_ite, ↓good_foldl, ↓good_forEach, ↓good_refuse, ↓good_plainWrite, ↓good_clearWrite, ↓good_capture, h, ite_self])
  all_goals (try grind [good_refuse, good_plainWrite, good_clearWrite, good_capture, good_mk, good_fold, good_foldl, good_forEach])

theorem good_execTimeCaptureEvent {qq ll} {s : State} (src : Nat) (rising : Bool) (dt : Nat) (h : Good qq ll s) : GoodO qq ll (execTimeCaptureEvent src rising dt s) := by
  unfold execTimeCaptureEvent
  try simp +contextual (maxDischargeDepth := 40) only [↓good_mk, ↓good_fold, ↓good_ite, ↓good_next, ↓goodO_ite, ↓good_foldl, ↓good_forEach, ↓good_advance, ↓good_captureAll, h, ite_self]
  all_goals (repeat' split)
  all_goals (try simp +contextual (maxDischargeDepth := 40) only [↓good_mk, ↓good_fold, ↓good_ite, ↓good_next, ↓goodO_ite, ↓good_foldl, ↓good_forEach, ↓good_advance, ↓good_captureAll, h, ite_self])
  all_goals (try grind [good_advance, good_captureAll, good_mk, good_fold, good_foldl, good_forEach])

theorem good_execSwtrig {qq ll} {s : State} (q : Requester) (n : Nat) (v : Word) (h : Good qq ll s) : GoodO qq ll (execSwtrig q n v s) := by
  unfold execSwtrig
  exact good_write _ _ _ _ _ (fun _ h => good_writeCapCtl _ _ _ h) h

theorem good_loadCal {qq ll} {s : State} (sec : Nat) (h : Good qq ll s) : Good qq ll (State.loadCal s sec) := by
  unfold State.loadCal
  try simp +contextual (maxDischargeDepth := 40) only [↓good_mk, ↓good_fold, ↓good_ite, ↓good_next, ↓goodO_ite, ↓good_foldl, ↓good_forEach, ↓good_setFd, h, ite_self]
  all_goals (repeat' split)
  all_goals (try simp +contextual (maxDischargeDepth := 40) only [↓good_mk, ↓good_fold, ↓good_ite, ↓good_next, ↓goodO_ite, ↓good_foldl, ↓good_forEach, ↓good_setFd, h, ite_self])
  all_goals (try grind [good_setFd, good_mk, good_fold, good_foldl, good_forEach])

theorem good_writeCalSet {qq ll} {s : State} (q : Requester) (v : Word) (h : Good qq ll s) : Good qq ll (writeCalSet q v s) := by
  unfold writeCalSet
  try simp +contextual (maxDischargeDepth := 40) only [↓good_mk, ↓good_fold, ↓good_ite, ↓good_next, ↓goodO_ite, ↓good_foldl, ↓good_forEach, ↓good_setRg64, ↓good_refuse, ↓good_takeLo, ↓good_loadCal, h, ite_self]
  all_goals (repeat' split)
  all_goals (try simp +contextual (maxDischargeDepth := 40) only [↓good_mk, ↓good_fold, ↓good_ite, ↓good_next, ↓goodO_ite, ↓good_foldl, ↓good_forEach, ↓good_setRg64, ↓good_refuse, ↓good_takeLo, ↓good_loadCal, h, ite_self])
  all_goals (try grind [good_setRg64, good_refuse, good_takeLo, good_loadCal, good_mk, good_fold, good_foldl, good_forEach])

theorem good_writeCalCtl {qq ll} {s : State} (v : Word) (h : Good qq ll s) : Good qq ll (writeCalCtl v s) := by
  unfold writeCalCtl
  try simp +contextual (maxDischargeDepth := 40) only [↓good_mk, ↓good_fold, ↓good_ite, ↓good_next, ↓goodO_ite, ↓good_foldl, ↓good_forEach, ↓good_plainWrite, h, ite_self]
  all_goals (repeat' split)
  all_goals (try simp +contextual (maxDischargeDepth := 40) only [↓good_mk, ↓good_fold, ↓good_ite, ↓good_next, ↓goodO_ite, ↓good_foldl, ↓good_forEach, ↓good_plainWrite, h, ite_self])
  all_goals (try grind [good_plainWrite, good_mk, good_fold, good_foldl, good_forEach])

theorem good_writeCalTrim {qq ll} {s : State} (q : Requester) (v : Word) (h : Good qq ll s) : Good qq ll (writeCalTrim q v s) := by
  unfold writeCalTrim
  try simp +contextual (maxDischargeDepth := 40) only [↓good_mk, ↓good_fold, ↓good_ite, ↓good_next, ↓goodO_ite, ↓good_foldl, ↓good_forEach, ↓good_refuse, ↓good_plainWrite, h, ite_self]
  all_goals (repeat' split)
  all_goals (try simp +contextual (maxDischargeDepth := 40) only [↓good_mk, ↓good_fold, ↓good_ite, ↓good_next, ↓goodO_ite, ↓good_foldl, ↓good_forEach, ↓good_refuse, ↓good_plainWrite, h, ite_self])
  all_goals (try grind [good_refuse, good_plainWrite, good_mk, good_fold, good_foldl, good_forEach])

theorem good_writeCalUtc {qq ll} {s : State} (q : Requester) (v : Word) (h : Good qq ll s) : Good qq ll (writeCalUtc q v s) := by
  unfold writeCalUtc
  try simp +contextual (maxDischargeDepth := 40) only [↓good_mk, ↓good_fold, ↓good_ite, ↓good_next, ↓goodO_ite, ↓good_foldl, ↓good_forEach, ↓good_refuse, ↓good_plainWrite, h, ite_self]
  all_goals (repeat' split)
  all_goals (try simp +contextual (maxDischargeDepth := 40) only [↓good_mk, ↓good_fold, ↓good_ite, ↓good_next, ↓goodO_ite, ↓good_foldl, ↓good_forEach, ↓good_refuse, ↓good_plainWrite, h, ite_self])
  all_goals (try grind [good_refuse, good_plainWrite, good_mk, good_fold, good_foldl, good_forEach])

theorem good_execCalSet {qq ll} {s : State} (q : Requester) (v : Word) (h : Good qq ll s) : GoodO qq ll (execCalSet q v s) := by
  unfold execCalSet
  exact good_write _ _ _ _ _ (fun _ h => good_writeCalSet _ _ h) h

theorem good_execCalDiscSecond {qq ll} {s : State} (h : Good qq ll s) : GoodO qq ll (execCalDiscSecond s) := by
  unfold execCalDiscSecond
  try simp +contextual (maxDischargeDepth := 40) only [↓good_mk, ↓good_fold, ↓good_ite, ↓good_next, ↓goodO_ite, ↓good_foldl, ↓good_forEach, ↓good_advance, ↓good_loadCal, h, ite_self]
  all_goals (repeat' split)
  all_goals (try simp +contextual (maxDischargeDepth := 40) only [↓good_mk, ↓good_fold, ↓good_ite, ↓good_next, ↓goodO_ite, ↓good_foldl, ↓good_forEach, ↓good_advance, ↓good_loadCal, h, ite_self])
  all_goals (try grind [good_advance, good_loadCal, good_mk, good_fold, good_foldl, good_forEach])

theorem good_toWindowEnd {qq ll} {s : State} (h : Good qq ll s) : Good qq ll (State.toWindowEnd s) := by
  unfold State.toWindowEnd
  try simp +contextual (maxDischargeDepth := 40) only [↓good_mk, ↓good_fold, ↓good_ite, ↓good_next, ↓goodO_ite, ↓good_foldl, ↓good_forEach, ↓good_advance, h, ite_self]
  all_goals (repeat' split)
  all_goals (try simp +contextual (maxDischargeDepth := 40) only [↓good_mk, ↓good_fold, ↓good_ite, ↓good_next, ↓goodO_ite, ↓good_foldl, ↓good_forEach, ↓good_advance, h, ite_self])
  all_goals (try grind [good_advance, good_mk, good_fold, good_foldl, good_forEach])

theorem good_execCalTrimWindow {qq ll} {s : State} (h : Good qq ll s) : GoodO qq ll (execCalTrimWindow s) := by
  unfold execCalTrimWindow
  try simp +contextual (maxDischargeDepth := 40) only [↓good_mk, ↓good_fold, ↓good_ite, ↓good_next, ↓goodO_ite, ↓good_foldl, ↓good_forEach, ↓good_setFd, ↓good_toWindowEnd, h, ite_self]
  all_goals (repeat' split)
  all_goals (try simp +contextual (maxDischargeDepth := 40) only [↓good_mk, ↓good_fold, ↓good_ite, ↓good_next, ↓goodO_ite, ↓good_foldl, ↓good_forEach, ↓good_setFd, ↓good_toWindowEnd, h, ite_self])
  all_goals (try grind [good_setFd, good_toWindowEnd, good_mk, good_fold, good_foldl, good_forEach])

theorem good_leapApply {qq ll} {s : State} (d : Int) (c : CalState) (h : Good qq ll s) : Good qq ll (State.leapApply s d c) := by
  unfold State.leapApply
  try simp +contextual (maxDischargeDepth := 40) only [↓good_mk, ↓good_fold, ↓good_ite, ↓good_next, ↓goodO_ite, ↓good_foldl, ↓good_forEach, ↓good_setFd, h, ite_self]
  all_goals (repeat' split)
  all_goals (try simp +contextual (maxDischargeDepth := 40) only [↓good_mk, ↓good_fold, ↓good_ite, ↓good_next, ↓goodO_ite, ↓good_foldl, ↓good_forEach, ↓good_setFd, h, ite_self])
  all_goals (try grind [good_setFd, good_mk, good_fold, good_foldl, good_forEach])

theorem good_execLeapSecond {qq ll} {s : State} (h : Good qq ll s) : GoodO qq ll (execLeapSecond s) := by
  unfold execLeapSecond
  try simp +contextual (maxDischargeDepth := 40) only [↓good_mk, ↓good_fold, ↓good_ite, ↓good_next, ↓goodO_ite, ↓good_foldl, ↓good_forEach, ↓good_advance, ↓good_leapApply, h, ite_self]
  all_goals (repeat' split)
  all_goals (try simp +contextual (maxDischargeDepth := 40) only [↓good_mk, ↓good_fold, ↓good_ite, ↓good_next, ↓goodO_ite, ↓good_foldl, ↓good_forEach, ↓good_advance, ↓good_leapApply, h, ite_self])
  all_goals (try grind [good_advance, good_leapApply, good_mk, good_fold, good_foldl, good_forEach])

theorem good_execCalOnBackup {qq ll} {s : State} (h : Good qq ll s) : GoodO qq ll (execCalOnBackup s) := by
  unfold execCalOnBackup
  try simp +contextual (maxDischargeDepth := 40) only [↓good_mk, ↓good_fold, ↓good_ite, ↓good_next, ↓goodO_ite, ↓good_foldl, ↓good_forEach, h, ite_self]
  all_goals (repeat' split)
  all_goals (try simp +contextual (maxDischargeDepth := 40) only [↓good_mk, ↓good_fold, ↓good_ite, ↓good_next, ↓goodO_ite, ↓good_foldl, ↓good_forEach, h, ite_self])
  all_goals (try grind [good_mk, good_fold, good_foldl, good_forEach])

theorem good_execSupercapExhausted {qq ll} {s : State} (h : Good qq ll s) : GoodO qq ll (execSupercapExhausted s) := by
  unfold execSupercapExhausted
  try simp +contextual (maxDischargeDepth := 40) only [↓good_mk, ↓good_fold, ↓good_ite, ↓good_next, ↓goodO_ite, ↓good_foldl, ↓good_forEach, ↓good_raise, h, ite_self]
  all_goals (repeat' split)
  all_goals (try simp +contextual (maxDischargeDepth := 40) only [↓good_mk, ↓good_fold, ↓good_ite, ↓good_next, ↓goodO_ite, ↓good_foldl, ↓good_forEach, ↓good_raise, h, ite_self])
  all_goals (try grind [good_raise, good_mk, good_fold, good_foldl, good_forEach])

theorem good_execCalSupplyLost {qq ll} {s : State} (h : Good qq ll s) : GoodO qq ll (execCalSupplyLost s) := by
  unfold execCalSupplyLost
  try simp +contextual (maxDischargeDepth := 40) only [↓good_mk, ↓good_fold, ↓good_ite, ↓good_next, ↓goodO_ite, ↓good_foldl, ↓good_forEach, ↓good_setFd, ↓good_raise, h, ite_self]
  all_goals (repeat' split)
  all_goals (try simp +contextual (maxDischargeDepth := 40) only [↓good_mk, ↓good_fold, ↓good_ite, ↓good_next, ↓goodO_ite, ↓good_foldl, ↓good_forEach, ↓good_setFd, ↓good_raise, h, ite_self])
  all_goals (try grind [good_setFd, good_raise, good_mk, good_fold, good_foldl, good_forEach])

end Sys2Proof.Machine
end

