-- ==== Sys2Proof/Laws/KeepsKoastis.lean ====
section
/-!
SUPPORT. What the operations of Machine/Koastis.lean keep.
-/

set_option linter.unusedSimpArgs false
set_option linter.unreachableTactic false
set_option linter.unusedTactic false

namespace Sys2Proof.Machine

theorem good_klCount {qq ll} {s : State} (p : Nat) (k : Nat) (h : Good qq ll s) : Good qq ll (State.klCount s p k) := by
  unfold State.klCount
  try simp +contextual (maxDischargeDepth := 40) only [↓good_mk, ↓good_fold, ↓good_ite, ↓good_next, ↓goodO_ite, ↓good_foldl, ↓good_forEach, ↓good_setRg, ↓good_noteRaise, h, ite_self]
  all_goals (repeat' split)
  all_goals (try simp +contextual (maxDischargeDepth := 40) only [↓good_mk, ↓good_fold, ↓good_ite, ↓good_next, ↓goodO_ite, ↓good_foldl, ↓good_forEach, ↓good_setRg, ↓good_noteRaise, h, ite_self])
  all_goals (try grind [good_setRg, good_noteRaise, good_mk, good_fold, good_foldl, good_forEach])

theorem good_klClear {qq ll} {s : State} (p : Nat) (h : Good qq ll s) : Good qq ll (State.klClear s p) := by
  unfold State.klClear
  try simp +contextual (maxDischargeDepth := 40) only [↓good_mk, ↓good_fold, ↓good_ite, ↓good_next, ↓goodO_ite, ↓good_foldl, ↓good_forEach, ↓good_setRg, h, ite_self]
  all_goals (repeat' split)
  all_goals (try simp +contextual (maxDischargeDepth := 40) only [↓good_mk, ↓good_fold, ↓good_ite, ↓good_next, ↓goodO_ite, ↓good_foldl, ↓good_forEach, ↓good_setRg, h, ite_self])
  all_goals (try grind [good_setRg, good_mk, good_fold, good_foldl, good_forEach])

theorem good_setCs {qq ll} {s : State} (st : Nat) (h : Good qq ll s) : Good qq ll (State.setCs s st) := by
  unfold State.setCs
  try simp +contextual (maxDischargeDepth := 40) only [↓good_mk, ↓good_fold, ↓good_ite, ↓good_next, ↓goodO_ite, ↓good_foldl, ↓good_forEach, ↓good_setRg, ↓good_setFd, h, ite_self]
  all_goals (repeat' split)
  all_goals (try simp +contextual (maxDischargeDepth := 40) only [↓good_mk, ↓good_fold, ↓good_ite, ↓good_next, ↓goodO_ite, ↓good_foldl, ↓good_forEach, ↓good_setRg, ↓good_setFd, h, ite_self])
  all_goals (try grind [good_setRg, good_setFd, good_mk, good_fold, good_foldl, good_forEach])

theorem good_countPresent {qq ll} {s : State} (p : Nat) (h : Good qq ll s) : Good qq ll (State.countPresent s p) := by
  unfold State.countPresent
  try simp +contextual (maxDischargeDepth := 40) only [↓good_mk, ↓good_fold, ↓good_ite, ↓good_next, ↓goodO_ite, ↓good_foldl, ↓good_forEach, ↓good_setFd, h, ite_self]
  all_goals (repeat' split)
  all_goals (try simp +contextual (maxDischargeDepth := 40) only [↓good_mk, ↓good_fold, ↓good_ite, ↓good_next, ↓goodO_ite, ↓good_foldl, ↓good_forEach, ↓good_setFd, h, ite_self])
  all_goals (try grind [good_setFd, good_mk, good_fold, good_foldl, good_forEach])

theorem good_runModeCheck {qq ll} {s : State} (q : Requester) (m : Nat) (h : Good qq ll s) : Good qq ll (State.runModeCheck s q m) := by
  unfold State.runModeCheck
  try simp +contextual (maxDischargeDepth := 40) only [↓good_mk, ↓good_fold, ↓good_ite, ↓good_next, ↓goodO_ite, ↓good_foldl, ↓good_forEach, ↓good_setRg, ↓good_setFd, ↓good_refuse, h, ite_self]
  all_goals (repeat' split)
  all_goals (try simp +contextual (maxDischargeDepth := 40) only [↓good_mk, ↓good_fold, ↓good_ite, ↓good_next, ↓goodO_ite, ↓good_foldl, ↓good_forEach, ↓good_setRg, ↓good_setFd, ↓good_refuse, h, ite_self])
  all_goals (try grind [good_setRg, good_setFd, good_refuse, good_mk, good_fold, good_foldl, good_forEach])

theorem good_writeModeStat {qq ll} {s : State} (q : Requester) (m : Nat) (v : Word) (h : Good qq ll s) : Good qq ll (writeModeStat q m v s) := by
  unfold writeModeStat
  try simp +contextual (maxDischargeDepth := 40) only [↓good_mk, ↓good_fold, ↓good_ite, ↓good_next, ↓goodO_ite, ↓good_foldl, ↓good_forEach, ↓good_setFd, ↓good_refuse, ↓good_runModeCheck, h, ite_self]
  all_goals (repeat' split)
  all_goals (try simp +contextual (maxDischargeDepth := 40) only [↓good_mk, ↓good_fold, ↓good_ite, ↓good_next, ↓goodO_ite, ↓good_foldl, ↓good_forEach, ↓good_setFd, ↓good_refuse, ↓good_runModeCheck, h, ite_self])
  all_goals (try grind [good_setFd, good_refuse, good_runModeCheck, good_mk, good_fold, good_foldl, good_forEach])

theorem good_writeSched {qq ll} {s : State} (q : Requester) (m : Nat) (w : Nat) (v : Word) (h : Good qq ll s) : Good qq ll (writeSched q m w v s) := by
  unfold writeSched
  try simp +contextual (maxDischargeDepth := 40) only [↓good_mk, ↓good_fold, ↓good_ite, ↓good_next, ↓goodO_ite, ↓good_foldl, ↓good_forEach, ↓good_setRg, ↓good_setFd, ↓good_refuse, h, ite_self]
  all_goals (repeat' split)
  all_goals (try simp +contextual (maxDischargeDepth := 40) only [↓good_mk, ↓good_fold, ↓good_ite, ↓good_next, ↓goodO_ite, ↓good_foldl, ↓good_forEach, ↓good_setRg, ↓good_setFd, ↓good_refuse, h, ite_self])
  all_goals (try grind [good_setRg, good_setFd, good_refuse, good_mk, good_fold, good_foldl, good_forEach])

theorem good_execScheduleEntryWrite {qq ll} {s : State} (q : Requester) (m : Nat) (w : Nat) (v : Word) (h : Good qq ll s) : GoodO qq ll (execScheduleEntryWrite q m w v s) := by
  unfold execScheduleEntryWrite
  exact good_write _ _ _ _ _ (fun _ h => good_writeSched _ _ _ _ h) h

theorem good_execModeCheck {qq ll} {s : State} (q : Requester) (m : Nat) (v : Word) (h : Good qq ll s) : GoodO qq ll (execModeCheck q m v s) := by
  unfold execModeCheck
  exact good_write _ _ _ _ _ (fun _ h => good_writeModeStat _ _ _ h) h

theorem good_writeModeSw {qq ll} {s : State} (q : Requester) (v : Word) (h : Good qq ll s) : Good qq ll (writeModeSw q v s) := by
  unfold writeModeSw
  try simp +contextual (maxDischargeDepth := 40) only [↓good_mk, ↓good_fold, ↓good_ite, ↓good_next, ↓goodO_ite, ↓good_foldl, ↓good_forEach, ↓good_setFd, ↓good_setRg64, ↓good_refuse, ↓good_plainWrite, h, ite_self]
  all_goals (repeat' split)
  all_goals (try simp +contextual (maxDischargeDepth := 40) only [↓good_mk, ↓good_fold, ↓good_ite, ↓good_next, ↓goodO_ite, ↓good_foldl, ↓good_forEach, ↓good_setFd, ↓good_setRg64, ↓good_refuse, ↓good_plainWrite, h, ite_self])
  all_goals (try grind [good_setFd, good_setRg64, good_refuse, good_plainWrite, good_mk, good_fold, good_foldl, good_forEach])

theorem good_execModeSwitchRequest {qq ll} {s : State} (q : Requester) (v : Word) (h : Good qq ll s) : GoodO qq ll (execModeSwitchRequest q v s) := by
  unfold execModeSwitchRequest
  exact good_write _ _ _ _ _ (fun _ h => good_writeModeSw _ _ h) h

theorem good_switchAbort {qq ll} {s : State} (w : KlSwitch) (node : Nat) (h : Good qq ll s) : Good qq ll (State.switchAbort s w node) := by
  unfold State.switchAbort
  try simp +contextual (maxDischargeDepth := 40) only [↓good_mk, ↓good_fold, ↓good_ite, ↓good_next, ↓goodO_ite, ↓good_foldl, ↓good_forEach, ↓good_setFd, ↓good_incFd, ↓good_journal, h, ite_self]
  all_goals (repeat' split)
  all_goals (try simp +contextual (maxDischargeDepth := 40) only [↓good_mk, ↓good_fold, ↓good_ite, ↓good_next, ↓goodO_ite, ↓good_foldl, ↓good_forEach, ↓good_setFd, ↓good_incFd, ↓good_journal, h, ite_self])
  all_goals (try grind [good_setFd, good_incFd, good_journal, good_mk, good_fold, good_foldl, good_forEach])

theorem good_switchDecide {qq ll} {s : State} (h : Good qq ll s) : Good qq ll (State.switchDecide s) := by
  unfold State.switchDecide
  try simp +contextual (maxDischargeDepth := 40) only [↓good_mk, ↓good_fold, ↓good_ite, ↓good_next, ↓goodO_ite, ↓good_foldl, ↓good_forEach, ↓good_switchAbort, h, ite_self]
  all_goals (repeat' split)
  all_goals (try simp +contextual (maxDischargeDepth := 40) only [↓good_mk, ↓good_fold, ↓good_ite, ↓good_next, ↓goodO_ite, ↓good_foldl, ↓good_forEach, ↓good_switchAbort, h, ite_self])
  all_goals (try grind [good_switchAbort, good_mk, good_fold, good_foldl, good_forEach])

theorem good_execModeSwitchDecide {qq ll} {s : State} (h : Good qq ll s) : GoodO qq ll (execModeSwitchDecide s) := by
  unfold execModeSwitchDecide
  try simp +contextual (maxDischargeDepth := 40) only [↓good_mk, ↓good_fold, ↓good_ite, ↓good_next, ↓goodO_ite, ↓good_foldl, ↓good_forEach, ↓good_switchDecide, h, ite_self]
  all_goals (repeat' split)
  all_goals (try simp +contextual (maxDischargeDepth := 40) only [↓good_mk, ↓good_fold, ↓good_ite, ↓good_next, ↓goodO_ite, ↓good_foldl, ↓good_forEach, ↓good_switchDecide, h, ite_self])
  all_goals (try grind [good_switchDecide, good_mk, good_fold, good_foldl, good_forEach])

theorem good_switchCommit {qq ll} {s : State} (h : Good qq ll s) : Good qq ll (State.switchCommit s) := by
  unfold State.switchCommit
  try simp +contextual (maxDischargeDepth := 40) only [↓good_mk, ↓good_fold, ↓good_ite, ↓good_next, ↓goodO_ite, ↓good_foldl, ↓good_forEach, ↓good_setFd, h, ite_self]
  all_goals (repeat' split)
  all_goals (try simp +contextual (maxDischargeDepth := 40) only [↓good_mk, ↓good_fold, ↓good_ite, ↓good_next, ↓goodO_ite, ↓good_foldl, ↓good_forEach, ↓good_setFd, h, ite_self])
  all_goals (try grind [good_setFd, good_mk, good_fold, good_foldl, good_forEach])

theorem good_noteAck {qq ll} {s : State} (node : Nat) (h : Good qq ll s) : Good qq ll (State.noteAck s node) := by
  unfold State.noteAck
  try simp +contextual (maxDischargeDepth := 40) only [↓good_mk, ↓good_fold, ↓good_ite, ↓good_next, ↓goodO_ite, ↓good_foldl, ↓good_forEach, h, ite_self]
  all_goals (repeat' split)
  all_goals (try simp +contextual (maxDischargeDepth := 40) only [↓good_mk, ↓good_fold, ↓good_ite, ↓good_next, ↓goodO_ite, ↓good_foldl, ↓good_forEach, h, ite_self])
  all_goals (try grind [good_mk, good_fold, good_foldl, good_forEach])

theorem good_nodeLost {qq ll} {s : State} (node : Nat) (h : Good qq ll s) : Good qq ll (State.nodeLost s node) := by
  unfold State.nodeLost
  try simp +contextual (maxDischargeDepth := 40) only [↓good_mk, ↓good_fold, ↓good_ite, ↓good_next, ↓goodO_ite, ↓good_foldl, ↓good_forEach, h, ite_self]
  all_goals (repeat' split)
  all_goals (try simp +contextual (maxDischargeDepth := 40) only [↓good_mk, ↓good_fold, ↓good_ite, ↓good_next, ↓goodO_ite, ↓good_foldl, ↓good_forEach, h, ite_self])
  all_goals (try grind [good_mk, good_fold, good_foldl, good_forEach])

theorem good_portLost {qq ll} {s : State} (p : Nat) (h : Good qq ll s) : Good qq ll (State.portLost s p) := by
  unfold State.portLost
  try simp +contextual (maxDischargeDepth := 40) only [↓good_mk, ↓good_fold, ↓good_ite, ↓good_next, ↓goodO_ite, ↓good_foldl, ↓good_forEach, h, ite_self]
  all_goals (repeat' split)
  all_goals (try simp +contextual (maxDischargeDepth := 40) only [↓good_mk, ↓good_fold, ↓good_ite, ↓good_next, ↓goodO_ite, ↓good_foldl, ↓good_forEach, h, ite_self])
  all_goals (try grind [good_mk, good_fold, good_foldl, good_forEach])

theorem good_klSendAt {qq ll} {s : State} (p : Nat) (ct : Nat) (bs : List Byte) (h : Good qq ll s) : Good qq ll (State.klSendAt s p ct bs) := by
  unfold State.klSendAt
  try simp +contextual (maxDischargeDepth := 40) only [↓good_mk, ↓good_fold, ↓good_ite, ↓good_next, ↓goodO_ite, ↓good_foldl, ↓good_forEach, h, ite_self]
  all_goals (repeat' split)
  all_goals (try simp +contextual (maxDischargeDepth := 40) only [↓good_mk, ↓good_fold, ↓good_ite, ↓good_next, ↓goodO_ite, ↓good_foldl, ↓good_forEach, h, ite_self])
  all_goals (try grind [good_mk, good_fold, good_foldl, good_forEach])

theorem good_klSend {qq ll} {s : State} (p : Nat) (bs : List Byte) (h : Good qq ll s) : Good qq ll (State.klSend s p bs) := by
  unfold State.klSend
  try simp +contextual (maxDischargeDepth := 40) only [↓good_mk, ↓good_fold, ↓good_ite, ↓good_next, ↓goodO_ite, ↓good_foldl, ↓good_forEach, ↓good_klSendAt, h, ite_self]
  all_goals (repeat' split)
  all_goals (try simp +contextual (maxDischargeDepth := 40) only [↓good_mk, ↓good_fold, ↓good_ite, ↓good_next, ↓goodO_ite, ↓good_foldl, ↓good_forEach, ↓good_klSendAt, h, ite_self])
  all_goals (try grind [good_klSendAt, good_mk, good_fold, good_foldl, good_forEach])

theorem good_sendDelayAt {qq ll} {s : State} (p : Nat) (ct : Nat) (sub : Nat) (body : List Byte) (h : Good qq ll s) : Good qq ll (State.sendDelayAt s p ct sub body) := by
  unfold State.sendDelayAt
  try simp +contextual (maxDischargeDepth := 40) only [↓good_mk, ↓good_fold, ↓good_ite, ↓good_next, ↓goodO_ite, ↓good_foldl, ↓good_forEach, ↓good_klSendAt, h, ite_self]
  all_goals (repeat' split)
  all_goals (try simp +contextual (maxDischargeDepth := 40) only [↓good_mk, ↓good_fold, ↓good_ite, ↓good_next, ↓goodO_ite, ↓good_foldl, ↓good_forEach, ↓good_klSendAt, h, ite_self])
  all_goals (try grind [good_klSendAt, good_mk, good_fold, good_foldl, good_forEach])

theorem good_sendDelay {qq ll} {s : State} (p : Nat) (sub : Nat) (body : List Byte) (h : Good qq ll s) : Good qq ll (State.sendDelay s p sub body) := by
  unfold State.sendDelay
  try simp +contextual (maxDischargeDepth := 40) only [↓good_mk, ↓good_fold, ↓good_ite, ↓good_next, ↓goodO_ite, ↓good_foldl, ↓good_forEach, ↓good_sendDelayAt, h, ite_self]
  all_goals (repeat' split)
  all_goals (try simp +contextual (maxDischargeDepth := 40) only [↓good_mk, ↓good_fold, ↓good_ite, ↓good_next, ↓goodO_ite, ↓good_foldl, ↓good_forEach, ↓good_sendDelayAt, h, ite_self])
  all_goals (try grind [good_sendDelayAt, good_mk, good_fold, good_foldl, good_forEach])

theorem good_ringPreq {qq ll} {s : State} (n : Nat) (ct : Nat) (h : Good qq ll s) : Good qq ll (State.ringPreq s n ct) := by
  unfold State.ringPreq
  try simp +contextual (maxDischargeDepth := 40) only [↓good_mk, ↓good_fold, ↓good_ite, ↓good_next, ↓goodO_ite, ↓good_foldl, ↓good_forEach, ↓good_sendDelayAt, h, ite_self]
  all_goals (repeat' split)
  all_goals (try simp +contextual (maxDischargeDepth := 40) only [↓good_mk, ↓good_fold, ↓good_ite, ↓good_next, ↓goodO_ite, ↓good_foldl, ↓good_forEach, ↓good_sendDelayAt, h, ite_self])
  all_goals (try grind [good_sendDelayAt, good_mk, good_fold, good_foldl, good_forEach])

theorem good_netFresh {qq ll} {s : State} (p : Nat) (h : Good qq ll s) : Good qq ll (State.netFresh s p) := by
  unfold State.netFresh
  try simp +contextual (maxDischargeDepth := 40) only [↓good_mk, ↓good_fold, ↓good_ite, ↓good_next, ↓goodO_ite, ↓good_foldl, ↓good_forEach, ↓good_setNode, ↓good_countPresent, h, ite_self]
  all_goals (repeat' split)
  all_goals (try simp +contextual (maxDischargeDepth := 40) only [↓good_mk, ↓good_fold, ↓good_ite, ↓good_next, ↓goodO_ite, ↓good_foldl, ↓good_forEach, ↓good_setNode, ↓good_countPresent, h, ite_self])
  all_goals (try grind [good_setNode, good_countPresent, good_mk, good_fold, good_foldl, good_forEach])

theorem good_portStart {qq ll} {s : State} (p : Nat) (h : Good qq ll s) : Good qq ll (State.portStart s p) := by
  unfold State.portStart
  try simp +contextual (maxDischargeDepth := 40) only [↓good_mk, ↓good_fold, ↓good_ite, ↓good_next, ↓goodO_ite, ↓good_foldl, ↓good_forEach, ↓good_setFd, ↓good_setCs, ↓good_sendDelay, ↓good_ringPreq, ↓good_netFresh, h, ite_self]
  all_goals (repeat' split)
  all_goals (try simp +contextual (maxDischargeDepth := 40) only [↓good_mk, ↓good_fold, ↓good_ite, ↓good_next, ↓goodO_ite, ↓good_foldl, ↓good_forEach, ↓good_setFd, ↓good_setCs, ↓good_sendDelay, ↓good_ringPreq, ↓good_netFresh, h, ite_self])
  all_goals (try grind [good_setFd, good_setCs, good_sendDelay, good_ringPreq, good_netFresh, good_mk, good_fold, good_foldl, good_forEach])

theorem good_setActive {qq ll} {s : State} (b : Bool) (h : Good qq ll s) : Good qq ll (State.setActive s b) := by
  unfold State.setActive
  try simp +contextual (maxDischargeDepth := 40) only [↓good_mk, ↓good_fold, ↓good_ite, ↓good_next, ↓goodO_ite, ↓good_foldl, ↓good_forEach, h, ite_self]
  all_goals (repeat' split)
  all_goals (try simp +contextual (maxDischargeDepth := 40) only [↓good_mk, ↓good_fold, ↓good_ite, ↓good_next, ↓goodO_ite, ↓good_foldl, ↓good_forEach, h, ite_self])
  all_goals (try grind [good_mk, good_fold, good_foldl, good_forEach])

theorem good_portEnable {qq ll} {s : State} (q : Requester) (p : Nat) (h : Good qq ll s) : Good qq ll (State.portEnable s q p) := by
  unfold State.portEnable
  try simp +contextual (maxDischargeDepth := 40) only [↓good_mk, ↓good_fold, ↓good_ite, ↓good_next, ↓goodO_ite, ↓good_foldl, ↓good_forEach, ↓good_setFd, ↓good_refuse, ↓good_portStart, ↓good_setActive, h, ite_self]
  all_goals (repeat' split)
  all_goals (try simp +contextual (maxDischargeDepth := 40) only [↓good_mk, ↓good_fold, ↓good_ite, ↓good_next, ↓goodO_ite, ↓good_foldl, ↓good_forEach, ↓good_setFd, ↓good_refuse, ↓good_portStart, ↓good_setActive, h, ite_self])
  all_goals (try grind [good_setFd, good_refuse, good_portStart, good_setActive, good_mk, good_fold, good_foldl, good_forEach])

theorem good_portDisable {qq ll} {s : State} (p : Nat) (h : Good qq ll s) : Good qq ll (State.portDisable s p) := by
  unfold State.portDisable
  try simp +contextual (maxDischargeDepth := 40) only [↓good_mk, ↓good_fold, ↓good_ite, ↓good_next, ↓goodO_ite, ↓good_foldl, ↓good_forEach, ↓good_setFd, ↓good_setCs, ↓good_portLost, ↓good_setActive, h, ite_self]
  all_goals (repeat' split)
  all_goals (try simp +contextual (maxDischargeDepth := 40) only [↓good_mk, ↓good_fold, ↓good_ite, ↓good_next, ↓goodO_ite, ↓good_foldl, ↓good_forEach, ↓good_setFd, ↓good_setCs, ↓good_portLost, ↓good_setActive, h, ite_self])
  all_goals (try grind [good_setFd, good_setCs, good_portLost, good_setActive, good_mk, good_fold, good_foldl, good_forEach])

theorem good_writePortCtl {qq ll} {s : State} (q : Requester) (p : Nat) (v : Word) (h : Good qq ll s) : Good qq ll (writePortCtl q p v s) := by
  unfold writePortCtl
  try simp +contextual (maxDischargeDepth := 40) only [↓good_mk, ↓good_fold, ↓good_ite, ↓good_next, ↓goodO_ite, ↓good_foldl, ↓good_forEach, ↓good_refuse, ↓good_plainWrite, ↓good_klClear, ↓good_portEnable, ↓good_portDisable, h, ite_self]
  all_goals (repeat' split)
  all_goals (try simp +contextual (maxDischargeDepth := 40) only [↓good_mk, ↓good_fold, ↓good_ite, ↓good_next, ↓goodO_ite, ↓good_foldl, ↓good_forEach, ↓good_refuse, ↓good_plainWrite, ↓good_klClear, ↓good_portEnable, ↓good_portDisable, h, ite_self])
  all_goals (try grind [good_refuse, good_plainWrite, good_klClear, good_portEnable, good_portDisable, good_mk, good_fold, good_foldl, good_forEach])

theorem good_execKlPortEnable {qq ll} {s : State} (q : Requester) (p : Nat) (v : Word) (h : Good qq ll s) : GoodO qq ll (execKlPortEnable q p v s) := by
  unfold execKlPortEnable
  exact good_write _ _ _ _ _ (fun _ h => good_writePortCtl _ _ _ h) h

theorem good_execKlPortDisable {qq ll} {s : State} (q : Requester) (p : Nat) (v : Word) (h : Good qq ll s) : GoodO qq ll (execKlPortDisable q p v s) := by
  unfold execKlPortDisable
  exact good_write _ _ _ _ _ (fun _ h => good_writePortCtl _ _ _ h) h

theorem good_execKlCntClear {qq ll} {s : State} (q : Requester) (p : Nat) (v : Word) (h : Good qq ll s) : GoodO qq ll (execKlCntClear q p v s) := by
  unfold execKlCntClear
  exact good_write _ _ _ _ _ (fun _ h => good_writePortCtl _ _ _ h) h

theorem good_writeKlGlobal {qq ll} {s : State} (q : Requester) (v : Word) (h : Good qq ll s) : Good qq ll (writeKlGlobal q v s) := by
  unfold writeKlGlobal
  try simp +contextual (maxDischargeDepth := 40) only [↓good_mk, ↓good_fold, ↓good_ite, ↓good_next, ↓goodO_ite, ↓good_foldl, ↓good_forEach, ↓good_refuse, ↓good_plainWrite, h, ite_self]
  all_goals (repeat' split)
  all_goals (try simp +contextual (maxDischargeDepth := 40) only [↓good_mk, ↓good_fold, ↓good_ite, ↓good_next, ↓goodO_ite, ↓good_foldl, ↓good_forEach, ↓good_refuse, ↓good_plainWrite, h, ite_self])
  all_goals (try grind [good_refuse, good_plainWrite, good_mk, good_fold, good_foldl, good_forEach])

theorem good_writeGaddr {qq ll} {s : State} (q : Requester) (v : Word) (h : Good qq ll s) : Good qq ll (writeGaddr q v s) := by
  unfold writeGaddr
  try simp +contextual (maxDischargeDepth := 40) only [↓good_mk, ↓good_fold, ↓good_ite, ↓good_next, ↓goodO_ite, ↓good_foldl, ↓good_forEach, ↓good_setRg64, ↓good_takeLo, h, ite_self]
  all_goals (repeat' split)
  all_goals (try simp +contextual (maxDischargeDepth := 40) only [↓good_mk, ↓good_fold, ↓good_ite, ↓good_next, ↓goodO_ite, ↓good_foldl, ↓good_forEach, ↓good_setRg64, ↓good_takeLo, h, ite_self])
  all_goals (try grind [good_setRg64, good_takeLo, good_mk, good_fold, good_foldl, good_forEach])

theorem good_writePortLat {qq ll} {s : State} (q : Requester) (p : Nat) (v : Word) (h : Good qq ll s) : Good qq ll (writePortLat q p v s) := by
  unfold writePortLat
  try simp +contextual (maxDischargeDepth := 40) only [↓good_mk, ↓good_fold, ↓good_ite, ↓good_next, ↓goodO_ite, ↓good_foldl, ↓good_forEach, ↓good_refuse, ↓good_plainWrite, h, ite_self]
  all_goals (repeat' split)
  all_goals (try simp +contextual (maxDischargeDepth := 40) only [↓good_mk, ↓good_fold, ↓good_ite, ↓good_next, ↓goodO_ite, ↓good_foldl, ↓good_forEach, ↓good_refuse, ↓good_plainWrite, h, ite_self])
  all_goals (try grind [good_refuse, good_plainWrite, good_mk, good_fold, good_foldl, good_forEach])

theorem good_writeEvBase {qq ll} {s : State} (q : Requester) (r : Reg) (p : Nat) (v : Word) (h : Good qq ll s) : Good qq ll (writeEvBase q r p v s) := by
  unfold writeEvBase
  try simp +contextual (maxDischargeDepth := 40) only [↓good_mk, ↓good_fold, ↓good_ite, ↓good_next, ↓goodO_ite, ↓good_foldl, ↓good_forEach, ↓good_setRg, ↓good_refuse, h, ite_self]
  all_goals (repeat' split)
  all_goals (try simp +contextual (maxDischargeDepth := 40) only [↓good_mk, ↓good_fold, ↓good_ite, ↓good_next, ↓goodO_ite, ↓good_foldl, ↓good_forEach, ↓good_setRg, ↓good_refuse, h, ite_self])
  all_goals (try grind [good_setRg, good_refuse, good_mk, good_fold, good_foldl, good_forEach])

theorem good_writeEvIdx {qq ll} {s : State} (q : Requester) (p : Nat) (v : Word) (h : Good qq ll s) : Good qq ll (writeEvIdx q p v s) := by
  unfold writeEvIdx
  try simp +contextual (maxDischargeDepth := 40) only [↓good_mk, ↓good_fold, ↓good_ite, ↓good_next, ↓goodO_ite, ↓good_foldl, ↓good_forEach, ↓good_refuse, ↓good_plainWrite, h, ite_self]
  all_goals (repeat' split)
  all_goals (try simp +contextual (maxDischargeDepth := 40) only [↓good_mk, ↓good_fold, ↓good_ite, ↓good_next, ↓goodO_ite, ↓good_foldl, ↓good_forEach, ↓good_refuse, ↓good_plainWrite, h, ite_self])
  all_goals (try grind [good_refuse, good_plainWrite, good_mk, good_fold, good_foldl, good_forEach])

theorem good_execEvidxWrite {qq ll} {s : State} (q : Requester) (p : Nat) (v : Word) (h : Good qq ll s) : GoodO qq ll (execEvidxWrite q p v s) := by
  unfold execEvidxWrite
  exact good_write _ _ _ _ _ (fun _ h => good_writeEvIdx _ _ _ h) h

theorem good_sendRow {qq ll} {s : State} (p ct byte : Nat) (l : List (List Byte)) (h : Good qq ll s) :
    Good qq ll (State.sendRow s p ct byte l) := by
  induction l generalizing s ct with
  | nil => exact h
  | cons b r ih => exact ih _ (good_klSendAt _ _ _ h)

theorem good_sendCycle {qq ll} {s : State} (p : Nat) (h : Good qq ll s) : Good qq ll (State.sendCycle s p) := by
  unfold State.sendCycle
  dsimp only
  exact good_captureAll _ _ (good_sendRow _ _ _ _ (good_forEach _ _ _ (fun e t h => good_setNode _ _ h)
    (good_setFd _ _ _ _ h)))

theorem good_turnOn {qq ll} {s : State} (g : List KlGrant) (p : Nat) (h : Good qq ll s) : Good qq ll (State.turnOn s g p) := by
  unfold State.turnOn
  try simp +contextual (maxDischargeDepth := 40) only [↓good_mk, ↓good_fold, ↓good_ite, ↓good_next, ↓goodO_ite, ↓good_foldl, ↓good_forEach, h, ite_self]
  all_goals (repeat' split)
  all_goals (try simp +contextual (maxDischargeDepth := 40) only [↓good_mk, ↓good_fold, ↓good_ite, ↓good_next, ↓goodO_ite, ↓good_foldl, ↓good_forEach, h, ite_self])
  all_goals (try grind [good_mk, good_fold, good_foldl, good_forEach])

theorem good_takeLine {qq ll} {s : State} (p : Nat) (start : Nat) (len : Nat) (h : Good qq ll s) : Good qq ll (State.takeLine s p start len) := by
  unfold State.takeLine
  try simp +contextual (maxDischargeDepth := 40) only [↓good_mk, ↓good_fold, ↓good_ite, ↓good_next, ↓goodO_ite, ↓good_foldl, ↓good_forEach, h, ite_self]
  all_goals (repeat' split)
  all_goals (try simp +contextual (maxDischargeDepth := 40) only [↓good_mk, ↓good_fold, ↓good_ite, ↓good_next, ↓goodO_ite, ↓good_foldl, ↓good_forEach, h, ite_self])
  all_goals (try grind [good_mk, good_fold, good_foldl, good_forEach])

theorem good_sendResult {qq ll} {s : State} (p : Nat) (body : List Byte) (h : Good qq ll s) : Good qq ll (State.sendResult s p body) := by
  unfold State.sendResult
  try simp +contextual (maxDischargeDepth := 40) only [↓good_mk, ↓good_fold, ↓good_ite, ↓good_next, ↓goodO_ite, ↓good_foldl, ↓good_forEach, ↓good_sendDelayAt, ↓good_takeLine, h, ite_self]
  all_goals (repeat' split)
  all_goals (try simp +contextual (maxDischargeDepth := 40) only [↓good_mk, ↓good_fold, ↓good_ite, ↓good_next, ↓goodO_ite, ↓good_foldl, ↓good_forEach, ↓good_sendDelayAt, ↓good_takeLine, h, ite_self])
  all_goals (try grind [good_sendDelayAt, good_takeLine, good_mk, good_fold, good_foldl, good_forEach])

theorem good_sendHeld {qq ll} {s : State} (h : Good qq ll s) : Good qq ll (State.sendHeld s) := by
  unfold State.sendHeld
  try simp +contextual (maxDischargeDepth := 40) only [↓good_mk, ↓good_fold, ↓good_ite, ↓good_next, ↓goodO_ite, ↓good_foldl, ↓good_forEach, ↓good_sendResult, h, ite_self]
  all_goals (repeat' split)
  all_goals (try simp +contextual (maxDischargeDepth := 40) only [↓good_mk, ↓good_fold, ↓good_ite, ↓good_next, ↓goodO_ite, ↓good_foldl, ↓good_forEach, ↓good_sendResult, h, ite_self])
  all_goals (try grind [good_sendResult, good_mk, good_fold, good_foldl, good_forEach])

theorem good_enterKlHoldover {qq ll} {s : State} (h : Good qq ll s) : Good qq ll (State.enterKlHoldover s) := by
  unfold State.enterKlHoldover
  try simp +contextual (maxDischargeDepth := 40) only [↓good_mk, ↓good_fold, ↓good_ite, ↓good_next, ↓goodO_ite, ↓good_foldl, ↓good_forEach, ↓good_setFd, ↓good_incFd, ↓good_setCs, h, ite_self]
  all_goals (repeat' split)
  all_goals (try simp +contextual (maxDischargeDepth := 40) only [↓good_mk, ↓good_fold, ↓good_ite, ↓good_next, ↓goodO_ite, ↓good_foldl, ↓good_forEach, ↓good_setFd, ↓good_incFd, ↓good_setCs, h, ite_self])
  all_goals (try grind [good_setFd, good_incFd, good_setCs, good_mk, good_fold, good_foldl, good_forEach])

theorem good_syncWatch {qq ll} {s : State} (h : Good qq ll s) : Good qq ll (State.syncWatch s) := by
  unfold State.syncWatch
  try simp +contextual (maxDischargeDepth := 40) only [↓good_mk, ↓good_fold, ↓good_ite, ↓good_next, ↓goodO_ite, ↓good_foldl, ↓good_forEach, ↓good_enterKlHoldover, h, ite_self]
  all_goals (repeat' split)
  all_goals (try simp +contextual (maxDischargeDepth := 40) only [↓good_mk, ↓good_fold, ↓good_ite, ↓good_next, ↓goodO_ite, ↓good_foldl, ↓good_forEach, ↓good_enterKlHoldover, h, ite_self])
  all_goals (try grind [good_enterKlHoldover, good_mk, good_fold, good_foldl, good_forEach])

theorem good_ringExchange {qq ll} {s : State} (h : Good qq ll s) : Good qq ll (State.ringExchange s) := by
  unfold State.ringExchange
  try simp +contextual (maxDischargeDepth := 40) only [↓good_mk, ↓good_fold, ↓good_ite, ↓good_next, ↓goodO_ite, ↓good_foldl, ↓good_forEach, ↓good_ringPreq, h, ite_self]
  all_goals (repeat' split)
  all_goals (try simp +contextual (maxDischargeDepth := 40) only [↓good_mk, ↓good_fold, ↓good_ite, ↓good_next, ↓goodO_ite, ↓good_foldl, ↓good_forEach, ↓good_ringPreq, h, ite_self])
  all_goals (try grind [good_ringPreq, good_mk, good_fold, good_foldl, good_forEach])

theorem good_klCycle {qq ll} {s : State} (h : Good qq ll s) : Good qq ll (State.klCycle s) := by
  unfold State.klCycle
  dsimp only
  refine good_forEach _ _ _ (fun k t h => good_setFd _ _ _ _ h) ?_
  refine good_sendHeld (good_ringExchange (good_forEach _ _ _ (fun p t h => good_sendCycle _ h) (good_mk.mpr (good_fold _ |>.mpr ?_))))
  refine good_forEach _ _ _ (fun p t h => good_turnOn _ _ h) (good_forEach _ _ _ (fun p t h => ?_) ?_)
  · split
    · exact h
    · exact good_setFd _ _ _ _ h
  · refine good_mk.mpr (good_fold _ |>.mpr (good_syncWatch ?_))
    have h := good_switchDecide h
    split
    · exact h
    · exact good_mk.mpr (good_fold _ |>.mpr (good_forEach _ _ _ (fun k t h => good_sramSplice _ _ h) h))

theorem good_closeBank {qq ll} {s : State} (h : Good qq ll s) : Good qq ll (State.closeBank s) := by
  unfold State.closeBank
  try simp +contextual (maxDischargeDepth := 40) only [↓good_mk, ↓good_fold, ↓good_ite, ↓good_next, ↓goodO_ite, ↓good_foldl, ↓good_forEach, ↓good_sramSplice, h, ite_self]
  all_goals (repeat' split)
  all_goals (try simp +contextual (maxDischargeDepth := 40) only [↓good_mk, ↓good_fold, ↓good_ite, ↓good_next, ↓goodO_ite, ↓good_foldl, ↓good_forEach, ↓good_sramSplice, h, ite_self])
  all_goals (try grind [good_sramSplice, good_mk, good_fold, good_foldl, good_forEach])

theorem good_writeNodeRecords {qq ll} {s : State} (h : Good qq ll s) : Good qq ll (State.writeNodeRecords s) := by
  unfold State.writeNodeRecords
  try simp +contextual (maxDischargeDepth := 40) only [↓good_mk, ↓good_fold, ↓good_ite, ↓good_next, ↓goodO_ite, ↓good_foldl, ↓good_forEach, ↓good_sramSplice, h, ite_self]
  all_goals (repeat' split)
  all_goals (try simp +contextual (maxDischargeDepth := 40) only [↓good_mk, ↓good_fold, ↓good_ite, ↓good_next, ↓goodO_ite, ↓good_foldl, ↓good_forEach, ↓good_sramSplice, h, ite_self])
  all_goals (try grind [good_sramSplice, good_mk, good_fold, good_foldl, good_forEach])

theorem good_applyResults {qq ll} {s : State} (h : Good qq ll s) : Good qq ll (State.applyResults s) := by
  unfold State.applyResults
  try simp +contextual (maxDischargeDepth := 40) only [↓good_mk, ↓good_fold, ↓good_ite, ↓good_next, ↓goodO_ite, ↓good_foldl, ↓good_forEach, h, ite_self]
  all_goals (repeat' split)
  all_goals (try simp +contextual (maxDischargeDepth := 40) only [↓good_mk, ↓good_fold, ↓good_ite, ↓good_next, ↓goodO_ite, ↓good_foldl, ↓good_forEach, h, ite_self])
  all_goals (try grind [good_mk, good_fold, good_foldl, good_forEach])

theorem good_noteMiss {qq ll} {s : State} (p : Nat) (node : Nat) (h : Good qq ll s) : Good qq ll (State.noteMiss s p node) := by
  unfold State.noteMiss
  try simp +contextual (maxDischargeDepth := 40) only [↓good_mk, ↓good_fold, ↓good_ite, ↓good_next, ↓goodO_ite, ↓good_foldl, ↓good_forEach, ↓good_journal, ↓good_setNode, ↓good_klCount, ↓good_countPresent, ↓good_nodeLost, h, ite_self]
  all_goals (repeat' split)
  all_goals (try simp +contextual (maxDischargeDepth := 40) only [↓good_mk, ↓good_fold, ↓good_ite, ↓good_next, ↓goodO_ite, ↓good_foldl, ↓good_forEach, ↓good_journal, ↓good_setNode, ↓good_klCount, ↓good_countPresent, ↓good_nodeLost, h, ite_self])
  all_goals (try grind [good_journal, good_setNode, good_klCount, good_countPresent, good_nodeLost, good_mk, good_fold, good_foldl, good_forEach])

theorem good_noteHit {qq ll} {s : State} (p : Nat) (node : Nat) (h : Good qq ll s) : Good qq ll (State.noteHit s p node) := by
  unfold State.noteHit
  try simp +contextual (maxDischargeDepth := 40) only [↓good_mk, ↓good_fold, ↓good_ite, ↓good_next, ↓goodO_ite, ↓good_foldl, ↓good_forEach, ↓good_setNode, ↓good_countPresent, h, ite_self]
  all_goals (repeat' split)
  all_goals (try simp +contextual (maxDischargeDepth := 40) only [↓good_mk, ↓good_fold, ↓good_ite, ↓good_next, ↓goodO_ite, ↓good_foldl, ↓good_forEach, ↓good_setNode, ↓good_countPresent, h, ite_self])
  all_goals (try grind [good_setNode, good_countPresent, good_mk, good_fold, good_foldl, good_forEach])

theorem good_execUlMiss {qq ll} {s : State} (p : Nat) (slot : Nat) (h : Good qq ll s) : GoodO qq ll (execUlMiss p slot s) := by
  unfold execUlMiss
  try simp +contextual (maxDischargeDepth := 40) only [↓good_mk, ↓good_fold, ↓good_ite, ↓good_next, ↓goodO_ite, ↓good_foldl, ↓good_forEach, ↓good_advanceTo, ↓good_noteMiss, h, ite_self]
  all_goals (repeat' split)
  all_goals (try simp +contextual (maxDischargeDepth := 40) only [↓good_mk, ↓good_fold, ↓good_ite, ↓good_next, ↓goodO_ite, ↓good_foldl, ↓good_forEach, ↓good_advanceTo, ↓good_noteMiss, h, ite_self])
  all_goals (try grind [good_advanceTo, good_noteMiss, good_mk, good_fold, good_foldl, good_forEach])

theorem good_setCold {qq ll} {s : State} (c : KlCold) (h : Good qq ll s) : Good qq ll (State.setCold s c) := by
  unfold State.setCold
  try simp +contextual (maxDischargeDepth := 40) only [↓good_mk, ↓good_fold, ↓good_ite, ↓good_next, ↓goodO_ite, ↓good_foldl, ↓good_forEach, h, ite_self]
  all_goals (repeat' split)
  all_goals (try simp +contextual (maxDischargeDepth := 40) only [↓good_mk, ↓good_fold, ↓good_ite, ↓good_next, ↓goodO_ite, ↓good_foldl, ↓good_forEach, h, ite_self])
  all_goals (try grind [good_mk, good_fold, good_foldl, good_forEach])

theorem good_coldFail {qq ll} {s : State} (h : Good qq ll s) : Good qq ll (State.coldFail s) := by
  unfold State.coldFail
  try simp +contextual (maxDischargeDepth := 40) only [↓good_mk, ↓good_fold, ↓good_ite, ↓good_next, ↓goodO_ite, ↓good_foldl, ↓good_forEach, ↓good_incFd, h, ite_self]
  all_goals (repeat' split)
  all_goals (try simp +contextual (maxDischargeDepth := 40) only [↓good_mk, ↓good_fold, ↓good_ite, ↓good_next, ↓goodO_ite, ↓good_foldl, ↓good_forEach, ↓good_incFd, h, ite_self])
  all_goals (try grind [good_incFd, good_mk, good_fold, good_foldl, good_forEach])

theorem good_coldHear {qq ll} {s : State} (bad : Bool) (node : Nat) (ct : Nat) (h : Good qq ll s) : Good qq ll (State.coldHear s bad node ct) := by
  unfold State.coldHear
  try simp +contextual (maxDischargeDepth := 40) only [↓good_mk, ↓good_fold, ↓good_ite, ↓good_next, ↓goodO_ite, ↓good_foldl, ↓good_forEach, ↓good_setCs, ↓good_setCold, ↓good_coldFail, h, ite_self]
  all_goals (repeat' split)
  all_goals (try simp +contextual (maxDischargeDepth := 40) only [↓good_mk, ↓good_fold, ↓good_ite, ↓good_next, ↓goodO_ite, ↓good_foldl, ↓good_forEach, ↓good_setCs, ↓good_setCold, ↓good_coldFail, h, ite_self])
  all_goals (try grind [good_setCs, good_setCold, good_coldFail, good_mk, good_fold, good_foldl, good_forEach])

theorem good_klDiscard {qq ll} {s : State} (p : Nat) (k : Nat) (h : Good qq ll s) : Good qq ll (State.klDiscard s p k) := by
  unfold State.klDiscard
  try simp +contextual (maxDischargeDepth := 40) only [↓good_mk, ↓good_fold, ↓good_ite, ↓good_next, ↓goodO_ite, ↓good_foldl, ↓good_forEach, ↓good_klCount, ↓good_coldHear, h, ite_self]
  all_goals (repeat' split)
  all_goals (try simp +contextual (maxDischargeDepth := 40) only [↓good_mk, ↓good_fold, ↓good_ite, ↓good_next, ↓goodO_ite, ↓good_foldl, ↓good_forEach, ↓good_klCount, ↓good_coldHear, h, ite_self])
  all_goals (try grind [good_klCount, good_coldHear, good_mk, good_fold, good_foldl, good_forEach])

theorem good_ringReceive {qq ll} {s : State} (p : Nat) (bs : List Byte) (h : Good qq ll s) : Good qq ll (State.ringReceive s p bs) := by
  unfold State.ringReceive
  try simp +contextual (maxDischargeDepth := 40) only [↓good_mk, ↓good_fold, ↓good_ite, ↓good_next, ↓goodO_ite, ↓good_foldl, ↓good_forEach, ↓good_setFd, ↓good_sramWrite, ↓good_hwToken, ↓good_klCount, h, ite_self]
  all_goals (repeat' split)
  all_goals (try simp +contextual (maxDischargeDepth := 40) only [↓good_mk, ↓good_fold, ↓good_ite, ↓good_next, ↓goodO_ite, ↓good_foldl, ↓good_forEach, ↓good_setFd, ↓good_sramWrite, ↓good_hwToken, ↓good_klCount, h, ite_self])
  all_goals (try grind [good_setFd, good_sramWrite, good_hwToken, good_klCount, good_mk, good_fold, good_foldl, good_forEach])

theorem good_toStamp {qq ll} {s : State} (stamp : Nat) (h : Good qq ll s) : Good qq ll (State.toStamp s stamp) := by
  unfold State.toStamp
  try simp +contextual (maxDischargeDepth := 40) only [↓good_mk, ↓good_fold, ↓good_ite, ↓good_next, ↓goodO_ite, ↓good_foldl, ↓good_forEach, ↓good_advanceTo, h, ite_self]
  all_goals (repeat' split)
  all_goals (try simp +contextual (maxDischargeDepth := 40) only [↓good_mk, ↓good_fold, ↓good_ite, ↓good_next, ↓goodO_ite, ↓good_foldl, ↓good_forEach, ↓good_advanceTo, h, ite_self])
  all_goals (try grind [good_advanceTo, good_mk, good_fold, good_foldl, good_forEach])

theorem good_execEventReceive {qq ll} {s : State} (p : Nat) (stamp : Nat) (fcsOk : Bool) (bs : List Byte) (h : Good qq ll s) : GoodO qq ll (execEventReceive p stamp fcsOk bs s) := by
  unfold execEventReceive
  try simp +contextual (maxDischargeDepth := 40) only [↓good_mk, ↓good_fold, ↓good_ite, ↓good_next, ↓goodO_ite, ↓good_foldl, ↓good_forEach, ↓good_noteAck, ↓good_klDiscard, ↓good_ringReceive, ↓good_toStamp, h, ite_self]
  all_goals (repeat' split)
  all_goals (try simp +contextual (maxDischargeDepth := 40) only [↓good_mk, ↓good_fold, ↓good_ite, ↓good_next, ↓goodO_ite, ↓good_foldl, ↓good_forEach, ↓good_noteAck, ↓good_klDiscard, ↓good_ringReceive, ↓good_toStamp, h, ite_self])
  all_goals (try grind [good_noteAck, good_klDiscard, good_ringReceive, good_toStamp, good_mk, good_fold, good_foldl, good_forEach])

theorem good_execEventSend {qq ll} {s : State} (p : Nat) (dt : Nat) (h : Good qq ll s) : GoodO qq ll (execEventSend p dt s) := by
  unfold execEventSend
  try simp +contextual (maxDischargeDepth := 40) only [↓good_mk, ↓good_fold, ↓good_ite, ↓good_next, ↓goodO_ite, ↓good_foldl, ↓good_forEach, ↓good_setFd, ↓good_setSram, ↓good_advance, ↓good_advanceTo, ↓good_klCount, ↓good_klSendAt, ↓good_takeLine, h, ite_self]
  all_goals (repeat' split)
  all_goals (try simp +contextual (maxDischargeDepth := 40) only [↓good_mk, ↓good_fold, ↓good_ite, ↓good_next, ↓goodO_ite, ↓good_foldl, ↓good_forEach, ↓good_setFd, ↓good_setSram, ↓good_advance, ↓good_advanceTo, ↓good_klCount, ↓good_klSendAt, ↓good_takeLine, h, ite_self])
  all_goals (try grind [good_setFd, good_setSram, good_advance, good_advanceTo, good_klCount, good_klSendAt, good_takeLine, good_mk, good_fold, good_foldl, good_forEach])

end Sys2Proof.Machine
end

