-- ==== Sys2Proof/Laws/KeepsKlTime.lean ====
section
/-!
SUPPORT. What the operations of Machine/KlTime.lean keep.
-/

set_option linter.unusedSimpArgs false
set_option linter.unreachableTactic false
set_option linter.unusedTactic false

namespace Sys2Proof.Machine

theorem good_sendNewResults {qq ll} {s : State} (n : Nat) (h : Good qq ll s) : Good qq ll (State.sendNewResults s n) := by
  unfold State.sendNewResults
  try simp +contextual (maxDischargeDepth := 40) only [↓good_mk, ↓good_fold, ↓good_ite, ↓good_next, ↓goodO_ite, ↓good_foldl, ↓good_forEach, ↓good_setNode, ↓good_sendResult, h, ite_self]
  all_goals (repeat' split)
  all_goals (try simp +contextual (maxDischargeDepth := 40) only [↓good_mk, ↓good_fold, ↓good_ite, ↓good_next, ↓goodO_ite, ↓good_foldl, ↓good_forEach, ↓good_setNode, ↓good_sendResult, h, ite_self])
  all_goals (try grind [good_setNode, good_sendResult, good_mk, good_fold, good_foldl, good_forEach])

theorem good_takePresp {qq ll} {s : State} (p : Nat) (turn : Nat) (h : Good qq ll s) : Good qq ll (State.takePresp s p turn) := by
  unfold State.takePresp
  try simp +contextual (maxDischargeDepth := 40) only [↓good_mk, ↓good_fold, ↓good_ite, ↓good_next, ↓goodO_ite, ↓good_foldl, ↓good_forEach, ↓good_sendNewResults, h, ite_self]
  all_goals (repeat' split)
  all_goals (try simp +contextual (maxDischargeDepth := 40) only [↓good_mk, ↓good_fold, ↓good_ite, ↓good_next, ↓goodO_ite, ↓good_foldl, ↓good_forEach, ↓good_sendNewResults, h, ite_self])
  all_goals (try grind [good_sendNewResults, good_mk, good_fold, good_foldl, good_forEach])

theorem good_delayFrame {qq ll} {s : State} (p : Nat) (subs : List Nat) (fcsOk : Bool) (bs : List Byte) (k : State → State)
    (hk : ∀ t, Good qq ll t → Good qq ll (k t)) (h : Good qq ll s) : Good qq ll (s.delayFrame p subs fcsOk bs k) := by
  unfold State.delayFrame
  split
  · exact good_klDiscard _ _ h
  · split
    · exact good_klCount _ _ h
    · exact hk s h

theorem good_execPreqReceive {qq ll} {s : State} (p : Nat) (dt : Nat) (fcsOk : Bool) (bs : List Byte) (h : Good qq ll s) : GoodO qq ll (execPreqReceive p dt fcsOk bs s) := by
  unfold execPreqReceive
  split
  · exact h
  · exact good_delayFrame _ _ _ _ _ (fun s h => by simp +contextual (maxDischargeDepth := 40) only [↓good_mk, ↓good_fold, ↓good_ite, ↓good_next, ↓goodO_ite, ↓good_foldl, ↓good_forEach, ↓good_free, ↓good_advance, ↓good_sendDelayAt, ↓good_takePresp, h, ite_self]) (good_advance _ h)

theorem good_takeReport {qq ll} {s : State} (n : Nat) (r : KlReport) (h : Good qq ll s) : Good qq ll (State.takeReport s n r) := by
  unfold State.takeReport
  try simp +contextual (maxDischargeDepth := 40) only [↓good_mk, ↓good_fold, ↓good_ite, ↓good_next, ↓goodO_ite, ↓good_foldl, ↓good_forEach, ↓good_sendNewResults, h, ite_self]
  all_goals (repeat' split)
  all_goals (try simp +contextual (maxDischargeDepth := 40) only [↓good_mk, ↓good_fold, ↓good_ite, ↓good_next, ↓goodO_ite, ↓good_foldl, ↓good_forEach, ↓good_sendNewResults, h, ite_self])
  all_goals (try grind [good_sendNewResults, good_mk, good_fold, good_foldl, good_forEach])

theorem good_execReportReceive {qq ll} {s : State} (p : Nat) (dt : Nat) (fcsOk : Bool) (bs : List Byte) (h : Good qq ll s) : GoodO qq ll (execReportReceive p dt fcsOk bs s) := by
  unfold execReportReceive
  split
  · exact h
  · exact good_delayFrame _ _ _ _ _ (fun s h => by simp +contextual (maxDischargeDepth := 40) only [↓good_mk, ↓good_fold, ↓good_ite, ↓good_next, ↓goodO_ite, ↓good_foldl, ↓good_forEach, ↓good_advance, ↓good_takeReport, h, ite_self]) (good_advance _ h)

theorem good_measureDone {qq ll} {s : State} (p : Nat) (h : Good qq ll s) : Good qq ll (State.measureDone s p) := by
  unfold State.measureDone
  repeat' first
    | with_reducible assumption
    | (intro s; refine (show Good qq ll s → _ from fun h => ?_) ?_ <;> [clear_value s; subst s])
    | (intro (x : MemState); subst x)
    | (intro x; clear_value x)
    | lift_lets
    | with_reducible refine good_next.mpr ?_
    | with_reducible refine good_forEach _ _ _ (fun a s h => ?_) ?_
    | split
  all_goals (have hw := good_memWf h)
  all_goals (first
    | (simp +contextual (maxDischargeDepth := 40) only [↓good_mk, ↓good_fold, ↓good_ite, ↓good_next, ↓goodO_ite, ↓good_foldl, ↓good_forEach, ↓good_refuseSelf, ↓good_setNode, ↓good_setCs, ↓good_sendDelay, ↓good_portDisable, h, hw, ite_self, ↓good_memC, memWf_mk, Memory.wf_writeN, Memory.wf_setNum, Memory.wf_splice, Memory.wf_clear, Memory.wf_copy, Memory.wf_nil, and_self]; done)
    | simp +contextual (maxDischargeDepth := 40) only [↓good_mk, ↓good_fold, ↓good_ite, ↓good_next, ↓goodO_ite, ↓good_foldl, ↓good_forEach, ↓good_refuseSelf, ↓good_setNode, ↓good_setCs, ↓good_sendDelay, ↓good_portDisable, ite_self, *, ↓good_memC, memWf_mk, Memory.wf_writeN, Memory.wf_setNum, Memory.wf_splice, Memory.wf_clear, Memory.wf_copy, Memory.wf_nil, and_self])

theorem good_execMeasureEnd {qq ll} {s : State} (p : Nat) (h : Good qq ll s) : GoodO qq ll (execMeasureEnd p s) := by
  unfold execMeasureEnd
  try simp +contextual (maxDischargeDepth := 40) only [↓good_mk, ↓good_fold, ↓good_ite, ↓good_next, ↓goodO_ite, ↓good_foldl, ↓good_forEach, ↓good_advanceToTick, ↓good_measureDone, h, ite_self]
  all_goals (repeat' split)
  all_goals (try simp +contextual (maxDischargeDepth := 40) only [↓good_mk, ↓good_fold, ↓good_ite, ↓good_next, ↓goodO_ite, ↓good_foldl, ↓good_forEach, ↓good_advanceToTick, ↓good_measureDone, h, ite_self])
  all_goals (try grind [good_advanceToTick, good_measureDone, good_mk, good_fold, good_foldl, good_forEach])

theorem good_setRef {qq ll} {s : State} (r : Option Nat) (rank : Nat) (h : Good qq ll s) : Good qq ll (State.setRef s r rank) := by
  unfold State.setRef
  try simp +contextual (maxDischargeDepth := 40) only [↓good_mk, ↓good_fold, ↓good_ite, ↓good_next, ↓goodO_ite, ↓good_foldl, ↓good_forEach, ↓good_setFd, h, ite_self]
  all_goals (repeat' split)
  all_goals (try simp +contextual (maxDischargeDepth := 40) only [↓good_mk, ↓good_fold, ↓good_ite, ↓good_next, ↓goodO_ite, ↓good_foldl, ↓good_forEach, ↓good_setFd, h, ite_self])
  all_goals (try grind [good_setFd, good_mk, good_fold, good_foldl, good_forEach])

theorem good_attempt {qq ll} {s : State} (h : Good qq ll s) : Good qq ll (State.attempt s) := by
  unfold State.attempt
  try simp +contextual (maxDischargeDepth := 40) only [↓good_mk, ↓good_fold, ↓good_ite, ↓good_next, ↓goodO_ite, ↓good_foldl, ↓good_forEach, ↓good_setCs, ↓good_klSend, ↓good_setCold, h, ite_self]
  all_goals (repeat' split)
  all_goals (try simp +contextual (maxDischargeDepth := 40) only [↓good_mk, ↓good_fold, ↓good_ite, ↓good_next, ↓goodO_ite, ↓good_foldl, ↓good_forEach, ↓good_setCs, ↓good_klSend, ↓good_setCold, h, ite_self])
  all_goals (try grind [good_setCs, good_klSend, good_setCold, good_mk, good_fold, good_foldl, good_forEach])

theorem good_execListenElapsed {qq ll} {s : State} (h : Good qq ll s) : GoodO qq ll (execListenElapsed s) := by
  unfold execListenElapsed
  try simp +contextual (maxDischargeDepth := 40) only [↓good_mk, ↓good_fold, ↓good_ite, ↓good_next, ↓goodO_ite, ↓good_foldl, ↓good_forEach, ↓good_advanceToTick, ↓good_setCs, ↓good_setCold, h, ite_self]
  all_goals (repeat' split)
  all_goals (try simp +contextual (maxDischargeDepth := 40) only [↓good_mk, ↓good_fold, ↓good_ite, ↓good_next, ↓goodO_ite, ↓good_foldl, ↓good_forEach, ↓good_advanceToTick, ↓good_setCs, ↓good_setCold, h, ite_self])
  all_goals (try grind [good_advanceToTick, good_setCs, good_setCold, good_mk, good_fold, good_foldl, good_forEach])

theorem good_execRankDelayElapsed {qq ll} {s : State} (h : Good qq ll s) : GoodO qq ll (execRankDelayElapsed s) := by
  unfold execRankDelayElapsed
  try simp +contextual (maxDischargeDepth := 40) only [↓good_mk, ↓good_fold, ↓good_ite, ↓good_next, ↓goodO_ite, ↓good_foldl, ↓good_forEach, ↓good_advanceToTick, ↓good_attempt, h, ite_self]
  all_goals (repeat' split)
  all_goals (try simp +contextual (maxDischargeDepth := 40) only [↓good_mk, ↓good_fold, ↓good_ite, ↓good_next, ↓goodO_ite, ↓good_foldl, ↓good_forEach, ↓good_advanceToTick, ↓good_attempt, h, ite_self])
  all_goals (try grind [good_advanceToTick, good_attempt, good_mk, good_fold, good_foldl, good_forEach])

theorem good_execBackoffElapsed {qq ll} {s : State} (h : Good qq ll s) : GoodO qq ll (execBackoffElapsed s) := by
  unfold execBackoffElapsed
  try simp +contextual (maxDischargeDepth := 40) only [↓good_mk, ↓good_fold, ↓good_ite, ↓good_next, ↓goodO_ite, ↓good_foldl, ↓good_forEach, ↓good_advanceToTick, ↓good_attempt, h, ite_self]
  all_goals (repeat' split)
  all_goals (try simp +contextual (maxDischargeDepth := 40) only [↓good_mk, ↓good_fold, ↓good_ite, ↓good_next, ↓goodO_ite, ↓good_foldl, ↓good_forEach, ↓good_advanceToTick, ↓good_attempt, h, ite_self])
  all_goals (try grind [good_advanceToTick, good_attempt, good_mk, good_fold, good_foldl, good_forEach])

theorem good_execColdStartFrameReceive {qq ll} {s : State} (p : Nat) (dt : Nat) (fcsOk : Bool) (bs : List Byte) (h : Good qq ll s) : GoodO qq ll (execColdStartFrameReceive p dt fcsOk bs s) := by
  unfold execColdStartFrameReceive
  try simp +contextual (maxDischargeDepth := 40) only [↓good_mk, ↓good_fold, ↓good_ite, ↓good_next, ↓goodO_ite, ↓good_foldl, ↓good_forEach, ↓good_advance, ↓good_coldHear, ↓good_klDiscard, h, ite_self]
  all_goals (repeat' split)
  all_goals (try simp +contextual (maxDischargeDepth := 40) only [↓good_mk, ↓good_fold, ↓good_ite, ↓good_next, ↓goodO_ite, ↓good_foldl, ↓good_forEach, ↓good_advance, ↓good_coldHear, ↓good_klDiscard, h, ite_self])
  all_goals (try grind [good_advance, good_coldHear, good_klDiscard, good_mk, good_fold, good_foldl, good_forEach])

theorem good_nominalInc {qq ll} {s : State} (h : Good qq ll s) : Good qq ll (State.nominalInc s) := by
  unfold State.nominalInc
  try simp +contextual (maxDischargeDepth := 40) only [↓good_mk, ↓good_fold, ↓good_ite, ↓good_next, ↓goodO_ite, ↓good_foldl, ↓good_forEach, h, ite_self]
  all_goals (repeat' split)
  all_goals (try simp +contextual (maxDischargeDepth := 40) only [↓good_mk, ↓good_fold, ↓good_ite, ↓good_next, ↓goodO_ite, ↓good_foldl, ↓good_forEach, h, ite_self])
  all_goals (try grind [good_mk, good_fold, good_foldl, good_forEach])

theorem good_execAttemptWindowEnd {qq ll} {s : State} (h : Good qq ll s) : GoodO qq ll (execAttemptWindowEnd s) := by
  unfold execAttemptWindowEnd
  try simp +contextual (maxDischargeDepth := 40) only [↓good_mk, ↓good_fold, ↓good_ite, ↓good_next, ↓goodO_ite, ↓good_foldl, ↓good_forEach, ↓good_setFd, ↓good_advanceToTick, ↓good_setCs, ↓good_setRef, ↓good_nominalInc, h, ite_self]
  all_goals (repeat' split)
  all_goals (try simp +contextual (maxDischargeDepth := 40) only [↓good_mk, ↓good_fold, ↓good_ite, ↓good_next, ↓goodO_ite, ↓good_foldl, ↓good_forEach, ↓good_setFd, ↓good_advanceToTick, ↓good_setCs, ↓good_setRef, ↓good_nominalInc, h, ite_self])
  all_goals (try grind [good_setFd, good_advanceToTick, good_setCs, good_setRef, good_nominalInc, good_mk, good_fold, good_foldl, good_forEach])

theorem good_loadTime {qq ll} {s : State} (ct : Nat) (h : Good qq ll s) : Good qq ll (State.loadTime s ct) := by
  unfold State.loadTime
  try simp +contextual (maxDischargeDepth := 40) only [↓good_mk, ↓good_fold, ↓good_ite, ↓good_next, ↓goodO_ite, ↓good_foldl, ↓good_forEach, h, ite_self]
  all_goals (repeat' split)
  all_goals (try simp +contextual (maxDischargeDepth := 40) only [↓good_mk, ↓good_fold, ↓good_ite, ↓good_next, ↓goodO_ite, ↓good_foldl, ↓good_forEach, h, ite_self])
  all_goals (try grind [good_mk, good_fold, good_foldl, good_forEach])

theorem good_execDeferWindowEnd {qq ll} {s : State} (h : Good qq ll s) : GoodO qq ll (execDeferWindowEnd s) := by
  unfold execDeferWindowEnd
  try simp +contextual (maxDischargeDepth := 40) only [↓good_mk, ↓good_fold, ↓good_ite, ↓good_next, ↓goodO_ite, ↓good_foldl, ↓good_forEach, ↓good_setFd, ↓good_advanceToTick, ↓good_setCs, ↓good_setCold, ↓good_setRef, ↓good_loadTime, h, ite_self]
  all_goals (repeat' split)
  all_goals (try simp +contextual (maxDischargeDepth := 40) only [↓good_mk, ↓good_fold, ↓good_ite, ↓good_next, ↓goodO_ite, ↓good_foldl, ↓good_forEach, ↓good_setFd, ↓good_advanceToTick, ↓good_setCs, ↓good_setCold, ↓good_setRef, ↓good_loadTime, h, ite_self])
  all_goals (try grind [good_setFd, good_advanceToTick, good_setCs, good_setCold, good_setRef, good_loadTime, good_mk, good_fold, good_foldl, good_forEach])

theorem good_align {qq ll} {s : State} (e : Int) (h : Good qq ll s) : Good qq ll (State.align s e) := by
  unfold State.align
  try simp +contextual (maxDischargeDepth := 40) only [↓good_mk, ↓good_fold, ↓good_ite, ↓good_next, ↓goodO_ite, ↓good_foldl, ↓good_forEach, ↓good_setRg, ↓good_raise, h, ite_self]
  all_goals (repeat' split)
  all_goals (try simp +contextual (maxDischargeDepth := 40) only [↓good_mk, ↓good_fold, ↓good_ite, ↓good_next, ↓goodO_ite, ↓good_foldl, ↓good_forEach, ↓good_setRg, ↓good_raise, h, ite_self])
  all_goals (try grind [good_setRg, good_raise, good_mk, good_fold, good_foldl, good_forEach])

theorem good_takeTimeReport {qq ll} {s : State} (node : Nat) (offset : Int) (h : Good qq ll s) : Good qq ll (State.takeTimeReport s node offset) := by
  unfold State.takeTimeReport
  try simp +contextual (maxDischargeDepth := 40) only [↓good_mk, ↓good_fold, ↓good_ite, ↓good_next, ↓goodO_ite, ↓good_foldl, ↓good_forEach, ↓good_setFd, ↓good_setCs, ↓good_align, h, ite_self]
  all_goals (repeat' split)
  all_goals (try simp +contextual (maxDischargeDepth := 40) only [↓good_mk, ↓good_fold, ↓good_ite, ↓good_next, ↓goodO_ite, ↓good_foldl, ↓good_forEach, ↓good_setFd, ↓good_setCs, ↓good_align, h, ite_self])
  all_goals (try grind [good_setFd, good_setCs, good_align, good_mk, good_fold, good_foldl, good_forEach])

theorem good_execTimeReportReceive {qq ll} {s : State} (p : Nat) (dt : Nat) (fcsOk : Bool) (bs : List Byte) (h : Good qq ll s) : GoodO qq ll (execTimeReportReceive p dt fcsOk bs s) := by
  unfold execTimeReportReceive
  split
  · exact h
  · exact good_delayFrame _ _ _ _ _ (fun s h => by simp +contextual (maxDischargeDepth := 40) only [↓good_mk, ↓good_fold, ↓good_ite, ↓good_next, ↓goodO_ite, ↓good_foldl, ↓good_forEach, ↓good_advance, ↓good_klCount, ↓good_takeTimeReport, h, ite_self]) (good_advance _ h)

theorem good_execHoldover {qq ll} {s : State} (h : Good qq ll s) : GoodO qq ll (execHoldover s) := by
  unfold execHoldover
  try simp +contextual (maxDischargeDepth := 40) only [↓good_mk, ↓good_fold, ↓good_ite, ↓good_next, ↓goodO_ite, ↓good_foldl, ↓good_forEach, ↓good_journal, ↓good_enterKlHoldover, h, ite_self]
  all_goals (repeat' split)
  all_goals (try simp +contextual (maxDischargeDepth := 40) only [↓good_mk, ↓good_fold, ↓good_ite, ↓good_next, ↓goodO_ite, ↓good_foldl, ↓good_forEach, ↓good_journal, ↓good_enterKlHoldover, h, ite_self])
  all_goals (try grind [good_journal, good_enterKlHoldover, good_mk, good_fold, good_foldl, good_forEach])

theorem good_refTakeover {qq ll} {s : State} (h : Good qq ll s) : Good qq ll (State.refTakeover s) := by
  unfold State.refTakeover
  try simp +contextual (maxDischargeDepth := 40) only [↓good_mk, ↓good_fold, ↓good_ite, ↓good_next, ↓goodO_ite, ↓good_foldl, ↓good_forEach, ↓good_setFd, ↓good_incFd, ↓good_setCs, ↓good_setRef, ↓good_nominalInc, h, ite_self]
  all_goals (repeat' split)
  all_goals (try simp +contextual (maxDischargeDepth := 40) only [↓good_mk, ↓good_fold, ↓good_ite, ↓good_next, ↓goodO_ite, ↓good_foldl, ↓good_forEach, ↓good_setFd, ↓good_incFd, ↓good_setCs, ↓good_setRef, ↓good_nominalInc, h, ite_self])
  all_goals (try grind [good_setFd, good_incFd, good_setCs, good_setRef, good_nominalInc, good_mk, good_fold, good_foldl, good_forEach])

theorem good_syncSample {qq ll} {s : State} (e : Int) (h : Good qq ll s) : Good qq ll (State.syncSample s e) := by
  unfold State.syncSample
  try simp +contextual (maxDischargeDepth := 40) only [↓good_mk, ↓good_fold, ↓good_ite, ↓good_next, ↓goodO_ite, ↓good_foldl, ↓good_forEach, ↓good_align, h, ite_self]
  all_goals (repeat' split)
  all_goals (try simp +contextual (maxDischargeDepth := 40) only [↓good_mk, ↓good_fold, ↓good_ite, ↓good_next, ↓goodO_ite, ↓good_foldl, ↓good_forEach, ↓good_align, h, ite_self])
  all_goals (try grind [good_align, good_mk, good_fold, good_foldl, good_forEach])

theorem good_syncStep {qq ll} {s : State} (at_ : Nat) (ref : Nat) (rank : Nat) (bcn : Nat) (h : Good qq ll s) : Good qq ll (State.syncStep s at_ ref rank bcn) := by
  unfold State.syncStep
  try simp +contextual (maxDischargeDepth := 40) only [↓good_mk, ↓good_fold, ↓good_ite, ↓good_next, ↓goodO_ite, ↓good_foldl, ↓good_forEach, ↓good_setFd, ↓good_setCs, ↓good_setCold, ↓good_setRef, ↓good_loadTime, ↓good_syncSample, h, ite_self]
  all_goals (repeat' split)
  all_goals (try simp +contextual (maxDischargeDepth := 40) only [↓good_mk, ↓good_fold, ↓good_ite, ↓good_next, ↓goodO_ite, ↓good_foldl, ↓good_forEach, ↓good_setFd, ↓good_setCs, ↓good_setCold, ↓good_setRef, ↓good_loadTime, ↓good_syncSample, h, ite_self])
  all_goals (try grind [good_setFd, good_setCs, good_setCold, good_setRef, good_loadTime, good_syncSample, good_mk, good_fold, good_foldl, good_forEach])

theorem good_takeSync {qq ll} {s : State} (p : Nat) (at_ : Nat) (ref : Nat) (rank : Nat) (bcn : Nat) (h : Good qq ll s) : Good qq ll (State.takeSync s p at_ ref rank bcn) := by
  unfold State.takeSync
  try simp +contextual (maxDischargeDepth := 40) only [↓good_mk, ↓good_fold, ↓good_ite, ↓good_next, ↓goodO_ite, ↓good_foldl, ↓good_forEach, ↓good_syncStep, h, ite_self]
  all_goals (repeat' split)
  all_goals (try simp +contextual (maxDischargeDepth := 40) only [↓good_mk, ↓good_fold, ↓good_ite, ↓good_next, ↓goodO_ite, ↓good_foldl, ↓good_forEach, ↓good_syncStep, h, ite_self])
  all_goals (try grind [good_syncStep, good_mk, good_fold, good_foldl, good_forEach])

theorem good_execSyncFrameReceive {qq ll} {s : State} (p : Nat) (link : Nat) (dt : Nat) (fcsOk : Bool) (bs : List Byte) (h : Good qq ll s) : GoodO qq ll (execSyncFrameReceive p link dt fcsOk bs s) := by
  unfold execSyncFrameReceive
  try simp +contextual (maxDischargeDepth := 40) only [↓good_mk, ↓good_fold, ↓good_ite, ↓good_next, ↓goodO_ite, ↓good_foldl, ↓good_forEach, ↓good_advance, ↓good_captureAll, ↓good_klDiscard, ↓good_takeSync, h, ite_self]
  all_goals (repeat' split)
  all_goals (try simp +contextual (maxDischargeDepth := 40) only [↓good_mk, ↓good_fold, ↓good_ite, ↓good_next, ↓goodO_ite, ↓good_foldl, ↓good_forEach, ↓good_advance, ↓good_captureAll, ↓good_klDiscard, ↓good_takeSync, h, ite_self])
  all_goals (try grind [good_advance, good_captureAll, good_klDiscard, good_takeSync, good_mk, good_fold, good_foldl, good_forEach])

theorem good_chainExchange {qq ll} {s : State} (p : Nat) (turn : Nat) (h : Good qq ll s) : Good qq ll (State.chainExchange s p turn) := by
  unfold State.chainExchange
  try simp +contextual (maxDischargeDepth := 40) only [↓good_mk, ↓good_fold, ↓good_ite, ↓good_next, ↓goodO_ite, ↓good_foldl, ↓good_forEach, h, ite_self]
  all_goals (repeat' split)
  all_goals (try simp +contextual (maxDischargeDepth := 40) only [↓good_mk, ↓good_fold, ↓good_ite, ↓good_next, ↓goodO_ite, ↓good_foldl, ↓good_forEach, h, ite_self])
  all_goals (try grind [good_mk, good_fold, good_foldl, good_forEach])

theorem good_chainAnswer {qq ll} {s : State} (p : Nat) (h : Good qq ll s) : Good qq ll (State.chainAnswer s p) := by
  unfold State.chainAnswer
  try simp +contextual (maxDischargeDepth := 40) only [↓good_mk, ↓good_fold, ↓good_ite, ↓good_next, ↓goodO_ite, ↓good_foldl, ↓good_forEach, ↓good_free, h, ite_self]
  all_goals (repeat' split)
  all_goals (try simp +contextual (maxDischargeDepth := 40) only [↓good_mk, ↓good_fold, ↓good_ite, ↓good_next, ↓goodO_ite, ↓good_foldl, ↓good_forEach, ↓good_free, h, ite_self])
  all_goals (try grind [good_free, good_mk, good_fold, good_foldl, good_forEach])

theorem good_chainWord {qq ll} {s : State} (p : Nat) (at_ : Nat) (h : Good qq ll s) : Good qq ll (State.chainWord s p at_) := by
  unfold State.chainWord
  try simp +contextual (maxDischargeDepth := 40) only [↓good_mk, ↓good_fold, ↓good_ite, ↓good_next, ↓goodO_ite, ↓good_foldl, ↓good_forEach, ↓good_setFd, ↓good_incFd, ↓good_setCs, ↓good_loadTime, ↓good_align, h, ite_self]
  all_goals (repeat' split)
  all_goals (try simp +contextual (maxDischargeDepth := 40) only [↓good_mk, ↓good_fold, ↓good_ite, ↓good_next, ↓goodO_ite, ↓good_foldl, ↓good_forEach, ↓good_setFd, ↓good_incFd, ↓good_setCs, ↓good_loadTime, ↓good_align, h, ite_self])
  all_goals (try grind [good_setFd, good_incFd, good_setCs, good_loadTime, good_align, good_mk, good_fold, good_foldl, good_forEach])

theorem good_execChainTimeWordReceive {qq ll} {s : State} (p : Nat) (ct : Nat) (dt : Nat) (ask : Bool) (turn : Option Nat) (h : Good qq ll s) : GoodO qq ll (execChainTimeWordReceive p ct dt ask turn s) := by
  unfold execChainTimeWordReceive
  try simp +contextual (maxDischargeDepth := 40) only [↓good_mk, ↓good_fold, ↓good_ite, ↓good_next, ↓goodO_ite, ↓good_foldl, ↓good_forEach, ↓good_setFd, ↓good_advance, ↓good_chainExchange, ↓good_chainAnswer, ↓good_chainWord, h, ite_self]
  all_goals (repeat' split)
  all_goals (try simp +contextual (maxDischargeDepth := 40) only [↓good_mk, ↓good_fold, ↓good_ite, ↓good_next, ↓goodO_ite, ↓good_foldl, ↓good_forEach, ↓good_setFd, ↓good_advance, ↓good_chainExchange, ↓good_chainAnswer, ↓good_chainWord, h, ite_self])
  all_goals (try grind [good_setFd, good_advance, good_chainExchange, good_chainAnswer, good_chainWord, good_mk, good_fold, good_foldl, good_forEach])

theorem good_execChainSourceSwitch {qq ll} {s : State} (h : Good qq ll s) : GoodO qq ll (execChainSourceSwitch s) := by
  unfold execChainSourceSwitch
  try simp +contextual (maxDischargeDepth := 40) only [↓good_mk, ↓good_fold, ↓good_ite, ↓good_next, ↓goodO_ite, ↓good_foldl, ↓good_forEach, ↓good_setFd, ↓good_incFd, ↓good_enterKlHoldover, h, ite_self]
  all_goals (repeat' split)
  all_goals (try simp +contextual (maxDischargeDepth := 40) only [↓good_mk, ↓good_fold, ↓good_ite, ↓good_next, ↓goodO_ite, ↓good_foldl, ↓good_forEach, ↓good_setFd, ↓good_incFd, ↓good_enterKlHoldover, h, ite_self])
  all_goals (try grind [good_setFd, good_incFd, good_enterKlHoldover, good_mk, good_fold, good_foldl, good_forEach])

theorem good_writeTimeCtl {qq ll} {s : State} (q : Requester) (v : Word) (h : Good qq ll s) : Good qq ll (writeTimeCtl q v s) := by
  unfold writeTimeCtl
  try simp +contextual (maxDischargeDepth := 40) only [↓good_mk, ↓good_fold, ↓good_ite, ↓good_next, ↓goodO_ite, ↓good_foldl, ↓good_forEach, ↓good_refuse, ↓good_plainWrite, h, ite_self]
  all_goals (repeat' split)
  all_goals (try simp +contextual (maxDischargeDepth := 40) only [↓good_mk, ↓good_fold, ↓good_ite, ↓good_next, ↓goodO_ite, ↓good_foldl, ↓good_forEach, ↓good_refuse, ↓good_plainWrite, h, ite_self])
  all_goals (try grind [good_refuse, good_plainWrite, good_mk, good_fold, good_foldl, good_forEach])

theorem good_execKlTimeCtlWrite {qq ll} {s : State} (q : Requester) (v : Word) (h : Good qq ll s) : GoodO qq ll (execKlTimeCtlWrite q v s) := by
  unfold execKlTimeCtlWrite
  exact good_write _ _ _ _ _ (fun _ h => good_writeTimeCtl _ _ h) h

end Sys2Proof.Machine
end

