-- ==== Sys2Proof/Laws/KeepsAxis.lean ====
section
/-!
SUPPORT. What the operations of Machine/Axis.lean keep.
-/

set_option linter.unusedSimpArgs false
set_option linter.unreachableTactic false
set_option linter.unusedTactic false

namespace Sys2Proof.Machine

theorem good_setCmpUnit {qq ll} {s : State} (k : Nat) (u : CmpUnit) (h : Good qq ll s) : Good qq ll (State.setCmpUnit s k u) := by
  unfold State.setCmpUnit
  try simp +contextual (maxDischargeDepth := 40) only [↓good_mk, ↓good_fold, ↓good_ite, ↓good_next, ↓goodO_ite, ↓good_foldl, ↓good_forEach, h, ite_self]
  all_goals (repeat' split)
  all_goals (try simp +contextual (maxDischargeDepth := 40) only [↓good_mk, ↓good_fold, ↓good_ite, ↓good_next, ↓goodO_ite, ↓good_foldl, ↓good_forEach, h, ite_self])
  all_goals (try grind [good_mk, good_fold, good_foldl, good_forEach])

theorem good_axToken {qq ll} {s : State} (n : Nat) (ev : Nat) (code : Nat) (h : Good qq ll s) : Good qq ll (State.axToken s n ev code) := by
  unfold State.axToken
  try simp +contextual (maxDischargeDepth := 40) only [↓good_mk, ↓good_fold, ↓good_ite, ↓good_next, ↓goodO_ite, ↓good_foldl, ↓good_forEach, ↓good_hwToken, h, ite_self]
  all_goals (repeat' split)
  all_goals (try simp +contextual (maxDischargeDepth := 40) only [↓good_mk, ↓good_fold, ↓good_ite, ↓good_next, ↓goodO_ite, ↓good_foldl, ↓good_forEach, ↓good_hwToken, h, ite_self])
  all_goals (try grind [good_hwToken, good_mk, good_fold, good_foldl, good_forEach])

theorem good_cmpDisarm {qq ll} {s : State} (h : Good qq ll s) : Good qq ll (State.cmpDisarm s) := by
  unfold State.cmpDisarm
  try simp +contextual (maxDischargeDepth := 40) only [↓good_mk, ↓good_fold, ↓good_ite, ↓good_next, ↓goodO_ite, ↓good_foldl, ↓good_forEach, ↓good_setFd, h, ite_self]
  all_goals (repeat' split)
  all_goals (try simp +contextual (maxDischargeDepth := 40) only [↓good_mk, ↓good_fold, ↓good_ite, ↓good_next, ↓goodO_ite, ↓good_foldl, ↓good_forEach, ↓good_setFd, h, ite_self])
  all_goals (try grind [good_setFd, good_mk, good_fold, good_foldl, good_forEach])

theorem good_stepPos {qq ll} {s : State} (n : Nat) (r : List Byte) (h : Good qq ll s) : Good qq ll (State.stepPos s n r).2 := by
  unfold State.stepPos
  try simp +contextual (maxDischargeDepth := 40) only [↓good_mk, ↓good_fold, ↓good_ite, ↓good_next, ↓goodO_ite, ↓good_foldl, ↓good_forEach, ↓good_free, h, ite_self]
  all_goals (repeat' split)
  all_goals (try simp +contextual (maxDischargeDepth := 40) only [↓good_mk, ↓good_fold, ↓good_ite, ↓good_next, ↓goodO_ite, ↓good_foldl, ↓good_forEach, ↓good_free, h, ite_self])
  all_goals (try grind [good_free, good_mk, good_fold, good_foldl, good_forEach])

theorem good_stallWatch {qq ll} {s : State} (n : Nat) (h : Good qq ll s) : Good qq ll (State.stallWatch s n) := by
  unfold State.stallWatch
  try simp +contextual (maxDischargeDepth := 40) only [↓good_mk, ↓good_fold, ↓good_ite, ↓good_next, ↓goodO_ite, ↓good_foldl, ↓good_forEach, ↓good_setAxChan, ↓good_stepPos, h, ite_self]
  all_goals (repeat' split)
  all_goals (try simp +contextual (maxDischargeDepth := 40) only [↓good_mk, ↓good_fold, ↓good_ite, ↓good_next, ↓goodO_ite, ↓good_foldl, ↓good_forEach, ↓good_setAxChan, ↓good_stepPos, h, ite_self])
  all_goals (try grind [good_setAxChan, good_stepPos, good_mk, good_fold, good_foldl, good_forEach])

theorem good_stepSync {qq ll} {s : State} (n : Nat) (h : Good qq ll s) : Good qq ll (State.stepSync s n) := by
  unfold State.stepSync
  try simp +contextual (maxDischargeDepth := 40) only [↓good_mk, ↓good_fold, ↓good_ite, ↓good_next, ↓goodO_ite, ↓good_foldl, ↓good_forEach, ↓good_setRg, ↓good_setStepOut, ↓good_stallWatch, h, ite_self]
  all_goals (repeat' split)
  all_goals (try simp +contextual (maxDischargeDepth := 40) only [↓good_mk, ↓good_fold, ↓good_ite, ↓good_next, ↓goodO_ite, ↓good_foldl, ↓good_forEach, ↓good_setRg, ↓good_setStepOut, ↓good_stallWatch, h, ite_self])
  all_goals (try grind [good_setRg, good_setStepOut, good_stallWatch, good_mk, good_fold, good_foldl, good_forEach])

theorem good_setAxState {qq ll} {s : State} (n : Nat) (st : Nat) (h : Good qq ll s) : Good qq ll (State.setAxState s n st) := by
  unfold State.setAxState
  try simp +contextual (maxDischargeDepth := 40) only [↓good_mk, ↓good_fold, ↓good_ite, ↓good_next, ↓goodO_ite, ↓good_foldl, ↓good_forEach, ↓good_setFd, ↓good_setAxChan, ↓good_cmpDisarm, ↓good_stepSync, h, ite_self]
  all_goals (repeat' split)
  all_goals (try simp +contextual (maxDischargeDepth := 40) only [↓good_mk, ↓good_fold, ↓good_ite, ↓good_next, ↓goodO_ite, ↓good_foldl, ↓good_forEach, ↓good_setFd, ↓good_setAxChan, ↓good_cmpDisarm, ↓good_stepSync, h, ite_self])
  all_goals (try grind [good_setFd, good_setAxChan, good_cmpDisarm, good_stepSync, good_mk, good_fold, good_foldl, good_forEach])

theorem good_showAx {qq ll} {s : State} (n : Nat) (spd : Int) (h : Good qq ll s) : Good qq ll (State.showAx s n spd) := by
  unfold State.showAx
  try simp +contextual (maxDischargeDepth := 40) only [↓good_mk, ↓good_fold, ↓good_ite, ↓good_next, ↓goodO_ite, ↓good_foldl, ↓good_forEach, ↓good_setRg, h, ite_self]
  all_goals (repeat' split)
  all_goals (try simp +contextual (maxDischargeDepth := 40) only [↓good_mk, ↓good_fold, ↓good_ite, ↓good_next, ↓goodO_ite, ↓good_foldl, ↓good_forEach, ↓good_setRg, h, ite_self])
  all_goals (try grind [good_setRg, good_mk, good_fold, good_foldl, good_forEach])

theorem good_measured {qq ll} {s : State} (n : Nat) (r : List Byte) (h : Good qq ll s) : Good qq ll (State.measured s n r).2 := by
  unfold State.measured
  try simp +contextual (maxDischargeDepth := 40) only [↓good_mk, ↓good_fold, ↓good_ite, ↓good_next, ↓goodO_ite, ↓good_foldl, ↓good_forEach, ↓good_stepPos, h, ite_self]
  all_goals (repeat' split)
  all_goals (try simp +contextual (maxDischargeDepth := 40) only [↓good_mk, ↓good_fold, ↓good_ite, ↓good_next, ↓goodO_ite, ↓good_foldl, ↓good_forEach, ↓good_stepPos, h, ite_self])
  all_goals (try grind [good_stepPos, good_mk, good_fold, good_foldl, good_forEach])

theorem good_axStart {qq ll} {s : State} (n : Nat) (r : List Byte) (h : Good qq ll s) : Good qq ll (State.axStart s n r) := by
  unfold State.axStart
  try simp +contextual (maxDischargeDepth := 40) only [↓good_mk, ↓good_fold, ↓good_ite, ↓good_next, ↓goodO_ite, ↓good_foldl, ↓good_forEach, ↓good_setAxChan, ↓good_showAx, ↓good_measured, h, ite_self]
  all_goals (repeat' split)
  all_goals (try simp +contextual (maxDischargeDepth := 40) only [↓good_mk, ↓good_fold, ↓good_ite, ↓good_next, ↓goodO_ite, ↓good_foldl, ↓good_forEach, ↓good_setAxChan, ↓good_showAx, ↓good_measured, h, ite_self])
  all_goals (try grind [good_setAxChan, good_showAx, good_measured, good_mk, good_fold, good_foldl, good_forEach])

theorem good_axRest {qq ll} {s : State} (n : Nat) (dec : Nat) (ending : List (Nat × Nat)) (fault : Bool) (h : Good qq ll s) : Good qq ll (State.axRest s n dec ending fault) := by
  unfold State.axRest
  try simp +contextual (maxDischargeDepth := 40) only [↓good_mk, ↓good_fold, ↓good_ite, ↓good_next, ↓goodO_ite, ↓good_foldl, ↓good_forEach, ↓good_setAxChan, ↓good_setAxState, h, ite_self]
  all_goals (repeat' split)
  all_goals (try simp +contextual (maxDischargeDepth := 40) only [↓good_mk, ↓good_fold, ↓good_ite, ↓good_next, ↓goodO_ite, ↓good_foldl, ↓good_forEach, ↓good_setAxChan, ↓good_setAxState, h, ite_self])
  all_goals (try grind [good_setAxChan, good_setAxState, good_mk, good_fold, good_foldl, good_forEach])

theorem good_cat1Stop {qq ll} {s : State} (g : Nat) (h : Good qq ll s) : Good qq ll (State.cat1Stop s g) := by
  unfold State.cat1Stop
  try simp +contextual (maxDischargeDepth := 40) only [↓good_mk, ↓good_fold, ↓good_ite, ↓good_next, ↓goodO_ite, ↓good_foldl, ↓good_forEach, ↓good_setAg, h, ite_self]
  all_goals (repeat' split)
  all_goals (try simp +contextual (maxDischargeDepth := 40) only [↓good_mk, ↓good_fold, ↓good_ite, ↓good_next, ↓goodO_ite, ↓good_foldl, ↓good_forEach, ↓good_setAg, h, ite_self])
  all_goals (try grind [good_setAg, good_mk, good_fold, good_foldl, good_forEach])

theorem good_axBrake {qq ll} {s : State} (n : Nat) (h : Good qq ll s) : Good qq ll (State.axBrake s n) := by
  unfold State.axBrake
  try simp +contextual (maxDischargeDepth := 40) only [↓good_mk, ↓good_fold, ↓good_ite, ↓good_next, ↓goodO_ite, ↓good_foldl, ↓good_forEach, ↓good_setAxChan, h, ite_self]
  all_goals (repeat' split)
  all_goals (try simp +contextual (maxDischargeDepth := 40) only [↓good_mk, ↓good_fold, ↓good_ite, ↓good_next, ↓goodO_ite, ↓good_foldl, ↓good_forEach, ↓good_setAxChan, h, ite_self])
  all_goals (try grind [good_setAxChan, good_mk, good_fold, good_foldl, good_forEach])

theorem good_agOff {qq ll} {s : State} (g : Nat) (hard : Bool) (h : Good qq ll s) : Good qq ll (State.agOff s g hard) := by
  unfold State.agOff
  try simp +contextual (maxDischargeDepth := 40) only [↓good_mk, ↓good_fold, ↓good_ite, ↓good_next, ↓goodO_ite, ↓good_foldl, ↓good_forEach, ↓good_setFd, ↓good_setAg, ↓good_migAbort, ↓good_stepSync, ↓good_setAxState, ↓good_axBrake, h, ite_self]
  all_goals (repeat' split)
  all_goals (try simp +contextual (maxDischargeDepth := 40) only [↓good_mk, ↓good_fold, ↓good_ite, ↓good_next, ↓goodO_ite, ↓good_foldl, ↓good_forEach, ↓good_setFd, ↓good_setAg, ↓good_migAbort, ↓good_stepSync, ↓good_setAxState, ↓good_axBrake, h, ite_self])
  all_goals (try grind [good_setFd, good_setAg, good_migAbort, good_stepSync, good_setAxState, good_axBrake, good_mk, good_fold, good_foldl, good_forEach])

theorem good_plannedStop {qq ll} {s : State} (a : Nat) (cause : Nat) (h : Good qq ll s) : Good qq ll (State.plannedStop s a cause) := by
  unfold State.plannedStop
  try simp +contextual (maxDischargeDepth := 40) only [↓good_mk, ↓good_fold, ↓good_ite, ↓good_next, ↓goodO_ite, ↓good_foldl, ↓good_forEach, ↓good_journal, ↓good_cat1Stop, ↓good_agOff, h, ite_self]
  all_goals (repeat' split)
  all_goals (try simp +contextual (maxDischargeDepth := 40) only [↓good_mk, ↓good_fold, ↓good_ite, ↓good_next, ↓goodO_ite, ↓good_foldl, ↓good_forEach, ↓good_journal, ↓good_cat1Stop, ↓good_agOff, h, ite_self])
  all_goals (try grind [good_journal, good_cat1Stop, good_agOff, good_mk, good_fold, good_foldl, good_forEach])

theorem good_stepHalt {qq ll} {s : State} (n : Nat) (code : Nat) (group : Bool) (h : Good qq ll s) : Good qq ll (State.stepHalt s n code group) := by
  unfold State.stepHalt
  try simp +contextual (maxDischargeDepth := 40) only [↓good_mk, ↓good_fold, ↓good_ite, ↓good_next, ↓goodO_ite, ↓good_foldl, ↓good_forEach, ↓good_setFd, ↓good_setAxChan, ↓good_axToken, ↓good_stepPos, ↓good_stepSync, ↓good_setAxState, ↓good_showAx, ↓good_plannedStop, h, ite_self]
  all_goals (repeat' split)
  all_goals (try simp +contextual (maxDischargeDepth := 40) only [↓good_mk, ↓good_fold, ↓good_ite, ↓good_next, ↓goodO_ite, ↓good_foldl, ↓good_forEach, ↓good_setFd, ↓good_setAxChan, ↓good_axToken, ↓good_stepPos, ↓good_stepSync, ↓good_setAxState, ↓good_showAx, ↓good_plannedStop, h, ite_self])
  all_goals (try grind [good_setFd, good_setAxChan, good_axToken, good_stepPos, good_stepSync, good_setAxState, good_showAx, good_plannedStop, good_mk, good_fold, good_foldl, good_forEach])

theorem good_fbHalt {qq ll} {s : State} (n : Nat) (h : Good qq ll s) : Good qq ll (State.fbHalt s n) := by
  unfold State.fbHalt
  try simp +contextual (maxDischargeDepth := 40) only [↓good_mk, ↓good_fold, ↓good_ite, ↓good_next, ↓goodO_ite, ↓good_foldl, ↓good_forEach, ↓good_raise, ↓good_axToken, ↓good_stepHalt, h, ite_self]
  all_goals (repeat' split)
  all_goals (try simp +contextual (maxDischargeDepth := 40) only [↓good_mk, ↓good_fold, ↓good_ite, ↓good_next, ↓goodO_ite, ↓good_foldl, ↓good_forEach, ↓good_raise, ↓good_axToken, ↓good_stepHalt, h, ite_self])
  all_goals (try grind [good_raise, good_axToken, good_stepHalt, good_mk, good_fold, good_foldl, good_forEach])

theorem good_writeAxCmd {qq ll} {s : State} (q : Requester) (n : Nat) (v : Word) (h : Good qq ll s) : Good qq ll (writeAxCmd q n v s) := by
  unfold writeAxCmd
  try simp +contextual (maxDischargeDepth := 40) only [↓good_mk, ↓good_fold, ↓good_ite, ↓good_next, ↓goodO_ite, ↓good_foldl, ↓good_forEach, ↓good_refuse, ↓good_setAxChan, h, ite_self]
  all_goals (repeat' split)
  all_goals (try simp +contextual (maxDischargeDepth := 40) only [↓good_mk, ↓good_fold, ↓good_ite, ↓good_next, ↓goodO_ite, ↓good_foldl, ↓good_forEach, ↓good_refuse, ↓good_setAxChan, h, ite_self])
  all_goals (try grind [good_refuse, good_setAxChan, good_mk, good_fold, good_foldl, good_forEach])

theorem good_homeEvent {qq ll} {s : State} (n : Nat) (dpos : Int) (h : Good qq ll s) : Good qq ll (State.homeEvent s n dpos) := by
  unfold State.homeEvent
  try simp +contextual (maxDischargeDepth := 40) only [↓good_mk, ↓good_fold, ↓good_ite, ↓good_next, ↓goodO_ite, ↓good_foldl, ↓good_forEach, ↓good_setRg, ↓good_setFd, ↓good_setSram, ↓good_setAxChan, ↓good_axToken, ↓good_axRest, h, ite_self]
  all_goals (repeat' split)
  all_goals (try simp +contextual (maxDischargeDepth := 40) only [↓good_mk, ↓good_fold, ↓good_ite, ↓good_next, ↓goodO_ite, ↓good_foldl, ↓good_forEach, ↓good_setRg, ↓good_setFd, ↓good_setSram, ↓good_setAxChan, ↓good_axToken, ↓good_axRest, h, ite_self])
  all_goals (try grind [good_setRg, good_setFd, good_setSram, good_setAxChan, good_axToken, good_axRest, good_mk, good_fold, good_foldl, good_forEach])

theorem good_homeAbort {qq ll} {s : State} (n : Nat) (code : Nat) (dec : Nat) (fault : Bool) (h : Good qq ll s) : Good qq ll (State.homeAbort s n code dec fault) := by
  unfold State.homeAbort
  try simp +contextual (maxDischargeDepth := 40) only [↓good_mk, ↓good_fold, ↓good_ite, ↓good_next, ↓goodO_ite, ↓good_foldl, ↓good_forEach, ↓good_setFd, ↓good_axRest, h, ite_self]
  all_goals (repeat' split)
  all_goals (try simp +contextual (maxDischargeDepth := 40) only [↓good_mk, ↓good_fold, ↓good_ite, ↓good_next, ↓goodO_ite, ↓good_foldl, ↓good_forEach, ↓good_setFd, ↓good_axRest, h, ite_self])
  all_goals (try grind [good_setFd, good_axRest, good_mk, good_fold, good_foldl, good_forEach])

theorem good_startHoming {qq ll} {s : State} (q : Requester) (n : Nat) (h : Good qq ll s) : Good qq ll (State.startHoming s q n) := by
  unfold State.startHoming
  try simp +contextual (maxDischargeDepth := 40) only [↓good_mk, ↓good_fold, ↓good_ite, ↓good_next, ↓goodO_ite, ↓good_foldl, ↓good_forEach, ↓good_setFd, ↓good_refuse, ↓good_setAxChan, ↓good_setAxState, ↓good_measured, ↓good_homeEvent, h, ite_self]
  all_goals (repeat' split)
  all_goals (try simp +contextual (maxDischargeDepth := 40) only [↓good_mk, ↓good_fold, ↓good_ite, ↓good_next, ↓goodO_ite, ↓good_foldl, ↓good_forEach, ↓good_setFd, ↓good_refuse, ↓good_setAxChan, ↓good_setAxState, ↓good_measured, ↓good_homeEvent, h, ite_self])
  all_goals (try grind [good_setFd, good_refuse, good_setAxChan, good_setAxState, good_measured, good_homeEvent, good_mk, good_fold, good_foldl, good_forEach])

theorem good_axClear {qq ll} {s : State} (q : Requester) (n : Nat) (h : Good qq ll s) : Good qq ll (State.axClear s q n) := by
  unfold State.axClear
  try simp +contextual (maxDischargeDepth := 40) only [↓good_mk, ↓good_fold, ↓good_ite, ↓good_next, ↓goodO_ite, ↓good_foldl, ↓good_forEach, ↓good_setRg, ↓good_setFd, ↓good_refuse, ↓good_setAxState, ↓good_axStart, h, ite_self]
  all_goals (repeat' split)
  all_goals (try simp +contextual (maxDischargeDepth := 40) only [↓good_mk, ↓good_fold, ↓good_ite, ↓good_next, ↓goodO_ite, ↓good_foldl, ↓good_forEach, ↓good_setRg, ↓good_setFd, ↓good_refuse, ↓good_setAxState, ↓good_axStart, h, ite_self])
  all_goals (try grind [good_setRg, good_setFd, good_refuse, good_setAxState, good_axStart, good_mk, good_fold, good_foldl, good_forEach])

theorem good_takeCommand {qq ll} {s : State} (n : Nat) (h : Good qq ll s) : Good qq ll (State.takeCommand s n) := by
  unfold State.takeCommand
  try simp +contextual (maxDischargeDepth := 40) only [↓good_mk, ↓good_fold, ↓good_ite, ↓good_next, ↓goodO_ite, ↓good_foldl, ↓good_forEach, ↓good_refuse, ↓good_setAxChan, ↓good_setAxState, ↓good_axRest, ↓good_homeAbort, ↓good_startHoming, ↓good_axClear, h, ite_self]
  all_goals (repeat' split)
  all_goals (try simp +contextual (maxDischargeDepth := 40) only [↓good_mk, ↓good_fold, ↓good_ite, ↓good_next, ↓goodO_ite, ↓good_foldl, ↓good_forEach, ↓good_refuse, ↓good_setAxChan, ↓good_setAxState, ↓good_axRest, ↓good_homeAbort, ↓good_startHoming, ↓good_axClear, h, ite_self])
  all_goals (try grind [good_refuse, good_setAxChan, good_setAxState, good_axRest, good_homeAbort, good_startHoming, good_axClear, good_mk, good_fold, good_foldl, good_forEach])

theorem good_formPlan {qq ll} {s : State} (n : Nat) (updated : Bool) (h : Good qq ll s) : Good qq ll (State.formPlan s n updated) := by
  unfold State.formPlan
  try simp +contextual (maxDischargeDepth := 40) only [↓good_mk, ↓good_fold, ↓good_ite, ↓good_next, ↓goodO_ite, ↓good_foldl, ↓good_forEach, ↓good_setRg, ↓good_raise, ↓good_setAxChan, h, ite_self]
  all_goals (repeat' split)
  all_goals (try simp +contextual (maxDischargeDepth := 40) only [↓good_mk, ↓good_fold, ↓good_ite, ↓good_next, ↓goodO_ite, ↓good_foldl, ↓good_forEach, ↓good_setRg, ↓good_raise, ↓good_setAxChan, h, ite_self])
  all_goals (try grind [good_setRg, good_raise, good_setAxChan, good_mk, good_fold, good_foldl, good_forEach])

theorem good_takeSample {qq ll} {s : State} (n : Nat) (updated : Bool) (h : Good qq ll s) : Good qq ll (State.takeSample s n updated) := by
  unfold State.takeSample
  try simp +contextual (maxDischargeDepth := 40) only [↓good_mk, ↓good_fold, ↓good_ite, ↓good_next, ↓goodO_ite, ↓good_foldl, ↓good_forEach, ↓good_setAxChan, ↓good_axToken, ↓good_setAxState, ↓good_showAx, ↓good_formPlan, h, ite_self]
  all_goals (repeat' split)
  all_goals (try simp +contextual (maxDischargeDepth := 40) only [↓good_mk, ↓good_fold, ↓good_ite, ↓good_next, ↓goodO_ite, ↓good_foldl, ↓good_forEach, ↓good_setAxChan, ↓good_axToken, ↓good_setAxState, ↓good_showAx, ↓good_formPlan, h, ite_self])
  all_goals (try grind [good_setAxChan, good_axToken, good_setAxState, good_showAx, good_formPlan, good_mk, good_fold, good_foldl, good_forEach])

theorem good_commitProfiled {qq ll} {s : State} (n : Nat) (fresh : Bool) (h : Good qq ll s) : Good qq ll (State.commitProfiled s n fresh) := by
  unfold State.commitProfiled
  try simp +contextual (maxDischargeDepth := 40) only [↓good_mk, ↓good_fold, ↓good_ite, ↓good_next, ↓goodO_ite, ↓good_foldl, ↓good_forEach, ↓good_sramWrite, ↓good_setSram, h, ite_self]
  all_goals (repeat' split)
  all_goals (try simp +contextual (maxDischargeDepth := 40) only [↓good_mk, ↓good_fold, ↓good_ite, ↓good_next, ↓goodO_ite, ↓good_foldl, ↓good_forEach, ↓good_sramWrite, ↓good_setSram, h, ite_self])
  all_goals (try grind [good_sramWrite, good_setSram, good_mk, good_fold, good_foldl, good_forEach])

theorem good_stepRest {qq ll} {s : State} (n : Nat) (h : Good qq ll s) : Good qq ll (State.stepRest s n) := by
  unfold State.stepRest
  try simp +contextual (maxDischargeDepth := 40) only [↓good_mk, ↓good_fold, ↓good_ite, ↓good_next, ↓goodO_ite, ↓good_foldl, ↓good_forEach, ↓good_setRg, ↓good_raise, ↓good_setStepOut, h, ite_self]
  all_goals (repeat' split)
  all_goals (try simp +contextual (maxDischargeDepth := 40) only [↓good_mk, ↓good_fold, ↓good_ite, ↓good_next, ↓goodO_ite, ↓good_foldl, ↓good_forEach, ↓good_setRg, ↓good_raise, ↓good_setStepOut, h, ite_self])
  all_goals (try grind [good_setRg, good_raise, good_setStepOut, good_mk, good_fold, good_foldl, good_forEach])

theorem good_showDrvOk {qq ll} {s : State} (n : Nat) (r : List Byte) (h : Good qq ll s) : Good qq ll (State.showDrvOk s n r) := by
  unfold State.showDrvOk
  try simp +contextual (maxDischargeDepth := 40) only [↓good_mk, ↓good_fold, ↓good_ite, ↓good_next, ↓goodO_ite, ↓good_foldl, ↓good_forEach, ↓good_setFd, h, ite_self]
  all_goals (repeat' split)
  all_goals (try simp +contextual (maxDischargeDepth := 40) only [↓good_mk, ↓good_fold, ↓good_ite, ↓good_next, ↓goodO_ite, ↓good_foldl, ↓good_forEach, ↓good_setFd, h, ite_self])
  all_goals (try grind [good_setFd, good_mk, good_fold, good_foldl, good_forEach])

theorem good_axTick {qq ll} {s : State} (n : Nat) (h : Good qq ll s) : Good qq ll (State.axTick s n) := by
  unfold State.axTick
  try simp +contextual (maxDischargeDepth := 40) only [↓good_mk, ↓good_fold, ↓good_ite, ↓good_next, ↓goodO_ite, ↓good_foldl, ↓good_forEach, ↓good_setAxChan, ↓good_showAx, ↓good_takeCommand, ↓good_takeSample, h, ite_self]
  all_goals (repeat' split)
  all_goals (try simp +contextual (maxDischargeDepth := 40) only [↓good_mk, ↓good_fold, ↓good_ite, ↓good_next, ↓goodO_ite, ↓good_foldl, ↓good_forEach, ↓good_setAxChan, ↓good_showAx, ↓good_takeCommand, ↓good_takeSample, h, ite_self])
  all_goals (try grind [good_setAxChan, good_showAx, good_takeCommand, good_takeSample, good_mk, good_fold, good_foldl, good_forEach])

theorem good_cmpSee {qq ll} {s : State} (k : Nat) (pos : Int) (h : Good qq ll s) : Good qq ll (State.cmpSee s k pos) := by
  unfold State.cmpSee
  try simp +contextual (maxDischargeDepth := 40) only [↓good_mk, ↓good_fold, ↓good_ite, ↓good_next, ↓goodO_ite, ↓good_foldl, ↓good_forEach, ↓good_setCmpUnit, h, ite_self]
  all_goals (repeat' split)
  all_goals (try simp +contextual (maxDischargeDepth := 40) only [↓good_mk, ↓good_fold, ↓good_ite, ↓good_next, ↓goodO_ite, ↓good_foldl, ↓good_forEach, ↓good_setCmpUnit, h, ite_self])
  all_goals (try grind [good_setCmpUnit, good_mk, good_fold, good_foldl, good_forEach])

theorem good_cmpSeeAll {qq ll} {s : State} (fb : Bool) (id : Nat) (pos : Int) (h : Good qq ll s) : Good qq ll (State.cmpSeeAll s fb id pos) := by
  unfold State.cmpSeeAll
  try simp +contextual (maxDischargeDepth := 40) only [↓good_mk, ↓good_fold, ↓good_ite, ↓good_next, ↓goodO_ite, ↓good_foldl, ↓good_forEach, ↓good_cmpSee, h, ite_self]
  all_goals (repeat' split)
  all_goals (try simp +contextual (maxDischargeDepth := 40) only [↓good_mk, ↓good_fold, ↓good_ite, ↓good_next, ↓goodO_ite, ↓good_foldl, ↓good_forEach, ↓good_cmpSee, h, ite_self])
  all_goals (try grind [good_cmpSee, good_mk, good_fold, good_foldl, good_forEach])

theorem good_execProfileTick {qq ll} {s : State} (h : Good qq ll s) : GoodO qq ll (execProfileTick s) := by
  unfold execProfileTick
  try simp +contextual (maxDischargeDepth := 40) only [↓good_mk, ↓good_fold, ↓good_ite, ↓good_next, ↓goodO_ite, ↓good_foldl, ↓good_forEach, ↓good_commitProfiled, ↓good_stepRest, ↓good_showDrvOk, ↓good_axTick, ↓good_cmpSeeAll, h, ite_self]
  all_goals (repeat' split)
  all_goals (try simp +contextual (maxDischargeDepth := 40) only [↓good_mk, ↓good_fold, ↓good_ite, ↓good_next, ↓goodO_ite, ↓good_foldl, ↓good_forEach, ↓good_commitProfiled, ↓good_stepRest, ↓good_showDrvOk, ↓good_axTick, ↓good_cmpSeeAll, h, ite_self])
  all_goals (try grind [good_commitProfiled, good_stepRest, good_showDrvOk, good_axTick, good_cmpSeeAll, good_mk, good_fold, good_foldl, good_forEach])

theorem good_execAxMove {qq ll} {s : State} (q : Requester) (n : Nat) (h : Good qq ll s) : GoodO qq ll (execAxMove q n s) := by
  unfold execAxMove
  exact good_write _ _ _ _ _ (fun _ h => good_writeAxCmd _ _ _ h) h

theorem good_execAxUpdate {qq ll} {s : State} (q : Requester) (n : Nat) (h : Good qq ll s) : GoodO qq ll (execAxUpdate q n s) := by
  unfold execAxUpdate
  exact good_write _ _ _ _ _ (fun _ h => good_writeAxCmd _ _ _ h) h

theorem good_execAxStop {qq ll} {s : State} (q : Requester) (n : Nat) (h : Good qq ll s) : GoodO qq ll (execAxStop q n s) := by
  unfold execAxStop
  exact good_write _ _ _ _ _ (fun _ h => good_writeAxCmd _ _ _ h) h

theorem good_execAxQstop {qq ll} {s : State} (q : Requester) (n : Nat) (h : Good qq ll s) : GoodO qq ll (execAxQstop q n s) := by
  unfold execAxQstop
  exact good_write _ _ _ _ _ (fun _ h => good_writeAxCmd _ _ _ h) h

theorem good_execAxHome {qq ll} {s : State} (q : Requester) (n : Nat) (h : Good qq ll s) : GoodO qq ll (execAxHome q n s) := by
  unfold execAxHome
  exact good_write _ _ _ _ _ (fun _ h => good_writeAxCmd _ _ _ h) h

theorem good_execAxClear {qq ll} {s : State} (q : Requester) (n : Nat) (h : Good qq ll s) : GoodO qq ll (execAxClear q n s) := by
  unfold execAxClear
  exact good_write _ _ _ _ _ (fun _ h => good_writeAxCmd _ _ _ h) h

theorem good_axChatter {qq ll} {s : State} (n : Nat) (h : Good qq ll s) : Good qq ll (State.axChatter s n) := by
  unfold State.axChatter
  try simp +contextual (maxDischargeDepth := 40) only [↓good_mk, ↓good_fold, ↓good_ite, ↓good_next, ↓goodO_ite, ↓good_foldl, ↓good_forEach, ↓good_setFd, ↓good_raise, ↓good_setAxChan, ↓good_setAxState, ↓good_axRest, ↓good_plannedStop, ↓good_homeAbort, h, ite_self]
  all_goals (repeat' split)
  all_goals (try simp +contextual (maxDischargeDepth := 40) only [↓good_mk, ↓good_fold, ↓good_ite, ↓good_next, ↓goodO_ite, ↓good_foldl, ↓good_forEach, ↓good_setFd, ↓good_raise, ↓good_setAxChan, ↓good_setAxState, ↓good_axRest, ↓good_plannedStop, ↓good_homeAbort, h, ite_self])
  all_goals (try grind [good_setFd, good_raise, good_setAxChan, good_setAxState, good_axRest, good_plannedStop, good_homeAbort, good_mk, good_fold, good_foldl, good_forEach])

theorem good_homingInput {qq ll} {s : State} (n : Nat) (w : Nat) (level : Bool) (dpos : Int) (h : Good qq ll s) : Good qq ll (State.homingInput s n w level dpos) := by
  unfold State.homingInput
  try simp +contextual (maxDischargeDepth := 40) only [↓good_mk, ↓good_fold, ↓good_ite, ↓good_next, ↓goodO_ite, ↓good_foldl, ↓good_forEach, ↓good_raise, ↓good_setAxChan, ↓good_homeEvent, ↓good_homeAbort, h, ite_self]
  all_goals (repeat' split)
  all_goals (try simp +contextual (maxDischargeDepth := 40) only [↓good_mk, ↓good_fold, ↓good_ite, ↓good_next, ↓goodO_ite, ↓good_foldl, ↓good_forEach, ↓good_raise, ↓good_setAxChan, ↓good_homeEvent, ↓good_homeAbort, h, ite_self])
  all_goals (try grind [good_raise, good_setAxChan, good_homeEvent, good_homeAbort, good_mk, good_fold, good_foldl, good_forEach])

theorem good_inputChange {qq ll} {s : State} (n : Nat) (w : Nat) (level : Bool) (dpos : Int) (h : Good qq ll s) : Good qq ll (State.inputChange s n w level dpos) := by
  unfold State.inputChange
  try simp +contextual (maxDischargeDepth := 40) only [↓good_mk, ↓good_fold, ↓good_ite, ↓good_next, ↓goodO_ite, ↓good_foldl, ↓good_forEach, ↓good_setFd, ↓good_setAxChan, ↓good_axToken, ↓good_axRest, ↓good_plannedStop, ↓good_axChatter, ↓good_homingInput, h, ite_self]
  all_goals (repeat' split)
  all_goals (try simp +contextual (maxDischargeDepth := 40) only [↓good_mk, ↓good_fold, ↓good_ite, ↓good_next, ↓goodO_ite, ↓good_foldl, ↓good_forEach, ↓good_setFd, ↓good_setAxChan, ↓good_axToken, ↓good_axRest, ↓good_plannedStop, ↓good_axChatter, ↓good_homingInput, h, ite_self])
  all_goals (try grind [good_setFd, good_setAxChan, good_axToken, good_axRest, good_plannedStop, good_axChatter, good_homingInput, good_mk, good_fold, good_foldl, good_forEach])

theorem good_inputsShown {qq ll} {s : State} (node : Nat) (h : Good qq ll s) : Good qq ll (State.inputsShown s node) := by
  unfold State.inputsShown
  try simp +contextual (maxDischargeDepth := 40) only [↓good_mk, ↓good_fold, ↓good_ite, ↓good_next, ↓goodO_ite, ↓good_foldl, ↓good_forEach, ↓good_setAxChan, h, ite_self]
  all_goals (repeat' split)
  all_goals (try simp +contextual (maxDischargeDepth := 40) only [↓good_mk, ↓good_fold, ↓good_ite, ↓good_next, ↓goodO_ite, ↓good_foldl, ↓good_forEach, ↓good_setAxChan, h, ite_self])
  all_goals (try grind [good_setAxChan, good_mk, good_fold, good_foldl, good_forEach])

theorem good_execLimitInputChange {qq ll} {s : State} (n : Nat) (w : Nat) (level : Bool) (hold : Nat) (dt : Nat) (h : Good qq ll s) : GoodO qq ll (execLimitInputChange n w level hold dt s) := by
  unfold execLimitInputChange
  try simp +contextual (maxDischargeDepth := 40) only [↓good_mk, ↓good_fold, ↓good_ite, ↓good_next, ↓goodO_ite, ↓good_foldl, ↓good_forEach, ↓good_advance, ↓good_stepSync, ↓good_measured, ↓good_inputChange, h, ite_self]
  all_goals (repeat' split)
  all_goals (try simp +contextual (maxDischargeDepth := 40) only [↓good_mk, ↓good_fold, ↓good_ite, ↓good_next, ↓goodO_ite, ↓good_foldl, ↓good_forEach, ↓good_advance, ↓good_stepSync, ↓good_measured, ↓good_inputChange, h, ite_self])
  all_goals (try grind [good_advance, good_stepSync, good_measured, good_inputChange, good_mk, good_fold, good_foldl, good_forEach])

theorem good_homingIndex {qq ll} {s : State} (f : Nat) (dpos : Int) (h : Good qq ll s) : Good qq ll (State.homingIndex s f dpos) := by
  unfold State.homingIndex
  try simp +contextual (maxDischargeDepth := 40) only [↓good_mk, ↓good_fold, ↓good_ite, ↓good_next, ↓goodO_ite, ↓good_foldl, ↓good_forEach, ↓good_homeEvent, h, ite_self]
  all_goals (repeat' split)
  all_goals (try simp +contextual (maxDischargeDepth := 40) only [↓good_mk, ↓good_fold, ↓good_ite, ↓good_next, ↓goodO_ite, ↓good_foldl, ↓good_forEach, ↓good_homeEvent, h, ite_self])
  all_goals (try grind [good_homeEvent, good_mk, good_fold, good_foldl, good_forEach])

theorem good_execHomeNotFound {qq ll} {s : State} (n : Nat) (h : Good qq ll s) : GoodO qq ll (execHomeNotFound n s) := by
  unfold execHomeNotFound
  try simp +contextual (maxDischargeDepth := 40) only [↓good_mk, ↓good_fold, ↓good_ite, ↓good_next, ↓goodO_ite, ↓good_foldl, ↓good_forEach, ↓good_homeAbort, h, ite_self]
  all_goals (repeat' split)
  all_goals (try simp +contextual (maxDischargeDepth := 40) only [↓good_mk, ↓good_fold, ↓good_ite, ↓good_next, ↓goodO_ite, ↓good_foldl, ↓good_forEach, ↓good_homeAbort, h, ite_self])
  all_goals (try grind [good_homeAbort, good_mk, good_fold, good_foldl, good_forEach])

theorem good_cmpSet {qq ll} {s : State} (k : Nat) (g : Nat) (act : Nat) (h : Good qq ll s) : Good qq ll (State.cmpSet s k g act) := by
  unfold State.cmpSet
  try simp +contextual (maxDischargeDepth := 40) only [↓good_mk, ↓good_fold, ↓good_ite, ↓good_next, ↓goodO_ite, ↓good_foldl, ↓good_forEach, h, ite_self]
  all_goals (repeat' split)
  all_goals (try simp +contextual (maxDischargeDepth := 40) only [↓good_mk, ↓good_fold, ↓good_ite, ↓good_next, ↓goodO_ite, ↓good_foldl, ↓good_forEach, h, ite_self])
  all_goals (try grind [good_mk, good_fold, good_foldl, good_forEach])

theorem good_cmpAction {qq ll} {s : State} (k : Nat) (h : Good qq ll s) : Good qq ll (State.cmpAction s k) := by
  unfold State.cmpAction
  try simp +contextual (maxDischargeDepth := 40) only [↓good_mk, ↓good_fold, ↓good_ite, ↓good_next, ↓goodO_ite, ↓good_foldl, ↓good_forEach, ↓good_cmpSet, h, ite_self]
  all_goals (repeat' split)
  all_goals (try simp +contextual (maxDischargeDepth := 40) only [↓good_mk, ↓good_fold, ↓good_ite, ↓good_next, ↓goodO_ite, ↓good_foldl, ↓good_forEach, ↓good_cmpSet, h, ite_self])
  all_goals (try grind [good_cmpSet, good_mk, good_fold, good_foldl, good_forEach])

theorem good_cmpFire {qq ll} {s : State} (k : Nat) (h : Good qq ll s) : Good qq ll (State.cmpFire s k) := by
  unfold State.cmpFire
  repeat' first
    | with_reducible assumption
    | (intro s; refine (show Good qq ll s → _ from fun h => ?_) ?_ <;> [clear_value s; subst s])
    | (intro (x : MemState); subst x)
    | (intro x; clear_value x)
    | lift_lets
    | with_reducible refine good_next.mpr ?_
    | with_reducible refine good_forEach _ _ _ (fun a s h => ?_) ?_
    | split
  all_goals (have hw := good_memWf h)
  all_goals (first
    | (simp +contextual (maxDischargeDepth := 40) only [↓good_mk, ↓good_fold, ↓good_ite, ↓good_next, ↓goodO_ite, ↓good_foldl, ↓good_forEach, ↓good_setRg, ↓good_setFd, ↓good_raiseFlag, ↓good_raise, ↓good_setRg64, ↓good_soEvent, ↓good_hwToken, ↓good_setCmpUnit, ↓good_cmpAction, h, hw, ite_self, ↓good_memC, memWf_mk, Memory.wf_writeN, Memory.wf_setNum, Memory.wf_splice, Memory.wf_clear, Memory.wf_copy, Memory.wf_nil, and_self]; done)
    | simp +contextual (maxDischargeDepth := 40) only [↓good_mk, ↓good_fold, ↓good_ite, ↓good_next, ↓goodO_ite, ↓good_foldl, ↓good_forEach, ↓good_setRg, ↓good_setFd, ↓good_raiseFlag, ↓good_raise, ↓good_setRg64, ↓good_soEvent, ↓good_hwToken, ↓good_setCmpUnit, ↓good_cmpAction, ite_self, *, ↓good_memC, memWf_mk, Memory.wf_writeN, Memory.wf_setNum, Memory.wf_splice, Memory.wf_clear, Memory.wf_copy, Memory.wf_nil, and_self])

theorem good_cmpTakeUp {qq ll} {s : State} (k : Nat) (h : Good qq ll s) : Good qq ll (State.cmpTakeUp s k) := by
  unfold State.cmpTakeUp
  try simp +contextual (maxDischargeDepth := 40) only [↓good_mk, ↓good_fold, ↓good_ite, ↓good_next, ↓goodO_ite, ↓good_foldl, ↓good_forEach, ↓good_raise, ↓good_setCmpUnit, ↓good_cmpFire, h, ite_self]
  all_goals (repeat' split)
  all_goals (try simp +contextual (maxDischargeDepth := 40) only [↓good_mk, ↓good_fold, ↓good_ite, ↓good_next, ↓goodO_ite, ↓good_foldl, ↓good_forEach, ↓good_raise, ↓good_setCmpUnit, ↓good_cmpFire, h, ite_self])
  all_goals (try grind [good_raise, good_setCmpUnit, good_cmpFire, good_mk, good_fold, good_foldl, good_forEach])

theorem good_cmpArm {qq ll} {s : State} (k : Nat) (h : Good qq ll s) : Good qq ll (State.cmpArm s k) := by
  unfold State.cmpArm
  try simp +contextual (maxDischargeDepth := 40) only [↓good_mk, ↓good_fold, ↓good_ite, ↓good_next, ↓goodO_ite, ↓good_foldl, ↓good_forEach, ↓good_setFd, ↓good_setCmpUnit, ↓good_cmpTakeUp, h, ite_self]
  all_goals (repeat' split)
  all_goals (try simp +contextual (maxDischargeDepth := 40) only [↓good_mk, ↓good_fold, ↓good_ite, ↓good_next, ↓goodO_ite, ↓good_foldl, ↓good_forEach, ↓good_setFd, ↓good_setCmpUnit, ↓good_cmpTakeUp, h, ite_self])
  all_goals (try grind [good_setFd, good_setCmpUnit, good_cmpTakeUp, good_mk, good_fold, good_foldl, good_forEach])

theorem good_writeCmpCtl {qq ll} {s : State} (q : Requester) (k : Nat) (v : Word) (h : Good qq ll s) : Good qq ll (writeCmpCtl q k v s) := by
  unfold writeCmpCtl
  try simp +contextual (maxDischargeDepth := 40) only [↓good_mk, ↓good_fold, ↓good_ite, ↓good_next, ↓goodO_ite, ↓good_foldl, ↓good_forEach, ↓good_setRg, ↓good_setFd, ↓good_refuse, ↓good_cmpArm, h, ite_self]
  all_goals (repeat' split)
  all_goals (try simp +contextual (maxDischargeDepth := 40) only [↓good_mk, ↓good_fold, ↓good_ite, ↓good_next, ↓goodO_ite, ↓good_foldl, ↓good_forEach, ↓good_setRg, ↓good_setFd, ↓good_refuse, ↓good_cmpArm, h, ite_self])
  all_goals (try grind [good_setRg, good_setFd, good_refuse, good_cmpArm, good_mk, good_fold, good_foldl, good_forEach])

theorem good_writeCmpPos {qq ll} {s : State} (k : Nat) (v : Word) (h : Good qq ll s) : Good qq ll (writeCmpPos k v s) := by
  unfold writeCmpPos
  try simp +contextual (maxDischargeDepth := 40) only [↓good_mk, ↓good_fold, ↓good_ite, ↓good_next, ↓goodO_ite, ↓good_foldl, ↓good_forEach, ↓good_setRg, ↓good_advance, ↓good_cmpSee, ↓good_cmpFire, ↓good_cmpTakeUp, h, ite_self]
  all_goals (repeat' split)
  all_goals (try simp +contextual (maxDischargeDepth := 40) only [↓good_mk, ↓good_fold, ↓good_ite, ↓good_next, ↓goodO_ite, ↓good_foldl, ↓good_forEach, ↓good_setRg, ↓good_advance, ↓good_cmpSee, ↓good_cmpFire, ↓good_cmpTakeUp, h, ite_self])
  all_goals (try grind [good_setRg, good_advance, good_cmpSee, good_cmpFire, good_cmpTakeUp, good_mk, good_fold, good_foldl, good_forEach])

theorem good_execCmpFire {qq ll} {s : State} (k : Nat) (rising : Bool) (dt : Nat) (h : Good qq ll s) : GoodO qq ll (execCmpFire k rising dt s) := by
  unfold execCmpFire
  try simp +contextual (maxDischargeDepth := 40) only [↓good_mk, ↓good_fold, ↓good_ite, ↓good_next, ↓goodO_ite, ↓good_foldl, ↓good_forEach, ↓good_advance, ↓good_cmpSee, ↓good_cmpFire, h, ite_self]
  all_goals (repeat' split)
  all_goals (try simp +contextual (maxDischargeDepth := 40) only [↓good_mk, ↓good_fold, ↓good_ite, ↓good_next, ↓goodO_ite, ↓good_foldl, ↓good_forEach, ↓good_advance, ↓good_cmpSee, ↓good_cmpFire, h, ite_self])
  all_goals (try grind [good_advance, good_cmpSee, good_cmpFire, good_mk, good_fold, good_foldl, good_forEach])

theorem good_execCmpArm {qq ll} {s : State} (q : Requester) (k : Nat) (v : Word) (h : Good qq ll s) : GoodO qq ll (execCmpArm q k v s) := by
  unfold execCmpArm
  exact good_write _ _ _ _ _ (fun _ h => good_writeCmpCtl _ _ _ h) h

theorem good_execCmpEnable {qq ll} {s : State} (q : Requester) (k : Nat) (v : Word) (h : Good qq ll s) : GoodO qq ll (execCmpEnable q k v s) := by
  unfold execCmpEnable
  exact good_write _ _ _ _ _ (fun _ h => good_writeCmpCtl _ _ _ h) h

theorem good_execCmpPosWrite {qq ll} {s : State} (q : Requester) (k : Nat) (v : Word) (h : Good qq ll s) : GoodO qq ll (execCmpPosWrite q k v s) := by
  unfold execCmpPosWrite
  exact good_write _ _ _ _ _ (fun _ h => good_writeCmpPos _ _ h) h

theorem good_execDriverPowerGood {qq ll} {s : State} (g : Nat) (dt : Nat) (h : Good qq ll s) : GoodO qq ll (execDriverPowerGood g dt s) := by
  unfold execDriverPowerGood
  try simp +contextual (maxDischargeDepth := 40) only [↓good_mk, ↓good_fold, ↓good_ite, ↓good_next, ↓goodO_ite, ↓good_foldl, ↓good_forEach, ↓good_advance, ↓good_setAxChan, h, ite_self]
  all_goals (repeat' split)
  all_goals (try simp +contextual (maxDischargeDepth := 40) only [↓good_mk, ↓good_fold, ↓good_ite, ↓good_next, ↓goodO_ite, ↓good_foldl, ↓good_forEach, ↓good_advance, ↓good_setAxChan, h, ite_self])
  all_goals (try grind [good_advance, good_setAxChan, good_mk, good_fold, good_foldl, good_forEach])

theorem good_execDriverLost {qq ll} {s : State} (g : Nat) (dt : Nat) (h : Good qq ll s) : GoodO qq ll (execDriverLost g dt s) := by
  unfold execDriverLost
  try simp +contextual (maxDischargeDepth := 40) only [↓good_mk, ↓good_fold, ↓good_ite, ↓good_next, ↓goodO_ite, ↓good_foldl, ↓good_forEach, ↓good_advance, ↓good_axToken, ↓good_stepSync, ↓good_stepHalt, h, ite_self]
  all_goals (repeat' split)
  all_goals (try simp +contextual (maxDischargeDepth := 40) only [↓good_mk, ↓good_fold, ↓good_ite, ↓good_next, ↓goodO_ite, ↓good_foldl, ↓good_forEach, ↓good_advance, ↓good_axToken, ↓good_stepSync, ↓good_stepHalt, h, ite_self])
  all_goals (try grind [good_advance, good_axToken, good_stepSync, good_stepHalt, good_mk, good_fold, good_foldl, good_forEach])

theorem good_execStall {qq ll} {s : State} (n : Nat) (h : Good qq ll s) : GoodO qq ll (execStall n s) := by
  unfold execStall
  repeat' first
    | with_reducible assumption
    | (intro s; refine (show Good qq ll s → _ from fun h => ?_) ?_ <;> [clear_value s; subst s])
    | (intro (x : MemState); subst x)
    | (intro x; clear_value x)
    | lift_lets
    | with_reducible refine good_next.mpr ?_
    | with_reducible refine good_forEach _ _ _ (fun a s h => ?_) ?_
    | split
  all_goals (have hw := good_memWf h)
  all_goals (first
    | (simp +contextual (maxDischargeDepth := 40) only [↓good_mk, ↓good_fold, ↓good_ite, ↓good_next, ↓goodO_ite, ↓good_foldl, ↓good_forEach, ↓good_raise, ↓good_advanceToTick, ↓good_axToken, ↓good_stallWatch, ↓good_stepSync, ↓good_stepHalt, h, hw, ite_self, ↓good_memC, memWf_mk, Memory.wf_writeN, Memory.wf_setNum, Memory.wf_splice, Memory.wf_clear, Memory.wf_copy, Memory.wf_nil, and_self]; done)
    | simp +contextual (maxDischargeDepth := 40) only [↓good_mk, ↓good_fold, ↓good_ite, ↓good_next, ↓goodO_ite, ↓good_foldl, ↓good_forEach, ↓good_raise, ↓good_advanceToTick, ↓good_axToken, ↓good_stallWatch, ↓good_stepSync, ↓good_stepHalt, ite_self, *, ↓good_memC, memWf_mk, Memory.wf_writeN, Memory.wf_setNum, Memory.wf_splice, Memory.wf_clear, Memory.wf_copy, Memory.wf_nil, and_self])

theorem good_writeAxCtl {qq ll} {s : State} (q : Requester) (n : Nat) (v : Word) (h : Good qq ll s) : Good qq ll (writeAxCtl q n v s) := by
  unfold writeAxCtl
  try simp +contextual (maxDischargeDepth := 40) only [↓good_mk, ↓good_fold, ↓good_ite, ↓good_next, ↓goodO_ite, ↓good_foldl, ↓good_forEach, ↓good_setRg, ↓good_setFd, ↓good_refuse, ↓good_setAxChan, ↓good_setAxState, ↓good_axStart, ↓good_fbHalt, ↓good_showDrvOk, h, ite_self]
  all_goals (repeat' split)
  all_goals (try simp +contextual (maxDischargeDepth := 40) only [↓good_mk, ↓good_fold, ↓good_ite, ↓good_next, ↓goodO_ite, ↓good_foldl, ↓good_forEach, ↓good_setRg, ↓good_setFd, ↓good_refuse, ↓good_setAxChan, ↓good_setAxState, ↓good_axStart, ↓good_fbHalt, ↓good_showDrvOk, h, ite_self])
  all_goals (try grind [good_setRg, good_setFd, good_refuse, good_setAxChan, good_setAxState, good_axStart, good_fbHalt, good_showDrvOk, good_mk, good_fold, good_foldl, good_forEach])

theorem good_execAxEnable {qq ll} {s : State} (q : Requester) (n : Nat) (v : Word) (h : Good qq ll s) : GoodO qq ll (execAxEnable q n v s) := by
  unfold execAxEnable
  exact good_write _ _ _ _ _ (fun _ h => good_writeAxCtl _ _ _ h) h

theorem good_execAxDisable {qq ll} {s : State} (q : Requester) (n : Nat) (v : Word) (h : Good qq ll s) : GoodO qq ll (execAxDisable q n v s) := by
  unfold execAxDisable
  exact good_write _ _ _ _ _ (fun _ h => good_writeAxCtl _ _ _ h) h

theorem good_stepEnable {qq ll} {s : State} (j : Nat) (h : Good qq ll s) : Good qq ll (State.stepEnable s j) := by
  unfold State.stepEnable
  try simp +contextual (maxDischargeDepth := 40) only [↓good_mk, ↓good_fold, ↓good_ite, ↓good_next, ↓goodO_ite, ↓good_foldl, ↓good_forEach, ↓good_setFd, ↓good_setAxChan, h, ite_self]
  all_goals (repeat' split)
  all_goals (try simp +contextual (maxDischargeDepth := 40) only [↓good_mk, ↓good_fold, ↓good_ite, ↓good_next, ↓goodO_ite, ↓good_foldl, ↓good_forEach, ↓good_setFd, ↓good_setAxChan, h, ite_self])
  all_goals (try grind [good_setFd, good_setAxChan, good_mk, good_fold, good_foldl, good_forEach])

theorem good_stepLines {qq ll} {s : State} (j : Nat) (w : Nat) (was : Bool) (h : Good qq ll s) : Good qq ll (State.stepLines s j w was) := by
  unfold State.stepLines
  try simp +contextual (maxDischargeDepth := 40) only [↓good_mk, ↓good_fold, ↓good_ite, ↓good_next, ↓goodO_ite, ↓good_foldl, ↓good_forEach, ↓good_setRg, ↓good_stepSync, h, ite_self]
  all_goals (repeat' split)
  all_goals (try simp +contextual (maxDischargeDepth := 40) only [↓good_mk, ↓good_fold, ↓good_ite, ↓good_next, ↓goodO_ite, ↓good_foldl, ↓good_forEach, ↓good_setRg, ↓good_stepSync, h, ite_self])
  all_goals (try grind [good_setRg, good_stepSync, good_mk, good_fold, good_foldl, good_forEach])

theorem good_writeStepCtl {qq ll} {s : State} (q : Requester) (j : Nat) (v : Word) (h : Good qq ll s) : Good qq ll (writeStepCtl q j v s) := by
  unfold writeStepCtl
  try simp +contextual (maxDischargeDepth := 40) only [↓good_mk, ↓good_fold, ↓good_ite, ↓good_next, ↓goodO_ite, ↓good_foldl, ↓good_forEach, ↓good_setFd, ↓good_refuse, ↓good_stepEnable, ↓good_stepLines, h, ite_self]
  all_goals (repeat' split)
  all_goals (try simp +contextual (maxDischargeDepth := 40) only [↓good_mk, ↓good_fold, ↓good_ite, ↓good_next, ↓goodO_ite, ↓good_foldl, ↓good_forEach, ↓good_setFd, ↓good_refuse, ↓good_stepEnable, ↓good_stepLines, h, ite_self])
  all_goals (try grind [good_setFd, good_refuse, good_stepEnable, good_stepLines, good_mk, good_fold, good_foldl, good_forEach])

theorem good_execStepOutputEnable {qq ll} {s : State} (q : Requester) (j : Nat) (v : Word) (h : Good qq ll s) : GoodO qq ll (execStepOutputEnable q j v s) := by
  unfold execStepOutputEnable
  exact good_write _ _ _ _ _ (fun _ h => good_writeStepCtl _ _ _ h) h

theorem good_execStepOutputDisable {qq ll} {s : State} (q : Requester) (j : Nat) (v : Word) (h : Good qq ll s) : GoodO qq ll (execStepOutputDisable q j v s) := by
  unfold execStepOutputDisable
  exact good_write _ _ _ _ _ (fun _ h => good_writeStepCtl _ _ _ h) h

end Sys2Proof.Machine
end

