-- ==== Sys2Proof/Laws/KeepsFeedback.lean ====
section
/-!
SUPPORT. What the operations of Machine/Feedback.lean keep.
-/

set_option linter.unusedSimpArgs false
set_option linter.unreachableTactic false
set_option linter.unusedTactic false

namespace Sys2Proof.Machine

theorem good_fbShow {qq ll} {s : State} (n : Nat) (h : Good qq ll s) : Good qq ll (State.fbShow s n) := by
  unfold State.fbShow
  try simp +contextual (maxDischargeDepth := 40) only [↓good_mk, ↓good_fold, ↓good_ite, ↓good_next, ↓goodO_ite, ↓good_foldl, ↓good_forEach, ↓good_setRg, h, ite_self]
  all_goals (repeat' split)
  all_goals (try simp +contextual (maxDischargeDepth := 40) only [↓good_mk, ↓good_fold, ↓good_ite, ↓good_next, ↓goodO_ite, ↓good_foldl, ↓good_forEach, ↓good_setRg, h, ite_self])
  all_goals (try grind [good_setRg, good_mk, good_fold, good_foldl, good_forEach])

theorem good_fbSeen {qq ll} {s : State} (n : Nat) (h : Good qq ll s) : Good qq ll (State.fbSeen s n) := by
  unfold State.fbSeen
  try simp +contextual (maxDischargeDepth := 40) only [↓good_mk, ↓good_fold, ↓good_ite, ↓good_next, ↓goodO_ite, ↓good_foldl, ↓good_forEach, ↓good_stallWatch, ↓good_stepSync, ↓good_cmpSeeAll, h, ite_self]
  all_goals (repeat' split)
  all_goals (try simp +contextual (maxDischargeDepth := 40) only [↓good_mk, ↓good_fold, ↓good_ite, ↓good_next, ↓goodO_ite, ↓good_foldl, ↓good_forEach, ↓good_stallWatch, ↓good_stepSync, ↓good_cmpSeeAll, h, ite_self])
  all_goals (try grind [good_stallWatch, good_stepSync, good_cmpSeeAll, good_mk, good_fold, good_foldl, good_forEach])

theorem good_setCount {qq ll} {s : State} (n : Nat) (v : Int) (h : Good qq ll s) : Good qq ll (State.setCount s n v) := by
  unfold State.setCount
  try simp +contextual (maxDischargeDepth := 40) only [↓good_mk, ↓good_fold, ↓good_ite, ↓good_next, ↓goodO_ite, ↓good_foldl, ↓good_forEach, ↓good_setRg, ↓good_fbShow, ↓good_fbSeen, h, ite_self]
  all_goals (repeat' split)
  all_goals (try simp +contextual (maxDischargeDepth := 40) only [↓good_mk, ↓good_fold, ↓good_ite, ↓good_next, ↓goodO_ite, ↓good_foldl, ↓good_forEach, ↓good_setRg, ↓good_fbShow, ↓good_fbSeen, h, ite_self])
  all_goals (try grind [good_setRg, good_fbShow, good_fbSeen, good_mk, good_fold, good_foldl, good_forEach])

theorem good_fbToken {qq ll} {s : State} (n : Nat) (ev : Nat) (code : Nat) (h : Good qq ll s) : Good qq ll (State.fbToken s n ev code) := by
  unfold State.fbToken
  try simp +contextual (maxDischargeDepth := 40) only [↓good_mk, ↓good_fold, ↓good_ite, ↓good_next, ↓goodO_ite, ↓good_foldl, ↓good_forEach, ↓good_hwToken, h, ite_self]
  all_goals (repeat' split)
  all_goals (try simp +contextual (maxDischargeDepth := 40) only [↓good_mk, ↓good_fold, ↓good_ite, ↓good_next, ↓goodO_ite, ↓good_foldl, ↓good_forEach, ↓good_hwToken, h, ite_self])
  all_goals (try grind [good_hwToken, good_mk, good_fold, good_foldl, good_forEach])

theorem good_fbRepeat {qq ll} {s : State} (n : Nat) (d : Int) (h : Good qq ll s) : Good qq ll (State.fbRepeat s n d) := by
  unfold State.fbRepeat
  try simp +contextual (maxDischargeDepth := 40) only [↓good_mk, ↓good_fold, ↓good_ite, ↓good_next, ↓goodO_ite, ↓good_foldl, ↓good_forEach, ↓good_raise, ↓good_setFbChan, h, ite_self]
  all_goals (repeat' split)
  all_goals (try simp +contextual (maxDischargeDepth := 40) only [↓good_mk, ↓good_fold, ↓good_ite, ↓good_next, ↓goodO_ite, ↓good_foldl, ↓good_forEach, ↓good_raise, ↓good_setFbChan, h, ite_self])
  all_goals (try grind [good_raise, good_setFbChan, good_mk, good_fold, good_foldl, good_forEach])

theorem good_countBy {qq ll} {s : State} (n : Nat) (d : Int) (h : Good qq ll s) : Good qq ll (State.countBy s n d) := by
  unfold State.countBy
  try simp +contextual (maxDischargeDepth := 40) only [↓good_mk, ↓good_fold, ↓good_ite, ↓good_next, ↓goodO_ite, ↓good_foldl, ↓good_forEach, ↓good_setCount, ↓good_fbRepeat, h, ite_self]
  all_goals (repeat' split)
  all_goals (try simp +contextual (maxDischargeDepth := 40) only [↓good_mk, ↓good_fold, ↓good_ite, ↓good_next, ↓goodO_ite, ↓good_foldl, ↓good_forEach, ↓good_setCount, ↓good_fbRepeat, h, ite_self])
  all_goals (try grind [good_setCount, good_fbRepeat, good_mk, good_fold, good_foldl, good_forEach])

theorem good_countLoad {qq ll} {s : State} (n : Nat) (v : Int) (h : Good qq ll s) : Good qq ll (State.countLoad s n v) := by
  unfold State.countLoad
  try simp +contextual (maxDischargeDepth := 40) only [↓good_mk, ↓good_fold, ↓good_ite, ↓good_next, ↓goodO_ite, ↓good_foldl, ↓good_forEach, ↓good_setFbChan, ↓good_setCount, h, ite_self]
  all_goals (repeat' split)
  all_goals (try simp +contextual (maxDischargeDepth := 40) only [↓good_mk, ↓good_fold, ↓good_ite, ↓good_next, ↓goodO_ite, ↓good_foldl, ↓good_forEach, ↓good_setFbChan, ↓good_setCount, h, ite_self])
  all_goals (try grind [good_setFbChan, good_setCount, good_mk, good_fold, good_foldl, good_forEach])

theorem good_fbFault {qq ll} {s : State} (n : Nat) (cause : Nat) (h : Good qq ll s) : Good qq ll (State.fbFault s n cause) := by
  unfold State.fbFault
  try simp +contextual (maxDischargeDepth := 40) only [↓good_mk, ↓good_fold, ↓good_ite, ↓good_next, ↓goodO_ite, ↓good_foldl, ↓good_forEach, ↓good_setFd, ↓good_setFbChan, ↓good_cmpDisarm, ↓good_fbHalt, ↓good_fbToken, h, ite_self]
  all_goals (repeat' split)
  all_goals (try simp +contextual (maxDischargeDepth := 40) only [↓good_mk, ↓good_fold, ↓good_ite, ↓good_next, ↓goodO_ite, ↓good_foldl, ↓good_forEach, ↓good_setFd, ↓good_setFbChan, ↓good_cmpDisarm, ↓good_fbHalt, ↓good_fbToken, h, ite_self])
  all_goals (try grind [good_setFd, good_setFbChan, good_cmpDisarm, good_fbHalt, good_fbToken, good_mk, good_fold, good_foldl, good_forEach])

theorem good_fbWindow {qq ll} {s : State} (n : Nat) (h : Good qq ll s) : Good qq ll (State.fbWindow s n) := by
  unfold State.fbWindow
  try simp +contextual (maxDischargeDepth := 40) only [↓good_mk, ↓good_fold, ↓good_ite, ↓good_next, ↓goodO_ite, ↓good_foldl, ↓good_forEach, ↓good_setFbChan, h, ite_self]
  all_goals (repeat' split)
  all_goals (try simp +contextual (maxDischargeDepth := 40) only [↓good_mk, ↓good_fold, ↓good_ite, ↓good_next, ↓goodO_ite, ↓good_foldl, ↓good_forEach, ↓good_setFbChan, h, ite_self])
  all_goals (try grind [good_setFbChan, good_mk, good_fold, good_foldl, good_forEach])

theorem good_fbIllegal {qq ll} {s : State} (n : Nat) (h : Good qq ll s) : Good qq ll (State.fbIllegal s n) := by
  unfold State.fbIllegal
  try simp +contextual (maxDischargeDepth := 40) only [↓good_mk, ↓good_fold, ↓good_ite, ↓good_next, ↓goodO_ite, ↓good_foldl, ↓good_forEach, ↓good_raise, ↓good_setFbChan, ↓good_fbFault, ↓good_fbWindow, h, ite_self]
  all_goals (repeat' split)
  all_goals (try simp +contextual (maxDischargeDepth := 40) only [↓good_mk, ↓good_fold, ↓good_ite, ↓good_next, ↓goodO_ite, ↓good_foldl, ↓good_forEach, ↓good_raise, ↓good_setFbChan, ↓good_fbFault, ↓good_fbWindow, h, ite_self])
  all_goals (try grind [good_raise, good_setFbChan, good_fbFault, good_fbWindow, good_mk, good_fold, good_foldl, good_forEach])

theorem good_fbFast {qq ll} {s : State} (n : Nat) (k : Nat) (h : Good qq ll s) : Good qq ll (State.fbFast s n k) := by
  unfold State.fbFast
  try simp +contextual (maxDischargeDepth := 40) only [↓good_mk, ↓good_fold, ↓good_ite, ↓good_next, ↓goodO_ite, ↓good_foldl, ↓good_forEach, ↓good_setFd, ↓good_raiseFlag, ↓good_setFbChan, ↓good_fbFault, ↓good_fbWindow, h, ite_self]
  all_goals (repeat' split)
  all_goals (try simp +contextual (maxDischargeDepth := 40) only [↓good_mk, ↓good_fold, ↓good_ite, ↓good_next, ↓goodO_ite, ↓good_foldl, ↓good_forEach, ↓good_setFd, ↓good_raiseFlag, ↓good_setFbChan, ↓good_fbFault, ↓good_fbWindow, h, ite_self])
  all_goals (try grind [good_setFd, good_raiseFlag, good_setFbChan, good_fbFault, good_fbWindow, good_mk, good_fold, good_foldl, good_forEach])

theorem good_fbFrameError {qq ll} {s : State} (n : Nat) (h : Good qq ll s) : Good qq ll (State.fbFrameError s n) := by
  unfold State.fbFrameError
  try simp +contextual (maxDischargeDepth := 40) only [↓good_mk, ↓good_fold, ↓good_ite, ↓good_next, ↓goodO_ite, ↓good_foldl, ↓good_forEach, ↓good_raise, ↓good_setFbChan, ↓good_fbFault, ↓good_fbWindow, h, ite_self]
  all_goals (repeat' split)
  all_goals (try simp +contextual (maxDischargeDepth := 40) only [↓good_mk, ↓good_fold, ↓good_ite, ↓good_next, ↓goodO_ite, ↓good_foldl, ↓good_forEach, ↓good_raise, ↓good_setFbChan, ↓good_fbFault, ↓good_fbWindow, h, ite_self])
  all_goals (try grind [good_raise, good_setFbChan, good_fbFault, good_fbWindow, good_mk, good_fold, good_foldl, good_forEach])

theorem good_fbEdge {qq ll} {s : State} (n : Nat) (d : Int) (h : Good qq ll s) : Good qq ll (State.fbEdge s n d) := by
  unfold State.fbEdge
  try simp +contextual (maxDischargeDepth := 40) only [↓good_mk, ↓good_fold, ↓good_ite, ↓good_next, ↓goodO_ite, ↓good_foldl, ↓good_forEach, ↓good_setRg, ↓good_setFd, ↓good_setFbChan, h, ite_self]
  all_goals (repeat' split)
  all_goals (try simp +contextual (maxDischargeDepth := 40) only [↓good_mk, ↓good_fold, ↓good_ite, ↓good_next, ↓goodO_ite, ↓good_foldl, ↓good_forEach, ↓good_setRg, ↓good_setFd, ↓good_setFbChan, h, ite_self])
  all_goals (try grind [good_setRg, good_setFd, good_setFbChan, good_mk, good_fold, good_foldl, good_forEach])

theorem good_fbDecode {qq ll} {s : State} (n : Nat) (frm : Nat) (dst : Nat) (h : Good qq ll s) : Good qq ll (State.fbDecode s n frm dst) := by
  unfold State.fbDecode
  try simp +contextual (maxDischargeDepth := 40) only [↓good_mk, ↓good_fold, ↓good_ite, ↓good_next, ↓goodO_ite, ↓good_foldl, ↓good_forEach, ↓good_countBy, ↓good_fbIllegal, ↓good_fbEdge, h, ite_self]
  all_goals (repeat' split)
  all_goals (try simp +contextual (maxDischargeDepth := 40) only [↓good_mk, ↓good_fold, ↓good_ite, ↓good_next, ↓goodO_ite, ↓good_foldl, ↓good_forEach, ↓good_countBy, ↓good_fbIllegal, ↓good_fbEdge, h, ite_self])
  all_goals (try grind [good_countBy, good_fbIllegal, good_fbEdge, good_mk, good_fold, good_foldl, good_forEach])

theorem good_fbIndex {qq ll} {s : State} (n : Nat) (lines : Nat) (h : Good qq ll s) : Good qq ll (State.fbIndex s n lines) := by
  unfold State.fbIndex
  try simp +contextual (maxDischargeDepth := 40) only [↓good_mk, ↓good_fold, ↓good_ite, ↓good_next, ↓goodO_ite, ↓good_foldl, ↓good_forEach, ↓good_setRg, ↓good_setFd, ↓good_raise, ↓good_setRg64, ↓good_setFbChan, ↓good_homingIndex, ↓good_fbToken, ↓good_countLoad, h, ite_self]
  all_goals (repeat' split)
  all_goals (try simp +contextual (maxDischargeDepth := 40) only [↓good_mk, ↓good_fold, ↓good_ite, ↓good_next, ↓goodO_ite, ↓good_foldl, ↓good_forEach, ↓good_setRg, ↓good_setFd, ↓good_raise, ↓good_setRg64, ↓good_setFbChan, ↓good_homingIndex, ↓good_fbToken, ↓good_countLoad, h, ite_self])
  all_goals (try grind [good_setRg, good_setFd, good_raise, good_setRg64, good_setFbChan, good_homingIndex, good_fbToken, good_countLoad, good_mk, good_fold, good_foldl, good_forEach])

theorem good_fbTake {qq ll} {s : State} (n : Nat) (h : Good qq ll s) : Good qq ll (State.fbTake s n) := by
  unfold State.fbTake
  try simp +contextual (maxDischargeDepth := 40) only [↓good_mk, ↓good_fold, ↓good_ite, ↓good_next, ↓goodO_ite, ↓good_foldl, ↓good_forEach, ↓good_setFbChan, ↓good_fbDecode, ↓good_fbIndex, h, ite_self]
  all_goals (repeat' split)
  all_goals (try simp +contextual (maxDischargeDepth := 40) only [↓good_mk, ↓good_fold, ↓good_ite, ↓good_next, ↓goodO_ite, ↓good_foldl, ↓good_forEach, ↓good_setFbChan, ↓good_fbDecode, ↓good_fbIndex, h, ite_self])
  all_goals (try grind [good_setFbChan, good_fbDecode, good_fbIndex, good_mk, good_fold, good_foldl, good_forEach])

theorem good_fbRaw {qq ll} {s : State} (n : Nat) (raw : Nat) (hold : Nat) (h : Good qq ll s) : Good qq ll (State.fbRaw s n raw hold) := by
  unfold State.fbRaw
  repeat' first
    | with_reducible assumption
    | (intro s; refine (show Good qq ll s → _ from fun h => ?_) ?_ <;> [clear_value s; subst s])
    | (intro (x : MemState); subst x)
    | (intro x; clear_value x)
    | lift_lets
    | with_reducible refine good_next.mpr ?_
    | with_reducible refine good_forEach _ _ _ (fun a s h => ?_) ?_
    | split
  all_goals (have hw := good_memWf h)
  all_goals (first
    | (simp +contextual (maxDischargeDepth := 40) only [↓good_mk, ↓good_fold, ↓good_ite, ↓good_next, ↓goodO_ite, ↓good_foldl, ↓good_forEach, ↓good_advanceToTick, ↓good_setFbChan, ↓good_fbFast, ↓good_fbTake, h, hw, ite_self, ↓good_memC, memWf_mk, Memory.wf_writeN, Memory.wf_setNum, Memory.wf_splice, Memory.wf_clear, Memory.wf_copy, Memory.wf_nil, and_self]; done)
    | simp +contextual (maxDischargeDepth := 40) only [↓good_mk, ↓good_fold, ↓good_ite, ↓good_next, ↓goodO_ite, ↓good_foldl, ↓good_forEach, ↓good_advanceToTick, ↓good_setFbChan, ↓good_fbFast, ↓good_fbTake, ite_self, *, ↓good_memC, memWf_mk, Memory.wf_writeN, Memory.wf_setNum, Memory.wf_splice, Memory.wf_clear, Memory.wf_copy, Memory.wf_nil, and_self])

theorem good_execFbFastEdge {qq ll} {s : State} (n : Nat) (dt : Nat) (h : Good qq ll s) : GoodO qq ll (execFbFastEdge n dt s) := by
  unfold execFbFastEdge
  try simp +contextual (maxDischargeDepth := 40) only [↓good_mk, ↓good_fold, ↓good_ite, ↓good_next, ↓goodO_ite, ↓good_foldl, ↓good_forEach, ↓good_advance, ↓good_fbFast, h, ite_self]
  all_goals (repeat' split)
  all_goals (try simp +contextual (maxDischargeDepth := 40) only [↓good_mk, ↓good_fold, ↓good_ite, ↓good_next, ↓goodO_ite, ↓good_foldl, ↓good_forEach, ↓good_advance, ↓good_fbFast, h, ite_self])
  all_goals (try grind [good_advance, good_fbFast, good_mk, good_fold, good_foldl, good_forEach])

theorem good_fbCycle {qq ll} {s : State} (n : Nat) (h : Good qq ll s) : Good qq ll (State.fbCycle s n) := by
  unfold State.fbCycle
  try simp +contextual (maxDischargeDepth := 40) only [↓good_mk, ↓good_fold, ↓good_ite, ↓good_next, ↓goodO_ite, ↓good_foldl, ↓good_forEach, ↓good_setRg, ↓good_setFd, ↓good_setFbChan, h, ite_self]
  all_goals (repeat' split)
  all_goals (try simp +contextual (maxDischargeDepth := 40) only [↓good_mk, ↓good_fold, ↓good_ite, ↓good_next, ↓goodO_ite, ↓good_foldl, ↓good_forEach, ↓good_setRg, ↓good_setFd, ↓good_setFbChan, h, ite_self])
  all_goals (try grind [good_setRg, good_setFd, good_setFbChan, good_mk, good_fold, good_foldl, good_forEach])

theorem good_fbCycles {qq ll} {s : State} (h : Good qq ll s) : Good qq ll (State.fbCycles s) := by
  unfold State.fbCycles
  try simp +contextual (maxDischargeDepth := 40) only [↓good_mk, ↓good_fold, ↓good_ite, ↓good_next, ↓goodO_ite, ↓good_foldl, ↓good_forEach, ↓good_fbCycle, h, ite_self]
  all_goals (repeat' split)
  all_goals (try simp +contextual (maxDischargeDepth := 40) only [↓good_mk, ↓good_fold, ↓good_ite, ↓good_next, ↓goodO_ite, ↓good_foldl, ↓good_forEach, ↓good_fbCycle, h, ite_self])
  all_goals (try grind [good_fbCycle, good_mk, good_fold, good_foldl, good_forEach])

theorem good_execFbStillTimeout {qq ll} {s : State} (n : Nat) (h : Good qq ll s) : GoodO qq ll (execFbStillTimeout n s) := by
  unfold execFbStillTimeout
  try simp +contextual (maxDischargeDepth := 40) only [↓good_mk, ↓good_fold, ↓good_ite, ↓good_next, ↓goodO_ite, ↓good_foldl, ↓good_forEach, ↓good_setRg, ↓good_setFd, ↓good_advanceToTick, h, ite_self]
  all_goals (repeat' split)
  all_goals (try simp +contextual (maxDischargeDepth := 40) only [↓good_mk, ↓good_fold, ↓good_ite, ↓good_next, ↓goodO_ite, ↓good_foldl, ↓good_forEach, ↓good_setRg, ↓good_setFd, ↓good_advanceToTick, h, ite_self])
  all_goals (try grind [good_setRg, good_setFd, good_advanceToTick, good_mk, good_fold, good_foldl, good_forEach])

theorem good_execSsiReadStart {qq ll} {s : State} (n : Nat) (h : Good qq ll s) : GoodO qq ll (execSsiReadStart n s) := by
  unfold execSsiReadStart
  try simp +contextual (maxDischargeDepth := 40) only [↓good_mk, ↓good_fold, ↓good_ite, ↓good_next, ↓goodO_ite, ↓good_foldl, ↓good_forEach, ↓good_advanceTo, ↓good_setFbChan, h, ite_self]
  all_goals (repeat' split)
  all_goals (try simp +contextual (maxDischargeDepth := 40) only [↓good_mk, ↓good_fold, ↓good_ite, ↓good_next, ↓goodO_ite, ↓good_foldl, ↓good_forEach, ↓good_advanceTo, ↓good_setFbChan, h, ite_self])
  all_goals (try grind [good_advanceTo, good_setFbChan, good_mk, good_fold, good_foldl, good_forEach])

theorem good_ssiEnd {qq ll} {s : State} (n : Nat) (t : Nat) (low : Bool) (field : Nat) (errs : Nat) (trail : Bool) (h : Good qq ll s) : Good qq ll (State.ssiEnd s n t low field errs trail) := by
  unfold State.ssiEnd
  try simp +contextual (maxDischargeDepth := 40) only [↓good_mk, ↓good_fold, ↓good_ite, ↓good_next, ↓goodO_ite, ↓good_foldl, ↓good_forEach, ↓good_setRg, ↓good_setFd, ↓good_setFbChan, ↓good_setCount, ↓good_countBy, ↓good_fbFrameError, h, ite_self]
  all_goals (repeat' split)
  all_goals (try simp +contextual (maxDischargeDepth := 40) only [↓good_mk, ↓good_fold, ↓good_ite, ↓good_next, ↓goodO_ite, ↓good_foldl, ↓good_forEach, ↓good_setRg, ↓good_setFd, ↓good_setFbChan, ↓good_setCount, ↓good_countBy, ↓good_fbFrameError, h, ite_self])
  all_goals (try grind [good_setRg, good_setFd, good_setFbChan, good_setCount, good_countBy, good_fbFrameError, good_mk, good_fold, good_foldl, good_forEach])

theorem good_wireSeen {qq ll} {s : State} (n : Nat) (l : Nat) (disagree : Bool) (hold : Nat) (h : Good qq ll s) : Good qq ll (State.wireSeen s n l disagree hold) := by
  unfold State.wireSeen
  try simp +contextual (maxDischargeDepth := 40) only [↓good_mk, ↓good_fold, ↓good_ite, ↓good_next, ↓goodO_ite, ↓good_foldl, ↓good_forEach, ↓good_raise, ↓good_advance, ↓good_advanceToTick, ↓good_setFbChan, h, ite_self]
  all_goals (repeat' split)
  all_goals (try simp +contextual (maxDischargeDepth := 40) only [↓good_mk, ↓good_fold, ↓good_ite, ↓good_next, ↓goodO_ite, ↓good_foldl, ↓good_forEach, ↓good_raise, ↓good_advance, ↓good_advanceToTick, ↓good_setFbChan, h, ite_self])
  all_goals (try grind [good_raise, good_advance, good_advanceToTick, good_setFbChan, good_mk, good_fold, good_foldl, good_forEach])

theorem good_execWireFault {qq ll} {s : State} (n : Nat) (l : Nat) (h : Good qq ll s) : GoodO qq ll (execWireFault n l s) := by
  unfold execWireFault
  try simp +contextual (maxDischargeDepth := 40) only [↓good_mk, ↓good_fold, ↓good_ite, ↓good_next, ↓goodO_ite, ↓good_foldl, ↓good_forEach, ↓good_advanceToTick, ↓good_fbFault, h, ite_self]
  all_goals (repeat' split)
  all_goals (try simp +contextual (maxDischargeDepth := 40) only [↓good_mk, ↓good_fold, ↓good_ite, ↓good_next, ↓goodO_ite, ↓good_foldl, ↓good_forEach, ↓good_advanceToTick, ↓good_fbFault, h, ite_self])
  all_goals (try grind [good_advanceToTick, good_fbFault, good_mk, good_fold, good_foldl, good_forEach])

theorem good_putAmp {qq ll} {s : State} (f : Field) (n : Nat) (v : Option Nat) (h : Good qq ll s) : Good qq ll (State.putAmp s f n v) := by
  unfold State.putAmp
  try simp +contextual (maxDischargeDepth := 40) only [↓good_mk, ↓good_fold, ↓good_ite, ↓good_next, ↓goodO_ite, ↓good_foldl, ↓good_forEach, ↓good_setFd, h, ite_self]
  all_goals (repeat' split)
  all_goals (try simp +contextual (maxDischargeDepth := 40) only [↓good_mk, ↓good_fold, ↓good_ite, ↓good_next, ↓goodO_ite, ↓good_foldl, ↓good_forEach, ↓good_setFd, h, ite_self])
  all_goals (try grind [good_setFd, good_mk, good_fold, good_foldl, good_forEach])

theorem good_execThresholdWindow {qq ll} {s : State} (n : Nat) (a : Option Nat) (b : Option Nat) (z : Option Nat) (beyond : Bool) (h : Good qq ll s) : GoodO qq ll (execThresholdWindow n a b z beyond s) := by
  unfold execThresholdWindow
  repeat' first
    | with_reducible assumption
    | (intro s; refine (show Good qq ll s → _ from fun h => ?_) ?_ <;> [clear_value s; subst s])
    | (intro (x : MemState); subst x)
    | (intro x; clear_value x)
    | lift_lets
    | with_reducible refine good_next.mpr ?_
    | with_reducible refine good_forEach _ _ _ (fun a s h => ?_) ?_
    | split
  all_goals (have hw := good_memWf h)
  all_goals (first
    | (simp +contextual (maxDischargeDepth := 40) only [↓good_mk, ↓good_fold, ↓good_ite, ↓good_next, ↓goodO_ite, ↓good_foldl, ↓good_forEach, ↓good_setFd, ↓good_raise, ↓good_advanceToTick, ↓good_setFbChan, ↓good_fbToken, ↓good_putAmp, h, hw, ite_self, ↓good_memC, memWf_mk, Memory.wf_writeN, Memory.wf_setNum, Memory.wf_splice, Memory.wf_clear, Memory.wf_copy, Memory.wf_nil, and_self]; done)
    | simp +contextual (maxDischargeDepth := 40) only [↓good_mk, ↓good_fold, ↓good_ite, ↓good_next, ↓goodO_ite, ↓good_foldl, ↓good_forEach, ↓good_setFd, ↓good_raise, ↓good_advanceToTick, ↓good_setFbChan, ↓good_fbToken, ↓good_putAmp, ite_self, *, ↓good_memC, memWf_mk, Memory.wf_writeN, Memory.wf_setNum, Memory.wf_splice, Memory.wf_clear, Memory.wf_copy, Memory.wf_nil, and_self])

theorem good_writeFbCfg {qq ll} {s : State} (q : Requester) (n : Nat) (v : Word) (h : Good qq ll s) : Good qq ll (writeFbCfg q n v s) := by
  unfold writeFbCfg
  try simp +contextual (maxDischargeDepth := 40) only [↓good_mk, ↓good_fold, ↓good_ite, ↓good_next, ↓goodO_ite, ↓good_foldl, ↓good_forEach, ↓good_setRg, ↓good_setFd, ↓good_refuse, ↓good_setFbChan, ↓good_cmpDisarm, ↓good_setCount, h, ite_self]
  all_goals (repeat' split)
  all_goals (try simp +contextual (maxDischargeDepth := 40) only [↓good_mk, ↓good_fold, ↓good_ite, ↓good_next, ↓goodO_ite, ↓good_foldl, ↓good_forEach, ↓good_setRg, ↓good_setFd, ↓good_refuse, ↓good_setFbChan, ↓good_cmpDisarm, ↓good_setCount, h, ite_self])
  all_goals (try grind [good_setRg, good_setFd, good_refuse, good_setFbChan, good_cmpDisarm, good_setCount, good_mk, good_fold, good_foldl, good_forEach])

theorem good_writeFbParam {qq ll} {s : State} (q : Requester) (r : Reg) (n : Nat) (v : Word) (h : Good qq ll s) : Good qq ll (writeFbParam q r n v s) := by
  unfold writeFbParam
  try simp +contextual (maxDischargeDepth := 40) only [↓good_mk, ↓good_fold, ↓good_ite, ↓good_next, ↓goodO_ite, ↓good_foldl, ↓good_forEach, ↓good_setRg, ↓good_refuse, ↓good_fbShow, h, ite_self]
  all_goals (repeat' split)
  all_goals (try simp +contextual (maxDischargeDepth := 40) only [↓good_mk, ↓good_fold, ↓good_ite, ↓good_next, ↓goodO_ite, ↓good_foldl, ↓good_forEach, ↓good_setRg, ↓good_refuse, ↓good_fbShow, h, ite_self])
  all_goals (try grind [good_setRg, good_refuse, good_fbShow, good_mk, good_fold, good_foldl, good_forEach])

theorem good_writeFbCmd {qq ll} {s : State} (q : Requester) (n : Nat) (v : Word) (h : Good qq ll s) : Good qq ll (writeFbCmd q n v s) := by
  unfold writeFbCmd
  try simp +contextual (maxDischargeDepth := 40) only [↓good_mk, ↓good_fold, ↓good_ite, ↓good_next, ↓goodO_ite, ↓good_foldl, ↓good_forEach, ↓good_setFd, ↓good_refuse, ↓good_advanceToTick, ↓good_setFbChan, ↓good_countLoad, h, ite_self]
  all_goals (repeat' split)
  all_goals (try simp +contextual (maxDischargeDepth := 40) only [↓good_mk, ↓good_fold, ↓good_ite, ↓good_next, ↓goodO_ite, ↓good_foldl, ↓good_forEach, ↓good_setFd, ↓good_refuse, ↓good_advanceToTick, ↓good_setFbChan, ↓good_countLoad, h, ite_self])
  all_goals (try grind [good_setFd, good_refuse, good_advanceToTick, good_setFbChan, good_countLoad, good_mk, good_fold, good_foldl, good_forEach])

theorem good_execFbArmIdx {qq ll} {s : State} (q : Requester) (n : Nat) (h : Good qq ll s) : GoodO qq ll (execFbArmIdx q n s) := by
  unfold execFbArmIdx
  exact good_write _ _ _ _ _ (fun _ h => good_writeFbCmd _ _ _ h) h

theorem good_execFbLoad {qq ll} {s : State} (q : Requester) (n : Nat) (h : Good qq ll s) : GoodO qq ll (execFbLoad q n s) := by
  unfold execFbLoad
  exact good_write _ _ _ _ _ (fun _ h => good_writeFbCmd _ _ _ h) h

theorem good_execFbClear {qq ll} {s : State} (q : Requester) (n : Nat) (h : Good qq ll s) : GoodO qq ll (execFbClear q n s) := by
  unfold execFbClear
  exact good_write _ _ _ _ _ (fun _ h => good_writeFbCmd _ _ _ h) h

theorem good_execFbEnable {qq ll} {s : State} (q : Requester) (n : Nat) (v : Word) (h : Good qq ll s) : GoodO qq ll (execFbEnable q n v s) := by
  unfold execFbEnable
  exact good_write _ _ _ _ _ (fun _ h => good_writeFbCfg _ _ _ h) h

end Sys2Proof.Machine
end

