-- ==== Sys2Proof/Laws/KeepsThallus.lean ====
section
/-!
SUPPORT. What the operations of Machine/Thallus.lean keep.
-/

set_option linter.unusedSimpArgs false
set_option linter.unreachableTactic false
set_option linter.unusedTactic false

namespace Sys2Proof.Machine

theorem good_setThGroup {qq ll} {s : State} (g : Nat) (x : ThGroup) (h : Good qq ll s) : Good qq ll (State.setThGroup s g x) := by
  unfold State.setThGroup
  try simp +contextual (maxDischargeDepth := 40) only [↓good_mk, ↓good_fold, ↓good_ite, ↓good_next, ↓goodO_ite, ↓good_foldl, ↓good_forEach, h, ite_self]
  all_goals (repeat' split)
  all_goals (try simp +contextual (maxDischargeDepth := 40) only [↓good_mk, ↓good_fold, ↓good_ite, ↓good_next, ↓goodO_ite, ↓good_foldl, ↓good_forEach, h, ite_self])
  all_goals (try grind [good_mk, good_fold, good_foldl, good_forEach])

theorem good_thFault {qq ll} {s : State} (cause : Nat) (cls : Nat) (item : Nat) (unit : Nat) (h : Good qq ll s) : Good qq ll (State.thFault s cause cls item unit) := by
  unfold State.thFault
  try simp +contextual (maxDischargeDepth := 40) only [↓good_mk, ↓good_fold, ↓good_ite, ↓good_next, ↓goodO_ite, ↓good_foldl, ↓good_forEach, ↓good_setRg, h, ite_self]
  all_goals (repeat' split)
  all_goals (try simp +contextual (maxDischargeDepth := 40) only [↓good_mk, ↓good_fold, ↓good_ite, ↓good_next, ↓goodO_ite, ↓good_foldl, ↓good_forEach, ↓good_setRg, h, ite_self])
  all_goals (try grind [good_setRg, good_mk, good_fold, good_foldl, good_forEach])

theorem good_thDeg {qq ll} {s : State} (h : Good qq ll s) : Good qq ll (State.thDeg s) := by
  unfold State.thDeg
  try simp +contextual (maxDischargeDepth := 40) only [↓good_mk, ↓good_fold, ↓good_ite, ↓good_next, ↓goodO_ite, ↓good_foldl, ↓good_forEach, ↓good_setRg, h, ite_self]
  all_goals (repeat' split)
  all_goals (try simp +contextual (maxDischargeDepth := 40) only [↓good_mk, ↓good_fold, ↓good_ite, ↓good_next, ↓goodO_ite, ↓good_foldl, ↓good_forEach, ↓good_setRg, h, ite_self])
  all_goals (try grind [good_setRg, good_mk, good_fold, good_foldl, good_forEach])

theorem good_thRecord {qq ll} {s : State} (h : Good qq ll s) : Good qq ll (State.thRecord s) := by
  unfold State.thRecord
  try simp +contextual (maxDischargeDepth := 40) only [↓good_mk, ↓good_fold, ↓good_ite, ↓good_next, ↓goodO_ite, ↓good_foldl, ↓good_forEach, h, ite_self]
  all_goals (repeat' split)
  all_goals (try simp +contextual (maxDischargeDepth := 40) only [↓good_mk, ↓good_fold, ↓good_ite, ↓good_next, ↓goodO_ite, ↓good_foldl, ↓good_forEach, h, ite_self])
  all_goals (try grind [good_mk, good_fold, good_foldl, good_forEach])

theorem good_addFault {qq ll} {s : State} (item : Nat) (unit : Nat) (need : Nat) (h : Good qq ll s) : Good qq ll (State.addFault s item unit need) := by
  unfold State.addFault
  try simp +contextual (maxDischargeDepth := 40) only [↓good_mk, ↓good_fold, ↓good_ite, ↓good_next, ↓goodO_ite, ↓good_foldl, ↓good_forEach, ↓good_thDeg, ↓good_thRecord, h, ite_self]
  all_goals (repeat' split)
  all_goals (try simp +contextual (maxDischargeDepth := 40) only [↓good_mk, ↓good_fold, ↓good_ite, ↓good_next, ↓goodO_ite, ↓good_foldl, ↓good_forEach, ↓good_thDeg, ↓good_thRecord, h, ite_self])
  all_goals (try grind [good_thDeg, good_thRecord, good_mk, good_fold, good_foldl, good_forEach])

theorem good_passFault {qq ll} {s : State} (item : Nat) (unit : Nat) (h : Good qq ll s) : Good qq ll (State.passFault s item unit) := by
  unfold State.passFault
  try simp +contextual (maxDischargeDepth := 40) only [↓good_mk, ↓good_fold, ↓good_ite, ↓good_next, ↓goodO_ite, ↓good_foldl, ↓good_forEach, ↓good_thDeg, ↓good_thRecord, h, ite_self]
  all_goals (repeat' split)
  all_goals (try simp +contextual (maxDischargeDepth := 40) only [↓good_mk, ↓good_fold, ↓good_ite, ↓good_next, ↓goodO_ite, ↓good_foldl, ↓good_forEach, ↓good_thDeg, ↓good_thRecord, h, ite_self])
  all_goals (try grind [good_thDeg, good_thRecord, good_mk, good_fold, good_foldl, good_forEach])

theorem good_emptyStaging {qq ll} {s : State} (h : Good qq ll s) : Good qq ll (State.emptyStaging s) := by
  unfold State.emptyStaging
  have hw := good_memWf h
  simp +contextual (maxDischargeDepth := 40) only [↓good_mk, ↓good_fold, ↓good_ite, ↓good_next, ↓goodO_ite, ↓good_foldl, ↓good_forEach, h, good_memWf h, ↓good_memC, memWf_mk, Memory.wf_writeN, Memory.wf_setNum, Memory.wf_splice, Memory.wf_clear, Memory.wf_copy, Memory.wf_nil, and_self]

theorem good_mbClose {qq ll} {s : State} (h : Good qq ll s) : Good qq ll (State.mbClose s) := by
  unfold State.mbClose
  try simp +contextual (maxDischargeDepth := 40) only [↓good_mk, ↓good_fold, ↓good_ite, ↓good_next, ↓goodO_ite, ↓good_foldl, ↓good_forEach, ↓good_setFd, ↓good_emptyStaging, h, ite_self]
  all_goals (repeat' split)
  all_goals (try simp +contextual (maxDischargeDepth := 40) only [↓good_mk, ↓good_fold, ↓good_ite, ↓good_next, ↓goodO_ite, ↓good_foldl, ↓good_forEach, ↓good_setFd, ↓good_emptyStaging, h, ite_self])
  all_goals (try grind [good_setFd, good_emptyStaging, good_mk, good_fold, good_foldl, good_forEach])

theorem good_keyCheck {qq ll} {s : State} (h : Good qq ll s) : Good qq ll (State.keyCheck s) := by
  unfold State.keyCheck
  try simp +contextual (maxDischargeDepth := 40) only [↓good_mk, ↓good_fold, ↓good_ite, ↓good_next, ↓goodO_ite, ↓good_foldl, ↓good_forEach, ↓good_mbClose, h, ite_self]
  all_goals (repeat' split)
  all_goals (try simp +contextual (maxDischargeDepth := 40) only [↓good_mk, ↓good_fold, ↓good_ite, ↓good_next, ↓goodO_ite, ↓good_foldl, ↓good_forEach, ↓good_mbClose, h, ite_self])
  all_goals (try grind [good_mbClose, good_mk, good_fold, good_foldl, good_forEach])

theorem good_mbTouch {qq ll} {s : State} (h : Good qq ll s) : Good qq ll (State.mbTouch s) := by
  unfold State.mbTouch
  try simp +contextual (maxDischargeDepth := 40) only [↓good_mk, ↓good_fold, ↓good_ite, ↓good_next, ↓goodO_ite, ↓good_foldl, ↓good_forEach, h, ite_self]
  all_goals (repeat' split)
  all_goals (try simp +contextual (maxDischargeDepth := 40) only [↓good_mk, ↓good_fold, ↓good_ite, ↓good_next, ↓goodO_ite, ↓good_foldl, ↓good_forEach, h, ite_self])
  all_goals (try grind [good_mk, good_fold, good_foldl, good_forEach])

theorem good_mbWrong {qq ll} {s : State} (q : Requester) (h : Good qq ll s) : Good qq ll (State.mbWrong s q) := by
  unfold State.mbWrong
  try simp +contextual (maxDischargeDepth := 40) only [↓good_mk, ↓good_fold, ↓good_ite, ↓good_next, ↓goodO_ite, ↓good_foldl, ↓good_forEach, ↓good_refuse, h, ite_self]
  all_goals (repeat' split)
  all_goals (try simp +contextual (maxDischargeDepth := 40) only [↓good_mk, ↓good_fold, ↓good_ite, ↓good_next, ↓goodO_ite, ↓good_foldl, ↓good_forEach, ↓good_refuse, h, ite_self])
  all_goals (try grind [good_refuse, good_mk, good_fold, good_foldl, good_forEach])

theorem good_writeMbCmd {qq ll} {s : State} (q : Requester) (v : Word) (h : Good qq ll s) : Good qq ll (writeMbCmd q v s) := by
  unfold writeMbCmd
  try simp +contextual (maxDischargeDepth := 40) only [↓good_mk, ↓good_fold, ↓good_ite, ↓good_next, ↓goodO_ite, ↓good_foldl, ↓good_forEach, ↓good_setFd, ↓good_incFd, ↓good_refuse, ↓good_emptyStaging, ↓good_mbClose, ↓good_mbTouch, ↓good_mbWrong, h, ite_self]
  all_goals (repeat' split)
  all_goals (try simp +contextual (maxDischargeDepth := 40) only [↓good_mk, ↓good_fold, ↓good_ite, ↓good_next, ↓goodO_ite, ↓good_foldl, ↓good_forEach, ↓good_setFd, ↓good_incFd, ↓good_refuse, ↓good_emptyStaging, ↓good_mbClose, ↓good_mbTouch, ↓good_mbWrong, h, ite_self])
  all_goals (try grind [good_setFd, good_incFd, good_refuse, good_emptyStaging, good_mbClose, good_mbTouch, good_mbWrong, good_mk, good_fold, good_foldl, good_forEach])

theorem good_writeMbData {qq ll} {s : State} (q : Requester) (v : Word) (h : Good qq ll s) : Good qq ll (writeMbData q v s) := by
  unfold writeMbData
  repeat' first
    | with_reducible assumption
    | (intro s; refine (show Good qq ll s → _ from fun h => ?_) ?_ <;> [clear_value s; subst s])
    | (intro (x : MemState); subst x)
    | (intro x; clear_value x)
    | lift_lets
    | with_reducible refine good_next.mpr ?_
    | with_reducible refine good_forEach _ _ _ (fun a s h => ?_) ?_
    | split
  all_goals (have hw := good_memWf h)
  all_goals (first
    | (simp +contextual (maxDischargeDepth := 40) only [↓good_mk, ↓good_fold, ↓good_ite, ↓good_next, ↓goodO_ite, ↓good_foldl, ↓good_forEach, ↓good_setRg, ↓good_setFd, ↓good_refuse, ↓good_mbTouch, h, hw, ite_self, ↓good_memC, memWf_mk, Memory.wf_writeN, Memory.wf_setNum, Memory.wf_splice, Memory.wf_clear, Memory.wf_copy, Memory.wf_nil, and_self]; done)
    | simp +contextual (maxDischargeDepth := 40) only [↓good_mk, ↓good_fold, ↓good_ite, ↓good_next, ↓goodO_ite, ↓good_foldl, ↓good_forEach, ↓good_setRg, ↓good_setFd, ↓good_refuse, ↓good_mbTouch, ite_self, *, ↓good_memC, memWf_mk, Memory.wf_writeN, Memory.wf_setNum, Memory.wf_splice, Memory.wf_clear, Memory.wf_copy, Memory.wf_nil, and_self])

theorem good_writeMbAddr {qq ll} {s : State} (q : Requester) (v : Word) (h : Good qq ll s) : Good qq ll (writeMbAddr q v s) := by
  unfold writeMbAddr
  try simp +contextual (maxDischargeDepth := 40) only [↓good_mk, ↓good_fold, ↓good_ite, ↓good_next, ↓goodO_ite, ↓good_foldl, ↓good_forEach, ↓good_setFd, ↓good_refuse, ↓good_mbTouch, h, ite_self]
  all_goals (repeat' split)
  all_goals (try simp +contextual (maxDischargeDepth := 40) only [↓good_mk, ↓good_fold, ↓good_ite, ↓good_next, ↓goodO_ite, ↓good_foldl, ↓good_forEach, ↓good_setFd, ↓good_refuse, ↓good_mbTouch, h, ite_self])
  all_goals (try grind [good_setFd, good_refuse, good_mbTouch, good_mk, good_fold, good_foldl, good_forEach])

theorem good_writeMbConfirm {qq ll} {s : State} (v : Word) (h : Good qq ll s) : Good qq ll (writeMbConfirm v s) := by
  unfold writeMbConfirm
  try simp +contextual (maxDischargeDepth := 40) only [↓good_mk, ↓good_fold, ↓good_ite, ↓good_next, ↓goodO_ite, ↓good_foldl, ↓good_forEach, ↓good_setRg, ↓good_mbTouch, h, ite_self]
  all_goals (repeat' split)
  all_goals (try simp +contextual (maxDischargeDepth := 40) only [↓good_mk, ↓good_fold, ↓good_ite, ↓good_next, ↓goodO_ite, ↓good_foldl, ↓good_forEach, ↓good_setRg, ↓good_mbTouch, h, ite_self])
  all_goals (try grind [good_setRg, good_mbTouch, good_mk, good_fold, good_foldl, good_forEach])

theorem good_execMbOpen {qq ll} {s : State} (q : Requester) (h : Good qq ll s) : GoodO qq ll (execMbOpen q s) := by
  unfold execMbOpen
  exact good_write _ _ _ _ _ (fun _ h => good_writeMbCmd _ _ h) h

theorem good_execMbData {qq ll} {s : State} (q : Requester) (v : Word) (h : Good qq ll s) : GoodO qq ll (execMbData q v s) := by
  unfold execMbData
  exact good_write _ _ _ _ _ (fun _ h => good_writeMbData _ _ h) h

theorem good_execMbCheck {qq ll} {s : State} (q : Requester) (h : Good qq ll s) : GoodO qq ll (execMbCheck q s) := by
  unfold execMbCheck
  exact good_write _ _ _ _ _ (fun _ h => good_writeMbCmd _ _ h) h

theorem good_mbError {qq ll} {s : State} (f : SetFail) (h : Good qq ll s) : Good qq ll (State.mbError s f) := by
  unfold State.mbError
  try simp +contextual (maxDischargeDepth := 40) only [↓good_mk, ↓good_fold, ↓good_ite, ↓good_next, ↓goodO_ite, ↓good_foldl, ↓good_forEach, ↓good_setRg, h, ite_self]
  all_goals (repeat' split)
  all_goals (try simp +contextual (maxDischargeDepth := 40) only [↓good_mk, ↓good_fold, ↓good_ite, ↓good_next, ↓goodO_ite, ↓good_foldl, ↓good_forEach, ↓good_setRg, h, ite_self])
  all_goals (try grind [good_setRg, good_mk, good_fold, good_foldl, good_forEach])

theorem good_execMbCheckComplete {qq ll} {s : State} (h : Good qq ll s) : GoodO qq ll (execMbCheckComplete s) := by
  unfold execMbCheckComplete
  try simp +contextual (maxDischargeDepth := 40) only [↓good_mk, ↓good_fold, ↓good_ite, ↓good_next, ↓goodO_ite, ↓good_foldl, ↓good_forEach, ↓good_setRg, ↓good_setFd, ↓good_keyCheck, ↓good_mbError, h, ite_self]
  all_goals (repeat' split)
  all_goals (try simp +contextual (maxDischargeDepth := 40) only [↓good_mk, ↓good_fold, ↓good_ite, ↓good_next, ↓goodO_ite, ↓good_foldl, ↓good_forEach, ↓good_setRg, ↓good_setFd, ↓good_keyCheck, ↓good_mbError, h, ite_self])
  all_goals (try grind [good_setRg, good_setFd, good_keyCheck, good_mbError, good_mk, good_fold, good_foldl, good_forEach])

theorem good_execMbCommit {qq ll} {s : State} (q : Requester) (h : Good qq ll s) : GoodO qq ll (execMbCommit q s) := by
  unfold execMbCommit
  exact good_write _ _ _ _ _ (fun _ h => good_writeMbCmd _ _ h) h

theorem good_thalChannels {qq ll} {s : State} (m : SetImg) (h : Good qq ll s) : Good qq ll (State.thalChannels s m) := by
  unfold State.thalChannels
  try simp +contextual (maxDischargeDepth := 40) only [↓good_mk, ↓good_fold, ↓good_ite, ↓good_next, ↓goodO_ite, ↓good_foldl, ↓good_forEach, ↓good_setFd, h, ite_self]
  all_goals (repeat' split)
  all_goals (try simp +contextual (maxDischargeDepth := 40) only [↓good_mk, ↓good_fold, ↓good_ite, ↓good_next, ↓goodO_ite, ↓good_foldl, ↓good_forEach, ↓good_setFd, h, ite_self])
  all_goals (try grind [good_setFd, good_mk, good_fold, good_foldl, good_forEach])

theorem good_setThDec {qq ll} {s : State} (ch : Nat) (d : ThDec) (h : Good qq ll s) : Good qq ll (State.setThDec s ch d) := by
  unfold State.setThDec
  try simp +contextual (maxDischargeDepth := 40) only [↓good_mk, ↓good_fold, ↓good_ite, ↓good_next, ↓goodO_ite, ↓good_foldl, ↓good_forEach, h, ite_self]
  all_goals (repeat' split)
  all_goals (try simp +contextual (maxDischargeDepth := 40) only [↓good_mk, ↓good_fold, ↓good_ite, ↓good_next, ↓goodO_ite, ↓good_foldl, ↓good_forEach, h, ite_self])
  all_goals (try grind [good_mk, good_fold, good_foldl, good_forEach])

theorem good_thDecStart {qq ll} {s : State} (m : SetImg) (h : Good qq ll s) : Good qq ll (State.thDecStart s m) := by
  unfold State.thDecStart
  try simp +contextual (maxDischargeDepth := 40) only [↓good_mk, ↓good_fold, ↓good_ite, ↓good_next, ↓goodO_ite, ↓good_foldl, ↓good_forEach, ↓good_setThDec, h, ite_self]
  all_goals (repeat' split)
  all_goals (try simp +contextual (maxDischargeDepth := 40) only [↓good_mk, ↓good_fold, ↓good_ite, ↓good_next, ↓goodO_ite, ↓good_foldl, ↓good_forEach, ↓good_setThDec, h, ite_self])
  all_goals (try grind [good_setThDec, good_mk, good_fold, good_foldl, good_forEach])

theorem good_decodeFault {qq ll} {s : State} (m : SetImg) (e : Nat) (h : Good qq ll s) : Good qq ll (State.decodeFault s m e) := by
  unfold State.decodeFault
  try simp +contextual (maxDischargeDepth := 40) only [↓good_mk, ↓good_fold, ↓good_ite, ↓good_next, ↓goodO_ite, ↓good_foldl, ↓good_forEach, ↓good_thFault, ↓good_addFault, h, ite_self]
  all_goals (repeat' split)
  all_goals (try simp +contextual (maxDischargeDepth := 40) only [↓good_mk, ↓good_fold, ↓good_ite, ↓good_next, ↓goodO_ite, ↓good_foldl, ↓good_forEach, ↓good_thFault, ↓good_addFault, h, ite_self])
  all_goals (try grind [good_thFault, good_addFault, good_mk, good_fold, good_foldl, good_forEach])

theorem good_thSettle {qq ll} {s : State} (m : SetImg) (e : Nat) (h : Good qq ll s) : Good qq ll (State.thSettle s m e) := by
  unfold State.thSettle
  try simp +contextual (maxDischargeDepth := 40) only [↓good_mk, ↓good_fold, ↓good_ite, ↓good_next, ↓goodO_ite, ↓good_foldl, ↓good_forEach, ↓good_setThDec, ↓good_decodeFault, h, ite_self]
  all_goals (repeat' split)
  all_goals (try simp +contextual (maxDischargeDepth := 40) only [↓good_mk, ↓good_fold, ↓good_ite, ↓good_next, ↓goodO_ite, ↓good_foldl, ↓good_forEach, ↓good_setThDec, ↓good_decodeFault, h, ite_self])
  all_goals (try grind [good_setThDec, good_decodeFault, good_mk, good_fold, good_foldl, good_forEach])

theorem good_tapped {qq ll} {s : State} (n : Nat) (f : SetImg → Nat → State → State)
    (hf : ∀ m e t, Good qq ll t → Good qq ll (f m e t)) (h : Good qq ll s) : Good qq ll (s.tapped n f) := by
  unfold State.tapped
  split
  · exact h
  · split
    · exact h
    · exact hf _ _ _ h

theorem good_thTap {qq ll} {s : State} (n : Nat) (raw : Nat) (h : Good qq ll s) : Good qq ll (State.thTap s n raw) := by
  exact good_tapped _ _ (fun m e t h => good_setThDec _ _ (good_thSettle _ _ h)) h

theorem good_thLook {qq ll} {s : State} (n : Nat) (h : Good qq ll s) : Good qq ll (State.thLook s n) := by
  exact good_tapped _ _ (fun m e t h => good_thSettle _ _ h) h

theorem good_thWire {qq ll} {s : State} (n : Nat) (l : Nat) (disagree : Bool) (h : Good qq ll s) : Good qq ll (State.thWire s n l disagree) := by
  refine good_tapped _ _ (fun m e t h => ?_) h
  have h' := good_thSettle m e h
  dsimp only
  repeat' split
  · exact h'
  · exact good_setThDec _ _ h'
  · exact h'
  · exact good_setThDec _ _ h' 

theorem good_thRead {qq ll} {s : State} (n : Nat) (x : ThFrame) (h : Good qq ll s) : Good qq ll (State.thRead s n x) := by
  refine good_tapped _ _ (fun m e t h => ?_) h
  dsimp only
  repeat' split
  · exact h
  · exact good_decodeFault _ _ h
  · exact good_setThDec _ _ h

theorem good_commitSet {qq ll} {s : State} (m : SetImg) (h : Good qq ll s) : Good qq ll (State.commitSet s m) := by
  unfold State.commitSet
  try simp +contextual (maxDischargeDepth := 40) only [↓good_mk, ↓good_fold, ↓good_ite, ↓good_next, ↓goodO_ite, ↓good_foldl, ↓good_forEach, ↓good_setRg, ↓good_setFd, ↓good_incFd, ↓good_journal, ↓good_thBound, ↓good_thalChannels, ↓good_thDecStart, h, ite_self]
  all_goals (repeat' split)
  all_goals (try simp +contextual (maxDischargeDepth := 40) only [↓good_mk, ↓good_fold, ↓good_ite, ↓good_next, ↓goodO_ite, ↓good_foldl, ↓good_forEach, ↓good_setRg, ↓good_setFd, ↓good_incFd, ↓good_journal, ↓good_thBound, ↓good_thalChannels, ↓good_thDecStart, h, ite_self])
  all_goals (try grind [good_setRg, good_setFd, good_incFd, good_journal, good_thBound, good_thalChannels, good_thDecStart, good_mk, good_fold, good_foldl, good_forEach])

theorem good_execMbCommitComplete {qq ll} {s : State} (h : Good qq ll s) : GoodO qq ll (execMbCommitComplete s) := by
  unfold execMbCommitComplete
  try simp +contextual (maxDischargeDepth := 40) only [↓good_mk, ↓good_fold, ↓good_ite, ↓good_next, ↓goodO_ite, ↓good_foldl, ↓good_forEach, ↓good_setRg, ↓good_setFd, ↓good_refuseSelf, ↓good_keyCheck, ↓good_mbError, ↓good_commitSet, h, ite_self]
  all_goals (repeat' split)
  all_goals (try simp +contextual (maxDischargeDepth := 40) only [↓good_mk, ↓good_fold, ↓good_ite, ↓good_next, ↓goodO_ite, ↓good_foldl, ↓good_forEach, ↓good_setRg, ↓good_setFd, ↓good_refuseSelf, ↓good_keyCheck, ↓good_mbError, ↓good_commitSet, h, ite_self])
  all_goals (try grind [good_setRg, good_setFd, good_refuseSelf, good_keyCheck, good_mbError, good_commitSet, good_mk, good_fold, good_foldl, good_forEach])

theorem good_execMbClose {qq ll} {s : State} (q : Requester) (h : Good qq ll s) : GoodO qq ll (execMbClose q s) := by
  unfold execMbClose
  exact good_write _ _ _ _ _ (fun _ h => good_writeMbCmd _ _ h) h

theorem good_execMbTimeout {qq ll} {s : State} (h : Good qq ll s) : GoodO qq ll (execMbTimeout s) := by
  unfold execMbTimeout
  try simp +contextual (maxDischargeDepth := 40) only [↓good_mk, ↓good_fold, ↓good_ite, ↓good_next, ↓goodO_ite, ↓good_foldl, ↓good_forEach, ↓good_advanceToTick, ↓good_mbClose, h, ite_self]
  all_goals (repeat' split)
  all_goals (try simp +contextual (maxDischargeDepth := 40) only [↓good_mk, ↓good_fold, ↓good_ite, ↓good_next, ↓goodO_ite, ↓good_foldl, ↓good_forEach, ↓good_advanceToTick, ↓good_mbClose, h, ite_self])
  all_goals (try grind [good_advanceToTick, good_mbClose, good_mk, good_fold, good_foldl, good_forEach])

theorem good_noteDisc {qq ll} {s : State} (i : Nat) (h : Good qq ll s) : Good qq ll (State.noteDisc s i) := by
  unfold State.noteDisc
  try simp +contextual (maxDischargeDepth := 40) only [↓good_mk, ↓good_fold, ↓good_ite, ↓good_next, ↓goodO_ite, ↓good_foldl, ↓good_forEach, h, ite_self]
  all_goals (repeat' split)
  all_goals (try simp +contextual (maxDischargeDepth := 40) only [↓good_mk, ↓good_fold, ↓good_ite, ↓good_next, ↓goodO_ite, ↓good_foldl, ↓good_forEach, h, ite_self])
  all_goals (try grind [good_mk, good_fold, good_foldl, good_forEach])

theorem good_notePairs {qq ll} {s : State} (h : Good qq ll s) : Good qq ll (State.notePairs s) := by
  unfold State.notePairs
  try simp +contextual (maxDischargeDepth := 40) only [↓good_mk, ↓good_fold, ↓good_ite, ↓good_next, ↓goodO_ite, ↓good_foldl, ↓good_forEach, ↓good_noteDisc, h, ite_self]
  all_goals (repeat' split)
  all_goals (try simp +contextual (maxDischargeDepth := 40) only [↓good_mk, ↓good_fold, ↓good_ite, ↓good_next, ↓goodO_ite, ↓good_foldl, ↓good_forEach, ↓good_noteDisc, h, ite_self])
  all_goals (try grind [good_noteDisc, good_mk, good_fold, good_foldl, good_forEach])

theorem good_inputFault {qq ll} {s : State} (i : Nat) (h : Good qq ll s) : Good qq ll (State.inputFault s i) := by
  unfold State.inputFault
  try simp +contextual (maxDischargeDepth := 40) only [↓good_mk, ↓good_fold, ↓good_ite, ↓good_next, ↓goodO_ite, ↓good_foldl, ↓good_forEach, ↓good_setRg, ↓good_thFault, h, ite_self]
  all_goals (repeat' split)
  all_goals (try simp +contextual (maxDischargeDepth := 40) only [↓good_mk, ↓good_fold, ↓good_ite, ↓good_next, ↓goodO_ite, ↓good_foldl, ↓good_forEach, ↓good_setRg, ↓good_thFault, h, ite_self])
  all_goals (try grind [good_setRg, good_thFault, good_mk, good_fold, good_foldl, good_forEach])

theorem good_clearInput {qq ll} {s : State} (m : SetImg) (i : Nat) (h : Good qq ll s) : Good qq ll (State.clearInput s m i) := by
  unfold State.clearInput
  try simp +contextual (maxDischargeDepth := 40) only [↓good_mk, ↓good_fold, ↓good_ite, ↓good_next, ↓goodO_ite, ↓good_foldl, ↓good_forEach, ↓good_setRg, h, ite_self]
  all_goals (repeat' split)
  all_goals (try simp +contextual (maxDischargeDepth := 40) only [↓good_mk, ↓good_fold, ↓good_ite, ↓good_next, ↓goodO_ite, ↓good_foldl, ↓good_forEach, ↓good_setRg, h, ite_self])
  all_goals (try grind [good_setRg, good_mk, good_fold, good_foldl, good_forEach])

theorem good_clearPair {qq ll} {s : State} (m : SetImg) (i : Nat) (h : Good qq ll s) : Good qq ll (State.clearPair s m i) := by
  unfold State.clearPair
  try simp +contextual (maxDischargeDepth := 40) only [↓good_mk, ↓good_fold, ↓good_ite, ↓good_next, ↓goodO_ite, ↓good_foldl, ↓good_forEach, ↓good_clearInput, h, ite_self]
  all_goals (repeat' split)
  all_goals (try simp +contextual (maxDischargeDepth := 40) only [↓good_mk, ↓good_fold, ↓good_ite, ↓good_next, ↓goodO_ite, ↓good_foldl, ↓good_forEach, ↓good_clearInput, h, ite_self])
  all_goals (try grind [good_clearInput, good_mk, good_fold, good_foldl, good_forEach])

theorem good_safeInput {qq ll} {s : State} (i : Nat) (level : Bool) (h : Good qq ll s) : Good qq ll (State.safeInput s i level) := by
  unfold State.safeInput
  try simp +contextual (maxDischargeDepth := 40) only [↓good_mk, ↓good_fold, ↓good_ite, ↓good_next, ↓goodO_ite, ↓good_foldl, ↓good_forEach, ↓good_setRg, ↓good_keyCheck, ↓good_noteDisc, ↓good_clearPair, h, ite_self]
  all_goals (repeat' split)
  all_goals (try simp +contextual (maxDischargeDepth := 40) only [↓good_mk, ↓good_fold, ↓good_ite, ↓good_next, ↓goodO_ite, ↓good_foldl, ↓good_forEach, ↓good_setRg, ↓good_keyCheck, ↓good_noteDisc, ↓good_clearPair, h, ite_self])
  all_goals (try grind [good_setRg, good_keyCheck, good_noteDisc, good_clearPair, good_mk, good_fold, good_foldl, good_forEach])

theorem good_execSafeInputChange {qq ll} {s : State} (i : Nat) (level : Bool) (hold : Nat) (dt : Nat) (h : Good qq ll s) : GoodO qq ll (execSafeInputChange i level hold dt s) := by
  unfold execSafeInputChange
  try simp +contextual (maxDischargeDepth := 40) only [↓good_mk, ↓good_fold, ↓good_ite, ↓good_next, ↓goodO_ite, ↓good_foldl, ↓good_forEach, ↓good_advance, ↓good_safeInput, h, ite_self]
  all_goals (repeat' split)
  all_goals (try simp +contextual (maxDischargeDepth := 40) only [↓good_mk, ↓good_fold, ↓good_ite, ↓good_next, ↓goodO_ite, ↓good_foldl, ↓good_forEach, ↓good_advance, ↓good_safeInput, h, ite_self])
  all_goals (try grind [good_advance, good_safeInput, good_mk, good_fold, good_foldl, good_forEach])

theorem good_execDiscrepancyTimeout {qq ll} {s : State} (i : Nat) (h : Good qq ll s) : GoodO qq ll (execDiscrepancyTimeout i s) := by
  unfold execDiscrepancyTimeout
  try simp +contextual (maxDischargeDepth := 40) only [↓good_mk, ↓good_fold, ↓good_ite, ↓good_next, ↓goodO_ite, ↓good_foldl, ↓good_forEach, ↓good_advanceToTick, ↓good_inputFault, h, ite_self]
  all_goals (repeat' split)
  all_goals (try simp +contextual (maxDischargeDepth := 40) only [↓good_mk, ↓good_fold, ↓good_ite, ↓good_next, ↓goodO_ite, ↓good_foldl, ↓good_forEach, ↓good_advanceToTick, ↓good_inputFault, h, ite_self])
  all_goals (try grind [good_advanceToTick, good_inputFault, good_mk, good_fold, good_foldl, good_forEach])

theorem good_pulseSeen {qq ll} {s : State} (m : SetImg) (k : Nat) (lows : Nat) (low : Bool) (high : Bool) (h : Good qq ll s) : Good qq ll (State.pulseSeen s m k lows low high) := by
  unfold State.pulseSeen
  try simp +contextual (maxDischargeDepth := 40) only [↓good_mk, ↓good_fold, ↓good_ite, ↓good_next, ↓goodO_ite, ↓good_foldl, ↓good_forEach, ↓good_thFault, ↓good_addFault, ↓good_passFault, ↓good_keyCheck, ↓good_noteDisc, ↓good_inputFault, ↓good_clearInput, h, ite_self]
  all_goals (repeat' split)
  all_goals (try simp +contextual (maxDischargeDepth := 40) only [↓good_mk, ↓good_fold, ↓good_ite, ↓good_next, ↓goodO_ite, ↓good_foldl, ↓good_forEach, ↓good_thFault, ↓good_addFault, ↓good_passFault, ↓good_keyCheck, ↓good_noteDisc, ↓good_inputFault, ↓good_clearInput, h, ite_self])
  all_goals (try grind [good_thFault, good_addFault, good_passFault, good_keyCheck, good_noteDisc, good_inputFault, good_clearInput, good_mk, good_fold, good_foldl, good_forEach])

theorem good_execTestPulse {qq ll} {s : State} (k : Nat) (lows : Nat) (low : Bool) (high : Bool) (dt : Nat) (h : Good qq ll s) : GoodO qq ll (execTestPulse k lows low high dt s) := by
  unfold execTestPulse
  try simp +contextual (maxDischargeDepth := 40) only [↓good_mk, ↓good_fold, ↓good_ite, ↓good_next, ↓goodO_ite, ↓good_foldl, ↓good_forEach, ↓good_advance, ↓good_advanceToTick, ↓good_pulseSeen, h, ite_self]
  all_goals (repeat' split)
  all_goals (try simp +contextual (maxDischargeDepth := 40) only [↓good_mk, ↓good_fold, ↓good_ite, ↓good_next, ↓goodO_ite, ↓good_foldl, ↓good_forEach, ↓good_advance, ↓good_advanceToTick, ↓good_pulseSeen, h, ite_self])
  all_goals (try grind [good_advance, good_advanceToTick, good_pulseSeen, good_mk, good_fold, good_foldl, good_forEach])

theorem good_reportPart {qq ll} {s : State} (m : SetImg) (n : Nat) (id : Nat) (bs : List Byte) (h : Good qq ll s) : Good qq ll (State.reportPart s m n id bs) := by
  unfold State.reportPart
  try simp +contextual (maxDischargeDepth := 40) only [↓good_mk, ↓good_fold, ↓good_ite, ↓good_next, ↓goodO_ite, ↓good_foldl, ↓good_forEach, ↓good_incFd, h, ite_self]
  all_goals (repeat' split)
  all_goals (try simp +contextual (maxDischargeDepth := 40) only [↓good_mk, ↓good_fold, ↓good_ite, ↓good_next, ↓goodO_ite, ↓good_foldl, ↓good_forEach, ↓good_incFd, h, ite_self])
  all_goals (try grind [good_incFd, good_mk, good_fold, good_foldl, good_forEach])

theorem good_execSafeReportReceive {qq ll} {s : State} (p : Nat) (stamp : Nat) (fcsOk : Bool) (bs : List Byte) (h : Good qq ll s) : GoodO qq ll (execSafeReportReceive p stamp fcsOk bs s) := by
  unfold execSafeReportReceive
  try simp +contextual (maxDischargeDepth := 40) only [↓good_mk, ↓good_fold, ↓good_ite, ↓good_next, ↓goodO_ite, ↓good_foldl, ↓good_forEach, ↓good_klCount, ↓good_klDiscard, ↓good_toStamp, ↓good_reportPart, h, ite_self]
  all_goals (repeat' split)
  all_goals (try simp +contextual (maxDischargeDepth := 40) only [↓good_mk, ↓good_fold, ↓good_ite, ↓good_next, ↓goodO_ite, ↓good_foldl, ↓good_forEach, ↓good_klCount, ↓good_klDiscard, ↓good_toStamp, ↓good_reportPart, h, ite_self])
  all_goals (try grind [good_klCount, good_klDiscard, good_toStamp, good_reportPart, good_mk, good_fold, good_foldl, good_forEach])

theorem good_takeContainer {qq ll} {s : State} (node : Nat) (bcn : Nat) (bs : List Byte) (h : Good qq ll s) : Good qq ll (State.takeContainer s node bcn bs) := by
  unfold State.takeContainer
  try simp +contextual (maxDischargeDepth := 40) only [↓good_mk, ↓good_fold, ↓good_ite, ↓good_next, ↓goodO_ite, ↓good_foldl, ↓good_forEach, h, ite_self]
  all_goals (repeat' split)
  all_goals (try simp +contextual (maxDischargeDepth := 40) only [↓good_mk, ↓good_fold, ↓good_ite, ↓good_next, ↓goodO_ite, ↓good_foldl, ↓good_forEach, h, ite_self])
  all_goals (try grind [good_mk, good_fold, good_foldl, good_forEach])

theorem good_syncCross {qq ll} {s : State} (m : SetImg) (n : Nat) (h : Good qq ll s) : Good qq ll (State.syncCross s m n) := by
  unfold State.syncCross
  try simp +contextual (maxDischargeDepth := 40) only [↓good_mk, ↓good_fold, ↓good_ite, ↓good_next, ↓goodO_ite, ↓good_foldl, ↓good_forEach, h, ite_self]
  all_goals (repeat' split)
  all_goals (try simp +contextual (maxDischargeDepth := 40) only [↓good_mk, ↓good_fold, ↓good_ite, ↓good_next, ↓goodO_ite, ↓good_foldl, ↓good_forEach, h, ite_self])
  all_goals (try grind [good_mk, good_fold, good_foldl, good_forEach])

theorem good_execThallusDecodeFault {qq ll} {s : State} (ch : Nat) (h : Good qq ll s) : GoodO qq ll (execThallusDecodeFault ch s) := by
  unfold execThallusDecodeFault
  try simp +contextual (maxDischargeDepth := 40) only [↓good_mk, ↓good_fold, ↓good_ite, ↓good_next, ↓goodO_ite, ↓good_foldl, ↓good_forEach, ↓good_decodeFault, h, ite_self]
  all_goals (repeat' split)
  all_goals (try simp +contextual (maxDischargeDepth := 40) only [↓good_mk, ↓good_fold, ↓good_ite, ↓good_next, ↓goodO_ite, ↓good_foldl, ↓good_forEach, ↓good_decodeFault, h, ite_self])
  all_goals (try grind [good_decodeFault, good_mk, good_fold, good_foldl, good_forEach])

theorem good_cleanCycles {qq ll} {s : State} (h : Good qq ll s) : Good qq ll (State.cleanCycles s) := by
  unfold State.cleanCycles
  try simp +contextual (maxDischargeDepth := 40) only [↓good_mk, ↓good_fold, ↓good_ite, ↓good_next, ↓goodO_ite, ↓good_foldl, ↓good_forEach, ↓good_passFault, h, ite_self]
  all_goals (repeat' split)
  all_goals (try simp +contextual (maxDischargeDepth := 40) only [↓good_mk, ↓good_fold, ↓good_ite, ↓good_next, ↓goodO_ite, ↓good_foldl, ↓good_forEach, ↓good_passFault, h, ite_self])
  all_goals (try grind [good_passFault, good_mk, good_fold, good_foldl, good_forEach])

theorem good_degradeStep {qq ll} {s : State} (minutes : Nat) (h : Good qq ll s) : Good qq ll (State.degradeStep s minutes) := by
  unfold State.degradeStep
  try simp +contextual (maxDischargeDepth := 40) only [↓good_mk, ↓good_fold, ↓good_ite, ↓good_next, ↓goodO_ite, ↓good_foldl, ↓good_forEach, ↓good_setFd, ↓good_incFd, ↓good_thDeg, ↓good_thRecord, h, ite_self]
  all_goals (repeat' split)
  all_goals (try simp +contextual (maxDischargeDepth := 40) only [↓good_mk, ↓good_fold, ↓good_ite, ↓good_next, ↓goodO_ite, ↓good_foldl, ↓good_forEach, ↓good_setFd, ↓good_incFd, ↓good_thDeg, ↓good_thRecord, h, ite_self])
  all_goals (try grind [good_setFd, good_incFd, good_thDeg, good_thRecord, good_mk, good_fold, good_foldl, good_forEach])

theorem good_execStaled {qq ll} {s : State} (h : Good qq ll s) : GoodO qq ll (execStaled s) := by
  unfold execStaled
  try simp +contextual (maxDischargeDepth := 40) only [↓good_mk, ↓good_fold, ↓good_ite, ↓good_next, ↓goodO_ite, ↓good_foldl, ↓good_forEach, ↓good_advanceToTick, ↓good_thDeg, h, ite_self]
  all_goals (repeat' split)
  all_goals (try simp +contextual (maxDischargeDepth := 40) only [↓good_mk, ↓good_fold, ↓good_ite, ↓good_next, ↓goodO_ite, ↓good_foldl, ↓good_forEach, ↓good_advanceToTick, ↓good_thDeg, h, ite_self])
  all_goals (try grind [good_advanceToTick, good_thDeg, good_mk, good_fold, good_foldl, good_forEach])

theorem good_execDegradedRecordWrite {qq ll} {s : State} (h : Good qq ll s) : GoodO qq ll (execDegradedRecordWrite s) := by
  unfold execDegradedRecordWrite
  try simp +contextual (maxDischargeDepth := 40) only [↓good_mk, ↓good_fold, ↓good_ite, ↓good_next, ↓goodO_ite, ↓good_foldl, ↓good_forEach, ↓good_advanceToTick, ↓good_thDeg, ↓good_thRecord, h, ite_self]
  all_goals (repeat' split)
  all_goals (try simp +contextual (maxDischargeDepth := 40) only [↓good_mk, ↓good_fold, ↓good_ite, ↓good_next, ↓goodO_ite, ↓good_foldl, ↓good_forEach, ↓good_advanceToTick, ↓good_thDeg, ↓good_thRecord, h, ite_self])
  all_goals (try grind [good_advanceToTick, good_thDeg, good_thRecord, good_mk, good_fold, good_foldl, good_forEach])

theorem good_demandStep {qq ll} {s : State} (m : SetImg) (resets : Nat) (g : Nat) (hits : List (ThHit × Nat)) (limit : Bool) (h : Good qq ll s) : Good qq ll (State.demandStep s m resets g hits limit) := by
  unfold State.demandStep
  try simp +contextual (maxDischargeDepth := 40) only [↓good_mk, ↓good_fold, ↓good_ite, ↓good_next, ↓goodO_ite, ↓good_foldl, ↓good_forEach, ↓good_setRg, ↓good_incFd, ↓good_setThGroup, h, ite_self]
  all_goals (repeat' split)
  all_goals (try simp +contextual (maxDischargeDepth := 40) only [↓good_mk, ↓good_fold, ↓good_ite, ↓good_next, ↓goodO_ite, ↓good_foldl, ↓good_forEach, ↓good_setRg, ↓good_incFd, ↓good_setThGroup, h, ite_self])
  all_goals (try grind [good_setRg, good_incFd, good_setThGroup, good_mk, good_fold, good_foldl, good_forEach])

theorem good_putLen {qq ll} {s : State} (r : Reg) (g : Nat) (v : Option ℚ) (h : Good qq ll s) : Good qq ll (State.putLen s r g v) := by
  unfold State.putLen
  try simp +contextual (maxDischargeDepth := 40) only [↓good_mk, ↓good_fold, ↓good_ite, ↓good_next, ↓goodO_ite, ↓good_foldl, ↓good_forEach, ↓good_setRg, ↓good_free, h, ite_self]
  all_goals (repeat' split)
  all_goals (try simp +contextual (maxDischargeDepth := 40) only [↓good_mk, ↓good_fold, ↓good_ite, ↓good_next, ↓goodO_ite, ↓good_foldl, ↓good_forEach, ↓good_setRg, ↓good_free, h, ite_self])
  all_goals (try grind [good_setRg, good_free, good_mk, good_fold, good_foldl, good_forEach])

theorem good_startupFlag {qq ll} {s : State} (m : SetImg) (h : Good qq ll s) : Good qq ll (State.startupFlag s m) := by
  unfold State.startupFlag
  try simp +contextual (maxDischargeDepth := 40) only [↓good_mk, ↓good_fold, ↓good_ite, ↓good_next, ↓goodO_ite, ↓good_foldl, ↓good_forEach, ↓good_setFd, h, ite_self]
  all_goals (repeat' split)
  all_goals (try simp +contextual (maxDischargeDepth := 40) only [↓good_mk, ↓good_fold, ↓good_ite, ↓good_next, ↓goodO_ite, ↓good_foldl, ↓good_forEach, ↓good_setFd, h, ite_self])
  all_goals (try grind [good_setFd, good_mk, good_fold, good_foldl, good_forEach])

theorem good_clearUnmonitored {qq ll} {s : State} (m : SetImg) (h : Good qq ll s) : Good qq ll (State.clearUnmonitored s m) := by
  unfold State.clearUnmonitored
  try simp +contextual (maxDischargeDepth := 40) only [↓good_mk, ↓good_fold, ↓good_ite, ↓good_next, ↓goodO_ite, ↓good_foldl, ↓good_forEach, ↓good_setRg, h, ite_self]
  all_goals (repeat' split)
  all_goals (try simp +contextual (maxDischargeDepth := 40) only [↓good_mk, ↓good_fold, ↓good_ite, ↓good_next, ↓goodO_ite, ↓good_foldl, ↓good_forEach, ↓good_setRg, h, ite_self])
  all_goals (try grind [good_setRg, good_mk, good_fold, good_foldl, good_forEach])

theorem good_finishEval {qq ll} {s : State} (x : ThEval) (m : SetImg) (gs : List GeoGroup) (ps : List GeoPair) (h : Good qq ll s) : Good qq ll (State.finishEval s x m gs ps) := by
  unfold State.finishEval
  repeat' first
    | with_reducible assumption
    | (intro s; refine (show Good qq ll s → _ from fun h => ?_) ?_ <;> [clear_value s; subst s])
    | (intro (x : MemState); subst x)
    | (intro x; clear_value x)
    | lift_lets
    | with_reducible refine good_next.mpr ?_
    | with_reducible refine good_forEach _ _ _ (fun a s h => ?_) ?_
    | split
  all_goals (have hw := good_memWf h)
  all_goals (first
    | (simp +contextual (maxDischargeDepth := 40) only [↓good_mk, ↓good_fold, ↓good_ite, ↓good_next, ↓goodO_ite, ↓good_foldl, ↓good_forEach, ↓good_setRg, ↓good_setFd, ↓good_incFd, ↓good_setRg64, ↓good_soEvent, ↓good_hwToken, ↓good_demandStep, ↓good_putLen, ↓good_startupFlag, ↓good_clearUnmonitored, h, hw, ite_self, ↓good_memC, memWf_mk, Memory.wf_writeN, Memory.wf_setNum, Memory.wf_splice, Memory.wf_clear, Memory.wf_copy, Memory.wf_nil, and_self]; done)
    | simp +contextual (maxDischargeDepth := 40) only [↓good_mk, ↓good_fold, ↓good_ite, ↓good_next, ↓goodO_ite, ↓good_foldl, ↓good_forEach, ↓good_setRg, ↓good_setFd, ↓good_incFd, ↓good_setRg64, ↓good_soEvent, ↓good_hwToken, ↓good_demandStep, ↓good_putLen, ↓good_startupFlag, ↓good_clearUnmonitored, ite_self, *, ↓good_memC, memWf_mk, Memory.wf_writeN, Memory.wf_setNum, Memory.wf_splice, Memory.wf_clear, Memory.wf_copy, Memory.wf_nil, and_self])

theorem good_overrunEval {qq ll} {s : State} (x : ThEval) (h : Good qq ll s) : Good qq ll (State.overrunEval s x) := by
  unfold State.overrunEval
  try simp +contextual (maxDischargeDepth := 40) only [↓good_mk, ↓good_fold, ↓good_ite, ↓good_next, ↓goodO_ite, ↓good_foldl, ↓good_forEach, ↓good_incFd, ↓good_demandStep, ↓good_startupFlag, ↓good_clearUnmonitored, h, ite_self]
  all_goals (repeat' split)
  all_goals (try simp +contextual (maxDischargeDepth := 40) only [↓good_mk, ↓good_fold, ↓good_ite, ↓good_next, ↓goodO_ite, ↓good_foldl, ↓good_forEach, ↓good_incFd, ↓good_demandStep, ↓good_startupFlag, ↓good_clearUnmonitored, h, ite_self])
  all_goals (try grind [good_incFd, good_demandStep, good_startupFlag, good_clearUnmonitored, good_mk, good_fold, good_foldl, good_forEach])

theorem good_switchPair {qq ll} {s : State} (j : Nat) (on : Bool) (h : Good qq ll s) : Good qq ll (State.switchPair s j on) := by
  unfold State.switchPair
  try simp +contextual (maxDischargeDepth := 40) only [↓good_mk, ↓good_fold, ↓good_ite, ↓good_next, ↓goodO_ite, ↓good_foldl, ↓good_forEach, ↓good_setFd, h, ite_self]
  all_goals (repeat' split)
  all_goals (try simp +contextual (maxDischargeDepth := 40) only [↓good_mk, ↓good_fold, ↓good_ite, ↓good_next, ↓goodO_ite, ↓good_foldl, ↓good_forEach, ↓good_setFd, h, ite_self])
  all_goals (try grind [good_setFd, good_mk, good_fold, good_foldl, good_forEach])

theorem good_pairsOff {qq ll} {s : State} (h : Good qq ll s) : Good qq ll (State.pairsOff s) := by
  unfold State.pairsOff
  try simp +contextual (maxDischargeDepth := 40) only [↓good_mk, ↓good_fold, ↓good_ite, ↓good_next, ↓goodO_ite, ↓good_foldl, ↓good_forEach, ↓good_switchPair, h, ite_self]
  all_goals (repeat' split)
  all_goals (try simp +contextual (maxDischargeDepth := 40) only [↓good_mk, ↓good_fold, ↓good_ite, ↓good_next, ↓goodO_ite, ↓good_foldl, ↓good_forEach, ↓good_switchPair, h, ite_self])
  all_goals (try grind [good_switchPair, good_mk, good_fold, good_foldl, good_forEach])

theorem good_classA {qq ll} {s : State} (item : Nat) (h : Good qq ll s) : Good qq ll (State.classA s item) := by
  unfold State.classA
  try simp +contextual (maxDischargeDepth := 40) only [↓good_mk, ↓good_fold, ↓good_ite, ↓good_next, ↓goodO_ite, ↓good_foldl, ↓good_forEach, ↓good_setFd, ↓good_journal, ↓good_thFault, ↓good_thDeg, ↓good_pairsOff, h, ite_self]
  all_goals (repeat' split)
  all_goals (try simp +contextual (maxDischargeDepth := 40) only [↓good_mk, ↓good_fold, ↓good_ite, ↓good_next, ↓goodO_ite, ↓good_foldl, ↓good_forEach, ↓good_setFd, ↓good_journal, ↓good_thFault, ↓good_thDeg, ↓good_pairsOff, h, ite_self])
  all_goals (try grind [good_setFd, good_journal, good_thFault, good_thDeg, good_pairsOff, good_mk, good_fold, good_foldl, good_forEach])

theorem good_takeSet {qq ll} {s : State} (m : SetImg) (h : Good qq ll s) : Good qq ll (State.takeSet s m) := by
  unfold State.takeSet
  try simp +contextual (maxDischargeDepth := 40) only [↓good_mk, ↓good_fold, ↓good_ite, ↓good_next, ↓goodO_ite, ↓good_foldl, ↓good_forEach, ↓good_thSettle, ↓good_notePairs, h, ite_self]
  all_goals (repeat' split)
  all_goals (try simp +contextual (maxDischargeDepth := 40) only [↓good_mk, ↓good_fold, ↓good_ite, ↓good_next, ↓goodO_ite, ↓good_foldl, ↓good_forEach, ↓good_thSettle, ↓good_notePairs, h, ite_self])
  all_goals (try grind [good_thSettle, good_notePairs, good_mk, good_fold, good_foldl, good_forEach])

theorem good_execThallusEvaluation {qq ll} {s : State} (h : Good qq ll s) : GoodO qq ll (execThallusEvaluation s) := by
  unfold execThallusEvaluation
  try simp +contextual (maxDischargeDepth := 40) only [↓good_mk, ↓good_fold, ↓good_ite, ↓good_next, ↓goodO_ite, ↓good_foldl, ↓good_forEach, ↓good_setFd, ↓good_advanceTo, ↓good_syncCross, ↓good_cleanCycles, ↓good_degradeStep, ↓good_overrunEval, ↓good_classA, ↓good_takeSet, h, ite_self]
  all_goals (repeat' split)
  all_goals (try simp +contextual (maxDischargeDepth := 40) only [↓good_mk, ↓good_fold, ↓good_ite, ↓good_next, ↓goodO_ite, ↓good_foldl, ↓good_forEach, ↓good_setFd, ↓good_advanceTo, ↓good_syncCross, ↓good_cleanCycles, ↓good_degradeStep, ↓good_overrunEval, ↓good_classA, ↓good_takeSet, h, ite_self])
  all_goals (try grind [good_setFd, good_advanceTo, good_syncCross, good_cleanCycles, good_degradeStep, good_overrunEval, good_classA, good_takeSet, good_mk, good_fold, good_foldl, good_forEach])

theorem good_execEvaluationComplete {qq ll} {s : State} (dt : Nat) (h : Good qq ll s) : GoodO qq ll (execEvaluationComplete dt s) := by
  unfold execEvaluationComplete
  repeat' first
    | with_reducible assumption
    | (intro s; refine (show Good qq ll s → _ from fun h => ?_) ?_ <;> [clear_value s; subst s])
    | (intro (x : MemState); subst x)
    | (intro x; clear_value x)
    | lift_lets
    | with_reducible refine good_next.mpr ?_
    | with_reducible refine good_forEach _ _ _ (fun a s h => ?_) ?_
    | split
  all_goals (have hw := good_memWf h)
  all_goals (first
    | (simp +contextual (maxDischargeDepth := 40) only [↓good_mk, ↓good_fold, ↓good_ite, ↓good_next, ↓goodO_ite, ↓good_foldl, ↓good_forEach, ↓good_advance, ↓good_finishEval, ↓good_classA, h, hw, ite_self, ↓good_memC, memWf_mk, Memory.wf_writeN, Memory.wf_setNum, Memory.wf_splice, Memory.wf_clear, Memory.wf_copy, Memory.wf_nil, and_self]; done)
    | simp +contextual (maxDischargeDepth := 40) only [↓good_mk, ↓good_fold, ↓good_ite, ↓good_next, ↓goodO_ite, ↓good_foldl, ↓good_forEach, ↓good_advance, ↓good_finishEval, ↓good_classA, ite_self, *, ↓good_memC, memWf_mk, Memory.wf_writeN, Memory.wf_setNum, Memory.wf_splice, Memory.wf_clear, Memory.wf_copy, Memory.wf_nil, and_self])

theorem good_execEvaluationOverrun {qq ll} {s : State} (h : Good qq ll s) : GoodO qq ll (execEvaluationOverrun s) := by
  unfold execEvaluationOverrun
  try simp +contextual (maxDischargeDepth := 40) only [↓good_mk, ↓good_fold, ↓good_ite, ↓good_next, ↓goodO_ite, ↓good_foldl, ↓good_forEach, ↓good_advanceTo, ↓good_overrunEval, h, ite_self]
  all_goals (repeat' split)
  all_goals (try simp +contextual (maxDischargeDepth := 40) only [↓good_mk, ↓good_fold, ↓good_ite, ↓good_next, ↓goodO_ite, ↓good_foldl, ↓good_forEach, ↓good_advanceTo, ↓good_overrunEval, h, ite_self])
  all_goals (try grind [good_advanceTo, good_overrunEval, good_mk, good_fold, good_foldl, good_forEach])

theorem good_stuckFound {qq ll} {s : State} (j : Nat) (hs : Bool) (ls : Bool) (h : Good qq ll s) : Good qq ll (State.stuckFound s j hs ls) := by
  unfold State.stuckFound
  try simp +contextual (maxDischargeDepth := 40) only [↓good_mk, ↓good_fold, ↓good_ite, ↓good_next, ↓goodO_ite, ↓good_foldl, ↓good_forEach, ↓good_setFd, ↓good_thFault, ↓good_addFault, ↓good_passFault, h, ite_self]
  all_goals (repeat' split)
  all_goals (try simp +contextual (maxDischargeDepth := 40) only [↓good_mk, ↓good_fold, ↓good_ite, ↓good_next, ↓goodO_ite, ↓good_foldl, ↓good_forEach, ↓good_setFd, ↓good_thFault, ↓good_addFault, ↓good_passFault, h, ite_self])
  all_goals (try grind [good_setFd, good_thFault, good_addFault, good_passFault, good_mk, good_fold, good_foldl, good_forEach])

theorem good_readBack {qq ll} {s : State} (j : Nat) (hs : Bool) (ls : Bool) (oc : Bool) (h : Good qq ll s) : Good qq ll (State.readBack s j hs ls oc) := by
  unfold State.readBack
  try simp +contextual (maxDischargeDepth := 40) only [↓good_mk, ↓good_fold, ↓good_ite, ↓good_next, ↓goodO_ite, ↓good_foldl, ↓good_forEach, ↓good_setFd, ↓good_incFd, ↓good_thFault, ↓good_stuckFound, h, ite_self]
  all_goals (repeat' split)
  all_goals (try simp +contextual (maxDischargeDepth := 40) only [↓good_mk, ↓good_fold, ↓good_ite, ↓good_next, ↓goodO_ite, ↓good_foldl, ↓good_forEach, ↓good_setFd, ↓good_incFd, ↓good_thFault, ↓good_stuckFound, h, ite_self])
  all_goals (try grind [good_setFd, good_incFd, good_thFault, good_stuckFound, good_mk, good_fold, good_foldl, good_forEach])

theorem good_applyPair {qq ll} {s : State} (m : SetImg) (j : Nat) (h : Good qq ll s) : Good qq ll (State.applyPair s m j) := by
  unfold State.applyPair
  try simp +contextual (maxDischargeDepth := 40) only [↓good_mk, ↓good_fold, ↓good_ite, ↓good_next, ↓goodO_ite, ↓good_foldl, ↓good_forEach, ↓good_setFd, ↓good_switchPair, h, ite_self]
  all_goals (repeat' split)
  all_goals (try simp +contextual (maxDischargeDepth := 40) only [↓good_mk, ↓good_fold, ↓good_ite, ↓good_next, ↓goodO_ite, ↓good_foldl, ↓good_forEach, ↓good_setFd, ↓good_switchPair, h, ite_self])
  all_goals (try grind [good_setFd, good_switchPair, good_mk, good_fold, good_foldl, good_forEach])

theorem good_darkSeen {qq ll} {s : State} (j : Nat) (low : Bool) (ok : Bool) (h : Good qq ll s) : Good qq ll (State.darkSeen s j low ok) := by
  unfold State.darkSeen
  try simp +contextual (maxDischargeDepth := 40) only [↓good_mk, ↓good_fold, ↓good_ite, ↓good_next, ↓goodO_ite, ↓good_foldl, ↓good_forEach, ↓good_stuckFound, h, ite_self]
  all_goals (repeat' split)
  all_goals (try simp +contextual (maxDischargeDepth := 40) only [↓good_mk, ↓good_fold, ↓good_ite, ↓good_next, ↓goodO_ite, ↓good_foldl, ↓good_forEach, ↓good_stuckFound, h, ite_self])
  all_goals (try grind [good_stuckFound, good_mk, good_fold, good_foldl, good_forEach])

theorem good_darkSettle {qq ll} {s : State} (h : Good qq ll s) : Good qq ll (State.darkSettle s) := by
  unfold State.darkSettle
  try simp +contextual (maxDischargeDepth := 40) only [↓good_mk, ↓good_fold, ↓good_ite, ↓good_next, ↓goodO_ite, ↓good_foldl, ↓good_forEach, ↓good_darkSeen, h, ite_self]
  all_goals (repeat' split)
  all_goals (try simp +contextual (maxDischargeDepth := 40) only [↓good_mk, ↓good_fold, ↓good_ite, ↓good_next, ↓goodO_ite, ↓good_foldl, ↓good_forEach, ↓good_darkSeen, h, ite_self])
  all_goals (try grind [good_darkSeen, good_mk, good_fold, good_foldl, good_forEach])

theorem good_execSafetyCycleEnd {qq ll} {s : State} (hs : Nat) (ls : Nat) (oc : Nat) (h : Good qq ll s) : GoodO qq ll (execSafetyCycleEnd hs ls oc s) := by
  unfold execSafetyCycleEnd
  try simp +contextual (maxDischargeDepth := 40) only [↓good_mk, ↓good_fold, ↓good_ite, ↓good_next, ↓goodO_ite, ↓good_foldl, ↓good_forEach, ↓good_advanceTo, ↓good_overrunEval, ↓good_pairsOff, ↓good_readBack, ↓good_applyPair, ↓good_darkSettle, h, ite_self]
  all_goals (repeat' split)
  all_goals (try simp +contextual (maxDischargeDepth := 40) only [↓good_mk, ↓good_fold, ↓good_ite, ↓good_next, ↓goodO_ite, ↓good_foldl, ↓good_forEach, ↓good_advanceTo, ↓good_overrunEval, ↓good_pairsOff, ↓good_readBack, ↓good_applyPair, ↓good_darkSettle, h, ite_self])
  all_goals (try grind [good_advanceTo, good_overrunEval, good_pairsOff, good_readBack, good_applyPair, good_darkSettle, good_mk, good_fold, good_foldl, good_forEach])

theorem good_execOutputDelayExpiry {qq ll} {s : State} (j : Nat) (h : Good qq ll s) : GoodO qq ll (execOutputDelayExpiry j s) := by
  unfold execOutputDelayExpiry
  try simp +contextual (maxDischargeDepth := 40) only [↓good_mk, ↓good_fold, ↓good_ite, ↓good_next, ↓goodO_ite, ↓good_foldl, ↓good_forEach, ↓good_advanceToTick, ↓good_switchPair, h, ite_self]
  all_goals (repeat' split)
  all_goals (try simp +contextual (maxDischargeDepth := 40) only [↓good_mk, ↓good_fold, ↓good_ite, ↓good_next, ↓goodO_ite, ↓good_foldl, ↓good_forEach, ↓good_advanceToTick, ↓good_switchPair, h, ite_self])
  all_goals (try grind [good_advanceToTick, good_switchPair, good_mk, good_fold, good_foldl, good_forEach])

theorem good_execDarkPulse {qq ll} {s : State} (j : Nat) (ok : Bool) (dt : Nat) (h : Good qq ll s) : GoodO qq ll (execDarkPulse j ok dt s) := by
  unfold execDarkPulse
  try simp +contextual (maxDischargeDepth := 40) only [↓good_mk, ↓good_fold, ↓good_ite, ↓good_next, ↓goodO_ite, ↓good_foldl, ↓good_forEach, ↓good_advance, ↓good_advanceToTick, ↓good_switchPair, ↓good_darkSeen, ↓good_darkSettle, h, ite_self]
  all_goals (repeat' split)
  all_goals (try simp +contextual (maxDischargeDepth := 40) only [↓good_mk, ↓good_fold, ↓good_ite, ↓good_next, ↓goodO_ite, ↓good_foldl, ↓good_forEach, ↓good_advance, ↓good_advanceToTick, ↓good_switchPair, ↓good_darkSeen, ↓good_darkSettle, h, ite_self])
  all_goals (try grind [good_advance, good_advanceToTick, good_switchPair, good_darkSeen, good_darkSettle, good_mk, good_fold, good_foldl, good_forEach])

theorem good_execSafeCommandSend {qq ll} {s : State} (h : Good qq ll s) : GoodO qq ll (execSafeCommandSend s) := by
  unfold execSafeCommandSend
  try simp +contextual (maxDischargeDepth := 40) only [↓good_mk, ↓good_fold, ↓good_ite, ↓good_next, ↓goodO_ite, ↓good_foldl, ↓good_forEach, ↓good_advanceTo, ↓good_klSendAt, ↓good_takeLine, h, ite_self]
  all_goals (repeat' split)
  all_goals (try simp +contextual (maxDischargeDepth := 40) only [↓good_mk, ↓good_fold, ↓good_ite, ↓good_next, ↓goodO_ite, ↓good_foldl, ↓good_forEach, ↓good_advanceTo, ↓good_klSendAt, ↓good_takeLine, h, ite_self])
  all_goals (try grind [good_advanceTo, good_klSendAt, good_takeLine, good_mk, good_fold, good_foldl, good_forEach])

theorem good_execClassAFault {qq ll} {s : State} (item : Nat) (h : Good qq ll s) : GoodO qq ll (execClassAFault item s) := by
  unfold execClassAFault
  try simp +contextual (maxDischargeDepth := 40) only [↓good_mk, ↓good_fold, ↓good_ite, ↓good_next, ↓goodO_ite, ↓good_foldl, ↓good_forEach, ↓good_classA, h, ite_self]
  all_goals (repeat' split)
  all_goals (try simp +contextual (maxDischargeDepth := 40) only [↓good_mk, ↓good_fold, ↓good_ite, ↓good_next, ↓goodO_ite, ↓good_foldl, ↓good_forEach, ↓good_classA, h, ite_self])
  all_goals (try grind [good_classA, good_mk, good_fold, good_foldl, good_forEach])

theorem good_thStart {qq ll} {s : State} (h : Good qq ll s) : Good qq ll (State.thStart s) := by
  unfold State.thStart
  try simp +contextual (maxDischargeDepth := 40) only [↓good_mk, ↓good_fold, ↓good_ite, ↓good_next, ↓goodO_ite, ↓good_foldl, ↓good_forEach, ↓good_setRg, ↓good_setFd, ↓good_resetRegs, ↓good_thBound, ↓good_thDeg, ↓good_thalChannels, ↓good_thDecStart, h, ite_self]
  all_goals (repeat' split)
  all_goals (try simp +contextual (maxDischargeDepth := 40) only [↓good_mk, ↓good_fold, ↓good_ite, ↓good_next, ↓goodO_ite, ↓good_foldl, ↓good_forEach, ↓good_setRg, ↓good_setFd, ↓good_resetRegs, ↓good_thBound, ↓good_thDeg, ↓good_thalChannels, ↓good_thDecStart, h, ite_self])
  all_goals (try grind [good_setRg, good_setFd, good_resetRegs, good_thBound, good_thDeg, good_thalChannels, good_thDecStart, good_mk, good_fold, good_foldl, good_forEach])

theorem good_vsio {qq ll} {s : State} (low : Bool) (h : Good qq ll s) : Good qq ll (State.vsio s low) := by
  unfold State.vsio
  try simp +contextual (maxDischargeDepth := 40) only [↓good_mk, ↓good_fold, ↓good_ite, ↓good_next, ↓goodO_ite, ↓good_foldl, ↓good_forEach, ↓good_keyCheck, ↓good_notePairs, ↓good_pairsOff, h, ite_self]
  all_goals (repeat' split)
  all_goals (try simp +contextual (maxDischargeDepth := 40) only [↓good_mk, ↓good_fold, ↓good_ite, ↓good_next, ↓goodO_ite, ↓good_foldl, ↓good_forEach, ↓good_keyCheck, ↓good_notePairs, ↓good_pairsOff, h, ite_self])
  all_goals (try grind [good_keyCheck, good_notePairs, good_pairsOff, good_mk, good_fold, good_foldl, good_forEach])

end Sys2Proof.Machine
end

