-- ==== Sys2Proof/Laws/KeepsTaps.lean ====
section
/-!
SUPPORT. What the operations of Machine/Taps.lean keep.
-/

set_option linter.unusedSimpArgs false
set_option linter.unreachableTactic false
set_option linter.unusedTactic false

namespace Sys2Proof.Machine

theorem good_receive {qq ll} {s : State} (n : Nat) (raw : Nat) (hold : Nat) (h : Good qq ll s) : Good qq ll (State.receive s n raw hold) := by
  unfold State.receive
  try simp +contextual (maxDischargeDepth := 40) only [↓good_mk, ↓good_fold, ↓good_ite, ↓good_next, ↓goodO_ite, ↓good_foldl, ↓good_forEach, ↓good_fbRaw, ↓good_thTap, ↓good_thLook, h, ite_self]
  all_goals (repeat' split)
  all_goals (try simp +contextual (maxDischargeDepth := 40) only [↓good_mk, ↓good_fold, ↓good_ite, ↓good_next, ↓goodO_ite, ↓good_foldl, ↓good_forEach, ↓good_fbRaw, ↓good_thTap, ↓good_thLook, h, ite_self])
  all_goals (try grind [good_fbRaw, good_thTap, good_thLook, good_mk, good_fold, good_foldl, good_forEach])

theorem good_execFbCountEdge {qq ll} {s : State} (n : Nat) (lines : Nat) (hold : Nat) (dt : Nat) (h : Good qq ll s) : GoodO qq ll (execFbCountEdge n lines hold dt s) := by
  unfold execFbCountEdge
  try simp +contextual (maxDischargeDepth := 40) only [↓good_mk, ↓good_fold, ↓good_ite, ↓good_next, ↓goodO_ite, ↓good_foldl, ↓good_forEach, ↓good_advance, ↓good_receive, h, ite_self]
  all_goals (repeat' split)
  all_goals (try simp +contextual (maxDischargeDepth := 40) only [↓good_mk, ↓good_fold, ↓good_ite, ↓good_next, ↓goodO_ite, ↓good_foldl, ↓good_forEach, ↓good_advance, ↓good_receive, h, ite_self])
  all_goals (try grind [good_advance, good_receive, good_mk, good_fold, good_foldl, good_forEach])

theorem good_execFbIndexEdge {qq ll} {s : State} (n : Nat) (level : Bool) (hold : Nat) (dt : Nat) (h : Good qq ll s) : GoodO qq ll (execFbIndexEdge n level hold dt s) := by
  unfold execFbIndexEdge
  try simp +contextual (maxDischargeDepth := 40) only [↓good_mk, ↓good_fold, ↓good_ite, ↓good_next, ↓goodO_ite, ↓good_foldl, ↓good_forEach, ↓good_advance, ↓good_receive, h, ite_self]
  all_goals (repeat' split)
  all_goals (try simp +contextual (maxDischargeDepth := 40) only [↓good_mk, ↓good_fold, ↓good_ite, ↓good_next, ↓goodO_ite, ↓good_foldl, ↓good_forEach, ↓good_advance, ↓good_receive, h, ite_self])
  all_goals (try grind [good_advance, good_receive, good_mk, good_fold, good_foldl, good_forEach])

theorem good_execSsiReadEnd {qq ll} {s : State} (n : Nat) (low : Bool) (field : Nat) (errs : Nat) (trail : Bool) (h : Good qq ll s) : GoodO qq ll (execSsiReadEnd n low field errs trail s) := by
  unfold execSsiReadEnd
  try simp +contextual (maxDischargeDepth := 40) only [↓good_mk, ↓good_fold, ↓good_ite, ↓good_next, ↓goodO_ite, ↓good_foldl, ↓good_forEach, ↓good_advanceTo, ↓good_ssiEnd, ↓good_thRead, h, ite_self]
  all_goals (repeat' split)
  all_goals (try simp +contextual (maxDischargeDepth := 40) only [↓good_mk, ↓good_fold, ↓good_ite, ↓good_next, ↓goodO_ite, ↓good_foldl, ↓good_forEach, ↓good_advanceTo, ↓good_ssiEnd, ↓good_thRead, h, ite_self])
  all_goals (try grind [good_advanceTo, good_ssiEnd, good_thRead, good_mk, good_fold, good_foldl, good_forEach])

theorem good_execWireDisagree {qq ll} {s : State} (n : Nat) (l : Nat) (disagree : Bool) (hold : Nat) (dt : Nat) (h : Good qq ll s) : GoodO qq ll (execWireDisagree n l disagree hold dt s) := by
  unfold execWireDisagree
  try simp +contextual (maxDischargeDepth := 40) only [↓good_mk, ↓good_fold, ↓good_ite, ↓good_next, ↓goodO_ite, ↓good_foldl, ↓good_forEach, ↓good_advance, ↓good_wireSeen, ↓good_thLook, ↓good_thWire, h, ite_self]
  all_goals (repeat' split)
  all_goals (try simp +contextual (maxDischargeDepth := 40) only [↓good_mk, ↓good_fold, ↓good_ite, ↓good_next, ↓goodO_ite, ↓good_foldl, ↓good_forEach, ↓good_advance, ↓good_wireSeen, ↓good_thLook, ↓good_thWire, h, ite_self])
  all_goals (try grind [good_advance, good_wireSeen, good_thLook, good_thWire, good_mk, good_fold, good_foldl, good_forEach])

end Sys2Proof.Machine
end

