-- ==== Sys2Proof/Laws/KeepsSorus.lean ====
section
/-!
SUPPORT. What the operations of Machine/Sorus.lean keep.
-/

set_option linter.unusedSimpArgs false
set_option linter.unreachableTactic false
set_option linter.unusedTactic false

namespace Sys2Proof.Machine

theorem good_dramWrite {qq ll} {s : State} (a : Nat) (bs : List Byte) (h : Good qq ll s) : Good qq ll (State.dramWrite s a bs) := by
  unfold State.dramWrite
  have hw := good_memWf h
  simp +contextual (maxDischargeDepth := 40) only [↓good_mk, ↓good_fold, ↓good_ite, ↓good_next, ↓goodO_ite, ↓good_foldl, ↓good_forEach, h, good_memWf h, ↓good_memC, memWf_mk, Memory.wf_writeN, Memory.wf_setNum, Memory.wf_splice, Memory.wf_clear, Memory.wf_copy, Memory.wf_nil, and_self]

theorem good_soReduce {qq ll} {s : State} (c : Nat) (level : Nat) (seq : Nat) (h : Good qq ll s) : Good qq ll (State.soReduce s c level seq) := by
  unfold State.soReduce
  try simp +contextual (maxDischargeDepth := 40) only [↓good_mk, ↓good_fold, ↓good_ite, ↓good_next, ↓goodO_ite, ↓good_foldl, ↓good_forEach, ↓good_setFd, ↓good_raise, ↓good_setSoCap, h, ite_self]
  all_goals (repeat' split)
  all_goals (try simp +contextual (maxDischargeDepth := 40) only [↓good_mk, ↓good_fold, ↓good_ite, ↓good_next, ↓goodO_ite, ↓good_foldl, ↓good_forEach, ↓good_setFd, ↓good_raise, ↓good_setSoCap, h, ite_self])
  all_goals (try grind [good_setFd, good_raise, good_setSoCap, good_mk, good_fold, good_foldl, good_forEach])

theorem good_soDrop {qq ll} {s : State} (c : Nat) (h : Good qq ll s) : Good qq ll (State.soDrop s c) := by
  unfold State.soDrop
  try simp +contextual (maxDischargeDepth := 40) only [↓good_mk, ↓good_fold, ↓good_ite, ↓good_next, ↓goodO_ite, ↓good_foldl, ↓good_forEach, ↓good_raise, ↓good_setSoCap, h, ite_self]
  all_goals (repeat' split)
  all_goals (try simp +contextual (maxDischargeDepth := 40) only [↓good_mk, ↓good_fold, ↓good_ite, ↓good_next, ↓goodO_ite, ↓good_foldl, ↓good_forEach, ↓good_raise, ↓good_setSoCap, h, ite_self])
  all_goals (try grind [good_raise, good_setSoCap, good_mk, good_fold, good_foldl, good_forEach])

theorem good_soRecord {qq ll} {s : State} (c : Nat) (ct : Nat) (seq : Nat) (l : Nat) (vals : List Nat) (rate : Bool) (h : Good qq ll s) : Good qq ll (State.soRecord s c ct seq l vals rate) := by
  unfold State.soRecord
  try simp +contextual (maxDischargeDepth := 40) only [↓good_mk, ↓good_fold, ↓good_ite, ↓good_next, ↓goodO_ite, ↓good_foldl, ↓good_forEach, ↓good_setRg, ↓good_setFd, ↓good_raise, ↓good_setSoCap, ↓good_dramWrite, h, ite_self]
  all_goals (repeat' split)
  all_goals (try simp +contextual (maxDischargeDepth := 40) only [↓good_mk, ↓good_fold, ↓good_ite, ↓good_next, ↓goodO_ite, ↓good_foldl, ↓good_forEach, ↓good_setRg, ↓good_setFd, ↓good_raise, ↓good_setSoCap, ↓good_dramWrite, h, ite_self])
  all_goals (try grind [good_setRg, good_setFd, good_raise, good_setSoCap, good_dramWrite, good_mk, good_fold, good_foldl, good_forEach])

theorem good_execSoSample {qq ll} {s : State} (c : Nat) (level : Nat) (h : Good qq ll s) : GoodO qq ll (execSoSample c level s) := by
  unfold execSoSample
  try simp +contextual (maxDischargeDepth := 40) only [↓good_mk, ↓good_fold, ↓good_ite, ↓good_next, ↓goodO_ite, ↓good_foldl, ↓good_forEach, ↓good_advanceTo, ↓good_setSoCap, ↓good_soReduce, ↓good_soDrop, ↓good_soRecord, h, ite_self]
  all_goals (repeat' split)
  all_goals (try simp +contextual (maxDischargeDepth := 40) only [↓good_mk, ↓good_fold, ↓good_ite, ↓good_next, ↓goodO_ite, ↓good_foldl, ↓good_forEach, ↓good_advanceTo, ↓good_setSoCap, ↓good_soReduce, ↓good_soDrop, ↓good_soRecord, h, ite_self])
  all_goals (try grind [good_advanceTo, good_setSoCap, good_soReduce, good_soDrop, good_soRecord, good_mk, good_fold, good_foldl, good_forEach])

theorem good_execSoTriggerEvent {qq ll} {s : State} (kind : Nat) (groups : Nat) (rising : Bool) (dt : Nat) (h : Good qq ll s) : GoodO qq ll (execSoTriggerEvent kind groups rising dt s) := by
  unfold execSoTriggerEvent
  try simp +contextual (maxDischargeDepth := 40) only [↓good_mk, ↓good_fold, ↓good_ite, ↓good_next, ↓goodO_ite, ↓good_foldl, ↓good_forEach, ↓good_advance, ↓good_soEvent, h, ite_self]
  all_goals (repeat' split)
  all_goals (try simp +contextual (maxDischargeDepth := 40) only [↓good_mk, ↓good_fold, ↓good_ite, ↓good_next, ↓goodO_ite, ↓good_foldl, ↓good_forEach, ↓good_advance, ↓good_soEvent, h, ite_self])
  all_goals (try grind [good_advance, good_soEvent, good_mk, good_fold, good_foldl, good_forEach])

theorem good_execSoCaptureEnd {qq ll} {s : State} (c : Nat) (h : Good qq ll s) : GoodO qq ll (execSoCaptureEnd c s) := by
  unfold execSoCaptureEnd
  try simp +contextual (maxDischargeDepth := 40) only [↓good_mk, ↓good_fold, ↓good_ite, ↓good_next, ↓goodO_ite, ↓good_foldl, ↓good_forEach, ↓good_setFd, ↓good_incFd, ↓good_setSoCap, ↓good_hwToken, ↓good_dramWrite, h, ite_self]
  all_goals (repeat' split)
  all_goals (try simp +contextual (maxDischargeDepth := 40) only [↓good_mk, ↓good_fold, ↓good_ite, ↓good_next, ↓goodO_ite, ↓good_foldl, ↓good_forEach, ↓good_setFd, ↓good_incFd, ↓good_setSoCap, ↓good_hwToken, ↓good_dramWrite, h, ite_self])
  all_goals (try grind [good_setFd, good_incFd, good_setSoCap, good_hwToken, good_dramWrite, good_mk, good_fold, good_foldl, good_forEach])

theorem good_execSoAutoTimeout {qq ll} {s : State} (c : Nat) (h : Good qq ll s) : GoodO qq ll (execSoAutoTimeout c s) := by
  unfold execSoAutoTimeout
  try simp +contextual (maxDischargeDepth := 40) only [↓good_mk, ↓good_fold, ↓good_ite, ↓good_next, ↓goodO_ite, ↓good_foldl, ↓good_forEach, ↓good_advanceToTick, ↓good_setSoCap, h, ite_self]
  all_goals (repeat' split)
  all_goals (try simp +contextual (maxDischargeDepth := 40) only [↓good_mk, ↓good_fold, ↓good_ite, ↓good_next, ↓goodO_ite, ↓good_foldl, ↓good_forEach, ↓good_advanceToTick, ↓good_setSoCap, h, ite_self])
  all_goals (try grind [good_advanceToTick, good_setSoCap, good_mk, good_fold, good_foldl, good_forEach])

theorem good_soArm {qq ll} {s t : State} {c : Nat} (h : Good qq ll s) (e : s.soArm c = some t) : Good qq ll t := by
  unfold State.soArm at e
  cases hm : s.soMask c (s.soProbes c).length with
  | none => simp [hm] at e
  | some m =>
    simp only [hm, Option.map_some, Option.some.injEq] at e
    subst e
    exact good_dramWrite _ _ (good_setFd _ _ _ _ (good_setFd _ _ _ _ (good_setRg _ _ _ _ (good_setSoCap _ _ h))))

theorem good_execSoRearm {qq ll} {s : State} (c : Nat) (h : Good qq ll s) : GoodO qq ll (execSoRearm c s) := by
  unfold execSoRearm
  dsimp only
  split
  · try refine good_next.mpr ?_
    split
    · exact good_soArm h (by assumption)
    · simp +contextual (maxDischargeDepth := 40) only [↓good_mk, ↓good_fold, ↓good_ite, ↓good_next, ↓goodO_ite, ↓good_foldl, ↓good_forEach, ↓good_setFd, ↓good_refuseSelf, h]
  · simp +contextual (maxDischargeDepth := 40) only [↓good_mk, ↓good_fold, ↓good_ite, ↓good_next, ↓goodO_ite, ↓good_foldl, ↓good_forEach, ↓good_setFd, ↓good_refuseSelf, h]

theorem good_soCmdArm {qq ll} {s : State} (q : Requester) (c : Nat) (h : Good qq ll s) : Good qq ll (State.soCmdArm s q c) := by
  unfold State.soCmdArm
  dsimp only
  split
  · try refine good_next.mpr ?_
    split
    · exact good_soArm h (by assumption)
    · simp +contextual (maxDischargeDepth := 40) only [↓good_mk, ↓good_fold, ↓good_ite, ↓good_next, ↓goodO_ite, ↓good_foldl, ↓good_forEach, ↓good_setFd, ↓good_refuse, h]
  · simp +contextual (maxDischargeDepth := 40) only [↓good_mk, ↓good_fold, ↓good_ite, ↓good_next, ↓goodO_ite, ↓good_foldl, ↓good_forEach, ↓good_setFd, ↓good_refuse, h]

theorem good_soUntrigger {qq ll} {s : State} (c : Nat) (h : Good qq ll s) : Good qq ll (State.soUntrigger s c) := by
  unfold State.soUntrigger
  try simp +contextual (maxDischargeDepth := 40) only [↓good_mk, ↓good_fold, ↓good_ite, ↓good_next, ↓goodO_ite, ↓good_foldl, ↓good_forEach, ↓good_setSoCap, ↓good_dramWrite, h, ite_self]
  all_goals (repeat' split)
  all_goals (try simp +contextual (maxDischargeDepth := 40) only [↓good_mk, ↓good_fold, ↓good_ite, ↓good_next, ↓goodO_ite, ↓good_foldl, ↓good_forEach, ↓good_setSoCap, ↓good_dramWrite, h, ite_self])
  all_goals (try grind [good_setSoCap, good_dramWrite, good_mk, good_fold, good_foldl, good_forEach])

theorem good_soCmdStop {qq ll} {s : State} (q : Requester) (c : Nat) (h : Good qq ll s) : Good qq ll (State.soCmdStop s q c) := by
  unfold State.soCmdStop
  try simp +contextual (maxDischargeDepth := 40) only [↓good_mk, ↓good_fold, ↓good_ite, ↓good_next, ↓goodO_ite, ↓good_foldl, ↓good_forEach, ↓good_refuse, ↓good_setSoCap, ↓good_soUntrigger, h, ite_self]
  all_goals (repeat' split)
  all_goals (try simp +contextual (maxDischargeDepth := 40) only [↓good_mk, ↓good_fold, ↓good_ite, ↓good_next, ↓goodO_ite, ↓good_foldl, ↓good_forEach, ↓good_refuse, ↓good_setSoCap, ↓good_soUntrigger, h, ite_self])
  all_goals (try grind [good_refuse, good_setSoCap, good_soUntrigger, good_mk, good_fold, good_foldl, good_forEach])

theorem good_soCmdForce {qq ll} {s : State} (q : Requester) (c : Nat) (h : Good qq ll s) : Good qq ll (State.soCmdForce s q c) := by
  unfold State.soCmdForce
  try simp +contextual (maxDischargeDepth := 40) only [↓good_mk, ↓good_fold, ↓good_ite, ↓good_next, ↓goodO_ite, ↓good_foldl, ↓good_forEach, ↓good_refuse, ↓good_setSoCap, ↓good_soMissed, h, ite_self]
  all_goals (repeat' split)
  all_goals (try simp +contextual (maxDischargeDepth := 40) only [↓good_mk, ↓good_fold, ↓good_ite, ↓good_next, ↓goodO_ite, ↓good_foldl, ↓good_forEach, ↓good_refuse, ↓good_setSoCap, ↓good_soMissed, h, ite_self])
  all_goals (try grind [good_refuse, good_setSoCap, good_soMissed, good_mk, good_fold, good_foldl, good_forEach])

theorem good_writeSoCmd {qq ll} {s : State} (q : Requester) (c : Nat) (v : Word) (h : Good qq ll s) : Good qq ll (writeSoCmd q c v s) := by
  unfold writeSoCmd
  try simp +contextual (maxDischargeDepth := 40) only [↓good_mk, ↓good_fold, ↓good_ite, ↓good_next, ↓goodO_ite, ↓good_foldl, ↓good_forEach, ↓good_refuse, ↓good_soCmdArm, ↓good_soCmdStop, ↓good_soCmdForce, h, ite_self]
  all_goals (repeat' split)
  all_goals (try simp +contextual (maxDischargeDepth := 40) only [↓good_mk, ↓good_fold, ↓good_ite, ↓good_next, ↓goodO_ite, ↓good_foldl, ↓good_forEach, ↓good_refuse, ↓good_soCmdArm, ↓good_soCmdStop, ↓good_soCmdForce, h, ite_self])
  all_goals (try grind [good_refuse, good_soCmdArm, good_soCmdStop, good_soCmdForce, good_mk, good_fold, good_foldl, good_forEach])

theorem good_execSoArm {qq ll} {s : State} (q : Requester) (c : Nat) (h : Good qq ll s) : GoodO qq ll (execSoArm q c s) := by
  unfold execSoArm
  exact good_write _ _ _ _ _ (fun _ h => good_writeSoCmd _ _ _ h) h

theorem good_execSoStop {qq ll} {s : State} (q : Requester) (c : Nat) (h : Good qq ll s) : GoodO qq ll (execSoStop q c s) := by
  unfold execSoStop
  exact good_write _ _ _ _ _ (fun _ h => good_writeSoCmd _ _ _ h) h

theorem good_execSoForce {qq ll} {s : State} (q : Requester) (c : Nat) (h : Good qq ll s) : GoodO qq ll (execSoForce q c s) := by
  unfold execSoForce
  exact good_write _ _ _ _ _ (fun _ h => good_writeSoCmd _ _ _ h) h

theorem good_soStoreCtl {qq ll} {s : State} (c : Nat) (w : Nat) (h : Good qq ll s) : Good qq ll (State.soStoreCtl s c w) := by
  unfold State.soStoreCtl
  try simp +contextual (maxDischargeDepth := 40) only [↓good_mk, ↓good_fold, ↓good_ite, ↓good_next, ↓goodO_ite, ↓good_foldl, ↓good_forEach, ↓good_setRg, h, ite_self]
  all_goals (repeat' split)
  all_goals (try simp +contextual (maxDischargeDepth := 40) only [↓good_mk, ↓good_fold, ↓good_ite, ↓good_next, ↓goodO_ite, ↓good_foldl, ↓good_forEach, ↓good_setRg, h, ite_self])
  all_goals (try grind [good_setRg, good_mk, good_fold, good_foldl, good_forEach])

theorem good_soTakeEnable {qq ll} {s : State} (q : Requester) (c : Nat) (w : Nat) (h : Good qq ll s) : Good qq ll (State.soTakeEnable s q c w) := by
  unfold State.soTakeEnable
  try simp +contextual (maxDischargeDepth := 40) only [↓good_mk, ↓good_fold, ↓good_ite, ↓good_next, ↓goodO_ite, ↓good_foldl, ↓good_forEach, ↓good_setFd, ↓good_refuse, ↓good_setSoCap, h, ite_self]
  all_goals (repeat' split)
  all_goals (try simp +contextual (maxDischargeDepth := 40) only [↓good_mk, ↓good_fold, ↓good_ite, ↓good_next, ↓goodO_ite, ↓good_foldl, ↓good_forEach, ↓good_setFd, ↓good_refuse, ↓good_setSoCap, h, ite_self])
  all_goals (try grind [good_setFd, good_refuse, good_setSoCap, good_mk, good_fold, good_foldl, good_forEach])

theorem good_writeSoCtl {qq ll} {s : State} (q : Requester) (c : Nat) (v : Word) (h : Good qq ll s) : Good qq ll (writeSoCtl q c v s) := by
  unfold writeSoCtl
  try simp +contextual (maxDischargeDepth := 40) only [↓good_mk, ↓good_fold, ↓good_ite, ↓good_next, ↓goodO_ite, ↓good_foldl, ↓good_forEach, ↓good_setFd, ↓good_refuse, ↓good_soStoreCtl, ↓good_soTakeEnable, h, ite_self]
  all_goals (repeat' split)
  all_goals (try simp +contextual (maxDischargeDepth := 40) only [↓good_mk, ↓good_fold, ↓good_ite, ↓good_next, ↓goodO_ite, ↓good_foldl, ↓good_forEach, ↓good_setFd, ↓good_refuse, ↓good_soStoreCtl, ↓good_soTakeEnable, h, ite_self])
  all_goals (try grind [good_setFd, good_refuse, good_soStoreCtl, good_soTakeEnable, good_mk, good_fold, good_foldl, good_forEach])

theorem good_execSoEnable {qq ll} {s : State} (q : Requester) (c : Nat) (v : Word) (h : Good qq ll s) : GoodO qq ll (execSoEnable q c v s) := by
  unfold execSoEnable
  exact good_write _ _ _ _ _ (fun _ h => good_writeSoCtl _ _ _ h) h

theorem good_execSoDisable {qq ll} {s : State} (q : Requester) (c : Nat) (v : Word) (h : Good qq ll s) : GoodO qq ll (execSoDisable q c v s) := by
  unfold execSoDisable
  exact good_write _ _ _ _ _ (fun _ h => good_writeSoCtl _ _ _ h) h

theorem good_writeSoParam {qq ll} {s : State} (q : Requester) (r : Reg) (c : Nat) (v : Word) (h : Good qq ll s) : Good qq ll (writeSoParam q r c v s) := by
  unfold writeSoParam
  try simp +contextual (maxDischargeDepth := 40) only [↓good_mk, ↓good_fold, ↓good_ite, ↓good_next, ↓goodO_ite, ↓good_foldl, ↓good_forEach, ↓good_refuse, ↓good_plainWrite, h, ite_self]
  all_goals (repeat' split)
  all_goals (try simp +contextual (maxDischargeDepth := 40) only [↓good_mk, ↓good_fold, ↓good_ite, ↓good_next, ↓goodO_ite, ↓good_foldl, ↓good_forEach, ↓good_refuse, ↓good_plainWrite, h, ite_self])
  all_goals (try grind [good_refuse, good_plainWrite, good_mk, good_fold, good_foldl, good_forEach])

theorem good_writeSoGlobal {qq ll} {s : State} (q : Requester) (r : Reg) (v : Word) (h : Good qq ll s) : Good qq ll (writeSoGlobal q r v s) := by
  unfold writeSoGlobal
  try simp +contextual (maxDischargeDepth := 40) only [↓good_mk, ↓good_fold, ↓good_ite, ↓good_next, ↓goodO_ite, ↓good_foldl, ↓good_forEach, ↓good_refuse, ↓good_plainWrite, h, ite_self]
  all_goals (repeat' split)
  all_goals (try simp +contextual (maxDischargeDepth := 40) only [↓good_mk, ↓good_fold, ↓good_ite, ↓good_next, ↓goodO_ite, ↓good_foldl, ↓good_forEach, ↓good_refuse, ↓good_plainWrite, h, ite_self])
  all_goals (try grind [good_refuse, good_plainWrite, good_mk, good_fold, good_foldl, good_forEach])

theorem good_writeSoCh {qq ll} {s : State} (q : Requester) (k : Nat) (v : Word) (h : Good qq ll s) : Good qq ll (writeSoCh q k v s) := by
  unfold writeSoCh
  try simp +contextual (maxDischargeDepth := 40) only [↓good_mk, ↓good_fold, ↓good_ite, ↓good_next, ↓goodO_ite, ↓good_foldl, ↓good_forEach, ↓good_refuse, ↓good_plainWrite, h, ite_self]
  all_goals (repeat' split)
  all_goals (try simp +contextual (maxDischargeDepth := 40) only [↓good_mk, ↓good_fold, ↓good_ite, ↓good_next, ↓goodO_ite, ↓good_foldl, ↓good_forEach, ↓good_refuse, ↓good_plainWrite, h, ite_self])
  all_goals (try grind [good_refuse, good_plainWrite, good_mk, good_fold, good_foldl, good_forEach])

end Sys2Proof.Machine
end

