-- ==== Sys2Proof/Laws/KeepsVelist.lean ====
section
/-!
SUPPORT. What the operations of Machine/Velist.lean keep.
-/

set_option linter.unusedSimpArgs false
set_option linter.unreachableTactic false
set_option linter.unusedTactic false

namespace Sys2Proof.Machine

theorem good_ungate {qq ll} {s : State} (n : Nat) (h : Good qq ll s) : Good qq ll (State.ungate s n) := by
  unfold State.ungate
  try simp +contextual (maxDischargeDepth := 40) only [↓good_mk, ↓good_fold, ↓good_ite, ↓good_next, ↓goodO_ite, ↓good_foldl, ↓good_forEach, ↓good_setCore, h, ite_self]
  all_goals (repeat' split)
  all_goals (try simp +contextual (maxDischargeDepth := 40) only [↓good_mk, ↓good_fold, ↓good_ite, ↓good_next, ↓goodO_ite, ↓good_foldl, ↓good_forEach, ↓good_setCore, h, ite_self])
  all_goals (try grind [good_setCore, good_mk, good_fold, good_foldl, good_forEach])

theorem good_lead {qq ll} {s : State} (n : Nat) (wr : List RegName) (c : Core) (d : Core) (jump : Option Word) (h : Good qq ll s) : Good qq ll (State.lead s n wr c d jump) := by
  unfold State.lead
  try simp +contextual (maxDischargeDepth := 40) only [↓good_mk, ↓good_fold, ↓good_ite, ↓good_next, ↓goodO_ite, ↓good_foldl, ↓good_forEach, ↓good_setCore, h, ite_self]
  all_goals (repeat' split)
  all_goals (try simp +contextual (maxDischargeDepth := 40) only [↓good_mk, ↓good_fold, ↓good_ite, ↓good_next, ↓goodO_ite, ↓good_foldl, ↓good_forEach, ↓good_setCore, h, ite_self])
  all_goals (try grind [good_setCore, good_mk, good_fold, good_foldl, good_forEach])

theorem good_exception {qq ll} {s : State} (n : Nat) (cause : Cause) (ea : Option Word) (h : Good qq ll s) : Good qq ll (State.exception s n cause ea) := by
  unfold State.exception
  try simp +contextual (maxDischargeDepth := 40) only [↓good_mk, ↓good_fold, ↓good_ite, ↓good_next, ↓goodO_ite, ↓good_foldl, ↓good_forEach, ↓good_journal, ↓good_setCore, ↓good_free, ↓good_endAbnormal, ↓good_ungate, h, ite_self]
  all_goals (repeat' split)
  all_goals (try simp +contextual (maxDischargeDepth := 40) only [↓good_mk, ↓good_fold, ↓good_ite, ↓good_next, ↓goodO_ite, ↓good_foldl, ↓good_forEach, ↓good_journal, ↓good_setCore, ↓good_free, ↓good_endAbnormal, ↓good_ungate, h, ite_self])
  all_goals (try grind [good_journal, good_setCore, good_free, good_endAbnormal, good_ungate, good_mk, good_fold, good_foldl, good_forEach])

theorem good_haltNow {qq ll} {s : State} (n : Nat) (h : Good qq ll s) : Good qq ll (State.haltNow s n) := by
  unfold State.haltNow
  try simp +contextual (maxDischargeDepth := 40) only [↓good_mk, ↓good_fold, ↓good_ite, ↓good_next, ↓goodO_ite, ↓good_foldl, ↓good_forEach, ↓good_setCore, h, ite_self]
  all_goals (repeat' split)
  all_goals (try simp +contextual (maxDischargeDepth := 40) only [↓good_mk, ↓good_fold, ↓good_ite, ↓good_next, ↓goodO_ite, ↓good_foldl, ↓good_forEach, ↓good_setCore, h, ite_self])
  all_goals (try grind [good_setCore, good_mk, good_fold, good_foldl, good_forEach])

theorem good_eccRaise {qq ll} {s : State} (n : Nat) (cause : Cause) (adr : Word) (h : Good qq ll s) : Good qq ll (State.eccRaise s n cause adr) := by
  unfold State.eccRaise
  try simp +contextual (maxDischargeDepth := 40) only [↓good_mk, ↓good_fold, ↓good_ite, ↓good_next, ↓goodO_ite, ↓good_foldl, ↓good_forEach, ↓good_exception, ↓good_haltNow, h, ite_self]
  all_goals (repeat' split)
  all_goals (try simp +contextual (maxDischargeDepth := 40) only [↓good_mk, ↓good_fold, ↓good_ite, ↓good_next, ↓goodO_ite, ↓good_foldl, ↓good_forEach, ↓good_exception, ↓good_haltNow, h, ite_self])
  all_goals (try grind [good_exception, good_haltNow, good_mk, good_fold, good_foldl, good_forEach])

theorem good_afterStep {qq ll} {s : State} (n : Nat) (h : Good qq ll s) : Good qq ll (State.afterStep s n) := by
  unfold State.afterStep
  try simp +contextual (maxDischargeDepth := 40) only [↓good_mk, ↓good_fold, ↓good_ite, ↓good_next, ↓goodO_ite, ↓good_foldl, ↓good_forEach, ↓good_setCore, ↓good_haltNow, h, ite_self]
  all_goals (repeat' split)
  all_goals (try simp +contextual (maxDischargeDepth := 40) only [↓good_mk, ↓good_fold, ↓good_ite, ↓good_next, ↓goodO_ite, ↓good_foldl, ↓good_forEach, ↓good_setCore, ↓good_haltNow, h, ite_self])
  all_goals (try grind [good_setCore, good_haltNow, good_mk, good_fold, good_foldl, good_forEach])

theorem good_atBundle {qq ll} {s : State} (n : Nat) (h : Good qq ll s) : Good qq ll (State.atBundle s n) := by
  unfold State.atBundle
  try simp +contextual (maxDischargeDepth := 40) only [↓good_mk, ↓good_fold, ↓good_ite, ↓good_next, ↓goodO_ite, ↓good_foldl, ↓good_forEach, ↓good_setCore, h, ite_self]
  all_goals (repeat' split)
  all_goals (try simp +contextual (maxDischargeDepth := 40) only [↓good_mk, ↓good_fold, ↓good_ite, ↓good_next, ↓goodO_ite, ↓good_foldl, ↓good_forEach, ↓good_setCore, h, ite_self])
  all_goals (try grind [good_setCore, good_mk, good_fold, good_foldl, good_forEach])

/-- Of what an instruction does. -/
def GoodI (q : List Instr) (l : Nat) : Issue → Prop
  | .done t => Good q l t
  | .raise t _ _ => Good q l t

theorem goodI_done {q l t} : GoodI q l (.done t) ↔ Good q l t := ⟨id, id⟩
theorem goodI_raise {q l t c a} : GoodI q l (.raise t c a) ↔ Good q l t := ⟨id, id⟩

theorem good_perform {qq ll} {s : State} (n : Nat) (act : Core → State → Issue)
    (ha : ∀ c t, Good qq ll t → GoodI qq ll (act c t)) (h : Good qq ll s) : Good qq ll (s.perform n act) := by
  unfold State.perform
  dsimp only
  split
  · exact good_afterStep n (good_exception n _ _ h)
  · have := ha (s.core n) s h
    split <;> rename_i e <;> rw [e] at this
    · exact good_afterStep n this
    · exact good_afterStep n (good_exception n _ _ this)

theorem good_issue {qq ll} {s : State} (n : Nat) (act : Core → State → Issue)
    (ha : ∀ c t, Good qq ll t → GoodI qq ll (act c t)) (h : Good qq ll s) : GoodO qq ll (s.issue n act) := by
  unfold State.issue
  split
  · exact h
  · have h := good_atBundle n h
    dsimp only
    split
    · exact good_exception n _ _ h
    · split
      · exact good_haltNow n h
      · exact good_perform n act ha h

theorem good_issueB {qq ll} {s : State} (n : Nat) (act : Core → State → Issue)
    (ha : ∀ c t, Good qq ll t → GoodI qq ll (act c t)) (h : Good qq ll s) : GoodO qq ll (s.issueB n act) := by
  unfold State.issueB
  split
  · exact good_perform n act ha h
  · exact good_issue n act ha h

theorem good_issueAlone {qq ll} {s : State} (n : Nat) (f : Core → Core) (h : Good qq ll s) : GoodO qq ll (State.issueAlone s n f) := by
  unfold State.issueAlone
  first
    | refine good_issue _ _ (fun c s h => ?_) h
    | refine good_issueB _ _ (fun c s h => ?_) h
  repeat' first
    | with_reducible assumption
    | (intro s; refine (show Good qq ll s → _ from fun h => ?_) ?_ <;> [clear_value s; subst s])
    | (intro x; clear_value x)
    | lift_lets
    | with_reducible refine goodI_done.mpr ?_
    | with_reducible refine goodI_raise.mpr ?_
    | split
  all_goals simp +contextual (maxDischargeDepth := 40) only [↓good_mk, ↓good_fold, ↓good_ite, ↓good_next, ↓goodO_ite, ↓good_foldl, ↓good_forEach, ↓good_setCore, ↓goodI_done, ↓goodI_raise, h, ite_self, *]

theorem good_issueA {qq ll} {s : State} (n : Nat) (wr : List RegName) (bad : Bool) (f : Core → Core) (h : Good qq ll s) : GoodO qq ll (State.issueA s n wr bad f) := by
  unfold State.issueA
  first
    | refine good_issue _ _ (fun c s h => ?_) h
    | refine good_issueB _ _ (fun c s h => ?_) h
  repeat' first
    | with_reducible assumption
    | (intro s; refine (show Good qq ll s → _ from fun h => ?_) ?_ <;> [clear_value s; subst s])
    | (intro x; clear_value x)
    | lift_lets
    | with_reducible refine goodI_done.mpr ?_
    | with_reducible refine goodI_raise.mpr ?_
    | split
  all_goals simp +contextual (maxDischargeDepth := 40) only [↓good_mk, ↓good_fold, ↓good_ite, ↓good_next, ↓goodO_ite, ↓good_foldl, ↓good_forEach, ↓good_raise, ↓good_lead, ↓goodI_done, ↓goodI_raise, h, ite_self, *]

theorem good_issueIf {qq ll} {s : State} (n : Nat) (pg : Nat) (wr : List RegName) (bad : Bool) (f : Core → Core) (h : Good qq ll s) : GoodO qq ll (State.issueIf s n pg wr bad f) := by
  unfold State.issueIf
  try simp +contextual (maxDischargeDepth := 40) only [↓good_mk, ↓good_fold, ↓good_ite, ↓good_next, ↓goodO_ite, ↓good_foldl, ↓good_forEach, ↓good_issueA, h, ite_self]
  all_goals (repeat' split)
  all_goals (try simp +contextual (maxDischargeDepth := 40) only [↓good_mk, ↓good_fold, ↓good_ite, ↓good_next, ↓goodO_ite, ↓good_foldl, ↓good_forEach, ↓good_issueA, h, ite_self])
  all_goals (try grind [good_issueA, good_mk, good_fold, good_foldl, good_forEach])

theorem good_issueMac {qq ll} {s : State} (n : Nat) (pg : Nat) (bad : Bool) (f : Core → Core) (h : Good qq ll s) : GoodO qq ll (State.issueMac s n pg bad f) := by
  unfold State.issueMac
  first
    | refine good_issue _ _ (fun c s h => ?_) h
    | refine good_issueB _ _ (fun c s h => ?_) h
  repeat' first
    | with_reducible assumption
    | (intro s; refine (show Good qq ll s → _ from fun h => ?_) ?_ <;> [clear_value s; subst s])
    | (intro x; clear_value x)
    | lift_lets
    | with_reducible refine goodI_done.mpr ?_
    | with_reducible refine goodI_raise.mpr ?_
    | split
  all_goals simp +contextual (maxDischargeDepth := 40) only [↓good_mk, ↓good_fold, ↓good_ite, ↓good_next, ↓goodO_ite, ↓good_foldl, ↓good_forEach, ↓good_raise, ↓good_setCore, ↓goodI_done, ↓goodI_raise, h, ite_self, *]

theorem good_alu {qq ll} {s : State} (n : Nat) (gd : Nat) (ga : Nat) (gb : Nat) (pg : Nat) (f : Word → Word → Word) (h : Good qq ll s) : GoodO qq ll (State.alu s n gd ga gb pg f) := by
  unfold State.alu
  try simp +contextual (maxDischargeDepth := 40) only [↓good_mk, ↓good_fold, ↓good_ite, ↓good_next, ↓goodO_ite, ↓good_foldl, ↓good_forEach, ↓good_issueIf, h, ite_self]
  all_goals (repeat' split)
  all_goals (try simp +contextual (maxDischargeDepth := 40) only [↓good_mk, ↓good_fold, ↓good_ite, ↓good_next, ↓goodO_ite, ↓good_foldl, ↓good_forEach, ↓good_issueIf, h, ite_self])
  all_goals (try grind [good_issueIf, good_mk, good_fold, good_foldl, good_forEach])

theorem good_aluSat {qq ll} {s : State} (n : Nat) (gd : Nat) (ga : Nat) (gb : Nat) (pg : Nat) (f : Int → Int → Int) (h : Good qq ll s) : GoodO qq ll (State.aluSat s n gd ga gb pg f) := by
  unfold State.aluSat
  try simp +contextual (maxDischargeDepth := 40) only [↓good_mk, ↓good_fold, ↓good_ite, ↓good_next, ↓goodO_ite, ↓good_foldl, ↓good_forEach, ↓good_issueIf, h, ite_self]
  all_goals (repeat' split)
  all_goals (try simp +contextual (maxDischargeDepth := 40) only [↓good_mk, ↓good_fold, ↓good_ite, ↓good_next, ↓goodO_ite, ↓good_foldl, ↓good_forEach, ↓good_issueIf, h, ite_self])
  all_goals (try grind [good_issueIf, good_mk, good_fold, good_foldl, good_forEach])

theorem good_execAdd {qq ll} {s : State} (n : Nat) (gd : Nat) (ga : Nat) (gb : Nat) (pg : Nat) (h : Good qq ll s) : GoodO qq ll (execAdd n gd ga gb pg s) := by
  unfold execAdd
  try simp +contextual (maxDischargeDepth := 40) only [↓good_mk, ↓good_fold, ↓good_ite, ↓good_next, ↓goodO_ite, ↓good_foldl, ↓good_forEach, ↓good_alu, h, ite_self]
  all_goals (repeat' split)
  all_goals (try simp +contextual (maxDischargeDepth := 40) only [↓good_mk, ↓good_fold, ↓good_ite, ↓good_next, ↓goodO_ite, ↓good_foldl, ↓good_forEach, ↓good_alu, h, ite_self])
  all_goals (try grind [good_alu, good_mk, good_fold, good_foldl, good_forEach])

theorem good_execSub {qq ll} {s : State} (n : Nat) (gd : Nat) (ga : Nat) (gb : Nat) (pg : Nat) (h : Good qq ll s) : GoodO qq ll (execSub n gd ga gb pg s) := by
  unfold execSub
  try simp +contextual (maxDischargeDepth := 40) only [↓good_mk, ↓good_fold, ↓good_ite, ↓good_next, ↓goodO_ite, ↓good_foldl, ↓good_forEach, ↓good_alu, h, ite_self]
  all_goals (repeat' split)
  all_goals (try simp +contextual (maxDischargeDepth := 40) only [↓good_mk, ↓good_fold, ↓good_ite, ↓good_next, ↓goodO_ite, ↓good_foldl, ↓good_forEach, ↓good_alu, h, ite_self])
  all_goals (try grind [good_alu, good_mk, good_fold, good_foldl, good_forEach])

theorem good_execAnd {qq ll} {s : State} (n : Nat) (gd : Nat) (ga : Nat) (gb : Nat) (pg : Nat) (h : Good qq ll s) : GoodO qq ll (execAnd n gd ga gb pg s) := by
  unfold execAnd
  try simp +contextual (maxDischargeDepth := 40) only [↓good_mk, ↓good_fold, ↓good_ite, ↓good_next, ↓goodO_ite, ↓good_foldl, ↓good_forEach, ↓good_alu, h, ite_self]
  all_goals (repeat' split)
  all_goals (try simp +contextual (maxDischargeDepth := 40) only [↓good_mk, ↓good_fold, ↓good_ite, ↓good_next, ↓goodO_ite, ↓good_foldl, ↓good_forEach, ↓good_alu, h, ite_self])
  all_goals (try grind [good_alu, good_mk, good_fold, good_foldl, good_forEach])

theorem good_execOr {qq ll} {s : State} (n : Nat) (gd : Nat) (ga : Nat) (gb : Nat) (pg : Nat) (h : Good qq ll s) : GoodO qq ll (execOr n gd ga gb pg s) := by
  unfold execOr
  try simp +contextual (maxDischargeDepth := 40) only [↓good_mk, ↓good_fold, ↓good_ite, ↓good_next, ↓goodO_ite, ↓good_foldl, ↓good_forEach, ↓good_alu, h, ite_self]
  all_goals (repeat' split)
  all_goals (try simp +contextual (maxDischargeDepth := 40) only [↓good_mk, ↓good_fold, ↓good_ite, ↓good_next, ↓goodO_ite, ↓good_foldl, ↓good_forEach, ↓good_alu, h, ite_self])
  all_goals (try grind [good_alu, good_mk, good_fold, good_foldl, good_forEach])

theorem good_execXor {qq ll} {s : State} (n : Nat) (gd : Nat) (ga : Nat) (gb : Nat) (pg : Nat) (h : Good qq ll s) : GoodO qq ll (execXor n gd ga gb pg s) := by
  unfold execXor
  try simp +contextual (maxDischargeDepth := 40) only [↓good_mk, ↓good_fold, ↓good_ite, ↓good_next, ↓goodO_ite, ↓good_foldl, ↓good_forEach, ↓good_alu, h, ite_self]
  all_goals (repeat' split)
  all_goals (try simp +contextual (maxDischargeDepth := 40) only [↓good_mk, ↓good_fold, ↓good_ite, ↓good_next, ↓goodO_ite, ↓good_foldl, ↓good_forEach, ↓good_alu, h, ite_self])
  all_goals (try grind [good_alu, good_mk, good_fold, good_foldl, good_forEach])

theorem good_execShl {qq ll} {s : State} (n : Nat) (gd : Nat) (ga : Nat) (gb : Nat) (pg : Nat) (h : Good qq ll s) : GoodO qq ll (execShl n gd ga gb pg s) := by
  unfold execShl
  try simp +contextual (maxDischargeDepth := 40) only [↓good_mk, ↓good_fold, ↓good_ite, ↓good_next, ↓goodO_ite, ↓good_foldl, ↓good_forEach, ↓good_alu, h, ite_self]
  all_goals (repeat' split)
  all_goals (try simp +contextual (maxDischargeDepth := 40) only [↓good_mk, ↓good_fold, ↓good_ite, ↓good_next, ↓goodO_ite, ↓good_foldl, ↓good_forEach, ↓good_alu, h, ite_self])
  all_goals (try grind [good_alu, good_mk, good_fold, good_foldl, good_forEach])

theorem good_execShr {qq ll} {s : State} (n : Nat) (gd : Nat) (ga : Nat) (gb : Nat) (pg : Nat) (h : Good qq ll s) : GoodO qq ll (execShr n gd ga gb pg s) := by
  unfold execShr
  try simp +contextual (maxDischargeDepth := 40) only [↓good_mk, ↓good_fold, ↓good_ite, ↓good_next, ↓goodO_ite, ↓good_foldl, ↓good_forEach, ↓good_alu, h, ite_self]
  all_goals (repeat' split)
  all_goals (try simp +contextual (maxDischargeDepth := 40) only [↓good_mk, ↓good_fold, ↓good_ite, ↓good_next, ↓goodO_ite, ↓good_foldl, ↓good_forEach, ↓good_alu, h, ite_self])
  all_goals (try grind [good_alu, good_mk, good_fold, good_foldl, good_forEach])

theorem good_execSra {qq ll} {s : State} (n : Nat) (gd : Nat) (ga : Nat) (gb : Nat) (pg : Nat) (h : Good qq ll s) : GoodO qq ll (execSra n gd ga gb pg s) := by
  unfold execSra
  try simp +contextual (maxDischargeDepth := 40) only [↓good_mk, ↓good_fold, ↓good_ite, ↓good_next, ↓goodO_ite, ↓good_foldl, ↓good_forEach, ↓good_alu, h, ite_self]
  all_goals (repeat' split)
  all_goals (try simp +contextual (maxDischargeDepth := 40) only [↓good_mk, ↓good_fold, ↓good_ite, ↓good_next, ↓goodO_ite, ↓good_foldl, ↓good_forEach, ↓good_alu, h, ite_self])
  all_goals (try grind [good_alu, good_mk, good_fold, good_foldl, good_forEach])

theorem good_execMul {qq ll} {s : State} (n : Nat) (gd : Nat) (ga : Nat) (gb : Nat) (pg : Nat) (h : Good qq ll s) : GoodO qq ll (execMul n gd ga gb pg s) := by
  unfold execMul
  try simp +contextual (maxDischargeDepth := 40) only [↓good_mk, ↓good_fold, ↓good_ite, ↓good_next, ↓goodO_ite, ↓good_foldl, ↓good_forEach, ↓good_alu, h, ite_self]
  all_goals (repeat' split)
  all_goals (try simp +contextual (maxDischargeDepth := 40) only [↓good_mk, ↓good_fold, ↓good_ite, ↓good_next, ↓goodO_ite, ↓good_foldl, ↓good_forEach, ↓good_alu, h, ite_self])
  all_goals (try grind [good_alu, good_mk, good_fold, good_foldl, good_forEach])

theorem good_execMulh {qq ll} {s : State} (n : Nat) (gd : Nat) (ga : Nat) (gb : Nat) (pg : Nat) (h : Good qq ll s) : GoodO qq ll (execMulh n gd ga gb pg s) := by
  unfold execMulh
  try simp +contextual (maxDischargeDepth := 40) only [↓good_mk, ↓good_fold, ↓good_ite, ↓good_next, ↓goodO_ite, ↓good_foldl, ↓good_forEach, ↓good_alu, h, ite_self]
  all_goals (repeat' split)
  all_goals (try simp +contextual (maxDischargeDepth := 40) only [↓good_mk, ↓good_fold, ↓good_ite, ↓good_next, ↓goodO_ite, ↓good_foldl, ↓good_forEach, ↓good_alu, h, ite_self])
  all_goals (try grind [good_alu, good_mk, good_fold, good_foldl, good_forEach])

theorem good_execMulhu {qq ll} {s : State} (n : Nat) (gd : Nat) (ga : Nat) (gb : Nat) (pg : Nat) (h : Good qq ll s) : GoodO qq ll (execMulhu n gd ga gb pg s) := by
  unfold execMulhu
  try simp +contextual (maxDischargeDepth := 40) only [↓good_mk, ↓good_fold, ↓good_ite, ↓good_next, ↓goodO_ite, ↓good_foldl, ↓good_forEach, ↓good_alu, h, ite_self]
  all_goals (repeat' split)
  all_goals (try simp +contextual (maxDischargeDepth := 40) only [↓good_mk, ↓good_fold, ↓good_ite, ↓good_next, ↓goodO_ite, ↓good_foldl, ↓good_forEach, ↓good_alu, h, ite_self])
  all_goals (try grind [good_alu, good_mk, good_fold, good_foldl, good_forEach])

theorem good_execAdds {qq ll} {s : State} (n : Nat) (gd : Nat) (ga : Nat) (gb : Nat) (pg : Nat) (h : Good qq ll s) : GoodO qq ll (execAdds n gd ga gb pg s) := by
  unfold execAdds
  try simp +contextual (maxDischargeDepth := 40) only [↓good_mk, ↓good_fold, ↓good_ite, ↓good_next, ↓goodO_ite, ↓good_foldl, ↓good_forEach, ↓good_aluSat, h, ite_self]
  all_goals (repeat' split)
  all_goals (try simp +contextual (maxDischargeDepth := 40) only [↓good_mk, ↓good_fold, ↓good_ite, ↓good_next, ↓goodO_ite, ↓good_foldl, ↓good_forEach, ↓good_aluSat, h, ite_self])
  all_goals (try grind [good_aluSat, good_mk, good_fold, good_foldl, good_forEach])

theorem good_execSubs {qq ll} {s : State} (n : Nat) (gd : Nat) (ga : Nat) (gb : Nat) (pg : Nat) (h : Good qq ll s) : GoodO qq ll (execSubs n gd ga gb pg s) := by
  unfold execSubs
  try simp +contextual (maxDischargeDepth := 40) only [↓good_mk, ↓good_fold, ↓good_ite, ↓good_next, ↓goodO_ite, ↓good_foldl, ↓good_forEach, ↓good_aluSat, h, ite_self]
  all_goals (repeat' split)
  all_goals (try simp +contextual (maxDischargeDepth := 40) only [↓good_mk, ↓good_fold, ↓good_ite, ↓good_next, ↓goodO_ite, ↓good_foldl, ↓good_forEach, ↓good_aluSat, h, ite_self])
  all_goals (try grind [good_aluSat, good_mk, good_fold, good_foldl, good_forEach])

theorem good_execMin {qq ll} {s : State} (n : Nat) (gd : Nat) (ga : Nat) (gb : Nat) (pg : Nat) (h : Good qq ll s) : GoodO qq ll (execMin n gd ga gb pg s) := by
  unfold execMin
  try simp +contextual (maxDischargeDepth := 40) only [↓good_mk, ↓good_fold, ↓good_ite, ↓good_next, ↓goodO_ite, ↓good_foldl, ↓good_forEach, ↓good_alu, h, ite_self]
  all_goals (repeat' split)
  all_goals (try simp +contextual (maxDischargeDepth := 40) only [↓good_mk, ↓good_fold, ↓good_ite, ↓good_next, ↓goodO_ite, ↓good_foldl, ↓good_forEach, ↓good_alu, h, ite_self])
  all_goals (try grind [good_alu, good_mk, good_fold, good_foldl, good_forEach])

theorem good_execMax {qq ll} {s : State} (n : Nat) (gd : Nat) (ga : Nat) (gb : Nat) (pg : Nat) (h : Good qq ll s) : GoodO qq ll (execMax n gd ga gb pg s) := by
  unfold execMax
  try simp +contextual (maxDischargeDepth := 40) only [↓good_mk, ↓good_fold, ↓good_ite, ↓good_next, ↓goodO_ite, ↓good_foldl, ↓good_forEach, ↓good_alu, h, ite_self]
  all_goals (repeat' split)
  all_goals (try simp +contextual (maxDischargeDepth := 40) only [↓good_mk, ↓good_fold, ↓good_ite, ↓good_next, ↓goodO_ite, ↓good_foldl, ↓good_forEach, ↓good_alu, h, ite_self])
  all_goals (try grind [good_alu, good_mk, good_fold, good_foldl, good_forEach])

theorem good_execMinu {qq ll} {s : State} (n : Nat) (gd : Nat) (ga : Nat) (gb : Nat) (pg : Nat) (h : Good qq ll s) : GoodO qq ll (execMinu n gd ga gb pg s) := by
  unfold execMinu
  try simp +contextual (maxDischargeDepth := 40) only [↓good_mk, ↓good_fold, ↓good_ite, ↓good_next, ↓goodO_ite, ↓good_foldl, ↓good_forEach, ↓good_alu, h, ite_self]
  all_goals (repeat' split)
  all_goals (try simp +contextual (maxDischargeDepth := 40) only [↓good_mk, ↓good_fold, ↓good_ite, ↓good_next, ↓goodO_ite, ↓good_foldl, ↓good_forEach, ↓good_alu, h, ite_self])
  all_goals (try grind [good_alu, good_mk, good_fold, good_foldl, good_forEach])

theorem good_execMaxu {qq ll} {s : State} (n : Nat) (gd : Nat) (ga : Nat) (gb : Nat) (pg : Nat) (h : Good qq ll s) : GoodO qq ll (execMaxu n gd ga gb pg s) := by
  unfold execMaxu
  try simp +contextual (maxDischargeDepth := 40) only [↓good_mk, ↓good_fold, ↓good_ite, ↓good_next, ↓goodO_ite, ↓good_foldl, ↓good_forEach, ↓good_alu, h, ite_self]
  all_goals (repeat' split)
  all_goals (try simp +contextual (maxDischargeDepth := 40) only [↓good_mk, ↓good_fold, ↓good_ite, ↓good_next, ↓goodO_ite, ↓good_foldl, ↓good_forEach, ↓good_alu, h, ite_self])
  all_goals (try grind [good_alu, good_mk, good_fold, good_foldl, good_forEach])

theorem good_execAbs {qq ll} {s : State} (n : Nat) (gd : Nat) (ga : Nat) (pg : Nat) (h : Good qq ll s) : GoodO qq ll (execAbs n gd ga pg s) := by
  unfold execAbs
  try simp +contextual (maxDischargeDepth := 40) only [↓good_mk, ↓good_fold, ↓good_ite, ↓good_next, ↓goodO_ite, ↓good_foldl, ↓good_forEach, ↓good_aluSat, h, ite_self]
  all_goals (repeat' split)
  all_goals (try simp +contextual (maxDischargeDepth := 40) only [↓good_mk, ↓good_fold, ↓good_ite, ↓good_next, ↓goodO_ite, ↓good_foldl, ↓good_forEach, ↓good_aluSat, h, ite_self])
  all_goals (try grind [good_aluSat, good_mk, good_fold, good_foldl, good_forEach])

theorem good_execClz {qq ll} {s : State} (n : Nat) (gd : Nat) (ga : Nat) (pg : Nat) (h : Good qq ll s) : GoodO qq ll (execClz n gd ga pg s) := by
  unfold execClz
  try simp +contextual (maxDischargeDepth := 40) only [↓good_mk, ↓good_fold, ↓good_ite, ↓good_next, ↓goodO_ite, ↓good_foldl, ↓good_forEach, ↓good_alu, h, ite_self]
  all_goals (repeat' split)
  all_goals (try simp +contextual (maxDischargeDepth := 40) only [↓good_mk, ↓good_fold, ↓good_ite, ↓good_next, ↓goodO_ite, ↓good_foldl, ↓good_forEach, ↓good_alu, h, ite_self])
  all_goals (try grind [good_alu, good_mk, good_fold, good_foldl, good_forEach])

theorem good_aluImm {qq ll} {s : State} (n : Nat) (gd : Nat) (ga : Nat) (f : Word → Word) (h : Good qq ll s) : GoodO qq ll (State.aluImm s n gd ga f) := by
  unfold State.aluImm
  try simp +contextual (maxDischargeDepth := 40) only [↓good_mk, ↓good_fold, ↓good_ite, ↓good_next, ↓goodO_ite, ↓good_foldl, ↓good_forEach, ↓good_issueA, h, ite_self]
  all_goals (repeat' split)
  all_goals (try simp +contextual (maxDischargeDepth := 40) only [↓good_mk, ↓good_fold, ↓good_ite, ↓good_next, ↓goodO_ite, ↓good_foldl, ↓good_forEach, ↓good_issueA, h, ite_self])
  all_goals (try grind [good_issueA, good_mk, good_fold, good_foldl, good_forEach])

theorem good_execAddi {qq ll} {s : State} (n : Nat) (gd : Nat) (ga : Nat) (imm : Nat) (h : Good qq ll s) : GoodO qq ll (execAddi n gd ga imm s) := by
  unfold execAddi
  try simp +contextual (maxDischargeDepth := 40) only [↓good_mk, ↓good_fold, ↓good_ite, ↓good_next, ↓goodO_ite, ↓good_foldl, ↓good_forEach, ↓good_aluImm, h, ite_self]
  all_goals (repeat' split)
  all_goals (try simp +contextual (maxDischargeDepth := 40) only [↓good_mk, ↓good_fold, ↓good_ite, ↓good_next, ↓goodO_ite, ↓good_foldl, ↓good_forEach, ↓good_aluImm, h, ite_self])
  all_goals (try grind [good_aluImm, good_mk, good_fold, good_foldl, good_forEach])

theorem good_execAndi {qq ll} {s : State} (n : Nat) (gd : Nat) (ga : Nat) (imm : Nat) (h : Good qq ll s) : GoodO qq ll (execAndi n gd ga imm s) := by
  unfold execAndi
  try simp +contextual (maxDischargeDepth := 40) only [↓good_mk, ↓good_fold, ↓good_ite, ↓good_next, ↓goodO_ite, ↓good_foldl, ↓good_forEach, ↓good_aluImm, h, ite_self]
  all_goals (repeat' split)
  all_goals (try simp +contextual (maxDischargeDepth := 40) only [↓good_mk, ↓good_fold, ↓good_ite, ↓good_next, ↓goodO_ite, ↓good_foldl, ↓good_forEach, ↓good_aluImm, h, ite_self])
  all_goals (try grind [good_aluImm, good_mk, good_fold, good_foldl, good_forEach])

theorem good_execOri {qq ll} {s : State} (n : Nat) (gd : Nat) (ga : Nat) (imm : Nat) (h : Good qq ll s) : GoodO qq ll (execOri n gd ga imm s) := by
  unfold execOri
  try simp +contextual (maxDischargeDepth := 40) only [↓good_mk, ↓good_fold, ↓good_ite, ↓good_next, ↓goodO_ite, ↓good_foldl, ↓good_forEach, ↓good_aluImm, h, ite_self]
  all_goals (repeat' split)
  all_goals (try simp +contextual (maxDischargeDepth := 40) only [↓good_mk, ↓good_fold, ↓good_ite, ↓good_next, ↓goodO_ite, ↓good_foldl, ↓good_forEach, ↓good_aluImm, h, ite_self])
  all_goals (try grind [good_aluImm, good_mk, good_fold, good_foldl, good_forEach])

theorem good_execXori {qq ll} {s : State} (n : Nat) (gd : Nat) (ga : Nat) (imm : Nat) (h : Good qq ll s) : GoodO qq ll (execXori n gd ga imm s) := by
  unfold execXori
  try simp +contextual (maxDischargeDepth := 40) only [↓good_mk, ↓good_fold, ↓good_ite, ↓good_next, ↓goodO_ite, ↓good_foldl, ↓good_forEach, ↓good_aluImm, h, ite_self]
  all_goals (repeat' split)
  all_goals (try simp +contextual (maxDischargeDepth := 40) only [↓good_mk, ↓good_fold, ↓good_ite, ↓good_next, ↓goodO_ite, ↓good_foldl, ↓good_forEach, ↓good_aluImm, h, ite_self])
  all_goals (try grind [good_aluImm, good_mk, good_fold, good_foldl, good_forEach])

theorem good_execLui {qq ll} {s : State} (n : Nat) (gd : Nat) (imm : Nat) (h : Good qq ll s) : GoodO qq ll (execLui n gd imm s) := by
  unfold execLui
  try simp +contextual (maxDischargeDepth := 40) only [↓good_mk, ↓good_fold, ↓good_ite, ↓good_next, ↓goodO_ite, ↓good_foldl, ↓good_forEach, ↓good_issueA, h, ite_self]
  all_goals (repeat' split)
  all_goals (try simp +contextual (maxDischargeDepth := 40) only [↓good_mk, ↓good_fold, ↓good_ite, ↓good_next, ↓goodO_ite, ↓good_foldl, ↓good_forEach, ↓good_issueA, h, ite_self])
  all_goals (try grind [good_issueA, good_mk, good_fold, good_foldl, good_forEach])

theorem good_execShi {qq ll} {s : State} (n : Nat) (gd : Nat) (ga : Nat) (op : Nat) (sh : Nat) (h : Good qq ll s) : GoodO qq ll (execShi n gd ga op sh s) := by
  unfold execShi
  try simp +contextual (maxDischargeDepth := 40) only [↓good_mk, ↓good_fold, ↓good_ite, ↓good_next, ↓goodO_ite, ↓good_foldl, ↓good_forEach, ↓good_issueA, h, ite_self]
  all_goals (repeat' split)
  all_goals (try simp +contextual (maxDischargeDepth := 40) only [↓good_mk, ↓good_fold, ↓good_ite, ↓good_next, ↓goodO_ite, ↓good_foldl, ↓good_forEach, ↓good_issueA, h, ite_self])
  all_goals (try grind [good_issueA, good_mk, good_fold, good_foldl, good_forEach])

theorem good_execCmp {qq ll} {s : State} (n : Nat) (pd : Nat) (ga : Nat) (gb : Nat) (pg : Nat) (cond : Nat) (h : Good qq ll s) : GoodO qq ll (execCmp n pd ga gb pg cond s) := by
  unfold execCmp
  try simp +contextual (maxDischargeDepth := 40) only [↓good_mk, ↓good_fold, ↓good_ite, ↓good_next, ↓goodO_ite, ↓good_foldl, ↓good_forEach, ↓good_issueIf, h, ite_self]
  all_goals (repeat' split)
  all_goals (try simp +contextual (maxDischargeDepth := 40) only [↓good_mk, ↓good_fold, ↓good_ite, ↓good_next, ↓goodO_ite, ↓good_foldl, ↓good_forEach, ↓good_issueIf, h, ite_self])
  all_goals (try grind [good_issueIf, good_mk, good_fold, good_foldl, good_forEach])

theorem good_execCmpi {qq ll} {s : State} (n : Nat) (pd : Nat) (cond : Nat) (ga : Nat) (imm : Nat) (h : Good qq ll s) : GoodO qq ll (execCmpi n pd cond ga imm s) := by
  unfold execCmpi
  try simp +contextual (maxDischargeDepth := 40) only [↓good_mk, ↓good_fold, ↓good_ite, ↓good_next, ↓goodO_ite, ↓good_foldl, ↓good_forEach, ↓good_issueA, h, ite_self]
  all_goals (repeat' split)
  all_goals (try simp +contextual (maxDischargeDepth := 40) only [↓good_mk, ↓good_fold, ↓good_ite, ↓good_next, ↓goodO_ite, ↓good_foldl, ↓good_forEach, ↓good_issueA, h, ite_self])
  all_goals (try grind [good_issueA, good_mk, good_fold, good_foldl, good_forEach])

theorem good_execPlog {qq ll} {s : State} (n : Nat) (pd : Nat) (pa : Nat) (pb : Nat) (func : Nat) (h : Good qq ll s) : GoodO qq ll (execPlog n pd pa pb func s) := by
  unfold execPlog
  try simp +contextual (maxDischargeDepth := 40) only [↓good_mk, ↓good_fold, ↓good_ite, ↓good_next, ↓goodO_ite, ↓good_foldl, ↓good_forEach, ↓good_issueA, h, ite_self]
  all_goals (repeat' split)
  all_goals (try simp +contextual (maxDischargeDepth := 40) only [↓good_mk, ↓good_fold, ↓good_ite, ↓good_next, ↓goodO_ite, ↓good_foldl, ↓good_forEach, ↓good_issueA, h, ite_self])
  all_goals (try grind [good_issueA, good_mk, good_fold, good_foldl, good_forEach])

theorem good_mx {qq ll} {s : State} (n : Nat) (acc : Nat) (wa : Nat) (gb : Nat) (pg : Nat) (d : Bool) (u : Bool) (f : Int → Int → Int) (h : Good qq ll s) : GoodO qq ll (State.mx s n acc wa gb pg d u f) := by
  unfold State.mx
  try simp +contextual (maxDischargeDepth := 40) only [↓good_mk, ↓good_fold, ↓good_ite, ↓good_next, ↓goodO_ite, ↓good_foldl, ↓good_forEach, ↓good_issueMac, h, ite_self]
  all_goals (repeat' split)
  all_goals (try simp +contextual (maxDischargeDepth := 40) only [↓good_mk, ↓good_fold, ↓good_ite, ↓good_next, ↓goodO_ite, ↓good_foldl, ↓good_forEach, ↓good_issueMac, h, ite_self])
  all_goals (try grind [good_issueMac, good_mk, good_fold, good_foldl, good_forEach])

theorem good_execMac {qq ll} {s : State} (n : Nat) (acc : Nat) (wa : Nat) (gb : Nat) (pg : Nat) (d : Bool) (u : Bool) (h : Good qq ll s) : GoodO qq ll (execMac n acc wa gb pg d u s) := by
  unfold execMac
  try simp +contextual (maxDischargeDepth := 40) only [↓good_mk, ↓good_fold, ↓good_ite, ↓good_next, ↓goodO_ite, ↓good_foldl, ↓good_forEach, ↓good_mx, h, ite_self]
  all_goals (repeat' split)
  all_goals (try simp +contextual (maxDischargeDepth := 40) only [↓good_mk, ↓good_fold, ↓good_ite, ↓good_next, ↓goodO_ite, ↓good_foldl, ↓good_forEach, ↓good_mx, h, ite_self])
  all_goals (try grind [good_mx, good_mk, good_fold, good_foldl, good_forEach])

theorem good_execMsu {qq ll} {s : State} (n : Nat) (acc : Nat) (wa : Nat) (gb : Nat) (pg : Nat) (d : Bool) (u : Bool) (h : Good qq ll s) : GoodO qq ll (execMsu n acc wa gb pg d u s) := by
  unfold execMsu
  try simp +contextual (maxDischargeDepth := 40) only [↓good_mk, ↓good_fold, ↓good_ite, ↓good_next, ↓goodO_ite, ↓good_foldl, ↓good_forEach, ↓good_mx, h, ite_self]
  all_goals (repeat' split)
  all_goals (try simp +contextual (maxDischargeDepth := 40) only [↓good_mk, ↓good_fold, ↓good_ite, ↓good_next, ↓goodO_ite, ↓good_foldl, ↓good_forEach, ↓good_mx, h, ite_self])
  all_goals (try grind [good_mx, good_mk, good_fold, good_foldl, good_forEach])

theorem good_execMxMul {qq ll} {s : State} (n : Nat) (acc : Nat) (wa : Nat) (gb : Nat) (pg : Nat) (d : Bool) (u : Bool) (h : Good qq ll s) : GoodO qq ll (execMxMul n acc wa gb pg d u s) := by
  unfold execMxMul
  try simp +contextual (maxDischargeDepth := 40) only [↓good_mk, ↓good_fold, ↓good_ite, ↓good_next, ↓goodO_ite, ↓good_foldl, ↓good_forEach, ↓good_mx, h, ite_self]
  all_goals (repeat' split)
  all_goals (try simp +contextual (maxDischargeDepth := 40) only [↓good_mk, ↓good_fold, ↓good_ite, ↓good_next, ↓goodO_ite, ↓good_foldl, ↓good_forEach, ↓good_mx, h, ite_self])
  all_goals (try grind [good_mx, good_mk, good_fold, good_foldl, good_forEach])

theorem good_execAccrd {qq ll} {s : State} (n : Nat) (acc : Nat) (f : Bool) (rt : Nat) (sh : Nat) (rnd : Nat) (sat : Bool) (pg : Nat) (h : Good qq ll s) : GoodO qq ll (execAccrd n acc f rt sh rnd sat pg s) := by
  unfold execAccrd
  try simp +contextual (maxDischargeDepth := 40) only [↓good_mk, ↓good_fold, ↓good_ite, ↓good_next, ↓goodO_ite, ↓good_foldl, ↓good_forEach, ↓good_issueMac, h, ite_self]
  all_goals (repeat' split)
  all_goals (try simp +contextual (maxDischargeDepth := 40) only [↓good_mk, ↓good_fold, ↓good_ite, ↓good_next, ↓goodO_ite, ↓good_foldl, ↓good_forEach, ↓good_issueMac, h, ite_self])
  all_goals (try grind [good_issueMac, good_mk, good_fold, good_foldl, good_forEach])

theorem good_execAccwr {qq ll} {s : State} (n : Nat) (acc : Nat) (f : Bool) (rt : Nat) (sh : Nat) (pg : Nat) (h : Good qq ll s) : GoodO qq ll (execAccwr n acc f rt sh pg s) := by
  unfold execAccwr
  try simp +contextual (maxDischargeDepth := 40) only [↓good_mk, ↓good_fold, ↓good_ite, ↓good_next, ↓goodO_ite, ↓good_foldl, ↓good_forEach, ↓good_issueMac, h, ite_self]
  all_goals (repeat' split)
  all_goals (try simp +contextual (maxDischargeDepth := 40) only [↓good_mk, ↓good_fold, ↓good_ite, ↓good_next, ↓goodO_ite, ↓good_foldl, ↓good_forEach, ↓good_issueMac, h, ite_self])
  all_goals (try grind [good_issueMac, good_mk, good_fold, good_foldl, good_forEach])

theorem good_execAccshr {qq ll} {s : State} (n : Nat) (acc : Nat) (sh : Nat) (pg : Nat) (h : Good qq ll s) : GoodO qq ll (execAccshr n acc sh pg s) := by
  unfold execAccshr
  try simp +contextual (maxDischargeDepth := 40) only [↓good_mk, ↓good_fold, ↓good_ite, ↓good_next, ↓goodO_ite, ↓good_foldl, ↓good_forEach, ↓good_issueMac, h, ite_self]
  all_goals (repeat' split)
  all_goals (try simp +contextual (maxDischargeDepth := 40) only [↓good_mk, ↓good_fold, ↓good_ite, ↓good_next, ↓goodO_ite, ↓good_foldl, ↓good_forEach, ↓good_issueMac, h, ite_self])
  all_goals (try grind [good_issueMac, good_mk, good_fold, good_foldl, good_forEach])

theorem good_execAccclr {qq ll} {s : State} (n : Nat) (acc : Nat) (pg : Nat) (h : Good qq ll s) : GoodO qq ll (execAccclr n acc pg s) := by
  unfold execAccclr
  try simp +contextual (maxDischargeDepth := 40) only [↓good_mk, ↓good_fold, ↓good_ite, ↓good_next, ↓goodO_ite, ↓good_foldl, ↓good_forEach, ↓good_issueMac, h, ite_self]
  all_goals (repeat' split)
  all_goals (try simp +contextual (maxDischargeDepth := 40) only [↓good_mk, ↓good_fold, ↓good_ite, ↓good_next, ↓goodO_ite, ↓good_foldl, ↓good_forEach, ↓good_issueMac, h, ite_self])
  all_goals (try grind [good_issueMac, good_mk, good_fold, good_foldl, good_forEach])

theorem good_ww {qq ll} {s : State} (n : Nat) (wd : Nat) (wa : Nat) (wb : Nat) (pg : Nat) (f : Word → Word → Word) (h : Good qq ll s) : GoodO qq ll (State.ww s n wd wa wb pg f) := by
  unfold State.ww
  try simp +contextual (maxDischargeDepth := 40) only [↓good_mk, ↓good_fold, ↓good_ite, ↓good_next, ↓goodO_ite, ↓good_foldl, ↓good_forEach, ↓good_issueIf, h, ite_self]
  all_goals (repeat' split)
  all_goals (try simp +contextual (maxDischargeDepth := 40) only [↓good_mk, ↓good_fold, ↓good_ite, ↓good_next, ↓goodO_ite, ↓good_foldl, ↓good_forEach, ↓good_issueIf, h, ite_self])
  all_goals (try grind [good_issueIf, good_mk, good_fold, good_foldl, good_forEach])

theorem good_wwSat {qq ll} {s : State} (n : Nat) (wd : Nat) (wa : Nat) (wb : Nat) (pg : Nat) (f : Int → Int → Int) (h : Good qq ll s) : GoodO qq ll (State.wwSat s n wd wa wb pg f) := by
  unfold State.wwSat
  try simp +contextual (maxDischargeDepth := 40) only [↓good_mk, ↓good_fold, ↓good_ite, ↓good_next, ↓goodO_ite, ↓good_foldl, ↓good_forEach, ↓good_issueIf, h, ite_self]
  all_goals (repeat' split)
  all_goals (try simp +contextual (maxDischargeDepth := 40) only [↓good_mk, ↓good_fold, ↓good_ite, ↓good_next, ↓goodO_ite, ↓good_foldl, ↓good_forEach, ↓good_issueIf, h, ite_self])
  all_goals (try grind [good_issueIf, good_mk, good_fold, good_foldl, good_forEach])

theorem good_execWadd {qq ll} {s : State} (n : Nat) (wd : Nat) (wa : Nat) (wb : Nat) (pg : Nat) (h : Good qq ll s) : GoodO qq ll (execWadd n wd wa wb pg s) := by
  unfold execWadd
  try simp +contextual (maxDischargeDepth := 40) only [↓good_mk, ↓good_fold, ↓good_ite, ↓good_next, ↓goodO_ite, ↓good_foldl, ↓good_forEach, ↓good_ww, h, ite_self]
  all_goals (repeat' split)
  all_goals (try simp +contextual (maxDischargeDepth := 40) only [↓good_mk, ↓good_fold, ↓good_ite, ↓good_next, ↓goodO_ite, ↓good_foldl, ↓good_forEach, ↓good_ww, h, ite_self])
  all_goals (try grind [good_ww, good_mk, good_fold, good_foldl, good_forEach])

theorem good_execWsub {qq ll} {s : State} (n : Nat) (wd : Nat) (wa : Nat) (wb : Nat) (pg : Nat) (h : Good qq ll s) : GoodO qq ll (execWsub n wd wa wb pg s) := by
  unfold execWsub
  try simp +contextual (maxDischargeDepth := 40) only [↓good_mk, ↓good_fold, ↓good_ite, ↓good_next, ↓goodO_ite, ↓good_foldl, ↓good_forEach, ↓good_ww, h, ite_self]
  all_goals (repeat' split)
  all_goals (try simp +contextual (maxDischargeDepth := 40) only [↓good_mk, ↓good_fold, ↓good_ite, ↓good_next, ↓goodO_ite, ↓good_foldl, ↓good_forEach, ↓good_ww, h, ite_self])
  all_goals (try grind [good_ww, good_mk, good_fold, good_foldl, good_forEach])

theorem good_execWadds {qq ll} {s : State} (n : Nat) (wd : Nat) (wa : Nat) (wb : Nat) (pg : Nat) (h : Good qq ll s) : GoodO qq ll (execWadds n wd wa wb pg s) := by
  unfold execWadds
  try simp +contextual (maxDischargeDepth := 40) only [↓good_mk, ↓good_fold, ↓good_ite, ↓good_next, ↓goodO_ite, ↓good_foldl, ↓good_forEach, ↓good_wwSat, h, ite_self]
  all_goals (repeat' split)
  all_goals (try simp +contextual (maxDischargeDepth := 40) only [↓good_mk, ↓good_fold, ↓good_ite, ↓good_next, ↓goodO_ite, ↓good_foldl, ↓good_forEach, ↓good_wwSat, h, ite_self])
  all_goals (try grind [good_wwSat, good_mk, good_fold, good_foldl, good_forEach])

theorem good_execWsubs {qq ll} {s : State} (n : Nat) (wd : Nat) (wa : Nat) (wb : Nat) (pg : Nat) (h : Good qq ll s) : GoodO qq ll (execWsubs n wd wa wb pg s) := by
  unfold execWsubs
  try simp +contextual (maxDischargeDepth := 40) only [↓good_mk, ↓good_fold, ↓good_ite, ↓good_next, ↓goodO_ite, ↓good_foldl, ↓good_forEach, ↓good_wwSat, h, ite_self]
  all_goals (repeat' split)
  all_goals (try simp +contextual (maxDischargeDepth := 40) only [↓good_mk, ↓good_fold, ↓good_ite, ↓good_next, ↓goodO_ite, ↓good_foldl, ↓good_forEach, ↓good_wwSat, h, ite_self])
  all_goals (try grind [good_wwSat, good_mk, good_fold, good_foldl, good_forEach])

theorem good_execWneg {qq ll} {s : State} (n : Nat) (wd : Nat) (wa : Nat) (pg : Nat) (h : Good qq ll s) : GoodO qq ll (execWneg n wd wa pg s) := by
  unfold execWneg
  try simp +contextual (maxDischargeDepth := 40) only [↓good_mk, ↓good_fold, ↓good_ite, ↓good_next, ↓goodO_ite, ↓good_foldl, ↓good_forEach, ↓good_ww, h, ite_self]
  all_goals (repeat' split)
  all_goals (try simp +contextual (maxDischargeDepth := 40) only [↓good_mk, ↓good_fold, ↓good_ite, ↓good_next, ↓goodO_ite, ↓good_foldl, ↓good_forEach, ↓good_ww, h, ite_self])
  all_goals (try grind [good_ww, good_mk, good_fold, good_foldl, good_forEach])

theorem good_execWmov {qq ll} {s : State} (n : Nat) (wd : Nat) (wa : Nat) (pg : Nat) (h : Good qq ll s) : GoodO qq ll (execWmov n wd wa pg s) := by
  unfold execWmov
  try simp +contextual (maxDischargeDepth := 40) only [↓good_mk, ↓good_fold, ↓good_ite, ↓good_next, ↓goodO_ite, ↓good_foldl, ↓good_forEach, ↓good_ww, h, ite_self]
  all_goals (repeat' split)
  all_goals (try simp +contextual (maxDischargeDepth := 40) only [↓good_mk, ↓good_fold, ↓good_ite, ↓good_next, ↓goodO_ite, ↓good_foldl, ↓good_forEach, ↓good_ww, h, ite_self])
  all_goals (try grind [good_ww, good_mk, good_fold, good_foldl, good_forEach])

theorem good_execWfromg {qq ll} {s : State} (n : Nat) (wd : Nat) (g : Nat) (pg : Nat) (h : Good qq ll s) : GoodO qq ll (execWfromg n wd g pg s) := by
  unfold execWfromg
  try simp +contextual (maxDischargeDepth := 40) only [↓good_mk, ↓good_fold, ↓good_ite, ↓good_next, ↓goodO_ite, ↓good_foldl, ↓good_forEach, ↓good_issueIf, h, ite_self]
  all_goals (repeat' split)
  all_goals (try simp +contextual (maxDischargeDepth := 40) only [↓good_mk, ↓good_fold, ↓good_ite, ↓good_next, ↓goodO_ite, ↓good_foldl, ↓good_forEach, ↓good_issueIf, h, ite_self])
  all_goals (try grind [good_issueIf, good_mk, good_fold, good_foldl, good_forEach])

theorem good_execWtog {qq ll} {s : State} (n : Nat) (g : Nat) (wa : Nat) (pg : Nat) (h : Good qq ll s) : GoodO qq ll (execWtog n g wa pg s) := by
  unfold execWtog
  try simp +contextual (maxDischargeDepth := 40) only [↓good_mk, ↓good_fold, ↓good_ite, ↓good_next, ↓goodO_ite, ↓good_foldl, ↓good_forEach, ↓good_issueIf, h, ite_self]
  all_goals (repeat' split)
  all_goals (try simp +contextual (maxDischargeDepth := 40) only [↓good_mk, ↓good_fold, ↓good_ite, ↓good_next, ↓goodO_ite, ↓good_foldl, ↓good_forEach, ↓good_issueIf, h, ite_self])
  all_goals (try grind [good_issueIf, good_mk, good_fold, good_foldl, good_forEach])

theorem good_fpOp {qq ll} {s : State} (n : Nat) (gd : Nat) (ga : Nat) (gb : Nat) (pg : Nat) (f : Nat → Flt → Flt → FltRes) (h : Good qq ll s) : GoodO qq ll (State.fpOp s n gd ga gb pg f) := by
  unfold State.fpOp
  first
    | refine good_issue _ _ (fun c s h => ?_) h
    | refine good_issueB _ _ (fun c s h => ?_) h
  repeat' first
    | with_reducible assumption
    | (intro s; refine (show Good qq ll s → _ from fun h => ?_) ?_ <;> [clear_value s; subst s])
    | (intro x; clear_value x)
    | lift_lets
    | with_reducible refine goodI_done.mpr ?_
    | with_reducible refine goodI_raise.mpr ?_
    | split
  all_goals simp +contextual (maxDischargeDepth := 40) only [↓good_mk, ↓good_fold, ↓good_ite, ↓good_next, ↓goodO_ite, ↓good_foldl, ↓good_forEach, ↓good_free, ↓good_lead, ↓goodI_done, ↓goodI_raise, h, ite_self, *]

theorem good_fpWord {qq ll} {s : State} (n : Nat) (gd : Nat) (ga : Nat) (gb : Nat) (pg : Nat) (f : Nat → Word → Word → Nat × Nat) (h : Good qq ll s) : GoodO qq ll (State.fpWord s n gd ga gb pg f) := by
  unfold State.fpWord
  try simp +contextual (maxDischargeDepth := 40) only [↓good_mk, ↓good_fold, ↓good_ite, ↓good_next, ↓goodO_ite, ↓good_foldl, ↓good_forEach, ↓good_issueIf, h, ite_self]
  all_goals (repeat' split)
  all_goals (try simp +contextual (maxDischargeDepth := 40) only [↓good_mk, ↓good_fold, ↓good_ite, ↓good_next, ↓goodO_ite, ↓good_foldl, ↓good_forEach, ↓good_issueIf, h, ite_self])
  all_goals (try grind [good_issueIf, good_mk, good_fold, good_foldl, good_forEach])

theorem good_execFadd {qq ll} {s : State} (n : Nat) (gd : Nat) (ga : Nat) (gb : Nat) (pg : Nat) (h : Good qq ll s) : GoodO qq ll (execFadd n gd ga gb pg s) := by
  unfold execFadd
  try simp +contextual (maxDischargeDepth := 40) only [↓good_mk, ↓good_fold, ↓good_ite, ↓good_next, ↓goodO_ite, ↓good_foldl, ↓good_forEach, ↓good_fpOp, h, ite_self]
  all_goals (repeat' split)
  all_goals (try simp +contextual (maxDischargeDepth := 40) only [↓good_mk, ↓good_fold, ↓good_ite, ↓good_next, ↓goodO_ite, ↓good_foldl, ↓good_forEach, ↓good_fpOp, h, ite_self])
  all_goals (try grind [good_fpOp, good_mk, good_fold, good_foldl, good_forEach])

theorem good_execFsub {qq ll} {s : State} (n : Nat) (gd : Nat) (ga : Nat) (gb : Nat) (pg : Nat) (h : Good qq ll s) : GoodO qq ll (execFsub n gd ga gb pg s) := by
  unfold execFsub
  try simp +contextual (maxDischargeDepth := 40) only [↓good_mk, ↓good_fold, ↓good_ite, ↓good_next, ↓goodO_ite, ↓good_foldl, ↓good_forEach, ↓good_fpOp, h, ite_self]
  all_goals (repeat' split)
  all_goals (try simp +contextual (maxDischargeDepth := 40) only [↓good_mk, ↓good_fold, ↓good_ite, ↓good_next, ↓goodO_ite, ↓good_foldl, ↓good_forEach, ↓good_fpOp, h, ite_self])
  all_goals (try grind [good_fpOp, good_mk, good_fold, good_foldl, good_forEach])

theorem good_execFmul {qq ll} {s : State} (n : Nat) (gd : Nat) (ga : Nat) (gb : Nat) (pg : Nat) (h : Good qq ll s) : GoodO qq ll (execFmul n gd ga gb pg s) := by
  unfold execFmul
  try simp +contextual (maxDischargeDepth := 40) only [↓good_mk, ↓good_fold, ↓good_ite, ↓good_next, ↓goodO_ite, ↓good_foldl, ↓good_forEach, ↓good_fpOp, h, ite_self]
  all_goals (repeat' split)
  all_goals (try simp +contextual (maxDischargeDepth := 40) only [↓good_mk, ↓good_fold, ↓good_ite, ↓good_next, ↓goodO_ite, ↓good_foldl, ↓good_forEach, ↓good_fpOp, h, ite_self])
  all_goals (try grind [good_fpOp, good_mk, good_fold, good_foldl, good_forEach])

theorem good_execFdiv {qq ll} {s : State} (n : Nat) (gd : Nat) (ga : Nat) (gb : Nat) (pg : Nat) (h : Good qq ll s) : GoodO qq ll (execFdiv n gd ga gb pg s) := by
  unfold execFdiv
  try simp +contextual (maxDischargeDepth := 40) only [↓good_mk, ↓good_fold, ↓good_ite, ↓good_next, ↓goodO_ite, ↓good_foldl, ↓good_forEach, ↓good_fpOp, h, ite_self]
  all_goals (repeat' split)
  all_goals (try simp +contextual (maxDischargeDepth := 40) only [↓good_mk, ↓good_fold, ↓good_ite, ↓good_next, ↓goodO_ite, ↓good_foldl, ↓good_forEach, ↓good_fpOp, h, ite_self])
  all_goals (try grind [good_fpOp, good_mk, good_fold, good_foldl, good_forEach])

theorem good_execFsqrt {qq ll} {s : State} (n : Nat) (gd : Nat) (ga : Nat) (pg : Nat) (h : Good qq ll s) : GoodO qq ll (execFsqrt n gd ga pg s) := by
  unfold execFsqrt
  try simp +contextual (maxDischargeDepth := 40) only [↓good_mk, ↓good_fold, ↓good_ite, ↓good_next, ↓goodO_ite, ↓good_foldl, ↓good_forEach, ↓good_fpOp, h, ite_self]
  all_goals (repeat' split)
  all_goals (try simp +contextual (maxDischargeDepth := 40) only [↓good_mk, ↓good_fold, ↓good_ite, ↓good_next, ↓goodO_ite, ↓good_foldl, ↓good_forEach, ↓good_fpOp, h, ite_self])
  all_goals (try grind [good_fpOp, good_mk, good_fold, good_foldl, good_forEach])

theorem good_fpPick {qq ll} {s : State} (n : Nat) (gd : Nat) (ga : Nat) (gb : Nat) (pg : Nat) (pick : Flt → Flt → Bool) (h : Good qq ll s) : GoodO qq ll (State.fpPick s n gd ga gb pg pick) := by
  unfold State.fpPick
  first
    | refine good_issue _ _ (fun c s h => ?_) h
    | refine good_issueB _ _ (fun c s h => ?_) h
  repeat' first
    | with_reducible assumption
    | (intro s; refine (show Good qq ll s → _ from fun h => ?_) ?_ <;> [clear_value s; subst s])
    | (intro x; clear_value x)
    | lift_lets
    | with_reducible refine goodI_done.mpr ?_
    | with_reducible refine goodI_raise.mpr ?_
    | split
  all_goals simp +contextual (maxDischargeDepth := 40) only [↓good_mk, ↓good_fold, ↓good_ite, ↓good_next, ↓goodO_ite, ↓good_foldl, ↓good_forEach, ↓good_free, ↓good_lead, ↓goodI_done, ↓goodI_raise, h, ite_self, *]

theorem good_execFmin {qq ll} {s : State} (n : Nat) (gd : Nat) (ga : Nat) (gb : Nat) (pg : Nat) (h : Good qq ll s) : GoodO qq ll (execFmin n gd ga gb pg s) := by
  unfold execFmin
  try simp +contextual (maxDischargeDepth := 40) only [↓good_mk, ↓good_fold, ↓good_ite, ↓good_next, ↓goodO_ite, ↓good_foldl, ↓good_forEach, ↓good_fpPick, h, ite_self]
  all_goals (repeat' split)
  all_goals (try simp +contextual (maxDischargeDepth := 40) only [↓good_mk, ↓good_fold, ↓good_ite, ↓good_next, ↓goodO_ite, ↓good_foldl, ↓good_forEach, ↓good_fpPick, h, ite_self])
  all_goals (try grind [good_fpPick, good_mk, good_fold, good_foldl, good_forEach])

theorem good_execFmax {qq ll} {s : State} (n : Nat) (gd : Nat) (ga : Nat) (gb : Nat) (pg : Nat) (h : Good qq ll s) : GoodO qq ll (execFmax n gd ga gb pg s) := by
  unfold execFmax
  try simp +contextual (maxDischargeDepth := 40) only [↓good_mk, ↓good_fold, ↓good_ite, ↓good_next, ↓goodO_ite, ↓good_foldl, ↓good_forEach, ↓good_fpPick, h, ite_self]
  all_goals (repeat' split)
  all_goals (try simp +contextual (maxDischargeDepth := 40) only [↓good_mk, ↓good_fold, ↓good_ite, ↓good_next, ↓goodO_ite, ↓good_foldl, ↓good_forEach, ↓good_fpPick, h, ite_self])
  all_goals (try grind [good_fpPick, good_mk, good_fold, good_foldl, good_forEach])

theorem good_execFabs {qq ll} {s : State} (n : Nat) (gd : Nat) (ga : Nat) (pg : Nat) (h : Good qq ll s) : GoodO qq ll (execFabs n gd ga pg s) := by
  unfold execFabs
  try simp +contextual (maxDischargeDepth := 40) only [↓good_mk, ↓good_fold, ↓good_ite, ↓good_next, ↓goodO_ite, ↓good_foldl, ↓good_forEach, ↓good_fpWord, h, ite_self]
  all_goals (repeat' split)
  all_goals (try simp +contextual (maxDischargeDepth := 40) only [↓good_mk, ↓good_fold, ↓good_ite, ↓good_next, ↓goodO_ite, ↓good_foldl, ↓good_forEach, ↓good_fpWord, h, ite_self])
  all_goals (try grind [good_fpWord, good_mk, good_fold, good_foldl, good_forEach])

theorem good_execFneg {qq ll} {s : State} (n : Nat) (gd : Nat) (ga : Nat) (pg : Nat) (h : Good qq ll s) : GoodO qq ll (execFneg n gd ga pg s) := by
  unfold execFneg
  try simp +contextual (maxDischargeDepth := 40) only [↓good_mk, ↓good_fold, ↓good_ite, ↓good_next, ↓goodO_ite, ↓good_foldl, ↓good_forEach, ↓good_fpWord, h, ite_self]
  all_goals (repeat' split)
  all_goals (try simp +contextual (maxDischargeDepth := 40) only [↓good_mk, ↓good_fold, ↓good_ite, ↓good_next, ↓goodO_ite, ↓good_foldl, ↓good_forEach, ↓good_fpWord, h, ite_self])
  all_goals (try grind [good_fpWord, good_mk, good_fold, good_foldl, good_forEach])

theorem good_fpCmp {qq ll} {s : State} (n : Nat) (gd : Nat) (ga : Nat) (gb : Nat) (pg : Nat) (quiet : Bool) (p : Flt → Flt → Bool) (h : Good qq ll s) : GoodO qq ll (State.fpCmp s n gd ga gb pg quiet p) := by
  unfold State.fpCmp
  try simp +contextual (maxDischargeDepth := 40) only [↓good_mk, ↓good_fold, ↓good_ite, ↓good_next, ↓goodO_ite, ↓good_foldl, ↓good_forEach, ↓good_fpWord, h, ite_self]
  all_goals (repeat' split)
  all_goals (try simp +contextual (maxDischargeDepth := 40) only [↓good_mk, ↓good_fold, ↓good_ite, ↓good_next, ↓goodO_ite, ↓good_foldl, ↓good_forEach, ↓good_fpWord, h, ite_self])
  all_goals (try grind [good_fpWord, good_mk, good_fold, good_foldl, good_forEach])

theorem good_execFeq {qq ll} {s : State} (n : Nat) (gd : Nat) (ga : Nat) (gb : Nat) (pg : Nat) (h : Good qq ll s) : GoodO qq ll (execFeq n gd ga gb pg s) := by
  unfold execFeq
  try simp +contextual (maxDischargeDepth := 40) only [↓good_mk, ↓good_fold, ↓good_ite, ↓good_next, ↓goodO_ite, ↓good_foldl, ↓good_forEach, ↓good_fpCmp, h, ite_self]
  all_goals (repeat' split)
  all_goals (try simp +contextual (maxDischargeDepth := 40) only [↓good_mk, ↓good_fold, ↓good_ite, ↓good_next, ↓goodO_ite, ↓good_foldl, ↓good_forEach, ↓good_fpCmp, h, ite_self])
  all_goals (try grind [good_fpCmp, good_mk, good_fold, good_foldl, good_forEach])

theorem good_execFlt {qq ll} {s : State} (n : Nat) (gd : Nat) (ga : Nat) (gb : Nat) (pg : Nat) (h : Good qq ll s) : GoodO qq ll (execFlt n gd ga gb pg s) := by
  unfold execFlt
  try simp +contextual (maxDischargeDepth := 40) only [↓good_mk, ↓good_fold, ↓good_ite, ↓good_next, ↓goodO_ite, ↓good_foldl, ↓good_forEach, ↓good_fpCmp, h, ite_self]
  all_goals (repeat' split)
  all_goals (try simp +contextual (maxDischargeDepth := 40) only [↓good_mk, ↓good_fold, ↓good_ite, ↓good_next, ↓goodO_ite, ↓good_foldl, ↓good_forEach, ↓good_fpCmp, h, ite_self])
  all_goals (try grind [good_fpCmp, good_mk, good_fold, good_foldl, good_forEach])

theorem good_execFle {qq ll} {s : State} (n : Nat) (gd : Nat) (ga : Nat) (gb : Nat) (pg : Nat) (h : Good qq ll s) : GoodO qq ll (execFle n gd ga gb pg s) := by
  unfold execFle
  try simp +contextual (maxDischargeDepth := 40) only [↓good_mk, ↓good_fold, ↓good_ite, ↓good_next, ↓goodO_ite, ↓good_foldl, ↓good_forEach, ↓good_fpCmp, h, ite_self]
  all_goals (repeat' split)
  all_goals (try simp +contextual (maxDischargeDepth := 40) only [↓good_mk, ↓good_fold, ↓good_ite, ↓good_next, ↓goodO_ite, ↓good_foldl, ↓good_forEach, ↓good_fpCmp, h, ite_self])
  all_goals (try grind [good_fpCmp, good_mk, good_fold, good_foldl, good_forEach])

theorem good_execFcvtSW {qq ll} {s : State} (n : Nat) (gd : Nat) (ga : Nat) (pg : Nat) (h : Good qq ll s) : GoodO qq ll (execFcvtSW n gd ga pg s) := by
  unfold execFcvtSW
  try simp +contextual (maxDischargeDepth := 40) only [↓good_mk, ↓good_fold, ↓good_ite, ↓good_next, ↓goodO_ite, ↓good_foldl, ↓good_forEach, ↓good_fpWord, h, ite_self]
  all_goals (repeat' split)
  all_goals (try simp +contextual (maxDischargeDepth := 40) only [↓good_mk, ↓good_fold, ↓good_ite, ↓good_next, ↓goodO_ite, ↓good_foldl, ↓good_forEach, ↓good_fpWord, h, ite_self])
  all_goals (try grind [good_fpWord, good_mk, good_fold, good_foldl, good_forEach])

theorem good_execFcvtWS {qq ll} {s : State} (n : Nat) (gd : Nat) (ga : Nat) (pg : Nat) (h : Good qq ll s) : GoodO qq ll (execFcvtWS n gd ga pg s) := by
  unfold execFcvtWS
  try simp +contextual (maxDischargeDepth := 40) only [↓good_mk, ↓good_fold, ↓good_ite, ↓good_next, ↓goodO_ite, ↓good_foldl, ↓good_forEach, ↓good_fpWord, h, ite_self]
  all_goals (repeat' split)
  all_goals (try simp +contextual (maxDischargeDepth := 40) only [↓good_mk, ↓good_fold, ↓good_ite, ↓good_next, ↓goodO_ite, ↓good_foldl, ↓good_forEach, ↓good_fpWord, h, ite_self])
  all_goals (try grind [good_fpWord, good_mk, good_fold, good_foldl, good_forEach])

theorem good_execFcvtSQ {qq ll} {s : State} (n : Nat) (gd : Nat) (ga : Nat) (pg : Nat) (h : Good qq ll s) : GoodO qq ll (execFcvtSQ n gd ga pg s) := by
  unfold execFcvtSQ
  try simp +contextual (maxDischargeDepth := 40) only [↓good_mk, ↓good_fold, ↓good_ite, ↓good_next, ↓goodO_ite, ↓good_foldl, ↓good_forEach, ↓good_fpWord, h, ite_self]
  all_goals (repeat' split)
  all_goals (try simp +contextual (maxDischargeDepth := 40) only [↓good_mk, ↓good_fold, ↓good_ite, ↓good_next, ↓goodO_ite, ↓good_foldl, ↓good_forEach, ↓good_fpWord, h, ite_self])
  all_goals (try grind [good_fpWord, good_mk, good_fold, good_foldl, good_forEach])

theorem good_execFcvtQS {qq ll} {s : State} (n : Nat) (gd : Nat) (ga : Nat) (pg : Nat) (h : Good qq ll s) : GoodO qq ll (execFcvtQS n gd ga pg s) := by
  unfold execFcvtQS
  try simp +contextual (maxDischargeDepth := 40) only [↓good_mk, ↓good_fold, ↓good_ite, ↓good_next, ↓goodO_ite, ↓good_foldl, ↓good_forEach, ↓good_fpWord, h, ite_self]
  all_goals (repeat' split)
  all_goals (try simp +contextual (maxDischargeDepth := 40) only [↓good_mk, ↓good_fold, ↓good_ite, ↓good_next, ↓goodO_ite, ↓good_foldl, ↓good_forEach, ↓good_fpWord, h, ite_self])
  all_goals (try grind [good_fpWord, good_mk, good_fold, good_foldl, good_forEach])

theorem good_execBr {qq ll} {s : State} (n : Nat) (pg : Nat) (neg : Bool) (off : Int) (h : Good qq ll s) : GoodO qq ll (execBr n pg neg off s) := by
  unfold execBr
  first
    | refine good_issue _ _ (fun c s h => ?_) h
    | refine good_issueB _ _ (fun c s h => ?_) h
  repeat' first
    | with_reducible assumption
    | (intro s; refine (show Good qq ll s → _ from fun h => ?_) ?_ <;> [clear_value s; subst s])
    | (intro x; clear_value x)
    | lift_lets
    | with_reducible refine goodI_done.mpr ?_
    | with_reducible refine goodI_raise.mpr ?_
    | split
  all_goals simp +contextual (maxDischargeDepth := 40) only [↓good_mk, ↓good_fold, ↓good_ite, ↓good_next, ↓goodO_ite, ↓good_foldl, ↓good_forEach, ↓good_lead, ↓goodI_done, ↓goodI_raise, h, ite_self, *]

theorem good_execCall {qq ll} {s : State} (n : Nat) (pg : Nat) (neg : Bool) (off : Int) (h : Good qq ll s) : GoodO qq ll (execCall n pg neg off s) := by
  unfold execCall
  first
    | refine good_issue _ _ (fun c s h => ?_) h
    | refine good_issueB _ _ (fun c s h => ?_) h
  repeat' first
    | with_reducible assumption
    | (intro s; refine (show Good qq ll s → _ from fun h => ?_) ?_ <;> [clear_value s; subst s])
    | (intro x; clear_value x)
    | lift_lets
    | with_reducible refine goodI_done.mpr ?_
    | with_reducible refine goodI_raise.mpr ?_
    | split
  all_goals simp +contextual (maxDischargeDepth := 40) only [↓good_mk, ↓good_fold, ↓good_ite, ↓good_next, ↓goodO_ite, ↓good_foldl, ↓good_forEach, ↓good_lead, ↓goodI_done, ↓goodI_raise, h, ite_self, *]

theorem good_execJr {qq ll} {s : State} (n : Nat) (gd : Nat) (ga : Nat) (pg : Nat) (h : Good qq ll s) : GoodO qq ll (execJr n gd ga pg s) := by
  unfold execJr
  first
    | refine good_issue _ _ (fun c s h => ?_) h
    | refine good_issueB _ _ (fun c s h => ?_) h
  repeat' first
    | with_reducible assumption
    | (intro s; refine (show Good qq ll s → _ from fun h => ?_) ?_ <;> [clear_value s; subst s])
    | (intro x; clear_value x)
    | lift_lets
    | with_reducible refine goodI_done.mpr ?_
    | with_reducible refine goodI_raise.mpr ?_
    | split
  all_goals simp +contextual (maxDischargeDepth := 40) only [↓good_mk, ↓good_fold, ↓good_ite, ↓good_next, ↓goodO_ite, ↓good_foldl, ↓good_forEach, ↓good_raise, ↓good_lead, ↓goodI_done, ↓goodI_raise, h, ite_self, *]

theorem good_execLoop {qq ll} {s : State} (n : Nat) (off : Int) (h : Good qq ll s) : GoodO qq ll (execLoop n off s) := by
  unfold execLoop
  first
    | refine good_issue _ _ (fun c s h => ?_) h
    | refine good_issueB _ _ (fun c s h => ?_) h
  repeat' first
    | with_reducible assumption
    | (intro s; refine (show Good qq ll s → _ from fun h => ?_) ?_ <;> [clear_value s; subst s])
    | (intro x; clear_value x)
    | lift_lets
    | with_reducible refine goodI_done.mpr ?_
    | with_reducible refine goodI_raise.mpr ?_
    | split
  all_goals simp +contextual (maxDischargeDepth := 40) only [↓good_mk, ↓good_fold, ↓good_ite, ↓good_next, ↓goodO_ite, ↓good_foldl, ↓good_forEach, ↓good_lead, ↓goodI_done, ↓goodI_raise, h, ite_self, *]

theorem good_execRot {qq ll} {s : State} (n : Nat) (h : Good qq ll s) : GoodO qq ll (execRot n s) := by
  unfold execRot
  try simp +contextual (maxDischargeDepth := 40) only [↓good_mk, ↓good_fold, ↓good_ite, ↓good_next, ↓goodO_ite, ↓good_foldl, ↓good_forEach, ↓good_issueAlone, h, ite_self]
  all_goals (repeat' split)
  all_goals (try simp +contextual (maxDischargeDepth := 40) only [↓good_mk, ↓good_fold, ↓good_ite, ↓good_next, ↓goodO_ite, ↓good_foldl, ↓good_forEach, ↓good_issueAlone, h, ite_self])
  all_goals (try grind [good_issueAlone, good_mk, good_fold, good_foldl, good_forEach])

theorem good_execPost {qq ll} {s : State} (n : Nat) (gd : Nat) (ga : Nat) (gb : Nat) (h : Good qq ll s) : GoodO qq ll (execPost n gd ga gb s) := by
  unfold execPost
  first
    | refine good_issue _ _ (fun c s h => ?_) h
    | refine good_issueB _ _ (fun c s h => ?_) h
  repeat' first
    | with_reducible assumption
    | (intro s; refine (show Good qq ll s → _ from fun h => ?_) ?_ <;> [clear_value s; subst s])
    | (intro x; clear_value x)
    | lift_lets
    | with_reducible refine goodI_done.mpr ?_
    | with_reducible refine goodI_raise.mpr ?_
    | split
  all_goals simp +contextual (maxDischargeDepth := 40) only [↓good_mk, ↓good_fold, ↓good_ite, ↓good_next, ↓goodO_ite, ↓good_foldl, ↓good_forEach, ↓good_setCore, ↓good_deposit, ↓goodI_done, ↓goodI_raise, h, ite_self, *]

theorem good_pushPoint {qq ll} {s : State} (v : Service) (h : Good qq ll s) : Good qq ll (State.pushPoint s v) := by
  unfold State.pushPoint
  try simp +contextual (maxDischargeDepth := 40) only [↓good_mk, ↓good_fold, ↓good_ite, ↓good_next, ↓goodO_ite, ↓good_foldl, ↓good_forEach, ↓good_setAg, h, ite_self]
  all_goals (repeat' split)
  all_goals (try simp +contextual (maxDischargeDepth := 40) only [↓good_mk, ↓good_fold, ↓good_ite, ↓good_next, ↓goodO_ite, ↓good_foldl, ↓good_forEach, ↓good_setAg, h, ite_self])
  all_goals (try grind [good_setAg, good_mk, good_fold, good_foldl, good_forEach])

theorem good_execDone {qq ll} {s : State} (n : Nat) (h : Good qq ll s) : GoodO qq ll (execDone n s) := by
  unfold execDone
  first
    | refine good_issue _ _ (fun c s h => ?_) h
    | refine good_issueB _ _ (fun c s h => ?_) h
  repeat' first
    | with_reducible assumption
    | (intro s; refine (show Good qq ll s → _ from fun h => ?_) ?_ <;> [clear_value s; subst s])
    | (intro x; clear_value x)
    | lift_lets
    | with_reducible refine goodI_done.mpr ?_
    | with_reducible refine goodI_raise.mpr ?_
    | split
  all_goals simp +contextual (maxDischargeDepth := 40) only [↓good_mk, ↓good_fold, ↓good_ite, ↓good_next, ↓goodO_ite, ↓good_foldl, ↓good_forEach, ↓good_setCore, ↓good_flowDone, ↓good_pushPoint, ↓goodI_done, ↓goodI_raise, h, ite_self, *]

theorem good_execSolve {qq ll} {s : State} (n : Nat) (gd : Nat) (ga : Nat) (gb : Nat) (h : Good qq ll s) : GoodO qq ll (execSolve n gd ga gb s) := by
  unfold execSolve
  first
    | refine good_issue _ _ (fun c s h => ?_) h
    | refine good_issueB _ _ (fun c s h => ?_) h
  repeat' first
    | with_reducible assumption
    | (intro s; refine (show Good qq ll s → _ from fun h => ?_) ?_ <;> [clear_value s; subst s])
    | (intro x; clear_value x)
    | lift_lets
    | with_reducible refine goodI_done.mpr ?_
    | with_reducible refine goodI_raise.mpr ?_
    | split
  all_goals simp +contextual (maxDischargeDepth := 40) only [↓good_mk, ↓good_fold, ↓good_ite, ↓good_next, ↓goodO_ite, ↓good_foldl, ↓good_forEach, ↓good_raise, ↓good_setCore, ↓good_solve, ↓goodI_done, ↓goodI_raise, h, ite_self, *]

theorem good_execTwait {qq ll} {s : State} (n : Nat) (gd : Nat) (ga : Nat) (gb : Nat) (h : Good qq ll s) : GoodO qq ll (execTwait n gd ga gb s) := by
  unfold execTwait
  first
    | refine good_issue _ _ (fun c s h => ?_) h
    | refine good_issueB _ _ (fun c s h => ?_) h
  repeat' first
    | with_reducible assumption
    | (intro s; refine (show Good qq ll s → _ from fun h => ?_) ?_ <;> [clear_value s; subst s])
    | (intro x; clear_value x)
    | lift_lets
    | with_reducible refine goodI_done.mpr ?_
    | with_reducible refine goodI_raise.mpr ?_
    | split
  all_goals simp +contextual (maxDischargeDepth := 40) only [↓good_mk, ↓good_fold, ↓good_ite, ↓good_next, ↓goodO_ite, ↓good_foldl, ↓good_forEach, ↓good_raise, ↓good_setCore, ↓goodI_done, ↓goodI_raise, h, ite_self, *]

theorem good_execTwaitWake {qq ll} {s : State} (n : Nat) (h : Good qq ll s) : GoodO qq ll (execTwaitWake n s) := by
  unfold execTwaitWake
  try simp +contextual (maxDischargeDepth := 40) only [↓good_mk, ↓good_fold, ↓good_ite, ↓good_next, ↓goodO_ite, ↓good_foldl, ↓good_forEach, ↓good_setCore, ↓good_advanceTo, ↓good_ungate, ↓good_exception, h, ite_self]
  all_goals (repeat' split)
  all_goals (try simp +contextual (maxDischargeDepth := 40) only [↓good_mk, ↓good_fold, ↓good_ite, ↓good_next, ↓goodO_ite, ↓good_foldl, ↓good_forEach, ↓good_setCore, ↓good_advanceTo, ↓good_ungate, ↓good_exception, h, ite_self])
  all_goals (try grind [good_setCore, good_advanceTo, good_ungate, good_exception, good_mk, good_fold, good_foldl, good_forEach])

theorem good_execFence {qq ll} {s : State} (n : Nat) (h : Good qq ll s) : GoodO qq ll (execFence n s) := by
  unfold execFence
  try simp +contextual (maxDischargeDepth := 40) only [↓good_mk, ↓good_fold, ↓good_ite, ↓good_next, ↓goodO_ite, ↓good_foldl, ↓good_forEach, ↓good_issueAlone, h, ite_self]
  all_goals (repeat' split)
  all_goals (try simp +contextual (maxDischargeDepth := 40) only [↓good_mk, ↓good_fold, ↓good_ite, ↓good_next, ↓goodO_ite, ↓good_foldl, ↓good_forEach, ↓good_issueAlone, h, ite_self])
  all_goals (try grind [good_issueAlone, good_mk, good_fold, good_foldl, good_forEach])

theorem good_execMtc {qq ll} {s : State} (n : Nat) (ga : Nat) (imm : Nat) (h : Good qq ll s) : GoodO qq ll (execMtc n ga imm s) := by
  unfold execMtc
  first
    | refine good_issue _ _ (fun c s h => ?_) h
    | refine good_issueB _ _ (fun c s h => ?_) h
  repeat' first
    | with_reducible assumption
    | (intro s; refine (show Good qq ll s → _ from fun h => ?_) ?_ <;> [clear_value s; subst s])
    | (intro x; clear_value x)
    | lift_lets
    | with_reducible refine goodI_done.mpr ?_
    | with_reducible refine goodI_raise.mpr ?_
    | split
  all_goals simp +contextual (maxDischargeDepth := 40) only [↓good_mk, ↓good_fold, ↓good_ite, ↓good_next, ↓goodO_ite, ↓good_foldl, ↓good_forEach, ↓good_raise, ↓good_setCore, ↓goodI_done, ↓goodI_raise, h, ite_self, *]

theorem good_execMfc {qq ll} {s : State} (n : Nat) (gd : Nat) (imm : Nat) (h : Good qq ll s) : GoodO qq ll (execMfc n gd imm s) := by
  unfold execMfc
  first
    | refine good_issue _ _ (fun c s h => ?_) h
    | refine good_issueB _ _ (fun c s h => ?_) h
  repeat' first
    | with_reducible assumption
    | (intro s; refine (show Good qq ll s → _ from fun h => ?_) ?_ <;> [clear_value s; subst s])
    | (intro x; clear_value x)
    | lift_lets
    | with_reducible refine goodI_done.mpr ?_
    | with_reducible refine goodI_raise.mpr ?_
    | split
  all_goals simp +contextual (maxDischargeDepth := 40) only [↓good_mk, ↓good_fold, ↓good_ite, ↓good_next, ↓goodO_ite, ↓good_foldl, ↓good_forEach, ↓good_raise, ↓good_setCore, ↓goodI_done, ↓goodI_raise, h, ite_self, *]

theorem good_execEret {qq ll} {s : State} (n : Nat) (h : Good qq ll s) : GoodO qq ll (execEret n s) := by
  unfold execEret
  first
    | refine good_issue _ _ (fun c s h => ?_) h
    | refine good_issueB _ _ (fun c s h => ?_) h
  repeat' first
    | with_reducible assumption
    | (intro s; refine (show Good qq ll s → _ from fun h => ?_) ?_ <;> [clear_value s; subst s])
    | (intro x; clear_value x)
    | lift_lets
    | with_reducible refine goodI_done.mpr ?_
    | with_reducible refine goodI_raise.mpr ?_
    | split
  all_goals simp +contextual (maxDischargeDepth := 40) only [↓good_mk, ↓good_fold, ↓good_ite, ↓good_next, ↓goodO_ite, ↓good_foldl, ↓good_forEach, ↓good_raise, ↓good_setCore, ↓goodI_done, ↓goodI_raise, h, ite_self, *]

theorem good_execTrap {qq ll} {s : State} (n : Nat) (imm : Nat) (h : Good qq ll s) : GoodO qq ll (execTrap n imm s) := by
  unfold execTrap
  first
    | refine good_issue _ _ (fun c s h => ?_) h
    | refine good_issueB _ _ (fun c s h => ?_) h
  repeat' first
    | with_reducible assumption
    | (intro s; refine (show Good qq ll s → _ from fun h => ?_) ?_ <;> [clear_value s; subst s])
    | (intro x; clear_value x)
    | lift_lets
    | with_reducible refine goodI_done.mpr ?_
    | with_reducible refine goodI_raise.mpr ?_
    | split
  all_goals simp +contextual (maxDischargeDepth := 40) only [↓good_mk, ↓good_fold, ↓good_ite, ↓good_next, ↓goodO_ite, ↓good_foldl, ↓good_forEach, ↓good_raise, ↓good_setCore, ↓goodI_done, ↓goodI_raise, h, ite_self, *]

theorem good_execBrk {qq ll} {s : State} (n : Nat) (h : Good qq ll s) : GoodO qq ll (execBrk n s) := by
  unfold execBrk
  first
    | refine good_issue _ _ (fun c s h => ?_) h
    | refine good_issueB _ _ (fun c s h => ?_) h
  repeat' first
    | with_reducible assumption
    | (intro s; refine (show Good qq ll s → _ from fun h => ?_) ?_ <;> [clear_value s; subst s])
    | (intro x; clear_value x)
    | lift_lets
    | with_reducible refine goodI_done.mpr ?_
    | with_reducible refine goodI_raise.mpr ?_
    | split
  all_goals simp +contextual (maxDischargeDepth := 40) only [↓good_mk, ↓good_fold, ↓good_ite, ↓good_next, ↓goodO_ite, ↓good_foldl, ↓good_forEach, ↓good_raise, ↓good_setCore, ↓goodI_done, ↓goodI_raise, h, ite_self, *]

theorem good_execIllegal {qq ll} {s : State} (n : Nat) (w : Nat) (h : Good qq ll s) : GoodO qq ll (execIllegal n w s) := by
  unfold execIllegal
  split
  · exact good_issue _ _ (fun c s h => goodI_raise.mpr h) h
  · exact h

theorem good_execBudget {qq ll} {s : State} (n : Nat) (h : Good qq ll s) : GoodO qq ll (execBudget n s) := by
  unfold execBudget
  try simp +contextual (maxDischargeDepth := 40) only [↓good_mk, ↓good_fold, ↓good_ite, ↓good_next, ↓goodO_ite, ↓good_foldl, ↓good_forEach, ↓good_advance, ↓good_exception, h, ite_self]
  all_goals (repeat' split)
  all_goals (try simp +contextual (maxDischargeDepth := 40) only [↓good_mk, ↓good_fold, ↓good_ite, ↓good_next, ↓goodO_ite, ↓good_foldl, ↓good_forEach, ↓good_advance, ↓good_exception, h, ite_self])
  all_goals (try grind [good_advance, good_exception, good_mk, good_fold, good_foldl, good_forEach])

theorem good_haltAsked {qq ll} {s : State} (n : Nat) (h : Good qq ll s) : Good qq ll (State.haltAsked s n) := by
  unfold State.haltAsked
  try simp +contextual (maxDischargeDepth := 40) only [↓good_mk, ↓good_fold, ↓good_ite, ↓good_next, ↓goodO_ite, ↓good_foldl, ↓good_forEach, ↓good_exception, ↓good_haltNow, h, ite_self]
  all_goals (repeat' split)
  all_goals (try simp +contextual (maxDischargeDepth := 40) only [↓good_mk, ↓good_fold, ↓good_ite, ↓good_next, ↓goodO_ite, ↓good_foldl, ↓good_forEach, ↓good_exception, ↓good_haltNow, h, ite_self])
  all_goals (try grind [good_exception, good_haltNow, good_mk, good_fold, good_foldl, good_forEach])

theorem good_writeVcCtl {qq ll} {s : State} (q : Requester) (n : Nat) (v : Word) (h : Good qq ll s) : Good qq ll (writeVcCtl q n v s) := by
  unfold writeVcCtl
  try simp +contextual (maxDischargeDepth := 40) only [↓good_mk, ↓good_fold, ↓good_ite, ↓good_next, ↓goodO_ite, ↓good_foldl, ↓good_forEach, ↓good_setFd, ↓good_refuse, ↓good_setCore, ↓good_haltAsked, h, ite_self]
  all_goals (repeat' split)
  all_goals (try simp +contextual (maxDischargeDepth := 40) only [↓good_mk, ↓good_fold, ↓good_ite, ↓good_next, ↓goodO_ite, ↓good_foldl, ↓good_forEach, ↓good_setFd, ↓good_refuse, ↓good_setCore, ↓good_haltAsked, h, ite_self])
  all_goals (try grind [good_setFd, good_refuse, good_setCore, good_haltAsked, good_mk, good_fold, good_foldl, good_forEach])

theorem good_execCoreHalt {qq ll} {s : State} (q : Requester) (n : Nat) (v : Word) (h : Good qq ll s) : GoodO qq ll (execCoreHalt q n v s) := by
  unfold execCoreHalt
  exact good_write _ _ _ _ _ (fun _ h => good_writeVcCtl _ _ _ h) h

theorem good_execCoreResume {qq ll} {s : State} (q : Requester) (n : Nat) (v : Word) (h : Good qq ll s) : GoodO qq ll (execCoreResume q n v s) := by
  unfold execCoreResume
  exact good_write _ _ _ _ _ (fun _ h => good_writeVcCtl _ _ _ h) h

theorem good_execCoreStep {qq ll} {s : State} (q : Requester) (n : Nat) (v : Word) (h : Good qq ll s) : GoodO qq ll (execCoreStep q n v s) := by
  unfold execCoreStep
  exact good_write _ _ _ _ _ (fun _ h => good_writeVcCtl _ _ _ h) h

theorem good_execCoreClear {qq ll} {s : State} (q : Requester) (n : Nat) (v : Word) (h : Good qq ll s) : GoodO qq ll (execCoreClear q n v s) := by
  unfold execCoreClear
  exact good_write _ _ _ _ _ (fun _ h => good_writeVcCtl _ _ _ h) h

end Sys2Proof.Machine
end

