-- ==== Sys2Proof/Laws/KeepsImage.lean ====
section
/-!
SUPPORT. What the operations of Machine/Image.lean keep.
-/

set_option linter.unusedSimpArgs false
set_option linter.unreachableTactic false
set_option linter.unusedTactic false

namespace Sys2Proof.Machine

theorem good_loadCode {qq ll} {s : State} (b : Nat) (e : ImgSection) (w : Nat) (h : Good qq ll s) : Good qq ll (State.loadCode s b e w) := by
  unfold State.loadCode
  dsimp only
  split
  · exact h
  · exact good_forEach _ _ _ (fun c t h => good_setMem h (by simp only [memWf_mk, good_memWf h, Memory.wf_copy, and_self])) h

theorem good_loadSection {qq ll} {s : State} (b : Nat) (w : Nat) (e : ImgSection) (h : Good qq ll s) : Good qq ll (State.loadSection s b w e) := by
  unfold State.loadSection
  dsimp only
  split
  · split
    · exact h
    · split
      · exact good_loadCode _ _ _ h
      · exact good_setMem h (by simp only [memWf_mk, good_memWf h, Memory.wf_copy, and_self])
      · exact good_setMem h (by simp only [memWf_mk, good_memWf h, Memory.wf_copy, and_self])
      · exact good_setMem h (by simp only [memWf_mk, good_memWf h, Memory.wf_copy, and_self])
      · exact good_forEach _ _ _ (fun t s h => by split <;> simp only [good_setTpl, h]) h
      · exact good_forEach _ _ _ (fun t s h => good_writeKnRange _ _ _ (good_writeKnRange _ _ _ (good_writeKnRange _ _ _ h))) h
      · exact h
  · split
    · exact h
    · split
      · exact good_loadCode _ _ _ h
      · exact good_setMem h (by simp only [memWf_mk, good_memWf h, Memory.wf_copy, and_self])
      · exact good_setMem h (by simp only [memWf_mk, good_memWf h, Memory.wf_copy, and_self])
      · exact good_setMem h (by simp only [memWf_mk, good_memWf h, Memory.wf_copy, and_self])
      · exact good_forEach _ _ _ (fun t s h => by split <;> simp only [good_setTpl, h]) h
      · exact good_forEach _ _ _ (fun t s h => good_writeKnRange _ _ _ (good_writeKnRange _ _ _ (good_writeKnRange _ _ _ h))) h
      · exact h

theorem good_reloadSlice {qq ll} {s : State} (d : Nat) (h : Good qq ll s) : Good qq ll (State.reloadSlice s d) := by
  unfold State.reloadSlice
  try simp +contextual (maxDischargeDepth := 40) only [↓good_mk, ↓good_fold, ↓good_ite, ↓good_next, ↓goodO_ite, ↓good_foldl, ↓good_forEach, ↓good_loadSection, h, ite_self]
  all_goals (repeat' split)
  all_goals (try simp +contextual (maxDischargeDepth := 40) only [↓good_mk, ↓good_fold, ↓good_ite, ↓good_next, ↓goodO_ite, ↓good_foldl, ↓good_forEach, ↓good_loadSection, h, ite_self])
  all_goals (try grind [good_loadSection, good_mk, good_fold, good_foldl, good_forEach])

theorem good_copyCore {qq ll} {s : State} (m : MigState) (map : Nat) (i : Nat) (h : Good qq ll s) : Good qq ll (State.copyCore s m map i) := by
  unfold State.copyCore
  have hw := good_memWf h
  simp +contextual (maxDischargeDepth := 40) only [↓good_mk, ↓good_fold, ↓good_ite, ↓good_next, ↓goodO_ite, ↓good_foldl, ↓good_forEach, h, hw, ↓good_memC, memWf_mk, Memory.wf_writeN, Memory.wf_setNum, Memory.wf_splice, Memory.wf_clear, Memory.wf_copy, Memory.wf_nil, and_self]

theorem good_copyShared {qq ll} {s : State} (m : MigState) (h : Good qq ll s) : Good qq ll (State.copyShared s m) := by
  unfold State.copyShared
  have hw := good_memWf h
  simp +contextual (maxDischargeDepth := 40) only [↓good_mk, ↓good_fold, ↓good_ite, ↓good_next, ↓goodO_ite, ↓good_foldl, ↓good_forEach, h, hw, ↓good_memC, memWf_mk, Memory.wf_writeN, Memory.wf_setNum, Memory.wf_splice, Memory.wf_clear, Memory.wf_copy, Memory.wf_nil, and_self]

theorem good_copySlice {qq ll} {s : State} (m : MigState) (h : Good qq ll s) : Good qq ll (State.copySlice s m) := by
  unfold State.copySlice
  try simp +contextual (maxDischargeDepth := 40) only [↓good_mk, ↓good_fold, ↓good_ite, ↓good_next, ↓goodO_ite, ↓good_foldl, ↓good_forEach, ↓good_copyCore, ↓good_copyShared, h, ite_self]
  all_goals (repeat' split)
  all_goals (try simp +contextual (maxDischargeDepth := 40) only [↓good_mk, ↓good_fold, ↓good_ite, ↓good_next, ↓goodO_ite, ↓good_foldl, ↓good_forEach, ↓good_copyCore, ↓good_copyShared, h, ite_self])
  all_goals (try grind [good_copyCore, good_copyShared, good_mk, good_fold, good_foldl, good_forEach])

end Sys2Proof.Machine
end

