-- ==== Sys2Proof/Laws/KeepsDomains.lean ====
section
/-!
SUPPORT. What the operations of Machine/Domains.lean keep.
-/

set_option linter.unusedSimpArgs false
set_option linter.unreachableTactic false
set_option linter.unusedTactic false

namespace Sys2Proof.Machine

theorem good_domainReset {qq ll} {s : State} (d : Nat) (h : Good qq ll s) : Good qq ll (State.domainReset s d) := by
  unfold State.domainReset
  try simp +contextual (maxDischargeDepth := 40) only [↓good_mk, ↓good_fold, ↓good_ite, ↓good_next, ↓goodO_ite, ↓good_foldl, ↓good_forEach, ↓good_resetRegs, h, ite_self]
  all_goals (repeat' split)
  all_goals (try simp +contextual (maxDischargeDepth := 40) only [↓good_mk, ↓good_fold, ↓good_ite, ↓good_next, ↓goodO_ite, ↓good_foldl, ↓good_forEach, ↓good_resetRegs, h, ite_self])
  all_goals (try grind [good_resetRegs, good_mk, good_fold, good_foldl, good_forEach])

theorem good_keepRestore {qq ll} {s : State} (l : List (Nat × Word)) (h : Good qq ll s) : Good qq ll (State.keepRestore s l) := by
  unfold State.keepRestore
  exact good_forEach _ _ _ (fun e t h => good_setRegs h (Tab.wf_set _ _ _ h.regs)) h

theorem good_gate {qq ll} {s : State} (n : Nat) (h : Good qq ll s) : Good qq ll (State.gate s n) := by
  unfold State.gate
  try simp +contextual (maxDischargeDepth := 40) only [↓good_mk, ↓good_fold, ↓good_ite, ↓good_next, ↓goodO_ite, ↓good_foldl, ↓good_forEach, ↓good_setCore, h, ite_self]
  all_goals (repeat' split)
  all_goals (try simp +contextual (maxDischargeDepth := 40) only [↓good_mk, ↓good_fold, ↓good_ite, ↓good_next, ↓goodO_ite, ↓good_foldl, ↓good_forEach, ↓good_setCore, h, ite_self])
  all_goals (try grind [good_setCore, good_mk, good_fold, good_foldl, good_forEach])

theorem good_endService {qq ll} {s : State} (n : Nat) (h : Good qq ll s) : Good qq ll (State.endService s n) := by
  unfold State.endService
  try simp +contextual (maxDischargeDepth := 40) only [↓good_mk, ↓good_fold, ↓good_ite, ↓good_next, ↓goodO_ite, ↓good_foldl, ↓good_forEach, ↓good_endAbnormal, h, ite_self]
  all_goals (repeat' split)
  all_goals (try simp +contextual (maxDischargeDepth := 40) only [↓good_mk, ↓good_fold, ↓good_ite, ↓good_next, ↓goodO_ite, ↓good_foldl, ↓good_forEach, ↓good_endAbnormal, h, ite_self])
  all_goals (try grind [good_endAbnormal, good_mk, good_fold, good_foldl, good_forEach])

theorem good_sliceLost {qq ll} {s : State} (d : Nat) (h : Good qq ll s) : Good qq ll (State.sliceLost s d) := by
  unfold State.sliceLost
  have hw := good_memWf h
  simp +contextual (maxDischargeDepth := 40) only [↓good_mk, ↓good_fold, ↓good_ite, ↓good_next, ↓goodO_ite, ↓good_foldl, ↓good_forEach, h, hw, ↓good_memC, memWf_mk, Memory.wf_writeN, Memory.wf_setNum, Memory.wf_splice, Memory.wf_clear, Memory.wf_copy, Memory.wf_nil, and_self]

theorem good_dropGrant {qq ll} {s : State} (h : Good qq ll s) : Good qq ll (State.dropGrant s) :=
  good_setLc h ⟨h.fwd, h.top, h.owner, h.locked, fun _ => rfl, Nat.zero_le _⟩

theorem good_noteEnded {qq ll} {s : State} (h : Good qq ll s) : Good qq ll (State.noteEnded s) :=
  good_setLc h ⟨h.fwd, h.top, h.owner, h.locked, h.grant, h.level⟩

theorem good_resumeAll {qq ll} {s : State} (h : Good qq ll s) : Good qq ll (State.resumeAll s) := by
  unfold State.resumeAll
  try simp +contextual (maxDischargeDepth := 40) only [↓good_mk, ↓good_fold, ↓good_ite, ↓good_next, ↓goodO_ite, ↓good_foldl, ↓good_forEach, ↓good_setFd, ↓good_setCore, h, ite_self]
  all_goals (repeat' split)
  all_goals (try simp +contextual (maxDischargeDepth := 40) only [↓good_mk, ↓good_fold, ↓good_ite, ↓good_next, ↓goodO_ite, ↓good_foldl, ↓good_forEach, ↓good_setFd, ↓good_setCore, h, ite_self])
  all_goals (try grind [good_setFd, good_setCore, good_mk, good_fold, good_foldl, good_forEach])

theorem good_endAccess {qq ll} {s : State} (why : Option Nat) (h : Good qq ll s) : Good qq ll (State.endAccess s why) := by
  unfold State.endAccess
  try simp +contextual (maxDischargeDepth := 40) only [↓good_mk, ↓good_fold, ↓good_ite, ↓good_next, ↓goodO_ite, ↓good_foldl, ↓good_forEach, ↓good_vectorEvent, ↓good_journal, ↓good_dropGrant, ↓good_noteEnded, ↓good_resumeAll, h, ite_self]
  all_goals (repeat' split)
  all_goals (try simp +contextual (maxDischargeDepth := 40) only [↓good_mk, ↓good_fold, ↓good_ite, ↓good_next, ↓goodO_ite, ↓good_foldl, ↓good_forEach, ↓good_vectorEvent, ↓good_journal, ↓good_dropGrant, ↓good_noteEnded, ↓good_resumeAll, h, ite_self])
  all_goals (try grind [good_vectorEvent, good_journal, good_dropGrant, good_noteEnded, good_resumeAll, good_mk, good_fold, good_foldl, good_forEach])

theorem good_sorusLost {qq ll} {s : State} (h : Good qq ll s) : Good qq ll (State.sorusLost s) := by
  unfold State.sorusLost
  have hw := good_memWf h
  simp +contextual (maxDischargeDepth := 40) only [↓good_mk, ↓good_fold, ↓good_ite, ↓good_next, ↓goodO_ite, ↓good_foldl, ↓good_forEach, h, hw, ↓good_memC, memWf_mk, Memory.wf_writeN, Memory.wf_setNum, Memory.wf_splice, Memory.wf_clear, Memory.wf_copy, Memory.wf_nil, and_self]

theorem good_hostLost {qq ll} {s : State} (h : Good qq ll s) : Good qq ll (State.hostLost s) :=
  { h with }

theorem good_chainLost {qq ll} {s : State} (h : Good qq ll s) : Good qq ll (State.chainLost s) := by
  unfold State.chainLost
  try simp +contextual (maxDischargeDepth := 40) only [↓good_mk, ↓good_fold, ↓good_ite, ↓good_next, ↓goodO_ite, ↓good_foldl, ↓good_forEach, h, ite_self]
  all_goals (repeat' split)
  all_goals (try simp +contextual (maxDischargeDepth := 40) only [↓good_mk, ↓good_fold, ↓good_ite, ↓good_next, ↓goodO_ite, ↓good_foldl, ↓good_forEach, h, ite_self])
  all_goals (try grind [good_mk, good_fold, good_foldl, good_forEach])

theorem good_logicLost {qq ll} {s : State} (d : Nat) (sramToo : Bool) (h : Good qq ll s) : Good qq ll (State.logicLost s d sramToo) := by
  unfold State.logicLost
  try simp +contextual (maxDischargeDepth := 40) only [↓good_mk, ↓good_fold, ↓good_ite, ↓good_next, ↓goodO_ite, ↓good_foldl, ↓good_forEach, ↓good_setCore, ↓good_clusterLost, ↓good_gate, ↓good_endService, ↓good_sliceLost, ↓good_endAccess, ↓good_sorusLost, ↓good_hostLost, ↓good_chainLost, h, ite_self]
  all_goals (repeat' split)
  all_goals (try simp +contextual (maxDischargeDepth := 40) only [↓good_mk, ↓good_fold, ↓good_ite, ↓good_next, ↓goodO_ite, ↓good_foldl, ↓good_forEach, ↓good_setCore, ↓good_clusterLost, ↓good_gate, ↓good_endService, ↓good_sliceLost, ↓good_endAccess, ↓good_sorusLost, ↓good_hostLost, ↓good_chainLost, h, ite_self])
  all_goals (try grind [good_setCore, good_clusterLost, good_gate, good_endService, good_sliceLost, good_endAccess, good_sorusLost, good_hostLost, good_chainLost, good_mk, good_fold, good_foldl, good_forEach])

theorem good_keepAt {qq ll} {s : State} (d : Nat) (cur : Nat) (st : Nat) (h : Good qq ll s) : Good qq ll (State.keepAt s d cur st) := by
  unfold State.keepAt
  try simp +contextual (maxDischargeDepth := 40) only [↓good_mk, ↓good_fold, ↓good_ite, ↓good_next, ↓goodO_ite, ↓good_foldl, ↓good_forEach, h, ite_self]
  all_goals (repeat' split)
  all_goals (try simp +contextual (maxDischargeDepth := 40) only [↓good_mk, ↓good_fold, ↓good_ite, ↓good_next, ↓goodO_ite, ↓good_foldl, ↓good_forEach, h, ite_self])
  all_goals (try grind [good_mk, good_fold, good_foldl, good_forEach])

theorem good_domainDown {qq ll} {s : State} (d : Nat) (st : Nat) (h : Good qq ll s) : Good qq ll (State.domainDown s d st) := by
  unfold State.domainDown
  dsimp only
  refine good_setFd _ _ _ _ ?_
  have h1 : Good qq ll (if d < 18 then (s.forEach (List.range 4) (fun c s => s.gate (4 * d + c))).setFd F.SV_HEALTHs_SLACK d 0 0x80
    else s) := by
    split
    · exact good_setFd _ _ _ _ (good_forEach _ _ _ (fun c t h => good_gate _ h) h)
    · exact h
  split
  · exact good_domainReset _ (good_logicLost _ _ (good_keepAt _ _ _ h1))
  · exact good_keepAt _ _ _ h1

theorem good_domainUp {qq ll} {s : State} (d : Nat) (keepOk : Bool) (h : Good qq ll s) : Good qq ll (State.domainUp s d keepOk) := by
  unfold State.domainUp
  try simp +contextual (maxDischargeDepth := 40) only [↓good_mk, ↓good_fold, ↓good_ite, ↓good_next, ↓goodO_ite, ↓good_foldl, ↓good_forEach, ↓good_setFd, ↓good_incFd, ↓good_raise, ↓good_journal, ↓good_setCore, ↓good_ungate, ↓good_keepRestore, ↓good_endAccess, ↓good_hostLost, ↓good_chainLost, h, ite_self]
  all_goals (repeat' split)
  all_goals (try simp +contextual (maxDischargeDepth := 40) only [↓good_mk, ↓good_fold, ↓good_ite, ↓good_next, ↓goodO_ite, ↓good_foldl, ↓good_forEach, ↓good_setFd, ↓good_incFd, ↓good_raise, ↓good_journal, ↓good_setCore, ↓good_ungate, ↓good_keepRestore, ↓good_endAccess, ↓good_hostLost, ↓good_chainLost, h, ite_self])
  all_goals (try grind [good_setFd, good_incFd, good_raise, good_journal, good_setCore, good_ungate, good_keepRestore, good_endAccess, good_hostLost, good_chainLost, good_mk, good_fold, good_foldl, good_forEach])

theorem good_pwFresh {qq ll} {s : State} (h : Good qq ll s) : Good qq ll (State.pwFresh s) := by
  unfold State.pwFresh
  try simp +contextual (maxDischargeDepth := 40) only [↓good_mk, ↓good_fold, ↓good_ite, ↓good_next, ↓goodO_ite, ↓good_foldl, ↓good_forEach, ↓good_setFd, h, ite_self]
  all_goals (repeat' split)
  all_goals (try simp +contextual (maxDischargeDepth := 40) only [↓good_mk, ↓good_fold, ↓good_ite, ↓good_next, ↓goodO_ite, ↓good_foldl, ↓good_forEach, ↓good_setFd, h, ite_self])
  all_goals (try grind [good_setFd, good_mk, good_fold, good_foldl, good_forEach])

theorem good_freshModule {qq ll} {s : State} (crust : Bool) (full : Bool) (h : Good qq ll s) : Good qq ll (State.freshModule s crust full) := by
  unfold State.freshModule
  have hw := good_memWf h
  refine good_mk.mpr ⟨h.pending, h.regs, ?_, ?_, h.fwd, h.top, h.owner, h.locked, fun _ => rfl, Nat.zero_le _⟩
  · split
    · exact h.jnl
    · exact Nat.zero_le _
  · simp only [memWf_mk, hw, Memory.wf_nil, and_self]

theorem good_moduleReset {qq ll} {s : State} (crust : Bool) (h : Good qq ll s) : Good qq ll (State.moduleReset s crust) := by
  unfold State.moduleReset
  try simp +contextual (maxDischargeDepth := 40) only [↓good_mk, ↓good_fold, ↓good_ite, ↓good_next, ↓goodO_ite, ↓good_foldl, ↓good_forEach, ↓good_resetRegs, ↓good_thStart, ↓good_pwFresh, ↓good_freshModule, h, ite_self]
  all_goals (repeat' split)
  all_goals (try simp +contextual (maxDischargeDepth := 40) only [↓good_mk, ↓good_fold, ↓good_ite, ↓good_next, ↓goodO_ite, ↓good_foldl, ↓good_forEach, ↓good_resetRegs, ↓good_thStart, ↓good_pwFresh, ↓good_freshModule, h, ite_self])
  all_goals (try grind [good_resetRegs, good_thStart, good_pwFresh, good_freshModule, good_mk, good_fold, good_foldl, good_forEach])

theorem good_refsSeen {qq ll} {s : State} (h : Good qq ll s) : Good qq ll (State.refsSeen s) := by
  unfold State.refsSeen
  try simp +contextual (maxDischargeDepth := 40) only [↓good_mk, ↓good_fold, ↓good_ite, ↓good_next, ↓goodO_ite, ↓good_foldl, ↓good_forEach, ↓good_setFd, h, ite_self]
  all_goals (repeat' split)
  all_goals (try simp +contextual (maxDischargeDepth := 40) only [↓good_mk, ↓good_fold, ↓good_ite, ↓good_next, ↓goodO_ite, ↓good_foldl, ↓good_forEach, ↓good_setFd, h, ite_self])
  all_goals (try grind [good_setFd, good_mk, good_fold, good_foldl, good_forEach])

theorem good_pllLock {qq ll} {s : State} (h : Good qq ll s) : Good qq ll (State.pllLock s) := by
  unfold State.pllLock
  try simp +contextual (maxDischargeDepth := 40) only [↓good_mk, ↓good_fold, ↓good_ite, ↓good_next, ↓goodO_ite, ↓good_foldl, ↓good_forEach, ↓good_setFd, ↓good_incFd, ↓good_refsSeen, h, ite_self]
  all_goals (repeat' split)
  all_goals (try simp +contextual (maxDischargeDepth := 40) only [↓good_mk, ↓good_fold, ↓good_ite, ↓good_next, ↓goodO_ite, ↓good_foldl, ↓good_forEach, ↓good_setFd, ↓good_incFd, ↓good_refsSeen, h, ite_self])
  all_goals (try grind [good_setFd, good_incFd, good_refsSeen, good_mk, good_fold, good_foldl, good_forEach])

theorem good_warmReset {qq ll} {s : State} (cause : Nat) (h : Good qq ll s) : Good qq ll (State.warmReset s cause) := by
  unfold State.warmReset
  try simp +contextual (maxDischargeDepth := 40) only [↓good_mk, ↓good_fold, ↓good_ite, ↓good_next, ↓goodO_ite, ↓good_foldl, ↓good_forEach, ↓good_setFd, ↓good_moduleReset, ↓good_pllLock, h, ite_self]
  all_goals (repeat' split)
  all_goals (try simp +contextual (maxDischargeDepth := 40) only [↓good_mk, ↓good_fold, ↓good_ite, ↓good_next, ↓goodO_ite, ↓good_foldl, ↓good_forEach, ↓good_setFd, ↓good_moduleReset, ↓good_pllLock, h, ite_self])
  all_goals (try grind [good_setFd, good_moduleReset, good_pllLock, good_mk, good_fold, good_foldl, good_forEach])

end Sys2Proof.Machine
end

