-- ==== Sys2Proof/Laws/KeepsPower.lean ====
section
/-!
SUPPORT. What the operations of Machine/Power.lean keep.
-/

set_option linter.unusedSimpArgs false
set_option linter.unreachableTactic false
set_option linter.unusedTactic false

namespace Sys2Proof.Machine

theorem good_refuseLeave {qq ll} {s : State} (q : Requester) (d : Nat) (code : Nat) (h : Good qq ll s) : Good qq ll (State.refuseLeave s q d code) := by
  unfold State.refuseLeave
  try simp +contextual (maxDischargeDepth := 40) only [↓good_mk, ↓good_fold, ↓good_ite, ↓good_next, ↓goodO_ite, ↓good_foldl, ↓good_forEach, ↓good_setRg, ↓good_setFd, ↓good_setRg64, ↓good_refuse, h, ite_self]
  all_goals (repeat' split)
  all_goals (try simp +contextual (maxDischargeDepth := 40) only [↓good_mk, ↓good_fold, ↓good_ite, ↓good_next, ↓goodO_ite, ↓good_foldl, ↓good_forEach, ↓good_setRg, ↓good_setFd, ↓good_setRg64, ↓good_refuse, h, ite_self])
  all_goals (try grind [good_setRg, good_setFd, good_setRg64, good_refuse, good_mk, good_fold, good_foldl, good_forEach])

theorem good_startDrain {qq ll} {s : State} (d : Nat) (target : Nat) (h : Good qq ll s) : Good qq ll (State.startDrain s d target) := by
  unfold State.startDrain
  try simp +contextual (maxDischargeDepth := 40) only [↓good_mk, ↓good_fold, ↓good_ite, ↓good_next, ↓goodO_ite, ↓good_foldl, ↓good_forEach, ↓good_setFd, h, ite_self]
  all_goals (repeat' split)
  all_goals (try simp +contextual (maxDischargeDepth := 40) only [↓good_mk, ↓good_fold, ↓good_ite, ↓good_next, ↓goodO_ite, ↓good_foldl, ↓good_forEach, ↓good_setFd, h, ite_self])
  all_goals (try grind [good_setFd, good_mk, good_fold, good_foldl, good_forEach])

theorem good_startMove {qq ll} {s : State} (d : Nat) (target : Nat) (h : Good qq ll s) : Good qq ll (State.startMove s d target) := by
  unfold State.startMove
  try simp +contextual (maxDischargeDepth := 40) only [↓good_mk, ↓good_fold, ↓good_ite, ↓good_next, ↓goodO_ite, ↓good_foldl, ↓good_forEach, ↓good_setFd, h, ite_self]
  all_goals (repeat' split)
  all_goals (try simp +contextual (maxDischargeDepth := 40) only [↓good_mk, ↓good_fold, ↓good_ite, ↓good_next, ↓goodO_ite, ↓good_foldl, ↓good_forEach, ↓good_setFd, h, ite_self])
  all_goals (try grind [good_setFd, good_mk, good_fold, good_foldl, good_forEach])

theorem good_writeDomCtl {qq ll} {s : State} (q : Requester) (d : Nat) (v : Word) (h : Good qq ll s) : Good qq ll (writeDomCtl q d v s) := by
  unfold writeDomCtl
  try simp +contextual (maxDischargeDepth := 40) only [↓good_mk, ↓good_fold, ↓good_ite, ↓good_next, ↓goodO_ite, ↓good_foldl, ↓good_forEach, ↓good_setFd, ↓good_refuse, ↓good_refuseLeave, ↓good_startDrain, ↓good_startMove, h, ite_self]
  all_goals (repeat' split)
  all_goals (try simp +contextual (maxDischargeDepth := 40) only [↓good_mk, ↓good_fold, ↓good_ite, ↓good_next, ↓goodO_ite, ↓good_foldl, ↓good_forEach, ↓good_setFd, ↓good_refuse, ↓good_refuseLeave, ↓good_startDrain, ↓good_startMove, h, ite_self])
  all_goals (try grind [good_setFd, good_refuse, good_refuseLeave, good_startDrain, good_startMove, good_mk, good_fold, good_foldl, good_forEach])

theorem good_execDomainRequest {qq ll} {s : State} (q : Requester) (d : Nat) (v : Word) (h : Good qq ll s) : GoodO qq ll (execDomainRequest q d v s) := by
  unfold execDomainRequest
  exact good_write _ _ _ _ _ (fun _ h => good_writeDomCtl _ _ _ h) h

theorem good_setModState {qq ll} {s : State} (st : Nat) (h : Good qq ll s) : Good qq ll (State.setModState s st) := by
  unfold State.setModState
  try simp +contextual (maxDischargeDepth := 40) only [↓good_mk, ↓good_fold, ↓good_ite, ↓good_next, ↓goodO_ite, ↓good_foldl, ↓good_forEach, ↓good_setFd, ↓good_vectorEvent, h, ite_self]
  all_goals (repeat' split)
  all_goals (try simp +contextual (maxDischargeDepth := 40) only [↓good_mk, ↓good_fold, ↓good_ite, ↓good_next, ↓goodO_ite, ↓good_foldl, ↓good_forEach, ↓good_setFd, ↓good_vectorEvent, h, ite_self])
  all_goals (try grind [good_setFd, good_vectorEvent, good_mk, good_fold, good_foldl, good_forEach])

theorem good_entryNext {qq ll} {s : State} (e : PwEntry) (h : Good qq ll s) : Good qq ll (State.entryNext s e) := by
  unfold State.entryNext
  try simp +contextual (maxDischargeDepth := 40) only [↓good_mk, ↓good_fold, ↓good_ite, ↓good_next, ↓goodO_ite, ↓good_foldl, ↓good_forEach, ↓good_startDrain, ↓good_startMove, h, ite_self]
  all_goals (repeat' split)
  all_goals (try simp +contextual (maxDischargeDepth := 40) only [↓good_mk, ↓good_fold, ↓good_ite, ↓good_next, ↓goodO_ite, ↓good_foldl, ↓good_forEach, ↓good_startDrain, ↓good_startMove, h, ite_self])
  all_goals (try grind [good_startDrain, good_startMove, good_mk, good_fold, good_foldl, good_forEach])

theorem good_entryFinish {qq ll} {s : State} (target : Nat) (h : Good qq ll s) : Good qq ll (State.entryFinish s target) := by
  unfold State.entryFinish
  try simp +contextual (maxDischargeDepth := 40) only [↓good_mk, ↓good_fold, ↓good_ite, ↓good_next, ↓goodO_ite, ↓good_foldl, ↓good_forEach, ↓good_setRg, ↓good_setFd, ↓good_setModState, h, ite_self]
  all_goals (repeat' split)
  all_goals (try simp +contextual (maxDischargeDepth := 40) only [↓good_mk, ↓good_fold, ↓good_ite, ↓good_next, ↓goodO_ite, ↓good_foldl, ↓good_forEach, ↓good_setRg, ↓good_setFd, ↓good_setModState, h, ite_self])
  all_goals (try grind [good_setRg, good_setFd, good_setModState, good_mk, good_fold, good_foldl, good_forEach])

theorem good_startWake {qq ll} {s : State} (h : Good qq ll s) : Good qq ll (State.startWake s) := by
  unfold State.startWake
  repeat' first
    | with_reducible assumption
    | (intro s; refine (show Good qq ll s → _ from fun h => ?_) ?_ <;> [clear_value s; subst s])
    | (intro (x : MemState); subst x)
    | (intro x; clear_value x)
    | lift_lets
    | with_reducible refine good_next.mpr ?_
    | with_reducible refine good_forEach _ _ _ (fun a s h => ?_) ?_
    | split
  all_goals (have hw := good_memWf h)
  all_goals (first
    | (simp +contextual (maxDischargeDepth := 40) only [↓good_mk, ↓good_fold, ↓good_ite, ↓good_next, ↓goodO_ite, ↓good_foldl, ↓good_forEach, ↓good_setRg, ↓good_setFd, ↓good_startMove, ↓good_setModState, h, hw, ite_self, ↓good_memC, memWf_mk, Memory.wf_writeN, Memory.wf_setNum, Memory.wf_splice, Memory.wf_clear, Memory.wf_copy, Memory.wf_nil, and_self]; done)
    | simp +contextual (maxDischargeDepth := 40) only [↓good_mk, ↓good_fold, ↓good_ite, ↓good_next, ↓goodO_ite, ↓good_foldl, ↓good_forEach, ↓good_setRg, ↓good_setFd, ↓good_startMove, ↓good_setModState, ite_self, *, ↓good_memC, memWf_mk, Memory.wf_writeN, Memory.wf_setNum, Memory.wf_splice, Memory.wf_clear, Memory.wf_copy, Memory.wf_nil, and_self])

theorem good_abortEntry {qq ll} {s : State} (q : Requester) (e : PwEntry) (d : Option Nat) (code : Nat) (h : Good qq ll s) : Good qq ll (State.abortEntry s q e d code) := by
  unfold State.abortEntry
  repeat' first
    | with_reducible assumption
    | (intro s; refine (show Good qq ll s → _ from fun h => ?_) ?_ <;> [clear_value s; subst s])
    | (intro (x : MemState); subst x)
    | (intro x; clear_value x)
    | lift_lets
    | with_reducible refine good_next.mpr ?_
    | with_reducible refine good_forEach _ _ _ (fun a s h => ?_) ?_
    | split
  all_goals (have hw := good_memWf h)
  all_goals (first
    | (simp +contextual (maxDischargeDepth := 40) only [↓good_mk, ↓good_fold, ↓good_ite, ↓good_next, ↓goodO_ite, ↓good_foldl, ↓good_forEach, ↓good_setRg, ↓good_setFd, ↓good_incFd, ↓good_setRg64, ↓good_domainUp, ↓good_refuseLeave, h, hw, ite_self, ↓good_memC, memWf_mk, Memory.wf_writeN, Memory.wf_setNum, Memory.wf_splice, Memory.wf_clear, Memory.wf_copy, Memory.wf_nil, and_self]; done)
    | simp +contextual (maxDischargeDepth := 40) only [↓good_mk, ↓good_fold, ↓good_ite, ↓good_next, ↓goodO_ite, ↓good_foldl, ↓good_forEach, ↓good_setRg, ↓good_setFd, ↓good_incFd, ↓good_setRg64, ↓good_domainUp, ↓good_refuseLeave, ite_self, *, ↓good_memC, memWf_mk, Memory.wf_writeN, Memory.wf_setNum, Memory.wf_splice, Memory.wf_clear, Memory.wf_copy, Memory.wf_nil, and_self])

theorem good_entryGo {qq ll} {s : State} (q : Requester) (e : PwEntry) (h : Good qq ll s) : Good qq ll (State.entryGo s q e) := by
  unfold State.entryGo
  try simp +contextual (maxDischargeDepth := 40) only [↓good_mk, ↓good_fold, ↓good_ite, ↓good_next, ↓goodO_ite, ↓good_foldl, ↓good_forEach, ↓good_entryNext, ↓good_entryFinish, ↓good_abortEntry, h, ite_self]
  all_goals (repeat' split)
  all_goals (try simp +contextual (maxDischargeDepth := 40) only [↓good_mk, ↓good_fold, ↓good_ite, ↓good_next, ↓goodO_ite, ↓good_foldl, ↓good_forEach, ↓good_entryNext, ↓good_entryFinish, ↓good_abortEntry, h, ite_self])
  all_goals (try grind [good_entryNext, good_entryFinish, good_abortEntry, good_mk, good_fold, good_foldl, good_forEach])

theorem good_wakeSource {qq ll} {s : State} (h : Good qq ll s) : Good qq ll (State.wakeSource s) := by
  unfold State.wakeSource
  try simp +contextual (maxDischargeDepth := 40) only [↓good_mk, ↓good_fold, ↓good_ite, ↓good_next, ↓goodO_ite, ↓good_foldl, ↓good_forEach, ↓good_startWake, ↓good_abortEntry, h, ite_self]
  all_goals (repeat' split)
  all_goals (try simp +contextual (maxDischargeDepth := 40) only [↓good_mk, ↓good_fold, ↓good_ite, ↓good_next, ↓goodO_ite, ↓good_foldl, ↓good_forEach, ↓good_startWake, ↓good_abortEntry, h, ite_self])
  all_goals (try grind [good_startWake, good_abortEntry, good_mk, good_fold, good_foldl, good_forEach])

theorem good_startStep {qq ll} {s : State} (i : Nat) (div : Nat) (h : Good qq ll s) : Good qq ll (State.startStep s i div) := by
  unfold State.startStep
  try simp +contextual (maxDischargeDepth := 40) only [↓good_mk, ↓good_fold, ↓good_ite, ↓good_next, ↓goodO_ite, ↓good_foldl, ↓good_forEach, ↓good_setFd, h, ite_self]
  all_goals (repeat' split)
  all_goals (try simp +contextual (maxDischargeDepth := 40) only [↓good_mk, ↓good_fold, ↓good_ite, ↓good_next, ↓goodO_ite, ↓good_foldl, ↓good_forEach, ↓good_setFd, h, ite_self])
  all_goals (try grind [good_setFd, good_mk, good_fold, good_foldl, good_forEach])

theorem good_enterTrim {qq ll} {s : State} (h : Good qq ll s) : Good qq ll (State.enterTrim s) := by
  unfold State.enterTrim
  try simp +contextual (maxDischargeDepth := 40) only [↓good_mk, ↓good_fold, ↓good_ite, ↓good_next, ↓goodO_ite, ↓good_foldl, ↓good_forEach, ↓good_setModState, ↓good_startStep, h, ite_self]
  all_goals (repeat' split)
  all_goals (try simp +contextual (maxDischargeDepth := 40) only [↓good_mk, ↓good_fold, ↓good_ite, ↓good_next, ↓goodO_ite, ↓good_foldl, ↓good_forEach, ↓good_setModState, ↓good_startStep, h, ite_self])
  all_goals (try grind [good_setModState, good_startStep, good_mk, good_fold, good_foldl, good_forEach])

theorem good_reqRun {qq ll} {s : State} (h : Good qq ll s) : Good qq ll (State.reqRun s) := by
  unfold State.reqRun
  try simp +contextual (maxDischargeDepth := 40) only [↓good_mk, ↓good_fold, ↓good_ite, ↓good_next, ↓goodO_ite, ↓good_foldl, ↓good_forEach, ↓good_setModState, ↓good_wakeSource, h, ite_self]
  all_goals (repeat' split)
  all_goals (try simp +contextual (maxDischargeDepth := 40) only [↓good_mk, ↓good_fold, ↓good_ite, ↓good_next, ↓goodO_ite, ↓good_foldl, ↓good_forEach, ↓good_setModState, ↓good_wakeSource, h, ite_self])
  all_goals (try grind [good_setModState, good_wakeSource, good_mk, good_fold, good_foldl, good_forEach])

theorem good_reqRest {qq ll} {s : State} (q : Requester) (target : Nat) (h : Good qq ll s) : Good qq ll (State.reqRest s q target) := by
  unfold State.reqRest
  try simp +contextual (maxDischargeDepth := 40) only [↓good_mk, ↓good_fold, ↓good_ite, ↓good_next, ↓goodO_ite, ↓good_foldl, ↓good_forEach, ↓good_setFd, ↓good_entryGo, h, ite_self]
  all_goals (repeat' split)
  all_goals (try simp +contextual (maxDischargeDepth := 40) only [↓good_mk, ↓good_fold, ↓good_ite, ↓good_next, ↓goodO_ite, ↓good_foldl, ↓good_forEach, ↓good_setFd, ↓good_entryGo, h, ite_self])
  all_goals (try grind [good_setFd, good_entryGo, good_mk, good_fold, good_foldl, good_forEach])

theorem good_modRequest {qq ll} {s : State} (q : Requester) (target : Nat) (h : Good qq ll s) : Good qq ll (State.modRequest s q target) := by
  unfold State.modRequest
  try simp +contextual (maxDischargeDepth := 40) only [↓good_mk, ↓good_fold, ↓good_ite, ↓good_next, ↓goodO_ite, ↓good_foldl, ↓good_forEach, ↓good_enterTrim, ↓good_reqRun, ↓good_reqRest, h, ite_self]
  all_goals (repeat' split)
  all_goals (try simp +contextual (maxDischargeDepth := 40) only [↓good_mk, ↓good_fold, ↓good_ite, ↓good_next, ↓goodO_ite, ↓good_foldl, ↓good_forEach, ↓good_enterTrim, ↓good_reqRun, ↓good_reqRest, h, ite_self])
  all_goals (try grind [good_enterTrim, good_reqRun, good_reqRest, good_mk, good_fold, good_foldl, good_forEach])

theorem good_writePwMod {qq ll} {s : State} (q : Requester) (v : Word) (h : Good qq ll s) : Good qq ll (writePwMod q v s) := by
  unfold writePwMod
  try simp +contextual (maxDischargeDepth := 40) only [↓good_mk, ↓good_fold, ↓good_ite, ↓good_next, ↓goodO_ite, ↓good_foldl, ↓good_forEach, ↓good_refuse, ↓good_plainWrite, ↓good_modRequest, h, ite_self]
  all_goals (repeat' split)
  all_goals (try simp +contextual (maxDischargeDepth := 40) only [↓good_mk, ↓good_fold, ↓good_ite, ↓good_next, ↓goodO_ite, ↓good_foldl, ↓good_forEach, ↓good_refuse, ↓good_plainWrite, ↓good_modRequest, h, ite_self])
  all_goals (try grind [good_refuse, good_plainWrite, good_modRequest, good_mk, good_fold, good_foldl, good_forEach])

theorem good_modWriteReq {qq ll} {s : State} (q : Requester) (target : Nat) (h : Good qq ll s) : GoodO qq ll (State.modWriteReq s q target) := by
  unfold State.modWriteReq
  try simp +contextual (maxDischargeDepth := 40) only [↓good_mk, ↓good_fold, ↓good_ite, ↓good_next, ↓goodO_ite, ↓good_foldl, ↓good_forEach, ↓good_write, ↓good_writePwMod, h, ite_self]
  all_goals (repeat' split)
  all_goals (try simp +contextual (maxDischargeDepth := 40) only [↓good_mk, ↓good_fold, ↓good_ite, ↓good_next, ↓goodO_ite, ↓good_foldl, ↓good_forEach, ↓good_write, ↓good_writePwMod, h, ite_self])
  all_goals (try grind [good_write, good_writePwMod, good_mk, good_fold, good_foldl, good_forEach])

theorem good_execModuleReqTrim {qq ll} {s : State} (q : Requester) (h : Good qq ll s) : GoodO qq ll (execModuleReqTrim q s) := by
  unfold execModuleReqTrim
  try simp +contextual (maxDischargeDepth := 40) only [↓good_mk, ↓good_fold, ↓good_ite, ↓good_next, ↓goodO_ite, ↓good_foldl, ↓good_forEach, ↓good_modWriteReq, h, ite_self]
  all_goals (repeat' split)
  all_goals (try simp +contextual (maxDischargeDepth := 40) only [↓good_mk, ↓good_fold, ↓good_ite, ↓good_next, ↓goodO_ite, ↓good_foldl, ↓good_forEach, ↓good_modWriteReq, h, ite_self])
  all_goals (try grind [good_modWriteReq, good_mk, good_fold, good_foldl, good_forEach])

theorem good_execModuleReqRun {qq ll} {s : State} (q : Requester) (h : Good qq ll s) : GoodO qq ll (execModuleReqRun q s) := by
  unfold execModuleReqRun
  try simp +contextual (maxDischargeDepth := 40) only [↓good_mk, ↓good_fold, ↓good_ite, ↓good_next, ↓goodO_ite, ↓good_foldl, ↓good_forEach, ↓good_modWriteReq, h, ite_self]
  all_goals (repeat' split)
  all_goals (try simp +contextual (maxDischargeDepth := 40) only [↓good_mk, ↓good_fold, ↓good_ite, ↓good_next, ↓goodO_ite, ↓good_foldl, ↓good_forEach, ↓good_modWriteReq, h, ite_self])
  all_goals (try grind [good_modWriteReq, good_mk, good_fold, good_foldl, good_forEach])

theorem good_execModuleReqHold {qq ll} {s : State} (q : Requester) (h : Good qq ll s) : GoodO qq ll (execModuleReqHold q s) := by
  unfold execModuleReqHold
  try simp +contextual (maxDischargeDepth := 40) only [↓good_mk, ↓good_fold, ↓good_ite, ↓good_next, ↓goodO_ite, ↓good_foldl, ↓good_forEach, ↓good_modWriteReq, h, ite_self]
  all_goals (repeat' split)
  all_goals (try simp +contextual (maxDischargeDepth := 40) only [↓good_mk, ↓good_fold, ↓good_ite, ↓good_next, ↓goodO_ite, ↓good_foldl, ↓good_forEach, ↓good_modWriteReq, h, ite_self])
  all_goals (try grind [good_modWriteReq, good_mk, good_fold, good_foldl, good_forEach])

theorem good_execModuleReqNap {qq ll} {s : State} (q : Requester) (h : Good qq ll s) : GoodO qq ll (execModuleReqNap q s) := by
  unfold execModuleReqNap
  try simp +contextual (maxDischargeDepth := 40) only [↓good_mk, ↓good_fold, ↓good_ite, ↓good_next, ↓goodO_ite, ↓good_foldl, ↓good_forEach, ↓good_modWriteReq, h, ite_self]
  all_goals (repeat' split)
  all_goals (try simp +contextual (maxDischargeDepth := 40) only [↓good_mk, ↓good_fold, ↓good_ite, ↓good_next, ↓goodO_ite, ↓good_foldl, ↓good_forEach, ↓good_modWriteReq, h, ite_self])
  all_goals (try grind [good_modWriteReq, good_mk, good_fold, good_foldl, good_forEach])

theorem good_execDomainDrainEnd {qq ll} {s : State} (d : Nat) (h : Good qq ll s) : GoodO qq ll (execDomainDrainEnd d s) := by
  unfold execDomainDrainEnd
  try simp +contextual (maxDischargeDepth := 40) only [↓good_mk, ↓good_fold, ↓good_ite, ↓good_next, ↓goodO_ite, ↓good_foldl, ↓good_forEach, ↓good_setFd, ↓good_refuse, ↓good_advanceToTick, ↓good_domainDown, ↓good_refuseLeave, ↓good_abortEntry, ↓good_entryGo, h, ite_self]
  all_goals (repeat' split)
  all_goals (try simp +contextual (maxDischargeDepth := 40) only [↓good_mk, ↓good_fold, ↓good_ite, ↓good_next, ↓goodO_ite, ↓good_foldl, ↓good_forEach, ↓good_setFd, ↓good_refuse, ↓good_advanceToTick, ↓good_domainDown, ↓good_refuseLeave, ↓good_abortEntry, ↓good_entryGo, h, ite_self])
  all_goals (try grind [good_setFd, good_refuse, good_advanceToTick, good_domainDown, good_refuseLeave, good_abortEntry, good_entryGo, good_mk, good_fold, good_foldl, good_forEach])

theorem good_entryEnd {qq ll} {s : State} (e : PwEntry) (h : Good qq ll s) : Good qq ll (State.entryEnd s e) := by
  unfold State.entryEnd
  try simp +contextual (maxDischargeDepth := 40) only [↓good_mk, ↓good_fold, ↓good_ite, ↓good_next, ↓goodO_ite, ↓good_foldl, ↓good_forEach, ↓good_setFd, ↓good_setModState, ↓good_entryFinish, ↓good_startWake, h, ite_self]
  all_goals (repeat' split)
  all_goals (try simp +contextual (maxDischargeDepth := 40) only [↓good_mk, ↓good_fold, ↓good_ite, ↓good_next, ↓goodO_ite, ↓good_foldl, ↓good_forEach, ↓good_setFd, ↓good_setModState, ↓good_entryFinish, ↓good_startWake, h, ite_self])
  all_goals (try grind [good_setFd, good_setModState, good_entryFinish, good_startWake, good_mk, good_fold, good_foldl, good_forEach])

theorem good_entryLess {qq ll} {s : State} (e : PwEntry) (d : Nat) (h : Good qq ll s) : Good qq ll (State.entryLess s e d) := by
  unfold State.entryLess
  try simp +contextual (maxDischargeDepth := 40) only [↓good_mk, ↓good_fold, ↓good_ite, ↓good_next, ↓goodO_ite, ↓good_foldl, ↓good_forEach, ↓good_entryEnd, h, ite_self]
  all_goals (repeat' split)
  all_goals (try simp +contextual (maxDischargeDepth := 40) only [↓good_mk, ↓good_fold, ↓good_ite, ↓good_next, ↓goodO_ite, ↓good_foldl, ↓good_forEach, ↓good_entryEnd, h, ite_self])
  all_goals (try grind [good_entryEnd, good_mk, good_fold, good_foldl, good_forEach])

theorem good_execDomainStateReached {qq ll} {s : State} (d : Nat) (keepOk : Bool) (h : Good qq ll s) : GoodO qq ll (execDomainStateReached d keepOk s) := by
  unfold execDomainStateReached
  try simp +contextual (maxDischargeDepth := 40) only [↓good_mk, ↓good_fold, ↓good_ite, ↓good_next, ↓goodO_ite, ↓good_foldl, ↓good_forEach, ↓good_setFd, ↓good_domainDown, ↓good_domainUp, ↓good_refuseLeave, ↓good_startDrain, ↓good_entryLess, h, ite_self]
  all_goals (repeat' split)
  all_goals (try simp +contextual (maxDischargeDepth := 40) only [↓good_mk, ↓good_fold, ↓good_ite, ↓good_next, ↓goodO_ite, ↓good_foldl, ↓good_forEach, ↓good_setFd, ↓good_domainDown, ↓good_domainUp, ↓good_refuseLeave, ↓good_startDrain, ↓good_entryLess, h, ite_self])
  all_goals (try grind [good_setFd, good_domainDown, good_domainUp, good_refuseLeave, good_startDrain, good_entryLess, good_mk, good_fold, good_foldl, good_forEach])

theorem good_execNapReloadComplete {qq ll} {s : State} (h : Good qq ll s) : GoodO qq ll (execNapReloadComplete s) := by
  unfold execNapReloadComplete
  try simp +contextual (maxDischargeDepth := 40) only [↓good_mk, ↓good_fold, ↓good_ite, ↓good_next, ↓goodO_ite, ↓good_foldl, ↓good_forEach, ↓good_setFd, ↓good_reloadSlice, ↓good_setModState, h, ite_self]
  all_goals (repeat' split)
  all_goals (try simp +contextual (maxDischargeDepth := 40) only [↓good_mk, ↓good_fold, ↓good_ite, ↓good_next, ↓goodO_ite, ↓good_foldl, ↓good_forEach, ↓good_setFd, ↓good_reloadSlice, ↓good_setModState, h, ite_self])
  all_goals (try grind [good_setFd, good_reloadSlice, good_setModState, good_mk, good_fold, good_foldl, good_forEach])

theorem good_execWakeGpio {qq ll} {s : State} (rising : Bool) (h : Good qq ll s) : GoodO qq ll (execWakeGpio rising s) := by
  unfold execWakeGpio
  try simp +contextual (maxDischargeDepth := 40) only [↓good_mk, ↓good_fold, ↓good_ite, ↓good_next, ↓goodO_ite, ↓good_foldl, ↓good_forEach, ↓good_wakeSource, h, ite_self]
  all_goals (repeat' split)
  all_goals (try simp +contextual (maxDischargeDepth := 40) only [↓good_mk, ↓good_fold, ↓good_ite, ↓good_next, ↓goodO_ite, ↓good_foldl, ↓good_forEach, ↓good_wakeSource, h, ite_self])
  all_goals (try grind [good_wakeSource, good_mk, good_fold, good_foldl, good_forEach])

theorem good_setCtReached {qq ll} {s : State} (x : Option Nat) (h : Good qq ll s) : Good qq ll (State.setCtReached s x) := by
  unfold State.setCtReached
  try simp +contextual (maxDischargeDepth := 40) only [↓good_mk, ↓good_fold, ↓good_ite, ↓good_next, ↓goodO_ite, ↓good_foldl, ↓good_forEach, h, ite_self]
  all_goals (repeat' split)
  all_goals (try simp +contextual (maxDischargeDepth := 40) only [↓good_mk, ↓good_fold, ↓good_ite, ↓good_next, ↓goodO_ite, ↓good_foldl, ↓good_forEach, h, ite_self])
  all_goals (try grind [good_mk, good_fold, good_foldl, good_forEach])

theorem good_execWakeCt {qq ll} {s : State} (h : Good qq ll s) : GoodO qq ll (execWakeCt s) := by
  unfold execWakeCt
  try simp +contextual (maxDischargeDepth := 40) only [↓good_mk, ↓good_fold, ↓good_ite, ↓good_next, ↓goodO_ite, ↓good_foldl, ↓good_forEach, ↓good_advanceTo, ↓good_wakeSource, ↓good_setCtReached, h, ite_self]
  all_goals (repeat' split)
  all_goals (try simp +contextual (maxDischargeDepth := 40) only [↓good_mk, ↓good_fold, ↓good_ite, ↓good_next, ↓goodO_ite, ↓good_foldl, ↓good_forEach, ↓good_advanceTo, ↓good_wakeSource, ↓good_setCtReached, h, ite_self])
  all_goals (try grind [good_advanceTo, good_wakeSource, good_setCtReached, good_mk, good_fold, good_foldl, good_forEach])

theorem good_writePwWake {qq ll} {s : State} (q : Requester) (v : Word) (h : Good qq ll s) : Good qq ll (writePwWake q v s) := by
  unfold writePwWake
  try simp +contextual (maxDischargeDepth := 40) only [↓good_mk, ↓good_fold, ↓good_ite, ↓good_next, ↓goodO_ite, ↓good_foldl, ↓good_forEach, ↓good_refuse, ↓good_plainWrite, ↓good_wakeSource, ↓good_setCtReached, h, ite_self]
  all_goals (repeat' split)
  all_goals (try simp +contextual (maxDischargeDepth := 40) only [↓good_mk, ↓good_fold, ↓good_ite, ↓good_next, ↓goodO_ite, ↓good_foldl, ↓good_forEach, ↓good_refuse, ↓good_plainWrite, ↓good_wakeSource, ↓good_setCtReached, h, ite_self])
  all_goals (try grind [good_refuse, good_plainWrite, good_wakeSource, good_setCtReached, good_mk, good_fold, good_foldl, good_forEach])

theorem good_writePwWakeCt {qq ll} {s : State} (q : Requester) (v : Word) (h : Good qq ll s) : Good qq ll (writePwWakeCt q v s) := by
  unfold writePwWakeCt
  try simp +contextual (maxDischargeDepth := 40) only [↓good_mk, ↓good_fold, ↓good_ite, ↓good_next, ↓goodO_ite, ↓good_foldl, ↓good_forEach, ↓good_setRg64, ↓good_takeLo, ↓good_setCtReached, h, ite_self]
  all_goals (repeat' split)
  all_goals (try simp +contextual (maxDischargeDepth := 40) only [↓good_mk, ↓good_fold, ↓good_ite, ↓good_next, ↓goodO_ite, ↓good_foldl, ↓good_forEach, ↓good_setRg64, ↓good_takeLo, ↓good_setCtReached, h, ite_self])
  all_goals (try grind [good_setRg64, good_takeLo, good_setCtReached, good_mk, good_fold, good_foldl, good_forEach])

theorem good_writeKeepMask {qq ll} {s : State} (q : Requester) (v : Word) (h : Good qq ll s) : Good qq ll (writeKeepMask q v s) := by
  unfold writeKeepMask
  try simp +contextual (maxDischargeDepth := 40) only [↓good_mk, ↓good_fold, ↓good_ite, ↓good_next, ↓goodO_ite, ↓good_foldl, ↓good_forEach, ↓good_refuse, ↓good_plainWrite, h, ite_self]
  all_goals (repeat' split)
  all_goals (try simp +contextual (maxDischargeDepth := 40) only [↓good_mk, ↓good_fold, ↓good_ite, ↓good_next, ↓goodO_ite, ↓good_foldl, ↓good_forEach, ↓good_refuse, ↓good_plainWrite, h, ite_self])
  all_goals (try grind [good_refuse, good_plainWrite, good_mk, good_fold, good_foldl, good_forEach])

theorem good_writePwTrim {qq ll} {s : State} (q : Requester) (v : Word) (h : Good qq ll s) : Good qq ll (writePwTrim q v s) := by
  unfold writePwTrim
  try simp +contextual (maxDischargeDepth := 40) only [↓good_mk, ↓good_fold, ↓good_ite, ↓good_next, ↓goodO_ite, ↓good_foldl, ↓good_forEach, ↓good_refuse, ↓good_plainWrite, h, ite_self]
  all_goals (repeat' split)
  all_goals (try simp +contextual (maxDischargeDepth := 40) only [↓good_mk, ↓good_fold, ↓good_ite, ↓good_next, ↓goodO_ite, ↓good_foldl, ↓good_forEach, ↓good_refuse, ↓good_plainWrite, h, ite_self])
  all_goals (try grind [good_refuse, good_plainWrite, good_mk, good_fold, good_foldl, good_forEach])

theorem good_writeKeepCtl {qq ll} {s : State} (q : Requester) (v : Word) (h : Good qq ll s) : Good qq ll (writeKeepCtl q v s) := by
  unfold writeKeepCtl
  try simp +contextual (maxDischargeDepth := 40) only [↓good_mk, ↓good_fold, ↓good_ite, ↓good_next, ↓goodO_ite, ↓good_foldl, ↓good_forEach, ↓good_setFd, ↓good_refuse, h, ite_self]
  all_goals (repeat' split)
  all_goals (try simp +contextual (maxDischargeDepth := 40) only [↓good_mk, ↓good_fold, ↓good_ite, ↓good_next, ↓goodO_ite, ↓good_foldl, ↓good_forEach, ↓good_setFd, ↓good_refuse, h, ite_self])
  all_goals (try grind [good_setFd, good_refuse, good_mk, good_fold, good_foldl, good_forEach])

theorem good_writeKeepAdd {qq ll} {s : State} (q : Requester) (v : Word) (h : Good qq ll s) : Good qq ll (writeKeepAdd q v s) := by
  unfold writeKeepAdd
  try simp +contextual (maxDischargeDepth := 40) only [↓good_mk, ↓good_fold, ↓good_ite, ↓good_next, ↓goodO_ite, ↓good_foldl, ↓good_forEach, ↓good_refuse, h, ite_self]
  all_goals (repeat' split)
  all_goals (try simp +contextual (maxDischargeDepth := 40) only [↓good_mk, ↓good_fold, ↓good_ite, ↓good_next, ↓goodO_ite, ↓good_foldl, ↓good_forEach, ↓good_refuse, h, ite_self])
  all_goals (try grind [good_refuse, good_mk, good_fold, good_foldl, good_forEach])

theorem good_execKeepAdd {qq ll} {s : State} (q : Requester) (v : Word) (h : Good qq ll s) : GoodO qq ll (execKeepAdd q v s) := by
  unfold execKeepAdd
  exact good_write _ _ _ _ _ (fun _ h => good_writeKeepAdd _ _ h) h

theorem good_execKeepClr {qq ll} {s : State} (q : Requester) (v : Word) (h : Good qq ll s) : GoodO qq ll (execKeepClr q v s) := by
  unfold execKeepClr
  exact good_write _ _ _ _ _ (fun _ h => good_writeKeepCtl _ _ h) h

theorem good_thermTrim {qq ll} {s : State} (h : Good qq ll s) : Good qq ll (State.thermTrim s) := by
  unfold State.thermTrim
  try simp +contextual (maxDischargeDepth := 40) only [↓good_mk, ↓good_fold, ↓good_ite, ↓good_next, ↓goodO_ite, ↓good_foldl, ↓good_forEach, ↓good_setFd, ↓good_journal, ↓good_enterTrim, h, ite_self]
  all_goals (repeat' split)
  all_goals (try simp +contextual (maxDischargeDepth := 40) only [↓good_mk, ↓good_fold, ↓good_ite, ↓good_next, ↓goodO_ite, ↓good_foldl, ↓good_forEach, ↓good_setFd, ↓good_journal, ↓good_enterTrim, h, ite_self])
  all_goals (try grind [good_setFd, good_journal, good_enterTrim, good_mk, good_fold, good_foldl, good_forEach])

theorem good_execThermalTrim {qq ll} {s : State} (temp : Int) (h : Good qq ll s) : GoodO qq ll (execThermalTrim temp s) := by
  unfold execThermalTrim
  try simp +contextual (maxDischargeDepth := 40) only [↓good_mk, ↓good_fold, ↓good_ite, ↓good_next, ↓goodO_ite, ↓good_foldl, ↓good_forEach, ↓good_thermTrim, h, ite_self]
  all_goals (repeat' split)
  all_goals (try simp +contextual (maxDischargeDepth := 40) only [↓good_mk, ↓good_fold, ↓good_ite, ↓good_next, ↓goodO_ite, ↓good_foldl, ↓good_forEach, ↓good_thermTrim, h, ite_self])
  all_goals (try grind [good_thermTrim, good_mk, good_fold, good_foldl, good_forEach])

theorem good_execThermalTrimExit {qq ll} {s : State} (temp : Int) (h : Good qq ll s) : GoodO qq ll (execThermalTrimExit temp s) := by
  unfold execThermalTrimExit
  try simp +contextual (maxDischargeDepth := 40) only [↓good_mk, ↓good_fold, ↓good_ite, ↓good_next, ↓goodO_ite, ↓good_foldl, ↓good_forEach, ↓good_setFd, ↓good_setModState, h, ite_self]
  all_goals (repeat' split)
  all_goals (try simp +contextual (maxDischargeDepth := 40) only [↓good_mk, ↓good_fold, ↓good_ite, ↓good_next, ↓goodO_ite, ↓good_foldl, ↓good_forEach, ↓good_setFd, ↓good_setModState, h, ite_self])
  all_goals (try grind [good_setFd, good_setModState, good_mk, good_fold, good_foldl, good_forEach])

theorem good_throttle {qq ll} {s : State} (temp : Int) (h : Good qq ll s) : Good qq ll (State.throttle s temp) := by
  unfold State.throttle
  try simp +contextual (maxDischargeDepth := 40) only [↓good_mk, ↓good_fold, ↓good_ite, ↓good_next, ↓goodO_ite, ↓good_foldl, ↓good_forEach, ↓good_setFd, ↓good_journal, ↓good_setModState, ↓good_startStep, h, ite_self]
  all_goals (repeat' split)
  all_goals (try simp +contextual (maxDischargeDepth := 40) only [↓good_mk, ↓good_fold, ↓good_ite, ↓good_next, ↓goodO_ite, ↓good_foldl, ↓good_forEach, ↓good_setFd, ↓good_journal, ↓good_setModState, ↓good_startStep, h, ite_self])
  all_goals (try grind [good_setFd, good_journal, good_setModState, good_startStep, good_mk, good_fold, good_foldl, good_forEach])

theorem good_execThermalThrottle {qq ll} {s : State} (temp : Int) (h : Good qq ll s) : GoodO qq ll (execThermalThrottle temp s) := by
  unfold execThermalThrottle
  try simp +contextual (maxDischargeDepth := 40) only [↓good_mk, ↓good_fold, ↓good_ite, ↓good_next, ↓goodO_ite, ↓good_foldl, ↓good_forEach, ↓good_throttle, h, ite_self]
  all_goals (repeat' split)
  all_goals (try simp +contextual (maxDischargeDepth := 40) only [↓good_mk, ↓good_fold, ↓good_ite, ↓good_next, ↓goodO_ite, ↓good_foldl, ↓good_forEach, ↓good_throttle, h, ite_self])
  all_goals (try grind [good_throttle, good_mk, good_fold, good_foldl, good_forEach])

theorem good_stepEnd {qq ll} {s : State} (i : Nat) (h : Good qq ll s) : Good qq ll (State.stepEnd s i) := by
  unfold State.stepEnd
  try simp +contextual (maxDischargeDepth := 40) only [↓good_mk, ↓good_fold, ↓good_ite, ↓good_next, ↓goodO_ite, ↓good_foldl, ↓good_forEach, ↓good_setFd, ↓good_thermTrim, h, ite_self]
  all_goals (repeat' split)
  all_goals (try simp +contextual (maxDischargeDepth := 40) only [↓good_mk, ↓good_fold, ↓good_ite, ↓good_next, ↓goodO_ite, ↓good_foldl, ↓good_forEach, ↓good_setFd, ↓good_thermTrim, h, ite_self])
  all_goals (try grind [good_setFd, good_thermTrim, good_mk, good_fold, good_foldl, good_forEach])

theorem good_writeVoltStep {qq ll} {s : State} (q : Requester) (i : Nat) (v : Word) (h : Good qq ll s) : Good qq ll (writeVoltStep q i v s) := by
  unfold writeVoltStep
  try simp +contextual (maxDischargeDepth := 40) only [↓good_mk, ↓good_fold, ↓good_ite, ↓good_next, ↓goodO_ite, ↓good_foldl, ↓good_forEach, ↓good_refuse, ↓good_startStep, h, ite_self]
  all_goals (repeat' split)
  all_goals (try simp +contextual (maxDischargeDepth := 40) only [↓good_mk, ↓good_fold, ↓good_ite, ↓good_next, ↓goodO_ite, ↓good_foldl, ↓good_forEach, ↓good_refuse, ↓good_startStep, h, ite_self])
  all_goals (try grind [good_refuse, good_startStep, good_mk, good_fold, good_foldl, good_forEach])

theorem good_writeVoltCtl {qq ll} {s : State} (q : Requester) (i : Nat) (v : Word) (h : Good qq ll s) : Good qq ll (writeVoltCtl q i v s) := by
  unfold writeVoltCtl
  try simp +contextual (maxDischargeDepth := 40) only [↓good_mk, ↓good_fold, ↓good_ite, ↓good_next, ↓goodO_ite, ↓good_foldl, ↓good_forEach, ↓good_setFd, ↓good_refuse, ↓good_plainWrite, h, ite_self]
  all_goals (repeat' split)
  all_goals (try simp +contextual (maxDischargeDepth := 40) only [↓good_mk, ↓good_fold, ↓good_ite, ↓good_next, ↓goodO_ite, ↓good_foldl, ↓good_forEach, ↓good_setFd, ↓good_refuse, ↓good_plainWrite, h, ite_self])
  all_goals (try grind [good_setFd, good_refuse, good_plainWrite, good_mk, good_fold, good_foldl, good_forEach])

theorem good_execVoltStep {qq ll} {s : State} (q : Requester) (i : Nat) (v : Word) (h : Good qq ll s) : GoodO qq ll (execVoltStep q i v s) := by
  unfold execVoltStep
  exact good_write _ _ _ _ _ (fun _ h => good_writeVoltStep _ _ _ h) h

theorem good_execVoltTargetWrite {qq ll} {s : State} (q : Requester) (i : Nat) (v : Word) (h : Good qq ll s) : GoodO qq ll (execVoltTargetWrite q i v s) := by
  unfold execVoltTargetWrite
  exact good_write _ _ _ _ _ (fun _ h => good_writeVoltCtl _ _ _ h) h

theorem good_execVoltCheckPass {qq ll} {s : State} (i : Nat) (mv : Nat) (h : Good qq ll s) : GoodO qq ll (execVoltCheckPass i mv s) := by
  unfold execVoltCheckPass
  try simp +contextual (maxDischargeDepth := 40) only [↓good_mk, ↓good_fold, ↓good_ite, ↓good_next, ↓goodO_ite, ↓good_foldl, ↓good_forEach, ↓good_setFd, ↓good_advanceToTick, ↓good_stepEnd, h, ite_self]
  all_goals (repeat' split)
  all_goals (try simp +contextual (maxDischargeDepth := 40) only [↓good_mk, ↓good_fold, ↓good_ite, ↓good_next, ↓goodO_ite, ↓good_foldl, ↓good_forEach, ↓good_setFd, ↓good_advanceToTick, ↓good_stepEnd, h, ite_self])
  all_goals (try grind [good_setFd, good_advanceToTick, good_stepEnd, good_mk, good_fold, good_foldl, good_forEach])

theorem good_execVoltCheckFail {qq ll} {s : State} (i : Nat) (mv : Nat) (h : Good qq ll s) : GoodO qq ll (execVoltCheckFail i mv s) := by
  unfold execVoltCheckFail
  try simp +contextual (maxDischargeDepth := 40) only [↓good_mk, ↓good_fold, ↓good_ite, ↓good_next, ↓goodO_ite, ↓good_foldl, ↓good_forEach, ↓good_setFd, ↓good_raise, ↓good_journal, ↓good_advanceToTick, ↓good_stepEnd, h, ite_self]
  all_goals (repeat' split)
  all_goals (try simp +contextual (maxDischargeDepth := 40) only [↓good_mk, ↓good_fold, ↓good_ite, ↓good_next, ↓goodO_ite, ↓good_foldl, ↓good_forEach, ↓good_setFd, ↓good_raise, ↓good_journal, ↓good_advanceToTick, ↓good_stepEnd, h, ite_self])
  all_goals (try grind [good_setFd, good_raise, good_journal, good_advanceToTick, good_stepEnd, good_mk, good_fold, good_foldl, good_forEach])

theorem good_lowerAvs {qq ll} {s : State} (i : Nat) (mv : Nat) (h : Good qq ll s) : Good qq ll (State.lowerAvs s i mv) := by
  unfold State.lowerAvs
  try simp +contextual (maxDischargeDepth := 40) only [↓good_mk, ↓good_fold, ↓good_ite, ↓good_next, ↓goodO_ite, ↓good_foldl, ↓good_forEach, ↓good_setFd, ↓good_advanceToTick, h, ite_self]
  all_goals (repeat' split)
  all_goals (try simp +contextual (maxDischargeDepth := 40) only [↓good_mk, ↓good_fold, ↓good_ite, ↓good_next, ↓goodO_ite, ↓good_foldl, ↓good_forEach, ↓good_setFd, ↓good_advanceToTick, h, ite_self])
  all_goals (try grind [good_setFd, good_advanceToTick, good_mk, good_fold, good_foldl, good_forEach])

theorem good_execAvsAdjust {qq ll} {s : State} (i : Nat) (need : Nat) (h : Good qq ll s) : GoodO qq ll (execAvsAdjust i need s) := by
  unfold execAvsAdjust
  try simp +contextual (maxDischargeDepth := 40) only [↓good_mk, ↓good_fold, ↓good_ite, ↓good_next, ↓goodO_ite, ↓good_foldl, ↓good_forEach, ↓good_setFd, ↓good_raise, ↓good_journal, ↓good_startStep, ↓good_lowerAvs, h, ite_self]
  all_goals (repeat' split)
  all_goals (try simp +contextual (maxDischargeDepth := 40) only [↓good_mk, ↓good_fold, ↓good_ite, ↓good_next, ↓goodO_ite, ↓good_foldl, ↓good_forEach, ↓good_setFd, ↓good_raise, ↓good_journal, ↓good_startStep, ↓good_lowerAvs, h, ite_self])
  all_goals (try grind [good_setFd, good_raise, good_journal, good_startStep, good_lowerAvs, good_mk, good_fold, good_foldl, good_forEach])

end Sys2Proof.Machine
end

