-- ==== Sys2Proof/Laws/KeepsService.lean ====
section
/-!
SUPPORT. What the operations of Machine/Service.lean keep.
-/

set_option linter.unusedSimpArgs false
set_option linter.unreachableTactic false
set_option linter.unusedTactic false

namespace Sys2Proof.Machine

theorem good_wornCheck {qq ll} {s : State} (sl : Nat) (h : Good qq ll s) : Good qq ll (State.wornCheck s sl) := by
  unfold State.wornCheck
  try simp +contextual (maxDischargeDepth := 40) only [↓good_mk, ↓good_fold, ↓good_ite, ↓good_next, ↓goodO_ite, ↓good_foldl, ↓good_forEach, ↓good_raise, ↓good_journal, ↓good_healthToken, h, ite_self]
  all_goals (repeat' split)
  all_goals (try simp +contextual (maxDischargeDepth := 40) only [↓good_mk, ↓good_fold, ↓good_ite, ↓good_next, ↓goodO_ite, ↓good_foldl, ↓good_forEach, ↓good_raise, ↓good_journal, ↓good_healthToken, h, ite_self])
  all_goals (try grind [good_raise, good_journal, good_healthToken, good_mk, good_fold, good_foldl, good_forEach])

theorem good_dayTurn {qq ll} {s : State} (h : Good qq ll s) : Good qq ll (State.dayTurn s) := by
  unfold State.dayTurn
  try simp +contextual (maxDischargeDepth := 40) only [↓good_mk, ↓good_fold, ↓good_ite, ↓good_next, ↓goodO_ite, ↓good_foldl, ↓good_forEach, ↓good_setFd, h, ite_self]
  all_goals (repeat' split)
  all_goals (try simp +contextual (maxDischargeDepth := 40) only [↓good_mk, ↓good_fold, ↓good_ite, ↓good_next, ↓goodO_ite, ↓good_foldl, ↓good_forEach, ↓good_setFd, h, ite_self])
  all_goals (try grind [good_setFd, good_mk, good_fold, good_foldl, good_forEach])

theorem good_writeWear {qq ll} {s : State} (v : Word) (h : Good qq ll s) : Good qq ll (writeWear v s) := by
  unfold writeWear
  try simp +contextual (maxDischargeDepth := 40) only [↓good_mk, ↓good_fold, ↓good_ite, ↓good_next, ↓goodO_ite, ↓good_foldl, ↓good_forEach, ↓good_plainWrite, ↓good_wornCheck, h, ite_self]
  all_goals (repeat' split)
  all_goals (try simp +contextual (maxDischargeDepth := 40) only [↓good_mk, ↓good_fold, ↓good_ite, ↓good_next, ↓goodO_ite, ↓good_foldl, ↓good_forEach, ↓good_plainWrite, ↓good_wornCheck, h, ite_self])
  all_goals (try grind [good_plainWrite, good_wornCheck, good_mk, good_fold, good_foldl, good_forEach])

theorem good_execHealthUpdate {qq ll} {s : State} (sl : Nat) (vmin : Nat) (h : Good qq ll s) : GoodO qq ll (execHealthUpdate sl vmin s) := by
  unfold execHealthUpdate
  try simp +contextual (maxDischargeDepth := 40) only [↓good_mk, ↓good_fold, ↓good_ite, ↓good_next, ↓goodO_ite, ↓good_foldl, ↓good_forEach, ↓good_setFd, ↓good_wornCheck, ↓good_dayTurn, h, ite_self]
  all_goals (repeat' split)
  all_goals (try simp +contextual (maxDischargeDepth := 40) only [↓good_mk, ↓good_fold, ↓good_ite, ↓good_next, ↓goodO_ite, ↓good_foldl, ↓good_forEach, ↓good_setFd, ↓good_wornCheck, ↓good_dayTurn, h, ite_self])
  all_goals (try grind [good_setFd, good_wornCheck, good_dayTurn, good_mk, good_fold, good_foldl, good_forEach])

theorem good_entryDrop {qq ll} {s : State} (d : Nat) (h : Good qq ll s) : Good qq ll (State.entryDrop s d) := by
  unfold State.entryDrop
  try simp +contextual (maxDischargeDepth := 40) only [↓good_mk, ↓good_fold, ↓good_ite, ↓good_next, ↓goodO_ite, ↓good_foldl, ↓good_forEach, ↓good_entryGo, ↓good_entryLess, h, ite_self]
  all_goals (repeat' split)
  all_goals (try simp +contextual (maxDischargeDepth := 40) only [↓good_mk, ↓good_fold, ↓good_ite, ↓good_next, ↓goodO_ite, ↓good_foldl, ↓good_forEach, ↓good_entryGo, ↓good_entryLess, h, ite_self])
  all_goals (try grind [good_entryGo, good_entryLess, good_mk, good_fold, good_foldl, good_forEach])

theorem good_forceOff {qq ll} {s : State} (d : Nat) (h : Good qq ll s) : Good qq ll (State.forceOff s d) := by
  unfold State.forceOff
  try simp +contextual (maxDischargeDepth := 40) only [↓good_mk, ↓good_fold, ↓good_ite, ↓good_next, ↓goodO_ite, ↓good_foldl, ↓good_forEach, ↓good_setFd, ↓good_domainDown, ↓good_entryDrop, h, ite_self]
  all_goals (repeat' split)
  all_goals (try simp +contextual (maxDischargeDepth := 40) only [↓good_mk, ↓good_fold, ↓good_ite, ↓good_next, ↓goodO_ite, ↓good_foldl, ↓good_forEach, ↓good_setFd, ↓good_domainDown, ↓good_entryDrop, h, ite_self])
  all_goals (try grind [good_setFd, good_domainDown, good_entryDrop, good_mk, good_fold, good_foldl, good_forEach])

theorem good_retireSlice {qq ll} {s : State} (sl : Nat) (h : Good qq ll s) : Good qq ll (State.retireSlice s sl) := by
  unfold State.retireSlice
  try simp +contextual (maxDischargeDepth := 40) only [↓good_mk, ↓good_fold, ↓good_ite, ↓good_next, ↓goodO_ite, ↓good_foldl, ↓good_forEach, ↓good_forceOff, h, ite_self]
  all_goals (repeat' split)
  all_goals (try simp +contextual (maxDischargeDepth := 40) only [↓good_mk, ↓good_fold, ↓good_ite, ↓good_next, ↓goodO_ite, ↓good_foldl, ↓good_forEach, ↓good_forceOff, h, ite_self])
  all_goals (try grind [good_forceOff, good_mk, good_fold, good_foldl, good_forEach])

theorem good_writeRetire {qq ll} {s : State} (q : Requester) (v : Word) (h : Good qq ll s) : Good qq ll (writeRetire q v s) := by
  unfold writeRetire
  try simp +contextual (maxDischargeDepth := 40) only [↓good_mk, ↓good_fold, ↓good_ite, ↓good_next, ↓goodO_ite, ↓good_foldl, ↓good_forEach, ↓good_refuse, ↓good_retireSlice, h, ite_self]
  all_goals (repeat' split)
  all_goals (try simp +contextual (maxDischargeDepth := 40) only [↓good_mk, ↓good_fold, ↓good_ite, ↓good_next, ↓goodO_ite, ↓good_foldl, ↓good_forEach, ↓good_refuse, ↓good_retireSlice, h, ite_self])
  all_goals (try grind [good_refuse, good_retireSlice, good_mk, good_fold, good_foldl, good_forEach])

theorem good_writeUnretire {qq ll} {s : State} (q : Requester) (v : Word) (h : Good qq ll s) : Good qq ll (writeUnretire q v s) := by
  unfold writeUnretire
  try simp +contextual (maxDischargeDepth := 40) only [↓good_mk, ↓good_fold, ↓good_ite, ↓good_next, ↓goodO_ite, ↓good_foldl, ↓good_forEach, ↓good_journal, ↓good_refuse, h, ite_self]
  all_goals (repeat' split)
  all_goals (try simp +contextual (maxDischargeDepth := 40) only [↓good_mk, ↓good_fold, ↓good_ite, ↓good_next, ↓goodO_ite, ↓good_foldl, ↓good_forEach, ↓good_journal, ↓good_refuse, h, ite_self])
  all_goals (try grind [good_journal, good_refuse, good_mk, good_fold, good_foldl, good_forEach])

theorem good_execSliceRetire {qq ll} {s : State} (q : Requester) (v : Word) (h : Good qq ll s) : GoodO qq ll (execSliceRetire q v s) := by
  unfold execSliceRetire
  exact good_write _ _ _ _ _ (fun _ h => good_writeRetire _ _ h) h

theorem good_execSliceUnretire {qq ll} {s : State} (q : Requester) (v : Word) (h : Good qq ll s) : GoodO qq ll (execSliceUnretire q v s) := by
  unfold execSliceUnretire
  exact good_write _ _ _ _ _ (fun _ h => good_writeUnretire _ _ h) h

theorem good_writeMigCtl {qq ll} {s : State} (q : Requester) (v : Word) (h : Good qq ll s) : Good qq ll (writeMigCtl q v s) := by
  unfold writeMigCtl
  try simp +contextual (maxDischargeDepth := 40) only [↓good_mk, ↓good_fold, ↓good_ite, ↓good_next, ↓goodO_ite, ↓good_foldl, ↓good_forEach, ↓good_setFd, ↓good_refuse, ↓good_migAbort, ↓good_plainWrite, h, ite_self]
  all_goals (repeat' split)
  all_goals (try simp +contextual (maxDischargeDepth := 40) only [↓good_mk, ↓good_fold, ↓good_ite, ↓good_next, ↓goodO_ite, ↓good_foldl, ↓good_forEach, ↓good_setFd, ↓good_refuse, ↓good_migAbort, ↓good_plainWrite, h, ite_self])
  all_goals (try grind [good_setFd, good_refuse, good_migAbort, good_plainWrite, good_mk, good_fold, good_foldl, good_forEach])

theorem good_execMigGo {qq ll} {s : State} (q : Requester) (v : Word) (h : Good qq ll s) : GoodO qq ll (execMigGo q v s) := by
  unfold execMigGo
  exact good_write _ _ _ _ _ (fun _ h => good_writeMigCtl _ _ h) h

theorem good_execMigAbort {qq ll} {s : State} (q : Requester) (v : Word) (h : Good qq ll s) : GoodO qq ll (execMigAbort q v s) := by
  unfold execMigAbort
  exact good_write _ _ _ _ _ (fun _ h => good_writeMigCtl _ _ h) h

theorem good_execMigArmed {qq ll} {s : State} (h : Good qq ll s) : GoodO qq ll (execMigArmed s) := by
  unfold execMigArmed
  try simp +contextual (maxDischargeDepth := 40) only [↓good_mk, ↓good_fold, ↓good_ite, ↓good_next, ↓goodO_ite, ↓good_foldl, ↓good_forEach, ↓good_setFd, ↓good_copySlice, h, ite_self]
  all_goals (repeat' split)
  all_goals (try simp +contextual (maxDischargeDepth := 40) only [↓good_mk, ↓good_fold, ↓good_ite, ↓good_next, ↓goodO_ite, ↓good_foldl, ↓good_forEach, ↓good_setFd, ↓good_copySlice, h, ite_self])
  all_goals (try grind [good_setFd, good_copySlice, good_mk, good_fold, good_foldl, good_forEach])

theorem good_migDefer {qq ll} {s : State} (m : MigState) (h : Good qq ll s) : Good qq ll (State.migDefer s m) := by
  unfold State.migDefer
  try simp +contextual (maxDischargeDepth := 40) only [↓good_mk, ↓good_fold, ↓good_ite, ↓good_next, ↓goodO_ite, ↓good_foldl, ↓good_forEach, ↓good_setFd, ↓good_incFd, ↓good_setCore, h, ite_self]
  all_goals (repeat' split)
  all_goals (try simp +contextual (maxDischargeDepth := 40) only [↓good_mk, ↓good_fold, ↓good_ite, ↓good_next, ↓goodO_ite, ↓good_foldl, ↓good_forEach, ↓good_setFd, ↓good_incFd, ↓good_setCore, h, ite_self])
  all_goals (try grind [good_setFd, good_incFd, good_setCore, good_mk, good_fold, good_foldl, good_forEach])

theorem good_migCutover {qq ll} {s : State} (h : Good qq ll s) : Good qq ll (State.migCutover s) := by
  unfold State.migCutover
  try simp +contextual (maxDischargeDepth := 40) only [↓good_mk, ↓good_fold, ↓good_ite, ↓good_next, ↓goodO_ite, ↓good_foldl, ↓good_forEach, ↓good_setFd, ↓good_incFd, ↓good_setCore, h, ite_self]
  all_goals (repeat' split)
  all_goals (try simp +contextual (maxDischargeDepth := 40) only [↓good_mk, ↓good_fold, ↓good_ite, ↓good_next, ↓goodO_ite, ↓good_foldl, ↓good_forEach, ↓good_setFd, ↓good_incFd, ↓good_setCore, h, ite_self])
  all_goals (try grind [good_setFd, good_incFd, good_setCore, good_mk, good_fold, good_foldl, good_forEach])

theorem good_execMigFreezeCheck {qq ll} {s : State} (ok : Bool) (h : Good qq ll s) : GoodO qq ll (execMigFreezeCheck ok s) := by
  unfold execMigFreezeCheck
  try simp +contextual (maxDischargeDepth := 40) only [↓good_mk, ↓good_fold, ↓good_ite, ↓good_next, ↓goodO_ite, ↓good_foldl, ↓good_forEach, ↓good_copySlice, ↓good_migDefer, h, ite_self]
  all_goals (repeat' split)
  all_goals (try simp +contextual (maxDischargeDepth := 40) only [↓good_mk, ↓good_fold, ↓good_ite, ↓good_next, ↓goodO_ite, ↓good_foldl, ↓good_forEach, ↓good_copySlice, ↓good_migDefer, h, ite_self])
  all_goals (try grind [good_copySlice, good_migDefer, good_mk, good_fold, good_foldl, good_forEach])

theorem good_migComplete {qq ll} {s : State} (h : Good qq ll s) : Good qq ll (State.migComplete s) := by
  unfold State.migComplete
  repeat' first
    | with_reducible assumption
    | (intro s; refine (show Good qq ll s → _ from fun h => ?_) ?_ <;> [clear_value s; subst s])
    | (intro (x : MemState); subst x)
    | (intro x; clear_value x)
    | lift_lets
    | with_reducible refine good_next.mpr ?_
    | with_reducible refine good_forEach _ _ _ (fun a s h => ?_) ?_
    | split
  all_goals (have hw := good_memWf h)
  all_goals (first
    | (simp +contextual (maxDischargeDepth := 40) only [↓good_mk, ↓good_fold, ↓good_ite, ↓good_next, ↓goodO_ite, ↓good_foldl, ↓good_forEach, ↓good_setRg, ↓good_setFd, ↓good_incFd, ↓good_journal, ↓good_setCore, ↓good_healthEvent, ↓good_ungate, ↓good_gate, ↓good_retireSlice, ↓good_migDefer, h, hw, ite_self, ↓good_memC, memWf_mk, Memory.wf_writeN, Memory.wf_setNum, Memory.wf_splice, Memory.wf_clear, Memory.wf_copy, Memory.wf_nil, and_self]; done)
    | simp +contextual (maxDischargeDepth := 40) only [↓good_mk, ↓good_fold, ↓good_ite, ↓good_next, ↓goodO_ite, ↓good_foldl, ↓good_forEach, ↓good_setRg, ↓good_setFd, ↓good_incFd, ↓good_journal, ↓good_setCore, ↓good_healthEvent, ↓good_ungate, ↓good_gate, ↓good_retireSlice, ↓good_migDefer, ite_self, *, ↓good_memC, memWf_mk, Memory.wf_writeN, Memory.wf_setNum, Memory.wf_splice, Memory.wf_clear, Memory.wf_copy, Memory.wf_nil, and_self])

theorem good_writeImgCtl {qq ll} {s : State} (q : Requester) (v : Word) (h : Good qq ll s) : Good qq ll (writeImgCtl q v s) := by
  unfold writeImgCtl
  try simp +contextual (maxDischargeDepth := 40) only [↓good_mk, ↓good_fold, ↓good_ite, ↓good_next, ↓goodO_ite, ↓good_foldl, ↓good_forEach, ↓good_setFd, ↓good_refuse, h, ite_self]
  all_goals (repeat' split)
  all_goals (try simp +contextual (maxDischargeDepth := 40) only [↓good_mk, ↓good_fold, ↓good_ite, ↓good_next, ↓goodO_ite, ↓good_foldl, ↓good_forEach, ↓good_setFd, ↓good_refuse, h, ite_self])
  all_goals (try grind [good_setFd, good_refuse, good_mk, good_fold, good_foldl, good_forEach])

theorem good_execImgStage {qq ll} {s : State} (q : Requester) (v : Word) (h : Good qq ll s) : GoodO qq ll (execImgStage q v s) := by
  unfold execImgStage
  exact good_write _ _ _ _ _ (fun _ h => good_writeImgCtl _ _ h) h

theorem good_execImgSwap {qq ll} {s : State} (q : Requester) (v : Word) (h : Good qq ll s) : GoodO qq ll (execImgSwap q v s) := by
  unfold execImgSwap
  exact good_write _ _ _ _ _ (fun _ h => good_writeImgCtl _ _ h) h

theorem good_execImgStageComplete {qq ll} {s : State} (h : Good qq ll s) : GoodO qq ll (execImgStageComplete s) := by
  unfold execImgStageComplete
  try simp +contextual (maxDischargeDepth := 40) only [↓good_mk, ↓good_fold, ↓good_ite, ↓good_next, ↓goodO_ite, ↓good_foldl, ↓good_forEach, ↓good_setFd, ↓good_loadCode, h, ite_self]
  all_goals (repeat' split)
  all_goals (try simp +contextual (maxDischargeDepth := 40) only [↓good_mk, ↓good_fold, ↓good_ite, ↓good_next, ↓goodO_ite, ↓good_foldl, ↓good_forEach, ↓good_setFd, ↓good_loadCode, h, ite_self])
  all_goals (try grind [good_setFd, good_loadCode, good_mk, good_fold, good_foldl, good_forEach])

theorem good_swapApply {qq ll} {s : State} (h : Good qq ll s) : Good qq ll (State.swapApply s) := by
  unfold State.swapApply
  try simp +contextual (maxDischargeDepth := 40) only [↓good_mk, ↓good_fold, ↓good_ite, ↓good_next, ↓goodO_ite, ↓good_foldl, ↓good_forEach, ↓good_setFd, ↓good_incFd, ↓good_healthEvent, h, ite_self]
  all_goals (repeat' split)
  all_goals (try simp +contextual (maxDischargeDepth := 40) only [↓good_mk, ↓good_fold, ↓good_ite, ↓good_next, ↓goodO_ite, ↓good_foldl, ↓good_forEach, ↓good_setFd, ↓good_incFd, ↓good_healthEvent, h, ite_self])
  all_goals (try grind [good_setFd, good_incFd, good_healthEvent, good_mk, good_fold, good_foldl, good_forEach])

theorem good_corrected {qq ll} {s : State} (mem : Nat) (unit : Nat) (h : Good qq ll s) : Good qq ll (State.corrected s mem unit) := by
  unfold State.corrected
  try simp +contextual (maxDischargeDepth := 40) only [↓good_mk, ↓good_fold, ↓good_ite, ↓good_next, ↓goodO_ite, ↓good_foldl, ↓good_forEach, ↓good_incFd, ↓good_wornCheck, ↓good_dayTurn, h, ite_self]
  all_goals (repeat' split)
  all_goals (try simp +contextual (maxDischargeDepth := 40) only [↓good_mk, ↓good_fold, ↓good_ite, ↓good_next, ↓goodO_ite, ↓good_foldl, ↓good_forEach, ↓good_incFd, ↓good_wornCheck, ↓good_dayTurn, h, ite_self])
  all_goals (try grind [good_incFd, good_wornCheck, good_dayTurn, good_mk, good_fold, good_foldl, good_forEach])

theorem good_execScrubPass {qq ll} {s : State} (mem : Nat) (unit : Nat) (row : Nat) (pct : Nat) (h : Good qq ll s) : GoodO qq ll (execScrubPass mem unit row pct s) := by
  unfold execScrubPass
  try simp +contextual (maxDischargeDepth := 40) only [↓good_mk, ↓good_fold, ↓good_ite, ↓good_next, ↓goodO_ite, ↓good_foldl, ↓good_forEach, ↓good_setFd, ↓good_incFd, ↓good_journal, ↓good_wornCheck, ↓good_corrected, h, ite_self]
  all_goals (repeat' split)
  all_goals (try simp +contextual (maxDischargeDepth := 40) only [↓good_mk, ↓good_fold, ↓good_ite, ↓good_next, ↓goodO_ite, ↓good_foldl, ↓good_forEach, ↓good_setFd, ↓good_incFd, ↓good_journal, ↓good_wornCheck, ↓good_corrected, h, ite_self])
  all_goals (try grind [good_setFd, good_incFd, good_journal, good_wornCheck, good_corrected, good_mk, good_fold, good_foldl, good_forEach])

theorem good_uncorrectable {qq ll} {s : State} (mem : Nat) (unit : Nat) (region : Nat) (adr : Nat) (h : Good qq ll s) : Good qq ll (State.uncorrectable s mem unit region adr) := by
  unfold State.uncorrectable
  try simp +contextual (maxDischargeDepth := 40) only [↓good_mk, ↓good_fold, ↓good_ite, ↓good_next, ↓goodO_ite, ↓good_foldl, ↓good_forEach, ↓good_incFd, ↓good_journal, h, ite_self]
  all_goals (repeat' split)
  all_goals (try simp +contextual (maxDischargeDepth := 40) only [↓good_mk, ↓good_fold, ↓good_ite, ↓good_next, ↓goodO_ite, ↓good_foldl, ↓good_forEach, ↓good_incFd, ↓good_journal, h, ite_self])
  all_goals (try grind [good_incFd, good_journal, good_mk, good_fold, good_foldl, good_forEach])

theorem good_execEccError {qq ll} {s : State} (mem : Nat) (unit : Nat) (region : Nat) (adr : Nat) (correctable : Bool) (fetch : Bool) (core : Nat) (h : Good qq ll s) : GoodO qq ll (execEccError mem unit region adr correctable fetch core s) := by
  unfold execEccError
  try simp +contextual (maxDischargeDepth := 40) only [↓good_mk, ↓good_fold, ↓good_ite, ↓good_next, ↓goodO_ite, ↓good_foldl, ↓good_forEach, ↓good_scratchError, ↓good_eccRaise, ↓good_corrected, ↓good_uncorrectable, h, ite_self]
  all_goals (repeat' split)
  all_goals (try simp +contextual (maxDischargeDepth := 40) only [↓good_mk, ↓good_fold, ↓good_ite, ↓good_next, ↓goodO_ite, ↓good_foldl, ↓good_forEach, ↓good_scratchError, ↓good_eccRaise, ↓good_corrected, ↓good_uncorrectable, h, ite_self])
  all_goals (try grind [good_scratchError, good_eccRaise, good_corrected, good_uncorrectable, good_mk, good_fold, good_foldl, good_forEach])

theorem good_execJournalEvent {qq ll} {s : State} (ev : Nat) (blk : Nat) (code : Nat) (cls : Nat) (detail : List Nat) (h : Good qq ll s) : GoodO qq ll (execJournalEvent ev blk code cls detail s) := by
  unfold execJournalEvent
  try simp +contextual (maxDischargeDepth := 40) only [↓good_mk, ↓good_fold, ↓good_ite, ↓good_next, ↓goodO_ite, ↓good_foldl, ↓good_forEach, ↓good_journal, h, ite_self]
  all_goals (repeat' split)
  all_goals (try simp +contextual (maxDischargeDepth := 40) only [↓good_mk, ↓good_fold, ↓good_ite, ↓good_next, ↓goodO_ite, ↓good_foldl, ↓good_forEach, ↓good_journal, h, ite_self])
  all_goals (try grind [good_journal, good_mk, good_fold, good_foldl, good_forEach])

theorem good_execJournalWrite {qq ll} {s : State} (h : Good qq ll s) : GoodO qq ll (execJournalWrite s) := by
  unfold execJournalWrite
  split
  · exact h
  · rename_i e es hq
    have hj := h.jnl
    rw [hq, List.length_cons] at hj
    exact { h with jnl := (by omega : es.length ≤ 256) }

theorem good_setLoading {qq ll} {s : State} (b : Bool) (h : Good qq ll s) : Good qq ll (State.setLoading s b) := by
  exact { h with jnl := h.jnl }

theorem good_writeJnlSel {qq ll} {s : State} (v : Word) (h : Good qq ll s) : Good qq ll (writeJnlSel v s) := by
  unfold writeJnlSel
  try simp +contextual (maxDischargeDepth := 40) only [↓good_mk, ↓good_fold, ↓good_ite, ↓good_next, ↓goodO_ite, ↓good_foldl, ↓good_forEach, ↓good_setRg, ↓good_setFd, ↓good_setLoading, h, ite_self]
  all_goals (repeat' split)
  all_goals (try simp +contextual (maxDischargeDepth := 40) only [↓good_mk, ↓good_fold, ↓good_ite, ↓good_next, ↓goodO_ite, ↓good_foldl, ↓good_forEach, ↓good_setRg, ↓good_setFd, ↓good_setLoading, h, ite_self])
  all_goals (try grind [good_setRg, good_setFd, good_setLoading, good_mk, good_fold, good_foldl, good_forEach])

theorem good_execJournalSelect {qq ll} {s : State} (q : Requester) (v : Word) (h : Good qq ll s) : GoodO qq ll (execJournalSelect q v s) := by
  unfold execJournalSelect
  exact good_write _ _ _ _ _ (fun _ h => good_writeJnlSel _ h) h

theorem good_execJournalLoadComplete {qq ll} {s : State} (h : Good qq ll s) : GoodO qq ll (execJournalLoadComplete s) := by
  unfold execJournalLoadComplete
  try simp +contextual (maxDischargeDepth := 40) only [↓good_mk, ↓good_fold, ↓good_ite, ↓good_next, ↓goodO_ite, ↓good_foldl, ↓good_forEach, ↓good_setRg, ↓good_setFd, ↓good_setLoading, h, ite_self]
  all_goals (repeat' split)
  all_goals (try simp +contextual (maxDischargeDepth := 40) only [↓good_mk, ↓good_fold, ↓good_ite, ↓good_next, ↓goodO_ite, ↓good_foldl, ↓good_forEach, ↓good_setRg, ↓good_setFd, ↓good_setLoading, h, ite_self])
  all_goals (try grind [good_setRg, good_setFd, good_setLoading, good_mk, good_fold, good_foldl, good_forEach])

theorem good_bite {qq ll} {s : State} (why : Nat) (h : Good qq ll s) : Good qq ll (State.bite s why) := by
  unfold State.bite
  try simp +contextual (maxDischargeDepth := 40) only [↓good_mk, ↓good_fold, ↓good_ite, ↓good_next, ↓goodO_ite, ↓good_foldl, ↓good_forEach, ↓good_raise, ↓good_journal, ↓good_advance, ↓good_warmReset, h, ite_self]
  all_goals (repeat' split)
  all_goals (try simp +contextual (maxDischargeDepth := 40) only [↓good_mk, ↓good_fold, ↓good_ite, ↓good_next, ↓goodO_ite, ↓good_foldl, ↓good_forEach, ↓good_raise, ↓good_journal, ↓good_advance, ↓good_warmReset, h, ite_self])
  all_goals (try grind [good_raise, good_journal, good_advance, good_warmReset, good_mk, good_fold, good_foldl, good_forEach])

theorem good_writeWdogCtl {qq ll} {s : State} (q : Requester) (v : Word) (h : Good qq ll s) : Good qq ll (writeWdogCtl q v s) := by
  unfold writeWdogCtl
  try simp +contextual (maxDischargeDepth := 40) only [↓good_mk, ↓good_fold, ↓good_ite, ↓good_next, ↓goodO_ite, ↓good_foldl, ↓good_forEach, ↓good_refuse, ↓good_plainWrite, h, ite_self]
  all_goals (repeat' split)
  all_goals (try simp +contextual (maxDischargeDepth := 40) only [↓good_mk, ↓good_fold, ↓good_ite, ↓good_next, ↓goodO_ite, ↓good_foldl, ↓good_forEach, ↓good_refuse, ↓good_plainWrite, h, ite_self])
  all_goals (try grind [good_refuse, good_plainWrite, good_mk, good_fold, good_foldl, good_forEach])

theorem good_writeWdogKick {qq ll} {s : State} (v : Word) (h : Good qq ll s) : Good qq ll (writeWdogKick v s) := by
  unfold writeWdogKick
  try simp +contextual (maxDischargeDepth := 40) only [↓good_mk, ↓good_fold, ↓good_ite, ↓good_next, ↓goodO_ite, ↓good_foldl, ↓good_forEach, ↓good_bite, h, ite_self]
  all_goals (repeat' split)
  all_goals (try simp +contextual (maxDischargeDepth := 40) only [↓good_mk, ↓good_fold, ↓good_ite, ↓good_next, ↓goodO_ite, ↓good_foldl, ↓good_forEach, ↓good_bite, h, ite_self])
  all_goals (try grind [good_bite, good_mk, good_fold, good_foldl, good_forEach])

theorem good_execWdogKick {qq ll} {s : State} (q : Requester) (v : Word) (h : Good qq ll s) : GoodO qq ll (execWdogKick q v s) := by
  unfold execWdogKick
  exact good_write _ _ _ _ _ (fun _ h => good_writeWdogKick _ h) h

theorem good_execWdogKeyTimeout {qq ll} {s : State} (h : Good qq ll s) : GoodO qq ll (execWdogKeyTimeout s) := by
  unfold execWdogKeyTimeout
  try simp +contextual (maxDischargeDepth := 40) only [↓good_mk, ↓good_fold, ↓good_ite, ↓good_next, ↓goodO_ite, ↓good_foldl, ↓good_forEach, ↓good_advanceToTick, ↓good_bite, h, ite_self]
  all_goals (repeat' split)
  all_goals (try simp +contextual (maxDischargeDepth := 40) only [↓good_mk, ↓good_fold, ↓good_ite, ↓good_next, ↓goodO_ite, ↓good_foldl, ↓good_forEach, ↓good_advanceToTick, ↓good_bite, h, ite_self])
  all_goals (try grind [good_advanceToTick, good_bite, good_mk, good_fold, good_foldl, good_forEach])

theorem good_execWdogEarly {qq ll} {s : State} (h : Good qq ll s) : GoodO qq ll (execWdogEarly s) := by
  unfold execWdogEarly
  try simp +contextual (maxDischargeDepth := 40) only [↓good_mk, ↓good_fold, ↓good_ite, ↓good_next, ↓goodO_ite, ↓good_foldl, ↓good_forEach, ↓good_raise, ↓good_advanceToTick, ↓good_healthEvent, h, ite_self]
  all_goals (repeat' split)
  all_goals (try simp +contextual (maxDischargeDepth := 40) only [↓good_mk, ↓good_fold, ↓good_ite, ↓good_next, ↓goodO_ite, ↓good_foldl, ↓good_forEach, ↓good_raise, ↓good_advanceToTick, ↓good_healthEvent, h, ite_self])
  all_goals (try grind [good_raise, good_advanceToTick, good_healthEvent, good_mk, good_fold, good_foldl, good_forEach])

theorem good_execWdogTimeout {qq ll} {s : State} (h : Good qq ll s) : GoodO qq ll (execWdogTimeout s) := by
  unfold execWdogTimeout
  try simp +contextual (maxDischargeDepth := 40) only [↓good_mk, ↓good_fold, ↓good_ite, ↓good_next, ↓goodO_ite, ↓good_foldl, ↓good_forEach, ↓good_advanceToTick, ↓good_bite, h, ite_self]
  all_goals (repeat' split)
  all_goals (try simp +contextual (maxDischargeDepth := 40) only [↓good_mk, ↓good_fold, ↓good_ite, ↓good_next, ↓goodO_ite, ↓good_foldl, ↓good_forEach, ↓good_advanceToTick, ↓good_bite, h, ite_self])
  all_goals (try grind [good_advanceToTick, good_bite, good_mk, good_fold, good_foldl, good_forEach])

theorem good_writeForce {qq ll} {s : State} (q : Requester) (v : Word) (h : Good qq ll s) : Good qq ll (writeForce q v s) := by
  unfold writeForce
  try simp +contextual (maxDischargeDepth := 40) only [↓good_mk, ↓good_fold, ↓good_ite, ↓good_next, ↓goodO_ite, ↓good_foldl, ↓good_forEach, ↓good_journal, ↓good_refuse, ↓good_forceOff, h, ite_self]
  all_goals (repeat' split)
  all_goals (try simp +contextual (maxDischargeDepth := 40) only [↓good_mk, ↓good_fold, ↓good_ite, ↓good_next, ↓goodO_ite, ↓good_foldl, ↓good_forEach, ↓good_journal, ↓good_refuse, ↓good_forceOff, h, ite_self])
  all_goals (try grind [good_journal, good_refuse, good_forceOff, good_mk, good_fold, good_foldl, good_forEach])

theorem good_execDomainForceOff {qq ll} {s : State} (q : Requester) (v : Word) (h : Good qq ll s) : GoodO qq ll (execDomainForceOff q v s) := by
  unfold execDomainForceOff
  exact good_write _ _ _ _ _ (fun _ h => good_writeForce _ _ h) h

theorem good_writeChCtl {qq ll} {s : State} (q : Requester) (v : Word) (h : Good qq ll s) : Good qq ll (writeChCtl q v s) := by
  unfold writeChCtl
  try simp +contextual (maxDischargeDepth := 40) only [↓good_mk, ↓good_fold, ↓good_ite, ↓good_next, ↓goodO_ite, ↓good_foldl, ↓good_forEach, ↓good_setFd, ↓good_refuse, ↓good_plainWrite, ↓good_pairsOff, h, ite_self]
  all_goals (repeat' split)
  all_goals (try simp +contextual (maxDischargeDepth := 40) only [↓good_mk, ↓good_fold, ↓good_ite, ↓good_next, ↓goodO_ite, ↓good_foldl, ↓good_forEach, ↓good_setFd, ↓good_refuse, ↓good_plainWrite, ↓good_pairsOff, h, ite_self])
  all_goals (try grind [good_setFd, good_refuse, good_plainWrite, good_pairsOff, good_mk, good_fold, good_foldl, good_forEach])

theorem good_execChainEnable {qq ll} {s : State} (q : Requester) (heard : Nat) (twice : Bool) (agree : Bool) (v : Word) (h : Good qq ll s) : GoodO qq ll (execChainEnable q heard twice agree v s) := by
  unfold execChainEnable
  try simp +contextual (maxDischargeDepth := 40) only [↓good_mk, ↓good_fold, ↓good_ite, ↓good_next, ↓goodO_ite, ↓good_foldl, ↓good_forEach, ↓good_setFd, ↓good_write, ↓good_writeChCtl, h, ite_self]
  all_goals (repeat' split)
  all_goals (try simp +contextual (maxDischargeDepth := 40) only [↓good_mk, ↓good_fold, ↓good_ite, ↓good_next, ↓goodO_ite, ↓good_foldl, ↓good_forEach, ↓good_setFd, ↓good_write, ↓good_writeChCtl, h, ite_self])
  all_goals (try grind [good_setFd, good_write, good_writeChCtl, good_mk, good_fold, good_foldl, good_forEach])

theorem good_writeChRep {qq ll} {s : State} (q : Requester) (r : Reg) (i : Nat) (v : Word) (h : Good qq ll s) : Good qq ll (writeChRep q r i v s) := by
  unfold writeChRep
  try simp +contextual (maxDischargeDepth := 40) only [↓good_mk, ↓good_fold, ↓good_ite, ↓good_next, ↓goodO_ite, ↓good_foldl, ↓good_forEach, ↓good_setRg, ↓good_refuse, h, ite_self]
  all_goals (repeat' split)
  all_goals (try simp +contextual (maxDischargeDepth := 40) only [↓good_mk, ↓good_fold, ↓good_ite, ↓good_next, ↓goodO_ite, ↓good_foldl, ↓good_forEach, ↓good_setRg, ↓good_refuse, h, ite_self])
  all_goals (try grind [good_setRg, good_refuse, good_mk, good_fold, good_foldl, good_forEach])

theorem good_execBridgeTokenReceive {qq ll} {s : State} (t : Nat) (slot : Nat) (tag : Nat) (payload : Word) (h : Good qq ll s) : GoodO qq ll (execBridgeTokenReceive t slot tag payload s) := by
  unfold execBridgeTokenReceive
  try simp +contextual (maxDischargeDepth := 40) only [↓good_mk, ↓good_fold, ↓good_ite, ↓good_next, ↓goodO_ite, ↓good_foldl, ↓good_forEach, ↓good_deposit, h, ite_self]
  all_goals (repeat' split)
  all_goals (try simp +contextual (maxDischargeDepth := 40) only [↓good_mk, ↓good_fold, ↓good_ite, ↓good_next, ↓goodO_ite, ↓good_foldl, ↓good_forEach, ↓good_deposit, h, ite_self])
  all_goals (try grind [good_deposit, good_mk, good_fold, good_foldl, good_forEach])

theorem good_replicationRound {qq ll} {s : State} (h : Good qq ll s) : Good qq ll (State.replicationRound s) := by
  unfold State.replicationRound
  try simp +contextual (maxDischargeDepth := 40) only [↓good_mk, ↓good_fold, ↓good_ite, ↓good_next, ↓goodO_ite, ↓good_foldl, ↓good_forEach, ↓good_setFd, ↓good_incFd, h, ite_self]
  all_goals (repeat' split)
  all_goals (try simp +contextual (maxDischargeDepth := 40) only [↓good_mk, ↓good_fold, ↓good_ite, ↓good_next, ↓goodO_ite, ↓good_foldl, ↓good_forEach, ↓good_setFd, ↓good_incFd, h, ite_self])
  all_goals (try grind [good_setFd, good_incFd, good_mk, good_fold, good_foldl, good_forEach])

theorem good_execReplicationApply {qq ll} {s : State} (round : Nat) (lines : List (Nat × List Byte)) (regs : List Nat) (h : Good qq ll s) : GoodO qq ll (execReplicationApply round lines regs s) := by
  unfold execReplicationApply
  try simp +contextual (maxDischargeDepth := 40) only [↓good_mk, ↓good_fold, ↓good_ite, ↓good_next, ↓goodO_ite, ↓good_foldl, ↓good_forEach, ↓good_setFd, ↓good_sramWrite, h, ite_self]
  all_goals (repeat' split)
  all_goals (try simp +contextual (maxDischargeDepth := 40) only [↓good_mk, ↓good_fold, ↓good_ite, ↓good_next, ↓goodO_ite, ↓good_foldl, ↓good_forEach, ↓good_setFd, ↓good_sramWrite, h, ite_self])
  all_goals (try grind [good_setFd, good_sramWrite, good_mk, good_fold, good_foldl, good_forEach])

theorem good_adoptReplicated {qq ll} {s : State} (addr : Nat) (vf : Nat) (h : Good qq ll s) : Good qq ll (State.adoptReplicated s addr vf) := by
  unfold State.adoptReplicated
  try simp +contextual (maxDischargeDepth := 40) only [↓good_mk, ↓good_fold, ↓good_ite, ↓good_next, ↓goodO_ite, ↓good_foldl, ↓good_forEach, h, ite_self]
  all_goals (repeat' split)
  all_goals (try simp +contextual (maxDischargeDepth := 40) only [↓good_mk, ↓good_fold, ↓good_ite, ↓good_next, ↓goodO_ite, ↓good_foldl, ↓good_forEach, h, ite_self])
  all_goals (try grind [good_mk, good_fold, good_foldl, good_forEach])

theorem good_takeReference {qq ll} {s : State} (h : Good qq ll s) : Good qq ll (State.takeReference s) := by
  unfold State.takeReference
  try simp +contextual (maxDischargeDepth := 40) only [↓good_mk, ↓good_fold, ↓good_ite, ↓good_next, ↓goodO_ite, ↓good_foldl, ↓good_forEach, ↓good_setFd, ↓good_setCs, ↓good_setRef, ↓good_nominalInc, h, ite_self]
  all_goals (repeat' split)
  all_goals (try simp +contextual (maxDischargeDepth := 40) only [↓good_mk, ↓good_fold, ↓good_ite, ↓good_next, ↓goodO_ite, ↓good_foldl, ↓good_forEach, ↓good_setFd, ↓good_setCs, ↓good_setRef, ↓good_nominalInc, h, ite_self])
  all_goals (try grind [good_setFd, good_setCs, good_setRef, good_nominalInc, good_mk, good_fold, good_foldl, good_forEach])

theorem good_execTakeover {qq ll} {s : State} (h : Good qq ll s) : GoodO qq ll (execTakeover s) := by
  unfold execTakeover
  try simp +contextual (maxDischargeDepth := 40) only [↓good_mk, ↓good_fold, ↓good_ite, ↓good_next, ↓goodO_ite, ↓good_foldl, ↓good_forEach, ↓good_setRg, ↓good_setFd, ↓good_incFd, ↓good_setRg64, ↓good_journal, ↓good_healthEvent, ↓good_adoptReplicated, ↓good_takeReference, h, ite_self]
  all_goals (repeat' split)
  all_goals (try simp +contextual (maxDischargeDepth := 40) only [↓good_mk, ↓good_fold, ↓good_ite, ↓good_next, ↓goodO_ite, ↓good_foldl, ↓good_forEach, ↓good_setRg, ↓good_setFd, ↓good_incFd, ↓good_setRg64, ↓good_journal, ↓good_healthEvent, ↓good_adoptReplicated, ↓good_takeReference, h, ite_self])
  all_goals (try grind [good_setRg, good_setFd, good_incFd, good_setRg64, good_journal, good_healthEvent, good_adoptReplicated, good_takeReference, good_mk, good_fold, good_foldl, good_forEach])

theorem good_execChainLost {qq ll} {s : State} (h : Good qq ll s) : GoodO qq ll (execChainLost s) := by
  unfold execChainLost
  try simp +contextual (maxDischargeDepth := 40) only [↓good_mk, ↓good_fold, ↓good_ite, ↓good_next, ↓goodO_ite, ↓good_foldl, ↓good_forEach, ↓good_raise, h, ite_self]
  all_goals (repeat' split)
  all_goals (try simp +contextual (maxDischargeDepth := 40) only [↓good_mk, ↓good_fold, ↓good_ite, ↓good_next, ↓goodO_ite, ↓good_foldl, ↓good_forEach, ↓good_raise, h, ite_self])
  all_goals (try grind [good_raise, good_mk, good_fold, good_foldl, good_forEach])

end Sys2Proof.Machine
end

