-- ==== Sys2Proof/Laws/KeepsCell.lean ====
section
/-!
SUPPORT. What the operations of Machine/Cell.lean keep.
-/

set_option linter.unusedSimpArgs false
set_option linter.unreachableTactic false
set_option linter.unusedTactic false

namespace Sys2Proof.Machine

theorem good_agOn {qq ll} {s : State} (g : Nat) (h : Good qq ll s) : Good qq ll (State.agOn s g) := by
  unfold State.agOn
  try simp +contextual (maxDischargeDepth := 40) only [↓good_mk, ↓good_fold, ↓good_ite, ↓good_next, ↓goodO_ite, ↓good_foldl, ↓good_forEach, ↓good_setFd, ↓good_setAg, ↓good_modelCopy, ↓good_setPlanCount, ↓good_setAxState, ↓good_axStart, ↓good_fbHalt, h, ite_self]
  all_goals (repeat' split)
  all_goals (try simp +contextual (maxDischargeDepth := 40) only [↓good_mk, ↓good_fold, ↓good_ite, ↓good_next, ↓goodO_ite, ↓good_foldl, ↓good_forEach, ↓good_setFd, ↓good_setAg, ↓good_modelCopy, ↓good_setPlanCount, ↓good_setAxState, ↓good_axStart, ↓good_fbHalt, h, ite_self])
  all_goals (try grind [good_setFd, good_setAg, good_modelCopy, good_setPlanCount, good_setAxState, good_axStart, good_fbHalt, good_mk, good_fold, good_foldl, good_forEach])

theorem good_writeAgEn {qq ll} {s : State} (q : Requester) (v : Word) (h : Good qq ll s) : Good qq ll (writeAgEn q v s) := by
  unfold writeAgEn
  try simp +contextual (maxDischargeDepth := 40) only [↓good_mk, ↓good_fold, ↓good_ite, ↓good_next, ↓goodO_ite, ↓good_foldl, ↓good_forEach, ↓good_setFd, ↓good_refuse, ↓good_setAg, ↓good_agOn, h, ite_self]
  all_goals (repeat' split)
  all_goals (try simp +contextual (maxDischargeDepth := 40) only [↓good_mk, ↓good_fold, ↓good_ite, ↓good_next, ↓goodO_ite, ↓good_foldl, ↓good_forEach, ↓good_setFd, ↓good_refuse, ↓good_setAg, ↓good_agOn, h, ite_self])
  all_goals (try grind [good_setFd, good_refuse, good_setAg, good_agOn, good_mk, good_fold, good_foldl, good_forEach])

theorem good_execAgEnable {qq ll} {s : State} (q : Requester) (v : Word) (h : Good qq ll s) : GoodO qq ll (execAgEnable q v s) := by
  unfold execAgEnable
  exact good_write _ _ _ _ _ (fun _ h => good_writeAgEn _ _ h) h

theorem good_execAgDisable {qq ll} {s : State} (q : Requester) (v : Word) (h : Good qq ll s) : GoodO qq ll (execAgDisable q v s) := by
  unfold execAgDisable
  exact good_write _ _ _ _ _ (fun _ h => good_writeAgEn _ _ h) h

theorem good_execAgStandstill {qq ll} {s : State} (g : Nat) (h : Good qq ll s) : GoodO qq ll (execAgStandstill g s) := by
  unfold execAgStandstill
  try simp +contextual (maxDischargeDepth := 40) only [↓good_mk, ↓good_fold, ↓good_ite, ↓good_next, ↓goodO_ite, ↓good_foldl, ↓good_forEach, ↓good_agOff, h, ite_self]
  all_goals (repeat' split)
  all_goals (try simp +contextual (maxDischargeDepth := 40) only [↓good_mk, ↓good_fold, ↓good_ite, ↓good_next, ↓goodO_ite, ↓good_foldl, ↓good_forEach, ↓good_agOff, h, ite_self])
  all_goals (try grind [good_agOff, good_mk, good_fold, good_foldl, good_forEach])

theorem good_execPathEndStop {qq ll} {s : State} (g : Nat) (h : Good qq ll s) : GoodO qq ll (execPathEndStop g s) := by
  unfold execPathEndStop
  try simp +contextual (maxDischargeDepth := 40) only [↓good_mk, ↓good_fold, ↓good_ite, ↓good_next, ↓goodO_ite, ↓good_foldl, ↓good_forEach, ↓good_journal, ↓good_advanceTo, ↓good_cat1Stop, h, ite_self]
  all_goals (repeat' split)
  all_goals (try simp +contextual (maxDischargeDepth := 40) only [↓good_mk, ↓good_fold, ↓good_ite, ↓good_next, ↓goodO_ite, ↓good_foldl, ↓good_forEach, ↓good_journal, ↓good_advanceTo, ↓good_cat1Stop, h, ite_self])
  all_goals (try grind [good_journal, good_advanceTo, good_cat1Stop, good_mk, good_fold, good_foldl, good_forEach])

theorem good_judge {qq ll} {s : State} (g : Nat) (h : Good qq ll s) : Good qq ll (State.judge s g) := by
  unfold State.judge
  try simp +contextual (maxDischargeDepth := 40) only [↓good_mk, ↓good_fold, ↓good_ite, ↓good_next, ↓goodO_ite, ↓good_foldl, ↓good_forEach, ↓good_journal, ↓good_setSram, ↓good_setAg, ↓good_cat1Stop, ↓good_agOff, h, ite_self]
  all_goals (repeat' split)
  all_goals (try simp +contextual (maxDischargeDepth := 40) only [↓good_mk, ↓good_fold, ↓good_ite, ↓good_next, ↓goodO_ite, ↓good_foldl, ↓good_forEach, ↓good_journal, ↓good_setSram, ↓good_setAg, ↓good_cat1Stop, ↓good_agOff, h, ite_self])
  all_goals (try grind [good_journal, good_setSram, good_setAg, good_cat1Stop, good_agOff, good_mk, good_fold, good_foldl, good_forEach])

theorem good_cutoffWork {qq ll} {s : State} (h : Good qq ll s) : Good qq ll (State.cutoffWork s) := by
  unfold State.cutoffWork
  try simp +contextual (maxDischargeDepth := 40) only [↓good_mk, ↓good_fold, ↓good_ite, ↓good_next, ↓goodO_ite, ↓good_foldl, ↓good_forEach, ↓good_advanceWithin, ↓good_closeBank, ↓good_migCutover, ↓good_replicationRound, ↓good_judge, h, ite_self]
  all_goals (repeat' split)
  all_goals (try simp +contextual (maxDischargeDepth := 40) only [↓good_mk, ↓good_fold, ↓good_ite, ↓good_next, ↓goodO_ite, ↓good_foldl, ↓good_forEach, ↓good_advanceWithin, ↓good_closeBank, ↓good_migCutover, ↓good_replicationRound, ↓good_judge, h, ite_self])
  all_goals (try grind [good_advanceWithin, good_closeBank, good_migCutover, good_replicationRound, good_judge, good_mk, good_fold, good_foldl, good_forEach])

theorem good_execCutoff {qq ll} {s : State} (h : Good qq ll s) : GoodO qq ll (execCutoff s) := by
  unfold execCutoff
  try simp +contextual (maxDischargeDepth := 40) only [↓good_mk, ↓good_fold, ↓good_ite, ↓good_next, ↓goodO_ite, ↓good_foldl, ↓good_forEach, ↓good_cutoffWork, h, ite_self]
  all_goals (repeat' split)
  all_goals (try simp +contextual (maxDischargeDepth := 40) only [↓good_mk, ↓good_fold, ↓good_ite, ↓good_next, ↓goodO_ite, ↓good_foldl, ↓good_forEach, ↓good_cutoffWork, h, ite_self])
  all_goals (try grind [good_cutoffWork, good_mk, good_fold, good_foldl, good_forEach])

theorem good_leaveCycle {qq ll} {s : State} (h : Good qq ll s) : Good qq ll (State.leaveCycle s) := by
  unfold State.leaveCycle
  try simp +contextual (maxDischargeDepth := 40) only [↓good_mk, ↓good_fold, ↓good_ite, ↓good_next, ↓goodO_ite, ↓good_foldl, ↓good_forEach, ↓good_advance, ↓good_cutoffWork, h, ite_self]
  all_goals (repeat' split)
  all_goals (try simp +contextual (maxDischargeDepth := 40) only [↓good_mk, ↓good_fold, ↓good_ite, ↓good_next, ↓goodO_ite, ↓good_foldl, ↓good_forEach, ↓good_advance, ↓good_cutoffWork, h, ite_self])
  all_goals (try grind [good_advance, good_cutoffWork, good_mk, good_fold, good_foldl, good_forEach])

theorem good_chainCycle {qq ll} {s : State} (h : Good qq ll s) : Good qq ll (State.chainCycle s) := by
  unfold State.chainCycle
  try simp +contextual (maxDischargeDepth := 40) only [↓good_mk, ↓good_fold, ↓good_ite, ↓good_next, ↓goodO_ite, ↓good_foldl, ↓good_forEach, ↓good_setFd, h, ite_self]
  all_goals (repeat' split)
  all_goals (try simp +contextual (maxDischargeDepth := 40) only [↓good_mk, ↓good_fold, ↓good_ite, ↓good_next, ↓goodO_ite, ↓good_foldl, ↓good_forEach, ↓good_setFd, h, ite_self])
  all_goals (try grind [good_setFd, good_mk, good_fold, good_foldl, good_forEach])

theorem good_enterCycle {qq ll} {s : State} (h : Good qq ll s) : Good qq ll (State.enterCycle s) := by
  unfold State.enterCycle
  try simp +contextual (maxDischargeDepth := 40) only [↓good_mk, ↓good_fold, ↓good_ite, ↓good_next, ↓goodO_ite, ↓good_foldl, ↓good_forEach, ↓good_setAg, ↓good_advanceTo, ↓good_thBound, ↓good_planDone, ↓good_leaveCycle, ↓good_chainCycle, h, ite_self]
  all_goals (repeat' split)
  all_goals (try simp +contextual (maxDischargeDepth := 40) only [↓good_mk, ↓good_fold, ↓good_ite, ↓good_next, ↓goodO_ite, ↓good_foldl, ↓good_forEach, ↓good_setAg, ↓good_advanceTo, ↓good_thBound, ↓good_planDone, ↓good_leaveCycle, ↓good_chainCycle, h, ite_self])
  all_goals (try grind [good_setAg, good_advanceTo, good_thBound, good_planDone, good_leaveCycle, good_chainCycle, good_mk, good_fold, good_foldl, good_forEach])

theorem good_execBaseChangeEffect {qq ll} {s : State} (h : Good qq ll s) : GoodO qq ll (execBaseChangeEffect s) := by
  unfold execBaseChangeEffect
  try simp +contextual (maxDischargeDepth := 40) only [↓good_mk, ↓good_fold, ↓good_ite, ↓good_next, ↓goodO_ite, ↓good_foldl, ↓good_forEach, ↓good_leaveCycle, ↓good_enterCycle, h, ite_self]
  all_goals (repeat' split)
  all_goals (try simp +contextual (maxDischargeDepth := 40) only [↓good_mk, ↓good_fold, ↓good_ite, ↓good_next, ↓goodO_ite, ↓good_foldl, ↓good_forEach, ↓good_leaveCycle, ↓good_enterCycle, h, ite_self])
  all_goals (try grind [good_leaveCycle, good_enterCycle, good_mk, good_fold, good_foldl, good_forEach])

theorem good_takePoint {qq ll} {s : State} (g : Nat) (h : Good qq ll s) : Good qq ll (State.takePoint s g) := by
  unfold State.takePoint
  try simp +contextual (maxDischargeDepth := 40) only [↓good_mk, ↓good_fold, ↓good_ite, ↓good_next, ↓goodO_ite, ↓good_foldl, ↓good_forEach, ↓good_setSram, ↓good_setAg, h, ite_self]
  all_goals (repeat' split)
  all_goals (try simp +contextual (maxDischargeDepth := 40) only [↓good_mk, ↓good_fold, ↓good_ite, ↓good_next, ↓goodO_ite, ↓good_foldl, ↓good_forEach, ↓good_setSram, ↓good_setAg, h, ite_self])
  all_goals (try grind [good_setSram, good_setAg, good_mk, good_fold, good_foldl, good_forEach])

theorem good_releaseAhead {qq ll} {s : State} (g : Nat) (h : Good qq ll s) : Good qq ll (State.releaseAhead s g) := by
  unfold State.releaseAhead
  try simp +contextual (maxDischargeDepth := 40) only [↓good_mk, ↓good_fold, ↓good_ite, ↓good_next, ↓goodO_ite, ↓good_foldl, ↓good_forEach, h, ite_self]
  all_goals (repeat' split)
  all_goals (try simp +contextual (maxDischargeDepth := 40) only [↓good_mk, ↓good_fold, ↓good_ite, ↓good_next, ↓goodO_ite, ↓good_foldl, ↓good_forEach, h, ite_self])
  all_goals (try grind [good_mk, good_fold, good_foldl, good_forEach])

theorem good_pacingAg {qq ll} {s : State} (g : Nat) (h : Good qq ll s) : Good qq ll (State.pacingAg s g) := by
  unfold State.pacingAg
  try simp +contextual (maxDischargeDepth := 40) only [↓good_mk, ↓good_fold, ↓good_ite, ↓good_next, ↓goodO_ite, ↓good_foldl, ↓good_forEach, ↓good_setAg, ↓good_releaseAhead, h, ite_self]
  all_goals (repeat' split)
  all_goals (try simp +contextual (maxDischargeDepth := 40) only [↓good_mk, ↓good_fold, ↓good_ite, ↓good_next, ↓goodO_ite, ↓good_foldl, ↓good_forEach, ↓good_setAg, ↓good_releaseAhead, h, ite_self])
  all_goals (try grind [good_setAg, good_releaseAhead, good_mk, good_fold, good_foldl, good_forEach])

theorem good_pacing {qq ll} {s : State} (h : Good qq ll s) : Good qq ll (State.pacing s) := by
  unfold State.pacing
  try simp +contextual (maxDischargeDepth := 40) only [↓good_mk, ↓good_fold, ↓good_ite, ↓good_next, ↓goodO_ite, ↓good_foldl, ↓good_forEach, ↓good_pacingAg, h, ite_self]
  all_goals (repeat' split)
  all_goals (try simp +contextual (maxDischargeDepth := 40) only [↓good_mk, ↓good_fold, ↓good_ite, ↓good_next, ↓goodO_ite, ↓good_foldl, ↓good_forEach, ↓good_pacingAg, h, ite_self])
  all_goals (try grind [good_pacingAg, good_mk, good_fold, good_foldl, good_forEach])

theorem good_placeApply {qq ll} {s : State} (h : Good qq ll s) : Good qq ll (State.placeApply s) := by
  unfold State.placeApply
  try simp +contextual (maxDischargeDepth := 40) only [↓good_mk, ↓good_fold, ↓good_ite, ↓good_next, ↓goodO_ite, ↓good_foldl, ↓good_forEach, ↓good_setRg, ↓good_setFd, ↓good_incFd, h, ite_self]
  all_goals (repeat' split)
  all_goals (try simp +contextual (maxDischargeDepth := 40) only [↓good_mk, ↓good_fold, ↓good_ite, ↓good_next, ↓goodO_ite, ↓good_foldl, ↓good_forEach, ↓good_setRg, ↓good_setFd, ↓good_incFd, h, ite_self])
  all_goals (try grind [good_setRg, good_setFd, good_incFd, good_mk, good_fold, good_foldl, good_forEach])

theorem good_superWork {qq ll} {s : State} (h : Good qq ll s) : Good qq ll (State.superWork s) := by
  unfold State.superWork
  try simp +contextual (maxDischargeDepth := 40) only [↓good_mk, ↓good_fold, ↓good_ite, ↓good_next, ↓goodO_ite, ↓good_foldl, ↓good_forEach, ↓good_agmapApply, ↓good_adoptSwitch, ↓good_switchDecide, ↓good_switchCommit, ↓good_writeNodeRecords, ↓good_applyResults, ↓good_refTakeover, ↓good_migComplete, ↓good_swapApply, ↓good_placeApply, h, ite_self]
  all_goals (repeat' split)
  all_goals (try simp +contextual (maxDischargeDepth := 40) only [↓good_mk, ↓good_fold, ↓good_ite, ↓good_next, ↓goodO_ite, ↓good_foldl, ↓good_forEach, ↓good_agmapApply, ↓good_adoptSwitch, ↓good_switchDecide, ↓good_switchCommit, ↓good_writeNodeRecords, ↓good_applyResults, ↓good_refTakeover, ↓good_migComplete, ↓good_swapApply, ↓good_placeApply, h, ite_self])
  all_goals (try grind [good_agmapApply, good_adoptSwitch, good_switchDecide, good_switchCommit, good_writeNodeRecords, good_applyResults, good_refTakeover, good_migComplete, good_swapApply, good_placeApply, good_mk, good_fold, good_foldl, good_forEach])

theorem good_snapAg {qq ll} {s : State} (g : Nat) (h : Good qq ll s) : Good qq ll (State.snapAg s g) := by
  unfold State.snapAg
  try simp +contextual (maxDischargeDepth := 40) only [↓good_mk, ↓good_fold, ↓good_ite, ↓good_next, ↓goodO_ite, ↓good_foldl, ↓good_forEach, ↓good_setSram, ↓good_setAg, ↓good_modelCopy, h, ite_self]
  all_goals (repeat' split)
  all_goals (try simp +contextual (maxDischargeDepth := 40) only [↓good_mk, ↓good_fold, ↓good_ite, ↓good_next, ↓goodO_ite, ↓good_foldl, ↓good_forEach, ↓good_setSram, ↓good_setAg, ↓good_modelCopy, h, ite_self])
  all_goals (try grind [good_setSram, good_setAg, good_modelCopy, good_mk, good_fold, good_foldl, good_forEach])

theorem good_snapFails {qq ll} {s : State} (gs : List Nat) (h : Good qq ll s) : Good qq ll (State.snapFails s gs) := by
  unfold State.snapFails
  try simp +contextual (maxDischargeDepth := 40) only [↓good_mk, ↓good_fold, ↓good_ite, ↓good_next, ↓goodO_ite, ↓good_foldl, ↓good_forEach, ↓good_setSram, h, ite_self]
  all_goals (repeat' split)
  all_goals (try simp +contextual (maxDischargeDepth := 40) only [↓good_mk, ↓good_fold, ↓good_ite, ↓good_next, ↓goodO_ite, ↓good_foldl, ↓good_forEach, ↓good_setSram, h, ite_self])
  all_goals (try grind [good_setSram, good_mk, good_fold, good_foldl, good_forEach])

theorem good_snapZone {qq ll} {s : State} (z : Nat) (h : Good qq ll s) : Good qq ll (State.snapZone s z) := by
  unfold State.snapZone
  try simp +contextual (maxDischargeDepth := 40) only [↓good_mk, ↓good_fold, ↓good_ite, ↓good_next, ↓goodO_ite, ↓good_foldl, ↓good_forEach, ↓good_snapFails, h, ite_self]
  all_goals (repeat' split)
  all_goals (try simp +contextual (maxDischargeDepth := 40) only [↓good_mk, ↓good_fold, ↓good_ite, ↓good_next, ↓goodO_ite, ↓good_foldl, ↓good_forEach, ↓good_snapFails, h, ite_self])
  all_goals (try grind [good_snapFails, good_mk, good_fold, good_foldl, good_forEach])

theorem good_snapPerson {qq ll} {s : State} (p : Nat) (h : Good qq ll s) : Good qq ll (State.snapPerson s p) := by
  unfold State.snapPerson
  try simp +contextual (maxDischargeDepth := 40) only [↓good_mk, ↓good_fold, ↓good_ite, ↓good_next, ↓goodO_ite, ↓good_foldl, ↓good_forEach, ↓good_snapFails, h, ite_self]
  all_goals (repeat' split)
  all_goals (try simp +contextual (maxDischargeDepth := 40) only [↓good_mk, ↓good_fold, ↓good_ite, ↓good_next, ↓goodO_ite, ↓good_foldl, ↓good_forEach, ↓good_snapFails, h, ite_self])
  all_goals (try grind [good_snapFails, good_mk, good_fold, good_foldl, good_forEach])

theorem good_shiftStop {qq ll} {s : State} (g : Nat) (h : Good qq ll s) : Good qq ll (State.shiftStop s g) := by
  unfold State.shiftStop
  try simp +contextual (maxDischargeDepth := 40) only [↓good_mk, ↓good_fold, ↓good_ite, ↓good_next, ↓goodO_ite, ↓good_foldl, ↓good_forEach, ↓good_setRg, ↓good_incFd, ↓good_noteRaise, ↓good_journal, ↓good_setAg, h, ite_self]
  all_goals (repeat' split)
  all_goals (try simp +contextual (maxDischargeDepth := 40) only [↓good_mk, ↓good_fold, ↓good_ite, ↓good_next, ↓goodO_ite, ↓good_foldl, ↓good_forEach, ↓good_setRg, ↓good_incFd, ↓good_noteRaise, ↓good_journal, ↓good_setAg, h, ite_self])
  all_goals (try grind [good_setRg, good_incFd, good_noteRaise, good_journal, good_setAg, good_mk, good_fold, good_foldl, good_forEach])

theorem good_planShift {qq ll} {s : State} (r : Nat) (h : Good qq ll s) : Good qq ll (State.planShift s r) := by
  unfold State.planShift
  try simp +contextual (maxDischargeDepth := 40) only [↓good_mk, ↓good_fold, ↓good_ite, ↓good_next, ↓goodO_ite, ↓good_foldl, ↓good_forEach, ↓good_planCounts, ↓good_shiftStop, h, ite_self]
  all_goals (repeat' split)
  all_goals (try simp +contextual (maxDischargeDepth := 40) only [↓good_mk, ↓good_fold, ↓good_ite, ↓good_next, ↓goodO_ite, ↓good_foldl, ↓good_forEach, ↓good_planCounts, ↓good_shiftStop, h, ite_self])
  all_goals (try grind [good_planCounts, good_shiftStop, good_mk, good_fold, good_foldl, good_forEach])

theorem good_planWork {qq ll} {s : State} (h : Good qq ll s) : Good qq ll (State.planWork s) := by
  unfold State.planWork
  repeat' first
    | with_reducible assumption
    | (intro s; refine (show Good qq ll s → _ from fun h => ?_) ?_ <;> [clear_value s; subst s])
    | (intro (x : MemState); subst x)
    | (intro x; clear_value x)
    | lift_lets
    | with_reducible refine good_next.mpr ?_
    | with_reducible refine good_forEach _ _ _ (fun a s h => ?_) ?_
    | split
  all_goals (have hw := good_memWf h)
  all_goals (first
    | (simp +contextual (maxDischargeDepth := 40) only [↓good_mk, ↓good_fold, ↓good_ite, ↓good_next, ↓goodO_ite, ↓good_foldl, ↓good_forEach, ↓good_planDone, ↓good_planAdopt, ↓good_pacing, ↓good_snapAg, ↓good_snapZone, ↓good_snapPerson, ↓good_planShift, h, hw, ite_self, ↓good_memC, memWf_mk, Memory.wf_writeN, Memory.wf_setNum, Memory.wf_splice, Memory.wf_clear, Memory.wf_copy, Memory.wf_nil, and_self]; done)
    | simp +contextual (maxDischargeDepth := 40) only [↓good_mk, ↓good_fold, ↓good_ite, ↓good_next, ↓goodO_ite, ↓good_foldl, ↓good_forEach, ↓good_planDone, ↓good_planAdopt, ↓good_pacing, ↓good_snapAg, ↓good_snapZone, ↓good_snapPerson, ↓good_planShift, ite_self, *, ↓good_memC, memWf_mk, Memory.wf_writeN, Memory.wf_setNum, Memory.wf_splice, Memory.wf_clear, Memory.wf_copy, Memory.wf_nil, and_self])

theorem good_boundaryWork {qq ll} {s : State} (h : Good qq ll s) : Good qq ll (State.boundaryWork s) := by
  unfold State.boundaryWork
  try simp +contextual (maxDischargeDepth := 40) only [↓good_mk, ↓good_fold, ↓good_ite, ↓good_next, ↓goodO_ite, ↓good_foldl, ↓good_forEach, ↓good_planDone, ↓good_superWork, ↓good_planWork, h, ite_self]
  all_goals (repeat' split)
  all_goals (try simp +contextual (maxDischargeDepth := 40) only [↓good_mk, ↓good_fold, ↓good_ite, ↓good_next, ↓goodO_ite, ↓good_foldl, ↓good_forEach, ↓good_planDone, ↓good_superWork, ↓good_planWork, h, ite_self])
  all_goals (try grind [good_planDone, good_superWork, good_planWork, good_mk, good_fold, good_foldl, good_forEach])

theorem good_reach {qq ll} {s t : State} {d p} (h : Good qq ll s) (e : s.reach d p = some t) : Good qq ll t := by
  unfold State.reach at e
  generalize (if s.time.ctLoad.isSome then s.leaveCycle else s).nextBcn = n at e
  split at e
  · cases e
  · split at e
    · cases e
      exact h
    · split at e
      · cases e
        exact good_enterCycle h
      · cases e

theorem good_execSuperCycleBoundary {qq ll} {s : State} (h : Good qq ll s) : GoodO qq ll (execSuperCycleBoundary s) := by
  unfold execSuperCycleBoundary
  split
  · have h := good_reach h (by assumption)
    simp +contextual (maxDischargeDepth := 40) only [↓good_mk, ↓good_fold, ↓good_ite, ↓good_next, ↓goodO_ite, ↓good_foldl, ↓good_forEach, ↓good_boundaryWork, h, ite_self]
  · exact h

theorem good_execPlanCycleStart {qq ll} {s : State} (h : Good qq ll s) : GoodO qq ll (execPlanCycleStart s) := by
  unfold execPlanCycleStart
  split
  · have h := good_reach h (by assumption)
    simp +contextual (maxDischargeDepth := 40) only [↓good_mk, ↓good_fold, ↓good_ite, ↓good_next, ↓goodO_ite, ↓good_foldl, ↓good_forEach, ↓good_planDone, ↓good_boundaryWork, h, ite_self]
  · exact h

theorem good_chainWords {qq ll} {s : State} (h : Good qq ll s) : Good qq ll (State.chainWords s) := by
  unfold State.chainWords
  try simp +contextual (maxDischargeDepth := 40) only [↓good_mk, ↓good_fold, ↓good_ite, ↓good_next, ↓goodO_ite, ↓good_foldl, ↓good_forEach, h, ite_self]
  all_goals (repeat' split)
  all_goals (try simp +contextual (maxDischargeDepth := 40) only [↓good_mk, ↓good_fold, ↓good_ite, ↓good_next, ↓goodO_ite, ↓good_foldl, ↓good_forEach, h, ite_self])
  all_goals (try grind [good_mk, good_fold, good_foldl, good_forEach])

theorem good_startWork {qq ll} {s : State} (h : Good qq ll s) : Good qq ll (State.startWork s) := by
  unfold State.startWork
  try simp +contextual (maxDischargeDepth := 40) only [↓good_mk, ↓good_fold, ↓good_ite, ↓good_next, ↓goodO_ite, ↓good_foldl, ↓good_forEach, ↓good_klCycle, ↓good_fbCycles, ↓good_takePoint, ↓good_boundaryWork, ↓good_chainWords, h, ite_self]
  all_goals (repeat' split)
  all_goals (try simp +contextual (maxDischargeDepth := 40) only [↓good_mk, ↓good_fold, ↓good_ite, ↓good_next, ↓goodO_ite, ↓good_foldl, ↓good_forEach, ↓good_klCycle, ↓good_fbCycles, ↓good_takePoint, ↓good_boundaryWork, ↓good_chainWords, h, ite_self])
  all_goals (try grind [good_klCycle, good_fbCycles, good_takePoint, good_boundaryWork, good_chainWords, good_mk, good_fold, good_foldl, good_forEach])

theorem good_execBaseCycleStart {qq ll} {s : State} (h : Good qq ll s) : GoodO qq ll (execBaseCycleStart s) := by
  unfold execBaseCycleStart
  split
  · have h := good_reach h (by assumption)
    simp +contextual (maxDischargeDepth := 40) only [↓good_mk, ↓good_fold, ↓good_ite, ↓good_next, ↓goodO_ite, ↓good_foldl, ↓good_forEach, ↓good_startWork, h, ite_self]
  · exact h

theorem good_writeTimCycle {qq ll} {s : State} (q : Requester) (v : Word) (h : Good qq ll s) : Good qq ll (writeTimCycle q v s) := by
  unfold writeTimCycle
  try simp +contextual (maxDischargeDepth := 40) only [↓good_mk, ↓good_fold, ↓good_ite, ↓good_next, ↓goodO_ite, ↓good_foldl, ↓good_forEach, ↓good_refuse, ↓good_plainWrite, h, ite_self]
  all_goals (repeat' split)
  all_goals (try simp +contextual (maxDischargeDepth := 40) only [↓good_mk, ↓good_fold, ↓good_ite, ↓good_next, ↓goodO_ite, ↓good_foldl, ↓good_forEach, ↓good_refuse, ↓good_plainWrite, h, ite_self])
  all_goals (try grind [good_refuse, good_plainWrite, good_mk, good_fold, good_foldl, good_forEach])

theorem good_execTimCycleWrite {qq ll} {s : State} (q : Requester) (v : Word) (h : Good qq ll s) : GoodO qq ll (execTimCycleWrite q v s) := by
  unfold execTimCycleWrite
  exact good_write _ _ _ _ _ (fun _ h => good_writeTimCycle _ _ h) h

theorem good_writePlaceCmd {qq ll} {s : State} (q : Requester) (v : Word) (h : Good qq ll s) : Good qq ll (writePlaceCmd q v s) := by
  unfold writePlaceCmd
  try simp +contextual (maxDischargeDepth := 40) only [↓good_mk, ↓good_fold, ↓good_ite, ↓good_next, ↓goodO_ite, ↓good_foldl, ↓good_forEach, ↓good_setFd, ↓good_refuse, h, ite_self]
  all_goals (repeat' split)
  all_goals (try simp +contextual (maxDischargeDepth := 40) only [↓good_mk, ↓good_fold, ↓good_ite, ↓good_next, ↓goodO_ite, ↓good_foldl, ↓good_forEach, ↓good_setFd, ↓good_refuse, h, ite_self])
  all_goals (try grind [good_setFd, good_refuse, good_mk, good_fold, good_foldl, good_forEach])

theorem good_execPlaceCommit {qq ll} {s : State} (q : Requester) (v : Word) (h : Good qq ll s) : GoodO qq ll (execPlaceCommit q v s) := by
  unfold execPlaceCommit
  exact good_write _ _ _ _ _ (fun _ h => good_writePlaceCmd _ _ h) h

end Sys2Proof.Machine
end

