-- ==== Sys2Proof/Laws/KeepsLevainCmd.lean ====
section
/-!
SUPPORT. What the operations of Machine/LevainCmd.lean keep.
-/

set_option linter.unusedSimpArgs false
set_option linter.unreachableTactic false
set_option linter.unusedTactic false

namespace Sys2Proof.Machine

theorem good_execTemplateWrite {qq ll} {s : State} (q : Requester) (t : Nat) (w : Nat) (v : Word) (h : Good qq ll s) : GoodO qq ll (execTemplateWrite q t w v s) := by
  unfold execTemplateWrite
  exact good_write _ _ _ _ _ (fun _ h => good_writeTemplate _ _ _ _ h) h

theorem good_execTemplateEnable {qq ll} {s : State} (q : Requester) (t : Nat) (h : Good qq ll s) : GoodO qq ll (execTemplateEnable q t s) := by
  unfold execTemplateEnable
  try simp +contextual (maxDischargeDepth := 40) only [↓good_mk, ↓good_fold, ↓good_ite, ↓good_next, ↓goodO_ite, ↓good_foldl, ↓good_forEach, ↓good_writeTplCmd, ↓good_write, h, ite_self]
  all_goals (repeat' split)
  all_goals (try simp +contextual (maxDischargeDepth := 40) only [↓good_mk, ↓good_fold, ↓good_ite, ↓good_next, ↓goodO_ite, ↓good_foldl, ↓good_forEach, ↓good_writeTplCmd, ↓good_write, h, ite_self])
  all_goals (try grind [good_writeTplCmd, good_write, good_mk, good_fold, good_foldl, good_forEach])

theorem good_execTemplateDisable {qq ll} {s : State} (q : Requester) (t : Nat) (h : Good qq ll s) : GoodO qq ll (execTemplateDisable q t s) := by
  unfold execTemplateDisable
  try simp +contextual (maxDischargeDepth := 40) only [↓good_mk, ↓good_fold, ↓good_ite, ↓good_next, ↓goodO_ite, ↓good_foldl, ↓good_forEach, ↓good_writeTplCmd, ↓good_write, h, ite_self]
  all_goals (repeat' split)
  all_goals (try simp +contextual (maxDischargeDepth := 40) only [↓good_mk, ↓good_fold, ↓good_ite, ↓good_next, ↓goodO_ite, ↓good_foldl, ↓good_forEach, ↓good_writeTplCmd, ↓good_write, h, ite_self])
  all_goals (try grind [good_writeTplCmd, good_write, good_mk, good_fold, good_foldl, good_forEach])

theorem good_execTemplatePurge {qq ll} {s : State} (q : Requester) (t : Nat) (h : Good qq ll s) : GoodO qq ll (execTemplatePurge q t s) := by
  unfold execTemplatePurge
  try simp +contextual (maxDischargeDepth := 40) only [↓good_mk, ↓good_fold, ↓good_ite, ↓good_next, ↓goodO_ite, ↓good_foldl, ↓good_forEach, ↓good_writeTplCmd, ↓good_write, h, ite_self]
  all_goals (repeat' split)
  all_goals (try simp +contextual (maxDischargeDepth := 40) only [↓good_mk, ↓good_fold, ↓good_ite, ↓good_next, ↓goodO_ite, ↓good_foldl, ↓good_forEach, ↓good_writeTplCmd, ↓good_write, h, ite_self])
  all_goals (try grind [good_writeTplCmd, good_write, good_mk, good_fold, good_foldl, good_forEach])

theorem good_execFlowWrite {qq ll} {s : State} (q : Requester) (f : Nat) (w : Nat) (v : Word) (h : Good qq ll s) : GoodO qq ll (execFlowWrite q f w v s) := by
  unfold execFlowWrite
  exact good_write _ _ _ _ _ (fun _ h => good_writeFlow _ _ _ _ h) h

theorem good_execFlowRelease {qq ll} {s : State} (q : Requester) (f : Nat) (h : Good qq ll s) : GoodO qq ll (execFlowRelease q f s) := by
  unfold execFlowRelease
  try simp +contextual (maxDischargeDepth := 40) only [↓good_mk, ↓good_fold, ↓good_ite, ↓good_next, ↓goodO_ite, ↓good_foldl, ↓good_forEach, ↓good_writeFlowCmd, ↓good_write, h, ite_self]
  all_goals (repeat' split)
  all_goals (try simp +contextual (maxDischargeDepth := 40) only [↓good_mk, ↓good_fold, ↓good_ite, ↓good_next, ↓goodO_ite, ↓good_foldl, ↓good_forEach, ↓good_writeFlowCmd, ↓good_write, h, ite_self])
  all_goals (try grind [good_writeFlowCmd, good_write, good_mk, good_fold, good_foldl, good_forEach])

theorem good_execFlowPurge {qq ll} {s : State} (q : Requester) (f : Nat) (h : Good qq ll s) : GoodO qq ll (execFlowPurge q f s) := by
  unfold execFlowPurge
  try simp +contextual (maxDischargeDepth := 40) only [↓good_mk, ↓good_fold, ↓good_ite, ↓good_next, ↓goodO_ite, ↓good_foldl, ↓good_forEach, ↓good_writeFlowCmd, ↓good_write, h, ite_self]
  all_goals (repeat' split)
  all_goals (try simp +contextual (maxDischargeDepth := 40) only [↓good_mk, ↓good_fold, ↓good_ite, ↓good_next, ↓goodO_ite, ↓good_foldl, ↓good_forEach, ↓good_writeFlowCmd, ↓good_write, h, ite_self])
  all_goals (try grind [good_writeFlowCmd, good_write, good_mk, good_fold, good_foldl, good_forEach])

theorem good_execTickEnable {qq ll} {s : State} (q : Requester) (k : Nat) (v : Word) (h : Good qq ll s) : GoodO qq ll (execTickEnable q k v s) := by
  unfold execTickEnable
  exact good_write _ _ _ _ _ (fun _ h => good_writeTickOfs _ _ _ h) h

end Sys2Proof.Machine
end

