-- ==== Sys2Proof/Laws/KeepsTraffic.lean ====
section
/-!
SUPPORT. What the operations of Machine/Traffic.lean keep.
-/

set_option linter.unusedSimpArgs false
set_option linter.unreachableTactic false
set_option linter.unusedTactic false

namespace Sys2Proof.Machine

theorem good_uplinkAccept {qq ll} {s : State} (p : Nat) (e : SchedEntry) (rec_ : List Byte) (h : Good qq ll s) : Good qq ll (State.uplinkAccept s p e rec_) := by
  unfold State.uplinkAccept
  repeat' first
    | with_reducible assumption
    | (intro s; refine (show Good qq ll s → _ from fun h => ?_) ?_ <;> [clear_value s; subst s])
    | (intro (x : MemState); subst x)
    | (intro x; clear_value x)
    | lift_lets
    | with_reducible refine good_next.mpr ?_
    | with_reducible refine good_forEach _ _ _ (fun a s h => ?_) ?_
    | split
  all_goals (have hw := good_memWf h)
  all_goals (first
    | (simp +contextual (maxDischargeDepth := 40) only [↓good_mk, ↓good_fold, ↓good_ite, ↓good_next, ↓goodO_ite, ↓good_foldl, ↓good_forEach, ↓good_sramWrite, ↓good_hwToken, ↓good_setNode, ↓good_klCount, ↓good_noteAck, ↓good_nodeLost, ↓good_noteHit, ↓good_inputsShown, ↓good_takeContainer, h, hw, ite_self, ↓good_memC, memWf_mk, Memory.wf_writeN, Memory.wf_setNum, Memory.wf_splice, Memory.wf_clear, Memory.wf_copy, Memory.wf_nil, and_self]; done)
    | simp +contextual (maxDischargeDepth := 40) only [↓good_mk, ↓good_fold, ↓good_ite, ↓good_next, ↓goodO_ite, ↓good_foldl, ↓good_forEach, ↓good_sramWrite, ↓good_hwToken, ↓good_setNode, ↓good_klCount, ↓good_noteAck, ↓good_nodeLost, ↓good_noteHit, ↓good_inputsShown, ↓good_takeContainer, ite_self, *, ↓good_memC, memWf_mk, Memory.wf_writeN, Memory.wf_setNum, Memory.wf_splice, Memory.wf_clear, Memory.wf_copy, Memory.wf_nil, and_self])

theorem good_execUplinkReceive {qq ll} {s : State} (p : Nat) (stamp : Nat) (fcsOk : Bool) (bs : List Byte) (h : Good qq ll s) : GoodO qq ll (execUplinkReceive p stamp fcsOk bs s) := by
  unfold execUplinkReceive
  try simp +contextual (maxDischargeDepth := 40) only [↓good_mk, ↓good_fold, ↓good_ite, ↓good_next, ↓goodO_ite, ↓good_foldl, ↓good_forEach, ↓good_setFd, ↓good_advanceTo, ↓good_setNode, ↓good_klCount, ↓good_klDiscard, ↓good_uplinkAccept, h, ite_self]
  all_goals (repeat' split)
  all_goals (try simp +contextual (maxDischargeDepth := 40) only [↓good_mk, ↓good_fold, ↓good_ite, ↓good_next, ↓goodO_ite, ↓good_foldl, ↓good_forEach, ↓good_setFd, ↓good_advanceTo, ↓good_setNode, ↓good_klCount, ↓good_klDiscard, ↓good_uplinkAccept, h, ite_self])
  all_goals (try grind [good_setFd, good_advanceTo, good_setNode, good_klCount, good_klDiscard, good_uplinkAccept, good_mk, good_fold, good_foldl, good_forEach])

end Sys2Proof.Machine
end

