-- ==== Sys2Proof/Laws/KeepsEthernet.lean ====
section
/-!
SUPPORT. What the operations of Machine/Ethernet.lean keep.
-/

set_option linter.unusedSimpArgs false
set_option linter.unreachableTactic false
set_option linter.unusedTactic false

namespace Sys2Proof.Machine

theorem good_txDone {qq ll} {s : State} (p : Nat) (q : Nat) (status : Nat) (stamp : Option Nat) (h : Good qq ll s) : Good qq ll (State.txDone s p q status stamp) := by
  unfold State.txDone
  try simp +contextual (maxDischargeDepth := 40) only [↓good_mk, ↓good_fold, ↓good_ite, ↓good_next, ↓goodO_ite, ↓good_foldl, ↓good_forEach, ↓good_setFd, ↓good_vectorEvent, ↓good_setSram, h, ite_self]
  all_goals (repeat' split)
  all_goals (try simp +contextual (maxDischargeDepth := 40) only [↓good_mk, ↓good_fold, ↓good_ite, ↓good_next, ↓goodO_ite, ↓good_foldl, ↓good_forEach, ↓good_setFd, ↓good_vectorEvent, ↓good_setSram, h, ite_self])
  all_goals (try grind [good_setFd, good_vectorEvent, good_setSram, good_mk, good_fold, good_foldl, good_forEach])

theorem good_txSend {qq ll} {s : State} (p : Nat) (q : Nat) (status : Nat) (h : Good qq ll s) : Good qq ll (State.txSend s p q status) := by
  unfold State.txSend
  try simp +contextual (maxDischargeDepth := 40) only [↓good_mk, ↓good_fold, ↓good_ite, ↓good_next, ↓goodO_ite, ↓good_foldl, ↓good_forEach, ↓good_captureAll, ↓good_txDone, h, ite_self]
  all_goals (repeat' split)
  all_goals (try simp +contextual (maxDischargeDepth := 40) only [↓good_mk, ↓good_fold, ↓good_ite, ↓good_next, ↓goodO_ite, ↓good_foldl, ↓good_forEach, ↓good_captureAll, ↓good_txDone, h, ite_self])
  all_goals (try grind [good_captureAll, good_txDone, good_mk, good_fold, good_foldl, good_forEach])

theorem good_txLate {qq ll} {s : State} (p : Nat) (q : Nat) (h : Good qq ll s) : Good qq ll (State.txLate s p q) := by
  unfold State.txLate
  try simp +contextual (maxDischargeDepth := 40) only [↓good_mk, ↓good_fold, ↓good_ite, ↓good_next, ↓goodO_ite, ↓good_foldl, ↓good_forEach, ↓good_incFd, ↓good_advanceToTick, ↓good_txDone, ↓good_txSend, h, ite_self]
  all_goals (repeat' split)
  all_goals (try simp +contextual (maxDischargeDepth := 40) only [↓good_mk, ↓good_fold, ↓good_ite, ↓good_next, ↓goodO_ite, ↓good_foldl, ↓good_forEach, ↓good_incFd, ↓good_advanceToTick, ↓good_txDone, ↓good_txSend, h, ite_self])
  all_goals (try grind [good_incFd, good_advanceToTick, good_txDone, good_txSend, good_mk, good_fold, good_foldl, good_forEach])

theorem good_execHeTxHead {qq ll} {s : State} (p : Nat) (q : Nat) (h : Good qq ll s) : GoodO qq ll (execHeTxHead p q s) := by
  unfold execHeTxHead
  try simp +contextual (maxDischargeDepth := 40) only [↓good_mk, ↓good_fold, ↓good_ite, ↓good_next, ↓goodO_ite, ↓good_foldl, ↓good_forEach, ↓good_advanceToTick, ↓good_txDone, ↓good_txSend, ↓good_txLate, h, ite_self]
  all_goals (repeat' split)
  all_goals (try simp +contextual (maxDischargeDepth := 40) only [↓good_mk, ↓good_fold, ↓good_ite, ↓good_next, ↓goodO_ite, ↓good_foldl, ↓good_forEach, ↓good_advanceToTick, ↓good_txDone, ↓good_txSend, ↓good_txLate, h, ite_self])
  all_goals (try grind [good_advanceToTick, good_txDone, good_txSend, good_txLate, good_mk, good_fold, good_foldl, good_forEach])

theorem good_ptJumped {qq ll} {s : State} (h : Good qq ll s) : Good qq ll (State.ptJumped s) := by
  unfold State.ptJumped
  try simp +contextual (maxDischargeDepth := 40) only [↓good_mk, ↓good_fold, ↓good_ite, ↓good_next, ↓goodO_ite, ↓good_foldl, ↓good_forEach, ↓good_advance, h, ite_self]
  all_goals (repeat' split)
  all_goals (try simp +contextual (maxDischargeDepth := 40) only [↓good_mk, ↓good_fold, ↓good_ite, ↓good_next, ↓goodO_ite, ↓good_foldl, ↓good_forEach, ↓good_advance, h, ite_self])
  all_goals (try grind [good_advance, good_mk, good_fold, good_foldl, good_forEach])

theorem good_execHeTxLaunch {qq ll} {s : State} (p : Nat) (q : Nat) (h : Good qq ll s) : GoodO qq ll (execHeTxLaunch p q s) := by
  unfold execHeTxLaunch
  try simp +contextual (maxDischargeDepth := 40) only [↓good_mk, ↓good_fold, ↓good_ite, ↓good_next, ↓goodO_ite, ↓good_foldl, ↓good_forEach, ↓good_incFd, ↓good_advance, ↓good_advanceToTick, ↓good_txDone, ↓good_txSend, ↓good_txLate, ↓good_ptJumped, h, ite_self]
  all_goals (repeat' split)
  all_goals (try simp +contextual (maxDischargeDepth := 40) only [↓good_mk, ↓good_fold, ↓good_ite, ↓good_next, ↓goodO_ite, ↓good_foldl, ↓good_forEach, ↓good_incFd, ↓good_advance, ↓good_advanceToTick, ↓good_txDone, ↓good_txSend, ↓good_txLate, ↓good_ptJumped, h, ite_self])
  all_goals (try grind [good_incFd, good_advance, good_advanceToTick, good_txDone, good_txSend, good_txLate, good_ptJumped, good_mk, good_fold, good_foldl, good_forEach])

theorem good_rxDone {qq ll} {s : State} (p : Nat) (r : Nat) (status : Nat) (len : Nat) (stamp : Nat) (h : Good qq ll s) : Good qq ll (State.rxDone s p r status len stamp) := by
  unfold State.rxDone
  try simp +contextual (maxDischargeDepth := 40) only [↓good_mk, ↓good_fold, ↓good_ite, ↓good_next, ↓goodO_ite, ↓good_foldl, ↓good_forEach, ↓good_setFd, ↓good_vectorEvent, ↓good_setSram, h, ite_self]
  all_goals (repeat' split)
  all_goals (try simp +contextual (maxDischargeDepth := 40) only [↓good_mk, ↓good_fold, ↓good_ite, ↓good_next, ↓goodO_ite, ↓good_foldl, ↓good_forEach, ↓good_setFd, ↓good_vectorEvent, ↓good_setSram, h, ite_self])
  all_goals (try grind [good_setFd, good_vectorEvent, good_setSram, good_mk, good_fold, good_foldl, good_forEach])

theorem good_execHeRxFrame {qq ll} {s : State} (p : Nat) (b : List Byte) (fcsOk : Bool) (dt : Nat) (h : Good qq ll s) : GoodO qq ll (execHeRxFrame p b fcsOk dt s) := by
  unfold execHeRxFrame
  try simp +contextual (maxDischargeDepth := 40) only [↓good_mk, ↓good_fold, ↓good_ite, ↓good_next, ↓goodO_ite, ↓good_foldl, ↓good_forEach, ↓good_incFd, ↓good_sramWrite, ↓good_advance, ↓good_captureAll, ↓good_rxDone, h, ite_self]
  all_goals (repeat' split)
  all_goals (try simp +contextual (maxDischargeDepth := 40) only [↓good_mk, ↓good_fold, ↓good_ite, ↓good_next, ↓goodO_ite, ↓good_foldl, ↓good_forEach, ↓good_incFd, ↓good_sramWrite, ↓good_advance, ↓good_captureAll, ↓good_rxDone, h, ite_self])
  all_goals (try grind [good_incFd, good_sramWrite, good_advance, good_captureAll, good_rxDone, good_mk, good_fold, good_foldl, good_forEach])

theorem good_writeHeCtl {qq ll} {s : State} (q : Requester) (p : Nat) (v : Word) (h : Good qq ll s) : Good qq ll (writeHeCtl q p v s) := by
  unfold writeHeCtl
  try simp +contextual (maxDischargeDepth := 40) only [↓good_mk, ↓good_fold, ↓good_ite, ↓good_next, ↓goodO_ite, ↓good_foldl, ↓good_forEach, ↓good_setFd, ↓good_refuse, ↓good_plainWrite, h, ite_self]
  all_goals (repeat' split)
  all_goals (try simp +contextual (maxDischargeDepth := 40) only [↓good_mk, ↓good_fold, ↓good_ite, ↓good_next, ↓goodO_ite, ↓good_foldl, ↓good_forEach, ↓good_setFd, ↓good_refuse, ↓good_plainWrite, h, ite_self])
  all_goals (try grind [good_setFd, good_refuse, good_plainWrite, good_mk, good_fold, good_foldl, good_forEach])

theorem good_writeHeMac {qq ll} {s : State} (q : Requester) (p : Nat) (v : Word) (h : Good qq ll s) : Good qq ll (writeHeMac q p v s) := by
  unfold writeHeMac
  try simp +contextual (maxDischargeDepth := 40) only [↓good_mk, ↓good_fold, ↓good_ite, ↓good_next, ↓goodO_ite, ↓good_foldl, ↓good_forEach, ↓good_setRg64, ↓good_takeLo, h, ite_self]
  all_goals (repeat' split)
  all_goals (try simp +contextual (maxDischargeDepth := 40) only [↓good_mk, ↓good_fold, ↓good_ite, ↓good_next, ↓goodO_ite, ↓good_foldl, ↓good_forEach, ↓good_setRg64, ↓good_takeLo, h, ite_self])
  all_goals (try grind [good_setRg64, good_takeLo, good_mk, good_fold, good_foldl, good_forEach])

theorem good_writeHeBase {qq ll} {s : State} (q : Requester) (r : Reg) (p : Nat) (k : Nat) (v : Word) (h : Good qq ll s) : Good qq ll (writeHeBase q r p k v s) := by
  unfold writeHeBase
  try simp +contextual (maxDischargeDepth := 40) only [↓good_mk, ↓good_fold, ↓good_ite, ↓good_next, ↓goodO_ite, ↓good_foldl, ↓good_forEach, ↓good_refuse, ↓good_plainWrite, h, ite_self]
  all_goals (repeat' split)
  all_goals (try simp +contextual (maxDischargeDepth := 40) only [↓good_mk, ↓good_fold, ↓good_ite, ↓good_next, ↓goodO_ite, ↓good_foldl, ↓good_forEach, ↓good_refuse, ↓good_plainWrite, h, ite_self])
  all_goals (try grind [good_refuse, good_plainWrite, good_mk, good_fold, good_foldl, good_forEach])

end Sys2Proof.Machine
end

