-- ==== Sys2Proof/Laws/KeepsHostPort.lean ====
section
/-!
SUPPORT. What the operations of Machine/HostPort.lean keep.
-/

set_option linter.unusedSimpArgs false
set_option linter.unreachableTactic false
set_option linter.unusedTactic false

namespace Sys2Proof.Machine

theorem good_writeMbxData {qq ll} {s : State} (q : Requester) (v : Word) (h : Good qq ll s) : Good qq ll (writeMbxData q v s) := by
  unfold writeMbxData
  try simp +contextual (maxDischargeDepth := 40) only [↓good_mk, ↓good_fold, ↓good_ite, ↓good_next, ↓goodO_ite, ↓good_foldl, ↓good_forEach, ↓good_setFd, ↓good_deposit, h, ite_self]
  all_goals (repeat' split)
  all_goals (try simp +contextual (maxDischargeDepth := 40) only [↓good_mk, ↓good_fold, ↓good_ite, ↓good_next, ↓goodO_ite, ↓good_foldl, ↓good_forEach, ↓good_setFd, ↓good_deposit, h, ite_self])
  all_goals (try grind [good_setFd, good_deposit, good_mk, good_fold, good_foldl, good_forEach])

theorem good_execMailboxDeposit {qq ll} {s : State} (q : Requester) (v : Word) (h : Good qq ll s) : GoodO qq ll (execMailboxDeposit q v s) := by
  unfold execMailboxDeposit
  exact good_write _ _ _ _ _ (fun _ h => good_writeMbxData _ _ h) h

theorem good_writeDoorbell {qq ll} {s : State} (v : Word) (h : Good qq ll s) : Good qq ll (writeDoorbell v s) := by
  unfold writeDoorbell
  try simp +contextual (maxDischargeDepth := 40) only [↓good_mk, ↓good_fold, ↓good_ite, ↓good_next, ↓goodO_ite, ↓good_foldl, ↓good_forEach, ↓good_pendVector, h, ite_self]
  all_goals (repeat' split)
  all_goals (try simp +contextual (maxDischargeDepth := 40) only [↓good_mk, ↓good_fold, ↓good_ite, ↓good_next, ↓goodO_ite, ↓good_foldl, ↓good_forEach, ↓good_pendVector, h, ite_self])
  all_goals (try grind [good_pendVector, good_mk, good_fold, good_foldl, good_forEach])

theorem good_writeVpend {qq ll} {s : State} (r : Reg) (v : Word) (h : Good qq ll s) : Good qq ll (writeVpend r v s) := by
  unfold writeVpend
  try simp +contextual (maxDischargeDepth := 40) only [↓good_mk, ↓good_fold, ↓good_ite, ↓good_next, ↓goodO_ite, ↓good_foldl, ↓good_forEach, ↓good_clearWrite, h, ite_self]
  all_goals (repeat' split)
  all_goals (try simp +contextual (maxDischargeDepth := 40) only [↓good_mk, ↓good_fold, ↓good_ite, ↓good_next, ↓goodO_ite, ↓good_foldl, ↓good_forEach, ↓good_clearWrite, h, ite_self])
  all_goals (try grind [good_clearWrite, good_mk, good_fold, good_foldl, good_forEach])

theorem good_execDoorbell {qq ll} {s : State} (q : Requester) (v : Word) (h : Good qq ll s) : GoodO qq ll (execDoorbell q v s) := by
  unfold execDoorbell
  exact good_write _ _ _ _ _ (fun _ h => good_writeDoorbell _ h) h

theorem good_writeVec {qq ll} {s : State} (q : Requester) (k : Nat) (v : Word) (h : Good qq ll s) : Good qq ll (writeVec q k v s) := by
  unfold writeVec
  try simp +contextual (maxDischargeDepth := 40) only [↓good_mk, ↓good_fold, ↓good_ite, ↓good_next, ↓goodO_ite, ↓good_foldl, ↓good_forEach, ↓good_refuse, ↓good_plainWrite, h, ite_self]
  all_goals (repeat' split)
  all_goals (try simp +contextual (maxDischargeDepth := 40) only [↓good_mk, ↓good_fold, ↓good_ite, ↓good_next, ↓goodO_ite, ↓good_foldl, ↓good_forEach, ↓good_refuse, ↓good_plainWrite, h, ite_self])
  all_goals (try grind [good_refuse, good_plainWrite, good_mk, good_fold, good_foldl, good_forEach])

theorem good_execFunctionLevelReset {qq ll} {s : State} (h : Good qq ll s) : GoodO qq ll (execFunctionLevelReset s) := by
  unfold execFunctionLevelReset
  try simp +contextual (maxDischargeDepth := 40) only [↓good_mk, ↓good_fold, ↓good_ite, ↓good_next, ↓goodO_ite, ↓good_foldl, ↓good_forEach, ↓good_resetRegs, h, ite_self]
  all_goals (repeat' split)
  all_goals (try simp +contextual (maxDischargeDepth := 40) only [↓good_mk, ↓good_fold, ↓good_ite, ↓good_next, ↓goodO_ite, ↓good_foldl, ↓good_forEach, ↓good_resetRegs, h, ite_self])
  all_goals (try grind [good_resetRegs, good_mk, good_fold, good_foldl, good_forEach])

theorem good_execBar2Access {qq ll} {s : State} (write : Bool) (off : Nat) (len : Nat) (data : List Byte) (h : Good qq ll s) : GoodO qq ll (execBar2Access write off len data s) := by
  unfold execBar2Access
  try simp +contextual (maxDischargeDepth := 40) only [↓good_mk, ↓good_fold, ↓good_ite, ↓good_next, ↓goodO_ite, ↓good_foldl, ↓good_forEach, ↓good_sramWrite, ↓good_write, h, ite_self]
  all_goals (repeat' split)
  all_goals (try simp +contextual (maxDischargeDepth := 40) only [↓good_mk, ↓good_fold, ↓good_ite, ↓good_next, ↓goodO_ite, ↓good_foldl, ↓good_forEach, ↓good_sramWrite, ↓good_write, h, ite_self])
  all_goals (try grind [good_sramWrite, good_write, good_mk, good_fold, good_foldl, good_forEach])

theorem good_setBoot {qq ll} {s : State} (st : Nat) (h : Good qq ll s) : Good qq ll (State.setBoot s st) := by
  unfold State.setBoot
  try simp +contextual (maxDischargeDepth := 40) only [↓good_mk, ↓good_fold, ↓good_ite, ↓good_next, ↓goodO_ite, ↓good_foldl, ↓good_forEach, ↓good_setFd, ↓good_vectorEvent, h, ite_self]
  all_goals (repeat' split)
  all_goals (try simp +contextual (maxDischargeDepth := 40) only [↓good_mk, ↓good_fold, ↓good_ite, ↓good_next, ↓goodO_ite, ↓good_foldl, ↓good_forEach, ↓good_setFd, ↓good_vectorEvent, h, ite_self])
  all_goals (try grind [good_setFd, good_vectorEvent, good_mk, good_fold, good_foldl, good_forEach])

theorem good_writeImgParam {qq ll} {s : State} (q : Requester) (r : Reg) (v : Word) (h : Good qq ll s) : Good qq ll (writeImgParam q r v s) := by
  unfold writeImgParam
  try simp +contextual (maxDischargeDepth := 40) only [↓good_mk, ↓good_fold, ↓good_ite, ↓good_next, ↓goodO_ite, ↓good_foldl, ↓good_forEach, ↓good_setRg, ↓good_refuse, h, ite_self]
  all_goals (repeat' split)
  all_goals (try simp +contextual (maxDischargeDepth := 40) only [↓good_mk, ↓good_fold, ↓good_ite, ↓good_next, ↓goodO_ite, ↓good_foldl, ↓good_forEach, ↓good_setRg, ↓good_refuse, h, ite_self])
  all_goals (try grind [good_setRg, good_refuse, good_mk, good_fold, good_foldl, good_forEach])

theorem good_imgStart {qq ll} {s : State} (op : Nat) (b : Nat) (h : Good qq ll s) : Good qq ll (State.imgStart s op b) := by
  unfold State.imgStart
  try simp +contextual (maxDischargeDepth := 40) only [↓good_mk, ↓good_fold, ↓good_ite, ↓good_next, ↓goodO_ite, ↓good_foldl, ↓good_forEach, ↓good_setFd, h, ite_self]
  all_goals (repeat' split)
  all_goals (try simp +contextual (maxDischargeDepth := 40) only [↓good_mk, ↓good_fold, ↓good_ite, ↓good_next, ↓goodO_ite, ↓good_foldl, ↓good_forEach, ↓good_setFd, h, ite_self])
  all_goals (try grind [good_setFd, good_mk, good_fold, good_foldl, good_forEach])

theorem good_imgOp {qq ll} {s : State} (q : Requester) (op : Nat) (b : Nat) (h : Good qq ll s) : Good qq ll (State.imgOp s q op b) := by
  unfold State.imgOp
  try simp +contextual (maxDischargeDepth := 40) only [↓good_mk, ↓good_fold, ↓good_ite, ↓good_next, ↓goodO_ite, ↓good_foldl, ↓good_forEach, ↓good_setFd, ↓good_refuse, ↓good_imgStart, h, ite_self]
  all_goals (repeat' split)
  all_goals (try simp +contextual (maxDischargeDepth := 40) only [↓good_mk, ↓good_fold, ↓good_ite, ↓good_next, ↓goodO_ite, ↓good_foldl, ↓good_forEach, ↓good_setFd, ↓good_refuse, ↓good_imgStart, h, ite_self])
  all_goals (try grind [good_setFd, good_refuse, good_imgStart, good_mk, good_fold, good_foldl, good_forEach])

theorem good_imgCopy {qq ll} {s : State} (b : Nat) (h : Good qq ll s) : Good qq ll (State.imgCopy s b) := by
  unfold State.imgCopy
  have hw := good_memWf h
  simp +contextual (maxDischargeDepth := 40) only [↓good_mk, ↓good_fold, ↓good_ite, ↓good_next, ↓goodO_ite, ↓good_foldl, ↓good_forEach, h, hw, ↓good_memC, memWf_mk, Memory.wf_writeN, Memory.wf_setNum, Memory.wf_splice, Memory.wf_clear, Memory.wf_copy, Memory.wf_nil, and_self]

theorem good_execImgCommandComplete {qq ll} {s : State} (h : Good qq ll s) : GoodO qq ll (execImgCommandComplete s) := by
  unfold execImgCommandComplete
  try simp +contextual (maxDischargeDepth := 40) only [↓good_mk, ↓good_fold, ↓good_ite, ↓good_next, ↓goodO_ite, ↓good_foldl, ↓good_forEach, ↓good_setFd, ↓good_vectorEvent, ↓good_imgCopy, h, ite_self]
  all_goals (repeat' split)
  all_goals (try simp +contextual (maxDischargeDepth := 40) only [↓good_mk, ↓good_fold, ↓good_ite, ↓good_next, ↓goodO_ite, ↓good_foldl, ↓good_forEach, ↓good_setFd, ↓good_vectorEvent, ↓good_imgCopy, h, ite_self])
  all_goals (try grind [good_setFd, good_vectorEvent, good_imgCopy, good_mk, good_fold, good_foldl, good_forEach])

theorem good_accessEvent {qq ll} {s : State} (was : Nat) (h : Good qq ll s) : Good qq ll (State.accessEvent s was) := by
  unfold State.accessEvent
  try simp +contextual (maxDischargeDepth := 40) only [↓good_mk, ↓good_fold, ↓good_ite, ↓good_next, ↓goodO_ite, ↓good_foldl, ↓good_forEach, ↓good_vectorEvent, h, ite_self]
  all_goals (repeat' split)
  all_goals (try simp +contextual (maxDischargeDepth := 40) only [↓good_mk, ↓good_fold, ↓good_ite, ↓good_next, ↓goodO_ite, ↓good_foldl, ↓good_forEach, ↓good_vectorEvent, h, ite_self])
  all_goals (try grind [good_vectorEvent, good_mk, good_fold, good_foldl, good_forEach])

theorem State.length_lcBytes (s : State) (n : Nat) : (s.lcBytes n).length = 4 * n := by
  unfold State.lcBytes
  induction n with
  | zero => rfl
  | succ n ih =>
    rw [List.range_succ, List.flatMap_append, List.length_append, ih]
    simp [leBytes]
    omega

theorem good_lcSetOwner {qq ll} {s : State} (q : Requester) (h : Good qq ll s) : Good qq ll (State.lcSetOwner s q) := by
  unfold State.lcSetOwner
  split
  · exact good_refuse _ _ _ _ _ h
  · rename_i hs
    have h0 : s.lc.state = 0 := by omega
    exact good_setLc h ⟨le_trans (h0 ▸ h.fwd) (Nat.zero_le 1), Nat.le_succ 1, fun _ => s.length_lcBytes 16,
      fun hn => absurd hn (by decide : ¬ (1 : Nat) = 2), fun _ => h.grant (by omega), h.level⟩

theorem good_lcLock {qq ll} {s : State} (q : Requester) (h : Good qq ll s) : Good qq ll (State.lcLock s q) := by
  unfold State.lcLock
  split
  · exact good_refuse _ _ _ _ _ h
  · rename_i hs
    push Not at hs
    have h1 : Good qq ll s.lockState := good_setLc h ⟨le_trans (hs.1 ▸ h.fwd) (Nat.le_succ 1), le_refl 2,
      fun _ => h.owner (by omega),
      fun _ => Option.isSome_iff_ne_none.mpr hs.2, fun _ => rfl, Nat.zero_le _⟩
    exact good_vectorEvent _ _ (good_resumeAll h1)

theorem good_setChal {qq ll} {s : State} (c : Option Nat) (h : Good qq ll s) : Good qq ll (State.setChal s c) :=
  good_setLc h ⟨h.fwd, h.top, h.owner, h.locked, h.grant, h.level⟩

theorem good_setAuthWait {qq ll} {s : State} (t : Option Nat) (h : Good qq ll s) : Good qq ll (State.setAuthWait s t) :=
  good_setLc h ⟨h.fwd, h.top, h.owner, h.locked, h.grant, h.level⟩

theorem good_lcChallenge {qq ll} {s : State} (h : Good qq ll s) : Good qq ll (State.lcChallenge s) := by
  unfold State.lcChallenge
  try simp +contextual (maxDischargeDepth := 40) only [↓good_mk, ↓good_fold, ↓good_ite, ↓good_next, ↓goodO_ite, ↓good_foldl, ↓good_forEach, ↓good_setRg, ↓good_free, ↓good_setChal, h, ite_self]
  all_goals (repeat' split)
  all_goals (try simp +contextual (maxDischargeDepth := 40) only [↓good_mk, ↓good_fold, ↓good_ite, ↓good_next, ↓goodO_ite, ↓good_foldl, ↓good_forEach, ↓good_setRg, ↓good_free, ↓good_setChal, h, ite_self])
  all_goals (try grind [good_setRg, good_free, good_setChal, good_mk, good_fold, good_foldl, good_forEach])

theorem good_authFail {qq ll} {s : State} (q : Requester) (h : Good qq ll s) : Good qq ll (State.authFail s q) := by
  unfold State.authFail
  try simp +contextual (maxDischargeDepth := 40) only [↓good_mk, ↓good_fold, ↓good_ite, ↓good_next, ↓goodO_ite, ↓good_foldl, ↓good_forEach, ↓good_incFd, ↓good_refuse, ↓good_setAuthWait, h, ite_self]
  all_goals (repeat' split)
  all_goals (try simp +contextual (maxDischargeDepth := 40) only [↓good_mk, ↓good_fold, ↓good_ite, ↓good_next, ↓goodO_ite, ↓good_foldl, ↓good_forEach, ↓good_incFd, ↓good_refuse, ↓good_setAuthWait, h, ite_self])
  all_goals (try grind [good_incFd, good_refuse, good_setAuthWait, good_mk, good_fold, good_foldl, good_forEach])

theorem good_grant {qq ll} {s : State} (level : Nat) (hl : level ≤ 2) (h : Good qq ll s) : Good qq ll (State.grant s level) := by
  unfold State.grant
  split
  · rename_i hs
    exact good_setLc h ⟨h.fwd, h.top, h.owner, h.locked, fun hn => absurd hs hn, Nat.max_le.mpr ⟨h.level, hl⟩⟩
  · exact h

theorem good_authPass {qq ll} {s : State} (level : Nat) (hl : level ≤ 2) (h : Good qq ll s) : Good qq ll (State.authPass s level) := by
  unfold State.authPass
  exact good_accessEvent _ (good_setAuthWait _ (good_grant _ hl (good_setFd _ _ _ _ h)))

theorem good_lcVerify {qq ll} {s : State} (q : Requester) (h : Good qq ll s) : Good qq ll (State.lcVerify s q) := by
  unfold State.lcVerify
  split
  · exact good_refuse _ _ _ _ _ h
  · split
    · exact good_refuse _ _ _ _ _ h
    · dsimp only
      split
      · exact good_authPass _ (by decide) (good_setChal _ h)
      · exact good_authFail _ (good_setChal _ h)

theorem good_lcPassword {qq ll} {s : State} (q : Requester) (h : Good qq ll s) : Good qq ll (State.lcPassword s q) := by
  unfold State.lcPassword
  repeat' split
  · exact good_refuse _ _ _ _ _ h
  · exact good_authPass _ (by decide) h
  · exact good_authFail _ h

theorem good_lcSetPw {qq ll} {s : State} (q : Requester) (h : Good qq ll s) : Good qq ll (State.lcSetPw s q) := by
  unfold State.lcSetPw
  split
  · exact good_refuse _ _ _ _ _ h
  · split
    · exact good_refuse _ _ _ _ _ h
    · exact good_setLc h ⟨h.fwd, h.top, h.owner, fun _ => rfl, h.grant, h.level⟩

theorem good_writeLcCmd {qq ll} {s : State} (q : Requester) (v : Word) (h : Good qq ll s) : Good qq ll (writeLcCmd q v s) := by
  unfold writeLcCmd
  try simp +contextual (maxDischargeDepth := 40) only [↓good_mk, ↓good_fold, ↓good_ite, ↓good_next, ↓goodO_ite, ↓good_foldl, ↓good_forEach, ↓good_refuse, ↓good_endAccess, ↓good_lcSetOwner, ↓good_lcLock, ↓good_lcChallenge, ↓good_lcVerify, ↓good_lcPassword, ↓good_lcSetPw, h, ite_self]
  all_goals (repeat' split)
  all_goals (try simp +contextual (maxDischargeDepth := 40) only [↓good_mk, ↓good_fold, ↓good_ite, ↓good_next, ↓goodO_ite, ↓good_foldl, ↓good_forEach, ↓good_refuse, ↓good_endAccess, ↓good_lcSetOwner, ↓good_lcLock, ↓good_lcChallenge, ↓good_lcVerify, ↓good_lcPassword, ↓good_lcSetPw, h, ite_self])
  all_goals (try grind [good_refuse, good_endAccess, good_lcSetOwner, good_lcLock, good_lcChallenge, good_lcVerify, good_lcPassword, good_lcSetPw, good_mk, good_fold, good_foldl, good_forEach])

theorem good_execSetOwner {qq ll} {s : State} (q : Requester) (h : Good qq ll s) : GoodO qq ll (execSetOwner q s) := by
  unfold execSetOwner
  exact good_write _ _ _ _ _ (fun _ h => good_writeLcCmd _ _ h) h

theorem good_execLock {qq ll} {s : State} (q : Requester) (h : Good qq ll s) : GoodO qq ll (execLock q s) := by
  unfold execLock
  exact good_write _ _ _ _ _ (fun _ h => good_writeLcCmd _ _ h) h

theorem good_execChallenge {qq ll} {s : State} (q : Requester) (h : Good qq ll s) : GoodO qq ll (execChallenge q s) := by
  unfold execChallenge
  exact good_write _ _ _ _ _ (fun _ h => good_writeLcCmd _ _ h) h

theorem good_execLcVerify {qq ll} {s : State} (q : Requester) (h : Good qq ll s) : GoodO qq ll (execLcVerify q s) := by
  unfold execLcVerify
  exact good_write _ _ _ _ _ (fun _ h => good_writeLcCmd _ _ h) h

theorem good_execPassword {qq ll} {s : State} (q : Requester) (h : Good qq ll s) : GoodO qq ll (execPassword q s) := by
  unfold execPassword
  exact good_write _ _ _ _ _ (fun _ h => good_writeLcCmd _ _ h) h

theorem good_execRelock {qq ll} {s : State} (q : Requester) (h : Good qq ll s) : GoodO qq ll (execRelock q s) := by
  unfold execRelock
  exact good_write _ _ _ _ _ (fun _ h => good_writeLcCmd _ _ h) h

theorem good_execSetPw {qq ll} {s : State} (q : Requester) (h : Good qq ll s) : GoodO qq ll (execSetPw q s) := by
  unfold execSetPw
  exact good_write _ _ _ _ _ (fun _ h => good_writeLcCmd _ _ h) h

theorem good_execAccessExpiry {qq ll} {s : State} (h : Good qq ll s) : GoodO qq ll (execAccessExpiry s) := by
  unfold execAccessExpiry
  try simp +contextual (maxDischargeDepth := 40) only [↓good_mk, ↓good_fold, ↓good_ite, ↓good_next, ↓goodO_ite, ↓good_foldl, ↓good_forEach, ↓good_advanceToTick, ↓good_endAccess, h, ite_self]
  all_goals (repeat' split)
  all_goals (try simp +contextual (maxDischargeDepth := 40) only [↓good_mk, ↓good_fold, ↓good_ite, ↓good_next, ↓goodO_ite, ↓good_foldl, ↓good_forEach, ↓good_advanceToTick, ↓good_endAccess, h, ite_self])
  all_goals (try grind [good_advanceToTick, good_endAccess, good_mk, good_fold, good_foldl, good_forEach])

theorem good_execAuthWaitEnd {qq ll} {s : State} (h : Good qq ll s) : GoodO qq ll (execAuthWaitEnd s) := by
  unfold execAuthWaitEnd
  try simp +contextual (maxDischargeDepth := 40) only [↓good_mk, ↓good_fold, ↓good_ite, ↓good_next, ↓goodO_ite, ↓good_foldl, ↓good_forEach, ↓good_advanceToTick, ↓good_setAuthWait, h, ite_self]
  all_goals (repeat' split)
  all_goals (try simp +contextual (maxDischargeDepth := 40) only [↓good_mk, ↓good_fold, ↓good_ite, ↓good_next, ↓goodO_ite, ↓good_foldl, ↓good_forEach, ↓good_advanceToTick, ↓good_setAuthWait, h, ite_self])
  all_goals (try grind [good_advanceToTick, good_setAuthWait, good_mk, good_fold, good_foldl, good_forEach])

end Sys2Proof.Machine
end

