-- ==== Sys2Proof/Laws/KeepsBus.lean ====
section
/-!
SUPPORT. What the operations of Machine/Bus.lean keep.
-/

set_option linter.unusedSimpArgs false
set_option linter.unreachableTactic false
set_option linter.unusedTactic false

namespace Sys2Proof.Machine

theorem good_writeImgOther {qq ll} {s : State} (q : Requester) (v : Word) (h : Good qq ll s) : Good qq ll (writeImgOther q v s) := by
  unfold writeImgOther
  try simp +contextual (maxDischargeDepth := 40) only [↓good_mk, ↓good_fold, ↓good_ite, ↓good_next, ↓goodO_ite, ↓good_foldl, ↓good_forEach, ↓good_refuse, ↓good_imgOp, h, ite_self]
  all_goals (repeat' split)
  all_goals (try simp +contextual (maxDischargeDepth := 40) only [↓good_mk, ↓good_fold, ↓good_ite, ↓good_next, ↓goodO_ite, ↓good_foldl, ↓good_forEach, ↓good_refuse, ↓good_imgOp, h, ite_self])
  all_goals (try grind [good_refuse, good_imgOp, good_mk, good_fold, good_foldl, good_forEach])

theorem good_writeLcData {qq ll} {s : State} (k : Nat) (v : Word) (h : Good qq ll s) : Good qq ll (writeLcData k v s) := by
  unfold writeLcData
  try simp +contextual (maxDischargeDepth := 40) only [↓good_mk, ↓good_fold, ↓good_ite, ↓good_next, ↓goodO_ite, ↓good_foldl, ↓good_forEach, ↓good_setRg, h, ite_self]
  all_goals (repeat' split)
  all_goals (try simp +contextual (maxDischargeDepth := 40) only [↓good_mk, ↓good_fold, ↓good_ite, ↓good_next, ↓goodO_ite, ↓good_foldl, ↓good_forEach, ↓good_setRg, h, ite_self])
  all_goals (try grind [good_setRg, good_mk, good_fold, good_foldl, good_forEach])

theorem good_writeRootReg {qq ll} {s : State} (q : Requester) (r : Reg) (i : Nat) (j : Nat) (v : Word) (h : Good qq ll s) : Good qq ll (writeRootReg q r i j v s) := by
  unfold writeRootReg
  try simp +contextual (maxDischargeDepth := 40) only [↓good_mk, ↓good_fold, ↓good_ite, ↓good_next, ↓goodO_ite, ↓good_foldl, ↓good_forEach, ↓good_plainWrite, ↓good_writeClkRef, ↓good_writeDvfs, ↓good_writeCtSet, ↓good_writePtInc, ↓good_writePtAdj, ↓good_writePtSet, ↓good_writePtCtl, ↓good_writeCapCtl, ↓good_writeCalSet, ↓good_writeCalCtl, ↓good_writeCalTrim, ↓good_writeCalUtc, ↓good_writeModeStat, ↓good_writeSched, ↓good_writeModeSw, ↓good_writePortCtl, ↓good_writeKlGlobal, ↓good_writeGaddr, ↓good_writePortLat, ↓good_writeEvBase, ↓good_writeEvIdx, ↓good_writeTimeCtl, ↓good_writeAgEn, ↓good_writeTimCycle, h, ite_self]
  all_goals (repeat' split)
  all_goals (try simp +contextual (maxDischargeDepth := 40) only [↓good_mk, ↓good_fold, ↓good_ite, ↓good_next, ↓goodO_ite, ↓good_foldl, ↓good_forEach, ↓good_plainWrite, ↓good_writeClkRef, ↓good_writeDvfs, ↓good_writeCtSet, ↓good_writePtInc, ↓good_writePtAdj, ↓good_writePtSet, ↓good_writePtCtl, ↓good_writeCapCtl, ↓good_writeCalSet, ↓good_writeCalCtl, ↓good_writeCalTrim, ↓good_writeCalUtc, ↓good_writeModeStat, ↓good_writeSched, ↓good_writeModeSw, ↓good_writePortCtl, ↓good_writeKlGlobal, ↓good_writeGaddr, ↓good_writePortLat, ↓good_writeEvBase, ↓good_writeEvIdx, ↓good_writeTimeCtl, ↓good_writeAgEn, ↓good_writeTimCycle, h, ite_self])
  all_goals (try grind [good_plainWrite, good_writeClkRef, good_writeDvfs, good_writeCtSet, good_writePtInc, good_writePtAdj, good_writePtSet, good_writePtCtl, good_writeCapCtl, good_writeCalSet, good_writeCalCtl, good_writeCalTrim, good_writeCalUtc, good_writeModeStat, good_writeSched, good_writeModeSw, good_writePortCtl, good_writeKlGlobal, good_writeGaddr, good_writePortLat, good_writeEvBase, good_writeEvIdx, good_writeTimeCtl, good_writeAgEn, good_writeTimCycle, good_mk, good_fold, good_foldl, good_forEach])

theorem good_writeWorkReg {qq ll} {s : State} (q : Requester) (r : Reg) (i : Nat) (j : Nat) (v : Word) (h : Good qq ll s) : Good qq ll (writeWorkReg q r i j v s) := by
  unfold writeWorkReg
  try simp +contextual (maxDischargeDepth := 40) only [↓good_mk, ↓good_fold, ↓good_ite, ↓good_next, ↓goodO_ite, ↓good_foldl, ↓good_forEach, ↓good_writeTemplate, ↓good_writeFlow, ↓good_writeTplCmd, ↓good_writeFlowCmd, ↓good_writeTickOfs, ↓good_plainWrite, ↓good_writeKnCtl, ↓good_writeKnRange, ↓good_writePlanCtl, ↓good_writeAxCmd, ↓good_writeCmpCtl, ↓good_writeCmpPos, ↓good_writeAxCtl, ↓good_writeStepCtl, ↓good_writeFbCfg, ↓good_writeFbParam, ↓good_writeFbCmd, ↓good_writeMbCmd, ↓good_writeMbData, ↓good_writeMbAddr, ↓good_writeMbConfirm, ↓good_writeSoCmd, ↓good_writeSoCtl, ↓good_writeSoParam, ↓good_writeSoGlobal, ↓good_writeSoCh, ↓good_writeVcCtl, h, ite_self]
  all_goals (repeat' split)
  all_goals (try simp +contextual (maxDischargeDepth := 40) only [↓good_mk, ↓good_fold, ↓good_ite, ↓good_next, ↓goodO_ite, ↓good_foldl, ↓good_forEach, ↓good_writeTemplate, ↓good_writeFlow, ↓good_writeTplCmd, ↓good_writeFlowCmd, ↓good_writeTickOfs, ↓good_plainWrite, ↓good_writeKnCtl, ↓good_writeKnRange, ↓good_writePlanCtl, ↓good_writeAxCmd, ↓good_writeCmpCtl, ↓good_writeCmpPos, ↓good_writeAxCtl, ↓good_writeStepCtl, ↓good_writeFbCfg, ↓good_writeFbParam, ↓good_writeFbCmd, ↓good_writeMbCmd, ↓good_writeMbData, ↓good_writeMbAddr, ↓good_writeMbConfirm, ↓good_writeSoCmd, ↓good_writeSoCtl, ↓good_writeSoParam, ↓good_writeSoGlobal, ↓good_writeSoCh, ↓good_writeVcCtl, h, ite_self])
  all_goals (try grind [good_writeTemplate, good_writeFlow, good_writeTplCmd, good_writeFlowCmd, good_writeTickOfs, good_plainWrite, good_writeKnCtl, good_writeKnRange, good_writePlanCtl, good_writeAxCmd, good_writeCmpCtl, good_writeCmpPos, good_writeAxCtl, good_writeStepCtl, good_writeFbCfg, good_writeFbParam, good_writeFbCmd, good_writeMbCmd, good_writeMbData, good_writeMbAddr, good_writeMbConfirm, good_writeSoCmd, good_writeSoCtl, good_writeSoParam, good_writeSoGlobal, good_writeSoCh, good_writeVcCtl, good_mk, good_fold, good_foldl, good_forEach])

theorem good_writeServiceReg {qq ll} {s : State} (q : Requester) (r : Reg) (i : Nat) (j : Nat) (v : Word) (h : Good qq ll s) : Good qq ll (writeServiceReg q r i j v s) := by
  unfold writeServiceReg
  try simp +contextual (maxDischargeDepth := 40) only [↓good_mk, ↓good_fold, ↓good_ite, ↓good_next, ↓goodO_ite, ↓good_foldl, ↓good_forEach, ↓good_plainWrite, ↓good_writeDomCtl, ↓good_writePwMod, ↓good_writePwWake, ↓good_writePwWakeCt, ↓good_writeKeepMask, ↓good_writePwTrim, ↓good_writeKeepCtl, ↓good_writeKeepAdd, ↓good_writeVoltStep, ↓good_writeVoltCtl, ↓good_writeWear, ↓good_writeRetire, ↓good_writeUnretire, ↓good_writeMigCtl, ↓good_writeImgCtl, ↓good_writeJnlSel, ↓good_writeWdogCtl, ↓good_writeWdogKick, ↓good_writeForce, ↓good_writeChCtl, ↓good_writeChRep, ↓good_writePlaceCmd, ↓good_writeHeCtl, ↓good_writeHeMac, ↓good_writeHeBase, ↓good_writeMbxData, ↓good_writeDoorbell, ↓good_writeVpend, ↓good_writeVec, ↓good_writeImgParam, ↓good_writeLcCmd, ↓good_writeImgOther, ↓good_writeLcData, h, ite_self]
  all_goals (repeat' split)
  all_goals (try simp +contextual (maxDischargeDepth := 40) only [↓good_mk, ↓good_fold, ↓good_ite, ↓good_next, ↓goodO_ite, ↓good_foldl, ↓good_forEach, ↓good_plainWrite, ↓good_writeDomCtl, ↓good_writePwMod, ↓good_writePwWake, ↓good_writePwWakeCt, ↓good_writeKeepMask, ↓good_writePwTrim, ↓good_writeKeepCtl, ↓good_writeKeepAdd, ↓good_writeVoltStep, ↓good_writeVoltCtl, ↓good_writeWear, ↓good_writeRetire, ↓good_writeUnretire, ↓good_writeMigCtl, ↓good_writeImgCtl, ↓good_writeJnlSel, ↓good_writeWdogCtl, ↓good_writeWdogKick, ↓good_writeForce, ↓good_writeChCtl, ↓good_writeChRep, ↓good_writePlaceCmd, ↓good_writeHeCtl, ↓good_writeHeMac, ↓good_writeHeBase, ↓good_writeMbxData, ↓good_writeDoorbell, ↓good_writeVpend, ↓good_writeVec, ↓good_writeImgParam, ↓good_writeLcCmd, ↓good_writeImgOther, ↓good_writeLcData, h, ite_self])
  all_goals (try grind [good_plainWrite, good_writeDomCtl, good_writePwMod, good_writePwWake, good_writePwWakeCt, good_writeKeepMask, good_writePwTrim, good_writeKeepCtl, good_writeKeepAdd, good_writeVoltStep, good_writeVoltCtl, good_writeWear, good_writeRetire, good_writeUnretire, good_writeMigCtl, good_writeImgCtl, good_writeJnlSel, good_writeWdogCtl, good_writeWdogKick, good_writeForce, good_writeChCtl, good_writeChRep, good_writePlaceCmd, good_writeHeCtl, good_writeHeMac, good_writeHeBase, good_writeMbxData, good_writeDoorbell, good_writeVpend, good_writeVec, good_writeImgParam, good_writeLcCmd, good_writeImgOther, good_writeLcData, good_mk, good_fold, good_foldl, good_forEach])

theorem good_regWriteInBoot {qq ll} {s : State} (q : Requester) (r : Reg) (i : Nat) (j : Nat) (v : Word) (h : Good qq ll s) : Good qq ll (State.regWriteInBoot s q r i j v) := by
  unfold State.regWriteInBoot
  try simp +contextual (maxDischargeDepth := 40) only [↓good_mk, ↓good_fold, ↓good_ite, ↓good_next, ↓goodO_ite, ↓good_foldl, ↓good_forEach, ↓good_holdLo, ↓good_writeRootReg, ↓good_writeWorkReg, ↓good_writeServiceReg, h, ite_self]
  all_goals (repeat' split)
  all_goals (try simp +contextual (maxDischargeDepth := 40) only [↓good_mk, ↓good_fold, ↓good_ite, ↓good_next, ↓goodO_ite, ↓good_foldl, ↓good_forEach, ↓good_holdLo, ↓good_writeRootReg, ↓good_writeWorkReg, ↓good_writeServiceReg, h, ite_self])
  all_goals (try grind [good_holdLo, good_writeRootReg, good_writeWorkReg, good_writeServiceReg, good_mk, good_fold, good_foldl, good_forEach])

theorem good_busWriteWith {qq ll} {s : State} (act : State → Reg → Nat → Nat → State)
    (ha : ∀ t r i j, Good qq ll t → Good qq ll (act t r i j)) (q : Requester) (off width : Nat) (h : Good qq ll s) :
    Good qq ll (State.busWriteWith act s q off width).1 := by
  unfold State.busWriteWith
  split
  · exact h
  · split
    · exact h
    · split
      · split
        · exact h
        · exact good_badAccess _ _ _ _ h
      · split
        · split
          · exact h
          · exact good_badAccess _ _ _ _ h
        · exact good_guardWrite _ _ _ _ _ (fun t h => ha _ _ _ _ h) h

theorem good_bootWrite {qq ll} {s : State} (off : Nat) (v : Word) (h : Good qq ll s) : Good qq ll (State.bootWrite s off v) := by
  unfold State.bootWrite
  exact good_busWriteWith _ (fun t r i j h => good_regWriteInBoot _ _ _ _ _ h) _ _ _ h

end Sys2Proof.Machine
end

