-- ==== Sys2Proof/Laws/KeepsBoot.lean ====
section
/-!
SUPPORT. What the operations of Machine/Boot.lean keep.
-/

set_option linter.unusedSimpArgs false
set_option linter.unreachableTactic false
set_option linter.unusedTactic false

namespace Sys2Proof.Machine

theorem good_bootFail {qq ll} {s : State} (k : Nat) (h : Good qq ll s) : Good qq ll (State.bootFail s k) := by
  unfold State.bootFail
  try simp +contextual (maxDischargeDepth := 40) only [↓good_mk, ↓good_fold, ↓good_ite, ↓good_next, ↓goodO_ite, ↓good_foldl, ↓good_forEach, ↓good_setFd, ↓good_setBoot, h, ite_self]
  all_goals (repeat' split)
  all_goals (try simp +contextual (maxDischargeDepth := 40) only [↓good_mk, ↓good_fold, ↓good_ite, ↓good_next, ↓goodO_ite, ↓good_foldl, ↓good_forEach, ↓good_setFd, ↓good_setBoot, h, ite_self])
  all_goals (try grind [good_setFd, good_setBoot, good_mk, good_fold, good_foldl, good_forEach])

theorem good_writeIds {qq ll} {s : State} (h : Good qq ll s) : Good qq ll (State.writeIds s) := by
  unfold State.writeIds
  try simp +contextual (maxDischargeDepth := 40) only [↓good_mk, ↓good_fold, ↓good_ite, ↓good_next, ↓goodO_ite, ↓good_foldl, ↓good_forEach, ↓good_setSram, h, ite_self]
  all_goals (repeat' split)
  all_goals (try simp +contextual (maxDischargeDepth := 40) only [↓good_mk, ↓good_fold, ↓good_ite, ↓good_next, ↓goodO_ite, ↓good_foldl, ↓good_forEach, ↓good_setSram, h, ite_self])
  all_goals (try grind [good_setSram, good_mk, good_fold, good_foldl, good_forEach])

theorem good_clearEnded {qq ll} {s : State} (h : Good qq ll s) : Good qq ll (State.clearEnded s) := by
  exact good_setLc h ⟨h.fwd, h.top, h.owner, h.locked, h.grant, h.level⟩

theorem good_bootFinish {qq ll} {s : State} (h : Good qq ll s) : Good qq ll (State.bootFinish s) := by
  unfold State.bootFinish
  try simp +contextual (maxDischargeDepth := 40) only [↓good_mk, ↓good_fold, ↓good_ite, ↓good_next, ↓goodO_ite, ↓good_foldl, ↓good_forEach, ↓good_journal, ↓good_setBoot, ↓good_writeIds, ↓good_clearEnded, h, ite_self]
  all_goals (repeat' split)
  all_goals (try simp +contextual (maxDischargeDepth := 40) only [↓good_mk, ↓good_fold, ↓good_ite, ↓good_next, ↓goodO_ite, ↓good_foldl, ↓good_forEach, ↓good_journal, ↓good_setBoot, ↓good_writeIds, ↓good_clearEnded, h, ite_self])
  all_goals (try grind [good_journal, good_setBoot, good_writeIds, good_clearEnded, good_mk, good_fold, good_foldl, good_forEach])

theorem good_bootRead {qq ll} {s : State} (off : Nat) (h : Good qq ll s) : Good qq ll (State.bootRead s off).2 := by
  unfold State.bootRead
  try simp +contextual (maxDischargeDepth := 40) only [↓good_mk, ↓good_fold, ↓good_ite, ↓good_next, ↓goodO_ite, ↓good_foldl, ↓good_forEach, ↓good_busRead, h, ite_self]
  all_goals (repeat' split)
  all_goals (try simp +contextual (maxDischargeDepth := 40) only [↓good_mk, ↓good_fold, ↓good_ite, ↓good_next, ↓goodO_ite, ↓good_foldl, ↓good_forEach, ↓good_busRead, h, ite_self])
  all_goals (try grind [good_busRead, good_mk, good_fold, good_foldl, good_forEach])

theorem good_runList {qq ll} {s : State} (l : List BootEntry) (k : Nat) (h : Good qq ll s) : Good qq ll (s.runList l k) := by
  induction l generalizing s k with
  | nil => exact good_bootFinish h
  | cons e es ih =>
    unfold State.runList
    split
    · exact h
    · split
      · have hr := good_bootRead e.off (good_bootWrite e.off (BitVec.ofNat 32 e.value) h)
        dsimp only
        split
        · exact ih _ hr
        · exact good_bootFail _ hr
      · split
        · have hr := good_bootRead e.off h
          dsimp only
          split
          · exact ih _ hr
          · exact { hr with }
        · split
          · exact ih _ (good_advance _ h)
          · exact good_bootFail _ h

theorem good_bootContinue {qq ll} {s : State} (k : Nat) (t : Nat) (h : Good qq ll s) : Good qq ll (State.bootContinue s k t) := by
  unfold State.bootContinue
  dsimp only
  split
  · exact good_bootFail _ h
  · rename_i e es _
    have hr := good_bootRead e.off h
    split
    · exact good_runList _ _ { hr with }
    · exact good_bootFail _ (good_advanceToTick _ h)

theorem good_bootSlices {qq ll} {s : State} (b : Nat) (h : Good qq ll s) : Good qq ll (State.bootSlices s b) := by
  unfold State.bootSlices
  try simp +contextual (maxDischargeDepth := 40) only [↓good_mk, ↓good_fold, ↓good_ite, ↓good_next, ↓goodO_ite, ↓good_foldl, ↓good_forEach, ↓good_setFd, ↓good_domainUp, h, ite_self]
  all_goals (repeat' split)
  all_goals (try simp +contextual (maxDischargeDepth := 40) only [↓good_mk, ↓good_fold, ↓good_ite, ↓good_next, ↓goodO_ite, ↓good_foldl, ↓good_forEach, ↓good_setFd, ↓good_domainUp, h, ite_self])
  all_goals (try grind [good_setFd, good_domainUp, good_mk, good_fold, good_foldl, good_forEach])

theorem good_setBootWait {qq ll} {s : State} (w : Option (Nat × Nat)) (h : Good qq ll s) : Good qq ll (State.setBootWait s w) := by
  unfold State.setBootWait
  try simp +contextual (maxDischargeDepth := 40) only [↓good_mk, ↓good_fold, ↓good_ite, ↓good_next, ↓goodO_ite, ↓good_foldl, ↓good_forEach, h, ite_self]
  all_goals (repeat' split)
  all_goals (try simp +contextual (maxDischargeDepth := 40) only [↓good_mk, ↓good_fold, ↓good_ite, ↓good_next, ↓goodO_ite, ↓good_foldl, ↓good_forEach, h, ite_self])
  all_goals (try grind [good_mk, good_fold, good_foldl, good_forEach])

theorem good_bootPlaces {qq ll} {s : State} (h : Good qq ll s) : Good qq ll (State.bootPlaces s) := by
  unfold State.bootPlaces
  try simp +contextual (maxDischargeDepth := 40) only [↓good_mk, ↓good_fold, ↓good_ite, ↓good_next, ↓goodO_ite, ↓good_foldl, ↓good_forEach, ↓good_setRg, h, ite_self]
  all_goals (repeat' split)
  all_goals (try simp +contextual (maxDischargeDepth := 40) only [↓good_mk, ↓good_fold, ↓good_ite, ↓good_next, ↓goodO_ite, ↓good_foldl, ↓good_forEach, ↓good_setRg, h, ite_self])
  all_goals (try grind [good_setRg, good_mk, good_fold, good_foldl, good_forEach])

theorem good_bootTake {qq ll} {s : State} (b : Nat) (h : Good qq ll s) : Good qq ll (State.bootTake s b) := by
  unfold State.bootTake
  try simp +contextual (maxDischargeDepth := 40) only [↓good_mk, ↓good_fold, ↓good_ite, ↓good_next, ↓goodO_ite, ↓good_foldl, ↓good_forEach, ↓good_journal, h, ite_self]
  all_goals (repeat' split)
  all_goals (try simp +contextual (maxDischargeDepth := 40) only [↓good_mk, ↓good_fold, ↓good_ite, ↓good_next, ↓goodO_ite, ↓good_foldl, ↓good_forEach, ↓good_journal, h, ite_self])
  all_goals (try grind [good_journal, good_mk, good_fold, good_foldl, good_forEach])

theorem good_clearCounts {qq ll} {s : State} (h : Good qq ll s) : Good qq ll (State.clearCounts s) := by
  unfold State.clearCounts
  try simp +contextual (maxDischargeDepth := 40) only [↓good_mk, ↓good_fold, ↓good_ite, ↓good_next, ↓goodO_ite, ↓good_foldl, ↓good_forEach, ↓good_sramWrite, h, ite_self]
  all_goals (repeat' split)
  all_goals (try simp +contextual (maxDischargeDepth := 40) only [↓good_mk, ↓good_fold, ↓good_ite, ↓good_next, ↓goodO_ite, ↓good_foldl, ↓good_forEach, ↓good_sramWrite, h, ite_self])
  all_goals (try grind [good_sramWrite, good_mk, good_fold, good_foldl, good_forEach])

theorem good_bootLoad {qq ll} {s : State} (b : Nat) (h : Good qq ll s) : Good qq ll (State.bootLoad s b) := by
  unfold State.bootLoad
  have h1 := good_bootTake b h
  dsimp only
  exact good_runList _ _ (good_clearCounts (good_foldl _ _ _ (fun e t h => good_loadSection _ _ _ h)
    (good_setFd _ _ _ _ (good_bootSlices _ (good_setBoot _ (good_setFd _ _ _ _ h1))))))

theorem good_bootFrom2 {qq ll} {s : State} (h : Good qq ll s) : Good qq ll (State.bootFrom2 s) := by
  unfold State.bootFrom2
  have h1 := good_bootPlaces (good_setBoot 1 (good_setBootWait none h))
  dsimp only
  split
  · exact good_setBoot _ (good_setFd _ _ _ _ h1)
  · exact good_bootLoad _ h1

theorem good_execBoot {qq ll} {s : State} (h : Good qq ll s) : GoodO qq ll (execBoot s) := by
  unfold execBoot
  try simp +contextual (maxDischargeDepth := 40) only [↓good_mk, ↓good_fold, ↓good_ite, ↓good_next, ↓goodO_ite, ↓good_foldl, ↓good_forEach, ↓good_pllLock, ↓good_bootContinue, ↓good_bootFrom2, h, ite_self]
  all_goals (repeat' split)
  all_goals (try simp +contextual (maxDischargeDepth := 40) only [↓good_mk, ↓good_fold, ↓good_ite, ↓good_next, ↓goodO_ite, ↓good_foldl, ↓good_forEach, ↓good_pllLock, ↓good_bootContinue, ↓good_bootFrom2, h, ite_self])
  all_goals (try grind [good_pllLock, good_bootContinue, good_bootFrom2, good_mk, good_fold, good_foldl, good_forEach])

theorem good_imgBoot {qq ll} {s : State} (q : Requester) (b : Nat) (h : Good qq ll s) : Good qq ll (State.imgBoot s q b) := by
  unfold State.imgBoot
  try simp +contextual (maxDischargeDepth := 40) only [↓good_mk, ↓good_fold, ↓good_ite, ↓good_next, ↓goodO_ite, ↓good_foldl, ↓good_forEach, ↓good_setFd, ↓good_vectorEvent, ↓good_refuse, ↓good_bootFrom2, h, ite_self]
  all_goals (repeat' split)
  all_goals (try simp +contextual (maxDischargeDepth := 40) only [↓good_mk, ↓good_fold, ↓good_ite, ↓good_next, ↓goodO_ite, ↓good_foldl, ↓good_forEach, ↓good_setFd, ↓good_vectorEvent, ↓good_refuse, ↓good_bootFrom2, h, ite_self])
  all_goals (try grind [good_setFd, good_vectorEvent, good_refuse, good_bootFrom2, good_mk, good_fold, good_foldl, good_forEach])

theorem good_writeImgCmd {qq ll} {s : State} (q : Requester) (v : Word) (h : Good qq ll s) : Good qq ll (writeImgCmd q v s) := by
  unfold writeImgCmd
  try simp +contextual (maxDischargeDepth := 40) only [↓good_mk, ↓good_fold, ↓good_ite, ↓good_next, ↓goodO_ite, ↓good_foldl, ↓good_forEach, ↓good_writeImgOther, ↓good_imgBoot, h, ite_self]
  all_goals (repeat' split)
  all_goals (try simp +contextual (maxDischargeDepth := 40) only [↓good_mk, ↓good_fold, ↓good_ite, ↓good_next, ↓goodO_ite, ↓good_foldl, ↓good_forEach, ↓good_writeImgOther, ↓good_imgBoot, h, ite_self])
  all_goals (try grind [good_writeImgOther, good_imgBoot, good_mk, good_fold, good_foldl, good_forEach])

theorem good_execImgWrite {qq ll} {s : State} (q : Requester) (v : Word) (h : Good qq ll s) : GoodO qq ll (execImgWrite q v s) := by
  unfold execImgWrite
  exact good_write _ _ _ _ _ (fun _ h => good_writeImgCmd _ _ h) h

theorem good_execImgVerify {qq ll} {s : State} (q : Requester) (v : Word) (h : Good qq ll s) : GoodO qq ll (execImgVerify q v s) := by
  unfold execImgVerify
  exact good_write _ _ _ _ _ (fun _ h => good_writeImgCmd _ _ h) h

theorem good_execImgBoot {qq ll} {s : State} (q : Requester) (v : Word) (h : Good qq ll s) : GoodO qq ll (execImgBoot q v s) := by
  unfold execImgBoot
  exact good_write _ _ _ _ _ (fun _ h => good_writeImgCmd _ _ h) h

theorem good_regWrite {qq ll} {s : State} (q : Requester) (r : Reg) (i : Nat) (j : Nat) (v : Word) (h : Good qq ll s) : Good qq ll (State.regWrite s q r i j v) := by
  unfold State.regWrite
  try simp +contextual (maxDischargeDepth := 40) only [↓good_mk, ↓good_fold, ↓good_ite, ↓good_next, ↓goodO_ite, ↓good_foldl, ↓good_forEach, ↓good_regWriteInBoot, ↓good_writeImgCmd, h, ite_self]
  all_goals (repeat' split)
  all_goals (try simp +contextual (maxDischargeDepth := 40) only [↓good_mk, ↓good_fold, ↓good_ite, ↓good_next, ↓goodO_ite, ↓good_foldl, ↓good_forEach, ↓good_regWriteInBoot, ↓good_writeImgCmd, h, ite_self])
  all_goals (try grind [good_regWriteInBoot, good_writeImgCmd, good_mk, good_fold, good_foldl, good_forEach])

theorem good_busWrite {qq ll} {s : State} (q : Requester) (off : Nat) (width : Nat) (v : Word) (h : Good qq ll s) : Good qq ll (State.busWrite s q off width v).1 := by
  unfold State.busWrite
  exact good_busWriteWith _ (fun t r i j h => good_regWrite _ _ _ _ _ h) _ _ _ h

theorem good_execRegisterWrite {qq ll} {s : State} (q : Requester) (off : Nat) (v : Word) (h : Good qq ll s) : GoodO qq ll (execRegisterWrite q off v s) := by
  unfold execRegisterWrite
  try simp +contextual (maxDischargeDepth := 40) only [↓good_mk, ↓good_fold, ↓good_ite, ↓good_next, ↓goodO_ite, ↓good_foldl, ↓good_forEach, ↓good_busWrite, h, ite_self]
  all_goals (repeat' split)
  all_goals (try simp +contextual (maxDischargeDepth := 40) only [↓good_mk, ↓good_fold, ↓good_ite, ↓good_next, ↓goodO_ite, ↓good_foldl, ↓good_forEach, ↓good_busWrite, h, ite_self])
  all_goals (try grind [good_busWrite, good_mk, good_fold, good_foldl, good_forEach])

theorem good_execBadAccess {qq ll} {s : State} (q : Requester) (off : Nat) (width : Nat) (write : Bool) (h : Good qq ll s) : GoodO qq ll (execBadAccess q off width write s) := by
  unfold execBadAccess
  try simp +contextual (maxDischargeDepth := 40) only [↓good_mk, ↓good_fold, ↓good_ite, ↓good_next, ↓goodO_ite, ↓good_foldl, ↓good_forEach, ↓good_write, ↓good_busRead, ↓good_busWrite, h, ite_self]
  all_goals (repeat' split)
  all_goals (try simp +contextual (maxDischargeDepth := 40) only [↓good_mk, ↓good_fold, ↓good_ite, ↓good_next, ↓goodO_ite, ↓good_foldl, ↓good_forEach, ↓good_write, ↓good_busRead, ↓good_busWrite, h, ite_self])
  all_goals (try grind [good_write, good_busRead, good_busWrite, good_mk, good_fold, good_foldl, good_forEach])

theorem good_execReadLoLatch {qq ll} {s : State} (q : Requester) (off : Nat) (h : Good qq ll s) : GoodO qq ll (execReadLoLatch q off s) := by
  unfold execReadLoLatch
  try simp +contextual (maxDischargeDepth := 40) only [↓good_mk, ↓good_fold, ↓good_ite, ↓good_next, ↓goodO_ite, ↓good_foldl, ↓good_forEach, ↓good_busRead, h, ite_self]
  all_goals (repeat' split)
  all_goals (try simp +contextual (maxDischargeDepth := 40) only [↓good_mk, ↓good_fold, ↓good_ite, ↓good_next, ↓goodO_ite, ↓good_foldl, ↓good_forEach, ↓good_busRead, h, ite_self])
  all_goals (try grind [good_busRead, good_mk, good_fold, good_foldl, good_forEach])

theorem good_execMntRead {qq ll} {s : State} (wa : Nat) (h : Good qq ll s) : GoodO qq ll (execMntRead wa s) := by
  unfold execMntRead
  try simp +contextual (maxDischargeDepth := 40) only [↓good_mk, ↓good_fold, ↓good_ite, ↓good_next, ↓goodO_ite, ↓good_foldl, ↓good_forEach, ↓good_busRead, h, ite_self]
  all_goals (repeat' split)
  all_goals (try simp +contextual (maxDischargeDepth := 40) only [↓good_mk, ↓good_fold, ↓good_ite, ↓good_next, ↓goodO_ite, ↓good_foldl, ↓good_forEach, ↓good_busRead, h, ite_self])
  all_goals (try grind [good_busRead, good_mk, good_fold, good_foldl, good_forEach])

theorem good_execMntWrite {qq ll} {s : State} (wa : Nat) (v : Word) (complete : Bool) (h : Good qq ll s) : GoodO qq ll (execMntWrite wa v complete s) := by
  unfold execMntWrite
  try simp +contextual (maxDischargeDepth := 40) only [↓good_mk, ↓good_fold, ↓good_ite, ↓good_next, ↓goodO_ite, ↓good_foldl, ↓good_forEach, ↓good_busWrite, h, ite_self]
  all_goals (repeat' split)
  all_goals (try simp +contextual (maxDischargeDepth := 40) only [↓good_mk, ↓good_fold, ↓good_ite, ↓good_next, ↓goodO_ite, ↓good_foldl, ↓good_forEach, ↓good_busWrite, h, ite_self])
  all_goals (try grind [good_busWrite, good_mk, good_fold, good_foldl, good_forEach])

theorem good_execPllUnlock {qq ll} {s : State} (h : Good qq ll s) : GoodO qq ll (execPllUnlock s) := by
  unfold execPllUnlock
  try simp +contextual (maxDischargeDepth := 40) only [↓good_mk, ↓good_fold, ↓good_ite, ↓good_next, ↓goodO_ite, ↓good_foldl, ↓good_forEach, ↓good_journal, ↓good_warmReset, h, ite_self]
  all_goals (repeat' split)
  all_goals (try simp +contextual (maxDischargeDepth := 40) only [↓good_mk, ↓good_fold, ↓good_ite, ↓good_next, ↓goodO_ite, ↓good_foldl, ↓good_forEach, ↓good_journal, ↓good_warmReset, h, ite_self])
  all_goals (try grind [good_journal, good_warmReset, good_mk, good_fold, good_foldl, good_forEach])

theorem good_execMrstReset {qq ll} {s : State} (h : Good qq ll s) : GoodO qq ll (execMrstReset s) := by
  unfold execMrstReset
  try simp +contextual (maxDischargeDepth := 40) only [↓good_mk, ↓good_fold, ↓good_ite, ↓good_next, ↓goodO_ite, ↓good_foldl, ↓good_forEach, ↓good_moduleReset, ↓good_pllLock, h, ite_self]
  all_goals (repeat' split)
  all_goals (try simp +contextual (maxDischargeDepth := 40) only [↓good_mk, ↓good_fold, ↓good_ite, ↓good_next, ↓goodO_ite, ↓good_foldl, ↓good_forEach, ↓good_moduleReset, ↓good_pllLock, h, ite_self])
  all_goals (try grind [good_moduleReset, good_pllLock, good_mk, good_fold, good_foldl, good_forEach])

theorem good_execPowerUp {qq ll} {s : State} (h : Good qq ll s) : GoodO qq ll (execPowerUp s) := by
  unfold execPowerUp
  try simp +contextual (maxDischargeDepth := 40) only [↓good_mk, ↓good_fold, ↓good_ite, ↓good_next, ↓goodO_ite, ↓good_foldl, ↓good_forEach, ↓good_moduleReset, ↓good_pllLock, h, ite_self]
  all_goals (repeat' split)
  all_goals (try simp +contextual (maxDischargeDepth := 40) only [↓good_mk, ↓good_fold, ↓good_ite, ↓good_next, ↓goodO_ite, ↓good_foldl, ↓good_forEach, ↓good_moduleReset, ↓good_pllLock, h, ite_self])
  all_goals (try grind [good_moduleReset, good_pllLock, good_mk, good_fold, good_foldl, good_forEach])

theorem good_execVin12Loss {qq ll} {s : State} (h : Good qq ll s) : GoodO qq ll (execVin12Loss s) := by
  unfold execVin12Loss
  try simp +contextual (maxDischargeDepth := 40) only [↓good_mk, ↓good_fold, ↓good_ite, ↓good_next, ↓goodO_ite, ↓good_foldl, ↓good_forEach, ↓good_pairsOff, ↓good_moduleReset, h, ite_self]
  all_goals (repeat' split)
  all_goals (try simp +contextual (maxDischargeDepth := 40) only [↓good_mk, ↓good_fold, ↓good_ite, ↓good_next, ↓goodO_ite, ↓good_foldl, ↓good_forEach, ↓good_pairsOff, ↓good_moduleReset, h, ite_self])
  all_goals (try grind [good_pairsOff, good_moduleReset, good_mk, good_fold, good_foldl, good_forEach])

theorem good_execVsioLow {qq ll} {s : State} (h : Good qq ll s) : GoodO qq ll (execVsioLow s) := by
  unfold execVsioLow
  try simp +contextual (maxDischargeDepth := 40) only [↓good_mk, ↓good_fold, ↓good_ite, ↓good_next, ↓goodO_ite, ↓good_foldl, ↓good_forEach, ↓good_vsio, h, ite_self]
  all_goals (repeat' split)
  all_goals (try simp +contextual (maxDischargeDepth := 40) only [↓good_mk, ↓good_fold, ↓good_ite, ↓good_next, ↓goodO_ite, ↓good_foldl, ↓good_forEach, ↓good_vsio, h, ite_self])
  all_goals (try grind [good_vsio, good_mk, good_fold, good_foldl, good_forEach])

theorem good_execVsioReturn {qq ll} {s : State} (h : Good qq ll s) : GoodO qq ll (execVsioReturn s) := by
  unfold execVsioReturn
  try simp +contextual (maxDischargeDepth := 40) only [↓good_mk, ↓good_fold, ↓good_ite, ↓good_next, ↓goodO_ite, ↓good_foldl, ↓good_forEach, ↓good_vsio, h, ite_self]
  all_goals (repeat' split)
  all_goals (try simp +contextual (maxDischargeDepth := 40) only [↓good_mk, ↓good_fold, ↓good_ite, ↓good_next, ↓goodO_ite, ↓good_foldl, ↓good_forEach, ↓good_vsio, h, ite_self])
  all_goals (try grind [good_vsio, good_mk, good_fold, good_foldl, good_forEach])

end Sys2Proof.Machine
end

