-- ==== Sys2Proof/Laws/KeepsVelistMem.lean ====
section
/-!
SUPPORT. What the operations of Machine/VelistMem.lean keep.
-/

set_option linter.unusedSimpArgs false
set_option linter.unreachableTactic false
set_option linter.unusedTactic false

namespace Sys2Proof.Machine

theorem good_load {qq ll} {s : State} (n : Nat) (a : Nat) (size : Nat) (h : Good qq ll s) : Good qq ll (State.load s n a size).2 := by
  unfold State.load
  try simp +contextual (maxDischargeDepth := 40) only [↓good_mk, ↓good_fold, ↓good_ite, ↓good_next, ↓goodO_ite, ↓good_foldl, ↓good_forEach, ↓good_offAccess, ↓good_busRead, h, ite_self]
  all_goals (repeat' split)
  all_goals (try simp +contextual (maxDischargeDepth := 40) only [↓good_mk, ↓good_fold, ↓good_ite, ↓good_next, ↓goodO_ite, ↓good_foldl, ↓good_forEach, ↓good_offAccess, ↓good_busRead, h, ite_self])
  all_goals (try grind [good_offAccess, good_busRead, good_mk, good_fold, good_foldl, good_forEach])

theorem good_pastStore {qq ll} {s : State} (n : Nat) (f : Core → Core) (h : Good qq ll s) : Good qq ll (State.pastStore s n f) := by
  unfold State.pastStore
  try simp +contextual (maxDischargeDepth := 40) only [↓good_mk, ↓good_fold, ↓good_ite, ↓good_next, ↓goodO_ite, ↓good_foldl, ↓good_forEach, ↓good_setCore, h, ite_self]
  all_goals (repeat' split)
  all_goals (try simp +contextual (maxDischargeDepth := 40) only [↓good_mk, ↓good_fold, ↓good_ite, ↓good_next, ↓goodO_ite, ↓good_foldl, ↓good_forEach, ↓good_setCore, h, ite_self])
  all_goals (try grind [good_setCore, good_mk, good_fold, good_foldl, good_forEach])

theorem good_loadOp {qq ll} {s : State} (n : Nat) (f : Bool) (rt : Nat) (circ : Bool) (base : Nat) (off : Int) (size : Nat) (ext : Nat → Word) (h : Good qq ll s) : GoodO qq ll (State.loadOp s n f rt circ base off size ext) := by
  unfold State.loadOp
  refine good_issueB _ _ (fun c t h => ?_) h
  split
  · exact goodI_raise.mpr h
  · split
    · exact goodI_raise.mpr h
    · rename_i a _
      have hl := good_load n a.toNat size h
      split
      · exact goodI_raise.mpr h
      · split <;> rename_i e <;> rw [e] at hl
        · exact goodI_raise.mpr hl
        · exact goodI_raise.mpr (good_setCore _ _ hl)
        · exact goodI_done.mpr (good_setCore _ _ hl)

theorem good_store {qq ll} {s t : State} {n a size : Nat} {v : Word} (h : Good qq ll s) (e : s.store n a size v = some t) :
    Good qq ll t := by
  unfold State.store at e
  split at e
  · cases e
  · cases e
  · cases e
    exact good_busWrite _ _ _ _ h
  · split at e
    · cases e
      exact good_placeWrite _ _ h
    · cases e
      exact good_offAccess _ _ _ _ h
  · cases e
    exact good_placeWrite _ _ h

theorem good_storeOp {qq ll} {s : State} (n : Nat) (f : Bool) (rt : Nat) (circ : Bool) (base : Nat) (off : Int) (size : Nat) (h : Good qq ll s) : GoodO qq ll (State.storeOp s n f rt circ base off size) := by
  unfold State.storeOp
  refine good_issueB _ _ (fun c t h => ?_) h
  split
  · exact goodI_raise.mpr h
  · split
    · exact goodI_raise.mpr h
    · split
      · exact goodI_raise.mpr h
      · split
        · exact goodI_raise.mpr h
        · exact goodI_done.mpr (good_pastStore _ _ (good_store h (by assumption)))

theorem good_execLdw {qq ll} {s : State} (n : Nat) (f : Bool) (rt : Nat) (circ : Bool) (base : Nat) (off : Int) (h : Good qq ll s) : GoodO qq ll (execLdw n f rt circ base off s) := by
  unfold execLdw
  try simp +contextual (maxDischargeDepth := 40) only [↓good_mk, ↓good_fold, ↓good_ite, ↓good_next, ↓goodO_ite, ↓good_foldl, ↓good_forEach, ↓good_loadOp, h, ite_self]
  all_goals (repeat' split)
  all_goals (try simp +contextual (maxDischargeDepth := 40) only [↓good_mk, ↓good_fold, ↓good_ite, ↓good_next, ↓goodO_ite, ↓good_foldl, ↓good_forEach, ↓good_loadOp, h, ite_self])
  all_goals (try grind [good_loadOp, good_mk, good_fold, good_foldl, good_forEach])

theorem good_execStw {qq ll} {s : State} (n : Nat) (f : Bool) (rt : Nat) (circ : Bool) (base : Nat) (off : Int) (h : Good qq ll s) : GoodO qq ll (execStw n f rt circ base off s) := by
  unfold execStw
  try simp +contextual (maxDischargeDepth := 40) only [↓good_mk, ↓good_fold, ↓good_ite, ↓good_next, ↓goodO_ite, ↓good_foldl, ↓good_forEach, ↓good_storeOp, h, ite_self]
  all_goals (repeat' split)
  all_goals (try simp +contextual (maxDischargeDepth := 40) only [↓good_mk, ↓good_fold, ↓good_ite, ↓good_next, ↓goodO_ite, ↓good_foldl, ↓good_forEach, ↓good_storeOp, h, ite_self])
  all_goals (try grind [good_storeOp, good_mk, good_fold, good_foldl, good_forEach])

theorem good_execLdh {qq ll} {s : State} (n : Nat) (f : Bool) (rt : Nat) (circ : Bool) (base : Nat) (off : Int) (h : Good qq ll s) : GoodO qq ll (execLdh n f rt circ base off s) := by
  unfold execLdh
  try simp +contextual (maxDischargeDepth := 40) only [↓good_mk, ↓good_fold, ↓good_ite, ↓good_next, ↓goodO_ite, ↓good_foldl, ↓good_forEach, ↓good_loadOp, h, ite_self]
  all_goals (repeat' split)
  all_goals (try simp +contextual (maxDischargeDepth := 40) only [↓good_mk, ↓good_fold, ↓good_ite, ↓good_next, ↓goodO_ite, ↓good_foldl, ↓good_forEach, ↓good_loadOp, h, ite_self])
  all_goals (try grind [good_loadOp, good_mk, good_fold, good_foldl, good_forEach])

theorem good_execLdhu {qq ll} {s : State} (n : Nat) (f : Bool) (rt : Nat) (circ : Bool) (base : Nat) (off : Int) (h : Good qq ll s) : GoodO qq ll (execLdhu n f rt circ base off s) := by
  unfold execLdhu
  try simp +contextual (maxDischargeDepth := 40) only [↓good_mk, ↓good_fold, ↓good_ite, ↓good_next, ↓goodO_ite, ↓good_foldl, ↓good_forEach, ↓good_loadOp, h, ite_self]
  all_goals (repeat' split)
  all_goals (try simp +contextual (maxDischargeDepth := 40) only [↓good_mk, ↓good_fold, ↓good_ite, ↓good_next, ↓goodO_ite, ↓good_foldl, ↓good_forEach, ↓good_loadOp, h, ite_self])
  all_goals (try grind [good_loadOp, good_mk, good_fold, good_foldl, good_forEach])

theorem good_execLdb {qq ll} {s : State} (n : Nat) (f : Bool) (rt : Nat) (circ : Bool) (base : Nat) (off : Int) (h : Good qq ll s) : GoodO qq ll (execLdb n f rt circ base off s) := by
  unfold execLdb
  try simp +contextual (maxDischargeDepth := 40) only [↓good_mk, ↓good_fold, ↓good_ite, ↓good_next, ↓goodO_ite, ↓good_foldl, ↓good_forEach, ↓good_loadOp, h, ite_self]
  all_goals (repeat' split)
  all_goals (try simp +contextual (maxDischargeDepth := 40) only [↓good_mk, ↓good_fold, ↓good_ite, ↓good_next, ↓goodO_ite, ↓good_foldl, ↓good_forEach, ↓good_loadOp, h, ite_self])
  all_goals (try grind [good_loadOp, good_mk, good_fold, good_foldl, good_forEach])

theorem good_execLdbu {qq ll} {s : State} (n : Nat) (f : Bool) (rt : Nat) (circ : Bool) (base : Nat) (off : Int) (h : Good qq ll s) : GoodO qq ll (execLdbu n f rt circ base off s) := by
  unfold execLdbu
  try simp +contextual (maxDischargeDepth := 40) only [↓good_mk, ↓good_fold, ↓good_ite, ↓good_next, ↓goodO_ite, ↓good_foldl, ↓good_forEach, ↓good_loadOp, h, ite_self]
  all_goals (repeat' split)
  all_goals (try simp +contextual (maxDischargeDepth := 40) only [↓good_mk, ↓good_fold, ↓good_ite, ↓good_next, ↓goodO_ite, ↓good_foldl, ↓good_forEach, ↓good_loadOp, h, ite_self])
  all_goals (try grind [good_loadOp, good_mk, good_fold, good_foldl, good_forEach])

theorem good_execSth {qq ll} {s : State} (n : Nat) (f : Bool) (rt : Nat) (circ : Bool) (base : Nat) (off : Int) (h : Good qq ll s) : GoodO qq ll (execSth n f rt circ base off s) := by
  unfold execSth
  try simp +contextual (maxDischargeDepth := 40) only [↓good_mk, ↓good_fold, ↓good_ite, ↓good_next, ↓goodO_ite, ↓good_foldl, ↓good_forEach, ↓good_storeOp, h, ite_self]
  all_goals (repeat' split)
  all_goals (try simp +contextual (maxDischargeDepth := 40) only [↓good_mk, ↓good_fold, ↓good_ite, ↓good_next, ↓goodO_ite, ↓good_foldl, ↓good_forEach, ↓good_storeOp, h, ite_self])
  all_goals (try grind [good_storeOp, good_mk, good_fold, good_foldl, good_forEach])

theorem good_execStb {qq ll} {s : State} (n : Nat) (f : Bool) (rt : Nat) (circ : Bool) (base : Nat) (off : Int) (h : Good qq ll s) : GoodO qq ll (execStb n f rt circ base off s) := by
  unfold execStb
  try simp +contextual (maxDischargeDepth := 40) only [↓good_mk, ↓good_fold, ↓good_ite, ↓good_next, ↓goodO_ite, ↓good_foldl, ↓good_forEach, ↓good_storeOp, h, ite_self]
  all_goals (repeat' split)
  all_goals (try simp +contextual (maxDischargeDepth := 40) only [↓good_mk, ↓good_fold, ↓good_ite, ↓good_next, ↓goodO_ite, ↓good_foldl, ↓good_forEach, ↓good_storeOp, h, ite_self])
  all_goals (try grind [good_storeOp, good_mk, good_fold, good_foldl, good_forEach])

theorem good_searchFrom {qq ll} {s : State} (n : Nat) (better : Word → Word → Bool) (base : Word) (len m k idx : Nat)
    (best : Option (Word × Nat)) (h : Good qq ll s) :
    Good qq ll (State.searchFrom n better base len m k idx best s).2 := by
  induction m generalizing s k idx best with
  | zero => exact h
  | succ m ih =>
    unfold State.searchFrom
    have hl := good_load n (base + BitVec.ofNat 32 idx).toNat 4 h
    dsimp only
    split
    · exact h
    · split <;> rename_i e <;> rw [e] at hl
      · exact ih _ _ _ hl
      · exact hl

theorem good_searchOp {qq ll} {s : State} (n : Nat) (gd : Nat) (cb : Nat) (gn : Nat) (empty : Word) (better : Word → Word → Bool) (h : Good qq ll s) : GoodO qq ll (State.searchOp s n gd cb gn empty better) := by
  unfold State.searchOp
  refine good_issue _ _ (fun c t h => ?_) h
  dsimp only
  split
  · exact goodI_raise.mpr h
  · have hs := good_searchFrom n better (c.cbr cb 0) (c.cbr cb 1).toNat ((c.gr gn).toNat % 2 ^ 16) 0 (c.cbr cb 2).toNat none h
    split <;> rename_i e <;> rw [e] at hs
    · exact goodI_raise.mpr hs
    · exact goodI_done.mpr (good_setCore _ _ hs)
    · exact goodI_done.mpr (good_setCore _ _ hs)

theorem good_execMaxi {qq ll} {s : State} (n : Nat) (gd : Nat) (cb : Nat) (gn : Nat) (h : Good qq ll s) : GoodO qq ll (execMaxi n gd cb gn s) := by
  unfold execMaxi
  try simp +contextual (maxDischargeDepth := 40) only [↓good_mk, ↓good_fold, ↓good_ite, ↓good_next, ↓goodO_ite, ↓good_foldl, ↓good_forEach, ↓good_searchOp, h, ite_self]
  all_goals (repeat' split)
  all_goals (try simp +contextual (maxDischargeDepth := 40) only [↓good_mk, ↓good_fold, ↓good_ite, ↓good_next, ↓goodO_ite, ↓good_foldl, ↓good_forEach, ↓good_searchOp, h, ite_self])
  all_goals (try grind [good_searchOp, good_mk, good_fold, good_foldl, good_forEach])

theorem good_execMini {qq ll} {s : State} (n : Nat) (gd : Nat) (cb : Nat) (gn : Nat) (h : Good qq ll s) : GoodO qq ll (execMini n gd cb gn s) := by
  unfold execMini
  try simp +contextual (maxDischargeDepth := 40) only [↓good_mk, ↓good_fold, ↓good_ite, ↓good_next, ↓goodO_ite, ↓good_foldl, ↓good_forEach, ↓good_searchOp, h, ite_self]
  all_goals (repeat' split)
  all_goals (try simp +contextual (maxDischargeDepth := 40) only [↓good_mk, ↓good_fold, ↓good_ite, ↓good_next, ↓goodO_ite, ↓good_foldl, ↓good_forEach, ↓good_searchOp, h, ite_self])
  all_goals (try grind [good_searchOp, good_mk, good_fold, good_foldl, good_forEach])

theorem good_execMaxiu {qq ll} {s : State} (n : Nat) (gd : Nat) (cb : Nat) (gn : Nat) (h : Good qq ll s) : GoodO qq ll (execMaxiu n gd cb gn s) := by
  unfold execMaxiu
  try simp +contextual (maxDischargeDepth := 40) only [↓good_mk, ↓good_fold, ↓good_ite, ↓good_next, ↓goodO_ite, ↓good_foldl, ↓good_forEach, ↓good_searchOp, h, ite_self]
  all_goals (repeat' split)
  all_goals (try simp +contextual (maxDischargeDepth := 40) only [↓good_mk, ↓good_fold, ↓good_ite, ↓good_next, ↓goodO_ite, ↓good_foldl, ↓good_forEach, ↓good_searchOp, h, ite_self])
  all_goals (try grind [good_searchOp, good_mk, good_fold, good_foldl, good_forEach])

theorem good_execMiniu {qq ll} {s : State} (n : Nat) (gd : Nat) (cb : Nat) (gn : Nat) (h : Good qq ll s) : GoodO qq ll (execMiniu n gd cb gn s) := by
  unfold execMiniu
  try simp +contextual (maxDischargeDepth := 40) only [↓good_mk, ↓good_fold, ↓good_ite, ↓good_next, ↓goodO_ite, ↓good_foldl, ↓good_forEach, ↓good_searchOp, h, ite_self]
  all_goals (repeat' split)
  all_goals (try simp +contextual (maxDischargeDepth := 40) only [↓good_mk, ↓good_fold, ↓good_ite, ↓good_next, ↓goodO_ite, ↓good_foldl, ↓good_forEach, ↓good_searchOp, h, ite_self])
  all_goals (try grind [good_searchOp, good_mk, good_fold, good_foldl, good_forEach])

theorem good_execMaxa {qq ll} {s : State} (n : Nat) (gd : Nat) (cb : Nat) (gn : Nat) (h : Good qq ll s) : GoodO qq ll (execMaxa n gd cb gn s) := by
  unfold execMaxa
  try simp +contextual (maxDischargeDepth := 40) only [↓good_mk, ↓good_fold, ↓good_ite, ↓good_next, ↓goodO_ite, ↓good_foldl, ↓good_forEach, ↓good_searchOp, h, ite_self]
  all_goals (repeat' split)
  all_goals (try simp +contextual (maxDischargeDepth := 40) only [↓good_mk, ↓good_fold, ↓good_ite, ↓good_next, ↓goodO_ite, ↓good_foldl, ↓good_forEach, ↓good_searchOp, h, ite_self])
  all_goals (try grind [good_searchOp, good_mk, good_fold, good_foldl, good_forEach])

end Sys2Proof.Machine
end

