-- ==== Sys2Proof/Laws/Separation.lean ====
section
/-!
SUPPORT. The coded words of the geometry engine: what they carry, and what a comparison comes to (R417 to R420).
-/

namespace Sys2Proof.Machine

theorem codeWord_toInt (b : Nat) (x : Int) (hb : b < 65536) (hl : -(2 ^ 31) ≤ x) (hh : x < 2 ^ 31) :
    (codeWord b x).toInt = codeA * x + b := by
  unfold codeWord codeA
  rw [BitVec.toInt_ofInt, Int.bmod_eq_of_le (by omega) (by omega)]

/-- A coded word passes its check, and carries its payload (R417, R419). -/
theorem codeOk_codeWord (b : Nat) (x : Int) (hb : b < 65536) (hl : -(2 ^ 31) ≤ x) (hh : x < 2 ^ 31) :
    codeOk b (codeWord b x) = true ∧ codeValue b (codeWord b x) = x := by
  unfold codeOk codeValue
  rw [codeWord_toInt b x hb hl hh]
  unfold codeA
  constructor
  · rw [decide_eq_true_eq]; omega
  · omega

/-- Two payloads of one signature have different coded words. -/
theorem codeWord_inj (b c : Nat) (x y : Int) (hb : b < 65536) (hc : c < 65536) (hx : -(2 ^ 31) ≤ x ∧ x < 2 ^ 31)
    (hy : -(2 ^ 31) ≤ y ∧ y < 2 ^ 31) (h : codeWord b x = codeWord c y) : codeA * x + b = codeA * y + c := by
  rw [← codeWord_toInt b x hb hx.1 hx.2, ← codeWord_toInt c y hc hy.1 hy.2, h]

/-- The words for pass and for fail differ, so the safety core takes a comparison for what it found (R420). -/
theorem passes_eq (b : Bool) : passes b = b := by
  have h1 : Config.thVerdict true % 32768 < 32768 := Nat.mod_lt _ (by decide)
  have h2 : Config.thVerdict false % 32768 < 32768 := Nat.mod_lt _ (by decide)
  have hne : verdict false ≠ verdict true := by
    intro h
    have := codeWord_inj _ _ _ _ (by omega) (by omega) (by decide) (by decide) h
    unfold codeA b2n at this
    simp only [if_true, Bool.false_eq_true, if_false] at this
    omega
  unfold passes verdictOf
  cases b
  · rw [if_neg hne, if_pos rfl]; rfl
  · rw [if_pos rfl]; rfl

end Sys2Proof.Machine
end

