-- ==== Sys2Proof/Machine/Lands.lean ====
section
/-!
DEFINITION. What the module shows on its lands: identification in PCI configuration space (R616), and the state of its
outputs during reset and until their configuration (R632).
-/

namespace Sys2Proof.Machine

/-! ## Identification (R616) -/

/-- The identification values of the endpoint's configuration space. -/
structure PciIdentity where
  vendor : BitVec 16
  device : BitVec 16
  revision : BitVec 8
  classCode : BitVec 24
  subVendor : BitVec 16
  subsystem : BitVec 16
  serialLo : Word
  serialHi : Word
  deriving DecidableEq, Repr

/-- The endpoint's identification; the serial number is that of GLOBAL_UID (R616). -/
def State.pciIdentity (s : State) : PciIdentity :=
  { vendor := 0x1F4C, device := 0x0256, revision := 0xA0, classCode := 0x118000, subVendor := 0x1F4C, subsystem := 0x0001,
    serialLo := BitVec.ofNat 32 (s.rg .GLOBAL_UID_LO), serialHi := BitVec.ofNat 32 (s.rg .GLOBAL_UID_HI) }

/-! ## Outputs (R632) -/

/-- The lands that the module drives: instance numbers as in R620. Log 107 (DEDUCED, unsafe). -/
inductive Land where
  | outputPair (j : Nat)
  | testPulse (k : Nat)
  | koastis (n : Nat)
  | plant (n : Nat)
  | chain
  | step (j : Nat)
  | encoderClock (n : Nat)
  | repeatOut (n : Nat)
  | gpio (g : Nat)
  | mntOut
  | debugOut
  deriving DecidableEq, Repr

/-- How a land stands: switched off, a lane in electrical idle, high impedance with a pull-down, high impedance, or at
work. Log 107 (DEDUCED, unsafe). -/
inductive Drive where
  | off
  | idle
  | pulledDown
  | highZ
  | active
  deriving DecidableEq, Repr

/-- A GPIO is an output: an enabled compare unit acts on it, or an enabled channel's driver enable (R349, R354).
Log 107 (DEDUCED, unsafe). -/
def State.gpioDriven (s : State) (g : Nat) : Bool :=
  (List.range 64).any (fun k => s.flag F.AX_CMPk_CTL_EN k && decide (s.fd F.AX_CMPk_CTL_ACTION k ≠ 0 ∧
    s.fd F.AX_CMPk_CTL_GPIO k = g)) ||
  (List.range 256).any (fun n => s.flag F.AX_CTLn_EN n && decide (s.fd F.AX_DRVn_ENA_GPIO n = g))

/-- The state of a land: an output whose block nothing has configured since reset stands as R632 says.
Log 107 (DEDUCED, unsafe). -/
def State.drive (s : State) (l : Land) : Drive :=
  match l with
  | .outputPair j => if s.flag F.TH_SOj_STAT_ON j && !s.held then .active else .off
  | .testPulse k =>
    if s.held || s.th.vsioLow then .off
    else match s.workImg with
      | some m => if (List.range 32).any (fun i => iUsed m i && decide (iTp m i = k)) then .active else .off
      | none => .off
  | .koastis n => if s.portOn n && !s.held && !s.isStandby then .active else .idle
  | .plant n => if s.domOn 24 && s.flag F.HS_HEn_CTL_EN n && !s.held then .active else .idle
  | .chain => if s.domOn 23 && s.flag F.CH_CTL_EN && !s.held then .active else .idle
  | .step j => if s.flag F.AX_STj_CTL_EN j && !s.held then .active else .pulledDown
  | .encoderClock n => if s.flag F.FB_CFGn_EN n && decide (s.fd F.FB_CFGn_MODE n = 1) && !s.held then .active else .highZ
  | .repeatOut n => if s.flag F.FB_CFGn_EN n && decide (s.fd F.FB_CFGn_REP n ≠ 0) && !s.held then .active else .highZ
  | .gpio g => if s.gpioDriven g && !s.held then .active else .pulledDown
  | .mntOut => if s.portUp .mnt then .active else .pulledDown
  | .debugOut => if s.portUp .debug then .active else .pulledDown

end Sys2Proof.Machine
end

