-- ==== Sys2Proof/WellFormed.lean ====
section
/-!
DEFINITION. Well-formed commands: every operand that selects a core, a register, a channel, a port or a field lies in the
range the spec gives it. A meaning does not rely on it: an operand outside its range names nothing.
-/

namespace Sys2Proof

/-- An operand below a bound. -/
def below (x k : Nat) : Bool := decide (x < k)

/-- A signed field of `w` bits (R188). -/
def signedIn (x : Int) (w : Nat) : Bool := decide (-(2 ^ (w - 1) : Int) ≤ x) && decide (x < (2 ^ (w - 1) : Int))

/-- A requester that exists: physical cores are 0 to 71 (R611). -/
def requesterOk : Requester → Bool
  | .core n => below n 72
  | _ => true

/-- A command whose operands lie in their ranges. -/
def wellFormed (i : Instr) : Bool :=
  match i with
  | .registerWrite q off _ => requesterOk q && below off 0x4000000
  | .badAccess q off _ _ => requesterOk q && below off 0x4000000
  | .readLoLatch q off => requesterOk q && below off 0x4000000
  | .baseCycleStart => true
  | .cutoff => true
  | .planCycleStart => true
  | .pathEndStop g => below g 16
  | .superCycleBoundary => true
  | .agEnable q _ => requesterOk q
  | .agDisable q _ => requesterOk q
  | .agStandstill g => below g 16
  | .timCycleWrite q _ => requesterOk q
  | .baseChangeEffect => true
  | .placeCommit q _ => requesterOk q
  | .refSelect q _ => requesterOk q
  | .refLoss => true
  | .refFreq => true
  | .fallbackRelock => true
  | .refReturn src => decide (src < 3)
  | .dvfsWrite q _ => requesterOk q
  | .divFault clk => below clk 8
  | .pllUnlock => true
  | .pcieRefLoss => true
  | .ctSet q _ => requesterOk q
  | .ptIncSet q _ => requesterOk q
  | .ptAdj q _ => requesterOk q
  | .ptSet q _ => requesterOk q
  | .ptValidTimeout => true
  | .timeCaptureEvent src _ _ => below src 256
  | .swtrig q n _ => requesterOk q && below n 8
  | .heTxHead p q => below p 2 && below q 8
  | .heTxLaunch p q => below p 2 && below q 8
  | .heRxFrame p _ _ _ => below p 2
  | .calSet q _ => requesterOk q
  | .calDiscSecond => true
  | .calTrimWindow => true
  | .leapSecond => true
  | .calOnBackup => true
  | .calSupplyLost => true
  | .klPortEnable q p _ => requesterOk q && below p 8
  | .klPortDisable q p _ => requesterOk q && below p 8
  | .klCntClear q p _ => requesterOk q && below p 8
  | .uplinkReceive p _ _ _ => below p 8
  | .ulMiss p slot => below p 8 && below slot 4096
  | .eventReceive p _ _ _ => below p 8
  | .eventSend p _ => below p 8
  | .evidxWrite q p _ => requesterOk q && below p 8
  | .scheduleEntryWrite q m w _ => requesterOk q && below m 8 && below w 16384
  | .modeCheck q m _ => requesterOk q && below m 8
  | .modeSwitchRequest q _ => requesterOk q
  | .modeSwitchDecide => true
  | .preqReceive p _ _ _ => below p 8
  | .reportReceive p _ _ _ => below p 8
  | .measureEnd p => below p 8
  | .listenElapsed => true
  | .coldStartFrameReceive p _ _ _ => below p 8
  | .rankDelayElapsed => true
  | .attemptWindowEnd => true
  | .backoffElapsed => true
  | .deferWindowEnd => true
  | .timeReportReceive p _ _ _ => below p 8
  | .holdover => true
  | .chainTimeWordReceive p _ _ _ _ => below p 2
  | .chainSourceSwitch => true
  | .klTimeCtlWrite q _ => requesterOk q
  | .dispatch => true
  | .tick k => below k 64
  | .instanceDeadline t tag => below t 4096 && below tag 0x10000
  | .instanceRelease t tag => below t 4096 && below tag 0x10000
  | .templateWrite q t w _ => requesterOk q && below t 4096 && below w 8
  | .templateEnable q t => requesterOk q && below t 4096
  | .templateDisable q t => requesterOk q && below t 4096
  | .templatePurge q t => requesterOk q && below t 4096
  | .flowWrite q f w _ => requesterOk q && below f 4096 && below w 2
  | .flowRelease q f => requesterOk q && below f 4096
  | .flowPurge q f => requesterOk q && below f 4096
  | .tickEnable q k _ => requesterOk q && below k 64
  | .add n gd ga gb pg => below n 72 && below gd 32 && below ga 32 && below gb 32 && below pg 8
  | .sub n gd ga gb pg => below n 72 && below gd 32 && below ga 32 && below gb 32 && below pg 8
  | .and n gd ga gb pg => below n 72 && below gd 32 && below ga 32 && below gb 32 && below pg 8
  | .or n gd ga gb pg => below n 72 && below gd 32 && below ga 32 && below gb 32 && below pg 8
  | .xor n gd ga gb pg => below n 72 && below gd 32 && below ga 32 && below gb 32 && below pg 8
  | .shl n gd ga gb pg => below n 72 && below gd 32 && below ga 32 && below gb 32 && below pg 8
  | .shr n gd ga gb pg => below n 72 && below gd 32 && below ga 32 && below gb 32 && below pg 8
  | .sra n gd ga gb pg => below n 72 && below gd 32 && below ga 32 && below gb 32 && below pg 8
  | .mul n gd ga gb pg => below n 72 && below gd 32 && below ga 32 && below gb 32 && below pg 8
  | .mulh n gd ga gb pg => below n 72 && below gd 32 && below ga 32 && below gb 32 && below pg 8
  | .mulhu n gd ga gb pg => below n 72 && below gd 32 && below ga 32 && below gb 32 && below pg 8
  | .adds n gd ga gb pg => below n 72 && below gd 32 && below ga 32 && below gb 32 && below pg 8
  | .subs n gd ga gb pg => below n 72 && below gd 32 && below ga 32 && below gb 32 && below pg 8
  | .min n gd ga gb pg => below n 72 && below gd 32 && below ga 32 && below gb 32 && below pg 8
  | .max n gd ga gb pg => below n 72 && below gd 32 && below ga 32 && below gb 32 && below pg 8
  | .minu n gd ga gb pg => below n 72 && below gd 32 && below ga 32 && below gb 32 && below pg 8
  | .maxu n gd ga gb pg => below n 72 && below gd 32 && below ga 32 && below gb 32 && below pg 8
  | .abs n gd ga pg => below n 72 && below gd 32 && below ga 32 && below pg 8
  | .clz n gd ga pg => below n 72 && below gd 32 && below ga 32 && below pg 8
  | .addi n gd ga imm => below n 72 && below gd 32 && below ga 32 && below imm 0x10000
  | .andi n gd ga imm => below n 72 && below gd 32 && below ga 32 && below imm 0x10000
  | .ori n gd ga imm => below n 72 && below gd 32 && below ga 32 && below imm 0x10000
  | .xori n gd ga imm => below n 72 && below gd 32 && below ga 32 && below imm 0x10000
  | .lui n gd imm => below n 72 && below gd 32 && below imm 0x10000
  | .shi n gd ga op sh => below n 72 && below gd 32 && below ga 32 && below op 4 && below sh 32
  | .cmp n pd ga gb pg cond => below n 72 && below pd 8 && below ga 32 && below gb 32 && below pg 8 && below cond 16
  | .cmpi n pd cond ga imm => below n 72 && below pd 8 && below cond 8 && below ga 32 && below imm 0x8000
  | .plog n pd pa pb func => below n 72 && below pd 8 && below pa 8 && below pb 8 && below func 8
  | .ldw n _ rt _ base off => below n 72 && below rt 64 && below base 32 && signedIn off 13
  | .stw n _ rt _ base off => below n 72 && below rt 64 && below base 32 && signedIn off 13
  | .ldh n _ rt _ base off => below n 72 && below rt 64 && below base 32 && signedIn off 13
  | .ldhu n _ rt _ base off => below n 72 && below rt 64 && below base 32 && signedIn off 13
  | .ldb n _ rt _ base off => below n 72 && below rt 64 && below base 32 && signedIn off 13
  | .ldbu n _ rt _ base off => below n 72 && below rt 64 && below base 32 && signedIn off 13
  | .sth n _ rt _ base off => below n 72 && below rt 64 && below base 32 && signedIn off 13
  | .stb n _ rt _ base off => below n 72 && below rt 64 && below base 32 && signedIn off 13
  | .mac n acc wa gb pg _ _ => below n 72 && below acc 8 && below wa 64 && below gb 32 && below pg 8
  | .msu n acc wa gb pg _ _ => below n 72 && below acc 8 && below wa 64 && below gb 32 && below pg 8
  | .mxMul n acc wa gb pg _ _ => below n 72 && below acc 8 && below wa 64 && below gb 32 && below pg 8
  | .accrd n acc _ rt sh rnd _ pg => below n 72 && below acc 8 && below rt 64 && below sh 64 && below rnd 4 && below pg 8
  | .accwr n acc _ rt sh pg => below n 72 && below acc 8 && below rt 64 && below sh 64 && below pg 8
  | .accshr n acc sh pg => below n 72 && below acc 8 && below sh 64 && below pg 8
  | .accclr n acc pg => below n 72 && below acc 8 && below pg 8
  | .wadd n wd wa wb pg => below n 72 && below wd 64 && below wa 64 && below wb 64 && below pg 8
  | .wsub n wd wa wb pg => below n 72 && below wd 64 && below wa 64 && below wb 64 && below pg 8
  | .wadds n wd wa wb pg => below n 72 && below wd 64 && below wa 64 && below wb 64 && below pg 8
  | .wsubs n wd wa wb pg => below n 72 && below wd 64 && below wa 64 && below wb 64 && below pg 8
  | .wneg n wd wa pg => below n 72 && below wd 64 && below wa 64 && below pg 8
  | .wmov n wd wa pg => below n 72 && below wd 64 && below wa 64 && below pg 8
  | .wfromg n wd g pg => below n 72 && below wd 64 && below g 64 && below pg 8
  | .wtog n g wa pg => below n 72 && below g 64 && below wa 64 && below pg 8
  | .maxi n gd cb gn => below n 72 && below gd 32 && below cb 8 && below gn 32
  | .mini n gd cb gn => below n 72 && below gd 32 && below cb 8 && below gn 32
  | .maxiu n gd cb gn => below n 72 && below gd 32 && below cb 8 && below gn 32
  | .miniu n gd cb gn => below n 72 && below gd 32 && below cb 8 && below gn 32
  | .maxa n gd cb gn => below n 72 && below gd 32 && below cb 8 && below gn 32
  | .fadd n gd ga gb pg => below n 72 && below gd 32 && below ga 32 && below gb 32 && below pg 8
  | .fsub n gd ga gb pg => below n 72 && below gd 32 && below ga 32 && below gb 32 && below pg 8
  | .fmul n gd ga gb pg => below n 72 && below gd 32 && below ga 32 && below gb 32 && below pg 8
  | .fdiv n gd ga gb pg => below n 72 && below gd 32 && below ga 32 && below gb 32 && below pg 8
  | .fsqrt n gd ga pg => below n 72 && below gd 32 && below ga 32 && below pg 8
  | .fmin n gd ga gb pg => below n 72 && below gd 32 && below ga 32 && below gb 32 && below pg 8
  | .fmax n gd ga gb pg => below n 72 && below gd 32 && below ga 32 && below gb 32 && below pg 8
  | .fabs n gd ga pg => below n 72 && below gd 32 && below ga 32 && below pg 8
  | .fneg n gd ga pg => below n 72 && below gd 32 && below ga 32 && below pg 8
  | .feq n gd ga gb pg => below n 72 && below gd 32 && below ga 32 && below gb 32 && below pg 8
  | .flt n gd ga gb pg => below n 72 && below gd 32 && below ga 32 && below gb 32 && below pg 8
  | .fle n gd ga gb pg => below n 72 && below gd 32 && below ga 32 && below gb 32 && below pg 8
  | .fcvtSW n gd ga pg => below n 72 && below gd 32 && below ga 32 && below pg 8
  | .fcvtWS n gd ga pg => below n 72 && below gd 32 && below ga 32 && below pg 8
  | .fcvtSQ n gd ga pg => below n 72 && below gd 32 && below ga 32 && below pg 8
  | .fcvtQS n gd ga pg => below n 72 && below gd 32 && below ga 32 && below pg 8
  | .br n pg _ off => below n 72 && below pg 8 && signedIn off 22
  | .call n pg _ off => below n 72 && below pg 8 && signedIn off 22
  | .jr n gd ga pg => below n 72 && below gd 32 && below ga 32 && below pg 8
  | .loop n off => below n 72 && signedIn off 22
  | .rot n => below n 72
  | .post n gd ga gb => below n 72 && below gd 32 && below ga 32 && below gb 32
  | .done n => below n 72
  | .solve n gd ga gb => below n 72 && below gd 32 && below ga 32 && below gb 32
  | .twait n gd ga gb => below n 72 && below gd 32 && below ga 32 && below gb 32
  | .twaitWake n => below n 72
  | .fence n => below n 72
  | .mtc n ga imm => below n 72 && below ga 32 && below imm 4096
  | .mfc n gd imm => below n 72 && below gd 32 && below imm 4096
  | .eret n => below n 72
  | .trap n imm => below n 72 && below imm 4096
  | .brk n => below n 72
  | .illegal n w => below n 72 && below w 0x100000000
  | .budget n => below n 72
  | .coreHalt q n _ => requesterOk q && below n 72
  | .coreResume q n _ => requesterOk q && below n 72
  | .coreStep q n _ => requesterOk q && below n 72
  | .coreClear q n _ => requesterOk q && below n 72
  | .kernelStart k _ => below k 4
  | .kernelComplete k _ => below k 4
  | .kernelDeadline k _ _ => below k 4
  | .clusterEnable q _ => requesterOk q
  | .clusterDisable q _ => requesterOk q
  | .planStart _ => true
  | .planComplete _ _ => true
  | .planDeadline _ _ => true
  | .adoptSlotWrite q _ => requesterOk q
  | .profileTick => true
  | .axMove q n => requesterOk q && below n 256
  | .axUpdate q n => requesterOk q && below n 256
  | .axStop q n => requesterOk q && below n 256
  | .axQstop q n => requesterOk q && below n 256
  | .axHome q n => requesterOk q && below n 256
  | .axClear q n => requesterOk q && below n 256
  | .limitInputChange n w _ _ _ => below n 256 && below w 3
  | .homeNotFound n => below n 256
  | .cmpFire k _ _ => below k 64
  | .cmpArm q k _ => requesterOk q && below k 64
  | .cmpEnable q k _ => requesterOk q && below k 64
  | .cmpPosWrite q k _ => requesterOk q && below k 64
  | .driverPowerGood g _ => below g 32
  | .driverLost g _ => below g 32
  | .stall n => below n 256
  | .axEnable q n _ => requesterOk q && below n 256
  | .axDisable q n _ => requesterOk q && below n 256
  | .stepOutputEnable q j _ => requesterOk q && below j 32
  | .stepOutputDisable q j _ => requesterOk q && below j 32
  | .fbCountEdge n _ _ _ => below n 32
  | .fbIndexEdge n _ _ _ => below n 32
  | .ssiReadStart n => below n 32
  | .ssiReadEnd n _ _ _ _ => below n 32
  | .fbStillTimeout n => below n 32
  | .wireDisagree n l _ _ _ => below n 32 && below l 3
  | .wireFault n l => below n 32 && below l 3
  | .thresholdWindow n _ _ _ _ => below n 32
  | .fbArmIdx q n => requesterOk q && below n 32
  | .fbLoad q n => requesterOk q && below n 32
  | .fbClear q n => requesterOk q && below n 32
  | .fbEnable q n _ => requesterOk q && below n 32
  | .thallusEvaluation => true
  | .evaluationComplete _ => true
  | .evaluationOverrun => true
  | .safeReportReceive p _ _ _ => below p 8
  | .safetyCycleEnd _ _ _ => true
  | .outputDelayExpiry j => below j 20
  | .darkPulse j _ _ => below j 20
  | .testPulse k _ _ _ _ => below k 4
  | .discrepancyTimeout i => below i 32
  | .safeInputChange i _ _ _ => below i 32
  | .thallusDecodeFault ch => below ch 32
  | .classAFault _ => true
  | .safeCommandSend => true
  | .staled => true
  | .degradedRecordWrite => true
  | .mbOpen q => requesterOk q
  | .mbData q _ => requesterOk q
  | .mbCheck q => requesterOk q
  | .mbCheckComplete => true
  | .mbCommit q => requesterOk q
  | .mbCommitComplete => true
  | .mbClose q => requesterOk q
  | .mbTimeout => true
  | .soArm q c => requesterOk q && below c 8
  | .soStop q c => requesterOk q && below c 8
  | .soForce q c => requesterOk q && below c 8
  | .soSample c _ => below c 8
  | .soTriggerEvent _ groups _ _ => below groups 0x10000
  | .soCaptureEnd c => below c 8
  | .soAutoTimeout c => below c 8
  | .soRearm c => below c 8
  | .soEnable q c _ => requesterOk q && below c 8
  | .soDisable q c _ => requesterOk q && below c 8
  | .domainRequest q d _ => requesterOk q && below d 28
  | .domainDrainEnd d => below d 25
  | .domainStateReached d _ => below d 25
  | .moduleReqTrim q => requesterOk q
  | .moduleReqRun q => requesterOk q
  | .moduleReqHold q => requesterOk q
  | .moduleReqNap q => requesterOk q
  | .wakeGpio _ => true
  | .wakeCt => true
  | .napReloadComplete => true
  | .keepAdd q _ => requesterOk q
  | .keepClr q _ => requesterOk q
  | .thermalTrim _ => true
  | .thermalTrimExit _ => true
  | .thermalThrottle _ => true
  | .voltStep q i _ => requesterOk q && below i 3
  | .voltCheckPass i _ => below i 3
  | .voltCheckFail i _ => below i 3
  | .voltTargetWrite q i _ => requesterOk q && below i 3
  | .avsAdjust i _ => below i 3
  | .healthUpdate sl _ => below sl 18
  | .sliceRetire q _ => requesterOk q
  | .sliceUnretire q _ => requesterOk q
  | .migGo q _ => requesterOk q
  | .migArmed => true
  | .migFreezeCheck _ => true
  | .migAbort q _ => requesterOk q
  | .imgStage q _ => requesterOk q
  | .imgStageComplete => true
  | .imgSwap q _ => requesterOk q
  | .scrubPass mem _ _ _ => below mem 8
  | .eccError mem _ _ _ _ _ _ => below mem 8
  | .journalEvent ev blk code cls _ => below ev 256 && below blk 16 && below code 256 && below cls 4
  | .journalWrite => true
  | .journalSelect q _ => requesterOk q
  | .wdogKick q _ => requesterOk q
  | .wdogKeyTimeout => true
  | .wdogEarly => true
  | .wdogTimeout => true
  | .domainForceOff q _ => requesterOk q
  | .chainEnable q heard _ _ _ => requesterOk q && below heard 16
  | .bridgeTokenReceive t slot tag _ => below t 4096 && below slot 16 && below tag 0x10000
  | .replicationApply round _ _ => below round 0x10000
  | .takeover => true
  | .chainLost => true
  | .mailboxDeposit q _ => requesterOk q
  | .doorbell q _ => requesterOk q
  | .bar2Access _ off _ _ => below off 0x1000000
  | .mntRead wa => below wa 0x1000000
  | .mntWrite wa _ _ => below wa 0x1000000
  | .boot => true
  | .imgWrite q _ => requesterOk q
  | .imgVerify q _ => requesterOk q
  | .imgBoot q _ => requesterOk q
  | .setOwner q => requesterOk q
  | .lock q => requesterOk q
  | .challenge q => requesterOk q
  | .lcVerify q => requesterOk q
  | .password q => requesterOk q
  | .relock q => requesterOk q
  | .setPw q => requesterOk q
  | .accessExpiry => true
  | .authWaitEnd => true
  | .powerUp => true
  | .mrstReset => true
  | .vin12Loss => true
  | .vsioLow => true
  | .vsioReturn => true
  | .syncFrameReceive p _ _ _ _ => below p 8
  | .fbFastEdge n _ => below n 32
  | .functionLevelReset => true
  | .imgCommandComplete => true
  | .journalLoadComplete => true
  | .supercapExhausted => true

end Sys2Proof
end

