-- ==== Sys2Proof/Tests/Slice0.lean ====
section
/-!
SUPPORT. Tests: ill-formed commands, the spec's own worked examples, and for each statement with hypotheses states and
operands that meet them.
-/

open Sys2Proof Sys2Proof.Machine

namespace Sys2Proof.Tests

/-! ## Well-formedness -/

/-- Ill-formed commands, one for each check of `wellFormed`, part 1. -/
theorem test_ill_formed_1 : ([.registerWrite (.core 72) 0 0,
    .registerWrite .host 0x4000000 0,
    .pathEndStop 16,
    .refReturn 3,
    .divFault 8,
    .timeCaptureEvent 256 true 0,
    .swtrig .host 8 0,
    .heTxHead 2 0,
    .heTxHead 0 8,
    .klPortEnable .host 8 0,
    .ulMiss 0 4096,
    .scheduleEntryWrite .host 8 0 0,
    .scheduleEntryWrite .host 0 16384 0,
    .tick 64,
    .instanceDeadline 4096 0,
    .instanceDeadline 0 0x10000,
    .templateWrite .host 0 8 0,
    .flowWrite .host 4096 0 0,
    .flowWrite .host 0 2 0,
    .add 72 0 0 0 0,
    .add 0 32 0 0 0,
    .add 0 0 32 0 0,
    .add 0 0 0 32 0,
    .add 0 0 0 0 8,
    .addi 0 0 0 0x10000,
    .shi 0 0 0 4 0] : List Instr).all (fun i => !wellFormed i) = true := by decide

/-- Ill-formed commands, one for each check of `wellFormed`, part 2. -/
theorem test_ill_formed_2 : ([.shi 0 0 0 0 32,
    .cmp 0 8 0 0 0 0,
    .cmp 0 0 0 0 0 16,
    .cmpi 0 0 8 0 0,
    .cmpi 0 0 0 0 0x8000,
    .plog 0 0 8 0 0,
    .plog 0 0 0 8 0,
    .plog 0 0 0 0 8,
    .ldw 0 true 64 true 0 0,
    .ldw 0 true 0 true 32 0,
    .ldw 0 true 0 true 0 4096,
    .mac 0 8 0 0 0 true true,
    .mac 0 0 64 0 0 true true,
    .accrd 0 0 true 0 64 0 true 0,
    .accrd 0 0 true 0 0 4 true 0,
    .wadd 0 64 0 0 0,
    .wadd 0 0 0 64 0,
    .wfromg 0 0 64 0,
    .maxi 0 0 8 0,
    .maxi 0 0 0 32,
    .br 0 0 true 2097152,
    .mtc 0 0 4096,
    .illegal 0 0x100000000,
    .kernelStart 4 0,
    .axMove .host 256,
    .limitInputChange 0 3 true 0 0] : List Instr).all (fun i => !wellFormed i) = true := by decide

/-- Ill-formed commands, one for each check of `wellFormed`, part 3. -/
theorem test_ill_formed_3 : ([.driverPowerGood 32 0,
    .stepOutputEnable .host 32 0,
    .fbCountEdge 32 0 0 0,
    .wireDisagree 0 3 true 0 0,
    .outputDelayExpiry 20,
    .discrepancyTimeout 32,
    .thallusDecodeFault 32,
    .soArm .host 8,
    .soTriggerEvent 0 0x10000 true 0,
    .domainRequest .host 28 0,
    .domainDrainEnd 25,
    .voltStep .host 3 0,
    .healthUpdate 18 0,
    .scrubPass 8 0 0 0,
    .journalEvent 256 0 0 0 [],
    .journalEvent 0 16 0 0 [],
    .journalEvent 0 0 256 0 [],
    .journalEvent 0 0 0 4 [],
    .chainEnable .host 16 true true 0,
    .bridgeTokenReceive 0 16 0 0,
    .replicationApply 0x10000 [] [],
    .bar2Access true 0x1000000 0 [],
    .mntRead 0x1000000] : List Instr).all (fun i => !wellFormed i) = true := by decide

/-- Well-formed commands. -/
theorem test_well_formed : ([.cutoff, .add 71 31 31 31 7, .ldw 0 true 63 true 7 (-4096), .br 3 7 true 2097151,
    .domainRequest (.core 71) 27 0, .thallusEvaluation] : List Instr).all wellFormed = true := by decide

/-! ## States to start from -/

def live : State :=
  { State.reset with regs := (List.range 24).map (fun d => (31457540 + 16 * d, 0#32)) ++ [(33555456, 3#32)] }.setFd F.CLK_STAT_PLL_LOCK 0 0 1
def onCore (c : Core) (n : Nat := 0) : State := live.setCore n c
def pairA (c : Core) (n : Nat := 0) : State := (onCore { c with pc := 0x100 } n).coreWrite n 0x104 (leBytes 4 (12*2^26))
def pairB (c : Core) (n : Nat := 0) : State := onCore { c with pair := some { next := 0x300, rrb := 9 } } n
def rc : Core := { coreReset with run := .run, pc := 0x100, p := 0xFB }
def set (s : State) (l : List (Machine.Field × Nat × Nat)) : State := l.foldl (fun s e => s.setFd e.1 e.2.1 0 e.2.2) s
def setR (s : State) (l : List (Reg × Nat × Nat)) : State := l.foldl (fun s e => s.setRg e.1 e.2.1 0 e.2.2) s
def fw (f : Machine.Field) (n : Nat) : Nat := n * 2^f.lo
def W (l : List (Machine.Field × Nat)) : Word := BitVec.ofNat 32 (l.foldl (fun a e => a + fw e.1 e.2) 0)
def putS (s : State) (a : Nat) (bs : List Byte) : State :=
  { s with mem := { s.mem with sram := Mem.writeN s.mem.sram a bs } }
def bn (l : List (Nat × Nat)) : List Byte := (l.map (fun e => leBytes e.1 e.2)).flatten
def agb (axes caps fl first credit late seq : Nat) (model : Nat := 0) : List Byte :=
  bn [(1,0),(1,axes),(1,caps),(1,fl),(2,first),(1,credit),(1,late),(2,seq),(26,0),(4,2^30),(12,0),(4,5000),(4,model),(4,100000)]
def secs : List (Nat × Nat × Nat) := [(0x01,272,32),(0x02,304,8192),(0x03,8496,256),(0x04,8752,16),(0x05,8768,160),(0x06,8928,768),(0x10,9696,32),(0x11,9728,1024),(0x12,10752,16384),(0x13,27136,6144),(0x14,33280,5120),(0x15,38400,512),(0x16,38912,200)]
def wr (m : List (Nat × Byte)) (a : Nat) (l : List (Nat × Nat)) : List (Nat × Byte) := Mem.writeN m a (bn l)
def q1 : List (Nat × Nat) := [(4,2^30),(4,0),(4,0),(4,0)]
def imgBase (sz : Nat) : List (Nat × Byte) :=
  let m := wr [] 0 [(2,1),(2,13),(4,sz)]
  let m := secs.zipIdx.foldl (fun m e => wr m (64 + 16 * e.2) [(1,e.1.1),(3,0),(4,e.1.2.1),(4,e.1.2.2)]) m
  let m := wr m 272 [(4,65536),(2,60),(1,0),(1,0),(4,65536),(4,7)]
  let m := wr m 8496 [(1,3),(1,0xFF),(1,0),(1,0),(2,0),(1,5),(1,5)]
  let m := (List.range 31).foldl (fun m e => wr m (8928 + 24 * (e+1)) [(1,0xFF)]) m
  let m := wr m 9696 [(4,1600),(4,1000),(4,100),(4,65536),(2,0xFFFF),(1,1),(1,0)]
  let m := wr m (9728 + 64*3) [(1,3),(1,1),(1,1),(1,1),(1,1),(1,0),(14,0),(4,2^30),(12,0),(12,0),(4,1000),(4,5000),(4,50)]
  let m := wr m (10752 + 64*48) ([(1,0),(1,0xFF),(1,1),(1,3),(4,0),(12,0)] ++ q1 ++ [(4,0),(4,0),(4,2^30),(4,0)])
  let m := wr m (27136 + 32*36) [(1,3),(1,0),(1,0),(1,1),(4,655360),(4,0),(4,0),(4,655360),(4,0),(4,65536),(4,6000)]
  let m := wr m 38912 [(1,3),(1,1),(1,2),(5,0),(4,0),(4,100),(4,100),(4,2^30),(4,1000),(4,1000)]
  wr m 8928 [(1,3),(1,0),(1,1),(1,0),(1,12),(1,0),(1,0),(1,9),(1,3),(1,0),(2,0),(4,65536),(4,10),(4,5)]
def imgFull : List (Nat × Byte) :=
  let m := imgBase 39112
  let m := wr m 304 [(2,6),(1,1),(1,1),(4,9)]
  let m := wr m 38400 [(2,6),(1,2),(1,1),(2,8),(1,1),(1,0),(4,100),(4,60000),(4,20),(4,30)]
  let m := wr m (8496+16) [(1,1),(1,1),(1,1),(1,1),(2,8),(1,5),(1,5)]
  let m := wr m (8496+8*5) [(1,2),(1,0),(1,0),(1,1),(2,8),(1,5),(1,5)]
  let m := wr m 8752 [(2,300),(2,20),(2,300),(2,20)]
  let m := wr m (8768 + 8*4) [(2,8),(1,2),(1,5),(2,100),(2,2)]
  let m := wr m (8928+24) [(1,7),(1,1),(1,0),(1,0),(1,0),(1,0),(1,0),(1,9),(1,3),(1,0),(2,0),(4,65536),(4,10),(4,5)]
  m
def bank (m : List (Nat × Byte)) (b : Nat) : List (Nat × Byte) := m.map (fun e => (e.1 + b * 0x100000, e.2))

/-! ## The spec's encodings and worked examples -/

/-- Words written out from the fields of R188 and the opcodes of R189: ADD g3, g1, g2; ADDI g1, g2, 5; LDW g4, [g5 - 4];
CMP.LT p2, g1, g2; MAC acc1, w2, g3; BR p0, -2; an all-zero word is illegal. -/
theorem test_velist_words :
    velistDecode 0 (1 * 2 ^ 26 + 3 * 2 ^ 21 + 1 * 2 ^ 16 + 2 * 2 ^ 11) = some (.add 0 3 1 2 0) ∧
    velistDecode 0 (2 * 2 ^ 26 + 1 * 2 ^ 21 + 2 * 2 ^ 16 + 5) = some (.addi 0 1 2 5) ∧
    velistDecode 0 (0x0C * 2 ^ 26 + 4 * 2 ^ 19 + 5 * 2 ^ 13 + (2 ^ 13 - 4)) = some (.ldw 0 false 4 false 5 (-4)) ∧
    velistDecode 0 (8 * 2 ^ 26 + 2 * 2 ^ 23 + 1 * 2 ^ 16 + 2 * 2 ^ 11 + 2 * 2 ^ 4) = some (.cmp 0 2 1 2 0 2) ∧
    velistDecode 0 (0x14 * 2 ^ 26 + 1 * 2 ^ 23 + 2 * 2 ^ 17 + 3 * 2 ^ 12) = some (.mac 0 1 2 3 0 false false) ∧
    velistDecode 0 (0x20 * 2 ^ 26 + (2 ^ 22 - 2)) = some (.br 0 0 false (-2)) ∧
    velistDecode 0 0 = none := by decide +kernel

/-- The number format example of chapter 0: 1,250.5 mm is 0x04E2_8000, lowest byte first. -/
theorem test_length_bytes : leBytes 4 (12505 * 65536 / 10) = [0x00, 0x80, 0xE2, 0x04] := by decide +kernel

/-- A core whose registers are w2 = 1.0 mm in Q15.16, g3 = 0.25 in Q2.30 and acc1 = 2^44. -/
def exampleCore : Core := { rc with w := [(2, 0x10000)], g := [(3, 0x10000000)] }

/-- The example of R198: 0x0001_0000 times 0x1000_0000 is 2^44. -/
theorem test_mac_example : (match exec (.mac 0 1 2 3 0 false false) (onCore exampleCore) with
    | .next t => decide ((t.core 0).ac 1 = 2 ^ 44 ∧ (t.core 0).aovf = false) | _ => false) = true := by decide +kernel

/-- The example of R198: ACCRD with sh = 30 gives 0x0000_4000, and FLAGS.SAT stays 0. -/
theorem test_accrd_example :
    (match exec (.accrd 0 1 false 4 30 0 true 0) (onCore { exampleCore with acc := [(1, 2 ^ 44)] }) with
    | .next t => decide ((t.core 0).gr 4 = 0x4000 ∧ (t.core 0).sat = false) | _ => false) = true := by decide +kernel

/-- R191: ADD wraps, and ADDS saturates and sets FLAGS.SAT. -/
theorem test_add_wraps : (match exec (.add 0 4 1 1 0) (onCore { rc with g := [(1, 0x7FFFFFFF)] }) with
    | .next t => decide ((t.core 0).gr 4 = 0xFFFFFFFE ∧ (t.core 0).sat = false) | _ => false) = true := by decide +kernel

theorem test_adds_saturates : (match exec (.adds 0 1 1 1 0) (onCore { rc with g := [(1, 0x7FFFFFFF)] }) with
    | .next t => decide ((t.core 0).gr 1 = 0x7FFFFFFF ∧ (t.core 0).sat = true) | _ => false) = true := by decide +kernel

/-- R200: a LOOP that finds LC = 0 sets LC to 0xFFFF_FFFF and branches. -/
theorem test_loop_at_zero : (match exec (.loop 0 (-2)) (onCore rc) with
    | .next t => decide ((t.core 0).lc = 0xFFFFFFFF ∧ (t.core 0).rrb = 63) | _ => false) = true := by decide +kernel

/-- The example of R70: TIM_PT_INC_LO = 0x6B60, then TIM_PT_INC_HI = 2, within the window. -/
theorem test_pt_increment_example :
    (match exec (.registerWrite .host (Reg.addr .TIM_PT_INC_LO 0 0) 0x6B60) live with
    | .next s => (match exec (.ptIncSet .host 2) s with
      | .next t => decide (t.rg64 .TIM_PT_INC_LO .TIM_PT_INC_HI = 2 * 2 ^ 32 + 0x6B60 ∧ t.fd F.TIM_PT_CTL_REFUSE = 0) | _ => false)
    | _ => false) = true := by decide +kernel

/-- The check value of CRC-32C: of the nine bytes 1 to 9 in ASCII (log 6). -/
theorem test_crc_check_value : crc32c [0x31, 0x32, 0x33, 0x34, 0x35, 0x36, 0x37, 0x38, 0x39] = 0xE3069283 := by decide +kernel

/-- The SHA-256 test vector of the message "abc" (log 51). -/
theorem test_sha256_abc : sha256 [0x61, 0x62, 0x63] =
    0xba7816bf8f01cfea414140de5dae2223b00361a396177a9cb410ff61f20015ad := by decide +kernel

/-! ## The hypotheses of the statements are met -/

namespace RegisterAluWrites

def tab (l : List Nat) : List (Nat × Word) := l.zipIdx.filterMap (fun (x,i) => if x = 0 then none else some (i, BitVec.ofNat 32 x))
def c1 : Core := { rc with g := tab [0,5,0x80000000,0xFFFFFFFF,0x7FFFFFFF,0x12345678,0,3,0,0,0,0,0,0,0,0,0,0,0,0,0,0,0,0,0,0,0,0,0,0,7,9],
                           w := tab [7,0x80000000,3,0xFFFFFFFF,0x7FFFFFFF,12,99,1,2,3,4,5], acc := [(0, 5), (1, BitVec.ofInt 72 (2^71-1)), (2, BitVec.ofInt 72 (-(2^71))), (3, BitVec.ofInt 72 (-0x1234567890))], p := 0x3B }
/-- States and operands that meet the hypotheses of `Obligations.RegisterAluWrites`, clause by clause. -/
theorem test_premises : [
    decide (let s : State := pairA c1
    let n : Nat := 0
    let pg : Nat := 4
    s.ready n = true ∧
    (s.core n).pr pg = true)].all id = true := by decide +kernel
end RegisterAluWrites

namespace ImmediateAluWrites

def tab (l : List Nat) : List (Nat × Word) := l.zipIdx.filterMap (fun (x,i) => if x = 0 then none else some (i, BitVec.ofNat 32 x))
def c1 : Core := { rc with g := tab [0,5,0x80000000,0xFFFFFFFF,0x7FFFFFFF,0x12345678,0,3,0,0,0,0,0,0,0,0,0,0,0,0,0,0,0,0,0,0,0,0,0,0,7,9],
                           w := tab [7,0x80000000,3,0xFFFFFFFF,0x7FFFFFFF,12,99,1,2,3,4,5], acc := [(0, 5), (1, BitVec.ofInt 72 (2^71-1)), (2, BitVec.ofInt 72 (-(2^71))), (3, BitVec.ofInt 72 (-0x1234567890))], p := 0x3B }
/-- States and operands that meet the hypotheses of `Obligations.ImmediateAluWrites`, clause by clause. -/
theorem test_premises : [
    decide (let s : State := onCore c1
    let n : Nat := 0
    let sh : Nat := 0
    s.ready n = true ∧
    sh < 32)].all id = true := by decide +kernel
end ImmediateAluWrites

namespace ComparesAndRotatingGroup

def tab (l : List Nat) : List (Nat × Word) := l.zipIdx.filterMap (fun (x,i) => if x = 0 then none else some (i, BitVec.ofNat 32 x))
def c1 : Core := { rc with g := tab [0,5,0x80000000,0xFFFFFFFF,0x7FFFFFFF,0x12345678,0,3,0,0,0,0,0,0,0,0,0,0,0,0,0,0,0,0,0,0,0,0,0,0,7,9],
                           w := tab [7,0x80000000,3,0xFFFFFFFF,0x7FFFFFFF,12,99,1,2,3,4,5], acc := [(0, 5), (1, BitVec.ofInt 72 (2^71-1)), (2, BitVec.ofInt 72 (-(2^71))), (3, BitVec.ofInt 72 (-0x1234567890))], p := 0x3B }
def c2 : Core := { c1 with rrb := 61, sat := true, satCnt := 0xFFFFFFFF, aovfCnt := 3, lc := 1 }
/-- States and operands that meet the hypotheses of `Obligations.ComparesAndRotatingGroup`, clause by clause. -/
theorem test_premises : [
    decide (let s : State := onCore c1
    let n : Nat := 0
    let pg : Nat := 0
    s.ready n = true ∧
    (let c := s.core n
    let cond : Nat := 3
    cond < 8 ∧
    c.pr pg = true)),
    decide (let s : State := pairA c2
    let n : Nat := 0
    s.ready n = true ∧
    (let func : Nat := 1
    func < 7)),
    decide (let s : State := pairA c2
    let n : Nat := 0
    let g : Nat := 0
    let pg : Nat := 0
    s.ready n = true ∧
    (s.core n).pr pg = true ∧
    g < 32),
    decide (let s : State := onCore c1
    let n : Nat := 0
    s.ready n = true ∧
    (s.core n).handler = false)].all id = true := by decide +kernel
end ComparesAndRotatingGroup

namespace Accumulators

def tab (l : List Nat) : List (Nat × Word) := l.zipIdx.filterMap (fun (x,i) => if x = 0 then none else some (i, BitVec.ofNat 32 x))
def c1 : Core := { rc with g := tab [0,5,0x80000000,0xFFFFFFFF,0x7FFFFFFF,0x12345678,0,3,0,0,0,0,0,0,0,0,0,0,0,0,0,0,0,0,0,0,0,0,0,0,7,9],
                           w := tab [7,0x80000000,3,0xFFFFFFFF,0x7FFFFFFF,12,99,1,2,3,4,5], acc := [(0, 5), (1, BitVec.ofInt 72 (2^71-1)), (2, BitVec.ofInt 72 (-(2^71))), (3, BitVec.ofInt 72 (-0x1234567890))], p := 0x3B }
def c2 : Core := { c1 with rrb := 61, sat := true, satCnt := 0xFFFFFFFF, aovfCnt := 3, lc := 1 }
/-- States and operands that meet the hypotheses of `Obligations.Accumulators`, clause by clause. -/
theorem test_premises : [
    decide (let s : State := pairB { c2 with handler := true }
    let n : Nat := 0
    let wa : Nat := 3
    let gb : Nat := 30
    let pg : Nat := 0
    let d : Bool := true
    s.readyB n = true ∧
    (s.core n).pr pg = true ∧
    (d = true → gb ≤ 30 ∧ wa ≤ 62)),
    decide (let s : State := pairB c1
    let n : Nat := 0
    let rt : Nat := 1
    let sh : Nat := 1
    let pg : Nat := 1
    let f : Bool := false
    s.readyB n = true ∧
    (s.core n).pr pg = true ∧
    sh < 64 ∧
    rt < 64 ∧
    (f = false → rt < 32) ∧
    (let rnd : Nat := 1
    rnd < 3 ∧
    f = false)),
    decide (let s : State := pairA c2
    let n : Nat := 0
    let rt : Nat := 1
    let sh : Nat := 0
    let pg : Nat := 0
    let f : Bool := true
    s.readyB n = true ∧
    (s.core n).pr pg = true ∧
    sh < 64 ∧
    rt < 64 ∧
    (f = false → rt < 32) ∧
    (let rnd : Nat := 1
    rnd < 3 ∧
    f = true)),
    decide (let s : State := onCore c1
    let n : Nat := 0
    s.readyB n = true ∧
    (s.core n).handler = false)].all id = true := by decide +kernel
end Accumulators

namespace FalsePredicateWritesNothing

def tab (l : List Nat) : List (Nat × Word) := l.zipIdx.filterMap (fun (x,i) => if x = 0 then none else some (i, BitVec.ofNat 32 x))
def c1 : Core := { rc with g := tab [0,5,0x80000000,0xFFFFFFFF,0x7FFFFFFF,0x12345678,0,3,0,0,0,0,0,0,0,0,0,0,0,0,0,0,0,0,0,0,0,0,0,0,7,9],
                           w := tab [7,0x80000000,3,0xFFFFFFFF,0x7FFFFFFF,12,99,1,2,3,4,5], acc := [(0, 5), (1, BitVec.ofInt 72 (2^71-1)), (2, BitVec.ofInt 72 (-(2^71))), (3, BitVec.ofInt 72 (-0x1234567890))], p := 0x3B }
def c2 : Core := { c1 with rrb := 61, sat := true, satCnt := 0xFFFFFFFF, aovfCnt := 3, lc := 1 }
/-- States and operands that meet the hypotheses of `Obligations.FalsePredicateWritesNothing`, clause by clause. -/
theorem test_premises : [
    decide (let s : State := pairA c2
    let n : Nat := 0
    let a : Nat := 0
    let b : Nat := 2
    let pg : Nat := 31
    let f : Bool := false
    let rnd : Nat := 1
    let cond : Nat := 5
    (s.core n).pr pg = false ∧
    rnd < 3 ∧
    cond < 8 ∧
    (f = false → b < 32) ∧
    a < 32 ∧
    s.ready n = true),
    decide (let s : State := pairA c2
    let n : Nat := 0
    let a : Nat := 0
    let b : Nat := 2
    let pg : Nat := 31
    let f : Bool := false
    let rnd : Nat := 1
    let cond : Nat := 5
    (s.core n).pr pg = false ∧
    rnd < 3 ∧
    cond < 8 ∧
    (f = false → b < 32) ∧
    a < 32 ∧
    s.ready n = true),
    decide (let s : State := pairA c2
    let n : Nat := 0
    let a : Nat := 0
    let b : Nat := 2
    let pg : Nat := 31
    let f : Bool := false
    let rnd : Nat := 1
    let cond : Nat := 5
    (s.core n).pr pg = false ∧
    rnd < 3 ∧
    cond < 8 ∧
    (f = false → b < 32) ∧
    a < 32 ∧
    s.readyB n = true)].all id = true := by decide +kernel
end FalsePredicateWritesNothing

namespace FloatArithmetic

def tab (l : List Nat) : List (Nat × Word) := l.zipIdx.filterMap (fun (x,i) => if x = 0 then none else some (i, BitVec.ofNat 32 x))
def fl : List Nat := [0x3F800000, 0x40490FDB, 0xBF000000, 0x80000000, 0x7F800000, 0xFF800000, 0x7FC00001, 0x7F800001, 0x00000001, 0x807FFFFF, 0x7F7FFFFF, 0x4B000000, 0x4F000000, 0xCF000001,0x00800000,0x3EAAAAAB]
def cf (f : Nat) : Core := { rc with g := tab ([0] ++ fl), fpsr := BitVec.ofNat 32 f, p := 0xFF }
/-- States and operands that meet the hypotheses of `Obligations.FloatArithmetic`, clause by clause. -/
theorem test_premises : [
    decide (let s : State := onCore (cf 0)
    let n : Nat := 0
    let pg : Nat := 9
    s.ready n = true ∧
    (s.core n).pr pg = true),
    decide (let s : State := pairA (cf 0)
    let n : Nat := 0
    let gd : Nat := 4
    let pg : Nat := 11
    s.ready n = true ∧
    (s.core n).pr pg = true ∧
    gd % 32 ≠ 0)].all id = true := by decide +kernel
end FloatArithmetic

namespace FloatComparesAndConverts

def tab (l : List Nat) : List (Nat × Word) := l.zipIdx.filterMap (fun (x,i) => if x = 0 then none else some (i, BitVec.ofNat 32 x))
def fl : List Nat := [0x3F800000, 0x40490FDB, 0xBF000000, 0x80000000, 0x7F800000, 0xFF800000, 0x7FC00001, 0x7F800001, 0x00000001, 0x807FFFFF, 0x7F7FFFFF, 0x4B000000, 0x4F000000, 0xCF000001,0x00800000,0x3EAAAAAB]
def cf (f : Nat) : Core := { rc with g := tab ([0] ++ fl), fpsr := BitVec.ofNat 32 f, p := 0xFF }
/-- States and operands that meet the hypotheses of `Obligations.FloatComparesAndConverts`, clause by clause. -/
theorem test_premises : [
    decide (let s : State := onCore (cf 0)
    let n : Nat := 0
    let ga : Nat := 3
    let gb : Nat := 0
    let pg : Nat := 0
    s.ready n = true ∧
    (s.core n).pr pg = true ∧
    (let c := s.core n
    let wa := c.gr ga
    let wb := c.gr gb
    let a := Flt.of wa.toNat
    let b := Flt.of wb.toNat
    a.isNan = false ∧
    b.isNan = false ∧
    fltLess a b = true)),
    decide (let s : State := pairA (cf 0)
    let n : Nat := 0
    let ga : Nat := 0
    let gb : Nat := 12
    let pg : Nat := 15
    s.ready n = true ∧
    (s.core n).pr pg = true ∧
    (let c := s.core n
    let a := Flt.of (c.gr ga).toNat
    let b := Flt.of (c.gr gb).toNat
    (a.isNan || b.isNan) = false)),
    decide (let s : State := pairA (cf 0)
    let n : Nat := 0
    let ga : Nat := 8
    let gb : Nat := 14
    let pg : Nat := 11
    s.ready n = true ∧
    (s.core n).pr pg = true ∧
    (let c := s.core n
    let a := Flt.of (c.gr ga).toNat
    let b := Flt.of (c.gr gb).toNat
    (a.isNan || b.isNan) = true)),
    decide (let s : State := pairA (cf 0)
    let n : Nat := 0
    let ga : Nat := 8
    let pg : Nat := 11
    s.ready n = true ∧
    (s.core n).pr pg = true ∧
    (let c := s.core n
    let a := Flt.of (c.gr ga).toNat
    a.isNan = true))].all id = true := by decide +kernel
end FloatComparesAndConverts

namespace BranchesLoopsAndBundles

def tab (l : List Nat) : List (Nat × Word) := l.zipIdx.filterMap (fun (x,i) => if x = 0 then none else some (i, BitVec.ofNat 32 x))
def c1 : Core := { rc with g := tab [0,4,0x80000000,0xFFFFFFFF,0x7FFFFFFF,0x12345678,100,0,0,0,10,0,0,0,0,0,0,0,0,0,0,0,0,0,0,0,0,0,0,0,7,9],
                           p := 0x3B, lc := 1, rrb := 0 }
def stwAt (c : Core) (x : Nat) : State := (onCore { c with pc := 0x100 } 0).coreWrite 0 0x104 (leBytes 4 (13*2^26 + x))
/-- States and operands that meet the hypotheses of `Obligations.BranchesLoopsAndBundles`, clause by clause. -/
theorem test_premises : [
    decide (let s : State := onCore { c1 with lc := 0, rrb := 61, handler := true }
    let n : Nat := 0
    let ga : Nat := 2
    let pg : Nat := 3
    s.ready n = true ∧
    (let c := s.core n
    c.pr pg = true ∧
    (c.gr ga).toNat % 4 = 0)),
    decide (let s : State := stwAt c1 (2^25 + 2^13 + 8)
    let n : Nat := 0
    let rt : Nat := 0
    let base : Nat := 1
    let f : Bool := true
    let off' : Int := 8
    s.ready n = true ∧
    (let c := s.core n
    let a := c.gr base + BitVec.ofInt 32 off'
    let i := Instr.stw n f rt false base off'
    fetchable (c.pc + 4).toNat = true ∧
    velistDecode n (s.wordAt n (c.pc + 4).toNat 4) = some i ∧
    s.inWritable n a.toNat = true ∧
    a.toNat % 4 = 0)),
    decide (let s : State := stwAt { c1 with lc := 5, rrb := 4 } (2^13 + 2^19+1)
    let n : Nat := 0
    let rt : Nat := 1
    let base : Nat := 1
    let f : Bool := false
    let off' : Int := 1
    s.ready n = true ∧
    (let c := s.core n
    let a := c.gr base + BitVec.ofInt 32 off'
    let i := Instr.stw n f rt false base off'
    fetchable (c.pc + 4).toNat = true ∧
    velistDecode n (s.wordAt n (c.pc + 4).toNat 4) = some i ∧
    a.toNat % 4 ≠ 0 ∧
    c.handler = false)),
    decide (let s : State := stwAt c1 (2^25 + 2^13 + 8)
    let n : Nat := 0
    let rt : Nat := 0
    let base : Nat := 1
    let gd : Nat := 1
    let f : Bool := true
    let off' : Int := 8
    s.ready n = true ∧
    (let c := s.core n
    let i := Instr.stw n f rt false base off'
    fetchable (c.pc + 4).toNat = true ∧
    velistDecode n (s.wordAt n (c.pc + 4).toNat 4) = some i ∧
    gd ≠ 0 ∧
    gd < 32 ∧
    (gd = base ∨ (f = false ∧ gd = rt))))].all id = true := by decide +kernel
end BranchesLoopsAndBundles

namespace PostSolveAndDone

def tab (l : List Nat) : List (Nat × Word) := l.zipIdx.filterMap (fun (x,i) => if x = 0 then none else some (i, BitVec.ofNat 32 x))
def c1 : Core := { rc with g := tab [0,4,0x80000000,0xFFFFFFFF,0x7FFFFFFF,0x12345678,100,0,0,0,10,0,0,0,0,0,0,0,0,0,0,0,0,0,0,0,0,0,0,0,7,9],
                           p := 0x3B, lc := 1, rrb := 0 }
def sv : Service := { tpl := 3, tag := 9, flow := 7, lcore := 0, sched := none, ahead := false, early := false, planSeq := 0, bank := 0 }
/-- States and operands that meet the hypotheses of `Obligations.PostSolveAndDone`, clause by clause. -/
theorem test_premises : [
    decide (let s : State := onCore { c1 with lc := 0, rrb := 61, handler := true }
    let n : Nat := 0
    let ga : Nat := 4
    s.ready n = true ∧
    (let c := s.core n
    let a := (c.gr ga).toNat
    a % 2 ^ 16 = 0xFFFF)),
    decide (let s : State := onCore c1
    let n : Nat := 0
    let ga : Nat := 2
    s.ready n = true ∧
    (let c := s.core n
    let a := (c.gr ga).toNat
    a % 2 ^ 16 ≠ 0xFFFF)),
    decide (let s : State := onCore { c1 with lc := 0, rrb := 61, handler := true }
    let n : Nat := 0
    let gb : Nat := 0
    s.ready n = true ∧
    gb % 32 = 0),
    decide (let s : State := onCore { c1 with lc := 5, svc := some sv, handler := true }
    let n : Nat := 0
    s.ready n = true)].all id = true := by decide +kernel
end PostSolveAndDone

namespace WaitsUntilTheInstant

def tab (l : List Nat) : List (Nat × Word) := l.zipIdx.filterMap (fun (x,i) => if x = 0 then none else some (i, BitVec.ofNat 32 x))
def c1 : Core := { rc with g := tab [0,4,0x80000000,0xFFFFFFFF,0xFFFF,0x12345678,100,0,0,0,1000000100,0,2000000000],
                           p := 0x3B, lc := 1, rrb := 0, vbar := 0x4000, cb := tab [0,1,2,0x10,0x40,4] }
/-- States and operands that meet the hypotheses of `Obligations.WaitsUntilTheInstant`, clause by clause. -/
theorem test_premises : [
    decide (let s : State := { onCore c1 with time := { live.time with ct := 100 * 2^32 } }
    let n : Nat := 0
    let ga : Nat := 50
    s.ready n = true ∧
    ga % 2 = 0 ∧
    (let c := s.core n
    let t := (c.gr ga).toNat + 2 ^ 32 * (c.gr (ga + 1)).toNat
    t * 2 ^ 32 ≤ s.time.ct)),
    decide (let s : State := { onCore c1 with time := { live.time with ct := 100 * 2^32 + 3 } }
    let n : Nat := 0
    let ga : Nat := 0
    s.ready n = true ∧
    ga % 2 = 0 ∧
    (let c := s.core n
    let t := (c.gr ga).toNat + 2 ^ 32 * (c.gr (ga + 1)).toNat
    s.time.ct < t * 2 ^ 32 ∧
    s.ctNs + 1000000000 < t)),
    decide (let s : State := pairA c1
    let n : Nat := 0
    let ga : Nat := 6
    s.ready n = true ∧
    ga % 2 = 0 ∧
    (let c := s.core n
    let t := (c.gr ga).toNat + 2 ^ 32 * (c.gr (ga + 1)).toNat
    s.time.ct < t * 2 ^ 32 ∧
    t ≤ s.ctNs + 1000000000)),
    decide (let s : State := onCore { c1 with run := .wait, twait := some 50, twaitRd := 3 }
    let n : Nat := 0
    (s.core n).run = .wait ∧
    ((s.core n).twait).any (fun t => decide (s.clockOn = true ∧
    0 < s.time.ctInc ∧
    s.time.ctLoad = none ∧
    t * 2 ^ 32 + s.time.ctInc < 2 ^ 96 ∧
    s.time.ct < 2 ^ 96 ∧
    (let c := s.core n
    let late := c.budgetDue = true ∨ (c.svc.isSome = true ∧ 0 < c.budget ∧ s.time.ct + s.time.ctInc * (c.budget - 1) < t * 2 ^ 32)
    (¬ late)))) = true),
    decide (let s : State := onCore { c1 with run := .wait, twait := some 50, twaitRd := 3, budgetDue := true }
    let n : Nat := 0
    (s.core n).run = .wait ∧
    ((s.core n).twait).any (fun t => decide (s.clockOn = true ∧
    0 < s.time.ctInc ∧
    s.time.ctLoad = none ∧
    t * 2 ^ 32 + s.time.ctInc < 2 ^ 96 ∧
    s.time.ct < 2 ^ 96 ∧
    (let c := s.core n
    let late := c.budgetDue = true ∨ (c.svc.isSome = true ∧ 0 < c.budget ∧ s.time.ct + s.time.ctInc * (c.budget - 1) < t * 2 ^ 32)
    late ∧
    c.pair = none ∧
    c.handler = false))) = true)].all id = true := by decide +kernel
end WaitsUntilTheInstant

namespace ControlRegisters

def tab (l : List Nat) : List (Nat × Word) := l.zipIdx.filterMap (fun (x,i) => if x = 0 then none else some (i, BitVec.ofNat 32 x))
def c1 : Core := { rc with g := tab [0,4,0x80000000,0xFFFFFFFF,0xFFFF,0x12345678,100,0,0,0,1000000100,0,2000000000],
                           p := 0x3B, lc := 1, rrb := 0, vbar := 0x4000, cb := tab [0,1,2,0x10,0x40,4] }
/-- States and operands that meet the hypotheses of `Obligations.ControlRegisters`, clause by clause. -/
theorem test_premises : [
    decide (let s : State := onCore { c1 with handler := true, epc := 0x2004, estatus := 0, budget := 10, fpsr := 0x11F }
    let n : Nat := 0
    s.ready n = true),
    decide (let s : State := onCore { c1 with handler := true, epc := 0x2004, estatus := 0, budget := 10, fpsr := 0x11F }
    let n : Nat := 0
    s.ready n = true ∧
    (let c := s.core n
    c.handler = true)),
    decide (let s : State := onCore { c1 with handler := true, epc := 0x2004, estatus := 0, budget := 10, fpsr := 0x11F }
    let n : Nat := 0
    s.ready n = true ∧
    (let k : Nat := 0
    let j : Nat := 0
    k < 8 ∧
    j < 3)),
    decide (let s : State := onCore { c1 with handler := true, epc := 0x2004, estatus := 0, budget := 10, fpsr := 0x11F }
    let n : Nat := 0
    s.ready n = true),
    decide (let s : State := onCore { c1 with handler := true, epc := 0x2004, estatus := 0, budget := 10, fpsr := 0x11F }
    let n : Nat := 0
    s.ready n = true ∧
    (let c := s.core n
    c.handler = true))].all id = true := by decide +kernel
end ControlRegisters

namespace ExceptionsEnter

def tab (l : List Nat) : List (Nat × Word) := l.zipIdx.filterMap (fun (x,i) => if x = 0 then none else some (i, BitVec.ofNat 32 x))
def c1 : Core := { rc with g := tab [0,4,0x80000000,0xFFFFFFFF,0xFFFF,0x12345678,100,0,0,0,1000000100,0,2000000000],
                           p := 0x3B, lc := 1, rrb := 0, vbar := 0x4000, cb := tab [0,1,2,0x10,0x40,4] }
/-- States and operands that meet the hypotheses of `Obligations.ExceptionsEnter`, clause by clause. -/
theorem test_premises : [
    decide (let s : State := onCore c1
    let n : Nat := 0
    let imm : Nat := 0
    s.ready n = true ∧
    (s.core n).handler = false ∧
    imm < 2 ^ 12),
    decide (let s : State := onCore c1
    let n : Nat := 0
    let w : Nat := 0
    s.ready n = true ∧
    (s.core n).handler = false ∧
    wordIllegal w = true),
    decide (let s : State := onCore c1
    let n : Nat := 0
    s.ready n = true ∧
    (s.core n).handler = false),
    decide (let s : State := onCore c1
    let n : Nat := 0
    s.ready n = true ∧
    (s.core n).handler = false),
    decide (let s : State := onCore c1
    let n : Nat := 0
    let b : Nat := 4
    let pg : Nat := 0
    s.ready n = true ∧
    (s.core n).handler = false ∧
    (s.core n).pr pg = true ∧
    ((s.core n).gr b).toNat % 4 ≠ 0)].all id = true := by decide +kernel
end ExceptionsEnter

namespace HandlerStopsAndBudget

def tab (l : List Nat) : List (Nat × Word) := l.zipIdx.filterMap (fun (x,i) => if x = 0 then none else some (i, BitVec.ofNat 32 x))
def sv : Service := { tpl := 3, tag := 9, flow := 7, lcore := 0, sched := none, ahead := false, early := false, planSeq := 0, bank := 0 }
def c1 : Core := { rc with g := tab [0,4,0x80000000,0xFFFFFFFF,0xFFFF,0x12345678,100,0,0,0,1000000100,0,2000000000],
                           p := 0x3B, lc := 1, rrb := 0, vbar := 0x4000, cb := tab [0,1,2,0x10,0x40,4] }
/-- States and operands that meet the hypotheses of `Obligations.HandlerStopsAndBudget`, clause by clause. -/
theorem test_premises : [
    decide (let s : State := onCore { c1 with handler := true, svc := some sv, dfCnt := 255 }
    let n : Nat := 0
    let w : Nat := 12
    s.ready n = true ∧
    (s.core n).handler = true ∧
    wordIllegal w = true),
    decide (let s : State := onCore { c1 with svc := some sv, budget := 7 }
    let n : Nat := 0
    n < 72 ∧
    s.domOn (n / 4) = true ∧
    s.clockOn = true ∧
    (s.core n).frozen = false ∧
    ((s.core n).run = .run ∨ (s.core n).run = .wait) ∧
    (s.core n).handler = false ∧
    (s.core n).pair = none ∧
    (s.core n).svc.isSome = true ∧
    0 < (s.core n).budget ∧
    (s.core n).budgetDue = false)].all id = true := by decide +kernel
end HandlerStopsAndBudget

namespace LoadsReadMemory

def tab (l : List Nat) : List (Nat × Word) := l.zipIdx.filterMap (fun (x,i) => if x = 0 then none else some (i, BitVec.ofNat 32 x))
def c1 : Core := { rc with g := tab [0,0x1000,0x10000000,0x80000000,0x70000,0x1000100,0x40100020,0x200000,5,0x10000001,0xFFFFFFFF,3,70],
                           p := 0x3B, lc := 1, rrb := 0, vbar := 0x4000, w := tab [0x1122334455], cb := tab [0x10000000,0x40,4,0x2000,0x10,0x1c,0,0,3,0x1000,12,8,0x80000000,0x100,0xFFFFFFFC] }
def fill (s : State) : State := { s with mem := { s.mem with sram := (List.range 96).map (fun i => (i, BitVec.ofNat 8 (i * 37 % 255 + 1))), tcm := (List.range 96).map (fun i => (0x1000 + i, BitVec.ofNat 8 (255 - (i * 59 % 255)))) , dram := (List.range 64).map (fun i => (i, BitVec.ofNat 8 (i * 91 % 255 + 1))), win := [(0, 7)] } }
/-- States and operands that meet the hypotheses of `Obligations.LoadsReadMemory`, clause by clause. -/
theorem test_premises : [
    decide (let a : Nat := 6
    a < 0x70000),
    decide (let a : Nat := 0x70000
    0x70000 ≤ a ∧
    a < 0x80000),
    decide (let a : Nat := 0x1000000
    0x1000000 ≤ a ∧
    a < 0x1100000),
    decide (let a : Nat := 0x10000000
    0x10000000 ≤ a ∧
    a < 0x11000000),
    decide (let a : Nat := 0x40000000
    0x40000000 ≤ a ∧
    a < 0x44000000),
    decide (let a : Nat := 0x80000000
    0x80000000 ≤ a ∧
    a < 0x100000000),
    decide (let a : Nat := 0x11000000
    ((0x80000 ≤ a ∧ a < 0x1000000) ∨ (0x1100000 ≤ a ∧ a < 0x10000000) ∨ (0x11000000 ≤ a ∧ a < 0x40000000) ∨ (0x44000000 ≤ a ∧ a < 0x80000000))),
    decide (let s : State := fill (pairB {c1 with handler := true})
    let n : Nat := 0
    let rt : Nat := 2
    let base : Nat := 9
    let f : Bool := false
    let circ : Bool := false
    let off : Int := 0
    s.readyB n = true ∧
    (let c := s.core n
    (c.memAddr circ base off).any (fun a => decide ((circ = true → base < 8) ∧
    s.inMemory n a.toNat = true ∧
    (let e := (Instr.ldb n f rt circ base off, 1, (BitVec.ofNat 8 (s.wordAt n a.toNat 1)).signExtend 32)
    f = false ∧
    rt < 32 ∧
    a.toNat % e.2.1 = 0))) = true)),
    decide (let s : State := pairA { c1 with rrb := 5 }
    let n : Nat := 0
    let rt : Nat := 0x70000
    let base : Nat := 0
    let f : Bool := true
    let circ : Bool := true
    let off : Int := 3
    s.readyB n = true ∧
    (let c := s.core n
    (c.memAddr circ base off).any (fun a => decide ((circ = true → base < 8) ∧
    s.inMemory n a.toNat = true ∧
    a.toNat % 4 = 0 ∧
    (f = false → rt < 32))) = true))].all id = true := by decide +kernel
end LoadsReadMemory

namespace StoresWriteMemory

def tab (l : List Nat) : List (Nat × Word) := l.zipIdx.filterMap (fun (x,i) => if x = 0 then none else some (i, BitVec.ofNat 32 x))
def c1 : Core := { rc with g := tab [0,0x1000,0x10000000,0x80000000,0x70000,0x1000100,0x40100020,0x200000,5,0x10000001,0xFFFFFFFF,3,70],
                           p := 0x3B, lc := 1, rrb := 0, vbar := 0x4000, w := tab [0x1122334455], cb := tab [0x10000000,0x40,4,0x2000,0x10,0x1c,0,0,3,0x1000,12,8,0x80000000,0x100,0xFFFFFFFC] }
def fill (s : State) : State := { s with mem := { s.mem with sram := (List.range 96).map (fun i => (i, BitVec.ofNat 8 (i * 37 % 255 + 1))), tcm := (List.range 96).map (fun i => (0x1000 + i, BitVec.ofNat 8 (255 - (i * 59 % 255)))) , dram := (List.range 64).map (fun i => (i, BitVec.ofNat 8 (i * 91 % 255 + 1))), win := [(0, 7)] } }
/-- States and operands that meet the hypotheses of `Obligations.StoresWriteMemory`, clause by clause. -/
theorem test_premises : [
    decide (let s : State := fill (onCore c1)
    let n : Nat := 0
    let rt : Nat := 7
    let base : Nat := 5
    let f : Bool := true
    let circ : Bool := false
    let off : Int := 0
    s.readyB n = true ∧
    (let c := s.core n
    (c.memAddr circ base off).any (fun a => decide ((circ = true → base < 8) ∧
    s.inWritable n a.toNat = true ∧
    (f = false → rt < 32) ∧
    (let e := (Instr.stw n f rt circ base off, 4)
    (f = true → e.2 = 4) ∧
    a.toNat % e.2 = 0))) = true))].all id = true := by decide +kernel
end StoresWriteMemory

namespace DataAccessesRaise

def tab (l : List Nat) : List (Nat × Word) := l.zipIdx.filterMap (fun (x,i) => if x = 0 then none else some (i, BitVec.ofNat 32 x))
def c1 : Core := { rc with g := tab [0,0x1000,0x10000000,0x80000000,0x70000,0x1000100,0x40100020,0x200000,5,0x10000001,0xFFFFFFFF,3,70],
                           p := 0x3B, lc := 1, rrb := 0, vbar := 0x4000, w := tab [0x1122334455], cb := tab [0x10000000,0x40,4,0x2000,0x10,0x1c,0,0,3,0x1000,12,8,0x80000000,0x100,0xFFFFFFFC] }
def fill (s : State) : State := { s with mem := { s.mem with sram := (List.range 96).map (fun i => (i, BitVec.ofNat 8 (i * 37 % 255 + 1))), tcm := (List.range 96).map (fun i => (0x1000 + i, BitVec.ofNat 8 (255 - (i * 59 % 255)))) , dram := (List.range 64).map (fun i => (i, BitVec.ofNat 8 (i * 91 % 255 + 1))), win := [(0, 7)] } }
/-- States and operands that meet the hypotheses of `Obligations.DataAccessesRaise`, clause by clause. -/
theorem test_premises : [
    decide (let s : State := pairA { c1 with rrb := 5 }
    let n : Nat := 0
    let rt : Nat := 4
    let base : Nat := 2
    let circ : Bool := true
    s.readyB n = true ∧
    (s.core n).handler = false ∧
    rt < 32 ∧
    (circ = true → base < 8) ∧
    (let c := s.core n
    circ = true ∧
    c.cbr base 1 = 0)),
    decide (let s : State := pairA c1
    let n : Nat := 0
    let rt : Nat := 8
    let base : Nat := 0
    let circ : Bool := false
    let off : Int := 2
    s.readyB n = true ∧
    (s.core n).handler = false ∧
    rt < 32 ∧
    (circ = true → base < 8) ∧
    (let c := s.core n
    (c.memAddr circ base off).any (fun a => decide (a.toNat % 4 ≠ 0)) = true)),
    decide (let s : State := pairA { c1 with rrb := 5 }
    let n : Nat := 0
    let rt : Nat := 0
    let base : Nat := 7
    let circ : Bool := false
    let off : Int := 40
    s.readyB n = true ∧
    (s.core n).handler = false ∧
    rt < 32 ∧
    (circ = true → base < 8) ∧
    (let c := s.core n
    (c.memAddr circ base off).any (fun a => decide (a.toNat % 4 = 0 ∧
    s.place n a.toNat = .nowhere)) = true)),
    decide (let s : State := pairA c1
    let n : Nat := 0
    let rt : Nat := 0
    let base : Nat := 4
    let circ : Bool := false
    let off : Int := 1
    s.readyB n = true ∧
    (s.core n).handler = false ∧
    rt < 32 ∧
    (circ = true → base < 8) ∧
    (let c := s.core n
    (c.memAddr circ base off).any (fun a => decide (s.place n a.toNat = .win 1)) = true)),
    decide (let s : State := (fill (onCore c1)).setFd F.PW_DOMd_STAT_STATE 22 0 3
    let n : Nat := 0
    let rt : Nat := 0
    let base : Nat := 3
    let off : Int := 4
    s.readyB n = true ∧
    (s.core n).handler = false ∧
    rt < 32 ∧
    s.answers 22 = false ∧
    (let c := s.core n
    let a := c.gr base + BitVec.ofInt 32 off
    0x80000000 ≤ a.toNat ∧
    a.toNat % 4 = 0))].all id = true := by decide +kernel
end DataAccessesRaise

namespace SearchesFindTheBest

def tab (l : List Nat) : List (Nat × Word) := l.zipIdx.filterMap (fun (x,i) => if x = 0 then none else some (i, BitVec.ofNat 32 x))
def c1 : Core := { rc with g := tab [0,0x1000,0x10000000,0x80000000,0x70000,0x1000100,0x40100020,0x200000,5,0x10000001,0xFFFFFFFF,3,70],
                           p := 0x3B, lc := 1, rrb := 0, vbar := 0x4000, w := tab [0x1122334455], cb := tab [0x10000000,0x40,4,0x2000,0x10,0x1c,0,0,3,0x1000,12,8,0x80000000,0x100,0xFFFFFFFC] }
def sx (cnt : Nat) (vals : List Nat) : State := { onCore { c1 with g := tab [0,cnt], cb := tab [0x10000000,0x10,8] } with mem := { live.mem with sram := ((vals.map (fun v => leBytes 4 v)).flatten.zipIdx.map (fun (x,i) => (i,x))).filter (fun e => e.2 ≠ 0) } }
/-- States and operands that meet the hypotheses of `Obligations.SearchesFindTheBest`, clause by clause. -/
theorem test_premises : [
    decide (let s : State := sx 9 [7,0,0,7]
    let n : Nat := 0
    let gd : Nat := 2
    let cb : Nat := 1
    let gn : Nat := 0
    s.ready n = true ∧
    gd % 2 = 0 ∧
    2 ≤ gd ∧
    gd ≤ 30 ∧
    (let c := s.core n
    let cnt := (c.gr gn).toNat % 2 ^ 16
    (((List.range cnt).all (fun k => decide ((c.cbr cb 1).toNat ≠ 0 ∧ (c.element cb k).toNat % 4 = 0 ∧ s.inMemory n (c.element cb k).toNat = true)) = true)))),
    decide (let s : State := sx 1 [4,5,6,7]
    let n : Nat := 0
    let gd : Nat := 0
    s.ready n = true ∧
    (s.core n).handler = false ∧
    (gd = 0 ∨ gd % 2 = 1))].all id = true := by decide +kernel
end SearchesFindTheBest

namespace DebugWindowControlsTheCore

def tab (l : List Nat) : List (Nat × Word) := l.zipIdx.filterMap (fun (x,i) => if x = 0 then none else some (i, BitVec.ofNat 32 x))
def c1 : Core := { rc with g := tab [0,0x1000,0x10000000,0x80000000,0x70000,0x1000100,0x40100020,0x200000,5,0x10000001,0xFFFFFFFF,3,70],
                           p := 0x3B, lc := 1, rrb := 0, vbar := 0x4000, w := tab [0x1122334455], cb := tab [0x10000000,0x40,4,0x2000,0x10,0x1c,0,0,3,0x1000,12,8,0x80000000,0x100,0xFFFFFFFC] }
/-- States and operands that meet the hypotheses of `Obligations.DebugWindowControlsTheCore`, clause by clause. -/
theorem test_premises : [
    decide (let s : State := onCore { c1 with run := .wait, haltReq := true }
    let q : Requester := .host
    let n : Nat := 0
    s.grants q .VC_CTLn n = true ∧
    s.lockOpen = true ∧
    (let c := s.core n
    (c.run = .run ∨ c.run = .wait) ∧
    c.pair = none ∧
    c.budgetDue = false)),
    decide (let s : State := pairB { c1 with run := .run, haltReq := true }
    let q : Requester := .host
    let n : Nat := 0
    s.grants q .VC_CTLn n = true ∧
    s.lockOpen = true ∧
    (let c := s.core n
    c.run = .run ∧
    c.pair.isSome = true)),
    decide (let s : State := onCore { c1 with budgetDue := true }
    let q : Requester := .host
    let n : Nat := 0
    s.grants q .VC_CTLn n = true ∧
    s.lockOpen = true ∧
    (let c := s.core n
    (c.run = .run ∨ c.run = .wait) ∧
    c.pair = none ∧
    c.budgetDue = true ∧
    c.frozen = false ∧
    c.handler = false)),
    decide (let s : State := (onCore { c1 with run := .halted, resume := .run }).setFd F.VC_CTLn_HALT 0 0 1
    let q : Requester := .host
    let n : Nat := 0
    s.grants q .VC_CTLn n = true ∧
    s.lockOpen = true ∧
    (let c := s.core n
    c.run = .halted)),
    decide (let s : State := pairB { c1 with run := .run, haltReq := true }
    let q : Requester := .host
    let n : Nat := 0
    s.grants q .VC_CTLn n = true ∧
    s.lockOpen = true ∧
    (let c := s.core n
    c.run ≠ .halted ∧
    c.haltReq = true)),
    decide (let s : State := onCore { c1 with run := .stopped, handler := true }
    let q : Requester := .host
    let n : Nat := 0
    s.grants q .VC_CTLn n = true ∧
    s.lockOpen = true ∧
    (let c := s.core n
    c.run = .stopped))].all id = true := by decide +kernel
end DebugWindowControlsTheCore

namespace RootReferences

def b0 : State := set live [(F.CLK_REF_SEL,0,1),(F.CLK_REF_ACTIVE,0,1),(F.CLK_STAT_EXT_PRESENT,0,1)]
/-- States and operands that meet the hypotheses of `Obligations.RootReferences`, clause by clause. -/
theorem test_premises : [
    decide (let s : State := b0
    let q : Requester := .host
    let v : Word := 0x444
    s.grants q .CLK_REF = true ∧
    bits v.toNat 5 4 ≠ 3 ∧
    s.refPresent (bits v.toNat 5 4) = true),
    decide (let s : State := set b0 [(F.CLK_STAT_HOLDOVER,0,1),(F.CLK_STAT_PLL_LOCK,0,0),(F.CLK_REF_FALLBACK,0,1),(F.CLK_STAT_REF_LOSS,0,1),(F.CLK_STAT_LOSS_CNT,0,255)]
    s.flag F.CLK_STAT_HOLDOVER = true ∧
    s.flag F.CLK_REF_FALLBACK = true ∧
    s.fd F.CLK_REF_SEL ≠ 0),
    decide (let src : Nat := 0
    src < 3),
    decide (let s : State := set live [(F.PW_VOLTi_STAT_CHECKED,0,1),(F.PW_VOLTi_STAT_MEAS,0,860),(F.PW_VOLTi_STAT_CHECKED,1,1),(F.PW_VOLTi_STAT_MEAS,1,800)]
    s.held = false ∧
    s.flag F.CLK_STAT_PLL_LOCK = true ∧
    s.flag F.CLK_STAT_HOLDOVER = false),
    decide (let s : State := set b0 [(F.CLK_STAT_HOLDOVER,0,1),(F.CLK_STAT_PLL_LOCK,0,0),(F.CLK_REF_FALLBACK,0,1),(F.CLK_STAT_REF_LOSS,0,1),(F.CLK_STAT_LOSS_CNT,0,255)]
    let q : Requester := .host
    let v : Word := 0x444
    s.grants q .CLK_DVFS = true ∧
    (let isl : List (Field × Nat) := [(F.CLK_DVFS_CORE_A, 0), (F.CLK_DVFS_CORE_B, 1), (F.CLK_DVFS_SOLV, 2)]
    let mv (c : Nat) : Nat := ([850, 800, 720, 680, 600] : List Nat).getD c 600
    (∀ e ∈ isl, e.1.of v.toNat ≤ 4 ∧ (e.1.of v.toNat ≠ s.fd e.1 → s.flag F.PW_VOLTi_STAT_STEPPING e.2 = false) ∧ (e.1.of v.toNat < s.fd e.1 → (s.fd F.PW_MOD_STATE = 1 → s.fd F.PW_TRIM_CAP ≤ e.1.of v.toNat) ∧ s.flag F.PW_VOLTi_STAT_CHECKED e.2 = true ∧ mv (e.1.of v.toNat) ≤ s.fd F.PW_VOLTi_STAT_MEAS e.2)))),
    decide (let s : State := set live [(F.CLK_DVFS_CORE_A,0,2),(F.CLK_DVFS_CORE_B,0,2),(F.CLK_DVFS_SOLV,0,2)]
    let q : Requester := .host
    let v : Word := 0x252
    s.grants q .CLK_DVFS = true ∧
    (let isl : List (Field × Nat) := [(F.CLK_DVFS_CORE_A, 0), (F.CLK_DVFS_CORE_B, 1), (F.CLK_DVFS_SOLV, 2)]
    (∃ e ∈ isl, 4 < e.1.of v.toNat)))].all id = true := by decide +kernel
end RootReferences

namespace TimeWrites

def cap (x : Nat) : State := set live [(F.TIM_CAPn_CTL_SRC,1,x),(F.TIM_CAPn_CTL_EN,1,1)]
/-- States and operands that meet the hypotheses of `Obligations.TimeWrites`, clause by clause. -/
theorem test_premises : [
    decide (let s : State := set live [(F.TIM_PT_CTL_VALID,0,1),(F.TIM_PT_CTL_VTO,0,2)]
    let q : Requester := .host
    s.grants q .TIM_CT_SET_HI = true ∧
    s.anyPort = false),
    decide (let s : State := set (cap 0x30) [(F.TIM_CAPn_CTL_EDGE,1,0)]
    let q : Requester := .host
    let v : Word := 2
    let lo (r : Reg) : Nat := (Tab.get (fun _ => none) s.holds (latchKey q (r.addr 0 0))).getD (s.rg r)
    s.grants q .TIM_PT_INC_HI = true ∧
    ptIncOk (v.toNat % 2 ^ 8 * 2 ^ 32 + lo .TIM_PT_INC_LO) = true),
    decide (let s : State := set live [(F.TIM_PT_CTL_VALID,0,1),(F.TIM_PT_CTL_VTO,0,2)]
    let q : Requester := .host
    s.grants q .TIM_PT_ADJ = true),
    decide (let s : State := set live [(F.TIM_PT_CTL_VALID,0,1),(F.TIM_PT_CTL_VTO,0,2)]
    let q : Requester := .host
    s.grants q .TIM_PT_SET_HI = true),
    decide (let s : State := set live [(F.TIM_PT_CTL_VALID,0,1),(F.TIM_PT_CTL_VTO,0,2)]
    s.fd F.TIM_PT_CTL_VTO ≠ 0 ∧
    s.flag F.TIM_PT_CTL_VALID = true)].all id = true := by decide +kernel
end TimeWrites

namespace CapturesOfTime

def b0 (l : List (Machine.Field × Nat × Nat) := []) (f : TimeState → TimeState := id) : State :=
  let s := set { live with time := { live.time with bcn := 13, ticks := 90000000, bcStart := 13 * 62500, ct := (13 * 62500 + 400) * 2^32, noBase := false } } ([(F.TIM_CAPn_CTL_SRC,3,0x30),(F.TIM_CAPn_CTL_EN,3,1)] ++ l)
  let s := setR s [(.TIM_CAPn_CT_LO,3,77),(.TIM_CAPn_PT_LO,3,78)]
  { s with time := f s.time }
/-- States and operands that meet the hypotheses of `Obligations.CapturesOfTime`, clause by clause. -/
theorem test_premises : [
    decide (let s : State := b0 [(F.TIM_CAPn_CTL_FULL,3,1),(F.TIM_CAPn_CTL_OVR_CNT,3,9)]
    let q : Requester := .host
    let v : Word := 0x300105
    let n : Nat := 3
    s.grants q .TIM_CAPn_CTL n = true ∧
    bits v.toNat 23 16 = 0x30 ∧
    bits v.toNat 9 8 ≠ 3 ∧
    bits v.toNat 2 2 = 1 ∧
    bits v.toNat 0 0 = 1)].all id = true := by decide +kernel
end CapturesOfTime

namespace CalendarKeepsTime

def cl (c : CalState → CalState) : State := { live with cal := c live.cal }
def cd (c : CalState → CalState) : State := { set live [(F.CAL_CTL_DISC,0,1),(F.TIM_PT_CTL_VALID,0,1)] with cal := c live.cal, time := { live.time with pt := 1700000000 * 10^9 * 2^32 + 7 } }
/-- States and operands that meet the hypotheses of `Obligations.CalendarKeepsTime`, clause by clause. -/
theorem test_premises : [
    decide (let s : State := live
    let q : Requester := .host
    s.grants q .CAL_SET_HI = true ∧
    s.flag F.CAL_CTL_DISC = false),
    decide (let s : State := cd (fun c => { c with started := true, sec := 1700000000, sub := 5 })
    let u := s.advance s.ticksToPtSecond
    u.disciplined = true),
    decide (let s : State := set (cl (fun c => { c with sec := 86400 * 5 + 7, sub := 9, eLast := -5, eStart := 3 })) [(F.CAL_UTC_LEAP,0,1),(F.CAL_UTC_UTC_OFS,0,37),(F.CAL_CTL_DISC,0,1),(F.TIM_PT_CTL_VALID,0,1)]
    s.fd F.CAL_UTC_LEAP = 1),
    decide (let s : State := set (cl (fun c => { c with sec := 86400 * 5 + 7, sub := 9, supply := .supercap, eLast := 900, eStart := 3 })) [(F.CAL_UTC_LEAP,0,2),(F.CAL_UTC_UTC_OFS,0,37),(F.CAL_TRIM_TRIM,0,1000),(F.CAL_CTL_DISC,0,1),(F.TIM_PT_CTL_VALID,0,1)]
    s.fd F.CAL_UTC_LEAP = 2),
    decide (let s : State := set (cl (fun c => { c with sec := 86400 * 5 + 7, sub := 9, supply := .supercap, eLast := 900, eStart := 3 })) [(F.CAL_UTC_LEAP,0,2),(F.CAL_UTC_UTC_OFS,0,37),(F.CAL_TRIM_TRIM,0,1000),(F.CAL_CTL_DISC,0,1),(F.TIM_PT_CTL_VALID,0,1)]
    s.cal.supply = .supercap)].all id = true := by decide +kernel
end CalendarKeepsTime

namespace PortsStartAndStop

def sched (s : State) (m e : Nat) (w0 w1 w2 : Nat) : State := ((s.setRg .KL_SCHEDm_Ww m (4*e) w0).setRg .KL_SCHEDm_Ww m (4*e+1) w1).setRg .KL_SCHEDm_Ww m (4*e+2) w2
def kl0 : State := let s := sched (sched (set live [(F.KL_MODE_STATm_LEN,0,2),(F.KL_MODE_STATm_STATE,0,1),(F.KL_MODE_STATm_LEN,1,1),(F.KL_MODE_STATm_STATE,1,1),(F.TIM_CT_STAT_SRC,0,2),(F.KL_PORTn_CTL_MISS_LIMIT,0,3),
    (F.KL_PORTn_CTL_MISS_LIMIT,2,3)]) 0 0 5 0x30000000 0) 0 1 0x01000006 0x32000000 0
  { s with time := { s.time with bcn := 16, bcStart := 16 * 62500, ct := (16 * 62500 + 700) * 2^32, noBase := false } }
def kl1 : State := let s := set kl0 [(F.KL_PORTn_CTL_EN,0,1),(F.KL_MODE_STATm_STATE,0,3),(F.KL_TIME_STAT_CS_STATE,0,10),(F.KL_PORTn_STAT_LINK,0,1)]
  { s with kl := { s.kl with active := true, measured := [0] } }
/-- States and operands that meet the hypotheses of `Obligations.PortsStartAndStop`, clause by clause. -/
theorem test_premises : [
    decide (let s : State := kl0
    let q : Requester := .host
    let p : Nat := 1
    let v : Word := 0x30011
    s.grants q .KL_PORTn_CTL p = true ∧
    bits v.toNat 19 16 ≠ 0 ∧
    (p % 2 = 1 → bits v.toNat 8 8 = 0) ∧
    (let u := s.plainWrite .KL_PORTn_CTL p 0 (setBits v.toNat 0 0 0)
    let m := if s.anyPort then s.fd F.KL_MODE_SW_ACTIVE else s.fd F.KL_GLOBAL_INIT_MODE
    s.portOn p = false ∧
    bits v.toNat 0 0 = 1 ∧
    bits v.toNat 1 1 = 0 ∧
    s.flag F.KL_MODE_SW_PENDING = false ∧
    (s.coldNet p = true ∨ s.fd F.TIM_CT_STAT_SRC ≠ 0) ∧
    (s.anyPort = false → s.fd F.KL_MODE_STATm_STATE m = 1) ∧
    u.modeCheck m (some p) = none ∧
    u.startCheck m p = none)),
    decide (let s : State := kl1
    let q : Requester := .host
    let p : Nat := 0
    let v : Word := 0x30000
    s.grants q .KL_PORTn_CTL p = true ∧
    bits v.toNat 19 16 ≠ 0 ∧
    (p % 2 = 1 → bits v.toNat 8 8 = 0) ∧
    s.portOn p = true ∧
    bits v.toNat 0 0 = 0 ∧
    bits v.toNat 8 8 = s.fd F.KL_PORTn_CTL_RING p ∧
    bits v.toNat 4 4 = s.fd F.KL_PORTn_CTL_SPEED p),
    decide (let s : State := setR kl1 [(.KL_PORTn_CNTk,0,7)]
    let q : Requester := .host
    let p : Nat := 3
    let v : Word := 0x30002
    s.grants q .KL_PORTn_CTL p = true ∧
    bits v.toNat 19 16 ≠ 0 ∧
    (p % 2 = 1 → bits v.toNat 8 8 = 0) ∧
    bits v.toNat 0 0 = b2n (s.portOn p) ∧
    bits v.toNat 1 1 = 1 ∧
    (s.portOn p = true → bits v.toNat 8 8 = s.fd F.KL_PORTn_CTL_RING p ∧ bits v.toNat 4 4 = s.fd F.KL_PORTn_CTL_SPEED p))].all id = true := by decide +kernel
end PortsStartAndStop

namespace ModesAreCheckedAndSwitched

def sched (s : State) (m e : Nat) (w0 w1 w2 : Nat) : State := ((s.setRg .KL_SCHEDm_Ww m (4*e) w0).setRg .KL_SCHEDm_Ww m (4*e+1) w1).setRg .KL_SCHEDm_Ww m (4*e+2) w2
def kl0 : State := sched (sched (set live [(F.KL_MODE_STATm_LEN,0,2),(F.KL_MODE_STATm_STATE,0,1),(F.KL_MODE_STATm_LEN,1,1),(F.KL_MODE_STATm_STATE,1,1),(F.TIM_CT_STAT_SRC,0,2),(F.KL_PORTn_CTL_MISS_LIMIT,0,3),
    (F.KL_PORTn_CTL_MISS_LIMIT,2,3)]) 0 0 5 0x30000000 0) 0 1 0x01000006 0x32000000 0
def kl1 : State := let s := set kl0 [(F.KL_PORTn_CTL_EN,0,1),(F.KL_MODE_STATm_STATE,0,3),(F.KL_TIME_STAT_CS_STATE,0,10),(F.KL_PORTn_STAT_LINK,0,1)]
  { s with kl := { s.kl with active := true, measured := [0] }, time := { s.time with bcn := 16, bcStart := 16 * 62500, ct := (16 * 62500 + 700) * 2^32 } }
def klsw (x : KlSwitch) : State := { kl1 with kl := { kl1.kl with sw := some x } }
def sw0 : KlSwitch := { target := 1, old := 0, boundary := 18, reqBcn := 0, fate := 1, lost := none, byPort := false, acks := [0,5,6], granted := [], decided := none }
/-- States and operands that meet the hypotheses of `Obligations.ModesAreCheckedAndSwitched`, clause by clause. -/
theorem test_premises : [
    decide (let s : State := klsw { sw0 with acks := [5] }
    let q : Requester := .host
    let m : Nat := 5
    let w : Nat := 1
    s.grants q .KL_SCHEDm_Ww m w = true ∧
    s.fd F.KL_MODE_STATm_STATE m < 2),
    decide (let s : State := klsw sw0
    let q : Requester := .host
    let m : Nat := 1
    let v : Word := 0x8001
    s.grants q .KL_MODE_STATm m = true ∧
    bits v.toNat 15 15 = 1 ∧
    bits v.toNat 12 0 = s.fd F.KL_MODE_STATm_LEN m ∧
    s.fd F.KL_MODE_STATm_STATE m < 2 ∧
    s.fd F.KL_MODE_STATm_LEN m ≤ 4096 ∧
    (∀ e ∈ s.schedEntries m, (e.node ≤ 2047 ∨ e.node = 0xFFFF) ∧ e.rate ≤ 4 ∧ e.phase < 2 ^ e.rate ∧ e.kind ≤ 4 ∧ e.profile ≤ 3 ∧ e.slot < slotCount (s.fd F.KL_PORTn_CTL_SPEED e.port) (s.fd F.TIM_CYCLE_BASE) ∧ ¬ (e.port % 2 = 1 ∧ s.flag F.KL_PORTn_CTL_RING (e.port - 1) = true) ∧ e.safe = false ∧ e.rate = 0 ∧ e.hops ≤ 64 ∧ (s.node e.node).result = none) ∧
    (s.schedEntries m).length = 1),
    decide (let s : State := kl1
    let q : Requester := .host
    let v : Word := 0x20081
    let k := bits v.toNat 2 0
    s.grants q .KL_MODE_SW = true ∧
    bits v.toNat 7 7 = 1 ∧
    s.flag F.KL_MODE_SW_PENDING = false ∧
    s.anyPort = true ∧
    s.activeMode ≠ some k ∧
    s.fd F.KL_MODE_STATm_STATE k = 1 ∧
    (∀ g ∈ s.agsOn, ∀ n ∈ s.agNodes g, n ≠ 0xFFFF ∧ ∃ e ∈ s.schedEntries k, e.node = n ∧ e.rate = 0) ∧
    (∀ n ∈ s.safetyNodes, n ≠ 0xFFFF ∧ ∃ e ∈ s.schedEntries k, e.node = n)),
    decide (let s : State := klsw sw0
    (s.kl.sw).any (fun x => decide (x.boundary ≤ s.time.bcn + 4 ∧
    x.fate = 1 ∧
    x.lost = none ∧
    x.decided ≠ some s.time.bcn ∧
    (∀ n ∈ s.modeNodes x.old ++ s.modeNodes x.target, n ∈ x.acks))) = true),
    decide (let s : State := klsw { sw0 with acks := [5] }
    (s.kl.sw).any (fun x => decide (x.boundary ≤ s.time.bcn + 4 ∧
    x.fate = 1 ∧
    x.lost = none ∧
    x.decided ≠ some s.time.bcn ∧
    0 ∈ s.modeNodes x.old ++ s.modeNodes x.target ∧
    0 ∉ x.acks ∧
    x.target < 8)) = true)].all id = true := by decide +kernel
end ModesAreCheckedAndSwitched

namespace FramesAtAPort

def sched (s : State) (m e : Nat) (w0 w1 w2 : Nat) : State := ((s.setRg .KL_SCHEDm_Ww m (4*e) w0).setRg .KL_SCHEDm_Ww m (4*e+1) w1).setRg .KL_SCHEDm_Ww m (4*e+2) w2
def kl0 : State := sched (sched (set live [(F.KL_MODE_STATm_LEN,0,2),(F.KL_MODE_STATm_STATE,0,1),(F.KL_MODE_STATm_LEN,1,1),(F.KL_MODE_STATm_STATE,1,1),(F.TIM_CT_STAT_SRC,0,2),(F.KL_PORTn_CTL_MISS_LIMIT,0,3),
    (F.KL_PORTn_CTL_MISS_LIMIT,2,3)]) 0 0 5 0x30000000 0) 0 1 0x01000006 0x32000000 0
def kl1 : State := let s := set kl0 [(F.KL_PORTn_CTL_EN,0,1),(F.KL_MODE_STATm_STATE,0,3),(F.KL_TIME_STAT_CS_STATE,0,10),(F.KL_PORTn_STAT_LINK,0,1)]
  { s with kl := { s.kl with active := true, measured := [0] }, time := { s.time with bcn := 16, bcStart := 16 * 62500, ct := (16 * 62500 + 700) * 2^32 } }
def rec5 (st : Nat) : List Byte := (leBytes 2 5 ++ leBytes 2 st ++ (List.range 60).map (fun i => BitVec.ofNat 8 (i + 1)))
def eth : List Byte := (List.range 12).map (fun i => BitVec.ofNat 8 i) ++ [BitVec.ofNat 8 (live.fd F.KL_GLOBAL_ETYPE / 256), BitVec.ofNat 8 (live.fd F.KL_GLOBAL_ETYPE)]
def hdr (typ node bcn len : Nat) : List Byte := eth ++ [BitVec.ofNat 8 (0x10 + typ), 0] ++ leBytes 2 node ++ leBytes 4 bcn ++ leBytes 2 0 ++ leBytes 2 len
def up : List Byte := hdr 3 5 16 64 ++ rec5 0x92
def kl2 : State := kl1.setNode 5 { klNodeReset with integ := true, present := true, miss := 1, run := 0, ulBcn := some 15, evtReq := 0 }
def kl3 : State := let s := set kl2 [(F.KL_PORTn_EVIDX_RX_HEAD,0,63),(F.KL_PORTn_EVIDX_RX_TAIL,0,63),(F.KL_PORTn_EVIDX_TX_HEAD,0,2),(F.KL_PORTn_EVIDX_TX_TAIL,0,1)]
  let s := setR s [(.KL_PORTn_EVRX_BASE,0,0x400000),(.KL_PORTn_EVTX_BASE,0,0x500000)]
  { s with kl := { s.kl with grants := [⟨0, 6, 0, 40⟩] }, mem := { s.mem with sram := [(0x500600, 60),(0x500602, 1),(0x500610,7),(0x500611, 9)] } }
/-- States and operands that meet the hypotheses of `Obligations.FramesAtAPort`, clause by clause. -/
theorem test_premises : [
    decide (let s : State := kl2
    let p : Nat := 0
    let stamp : Nat := 0
    let bs : List Byte := hdr 4 6 16 50 ++ (List.range 50).map (fun i => BitVec.ofNat 8 (i+7))
    let ok : Bool := false
    p < 8 ∧
    s.portOn p = true ∧
    s.time.noBase = false ∧
    (let wire := 94 * byteWire (s.fd F.KL_PORTn_CTL_SPEED (s.netOf p))
    let u := s.advanceTo (s.time.bcStart + stamp + (wire + 1279) / 1280)
    let k : Nat := 3
    k < 10 ∧
    u.uplinkJudge p stamp ok bs = .inl k)),
    decide (let s : State := kl3
    let p : Nat := 0
    let stamp : Nat := 8000
    let bs : List Byte := up
    let ok : Bool := true
    p < 8 ∧
    s.portOn p = true ∧
    s.time.noBase = false ∧
    (let wire := 94 * byteWire (s.fd F.KL_PORTn_CTL_SPEED (s.netOf p))
    let u := s.advanceTo (s.time.bcStart + stamp + (wire + 1279) / 1280)
    let e : SchedEntry := kl1.schedEntry 0 0
    u.uplinkJudge p stamp ok bs = .inr e ∧
    (u.node e.node).integ = true ∧
    e.node < 2048 ∧
    e.safe = false ∧
    u.kl.sw = none ∧
    bits (fieldAt (bs.drop 26) 2 2) 7 4 = 9)),
    decide (let s : State := { kl2 with time := { kl2.time with noBase := true } }
    let p : Nat := 0
    let bs : List Byte := hdr 4 6 16 50 ++ (List.range 50).map (fun i => BitVec.ofNat 8 (i+7))
    p < 8 ∧
    s.portOn p = true ∧
    s.time.noBase = true ∧
    s.headerOk bs 4 = true),
    decide (let s : State := kl3
    let p : Nat := 0
    let stamp : Nat := 40500
    let bs : List Byte := hdr 4 6 16 50 ++ (List.range 50).map (fun i => BitVec.ofNat 8 (i+7))
    p < 8 ∧
    s.portOn p = true ∧
    s.time.noBase = false ∧
    s.headerOk bs 4 = true ∧
    stamp < guardStart s.time.base ∧
    klField bs 4 4 = s.time.bcn % 2 ^ 32 ∧
    (let u := s.advanceTo (s.time.bcStart + stamp)
    let h := s.fd F.KL_PORTn_EVIDX_RX_HEAD p
    let a := s.rg .KL_PORTn_EVRX_BASE p + 1536 * h
    let f := (bs.drop 14).take (12 + klField bs 10 2)
    u.inGrant p (klField bs 2 2) stamp (12 + klField bs 10 2) = true ∧
    (h + 1) % 64 ≠ s.fd F.KL_PORTn_EVIDX_RX_TAIL p ∧
    f.length ≤ 1520 ∧
    a + 1536 ≤ 2 ^ 24)),
    decide (let s : State := set kl3 [(F.KL_PORTn_EVIDX_RX_TAIL,0,0)]
    let p : Nat := 0
    let stamp : Nat := 40500
    let bs : List Byte := hdr 4 6 16 50 ++ (List.range 50).map (fun i => BitVec.ofNat 8 (i+7))
    p < 8 ∧
    s.portOn p = true ∧
    s.time.noBase = false ∧
    s.headerOk bs 4 = true ∧
    stamp < guardStart s.time.base ∧
    klField bs 4 4 = s.time.bcn % 2 ^ 32 ∧
    (let u := s.advanceTo (s.time.bcStart + stamp)
    let h := s.fd F.KL_PORTn_EVIDX_RX_HEAD p
    u.inGrant p (klField bs 2 2) stamp (12 + klField bs 10 2) = true ∧
    (h + 1) % 64 = s.fd F.KL_PORTn_EVIDX_RX_TAIL p)),
    decide (let s : State := kl3
    let p : Nat := 0
    let dt : Nat := 8030
    p < 8 ∧
    s.portOn p = true ∧
    s.isStandby = false ∧
    s.time.noBase = false ∧
    (let u := s.advance dt
    let k := s.fd F.KL_PORTn_EVIDX_TX_TAIL p
    let a := s.rg .KL_PORTn_EVTX_BASE p + 1536 * k
    let len := s.sramN a 2
    k ≠ s.fd F.KL_PORTn_EVIDX_TX_HEAD p ∧
    (u.eventSlot p (max u.ctNs (s.sramN (a + 8) 8)) len).isSome = true)),
    decide (let s : State := kl3
    let p : Nat := 0
    let dt : Nat := 20000000
    p < 8 ∧
    s.portOn p = true ∧
    s.isStandby = false ∧
    s.time.noBase = false ∧
    (let u := s.advance dt
    let k := s.fd F.KL_PORTn_EVIDX_TX_TAIL p
    let a := s.rg .KL_PORTn_EVTX_BASE p + 1536 * k
    let len := s.sramN a 2
    let w1 := s.time.bcStart + guardStart s.time.base
    k ≠ s.fd F.KL_PORTn_EVIDX_TX_HEAD p ∧
    u.eventSlot p (max u.ctNs (s.sramN (a + 8) 8)) len = none ∧
    s.sramN (a + 8) 8 < w1)),
    decide (let s : State := kl3
    let q : Requester := .host
    let v : Word := 0x3F020002
    let p : Nat := 0
    p < 8 ∧
    s.grants q .KL_PORTn_EVIDX p = true ∧
    (let d (a b : Nat) : Nat := (a + 64 - b) % 64
    let txT := s.fd F.KL_PORTn_EVIDX_TX_TAIL p
    let rxH := s.fd F.KL_PORTn_EVIDX_RX_HEAD p
    d (s.fd F.KL_PORTn_EVIDX_TX_HEAD p) txT ≤ d (bits v.toNat 5 0) txT ∧
    d rxH (bits v.toNat 29 24) ≤ d rxH (s.fd F.KL_PORTn_EVIDX_RX_TAIL p))),
    decide (let s : State := kl1
    let e : Option SchedEntry := s.activeEntries.find? (fun e => e.port = 0 && e.slot = 0 && e.node ≠ 0xFFFF && e.ulEn && e.served s.time.bcn)
    e.any (fun e => decide ((s.node e.node).ulBcn ≠ some s.time.bcn ∧ (s.node e.node).missBcn ≠ some s.time.bcn)) = true ∧ s.netOn 0 = true ∧ s.time.noBase = false)].all id = true := by decide +kernel
end FramesAtAPort

namespace ColdStartAndMeasurement

def sched (s : State) (m e : Nat) (w0 w1 w2 : Nat) : State := ((s.setRg .KL_SCHEDm_Ww m (4*e) w0).setRg .KL_SCHEDm_Ww m (4*e+1) w1).setRg .KL_SCHEDm_Ww m (4*e+2) w2
def kl0 : State := sched (sched (set live [(F.KL_MODE_STATm_LEN,0,2),(F.KL_MODE_STATm_STATE,0,1),(F.KL_MODE_STATm_LEN,1,1),(F.KL_MODE_STATm_STATE,1,1),(F.TIM_CT_STAT_SRC,0,2),(F.KL_PORTn_CTL_MISS_LIMIT,0,3),
    (F.KL_PORTn_CTL_MISS_LIMIT,2,3)]) 0 0 5 0x30000000 0) 0 1 0x01000006 0x32000000 0
def kl1 : State := let s := set kl0 [(F.KL_PORTn_CTL_EN,0,1),(F.KL_MODE_STATm_STATE,0,3),(F.KL_TIME_STAT_CS_STATE,0,10),(F.KL_PORTn_STAT_LINK,0,1)]
  { s with kl := { s.kl with active := true, measured := [0] }, time := { s.time with bcn := 16, bcStart := 16 * 62500, ct := (16 * 62500 + 700) * 2^32 } }
def eth : List Byte := (List.range 12).map (fun i => BitVec.ofNat 8 i) ++ [BitVec.ofNat 8 (live.fd F.KL_GLOBAL_ETYPE / 256), BitVec.ofNat 8 (live.fd F.KL_GLOBAL_ETYPE)]
def fr (typ node bcn : Nat) (pl : List Byte) : List Byte := eth ++ [BitVec.ofNat 8 (0x10 + typ), 0] ++ leBytes 2 node ++ leBytes 4 bcn ++ leBytes 2 0 ++ leBytes 2 pl.length ++ pl
def pl (k : Nat) : List Byte := [BitVec.ofNat 8 k, 0, 7, 3] ++ (List.range 30).map (fun i => BitVec.ofNat 8 (3*i+1))
def cst (b : Nat) : List Byte := [0,0,0,BitVec.ofNat 8 b] ++ leBytes 8 1000900 ++ leBytes 4 77 ++ leBytes 20 0
def cs (n : Nat) (c : KlCold → KlCold := id) : State := let s := set kl1 [(F.KL_TIME_STAT_CS_STATE,0,n)]; { s with kl := { s.kl with cold := c { s.kl.cold with since := 3, stamp := 100, frm := 5, frmCt := 4000 * 2^32, ownCt := 900 * 2^32 } } }
def rg1 : State := let s := set kl1 [(F.KL_PORTn_CTL_EN,1,1),(F.KL_PORTn_CTL_RING,0,1)]; { s with kl := { s.kl with preq := [(0, 7)] } }
/-- States and operands that meet the hypotheses of `Obligations.ColdStartAndMeasurement`, clause by clause. -/
theorem test_premises : [
    decide (let s : State := cs 5
    let p : Nat := 0
    let dt : Nat := 1
    let bs : List Byte := fr 7 5 16 (pl 2)
    let u := s.advance dt
    s.portOn p = true ∧
    s.isStandby = false ∧
    u.klReject p 7 true bs = none ∧
    klField bs 12 1 = 2 ∧
    34 ≤ klField bs 10 2),
    decide (let s : State := set (cs 3) [(F.KL_TIME_CTL_RANK,0,3)]
    let p : Nat := 0
    let dt : Nat := 2
    let bs : List Byte := fr 7 5 16 (pl 4)
    let u := s.advance dt
    s.portOn p = true ∧
    u.klReject p 7 true bs = none ∧
    klField bs 12 1 = 4 ∧
    34 ≤ klField bs 10 2),
    decide (let s : State := rg1
    let p : Nat := 1
    let dt : Nat := 1
    let bs : List Byte := fr 7 5 16 (pl 3)
    let u := s.advance dt
    let e : Nat × Nat := (0, 7)
    s.portOn p = true ∧
    s.netOf p ≠ p ∧
    s.kl.preq.find? (fun e => e.1 = s.netOf p) = some e ∧
    u.klReject p 7 true bs = none ∧
    klField bs 12 1 = 3 ∧
    34 ≤ klField bs 10 2),
    decide (let s : State := { kl1 with kl := { kl1.kl with measure := [(0,0,none)] } }
    let p : Nat := 0
    (s.kl.measure.find? (fun e => e.1 = p)).isSome = true ∧
    (s.coldNet p = true → s.spreadBad p (s.resultsAt p) = false)),
    decide (let s : State := set (cs 2) [(F.KL_TIME_CTL_CAP,0,1)]
    s.csState = 2 ∧
    s.flag F.KL_TIME_CTL_CAP = true),
    decide (let s : State := set (cs 3) [(F.KL_TIME_CTL_RANK,0,3)]
    s.csState = 3),
    decide (let s : State := cs 5
    s.csState = 5),
    decide (let s : State := cs 4
    s.csState = 4),
    decide (let s : State := cs 5
    let p : Nat := 0
    let dt : Nat := 2
    let bs : List Byte := fr 6 5 16 (cst 1)
    let u := s.advance dt
    s.portOn p = true ∧
    s.netOf p = s.fd F.KL_TIME_CTL_REF_PORT ∧
    s.ch.strap % 4 = 0 ∧
    (s.csState = 2 ∨ s.csState = 3 ∨ s.csState = 5) ∧
    u.klReject p 6 true bs = none ∧
    klField bs 15 1 % 4 = s.time.base),
    decide (let s : State := cs 2
    let p : Nat := 0
    s.portOn p = true ∧
    s.netOf p = s.fd F.KL_TIME_CTL_REF_PORT ∧
    s.ch.strap % 4 = 0 ∧
    (s.csState = 2 ∨ s.csState = 3)),
    decide (let s : State := cs 6 (fun c => { c with spoiled := true })
    let c := s.kl.cold
    s.csState = 6 ∧
    c.spoiled = true),
    decide (let s : State := cs 6
    let c := s.kl.cold
    s.csState = 6 ∧
    c.spoiled = false),
    decide (let s : State := kl0
    let q : Requester := .host
    let v : Word := 0x30B
    s.grants q .KL_TIME_CTL = true ∧
    s.anyPort = false ∧
    bits v.toNat 15 8 ≠ 0 ∧
    s.netOf (bits v.toNat 2 0) = bits v.toNat 2 0)].all id = true := by decide +kernel
end ColdStartAndMeasurement

namespace ReferenceIsFollowed

def sched (s : State) (m e : Nat) (w0 w1 w2 : Nat) : State := ((s.setRg .KL_SCHEDm_Ww m (4*e) w0).setRg .KL_SCHEDm_Ww m (4*e+1) w1).setRg .KL_SCHEDm_Ww m (4*e+2) w2
def kl0 : State := sched (sched (set live [(F.KL_MODE_STATm_LEN,0,2),(F.KL_MODE_STATm_STATE,0,1),(F.KL_MODE_STATm_LEN,1,1),(F.KL_MODE_STATm_STATE,1,1),(F.TIM_CT_STAT_SRC,0,2),(F.KL_PORTn_CTL_MISS_LIMIT,0,3),
    (F.KL_PORTn_CTL_MISS_LIMIT,2,3)]) 0 0 5 0x30000000 0) 0 1 0x01000006 0x32000000 0
def kl1 : State := let s := set kl0 [(F.KL_PORTn_CTL_EN,0,1),(F.KL_MODE_STATm_STATE,0,3),(F.KL_TIME_STAT_CS_STATE,0,10),(F.KL_PORTn_STAT_LINK,0,1)]
  { s with kl := { s.kl with active := true, measured := [0] }, time := { s.time with bcn := 16, bcStart := 16 * 62500, ct := (16 * 62500 + 700) * 2^32 } }
def eth : List Byte := (List.range 12).map (fun i => BitVec.ofNat 8 i) ++ [BitVec.ofNat 8 (live.fd F.KL_GLOBAL_ETYPE / 256), BitVec.ofNat 8 (live.fd F.KL_GLOBAL_ETYPE)]
def fr (typ node bcn : Nat) (pl : List Byte) : List Byte := eth ++ [BitVec.ofNat 8 (0x10 + typ), 0] ++ leBytes 2 node ++ leBytes 4 bcn ++ leBytes 2 0 ++ leBytes 2 pl.length ++ pl
def pl (k : Nat) : List Byte := [BitVec.ofNat 8 k, 0, 7, 3] ++ (List.range 30).map (fun i => BitVec.ofNat 8 (3*i+1))
def tre (off : Nat) : List Byte := [6,0,0,0] ++ leBytes 4 16 ++ leBytes 8 off ++ leBytes 20 0
def syn (ct fr ref : Nat) : List Byte := leBytes 8 ct ++ leBytes 8 fr ++ leBytes 2 ref ++ leBytes 20 0
def cs (n : Nat) (c : KlCold → KlCold := id) : State := let s := set kl1 [(F.KL_TIME_STAT_CS_STATE,0,n)]; { s with kl := { s.kl with cold := c { s.kl.cold with since := 3, stamp := 100, frm := 5, frmCt := 4000 * 2^32, ownCt := 900 * 2^32 } } }
def c9 (f : KlState → KlState) : State := let s := cs 9; { s with kl := f { s.kl with ref := some 5 } }
def ch1 : State := { set (cs 2) [(F.CH_STAT_PRESENT,0,15),(F.KL_TIME_CHAIN_SRC_PORT,0,1)] with ch := { live.ch with strap := 1, quiet0 := 9, quiet1 := 0 } }
/-- States and operands that meet the hypotheses of `Obligations.ReferenceIsFollowed`, clause by clause. -/
theorem test_premises : [
    decide (let s : State := c9 (fun k => { k with trMiss := 8, integral := 1000000000000 })
    let p : Nat := 0
    let dt : Nat := 16
    let bs : List Byte := fr 7 5 16 (tre (2^64 - 60000000))
    let u := s.advance dt
    s.csState = 9 ∧
    (s.kl.ref).any (fun node => decide (s.kl.trSeen = false ∧
    s.portOn p = true ∧
    u.klReject p 7 true bs = none ∧
    klField bs 12 1 = 6 ∧
    34 ≤ klField bs 10 2 ∧
    klField bs 2 2 = node ∧
    klField bs 16 4 = s.time.bcn % 2 ^ 32)) = true),
    decide (let s : State := c9 (fun k => { k with trMiss := 8, integral := 1000000000000 })
    s.csState = 9 ∧
    (s.kl.ref).any (fun node => decide (node < 0x800 ∧
    s.kl.bySync = false ∧
    (s.fd F.KL_TIME_CTL_TR_LIMIT ≤ s.kl.trMiss ∨ (s.kl.refSeen = true ∧ (s.node node).present = false)))) = true),
    decide (let s : State := cs 7
    let p : Nat := 0
    let dt : Nat := 16
    let bs : List Byte := fr 1 6 16 (syn 1000700 0 5)
    let u := s.advance dt
    s.portOn p = true ∧
    s.isStandby = false ∧
    s.coldNet p = true ∧
    u.klReject p 1 true bs = none ∧
    klField bs 2 2 ≠ s.selfId ∧
    (s.csState = 2 ∨ s.csState = 3 ∨ s.csState = 7)),
    decide (let s : State := { cs 8 (fun c => { c with syncs := 2, syncBcn := 15 }) with kl := { (cs 8 (fun c => { c with syncs := 2, syncBcn := 15 })).kl with ref := some 5 } }
    let p : Nat := 0
    let dt : Nat := 0
    let bs : List Byte := fr 1 6 16 (syn 1000700 0 5)
    let u := s.advance dt
    let link : Nat := 0
    s.portOn p = true ∧
    s.isStandby = false ∧
    s.coldNet p = true ∧
    u.klReject p 1 true bs = none ∧
    klField bs 2 2 ≠ s.selfId ∧
    (let at_ := ((klField bs 12 8 * 2 ^ 32 + link * 2 ^ 24 : Nat) + toSigned 64 (klField bs 20 8) * 2 ^ 16).toNat
    let ref := klField bs 28 2
    s.csState = 8 ∧
    s.kl.cold.syncs = 2 ∧
    klField bs 4 4 % 2 ^ 32 = (s.kl.cold.syncBcn + 1) % 2 ^ 32 ∧
    s.kl.ref = some ref ∧
    ((at_ : Int) - u.time.ct).natAbs ≤ 100 * 2 ^ 32)),
    decide (let s : State := ch1
    let p : Nat := 0
    s.domOn 23 = true ∧
    s.ch.strap % 4 ≠ 0 ∧
    s.nearPort = p ∧
    s.csState ≠ 9 ∧
    s.csState ≠ 11),
    decide (let s : State := ch1
    s.ch.strap % 4 ≠ 0 ∧
    (s.fd F.KL_TIME_CHAIN_SRC_PORT = 1 ∨ s.fd F.KL_TIME_CHAIN_SRC_PORT = 2) ∧
    8 ≤ s.quietOf (s.fd F.KL_TIME_CHAIN_SRC_PORT - 1) ∧
    s.quietOf (2 - s.fd F.KL_TIME_CHAIN_SRC_PORT) < 8)].all id = true := by decide +kernel
end ReferenceIsFollowed

namespace DepositMatchesTokens

def tplW (s : State) (t : Nat) (ws : List Nat) : State := ws.zipIdx.foldl (fun s e => s.setRg .LV_TPLt_Ww t e.2 e.1) s
def flowW (s : State) (t : Nat) (ws : List Nat) : State := ws.zipIdx.foldl (fun s e => s.setRg .LV_FLOWf_Ww t e.2 e.1) s
def tpl3 (fl : Nat) : List Nat := [0x70000, 0x00070003, (fl <<< 8) ||| 2 ||| (1 <<< 16), 100, 0, 5000, 1]
def lv0 (fl : Nat) : State := flowW (tplW live 3 (tpl3 fl)) 7 [0x00040F00 , 0x00FF0000]
def wt (s : State) (l : List Inst) : State := { s with lv := { s.lv with waiting := l } }
def i0 : Inst := { tpl := 3, tag := 5, slots := [(0, 7)], deadline := none }
/-- States and operands that meet the hypotheses of `Obligations.DepositMatchesTokens`, clause by clause. -/
theorem test_premises : [
    decide (let s : State := set (lv0 0) [(F.LV_TICKk_OFS_EN,1,1),(F.LV_TICKk_CTL_PHASES,1,0xFFFF)]
    let src : TokSrc := .tick 2
    let t : Nat := 0
    let k : Nat := 1
    let tag : Nat := 0
    t < 4096 ∧
    k < 16 ∧
    tag < 2 ^ 16 ∧
    s.bridgeOf t = none ∧
    (src.rank).any (fun n => decide ((1 : Nat) < min (n - 8) 64 ∧
    (if s.lv.turn.1 = s.time.ticks ∧ n < s.lv.turn.2 then s.advance 1 else s : State).tickDue (1 : Nat) = true)) = true),
    decide (let s : State := live
    let src : TokSrc := .post 0
    let t : Nat := 9
    let k : Nat := 3
    let tag : Nat := 9
    t < 4096 ∧
    k < 16 ∧
    tag < 2 ^ 16 ∧
    s.bridgeOf t = none ∧
    (src.rank).any (fun n => decide ((∀ j, j < min (n - 8) 64 → (if s.lv.turn.1 = s.time.ticks ∧ n < s.lv.turn.2 then s.advance 1 else s : State).tickDue j = false))) = true),
    decide (let s : State := live
    let src : TokSrc := .post 0
    let t : Nat := 9
    let k : Nat := 3
    let tag : Nat := 9
    t < 4096 ∧
    k < 16 ∧
    tag < 2 ^ 16 ∧
    s.bridgeOf t = none ∧
    (let u := s.takeTurnOf src
    u.tplOn t = false)),
    decide (let s : State := { tplW (lv0 1) 3 [0x70000,0x00070003,0x10102,100,0,5000,0x00090001] with lv := { live.lv with seqValid := [3] } }
    let src : TokSrc := .post 3
    let t : Nat := 3
    let k : Nat := 3
    let tag : Nat := 5
    t < 4096 ∧
    k < 16 ∧
    tag < 2 ^ 16 ∧
    s.bridgeOf t = none ∧
    (let u := s.takeTurnOf src
    let late := u.tplSeq t = true ∧ t ∈ u.lv.seqValid ∧ (u.tpl t 26 2 + 2 ^ 16 - tag) % 2 ^ 16 < 2 ^ 15
    u.tplOn t = true ∧
    late)),
    decide (let s : State := wt (lv0 0) [i0]
    let src : TokSrc := .port 1
    let t : Nat := 3
    let k : Nat := 0
    let tag : Nat := 5
    t < 4096 ∧
    k < 16 ∧
    tag < 2 ^ 16 ∧
    s.bridgeOf t = none ∧
    (let u := s.takeTurnOf src
    let late := u.tplSeq t = true ∧ t ∈ u.lv.seqValid ∧ (u.tpl t 26 2 + 2 ^ 16 - tag) % 2 ^ 16 < 2 ^ 15
    let old := u.lv.waiting.find? (fun x => x.tpl = t && x.tag = tag)
    let slots := (old.map (·.slots)).getD []
    u.tplOn t = true ∧
    (¬ late) ∧
    (∃ e ∈ slots, e.1 = k))),
    decide (let s : State := { lv0 0 with lv := { (lv0 0).lv with turn := (0, 9) } }
    let src : TokSrc := .post 0
    let t : Nat := 3
    let k : Nat := 1
    let tag : Nat := 3
    let v : Word := 0
    t < 4096 ∧
    k < 16 ∧
    tag < 2 ^ 16 ∧
    s.bridgeOf t = none ∧
    (let u := s.takeTurnOf src
    let late := u.tplSeq t = true ∧ t ∈ u.lv.seqValid ∧ (u.tpl t 26 2 + 2 ^ 16 - tag) % 2 ^ 16 < 2 ^ 15
    let old := u.lv.waiting.find? (fun x => x.tpl = t && x.tag = tag)
    let slots := (old.map (·.slots)).getD []
    let new : Inst := { tpl := t, tag := tag, slots := putSlot k v slots, deadline := (old.map (·.deadline)).getD (u.deadlineOf t) }
    u.tplOn t = true ∧
    (¬ late) ∧
    (∀ e ∈ slots, e.1 ≠ k) ∧
    0 < u.fd F.LV_STAT_FREE ∧
    u.complete new = false)),
    decide (let s : State := { wt (lv0 0) [i0] with lv := { (wt (lv0 0) [i0]).lv with turn := (0, 900) } }
    let src : TokSrc := .post 0
    let t : Nat := 3
    let k : Nat := 1
    let tag : Nat := 5
    let v : Word := 77
    t < 4096 ∧
    k < 16 ∧
    tag < 2 ^ 16 ∧
    s.bridgeOf t = none ∧
    (let u := s.takeTurnOf src
    let late := u.tplSeq t = true ∧ t ∈ u.lv.seqValid ∧ (u.tpl t 26 2 + 2 ^ 16 - tag) % 2 ^ 16 < 2 ^ 15
    let old := u.lv.waiting.find? (fun x => x.tpl = t && x.tag = tag)
    let slots := (old.map (·.slots)).getD []
    let new : Inst := { tpl := t, tag := tag, slots := putSlot k v slots, deadline := (old.map (·.deadline)).getD (u.deadlineOf t) }
    u.tplOn t = true ∧
    (¬ late) ∧
    (∀ e ∈ slots, e.1 ≠ k) ∧
    0 < u.fd F.LV_STAT_FREE ∧
    u.complete new = true ∧
    u.isStandby = false ∧
    (∀ x ∈ u.lv.fired, x.tpl < 4096) ∧
    (u.queueOf (u.tplFlow t)).length < u.flow (u.tplFlow t) 2)),
    decide (let s : State := set (wt (lv0 0) [i0]) [(F.LV_STAT_FREE,0,0)]
    let src : TokSrc := .port 1
    let t : Nat := 3
    let k : Nat := 5
    let tag : Nat := 3
    t < 4096 ∧
    k < 16 ∧
    tag < 2 ^ 16 ∧
    s.bridgeOf t = none ∧
    (let u := s.takeTurnOf src
    let late := u.tplSeq t = true ∧ t ∈ u.lv.seqValid ∧ (u.tpl t 26 2 + 2 ^ 16 - tag) % 2 ^ 16 < 2 ^ 15
    let old := u.lv.waiting.find? (fun x => x.tpl = t && x.tag = tag)
    let slots := (old.map (·.slots)).getD []
    u.tplOn t = true ∧
    (¬ late) ∧
    (∀ e ∈ slots, e.1 ≠ k) ∧
    u.fd F.LV_STAT_FREE = 0))].all id = true := by decide +kernel
end DepositMatchesTokens

namespace InstancesMoveOn

def tplW (s : State) (t : Nat) (ws : List Nat) : State := ws.zipIdx.foldl (fun s e => s.setRg .LV_TPLt_Ww t e.2 e.1) s
def flowW (s : State) (t : Nat) (ws : List Nat) : State := ws.zipIdx.foldl (fun s e => s.setRg .LV_FLOWf_Ww t e.2 e.1) s
def tpl3 (fl : Nat) : List Nat := [0x70000, 0x00070003, (fl <<< 8) ||| 2 ||| (1 <<< 16), 100, 0, 5000, 1]
def lv0 (fl : Nat) : State := flowW (tplW live 3 (tpl3 fl)) 7 [0x00040F00 , 0x00FF0000]
def wt (s : State) (l : List Inst) : State := { s with lv := { s.lv with waiting := l } }
def fr (s : State) (l : List Fired) : State := { s with lv := { s.lv with fired := l } }
def f0 : Fired := { tpl := 3, tag := 5, slots := [(0,7),(1,9)], part := false, fireCt := 4, tick := 0, released := true, relAt := 4, sched := none }
def i0 : Inst := { tpl := 3, tag := 5, slots := [(0, 7)], deadline := none }
def tk (s : State) : State := set s [(F.LV_TICKk_OFS_EN,5,1),(F.LV_TICKk_OFS_OFS,5,3),(F.LV_TICKk_CTL_TOKEN,5,0x3),(F.LV_TICKk_CTL_PHASES,5,0xFFFF)]
/-- States and operands that meet the hypotheses of `Obligations.InstancesMoveOn`, clause by clause. -/
theorem test_premises : [
    decide (let s : State := fr (lv0 0) [f0]
    (s.nextDispatch s.lv.fired).any (fun x_ => decide (x_.1.tpl < 4096)) = true),
    decide (let s : State := tk live
    let k : Nat := 5
    let ofs := s.offsetNs (s.fd F.LV_TICKk_OFS_OFS k) * 2 ^ 32
    k < 64 ∧
    s.flag F.LV_TICKk_OFS_EN k = true ∧
    bit (s.fd F.LV_TICKk_CTL_PHASES k) s.phase = true ∧
    s.time.noBase = false ∧
    k ∉ s.lv.tickDone ∧
    s.fd F.LV_TICKk_CTL_TOKEN k ≠ 0xFFFF ∧
    s.clockOn = true ∧
    s.time.ctLoad = none ∧
    s.time.ct < 2 ^ 96 ∧
    s.time.ct < ofs + s.time.ctInc ∧
    ofs + s.time.ctInc < 2 ^ 96),
    decide (let x : Inst := { i0 with deadline := some 900 }
    let s : State := wt (lv0 4) [x]
    let w := (s.advanceTo 900).takeTurn 1000
    s.lv.waiting = [x] ∧
    w.lv.waiting = [x] ∧
    w.tplDlMode 3 = 1 ∧
    w.isStandby = false ∧
    w.lv.fired = [] ∧
    (w.queueOf (w.tplFlow 3)).length < w.flow (w.tplFlow 3) 2),
    decide (let x : Inst := { i0 with deadline := some 900 }
    let s : State := wt (lv0 0) [x]
    let w := (s.advanceTo 900).takeTurn 1000
    s.lv.waiting = [x] ∧
    w.lv.waiting = [x] ∧
    w.tplDlMode 3 = 0),
    decide (let s : State := fr (lv0 0) [{ f0 with released := false, relAt := 900 }]
    (s.lv.fired.find? (fun x => x.tpl = 3 && x.tag = 5 && !x.released)).isSome = true)].all id = true := by decide +kernel
end InstancesMoveOn

namespace LevainTablesAndCommands

def tplW (s : State) (t : Nat) (ws : List Nat) : State := ws.zipIdx.foldl (fun s e => s.setRg .LV_TPLt_Ww t e.2 e.1) s
def flowW (s : State) (t : Nat) (ws : List Nat) : State := ws.zipIdx.foldl (fun s e => s.setRg .LV_FLOWf_Ww t e.2 e.1) s
def tpl3 (fl : Nat) : List Nat := [0x70000, 0x00070003, (fl <<< 8) ||| 2 ||| (1 <<< 16), 100, 0, 5000, 1]
def lv0 (fl : Nat) : State := flowW (tplW live 3 (tpl3 fl)) 7 [0x00040F00 , 0x00FF0000]
def fr (s : State) (l : List Fired) : State := { s with lv := { s.lv with fired := l } }
def f0 : Fired := { tpl := 3, tag := 5, slots := [(0,7),(1,9)], part := false, fireCt := 4, tick := 0, released := true, relAt := 4, sched := none }
def tk (s : State) : State := set s [(F.LV_TICKk_OFS_EN,5,1),(F.LV_TICKk_OFS_OFS,5,3),(F.LV_TICKk_CTL_TOKEN,5,0x3),(F.LV_TICKk_CTL_PHASES,5,0xFFFF)]
/-- States and operands that meet the hypotheses of `Obligations.LevainTablesAndCommands`, clause by clause. -/
theorem test_premises : [
    decide (let s : State := tplW live 3 [0x70000, 0x00070003, 2, 100, 0, 5000, 0]
    let q : Requester := .host
    let t : Nat := 900
    let w : Nat := 1
    s.grants q .LV_TPLt_Ww t w = true ∧
    s.tplOn t = false ∧
    w < 6),
    decide (let s : State := flowW (tplW live 3 [0x70000, 0x00070003, 2, 100, 0, 5000, 0]) 7 [0x00040F00,0x00FF0000]
    let q : Requester := .host
    let t : Nat := 3
    s.grants q .LV_TPL_CMD = true ∧
    t < 4096 ∧
    s.tplCheck t = none),
    decide (let s : State := tplW live 3 [0x70000, 0x00070003, 2, 100, 0, 5000, 0]
    let q : Requester := .host
    let f : Nat := 900
    s.grants q .LV_FLOWf_Ww f = true ∧
    (∀ x ∈ s.onTemplates, s.tplFlow x ≠ f)),
    decide (let s : State := flowW live 7 [0x00040F00,0x00FF0002]
    let q : Requester := .host
    let f : Nat := 7
    s.grants q .LV_FLOW_CMD = true ∧
    f < 4096 ∧
    s.flow f 4 = 2),
    decide (let s : State := fr (lv0 0) [f0]
    let q : Requester := .host
    let f : Nat := 0
    s.grants q .LV_FLOW_CMD = true ∧
    f < 4096 ∧
    s.flow f 4 ≠ 1),
    decide (let s : State := flowW live 7 [0x00040F00,0x00000001]
    let q : Requester := .host
    let f : Nat := 7
    s.grants q .LV_FLOW_CMD = true ∧
    f < 4096 ∧
    s.flow f 4 = 1),
    decide (let s : State := tk (lv0 0)
    let q : Requester := .host
    let k : Nat := 5
    let v : Word := 0x10003
    s.grants q .LV_TICKk_OFS k = true ∧
    bits v.toNat 9 0 * 250 < baseNs (s.fd F.TIM_CYCLE_BASE) ∧
    bits v.toNat 16 16 = 1 ∧
    s.fd F.LV_TICKk_CTL_TOKEN k ≠ 0xFFFF ∧
    s.fd F.LV_TICKk_CTL_PHASES k ≠ 0)].all id = true := by decide +kernel
end LevainTablesAndCommands

namespace EmptyQueueTicks

def tm (f : TimeState → TimeState) : State := { live with time := f live.time }
/-- States and operands that meet the hypotheses of `Obligations.EmptyQueueTicks`, clause by clause. -/
theorem test_premises : [
    decide (let s : State := tm (fun t => { t with ptLoad := some 77, ptAdj := 4 })
    s.pending = [])].all id = true := by decide +kernel
end EmptyQueueTicks

namespace ResetState

/-- States and operands that meet the hypotheses of `Obligations.ResetState`, clause by clause. -/
theorem test_premises : [
    decide (let d : Nat := 0
    d < 28)].all id = true := by decide +kernel
end ResetState

namespace RegisterAccesses

/-- States and operands that meet the hypotheses of `Obligations.RegisterAccesses`, clause by clause. -/
theorem test_premises : [
    decide (let s : State := { set live [(F.PW_DOMd_STAT_STATE,2,3),(F.PW_DOMd_STAT_STATE,22,1)] with pw := { live.pw with offSeen := [2,22] } }
    let q : Requester := .mnt
    let i : Nat := 1
    let r := Reg.HS_HEn_MAC_LO
    s.grants q r i 0 = true),
    decide (let s : State := live
    let q : Requester := .mnt
    let i : Nat := 4
    let j : Nat := 0
    let r := Reg.KL_MODE_ERRm
    s.grants q r i j = true),
    decide (let s : State := setR live [(.HS_VPEND_LO,0,0xF0F),(.HS_VPEND_HI,0,0xFFFFFFFF)]
    let q : Requester := .debug
    let r := Reg.HS_VPEND_LO
    s.grants q r 0 0 = true),
    decide (let i : Nat := 4
    i < 28),
    decide (let s : State := { set live [(F.PW_DOMd_STAT_STATE,2,3),(F.PW_DOMd_STAT_STATE,22,1)] with pw := { live.pw with offSeen := [2,22] } }
    let q : Requester := .debug
    let r : Reg := .VC_CTLn
    let i : Nat := 10
    let j : Nat := 0
    s.portUp q = true ∧
    (q = .debug ∨ q = .mnt → s.accessLevel = 2) ∧
    findReg (r.addr i j) = some (r, i, j) ∧
    r.addr i j % 4 = 0 ∧
    i < r.row.count ∧
    j < r.row.count2 ∧
    s.answers (r.domain i) = false ∧
    s.pw.offSeen.contains (r.domain i) = true),
    decide (let s : State := { live with lc := { live.lc with state := 2 } }
    let q : Requester := .host
    let r : Reg := .HS_HEn_CTL
    let i : Nat := 1
    let j : Nat := 0
    s.portUp q = true ∧
    (q = .debug ∨ q = .mnt → s.accessLevel = 2) ∧
    s.domOn 24 = true ∧
    s.accessLevel = 0 ∧
    findReg (r.addr i j) = some (r, i, j) ∧
    r.addr i j % 4 = 0 ∧
    mntAlways r = false),
    decide (let s : State := { live with lc := { live.lc with state := 2 } }
    let q : Requester := .core 3
    s.portUp q = true ∧
    (q = .debug ∨ q = .mnt → s.accessLevel = 2) ∧
    s.domOn 24 = true ∧
    s.accessLevel ≠ 2),
    decide (let s : State := setR live [(.HS_VPEND_LO,0,0xF0F),(.HS_VPEND_HI,0,0xFFFFFFFF)]
    let q : Requester := .host
    let off : Nat := 2
    let width : Nat := 0
    s.portUp q = true ∧
    (q = .debug ∨ q = .mnt → s.accessLevel = 2) ∧
    (width ≠ 4 ∨ off % 4 ≠ 0 ∨ findReg off = none) ∧
    off < 2 ^ 32)].all id = true := by decide +kernel
end RegisterAccesses

namespace LatchesAndMaintenancePort

def s1 : State := { live with time := { live.time with ct := 2^70+5, pt := 2^80 } }
/-- States and operands that meet the hypotheses of `Obligations.LatchesAndMaintenancePort`, clause by clause. -/
theorem test_premises : [
    decide (let s : State := s1
    let q : Requester := .host
    let i : Nat := 0
    s.portUp q = true ∧
    (q = .debug → s.accessLevel ≠ 0) ∧
    (let p := (Reg.KL_GADDR_LO, Reg.KL_GADDR_HI)
    i < p.1.row.count ∧
    s.answers (p.1.domain i) = true)),
    decide (let s : State := s1
    let wa : Nat := 0
    s.held = false ∧
    wa < 2 ^ 24 ∧
    (findReg (wa * 4)).any (fun r_ => decide (s.answers (r_.1.domain r_.2.1) = true ∧
    r_.1.isCompanion = false)) = true),
    decide (let s : State := State.reset
    let wa : Nat := Reg.addr .VC_STATn 0 0 / 4
    s.held = false ∧
    wa < 2 ^ 24 ∧
    (findReg (wa * 4)).any (fun r_ => decide (s.answers (r_.1.domain r_.2.1) = false)) = true)].all id = true := by decide +kernel
end LatchesAndMaintenancePort

namespace SupplyResetAndBoot

def imgHdr (n len crc ver : Nat) : List Byte := leBytes 4 0x4D49564E ++ leBytes 2 ver ++ leBytes 2 n ++ leBytes 4 len ++ List.replicate 20 0 ++ leBytes 4 crc ++ List.replicate 220 0
def mkImg (b : Nat) (secs body : List Byte) (n : Nat) : List (Nat × Byte) :=
  let r := secs ++ body
  let bs := imgHdr n (256 + r.length) (crc32c r) 1 ++ r
  ((bs.zipIdx.map (fun (x,i) => (b * 0x2000000 + i, x)))).filter (fun e => e.2 ≠ 0)
def sec (kind target off len dest : Nat) : List Byte := [BitVec.ofNat 8 kind, BitVec.ofNat 8 target] ++ leBytes 2 0 ++ leBytes 4 off ++ leBytes 4 len ++ leBytes 4 dest
def imgA : List (Nat × Byte) := mkImg 0 (sec 4 0xFF 272 64 0x10005000) ((List.range 64).map (fun i => BitVec.ofNat 8 (i + 1))) 1
def imgB : List (Nat × Byte) := mkImg 1 (sec 5 0xFF 272 32 0) ([1,0,0,0] ++ leBytes 4 0x10 ++ leBytes 4 7 ++ leBytes 4 0xFF ++ [2,0,0,0] ++ leBytes 4 0x100020 ++ leBytes 4 0x1 ++ leBytes 4 0x1) 1
def im (s : State) (l : List (Nat × Byte)) (act valid : Nat) : State := { s with mem := { s.mem with img := l }, sv := { s.sv with imgActive := act, imgValid := valid } }
def bt (s : State) (n : Nat) : State := set s [(F.HS_BOOT_STAT_STATE,0,n)]
/-- States and operands that meet the hypotheses of `Obligations.SupplyResetAndBoot`, clause by clause. -/
theorem test_premises : [
    decide (let s : State := { live with held := true, cal := { live.cal with supply := .vbat }, extRef := 1 }
    s.held = true),
    decide (let s : State := bt (im live imgA 0 0) 1
    s.th.vsioLow = false),
    decide (let s : State := { set live [(F.TH_SOj_STAT_ON,3,1)] with th := { live.th with vsioLow := true } }
    s.th.vsioLow = true),
    decide (let s : State := bt live 1
    s.held = false ∧
    s.fd F.HS_BOOT_STAT_STATE = 1 ∧
    s.bootBank = none),
    decide (let s : State := bt (im { live with mem := { live.mem with sram := [(18, 7), (0x4C00,9)] } } imgA 0 1) 1
    s.held = false ∧
    s.fd F.HS_BOOT_STAT_STATE = 1 ∧
    s.bootBank = some s.sv.imgActive ∧
    s.bootEntries s.sv.imgActive = []),
    decide (let s : State := { bt (im live imgB 1 2) 2 with hs := { live.hs with boot := some (1, 5) } }
    s.held = false ∧
    s.fd F.HS_BOOT_STAT_STATE = 2 ∧
    (s.hs.boot).any (fun k_ => decide ((((s.bootEntries s.sv.imgActive).drop k_.1).head?).any (fun e => decide ((s.bootRead e.off).1 &&& e.mask ≠ e.value)) = true)) = true)].all id = true := by decide +kernel
end SupplyResetAndBoot

namespace DomainsMove

def pws (s : State) (f : PwState → PwState) : State := { s with pw := f s.pw }
def mov (d st g : Nat) (s : State := live) : State := pws (set s [(F.PW_DOMd_STAT_STATE,d,st),(F.PW_DOMd_STAT_MOVING,d,1),(F.PW_DOMd_CTL_REQ,d,g)]) (fun p => { p with target := Tab.set (fun _ => 0) p.target d g })
def drn (d : Nat) (s : State) : State := pws s (fun p => { p with drain := [(d, 10)] })
/-- States and operands that meet the hypotheses of `Obligations.DomainsMove`, clause by clause. -/
theorem test_premises : [
    decide (let s : State := mov 2 1 3 (set live [(F.VC_CTLn_HALT,8,1)])
    let q : Requester := .host
    let d : Nat := 26
    let v : Word := 2
    let req := F.PW_DOMd_CTL_REQ.of v.toNat
    s.grants q .PW_DOMd_CTL d = true ∧
    25 ≤ d ∧
    req ≠ s.fd F.PW_DOMd_CTL_REQ d),
    decide (let s : State := set live [(F.HS_HEn_TXq_IDX_HEAD,0,1)]
    let q : Requester := .host
    let d : Nat := 2
    let v : Word := 2
    let req := F.PW_DOMd_CTL_REQ.of v.toNat
    let clear := d < 25 ∧ req ≠ s.domState d ∧ s.fd F.PW_MOD_STATE < 2 ∧ s.flag F.PW_MOD_BUSY = false ∧ s.flag F.PW_DOMd_STAT_MOVING d = false ∧ ¬ (req < 3 ∧ s.sv.retired.testBit d = true)
    s.grants q .PW_DOMd_CTL d = true ∧
    clear ∧
    (s.domState d ≠ 0 ∨ s.leaveAtOnce d = none)),
    decide (let s : State := mov 2 1 3 (set live [(F.VC_CTLn_HALT,8,1)])
    let q : Requester := .host
    let d : Nat := 10
    let v : Word := 0
    let req := F.PW_DOMd_CTL_REQ.of v.toNat
    s.grants q .PW_DOMd_CTL d = true ∧
    d < 25 ∧
    s.domState d = req ∧
    s.fd F.PW_MOD_STATE < 2 ∧
    s.flag F.PW_MOD_BUSY = false ∧
    s.flag F.PW_DOMd_STAT_MOVING d = false ∧
    (¬ (req < 3 ∧ s.sv.retired.testBit d = true))),
    decide (let s : State := (onCore { rc with run := .halted } 8)
    let q : Requester := .host
    let d : Nat := 2
    let v : Word := 29
    let req := F.PW_DOMd_CTL_REQ.of v.toNat
    let clear := d < 25 ∧ req ≠ s.domState d ∧ s.fd F.PW_MOD_STATE < 2 ∧ s.flag F.PW_MOD_BUSY = false ∧ s.flag F.PW_DOMd_STAT_MOVING d = false ∧ ¬ (req < 3 ∧ s.sv.retired.testBit d = true)
    s.grants q .PW_DOMd_CTL d = true ∧
    clear ∧
    s.domState d = 0 ∧
    (s.leaveAtOnce d).isSome = true),
    decide (let s : State := drn 2 (mov 2 0 1)
    let d : Nat := 2
    d < 25 ∧
    (s.pw.drain.find? (fun e => e.1 = d)).any (fun t0_ => decide (t0_.1 = d ∧
    s.pw.entry = none ∧
    (s.advanceToTick (t0_.2 + s.fd F.PW_MOD_DRAIN * 500)).leaveAfterDrain d = false)) = true),
    decide (let s : State := drn 0 (mov 0 0 1 (onCore rc))
    let d : Nat := 0
    d < 25 ∧
    (s.pw.drain.find? (fun e => e.1 = d)).any (fun t0_ => decide (t0_.1 = d ∧
    s.pw.entry = none ∧
    (s.advanceToTick (t0_.2 + s.fd F.PW_MOD_DRAIN * 500)).leaveAfterDrain d = true)) = true),
    decide (let s : State := (drn 0 (mov 0 0 1 (onCore rc))).setFd F.PW_MOD_DRAIN 0 0 0
    (s.pw.drain.find? (fun e => e.1 = 0)).isSome = true ∧
    (s.advanceToTick (10 + s.fd F.PW_MOD_DRAIN * 500)).leaveAfterDrain 0 = true),
    decide (let s : State := mov 2 2 0
    let d : Nat := 2
    let goal := Tab.get (fun _ => 0) s.pw.target d
    d < 25 ∧
    s.flag F.PW_DOMd_STAT_MOVING d = true ∧
    s.pw.drain.any (fun e => e.1 = d) = false ∧
    s.pw.entry = none ∧
    (∀ e ∈ Tab.get (fun _ => []) s.pw.saved d, inDomain d e.1 = true) ∧
    goal = 0 ∧
    s.domState d ≠ 0),
    decide (let s : State := mov 2 1 2
    let d : Nat := 2
    let goal := Tab.get (fun _ => 0) s.pw.target d
    d < 25 ∧
    s.flag F.PW_DOMd_STAT_MOVING d = true ∧
    s.pw.drain.any (fun e => e.1 = d) = false ∧
    s.pw.entry = none ∧
    (∀ e ∈ Tab.get (fun _ => []) s.pw.saved d, inDomain d e.1 = true) ∧
    s.domState d ≤ goal ∧
    goal ≤ 3),
    decide (let s : State := drn 2 (mov 2 0 1)
    let q : Requester := .host
    let v : Word := 1
    let c := F.SV_FORCE_DOMAIN.of v.toNat
    s.grants q .SV_FORCE = true ∧
    c < 25 ∧
    s.pw.entry = none)].all id = true := by decide +kernel
end DomainsMove

namespace ModuleStates

def pws (s : State) (f : PwState → PwState) : State := { s with pw := f s.pw }
def modS (n : Nat) (l : List (Machine.Field × Nat × Nat) := []) : State := set live ([(F.PW_MOD_STATE,0,n)] ++ l)
def restAll (n g : Nat) : State := (List.range 24).foldl (fun s d => s.setFd F.PW_DOMd_STAT_STATE d 0 g) (modS n)
def ent (e : PwEntry) (s : State) : State := pws s (fun p => { p with entry := some e })
def e0 : PwEntry := { target := 2, stopped := [0, 5], todo := [6], committed := false }
/-- States and operands that meet the hypotheses of `Obligations.ModuleStates`, clause by clause. -/
theorem test_premises : [
    decide (let s : State := modS 0 [(F.GLOBAL_AG_EN_EN,0,1)]
    let q : Requester := .host
    let may := s.grants q .PW_MOD = true ∧ s.fd F.PW_MOD_DRAIN ≠ 0 ∧ s.flag F.PW_MOD_BUSY = false ∧ s.anyStep = false
    may ∧
    s.fd F.PW_MOD_STATE = 0),
    decide (let s : State := modS 1
    let q : Requester := .host
    let may := s.grants q .PW_MOD = true ∧ s.fd F.PW_MOD_DRAIN ≠ 0 ∧ s.flag F.PW_MOD_BUSY = false ∧ s.anyStep = false
    may ∧
    s.fd F.PW_MOD_STATE = 1 ∧
    s.flag F.PW_MOD_THERM = false),
    decide (let s : State := modS 1 [(F.PW_MOD_THERM,0,1)]
    let q : Requester := .host
    let may := s.grants q .PW_MOD = true ∧ s.fd F.PW_MOD_DRAIN ≠ 0 ∧ s.flag F.PW_MOD_BUSY = false ∧ s.anyStep = false
    may ∧
    s.fd F.PW_MOD_STATE = 1 ∧
    s.flag F.PW_MOD_THERM = true),
    decide (let s : State := modS 0 [(F.GLOBAL_AG_EN_EN,0,1)]
    let q : Requester := .host
    let may := s.grants q .PW_MOD = true ∧ s.fd F.PW_MOD_DRAIN ≠ 0 ∧ s.flag F.PW_MOD_BUSY = false ∧ s.anyStep = false
    let c := (Instr.moduleReqHold q, 2)
    may ∧
    s.fd F.PW_MOD_STATE < 2 ∧
    s.mayRest (decide (c.2 = 3)) = false),
    decide (let s : State := restAll 1 3
    let q : Requester := .host
    let may := s.grants q .PW_MOD = true ∧ s.fd F.PW_MOD_DRAIN ≠ 0 ∧ s.flag F.PW_MOD_BUSY = false ∧ s.anyStep = false
    let c := (Instr.moduleReqHold q, 2)
    may ∧
    s.fd F.PW_MOD_STATE < 2 ∧
    s.mayRest (decide (c.2 = 3)) = true ∧
    (∀ d ∈ s.members, c.2 ≤ s.domState d)),
    decide (let s : State := live
    let q : Requester := .host
    let may := s.grants q .PW_MOD = true ∧ s.fd F.PW_MOD_DRAIN ≠ 0 ∧ s.flag F.PW_MOD_BUSY = false ∧ s.anyStep = false
    let c := (Instr.moduleReqHold q, 2)
    may ∧
    s.fd F.PW_MOD_STATE < 2 ∧
    (let d : Nat := 0
    let l : List Nat := (List.range 24).drop 1
    s.mayRest (decide (c.2 = 3)) = true ∧
    s.members.filter (fun d => s.domOn d) = d :: l ∧
    s.leaveAtOnce d = none)),
    decide (let s : State := restAll 2 2
    let q : Requester := .host
    let may := s.grants q .PW_MOD = true ∧ s.fd F.PW_MOD_DRAIN ≠ 0 ∧ s.flag F.PW_MOD_BUSY = false ∧ s.anyStep = false
    let asleep := s.pw.entry = none ∧ 2 ≤ s.fd F.PW_MOD_STATE ∧ s.flag F.PW_MOD_BUSY = false
    let go := s.members.filter (fun d => decide (s.domState d ≠ 0) && !s.sv.retired.testBit d)
    asleep ∧
    may ∧
    go ≠ []),
    decide (let s : State := set (restAll 2 2) [(F.PW_WAKE_GPIO_EN,0,1),(F.PW_WAKE_EDGE,0,2)]
    let rising : Bool := true
    let asleep := s.pw.entry = none ∧ 2 ≤ s.fd F.PW_MOD_STATE ∧ s.flag F.PW_MOD_BUSY = false
    let go := s.members.filter (fun d => decide (s.domState d ≠ 0) && !s.sv.retired.testBit d)
    s.flag F.PW_WAKE_GPIO_EN = true ∧ (s.fd F.PW_WAKE_EDGE = 2 ∨ s.fd F.PW_WAKE_EDGE = if rising then 0 else 1) ∧
    asleep ∧
    go ≠ []),
    decide (let s : State := set (ent { e0 with committed := true } (set live [(F.PW_MOD_BUSY,0,1)])) [(F.PW_WAKE_GPIO_EN,0,1),(F.PW_WAKE_EDGE,0,2)]
    let rising : Bool := false
    s.flag F.PW_WAKE_GPIO_EN = true ∧ (s.fd F.PW_WAKE_EDGE = 2 ∨ s.fd F.PW_WAKE_EDGE = if rising then 0 else 1) ∧
    (s.pw.entry).any (fun e => decide (e.target ≠ 0 ∧
    e.committed = true)) = true),
    decide (let s : State := set (ent e0 (set live [(F.PW_DOMd_STAT_STATE,0,1),(F.PW_DOMd_STAT_STATE,5,1),(F.PW_MOD_BUSY,0,1)])) [(F.PW_WAKE_GPIO_EN,0,1),(F.PW_WAKE_EDGE,0,2)]
    let rising : Bool := false
    s.flag F.PW_WAKE_GPIO_EN = true ∧ (s.fd F.PW_WAKE_EDGE = 2 ∨ s.fd F.PW_WAKE_EDGE = if rising then 0 else 1) ∧
    (s.pw.entry).any (fun e => decide (e.target ≠ 0 ∧
    e.committed = false ∧
    (∀ x ∈ e.stopped, s.domState x = 1))) = true),
    decide (let s : State := pws (modS 2 [(F.PW_MOD_BUSY,0,1)]) (fun p => { p with reload := true })
    s.pw.reload = true ∧
    s.pw.entry = none),
    decide (let s : State := modS 0 [(F.GLOBAL_AG_EN_EN,0,1)]
    let temp : Int := 100
    s.fd F.PW_MOD_STATE = 0 ∧
    (s.fd F.PW_TRIM_TJ : Int) ≤ temp ∧
    s.anyStep = false),
    decide (let s : State := modS 0 [(F.PW_VOLTi_STAT_STEPPING,1,1)]
    let temp : Int := 116
    s.fd F.PW_MOD_STATE = 0 ∧
    (s.fd F.PW_TRIM_TJ : Int) ≤ temp ∧
    s.anyStep = true),
    decide (let s : State := modS 1 [(F.PW_MOD_THERM,0,1)]
    let temp : Int := 80
    s.fd F.PW_MOD_STATE = 1 ∧
    s.flag F.PW_MOD_THERM = true ∧
    temp + 5 ≤ s.fd F.PW_TRIM_TJ),
    decide (let s : State := restAll 2 2
    let temp : Int := 116
    115 ≤ temp ∧
    (((List.range 3).all (fun i => decide (s.fd (dvfsField i) ≤ 4)) = true)))].all id = true := by decide +kernel
end ModuleStates

namespace KeepListsAndVoltages

def pws (s : State) (f : PwState → PwState) : State := { s with pw := f s.pw }
def vs (i : Nat) (st : VStep) (s : State) : State := pws (set s [(F.PW_VOLTi_STAT_STEPPING,i,1)]) (fun p => { p with vstep := [(i, st)] })
def v0 : VStep := { prev := 680, goal := 720, div := some 2, began := 40 }
/-- States and operands that meet the hypotheses of `Obligations.KeepListsAndVoltages`, clause by clause. -/
theorem test_premises : [
    decide (let s : State := pws (set live [(F.PW_KEEP_CTL_DOMAIN,0,2)]) (fun p => { p with keep := [(2,[4,8])] })
    let q : Requester := .host
    let v : Word := BitVec.ofNat 32 (Reg.addr .VC_CTLn 8 0)
    let d := s.fd F.PW_KEEP_CTL_DOMAIN
    let l := Tab.get (fun _ => []) s.pw.keep d
    s.grants q .PW_KEEP_ADD = true ∧
    s.domOn d = true ∧
    v.toNat % 4 = 0 ∧
    (findReg v.toNat).any (fun r_ => decide (r_.1.domain r_.2.1 = d ∧
    l.length < 256)) = true),
    decide (let s : State := live
    let q : Requester := .host
    let v : Word := BitVec.ofNat 32 (fw F.PW_KEEP_CTL_DOMAIN 2 + fw F.PW_KEEP_CTL_CLR 1)
    let d := s.fd F.PW_KEEP_CTL_DOMAIN
    s.grants q .PW_KEEP_ADD = true ∧
    s.domOn d = true ∧
    findReg v.toNat = none),
    decide (let s : State := live
    let q : Requester := .host
    let v : Word := BitVec.ofNat 32 (fw F.PW_KEEP_CTL_DOMAIN 2 + fw F.PW_KEEP_CTL_CLR 1)
    s.grants q .PW_KEEP_CTL = true ∧
    F.PW_KEEP_CTL_DOMAIN.of v.toNat ≤ 24 ∧
    F.PW_KEEP_CTL_CLR.of v.toNat = 1 ∧
    s.domOn (F.PW_KEEP_CTL_DOMAIN.of v.toNat) = true),
    decide (let s : State := pws (set live [(F.PW_KEEP_CTL_DOMAIN,0,2)]) (fun p => { p with keep := [(2,[4,8])] })
    let q : Requester := .host
    let v : Word := BitVec.ofNat 32 (fw F.PW_VOLTi_STEP_GO 1 + fw F.PW_VOLTi_STEP_DIV 2)
    let i : Nat := 0
    let div := F.PW_VOLTi_STEP_DIV.of v.toNat
    s.grants q .PW_VOLTi_STEP i = true ∧
    F.PW_VOLTi_STEP_GO.of v.toNat = 1 ∧
    s.flag F.PW_VOLTi_STAT_STEPPING i = false ∧
    s.flag F.PW_MOD_BUSY = false ∧
    s.fd F.PW_MOD_STATE < 2 ∧
    (s.fd F.PW_MOD_STATE = 1 → s.fd F.PW_TRIM_CAP ≤ div) ∧
    div ≤ 4),
    decide (let s : State := vs 1 v0 live
    let q : Requester := .host
    let v : Word := BitVec.ofNat 32 (fw F.PW_VOLTi_STEP_GO 1 + fw F.PW_VOLTi_STEP_DIV 2)
    let i : Nat := 1
    s.grants q .PW_VOLTi_STEP i = true ∧
    F.PW_VOLTi_STEP_GO.of v.toNat = 1 ∧
    s.flag F.PW_VOLTi_STAT_STEPPING i = true),
    decide (let s : State := vs 1 v0 live
    let i : Nat := 1
    let mv : Nat := 720
    i < 3 ∧
    (s.pw.vstep.find? (fun e => e.1 = i)).any (fun st_ => decide (st_.1 = i ∧
    s.pw.thermWait = false ∧
    st_.2.prev < 1024 ∧
    st_.2.goal ≤ mv + 10 ∧
    mv ≤ st_.2.goal + 10 ∧
    mv < 1024 ∧
    st_.2.checkAt ≤ st_.2.endAt ∧
    s.time.ticks ≤ st_.2.endAt)) = true),
    decide (let s : State := set live [(F.PW_KEEP_CTL_DOMAIN,0,18)]
    let q : Requester := .host
    let v : Word := BitVec.ofNat 32 (fw F.PW_VOLTi_CTL_TARGET 800 + fw F.PW_VOLTi_CTL_AVS 1)
    let i : Nat := 1
    let nom := nominalMv (s.fd (dvfsField i))
    s.grants q .PW_VOLTi_CTL i = true ∧
    F.PW_VOLTi_CTL_TARGET.of v.toNat ≠ s.fd F.PW_VOLTi_CTL_TARGET i ∧
    s.flag F.PW_VOLTi_STAT_STEPPING i = false ∧
    s.flag F.PW_VOLTi_CTL_AVS i = false ∧
    600 ≤ F.PW_VOLTi_CTL_TARGET.of v.toNat ∧
    F.PW_VOLTi_CTL_TARGET.of v.toNat ≤ 900 ∧
    nom ≤ F.PW_VOLTi_CTL_TARGET.of v.toNat),
    decide (let s : State := set live [(F.PW_VOLTi_CTL_AVS,0,1),(F.PW_VOLTi_CTL_AVS,1,1),(F.PW_VOLTi_CTL_FSTEP,1,1),(F.PW_VOLTi_STAT_MEAS,0,700),(F.PW_VOLTi_STAT_MEAS,1,500)]
    let i : Nat := 1
    let mv : Nat := 0
    let nom := nominalMv (s.fd (dvfsField i))
    i < 3 ∧
    s.flag F.PW_VOLTi_CTL_AVS i = true ∧
    s.flag F.PW_VOLTi_STAT_STEPPING i = false ∧
    (let want := max (nom - 100) ((mv + 4) / 5 * 5)
    want ≤ nom + 30 ∧
    s.fd F.PW_VOLTi_STAT_MEAS i ≤ want)),
    decide (let s : State := set live [(F.PW_VOLTi_CTL_AVS,0,1),(F.PW_VOLTi_CTL_AVS,1,1),(F.PW_VOLTi_CTL_FSTEP,1,1),(F.PW_VOLTi_STAT_MEAS,0,700),(F.PW_VOLTi_STAT_MEAS,1,500)]
    let i : Nat := 0
    let mv : Nat := 1
    let nom := nominalMv (s.fd (dvfsField i))
    i < 3 ∧
    s.flag F.PW_VOLTi_CTL_AVS i = true ∧
    s.flag F.PW_VOLTi_STAT_STEPPING i = false ∧
    (let want := max (nom - 100) ((mv + 4) / 5 * 5)
    want ≤ nom + 30 ∧
    want < s.fd F.PW_VOLTi_STAT_MEAS i)),
    decide (let s : State := set live [(F.PW_VOLTi_CTL_AVS,0,1),(F.PW_VOLTi_CTL_AVS,1,1),(F.PW_VOLTi_CTL_FSTEP,1,1),(F.PW_VOLTi_STAT_MEAS,0,700),(F.PW_VOLTi_STAT_MEAS,1,500)]
    let i : Nat := 1
    let mv : Nat := 720
    let nom := nominalMv (s.fd (dvfsField i))
    i < 3 ∧
    s.flag F.PW_VOLTi_CTL_AVS i = true ∧
    s.flag F.PW_VOLTi_STAT_STEPPING i = false ∧
    (let want := max (nom - 100) ((mv + 4) / 5 * 5)
    nom + 30 < want))].all id = true := by decide +kernel
end KeepListsAndVoltages

namespace WearMigrationAndSwap

def svs (s : State) (f : SvState → SvState) : State := { s with sv := f s.sv }
def m0 : MigState := { group := 3, source := 0, target := 5, coreMap := 0x1B, retire := true, dirty := [3], dirtyAt := 0, moved := false, abortDue := false }
def mg (n : Nat) (m : MigState) (s : State := live) : State := svs (set s [(F.SV_MIG_STAT_STATE,0,n)]) (fun v => { v with mig := some m, hold := some 3 })
def memS : State := { live with mem := { live.mem with tcm := [(0, 1), (0x7FFFF, 2), (0x80005, 3), (5 * 0x200000 + 7, 9)], shared := [(0, 4), (0xFFFFF, 5), (5 * 0x100000 + 4, 6)], win := [(0, 8), (0x10003, 7), (5 * 0x80000 + 2, 3)], sram := [(3, 3)] } }
def imgHdr (n len crc ver : Nat) : List Byte := leBytes 4 0x4D49564E ++ leBytes 2 ver ++ leBytes 2 n ++ leBytes 4 len ++ List.replicate 20 0 ++ leBytes 4 crc ++ List.replicate 220 0
def mkImg (b : Nat) (secs body : List Byte) (n : Nat) : List (Nat × Byte) :=
  let r := secs ++ body
  let bs := imgHdr n (256 + r.length) (crc32c r) 1 ++ r
  ((bs.zipIdx.map (fun (x,i) => (b * 0x2000000 + i, x)))).filter (fun e => e.2 ≠ 0)
def sec (kind target off len dest : Nat) : List Byte := [BitVec.ofNat 8 kind, BitVec.ofNat 8 target] ++ leBytes 2 0 ++ leBytes 4 off ++ leBytes 4 len ++ leBytes 4 dest
def imgA : List (Nat × Byte) := mkImg 0 (sec 4 0xFF 272 64 0x10005000) ((List.range 64).map (fun i => BitVec.ofNat 8 (i + 1))) 1
def imgB : List (Nat × Byte) := mkImg 1 (sec 1 0 272 32 0x70000) ((List.range 32).map (fun i => BitVec.ofNat 8 (i * 3 + 1))) 1
def im (s : State) (n : Nat) : State := { set s [(F.SV_IMG_STAT_STATE,0,n)] with mem := { s.mem with img := imgA ++ imgB, win := [(5, 6), (0x10009, 4)] }, sv := { s.sv with imgActive := 0, imgValid := 3 } }
/-- States and operands that meet the hypotheses of `Obligations.WearMigrationAndSwap`, clause by clause. -/
theorem test_premises : [
    decide (let sl : Nat := 5
    sl < 18),
    decide (let s : State := set live [(F.GLOBAL_AG_EN_EN,0,8)]
    let q : Requester := .host
    let v : Word := W [(F.SV_RETIRE_SLICE,17),(F.SV_RETIRE_GO,1)]
    let c := F.SV_RETIRE_SLICE.of v.toNat
    s.grants q .SV_RETIRE = true ∧
    F.SV_RETIRE_GO.of v.toNat = 1 ∧
    c ≤ 17 ∧
    s.placed c = false ∧
    s.sv.mig = none),
    decide (let s : State := svs live (fun v => { v with retired := 0x20 })
    let q : Requester := .host
    let v : Word := W [(F.SV_RETIRE_SLICE,1),(F.SV_RETIRE_GO,1)]
    let c := F.SV_RETIRE_SLICE.of v.toNat
    s.grants q .SV_RETIRE = true ∧
    F.SV_RETIRE_GO.of v.toNat = 1 ∧
    c ≤ 17 ∧
    s.placed c = true),
    decide (let s : State := svs live (fun v => { v with retired := 0x20 })
    let q : Requester := .host
    let v : Word := W [(F.SV_UNRETIRE_SLICE,5),(F.SV_UNRETIRE_GO,1)]
    let c := F.SV_UNRETIRE_SLICE.of v.toNat
    s.grants q .SV_UNRETIRE = true ∧
    F.SV_UNRETIRE_GO.of v.toNat = 1 ∧
    s.lc.state = 0 ∧
    c ≤ 17 ∧
    s.sv.retired.testBit c = true),
    decide (let s : State := { live with lc := { live.lc with state := 1 } }
    let q : Requester := .host
    let v : Word := W [(F.SV_RETIRE_SLICE,17),(F.SV_RETIRE_GO,1)]
    s.grants q .SV_UNRETIRE = true ∧
    F.SV_UNRETIRE_GO.of v.toNat = 1 ∧
    s.lc.state ≠ 0),
    decide (let s : State := set live [(F.GLOBAL_AG_EN_EN,0,8)]
    let q : Requester := .host
    let v : Word := W [(F.SV_MIG_CTL_GO,1),(F.SV_MIG_CTL_GROUP,3),(F.SV_MIG_CTL_TARGET,16),(F.SV_MIG_CTL_CORE_MAP,0xE4)]
    let g := F.SV_MIG_CTL_GROUP.of v.toNat
    let to_ := F.SV_MIG_CTL_TARGET.of v.toNat
    let map := F.SV_MIG_CTL_CORE_MAP.of v.toNat
    s.grants q .SV_MIG_CTL = true ∧
    F.SV_MIG_CTL_ABORT.of v.toNat = 0 ∧
    F.SV_MIG_CTL_GO.of v.toNat = 1 ∧
    s.migCheck g to_ map = none),
    decide (let s : State := mg 3 m0
    let q : Requester := .host
    let v : Word := W [(F.SV_IMG_CTL_STAGE,1)]
    let g := F.SV_MIG_CTL_GROUP.of v.toNat
    let to_ := F.SV_MIG_CTL_TARGET.of v.toNat
    let map := F.SV_MIG_CTL_CORE_MAP.of v.toNat
    s.grants q .SV_MIG_CTL = true ∧
    F.SV_MIG_CTL_ABORT.of v.toNat = 0 ∧
    F.SV_MIG_CTL_GO.of v.toNat = 1 ∧
    (s.migCheck g to_ map).isSome = true),
    decide (let s : State := mg 1 m0 memS
    (s.sv.mig).any (fun m => decide (s.fd F.SV_MIG_STAT_STATE = 1 ∧
    coreMapOk m.coreMap = true ∧
    m.source ≠ m.target)) = true),
    decide (let s : State := mg 3 m0
    let m : MigState := m0
    s.sv.mig = some m ∧
    s.fd F.SV_MIG_STAT_STATE = 3 ∧
    m.moved = false ∧
    (((List.range 4).all (fun c => decide ((s.core (4 * m.source + c)).frozen = true ∨ (s.core (4 * m.source + c)).run = .idle)) = true))),
    decide (let s : State := mg 3 m0 (live.setCore 2 rc)
    let m : MigState := m0
    s.sv.mig = some m ∧
    s.fd F.SV_MIG_STAT_STATE = 3 ∧
    m.moved = false ∧
    ¬ (((List.range 4).all (fun c => decide ((s.core (4 * m.source + c)).frozen = true ∨ (s.core (4 * m.source + c)).run = .idle)) = true))),
    decide (let s : State := mg 3 m0
    let q : Requester := .host
    let v : Word := W [(F.SV_MIG_CTL_ABORT,1)]
    (s.sv.mig).any (fun m => decide (s.grants q .SV_MIG_CTL = true ∧
    F.SV_MIG_CTL_ABORT.of v.toNat = 1 ∧
    m.moved = false)) = true),
    decide (let s : State := mg 3 { m0 with moved := true }
    let q : Requester := .host
    let v : Word := W [(F.SV_IMG_CTL_SWAP,1)]
    (s.sv.mig).any (fun m => decide (s.grants q .SV_MIG_CTL = true ∧
    F.SV_MIG_CTL_ABORT.of v.toNat = 1 ∧
    m.moved = true)) = true),
    decide (let s : State := im live 2
    let q : Requester := .host
    let v : Word := 1
    s.grants q .SV_IMG_CTL = true ∧
    F.SV_IMG_CTL_STAGE.of v.toNat = 1 ∧
    F.SV_IMG_CTL_SWAP.of v.toNat = 0 ∧
    s.stageCheck = none),
    decide (let s : State := mg 3 m0
    let q : Requester := .host
    let v : Word := W [(F.SV_IMG_CTL_STAGE,1)]
    s.grants q .SV_IMG_CTL = true ∧
    F.SV_IMG_CTL_STAGE.of v.toNat = 1 ∧
    F.SV_IMG_CTL_SWAP.of v.toNat = 0 ∧
    (s.stageCheck).isSome = true),
    decide (let s : State := im live 1
    s.fd F.SV_IMG_STAT_STATE = 1 ∧
    (((s.imgSections (1 - s.sv.imgActive)).all (fun e => decide (e.kind = 1 → e.len ≤ 0x10000)) = true))),
    decide (let s : State := im live 2
    let q : Requester := .host
    let v : Word := 2
    s.grants q .SV_IMG_CTL = true ∧
    F.SV_IMG_CTL_STAGE.of v.toNat = 0 ∧
    F.SV_IMG_CTL_SWAP.of v.toNat = 1 ∧
    s.fd F.SV_IMG_STAT_STATE = 2),
    decide (let s : State := mg 3 m0
    let q : Requester := .host
    let v : Word := W [(F.SV_MIG_CTL_ABORT,1)]
    s.grants q .SV_IMG_CTL = true ∧
    F.SV_IMG_CTL_STAGE.of v.toNat = 0 ∧
    F.SV_IMG_CTL_SWAP.of v.toNat = 1 ∧
    s.fd F.SV_IMG_STAT_STATE ≠ 2)].all id = true := by decide +kernel
end WearMigrationAndSwap

namespace ErrorsJournalAndWatchdog

def svs (s : State) (f : SvState → SvState) : State := { s with sv := f s.sv }
def jn (s : State) (f : JnlState → JnlState) : State := { s with jnl := f s.jnl }
def je (n : Nat) : JournalEntry := { block := n, code := 3, cls := 1, ct := 5, calSec := 6, calSub := 7, rep := 0xFFFF, data := [1,2,3,4,5] }
def wd (f : SvState → SvState) : State := svs (set { live with time := { live.time with ticks := 700000 } } [(F.SV_WDOG_CTL_EN,0,1),(F.SV_WDOG_CTL_TO,0,10),(F.SV_WDOG_CTL_EARLY_EN,0,1)]) f
def ln (n : Nat) : List Byte := let b := leBytes 4 n ++ (List.range 56).map (fun i => BitVec.ofNat 8 i); b ++ leBytes 4 (crc32c b)
/-- States and operands that meet the hypotheses of `Obligations.ErrorsJournalAndWatchdog`, clause by clause. -/
theorem test_premises : [
    decide (let s : State := jn live (fun j => { j with queue := [je 1, { je 2 with data := [0,0,0,0,0,0,0] }] })
    let mem : Nat := 1
    let unit : Nat := 0
    let row : Nat := 17
    let hit (e : Nat × Nat × Nat × Nat) : Bool := e.1 = mem && e.2.1 = unit && e.2.2.1 = row
    let same := s.sv.scrub.filter hit
    same = []),
    decide (let s : State := svs live (fun v => { v with scrub := [(1,2,3,0),(1,2,3,1),(0,2,3,0),(0,2,3,1),(6,0,5,0),(6,0,5,3),(4,0,0,1),(4,0,0,2)] })
    let mem : Nat := 6
    let unit : Nat := 0
    let row : Nat := 5
    let hit (e : Nat × Nat × Nat × Nat) : Bool := e.1 = mem && e.2.1 = unit && e.2.2.1 = row
    let same := s.sv.scrub.filter hit
    2 ≤ same.length ∧
    (∀ e ∈ same, s.time.ticks < e.2.2.2 + secTicks 86400) ∧
    mem ≠ 4),
    decide (let s : State := jn live (fun j => { j with queue := [je 1, { je 2 with data := [0,0,0,0,0,0,0] }] })
    let ev : Nat := 69
    let blk : Nat := 300000
    let code : Nat := 200
    let detail : List Nat := []
    let d := journalData ev detail
    let alike (e : JournalEntry) : Prop := e.block = blk ∧ e.code = code ∧ e.data.take 4 = d.take 4
    (∀ e ∈ s.jnl.queue, ¬ alike e) ∧
    s.jnl.queue.length < 256),
    decide (let s : State := jn live (fun j => { j with queue := (List.range 256).map (fun i => je (i + 100)), seq := 0xFFFFFFFF, line := 262143 })
    let ev : Nat := 3
    let blk : Nat := 699000
    let code : Nat := 69
    let detail : List Nat := []
    let d := journalData ev detail
    let alike (e : JournalEntry) : Prop := e.block = blk ∧ e.code = code ∧ e.data.take 4 = d.take 4
    (∀ e ∈ s.jnl.queue, ¬ alike e) ∧
    256 ≤ s.jnl.queue.length),
    decide (let s : State := jn live (fun j => { j with queue := [je 1, { je 2 with data := [0,0,0,0,0,0,0] }] })
    let e : JournalEntry := je 1
    let es : List JournalEntry := [{ je 2 with data := [0,0,0,0,0,0,0] }]
    s.jnl.queue = e :: es),
    decide (let s : State := jn live (fun j => { j with queue := [je 1, { je 2 with data := [0,0,0,0,0,0,0] }] })
    let q : Requester := .host
    s.grants q .SV_JNL_SEL = true),
    decide (let s : State := jn (setR live [(.SV_JNL_SEL,0,5)]) (fun j => { j with loading := true, ring := [(0, ln 4),(1, ln 5)] })
    s.jnl.loading = true),
    decide (let s : State := wd id
    let q : Requester := .host
    let v : Word := 0xA5C3
    s.flag F.SV_WDOG_CTL_EN = true ∧
    s.grants q .SV_WDOG_KICK = true ∧
    s.sv.wdKey = none ∧
    v = 0xA5C3),
    decide (let s : State := wd id
    let q : Requester := .host
    let v : Word := 0
    s.flag F.SV_WDOG_CTL_EN = true ∧
    s.grants q .SV_WDOG_KICK = true ∧
    s.sv.wdKey = none ∧
    v ≠ 0xA5C3),
    decide (let s : State := wd id
    s.flag F.SV_WDOG_CTL_EN = true),
    decide (let s : State := wd (fun v => { v with wdKey := some 699000, wdHad := true, wdKick := 100 })
    let q : Requester := .host
    let v : Word := 0x5A3C
    s.flag F.SV_WDOG_CTL_EN = true ∧
    s.grants q .SV_WDOG_KICK = true ∧
    (s.sv.wdKey).any (fun t0 => decide (s.time.ticks ≤ t0 + 500000 ∧
    v = 0x5A3C ∧
    s.sv.wdHad = true ∧
    4 * (s.time.ticks - s.sv.wdKick) < s.fd F.SV_WDOG_CTL_TO * 500000)) = true),
    decide (let s : State := wd (fun v => { v with wdKey := some 699000, wdHad := true, wdKick := 100 })
    s.flag F.SV_WDOG_CTL_EN = true ∧
    (s.sv.wdKey).isSome = true),
    decide (let s : State := wd id
    s.flag F.SV_WDOG_CTL_EN = true ∧
    s.flag F.SV_WDOG_CTL_EARLY_EN = true ∧
    s.sv.wdEarly = false),
    decide (let e : JournalEntry := { je 5 with code := 1, data := journalData 0 [] }
    let s : State := jn live (fun j => { j with queue := [je 4, e] })
    let alike (e : JournalEntry) : Prop := e.block = 5 ∧ e.code = 1 ∧ e.data.take 4 = (journalData 0 []).take 4
    s.jnl.queue = [je 4] ++ e :: [] ∧ (e.block = 5 ∧ e.code = 1 ∧ e.data.take 4 = (journalData 0 []).take 4) ∧ (je 4).block ≠ 5),
    decide (let s : State := wd (fun x => { x with wdKey := some 300000, wdHad := false })
    s.flag F.SV_WDOG_CTL_EN = true ∧ s.grants .host .SV_WDOG_KICK = true ∧ s.sv.wdKey = some 300000 ∧ s.time.ticks ≤ 300000 + 500000 ∧ s.sv.wdHad = false),
    decide (let s : State := wd (fun x => { x with wdKey := none })
    s.flag F.SV_WDOG_CTL_EN = true ∧ s.grants .host .SV_WDOG_KICK = true ∧ s.sv.wdKey = none ∧ (0x5A3C : Word) ≠ 0xA5C3)].all id = true := by decide +kernel
end ErrorsJournalAndWatchdog

namespace ChainAndTakeover

def tplW (s : State) (t : Nat) (ws : List Nat) : State := ws.zipIdx.foldl (fun s e => s.setRg .LV_TPLt_Ww t e.2 e.1) s
def flowW (s : State) (t : Nat) (ws : List Nat) : State := ws.zipIdx.foldl (fun s e => s.setRg .LV_FLOWf_Ww t e.2 e.1) s
def tpl3 (fl : Nat) : List Nat := [0x70000, 0x00070003, (fl <<< 8) ||| 2 ||| (1 <<< 16), 100, 0, 5000, 1]
def lv0 (fl : Nat) : State := flowW (tplW live 3 (tpl3 fl)) 7 [0x00040F00 , 0x00FF0000]
def chs (s : State) (f : ChState → ChState) : State := { s with ch := f s.ch }
def stb (f : ChState → ChState) : State := chs (set live [(F.CH_CTL_EN,0,1),(F.CH_CTL_MODE,0,2),(F.CH_STAT_ROLE,0,2),(F.CH_CTL_FAIL_CYC,0,2)]) (fun c => f { c with strap := 1, repRegs := [0x12345, 0x10000000, 7], missed := 2 })
/-- States and operands that meet the hypotheses of `Obligations.ChainAndTakeover`, clause by clause. -/
theorem test_premises : [
    decide (let s : State := chs (set live [(F.TH_SOj_STAT_ON,3,1)]) (fun c => { c with strap := 1 })
    let q : Requester := .host
    let v : Word := W [(F.CH_CTL_EN,1),(F.CH_CTL_MODE,2),(F.CH_CTL_FAIL_CYC,2)]
    let agree : Bool := true
    let mode := F.CH_CTL_MODE.of v.toNat
    let fc := F.CH_CTL_FAIL_CYC.of v.toNat
    s.grants q .CH_CTL = true ∧
    s.flag F.CH_CTL_EN = false ∧
    F.CH_CTL_EN.of v.toNat = 1 ∧
    mode ≠ 3 ∧
    1 ≤ fc ∧
    fc ≤ 8 ∧
    (mode = 2 → s.ch.strap ≤ 1 ∧ agree = true)),
    decide (let s : State := chs live (fun c => { c with strap := 1 })
    let q : Requester := .host
    let v : Word := W [(F.CH_CTL_EN,1),(F.CH_CTL_MODE,2),(F.CH_CTL_FAIL_CYC,2)]
    let agree : Bool := false
    let mode := F.CH_CTL_MODE.of v.toNat
    let fc := F.CH_CTL_FAIL_CYC.of v.toNat
    s.grants q .CH_CTL = true ∧
    s.flag F.CH_CTL_EN = false ∧
    F.CH_CTL_EN.of v.toNat = 1 ∧
    mode ≠ 3 ∧
    1 ≤ fc ∧
    fc ≤ 8 ∧
    mode = 2 ∧
    agree = false),
    decide (let s : State := { stb id with mem := { live.mem with sram := [(5,1),(64,3)] } }
    let t : Nat := 0
    let tag : Nat := 70
    let slot : Nat := 0
    t < 4096 ∧
    slot < 16 ∧
    tag < 2 ^ 16 ∧
    s.bridgeOf t = none ∧
    s.tplOn t = false),
    decide (let s : State := lv0 0
    let t : Nat := 3
    let tag : Nat := 1
    let slot : Nat := 3
    let p : Word := 0
    t < 4096 ∧
    slot < 16 ∧
    tag < 2 ^ 16 ∧
    s.bridgeOf t = none ∧
    s.tplOn t = true ∧
    s.tplSeq t = false ∧
    0 < s.fd F.LV_STAT_FREE ∧
    s.lv.waiting.find? (fun x => x.tpl = t && x.tag = tag) = none ∧
    s.complete { tpl := t, tag := tag, slots := [(slot, p)], deadline := s.deadlineOf t } = false),
    decide (let s : State := { stb id with mem := { live.mem with sram := [(5,1),(64,3)] } }
    let round : Nat := 0
    let line : Nat := 2
    let bs : List Byte := (List.range 64).map (fun i => BitVec.ofNat 8 i)
    s.isStandby = true ∧
    bs.length = 64 ∧
    line < 0x40000 ∧
    round < 2 ^ 16),
    decide (let s : State := { stb id with mem := { live.mem with sram := [(5,1),(64,3)] } }
    s.isStandby = true ∧
    s.fd F.CH_CTL_FAIL_CYC ≤ s.ch.missed ∧
    s.ch.syncSeen = false),
    decide (let s : State := stb (fun c => { c with syncSeen := true })
    s.isStandby = true ∧
    s.fd F.CH_CTL_FAIL_CYC ≤ s.ch.missed ∧
    s.ch.syncSeen = true)].all id = true := by decide +kernel
end ChainAndTakeover

namespace HostCommands

def imgB : List Byte :=
  let dir := [4#8, 0xFF#8, 0, 0] ++ leBytes 4 272 ++ leBytes 4 0 ++ leBytes 4 0x10000000
  leBytes 4 0x4D49564E ++ leBytes 2 1 ++ leBytes 2 1 ++ leBytes 4 272 ++ List.replicate 20 0 ++ leBytes 4 (crc32c dir) ++ List.replicate 220 0 ++ dir
def withImg (s : State) (b : Nat) : State := { s with mem := { s.mem with img := Mem.writeN s.mem.img (b * 0x2000000) imgB } }
def tplW (s : State) (t : Nat) (ws : List Nat) : State := ws.zipIdx.foldl (fun s e => s.setRg .LV_TPLt_Ww t e.2 e.1) s
def tpl3 (fl : Nat) : List Nat := [0x70000, 0x00070003, (fl <<< 8) ||| 2 ||| (1 <<< 16), 100, 0, 5000, 1]
def hsi (s : State) (i : Option (Nat × Nat)) : State := { s with hs := { s.hs with img := i } }
def tk (n : Nat) : State := set (tplW live 3 (tpl3 0)) [(F.HS_MBX_TOK_TOKEN,0,n)]
def big : State := { live with mem := { live.mem with sram := [(0,1),(1,2),(2,7),(5,9),(16777215,8)], img := [(3,3),(0x2000002,5)] } }
def bk (st : Nat) : State := let s := set live [(F.HS_BOOT_STAT_STATE,0,st)]; { s with sv := { s.sv with imgValid := 3, imgActive := 0 } }
/-- States and operands that meet the hypotheses of `Obligations.HostCommands`, clause by clause. -/
theorem test_premises : [
    decide (let s : State := tk 3
    let q : Requester := .core 3
    let tok := s.fd F.HS_MBX_TOK_TOKEN
    s.grants q .HS_MBX_DATA = true ∧
    (s.hs.link = true ∨ q = .host) ∧
    tok ≠ 0xFFFF),
    decide (let s : State := hsi (setR big [(.HS_IMG_SRC,0,0),(.HS_IMG_DST,0,0),(.HS_IMG_LEN,0,8)]) (some (1,0))
    let q : Requester := .mnt
    let tok := s.fd F.HS_MBX_TOK_TOKEN
    s.grants q .HS_MBX_DATA = true ∧
    (s.hs.link = true ∨ q = .host) ∧
    tok = 0xFFFF),
    decide (let s : State := { setR live [(.HS_VPEND_LO,0,0x28),(.HS_VCNTv,3,5)] with hs := { live.hs with msix := [3,5] } }
    let q : Requester := .host
    s.grants q .HS_DB = true),
    decide (let s : State := tk 0x1003
    let off : Nat := 0xFFFF00
    let len : Nat := 3
    let bs : List Byte := [1,2,3]
    s.portUp .host = true ∧
    bs.length = len ∧
    0 < len ∧
    len ≤ 256 ∧
    off + len ≤ 0x1000000 ∧
    off / 4096 = (off + len - 1) / 4096),
    decide (let s : State := { tk 3 with hs := { live.hs with link := false } }
    s.portUp .host = true),
    decide (let s : State := withImg (bk 4) 0
    let q : Requester := .mnt
    let v : Word := 33
    let b := F.HS_IMG_CMD_BANK.of v.toNat
    s.grants q .HS_IMG_CMD = true ∧
    F.HS_IMG_CMD_OP.of v.toNat = 1 ∧
    s.hs.img = none ∧
    s.imgWriteFail b = none),
    decide (let s : State := setR live [(.HS_VPEND_LO,0,0x28),(.HS_VPEND_HI,0,1)]
    let q : Requester := .mnt
    let v : Word := 33
    let b := F.HS_IMG_CMD_BANK.of v.toNat
    s.grants q .HS_IMG_CMD = true ∧
    F.HS_IMG_CMD_OP.of v.toNat = 1 ∧
    s.hs.img = none ∧
    s.fd F.HS_BOOT_STAT_STATE = 3 ∧
    b = s.sv.imgActive),
    decide (let s : State := { tk 3 with hs := { live.hs with link := false } }
    let q : Requester := .mnt
    let v : Word := W [(F.HS_IMG_CMD_OP,2)]
    s.grants q .HS_IMG_CMD = true ∧
    F.HS_IMG_CMD_OP.of v.toNat = 2 ∧
    s.hs.img = none),
    decide (let s : State := hsi (withImg (bk 3) 1) (some (2,1))
    let q : Requester := .mnt
    let v : Word := W [(F.HS_IMG_CMD_OP,2)]
    s.grants q .HS_IMG_CMD = true ∧
    F.HS_IMG_CMD_OP.of v.toNat = 2 ∧
    s.hs.img ≠ none),
    decide (let s : State := withImg (bk 4) 0
    let q : Requester := .host
    let v : Word := 3
    let b := F.HS_IMG_CMD_BANK.of v.toNat
    s.grants q .HS_IMG_CMD = true ∧
    F.HS_IMG_CMD_OP.of v.toNat = 3 ∧
    (s.fd F.HS_BOOT_STAT_STATE = 4 ∨ s.fd F.HS_BOOT_STAT_STATE = 5) ∧
    s.hs.img = none ∧
    s.sv.imgValid.testBit b = true ∧
    s.imgPasses b = true ∧
    s.bootEntries b = []),
    decide (let s : State := bk 0
    let q : Requester := .mnt
    let v : Word := 3
    s.grants q .HS_IMG_CMD = true ∧
    F.HS_IMG_CMD_OP.of v.toNat = 3 ∧
    s.fd F.HS_BOOT_STAT_STATE < 4),
    decide (let s : State := hsi (setR big [(.HS_IMG_SRC,0,0),(.HS_IMG_DST,0,0),(.HS_IMG_LEN,0,8)]) (some (1,0))
    (s.hs.img).any (fun c_ => decide (c_.1 = 1)) = true),
    decide (let s : State := hsi (withImg (bk 3) 1) (some (2,1))
    (s.hs.img).any (fun c_ => decide (c_.1 = 2)) = true)].all id = true := by decide +kernel
end HostCommands

namespace PlantEthernetFrames

def he0 (p q fl len launch : Nat) (c : List (Machine.Field × Nat × Nat) := []) : State :=
  let s := ((live.setFd F.HS_HEn_TXq_BASE_BASE p q 0x10000).setFd F.HS_HEn_TXq_CTL_LOG2SIZE p q 4).setFd F.HS_HEn_TXq_CTL_EN p q 1
  let s := (s.setFd F.HS_HEn_TXq_IDX_HEAD p q 3).setFd F.HS_HEn_TXq_IDX_TAIL p q 1
  let s := set s [(F.HS_HEn_CTL_EN,p,1),(F.PW_DOMd_STAT_STATE,24,0)]
  let s := putS s (0x10000 + 32) (bn [(4,0x20000),(2,len),(1,fl),(1,7),(8,launch)])
  let s := putS s 0x20000 ((List.range 4).map (fun i => BitVec.ofNat 8 (i+1)))
  set { s with time := { s.time with pt := 1000000 * 2^32 } } c
def late (s : State) (p q : Nat) : State := s.setFd F.HS_HEn_TXq_CTL_LATE p q 1
def wt (s : State) (k : Nat) (l : List Nat := []) : State := { s with hs := { s.hs with waiting := [k], late := l } }
def rx (p r fl len tail : Nat) : State :=
  let s := ((live.setFd F.HS_HEn_RXr_BASE_BASE p r 0x10000).setFd F.HS_HEn_RXr_CTL_LOG2SIZE p r 4).setFd F.HS_HEn_RXr_CTL_EN p r 1
  let s := (s.setFd F.HS_HEn_RXr_IDX_HEAD p r 3).setFd F.HS_HEn_RXr_IDX_TAIL p r tail
  let s := set s [(F.HS_HEn_CTL_EN,p,1),(F.PW_DOMd_STAT_STATE,24,0)]
  putS s (0x10000 + 32) (bn [(4,0x20000),(2,len),(1,fl),(1,7),(8,0)])
def bc : List Byte := List.replicate 6 0xFF ++ (List.range 80).map (fun i => BitVec.ofNat 8 i)
def ptp : List Byte := List.replicate 12 0xFE ++ [0x88, 0xF7] ++ (List.range 80).map (fun i => BitVec.ofNat 8 i)
/-- States and operands that meet the hypotheses of `Obligations.PlantEthernetFrames`, clause by clause. -/
theorem test_premises : [
    decide (let s : State := he0 1 3 1 100 0
    let p : Nat := 1
    let q : Nat := 3
    p < 2 ∧
    q < 8 ∧
    (let d := s.txDesc p q
    let ok := ringOk (s.fd F.HS_HEn_TXq_BASE_BASE p q) (s.fd F.HS_HEn_TXq_CTL_LOG2SIZE p q) = true ∧ s.txReady p q = true
    let timed := (s.sramN (d + 6) 1).testBit 1 = true
    ok ∧
    s.hs.waiting.contains (8 * p + q) = false ∧
    (¬ timed) ∧
    s.heFree p ≤ s.time.ticks ∧
    s.untimedFits p q = true)),
    decide (let s : State := he0 1 3 3 100 999000
    let p : Nat := 1
    let q : Nat := 3
    p < 2 ∧
    q < 8 ∧
    (let d := s.txDesc p q
    let ok := ringOk (s.fd F.HS_HEn_TXq_BASE_BASE p q) (s.fd F.HS_HEn_TXq_CTL_LOG2SIZE p q) = true ∧ s.txReady p q = true
    let timed := (s.sramN (d + 6) 1).testBit 1 = true
    ok ∧
    s.hs.waiting.contains (8 * p + q) = false ∧
    timed ∧
    s.txLaunch p q < s.ptNs ∧
    s.flag F.HS_HEn_TXq_CTL_LATE p q = false)),
    decide (let s : State := late (he0 1 3 3 100 999000) 1 3
    let p : Nat := 1
    let q : Nat := 3
    p < 2 ∧
    q < 8 ∧
    (let d := s.txDesc p q
    let ok := ringOk (s.fd F.HS_HEn_TXq_BASE_BASE p q) (s.fd F.HS_HEn_TXq_CTL_LOG2SIZE p q) = true ∧ s.txReady p q = true
    let timed := (s.sramN (d + 6) 1).testBit 1 = true
    ok ∧
    s.hs.waiting.contains (8 * p + q) = false ∧
    timed ∧
    s.txLaunch p q < s.ptNs ∧
    s.flag F.HS_HEn_TXq_CTL_LATE p q = true)),
    decide (let s : State := he0 1 3 3 100 5000000000
    let p : Nat := 1
    let q : Nat := 3
    p < 2 ∧
    q < 8 ∧
    (let d := s.txDesc p q
    let ok := ringOk (s.fd F.HS_HEn_TXq_BASE_BASE p q) (s.fd F.HS_HEn_TXq_CTL_LOG2SIZE p q) = true ∧ s.txReady p q = true
    let timed := (s.sramN (d + 6) 1).testBit 1 = true
    ok ∧
    s.hs.waiting.contains (8 * p + q) = false ∧
    timed ∧
    s.ptNs + 2000000000 < s.txLaunch p q)),
    decide (let s : State := he0 1 3 3 100 1003000
    let p : Nat := 1
    let q : Nat := 3
    p < 2 ∧
    q < 8 ∧
    (let d := s.txDesc p q
    let ok := ringOk (s.fd F.HS_HEn_TXq_BASE_BASE p q) (s.fd F.HS_HEn_TXq_CTL_LOG2SIZE p q) = true ∧ s.txReady p q = true
    let timed := (s.sramN (d + 6) 1).testBit 1 = true
    ok ∧
    s.hs.waiting.contains (8 * p + q) = false ∧
    timed ∧
    s.ptNs ≤ s.txLaunch p q ∧
    s.txLaunch p q ≤ s.ptNs + 2000000000)),
    decide (let s : State := wt (he0 1 3 3 100 5000000000) 11
    let p : Nat := 1
    let q : Nat := 3
    p < 2 ∧
    q < 8 ∧
    (let ok := ringOk (s.fd F.HS_HEn_TXq_BASE_BASE p q) (s.fd F.HS_HEn_TXq_CTL_LOG2SIZE p q) = true ∧ s.txReady p q = true
    ok ∧
    s.hs.waiting.contains (8 * p + q) = true ∧
    s.ptJumped.ptNs + 2000000000 < s.txLaunch p q)),
    decide (let s : State := wt (he0 1 3 3 100 1003000) 11
    let p : Nat := 1
    let q : Nat := 3
    p < 2 ∧
    q < 8 ∧
    (let ok := ringOk (s.fd F.HS_HEn_TXq_BASE_BASE p q) (s.fd F.HS_HEn_TXq_CTL_LOG2SIZE p q) = true ∧ s.txReady p q = true
    ok ∧
    s.hs.waiting.contains (8 * p + q) = true ∧
    s.txLaunch p q ≤ s.ptJumped.ptNs + 2000000000 ∧
    s.txBehind p q = false ∧
    (let w := s.advance (s.ticksToPt (s.txLaunch p q))
    w.hs.late.contains (8 * p + q) = false))),
    decide (let s : State := wt (he0 1 3 3 100 1003000) 11 [11]
    let p : Nat := 1
    let q : Nat := 3
    p < 2 ∧
    q < 8 ∧
    (let ok := ringOk (s.fd F.HS_HEn_TXq_BASE_BASE p q) (s.fd F.HS_HEn_TXq_CTL_LOG2SIZE p q) = true ∧ s.txReady p q = true
    ok ∧
    s.hs.waiting.contains (8 * p + q) = true ∧
    s.txLaunch p q ≤ s.ptJumped.ptNs + 2000000000 ∧
    s.txBehind p q = false ∧
    (let w := s.advance (s.ticksToPt (s.txLaunch p q))
    w.hs.late.contains (8 * p + q) = true ∧
    s.flag F.HS_HEn_TXq_CTL_LATE p q = false))),
    decide (let s : State := wt (he0 1 3 3 100 5000000000) 11
    let p : Nat := 1
    let q : Nat := 1
    p < 2 ∧
    q < 8 ∧
    (let d := s.txDesc p q
    let b : List Byte := bc
    s.domOn 24 = true ∧
    s.flag F.HS_HEn_CTL_EN p = true ∧
    (let r := if ptpFrame b then 0 else 1
    let d := s.rxDesc p r
    let own := s.flag F.HS_HEn_RXr_CTL_EN p r = true ∧ s.fd F.HS_HEn_RXr_IDX_HEAD p r ≠ s.fd F.HS_HEn_RXr_IDX_TAIL p r ∧ (s.sramN (d + 6) 1).testBit 0 = true
    (ptpFrame b = true ∨ s.heAddressed p b = true) ∧
    (¬ own)))),
    decide (let s : State := rx 1 0 1 256 1
    let p : Nat := 1
    let q : Nat := 1
    p < 2 ∧
    q < 8 ∧
    (let d := s.txDesc p q
    let b : List Byte := ptp
    s.domOn 24 = true ∧
    s.flag F.HS_HEn_CTL_EN p = true ∧
    (let r := if ptpFrame b then 0 else 1
    let d := s.rxDesc p r
    let buf := s.sramN d 4
    let own := s.flag F.HS_HEn_RXr_CTL_EN p r = true ∧ s.fd F.HS_HEn_RXr_IDX_HEAD p r ≠ s.fd F.HS_HEn_RXr_IDX_TAIL p r ∧ (s.sramN (d + 6) 1).testBit 0 = true
    (ptpFrame b = true ∨ s.heAddressed p b = true) ∧
    own ∧
    ringOk (s.fd F.HS_HEn_RXr_BASE_BASE p r) (s.fd F.HS_HEn_RXr_CTL_LOG2SIZE p r) = true ∧
    b.length ≤ s.sramN (d + 4) 2 ∧
    buf + b.length ≤ 0x1000000 ∧
    (buf + b.length ≤ d ∨ d + 32 ≤ buf)))),
    decide (let s : State := rx 0 1 1 70 1
    let p : Nat := 0
    let q : Nat := 3
    p < 2 ∧
    q < 8 ∧
    (let d := s.txDesc p q
    let b : List Byte := bc
    s.domOn 24 = true ∧
    s.flag F.HS_HEn_CTL_EN p = true ∧
    (let r := if ptpFrame b then 0 else 1
    let d := s.rxDesc p r
    let own := s.flag F.HS_HEn_RXr_CTL_EN p r = true ∧ s.fd F.HS_HEn_RXr_IDX_HEAD p r ≠ s.fd F.HS_HEn_RXr_IDX_TAIL p r ∧ (s.sramN (d + 6) 1).testBit 0 = true
    (ptpFrame b = true ∨ s.heAddressed p b = true) ∧
    own ∧
    ringOk (s.fd F.HS_HEn_RXr_BASE_BASE p r) (s.fd F.HS_HEn_RXr_CTL_LOG2SIZE p r) = true ∧
    s.sramN (d + 4) 2 < b.length)))].all id = true := by decide +kernel
end PlantEthernetFrames

namespace LifecycleAndAccess

def lc (f : LcState → LcState) (s : State := live) : State := { s with lc := f s.lc, time := { s.time with ticks := 10^12 } }
def fin (n : Nat) (s : State) : State := set s [(F.LC_STATE_FAIL_CNT,0,n)]
def pwd (s : State) (l : List Nat) : State := (l.zipIdx).foldl (fun s e => s.setRg .LC_DATAk e.2 0 e.1) s
def hl (s : State) : State := (set s [(F.VC_CTLn_HALT,3,1)]).setCore 3 { rc with run := .halted, resume := .run }
def P : List Byte := bn [(4,0x41424344),(4,0x41424344),(4,0x41424344),(4,0x41424344)]
/-- States and operands that meet the hypotheses of `Obligations.LifecycleAndAccess`, clause by clause. -/
theorem test_premises : [
    decide (let s : State := pwd live [0x41424344,0x41424344,0x41424344,0x41424344]
    let q : Requester := .host
    s.grants q .LC_CMD = true ∧
    s.lc.state = 0),
    decide (let s : State := lc (fun l => { l with state := 2, waitFrom := some (10^12 - 900*500000000), chal := some (10^12 - 60 * 500000000) })
    let q : Requester := .host
    s.grants q .LC_CMD = true ∧
    s.lc.state ≠ 0),
    decide (let s : State := hl (lc (fun l => { l with state := 1, pw := some P, granted := 0 }))
    let q : Requester := .host
    s.grants q .LC_CMD = true ∧
    s.lc.state = 1 ∧
    s.lc.pw ≠ none),
    decide (let s : State := lc (fun l => { l with state := 2, waitFrom := some (10^12 - 900*500000000), chal := some (10^12 - 60 * 500000000) })
    let q : Requester := .host
    s.grants q .LC_CMD = true ∧
    (s.lc.state ≠ 1 ∨ s.lc.pw = none)),
    decide (let s : State := lc (fun l => { l with state := 2, waitFrom := some (10^12 - 100) })
    let q : Requester := .host
    s.grants q .LC_CMD = true ∧
    (let waiting := ∃ t0, s.lc.waitFrom = some t0 ∧ s.time.ticks < t0 + 900 * 500000000
    waiting)),
    decide (let s : State := pwd (fin 4 (lc (fun l => { l with state := 2, pw := some P, granted := 2 }))) [0x41424344,0x41424344,0x41424344,0x41424345]
    let q : Requester := .host
    s.grants q .LC_CMD = true ∧
    (let chal : List Byte := (List.range 8).flatMap (fun k => leBytes 4 (s.rg .LC_CHALk k))
    let waiting := ∃ t0, s.lc.waitFrom = some t0 ∧ s.time.ticks < t0 + 900 * 500000000
    let fresh := ∃ t0, s.lc.chal = some t0 ∧ s.time.ticks ≤ t0 + 60 * 500000000
    (¬ waiting) ∧
    (¬ fresh))),
    decide (let s : State := lc (fun l => { l with state := 2, waitFrom := some (10^12 - 900*500000000), chal := some (10^12 - 60 * 500000000) })
    let q : Requester := .host
    s.grants q .LC_CMD = true ∧
    (let chal : List Byte := (List.range 8).flatMap (fun k => leBytes 4 (s.rg .LC_CHALk k))
    let waiting := ∃ t0, s.lc.waitFrom = some t0 ∧ s.time.ticks < t0 + 900 * 500000000
    let fresh := ∃ t0, s.lc.chal = some t0 ∧ s.time.ticks ≤ t0 + 60 * 500000000
    (¬ waiting) ∧
    fresh)),
    decide (let s : State := pwd (fin 4 (lc (fun l => { l with state := 2, pw := some P, granted := 2 }))) [0x41424344,0x41424344,0x41424344,0x41424345]
    let q : Requester := .host
    s.grants q .LC_CMD = true ∧
    s.lc.state = 2 ∧
    s.lc.granted ≠ 0),
    decide (let s : State := pwd (fin 4 (lc (fun l => { l with state := 2, pw := some P, granted := 2 }))) [0x41424344,0x41424344,0x41424344,0x41424345]
    let q : Requester := .host
    s.grants q .LC_CMD = true ∧
    (let data (n : Nat) : List Byte := (List.range n).flatMap (fun k => leBytes 4 (s.rg .LC_DATAk k))
    s.accessLevel = 2 ∧
    pwChars (data 4) = true)),
    decide (let s : State := lc (fun l => { l with state := 2, waitFrom := some (10^12 - 900*500000000), chal := some (10^12 - 60 * 500000000) })
    let q : Requester := .host
    s.grants q .LC_CMD = true ∧
    s.accessLevel ≠ 2),
    decide (let s : State := lc (fun l => { l with state := 2, waitFrom := some (10^12 - 900*500000000), chal := some (10^12 - 60 * 500000000) })
    let q : Requester := .host
    s.grants q .LC_CMD = true ∧
    (s.lc.waitFrom).isSome = true)].all id = true := by decide +kernel
end LifecycleAndAccess

namespace ArmGroupsAndPlacement

def axb (g fl node stp : Nat) : List Byte := bn [(2,0),(1,g),(1,fl),(2,node),(1,0),(1,0),(4,0),(4,1000000),(4,1000),(4,1000),(4,1000),(4,1000),(4,5000),(1,0xFF),(1,stp),(2,0),(4,0)] ++ List.replicate 4 0
def sched (s : State) (m e : Nat) (w0 w1 w2 : Nat) : State := ((s.setRg .KL_SCHEDm_Ww m (4*e) w0).setRg .KL_SCHEDm_Ww m (4*e+1) w1).setRg .KL_SCHEDm_Ww m (4*e+2) w2
def kl0 : State := let s := sched (set live [(F.KL_MODE_STATm_LEN,0,2),(F.KL_MODE_STATm_STATE,0,3),(F.AX_STj_CTL_EN,1,1)]) 0 0 5 0x30000000 0
  { s with kl := { s.kl with active := true }, time := { s.time with bcn := 15, bcStart := 15 * 62500, ct := (15 * 62500 + 700) * 2^32, noBase := false } }
def g3 (fl seq : Nat) (s : State := kl0) : State := putS (putS (putS s (64*3) (agb 2 1 fl 4 2 3 seq)) (axisAt 4) (axb 3 0 5 0xFF)) (axisAt 5) (axb 3 0 0xFFFF 1)
def on3 (f : AgState → AgState := id) (s : State := g3 0 4) : State := let s := s.agOn 3; s.setAg 3 (f { s.ag 3 with enAtStart := true })
def pe : State := (fun s : State => { s with kn := { s.kn with adopted := some ⟨0,0,0x10000000 + 0x200000,60,0,8,0⟩ } }) <| putS (setR (on3 (fun a => { a with stopping := true })) [(.KN_PLAN_ADR,0,0x10000000 + 0x200000)]) 0x200000 (bn [(16,0),(8,1000000),(8,0),(4,500000),(1,2),(1,0),(2,8),(2,1),(2,0)])
/-- States and operands that meet the hypotheses of `Obligations.ArmGroupsAndPlacement`, clause by clause. -/
theorem test_premises : [
    decide (let s : State := g3 1 4
    let q : Requester := .host
    let v : Word := 8
    let g : Nat := 3
    g < 16 ∧
    (let en := F.GLOBAL_AG_EN_EN.of v.toNat
    let now := s.fd F.GLOBAL_AG_EN_EN
    s.grants q .GLOBAL_AG_EN = true ∧
    now.testBit g = false ∧
    en = now + 2 ^ g ∧
    s.agFail g = none ∧
    (∀ i, i < agAxes (s.agLive g) → axFb (s.axLive (agFirst (s.agLive g) + i)) = none))),
    decide (let s : State := putS (g3 0 4) (axisAt 5) (axb 3 0 6 0xFF)
    let q : Requester := .host
    let v : Word := W [(F.SV_PLACE_CMD_COMMIT,1)]
    let g : Nat := 0
    g < 16 ∧
    (let en := F.GLOBAL_AG_EN_EN.of v.toNat
    let now := s.fd F.GLOBAL_AG_EN_EN
    s.grants q .GLOBAL_AG_EN = true ∧
    now.testBit g = false ∧
    en = now + 2 ^ g ∧
    (s.agFail g).isSome = true)),
    decide (let on (f : AgState → AgState) : State := (set (g3 0 4) [(F.GLOBAL_AG_EN_EN,0,8)]).setAg 3 (f { snap := some ((g3 0 4).agTake 3), fresh := true, stopping := false, lateRun := 2, enAtStart := true, pace := false, credit := 0, queue := [], draining := false, cat1 := false })
    let s : State := on id
    let q : Requester := .host
    let v : Word := 0
    let g : Nat := 3
    g < 16 ∧
    (let en := F.GLOBAL_AG_EN_EN.of v.toNat
    let now := s.fd F.GLOBAL_AG_EN_EN
    s.grants q .GLOBAL_AG_EN = true ∧
    now.testBit g = true ∧
    en + 2 ^ g = now)),
    decide (let on (f : AgState → AgState) : State := (set (g3 0 4) [(F.GLOBAL_AG_EN_EN,0,8)]).setAg 3 (f { snap := some ((g3 0 4).agTake 3), fresh := true, stopping := false, lateRun := 2, enAtStart := true, pace := false, credit := 0, queue := [], draining := false, cat1 := false })
    let pe : State := putS (setR (on (fun a => { a with stopping := true })) [(.KN_PLAN_ADR,0,0x10000000 + 0x200000)]) 0x200000 (bn [(4,0),(4,0),(8,2000000),(8,0),(4,5),(4,9),(8,1500000),(8,1000),(8,500),(8,20000)])
    let s : State := { pe with kn := { pe.kn with adopted := some ⟨0,0,0x10000000 + 0x200000,60,0,8,0⟩ } }
    let g : Nat := 3
    g < 16 ∧
    s.agEnabled g = true ∧
    (s.ag g).stopping = true ∧
    (s.pathEnd).isSome = true ∧
    (s.ag g).cat1 = false ∧
    (s.kn.adopted).any (fun r => decide (r.groups.testBit g = true)) = true),
    decide (let s : State := g3 0 4
    let q : Requester := .host
    let v : Word := W [(F.TIM_CYCLE_BASE,1),(F.TIM_CYCLE_CUTOFF,242)]
    let g : Nat := 8
    g < 16 ∧
    (let base := F.TIM_CYCLE_BASE.of v.toNat
    let cut := F.TIM_CYCLE_CUTOFF.of v.toNat
    s.grants q .TIM_CYCLE = true ∧
    (base = s.fd F.TIM_CYCLE_BASE ∨ (s.anyPort = false ∧ s.offsetBeyond (baseNs base) = false)) ∧
    cutoffFits base cut = true)),
    decide (let s : State := set kl0 [(F.KL_PORTn_CTL_EN,2,1)]
    let q : Requester := .host
    let v : Word := W [(F.TIM_CYCLE_BASE,3),(F.TIM_CYCLE_CUTOFF,200)]
    let g : Nat := 1
    g < 16 ∧
    (let base := F.TIM_CYCLE_BASE.of v.toNat
    s.grants q .TIM_CYCLE = true ∧
    base ≠ s.fd F.TIM_CYCLE_BASE ∧
    s.anyPort = true)),
    decide (let s : State := kl0
    let q : Requester := .host
    let v : Word := 0
    let g : Nat := 1
    g < 16 ∧
    (let base := F.TIM_CYCLE_BASE.of v.toNat
    let cut := F.TIM_CYCLE_CUTOFF.of v.toNat
    s.grants q .TIM_CYCLE = true ∧
    (base = s.fd F.TIM_CYCLE_BASE ∨ s.anyPort = false) ∧
    cutoffFits base cut = false)),
    decide (let s : State := set kl0 [(F.SV_PLACE_SHn_SLICE,3,17)]
    let q : Requester := .host
    let v : Word := W [(F.SV_PLACE_CMD_COMMIT,1)]
    let g : Nat := 14
    g < 16 ∧
    s.grants q .SV_PLACE_CMD = true ∧
    F.SV_PLACE_CMD_COMMIT.of v.toNat = 1 ∧
    s.placeFail = none),
    decide (let s : State := set kl0 [(F.SV_PLACE_CMD_PENDING,0,1)]
    let q : Requester := .host
    let v : Word := W [(F.SV_PLACE_CMD_COMMIT,1)]
    let g : Nat := 3
    g < 16 ∧
    s.grants q .SV_PLACE_CMD = true ∧
    F.SV_PLACE_CMD_COMMIT.of v.toNat = 1 ∧
    (s.placeFail).isSome = true)].all id = true := by decide +kernel
end ArmGroupsAndPlacement

namespace CyclesOfTheCell

def axb (g fl node stp : Nat) : List Byte := bn [(2,0),(1,g),(1,fl),(2,node),(1,0),(1,0),(4,0),(4,1000000),(4,1000),(4,1000),(4,1000),(4,1000),(4,5000),(1,0xFF),(1,stp),(2,0),(4,0)] ++ List.replicate 4 0
def sched (s : State) (m e : Nat) (w0 w1 w2 : Nat) : State := ((s.setRg .KL_SCHEDm_Ww m (4*e) w0).setRg .KL_SCHEDm_Ww m (4*e+1) w1).setRg .KL_SCHEDm_Ww m (4*e+2) w2
def kl0 : State := let s := sched (set live [(F.KL_MODE_STATm_LEN,0,2),(F.KL_MODE_STATm_STATE,0,3),(F.AX_STj_CTL_EN,1,1)]) 0 0 5 0x30000000 0
  { s with kl := { s.kl with active := true }, time := { s.time with bcn := 13, bcStart := 13 * 62500, ct := (13 * 62500 + 700) * 2^32, noBase := false } }
def g3 (fl seq : Nat) (s : State := kl0) : State := putS (putS (putS s (64*3) (agb 2 1 fl 4 2 3 seq)) (axisAt 4) (axb 3 0 5 0xFF)) (axisAt 5) (axb 3 0 0xFFFF 1)
def tm (f : TimeState → TimeState) (s : State) : State := { s with time := f s.time }
/-- States and operands that meet the hypotheses of `Obligations.CyclesOfTheCell`, clause by clause. -/
theorem test_premises : [
    decide (let on (f : AgState → AgState) : State := (set (g3 0 4) [(F.GLOBAL_AG_EN_EN,0,8)]).setAg 3 (f { snap := some ((g3 0 4).agTake 3), fresh := true, stopping := false, lateRun := 2, enAtStart := true, pace := false, credit := 0, queue := [], draining := false, cat1 := false })
    let s : State := tm (fun t => { t with bcn := 8, bcStart := 500000, planDone := false, superDone := true, startDone := false }) (putS (on id) (192+8) [5])
    let g : Nat := 3
    g < 16 ∧
    s.clockOn = true ∧
    s.time.ctLoad = none ∧
    (let a := s.ag g
    s.time.cutoffDone = false ∧
    a.enAtStart = true ∧
    (((List.range 16).all (fun h => decide (h ≠ g → (s.ag h).enAtStart = false)) = true)))),
    decide (let on (f : AgState → AgState) : State := (set (g3 0 4) [(F.GLOBAL_AG_EN_EN,0,8)]).setAg 3 (f { snap := some ((g3 0 4).agTake 3), fresh := true, stopping := false, lateRun := 2, enAtStart := true, pace := false, credit := 0, queue := [], draining := false, cat1 := false })
    let s : State := tm (fun t => { t with cutoffDone := false, startDone := false }) (on id)
    let g : Nat := 12
    g < 16 ∧
    s.clockOn = true ∧
    s.time.ctLoad = none ∧
    s.time.noBase = false ∧
    s.time.startDone = false ∧
    (s.phase = 0 → s.time.superDone = true) ∧
    (s.phase % 8 = 0 → s.time.planDone = true)),
    decide (let on (f : AgState → AgState) : State := (set (g3 0 4) [(F.GLOBAL_AG_EN_EN,0,8)]).setAg 3 (f { snap := some ((g3 0 4).agTake 3), fresh := true, stopping := false, lateRun := 2, enAtStart := true, pace := false, credit := 0, queue := [], draining := false, cat1 := false })
    let s : State := tm (fun t => { t with cutoffDone := true, startDone := true, bcn := 15, bcStart := 15 * 62500, ct := (15 * 62500 + 700) * 2^32}) (on (fun a => { a with queue := [(1,2),(3,4)] }))
    let g : Nat := 2
    g < 16 ∧
    s.clockOn = true ∧
    s.time.ctLoad = none ∧
    s.time.noBase = false ∧
    s.time.startDone = true ∧
    s.time.cutoffDone = true ∧
    s.fd F.TIM_CYCLE_BASE = s.time.base),
    decide (let on (f : AgState → AgState) : State := (set (g3 0 4) [(F.GLOBAL_AG_EN_EN,0,8)]).setAg 3 (f { snap := some ((g3 0 4).agTake 3), fresh := true, stopping := false, lateRun := 2, enAtStart := true, pace := false, credit := 0, queue := [], draining := false, cat1 := false })
    let s : State := tm (fun t => { t with bcn := 8, bcStart := 500000, planDone := false, superDone := true, startDone := false }) (putS (on id) (192+8) [5])
    let g : Nat := 3
    g < 16 ∧
    s.clockOn = true ∧
    s.time.ctLoad = none ∧
    s.time.noBase = false ∧
    s.time.bcn % 8 = 0 ∧
    s.time.planDone = false ∧
    (s.phase ≠ 0 ∨ s.time.superDone = true) ∧
    s.agEnabled g = true),
    decide (let on (f : AgState → AgState) : State := (set (g3 0 4) [(F.GLOBAL_AG_EN_EN,0,8)]).setAg 3 (f { snap := some ((g3 0 4).agTake 3), fresh := true, stopping := false, lateRun := 2, enAtStart := true, pace := false, credit := 0, queue := [], draining := false, cat1 := false })
    let s : State := tm (fun t => { t with bcn := 16, bcStart := 1000000, planDone := false, superDone := false, startDone := false }) (set (on id) [(F.SV_PLACE_SHn_SLICE,2,17),(F.SV_PLACE_CMD_PENDING,0,1),(F.SV_IMG_STAT_STATE,0,3)])
    let g : Nat := 2
    g < 16 ∧
    s.clockOn = true ∧
    s.time.ctLoad = none ∧
    s.time.noBase = false ∧
    s.time.bcn % 16 = 0 ∧
    s.time.superDone = false ∧
    s.sv.mig = none),
    decide (let on (f : AgState → AgState) : State := (set (g3 0 4) [(F.GLOBAL_AG_EN_EN,0,8)]).setAg 3 (f { snap := some ((g3 0 4).agTake 3), fresh := true, stopping := false, lateRun := 2, enAtStart := true, pace := false, credit := 0, queue := [], draining := false, cat1 := false })
    let s : State := tm (fun t => { t with cutoffDone := true, startDone := true, base := 1 }) (set (on id) [(F.TIM_CYCLE_BASE,0,0)])
    let g : Nat := 2
    g < 16 ∧
    s.clockOn = true ∧
    s.time.ctLoad = none ∧
    (let b := s.fd F.TIM_CYCLE_BASE
    s.time.cutoffDone = true ∧
    b ≠ s.time.base ∧
    s.nextStart % baseNs b = 0))].all id = true := by decide +kernel
end CyclesOfTheCell

namespace KernelsRun

def OUT : Nat := 0x10200000
def axb (g fl node stp : Nat) : List Byte := bn [(2,0),(1,g),(1,fl),(2,node),(1,0),(1,0),(4,2^32-1000000),(4,1000000),(4,100000),(4,100000),(4,10000000),(4,1000000),(4,5000),(1,0xFF),(1,stp),(2,0),(4,0)] ++ List.replicate 4 0
def link (par : Nat) : List Byte := let l := bn ([(1,0),(1,par),(2,0),(4,6553),(4,0),(4,0)] ++ q1 ++ [(4,0),(4,0),(4,2^30),(4,65536),(4,655),(4,0),(4,0),(4,900),(4,900),(4,900),(4,0),(4,0),(4,0),(4,500),(4,0),(4,0)]); l ++ List.replicate (96 - l.length) 0
def model (n : Nat) : List Byte := let h := bn ([(1,1),(1,n),(1,0),(1,0),(4,0),(4,0),(4,0)] ++ q1 ++ [(4,0),(4,0),(4,642908),(4,0),(4,0),(4,0),(4,0),(4,0)]); h ++ link 0xFF ++ (if n = 2 then link 0 else [])
def capb : List Byte := bn [(1,0),(1,0),(1,0),(1,1),(4,0),(4,0),(4,0),(4,6000),(4,0),(4,0),(4,3000)]
def b0 : State := 
  let s := putS (putS (putS live (64*3) (agb 1 1 0 4 2 3 4 0x40000)) (axisAt 4) (axb 3 2 5 0xFF)) (0x3400 + 32 * 36) capb
  let s := putS s 0x40000 (model 1)
  set { s with kn := { s.kn with models := [(3, model 1)] }, time := { s.time with bcn := 13, bcStart := 13 * 62500, ct := (13 * 62500 + 700) * 2^32, noBase := false } } [(F.KN_MODEL_VALID_VALID,0,8),(F.KN_CTL_EN,0,3),(F.PW_DOMd_STAT_STATE,20,3)]
def d (kind : Nat) (out : Nat := OUT) (tok : Nat := 0xFFFF) (dl : Option Nat := none) (cnt : Nat := 1) (it : Nat := 0) : KnDesc := 
  { bytes := let l := bn [(1,kind),(1,0),(1,3),(1,0xFF),(2,tok),(2,9),(4,0x2000),(4,out),(2,cnt),(1,0),(1,0),(4,0),(4,0),(1,it),(3,0),(4,100),(4,100),(4,100),(4,100),(4,1000)]; l ++ List.replicate (64 - l.length) 0, core := 2, deadline := dl }
def inp (s : State) : State := { s with mem := { s.mem with tcm := Mem.writeN s.mem.tcm (2 * 0x80000 + 0x2000) (bn [(4,30000),(4,1000),(4,2^32-500),(4,77),(4,2^30),(4,0),(4,0),(4,0)]) } }
def cl (c : KnCluster) : State := let s := inp b0; { s with kn := { s.kn with clusters := [(0, c), (1, c)] } }
def rn (x : KnDesc) : KnRun := (inp b0).knRun x
def N : Nat := 13 * 62500 + 700
/-- States and operands that meet the hypotheses of `Obligations.KernelsRun`, clause by clause. -/
theorem test_premises : [
    decide (let s : State := cl ⟨[d 6 0x3000 0xFFFF (some (N+50))], none⟩
    let k : Nat := 1
    let dt : Nat := 12
    k < 4 ∧
    (let a := s.advance dt
    let c := s.knCluster k
    let count (j : Nat) : Nat := s.rg .KN_CLk_CNTj k j
    c.run = none ∧
    (nextKernel c.queue).any (fun d => decide (a.domOn (18 + k) = true ∧
    (let r := a.knRun d
    let trip := firstTrip a.knBounds (kernelInWords d.kind (fieldAt r.model 1 1) d.count (modelPris r.model) r.input ++ modelWords r.model)
    d.lateAt (a.ctNs + 1) = false ∧
    trip = none))) = true)),
    decide (let s : State := cl ⟨[d 6 0x3000 0xFFFF (some (N+50))], none⟩
    let k : Nat := 0
    let dt : Nat := N+50
    k < 4 ∧
    (let a := s.advance dt
    let c := s.knCluster k
    c.run = none ∧
    (nextKernel c.queue).any (fun d => decide (a.domOn (18 + k) = true ∧
    d.lateAt (a.ctNs + 1) = true)) = true)),
    decide (let s : State := cl ⟨[d 5], some (rn (d 6))⟩
    let k : Nat := 0
    let dt : Nat := N
    k < 4 ∧
    (let a := s.advance dt
    let c := s.knCluster k
    (c.run).any (fun r => decide ((r.eval).toOption.any (fun pts => decide ((r.desc).lateAt (a.ctNs - outNs (16 + ((pts.map PointEnd.bytes).flatten).length)) = false)) = true)) = true)),
    decide (let s : State := cl ⟨[], some { rn (d 1) with bounds := (List.range 13).map (fun _ => ((0:Int),(1:Int))) }⟩
    let k : Nat := 1
    let dt : Nat := 1
    k < 4 ∧
    (let a := s.advance dt
    let c := s.knCluster k
    (c.run).any (fun r => decide ((r.eval).toOption = none ∧
    (r.desc).lateAt a.ctNs = false)) = true)),
    decide (let s : State := cl ⟨[d 6 0x3000 0xFFFF (some (N+50))], none⟩
    let k : Nat := 0
    let c := s.knCluster k
    c.queue[0]?.any (fun d => d.deadline.isSome) = true),
    decide (let s : State := cl ⟨[], some { rn (d 5 0x3000 0xFFFF (some (N+100))) with bounds := (List.range 13).map (fun _ => ((0:Int),(1:Int))) }⟩
    let k : Nat := 0
    k < 4 ∧
    (let c := s.knCluster k
    (c.run).any (fun r => decide ((r.desc.deadline).isSome = true)) = true)),
    decide (let s : State := cl ⟨[], some { rn (d 5 0x3000 0xFFFF (some (N+100))) with bounds := (List.range 13).map (fun _ => ((0:Int),(1:Int))) }⟩
    let k : Nat := 0
    k < 4 ∧
    (let c := s.knCluster k
    (c.run).any (fun r => decide ((r.desc.deadline).isSome = true ∧
    (r.eval).toOption = none)) = true)),
    decide (let s : State := set (cl ⟨[],none⟩) [(F.KN_CTL_EN,0,2)]
    let q : Requester := .host
    let v : Word := 3
    let k : Nat := 0
    k < 4 ∧
    (let en := s.fd F.KN_CTL_EN
    s.grants q .KN_CTL = true ∧
    en.testBit k = false ∧
    F.KN_CTL_EN.of v.toNat = en + 2 ^ k ∧
    s.domOn (18 + k) = true ∧
    (((List.range 64).all (fun e => decide (s.flag F.KN_RANGE_CTLc_EN e = true → (s.knBound e).1 ≤ (s.knBound e).2)) = true)))),
    decide (let s : State := cl ⟨[d 5], some (rn (d 6))⟩
    let q : Requester := .host
    let v : Word := 7
    let k : Nat := 2
    k < 4 ∧
    (let en := s.fd F.KN_CTL_EN
    s.grants q .KN_CTL = true ∧
    en.testBit k = false ∧
    F.KN_CTL_EN.of v.toNat = en + 2 ^ k ∧
    s.domOn (18 + k) = false)),
    decide (let s : State := set (setR (cl ⟨[],none⟩) [(.KN_RANGE_MAXc,12,0),(.KN_RANGE_MINc,12,100)]) [(F.KN_RANGE_CTLc_EN,12,1),(F.KN_CTL_EN,0,2)]
    let q : Requester := .host
    let v : Word := 3
    let k : Nat := 0
    k < 4 ∧
    (let en := s.fd F.KN_CTL_EN
    s.grants q .KN_CTL = true ∧
    en.testBit k = false ∧
    F.KN_CTL_EN.of v.toNat = en + 2 ^ k ∧
    (let e : Nat := 12
    s.domOn (18 + k) = true ∧
    e < 64 ∧
    s.flag F.KN_RANGE_CTLc_EN e = true ∧
    (s.knBound e).2 < (s.knBound e).1))),
    decide (let s : State := set live [(F.KN_CTL_EN,0,3)]
    let q : Requester := .host
    let v : Word := 1
    let k : Nat := 1
    k < 4 ∧
    (let en := s.fd F.KN_CTL_EN
    s.grants q .KN_CTL = true ∧
    en.testBit k = true ∧
    F.KN_CTL_EN.of v.toNat + 2 ^ k = en ∧
    s.clusterBusy k = false)),
    decide (let s : State := cl ⟨[d 6 0x3000 0xFFFF (some (N+50))], none⟩
    let q : Requester := .host
    let v : Word := 2
    let k : Nat := 0
    k < 4 ∧
    (let en := s.fd F.KN_CTL_EN
    s.grants q .KN_CTL = true ∧
    en.testBit k = true ∧
    F.KN_CTL_EN.of v.toNat + 2 ^ k = en ∧
    s.clusterBusy k = true)),
    decide (let s : State := setR (set (cl ⟨[],none⟩) [(F.KN_CTL_EN,0,2),(F.KN_RANGE_CTLc_EN,9,1)]) [(.KN_RANGE_MINc,9,5),(.KN_RANGE_MAXc,9,3)]
    let v : Word := 3
    s.grants .host .KN_CTL = true ∧ (s.fd F.KN_CTL_EN).testBit 0 = false ∧ F.KN_CTL_EN.of v.toNat = s.fd F.KN_CTL_EN + 2 ^ 0 ∧ s.domOn 18 = true ∧ s.flag F.KN_RANGE_CTLc_EN 9 = true ∧ (s.knBound 9).2 < (s.knBound 9).1),
    decide (let s : State := setR (set (cl ⟨[d 6 0x3000],none⟩) [(F.KN_RANGE_CTLc_EN,0,1)]) [(.KN_RANGE_MINc,0,5)]
    let a := s.advance 12
    let c := s.knCluster 0
    c.run = none ∧ a.domOn 18 = true ∧ (nextKernel c.queue).any (fun d => decide (d.lateAt (a.ctNs + 1) = false) && (let r := a.knRun d
    (firstTrip a.knBounds (kernelInWords d.kind (fieldAt r.model 1 1) d.count (modelPris r.model) r.input ++ modelWords r.model)).isSome)) = true)].all id = true := by decide +kernel
end KernelsRun

namespace PlansRun

def OUT : Nat := 0x10200000
def axb (g fl node stp : Nat) : List Byte := bn [(2,0),(1,g),(1,fl),(2,node),(1,0),(1,0),(4,2^32-1000000),(4,1000000),(4,100000),(4,100000),(4,10000000),(4,1000000),(4,5000),(1,0xFF),(1,stp),(2,0),(4,0)] ++ List.replicate 4 0
def link (par : Nat) : List Byte := let l := bn ([(1,0),(1,par),(2,0),(4,6553),(4,0),(4,0)] ++ q1 ++ [(4,0),(4,0),(4,2^30),(4,65536),(4,655),(4,0),(4,0),(4,900),(4,900),(4,900),(4,0),(4,0),(4,0),(4,500),(4,0),(4,0)]); l ++ List.replicate (96 - l.length) 0
def model (n : Nat) : List Byte := let h := bn ([(1,1),(1,n),(1,0),(1,0),(4,0),(4,0),(4,0)] ++ q1 ++ [(4,0),(4,0),(4,642908),(4,0),(4,0),(4,0),(4,0),(4,0)]); h ++ link 0xFF ++ (if n = 2 then link 0 else [])
def capb : List Byte := bn [(1,0),(1,0),(1,0),(1,1),(4,0),(4,0),(4,0),(4,6000),(4,0),(4,0),(4,3000)]
def b0 : State := 
  let s := putS (putS (putS live (64*3) (agb 1 1 0 4 2 3 4 0x40000)) (axisAt 4) (axb 3 2 5 0xFF)) (0x3400 + 32 * 36) capb
  let s := putS s 0x40000 (model 1)
  set { s with kn := { s.kn with models := [(3, model 1)] }, time := { s.time with bcn := 13, bcStart := 13 * 62500, ct := (13 * 62500 + 700) * 2^32, noBase := false } } [(F.KN_MODEL_VALID_VALID,0,8),(F.KN_CTL_EN,0,3),(F.PW_DOMd_STAT_STATE,20,3)]
def pin (n : Nat) (ver : Nat := 1) : List Byte := bn ([(1,ver),(1,n),(2,8),(2,1),(2,0),(8,0),(1,3),(1,1),(2,4),(4,2^30),(2,4),(2,0),(4,1000),(4,0),(4,0),(4,65536),(4,65536),(4,655)] ++ (List.range 25).map (fun k => (4,1000 + 10 * k)))
def pd (slot iters : Nat) (dl : Option Nat := none) (b : List Byte := pin 2) (fl : Nat := 0) (tok : Nat := 0xFFFF) (e0 e1 : Nat := 100000) (sig : Nat := planSig (pin 2)) : KnDesc :=
  { bytes := bn [(1,0x10),(1,fl),(1,0xFF),(1,slot),(2,tok),(2,9),(4,0x2000),(4,OUT),(2,1),(1,0),(1,0),(4,0),(4,sig),(1,iters),(3,0),(8,2000000),(4,500000),(4,e0),(4,e0),(4,e1),(4,152),(4,176)], core := 2, deadline := dl }
def inp (b : List Byte) (s : State) : State := { s with mem := { s.mem with tcm := Mem.writeN s.mem.tcm (2 * 0x80000 + 0x2000) b } }
def kn (f : KnState → KnState) (b : List Byte := pin 2) : State := let s := inp b b0; { s with kn := f s.kn }
def N : Nat := 13 * 62500 + 700
def arm3 : PlanArm := (b0).planArm 3
def old (t0 vf sig : Nat) : List Byte := bn [(8,t0),(8,vf),(4,500000),(1,2),(1,0),(2,8),(2,1),(2,0),(4,0),(4,0),(4,sig),(8,0),(2,4),(2,0),(4,1000),(4,0),(4,0)] ++ List.replicate 96 0
def sv (x : KnDesc) (st : Option (List Byte) := none) (warm : Option (List Byte) := none) : KnSolve := 
  { desc := x, clusters := 3, input := pin 2, arms := [arm3], table := b0.knTable, stored := st, warm := warm, duals := [1,2], wsm := false, preempt := false, trip := false, moveFrom := 0, moveEnd := 0 }
def it0 (n : Nat) : KnIter := { iters := n, cycles := 1234 }
/-- States and operands that meet the hypotheses of `Obligations.PlansRun`, clause by clause. -/
theorem test_premises : [
    decide (let s : State := kn (fun k => { k with waiting := [pd 2 3 none (pin 2) 4, pd 1 3], slots := [ (2, { plan := some (old 1000000 1000000 (planSig (pin 2))), duals := [3], hold := 2 })] })
    let n : Nat := 3
    let dt : Nat := N+5000
    n < 8 ∧
    (let a := s.advance dt
    s.kn.solve = none ∧
    (s.nextPlan).any (fun d => decide (d.slot < 8 ∧
    a.plansOn ≠ 0 ∧
    d.lateAt (a.ctNs + 1) = false ∧
    (let b := a.coreBytes d.core d.inAt (d.fld 56 4)
    let arms := (inGroups b).map a.planArm
    let trip := firstTrip a.knBounds (a.problemWords b ++ arms.flatMap (fun r => modelWords r.model))
    a.problemFail d b = none ∧
    trip = none))) = true)),
    decide (let s : State := setR (kn (fun k => { k with waiting := [pd 2 3] })) [(.KN_RANGE_MAXc,0,1),(.KN_RANGE_MAXc,1,10)]
    let n : Nat := 3
    let dt : Nat := 0
    n < 8 ∧
    (let a := s.advance dt
    s.kn.solve = none ∧
    (s.nextPlan).any (fun d => decide (d.slot < 8 ∧
    a.plansOn ≠ 0 ∧
    d.lateAt (a.ctNs + 1) = false ∧
    (let b := a.coreBytes d.core d.inAt (d.fld 56 4)
    let sl := s.knSlot d.slot
    let stored := if a.allOn sl.hold then sl.plan else none
    let fits := stored.filter (fun p => decide (planStoredSig p = d.fld 24 4))
    let arms := (inGroups b).map a.planArm
    let trip := firstTrip a.knBounds (a.problemWords b ++ arms.flatMap (fun r => modelWords r.model))
    a.problemFail d b = none ∧
    trip.isSome = true ∧
    fits = none))) = true)),
    decide (let s : State := kn (fun k => { k with waiting := [pd 2 3] }) (pin 2 2)
    let n : Nat := 3
    let dt : Nat := N+100
    n < 8 ∧
    (let a := s.advance dt
    s.kn.solve = none ∧
    (s.nextPlan).any (fun d => decide (d.slot < 8 ∧
    a.plansOn ≠ 0 ∧
    d.lateAt (a.ctNs + 1) = false ∧
    (let b := a.coreBytes d.core d.inAt (d.fld 56 4)
    (a.problemFail d b).isSome = true))) = true)),
    decide (let s : State := kn (fun k => { k with solve := some (sv (pd 3 9) none |> fun p => { p with table := [], arms := [], input := bn [(1,1),(1,0),(2,8),(2,0)], desc := pd 3 9 none [] 0 0xFFFF 0xFFFFFFFF 0xFFFFFFFF }) })
    let n : Nat := 2
    let dt : Nat := 0
    let it : KnIter := it0 2
    n < 8 ∧
    (let a := s.advance dt
    let end_ (p : KnSolve) : RunEnd := p.run it.iters
    (s.kn.solve).any (fun p => decide (p.desc.slot < 8 ∧
    p.trip = false ∧
    p.desc.deadline.any (fun t => decide (t ≤ a.ctNs)) = false ∧
    (let e := end_ p
    e.done = true))) = true)),
    decide (let s : State := kn (fun k => { k with solve := some (sv (pd 3 9) none |> fun p => { p with table := [], arms := [], input := bn [(1,1),(1,0),(2,8),(2,0)], desc := pd 3 0 none [] 0 0xFFFF 0xFFFFFFFF 0xFFFFFFFF }) })
    let n : Nat := 3
    let dt : Nat := N+5000
    let it : KnIter := it0 2
    n < 8 ∧
    (let a := s.advance dt
    let end_ (p : KnSolve) : RunEnd := p.run it.iters
    (s.kn.solve).any (fun p => decide (p.desc.slot < 8 ∧
    p.trip = false ∧
    p.desc.deadline.any (fun t => decide (t ≤ a.ctNs)) = false ∧
    (let e := end_ p
    e.done = false ∧
    e.trap = none ∧
    e.stall = false ∧
    p.preempt = false ∧
    e.iters = p.desc.fld 28 1))) = true)),
    decide (let s : State := kn (fun k => { k with solve := some (sv (pd 3 9) none |> fun p => { p with table := [], arms := [], input := bn [(1,1),(1,0),(2,8),(2,0)], desc := pd 3 9 (some (N + 5000)) [] 0 0xFFFF 0xFFFFFFFF 0xFFFFFFFF }) })
    let n : Nat := 3
    let it : KnIter := it0 0
    n < 8 ∧
    (let end_ (p : KnSolve) : RunEnd := p.run it.iters
    (s.kn.solve).any (fun p => decide (p.desc.slot = n ∧
    (p.desc.deadline).isSome = true ∧
    p.trip = false ∧
    (end_ p).done = false ∧
    (end_ p).trap = none)) = true)),
    decide (let s : State := kn (fun k => { k with waiting := [pd 2 3 (some (N + 100))] })
    let n : Nat := 2
    n < 8 ∧
    (let d : KnDesc := pd 2 3 (some (N + 100))
    (s.kn.solve = none) ∧
    s.kn.waiting.find? (fun d => decide (d.slot = n)) = some d ∧
    (d.deadline).isSome = true ∧
    (s.knSlot n).plan = none)),
    decide (let s : State := kn (fun k => { k with solve := some (sv (pd 3 2 none (pin 2) 0 0xFFFF 1 0x7FFFFFFF) (some (old 1000000 1000000 (planSig (pin 2))))) })
    let q : Requester := .host
    let v : Word := 2
    let n : Nat := 3
    n < 8 ∧
    s.grants q .KN_PLAN_CTL = true ∧
    (let new := F.KN_PLAN_CTL_ADOPT.of v.toNat
    s.flag F.KN_PLAN_CTL_PENDING = false ∧
    new ≠ s.fd F.KN_PLAN_CTL_ADOPT)),
    decide (let s : State := set live [(F.KN_PLAN_CTL_PENDING,0,1)]
    let q : Requester := .host
    let v : Word := 3
    let n : Nat := 3
    n < 8 ∧
    s.grants q .KN_PLAN_CTL = true ∧
    (let new := F.KN_PLAN_CTL_ADOPT.of v.toNat
    s.flag F.KN_PLAN_CTL_PENDING = true ∧
    new ≠ s.fd F.KN_PLAN_CTL_ADOPT))].all id = true := by decide +kernel
end PlansRun

namespace ChannelsFollowCommands

def axb (fl node stp : Nat) : List Byte := bn [(2,4),(1,0xFF),(1,fl),(2,node),(1,0),(1,0),(4,2^32-1000000),(4,1000000),(4,70000000),(4,70000000),(4,2000000000),(4,1000000),(4,500000000),(1,0xFF),(1,stp),(2,0),(4,0)] ++ List.replicate 4 0
def b0 (st : Nat) (fl : Nat := 1) (l : List (Machine.Field × Nat × Nat) := []) : State :=
  let s := putS live (axisAt 4) (axb fl 0xFFFF 1)
  let s := setR s [(.AX_TGTn,4,5000),(.AX_VELn,4,6553600),(.AX_ACCn,4,65536000),(.AX_DECn,4,65536000),(.AX_JRKn,4,655360000),(.AX_HSPDn,4,3000000)]
  set { s with time := { s.time with bcn := 13, bcStart := 13 * 62500, ct := (13 * 62500 + 700) * 2^32, noBase := false } } ([(F.AX_STATn_STATE,4,st),(F.AX_DRVn_PG_GPIO,4,255),(F.AX_STj_CTL_EN,1,1)] ++ l)
def ch (f : AxChan → AxChan) (s : State) : State := s.setAxChan 4 (f (s.axChan 4))
def mv (p : Option (Nat × Requester)) (tgt : Int) (s : State) : State :=
  let d : AxChan := { (s.axChan 4) with motion := .move, target := tgt, vel := 6553600, acc := 65536000, dec := 65536000, ending := [(1,0)], pend := p }
  let l := (d.limits (s.axLive 4)).moveTo d.plan.now tgt
  s.setAxChan 4 { d with plan := ⟨d.plan.now, l.1, s.lenNs⟩ }
def lg (s : State) : State := ch (fun c => { c with plan := { c.plan with ns := 20 * s.lenNs } }) s
/-- States and operands that meet the hypotheses of `Obligations.ChannelsFollowCommands`, clause by clause. -/
theorem test_premises : [
    decide (let s : State := b0 4
    let q : Requester := .host
    let n : Nat := 4
    n < 256 ∧
    (let c := s.axChan n
    let st := s.axState n
    let op := 3
    s.grants q .AX_CMDn n = true ∧
    c.pend = none ∧
    axAllowed op st = true)),
    decide (let s : State := b0 4
    let q : Requester := .host
    let n : Nat := 4
    n < 256 ∧
    (let c := s.axChan n
    let st := s.axState n
    let op := 1
    s.grants q .AX_CMDn n = true ∧
    c.pend = none ∧
    axAllowed op st = false)),
    decide (let s : State := ch (fun c => { c with pend := some (1, .host)}) (b0 1 1 [(F.AX_CTLn_PACE,4,1),(F.AX_CTLn_CREDIT,4,3)])
    let n : Nat := 4
    n < 256 ∧
    (let c := s.axChan n
    let r := s.axLive n
    let st := s.axState n
    s.time.noBase = false ∧
    s.ax.tickBcn ≠ some s.time.bcn ∧
    s.axRunning = [n] ∧
    c.halting = false ∧
    (c.pend).any (fun q_ => decide (q_.1 = 1 ∧
    st = 1 ∧
    s.moveFail n r = none)) = true)),
    decide (let s : State := mv (some (2,.host)) 5000 (b0 2)
    let n : Nat := 4
    n < 256 ∧
    (let c := s.axChan n
    let r := s.axLive n
    let st := s.axState n
    s.time.noBase = false ∧
    s.ax.tickBcn ≠ some s.time.bcn ∧
    s.axRunning = [n] ∧
    c.halting = false ∧
    (c.pend).any (fun q_ => decide (q_.1 = 2 ∧
    st = 2 ∧
    c.motion = .move ∧
    s.axLimitsBad n r false = false)) = true)),
    decide (let s : State := mv (some (3,.host)) 5000 (b0 2)
    let n : Nat := 4
    n < 256 ∧
    (let c := s.axChan n
    let st := s.axState n
    s.time.noBase = false ∧
    s.ax.tickBcn ≠ some s.time.bcn ∧
    s.axRunning = [n] ∧
    c.halting = false ∧
    (c.pend).any (fun q_ => decide (q_.1 = 3 ∧
    st = 2)) = true)),
    decide (let s : State := lg (mv (some (4,.host)) 5000000 (b0 2))
    let n : Nat := 4
    n < 256 ∧
    (let c := s.axChan n
    let st := s.axState n
    s.time.noBase = false ∧
    s.ax.tickBcn ≠ some s.time.bcn ∧
    s.axRunning = [n] ∧
    c.halting = false ∧
    (c.pend).any (fun q_ => decide (q_.1 = 4 ∧
    st = 2)) = true)),
    decide (let s : State := ch (fun c => { c with pend := some (5, .host)}) (b0 1 1 [(F.AX_HOMEn_MODE,4,1)])
    let n : Nat := 4
    n < 256 ∧
    (let c := s.axChan n
    let st := s.axState n
    s.time.noBase = false ∧
    s.ax.tickBcn ≠ some s.time.bcn ∧
    s.axRunning = [n] ∧
    c.halting = false ∧
    (c.pend).any (fun q_ => decide (q_.1 = 5 ∧
    st = 1 ∧
    s.fd F.AX_HOMEn_MODE n ≠ 0 ∧
    s.fd F.AX_HOMEn_MODE n ≠ 7 ∧
    s.expectedOn n (s.fd F.AX_HOMEn_MODE n) = false)) = true)),
    decide (let s : State := ch (fun c => { c with plan := { c.plan with ns := 10^10 } }) (mv none 5 (b0 2))
    let n : Nat := 4
    n < 256 ∧
    (let c := s.axChan n
    let r := s.axLive n
    let st := s.axState n
    let u := axUnit r
    s.time.noBase = false ∧
    s.ax.tickBcn ≠ some s.time.bcn ∧
    s.axRunning = [n] ∧
    c.halting = false ∧
    c.pend = none ∧
    st = 2 ∧
    c.motion = .move ∧
    c.stale = false ∧
    c.queue = [] ∧
    (let y := c.plan.sample (c.plan.ns + s.lenNs) true u (some c.target)
    y.last = true))),
    decide (let s : State := mv none 5000 (b0 2)
    let n : Nat := 4
    n < 256 ∧
    (let c := s.axChan n
    let r := s.axLive n
    let st := s.axState n
    let u := axUnit r
    s.time.noBase = false ∧
    s.ax.tickBcn ≠ some s.time.bcn ∧
    s.axRunning = [n] ∧
    c.halting = false ∧
    c.pend = none ∧
    st = 2 ∧
    c.motion = .move ∧
    c.stale = false ∧
    c.queue = [] ∧
    (let y := c.plan.sample (c.plan.ns + s.lenNs) true u (some c.target)
    y.last = false ∧
    s.flag F.AX_CTLn_PACE n = false))),
    decide (let s : State := ch (fun c => { c with pend := some (1, .host)}) (b0 1 1 [(F.AX_STATn_POS_LOST,4,1)])
    let n : Nat := 4
    n < 256 ∧
    (let c := s.axChan n
    let r := s.axLive n
    let st := s.axState n
    s.time.noBase = false ∧
    s.ax.tickBcn ≠ some s.time.bcn ∧
    s.axRunning = [n] ∧
    c.halting = false ∧
    (c.pend).any (fun q_ => decide (q_.1 = 1 ∧
    st = 1 ∧
    c.motion = .none ∧
    (s.moveFail n r).isSome = true)) = true)),
    decide (let s : State := (let s := ch (fun c => { c with pend := some (5, .host)}) (b0 1 1 [(F.AX_HOMEn_MODE,4,0)]); putS s (axisAt 4) (axb 1 7 0xFF))
    let n : Nat := 4
    n < 256 ∧
    (let c := s.axChan n
    let st := s.axState n
    s.time.noBase = false ∧
    s.ax.tickBcn ≠ some s.time.bcn ∧
    s.axRunning = [n] ∧
    c.halting = false ∧
    (c.pend).any (fun q_ => decide (q_.1 = 5 ∧
    st = 1 ∧
    s.fd F.AX_HOMEn_MODE n = 0)) = true)),
    decide (let s : State := ch (fun c => { c with pend := some (6, .host)}) (b0 5 1)
    let n : Nat := 4
    n < 256 ∧
    (let c := s.axChan n
    let r := s.axLive n
    let st := s.axState n
    s.time.noBase = false ∧
    s.ax.tickBcn ≠ some s.time.bcn ∧
    s.axRunning = [n] ∧
    c.halting = false ∧
    (c.pend).any (fun q_ => decide (q_.1 = 6 ∧
    st = 5 ∧
    c.motion = .none ∧
    c.cause ≠ 0x4A ∧
    c.cause ≠ 0x48 ∧
    axFb r = none ∧
    (s.agOfAxis n = none ∨ axProfiled r = true))) = true)),
    decide (let s : State := ch (fun c => { c with pend := some (6, .host), cause := 0x4A}) (b0 5 1 [(F.AX_STATn_CODE,4,0x4A),(F.AX_DRVn_PG_GPIO,4,3)])
    let n : Nat := 4
    n < 256 ∧
    (let c := s.axChan n
    let st := s.axState n
    s.time.noBase = false ∧
    s.ax.tickBcn ≠ some s.time.bcn ∧
    s.axRunning = [n] ∧
    c.halting = false ∧
    (c.pend).any (fun q_ => decide (q_.1 = 6 ∧
    st = 5 ∧
    c.motion = .none ∧
    c.cause = 0x4A ∧
    s.pgHigh n = false)) = true)),
    decide (let s : State := (let s := b0 6 0; { s with kl := { s.kl with shutBcn := some 12, given := [(2048+4, bn [(4,0),(4,700),(8,0)])] } })
    let n : Nat := 4
    n < 256 ∧
    (let c := s.axChan n
    let r := s.axLive n
    let st := s.axState n
    s.time.noBase = false ∧
    s.ax.tickBcn ≠ some s.time.bcn ∧
    s.axRunning = [n] ∧
    c.halting = false ∧
    c.pend = none ∧
    st = 6 ∧
    ((s.setAxChan n { c with p0 := c.p1, p1 := c.p2 }).plannedPos n r).isSome = true)),
    decide (let s : State := mv (some (1, .host)) 5 (b0 2)
    let c := s.axChan 4
    s.grants .host .AX_CMDn 4 = true ∧ c.pend = some (1, .host)),
    decide (let s : State := mv (some (5, .host)) 5 (b0 2)
    let c := s.axChan 4
    s.grants .host .AX_CMDn 4 = true ∧ c.pend = some (5, .host))].all id = true := by decide +kernel
end ChannelsFollowCommands

namespace InputsAndCompareUnits

def axb (fl node stp fb : Nat) : List Byte := bn [(2,4),(1,0xFF),(1,fl),(2,node),(1,0),(1,0),(4,2^32-1000000),(4,1000000),(4,70000000),(4,70000000),(4,2000000000),(4,1000000),(4,500000000),(1,fb),(1,stp),(2,0),(4,0)] ++ List.replicate 4 0
def b0 (st : Nat) (l : List (Machine.Field × Nat × Nat) := []) (fl : Nat := 1) (fb : Nat := 0xFF) : State :=
  let s := putS live (axisAt 4) (axb fl 0xFFFF 1 fb)
  let s := setR s [(.AX_TGTn,4,5000),(.AX_VELn,4,6553600),(.AX_ACCn,4,65536000),(.AX_DECn,4,65536000),(.AX_JRKn,4,655360000),(.AX_HSPDn,4,3000000)]
  set { s with time := { s.time with bcn := 13, ticks := 90000000, bcStart := 13 * 62500, ct := (13 * 62500 + 40000) * 2^32, noBase := false } } ([(F.AX_INn_NEG_SRC,4,1),(F.AX_INn_POS_SRC,4,2),(F.AX_INn_HOME_SRC,4,3),(F.AX_INn_DEBOUNCE,4,0),(F.AX_STATn_STATE,4,st),(F.AX_DRVn_PG_GPIO,4,255),(F.AX_STj_CTL_EN,1,1)] ++ l)
def ch (f : AxChan → AxChan) (s : State) : State := s.setAxChan 4 (f (s.axChan 4))
def cmp (l : List (Machine.Field × Nat × Nat)) (pos int : Nat) (src : Nat := 4) (st : Nat := 2) : State := 
  ch (fun c => { c with p0 := 10, p1 := 40, p2 := 60 }) (setR (b0 st ([(F.AX_CMPk_CTL_SRC_ID,2,src)] ++ l)) [(.AX_CMPk_POS,2,pos),(.AX_CMPk_INT,2,int)])
def up (s : State) : State := ch (fun c => { c with ins := [⟨0,true,3,9⟩] }) (set s [(F.AX_INn_NEG_SRC,4,0x21)])
def cu (sd : Int) (s : State) : State := s.setCmpUnit 2 { s.cmpUnit 2 with side := sd }
/-- States and operands that meet the hypotheses of `Obligations.InputsAndCompareUnits`, clause by clause. -/
theorem test_premises : [
    decide (let s : State := set (b0 1) [(F.AX_INn_DEBOUNCE,4,1)]
    let n : Nat := 4
    let w : Nat := 2
    let k : Nat := 2
    let hold : Nat := 3
    n < 256 ∧
    w < 3 ∧
    k < 64 ∧
    (let src := s.inputSrc n w
    src < 0x20 ∧
    hold < 50000 * s.fd F.AX_INn_DEBOUNCE n)),
    decide (let s : State := ch (fun c => { c with p2 := 70 }) (setR (b0 4 [(F.AX_HOMEn_MODE,4,2)]) [(.AX_HDISTn,4,60)])
    let n : Nat := 4
    let w : Nat := 0
    let k : Nat := 2
    n < 256 ∧
    w < 3 ∧
    k < 64 ∧
    (let c := s.axChan n
    s.axState n = 4 ∧
    (s.rg .AX_HDISTn n : Int) ≤ |c.p2 - c.start|)),
    decide (let s : State := cu (-1) <| cmp [(F.AX_CMPk_STAT_ARMED,2,1),(F.AX_CMPk_CTL_EN,2,1),(F.AX_CMPk_CTL_ACTION,2,4),(F.AX_CMPk_CTL_PERIODIC,2,1),(F.AX_CMPk_CNT_COUNT,2,1)] 12 10000
    let n : Nat := 2
    let w : Nat := 2
    let k : Nat := 2
    let dt : Nat := 2
    n < 256 ∧
    w < 3 ∧
    k < 64 ∧
    (let a := s.advance dt
    let pos := a.cmpPos k
    let tgt := toSigned 32 (s.rg .AX_CMPk_POS k)
    let u := s.cmpUnit k
    let dir := s.fd F.AX_CMPk_CTL_DIR k
    s.flag F.AX_CMPk_STAT_ARMED k = true ∧
    s.cmpRunning k = true ∧
    u.due = none ∧
    u.side < 0 ∧
    tgt ≤ pos ∧
    dir ≠ 1)),
    decide (let s : State := ch (fun c => { c with motion := .back }) (b0 4 [(F.AX_HOMEn_MODE,4,1),(F.AX_STATn_LIM_NEG,4,1)])
    let q : Requester := .host
    let n : Nat := 2
    let w : Nat := 2
    let k : Nat := 0
    let v : Word := W [(F.AX_CMPk_CTL_EN,1),(F.AX_CMPk_CTL_SRC_ID,4),(F.AX_CMPk_CTL_ACTION,2),(F.AX_CMPk_CTL_GPIO,7)]
    n < 256 ∧
    w < 3 ∧
    k < 64 ∧
    (let x := v.toNat
    let d := F.AX_CMPk_CTL_DIR.of x
    let i := toSigned 32 (s.rg .AX_CMPk_INT k)
    let b := s.setRg .AX_CMPk_CTL k 0 (setBits (x &&& (2 ^ 24 - 1 - 2)) 31 24 (s.fd F.AX_CMPk_CTL_REFUSE k))
    s.grants q .AX_CMPk_CTL k = true ∧
    d ≠ 3 ∧
    F.AX_CMPk_CTL_ACTION.of x ≤ 4 ∧
    F.AX_CMPk_CTL_EN.of x = 1 ∧
    F.AX_CMPk_CTL_ARM.of x = 0 ∧
    s.flag F.AX_CMPk_CTL_EN k = false ∧
    b.cmpRunning k = true ∧
    s.gpioIsInput (F.AX_CMPk_CTL_GPIO.of x) = false ∧
    (F.AX_CMPk_CTL_PERIODIC.of x = 0 ∨ i ≠ 0 ∧ ¬ (d = 0 ∧ i < 0) ∧ ¬ (d = 1 ∧ 0 < i)))),
    decide (let s : State := cmp [(F.AX_CTLn_EN,9,1),(F.AX_INn_NEG_SRC,9,7)] 9000 100
    let q : Requester := .host
    let n : Nat := 4
    let w : Nat := 0
    let k : Nat := 2
    let v : Word := W [(F.AX_CMPk_CTL_EN,1),(F.AX_CMPk_CTL_SRC_ID,4),(F.AX_CMPk_CTL_ACTION,2),(F.AX_CMPk_CTL_GPIO,7)]
    n < 256 ∧
    w < 3 ∧
    k < 64 ∧
    (let x := v.toNat
    let d := F.AX_CMPk_CTL_DIR.of x
    let b := s.setRg .AX_CMPk_CTL k 0 (setBits (x &&& (2 ^ 24 - 1 - 2)) 31 24 (s.fd F.AX_CMPk_CTL_REFUSE k))
    s.grants q .AX_CMPk_CTL k = true ∧
    d ≠ 3 ∧
    F.AX_CMPk_CTL_ACTION.of x ≤ 4 ∧
    F.AX_CMPk_CTL_EN.of x = 1 ∧
    F.AX_CMPk_CTL_ARM.of x = 0 ∧
    s.flag F.AX_CMPk_CTL_EN k = false ∧
    b.cmpRunning k = true ∧
    s.gpioIsInput (F.AX_CMPk_CTL_GPIO.of x) = true)),
    decide (let s : State := cmp [] 9000 100 4 0
    let q : Requester := .host
    let n : Nat := 4
    let w : Nat := 0
    let k : Nat := 1
    let v : Word := W [(F.AX_CMPk_CTL_EN,1),(F.AX_CMPk_CTL_SRC_ID,4),(F.AX_CMPk_CTL_ACTION,2),(F.AX_CMPk_CTL_GPIO,7)]
    n < 256 ∧
    w < 3 ∧
    k < 64 ∧
    (let x := v.toNat
    let d := F.AX_CMPk_CTL_DIR.of x
    let b := s.setRg .AX_CMPk_CTL k 0 (setBits (x &&& (2 ^ 24 - 1 - 2)) 31 24 (s.fd F.AX_CMPk_CTL_REFUSE k))
    s.grants q .AX_CMPk_CTL k = true ∧
    d ≠ 3 ∧
    F.AX_CMPk_CTL_ACTION.of x ≤ 4 ∧
    F.AX_CMPk_CTL_EN.of x = 1 ∧
    F.AX_CMPk_CTL_ARM.of x = 0 ∧
    s.flag F.AX_CMPk_CTL_EN k = false ∧
    b.cmpRunning k = false)),
    decide (let s : State := cu (-1) <| cmp [(F.AX_CMPk_STAT_ARMED,2,1),(F.AX_CMPk_CTL_EN,2,1),(F.AX_CMPk_CTL_DIR,2,1),(F.AX_CMPk_CTL_SRC_FB,2,1),(F.FB_STATn_STATE,4,1)] 12 0
    let q : Requester := .host
    let n : Nat := 3
    let w : Nat := 2
    let k : Nat := 2
    let v : Word := W [(F.AX_CMPk_CTL_EN,1),(F.AX_CMPk_CTL_ARM,1),(F.AX_CMPk_CTL_CMP_IMMEDIATE,1)]
    n < 256 ∧
    w < 3 ∧
    k < 64 ∧
    (let x := v.toNat
    let d := F.AX_CMPk_CTL_DIR.of x
    let b := s.setRg .AX_CMPk_CTL k 0 (setBits (x &&& (2 ^ 24 - 1 - 2)) 31 24 (s.fd F.AX_CMPk_CTL_REFUSE k))
    s.grants q .AX_CMPk_CTL k = true ∧
    d ≠ 3 ∧
    F.AX_CMPk_CTL_ACTION.of x ≤ 4 ∧
    F.AX_CMPk_CTL_EN.of x = 1 ∧
    F.AX_CMPk_CTL_ARM.of x = 1 ∧
    s.flag F.AX_CMPk_CTL_EN k = true ∧
    b.cmpBehind k = false)),
    decide (let s : State := cu (-1) <| cmp [(F.AX_CMPk_STAT_ARMED,2,1),(F.AX_CMPk_CTL_EN,2,1)] 9000 0
    let q : Requester := .host
    let n : Nat := 3
    let w : Nat := 1
    let k : Nat := 2
    let v : Word := W [(F.AX_CMPk_CTL_EN,1),(F.AX_CMPk_CTL_ARM,1),(F.AX_CMPk_CTL_DIR,1),(F.AX_CMPk_CTL_SRC_ID,4)]
    n < 256 ∧
    w < 3 ∧
    k < 64 ∧
    (let x := v.toNat
    let d := F.AX_CMPk_CTL_DIR.of x
    let b := s.setRg .AX_CMPk_CTL k 0 (setBits (x &&& (2 ^ 24 - 1 - 2)) 31 24 (s.fd F.AX_CMPk_CTL_REFUSE k))
    s.grants q .AX_CMPk_CTL k = true ∧
    d ≠ 3 ∧
    F.AX_CMPk_CTL_ACTION.of x ≤ 4 ∧
    F.AX_CMPk_CTL_EN.of x = 1 ∧
    F.AX_CMPk_CTL_ARM.of x = 1 ∧
    s.flag F.AX_CMPk_CTL_EN k = true ∧
    b.cmpBehind k = true ∧
    F.AX_CMPk_CTL_CMP_IMMEDIATE.of x = 0)),
    decide (let s : State := ch (fun c => { c with motion := .back }) (b0 4 [(F.AX_HOMEn_MODE,4,1),(F.AX_STATn_LIM_NEG,4,1)])
    let q : Requester := .host
    let n : Nat := 1
    let w : Nat := 1
    let k : Nat := 2
    n < 256 ∧
    w < 3 ∧
    k < 64 ∧
    s.grants q .AX_CMPk_POS k = true ∧
    s.flag F.AX_CMPk_STAT_ARMED k = false),
    decide (let s : State := cu (-1) <| cmp [(F.AX_CMPk_STAT_ARMED,2,1),(F.AX_CMPk_CTL_EN,2,1)] 9000 0
    let q : Requester := .host
    let n : Nat := 0
    let w : Nat := 2
    let k : Nat := 2
    let v : Word := W [(F.AX_CMPk_CTL_EN,1),(F.AX_CMPk_CTL_SRC_ID,4),(F.AX_CMPk_CTL_ACTION,2),(F.AX_CMPk_CTL_GPIO,7)]
    n < 256 ∧
    w < 3 ∧
    k < 64 ∧
    s.grants q .AX_CMPk_POS k = true ∧
    (let b := (s.setRg .AX_CMPk_POS k 0 v.toNat).advance 2
    let u := s.cmpUnit k
    let old := toSigned 32 (s.rg .AX_CMPk_POS k)
    let dir := s.fd F.AX_CMPk_CTL_DIR k
    s.flag F.AX_CMPk_STAT_ARMED k = true ∧
    b.cmpBehind k = false ∧
    u.due = none ∧
    (¬ (u.side < 0 ∧ old ≤ s.cmpPos k ∧ dir ≠ 1)) ∧
    (¬ (0 < u.side ∧ s.cmpPos k ≤ old ∧ dir ≠ 0)))),
    decide (let s : State := set (b0 1) [(F.AX_INn_DEBOUNCE,4,1)]
    s.inputSrc 4 0 < 0x20 ∧ 50000 * s.fd F.AX_INn_DEBOUNCE 4 ≤ 60000 ∧ s.axState 4 = 1 ∧ s.flag (axInFlag 0) 4 ≠ (true != s.inputInv 4 0)),
    decide (let s : State := up (b0 1)
    let c := s.axChan 4
    0x20 ≤ s.inputSrc 4 0 ∧ s.inputSrc 4 0 < 0x30 ∧ (c.ins.find? (fun e => e.input = 0)).any (fun e => decide (e.since + s.debounceCycles 4 ≤ (s.advance 3).time.bcn ∧ s.flag (axInFlag 0) 4 ≠ (e.level != s.inputInv 4 0))) = true ∧ s.axState 4 = 1)].all id = true := by decide +kernel
end InputsAndCompareUnits

namespace DriversAndEnables

def axb (fl node stp fb : Nat) (grp : Nat := 0xFF) : List Byte := bn [(2,4),(1,grp),(1,fl),(2,node),(1,0),(1,0),(4,2^32-1000000),(4,1000000),(4,70000000),(4,70000000),(4,2000000000),(4,1000000),(4,500000000),(1,fb),(1,stp),(2,0),(4,5)] ++ List.replicate 4 0
def b0 (st : Nat) (l : List (Machine.Field × Nat × Nat) := []) (fl : Nat := 1) (fb : Nat := 0xFF) (node : Nat := 0xFFFF) (stp : Nat := 1) : State :=
  let s := putS live (axisAt 4) (axb fl node stp fb)
  let s := setR s [(.AX_SSCALEn,4,65536000),(.AX_STj_POS,1,777)]
  set s ([(F.AX_STATn_STATE,4,st),(F.AX_DRVn_PG_GPIO,4,255),(F.AX_DRVn_MS_CYCLE,4,64)] ++ l)
def pg (n : Nat) (s : State) : State := { s with ax := { s.ax with gpioIn := n } }
/-- States and operands that meet the hypotheses of `Obligations.DriversAndEnables`, clause by clause. -/
theorem test_premises : [
    decide (let s : State := b0 1 [(F.AX_STj_CTL_EN,1,1),(F.AX_DRVn_PG_GPIO,4,7)]
    let n : Nat := 4
    let j : Nat := 1
    let g : Nat := 7
    n < 256 ∧
    j < 32 ∧
    g < 32 ∧
    bit s.ax.gpioIn g = false),
    decide (let s : State := pg 0x80 (b0 4 [(F.AX_DRVn_PG_GPIO,4,7)] 1 3)
    let n : Nat := 4
    let j : Nat := 4
    let g : Nat := 7
    n < 256 ∧
    j < 32 ∧
    g < 32 ∧
    (let r := s.axLive n
    let st := s.axState n
    bit s.ax.gpioIn g = true ∧
    s.pgChannels g = [n] ∧
    axStepped r = true ∧
    1 ≤ st ∧
    st ≠ 5 ∧
    st ≠ 6)),
    decide (let s : State := setR (b0 2 [(F.AX_STALLn_TIME,4,9)] 1 3) [(.AX_SWINn,4,7),(.FB_POSn,3,100)]
    let n : Nat := 4
    let j : Nat := 7
    let g : Nat := 7
    n < 256 ∧
    j < 32 ∧
    g < 32 ∧
    (let r := s.axLive n
    let st := s.axState n
    axStepped r = true ∧
    (axFb r).isSome = true ∧
    s.fd F.AX_STALLn_TIME n ≠ 0 ∧
    1 ≤ st ∧
    st ≠ 5 ∧
    st ≠ 6 ∧
    (let t0 : Nat := 0
    let u := (s.stepSync n).stallWatch n
    let y := (u.advanceToTick (((t0 + 499) / 500 + s.fd F.AX_STALLn_TIME n - 1) * 500)).stepSync n
    (u.axChan n).devAt = some t0 ∧
    (y.axChan n).devAt = some t0))),
    decide (let s : State := b0 0 [(F.AX_STj_CTL_EN,1,1)]
    let q : Requester := .host
    let n : Nat := 4
    let j : Nat := 3
    let g : Nat := 3
    let v : Word := W [(F.AX_CTLn_EN,1),(F.AX_CTLn_CREDIT,1)]
    n < 256 ∧
    j < 32 ∧
    g < 32 ∧
    (let r := s.axLive n
    let w := v.toNat
    s.grants q .AX_CTLn n = true ∧
    F.AX_CTLn_EN.of w = 1 ∧
    s.flag F.AX_CTLn_EN n = false ∧
    s.axEnableFail n w = none ∧
    axFb r = none)),
    decide (let s : State := b0 5 [(F.AX_CTLn_EN,4,1)]
    let q : Requester := .host
    let n : Nat := 7
    let j : Nat := 3
    let g : Nat := 1
    let v : Word := W [(F.AX_STj_CTL_EN,1),(F.AX_STj_CTL_DIR_INV,1)]
    n < 256 ∧
    j < 32 ∧
    g < 32 ∧
    (let w := v.toNat
    s.grants q .AX_CTLn n = true ∧
    F.AX_CTLn_EN.of w = 1 ∧
    s.flag F.AX_CTLn_EN n = false ∧
    (s.axEnableFail n w).isSome = true)),
    decide (let s : State := b0 1 [(F.AX_CTLn_EN,4,1),(F.AX_STj_CTL_EN,1,1)]
    let q : Requester := .host
    let n : Nat := 4
    let j : Nat := 7
    let g : Nat := 1
    let v : Word := 0
    n < 256 ∧
    j < 32 ∧
    g < 32 ∧
    (let st := s.axState n
    let w := v.toNat
    s.grants q .AX_CTLn n = true ∧
    F.AX_CTLn_EN.of w = 0 ∧
    s.flag F.AX_CTLn_EN n = true ∧
    st ≠ 2 ∧
    st ≠ 3 ∧
    st ≠ 4)),
    decide (let s : State := b0 2 [(F.AX_CTLn_EN,4,1)]
    let q : Requester := .host
    let n : Nat := 4
    let j : Nat := 7
    let g : Nat := live.time.ticks
    let v : Word := 0
    n < 256 ∧
    j < 32 ∧
    g < 32 ∧
    (let st := s.axState n
    let w := v.toNat
    s.grants q .AX_CTLn n = true ∧
    F.AX_CTLn_EN.of w = 0 ∧
    s.flag F.AX_CTLn_EN n = true ∧
    (st = 2 ∨ st = 3 ∨ st = 4))),
    decide (let s : State := b0 5 [(F.AX_CTLn_EN,4,1)]
    let q : Requester := .host
    let n : Nat := 4
    let j : Nat := 7
    let g : Nat := 4
    let v : Word := W [(F.AX_STj_CTL_EN,1),(F.AX_STj_CTL_DIR_INV,1)]
    n < 256 ∧
    j < 32 ∧
    g < 32 ∧
    (let w := v.toNat
    s.grants q .AX_STj_CTL j = true ∧
    F.AX_STj_CTL_EN.of w = 1 ∧
    s.flag F.AX_STj_CTL_EN j = false ∧
    (let good := 25 ≤ s.fd F.AX_STj_TIM_STEP_W j ∧ 50 ≤ s.fd F.AX_STj_TIM_DIR_SETUP j ∧ 25 ≤ s.fd F.AX_STj_TIM_DIR_HOLD j
    good))),
    decide (let s : State := b0 0 [(F.AX_STj_TIM_STEP_W,1,24),(F.AX_STj_TIM_DIR_SETUP,1,50),(F.AX_STj_TIM_DIR_HOLD,1,25)]
    let q : Requester := .host
    let n : Nat := 1
    let j : Nat := 1
    let g : Nat := live.time.ticks
    let v : Word := W [(F.AX_CTLn_EN,1),(F.AX_CTLn_CREDIT,3),(F.AX_CTLn_PROFILE,1)]
    n < 256 ∧
    j < 32 ∧
    g < 32 ∧
    (let w := v.toNat
    s.grants q .AX_STj_CTL j = true ∧
    F.AX_STj_CTL_EN.of w = 1 ∧
    s.flag F.AX_STj_CTL_EN j = false ∧
    (let good := 25 ≤ s.fd F.AX_STj_TIM_STEP_W j ∧ 50 ≤ s.fd F.AX_STj_TIM_DIR_SETUP j ∧ 25 ≤ s.fd F.AX_STj_TIM_DIR_HOLD j
    (¬ good)))),
    decide (let s : State := b0 0 [(F.AX_STj_CTL_EN,1,1)]
    let q : Requester := .host
    let n : Nat := 4
    let j : Nat := 1
    let g : Nat := 1
    let v : Word := 0
    n < 256 ∧
    j < 32 ∧
    g < 32 ∧
    (let w := v.toNat
    s.grants q .AX_STj_CTL j = true ∧
    F.AX_STj_CTL_EN.of w = 0 ∧
    s.flag F.AX_STj_CTL_EN j = true ∧
    s.stepUsed j 256 = false)),
    decide (let s : State := b0 1 [(F.AX_CTLn_EN,4,1),(F.AX_STj_CTL_EN,1,1)]
    let q : Requester := .host
    let n : Nat := 7
    let j : Nat := 1
    let g : Nat := 3
    let v : Word := 0
    n < 256 ∧
    j < 32 ∧
    g < 32 ∧
    (let w := v.toNat
    s.grants q .AX_STj_CTL j = true ∧
    F.AX_STj_CTL_EN.of w = 0 ∧
    s.flag F.AX_STj_CTL_EN j = true ∧
    s.stepUsed j 256 = true))].all id = true := by decide +kernel
end DriversAndEnables

namespace FeedbackChannels

def b0 (l : List (Machine.Field × Nat × Nat) := []) (f : FbChan → FbChan := id) : State :=
  let s := setR live [(.FB_SCALEn,3,70000),(.FB_OFSn,3,40),(.FB_CNTn,3,100),(.FB_LOADn,3,5000),(.FB_SSIJn,3,50)]
  let s := set { s with time := { s.time with bcn := 13, ticks := 90000000, bcStart := 13 * 62500, ct := (13 * 62500 + 400) * 2^32, noBase := false } } ([(F.FB_STATn_STATE,3,1),(F.FB_STATn_VALID,3,1),(F.FB_CFGn_EN,3,1),(F.FB_FILTn_WIRE_T,3,9),(F.FB_FILTn_WIRE_LIM,3,9),(F.FB_SSIn_BITS,3,12),(F.FB_SSIn_DIV,3,12),(F.FB_SSITn_OFS,3,4),(F.FB_SSITn_TM,3,20)] ++ l)
  s.setFbChan 3 (f (s.fbChan 3))
def ok : List (Machine.Field × Nat × Nat) := [(F.FB_CFGn_EN,3,0),(F.FB_STATn_STATE,3,0),(F.FB_FILTn_MIN_EDGE,3,3),(F.FB_THRn_THR,3,9),(F.FB_THRn_THR_MIN,3,3),(F.FB_THRn_THR_MAX,3,20),(F.FB_SPDCn_SW_EDGES,3,9),(F.FB_SPDCn_STILL_TO,3,9),(F.FB_REPn_REP_EDGE,3,9)]
def sp : State := b0 [(F.FB_CFGn_MODE,3,1)] (fun c => { c with ssiNow := some 812700, ssiPrev := some 70 })
/-- States and operands that meet the hypotheses of `Obligations.FeedbackChannels`, clause by clause. -/
theorem test_premises : [
    decide (let s : State := b0 [(F.FB_THRn_ADAPT,3,1),(F.FB_THRn_THR,3,50),(F.FB_THRn_THR_MIN,3,2),(F.FB_THRn_THR_MAX,3,9),(F.FB_THRn_AMP_MIN,3,60)] (fun c => { c with low := [0] })
    let n : Nat := 3
    let hold : Nat := 300
    n < 32 ∧
    (let c := s.fbChan n
    let mode := s.fd F.FB_CFGn_MODE n
    let old := c.lines.filt
    let held := c.lines.raw = old ∧ c.lines.wait = [] ∧ old < 8 ∧ s.fd F.FB_FILTn_MIN_EDGE n ≤ hold
    s.fd F.FB_STATn_STATE n = 1 ∧
    (let lines : Nat := 1
    (mode = 0 ∨ mode = 2) ∧
    held ∧
    (let raw := if mode = 2 then lines % 8 else 2 * (lines % 4) + old % 2
    let step := if mode = 0 then quadStep (old / 2) (raw / 2) else hallStep old raw
    (step).any (fun d => decide (d ≠ 0)) = true)))),
    decide (let s : State := b0 [(F.FB_CFGn_INDEX,3,1)] (fun c => { c with wires := [(1, 89999000, true)] })
    let n : Nat := 3
    let hold : Nat := 12
    n < 32 ∧
    (let c := s.fbChan n
    let mode := s.fd F.FB_CFGn_MODE n
    let inWindow := c.winNo = s.time.bcn / 1024
    let old := c.lines.filt
    let held := c.lines.raw = old ∧ c.lines.wait = [] ∧ old < 8 ∧ s.fd F.FB_FILTn_MIN_EDGE n ≤ hold
    s.fd F.FB_STATn_STATE n = 1 ∧
    (let lines : Nat := 3
    (mode = 0 ∨ mode = 2) ∧
    held ∧
    (let raw := if mode = 2 then lines % 8 else 2 * (lines % 4) + old % 2
    let step := if mode = 0 then quadStep (old / 2) (raw / 2) else hallStep old raw
    step = none ∧
    raw ≠ old ∧
    inWindow)))),
    decide (let s : State := b0 [(F.FB_CFGn_MODE,3,1)] (fun c => { c with ssiNow := some 812700 })
    let n : Nat := 3
    n < 32 ∧
    (let c := s.fbChan n
    let inWindow := c.winNo = s.time.bcn / 1024
    s.fd F.FB_STATn_STATE n = 1 ∧
    inWindow)),
    decide (let s : State := b0 [(F.FB_CFGn_INDEX,3,1)] (fun c => { c with wires := [(1, 89999000, true)] })
    let n : Nat := 3
    let hold : Nat := 12
    let dt : Nat := 70
    n < 32 ∧
    (let a := s.advance dt
    let c := s.fbChan n
    let mode := s.fd F.FB_CFGn_MODE n
    let old := c.lines.filt
    let held := c.lines.raw = old ∧ c.lines.wait = [] ∧ old < 8 ∧ s.fd F.FB_FILTn_MIN_EDGE n ≤ hold
    s.fd F.FB_STATn_STATE n = 1 ∧
    (let level : Nat := 3
    let idx := s.fd F.FB_CFGn_INDEX n
    let w := a.advanceToTick (2 * (a.peri + s.fd F.FB_FILTn_MIN_EDGE n))
    mode = 0 ∧
    idx ≠ 0 ∧
    held ∧
    old % 2 ≠ b2n level ∧
    (level != s.flag F.FB_CFGn_ZINV n) = true ∧
    (∀ e, c.loaded = some e → e.1 ≠ w.peri) ∧
    (s.flag F.FB_CFGn_GATE n = false ∨ old / 2 = 3)))),
    decide (let s : State := b0 [(F.FB_CFGn_MODE,3,1),(F.FB_SSIn_GRAY,3,1)] (fun c => { c with ssiNow := some 812700, ssiPrev := some 4090 })
    let n : Nat := 3
    n < 32 ∧
    (let mode := s.fd F.FB_CFGn_MODE n
    s.fd F.FB_STATn_STATE n = 1 ∧
    mode = 1 ∧
    s.time.noBase = false ∧
    (s.ssiNext n).isSome = true)),
    decide (let s : State := b0 [(F.FB_CFGn_MODE,3,1)] (fun c => { c with ssiNow := some 812700 })
    let n : Nat := 3
    n < 32 ∧
    (let c := s.fbChan n
    s.fd F.FB_STATn_STATE n = 1 ∧
    (let low : Bool := false
    let errs : Nat := 3
    let trail : Bool := false
    (c.ssiNow).isSome = true ∧
    (¬ (low = true ∨ trail = true ∨ ∃ i, i < s.fd F.FB_SSIn_ERR_BITS n ∧ bit errs i = s.flag F.FB_SSIn_ERR_POL n) ∧
    c.ssiPrev = none)))),
    decide (let s : State := sp
    let n : Nat := 3
    n < 32 ∧
    (let c := s.fbChan n
    s.fd F.FB_STATn_STATE n = 1 ∧
    (let low : Bool := false
    let field : Nat := 72
    let errs : Nat := 70
    let trail : Bool := false
    (c.ssiNow).isSome = true ∧
    (let bs := s.fd F.FB_SSIn_BITS n
    let v := if s.flag F.FB_SSIn_GRAY n then fromGray bs (field % 2 ^ bs) else field % 2 ^ bs
    ¬ (low = true ∨ trail = true ∨ ∃ i, i < s.fd F.FB_SSIn_ERR_BITS n ∧ bit errs i = s.flag F.FB_SSIn_ERR_POL n) ∧
    (c.ssiPrev).any (fun u => decide ((s.rg .FB_SSIJn n = 0 ∨ |(toSigned bs (ofSigned bs ((v : Int) - u)))| ≤ s.rg .FB_SSIJn n))) = true)))),
    decide (let s : State := b0 [(F.FB_CFGn_MODE,3,1)] (fun c => { c with ssiNow := some 812700 })
    let n : Nat := 3
    n < 32 ∧
    (let c := s.fbChan n
    let inWindow := c.winNo = s.time.bcn / 1024
    s.fd F.FB_STATn_STATE n = 1 ∧
    (let low : Nat := 3
    let errs : Nat := 4085
    let trail : Nat := 3
    (c.ssiNow).isSome = true ∧
    (let bad := low = true ∨ trail = true ∨ ∃ i, i < s.fd F.FB_SSIn_ERR_BITS n ∧ bit errs i = s.flag F.FB_SSIn_ERR_POL n
    bad ∧
    inWindow)))),
    decide (let s : State := b0 [(F.FB_SPDCn_STILL_TO,3,9)] (fun c => { c with edges := [(18000000, 1), (17999990, 1)], total := 2 })
    let n : Nat := 3
    n < 32 ∧
    (let mode := s.fd F.FB_CFGn_MODE n
    s.fd F.FB_STATn_STATE n = 1 ∧
    mode ≠ 1)),
    decide (let s : State := b0 [(F.FB_CFGn_INDEX,3,1)]
    s.fd F.FB_STATn_STATE 3 = 1 ∧
    s.lineChecked 3 1 = true ∧
    (∀ e ∈ (s.fbChan 3).wires, e.1 ≠ 1)),
    decide (let s : State := b0 [(F.FB_CFGn_INDEX,3,1)] (fun c => { c with wires := [(1, 89999000, true)] })
    let n : Nat := 3
    n < 32 ∧
    s.fd F.FB_STATn_STATE n = 1 ∧
    (let l : Nat := 1
    s.lineChecked n l = true ∧
    l < 3)),
    decide (let s : State := b0 [(F.FB_CFGn_MODE,3,1)] (fun c => { c with ssiNow := some 812700 })
    let n : Nat := 3
    n < 32 ∧
    s.fd F.FB_STATn_STATE n = 1),
    decide (let s : State := b0 [(F.FB_CFGn_INDEX,3,2)] (fun c => { c with armed := true, lines := ⟨6,6,[]⟩ })
    let q : Requester := .host
    let n : Nat := 3
    n < 32 ∧
    s.grants q .FB_CMDn n = true ∧
    s.fd F.FB_CFGn_INDEX n = 2),
    decide (let s : State := b0 (ok ++ [(F.FB_CFGn_THAL,3,1),(F.TH_MB_STAT_STATE,0,0)])
    let q : Requester := .host
    let n : Nat := 3
    n < 32 ∧
    s.grants q .FB_CMDn n = true ∧
    s.fd F.FB_CFGn_INDEX n ≠ 2),
    decide (let s : State := b0 [(F.FB_STATn_STATE,3,2)] (fun c => { c with winQ := 3 })
    let q : Requester := .host
    let n : Nat := 3
    n < 32 ∧
    (let c := s.fbChan n
    s.grants q .FB_CMDn n = true ∧
    s.fd F.FB_STATn_STATE n = 2 ∧
    c.wires = [])),
    decide (let s : State := b0 (ok ++ [(F.FB_CFGn_THAL,3,1),(F.TH_MB_STAT_STATE,0,0)])
    let q : Requester := .host
    let n : Nat := 3
    n < 32 ∧
    (let c := s.fbChan n
    s.grants q .FB_CMDn n = true ∧
    (s.fd F.FB_STATn_STATE n ≠ 2 ∨ c.wires ≠ []))),
    decide (let s : State := b0 ok
    let q : Requester := .host
    let n : Nat := 0
    n < 32 ∧
    (let v : Word := W [(F.FB_CFGn_EN,1),(F.FB_CFGn_INDEX,1)]
    s.grants q .FB_CFGn n = true ∧
    (s.flag F.FB_CFGn_THAL n = false ∨ s.fd F.TH_MB_STAT_STATE ≠ 0) ∧
    (let w := v.toNat
    let b := s.setRg .FB_CFGn n 0 ((s.rg .FB_CFGn n &&& 0xFF010000) ||| (w &&& 0x33F6))
    F.FB_CFGn_EN.of w = 1 ∧
    s.flag F.FB_CFGn_EN n = false ∧
    b.fbEnableFail n = none))),
    decide (let s : State := b0 [(F.FB_SPDCn_STILL_TO,3,9)] (fun c => { c with edges := [(18000000, 1), (17999990, 1)], total := 2 })
    let q : Requester := .host
    let n : Nat := 3
    n < 32 ∧
    (let v : Word := BitVec.ofNat 32 ((b0 []).rg .FB_CFGn 3 - 1)
    s.grants q .FB_CFGn n = true ∧
    (s.flag F.FB_CFGn_THAL n = false ∨ s.fd F.TH_MB_STAT_STATE ≠ 0) ∧
    (let w := v.toNat
    w = s.rg .FB_CFGn n - 1 ∧
    s.flag F.FB_CFGn_EN n = true))),
    decide (let s : State := b0 [] (fun c => { c with wires := [(1, 89999000, true)] })
    let c := s.fbChan 3
    s.fd F.FB_STATn_STATE 3 = 1 ∧ s.lineChecked 3 1 = true ∧ c.wires.find? (fun e => e.1 = 1) = some (1, 89999000, true)),
    decide (let s : State := b0
    let v : Word := BitVec.ofNat 32 (s.rg .FB_CFGn 3 - 1)
    s.grants .host .FB_CFGn 3 = true ∧ s.flag F.FB_CFGn_THAL 3 = false ∧ v.toNat = s.rg .FB_CFGn 3 - 1 ∧ s.flag F.FB_CFGn_EN 3 = true)].all id = true := by decide +kernel
end FeedbackChannels

namespace CapturesRun

def b0 (st : Nat) (l : List (Machine.Field × Nat × Nat) := []) (f : SoCap → SoCap := id) : State :=
  let s := setR live [(.SO_Cc_BASE,2,0xC0001000),(.SO_Cc_SIZE,2,8192),(.SO_Cc_WRITTEN,2,4)]
  let s := set { s with time := { s.time with bcn := 13, ticks := 90000000, bcStart := 13 * 62500, ct := (13 * 62500 + 400) * 2^32, noBase := false } } ([(F.PW_DOMd_STAT_STATE,22,0),(F.SO_CHk_EN,5,1),(F.SO_CHk_CAPTURE,5,2),(F.SO_CHk_PROBE,5,0x41),(F.SO_CHk_EN,9,1),(F.SO_CHk_CAPTURE,9,2),(F.SO_CHk_PROBE,9,0x1001),(F.SO_Cc_STAT_STATE,2,st),(F.SO_Cc_CTL_EN,2,1),(F.SO_Cc_PRE_VALUE,2,3),(F.SO_Cc_POST_VALUE,2,4),(F.SO_Cc_TIME_AUTO_TO,2,4),(F.SO_Cc_TIME_HOLDOFF,2,2)] ++ l)
  s.setSoCap 2 (f { s.soCap 2 with nch := 2, recSize := 32, capacity := 10, pre := 3, post := 4, lastCt := 13*62500+300, armAt := 13*62500+300, waitAt := 90000000-7 })
def badmask (s : State) : State := s.setFd F.SO_Cc_CTL_MASK_EN 2 0 1
/-- States and operands that meet the hypotheses of `Obligations.CapturesRun`, clause by clause. -/
theorem test_premises : [
    decide (let s : State := b0 6 [(F.SO_Cc_PRE_VALUE,2,0)]
    let q : Requester := .host
    let c : Nat := 2
    c < 8 ∧
    (let x := s.soCap c
    let st := s.soState c
    let nch := (s.soProbes c).length
    let idle := st = 0 ∨ st = 4 ∨ st = 6
    s.grants q .SO_Cc_CMD c = true ∧
    s.flag F.SO_Cc_CTL_EN c = true ∧
    idle ∧
    x.ending = none ∧
    (s.soMask c nch).isSome = true)),
    decide (let s : State := badmask (b0 0)
    let q : Requester := .host
    let c : Nat := 2
    c < 8 ∧
    (let x := s.soCap c
    let st := s.soState c
    let nch := (s.soProbes c).length
    let idle := st = 0 ∨ st = 4 ∨ st = 6
    s.grants q .SO_Cc_CMD c = true ∧
    s.flag F.SO_Cc_CTL_EN c = true ∧
    idle ∧
    x.ending = none ∧
    s.soMask c nch = none)),
    decide (let s : State := b0 1
    let q : Requester := .host
    let c : Nat := 2
    c < 8 ∧
    (let x := s.soCap c
    let st := s.soState c
    let idle := st = 0 ∨ st = 4 ∨ st = 6
    s.grants q .SO_Cc_CMD c = true ∧
    (s.flag F.SO_Cc_CTL_EN c = false ∨ ¬ idle ∨ x.ending ≠ none))),
    decide (let s : State := b0 1
    let q : Requester := .host
    let c : Nat := 2
    c < 8 ∧
    (let x := s.soCap c
    let st := s.soState c
    let now := x.trigTick = some s.time.ticks
    s.grants q .SO_Cc_CMD c = true ∧
    (st = 1 ∨ st = 2 ∨ st = 3 ∨ st = 5) ∧
    x.ending = none ∧
    (x.trig = none ∨ ¬ now))),
    decide (let s : State := b0 3 [] (fun x => { x with trig := some (0,7), ending := some 0, trigTick := some 90000000 })
    let q : Requester := .host
    let c : Nat := 2
    c < 8 ∧
    (let x := s.soCap c
    let st := s.soState c
    let now := x.trigTick = some s.time.ticks
    s.grants q .SO_Cc_CMD c = true ∧
    st = 3 ∧
    x.trig.isSome = true ∧
    now)),
    decide (let s : State := badmask (b0 5 [] (fun x => { x with doneBcn := 11 }))
    let q : Requester := .host
    let c : Nat := 0
    c < 8 ∧
    (let x := s.soCap c
    let st := s.soState c
    let now := x.trigTick = some s.time.ticks
    let idle := st = 0 ∨ st = 4 ∨ st = 6
    s.grants q .SO_Cc_CMD c = true ∧
    (idle ∨ x.ending ≠ none ∧ ¬ (st = 3 ∧ now)))),
    decide (let s : State := b0 2 [(F.SO_Cc_TRG0_KIND,2,2),(F.SO_GLOBAL_EXT_EDGE,0,2)]
    let q : Requester := .host
    let c : Nat := 2
    c < 8 ∧
    (let x := s.soCap c
    let st := s.soState c
    s.grants q .SO_Cc_CMD c = true ∧
    st = 2 ∧
    x.ending = none)),
    decide (let s : State := b0 1
    let q : Requester := .host
    let c : Nat := 2
    c < 8 ∧
    (let st := s.soState c
    s.grants q .SO_Cc_CMD c = true ∧
    (st = 1 ∨ st = 5))),
    decide (let s : State := b0 1
    let c : Nat := 2
    let level : Nat := 2
    c < 8 ∧
    (let x := s.soCap c
    let st := s.soState c
    s.domOn 22 = true ∧
    1 ≤ st ∧
    st ≤ 3 ∧
    x.ending = none ∧
    level + x.recSize ≤ 32768 ∧
    (s.flag F.SO_Cc_CTL_RATE_AUTO c = false ∨ level < 24576))),
    decide (let s : State := b0 2 [(F.SO_Cc_TRG0_KIND,2,3),(F.SO_Cc_TRG1_KIND,2,4),(F.SO_Cc_TRG1_GROUPS,2,3),(F.SO_Cc_CTL_COMB,2,1)] (fun x => { x with ev0 := some 812800 })
    let c : Nat := 2
    let level : Nat := 32760
    c < 8 ∧
    (let x := s.soCap c
    let st := s.soState c
    s.domOn 22 = true ∧
    1 ≤ st ∧
    st ≤ 3 ∧
    x.ending = none ∧
    32768 < level + x.recSize ∧
    s.flag F.SO_Cc_CTL_RATE_AUTO c = false)),
    decide (let s : State := b0 2 [(F.SO_Cc_CTL_RATE_AUTO,2,1),(F.SO_Cc_STAT_RATE_LOG2,2,2)] (fun x => { x with sinceRed := 64 })
    let c : Nat := 2
    let level : Nat := 32760
    c < 8 ∧
    (let x := s.soCap c
    let st := s.soState c
    s.domOn 22 = true ∧
    1 ≤ st ∧
    st ≤ 3 ∧
    x.ending = none ∧
    (let l := s.fd F.SO_Cc_STAT_RATE_LOG2 c
    s.flag F.SO_Cc_CTL_RATE_AUTO c = true ∧
    24576 ≤ level ∧
    l < 8 ∧
    64 ≤ x.sinceRed))),
    decide (let s : State := b0 1 [(F.SO_Cc_TRG0_KIND,2,3)]
    let c : Nat := 2
    c < 8 ∧
    (let kind : Nat := 3
    s.domOn 22 = true ∧
    (kind = 3 ∨ kind = 4 ∨ kind = 2 ∧ s.fd F.SO_GLOBAL_EXT_EDGE = 2))),
    decide (let s : State := b0 3 [] (fun x => { x with trig := some (0,7), ending := some 0, trigTick := some 90000000 })
    let c : Nat := 2
    c < 8 ∧
    (let x := s.soCap c
    s.domOn 22 = true ∧
    (x.ending).isSome = true)),
    decide (let s : State := b0 2 [(F.SO_Cc_CTL_MODE,2,2)]
    let c : Nat := 2
    c < 8 ∧
    (let x := s.soCap c
    let st := s.soState c
    s.domOn 22 = true ∧
    st = 2 ∧
    s.fd F.SO_Cc_CTL_MODE c = 2 ∧
    x.ending = none)),
    decide (let s : State := b0 5 [] (fun x => { x with doneBcn := 11 })
    let c : Nat := 2
    c < 8 ∧
    (let x := s.soCap c
    let st := s.soState c
    let nch := (s.soProbes c).length
    s.domOn 22 = true ∧
    st = 5 ∧
    x.ending = none ∧
    x.doneBcn + s.fd F.SO_Cc_TIME_HOLDOFF c ≤ s.time.bcn ∧
    (s.soMask c nch).isSome = true)),
    decide (let s : State := badmask (b0 5 [] (fun x => { x with doneBcn := 11 }))
    let c : Nat := 2
    c < 8 ∧
    (let x := s.soCap c
    let st := s.soState c
    let nch := (s.soProbes c).length
    s.domOn 22 = true ∧
    st = 5 ∧
    x.ending = none ∧
    x.doneBcn + s.fd F.SO_Cc_TIME_HOLDOFF c ≤ s.time.bcn ∧
    s.soMask c nch = none)),
    decide (let s : State := b0 0 [(F.SO_Cc_CTL_EN,2,0),(F.SO_Cc_TRG0_KIND,2,3)]
    let q : Requester := .host
    let c : Nat := 2
    c < 8 ∧
    (let v : Word := 1
    s.grants q .SO_Cc_CTL c = true ∧
    (let w := v.toNat
    let b := s.soStoreCtl c w
    F.SO_Cc_CTL_EN.of w = 1 ∧
    s.flag F.SO_Cc_CTL_EN c = false ∧
    b.soEnableFail c w = none))),
    decide (let s : State := b0 2 [(F.SO_Cc_TRG0_KIND,2,3),(F.SO_Cc_TRG1_KIND,2,4),(F.SO_Cc_TRG1_GROUPS,2,3),(F.SO_Cc_CTL_COMB,2,1)] (fun x => { x with ev0 := some 812800 })
    let q : Requester := .host
    let c : Nat := 4
    c < 8 ∧
    (let v : Word := W [(F.SO_Cc_CTL_EN,1),(F.SO_Cc_CTL_MODE,3)]
    s.grants q .SO_Cc_CTL c = true ∧
    (let w := v.toNat
    let b := s.soStoreCtl c w
    F.SO_Cc_CTL_EN.of w = 1 ∧
    s.flag F.SO_Cc_CTL_EN c = false ∧
    (b.soEnableFail c w).isSome = true))),
    decide (let s : State := b0 6 [(F.SO_Cc_PRE_VALUE,2,0)]
    let q : Requester := .host
    let c : Nat := 2
    c < 8 ∧
    (let x := s.soCap c
    let st := s.soState c
    let idle := st = 0 ∨ st = 4 ∨ st = 6
    let v : Word := 0
    s.grants q .SO_Cc_CTL c = true ∧
    (let w := v.toNat
    F.SO_Cc_CTL_EN.of w = 0 ∧
    s.flag F.SO_Cc_CTL_EN c = true ∧
    idle ∧
    x.ending = none))),
    decide (let s : State := b0 5 [] (fun x => { x with ending := some 1, doneBcn := 11 })
    let q : Requester := .host
    let c : Nat := 2
    c < 8 ∧
    (let x := s.soCap c
    let st := s.soState c
    let idle := st = 0 ∨ st = 4 ∨ st = 6
    let v : Word := 0
    s.grants q .SO_Cc_CTL c = true ∧
    (let w := v.toNat
    F.SO_Cc_CTL_EN.of w = 0 ∧
    s.flag F.SO_Cc_CTL_EN c = true ∧
    (¬ idle ∨ x.ending ≠ none))))].all id = true := by decide +kernel
end CapturesRun

namespace SafetySetIsCommissioned

def s0 (st : Nat) (img0 : Option (List (Nat × Byte)) := none) (img1 : List (Nat × Byte) := imgBase 39112) (l : List (Machine.Field × Nat × Nat) := []) (si : Nat := 1) : State :=
  let s := set live ([(F.TH_MB_STAT_STATE,0,st),(F.FB_CFGn_EN,3,1),(F.FB_CFGn_MODE,3,1),(F.FB_SSIn_BITS,3,12)] ++ l)
  let s := setR s [(.TH_SI,0,si)]
  let s : State := { s with mem := { s.mem with safety := (match img0 with | some m => bank m 0 | none => []) ++ bank img1 1 }, th := { s.th with active := 0, noSet := img0.isNone, mbAt := 100 } }
  s
def badHdr := wr (imgBase 39112) 64 [(1,0x77)]
/-- States and operands that meet the hypotheses of `Obligations.SafetySetIsCommissioned`, clause by clause. -/
theorem test_premises : [
    decide (let s : State := s0 0
    let q : Requester := .host
    let st := s.mbState
    s.grants q .TH_MB_CMD = true ∧
    st = 0 ∧
    s.keyOn = true),
    decide (let s : State := s0 0 none (imgBase 39112) [] 0
    let q : Requester := .host
    let st := s.mbState
    s.grants q .TH_MB_CMD = true ∧
    st = 0 ∧
    s.keyOn = false),
    decide (let s : State := setR (s0 3) [(.TH_MB_CONFIRM,0,8)]
    let q : Requester := .host
    let st := s.mbState
    s.grants q .TH_MB_CMD = true ∧
    st ≠ 0),
    decide (let s : State := s0 1 (some (imgBase 39112))
    let q : Requester := .host
    let st := s.mbState
    s.grants q .TH_MB_CMD = true ∧
    st = 1),
    decide (let s : State := set (s0 3) [(F.TH_MB_ADDR_ADDR,0,0xFFFFC)]
    let q : Requester := .host
    let st := s.mbState
    s.grants q .TH_MB_CMD = true ∧
    st = 3 ∧
    s.rg .TH_MB_CONFIRM = s.rg .TH_MB_CRC),
    decide (let s : State := setR (s0 3) [(.TH_MB_CONFIRM,0,8)]
    let q : Requester := .host
    let st := s.mbState
    s.grants q .TH_MB_CMD = true ∧
    st = 3 ∧
    s.rg .TH_MB_CONFIRM ≠ s.rg .TH_MB_CRC),
    decide (let s : State := s0 0
    let q : Requester := .host
    let st := s.mbState
    s.grants q .TH_MB_CMD = true ∧
    st ≠ 3),
    decide (let s : State := setR (s0 3) [(.TH_MB_CONFIRM,0,8)]
    let q : Requester := .host
    let st := s.mbState
    s.grants q .TH_MB_CMD = true ∧
    (st = 1 ∨ st = 3)),
    decide (let s : State := s0 0
    let q : Requester := .host
    let st := s.mbState
    s.grants q .TH_MB_CMD = true ∧
    st ≠ 1 ∧
    st ≠ 3),
    decide (let s : State := setR (s0 3) [(.TH_MB_CONFIRM,0,8)]
    let q : Requester := .host
    let st := s.mbState
    s.grants q .TH_MB_DATA = true ∧
    (st = 1 ∨ st = 3)),
    decide (let s : State := s0 0
    let q : Requester := .host
    let st := s.mbState
    s.grants q .TH_MB_DATA = true ∧
    st = 0),
    decide (let s : State := s0 4
    let q : Requester := .host
    let st := s.mbState
    s.grants q .TH_MB_DATA = true ∧
    (st = 2 ∨ st = 4)),
    decide (let s : State := s0 2
    let st := s.mbState
    let m := s.bankImg s.staging
    st = 2 ∧
    checkHeader m = none ∧
    s.keyOn = true),
    decide (let s : State := s0 2 none []
    let st := s.mbState
    let m := s.bankImg s.staging
    st = 2 ∧
    (checkHeader m).isSome = true ∧
    s.keyOn = true),
    decide (let s : State := s0 2 none badHdr [] 0
    let st := s.mbState
    st = 2 ∧
    s.keyOn = false),
    decide (let s : State := s0 4 none []
    let st := s.mbState
    let m := s.bankImg s.staging
    st = 4 ∧
    (s.setFail m).isSome = true ∧
    s.keyOn = true),
    decide (let s : State := setR (s0 3) [(.TH_MB_CONFIRM,0,8)]
    let st := s.mbState
    (st = 1 ∨ st = 3))].all id = true := by decide +kernel
end SafetySetIsCommissioned

namespace SafetyCyclesRun

def bc0 (s : State) (bcn : Nat) : State := { s with time := { s.time with bcn := bcn, ticks := 90000000, bcStart := bcn * 62500, ct := (bcn * 62500 + 400) * 2^32, noBase := false } }
def s0 (img : Option (List (Nat × Byte)) := some imgFull) (l : List (Machine.Field × Nat × Nat) := []) (f : ThState → ThState := id) (bcn : Nat := 16) : State :=
  let s := set live ([(F.TH_STAT_STATE,0,1),(F.FB_CFGn_EN,3,1),(F.FB_CFGn_MODE,3,1),(F.FB_SSIn_BITS,3,12),(F.KL_PORTn_CTL_EN,0,1)] ++ l)
  let s := setR s [(.TH_SI,0,1)]
  let s : State := { s with mem := { s.mem with safety := (match img with | some m => bank m 0 | none => []) }, th := f { s.th with active := 0, noSet := img.isNone, mbAt := 100, crcAt := 89000000, work := img.getD [], decs := (List.range 13).map (fun k => (k, { thDecReset with frames := [⟨bcn * 62500, false, 12, 2800⟩, ⟨(bcn-1) * 62500, false, 12, 2790⟩] })) } }
  bc0 s bcn
def rep (p : Nat) (first : Nat) : List Byte := let b := bn [(1,2),(1,1),(2,5),(1,0),(1,1),(1,first),(1,p),(4,0)] ++ (List.range p).flatMap (fun k => bn [(1,first + k)] ++ (List.range 159).map (fun i => BitVec.ofNat 8 (i % 7))); b ++ leBytes 4 (crc32c (leBytes 4 9 ++ b))
def eth : List Byte := (List.range 12).map (fun i => BitVec.ofNat 8 i) ++ [BitVec.ofNat 8 (live.fd F.KL_GLOBAL_ETYPE / 256), BitVec.ofNat 8 (live.fd F.KL_GLOBAL_ETYPE)]
def fr (typ node bcn : Nat) (pl : List Byte) : List Byte := eth ++ [BitVec.ofNat 8 (0x10 + typ), 0] ++ leBytes 2 node ++ leBytes 4 bcn ++ leBytes 2 0 ++ leBytes 2 pl.length ++ pl
def stp : Nat := eventStart live.time.base + 10100
def gr (s : State) : State := { s with kl := { s.kl with grants := [⟨0, 6, 40, 60⟩, ⟨0, 9, 40, 60⟩] } }
def lt (s : State) : State := { s with time := { s.time with ticks := 900000000 } }
/-- States and operands that meet the hypotheses of `Obligations.SafetyCyclesRun`, clause by clause. -/
theorem test_premises : [
    decide (let s : State := s0 none
    let k := s.time.bcn / 4
    s.time.noBase = false ∧
    s.time.bcn % 4 = 0 ∧
    s.thMode ≠ 3 ∧
    s.th.frozenK ≠ some k ∧
    s.th.eval = none ∧
    s.setImg = none),
    decide (let im : List (Nat × Byte) := wr [] 0 [(2,1),(2,0),(4,100)]
    let s : State := lt (s0 (some im))
    let k := s.time.bcn / 4
    let t0 := s.time.bcStart
    let a := s.advanceTo (t0 + guardStart s.time.base)
    s.time.noBase = false ∧
    s.time.bcn % 4 = 0 ∧
    s.thMode ≠ 3 ∧
    s.th.frozenK ≠ some k ∧
    s.th.eval = none ∧
    (s.setImg).any (fun m => decide ((({ a with th := { a.th with frozenK := some k } } : State).takeSet m).crcDue = true ∧
    setCheck m ≠ s.rg .TH_SET_CRC)) = true),
    decide (let im : List (Nat × Byte) := wr [] 0 [(2,1),(2,0),(4,100)]
    let s : State := setR (lt (s0 (some im))) [(.TH_SET_CRC,0,setCheck im)]
    let k := s.time.bcn / 4
    let t0 := s.time.bcStart
    let a := s.advanceTo (t0 + guardStart s.time.base)
    s.time.noBase = false ∧
    s.time.bcn % 4 = 0 ∧
    s.thMode ≠ 3 ∧
    s.th.frozenK ≠ some k ∧
    s.th.eval = none ∧
    (s.setImg).any (fun m => decide (((({ a with th := { a.th with frozenK := some k } } : State).takeSet m).crcDue = false ∨ setCheck m = s.rg .TH_SET_CRC))) = true),
    decide (let e0 : ThEval := { k := 4, at_ := 1000400, due := 1246000, lenNs := 62500, deg := false, causes := [], excluded := [], persons := [], inputs := [], aged := false, resets := 0 }
    let s : State := { live with th := { live.th with active := 0, noSet := false, work := [], eval := some e0, groups := [(3, { latch := 2, held := [], clear := 0, startup := false })] }, time := { live.time with noBase := false, bcn := 16, bcStart := 1000000, ct := 1000400 * 2^32 } }.setFd F.TH_STAT_STATE 0 0 1
    let dt : Nat := 7
    let g : Nat := 3
    (s.th.eval).any (fun x => decide (g < 16 ∧
    s.thMode ≠ 3 ∧
    (s.thGroup g).latch ≤ 4 ∧
    (∀ c ∈ x.causes, c.demand ≤ 4) ∧
    (let m := s.th.work
    let y := s.advance dt
    y.ctNs ≤ x.due ∧
    x.codesHold = true ∧
    (x.scene m).isSome = true))) = true),
    decide (let im : List (Nat × Byte) := wr (wr (wr (wr [] 0 [(2,1),(2,2),(4,20000)]) 64 [(1,0x02),(3,0),(4,304),(4,8192),(4,0),(1,0x15),(3,0),(4,8500),(4,512)]) 304 [(2,6),(1,1),(1,1),(4,9)]) 8500 [(2,6),(1,2),(1,1),(2,8),(1,1),(1,0),(4,100),(4,60000),(4,20),(4,30)]
    let s : State := gr (s0 (some im))
    let p : Nat := 0
    let stamp : Nat := stp
    let ok : Bool := false
    let bs : List Byte := fr 5 6 16 (rep 1 2)
    (s.workImg).isSome = true ∧
    p < 8 ∧
    s.portOn p = true ∧
    (let b := s.toStamp stamp
    (b.grantReject p 5 stamp ok bs).isSome = true)),
    decide (let im : List (Nat × Byte) := wr (wr (wr (wr [] 0 [(2,1),(2,2),(4,20000)]) 64 [(1,0x02),(3,0),(4,304),(4,8192),(4,0),(1,0x15),(3,0),(4,8500),(4,512)]) 304 [(2,6),(1,1),(1,1),(4,9)]) 8500 [(2,6),(1,2),(1,1),(2,8),(1,1),(1,0),(4,100),(4,60000),(4,20),(4,30)]
    let s : State := gr (s0 (some im))
    let p : Nat := 0
    let stamp : Nat := stp
    let ok : Bool := true
    let bs : List Byte := fr 5 9 16 (rep 1 2)
    (s.workImg).any (fun m => decide (p < 8 ∧
    s.portOn p = true ∧
    (let b := s.toStamp stamp
    let n := klField bs 2 2
    b.grantReject p 5 stamp ok bs = none ∧
    safeIdOf m 1 n = none))) = true),
    decide (let im : List (Nat × Byte) := wr (wr (wr (wr [] 0 [(2,1),(2,2),(4,20000)]) 64 [(1,0x02),(3,0),(4,304),(4,8192),(4,0),(1,0x15),(3,0),(4,8500),(4,512)]) 304 [(2,6),(1,1),(1,1),(4,9)]) 8500 [(2,6),(1,2),(1,1),(2,8),(1,1),(1,0),(4,100),(4,60000),(4,20),(4,30)]
    let s : State := gr (s0 (some im))
    let p : Nat := 0
    let stamp : Nat := stp
    let ok : Bool := true
    let bs : List Byte := fr 5 6 16 ((rep 1 2).take 40)
    (s.workImg).any (fun m => decide (p < 8 ∧
    s.portOn p = true ∧
    (let b := s.toStamp stamp
    let n := klField bs 2 2
    let body := (bs.drop 26).take (klField bs 10 2)
    b.grantReject p 5 stamp ok bs = none ∧
    (safeIdOf m 1 n).any (fun id => decide (reportOk id body = false)) = true))) = true),
    decide (let im : List (Nat × Byte) := wr (wr (wr (wr [] 0 [(2,1),(2,2),(4,20000)]) 64 [(1,0x02),(3,0),(4,304),(4,8192),(4,0),(1,0x15),(3,0),(4,8500),(4,512)]) 304 [(2,6),(1,1),(1,1),(4,9)]) 8500 [(2,6),(1,2),(1,1),(2,8),(1,1),(1,0),(4,100),(4,60000),(4,20),(4,30)]
    let s : State := gr (s0 (some im))
    let p : Nat := 0
    let stamp : Nat := stp
    let ok : Bool := true
    let bs : List Byte := fr 5 6 16 (rep 1 2)
    (s.workImg).any (fun m => decide (p < 8 ∧
    s.portOn p = true ∧
    (let b := s.toStamp stamp
    let n := klField bs 2 2
    let body := (bs.drop 26).take (klField bs 10 2)
    b.grantReject p 5 stamp ok bs = none ∧
    (safeIdOf m 1 n).any (fun id => decide (reportOk id body = true ∧
    fieldAt body 5 1 = 1 ∧
    ((List.range (fieldAt body 7 1)).zip (partRecords body)).all (fun r => fieldAt r.2 0 1 = fieldAt body 6 1 + r.1) = true ∧
    (sensorsOn m).find? (fun e => sNode m e = n) = some (0 : Nat) ∧
    coversOnce (sFirst m (0 : Nat)) (sCount m (0 : Nat)) (partRecords body) = true)) = true))) = true),
    decide (let im : List (Nat × Byte) := wr [] 0 [(2,1),(2,0),(4,100)]
    let s : State := s0 (some im) [] (fun t => { t with sentBcn := some 16 })
    s.thMode ≠ 3 ∧
    s.time.noBase = false ∧
    s.isStandby = false ∧
    s.th.sentBcn = some s.time.bcn),
    decide (let im : List (Nat × Byte) := wr [] 0 [(2,1),(2,0),(4,100)]
    let s : State := lt (s0 (some im))
    s.thMode ≠ 3 ∧
    s.time.noBase = false ∧
    s.isStandby = false ∧
    s.th.sentBcn ≠ some s.time.bcn),
    decide (let im : List (Nat × Byte) := wr (wr (wr [] 0 [(2,1),(2,1),(4,900)]) 64 [(1,0x06),(3,0),(4,100),(4,768)]) 100 [(1,7),(1,1),(1,0),(1,0),(1,12),(1,0),(1,0),(1,9),(1,3),(1,0),(2,0),(4,65536),(4,10),(4,5)]
    let s : State := s0 (some im) [(F.TH_STAT_STATE,0,2)]
    (s.setImg).any (fun m => decide ((xUsed m).find? (fun e => xCh m e = 7) = some 0)) = true),
    decide (let im : List (Nat × Byte) := wr [] 0 [(2,1),(2,0),(4,100)]
    let s : State := lt (s0 (some im))
    let item : Nat := 6
    1 ≤ item ∧
    item ≤ 7 ∧
    s.thMode ≠ 3),
    decide (let im : List (Nat × Byte) := wr [] 0 [(2,1),(2,0),(4,100)]
    let s : State := s0 (some im) [(F.TH_STAT_STATE,0,2)] (fun t => { t with staleEnd := 90000500, faults := [{ item := 0x13, unit := 7, need := 16 }] })
    s.thMode = 2),
    decide (let im : List (Nat × Byte) := wr [] 0 [(2,1),(2,0),(4,100)]
    let s : State := lt (s0 (some im))
    s.thMode ≠ 2)].all id = true := by decide +kernel
end SafetyCyclesRun

namespace SafeInputsAndOutputs

def bc0 (s : State) (bcn : Nat) : State := { s with time := { s.time with bcn := bcn, ticks := 200000000, bcStart := bcn * 62500, ct := (bcn * 62500 + 400) * 2^32, noBase := false } }
def s0 (img : Option (List (Nat × Byte)) := some imgFull) (l : List (Machine.Field × Nat × Nat) := []) (f : ThState → ThState := id) (bcn : Nat := 19) (si : Nat := 1) : State :=
  let s := set live ([(F.TH_STAT_STATE,0,1),(F.FB_CFGn_EN,3,1),(F.FB_CFGn_MODE,3,1),(F.FB_SSIn_BITS,3,12),(F.KL_PORTn_CTL_EN,0,1)] ++ l)
  let s := setR s [(.TH_SI,0,si)]
  let s : State := { s with mem := { s.mem with safety := (match img with | some m => bank m 0 | none => []) }, th := f { s.th with active := 0, noSet := img.isNone, mbAt := 100, work := img.getD [] } }
  bc0 s bcn
def e4 (f : ThState → ThState) (t : ThState) : ThState := f { t with frozenK := some 4, endK := some 3, eval := none, doneK := some 4 }
/-- States and operands that meet the hypotheses of `Obligations.SafeInputsAndOutputs`, clause by clause. -/
theorem test_premises : [
    decide (let s : State := s0
    let i : Nat := 5
    let j : Nat := 5
    let hold : Nat := 4
    let level : Bool := true
    i < 32 ∧
    j < 20 ∧
    s.th.vsioLow = false ∧
    bit (s.rg .TH_SI) i ≠ level ∧
    hold < s.filterTicks i),
    decide (let s : State := s0
    let i : Nat := 4
    let j : Nat := 16
    let hold : Nat := 5
    let level : Bool := true
    i < 32 ∧
    j < 20 ∧
    s.th.vsioLow = false ∧
    bit (s.rg .TH_SI) i ≠ level ∧
    s.filterTicks i ≤ hold),
    decide (let im : List (Nat × Byte) := wr (wr (wr [] 0 [(2,1),(2,1),(4,500)]) 64 [(1,0x03),(3,0),(4,100),(4,256)]) 116 [(1,1),(1,1),(1,1),(1,1),(2,8),(1,5),(1,5)]
    let s : State := s0 (some im) [] (fun t => { t with disc := [(2, 100)] }) 19 5
    let i : Nat := 2
    let j : Nat := 4
    i < 32 ∧
    j < 20 ∧
    s.th.vsioLow = false ∧
    (s.workImg).any (fun m => decide ((s.th.disc.find? (fun e => e.1 = i)).any (fun t1_ => decide (t1_.1 = i ∧
    iHeads m i = true)) = true)) = true),
    decide (let im : List (Nat × Byte) := wr (wr (wr [] 0 [(2,1),(2,1),(4,500)]) 64 [(1,0x03),(3,0),(4,100),(4,256)]) 116 [(1,1),(1,1),(1,1),(1,1),(2,8),(1,5),(1,5)]
    let s : State := s0 (some im) [(F.TH_SOj_STAT_ON,4,1),(F.TH_AGn_SSM_DEMAND,3,4)] (e4 id)
    let i : Nat := 2
    let j : Nat := 4
    i < 32 ∧
    j < 20 ∧
    s.th.vsioLow = false ∧
    (let k : Nat := 1
    let lows : Nat := 0
    (s.workImg).any (fun m => decide (k ≤ 3 ∧
    iUsed m i = true ∧
    iTp m i = k ∧
    bit lows i = false)) = true)),
    decide (let s : State := s0 (some imgFull) [(F.TH_SOj_STAT_ON,4,1)] (e4 id)
    let i : Nat := 4
    let j : Nat := 4
    let dt : Nat := 2
    i < 32 ∧
    j < 20 ∧
    s.th.vsioLow = false ∧
    (s.workImg).any (fun m => decide (s.th.darkNow = none ∧
    s.th.delay.find? (fun e => e.1 = j) = none ∧
    (s.time.noBase = true ∨ ((s.darkStart m j dt) + 5000 * oDark m j) ≤ (s.darkStart m j dt) + (s.advanceToTick (s.darkStart m j dt)).cycleLeft) ∧
    s.flag F.TH_SOj_STAT_ON j = true ∧
    s.flag F.TH_SOj_STAT_HS_STUCK j = false ∧
    s.flag F.TH_SOj_STAT_LS_STUCK j = false ∧
    j ∉ s.th.darkLow)) = true),
    decide (let s : State := s0 (some imgFull) [(F.TH_SOj_STAT_ON,4,1)] (fun t => { t with darkLow := [4] })
    let i : Nat := 5
    let j : Nat := 4
    let dt : Nat := 5
    i < 32 ∧
    j < 20 ∧
    s.th.vsioLow = false ∧
    (s.workImg).any (fun m => decide (s.th.darkNow = none ∧
    s.th.delay.find? (fun e => e.1 = j) = none ∧
    (s.time.noBase = true ∨ ((s.darkStart m j dt) + 5000 * oDark m j) ≤ (s.darkStart m j dt) + (s.advanceToTick (s.darkStart m j dt)).cycleLeft) ∧
    s.flag F.TH_SOj_STAT_ON j = true ∧
    s.flag F.TH_SOj_STAT_HS_STUCK j = false ∧
    s.flag F.TH_SOj_STAT_LS_STUCK j = false ∧
    j ∈ s.th.darkLow)) = true),
    decide (let im : List (Nat × Byte) := wr [] 0 [(2,1),(2,0),(4,100)]
    let s : State := s0 (some im) [(F.TH_SOj_STAT_ON,4,1),(F.TH_AGn_SSM_DEMAND,3,3)] (e4 id)
    let i : Nat := 16
    let j : Nat := 5
    i < 32 ∧
    j < 20 ∧
    s.th.vsioLow = false ∧
    (let hs : Nat := 16
    let ls : Nat := 16
    let oc : Nat := 0
    let k : Nat := 4
    s.th.frozenK = some k ∧
    s.th.endK ≠ some k ∧
    s.thMode ≠ 3 ∧
    s.time.bcn = 4 * k + 3 ∧
    s.th.eval = none ∧
    s.th.darkNow = none ∧
    (((List.range 20).all (fun l => decide (bit hs l = s.flag F.TH_SOj_STAT_ON l ∧ bit ls l = s.flag F.TH_SOj_STAT_ON l ∧ bit oc l = false)) = true)))),
    decide (let s : State := s0 (some imgFull) [(F.TH_SOj_STAT_ON,4,1),(F.TH_SOj_STAT_DELAYING,4,1)] (fun t => { t with delay := [(4, 200000700)] })
    let i : Nat := 5
    let j : Nat := 4
    i < 32 ∧
    j < 20 ∧
    s.th.vsioLow = false ∧
    (s.th.delay.find? (fun e => e.1 = j)).any (fun tick_ => decide (tick_.1 = j)) = true),
    decide (let s : State := s0 none [] (fun t => { t with frozenK := some 4, endK := some 3, eval := none, doneK := some 4 })
    s.th.frozenK = some 4 ∧ s.th.endK ≠ some 4 ∧ s.thMode ≠ 3 ∧ s.time.bcn = 4 * 4 + 3 ∧ s.th.eval = none ∧ ((List.range 20).all (fun l => decide (bit 0 l = s.flag F.TH_SOj_STAT_ON l ∧ bit 0 l = s.flag F.TH_SOj_STAT_ON l ∧ bit 0 l = false)) = true))].all id = true := by decide +kernel
end SafeInputsAndOutputs

/-- A word of value 0 carries no valid code in safety cycle 4: the hypothesis `codesHold = false` is met. -/
theorem test_codes_fail (x : Nat) : codeOk (x % 32768 + 4 % 8 * 4096) 0#48 = false := by
  simp only [codeOk, codeA, decide_eq_false_iff_not, BitVec.toInt_zero]; omega

/-- One arm group set leaves every other one as it was: with all others at reset, only group g is enabled at the start. -/
theorem test_only_group (s : State) (g : Nat) (a : AgState) : ∀ h, h ≠ g → (s.setAg g a).ag h = s.ag h := by
  intro h hg; exact Tab.get_set_other _ _ _ hg

/-- A sound state with a command in front of its queue that answers a next state. -/
theorem test_sound_step : (let s : State := { live with pending := [.journalWrite, .cutoff] }
    s.sound && (match step s with | .next t => decide (t.pending = [.cutoff]) | _ => false)) = true := by decide +kernel

end Sys2Proof.Tests
end

/-!
## The register map

Every register entry is found again at its own offset. The map is a finite table, so that a check of its rows and of
the pairs of rows of one block (`regMapOk`), evaluated once, gives the fact for every entry.
-/

namespace Sys2Proof.Machine

/-- The blocks of the map in rising order: the offset at which each ends, and its registers (R608). -/
def regBlocks : List (Nat × List Reg) :=
  [(0x0100000, globalRegs), (0x0200000, clkRegs), (0x0208000, timRegs), (0x0400000, calRegs), (0x0800000, klRegs),
   (0x0C00000, lvRegs), (0x1000000, vcRegs), (0x1400000, knRegs), (0x1600000, axRegs), (0x1800000, fbRegs),
   (0x1C00000, thRegs), (0x1E00000, soRegs), (0x1F00000, pwRegs), (0x2000000, svRegs), (0x2100000, hsRegs),
   (0x2200000, chRegs), (0x2300000, lcRegs)]

/-- The registers of the first block of a list that ends above an offset. -/
def blockIn (off : Nat) : List (Nat × List Reg) → List Reg
  | [] => []
  | (e, l) :: bs => if off < e then l else blockIn off bs

theorem blockRegs_eq_blockIn (off : Nat) : blockRegs off = blockIn off regBlocks := rfl

/-- The offset of a register's last entry. -/
def Reg.last (r : Reg) : Nat := r.addr (r.row.count - 1) (r.row.count2 - 1)

/-- How far the second index carries a register's offset, counted modulo `m`. -/
def Reg.spread (r : Reg) (m : Nat) : Nat := if m ∣ r.row.stride2 then 0 else r.row.stride2 * (r.row.count2 - 1)

/-- A row's entries stand one after another: a stride of 0 has one entry, the second index stays within the stride of
the first, every offset is a multiple of 4, and below 2^26. -/
def Reg.rowOk (r : Reg) : Bool :=
  let w := r.row
  (decide (w.stride ≠ 0) || decide (w.count ≤ 1)) && (decide (w.stride2 ≠ 0) || decide (w.count2 ≤ 1)) &&
    (decide (w.stride = 0) || decide (w.stride2 * (w.count2 - 1) < w.stride)) &&
    decide (4 ∣ w.base) && decide (4 ∣ w.stride) && decide (4 ∣ w.stride2) && decide (r.last < 2 ^ 26)

/-- Modulo `m`, the offsets of `r` lie below those of `r'`. -/
def Reg.belowMod (m : Nat) (r r' : Reg) : Bool :=
  decide (m ∣ r.row.stride) && decide (m ∣ r'.row.stride) &&
    decide (r.row.base % m + r.spread m < r'.row.base % m) && decide (r'.row.base % m + r'.spread m < m)

/-- No offset belongs to both registers: one lies wholly below the other, as a whole or within the stride of one. -/
def Reg.apart (r r' : Reg) : Bool :=
  decide (r.last < r'.row.base) || decide (r'.last < r.row.base) ||
    [r.row.stride, r.row.stride2].any (fun m => Reg.belowMod m r r' || Reg.belowMod m r' r)

/-- The check of a list of blocks that starts at offset `b`. -/
def regMapOk : Nat → List (Nat × List Reg) → Bool
  | _, [] => true
  | b, (e, l) :: bs =>
    decide (b ≤ e) && l.all (fun r => decide (b ≤ r.row.base) && decide (r.last < e) && r.rowOk) &&
      l.all (fun r => l.all (fun r' => decide (r = r') || r.apart r')) && regMapOk e bs

theorem regMapOk_regBlocks : regMapOk 0 regBlocks = true := by decide +kernel

theorem Reg.mem_regBlocks (r : Reg) : r ∈ regBlocks.flatMap (·.2) := by
  cases r <;> decide +kernel

/-- The entries of a register lie from its first offset to its last. -/
theorem Reg.addr_bounds {r : Reg} {i j : Nat} (hi : i < r.row.count) (hj : j < r.row.count2) :
    r.row.base ≤ r.addr i j ∧ r.addr i j ≤ r.last := by
  have h1 := Nat.mul_le_mul_left r.row.stride (Nat.le_sub_one_of_lt hi)
  have h2 := Nat.mul_le_mul_left r.row.stride2 (Nat.le_sub_one_of_lt hj)
  unfold Reg.last Reg.addr
  omega

/-- Modulo a divisor of the stride, an entry lies within the spread of its register. -/
theorem Reg.addr_mod_bounds {r : Reg} {m i j : Nat} (hm : m ∣ r.row.stride) (hs : r.row.base % m + r.spread m < m)
    (hj : j < r.row.count2) :
    r.row.base % m ≤ r.addr i j % m ∧ r.addr i j % m ≤ r.row.base % m + r.spread m := by
  obtain ⟨k, hk⟩ := hm
  have hadd : r.addr i j % m = (r.row.base % m + r.row.stride2 * j) % m := by
    unfold Reg.addr
    rw [hk, Nat.add_right_comm, mul_assoc, Nat.add_mul_mod_self_left, Nat.mod_add_mod]
  rw [hadd]
  by_cases h2 : m ∣ r.row.stride2
  · obtain ⟨k2, hk2⟩ := h2
    rw [hk2, mul_assoc, Nat.add_mul_mod_self_left, Nat.mod_mod]
    omega
  · have hle := Nat.mul_le_mul_left r.row.stride2 (Nat.le_sub_one_of_lt hj)
    rw [Reg.spread, if_neg h2] at hs ⊢
    have hlt : r.row.base % m + r.row.stride2 * j < m := by omega
    rw [Nat.mod_eq_of_lt hlt]
    omega

/-- Registers apart modulo `m` have no offset in common. -/
theorem Reg.addr_ne_of_belowMod {m : Nat} {r r' : Reg} (h : Reg.belowMod m r r' = true) {i j i' j' : Nat}
    (hj : j < r.row.count2) (hj' : j' < r'.row.count2) : r.addr i j ≠ r'.addr i' j' := by
  simp only [Reg.belowMod, Bool.and_eq_true, decide_eq_true_eq] at h
  obtain ⟨⟨⟨hm, hm'⟩, hlt⟩, hs'⟩ := h
  have h1 := Reg.addr_mod_bounds (i := i) hm (by omega) hj
  have h2 := Reg.addr_mod_bounds (i := i') hm' hs' hj'
  intro he
  rw [he] at h1
  omega

/-- Registers apart have no offset in common. -/
theorem Reg.addr_ne_of_apart {r r' : Reg} (h : r.apart r' = true) {i j i' j' : Nat} (hi : i < r.row.count)
    (hj : j < r.row.count2) (hi' : i' < r'.row.count) (hj' : j' < r'.row.count2) : r.addr i j ≠ r'.addr i' j' := by
  have hb := Reg.addr_bounds hi hj
  have hb' := Reg.addr_bounds hi' hj'
  simp only [Reg.apart, Bool.or_eq_true, decide_eq_true_eq, List.any_eq_true] at h
  rcases h with (h | h) | ⟨m, -, h | h⟩
  · omega
  · omega
  · exact Reg.addr_ne_of_belowMod h hj hj'
  · exact (Reg.addr_ne_of_belowMod h hj' hj).symm

/-- What a register is located at is one of its entries (R608). -/
theorem Reg.locate_spec {r : Reg} {off i j : Nat} (h : r.locate off = some (i, j)) :
    i < r.row.count ∧ j < r.row.count2 ∧ r.addr i j = off := by
  simp only [Reg.locate, Option.ite_none_left_eq_some, Option.ite_none_right_eq_some, Option.some.injEq,
    Prod.mk.injEq] at h
  obtain ⟨hb, ⟨hr, hi, hj⟩, rfl, rfl⟩ := h
  refine ⟨hi, hj, ?_⟩
  have h1 := Nat.div_add_mod (off - r.row.base) r.row.stride
  unfold Reg.addr
  by_cases hs : r.row.stride = 0 <;> by_cases hs2 : r.row.stride2 = 0 <;> simp only [hs, hs2, if_true, if_false] at hr ⊢
  · omega
  · have h2 := Nat.div_add_mod (off - r.row.base) r.row.stride2
    omega
  · omega
  · have h2 := Nat.div_add_mod ((off - r.row.base) % r.row.stride) r.row.stride2
    omega

/-- A register is located at the offset of each of its entries. -/
theorem Reg.locate_addr {r : Reg} (h : r.rowOk = true) {i j : Nat} (hi : i < r.row.count) (hj : j < r.row.count2) :
    r.locate (r.addr i j) = some (i, j) := by
  simp only [Reg.rowOk, Bool.and_eq_true, Bool.or_eq_true, decide_eq_true_eq] at h
  obtain ⟨⟨⟨⟨⟨⟨h1, h2⟩, h3⟩, -⟩, -⟩, -⟩, -⟩ := h
  have hle := Nat.mul_le_mul_left r.row.stride2 (Nat.le_sub_one_of_lt hj)
  have hd : r.addr i j - r.row.base = r.row.stride * i + r.row.stride2 * j := by unfold Reg.addr; omega
  have hdiv : (if r.row.stride = 0 then 0 else (r.row.stride * i + r.row.stride2 * j) / r.row.stride) = i := by
    split
    · omega
    · rw [Nat.mul_add_div (by omega), Nat.div_eq_of_lt (by omega), Nat.add_zero]
  have hmod : (if r.row.stride = 0 then r.row.stride * i + r.row.stride2 * j
      else (r.row.stride * i + r.row.stride2 * j) % r.row.stride) = r.row.stride2 * j := by
    split
    · rename_i hs; rw [hs]; omega
    · rw [Nat.mul_add_mod, Nat.mod_eq_of_lt (by omega)]
  have hdiv2 : (if r.row.stride2 = 0 then 0 else r.row.stride2 * j / r.row.stride2) = j := by
    split
    · omega
    · exact Nat.mul_div_cancel_left j (by omega)
  have hmod2 : (if r.row.stride2 = 0 then r.row.stride2 * j else r.row.stride2 * j % r.row.stride2) = 0 := by
    split
    · rename_i hs; rw [hs]; omega
    · exact Nat.mul_mod_right _ _
  have hb : ¬ r.addr i j < r.row.base := by unfold Reg.addr; omega
  simp only [Reg.locate, if_neg hb, hd, hdiv, hmod, hdiv2, hmod2, hi, hj, and_self, if_true]

/-- What is found at an offset is an entry of a register of the list. -/
theorem findIn_spec {off : Nat} {l : List Reg} {r : Reg} {i j : Nat} (h : findIn off l = some (r, i, j)) :
    r ∈ l ∧ i < r.row.count ∧ j < r.row.count2 ∧ r.addr i j = off := by
  induction l with
  | nil => cases h
  | cons a l ih =>
    unfold findIn at h
    split at h
    · rename_i i' j' hl
      simp only [Option.some.injEq, Prod.mk.injEq] at h
      obtain ⟨rfl, rfl, rfl⟩ := h
      exact ⟨by simp, Reg.locate_spec hl⟩
    · obtain ⟨hm, hr⟩ := ih h
      exact ⟨by simp [hm], hr⟩

/-- The register found at an offset has that offset. -/
theorem findReg_spec {off : Nat} {r : Reg} {i j : Nat} (h : findReg off = some (r, i, j)) :
    i < r.row.count ∧ j < r.row.count2 ∧ r.addr i j = off := (findIn_spec h).2

/-- In a list of registers apart from each other, an entry is found at its offset. -/
theorem findIn_addr {l : List Reg} {r : Reg} (hr : r ∈ l) (ho : r.rowOk = true)
    (ha : ∀ r' ∈ l, r ≠ r' → r.apart r' = true) {i j : Nat} (hi : i < r.row.count) (hj : j < r.row.count2) :
    findIn (r.addr i j) l = some (r, i, j) := by
  induction l with
  | nil => cases hr
  | cons a l ih =>
    by_cases he : r = a
    · subst he
      rw [findIn, Reg.locate_addr ho hi hj]
    · have hn : a.locate (r.addr i j) = none := by
        cases hl : a.locate (r.addr i j) with
        | none => rfl
        | some p =>
          obtain ⟨hi', hj', hp⟩ := Reg.locate_spec hl
          exact absurd hp.symm (Reg.addr_ne_of_apart (ha a (by simp) he) hi hj hi' hj')
      rw [findIn, hn]
      exact ih (by simpa [he] using hr) (fun r' h => ha r' (by simp [h]))

/-- In blocks that pass the check, each register's row is in order and each of its entries is found. -/
theorem findIn_blockIn_addr {bs : List (Nat × List Reg)} {b : Nat} (h : regMapOk b bs = true) {r : Reg}
    (hr : r ∈ bs.flatMap (·.2)) : b ≤ r.row.base ∧ r.rowOk = true ∧
      ∀ i j, i < r.row.count → j < r.row.count2 → findIn (r.addr i j) (blockIn (r.addr i j) bs) = some (r, i, j) := by
  induction bs generalizing b with
  | nil => simp at hr
  | cons e bs ih =>
    obtain ⟨e, l⟩ := e
    simp only [regMapOk, Bool.and_eq_true, List.all_eq_true, Bool.or_eq_true, decide_eq_true_eq] at h
    obtain ⟨⟨⟨hbe, hrow⟩, hpair⟩, hrest⟩ := h
    rw [List.flatMap_cons, List.mem_append] at hr
    rcases hr with hl | hl
    · obtain ⟨⟨hb, hlast⟩, ho⟩ := hrow r hl
      refine ⟨hb, ho, fun i j hi hj => ?_⟩
      have ha := (Reg.addr_bounds hi hj).2
      rw [blockIn, if_pos (by omega)]
      exact findIn_addr hl ho (fun r' hr' hne => (hpair r hl r' hr').resolve_left hne) hi hj
    · obtain ⟨hb, ho, hf⟩ := ih hrest hl
      refine ⟨by omega, ho, fun i j hi hj => ?_⟩
      have ha := (Reg.addr_bounds hi hj).1
      rw [blockIn, if_neg (by omega)]
      exact hf i j hi hj

/-- Every row of the map is in order. -/
theorem Reg.rowOk_true (r : Reg) : r.rowOk = true := (findIn_blockIn_addr regMapOk_regBlocks r.mem_regBlocks).2.1

/-- Every register entry is found at its own offset (R608). -/
@[simp] theorem findReg_addr {r : Reg} {i j : Nat} (hi : i < r.row.count) (hj : j < r.row.count2) :
    findReg (r.addr i j) = some (r, i, j) := by
  rw [findReg, blockRegs_eq_blockIn]
  exact (findIn_blockIn_addr regMapOk_regBlocks r.mem_regBlocks).2.2 i j hi hj

/-- Register entries stand at aligned words (R5). -/
theorem Reg.addr_mod_four (r : Reg) (i j : Nat) : r.addr i j % 4 = 0 := by
  have h := r.rowOk_true
  simp only [Reg.rowOk, Bool.and_eq_true, decide_eq_true_eq] at h
  obtain ⟨⟨⟨⟨-, hb⟩, hs⟩, hs2⟩, -⟩ := h
  exact Nat.mod_eq_zero_of_dvd (dvd_add (dvd_add hb (hs.mul_right i)) (hs2.mul_right j))

/-- Register entries stand within the 64 MB of BAR0. -/
theorem Reg.addr_lt {r : Reg} {i j : Nat} (hi : i < r.row.count) (hj : j < r.row.count2) : r.addr i j < 2 ^ 26 := by
  have h := r.rowOk_true
  simp only [Reg.rowOk, Bool.and_eq_true, decide_eq_true_eq] at h
  exact lt_of_le_of_lt (Reg.addr_bounds hi hj).2 h.2

/-- Two entries at one offset are one entry. -/
theorem Reg.addr_inj {r r' : Reg} {i j i' j' : Nat} (hi : i < r.row.count) (hj : j < r.row.count2)
    (hi' : i' < r'.row.count) (hj' : j' < r'.row.count2) (h : r.addr i j = r'.addr i' j') : r = r' ∧ i = i' ∧ j = j' := by
  have h1 := findReg_addr hi hj
  rw [h, findReg_addr hi' hj'] at h1
  simpa [eq_comm] using h1

end Sys2Proof.Machine

/-!
## Stores of the cores
-/

namespace Sys2Proof.Machine

/-! ### Byte memories -/

theorem leBytes_length (n v : Nat) : (leBytes n v).length = n := by
  induction n generalizing v with
  | zero => rfl
  | succ n ih => simp [leBytes, ih]

/-- Every byte of a memory after a run of bytes is written. -/
theorem overlaid_writeN (m : List Host.Cell) (o : Nat) (bs : List Byte) : overlaid m (Mem.writeN m o bs) (some o) bs := by
  intro x
  induction bs generalizing m o with
  | nil => simp [Mem.writeN]
  | cons b bs ih =>
    have hb : Mem.read (Mem.write m o b) x = if x = o then b else Mem.read m x := Tab.get_set_if memDefault m o x b
    have h := ih (Mem.write m o b) (o + 1)
    simp only [Mem.writeN, h, hb, List.length_cons]
    by_cases hx : x = o
    · subst hx
      rw [if_neg (by omega), if_pos rfl, if_pos (by omega), Nat.sub_self]
      rfl
    · by_cases hr : o + 1 ≤ x ∧ x < o + 1 + bs.length
      · rw [if_pos hr, if_pos (by omega), show x - o = (x - (o + 1)) + 1 by omega]
        rfl
      · rw [if_neg hr, if_neg hx, if_neg (by omega)]

theorem overlaid_refl (m : List Host.Cell) (bs : List Byte) : overlaid m m none bs := fun _ => rfl

/-! ### Bytes stored to a place -/

/-- A store to a place changes memory, and notes: setpoint records committed, lines for replication, lines of a migration. -/
theorem State.placeWrite_frame (s : State) (p : Place) (bs : List Byte) :
    s.placeWrite p bs = { s with
      mem := (s.placeWrite p bs).mem, kl := { s.kl with committed := (s.placeWrite p bs).kl.committed },
      ch := { s.ch with written := (s.placeWrite p bs).ch.written },
      sv := { s.sv with mig := (s.placeWrite p bs).sv.mig } } := by
  cases p with
  | tcm o => simp only [State.placeWrite, State.noteDirty]; split <;> rfl
  | shared o => simp only [State.placeWrite, State.noteDirty]; split <;> rfl
  | sram o =>
    simp only [State.placeWrite, State.sramWrite, State.noteCommit, State.noteLines]
    split <;> split <;> rfl
  | win o => rfl
  | dram o => rfl
  | reg o => rfl
  | nowhere => rfl

/-- The memories after a store to a place. -/
def MemState.store (m : MemState) (p : Place) (bs : List Byte) : MemState :=
  match p with
  | .tcm o => { m with tcm := Mem.writeN m.tcm o bs }
  | .shared o => { m with shared := Mem.writeN m.shared o bs }
  | .sram o => { m with sram := Mem.writeN m.sram o (bs.take (0x1000000 - o)) }
  | .dram o => { m with dram := Mem.writeN m.dram o bs }
  | _ => m

theorem State.placeWrite_mem (s : State) (p : Place) (bs : List Byte) : (s.placeWrite p bs).mem = s.mem.store p bs := by
  cases p with
  | tcm o => simp only [State.placeWrite, State.noteDirty]; split <;> rfl
  | shared o => simp only [State.placeWrite, State.noteDirty]; split <;> rfl
  | sram o => simp [State.placeWrite, State.sramWrite, MemState.store]
  | win o => rfl
  | dram o => rfl
  | reg o => rfl
  | nowhere => rfl

/-- The bytes are at their place and every other byte is as it was; those of spine SRAM fit in its 16 MB. -/
theorem State.stored_of_mem {s t : State} {p : Place} {bs : List Byte} (hm : t.mem = s.mem.store p bs)
    (hp : ∀ o, p = .sram o → o + bs.length ≤ 0x1000000) : s.stored t p bs := by
  unfold State.stored
  rw [hm]
  cases p with
  | sram o =>
    have ht : bs.take (0x1000000 - o) = bs := List.take_of_length_le (by have := hp o rfl; omega)
    simp only [MemState.store, ht, and_true]
    exact ⟨overlaid_refl _ _, overlaid_refl _ _, overlaid_writeN _ _ _, overlaid_refl _ _⟩
  | tcm o => exact ⟨overlaid_writeN _ _ _, overlaid_refl _ _, overlaid_refl _ _, overlaid_refl _ _, rfl, rfl, rfl⟩
  | shared o => exact ⟨overlaid_refl _ _, overlaid_writeN _ _ _, overlaid_refl _ _, overlaid_refl _ _, rfl, rfl, rfl⟩
  | dram o => exact ⟨overlaid_refl _ _, overlaid_refl _ _, overlaid_refl _ _, overlaid_writeN _ _ _, rfl, rfl, rfl⟩
  | win o => exact ⟨overlaid_refl _ _, overlaid_refl _ _, overlaid_refl _ _, overlaid_refl _ _, rfl, rfl, rfl⟩
  | reg o => exact ⟨overlaid_refl _ _, overlaid_refl _ _, overlaid_refl _ _, overlaid_refl _ _, rfl, rfl, rfl⟩
  | nowhere => exact ⟨overlaid_refl _ _, overlaid_refl _ _, overlaid_refl _ _, overlaid_refl _ _, rfl, rfl, rfl⟩

/-- The spine SRAM offset of an address in it (R181). -/
theorem State.place_sram {s : State} {n a o : Nat} (h : s.place n a = .sram o) :
    0x10000000 ≤ a ∧ a < 0x11000000 ∧ o = a - 0x10000000 := by
  unfold State.place at h
  split_ifs at h with h1 h2 h3 h4
  exact ⟨h4.1, h4.2, (Place.sram.inj h).symm⟩

/-- A store to a memory that a core may write stores the bytes there (R181, R182). -/
theorem State.store_of_inWritable {s : State} {n a : Nat} (size : Nat) (v : Word) (h : s.inWritable n a = true) :
    s.store n a size v = some (s.placeWrite (s.place n a) (leBytes size v.toNat)) := by
  unfold State.inWritable State.inMemory at h
  unfold State.store
  cases hp : s.place n a with
  | dram o =>
    have hd : s.domOn 22 = true := by simpa [hp] using h
    have ha : s.answers 22 = true := by simp [State.answers, hd]
    simp [ha]
  | tcm o => rfl
  | shared o => rfl
  | sram o => rfl
  | win o => simp [hp] at h
  | reg o => simp [hp] at h
  | nowhere => simp [hp] at h

/-! ### The core past a store -/

@[simp] theorem Core.stepIdx_pair (c : Core) (circ : Bool) (k : Nat) (off : Int) (size : Nat) :
    (c.stepIdx circ k off size).pair = c.pair := by cases circ <;> rfl

@[simp] theorem Core.stepIdx_haltReq (c : Core) (circ : Bool) (k : Nat) (off : Int) (size : Nat) :
    (c.stepIdx circ k off size).haltReq = c.haltReq := by cases circ <;> rfl

@[simp] theorem Core.retire_haltReq (c : Core) : c.retire.haltReq = c.haltReq := by
  unfold Core.retire
  split <;> rfl

/-- A core retires where its open bundle leads. -/
theorem Core.retire_eq_past {c d : Core} (hp : d.pair = c.pair) (hc : d.pc = c.pc) : d.retire = d.past c := by
  cases h : c.pair with
  | some p => simp only [Core.retire, Core.past, hp, h]
  | none => simp only [Core.retire, Core.past, Core.next, hp, hc, h]

/-- A circular form moves IDX of its set and no other circular register; another form moves none (R194). -/
theorem Core.stepped_stepIdx (c : Core) (circ : Bool) (k : Nat) (off : Int) (size : Nat) :
    c.stepped (c.stepIdx circ k off size) circ k off size := by
  cases circ with
  | false => exact ⟨rfl, fun _ _ _ => by simp [Core.stepIdx]⟩
  | true =>
    refine ⟨rfl, fun k' j hj => ?_⟩
    simp only [Core.stepIdx, Core.setCb, if_true, true_and]
    unfold Core.cbr
    rw [Tab.get_set_if]
    by_cases hk : k' % 8 = k % 8 ∧ j = 2
    · rw [if_pos (by omega), if_pos hk]
    · rw [if_neg (by omega), if_neg hk]

/-! ### A store as a whole -/

theorem memIllegal_eq_false {f circ : Bool} {rt base size : Nat} : memIllegal f rt circ base size = false ↔
    (f = false → rt < 32) ∧ (f = true → size = 4) ∧ (circ = true → base < 8) := by
  cases f <;> cases circ <;> simp [memIllegal]

/-- A well-formed store at an aligned address that the store reaches goes past it. -/
theorem State.storeOp_of_store {s u : State} {n rt base size : Nat} {f circ : Bool} {off : Int} {a : Word}
    (hr : s.readyB n = true) (hi : memIllegal f rt circ base size = false)
    (ha : (s.core n).memAddr circ base off = some a) (hal : a.toNat % size = 0)
    (hs : s.store n a.toNat size ((s.core n).fr f rt) = some u) :
    s.storeOp n f rt circ base off size =
      .next ((u.pastStore n (fun c => c.stepIdx circ base off size)).afterStep n) := by
  unfold State.storeOp
  rw [State.issueB_of_ready _ hr]
  simp only [hi, ha, hal, hs, ne_eq, not_true_eq_false, Bool.false_eq_true, if_false]

theorem State.readyB_fetches {s : State} {n : Nat} (h : s.readyB n = true) : s.fetches n = true := by
  simp only [State.readyB, Bool.and_eq_true] at h
  exact h.1

/-- A core that fetches is in a slice that is ON. -/
theorem State.fetches_domOn {s : State} {n : Nat} (h : s.fetches n = true) : s.domOn (n / 4) = true := by
  simp only [State.fetches, State.issues, Bool.and_eq_true] at h
  obtain ⟨⟨⟨⟨⟨-, hd⟩, -⟩, -⟩, -⟩, -⟩ := h
  exact hd

/-- A well-formed store to memory: the bytes are written, the core goes past the store, and nothing else differs but what
stores note (R181, R193, R194). -/
theorem State.storeOp_writes {s : State} {n rt base size : Nat} {f circ : Bool} {off : Int} {a : Word}
    (hr : s.readyB n = true) (hi : memIllegal f rt circ base size = false)
    (ha : (s.core n).memAddr circ base off = some a) (hw : s.inWritable n a.toNat = true) (hal : a.toNat % size = 0)
    (hsz : size = 4 ∨ size = 2 ∨ size = 1) :
    ∃ t d, s.storeOp n f rt circ base off size = .next t ∧
      s.stored t (s.place n a.toNat) (leBytes size ((s.core n).fr f rt).toNat) ∧
      (s.core n).stepped d circ base off size ∧ t.core n = d.past (s.core n) ∧ (∀ m, m ≠ n → t.core m = s.core m) ∧
      t = { s with cores := t.cores, mem := t.mem, kl := { s.kl with committed := t.kl.committed },
                   ch := { s.ch with written := t.ch.written }, sv := { s.sv with mig := t.sv.mig } } := by
  have hf := State.readyB_fetches hr
  have hmem := s.placeWrite_mem (s.place n a.toNat) (leBytes size ((s.core n).fr f rt).toNat)
  have hframe := s.placeWrite_frame (s.place n a.toNat) (leBytes size ((s.core n).fr f rt).toNat)
  have hstore := State.storeOp_of_store hr hi ha hal (State.store_of_inWritable size _ hw)
  generalize s.placeWrite (s.place n a.toNat) (leBytes size ((s.core n).fr f rt).toNat) = u at hmem hframe hstore
  have hcore : ∀ m, u.core m = s.core m := fun m => by rw [hframe]; rfl
  have hdom : u.domOn (n / 4) = true := by rw [hframe]; exact State.fetches_domOn hf
  have hpast : u.pastStore n (fun c => c.stepIdx circ base off size) =
      u.setCore n ((s.core n).stepIdx circ base off size).retire := by
    rw [State.pastStore, if_pos hdom, hcore]
  rw [hpast, State.afterStep_of_run _ _ (by simp [State.fetches_haltReq hf])] at hstore
  have hpc : ((s.core n).stepIdx circ base off size).pc = (s.core n).pc := by cases circ <;> rfl
  refine ⟨_, (s.core n).stepIdx circ base off size, hstore, State.stored_of_mem (by rw [State.setCore_mem, hmem]) ?_,
    Core.stepped_stepIdx _ _ _ _ _, ?_, fun m hm => ?_, ?_⟩
  · intro o ho
    obtain ⟨h1, h2, h3⟩ := State.place_sram ho
    rw [leBytes_length]
    rcases hsz with rfl | rfl | rfl <;> omega
  · rw [State.core_setCore, Core.retire_eq_past (Core.stepIdx_pair _ _ _ _ _) hpc]
  · rw [State.core_setCore_other _ _ hm, hcore]
  · rw [hframe]; rfl

/-- Settles O15: each of the three stores is well-formed under the hypotheses, and its address one that a core may write. -/
theorem storesWriteMemory : Obligations.StoresWriteMemory := by
  unfold Obligations.StoresWriteMemory
  intro s n rt base f circ off a hr c ha hb hw hrt e he hf hal
  have hi : memIllegal f rt circ base e.2 = false := memIllegal_eq_false.mpr ⟨hrt, hf, hb⟩
  simp only [List.mem_cons, List.not_mem_nil, or_false] at he
  rcases he with rfl | rfl | rfl
  all_goals exact State.storeOp_writes hr hi ha hw hal (by simp)

end Sys2Proof.Machine

/-!
## Accesses to the register window
-/

namespace Sys2Proof.Machine

theorem requester_code_lt (q : Requester) : q.code < 2 ^ 8 := by
  cases q with
  | core n => exact lt_trans (Nat.mod_lt n (by decide)) (by decide)
  | host | mnt | debug | bootList | module => decide

theorem Reg.count_le_of_slice (r : Reg) (h : r.row.dom = .slice) : r.row.count ≤ 72 := by
  revert h
  cases r <;> decide

/-- A domain id of a register entry is below 28 (R510, R610). -/
theorem Reg.domain_lt {r : Reg} {i : Nat} (hi : i < r.row.count) : r.domain i < 28 := by
  unfold Reg.domain
  split
  case h_4 hd =>
    have := r.count_le_of_slice hd
    omega
  all_goals decide

/-! ### What is recorded of an access that is turned away -/

@[simp] theorem State.fd_noteRaise (s : State) (off b : Nat) (f : Field) (i j : Nat) :
    (s.noteRaise off b).fd f i j = s.fd f i j := rfl

/-- The word that GLOBAL_BADACC holds after a bad access (R5, R609). -/
theorem State.rg_badAccess (s : State) (q : Requester) (w r : Bool) (off : Nat) :
    (s.badAccess q w r off).rg .GLOBAL_BADACC = q.code * 2 ^ 24 + b2n w * 2 ^ 16 + b2n r * 2 + 1 := by
  have hq := requester_code_lt q
  unfold State.badAccess
  rw [State.rg_setRg_other _ _ _ _ _ _ _ _ (by decide), State.rg_noteRaise, State.rg_setRg, Nat.mod_eq_of_lt]
  cases w <;> cases r <;> simp only [b2n, Bool.false_eq_true, if_true, if_false] <;> omega

/-- The fields of GLOBAL_BADACC after a bad access: the requester, the direction, and that there was one (R5). -/
theorem State.fd_badAccess (s : State) (q : Requester) (w r : Bool) (off : Nat) :
    (s.badAccess q w r off).fd F.GLOBAL_BADACC_REQUESTER = q.code ∧
    (s.badAccess q w r off).fd F.GLOBAL_BADACC_WRITE = b2n w ∧ (s.badAccess q w r off).fd F.GLOBAL_BADACC_BAD = 1 := by
  have hq := requester_code_lt q
  have h : ∀ hi lo, (s.badAccess q w r off).fd ⟨.GLOBAL_BADACC, hi, lo⟩ =
      (q.code * 2 ^ 24 + b2n w * 2 ^ 16 + b2n r * 2 + 1) / 2 ^ lo % 2 ^ (hi + 1 - lo) := fun hi lo => by
    rw [State.fd, State.rg_badAccess, bits, Nat.shiftRight_eq_div_pow]
  unfold F.GLOBAL_BADACC_REQUESTER F.GLOBAL_BADACC_WRITE F.GLOBAL_BADACC_BAD
  rw [h, h, h]
  cases w <;> cases r <;> simp only [b2n, Bool.false_eq_true, if_true, if_false] <;> omega

theorem State.fd_badAccess_cnt (s : State) (q : Requester) (w r : Bool) (off : Nat) :
    (s.badAccess q w r off).fd F.GLOBAL_BADACC_CNT_COUNT = satInc 32 (s.fd F.GLOBAL_BADACC_CNT_COUNT) := by
  unfold State.badAccess
  rw [State.fd_setRg_reg _ _ _ _ _ _ _ _ (by decide), State.fd_noteRaise, State.fd_setRg_reg _ _ _ _ _ _ _ _ (by decide),
    State.fd_incFd _ _ _ _ (by decide)]
  rfl

theorem State.rg_badAccess_adr (s : State) (q : Requester) (w r : Bool) {off : Nat} (h : off < 2 ^ 32) :
    (s.badAccess q w r off).rg .GLOBAL_BADACC_ADR = off := by
  unfold State.badAccess
  rw [State.rg_setRg, Nat.mod_eq_of_lt h]

/-- `State.sets` with the new register file and the new notes as some tables. -/
theorem State.sets_iff {s t : State} {fs : List (Field × Nat)} : s.sets t fs ↔
    (∃ R T, t = { s with regs := R, time := { s.time with raised := T } }) ∧ s.onlyFields t (fun _ => false) fs :=
  ⟨fun h => ⟨⟨_, _, h.1⟩, h.2⟩, fun ⟨⟨R, T, h⟩, hf⟩ => ⟨by subst h; rfl, hf⟩⟩

theorem State.sets_refl (s : State) (fs : List (Field × Nat)) : s.sets s fs := ⟨rfl, s.onlyFields_refl _ _⟩

theorem State.sets_of_regs {s t : State} {fs : List (Field × Nat)} {R : List (Nat × Word)} (h : s.sets t fs)
    (hf : s.onlyFields { t with regs := R } (fun _ => false) fs) : s.sets { t with regs := R } fs := by
  obtain ⟨⟨_, _, rfl⟩, -⟩ := State.sets_iff.mp h
  exact State.sets_iff.mpr ⟨⟨_, _, rfl⟩, hf⟩

/-- A field that is listed may be set. -/
theorem State.sets_setFd {s t : State} {fs : List (Field × Nat)} (h : s.sets t fs) (f : Field) (i v : Nat)
    (hf : f.ok = true) (hm : (f, i) ∈ fs) : s.sets (t.setFd f i 0 v) fs :=
  State.sets_of_regs h (State.onlyFields_setFd h.2 f i v hf hm)

/-- A counter that is listed may count. -/
theorem State.sets_incFd {s t : State} {fs : List (Field × Nat)} (h : s.sets t fs) (f : Field) (i : Nat)
    (hf : f.ok = true) (hm : (f, i) ∈ fs) : s.sets (t.incFd f i 0) fs := State.sets_setFd h f i _ hf hm

/-- A register that is listed whole may be set. -/
theorem State.sets_setRg {s t : State} {fs : List (Field × Nat)} (h : s.sets t fs) (r : Reg) (i v : Nat)
    (hm : (⟨r, 31, 0⟩, i) ∈ fs) : s.sets (t.setRg r i 0 v) fs :=
  State.sets_of_regs h (State.onlyFields_setRg h.2 r i 0 v (.inr ⟨_, hm, rfl, rfl, le_refl 31⟩))

/-- A bit may be noted as set in the present tick. -/
theorem State.sets_noteRaise {s t : State} {fs : List (Field × Nat)} (h : s.sets t fs) (off b : Nat) :
    s.sets (t.noteRaise off b) fs := by
  obtain ⟨⟨_, _, rfl⟩, hf⟩ := State.sets_iff.mp h
  exact State.sets_iff.mpr ⟨⟨_, _, rfl⟩, hf⟩

/-- A bad access changes its three registers and nothing else. -/
theorem State.sets_badAccess (s : State) (q : Requester) (w r : Bool) (off : Nat) :
    s.sets (s.badAccess q w r off) [(F.GLOBAL_BADACC_CNT_COUNT, 0), (⟨.GLOBAL_BADACC, 31, 0⟩, 0),
      (⟨.GLOBAL_BADACC_ADR, 31, 0⟩, 0)] := by
  unfold State.badAccess
  refine State.sets_setRg (State.sets_noteRaise (State.sets_setRg (State.sets_incFd (s.sets_refl _) _ _ ?_ ?_) _ _ _ ?_) _ _)
    _ _ _ ?_
  · decide
  all_goals simp

/-- An access to a domain that is not ON, and not the first of its super-cycle, is counted and recorded (R521). -/
theorem State.offAccess_of_seen {s : State} {d : Nat} (q : Requester) (w : Bool) (adr : Nat)
    (h : s.pw.offSeen.contains d = true) :
    s.offAccess q w d adr = ((s.incFd F.PW_OFFACC_CNT_COUNT 0 0).setRg .PW_OFFACC 0 0
      (q.code * 2 ^ 24 + b2n w * 2 ^ 16 + d % 32)).setRg .PW_OFFACC_ADR 0 0 adr := by
  unfold State.offAccess
  exact if_pos (by simpa using h)

/-- What an access to a domain that is not ON leaves: the count, the record, and nothing else (R521). -/
theorem State.offAccess_spec {s : State} {d : Nat} (q : Requester) (w : Bool) {adr : Nat}
    (h : s.pw.offSeen.contains d = true) (hd : d < 28) (ha : adr < 2 ^ 32) :
    let t := s.offAccess q w d adr
    t.fd F.PW_OFFACC_CNT_COUNT = satInc 32 (s.fd F.PW_OFFACC_CNT_COUNT) ∧
    t.rg .PW_OFFACC = q.code * 2 ^ 24 + b2n w * 2 ^ 16 + d ∧ t.rg .PW_OFFACC_ADR = adr ∧
    s.sets t [(F.PW_OFFACC_CNT_COUNT, 0), (⟨.PW_OFFACC, 31, 0⟩, 0), (⟨.PW_OFFACC_ADR, 31, 0⟩, 0)] := by
  have hq := requester_code_lt q
  intro t
  have ht : t = _ := State.offAccess_of_seen q w adr h
  rw [ht]
  refine ⟨?_, ?_, ?_, ?_⟩
  · rw [State.fd_setRg_reg _ _ _ _ _ _ _ _ (by decide), State.fd_setRg_reg _ _ _ _ _ _ _ _ (by decide),
      State.fd_incFd _ _ _ _ (by decide)]
    rfl
  · rw [State.rg_setRg_other _ _ _ _ _ _ _ _ (by decide), State.rg_setRg]
    cases w <;> simp only [b2n, Bool.false_eq_true, if_true, if_false] <;> omega
  · rw [State.rg_setRg, Nat.mod_eq_of_lt ha]
  · exact State.sets_setRg (State.sets_setRg (State.sets_incFd (s.sets_refl _) _ _ (by decide) (by simp)) _ _ _ (by simp))
      _ _ _ (by simp)

/-! ### Who reaches a register -/

/-- The access level turns a requester's write of a register away (R599). -/
def State.forbids (s : State) (q : Requester) (r : Reg) : Bool :=
  (decide (q = .mnt) && decide (s.accessLevel = 0) && !mntAlways r) || (decide (q = .debug) && decide (s.accessLevel ≠ 2))

/-- A guarded write of an entry that exists, when its port is there: forbidden, to a domain that does not answer, or
performed (R518, R599). -/
theorem State.guardWrite_of_portUp {s : State} {q : Requester} {r : Reg} {i j : Nat} (act : State → State)
    (hp : s.portUp q = true) (hi : i < r.row.count) (hj : j < r.row.count2) :
    s.guardWrite q r i j act =
      if s.forbids q r then (s, 0x06)
      else if s.answers (r.domain i) then (act s, 0x00)
      else (s.offAccess q true (r.domain i) (r.addr i j), 0x07) := by
  unfold State.guardWrite State.forbids
  rw [if_neg (by simp [hp])]
  by_cases hm : q = .mnt ∧ s.accessLevel = 0 ∧ ¬ mntAlways r = true
  · simp [hm]
  · rw [if_neg hm]
    by_cases hd : q = .debug ∧ s.accessLevel ≠ 2
    · simp [hd]
    · have hf : ((decide (q = .mnt) && decide (s.accessLevel = 0) && !mntAlways r) ||
          (decide (q = .debug) && decide (s.accessLevel ≠ 2))) = false := by
        simp only [Bool.or_eq_false_iff, Bool.and_eq_false_imp, Bool.and_eq_true, decide_eq_true_eq]
        exact ⟨fun h => by simpa [h.1, h.2] using hm, fun h => by simpa [h] using hd⟩
      rw [if_neg hd, if_neg (by simp [hi, hj]), hf]
      simp only [Bool.false_eq_true, if_false, ite_not]

/-- Under FULL access nobody's write is forbidden. -/
theorem State.forbids_of_full {s : State} {q : Requester} (r : Reg) (h : q = .debug ∨ q = .mnt → s.accessLevel = 2) :
    s.forbids q r = false := by
  unfold State.forbids
  cases q <;> simp_all

/-- What `State.grants` says. -/
theorem State.grants_iff {s : State} {q : Requester} {r : Reg} {i j : Nat} : s.grants q r i j = true ↔
    s.portUp q = true ∧ s.forbids q r = false ∧ i < r.row.count ∧ j < r.row.count2 ∧ s.answers (r.domain i) = true := by
  unfold State.grants State.forbids
  simp only [Bool.and_eq_true, Bool.or_eq_false_iff, Bool.not_eq_true', decide_eq_true_eq]
  tauto

/-- The write of a register entry at its offset is its guarded write (R5, R599). -/
theorem State.busWriteWith_addr (act : State → Reg → Nat → Nat → State) (s : State) (q : Requester) {r : Reg} {i j : Nat}
    (hi : i < r.row.count) (hj : j < r.row.count2) :
    s.busWriteWith act q (r.addr i j) 4 = s.guardWrite q r i j (fun s => act s r i j) := by
  unfold State.busWriteWith
  by_cases hp : s.portUp q = true
  · rw [if_neg (by simp [hp]), if_neg (c := 4 ≠ 4 ∨ r.addr i j % 4 ≠ 0) (by simp [r.addr_mod_four]), findReg_addr hi hj]
    by_cases hd : q = .debug ∧ s.accessLevel ≠ 2
    · rw [if_pos hd, State.guardWrite_of_portUp _ hp hi hj, if_pos (by simp [State.forbids, hd])]
    · rw [if_neg hd]
  · rw [if_pos hp, State.guardWrite, if_pos hp]

/-- REGISTER_WRITE at the offset of a register entry is the guarded write of that register (R5, R6). -/
theorem exec_registerWrite_addr (s : State) (q : Requester) (v : Word) {r : Reg} {i j : Nat} (hi : i < r.row.count)
    (hj : j < r.row.count2) : exec (.registerWrite q (r.addr i j) v) s = s.write q r i j (fun s => s.regWrite q r i j v) := by
  show Host.Outcome.next (s.busWriteWith (fun s r i j => s.regWrite q r i j v) q (r.addr i j) 4).1 = _
  rw [State.busWriteWith_addr _ s q hi hj]
  rfl

/-- REGISTER_WRITE that is let through is the register's own write. -/
theorem exec_registerWrite_of_grants {s : State} {q : Requester} (v : Word) {r : Reg} {i j : Nat}
    (h : s.grants q r i j = true) : exec (.registerWrite q (r.addr i j) v) s = .next (s.regWrite q r i j v) := by
  obtain ⟨-, -, hi, hj, -⟩ := State.grants_iff.mp h
  rw [exec_registerWrite_addr s q v hi hj, State.write_of_grants _ h]

/-! ### What the register's own write is -/

/-- A write of the _LO half of a writable pair is held (R10). -/
theorem State.regWrite_of_isHeldLo (s : State) (q : Requester) {r : Reg} (i j : Nat) (v : Word) (h : r.isHeldLo = true) :
    s.regWrite q r i j v = s.holdLo q r i v.toNat := by
  unfold State.regWrite State.regWriteInBoot
  rw [if_neg (by rintro rfl; cases h), if_pos h]

/-- Bit `b` of the flags that events of the present tick have set in a register (R7). -/
theorem testBit_foldl_raised (l : List (Nat × Nat)) (a m b : Nat) :
    (l.foldl (fun m e => if e.1 = a then m ||| 2 ^ e.2 else m) m).testBit b = (m.testBit b || l.contains (a, b)) := by
  induction l generalizing m with
  | nil => simp
  | cons e l ih =>
    obtain ⟨x, y⟩ := e
    rw [List.foldl_cons, ih, List.contains_cons]
    by_cases hx : x = a
    · subst hx
      simp only [if_true, Nat.testBit_or, Nat.testBit_two_pow, Bool.or_assoc]
      congr 2
      by_cases hy : y = b
      · simp [hy]
      · simp [hy, Ne.symm hy]
    · have hne : ((a, b) == (x, y)) = false := by simp [Ne.symm hx]
      rw [if_neg hx, hne, Bool.false_or]

theorem testBit_allOnes32_xor (m : Nat) {b : Nat} (hb : b < 32) : (0xFFFFFFFF ^^^ m).testBit b = !m.testBit b := by
  have h1 : Nat.testBit 0xFFFFFFFF b = true := by
    rw [show (0xFFFFFFFF : Nat) = 2 ^ 32 - 1 by rfl, Nat.testBit_two_pow_sub_one, decide_eq_true hb]
  rw [Nat.testBit_xor, h1, Bool.true_xor]

/-- The bits of a register after a write by the access types alone: RW bits are set; W1C flags written 1 are cleared, but
for those that an event has set in the same tick (R6, R7). -/
theorem State.testBit_plainWrite (s : State) (r : Reg) (i j v : Nat) {b : Nat} (hb : b < 32) :
    ((s.plainWrite r i j v).rg r i j).testBit b =
      if r.row.rw.testBit b then v.testBit b
      else (s.rg r i j).testBit b &&
        !(r.row.w1c.testBit b && v.testBit b && !s.time.raised.contains (r.addr i j, b)) := by
  unfold State.plainWrite
  rw [State.rg_setRg, Nat.testBit_mod_two_pow, decide_eq_true hb, Bool.true_and]
  simp only [Nat.testBit_or, Nat.testBit_and, testBit_allOnes32_xor _ hb, testBit_foldl_raised, Nat.zero_testBit,
    Bool.false_or]
  cases r.row.rw.testBit b <;> simp [Bool.and_comm]

end Sys2Proof.Machine

/-!
## Writes and reads of the register window, and those that are turned away
-/

namespace Sys2Proof.Machine

/-- Registers that have no write of their own: the access types of their fields apply alone (R6). -/
def plainRegs : List Reg :=
  [.GLOBAL_ID, .GLOBAL_MAPVER, .GLOBAL_SCRATCH, .GLOBAL_BADACC, .GLOBAL_RESET, .CLK_STAT, .TIM_CT_STAT,
    .CAL_STAT, .KL_MODE_ERRm, .KL_PORTn_CNTk, .KL_PORTn_EVTOK, .LV_STAT, .LV_CNTk, .LV_TICKk_CTL, .VC_STATn,
    .KN_AGMAP_SH, .KN_AGMAP, .KN_GUARD, .KN_PLAN_STOP, .AX_TGTn, .AX_VELn, .AX_STATn, .AX_CNTBn, .AX_CMPk_STAT,
    .AX_STj_TIM, .FB_LOADn, .FB_STATn, .FB_TOKn, .TH_STAT, .TH_AGn_SSM, .TH_MB_CRC, .SO_Cc_CNT, .PW_DOMd_STAT,
    .PW_VOLTi_STAT, .SV_HEALTHs, .SV_PLACE_SHn, .SV_WDOG_STAT, .SV_JNL_DATAk, .HS_VCNTv, .HS_HEn_LAT,
    .HS_HEn_TXq_CTL, .CH_STAT, .CH_BRIDGEk, .LC_CHALk]

theorem State.regWrite_of_plain (s : State) (q : Requester) {r : Reg} (i j : Nat) (v : Word) (h : r ∈ plainRegs) :
    s.regWrite q r i j v = s.plainWrite r i j v.toNat := by
  unfold plainRegs at h
  fin_cases h <;> rfl

/-- A write of HS_VPEND_LO or _HI is the write of pending bits (R584). -/
theorem State.regWrite_vpend (s : State) (q : Requester) {r : Reg} (i j : Nat) (v : Word)
    (h : r = .HS_VPEND_LO ∨ r = .HS_VPEND_HI) : s.regWrite q r i j v = writeVpend r v s := by
  rcases h with rfl | rfl <;> rfl

/-- A write by the access types changes the register file alone. -/
theorem State.plainWrite_frame (s : State) (r : Reg) (i j v : Nat) :
    s.plainWrite r i j v = { s with regs := (s.plainWrite r i j v).regs } := rfl

/-- A write by the access types changes the addressed register alone. -/
theorem State.regs_plainWrite (s : State) (r : Reg) (i j v off : Nat) (h : off ≠ r.addr i j) :
    Tab.get regDefault (s.plainWrite r i j v).regs off = Tab.get regDefault s.regs off := s.regs_setRg r i j _ off h

/-! ### Pending bits -/

theorem mem_bitIndices {mask n b : Nat} : b ∈ bitIndices mask n ↔ b < n ∧ mask.testBit b = true := by
  simp [bitIndices, bit]

/-- A write that notes what it clears notes each bit of the mask that it has cleared (R7). -/
theorem State.mem_cleared_clearWrite (s : State) (r : Reg) (i j v mask : Nat) {b : Nat} (hb : b < 32)
    (hm : mask.testBit b = true) (h1 : (s.rg r i j).testBit b = true)
    (h0 : ((s.plainWrite r i j v).rg r i j).testBit b = false) :
    (r.addr i j, b) ∈ (s.clearWrite r i j v mask).time.cleared := by
  unfold State.clearWrite
  refine List.mem_append_left _ (List.mem_map.mpr ⟨b, mem_bitIndices.mpr ⟨hb, ?_⟩, rfl⟩)
  rw [Nat.testBit_and, Nat.testBit_and, testBit_allOnes32_xor _ hb, h1, hm, h0]
  rfl

/-- What a write of pending bits changes: the register, the notes of what it cleared, and the messages sent again
(R7, R584). -/
theorem writeVpend_frame (r : Reg) (v : Word) (s : State) : writeVpend r v s =
    { s with regs := (s.plainWrite r 0 0 v.toNat).regs, hs := { s.hs with msix := (writeVpend r v s).hs.msix },
             time := { s.time with cleared := (s.clearWrite r 0 0 v.toNat 0xFFFFFFFF).time.cleared } } := rfl

/-- No message is sent again where no event of the tick has found its pending bit set (R584). -/
theorem writeVpend_msix {r : Reg} (v : Word) {s : State} (h : ∀ b, s.time.raised.contains (r.addr 0 0, 32 + b) = false) :
    (writeVpend r v s).hs.msix = s.hs.msix := by
  have hn : (List.range 32).filter (fun b => bit v.toNat b && s.time.raised.contains (r.addr 0 0, 32 + b)) = [] := by
    simp only [h, Bool.and_false, List.filter_false]
  unfold writeVpend
  rw [hn]
  exact List.append_nil _

/-- A write of pending bits that is let through (R7, R584). -/
theorem exec_registerWrite_vpend {s : State} {q : Requester} (v : Word) {r : Reg}
    (hr : r = .HS_VPEND_LO ∨ r = .HS_VPEND_HI) (hg : s.grants q r = true) :
    ∃ t, exec (.registerWrite q (r.addr 0 0) v) s = .next t ∧
      t = { s with regs := t.regs, hs := { s.hs with msix := t.hs.msix },
                   time := { s.time with cleared := t.time.cleared } } ∧
      (∀ b, b < 32 → (t.rg r).testBit b =
          ((s.rg r).testBit b && !(v.getLsbD b && !s.time.raised.contains (r.addr 0 0, b))) ∧
        ((s.rg r).testBit b = true → (t.rg r).testBit b = false → (r.addr 0 0, b) ∈ t.time.cleared)) ∧
      ((∀ b, s.time.raised.contains (r.addr 0 0, 32 + b) = false) → t.hs.msix = s.hs.msix) := by
  refine ⟨writeVpend r v s, ?_, writeVpend_frame r v s, fun b hb => ⟨?_, fun h1 h0 => ?_⟩, writeVpend_msix v⟩
  · rw [exec_registerWrite_of_grants v hg, State.regWrite_vpend _ _ _ _ _ hr]
  · have hrow : r.row.rw = 0 ∧ r.row.w1c = 2 ^ 32 - 1 := by rcases hr with rfl | rfl <;> exact ⟨rfl, rfl⟩
    have h := s.testBit_plainWrite r 0 0 v.toNat hb
    rw [hrow.1, hrow.2, Nat.zero_testBit, if_neg (by simp), Nat.testBit_two_pow_sub_one, decide_eq_true hb, Bool.true_and,
      BitVec.testBit_toNat] at h
    exact h
  · exact s.mem_cleared_clearWrite r 0 0 v.toNat 0xFFFFFFFF hb
      (by rw [show (0xFFFFFFFF : Nat) = 2 ^ 32 - 1 by rfl, Nat.testBit_two_pow_sub_one, decide_eq_true hb]) h1 h0

/-! ### Reads -/

/-- A read of a register entry at its offset: performed, or of a domain that does not answer (R518). -/
theorem State.busRead_addr {s : State} {q : Requester} {r : Reg} {i j : Nat} (hp : s.portUp q = true)
    (hd : q = .debug → s.accessLevel ≠ 0) (hi : i < r.row.count) (hj : j < r.row.count2) :
    s.busRead q (r.addr i j) 4 =
      if s.answers (r.domain i) then ((s.readReg q r i j).1, 0x00, (s.readReg q r i j).2)
      else (if q = .host then 0xFFFFFFFF else 0, 0x07, s.offAccess q false (r.domain i) (r.addr i j)) := by
  unfold State.busRead
  rw [if_neg (by simp [hp]), if_neg (by simpa using hd), if_neg (by simp [r.addr_mod_four]), findReg_addr hi hj]
  dsimp only
  by_cases ha : s.answers (r.domain i) = true
  · rw [if_neg (not_not_intro ha), if_pos ha]
  · rw [if_pos ha, if_neg ha]

/-! ### Bad accesses -/

/-- BAD_ACCESS of a wrong width or alignment or a reserved offset, by a requester whose port is there and whom the access
level admits, is counted and recorded (R5, R609). -/
theorem exec_badAccess_spec {s : State} {q : Requester} {off width : Nat} (wr : Bool) (hp : s.portUp q = true)
    (hf : q = .debug ∨ q = .mnt → s.accessLevel = 2) (hbad : width ≠ 4 ∨ off % 4 ≠ 0 ∨ findReg off = none) :
    ∃ reserved, exec (.badAccess q off width wr) s = .next (s.badAccess q wr reserved off) := by
  have hm : ¬ (q = .mnt ∧ s.accessLevel = 0) := fun h => by have := hf (.inr h.1); omega
  have hd : ¬ (q = .debug ∧ s.accessLevel ≠ 2) := fun h => h.2 (hf (.inl h.1))
  have hd0 : ¬ (q = .debug ∧ s.accessLevel = 0) := fun h => by have := hf (.inl h.1); omega
  show ∃ reserved, execBadAccess q off width wr s = _
  unfold execBadAccess
  rw [if_neg (by rintro ⟨h1, h2, h3⟩; rcases hbad with h | h | h <;> simp_all)]
  by_cases hw : width ≠ 4 ∨ off % 4 ≠ 0
  · refine ⟨false, ?_⟩
    cases wr with
    | true =>
      rw [if_pos rfl, State.busWrite, State.busWriteWith, if_neg (by simp [hp]), if_neg hd, if_pos hw, if_neg hm]
    | false =>
      rw [if_neg (by simp), State.busRead, if_neg (by simp [hp]), if_neg hd0, if_pos hw]
  · have hn : findReg off = none := by tauto
    refine ⟨true, ?_⟩
    cases wr with
    | true =>
      rw [if_pos rfl, State.busWrite, State.busWriteWith, if_neg (by simp [hp]), if_neg hd, if_neg hw, hn]
      simp only [if_neg hm]
    | false =>
      rw [if_neg (by simp), State.busRead, if_neg (by simp [hp]), if_neg hd0, if_neg hw, hn]

/-! ### The accesses of the register window -/

/-- A write to a domain that does not answer, not the first of its super-cycle, is counted and recorded (R518, R521). -/
theorem exec_registerWrite_off {s : State} {q : Requester} (v : Word) {r : Reg} {i j : Nat} (hp : s.portUp q = true)
    (hf : s.forbids q r = false) (hi : i < r.row.count) (hj : j < r.row.count2) (ha : s.answers (r.domain i) = false) :
    exec (.registerWrite q (r.addr i j) v) s = .next (s.offAccess q true (r.domain i) (r.addr i j)) := by
  rw [exec_registerWrite_addr s q v hi hj, State.write, State.guardWrite_of_portUp _ hp hi hj, hf, ha]
  rfl

/-- A read of a domain that does not answer returns all ones to the host and 0 to the others (R518). -/
theorem exec_readLoLatch_off {s : State} {q : Requester} {r : Reg} {i j : Nat} (hp : s.portUp q = true)
    (hd : q = .debug → s.accessLevel ≠ 0) (hi : i < r.row.count) (hj : j < r.row.count2)
    (ha : s.answers (r.domain i) = false) :
    exec (.readLoLatch q (r.addr i j)) s = .next { s.offAccess q false (r.domain i) (r.addr i j) with
      hs := { (s.offAccess q false (r.domain i) (r.addr i j)).hs with
        readData := leBytes 4 (if q = .host then 0xFFFFFFFF else 0) } } := by
  show execReadLoLatch q (r.addr i j) s = _
  unfold execReadLoLatch
  rw [State.busRead_addr hp hd hi hj, ha]
  rfl

/-- A write that the access level forbids changes nothing (R599). -/
theorem exec_registerWrite_forbidden {s : State} {q : Requester} (v : Word) {r : Reg} {i j : Nat} (hp : s.portUp q = true)
    (hf : s.forbids q r = true) (hi : i < r.row.count) (hj : j < r.row.count2) :
    exec (.registerWrite q (r.addr i j) v) s = .next s := by
  rw [exec_registerWrite_addr s q v hi hj, State.write, State.guardWrite_of_portUp _ hp hi hj, hf]
  rfl

/-- The port of the debug port is there, and its access level is not FULL: it writes nothing at any offset
(R599). -/
theorem exec_registerWrite_debug {s : State} (off : Nat) (v : Word) (hl : s.accessLevel ≠ 2) :
    exec (.registerWrite .debug off v) s = .next s := by
  show Host.Outcome.next (s.busWriteWith _ .debug off 4).1 = _
  unfold State.busWriteWith
  split
  · rfl
  · rw [if_pos ⟨rfl, hl⟩]

theorem State.portUp_mnt {s : State} : s.portUp .mnt = !s.held := by simp [State.portUp]

theorem State.held_of_domOn {s : State} {d : Nat} (h : s.domOn d = true) : s.held = false := by
  simp only [State.domOn, Bool.and_eq_true, Bool.not_eq_true'] at h
  exact h.1

/-- Settles O37: the writes by the register's own write once they are let through; those that are turned away by the order
of checks in `State.guardWrite_of_portUp`, and what they record by `State.offAccess_spec` and `State.sets_badAccess`. -/
theorem registerAccesses : Obligations.RegisterAccesses := by
  unfold Obligations.RegisterAccesses
  refine ⟨fun s q v i j => ⟨fun r hr hg => ?_, fun r hr hg => ?_, fun r hr hg => ?_, ?_, ?_, fun hi => ?_⟩,
    fun s q r i j off width v wr hp hf => ⟨fun hfind _ hi hj ha hs => ?_, fun h24 hl hfind _ hm => ?_, fun _ hl => ?_,
      fun hbad hoff => ?_⟩⟩
  · have hh : r.isHeldLo = true := by
      simp only [List.mem_cons, List.not_mem_nil, or_false] at hr
      rcases hr with rfl | rfl | rfl | rfl | rfl | rfl | rfl <;> rfl
    rw [exec_registerWrite_of_grants v hg, State.regWrite_of_isHeldLo _ _ _ _ _ hh]
    rfl
  · refine ⟨s.plainWrite r i j v.toNat, ?_, rfl, s.regs_plainWrite r i j v.toNat, fun b hb => ?_⟩
    · rw [exec_registerWrite_of_grants v hg, State.regWrite_of_plain _ _ _ _ _ hr]
    · rw [s.testBit_plainWrite r i j v.toNat hb, BitVec.testBit_toNat]
  · exact exec_registerWrite_vpend v (by simpa using hr) hg
  · exact exec_registerWrite_addr s q v (by decide) (by decide)
  · exact exec_registerWrite_addr s q v (by decide) (by decide)
  · exact exec_registerWrite_addr s q v hi (by decide)
  · have hd : q = .debug → s.accessLevel ≠ 0 := fun h => by rw [hf (.inl h)]; decide
    obtain ⟨h1, h2, h3, h4⟩ := State.offAccess_spec q true hs (Reg.domain_lt hi)
      (lt_trans (Reg.addr_lt hi hj) (by decide))
    obtain ⟨-, h2', -, -⟩ := State.offAccess_spec q false hs (Reg.domain_lt hi)
      (lt_trans (Reg.addr_lt hi hj) (by decide))
    have hread : (s.offAccess q false (r.domain i) (r.addr i j)).rg .PW_OFFACC = q.code * 2 ^ 24 + r.domain i := by
      simpa [b2n] using h2'
    refine ⟨⟨_, exec_registerWrite_off v hp (State.forbids_of_full r hf) hi hj ha, h1, by simpa [b2n] using h2, h3, h4⟩,
      ⟨_, exec_readLoLatch_off hp hd hi hj ha, rfl, hread, ?_⟩⟩
    exact State.offAccess_latches _ _ _ _ _
  · obtain ⟨hi, hj, -⟩ := findReg_spec hfind
    exact exec_registerWrite_forbidden v (by rw [State.portUp_mnt, State.held_of_domOn h24]; rfl)
      (by simp [State.forbids, hl, hm]) hi hj
  · exact exec_registerWrite_debug off v hl
  · obtain ⟨reserved, he⟩ := exec_badAccess_spec wr hp hf hbad
    obtain ⟨h1, h2, h3⟩ := s.fd_badAccess q wr reserved off
    exact ⟨_, he, s.fd_badAccess_cnt q wr reserved off, h1, h2, h3, s.rg_badAccess_adr q wr reserved hoff,
      s.sets_badAccess q wr reserved off⟩

end Sys2Proof.Machine

/-!
## Latches of the pairs, and the maintenance port
-/

namespace Sys2Proof.Machine

/-! ### What a read latches (R9) -/

/-- The registers that a read of a _LO register latches have its entries, return what is latched, and latch nothing. -/
theorem Reg.companions_spec (r : Reg) : ∀ c ∈ r.companions, c.row.count = r.row.count ∧ c.row.count2 = r.row.count2 ∧
    c.isCompanion = true ∧ r.isCompanion = false := by
  cases r <;> decide

theorem latchKey_inj {q : Requester} {a b : Nat} (h : latchKey q a = latchKey q b) : a = b := Nat.add_left_cancel h

/-- After each register of a list is latched, each of them reads back (R9, R611). -/
theorem get_foldl_latch {q : Requester} {i j : Nat} (cur : Reg → Nat) {l : List Reg} (t : List (Nat × Option Nat))
    (hl : ∀ c ∈ l, i < c.row.count ∧ j < c.row.count2) {c : Reg} (hc : c ∈ l) :
    Tab.get (fun _ => none) (l.foldl (fun t c => Tab.set (fun _ => none) t (latchKey q (c.addr i j)) (some (cur c))) t)
      (latchKey q (c.addr i j)) = some (cur c) := by
  induction l using List.reverseRecOn with
  | nil => cases hc
  | append_singleton l a ih =>
    rw [List.foldl_append, List.foldl_cons, List.foldl_nil]
    by_cases he : c = a
    · rw [he, Tab.get_set]
    · obtain ⟨hi, hj⟩ := hl c hc
      obtain ⟨hi', hj'⟩ := hl a (by simp)
      have hne : latchKey q (c.addr i j) ≠ latchKey q (a.addr i j) := fun h =>
        he (Reg.addr_inj hi hj hi' hj' (latchKey_inj h)).1
      rw [Tab.get_set_other _ _ _ hne]
      exact ih (fun c h => hl c (by simp [h])) (by simpa [he] using hc)

/-- A read latches each companion of the register it reads (R9, R60, R83). -/
theorem State.latches_readReg (s : State) (q : Requester) {r c : Reg} {i j : Nat} (hc : c ∈ r.companions)
    (hi : i < r.row.count) (hj : j < r.row.count2) :
    Tab.get (fun _ => none) (s.readReg q r i j).2.latches (latchKey q (c.addr i j)) =
      some (s.view c i j &&& c.readMask) := by
  refine get_foldl_latch (fun c => s.view c i j &&& c.readMask) s.latches (fun c' h => ?_) hc
  obtain ⟨h1, h2, -⟩ := r.companions_spec c' h
  exact ⟨h1 ▸ hi, h2 ▸ hj⟩

theorem State.readReg_frame (s : State) (q : Requester) (r : Reg) (i j : Nat) :
    (s.readReg q r i j).2 = { s with latches := (s.readReg q r i j).2.latches } := rfl

/-- A register that is no companion reads as it stands. -/
theorem State.readReg_value (s : State) (q : Requester) {r : Reg} (i j : Nat) (h : r.isCompanion = false) :
    (s.readReg q r i j).1 = s.view r i j &&& r.readMask := by
  unfold State.readReg
  simp only [h, Bool.false_eq_true, if_false]

/-- A companion reads as its requester's latch holds it (R9, R612). -/
theorem State.readReg_value_latched {s : State} {q : Requester} {r : Reg} {i j x : Nat} (h : r.isCompanion = true)
    (hl : Tab.get (fun _ => none) s.latches (latchKey q (r.addr i j)) = some x) : (s.readReg q r i j).1 = x := by
  unfold State.readReg
  simp only [h, if_true, hl, Option.getD_some]

/-- READ_LO_LATCH of a register whose domain answers (R9). -/
theorem exec_readLoLatch_answers {s : State} {q : Requester} {r : Reg} {i j : Nat} (hp : s.portUp q = true)
    (hd : q = .debug → s.accessLevel ≠ 0) (hi : i < r.row.count) (hj : j < r.row.count2)
    (ha : s.answers (r.domain i) = true) :
    exec (.readLoLatch q (r.addr i j)) s = .next { (s.readReg q r i j).2 with
      hs := { s.hs with readData := leBytes 4 (s.readReg q r i j).1 } } := by
  show execReadLoLatch q (r.addr i j) s = _
  unfold execReadLoLatch
  rw [State.busRead_addr hp hd hi hj, ha]
  rfl

/-- A read of a _LO register, and the requester's next read of a register it latches, whatever happened in between to the
value and to other latches (R9, R611, R612). -/
theorem exec_readLoLatch_pair {s : State} {q : Requester} {lo hi : Reg} {i : Nat} (hc : hi ∈ lo.companions)
    (h2 : lo.row.count2 = 1) (hp : s.portUp q = true) (hd : q = .debug → s.accessLevel ≠ 0) (hn : i < lo.row.count)
    (ha : s.answers (lo.domain i) = true) :
    ∃ t, exec (.readLoLatch q (lo.addr i 0)) s = .next t ∧
      t = { s with latches := t.latches, hs := { s.hs with readData := t.hs.readData } } ∧
      t.hs.readData = leBytes 4 (s.view lo i 0 &&& lo.readMask) ∧
      ∀ u : State, u.portUp q = true → (q = .debug → u.accessLevel ≠ 0) → u.answers (hi.domain i) = true →
        Tab.get (fun _ => none) u.latches (latchKey q (hi.addr i 0)) =
          Tab.get (fun _ => none) t.latches (latchKey q (hi.addr i 0)) →
        ∃ w, exec (.readLoLatch q (hi.addr i 0)) u = .next w ∧
          w.hs.readData = leBytes 4 (s.view hi i 0 &&& hi.readMask) := by
  obtain ⟨hcount, hcount2, hcomp, hlo⟩ := lo.companions_spec hi hc
  have hj : 0 < lo.row.count2 := by omega
  refine ⟨_, exec_readLoLatch_answers hp hd hn hj ha, rfl, congrArg (leBytes 4) (s.readReg_value q i 0 hlo),
    fun u hup hud hua hl => ?_⟩
  have hlatch := hl.trans (s.latches_readReg q hc hn hj)
  exact ⟨_, exec_readLoLatch_answers hup hud (hcount ▸ hn) (hcount2 ▸ hj) hua,
    congrArg (leBytes 4) (State.readReg_value_latched hcomp hlatch)⟩

/-! ### The maintenance port (R589) -/

theorem State.portUp_mnt_of_not_held {s : State} (h : s.held = false) : s.portUp .mnt = true := by
  rw [State.portUp_mnt, h]; rfl

/-- MNT_READ of a register whose domain answers: the marker, the data and STATUS (R589). -/
theorem exec_mntRead_answers {s : State} {wa : Nat} {r : Reg} {i j : Nat} (hh : s.held = false) (hw : wa < 2 ^ 24)
    (hf : findReg (wa * 4) = some (r, i, j)) (ha : s.answers (r.domain i) = true) :
    exec (.mntRead wa) s = .next { (s.readReg .mnt r i j).2 with
      hs := { s.hs with mntReply := [0xA5] ++ (leBytes 4 (s.readReg .mnt r i j).1).map BitVec.toNat ++ [0x00] } } := by
  obtain ⟨hi, hj, he⟩ := findReg_spec hf
  have hp := State.portUp_mnt_of_not_held hh
  show execMntRead wa s = _
  unfold execMntRead
  rw [if_neg (by simp [hp]), Nat.mod_eq_of_lt hw, ← he, State.busRead_addr hp (by simp) hi hj, ha]
  rfl

/-- MNT_READ of a register whose domain does not answer: data 0 and STATUS 0x07 (R518, R589). -/
theorem exec_mntRead_off {s : State} {wa : Nat} {r : Reg} {i j : Nat} (hh : s.held = false) (hw : wa < 2 ^ 24)
    (hf : findReg (wa * 4) = some (r, i, j)) (ha : s.answers (r.domain i) = false) :
    ∃ t, exec (.mntRead wa) s = .next t ∧ t.hs.mntReply = [0xA5, 0, 0, 0, 0, 0x07] := by
  obtain ⟨hi, hj, he⟩ := findReg_spec hf
  have hp := State.portUp_mnt_of_not_held hh
  show ∃ t, execMntRead wa s = _ ∧ _
  unfold execMntRead
  rw [if_neg (by simp [hp]), Nat.mod_eq_of_lt hw, ← he, State.busRead_addr hp (by simp) hi hj, ha]
  exact ⟨_, rfl, rfl⟩

/-- MNT_WRITE that chip select ends early writes nothing (R589). -/
theorem exec_mntWrite_incomplete (s : State) (wa : Nat) (v : Word) : exec (.mntWrite wa v false) s = .next s := by
  show execMntWrite wa v false s = _
  unfold execMntWrite
  rw [if_pos (by simp)]

/-- MNT_WRITE that is complete is the register write, with the marker and STATUS (R518, R589, R599). -/
theorem exec_mntWrite_complete {s : State} {wa : Nat} (v : Word) {r : Reg} {i j : Nat} (hh : s.held = false)
    (hw : wa < 2 ^ 24) (hf : findReg (wa * 4) = some (r, i, j)) :
    ∃ u, exec (.registerWrite .mnt (wa * 4) v) s = .next u ∧
      exec (.mntWrite wa v true) s = .next { u with hs := { u.hs with mntReply := [0xA5,
        if s.accessLevel = 0 ∧ mntAlways r = false then 0x06 else if s.answers (r.domain i) then 0x00 else 0x07] } } := by
  obtain ⟨hi, hj, he⟩ := findReg_spec hf
  have hp := State.portUp_mnt_of_not_held hh
  have hstat : (s.busWrite .mnt (wa * 4) 4 v).2 =
      if s.accessLevel = 0 ∧ mntAlways r = false then 0x06 else if s.answers (r.domain i) then 0x00 else 0x07 := by
    rw [State.busWrite, ← he, State.busWriteWith_addr _ _ _ hi hj, State.guardWrite_of_portUp _ hp hi hj]
    have hforb : s.forbids .mnt r = true ↔ s.accessLevel = 0 ∧ mntAlways r = false := by simp [State.forbids]
    simp only [hforb]
    split
    · rfl
    · split <;> rfl
  refine ⟨(s.busWrite .mnt (wa * 4) 4 v).1, rfl, ?_⟩
  show execMntWrite wa v true s = _
  unfold execMntWrite
  rw [if_neg (by simp [hp]), Nat.mod_eq_of_lt hw, ← hstat]

/-- Settles O38: each _HI register is a companion of its _LO register, which a read latches; the maintenance port's
transfers are the accesses of the register window. -/
theorem latchesAndMaintenancePort : Obligations.LatchesAndMaintenancePort := by
  unfold Obligations.LatchesAndMaintenancePort
  refine ⟨fun s q i hp hd p hm hn ha => ?_, fun s wa v r i j hh hw hf => ⟨fun ha hc => ?_, exec_mntRead_off hh hw hf,
    exec_mntWrite_complete v hh hw hf, exec_mntWrite_incomplete s wa v⟩⟩
  · have hpair : p.2 ∈ p.1.companions ∧ p.1.row.count2 = 1 := by
      fin_cases hm <;> decide
    exact exec_readLoLatch_pair hpair.1 hpair.2 hp hd hn ha
  · exact ⟨_, exec_mntRead_answers hh hw hf ha, by rw [← s.readReg_value .mnt i j hc], rfl⟩

end Sys2Proof.Machine

/-!
## The passing of TIME ticks, and writes of CT and PT
-/

namespace Sys2Proof.Machine

/-! ### Registers and memory while time passes -/

@[simp] theorem State.notePtJump_time (s : State) : s.notePtJump.time = s.time := by
  unfold State.notePtJump; split <;> rfl

@[simp] theorem State.notePtJump_regs (s : State) : s.notePtJump.regs = s.regs := by
  unfold State.notePtJump; split <;> rfl

@[simp] theorem State.notePtJump_mem (s : State) : s.notePtJump.mem = s.mem := by
  unfold State.notePtJump; split <;> rfl

/-- The counters at the start of a run of ticks: the notes of the tick before are dropped. -/
def TimeState.fresh (t : TimeState) : TimeState := { t with raised := [], cleared := [] }

/-- The state at the start of a run of `n` ticks: the calendar has moved on. -/
def State.fresh (s : State) (n : Nat) : State :=
  { s with cal := s.cal.advance (toSigned 11 (s.fd F.CAL_TRIM_TRIM)) n, time := s.time.fresh }

/-- The counters and the cores after `n` ticks of the clock. -/
def State.ticked (s : State) (n : Nat) : State :=
  let t := (s.time.tick s.ptIncReg (n - 1)).cycle (dividerOf (s.fd F.CLK_DVFS_CORE_A)) (dividerOf (s.fd F.CLK_DVFS_CORE_B)) n
  { s with time := { t with ticks := t.ticks + n }, cores := s.cores.map (fun e => (e.1, e.2.spend n)) }

/-- A load of CT ends its alignment. -/
def State.dropAlign (s : State) : State :=
  { (s.setFd F.TIM_CT_STAT_SRC 0 0 0).setRg .KL_TIME_ERR 0 0 0 with kl := { s.kl with integral := 0 } }

/-- The state after `n` ticks of the module's own time base alone. -/
def State.idled (s : State) (n : Nat) : State := { s with time := { s.time with ticks := s.time.ticks + n } }

/-- What one tick or more come to: the clock runs, with or without a load of CT at the first tick, or it does not (R61). -/
theorem State.advance_succ (s : State) (k : Nat) : s.advance (k + 1) =
    if (s.fresh (k + 1)).clockOn then
      if (s.fresh (k + 1)).notePtJump.time.ctLoad.isSome then ((s.fresh (k + 1)).notePtJump.ticked (k + 1)).dropAlign
      else (s.fresh (k + 1)).notePtJump.ticked (k + 1)
    else (s.fresh (k + 1)).idled (k + 1) := rfl

theorem State.fresh_clockOn (s : State) (n : Nat) : (s.fresh n).clockOn = s.clockOn := rfl
@[simp] theorem State.fresh_regs (s : State) (n : Nat) : (s.fresh n).regs = s.regs := rfl
@[simp] theorem State.fresh_mem (s : State) (n : Nat) : (s.fresh n).mem = s.mem := rfl
@[simp] theorem State.ticked_regs (s : State) (n : Nat) : (s.ticked n).regs = s.regs := rfl
@[simp] theorem State.ticked_mem (s : State) (n : Nat) : (s.ticked n).mem = s.mem := rfl
@[simp] theorem State.idled_regs (s : State) (n : Nat) : (s.idled n).regs = s.regs := rfl
@[simp] theorem State.idled_mem (s : State) (n : Nat) : (s.idled n).mem = s.mem := rfl
@[simp] theorem State.dropAlign_mem (s : State) : s.dropAlign.mem = s.mem := by simp [State.dropAlign]
@[simp] theorem State.dropAlign_time (s : State) : s.dropAlign.time = s.time := by simp [State.dropAlign]

theorem State.rg_of_regs {s t : State} (h : t.regs = s.regs) (r : Reg) (i j : Nat) : t.rg r i j = s.rg r i j := by
  unfold State.rg; rw [h]

theorem State.rg_dropAlign (s : State) {r : Reg} {i j : Nat} (h1 : r.addr i j ≠ Reg.addr .TIM_CT_STAT 0 0)
    (h2 : r.addr i j ≠ Reg.addr .KL_TIME_ERR 0 0) : s.dropAlign.rg r i j = s.rg r i j :=
  (State.rg_of_regs (s := (s.setFd F.TIM_CT_STAT_SRC 0 0 0).setRg .KL_TIME_ERR 0 0 0) rfl r i j).trans
    ((State.rg_setRg_other _ _ _ _ _ _ _ _ h2).trans (State.rg_setRg_other _ F.TIM_CT_STAT_SRC.reg _ _ _ _ _ _ h1))

@[simp] theorem State.advance_mem (s : State) (n : Nat) : (s.advance n).mem = s.mem := by
  cases n with
  | zero => rfl
  | succ k =>
    rw [State.advance_succ]
    split
    · split <;> simp
    · simp

/-- Time alone changes no register but the source of CT and the error of its alignment, which a load of CT clears. -/
theorem State.rg_advance (s : State) (n : Nat) (r : Reg) (i j : Nat) (h1 : r.addr i j ≠ Reg.addr .TIM_CT_STAT 0 0)
    (h2 : r.addr i j ≠ Reg.addr .KL_TIME_ERR 0 0) : (s.advance n).rg r i j = s.rg r i j := by
  cases n with
  | zero => rfl
  | succ k =>
    have hrun : ((s.fresh (k + 1)).notePtJump.ticked (k + 1)).rg r i j = s.rg r i j := State.rg_of_regs (by simp) r i j
    rw [State.advance_succ]
    split
    · split
      · rw [State.rg_dropAlign _ h1 h2, hrun]
      · exact hrun
    · exact State.rg_of_regs (by simp) r i j

theorem State.fd_advance (s : State) (n : Nat) (f : Field) (i j : Nat)
    (h1 : f.reg.addr i j ≠ Reg.addr .TIM_CT_STAT 0 0) (h2 : f.reg.addr i j ≠ Reg.addr .KL_TIME_ERR 0 0) :
    (s.advance n).fd f i j = s.fd f i j := by
  rw [State.fd, State.rg_advance _ _ _ _ _ h1 h2, State.fd]

/-! ### The counters

The kernel must not be asked to compare two values of a counter by evaluating them: a comparison that fails would unfold
the arithmetic on 2^96. The proofs below rewrite by equations, or make the value a variable first. -/

theorem TimeState.cycle_counters (t : TimeState) (a b n : Nat) : (t.cycle a b n).ct = t.ct ∧ (t.cycle a b n).pt = t.pt :=
  ⟨rfl, rfl⟩

theorem State.ticked_counters (s : State) (k : Nat) : (s.ticked (k + 1)).time.ct = (s.time.tick s.ptIncReg k).ct ∧
    (s.ticked (k + 1)).time.pt = (s.time.tick s.ptIncReg k).pt := ⟨rfl, rfl⟩

theorem State.ptIncReg_of_regs {s t : State} (h : t.regs = s.regs) : t.ptIncReg = s.ptIncReg := by
  unfold State.ptIncReg; rw [State.rg_of_regs h, State.rg_of_regs h]

/-- While the clock runs, CT and PT after `k + 1` ticks are those of `TimeState.tick`. -/
theorem State.advance_succ_counters {s : State} (h : s.clockOn = true) (k : Nat) :
    (s.advance (k + 1)).time.ct = (s.time.fresh.tick s.ptIncReg k).ct ∧
    (s.advance (k + 1)).time.pt = (s.time.fresh.tick s.ptIncReg k).pt := by
  have hrun := (s.fresh (k + 1)).notePtJump.ticked_counters k
  rw [State.ptIncReg_of_regs (s := s) (by simp), State.notePtJump_time] at hrun
  rw [State.advance_succ, if_pos (by rw [State.fresh_clockOn, h])]
  split
  · rw [State.dropAlign_time]
    exact hrun
  · exact hrun

theorem TimeState.loadCt_ct (t : TimeState) (ns frac : Nat) : (t.loadCt ns frac).ct = (ns * 2 ^ 32 + frac) % 2 ^ 96 := rfl

theorem TimeState.loadCt_pt (t : TimeState) (ns frac : Nat) : (t.loadCt ns frac).pt = t.pt := by
  unfold TimeState.loadCt
  generalize (2 : Nat) ^ 32 = p
  generalize (2 : Nat) ^ 96 = m
  rfl

theorem TimeState.setCt_pt (t : TimeState) (ct : Nat) : ({ t with ct := ct } : TimeState).pt = t.pt := rfl

/-- CT after `n + 1` ticks without a load of it. -/
theorem TimeState.tick_ct {t : TimeState} (h : t.ctLoad = none) (inc n : Nat) :
    (t.tick inc n).ct = (t.ct + (n + 1) * t.ctInc) % 2 ^ 96 := by
  unfold TimeState.tick
  simp only [h]

/-- A load of CT applies at the next tick (R64). -/
theorem TimeState.tick_ct_load {t : TimeState} {v : Nat} (h : t.ctLoad = some v) (inc : Nat) :
    (t.tick inc 0).ct = v * 2 ^ 32 % 2 ^ 96 := by
  unfold TimeState.tick
  simp only [h]
  rw [TimeState.loadCt_ct, Nat.zero_mul, Nat.add_zero, Nat.add_zero, Nat.mod_mod]

/-- A load of PT applies at the next tick, whatever adjustment is pending (R69). -/
theorem TimeState.tick_pt_load {t : TimeState} {v : Nat} (h : t.ptLoad = some v) (inc : Nat) :
    (t.tick inc 0).pt = v * 2 ^ 32 % 2 ^ 96 := by
  unfold TimeState.tick
  rw [show v * 2 ^ 32 % 2 ^ 96 = (v * 2 ^ 32 + 0 * inc) % 2 ^ 96 by rw [Nat.zero_mul, Nat.add_zero]]
  simp only [h]
  generalize (v * 2 ^ 32 + 0 * inc) % 2 ^ 96 = x
  split
  · exact (TimeState.setCt_pt _ _).trans (TimeState.loadCt_pt _ _ _)
  · rfl

/-- The ticks up to a goal reach it, and stay below the goal by an increment (R70). -/
theorem ticksUp_reaches {inc now goal : Nat} (hi : 0 < inc) (hg : now < goal) :
    goal ≤ now + ticksUp inc now goal * inc ∧ now + ticksUp inc now goal * inc < goal + inc := by
  have h1 := Nat.div_add_mod (goal - now + inc - 1) inc
  have h2 := Nat.mod_lt (goal - now + inc - 1) hi
  unfold ticksUp
  rw [if_neg (by omega), Nat.mul_comm]
  omega

/-- While the clock runs and no load of CT is pending, the ticks to a goal bring CT to it, and less than an increment past
it. -/
theorem State.advance_ticksToCt {s : State} {goal : Nat} (hc : s.clockOn = true) (hl : s.time.ctLoad = none)
    (hi : 0 < s.time.ctInc) (hg : goal + s.time.ctInc < 2 ^ 96) :
    goal ≤ (s.advance (s.ticksToCt goal)).time.ct ∧
      (s.time.ct < goal → (s.advance (s.ticksToCt goal)).time.ct < goal + s.time.ctInc) := by
  have ht : s.ticksToCt goal = ticksUp s.time.ctInc s.time.ct goal := by unfold State.ticksToCt; rw [hl]
  rw [ht]
  by_cases hr : goal ≤ s.time.ct
  · have h0 : ticksUp s.time.ctInc s.time.ct goal = 0 := if_pos (.inl hr)
    rw [h0]
    exact ⟨hr, fun h => absurd hr (by omega)⟩
  · obtain ⟨hlo, hhi⟩ := ticksUp_reaches hi (by omega : s.time.ct < goal)
    cases hk : ticksUp s.time.ctInc s.time.ct goal with
    | zero => rw [hk] at hlo; omega
    | succ k =>
      rw [hk] at hlo hhi
      rw [(State.advance_succ_counters hc k).1, TimeState.tick_ct (t := s.time.fresh) hl]
      show goal ≤ (s.time.ct + (k + 1) * s.time.ctInc) % 2 ^ 96 ∧ (_ → (s.time.ct + (k + 1) * s.time.ctInc) % 2 ^ 96 < _)
      rw [Nat.mod_eq_of_lt (by omega)]
      exact ⟨hlo, fun _ => hhi⟩

/-! ### Writes of 64-bit values -/

theorem State.rg_setRg64_other (s : State) (lo hi r : Reg) (i v i' j' : Nat) (h1 : r.addr i' j' ≠ lo.addr i 0)
    (h2 : r.addr i' j' ≠ hi.addr i 0) : (s.setRg64 lo hi i v).rg r i' j' = s.rg r i' j' := by
  unfold State.setRg64
  rw [State.rg_setRg_other _ _ _ _ _ _ _ _ h2, State.rg_setRg_other _ _ _ _ _ _ _ _ h1]

/-- A 64-bit value reads back from its two registers. -/
theorem State.rg64_setRg64 (s : State) (lo hi : Reg) (i v : Nat) (h : lo.addr i 0 ≠ hi.addr i 0) :
    (s.setRg64 lo hi i v).rg64 lo hi i = v % 2 ^ 64 := by
  unfold State.rg64 State.setRg64
  rw [State.rg_setRg, State.rg_setRg_other _ _ _ _ _ _ _ _ h, State.rg_setRg]
  omega

/-- Whether the clock runs is read from CLK_STAT (R53, R61). -/
theorem State.clockOn_of_rg {s t : State} (h : t.rg .CLK_STAT = s.rg .CLK_STAT) : t.clockOn = s.clockOn := by
  unfold State.clockOn State.flag State.fd
  rw [show t.rg F.CLK_STAT_PLL_LOCK.reg 0 0 = s.rg F.CLK_STAT_PLL_LOCK.reg 0 0 from h,
    show t.rg F.CLK_STAT_HOLDOVER.reg 0 0 = s.rg F.CLK_STAT_HOLDOVER.reg 0 0 from h]

/-- The _LO half that a write of _HI takes: the requester's held value, else the present _LO (R10, R612). -/
def State.heldLo (s : State) (q : Requester) (r : Reg) : Nat :=
  (Tab.get (fun _ => none) s.holds (latchKey q (r.addr 0 0))).getD (s.rg r)

theorem State.takeLo_fst (s : State) (q : Requester) (r : Reg) : (s.takeLo q r 0).1 = s.heldLo q r := rfl

/-! ### The writes of CT and PT -/

/-- `t` is `s` with its register file and its holds replaced, CLK_STAT and with it the running clock as before. -/
def State.afterPair (s t : State) : Prop :=
  (∃ R H, t = { s with regs := R, holds := H }) ∧ t.clockOn = s.clockOn

/-- What a write of a pair does to the state beside its own effect (R10). -/
theorem State.afterPair_setRg64 (s : State) (q : Requester) (lo hi : Reg) (v : Nat)
    (h1 : Reg.addr .CLK_STAT 0 0 ≠ lo.addr 0 0) (h2 : Reg.addr .CLK_STAT 0 0 ≠ hi.addr 0 0) :
    s.afterPair ((s.takeLo q lo 0).2.setRg64 lo hi 0 v) :=
  ⟨⟨_, _, rfl⟩, State.clockOn_of_rg (State.rg_setRg64_other _ _ _ _ _ _ _ _ h1 h2)⟩

theorem State.takeLo_anyPort (s : State) (q : Requester) (r : Reg) : (s.takeLo q r 0).2.anyPort = s.anyPort := rfl

/-- A load of CT waits for the next tick, where no port is enabled (R10, R64). -/
theorem writeCtSet_spec (q : Requester) (v : Word) {s : State} (h : s.anyPort = false) : ∃ u, s.afterPair u ∧
    writeCtSet q v s =
      { u with time := { u.time with ctLoad := some (v.toNat * 2 ^ 32 + s.heldLo q .TIM_CT_SET_LO) } } := by
  refine ⟨_, s.afterPair_setRg64 q .TIM_CT_SET_LO .TIM_CT_SET_HI (v.toNat * 2 ^ 32 + s.heldLo q .TIM_CT_SET_LO)
    (by decide) (by decide), ?_⟩
  unfold writeCtSet
  dsimp only
  rw [State.takeLo_anyPort, h, if_neg Bool.false_ne_true, State.takeLo_fst]

/-- A load of PT waits for the next tick (R10, R69). -/
theorem writePtSet_spec (q : Requester) (v : Word) (s : State) : ∃ u, s.afterPair u ∧ writePtSet q v s =
    ({ u with time := { u.time with ptLoad := some (v.toNat * 2 ^ 32 + s.heldLo q .TIM_PT_SET_LO) } } : State).ptTouched := by
  refine ⟨_, s.afterPair_setRg64 q .TIM_PT_SET_LO .TIM_PT_SET_HI (v.toNat * 2 ^ 32 + s.heldLo q .TIM_PT_SET_LO)
    (by decide) (by decide), ?_⟩
  unfold writePtSet
  rw [← State.takeLo_fst]

/-- An increment within the window is taken (R10, R67). -/
theorem writePtInc_spec {q : Requester} {v : Word} {s : State}
    (h : ptIncOk (v.toNat % 2 ^ 8 * 2 ^ 32 + s.heldLo q .TIM_PT_INC_LO) = true) : ∃ u, s.afterPair u ∧
    u.ptIncReg = (v.toNat % 2 ^ 8 * 2 ^ 32 + s.heldLo q .TIM_PT_INC_LO) % 2 ^ 64 ∧ writePtInc q v s = u.ptTouched :=
  ⟨_, s.afterPair_setRg64 q _ _ _ (by decide) (by decide), State.rg64_setRg64 _ _ _ _ _ (by decide), if_pos h⟩

/-- CT_SET that is let through while no port is enabled (R10, R64). -/
theorem exec_ctSet_spec {s : State} {q : Requester} (v : Word) (hg : s.grants q .TIM_CT_SET_HI = true)
    (hp : s.anyPort = false) : ∃ t, exec (.ctSet q v) s = .next t ∧
      t.time = { s.time with ctLoad := some (v.toNat * 2 ^ 32 + s.heldLo q .TIM_CT_SET_LO) } ∧ t.cores = s.cores ∧
      t.mem = s.mem ∧ (s.clockOn = true →
        (t.advance 1).time.ct = (v.toNat * 2 ^ 32 + s.heldLo q .TIM_CT_SET_LO) * 2 ^ 32 % 2 ^ 96) := by
  obtain ⟨u, ⟨⟨R, H, hu⟩, hclk⟩, hw⟩ := writeCtSet_spec q v hp
  have he : exec (.ctSet q v) s = .next (writeCtSet q v s) := State.write_of_grants _ hg
  rw [hw] at he
  generalize v.toNat * 2 ^ 32 + s.heldLo q .TIM_CT_SET_LO = x at he ⊢
  refine ⟨_, he, by rw [hu], by rw [hu], by rw [hu], fun hc => ?_⟩
  have hon : State.clockOn { u with time := { u.time with ctLoad := some x } } = true := hclk.trans hc
  rw [(State.advance_succ_counters hon 0).1]
  exact TimeState.tick_ct_load rfl _

/-- PT_SET that is let through (R10, R69). -/
theorem exec_ptSet_spec {s : State} {q : Requester} (v : Word) (hg : s.grants q .TIM_PT_SET_HI = true) :
    ∃ t, exec (.ptSet q v) s = .next t ∧
      t.time = { s.time with ptLoad := some (v.toNat * 2 ^ 32 + s.heldLo q .TIM_PT_SET_LO), ptWriteAt := s.time.ct } ∧
      t.mem = s.mem ∧ (s.clockOn = true →
        (t.advance 1).time.pt = (v.toNat * 2 ^ 32 + s.heldLo q .TIM_PT_SET_LO) * 2 ^ 32 % 2 ^ 96) := by
  obtain ⟨u, ⟨⟨R, H, hu⟩, hclk⟩, hw⟩ := writePtSet_spec q v s
  have he : exec (.ptSet q v) s = .next (writePtSet q v s) := State.write_of_grants _ hg
  rw [hw] at he
  generalize v.toNat * 2 ^ 32 + s.heldLo q .TIM_PT_SET_LO = x at he ⊢
  refine ⟨_, he, by rw [hu]; rfl, by rw [hu]; rfl, fun hc => ?_⟩
  have hon : ({ u with time := { u.time with ptLoad := some x } } : State).ptTouched.clockOn = true := hclk.trans hc
  rw [(State.advance_succ_counters hon 0).2]
  exact TimeState.tick_pt_load rfl _

/-- PT_INC_SET that is let through, of an increment within the window (R10, R67). -/
theorem exec_ptIncSet_spec {s : State} {q : Requester} {v : Word} (hg : s.grants q .TIM_PT_INC_HI = true)
    (hok : ptIncOk (v.toNat % 2 ^ 8 * 2 ^ 32 + s.heldLo q .TIM_PT_INC_LO) = true) :
    ∃ t, exec (.ptIncSet q v) s = .next t ∧ t.ptIncReg = v.toNat % 2 ^ 8 * 2 ^ 32 + s.heldLo q .TIM_PT_INC_LO ∧
      t.time = { s.time with ptWriteAt := s.time.ct } ∧ t.mem = s.mem := by
  obtain ⟨u, ⟨⟨R, H, hu⟩, -⟩, hinc, hw⟩ := writePtInc_spec hok
  have he : exec (.ptIncSet q v) s = .next (writePtInc q v s) := State.write_of_grants _ hg
  rw [hw] at he
  simp only [ptIncOk, decide_eq_true_eq] at hok
  refine ⟨_, he, ?_, by rw [hu]; rfl, by rw [State.ptTouched_mem, hu]⟩
  rw [State.ptIncReg_of_regs (State.ptTouched_regs u), hinc, Nat.mod_eq_of_lt (by omega)]

/-- PT_ADJ that is let through (R68). -/
theorem exec_ptAdj_spec {s : State} {q : Requester} (v : Word) (hg : s.grants q .TIM_PT_ADJ = true) :
    exec (.ptAdj q v) s =
      .next { s with time := { s.time with ptAdj := s.time.ptAdj + v.toInt, ptWriteAt := s.time.ct } } :=
  State.write_of_grants _ hg

/-! ### The validity timeout (R70) -/

/-- PT_VALID_TIMEOUT with a timeout set and PT valid: time passes until VTO seconds after the last accepted PT write. -/
theorem exec_ptValidTimeout_eq {s : State} (hv : s.fd F.TIM_PT_CTL_VTO ≠ 0) (hf : s.flag F.TIM_PT_CTL_VALID = true) :
    exec .ptValidTimeout s = .next (((s.advance (s.ticksToCt (s.time.ptWriteAt +
      s.fd F.TIM_PT_CTL_VTO * 1000000000 * 2 ^ 32))).setFd F.TIM_PT_CTL_VALID 0 0 0).raise F.TIM_PT_CTL_STALE
        F.TIM_PT_CTL_STALE_CNT 0 0) :=
  if_pos ⟨hv, hf⟩

/-- The fields of TIM_PT_CTL when PT becomes stale: VALID, STALE and its count (R70). -/
theorem State.fd_stale (s : State) :
    let t := (s.setFd F.TIM_PT_CTL_VALID 0 0 0).raise F.TIM_PT_CTL_STALE F.TIM_PT_CTL_STALE_CNT 0 0
    t.fd F.TIM_PT_CTL_VALID = 0 ∧ t.fd F.TIM_PT_CTL_STALE = 1 ∧
      t.fd F.TIM_PT_CTL_STALE_CNT = satInc 8 (s.fd F.TIM_PT_CTL_STALE_CNT) := by
  dsimp only
  unfold State.raise State.raiseFlag
  refine ⟨?_, ?_, ?_⟩
  · rw [State.fd_incFd_field _ F.TIM_PT_CTL_STALE_CNT F.TIM_PT_CTL_VALID _ _ (by decide) rfl (by decide),
      State.fd_noteRaise, State.fd_setFd_field _ F.TIM_PT_CTL_STALE F.TIM_PT_CTL_VALID _ _ _ (by decide) rfl (by decide),
      State.fd_setFd _ _ _ _ _ (by decide)]
    rfl
  · rw [State.fd_incFd_field _ F.TIM_PT_CTL_STALE_CNT F.TIM_PT_CTL_STALE _ _ (by decide) rfl (by decide),
      State.fd_noteRaise,
      State.fd_setFd _ _ _ _ _ (by decide)]
    rfl
  · rw [State.fd_incFd _ _ _ _ (by decide), State.fd_noteRaise,
      State.fd_setFd_field _ F.TIM_PT_CTL_STALE F.TIM_PT_CTL_STALE_CNT _ _ _ (by decide) rfl (by decide),
      State.fd_setFd_field _ F.TIM_PT_CTL_VALID F.TIM_PT_CTL_STALE_CNT _ _ _ (by decide) rfl (by decide)]
    rfl

/-- Settles O20: each write waits in the counters as its own function says (`writeCtSet_spec`, `writePtSet_spec`,
`writePtInc_spec`), and the tick applies it (`TimeState.tick_ct_load`, `TimeState.tick_pt_load`); the timeout is the
passing of time to its goal (`State.advance_ticksToCt`). -/
theorem timeWrites : Obligations.TimeWrites := by
  unfold Obligations.TimeWrites
  intro s q v
  refine ⟨exec_ctSet_spec v, exec_ptIncSet_spec, fun hg => ⟨_, exec_ptAdj_spec v hg, rfl⟩, exec_ptSet_spec v,
    fun hv hf => ?_⟩
  obtain ⟨h1, h2, h3⟩ := State.fd_stale (s.advance (s.ticksToCt (s.time.ptWriteAt +
    s.fd F.TIM_PT_CTL_VTO * 1000000000 * 2 ^ 32)))
  refine ⟨_, exec_ptValidTimeout_eq hv hf, h1, h2, ?_, ?_, fun hc hl hi _ hg => ?_⟩
  · rw [h3, State.fd_advance _ _ _ _ _ (by decide) (by decide)]
  · exact State.advance_mem _ _
  · exact State.advance_ticksToCt hc hl hi hg

end Sys2Proof.Machine

/-!
## The cell: arm groups, placement, and the cycles

Both statements fail, each at one clause that leaves out what another rule does in the same command. The states below are
sound ones (`State.sound`), and evaluating the model on them gives the refuting outcome.
-/

namespace Sys2Proof.Machine

/-- What a function of the state gives after a command; none where the command answers no next state. -/
def afterNext {α : Type} (f : State → α) : Host.Outcome State Fault Refusal → Option α
  | .next t => some (f t)
  | _ => none

/-! ### The journal entry at the end of a path (R320, R584, R652) -/

/-- The result of slot 0 that covers arm group 0 and is valid from CT 500,000 ns, its token deposited before. -/
def groupZeroResult : KnResult :=
  { slot := 0, result := 0, addr := 0x10200000, len := 64, vf := 500000, groups := 1, doneAt := 400000 }

/-- Arm group 0 stops on the path of the plan in force, which ends at CT 256 ns, and vector 0 selects journal entries. -/
def pathEndingState : State :=
  let s : State := { State.reset with
    cell := { State.reset.cell with ags := [(0, { agReset with stopping := true })] }
    kn := { knReset with adopted := some groupZeroResult }
    mem := { State.reset.mem with sram := [(0x200011, 1#8)] } }
  (((s.setFd F.CLK_STAT_PLL_LOCK 0 0 1).setFd F.GLOBAL_AG_EN_EN 0 0 1).setRg .KN_PLAN_ADR 0 0 0x10200000).setFd
    F.HS_VECv_CTL_SRC 0 0 1

theorem pathEndingState_sound : pathEndingState.sound = true := by decide +kernel

/-- The hypotheses of the clause on the end of a path hold: arm group 0 has no standstill and no category 1 stop yet. -/
theorem pathEndingState_premises : pathEndingState.agEnabled 0 = true ∧ (pathEndingState.ag 0).stopping = true ∧
    pathEndingState.pathEnd = some 256 ∧ (pathEndingState.ag 0).cat1 = false ∧
    pathEndingState.kn.adopted = some groupZeroResult := by decide +kernel

/-- Time alone notes no event. -/
theorem pathEndingState_advance_raised : (pathEndingState.advanceTo 256).time.raised = [] := by decide +kernel

/-- The journal entry of the stop sets the pending bit of vector 0, which is noted with the present tick (R7, R584). -/
theorem pathEndStop_notes_vector : afterNext (fun t => t.time.raised) (exec (.pathEndStop 0) pathEndingState) =
    some [(Reg.addr .HS_VPEND_LO 0 0, 0)] := by decide +kernel

/-- Refutes O49 at its clause on PATH_END_STOP: the time is not that of the advance alone, for the journal entry of the
stop pends a vector that selects it, and the note of that pending bit belongs to the time of the tick. -/
theorem not_armGroupsAndPlacement : ¬ Obligations.ArmGroupsAndPlacement := by
  unfold Obligations.ArmGroupsAndPlacement
  intro h
  obtain ⟨-, -, hstop, -⟩ := h pathEndingState .host 0 0 (by decide)
  obtain ⟨hen, hst, hend, hcat, had⟩ := pathEndingState_premises
  obtain ⟨t, he, -, -, htime, -⟩ := (hstop hen hst).2 256 groupZeroResult hend hcat had rfl
  have hnoted := pathEndStop_notes_vector
  rw [he, afterNext, htime, pathEndingState_advance_raised] at hnoted
  cases hnoted

/-! ### The queued points of a superseded plan (R45, R317) -/

/-- Arm group 0 in CREDIT mode, with the points of two base cycles queued. -/
def twoPointsQueued : AgState :=
  { agReset with pace := true, credit := 2, enAtStart := true, queue := [(8, 0), (9, 0)] }

/-- Base cycle 7 past its CUTOFF, before a plan-cycle start at which a new plan of arm group 0 is due to be adopted. The
arm group is enabled on slice 0, which is ON, with PACE CREDIT, CREDIT 2 and LATE_LIMIT 3 in its record. -/
def planDueState : State :=
  let s : State := { State.reset with
    time := { timeReset with ct := 499000 * 2 ^ 32, bcn := 7, bcStart := 437500, cutoffDone := true, planDone := true,
                             superDone := true }
    cell := { State.reset.cell with ags := [(0, twoPointsQueued)] }
    kn := { knReset with results := [groupZeroResult] }
    kl := { klReset with stepIds := true }
    mem := { State.reset.mem with sram := [(3, 1#8), (6, 2#8), (7, 3#8)] } }
  ((s.setFd F.CLK_STAT_PLL_LOCK 0 0 1).setFd F.GLOBAL_AG_EN_EN 0 0 1).setFd F.PW_DOMd_STAT_STATE 0 0 0

theorem planDueState_sound : planDueState.sound = true := by decide +kernel

/-- The hypotheses of the clause on the start of the next base cycle hold. -/
theorem planDueState_premises : planDueState.clockOn = true ∧ planDueState.time.ctLoad = none ∧
    planDueState.time.noBase = false ∧ planDueState.time.startDone = true ∧ planDueState.time.cutoffDone = true ∧
    planDueState.fd F.TIM_CYCLE_BASE = planDueState.time.base := by decide +kernel

/-- The adoption at the start discards both queued points; the consumer finds none to take. -/
theorem baseCycleStart_discards_queue : afterNext (fun t => (t.ag 0).queue) (exec .baseCycleStart planDueState) =
    some [] := by decide +kernel

/-- Refutes O50 at its clause on the start of the next base cycle: where a plan-cycle start adopts a new plan, the queue
is not the old one without its head, for the points of the superseded plan are discarded before the consumer takes one. -/
theorem not_cyclesOfTheCell : ¬ Obligations.CyclesOfTheCell := by
  unfold Obligations.CyclesOfTheCell
  intro h
  obtain ⟨hclk, hload, hbase, hstart, hcut, hlen⟩ := planDueState_premises
  obtain ⟨-, -, hnext, -⟩ := h planDueState 0 (by decide) hclk hload
  obtain ⟨t, he, -, -, -, -, -, -, hqueue, -⟩ := hnext hbase hstart hcut hlen
  have hempty := baseCycleStart_discards_queue
  rw [he, afterNext, hqueue] at hempty
  exact absurd hempty (by decide +kernel)

end Sys2Proof.Machine

/-!
## Fields and frames of the shared operations
-/

namespace Sys2Proof.Machine

/-! ### A field after another one is written -/

/-- Two field instances share no bit of a register. -/
def Field.apart (f : Field) (i j : Nat) (g : Field) (i' j' : Nat) : Bool :=
  decide (g.reg.addr i' j' ≠ f.reg.addr i j) ||
    (decide (g.reg = f.reg) && decide (i' = i) && decide (j' = j) && decide (g.hi < f.lo ∨ f.hi < g.lo))

theorem Field.apart_of_addr {f g : Field} {i j i' j' : Nat} (h : g.reg.addr i' j' ≠ f.reg.addr i j) :
    f.apart i j g i' j' = true := by
  rw [Field.apart, decide_eq_true h, Bool.true_or]

theorem State.fd_setFd_apart {s : State} {f g : Field} {i j i' j' v : Nat} (hf : f.ok = true)
    (h : f.apart i j g i' j' = true) : (s.setFd f i j v).fd g i' j' = s.fd g i' j' := by
  simp only [Field.apart, Bool.or_eq_true, Bool.and_eq_true, decide_eq_true_eq] at h
  rcases h with h | ⟨⟨⟨hr, rfl⟩, rfl⟩, hd⟩
  · exact State.fd_setFd_reg _ _ _ _ _ _ _ _ h
  · exact State.fd_setFd_field _ _ _ _ _ _ hf hr hd

/-- A written value that fits reads back. -/
theorem State.fd_setFd_of_lt {s : State} {f : Field} {i j v : Nat} (hf : f.ok = true) (hv : v < 2 ^ (f.hi + 1 - f.lo)) :
    (s.setFd f i j v).fd f i j = v := by
  rw [State.fd_setFd _ _ _ _ _ hf, Nat.mod_eq_of_lt hv]

theorem State.fd_incFd_apart {s : State} {f g : Field} {i j i' j' : Nat} (hf : f.ok = true)
    (h : f.apart i j g i' j' = true) : (s.incFd f i j).fd g i' j' = s.fd g i' j' := State.fd_setFd_apart hf h

theorem State.fd_raiseFlag_apart {s : State} {f g : Field} {i j i' j' : Nat} (hf : f.ok = true)
    (h : f.apart i j g i' j' = true) : (s.raiseFlag f i j).fd g i' j' = s.fd g i' j' :=
  State.fd_setFd_apart (s := s) hf h

theorem State.fd_raiseFlag {s : State} {f : Field} {i j : Nat} (hf : f.ok = true) : (s.raiseFlag f i j).fd f i j = 1 :=
  State.fd_setFd_of_lt (s := s) hf (Nat.one_lt_two_pow (by
    simp only [Field.ok, Bool.and_eq_true, decide_eq_true_eq] at hf; omega))

theorem State.rg_raiseFlag_other {s : State} {f : Field} {i j i' j' : Nat} {r : Reg} (h : r.addr i' j' ≠ f.reg.addr i j) :
    (s.raiseFlag f i j).rg r i' j' = s.rg r i' j' := State.rg_setRg_other s f.reg r i j i' j' _ h

theorem State.rg_raise_other {s : State} {f c : Field} {i j i' j' : Nat} {r : Reg} (h1 : r.addr i' j' ≠ f.reg.addr i j)
    (h2 : r.addr i' j' ≠ c.reg.addr i j) : (s.raise f c i j).rg r i' j' = s.rg r i' j' :=
  (State.rg_setRg_other (s.raiseFlag f i j) c.reg r i j i' j' _ h2).trans (State.rg_raiseFlag_other h1)

/-- A flag that an event raises reads 1 (R7). -/
theorem State.fd_raise_flag {s : State} {f c : Field} {i j : Nat} (hf : f.ok = true) (hc : c.ok = true)
    (h : c.apart i j f i j = true) : (s.raise f c i j).fd f i j = 1 :=
  (State.fd_incFd_apart hc h).trans (State.fd_raiseFlag hf)

/-- The counter of an event counts it (R7, R614). -/
theorem State.fd_raise_count {s : State} {f c : Field} {i j : Nat} (hf : f.ok = true) (hc : c.ok = true)
    (h : f.apart i j c i j = true) : (s.raise f c i j).fd c i j = satInc (c.hi + 1 - c.lo) (s.fd c i j) := by
  rw [State.raise, State.fd_incFd _ _ _ _ hc, State.fd_raiseFlag_apart hf h]

theorem State.fd_raise_apart {s : State} {f c g : Field} {i j i' j' : Nat} (hf : f.ok = true) (hc : c.ok = true)
    (h1 : f.apart i j g i' j' = true) (h2 : c.apart i j g i' j' = true) : (s.raise f c i j).fd g i' j' = s.fd g i' j' :=
  (State.fd_incFd_apart hc h2).trans (State.fd_raiseFlag_apart hf h1)

theorem State.fd_of_regs {s t : State} (h : t.regs = s.regs) (f : Field) (i j : Nat) : t.fd f i j = s.fd f i j := by
  rw [State.fd, State.rg_of_regs h, State.fd]

theorem State.flag_congr {s t : State} {f : Field} {i j : Nat} (h : t.fd f i j = s.fd f i j) :
    t.flag f i j = s.flag f i j := by
  unfold State.flag; rw [h]

/-! ### Interrupt vectors and the journal (R563, R584) -/

/-- Nothing differs but registers, messages, and the notes of the tick. -/
def State.pended (s t : State) : Prop :=
  t = { s with regs := t.regs, hs := { s.hs with msix := t.hs.msix }, time := { s.time with raised := t.time.raised } }

theorem State.pended_refl (s : State) : s.pended s := rfl

theorem State.pended_trans {s t u : State} (h1 : s.pended t) (h2 : t.pended u) : s.pended u := by
  unfold State.pended at *
  calc u = _ := h2
    _ = _ := by rw [h1]

theorem State.pended_of_sets {s t : State} {fs : List (Field × Nat)} (h : s.sets t fs) : s.pended t := by
  have hm : t.hs.msix = s.hs.msix := by rw [h.1]
  unfold State.pended
  rw [hm]
  exact h.1

theorem State.pended_incFd {s t : State} (h : s.pended t) (f : Field) (i j : Nat) : s.pended (t.incFd f i j) :=
  State.pended_trans h rfl

theorem State.pended_noteRaise {s t : State} (h : s.pended t) (off b : Nat) : s.pended (t.noteRaise off b) :=
  State.pended_trans h rfl

theorem State.pended_pendVector (s : State) (v : Nat) : s.pended (s.pendVector v) := by
  have hinc : s.pended (s.incFd F.HS_VCNTv_VALUE v 0) := State.pended_incFd s.pended_refl _ _ _
  unfold State.pendVector
  dsimp only
  generalize (if v < 32 then Reg.HS_VPEND_LO else .HS_VPEND_HI) = r
  have hu : s.pended (if s.time.cleared.contains (r.addr 0 0, v % 32) then s.incFd F.HS_VCNTv_VALUE v 0 else s) := by
    split
    · exact hinc
    · exact s.pended_refl
  generalize (if s.time.cleared.contains (r.addr 0 0, v % 32) then s.incFd F.HS_VCNTv_VALUE v 0 else s) = u at hu ⊢
  split
  · exact State.pended_noteRaise (State.pended_noteRaise (State.pended_incFd hu _ _ _) _ _) _ _
  · exact State.pended_trans hu rfl

/-- What an event of a vector source changes (R584). -/
theorem State.pended_vectorEvent (s : State) (src cls : Nat) : s.pended (s.vectorEvent src cls) := by
  unfold State.vectorEvent
  split
  · induction List.range 64 using List.reverseRecOn with
    | nil => exact s.pended_refl
    | append_singleton l v ih =>
      rw [List.foldl_append, List.foldl_cons, List.foldl_nil]
      split
      · exact State.pended_trans ih (State.pended_pendVector _ _)
      · exact ih
  · exact s.pended_refl

/-- Nothing differs but registers, the journal, messages, and the notes of the tick. -/
def State.noted (s t : State) : Prop :=
  t = { s with regs := t.regs, jnl := t.jnl, hs := { s.hs with msix := t.hs.msix },
               time := { s.time with raised := t.time.raised } }

theorem State.noted_of_pended {s t : State} (h : s.pended t) : s.noted t := by
  unfold State.pended at h
  have hj : t.jnl = s.jnl := by rw [h]
  unfold State.noted
  rw [hj]
  exact h

theorem State.noted_setJnl (s : State) (j : JnlState) : s.noted { s with jnl := j } := rfl

theorem State.noted_trans {s t u : State} (h1 : s.noted t) (h2 : t.noted u) : s.noted u := by
  unfold State.noted at *
  calc u = _ := h2
    _ = _ := by rw [h1]

/-- What a journal entry changes (R563). -/
theorem State.noted_journal (s : State) (ev blk code cls : Nat) (d : List Nat) : s.noted (s.journal ev blk code cls d) := by
  unfold State.journal
  dsimp only
  split
  · rfl
  · split
    · rfl
    · exact State.noted_trans (s.noted_setJnl _) (State.noted_of_pended (State.pended_vectorEvent _ 1 cls))

/-- A set of fields and a journal entry after it. -/
theorem State.notes_journal {s t : State} {fs : List (Field × Nat)} (h : s.sets t fs) (ev blk code cls : Nat)
    (d : List Nat) : s.notes (t.journal ev blk code cls d) fs := by
  obtain ⟨ht, hf⟩ := h
  exact ⟨State.noted_trans (State.noted_of_pended (State.pended_of_sets ⟨ht, hf⟩)) (State.noted_journal t ev blk code cls d),
    State.onlyFields_journal (fun off b _ hl => hf off b rfl hl) ev blk code cls d⟩

/-- A flag and its counter that are listed may be raised. -/
theorem State.sets_raise {s t : State} {fs : List (Field × Nat)} (h : s.sets t fs) (f c : Field) (i : Nat)
    (hf : f.ok = true) (hm : (f, i) ∈ fs) (hc : c.ok = true) (hn : (c, i) ∈ fs) : s.sets (t.raise f c i 0) fs :=
  State.sets_incFd (State.sets_noteRaise (State.sets_setFd h f i 1 hf hm) _ _) c i hc hn

end Sys2Proof.Machine

/-!
## The root's references, monitors and dividers
-/

namespace Sys2Proof.Machine

/-! ### Writes of CLK_REF (R53, R54, R648) -/

/-- What a write by the access types puts into a read-write field. -/
theorem State.fd_plainWrite_rw {s : State} {f : Field} {i j v : Nat} (hf : f.ok = true)
    (h : ∀ k, k < 32 → f.lo ≤ k → k ≤ f.hi → f.reg.row.rw.testBit k = true) :
    (s.plainWrite f.reg i j v).fd f i j = f.of v := by
  simp only [Field.ok, Bool.and_eq_true, decide_eq_true_eq] at hf
  refine Nat.eq_of_testBit_eq fun k => ?_
  rw [State.fd, Field.of, bits_testBit, bits_testBit]
  by_cases hk : k < f.hi + 1 - f.lo
  · rw [State.testBit_plainWrite _ _ _ _ _ (by omega), h _ (by omega) (by omega) (by omega), if_pos rfl]
  · simp [hk]

/-- A write by the access types changes only the fields that cover its writable bits. -/
theorem State.onlyFields_plainWrite (s : State) (r : Reg) (i v : Nat) {own : Nat → Bool} {fs : List (Field × Nat)}
    (h : ∀ b, b < 32 → (r.row.rw.testBit b || r.row.w1c.testBit b) = true →
      ∃ f ∈ fs, r.addr i 0 = f.1.reg.addr f.2 0 ∧ f.1.lo ≤ b ∧ b ≤ f.1.hi) :
    s.onlyFields (s.plainWrite r i 0 v) own fs := by
  intro off b _ hl
  by_cases hb : b < 32
  · by_cases ho : off = r.addr i 0
    · subst ho
      have hn : (r.row.rw.testBit b || r.row.w1c.testBit b) = false := by
        by_contra hc
        obtain ⟨f, hf, ha, h1, h2⟩ := h b hb (by rwa [Bool.not_eq_false] at hc)
        have := hl f hf ha
        omega
      obtain ⟨h1, h2⟩ := Bool.or_eq_false_iff.mp hn
      have := s.testBit_plainWrite r i 0 v hb
      rw [h1, h2, if_neg Bool.false_ne_true, Bool.false_and, Bool.false_and, Bool.not_false, Bool.and_true] at this
      simpa only [State.rg, BitVec.testBit_toNat] using this
    · rw [State.regs_plainWrite _ _ _ _ _ _ ho]
  · rw [BitVec.getLsbD_of_ge _ _ (by omega), BitVec.getLsbD_of_ge _ _ (by omega)]

/-- The PLL locked to a source: ACTIVE, HOLDOVER and PLL_LOCK (R53). -/
theorem State.fd_lockTo (s : State) {src : Nat} (h : src < 4) : (s.lockTo src).fd F.CLK_REF_ACTIVE = src ∧
    (s.lockTo src).fd F.CLK_STAT_HOLDOVER = 0 ∧ (s.lockTo src).fd F.CLK_STAT_PLL_LOCK = 1 := by
  unfold State.lockTo
  have h2 : ∀ t : State, (t.setFd F.CLK_REF_ACTIVE 0 0 src).fd F.CLK_REF_ACTIVE = src :=
    fun t => State.fd_setFd_of_lt (by decide) h
  simp (disch := decide) only [State.fd_setFd_apart, State.fd_setFd_of_lt, h2, and_self]

theorem State.sets_lockTo {s t : State} {fs : List (Field × Nat)} (h : s.sets t fs) (src : Nat)
    (h1 : (F.CLK_REF_ACTIVE, 0) ∈ fs) (h2 : (F.CLK_STAT_HOLDOVER, 0) ∈ fs) (h3 : (F.CLK_STAT_PLL_LOCK, 0) ∈ fs) :
    s.sets (t.lockTo src) fs :=
  State.sets_setFd (State.sets_setFd (State.sets_setFd h _ 0 _ (by decide) h1) _ 0 _ (by decide) h2) _ 0 _ (by decide) h3

/-- REF_SELECT that is let through, of a source that is present (R53, R54, R648). -/
theorem exec_refSelect_spec {s : State} {q : Requester} {v : Word} (hg : s.grants q .CLK_REF = true)
    (h3 : F.CLK_REF_SEL.of v.toNat ≠ 3) (hp : s.refPresent (F.CLK_REF_SEL.of v.toNat) = true) :
    ∃ t, exec (.refSelect q v) s = .next t ∧ t.fd F.CLK_REF_SEL = F.CLK_REF_SEL.of v.toNat ∧
      t.fd F.CLK_REF_FALLBACK = F.CLK_REF_FALLBACK.of v.toNat ∧
      (F.CLK_REF_SEL.of v.toNat ≠ s.fd F.CLK_REF_SEL → t.fd F.CLK_REF_ACTIVE = F.CLK_REF_SEL.of v.toNat ∧
        t.fd F.CLK_STAT_HOLDOVER = 0 ∧ t.fd F.CLK_STAT_PLL_LOCK = 1) ∧
      s.sets t [(F.CLK_REF_SEL, 0), (F.CLK_REF_FALLBACK, 0), (F.CLK_REF_ACTIVE, 0), (F.CLK_STAT_HOLDOVER, 0),
        (F.CLK_STAT_PLL_LOCK, 0)] := by
  have he : exec (.refSelect q v) s = .next (writeClkRef q v s) := State.write_of_grants _ hg
  have hsel : (s.plainWrite .CLK_REF 0 0 v.toNat).fd F.CLK_REF_SEL = F.CLK_REF_SEL.of v.toNat :=
    State.fd_plainWrite_rw (f := F.CLK_REF_SEL) (by decide) (by decide)
  have hfall : (s.plainWrite .CLK_REF 0 0 v.toNat).fd F.CLK_REF_FALLBACK = F.CLK_REF_FALLBACK.of v.toNat :=
    State.fd_plainWrite_rw (f := F.CLK_REF_FALLBACK) (by decide) (by decide)
  have hsets : s.sets (s.plainWrite .CLK_REF 0 0 v.toNat) [(F.CLK_REF_SEL, 0), (F.CLK_REF_FALLBACK, 0),
      (F.CLK_REF_ACTIVE, 0), (F.CLK_STAT_HOLDOVER, 0), (F.CLK_STAT_PLL_LOCK, 0)] :=
    ⟨rfl, s.onlyFields_plainWrite _ _ _ (by decide)⟩
  refine ⟨_, he, ?_⟩
  unfold writeClkRef
  by_cases hk : s.keeps F.CLK_REF_SEL 0 0 v.toNat = true
  · have heq : F.CLK_REF_SEL.of v.toNat = s.fd F.CLK_REF_SEL := of_decide_eq_true hk
    rw [if_pos hk]
    exact ⟨hsel, hfall, fun h => absurd heq h, hsets⟩
  · have hlt : F.CLK_REF_SEL.of v.toNat < 4 := bits_lt _ _ _
    rw [if_neg hk, if_neg h3, if_neg (not_not_intro hp)]
    refine ⟨?_, ?_, fun _ => State.fd_lockTo _ hlt, State.sets_lockTo hsets _ (by simp) (by simp) (by simp)⟩
    · rw [← hsel]
      simp (disch := decide) only [State.lockTo, State.fd_setFd_apart]
    · rw [← hfall]
      simp (disch := decide) only [State.lockTo, State.fd_setFd_apart]

/-! ### The monitors (R53, R54, R58) -/

/-- The PLL enters holdover, with a journal entry (R53, R58). -/
theorem State.holdover_journal {s u : State} {fs : List (Field × Nat)} (h : s.sets u fs)
    (hm : (F.CLK_STAT_HOLDOVER, 0) ∈ fs) (d : List Nat) :
    let t := u.enterHoldover.journal 0x05 0x01 0x00 1 d
    t.fd F.CLK_STAT_HOLDOVER = 1 ∧ (∀ g : Field, vectorReg (g.reg.addr 0 0) = false →
      F.CLK_STAT_HOLDOVER.apart 0 0 g 0 0 = true → t.fd g = u.fd g) ∧ s.notes t fs := by
  refine ⟨?_, fun g hg ha => ?_, State.notes_journal (State.sets_setFd h _ 0 _ (by decide) hm) _ _ _ _ _⟩
  · rw [State.fd_journal _ _ _ _ _ _ _ _ _ (by decide)]
    exact State.fd_setFd_of_lt (by decide) (by decide)
  · rw [State.fd_journal _ _ _ _ _ _ _ _ _ hg]
    exact State.fd_setFd_apart (by decide) ha

theorem State.setFd_withExtRef (s : State) (x : Nat) (f : Field) (i j v : Nat) :
    ({ s with extRef := x } : State).setFd f i j v = { s.setFd f i j v with extRef := x } := rfl

theorem State.raise_withExtRef (s : State) (x : Nat) (f c : Field) (i j : Nat) :
    ({ s with extRef := x } : State).raise f c i j = { s.raise f c i j with extRef := x } := rfl

/-- REF_LOSS (R53, R58). -/
theorem exec_refLoss_spec (s : State) : ∃ t, exec .refLoss s = .next t ∧ t.fd F.CLK_STAT_REF_LOSS = 1 ∧
    t.fd F.CLK_STAT_HOLDOVER = 1 ∧ t.fd F.CLK_STAT_LOSS_CNT = satInc 8 (s.fd F.CLK_STAT_LOSS_CNT) ∧
    (s.fd F.CLK_REF_SEL ≠ 0 → t.fd F.CLK_STAT_EXT_PRESENT = 0) ∧
    (if s.fd F.CLK_REF_SEL = 0 then s else { s with extRef := 0 }).notes t
      [(F.CLK_STAT_REF_LOSS, 0), (F.CLK_STAT_LOSS_CNT, 0), (F.CLK_STAT_HOLDOVER, 0), (F.CLK_STAT_EXT_PRESENT, 0)] := by
  have hsel : (s.raise F.CLK_STAT_REF_LOSS F.CLK_STAT_LOSS_CNT 0 0).fd F.CLK_REF_SEL = s.fd F.CLK_REF_SEL :=
    State.fd_raise_apart (by decide) (by decide) (by decide) (by decide)
  have hraise : ∀ u : State, u.sets (u.raise F.CLK_STAT_REF_LOSS F.CLK_STAT_LOSS_CNT 0 0) [(F.CLK_STAT_REF_LOSS, 0),
      (F.CLK_STAT_LOSS_CNT, 0), (F.CLK_STAT_HOLDOVER, 0), (F.CLK_STAT_EXT_PRESENT, 0)] := fun u =>
    State.sets_raise (u.sets_refl _) _ _ 0 (by decide) (by simp) (by decide) (by simp)
  show ∃ t, execRefLoss s = .next t ∧ _
  unfold execRefLoss
  dsimp only
  rw [hsel]
  by_cases h0 : s.fd F.CLK_REF_SEL = 0
  · obtain ⟨hh, hu, hn⟩ := State.holdover_journal (hraise s) (by simp) [1]
    rw [if_pos h0, if_pos h0]
    refine ⟨_, rfl, ?_, hh, ?_, fun h => absurd h0 h, hn⟩
    · rw [hu _ (by decide) (by decide), State.fd_raise_flag (by decide) (by decide) (by decide)]
    · rw [hu _ (by decide) (by decide), State.fd_raise_count (by decide) (by decide) (by decide)]
      rfl
  · have hb : ({ (s.raise F.CLK_STAT_REF_LOSS F.CLK_STAT_LOSS_CNT 0 0).setFd F.CLK_STAT_EXT_PRESENT 0 0 0 with
        extRef := 0 } : State) = (({ s with extRef := 0 } : State).raise F.CLK_STAT_REF_LOSS F.CLK_STAT_LOSS_CNT 0 0).setFd
          F.CLK_STAT_EXT_PRESENT 0 0 0 := by
      rw [s.raise_withExtRef 0]
      exact (State.setFd_withExtRef _ 0 _ _ _ _).symm
    have hcnt : ({ s with extRef := 0 } : State).fd F.CLK_STAT_LOSS_CNT = s.fd F.CLK_STAT_LOSS_CNT :=
      State.fd_of_regs rfl _ _ _
    rw [if_neg h0, if_neg h0, hb, ← hcnt]
    generalize ({ s with extRef := 0 } : State) = b
    obtain ⟨hh, hu, hn⟩ := State.holdover_journal (State.sets_setFd (hraise b) F.CLK_STAT_EXT_PRESENT 0 0 (by decide)
      (by simp)) (by simp) [1]
    refine ⟨_, rfl, ?_, hh, ?_, fun _ => ?_, hn⟩
    · rw [hu _ (by decide) (by decide), State.fd_setFd_apart (by decide) (by decide),
        State.fd_raise_flag (by decide) (by decide) (by decide)]
    · rw [hu _ (by decide) (by decide), State.fd_setFd_apart (by decide) (by decide),
        State.fd_raise_count (by decide) (by decide) (by decide)]
      rfl
    · rw [hu _ (by decide) (by decide), State.fd_setFd_of_lt (by decide) (by decide)]

/-- REF_FREQ (R53, R58). -/
theorem exec_refFreq_spec (s : State) : ∃ t, exec .refFreq s = .next t ∧ t.fd F.CLK_STAT_REF_FREQ = 1 ∧
    t.fd F.CLK_STAT_HOLDOVER = 1 ∧ t.fd F.CLK_STAT_FREQ_CNT = satInc 8 (s.fd F.CLK_STAT_FREQ_CNT) ∧
    s.notes t [(F.CLK_STAT_REF_FREQ, 0), (F.CLK_STAT_FREQ_CNT, 0), (F.CLK_STAT_HOLDOVER, 0)] := by
  obtain ⟨hh, hu, hn⟩ := State.holdover_journal (fs := [(F.CLK_STAT_REF_FREQ, 0), (F.CLK_STAT_FREQ_CNT, 0),
    (F.CLK_STAT_HOLDOVER, 0)]) (State.sets_raise (s.sets_refl _) F.CLK_STAT_REF_FREQ F.CLK_STAT_FREQ_CNT 0 (by decide)
    (by simp) (by decide) (by simp)) (by simp) [2]
  refine ⟨_, rfl, (hu _ (by decide) (by decide)).trans ?_, hh, (hu _ (by decide) (by decide)).trans ?_, hn⟩
  · exact State.fd_raise_flag (by decide) (by decide) (by decide)
  · exact State.fd_raise_count (by decide) (by decide) (by decide)

/-- FALLBACK_RELOCK in holdover, with FALLBACK 1 and another source selected (R53). -/
theorem exec_fallbackRelock_spec {s : State} (hh : s.flag F.CLK_STAT_HOLDOVER = true)
    (hf : s.flag F.CLK_REF_FALLBACK = true) (h0 : s.fd F.CLK_REF_SEL ≠ 0) :
    ∃ t, exec .fallbackRelock s = .next t ∧ t.fd F.CLK_REF_ACTIVE = 0 ∧ t.fd F.CLK_STAT_HOLDOVER = 0 ∧
      t.fd F.CLK_STAT_PLL_LOCK = 1 ∧
      s.sets t [(F.CLK_REF_ACTIVE, 0), (F.CLK_STAT_HOLDOVER, 0), (F.CLK_STAT_PLL_LOCK, 0)] := by
  obtain ⟨h1, h2, h3⟩ := s.fd_lockTo (src := 0) (by decide)
  exact ⟨s.lockTo 0, if_pos ⟨hh, hf, h0⟩, h1, h2, h3,
    State.sets_lockTo (s.sets_refl _) 0 (by simp) (by simp) (by simp)⟩

/-- The state after an external reference is seen at its lands (R54). -/
def State.refSeen (s : State) (src : Nat) : State :=
  if src = 0 then s else { s.setFd F.CLK_STAT_EXT_PRESENT 0 0 1 with extRef := src }

theorem State.fd_refSeen (s : State) (src : Nat) {g : Field} (h : F.CLK_STAT_EXT_PRESENT.apart 0 0 g 0 0 = true) :
    (s.refSeen src).fd g = s.fd g := by
  unfold State.refSeen
  split
  · rfl
  · exact (State.fd_of_regs (s := s.setFd F.CLK_STAT_EXT_PRESENT 0 0 1) rfl g 0 0).trans
      (State.fd_setFd_apart (by decide) h)

theorem State.refPresent_refSeen (s : State) {src : Nat} (h : src ≠ 0) :
    (s.refSeen src).fd F.CLK_STAT_EXT_PRESENT = 1 ∧ (s.refSeen src).extRef = src := by
  unfold State.refSeen
  rw [if_neg h]
  exact ⟨(State.fd_of_regs (s := s.setFd F.CLK_STAT_EXT_PRESENT 0 0 1) rfl _ 0 0).trans
    (State.fd_setFd_of_lt (by decide) (by decide)), rfl⟩

theorem State.onlyFields_refSeen (s : State) (src : Nat) {own : Nat → Bool} {fs : List (Field × Nat)}
    (h : (F.CLK_STAT_EXT_PRESENT, 0) ∈ fs) : s.onlyFields (s.refSeen src) own fs := by
  unfold State.refSeen
  split
  · exact s.onlyFields_refl _ _
  · exact State.onlyFields_of_regs (State.onlyFields_setFd (s.onlyFields_refl _ _) _ 0 1 (by decide) h) rfl

theorem State.onlyFields_lockTo {s t : State} {own : Nat → Bool} {fs : List (Field × Nat)} (h : s.onlyFields t own fs)
    (src : Nat) (h1 : (F.CLK_REF_ACTIVE, 0) ∈ fs) (h2 : (F.CLK_STAT_HOLDOVER, 0) ∈ fs)
    (h3 : (F.CLK_STAT_PLL_LOCK, 0) ∈ fs) : s.onlyFields (t.lockTo src) own fs :=
  State.onlyFields_setFd (State.onlyFields_setFd (State.onlyFields_setFd h _ 0 _ (by decide) h1) _ 0 _ (by decide) h2) _ 0 _
    (by decide) h3

/-- REF_RETURN (R53, R54). -/
theorem exec_refReturn_spec (s : State) {src : Nat} (h : src < 3) : ∃ t, exec (.refReturn src) s = .next t ∧
    (src ≠ 0 → t.fd F.CLK_STAT_EXT_PRESENT = 1 ∧ t.refPresent src = true) ∧
    (src = s.fd F.CLK_REF_SEL → s.flag F.CLK_STAT_HOLDOVER = true →
      t.fd F.CLK_REF_ACTIVE = src ∧ t.fd F.CLK_STAT_HOLDOVER = 0 ∧ t.fd F.CLK_STAT_PLL_LOCK = 1) ∧
    s.onlyFields t (fun _ => false) [(F.CLK_STAT_EXT_PRESENT, 0), (F.CLK_REF_ACTIVE, 0), (F.CLK_STAT_HOLDOVER, 0),
      (F.CLK_STAT_PLL_LOCK, 0)] := by
  have hpres : ∀ u : State, u.extRef = (s.refSeen src).extRef →
      u.fd F.CLK_STAT_EXT_PRESENT = (s.refSeen src).fd F.CLK_STAT_EXT_PRESENT →
      src ≠ 0 → u.fd F.CLK_STAT_EXT_PRESENT = 1 ∧ u.refPresent src = true := by
    intro u h1 h2 h0
    obtain ⟨h3, h4⟩ := s.refPresent_refSeen h0
    rw [h3] at h2
    exact ⟨h2, by simp [State.refPresent, h0, State.flag, h2, h1, h4]⟩
  have hfs : s.onlyFields (s.refSeen src) (fun _ => false) [(F.CLK_STAT_EXT_PRESENT, 0), (F.CLK_REF_ACTIVE, 0),
      (F.CLK_STAT_HOLDOVER, 0), (F.CLK_STAT_PLL_LOCK, 0)] := s.onlyFields_refSeen src (by simp)
  have he : exec (.refReturn src) s = if src = (s.refSeen src).fd F.CLK_REF_SEL ∧
      ((s.refSeen src).flag F.CLK_STAT_HOLDOVER = true ∨ (s.refSeen src).fd F.CLK_REF_ACTIVE ≠ src)
      then .next ((s.refSeen src).lockTo src) else .next (s.refSeen src) := rfl
  rw [s.fd_refSeen src (g := F.CLK_REF_SEL) (by decide), State.flag_congr (s.fd_refSeen src (by decide))] at he
  by_cases hc : src = s.fd F.CLK_REF_SEL ∧
      (s.flag F.CLK_STAT_HOLDOVER = true ∨ (s.refSeen src).fd F.CLK_REF_ACTIVE ≠ src)
  · rw [if_pos hc] at he
    refine ⟨_, he, hpres _ rfl ?_, fun _ _ => State.fd_lockTo _ (by omega),
      State.onlyFields_lockTo hfs src (by simp) (by simp) (by simp)⟩
    simp (disch := decide) only [State.lockTo, State.fd_setFd_apart]
  · rw [if_neg hc] at he
    exact ⟨_, he, hpres _ rfl rfl, fun h1 h2 => absurd ⟨h1, .inl h2⟩ hc, hfs⟩

/-- DIV_FAULT (R58). -/
theorem exec_divFault_spec (s : State) (clk : Nat) : ∃ t, exec (.divFault clk) s = .next t ∧
    t.fd F.CLK_STAT_DIV_FAULT = 1 ∧ t.fd F.CLK_STAT_DIV_CNT = satInc 8 (s.fd F.CLK_STAT_DIV_CNT) ∧
    (clk = 4 → t.fd F.TIM_CT_STAT_INVALID = 1) ∧
    s.notes t [(F.CLK_STAT_DIV_FAULT, 0), (F.CLK_STAT_DIV_CNT, 0), (F.TIM_CT_STAT_INVALID, 0)] := by
  have hs : s.sets (s.raise F.CLK_STAT_DIV_FAULT F.CLK_STAT_DIV_CNT 0 0) [(F.CLK_STAT_DIV_FAULT, 0),
      (F.CLK_STAT_DIV_CNT, 0), (F.TIM_CT_STAT_INVALID, 0)] :=
    State.sets_raise (s.sets_refl _) _ _ 0 (by decide) (by simp) (by decide) (by simp)
  have h1 : (s.raise F.CLK_STAT_DIV_FAULT F.CLK_STAT_DIV_CNT 0 0).fd F.CLK_STAT_DIV_FAULT = 1 :=
    State.fd_raise_flag (by decide) (by decide) (by decide)
  have h2 : (s.raise F.CLK_STAT_DIV_FAULT F.CLK_STAT_DIV_CNT 0 0).fd F.CLK_STAT_DIV_CNT =
      satInc 8 (s.fd F.CLK_STAT_DIV_CNT) := State.fd_raise_count (by decide) (by decide) (by decide)
  refine ⟨_, rfl, ?_⟩
  rw [← h2]
  generalize s.raise F.CLK_STAT_DIV_FAULT F.CLK_STAT_DIV_CNT 0 0 = u at hs h1
  by_cases h4 : clk = 4
  · rw [if_pos h4]
    refine ⟨?_, ?_, fun _ => ?_, State.notes_journal (State.sets_setFd hs _ 0 _ (by decide) (by simp)) _ _ _ _ _⟩ <;>
      simp (disch := decide) only [State.fd_journal, State.fd_setFd_apart, State.fd_setFd_of_lt, h1]
  · rw [if_neg h4]
    refine ⟨?_, ?_, fun h => absurd h h4, State.notes_journal hs _ _ _ _ _⟩ <;>
      simp (disch := decide) only [State.fd_journal, h1]

/-- PCIE_REF_LOSS takes the link with it (R57, R582). -/
theorem exec_pcieRefLoss_spec (s : State) : ∃ t, exec .pcieRefLoss s = .next t ∧ t.fd F.CLK_STAT_PCIE_REF = 0 ∧
    t.hs.link = false ∧ t = { s with regs := t.regs, hs := { s.hs with link := false } } ∧
    s.onlyFields t (fun _ => false) [(F.CLK_STAT_PCIE_REF, 0)] :=
  ⟨_, rfl, (State.fd_of_regs (s := s.setFd F.CLK_STAT_PCIE_REF 0 0 0) rfl _ 0 0).trans
    (State.fd_setFd_of_lt (by decide) (by decide)), rfl, rfl,
    State.onlyFields_of_regs (State.onlyFields_setFd (s.onlyFields_refl _ _) _ 0 0 (by decide) (by simp)) rfl⟩

end Sys2Proof.Machine

/-!
## The PLL unlock and the dividers of DVFS
-/

namespace Sys2Proof.Machine

/-! ### An unlock of the PLL (R58) -/

theorem State.pwFresh_lc (s : State) : s.pwFresh.lc = s.lc := by
  unfold State.pwFresh
  rw [forEach_keeps State.lc _ _ _ (by simp), State.setFd_lc, State.setFd_lc, State.setFd_lc,
    forEach_keeps State.lc _ _ _ (by simp)]

theorem State.thalChannels_lc (s : State) (m : SetImg) : (s.thalChannels m).lc = s.lc := by
  refine forEach_keeps State.lc _ _ _ fun t n => ?_
  split <;> simp

theorem State.thDecStart_lc (s : State) (m : SetImg) : (s.thDecStart m).lc = s.lc :=
  forEach_keeps State.lc _ _ _ fun _ _ => rfl

theorem State.thBound_lc (s : State) : s.thBound.lc = s.lc := by
  unfold State.thBound
  split <;> rw [State.setRg_lc]

theorem State.thDeg_lc (s : State) : s.thDeg.lc = s.lc := by
  unfold State.thDeg
  rw [State.setRg_lc]

theorem State.setTh_lc (s : State) (x : ThState) : ({ s with th := x } : State).lc = s.lc := rfl

/-- The start-up of Thallus leaves the lifecycle alone. -/
theorem State.thStart_lc (s : State) : s.thStart.lc = s.lc := by
  unfold State.thStart
  extract_lets t u _ v m ok _ w x y _
  have hu : u.lc = s.lc := s.resetRegs_lc _
  have hv : v.lc = u.lc := State.setTh_lc _ _
  have hw : w.lc = v.lc := State.setTh_lc _ _
  have hx : x.lc = w.lc := w.setFd_lc _ _ _ _
  have hy : y.lc = s.lc := by
    unfold y
    rw [apply_ite State.lc, State.thBound_lc, State.thDecStart_lc, State.thalChannels_lc, State.setRg_lc, ite_self, hx, hw, hv, hu]
  clear_value y
  split
  · exact hy
  · rw [State.thDeg_lc, State.setFd_lc, State.setTh_lc]
    exact hy

/-- A reset of the module ends what authentication granted, and keeps the lifecycle state (R598). -/
theorem State.moduleReset_lc (s : State) (crust : Bool) :
    (s.moduleReset crust).lc.state = s.lc.state ∧ (s.moduleReset crust).lc.granted = 0 := by
  unfold State.moduleReset
  rw [State.thStart_lc]
  unfold State.freshModule
  dsimp only
  rw [State.pwFresh_lc, State.resetRegs_lc]
  exact ⟨rfl, rfl⟩

theorem State.pllLock_lc (s : State) : s.pllLock.lc = s.lc := by
  unfold State.pllLock State.refsSeen
  simp only [State.setFd_lc, State.incFd_lc]

theorem State.fd_pllLock_boot (s : State) : s.pllLock.fd F.HS_BOOT_STAT_STATE = 1 :=
  State.fd_setFd_of_lt (by decide) (by decide)

theorem State.fd_pllLock_cause (s : State) : s.pllLock.fd F.GLOBAL_RESET_CAUSE = s.fd F.GLOBAL_RESET_CAUSE := by
  unfold State.pllLock State.refsSeen
  simp (disch := decide) only [State.fd_setFd_apart, State.fd_incFd_apart]

/-- PLL_UNLOCK with the PLL locked and not in holdover (R58). -/
theorem exec_pllUnlock_spec {s : State} (h1 : s.held = false) (h2 : s.flag F.CLK_STAT_PLL_LOCK = true)
    (h3 : s.flag F.CLK_STAT_HOLDOVER = false) : ∃ t, exec .pllUnlock s = .next t ∧ t.fd F.GLOBAL_RESET_CAUSE = 2 ∧
      t.fd F.HS_BOOT_STAT_STATE = 1 ∧ t.lc.state = s.lc.state ∧ t.lc.granted = 0 := by
  have he : exec .pllUnlock s = .next ((s.journal 0x05 0x01 0x00 2 [4]).warmReset 2) := if_neg (by simp [h1, h2, h3])
  obtain ⟨hst, hgr⟩ := (s.journal 0x05 0x01 0x00 2 [4]).moduleReset_lc true
  rw [State.journal_lc] at hst
  refine ⟨_, he, ?_, State.fd_pllLock_boot _, ?_⟩
  · unfold State.warmReset
    rw [State.fd_pllLock_cause, State.fd_setFd_of_lt (by decide) (by decide)]
  · unfold State.warmReset
    rw [State.pllLock_lc, State.setFd_lc]
    exact ⟨hst, hgr⟩

/-! ### The DVFS dividers (R55, R537, R538) -/

/-- Island `i` takes the nominal voltage of its divider as its target while AVS is 1 (R538). -/
def State.aimVolt (i : Nat) (s : State) : State :=
  if s.flag F.PW_VOLTi_CTL_AVS i then s.setFd F.PW_VOLTi_CTL_TARGET i 0 (nominalMv (s.fd (dvfsField i))) else s

/-- A write of CLK_DVFS that all checks pass. -/
def State.dvfsSet (s : State) (v : Word) : State :=
  (s.plainWrite .CLK_DVFS 0 0 v.toNat).forEach [0, 1, 2] State.aimVolt

theorem writeDvfs_of_checks {s : State} {q : Requester} {v : Word}
    (hc : ∀ i ∈ [0, 1, 2], (dvfsField i).of v.toNat ≤ 4 ∧
      ((dvfsField i).of v.toNat ≠ s.fd (dvfsField i) → s.flag F.PW_VOLTi_STAT_STEPPING i = false) ∧
      ((dvfsField i).of v.toNat < s.fd (dvfsField i) →
        (s.fd F.PW_MOD_STATE = 1 → s.fd F.PW_TRIM_CAP ≤ (dvfsField i).of v.toNat) ∧
          s.flag F.PW_VOLTi_STAT_CHECKED i = true ∧
          nominalMv ((dvfsField i).of v.toNat) ≤ s.fd F.PW_VOLTi_STAT_MEAS i)) :
    writeDvfs q v s = s.dvfsSet v := by
  have hrange : ¬ ([0, 1, 2].any fun i => decide (4 < (dvfsField i).of v.toNat)) = true := by
    simp only [List.any_eq_true, decide_eq_true_eq, not_exists, not_and, not_lt]
    exact fun i hi => (hc i hi).1
  have hstep : ¬ ([0, 1, 2].any fun i =>
      decide ((dvfsField i).of v.toNat ≠ s.fd (dvfsField i)) && s.flag F.PW_VOLTi_STAT_STEPPING i) = true := by
    simp only [List.any_eq_true, Bool.and_eq_true, decide_eq_true_eq, not_exists, not_and, Bool.not_eq_true]
    exact fun i hi => (hc i hi).2.1
  have htrim : ¬ (s.fd F.PW_MOD_STATE = 1 ∧ ([0, 1, 2].any fun i =>
      decide ((dvfsField i).of v.toNat < s.fd (dvfsField i) ∧ (dvfsField i).of v.toNat < s.fd F.PW_TRIM_CAP)) = true) := by
    simp only [List.any_eq_true, decide_eq_true_eq, not_exists, not_and, not_lt]
    exact fun hm i hi hlt => ((hc i hi).2.2 hlt).1 hm
  have hvolt : ¬ ([0, 1, 2].any fun i => decide ((dvfsField i).of v.toNat < s.fd (dvfsField i)) &&
      !s.dvfsCovered i ((dvfsField i).of v.toNat)) = true := by
    simp only [List.any_eq_true, Bool.and_eq_true, decide_eq_true_eq, not_exists, not_and, Bool.not_eq_true']
    intro i hi hlt
    obtain ⟨-, hchk, hmeas⟩ := (hc i hi).2.2 hlt
    simp [State.dvfsCovered, hchk, hmeas]
  unfold writeDvfs
  dsimp only
  rw [if_neg hrange, if_neg hstep, if_neg htrim, if_neg hvolt]
  rfl

theorem nominalMv_lt (c : Nat) : nominalMv c < 2 ^ 10 := by
  by_cases h : c < 5
  · revert c
    decide
  · rw [nominalMv, List.getD_eq_default _ _ (by simpa using h)]
    decide

theorem State.fd_aimVolt_apart {s : State} {i k : Nat} {g : Field} (h : F.PW_VOLTi_CTL_TARGET.apart i 0 g k 0 = true) :
    (s.aimVolt i).fd g k = s.fd g k := by
  unfold State.aimVolt
  split
  · exact State.fd_setFd_apart (by decide) h
  · rfl

theorem State.fd_aimVolt (s : State) (i : Nat) : (s.aimVolt i).fd F.PW_VOLTi_CTL_TARGET i =
    if s.flag F.PW_VOLTi_CTL_AVS i then nominalMv (s.fd (dvfsField i)) else s.fd F.PW_VOLTi_CTL_TARGET i := by
  unfold State.aimVolt
  split
  · exact State.fd_setFd_of_lt (by decide) (nominalMv_lt _)
  · rfl

theorem State.sets_aimVolt {s t : State} {fs : List (Field × Nat)} (h : s.sets t fs) (i : Nat)
    (hm : (F.PW_VOLTi_CTL_TARGET, i) ∈ fs) : s.sets (t.aimVolt i) fs := by
  unfold State.aimVolt
  split
  · exact State.sets_setFd h _ i _ (by decide) hm
  · exact h

/-- The dividers and the targets after a write of CLK_DVFS that is accepted (R55, R538). -/
theorem State.dvfsSet_spec (s : State) (v : Word) {i : Nat} (hi : i ∈ [0, 1, 2]) :
    (s.dvfsSet v).fd (dvfsField i) = (dvfsField i).of v.toNat ∧
    (s.dvfsSet v).fd F.PW_VOLTi_CTL_TARGET i = if s.flag F.PW_VOLTi_CTL_AVS i then nominalMv ((dvfsField i).of v.toNat)
      else s.fd F.PW_VOLTi_CTL_TARGET i := by
  have hdiv : (s.plainWrite .CLK_DVFS 0 0 v.toNat).fd (dvfsField i) = (dvfsField i).of v.toNat := by
    fin_cases hi
    · exact State.fd_plainWrite_rw (f := F.CLK_DVFS_CORE_A) (by decide) (by decide)
    · exact State.fd_plainWrite_rw (f := F.CLK_DVFS_CORE_B) (by decide) (by decide)
    · exact State.fd_plainWrite_rw (f := F.CLK_DVFS_SOLV) (by decide) (by decide)
  have hvolt : (s.plainWrite .CLK_DVFS 0 0 v.toNat).rg .PW_VOLTi_CTL i = s.rg .PW_VOLTi_CTL i := by
    fin_cases hi <;> exact congrArg BitVec.toNat (s.regs_plainWrite _ _ _ _ _ (by decide))
  have htgt : (s.plainWrite .CLK_DVFS 0 0 v.toNat).fd F.PW_VOLTi_CTL_TARGET i = s.fd F.PW_VOLTi_CTL_TARGET i :=
    congrArg (bits · 9 0) hvolt
  have havs : (s.plainWrite .CLK_DVFS 0 0 v.toNat).flag F.PW_VOLTi_CTL_AVS i = s.flag F.PW_VOLTi_CTL_AVS i :=
    State.flag_congr (congrArg (bits · 16 16) hvolt)
  rw [← hdiv, ← havs, ← htgt]
  unfold State.dvfsSet
  generalize s.plainWrite .CLK_DVFS 0 0 v.toNat = u
  show (((u.aimVolt 0).aimVolt 1).aimVolt 2).fd _ = _ ∧ (((u.aimVolt 0).aimVolt 1).aimVolt 2).fd _ i = _
  fin_cases hi <;>
    simp (disch := decide) only [State.fd_aimVolt_apart, State.fd_aimVolt, State.flag, decide_eq_true_eq, true_and]

theorem State.sets_dvfsSet (s : State) (v : Word) : s.sets (s.dvfsSet v) [(F.CLK_DVFS_CORE_A, 0), (F.CLK_DVFS_CORE_B, 0),
    (F.CLK_DVFS_SOLV, 0), (F.PW_VOLTi_CTL_TARGET, 0), (F.PW_VOLTi_CTL_TARGET, 1), (F.PW_VOLTi_CTL_TARGET, 2)] := by
  have h : s.sets (s.plainWrite .CLK_DVFS 0 0 v.toNat) [(F.CLK_DVFS_CORE_A, 0), (F.CLK_DVFS_CORE_B, 0),
      (F.CLK_DVFS_SOLV, 0), (F.PW_VOLTi_CTL_TARGET, 0), (F.PW_VOLTi_CTL_TARGET, 1), (F.PW_VOLTi_CTL_TARGET, 2)] :=
    ⟨rfl, s.onlyFields_plainWrite _ _ _ (by decide)⟩
  exact State.sets_aimVolt (State.sets_aimVolt (State.sets_aimVolt h 0 (by simp)) 1 (by simp)) 2 (by simp)

/-- A refusal by a register with a REFUSE field gives the code there (R647), and leaves the fields elsewhere. -/
theorem State.fd_recordRefusal {s : State} {blk code adr i j : Nat} {q : Requester} {g : Field}
    (h1 : F.GLOBAL_REFCNTb_COUNT.apart (blk % 16) 0 g i j = true) (h2 : g.reg.addr i j ≠ Reg.addr .GLOBAL_LASTREF 0 0)
    (h3 : g.reg.addr i j ≠ Reg.addr .GLOBAL_LASTREF_ADR 0 0) : (s.recordRefusal blk code q adr).fd g i j = s.fd g i j := by
  unfold State.recordRefusal State.fd
  dsimp only
  rw [State.rg_setRg_other _ _ _ _ _ _ _ _ h3, State.rg_setRg_other _ _ _ _ _ _ _ _ h2]
  exact State.fd_incFd_apart (by decide) h1

/-- A refused write of CLK_DVFS leaves the dividers. -/
theorem State.fd_refuse_dvfs (s : State) (q : Requester) {code : Nat} (hc : code < 2 ^ 8) :
    (s.refuse q .CLK_DVFS 0 0 code).fd F.CLK_DVFS_REFUSE = code ∧
    ∀ i ∈ [0, 1, 2], (s.refuse q .CLK_DVFS 0 0 code).fd (dvfsField i) = s.fd (dvfsField i) := by
  have he : s.refuse q .CLK_DVFS 0 0 code = (s.setFd F.CLK_DVFS_REFUSE 0 0 code).recordRefusal
      (blockOf Reg.CLK_DVFS.row.base) code q (Reg.addr .CLK_DVFS 0 0) := rfl
  rw [he]
  refine ⟨?_, fun i hi => ?_⟩
  · rw [State.fd_recordRefusal (by decide) (by decide) (by decide)]
    exact State.fd_setFd_of_lt (by decide) hc
  · have ha : F.CLK_DVFS_REFUSE.apart 0 0 (dvfsField i) 0 0 = true ∧ (dvfsField i).reg = .CLK_DVFS := by
      fin_cases hi <;> decide
    have hr : F.GLOBAL_REFCNTb_COUNT.apart (blockOf Reg.CLK_DVFS.row.base % 16) 0 (dvfsField i) 0 0 = true :=
      Field.apart_of_addr (by rw [ha.2]; decide)
    rw [State.fd_recordRefusal hr (by rw [ha.2]; decide) (by rw [ha.2]; decide), State.fd_setFd_apart (by decide) ha.1]

/-- DVFS_WRITE (R55, R537, R538). -/
theorem exec_dvfsWrite {s : State} {q : Requester} (v : Word) (hg : s.grants q .CLK_DVFS = true) :
    exec (.dvfsWrite q v) s = .next (writeDvfs q v s) := State.write_of_grants _ hg

theorem writeDvfs_range {s : State} {q : Requester} {v : Word} (h : ∃ i ∈ [0, 1, 2], 4 < (dvfsField i).of v.toNat) :
    writeDvfs q v s = s.refuse q .CLK_DVFS 0 0 0x03 := if_pos (by simpa using h)

/-- The dividers, each with its island. -/
theorem dvfsFields_eq : ([(F.CLK_DVFS_CORE_A, 0), (F.CLK_DVFS_CORE_B, 1), (F.CLK_DVFS_SOLV, 2)] : List (Field × Nat)) =
    [0, 1, 2].map (fun i => (dvfsField i, i)) := rfl

/-- Settles O19: a lemma per command, each over the fields that the command can write. -/
theorem rootReferences : Obligations.RootReferences := by
  unfold Obligations.RootReferences
  refine ⟨fun s q v clk => ⟨exec_refSelect_spec, exec_refLoss_spec s, exec_refFreq_spec s, exec_fallbackRelock_spec,
    fun src => exec_refReturn_spec s, exec_divFault_spec s clk, exec_pcieRefLoss_spec s, exec_pllUnlock_spec⟩,
    fun s q v hg => ?_⟩
  rw [dvfsFields_eq]
  refine ⟨fun hc => ⟨_, exec_dvfsWrite v hg, ?_⟩, fun hc => ⟨_, exec_dvfsWrite v hg, ?_⟩⟩
  · rw [writeDvfs_of_checks (List.forall_mem_map.mp hc)]
    exact ⟨List.forall_mem_map.mpr fun i => s.dvfsSet_spec v, s.sets_dvfsSet v⟩
  · obtain ⟨e, he, h4⟩ := hc
    obtain ⟨i, hi, rfl⟩ := List.mem_map.mp he
    obtain ⟨hcode, hkeep⟩ := s.fd_refuse_dvfs q (code := 0x03) (by decide)
    rw [writeDvfs_range ⟨i, hi, h4⟩]
    exact ⟨hcode, List.forall_mem_map.mpr hkeep⟩

end Sys2Proof.Machine

/-!
## Captures of time
-/

namespace Sys2Proof.Machine

/-! ### Registers with symbolic instances -/

/-- Two registers of the same strides and indices lie apart when their bases do. -/
theorem Reg.addr_ne {r r' : Reg} (n j : Nat) (hs : r.row.stride = r'.row.stride) (hs' : r.row.stride2 = r'.row.stride2)
    (hb : r.row.base ≠ r'.row.base) : r.addr n j ≠ r'.addr n j := by
  unfold Reg.addr
  rw [hs, hs']
  omega

/-- Two fields of one register lie apart when their bits do. -/
theorem Field.apart_of_bits {f g : Field} {i j : Nat} (hr : g.reg = f.reg) (h : g.hi < f.lo ∨ f.hi < g.lo) :
    f.apart i j g i j = true := by
  rw [Field.apart, decide_eq_true hr, decide_eq_true h, decide_eq_true rfl, decide_eq_true rfl]
  exact Bool.or_true _

theorem State.rg64_congr {s t : State} {lo hi : Reg} {i : Nat} (h1 : t.rg lo i = s.rg lo i) (h2 : t.rg hi i = s.rg hi i) :
    t.rg64 lo hi i = s.rg64 lo hi i := by
  unfold State.rg64
  rw [h1, h2]

/-- A 64-bit value reads as before after another register is written. -/
theorem State.rg64_setRg_other {s : State} {r lo hi : Reg} {i i' j' v : Nat} (h1 : lo.addr i 0 ≠ r.addr i' j')
    (h2 : hi.addr i 0 ≠ r.addr i' j') : (s.setRg r i' j' v).rg64 lo hi i = s.rg64 lo hi i :=
  State.rg64_congr (State.rg_setRg_other _ _ _ _ _ _ _ _ h1) (State.rg_setRg_other _ _ _ _ _ _ _ _ h2)

/-! ### One capture (R74) -/

/-- The registers of a capture channel. -/
def capRegs : List Reg := [.TIM_CAPn_CTL, .TIM_CAPn_CT_LO, .TIM_CAPn_CT_HI, .TIM_CAPn_PT_LO, .TIM_CAPn_PT_HI]

theorem capRegs_addr (n : Nat) : capRegs.map (Reg.addr · n 0) = [0x200100 + 0x20 * n, 0x200104 + 0x20 * n,
    0x200108 + 0x20 * n, 0x20010C + 0x20 * n, 0x200110 + 0x20 * n] := rfl

/-- A channel whose FULL stands, or was cleared in this TIME tick (R74). -/
def State.capBusy (s : State) (n : Nat) : Prop := s.flag F.TIM_CAPn_CTL_FULL n = true ∨
  s.time.cleared.contains (Reg.addr .TIM_CAPn_CTL n 0, F.TIM_CAPn_CTL_FULL.lo) = true

theorem State.capture_busy {s : State} {n : Nat} (h : s.capBusy n) :
    s.capture n = s.raise F.TIM_CAPn_CTL_FULL F.TIM_CAPn_CTL_OVR_CNT n 0 := if_pos h

theorem State.capture_free {s : State} {n : Nat} (h : ¬ s.capBusy n) : s.capture n =
    ((s.setRg64 .TIM_CAPn_CT_LO .TIM_CAPn_CT_HI n s.ctNs).setRg64 .TIM_CAPn_PT_LO .TIM_CAPn_PT_HI n s.ptNs).raiseFlag
      F.TIM_CAPn_CTL_FULL n 0 := if_neg h

/-- A capture changes the registers of its channel, and notes the flag it raises. -/
theorem State.rg_capture {s : State} {n : Nat} {r : Reg} {i j : Nat} (h : r.addr i j ∉ capRegs.map (Reg.addr · n 0)) :
    (s.capture n).rg r i j = s.rg r i j := by
  simp only [capRegs, List.map_cons, List.map_nil, List.mem_cons, List.not_mem_nil, or_false, not_or] at h
  obtain ⟨h0, h1, h2, h3, h4⟩ := h
  by_cases hb : s.capBusy n
  · rw [State.capture_busy hb]
    exact (State.rg_setRg_other _ _ _ _ _ _ _ _ h0).trans (State.rg_setRg_other _ _ _ _ _ _ _ _ h0)
  · rw [State.capture_free hb]
    exact (State.rg_setRg_other _ _ _ _ _ _ _ _ h0).trans ((State.rg_setRg64_other _ _ _ _ _ _ _ _ h3 h4).trans
      (State.rg_setRg64_other _ _ _ _ _ _ _ _ h1 h2))

theorem State.capture_frame (s : State) (n : Nat) : s.capture n =
    { s with regs := (s.capture n).regs, time := { s.time with raised := (s.capture n).time.raised } } := by
  by_cases hb : s.capBusy n
  · rw [State.capture_busy hb]
    rfl
  · rw [State.capture_free hb]
    rfl

/-- What a capture leaves at its channel (R74). -/
theorem State.capture_spec (s : State) (n : Nat) : (s.capture n).fd F.TIM_CAPn_CTL_FULL n = 1 ∧
    (¬ s.capBusy n → (s.capture n).rg64 .TIM_CAPn_CT_LO .TIM_CAPn_CT_HI n = s.ctNs % 2 ^ 64 ∧
      (s.capture n).rg64 .TIM_CAPn_PT_LO .TIM_CAPn_PT_HI n = s.ptNs % 2 ^ 64) ∧
    (s.capBusy n → (s.capture n).fd F.TIM_CAPn_CTL_OVR_CNT n = satInc 8 (s.fd F.TIM_CAPn_CTL_OVR_CNT n) ∧
      (s.capture n).rg64 .TIM_CAPn_CT_LO .TIM_CAPn_CT_HI n = s.rg64 .TIM_CAPn_CT_LO .TIM_CAPn_CT_HI n ∧
      (s.capture n).rg64 .TIM_CAPn_PT_LO .TIM_CAPn_PT_HI n = s.rg64 .TIM_CAPn_PT_LO .TIM_CAPn_PT_HI n) := by
  have hne : ∀ r ∈ [Reg.TIM_CAPn_CT_LO, .TIM_CAPn_CT_HI, .TIM_CAPn_PT_LO, .TIM_CAPn_PT_HI],
      r.addr n 0 ≠ Reg.addr .TIM_CAPn_CTL n 0 := by
    intro r hr
    fin_cases hr <;> exact Reg.addr_ne n 0 rfl rfl (by decide)
  have hbits : F.TIM_CAPn_CTL_FULL.apart n 0 F.TIM_CAPn_CTL_OVR_CNT n 0 = true :=
    Field.apart_of_bits rfl (by decide)
  by_cases hb : s.capBusy n
  · rw [State.capture_busy hb]
    exact ⟨State.fd_raise_flag (by decide) (by decide) (Field.apart_of_bits rfl (by decide)), fun h => absurd hb h,
      fun _ => ⟨State.fd_raise_count (by decide) (by decide) hbits,
        State.rg64_congr (State.rg_raise_other (hne _ (by simp)) (hne _ (by simp)))
          (State.rg_raise_other (hne _ (by simp)) (hne _ (by simp))),
        State.rg64_congr (State.rg_raise_other (hne _ (by simp)) (hne _ (by simp)))
          (State.rg_raise_other (hne _ (by simp)) (hne _ (by simp)))⟩⟩
  · rw [State.capture_free hb]
    refine ⟨State.fd_raiseFlag (by decide), fun _ => ⟨?_, ?_⟩, fun h => absurd h hb⟩
    · rw [State.rg64_congr (State.rg_raiseFlag_other (hne _ (by simp))) (State.rg_raiseFlag_other (hne _ (by simp)))]
      refine (State.rg64_congr (State.rg_setRg64_other _ _ _ _ _ _ _ _ ?_ ?_)
        (State.rg_setRg64_other _ _ _ _ _ _ _ _ ?_ ?_)).trans (State.rg64_setRg64 _ _ _ _ _ ?_) <;>
        exact Reg.addr_ne n 0 rfl rfl (by decide)
    · rw [State.rg64_congr (State.rg_raiseFlag_other (hne _ (by simp))) (State.rg_raiseFlag_other (hne _ (by simp)))]
      exact State.rg64_setRg64 _ _ _ _ _ (Reg.addr_ne n 0 rfl rfl (by decide))

/-! ### SWTRIG (R74) -/

/-- A field that a write by the access types can neither set nor clear reads as before. -/
theorem State.fd_plainWrite_kept {s : State} {f : Field} {i j v : Nat} (hf : f.ok = true)
    (h : ∀ k, k < 32 → f.lo ≤ k → k ≤ f.hi → f.reg.row.rw.testBit k = false ∧
      (f.reg.row.w1c.testBit k && v.testBit k) = false) : (s.plainWrite f.reg i j v).fd f i j = s.fd f i j := by
  simp only [Field.ok, Bool.and_eq_true, decide_eq_true_eq] at hf
  refine Nat.eq_of_testBit_eq fun k => ?_
  rw [State.fd, State.fd, bits_testBit, bits_testBit]
  by_cases hk : k < f.hi + 1 - f.lo
  · obtain ⟨h1, h2⟩ := h (k + f.lo) (by omega) (by omega) (by omega)
    rw [Nat.add_comm] at h1 h2
    simp [State.testBit_plainWrite _ _ _ _ _ (show f.lo + k < 32 by omega), h1, h2]
  · simp [hk]

/-- A write of SWTRIG that makes an event (R73, R74). -/
theorem exec_swtrig_spec {s : State} {q : Requester} {v : Word} {n : Nat} (hg : s.grants q .TIM_CAPn_CTL n = true)
    (hsrc : bits v.toNat 23 16 = 0x30) (hedge : bits v.toNat 9 8 ≠ 3) (htrig : bits v.toNat 2 2 = 1)
    (hen : bits v.toNat 0 0 = 1) : ∃ u : State, exec (.swtrig q n v) s = .next (u.capture n) ∧ (u.capBusy n ↔ s.capBusy n) ∧
      u.ctNs = s.ctNs ∧ u.ptNs = s.ptNs ∧ u.cores = s.cores ∧ u.mem = s.mem ∧
      u.fd F.TIM_CAPn_CTL_OVR_CNT n = s.fd F.TIM_CAPn_CTL_OVR_CNT n ∧
      u.rg64 .TIM_CAPn_CT_LO .TIM_CAPn_CT_HI n = s.rg64 .TIM_CAPn_CT_LO .TIM_CAPn_CT_HI n ∧
      u.rg64 .TIM_CAPn_PT_LO .TIM_CAPn_PT_HI n = s.rg64 .TIM_CAPn_PT_LO .TIM_CAPn_PT_HI n := by
  have he : exec (.swtrig q n v) s = .next (writeCapCtl q n v s) := State.write_of_grants _ hg
  have hw : writeCapCtl q n v s = (s.plainWrite .TIM_CAPn_CTL n 0 (setBits v.toNat 1 1 0)).capture n := by
    unfold writeCapCtl
    dsimp only
    rw [if_neg, if_pos]
    · exact ⟨htrig, hsrc, hen⟩
    · rintro (h | h)
      · exact h (.inr hsrc)
      · exact hedge h
  have hfull : (s.plainWrite .TIM_CAPn_CTL n 0 (setBits v.toNat 1 1 0)).fd F.TIM_CAPn_CTL_FULL n =
      s.fd F.TIM_CAPn_CTL_FULL n := by
    refine State.fd_plainWrite_kept (f := F.TIM_CAPn_CTL_FULL) (by decide) fun k _ h1 h2 => ?_
    obtain rfl : k = 1 := Nat.le_antisymm h2 h1
    rw [setBits_testBit _ _ _ _ _ (by decide)]
    exact ⟨by decide, by simp⟩
  have hovr : (s.plainWrite .TIM_CAPn_CTL n 0 (setBits v.toNat 1 1 0)).fd F.TIM_CAPn_CTL_OVR_CNT n =
      s.fd F.TIM_CAPn_CTL_OVR_CNT n :=
    State.fd_plainWrite_kept (f := F.TIM_CAPn_CTL_OVR_CNT) (by decide) (by
      have : ∀ k < 32, 24 ≤ k → (Reg.row .TIM_CAPn_CTL).rw.testBit k = false ∧ (Reg.row .TIM_CAPn_CTL).w1c.testBit k = false := by
        decide
      intro k hk hlo _
      obtain ⟨h1, h2⟩ := this k hk hlo
      exact ⟨h1, by rw [show F.TIM_CAPn_CTL_OVR_CNT.reg.row.w1c.testBit k = false from h2, Bool.false_and]⟩)
  refine ⟨s.plainWrite .TIM_CAPn_CTL n 0 (setBits v.toNat 1 1 0), he.trans (by rw [hw]), ?_, rfl, rfl, rfl, rfl, hovr,
    ?_, ?_⟩
  · unfold State.capBusy
    rw [State.flag_congr hfull, State.plainWrite_time]
  · exact State.rg64_setRg_other (Reg.addr_ne n 0 rfl rfl (by decide)) (Reg.addr_ne n 0 rfl rfl (by decide))
  · exact State.rg64_setRg_other (Reg.addr_ne n 0 rfl rfl (by decide)) (Reg.addr_ne n 0 rfl rfl (by decide))

/-! ### Events of a source (R73) -/

/-- A projection that the step of no element of the list changes stays over a loop. -/
theorem forEach_keeps_mem {α γ : Type} (g : State → γ) {l : List α} (f : α → State → State)
    (h : ∀ b ∈ l, ∀ t, g (f b t) = g t) (s : State) : g (s.forEach l f) = g s := by
  induction l generalizing s with
  | nil => rfl
  | cons b l ih => exact (ih (fun c hc => h c (List.mem_cons_of_mem _ hc)) (f b s)).trans (h b List.mem_cons_self s)

/-- A projection that only the step of one element can change has after a loop what that step gives. -/
theorem forEach_at {α γ : Type} (g : State → γ) (s : State) {l : List α} (f : α → State → State) {a : α} (ha : a ∈ l)
    (hl : l.Nodup) (h : ∀ b ∈ l, b ≠ a → ∀ t, g (f b t) = g t) :
    ∃ t, g t = g s ∧ g (s.forEach l f) = g (f a t) := by
  obtain ⟨l₁, l₂, rfl⟩ := List.append_of_mem ha
  obtain ⟨-, hl₂, hd⟩ := List.nodup_append.mp hl
  refine ⟨s.forEach l₁ f, forEach_keeps_mem g f (fun b hb => h b (by simp [hb]) (hd b hb a (by simp))) s, ?_⟩
  unfold State.forEach
  rw [List.foldl_append, List.foldl_cons]
  exact forEach_keeps_mem g f (fun b hb => h b (by simp [hb]) (fun e => (List.nodup_cons.mp hl₂).1 (e ▸ hb))) _

/-- An event of source `src` at channel `n`. -/
def capStep (src : Nat) (rising : Bool) (n : Nat) (s : State) : State :=
  if s.flag F.TIM_CAPn_CTL_EN n ∧ s.fd F.TIM_CAPn_CTL_SRC n = src ∧ (0x20 ≤ src ∨ s.fd F.TIM_CAPn_CTL_EDGE n = 2 ∨
      (s.fd F.TIM_CAPn_CTL_EDGE n = 0 ∧ rising) ∨ (s.fd F.TIM_CAPn_CTL_EDGE n = 1 ∧ ¬ rising)) then s.capture n
  else s

theorem State.captureAll_eq (s : State) (src : Nat) (rising : Bool) :
    s.captureAll src rising = s.forEach (List.range 8) (capStep src rising) := rfl

theorem capStep_keeps {γ : Type} (g : State → γ) {src n : Nat} {rising : Bool} {s : State} (h : g (s.capture n) = g s) :
    g (capStep src rising n s) = g s := by
  unfold capStep
  split
  · exact h
  · rfl

/-- The state but for the registers and the flags noted as raised. -/
def State.shell (s : State) : State := { s with regs := [], time := { s.time with raised := [] } }

theorem State.shell_capture (s : State) (n : Nat) : (s.capture n).shell = s.shell := by
  rw [s.capture_frame n]
  rfl

/-- Captures leave the time base and the rest of the module but for the channels' registers. -/
theorem State.shell_captureAll (s : State) (src : Nat) (rising : Bool) : (s.captureAll src rising).shell = s.shell :=
  forEach_keeps State.shell s _ _ fun n u => capStep_keeps State.shell (u.shell_capture n)

theorem State.captureAll_kept (s : State) (src : Nat) (rising : Bool) :
    (s.captureAll src rising).time.ct = s.time.ct ∧ (s.captureAll src rising).time.pt = s.time.pt ∧
    (s.captureAll src rising).mem = s.mem := by
  have h := s.shell_captureAll src rising
  generalize s.captureAll src rising = t at h ⊢
  exact ⟨congrArg (·.time.ct) h, congrArg (·.time.pt) h, congrArg (·.mem) h⟩

/-- The registers outside the capture channels stay. -/
theorem State.rg_captureAll (s : State) (src : Nat) (rising : Bool) {r : Reg} {i j : Nat}
    (h : r.addr i j < 0x200100 ∨ 0x200200 ≤ r.addr i j) : (s.captureAll src rising).rg r i j = s.rg r i j := by
  refine forEach_keeps_mem (State.rg · r i j) (capStep src rising) (fun n hn t =>
    capStep_keeps (State.rg · r i j) (State.rg_capture fun hm => ?_)) s
  rw [capRegs_addr] at hm
  simp only [List.mem_range, List.mem_cons, List.not_mem_nil, or_false] at hn hm
  omega

/-- What the captures of a channel depend on and change. -/
def State.capView (s : State) (n : Nat) : List Nat × TimeState :=
  (capRegs.map (fun r => s.rg r n 0), s.shell.time)

/-- A capture at one channel leaves the others. -/
theorem State.capView_capture {s : State} {n m : Nat} (h : m ≠ n) : (s.capture m).capView n = s.capView n := by
  have hrg : ∀ r ∈ capRegs, (s.capture m).rg r n 0 = s.rg r n 0 := by
    intro r hr
    have ha : r.addr n 0 ∈ capRegs.map (Reg.addr · n 0) := List.mem_map_of_mem (f := (Reg.addr · n 0)) hr
    refine State.rg_capture fun hm => ?_
    rw [capRegs_addr] at ha hm
    simp only [List.mem_cons, List.not_mem_nil, or_false] at ha hm
    omega
  unfold State.capView
  rw [State.shell_capture, List.map_congr_left hrg]

/-- After an event a channel stands as its own step leaves it. -/
theorem State.capView_captureAll (s : State) (src : Nat) (rising : Bool) {n : Nat} (hn : n < 8) : ∃ u,
    u.capView n = s.capView n ∧ (s.captureAll src rising).capView n = (capStep src rising n u).capView n :=
  forEach_at (State.capView · n) s (capStep src rising) (List.mem_range.mpr hn) List.nodup_range
    fun _ _ h _ => capStep_keeps (State.capView · n) (State.capView_capture h)

section
variable {s t : State} {n : Nat} (h : t.capView n = s.capView n)
include h

theorem State.rg_of_capView {r : Reg} (hr : r ∈ capRegs) : t.rg r n = s.rg r n :=
  List.map_inj_left.mp (show capRegs.map (t.rg · n 0) = capRegs.map (s.rg · n 0) from congrArg Prod.fst h) r hr

theorem State.fd_of_capView {f : Field} (hr : f.reg ∈ capRegs) : t.fd f n = s.fd f n := by
  rw [State.fd, State.rg_of_capView h hr, State.fd]

theorem State.rg64_of_capView {lo hi : Reg} (h1 : lo ∈ capRegs) (h2 : hi ∈ capRegs) : t.rg64 lo hi n = s.rg64 lo hi n :=
  State.rg64_congr (State.rg_of_capView h h1) (State.rg_of_capView h h2)

theorem State.time_of_capView : t.ctNs = s.ctNs ∧ t.ptNs = s.ptNs ∧ t.time.cleared = s.time.cleared := by
  have ht : t.shell.time = s.shell.time := congrArg Prod.snd h
  exact ⟨congrArg (·.ct / 2 ^ 32) ht, congrArg (·.pt / 2 ^ 32) ht,
    (congrArg TimeState.cleared ht : t.shell.time.cleared = s.shell.time.cleared)⟩

theorem State.capBusy_of_capView : t.capBusy n ↔ s.capBusy n := by
  obtain ⟨-, -, hc⟩ := State.time_of_capView h
  unfold State.capBusy
  rw [State.flag_congr (State.fd_of_capView h (by decide)), hc]

end

/-- An event of a source that a channel does not take. -/
theorem State.capView_captureAll_off {s : State} {src : Nat} {rising : Bool} {n : Nat} (hn : n < 8)
    (h : s.fd F.TIM_CAPn_CTL_SRC n ≠ src ∨ s.flag F.TIM_CAPn_CTL_EN n = false) :
    (s.captureAll src rising).capView n = s.capView n := by
  obtain ⟨u, hu, ht⟩ := s.capView_captureAll src rising hn
  rw [ht, ← hu]
  refine congrArg (State.capView · n) (if_neg ?_)
  rw [State.fd_of_capView hu (by decide), State.flag_congr (State.fd_of_capView hu (by decide))]
  rintro ⟨he, hs, -⟩
  rcases h with h | h
  · exact h hs
  · exact Bool.false_ne_true (h.symm.trans he)

/-- An event of a source that a channel takes (R73, R74). -/
theorem State.captureAll_spec {s : State} {src : Nat} {rising : Bool} {n : Nat} (hn : n < 8)
    (hsrc : s.fd F.TIM_CAPn_CTL_SRC n = src) (hen : s.flag F.TIM_CAPn_CTL_EN n = true)
    (hedge : 0x20 ≤ src ∨ s.fd F.TIM_CAPn_CTL_EDGE n = 2 ∨ s.fd F.TIM_CAPn_CTL_EDGE n = b2n (!rising)) :
    (s.captureAll src rising).fd F.TIM_CAPn_CTL_FULL n = 1 ∧
    (¬ s.capBusy n → (s.captureAll src rising).rg64 .TIM_CAPn_CT_LO .TIM_CAPn_CT_HI n = s.ctNs % 2 ^ 64 ∧
      (s.captureAll src rising).rg64 .TIM_CAPn_PT_LO .TIM_CAPn_PT_HI n = s.ptNs % 2 ^ 64) ∧
    (s.capBusy n → (s.captureAll src rising).fd F.TIM_CAPn_CTL_OVR_CNT n = satInc 8 (s.fd F.TIM_CAPn_CTL_OVR_CNT n) ∧
      (s.captureAll src rising).rg64 .TIM_CAPn_CT_LO .TIM_CAPn_CT_HI n = s.rg64 .TIM_CAPn_CT_LO .TIM_CAPn_CT_HI n) := by
  obtain ⟨u, hu, ht⟩ := s.capView_captureAll src rising hn
  have hstep : capStep src rising n u = u.capture n := by
    refine if_pos ?_
    rw [State.fd_of_capView hu (by decide), State.flag_congr (State.fd_of_capView hu (by decide)),
      State.fd_of_capView hu (by decide)]
    refine ⟨hen, hsrc, hedge.imp_right (Or.imp_right fun h => ?_)⟩
    rw [h]
    cases rising <;> decide
  rw [hstep] at ht
  obtain ⟨hct, hpt, -⟩ := State.time_of_capView hu
  obtain ⟨hfull, hfree, hbusy⟩ := u.capture_spec n
  rw [hct, hpt, State.capBusy_of_capView hu] at hfree
  rw [State.capBusy_of_capView hu, State.fd_of_capView hu (f := F.TIM_CAPn_CTL_OVR_CNT) (by decide),
    State.rg64_of_capView hu (by decide) (by decide)] at hbusy
  rw [State.fd_of_capView ht (by decide), State.rg64_of_capView ht (by decide) (by decide),
    State.rg64_of_capView ht (by decide) (by decide), State.fd_of_capView ht (by decide)]
  exact ⟨hfull, hfree, fun h => ⟨(hbusy h).1, (hbusy h).2.1⟩⟩

theorem TimeState.loadCt_cleared (t : TimeState) (ns frac : Nat) : (t.loadCt ns frac).cleared = t.cleared := by
  unfold TimeState.loadCt
  generalize (2 : Nat) ^ 32 = p
  generalize (2 : Nat) ^ 96 = m
  rfl

theorem TimeState.tick_cleared (t : TimeState) (inc n : Nat) : (t.tick inc n).cleared = t.cleared := by
  unfold TimeState.tick
  simp only
  split
  · simp only [TimeState.loadCt_cleared]
  · simp only

theorem State.ticked_cleared (s : State) (k : Nat) : (s.ticked (k + 1)).time.cleared = s.time.cleared :=
  TimeState.tick_cleared _ _ _

/-- The flags that a write cleared are forgotten at the next TIME tick (R7). -/
theorem State.cleared_advance_succ (s : State) (k : Nat) : (s.advance (k + 1)).time.cleared = [] := by
  rw [State.advance_succ]
  split
  · split
    · rw [State.dropAlign_time, State.ticked_cleared, State.notePtJump_time]
      rfl
    · rw [State.ticked_cleared, State.notePtJump_time]
      rfl
  · rfl

theorem State.rg_advance_cap (s : State) (dt : Nat) {n : Nat} (hn : n < 8) {r : Reg} (h : r ∈ capRegs) : (s.advance dt).rg r n = s.rg r n := by
  have ha : r.addr n 0 ∈ capRegs.map (Reg.addr · n 0) := List.mem_map_of_mem (f := (Reg.addr · n 0)) h
  rw [capRegs_addr] at ha
  simp only [List.mem_cons, List.not_mem_nil, or_false] at ha
  refine State.rg_advance _ _ _ _ _ ?_ ?_
  · show r.addr n 0 ≠ 0x20000C
    omega
  · show r.addr n 0 ≠ 0x400108
    omega

theorem State.fd_advance_cap (s : State) (dt : Nat) {n : Nat} (hn : n < 8) {f : Field} (h : f.reg ∈ capRegs) :
    (s.advance dt).fd f n = s.fd f n := by
  rw [State.fd, State.rg_advance_cap s dt hn h, State.fd]

/-- Whether a channel is still busy `dt` ticks later. -/
theorem State.capBusy_advance {s : State} {dt n : Nat} (hn : n < 8) : (s.advance dt).capBusy n ↔
    s.flag F.TIM_CAPn_CTL_FULL n = true ∨ (s.capBusy n ∧ dt = 0) := by
  unfold State.capBusy
  rw [State.flag_congr (s.fd_advance_cap dt hn (by decide))]
  cases dt with
  | zero => simp [State.advance]
  | succ k => simp [State.cleared_advance_succ]

/-- Settles O21: a capture of one channel, then the channels of an event one by one. -/
theorem capturesOfTime : Obligations.CapturesOfTime := by
  unfold Obligations.CapturesOfTime
  intro s q v n full gone
  constructor
  · intro hg hsrc hedge htrig hen
    obtain ⟨u, he, hbusy, hct, hpt, hcores, hmem, hovr, hlct, hlpt⟩ := exec_swtrig_spec hg hsrc hedge htrig hen
    obtain ⟨h1, hfree, hkeep⟩ := u.capture_spec n
    rw [hbusy, hct, hpt] at hfree
    rw [hbusy, hovr, hlct, hlpt] at hkeep
    refine ⟨_, he, h1, fun hf hc => hfree (by rintro (h | h) <;> simp_all [full, gone]), hkeep, ?_, ?_⟩
    · rw [u.capture_frame n]
      exact hcores
    · rw [u.capture_frame n]
      exact hmem
  · intro src rising dt
    obtain ⟨hct, hpt, hmem⟩ := (s.advance dt).captureAll_kept src rising
    refine ⟨_, rfl, hct, hpt, hmem.trans (s.advance_mem dt), fun hn h1 h2 h3 => ?_, fun hn h1 => ?_⟩
    · rw [← s.fd_advance_cap dt hn (by decide)] at h1 h3
      rw [← State.flag_congr (s.fd_advance_cap dt hn (by decide))] at h2
      obtain ⟨hf, hfree, hbusy⟩ := State.captureAll_spec (rising := rising) hn h1 h2 h3
      rw [State.capBusy_advance hn] at hfree hbusy
      rw [s.fd_advance_cap dt hn (by decide), State.rg64_congr (s.rg_advance_cap dt hn (by decide))
        (s.rg_advance_cap dt hn (by decide))] at hbusy
      have hns : (s.advance dt).ctNs = ((s.advance dt).captureAll src rising).ctNs ∧
          (s.advance dt).ptNs = ((s.advance dt).captureAll src rising).ptNs :=
        ⟨congrArg (· / 2 ^ 32) hct.symm, congrArg (· / 2 ^ 32) hpt.symm⟩
      rw [hns.1, hns.2] at hfree
      refine ⟨hf, fun h4 h5 => hfree ?_, fun h4 => hbusy ?_⟩
      · rintro (h | ⟨h | h, h0⟩)
        · exact Bool.false_ne_true (h4.symm.trans h)
        · exact Bool.false_ne_true (h4.symm.trans h)
        · exact h5.elim (fun h6 => Bool.false_ne_true (h6.symm.trans h)) (fun h6 => absurd h0 h6.ne')
      · exact h4.imp_right fun h5 => ⟨.inr h5.1, h5.2⟩
    · rw [← s.fd_advance_cap dt hn (by decide), ← State.flag_congr (s.fd_advance_cap dt hn (by decide))] at h1
      have hv := State.capView_captureAll_off (rising := rising) hn h1
      exact ⟨(State.fd_of_capView hv (by decide)).trans (s.fd_advance_cap dt hn (by decide)),
        (State.rg64_of_capView hv (by decide) (by decide)).trans (State.rg64_congr (s.rg_advance_cap dt hn (by decide))
          (s.rg_advance_cap dt hn (by decide)))⟩

end Sys2Proof.Machine

/-!
## The calendar
-/

namespace Sys2Proof.Machine

/-! ### Signed fields -/

theorem ofSigned_lt (w : Nat) (i : Int) : ofSigned w i < 2 ^ w := by
  have hw : 0 < 2 ^ w := Nat.two_pow_pos w
  unfold ofSigned
  have h1 := Int.emod_lt_of_pos i (Int.natCast_pos.mpr hw)
  have h2 := Int.emod_nonneg i (Int.natCast_ne_zero.mpr hw.ne')
  omega

/-- A number within the range of a signed 11-bit field reads back from it. -/
theorem toSigned_ofSigned_trim {i : Int} (h1 : -1024 ≤ i) (h2 : i < 1024) : toSigned 11 (ofSigned 11 i) = i := by
  unfold toSigned ofSigned
  norm_num
  split <;> omega

theorem clampInt_eq {lo hi : Int} (h : lo ≤ hi) (i : Int) : clampInt lo hi i = max lo (min hi i) := by
  unfold clampInt
  split
  · omega
  · split <;> omega

/-! ### Loads (R84, R86) -/

theorem State.fd_loadCal_valid (s : State) (sec : Nat) : (s.loadCal sec).fd F.CAL_STAT_VALID = 1 :=
  State.fd_setFd_of_lt (by decide) (by decide)

theorem State.loadCal_cal (s : State) (sec : Nat) :
    (s.loadCal sec).cal = { s.cal with sec := sec % 2 ^ 64, sub := 0, leapNow := false } := by
  unfold State.loadCal
  rw [State.setFd_cal]

theorem State.loadCal_kept (s : State) (sec : Nat) : (s.loadCal sec).time = s.time ∧ (s.loadCal sec).mem = s.mem := by
  unfold State.loadCal
  rw [State.setFd_time, State.setFd_mem]
  exact ⟨rfl, rfl⟩

/-- CAL_SET that is let through while DISC is 0 (R10, R84). -/
theorem exec_calSet_spec {s : State} {q : Requester} (v : Word) (hg : s.grants q .CAL_SET_HI = true)
    (hd : s.flag F.CAL_CTL_DISC = false) : ∃ t, exec (.calSet q v) s = .next t ∧
      t.cal.sec = (v.toNat * 2 ^ 32 + s.heldLo q .CAL_SET_LO) % 2 ^ 64 ∧ t.cal.sub = 0 ∧ t.fd F.CAL_STAT_VALID = 1 ∧
      t.cal.supply = s.cal.supply ∧ t.time = s.time ∧ t.mem = s.mem := by
  have hdisc : (s.takeLo q .CAL_SET_LO 0).2.flag F.CAL_CTL_DISC = false := hd
  have hw : writeCalSet q v s = ((s.takeLo q .CAL_SET_LO 0).2.setRg64 .CAL_SET_LO .CAL_SET_HI 0
      (v.toNat * 2 ^ 32 + s.heldLo q .CAL_SET_LO)).loadCal (v.toNat * 2 ^ 32 + s.heldLo q .CAL_SET_LO) := by
    unfold writeCalSet
    dsimp only
    rw [hdisc, if_neg Bool.false_ne_true, State.takeLo_fst]
  have he : exec (.calSet q v) s = .next (writeCalSet q v s) := State.write_of_grants _ hg
  rw [hw] at he
  obtain ⟨⟨R, H, hu⟩, -⟩ := s.afterPair_setRg64 q .CAL_SET_LO .CAL_SET_HI (v.toNat * 2 ^ 32 + s.heldLo q .CAL_SET_LO)
    (by decide) (by decide)
  rw [hu] at he
  generalize v.toNat * 2 ^ 32 + s.heldLo q .CAL_SET_LO = x at he ⊢
  have hk := State.loadCal_kept { s with regs := R, holds := H } x
  exact ⟨_, he, by rw [State.loadCal_cal], by rw [State.loadCal_cal], State.fd_loadCal_valid _ _,
    by rw [State.loadCal_cal], hk.1, hk.2⟩

/-- CAL_DISC_SECOND under discipline (R86). -/
theorem exec_calDiscSecond_spec {s : State} (hd : (s.advance s.ticksToPtSecond).disciplined = true) :
    let u := s.advance s.ticksToPtSecond
    ∃ t, exec .calDiscSecond s = .next t ∧ t.time = u.time ∧
      (u.cal.started = false → t.cal.started = true ∧ t.cal.sec = u.ptUtc % 2 ^ 64 ∧ t.cal.sub = 0 ∧
        t.fd F.CAL_STAT_VALID = 1) ∧
      (u.cal.started = true → u.calLag.natAbs < 32768 → t = { u with cal := { u.cal with eLast := u.calLag } }) := by
  have he : exec .calDiscSecond s = execCalDiscSecond s := rfl
  rw [he]
  unfold execCalDiscSecond
  dsimp only
  generalize s.advance s.ticksToPtSecond = u at hd ⊢
  rw [hd, if_neg (by decide)]
  by_cases hs : ¬ u.cal.started = true ∨ 32768 ≤ u.calLag.natAbs
  · rw [if_pos hs]
    exact ⟨_, rfl, rfl, fun _ => ⟨rfl, rfl, rfl, u.fd_loadCal_valid u.ptUtc⟩,
      fun h1 h2 => absurd hs (by rw [not_or]; exact ⟨not_not_intro h1, by omega⟩)⟩
  · rw [if_neg hs]
    exact ⟨_, rfl, rfl, fun h => absurd (.inl (by rw [h]; decide)) hs, fun _ _ => rfl⟩

/-- CAL_TRIM_WINDOW under discipline (R86). -/
theorem exec_calTrimWindow_spec {s : State} (hd : s.toWindowEnd.disciplined = true) :
    let u := s.toWindowEnd
    let e := u.cal.eLast
    ∃ t, exec .calTrimWindow s = .next t ∧ t.time = u.time ∧
      (toSigned 11 (t.fd F.CAL_TRIM_TRIM) = max (-1023) (min 1023
        (toSigned 11 (u.fd F.CAL_TRIM_TRIM) + (e - u.cal.eStart) + max (-64) (min 64 e))) ∧
        t.cal = { u.cal with eStart := e }) ∧ u.onlyFields t (fun _ => false) [(F.CAL_TRIM_TRIM, 0)] := by
  have he : exec .calTrimWindow s = execCalTrimWindow s := rfl
  rw [he]
  unfold execCalTrimWindow
  dsimp only
  generalize s.toWindowEnd = u at hd ⊢
  rw [hd, if_neg (by decide), clampInt_eq (by decide), clampInt_eq (by decide)]
  generalize toSigned 11 (u.fd F.CAL_TRIM_TRIM) + _ + _ = x
  refine ⟨_, rfl, rfl, ⟨?_, rfl⟩, State.onlyFields_of_regs (State.onlyFields_setFd (u.onlyFields_refl _ _)
    F.CAL_TRIM_TRIM 0 _ (by decide) (by simp)) rfl⟩
  exact (congrArg (toSigned 11) ((State.fd_of_regs (s := u.setFd F.CAL_TRIM_TRIM 0 0 _) rfl F.CAL_TRIM_TRIM 0 0).trans
    (State.fd_setFd_of_lt (by decide) (ofSigned_lt 11 _)))).trans (toSigned_ofSigned_trim (by omega) (by omega))

/-! ### Leap seconds (R88) -/

theorem State.leapApply_spec (s : State) (d : Int) (c : CalState) : (s.leapApply d c).cal = c ∧
    (s.leapApply d c).fd F.CAL_UTC_LEAP = 0 ∧ (s.leapApply d c).fd F.CAL_UTC_UTC_OFS = ofSigned 16 (s.utcOfs + d) := by
  unfold State.leapApply
  refine ⟨rfl, State.fd_setFd_of_lt (by decide) (by decide), ?_⟩
  rw [State.fd_setFd_apart (by decide) (by decide), State.fd_setFd_of_lt (by decide) (ofSigned_lt 16 _)]

theorem State.utcOfs_advance (s : State) (n : Nat) : (s.advance n).utcOfs = s.utcOfs := by
  unfold State.utcOfs
  rw [State.fd_advance _ _ _ _ _ (by decide) (by decide)]

/-- The end of a day with an inserted leap second (R88). -/
theorem exec_leapSecond_insert {s : State} (h : s.fd F.CAL_UTC_LEAP = 1) : ∃ t, exec .leapSecond s = .next t ∧
    t.cal.sec % 86400 = 86399 ∧ t.cal.leapNow = true ∧ t.fd F.CAL_UTC_LEAP = 0 ∧
    t.fd F.CAL_UTC_UTC_OFS = ofSigned 16 (s.utcOfs + 1) := by
  have he : exec .leapSecond s = execLeapSecond s := rfl
  unfold execLeapSecond at he
  rw [h] at he
  obtain ⟨hc, hl, ho⟩ := State.leapApply_spec (s.advance (s.ticksToCal ((s.cal.sec / 86400 + 1) * 86400))) 1
    { (s.advance (s.ticksToCal ((s.cal.sec / 86400 + 1) * 86400))).cal with
      sec := s.cal.sec / 86400 * 86400 + 86399, leapNow := true }
  rw [State.utcOfs_advance] at ho
  refine ⟨_, he, ?_, ?_, hl, ho⟩
  · rw [hc]
    show (s.cal.sec / 86400 * 86400 + 86399) % 86400 = 86399
    omega
  · rw [hc]

/-- The end of a day with a deleted leap second (R88). -/
theorem exec_leapSecond_delete {s : State} (h : s.fd F.CAL_UTC_LEAP = 2) : ∃ t, exec .leapSecond s = .next t ∧
    t.cal.sec = (s.cal.sec / 86400 + 1) * 86400 ∧ t.fd F.CAL_UTC_LEAP = 0 ∧
    t.fd F.CAL_UTC_UTC_OFS = ofSigned 16 (s.utcOfs - 1) := by
  have he : exec .leapSecond s = execLeapSecond s := rfl
  unfold execLeapSecond at he
  rw [h] at he
  obtain ⟨hc, hl, ho⟩ := State.leapApply_spec (s.advance (s.ticksToCal (s.cal.sec / 86400 * 86400 + 86399))) (-1)
    { (s.advance (s.ticksToCal (s.cal.sec / 86400 * 86400 + 86399))).cal with
      sec := (s.cal.sec / 86400 + 1) * 86400 }
  rw [State.utcOfs_advance] at ho
  exact ⟨_, he, by rw [hc], hl, ho⟩

/-! ### The supplies (R82, R89) -/

/-- SUPERCAP_EXHAUSTED on the supercap (R82). -/
theorem exec_supercapExhausted_spec {s : State} (h : s.cal.supply = .supercap) : ∃ t,
    exec .supercapExhausted s = .next t ∧ t.cal = { s.cal with supply := .vbat } ∧ t.fd F.CAL_STAT_BAT_USED = 1 ∧
    t.fd F.CAL_STAT_BAT_CNT = satInc 8 (s.fd F.CAL_STAT_BAT_CNT) ∧
    s.onlyFields t (fun _ => false) [(F.CAL_STAT_BAT_USED, 0), (F.CAL_STAT_BAT_CNT, 0)] := by
  have he : exec .supercapExhausted s = _ := if_pos h
  refine ⟨_, he, rfl, State.fd_raise_flag (by decide) (by decide) (by decide),
    State.fd_raise_count (by decide) (by decide) (by decide), ?_⟩
  exact State.onlyFields_raise (State.onlyFields_of_regs (s.onlyFields_refl _ _) rfl) F.CAL_STAT_BAT_USED
    F.CAL_STAT_BAT_CNT 0 (by decide) (by simp) (by decide) (by simp)

/-- The calendar after a loss of all supply (R89). -/
def State.calRestarted (s : State) : State :=
  { s with cal := { sec := 0, sub := 0, window := 0, frac := 0, leapNow := false, eStart := 0, eLast := 0, started := false,
                    windowDue := false, supply := if s.held then .vbat else .vin12 } }

/-- CAL_SUPPLY_LOST (R89). -/
theorem exec_calSupplyLost_spec (s : State) : ∃ t, exec .calSupplyLost s = .next t ∧ t.cal.sec = 0 ∧ t.cal.sub = 0 ∧
    t.fd F.CAL_TRIM_TRIM = 0 ∧ t.fd F.CAL_STAT_VALID = 0 ∧ t.fd F.CAL_STAT_LOST = 1 ∧
    t.fd F.CAL_STAT_LOST_CNT = satInc 8 (s.fd F.CAL_STAT_LOST_CNT) ∧
    s.onlyFields t (fun _ => false) [(F.CAL_TRIM_TRIM, 0), (F.CAL_STAT_VALID, 0), (F.CAL_STAT_LOST, 0),
      (F.CAL_STAT_LOST_CNT, 0)] := by
  have he : exec .calSupplyLost s = .next (((s.calRestarted.setFd F.CAL_TRIM_TRIM 0 0 0).setFd F.CAL_STAT_VALID 0 0
      0).raise F.CAL_STAT_LOST F.CAL_STAT_LOST_CNT 0 0) := rfl
  have hu : s.calRestarted.regs = s.regs := rfl
  refine ⟨_, he, ?_, ?_, ?_, ?_, State.fd_raise_flag (by decide) (by decide) (by decide), ?_, ?_⟩
  · rw [State.raise_cal, State.setFd_cal, State.setFd_cal]
    rfl
  · rw [State.raise_cal, State.setFd_cal, State.setFd_cal]
    rfl
  · rw [State.fd_raise_apart (by decide) (by decide) (by decide) (by decide), State.fd_setFd_apart (by decide) (by decide),
      State.fd_setFd_of_lt (by decide) (by decide)]
  · rw [State.fd_raise_apart (by decide) (by decide) (by decide) (by decide),
      State.fd_setFd_of_lt (by decide) (by decide)]
  · rw [State.fd_raise_count (by decide) (by decide) (by decide), State.fd_setFd_apart (by decide) (by decide),
      State.fd_setFd_apart (by decide) (by decide), State.fd_of_regs hu]
    rfl
  · have h : s.onlyFields s.calRestarted (fun _ => false) [(F.CAL_TRIM_TRIM, 0), (F.CAL_STAT_VALID, 0), (F.CAL_STAT_LOST, 0),
        (F.CAL_STAT_LOST_CNT, 0)] := State.onlyFields_of_regs (s.onlyFields_refl _ _) hu
    exact State.onlyFields_raise (State.onlyFields_setFd (State.onlyFields_setFd h F.CAL_TRIM_TRIM 0 0 (by decide) (by simp))
      F.CAL_STAT_VALID 0 0 (by decide) (by simp)) F.CAL_STAT_LOST F.CAL_STAT_LOST_CNT 0 (by decide) (by simp) (by decide)
      (by simp)

/-- Settles O22: a lemma per command of the calendar. -/
theorem calendarKeepsTime : Obligations.CalendarKeepsTime := by
  unfold Obligations.CalendarKeepsTime
  exact fun s q v => ⟨exec_calSet_spec v, exec_calDiscSecond_spec, exec_calTrimWindow_spec, exec_leapSecond_insert,
    exec_leapSecond_delete, rfl, exec_supercapExhausted_spec, exec_calSupplyLost_spec s⟩

end Sys2Proof.Machine

/-!
## One TIME tick, and the reset state
-/

namespace Sys2Proof.Machine

/-! ### What the passing of time leaves alone -/

/-- The state but for the registers, the counters, the calendar, the cores' budgets, the launches noted as late, and the
integral of the alignment. -/
def State.still (s : State) : State :=
  { s with regs := [], time := State.reset.time, cal := State.reset.cal, cores := [], hs := { s.hs with late := [] },
           kl := { s.kl with integral := 0 } }

theorem State.still_notePtJump (s : State) : s.notePtJump.still = s.still := by
  unfold State.notePtJump
  split <;> rfl

theorem State.still_fresh (s : State) (n : Nat) : (s.fresh n).still = s.still := rfl
theorem State.still_ticked (s : State) (n : Nat) : (s.ticked n).still = s.still := rfl
theorem State.still_dropAlign (s : State) : s.dropAlign.still = s.still := rfl
theorem State.still_idled (s : State) (n : Nat) : (s.idled n).still = s.still := rfl

theorem State.still_advance (s : State) (n : Nat) : (s.advance n).still = s.still := by
  cases n with
  | zero => rfl
  | succ k =>
    rw [State.advance_succ]
    split
    · split
      · rw [State.still_dropAlign, State.still_ticked, State.still_notePtJump, State.still_fresh]
      · rw [State.still_ticked, State.still_notePtJump, State.still_fresh]
    · rw [State.still_idled, State.still_fresh]

/-! ### The counters of one tick -/

/-- What a load of CT sets. -/
theorem TimeState.loadCt_eq (t : TimeState) (ns frac : Nat) : ∃ ct start, t.loadCt ns frac =
    { t with ct := ct, ctLoad := none, noBase := true, startAt := start, cutoffDone := true, planDone := true,
             superDone := true, startDone := true } := ⟨_, _, rfl⟩

@[simp] theorem TimeState.loadCt_ctLoad (t : TimeState) (ns frac : Nat) : (t.loadCt ns frac).ctLoad = none := by
  obtain ⟨_, _, h⟩ := t.loadCt_eq ns frac
  rw [h]

@[simp] theorem TimeState.loadCt_ptLoad (t : TimeState) (ns frac : Nat) : (t.loadCt ns frac).ptLoad = t.ptLoad := by
  obtain ⟨_, _, h⟩ := t.loadCt_eq ns frac
  rw [h]

@[simp] theorem TimeState.loadCt_ptAdj (t : TimeState) (ns frac : Nat) : (t.loadCt ns frac).ptAdj = t.ptAdj := by
  obtain ⟨_, _, h⟩ := t.loadCt_eq ns frac
  rw [h]

@[simp] theorem TimeState.loadCt_ticks (t : TimeState) (ns frac : Nat) : (t.loadCt ns frac).ticks = t.ticks := by
  obtain ⟨_, _, h⟩ := t.loadCt_eq ns frac
  rw [h]

@[simp] theorem TimeState.loadCt_raised (t : TimeState) (ns frac : Nat) : (t.loadCt ns frac).raised = t.raised := by
  obtain ⟨_, _, h⟩ := t.loadCt_eq ns frac
  rw [h]

@[simp] theorem TimeState.loadCt_noBase (t : TimeState) (ns frac : Nat) : (t.loadCt ns frac).noBase = true := by
  obtain ⟨_, _, h⟩ := t.loadCt_eq ns frac
  rw [h]

/-- The counters after some ticks, their values left open. -/
theorem TimeState.tick_eq (t : TimeState) (inc n : Nat) : ∃ pt ct, t.tick inc n =
    { (match t.ctLoad with
      | some v => ({ t with ptInc := inc, pt := pt, ptLoad := none, ptAdj := 0 } : TimeState).loadCt v 0
      | none => { t with ptInc := inc, pt := pt, ptLoad := none, ptAdj := 0 }) with ct := ct } := by
  unfold TimeState.tick
  cases h : t.ctLoad with
  | none => exact ⟨_, _, rfl⟩
  | some v => exact ⟨_, _, rfl⟩

/-- What a run of ticks sets beside the counters. -/
theorem TimeState.tick_settles (t : TimeState) (inc n : Nat) : (t.tick inc n).ctLoad = none ∧
    (t.tick inc n).ptLoad = none ∧ (t.tick inc n).ptAdj = 0 ∧ (t.tick inc n).ticks = t.ticks ∧
    (t.tick inc n).raised = t.raised ∧ (t.tick inc n).noBase = (t.noBase || t.ctLoad.isSome) := by
  obtain ⟨pt, ct, h⟩ := t.tick_eq inc n
  rw [h]
  cases hl : t.ctLoad with
  | none => simp
  | some v => simp

/-- PT after one tick without a load of it (R67, R68). -/
theorem TimeState.tick_pt {t : TimeState} (h : t.ptLoad = none) (inc : Nat) : (t.tick inc 0).pt =
    ((((t.pt + inc : Nat) : Int) + t.ptAdj * 2 ^ 32) % 2 ^ 96).toNat := by
  unfold TimeState.tick
  simp only [h]
  generalize hpt : ((((t.pt + inc : Nat) : Int) + t.ptAdj * (2 ^ 32 : Nat)) % (2 ^ 96 : Nat)).toNat = x
  have hx : (x + 0 * inc) % 2 ^ 96 = ((((t.pt + inc : Nat) : Int) + t.ptAdj * 2 ^ 32) % 2 ^ 96).toNat := by
    have h1 : (((2 ^ 32 : Nat)) : Int) = 2 ^ 32 := by norm_num
    have h2 : (((2 ^ 96 : Nat)) : Int) = 2 ^ 96 := by norm_num
    rw [h1, h2] at hpt
    rw [hpt, Nat.zero_mul, Nat.add_zero]
    refine Nat.mod_eq_of_lt ?_
    omega
  rw [← hx]
  generalize (x + 0 * inc) % 2 ^ 96 = y
  split
  · exact (TimeState.setCt_pt _ _).trans (TimeState.loadCt_pt _ _ _)
  · rfl

/-- The state after one TIME tick, while the root clock runs and while it does not (R61). -/
theorem State.advance_one (s : State) : s.advance 1 = if s.clockOn then
    if s.time.ctLoad.isSome then ((s.fresh 1).notePtJump.ticked 1).dropAlign else (s.fresh 1).notePtJump.ticked 1
    else (s.fresh 1).idled 1 := by
  rw [State.advance_succ, State.fresh_clockOn, State.notePtJump_time]
  rfl

/-- What a tick of the clock sets beside the counters. -/
theorem State.ticked_settles (s : State) : (s.ticked 1).time.ctLoad = none ∧ (s.ticked 1).time.ptLoad = none ∧
    (s.ticked 1).time.ptAdj = 0 ∧ (s.ticked 1).time.ticks = s.time.ticks + 1 ∧
    (s.ticked 1).time.raised = s.time.raised ∧ (s.ticked 1).time.noBase = (s.time.noBase || s.time.ctLoad.isSome) := by
  have h := s.time.tick_settles s.ptIncReg 0
  unfold State.ticked
  simp only [Nat.sub_self]
  generalize s.time.tick s.ptIncReg 0 = t at h ⊢
  obtain ⟨h1, h2, h3, h4, h5, h6⟩ := h
  exact ⟨h1, h2, h3, congrArg (· + 1) h4, h5, h6⟩

/-- What a tick of the running clock leaves of what waits for it. -/
theorem State.time_advance_one {s : State} (h : s.clockOn = true) : (s.advance 1).time.ctLoad = none ∧
    (s.advance 1).time.ptLoad = none ∧ (s.advance 1).time.ptAdj = 0 ∧ (s.advance 1).time.ticks = s.time.ticks + 1 ∧
    (s.advance 1).time.raised = [] ∧ (s.advance 1).time.noBase = (s.time.noBase || s.time.ctLoad.isSome) := by
  have ht : (s.advance 1).time = (((s.fresh 1).notePtJump.ticked 1).time) := by
    rw [State.advance_one, if_pos h]
    split
    · rw [State.dropAlign_time]
    · rfl
  have hs := State.ticked_settles (s.fresh 1).notePtJump
  rw [State.notePtJump_time] at hs
  rw [ht]
  exact hs

/-- Without a load of CT time changes no register. -/
theorem State.regs_advance_one {s : State} (h : s.time.ctLoad = none) : (s.advance 1).regs = s.regs := by
  rw [State.advance_one, h, if_neg (c := (none : Option Nat).isSome = true) (by decide)]
  split <;> simp

/-- While the root clock stands, the calendar and the time base move on alone (R61). -/
theorem State.advance_one_stopped {s : State} (h : s.clockOn = false) : s.advance 1 = { s with
    cal := (s.advance 1).cal, time := { s.time with ticks := s.time.ticks + 1, raised := [], cleared := [] } } := by
  rw [State.advance_one, h, if_neg (by decide)]
  rfl

/-- Settles O32, by the lemmas about the counters over one tick. -/
theorem emptyQueueTicks : Obligations.EmptyQueueTicks := by
  unfold Obligations.EmptyQueueTicks
  intro s hp
  have hstep : step s = .next (s.advance 1) := by
    unfold step
    rw [hp]
  have hstill := s.still_advance 1
  have hmem := s.advance_mem 1
  have hclr := s.cleared_advance_succ 0
  have hstop := State.advance_one_stopped (s := s)
  have hkept : (s.advance 1).pending = [] ∧ (s.advance 1).lc = s.lc ∧ (s.advance 1).jnl = s.jnl := by
    generalize s.advance 1 = t at hstill ⊢
    exact ⟨(congrArg (·.pending) hstill).trans hp, congrArg (·.lc) hstill, congrArg (·.jnl) hstill⟩
  obtain ⟨h1, h2, h3⟩ := hkept
  have hticks : (s.advance 1).time.ticks = s.time.ticks + 1 ∧ (s.advance 1).time.raised = [] := by
    cases hc : s.clockOn with
    | true => exact ⟨(State.time_advance_one hc).2.2.2.1, (State.time_advance_one hc).2.2.2.2.1⟩
    | false => rw [hstop hc]; exact ⟨rfl, rfl⟩
  refine ⟨_, hstep, hticks.1, h1, hmem, h2, h3, hticks.2, hclr, fun hc => ?_, hstop⟩
  obtain ⟨hct, hpt⟩ := State.advance_succ_counters hc 0
  obtain ⟨g1, g2, g3, -, -, g6⟩ := State.time_advance_one hc
  rw [hct, hpt]
  refine ⟨g1, g2, g3, fun v hv => ⟨TimeState.tick_ct_load (t := s.time.fresh) hv _, ?_⟩,
    fun hn => ⟨?_, State.regs_advance_one hn⟩, fun v hv => TimeState.tick_pt_load (t := s.time.fresh) hv _,
    fun hn => TimeState.tick_pt (t := s.time.fresh) hn _⟩
  · rw [g6, hv]
    exact Bool.or_true _
  · rw [TimeState.tick_ct (t := s.time.fresh) hn, Nat.zero_add, Nat.one_mul]
    rfl

/-- Settles O36. -/
theorem resetState : Obligations.ResetState := by
  unfold Obligations.ResetState
  exact ⟨rfl, rfl, rfl, rfl, rfl, rfl, rfl, rfl, rfl, rfl, by decide⟩

end Sys2Proof.Machine

/-!
## Alignment to a reference
-/

namespace Sys2Proof.Machine

/-! ### The time base and the link's state while time passes -/

/-- Ticks leave the base cycle's number and length. -/
theorem TimeState.tick_base (t : TimeState) (inc n : Nat) : (t.tick inc n).bcn = t.bcn ∧ (t.tick inc n).base = t.base := by
  obtain ⟨pt, ct, h⟩ := t.tick_eq inc n
  rw [h]
  cases hl : t.ctLoad with
  | none => exact ⟨rfl, rfl⟩
  | some v =>
    obtain ⟨_, _, hc⟩ := TimeState.loadCt_eq { t with ptInc := inc, pt := pt, ptLoad := none, ptAdj := 0 } v 0
    simp only [hl] at hc
    simp only [hc, and_self]

theorem State.ticked_base (s : State) (n : Nat) : (s.ticked n).time.bcn = s.time.bcn ∧
    (s.ticked n).time.base = s.time.base := by
  have h := s.time.tick_base s.ptIncReg (n - 1)
  unfold State.ticked
  simp only
  generalize s.time.tick s.ptIncReg (n - 1) = t at h ⊢
  exact h

theorem State.base_advance (s : State) (n : Nat) : (s.advance n).time.bcn = s.time.bcn ∧
    (s.advance n).time.base = s.time.base := by
  cases n with
  | zero => exact ⟨rfl, rfl⟩
  | succ k =>
    have h := (s.fresh (k + 1)).notePtJump.ticked_base (k + 1)
    rw [State.notePtJump_time] at h
    rw [State.advance_succ]
    split
    · split
      · rw [State.dropAlign_time]
        exact h
      · exact h
    · exact ⟨rfl, rfl⟩

theorem State.lenNs_advance (s : State) (n : Nat) : (s.advance n).lenNs = s.lenNs := by
  unfold State.lenNs
  rw [(s.base_advance n).2]

/-- Of the link's state time changes the integral of the alignment alone. -/
theorem State.kl_advance (s : State) (n : Nat) :
    (s.advance n).kl = { s.kl with integral := (s.advance n).kl.integral } := by
  have h := congrArg State.kl (s.still_advance n)
  generalize s.advance n = t at h ⊢
  exact (congrArg (fun k : KlState => { k with integral := t.kl.integral }) h : _)

theorem State.ch_advance (s : State) (n : Nat) : (s.advance n).ch = s.ch := by
  have h := s.still_advance n
  generalize s.advance n = t at h ⊢
  exact congrArg (·.ch) h

theorem State.csState_advance (s : State) (n : Nat) : (s.advance n).csState = s.csState :=
  State.fd_advance _ _ _ _ _ (by decide) (by decide)

/-- The flags and counters of TIM_CT_STAT but SRC stay while time passes. -/
theorem State.fd_advance_ctStat (s : State) (n : Nat) {g : Field} (hr : g.reg = .TIM_CT_STAT) (h : 1 < g.lo) :
    (s.advance n).fd g = s.fd g := by
  have hrun : ∀ m, ((s.fresh m).notePtJump.ticked m).fd g = s.fd g := fun m => State.fd_of_regs (by simp) g 0 0
  cases n with
  | zero => rfl
  | succ k =>
    rw [State.advance_succ]
    split
    · split
      · rw [← hrun (k + 1)]
        generalize (s.fresh (k + 1)).notePtJump.ticked (k + 1) = t
        have hg : F.TIM_CT_STAT_SRC.apart 0 0 g 0 0 = true := Field.apart_of_bits hr (.inr h)
        refine (State.fd_of_regs (s := (t.setFd F.TIM_CT_STAT_SRC 0 0 0).setRg .KL_TIME_ERR 0 0 0) rfl g 0 0).trans ?_
        refine Eq.trans ?_ (State.fd_setFd_apart (s := t) (v := 0) (by decide) hg)
        rw [State.fd, State.rg_setRg_other _ _ _ _ _ _ _ _ (by rw [hr]; decide), State.fd]
      · exact hrun (k + 1)
    · exact State.fd_of_regs (by simp) g 0 0

/-! ### The loop (R164) -/

/-- The bound of the correction: 20 ppm. -/
def alignLimit : Int := alignUnit * 20 / 1000000

/-- What a sample of the error makes of the loop's integral, before the bound. -/
def State.alignSum (s : State) (e : Int) : Int := s.kl.integral + 17 * e * (250000 / s.lenNs : Int)

/-- The increment of CT for a correction. -/
def alignInc (c : Int) : Nat := (2 ^ 33 + (2 ^ 33 * c).tdiv alignUnit).toNat

/-- The loop takes a sample: the increment for the correction `c`, the integral `i`, and ERR. -/
def State.alignTo (s : State) (e c i : Int) : State :=
  ({ s with time := { s.time with ctInc := alignInc c }, kl := { s.kl with integral := i } }).setRg .KL_TIME_ERR 0 0
    (ofSigned 32 (e / 256))

theorem alignLimit_nonneg : 0 ≤ alignLimit := by decide

/-- The correction as the loop bounds it. -/
theorem alignBound_eq (c : Int) : (if alignLimit < c then alignLimit else if c < -alignLimit then -alignLimit else c) =
    max (-alignLimit) (min alignLimit c) := by
  have h := alignLimit_nonneg
  generalize alignLimit = l at h ⊢
  split
  · omega
  · split <;> omega

/-- The loop within its bound, and beyond it, where the integral stays and CLAMP is raised (R164). -/
theorem State.align_eq (s : State) (e : Int) : s.align e =
    if alignLimit < s.alignSum e ∨ s.alignSum e < -alignLimit then
      (s.alignTo e (max (-alignLimit) (min alignLimit (s.alignSum e))) s.kl.integral).raise F.TIM_CT_STAT_CLAMP
        F.TIM_CT_STAT_CLAMP_CNT 0 0
    else s.alignTo e (max (-alignLimit) (min alignLimit (s.alignSum e)))
      (s.kl.integral + e * (250000 / s.lenNs : Int)) := by
  rw [← alignBound_eq]
  by_cases hb : alignLimit < s.alignSum e ∨ s.alignSum e < -alignLimit
  · have hi : (if alignLimit < s.alignSum e ∨ s.alignSum e < -alignLimit then s.kl.integral
        else s.kl.integral + e * (250000 / s.lenNs : Int)) = s.kl.integral := if_pos hb
    rw [if_pos hb, ← hi]
    exact if_pos hb
  · have hi : (if alignLimit < s.alignSum e ∨ s.alignSum e < -alignLimit then s.kl.integral
        else s.kl.integral + e * (250000 / s.lenNs : Int)) = s.kl.integral + e * (250000 / s.lenNs : Int) := if_neg hb
    rw [if_neg hb, ← hi]
    exact if_neg hb

theorem State.raise_ctInc (s : State) (f c : Field) (i j : Nat) : (s.raise f c i j).time.ctInc = s.time.ctInc := rfl

/-- What a sample of the error sets (R164). -/
theorem State.align_spec (s : State) (e : Int) :
    (s.align e).time.ctInc = alignInc (max (-alignLimit) (min alignLimit (s.alignSum e))) ∧
    (s.align e).rg .KL_TIME_ERR = ofSigned 32 (e / 256) ∧
    (-alignLimit ≤ s.alignSum e ∧ s.alignSum e ≤ alignLimit →
      (s.align e).kl.integral = s.kl.integral + e * (250000 / s.lenNs : Int) ∧
      (s.align e).fd F.TIM_CT_STAT_CLAMP = s.fd F.TIM_CT_STAT_CLAMP) ∧
    (s.alignSum e < -alignLimit ∨ alignLimit < s.alignSum e → (s.align e).kl.integral = s.kl.integral ∧
      (s.align e).fd F.TIM_CT_STAT_CLAMP = 1 ∧
      (s.align e).fd F.TIM_CT_STAT_CLAMP_CNT = satInc 8 (s.fd F.TIM_CT_STAT_CLAMP_CNT)) := by
  have herr : ∀ t : State, (t.setRg .KL_TIME_ERR 0 0 (ofSigned 32 (e / 256))).rg .KL_TIME_ERR = ofSigned 32 (e / 256) :=
    fun t => (State.rg_setRg _ _ _ _ _).trans (Nat.mod_eq_of_lt (ofSigned_lt 32 _))
  have hfd : ∀ (c i : Int) (g : Field), g.reg = .TIM_CT_STAT → (s.alignTo e c i).fd g = s.fd g := fun c i g hg => by
    unfold State.alignTo
    rw [State.fd, State.rg_setRg_other _ _ _ _ _ _ _ _ (by rw [hg]; decide)]
    exact State.fd_of_regs rfl g 0 0
  by_cases hb : alignLimit < s.alignSum e ∨ s.alignSum e < -alignLimit
  · rw [State.align_eq, if_pos hb]
    refine ⟨?_, ?_, fun h => absurd hb (by omega), fun _ => ⟨?_, ?_, ?_⟩⟩
    · rw [State.raise_ctInc]
      rfl
    · rw [State.rg_raise_other (by decide) (by decide)]
      exact herr _
    · rw [State.raise_kl]
      rfl
    · exact State.fd_raise_flag (by decide) (by decide) (by decide)
    · rw [State.fd_raise_count (by decide) (by decide) (by decide), hfd _ _ _ rfl]
      rfl
  · rw [State.align_eq, if_neg hb]
    exact ⟨rfl, herr _, fun _ => ⟨rfl, hfd _ _ _ rfl⟩, fun h => absurd h.symm hb⟩

/-- A sample of the error leaves the rest. -/
theorem State.align_frame (s : State) (e : Int) : ∃ R r inc i, s.align e = { s with
    regs := R, time := { s.time with ctInc := inc, raised := r }, kl := { s.kl with integral := i } } := by
  rw [State.align_eq]
  split
  · exact ⟨_, _, _, _, rfl⟩
  · exact ⟨_, _, _, _, rfl⟩

theorem State.align_kept (s : State) (e : Int) : (s.align e).mem = s.mem ∧ (s.align e).time.ct = s.time.ct ∧
    (s.align e).ch = s.ch ∧ (s.align e).kl = { s.kl with integral := (s.align e).kl.integral } := by
  obtain ⟨R, r, inc, i, h⟩ := s.align_frame e
  rw [h]
  exact ⟨rfl, rfl, rfl, rfl⟩

/-! ### TIME_REPORT (R163, R164) -/

/-- A report of the reference node that is taken. -/
def State.reportTaken (s : State) : State :=
  { s with kl := { s.kl with trSeen := true, trMiss := 0, holdBcn := none } }

/-- TIME_REPORT_RECEIVE of the first report of the base cycle, of the reference node, while INTEGRATED (R163). -/
theorem exec_timeReportReceive_taken {s : State} {p node dt : Nat} {bs : List Byte} (hcs : s.csState = 9)
    (href : s.kl.ref = some node) (hseen : s.kl.trSeen = false) (hon : s.portOn p = true)
    (hrej : (s.advance dt).klReject p 7 true bs = none) (hsub : klField bs 12 1 = 6) (hlen : 34 ≤ klField bs 10 2)
    (hnode : klField bs 2 2 = node) (hbcn : klField bs 16 4 = s.time.bcn % 2 ^ 32) :
    exec (.timeReportReceive p dt true bs) s =
      .next ((s.advance dt).reportTaken.align (toSigned 64 (klField bs 20 8))) := by
  have hkl := s.kl_advance dt
  have htake : (s.advance dt).takeTimeReport (klField bs 2 2) (toSigned 64 (klField bs 20 8)) =
      (s.advance dt).reportTaken.align (toSigned 64 (klField bs 20 8)) := by
    have h9 : (s.advance dt).csState = 9 := (s.csState_advance dt).trans hcs
    have h11 : ¬ (s.advance dt).csState = 11 := by omega
    unfold State.takeTimeReport
    rw [if_neg, if_neg h11]
    · rfl
    · rw [hkl]
      simp [hseen, h9]
  have hmatch : ¬ ((s.advance dt).kl.ref ≠ some (klField bs 2 2) ∨ klField bs 16 4 ≠ (s.advance dt).time.bcn % 2 ^ 32) := by
    rw [hkl, (s.base_advance dt).1, hnode]
    simp [href, hbcn]
  show execTimeReportReceive p dt true bs s = _
  unfold execTimeReportReceive
  dsimp only
  rw [hon, if_neg (not_not_intro rfl)]
  unfold State.delayFrame
  rw [hrej]
  dsimp only
  rw [hsub, if_neg (by simp [hlen]), if_neg hmatch, htake]

/-- What such a report sets (R164). -/
theorem State.reportTaken_spec (s : State) (dt : Nat) (e : Int) :
    let u := s.advance dt
    let t := u.reportTaken.align e
    let c := u.kl.integral + 17 * e * (250000 / s.lenNs : Int)
    t.kl.trSeen = true ∧ t.kl.trMiss = 0 ∧ t.time.ctInc = alignInc (max (-alignLimit) (min alignLimit c)) ∧
    t.rg .KL_TIME_ERR = ofSigned 32 (e / 256) ∧ t.mem = s.mem ∧
    (-alignLimit ≤ c ∧ c ≤ alignLimit → t.kl.integral = u.kl.integral + e * (250000 / s.lenNs : Int) ∧
      t.fd F.TIM_CT_STAT_CLAMP = s.fd F.TIM_CT_STAT_CLAMP) ∧
    (c < -alignLimit ∨ alignLimit < c → t.kl.integral = u.kl.integral ∧ t.fd F.TIM_CT_STAT_CLAMP = 1 ∧
      t.fd F.TIM_CT_STAT_CLAMP_CNT = satInc 8 (s.fd F.TIM_CT_STAT_CLAMP_CNT)) := by
  intro u t c
  have hlen : u.reportTaken.lenNs = s.lenNs := s.lenNs_advance dt
  have hfd : ∀ g : Field, g.reg = .TIM_CT_STAT → 1 < g.lo → u.reportTaken.fd g = s.fd g := fun g hg hlo =>
    (State.fd_of_regs (s := u) rfl g 0 0).trans (s.fd_advance_ctStat dt hg hlo)
  obtain ⟨hinc, herr, hin, hout⟩ := u.reportTaken.align_spec e
  obtain ⟨hmem, -, -, hkl⟩ := u.reportTaken.align_kept e
  have hsum : u.reportTaken.alignSum e = c := by
    unfold State.alignSum
    rw [hlen]
    rfl
  rw [hsum] at hinc hin hout
  rw [hlen, hfd _ rfl (by decide)] at hin
  rw [hfd _ rfl (by decide)] at hout
  exact ⟨by rw [hkl]; rfl, by rw [hkl]; rfl, hinc, herr, hmem.trans (s.advance_mem dt), hin, hout⟩

end Sys2Proof.Machine

/-!
## Holdover, integration and the chain source
-/

namespace Sys2Proof.Machine

/-! ### The module's state of R144 -/

theorem State.csState_setCs (s : State) {st : Nat} (h : st < 16) : (s.setCs st).csState = st := by
  unfold State.setCs State.csState
  dsimp only
  split
  · exact State.fd_setFd_of_lt (by decide) h
  · rw [State.fd, State.rg_setRg_other _ _ _ _ _ _ _ _ (by decide)]
    exact State.fd_setFd_of_lt (by decide) h

theorem State.fd_setCs_apart {s : State} {st : Nat} {g : Field} {i j : Nat}
    (h1 : F.KL_TIME_STAT_CS_STATE.apart 0 0 g i j = true) (h2 : g.reg.addr i j ≠ Reg.addr .KL_TIME_ERR 0 0) :
    (s.setCs st).fd g i j = s.fd g i j := by
  unfold State.setCs
  dsimp only
  split
  · exact State.fd_setFd_apart (by decide) h1
  · rw [State.fd, State.rg_setRg_other _ _ _ _ _ _ _ _ h2]
    exact State.fd_setFd_apart (by decide) h1

theorem State.setCs_frame (s : State) (st : Nat) : s.setCs st = { s with regs := (s.setCs st).regs } := by
  unfold State.setCs
  dsimp only
  split <;> rfl

/-! ### HOLDOVER (R65, R166) -/

theorem State.enterKlHoldover_spec (s : State) : s.enterKlHoldover.csState = 11 ∧
    s.enterKlHoldover.fd F.TIM_CT_STAT_SRC = 3 ∧
    s.enterKlHoldover.fd F.TIM_CT_STAT_HOLD_CNT = satInc 8 (s.fd F.TIM_CT_STAT_HOLD_CNT) ∧
    s.enterKlHoldover = { s with regs := s.enterKlHoldover.regs } := by
  have hframe := s.setCs_frame 11
  have hcs := s.csState_setCs (st := 11) (by decide)
  have hcnt : (s.setCs 11).fd F.TIM_CT_STAT_HOLD_CNT = s.fd F.TIM_CT_STAT_HOLD_CNT :=
    State.fd_setCs_apart (by decide) (by decide)
  unfold State.enterKlHoldover
  refine ⟨?_, ?_, ?_, ?_⟩
  · refine Eq.trans ?_ hcs
    simp (disch := decide) only [State.csState, State.fd_setFd_apart, State.fd_incFd_apart]
  · simp (disch := decide) only [State.fd_setFd_of_lt, State.fd_incFd_apart]
  · rw [State.fd_incFd _ _ _ _ (by decide), State.fd_setFd_apart (by decide) (by decide), hcnt]
    rfl
  · generalize s.setCs 11 = t at hframe ⊢
    rw [hframe]
    rfl

/-- HOLDOVER, with TIME_REPORTs missing or the reference node absent (R166). -/
theorem exec_holdover_spec {s : State} {node : Nat} (hcs : s.csState = 9) (href : s.kl.ref = some node)
    (hnode : node < 0x800) (hsync : s.kl.bySync = false)
    (hmiss : s.fd F.KL_TIME_CTL_TR_LIMIT ≤ s.kl.trMiss ∨ (s.kl.refSeen = true ∧ (s.node node).present = false)) :
    ∃ t, exec .holdover s = .next t ∧ t.csState = 11 ∧ t.fd F.TIM_CT_STAT_SRC = 3 ∧
      t.fd F.TIM_CT_STAT_HOLD_CNT = satInc 8 (s.fd F.TIM_CT_STAT_HOLD_CNT) ∧
      t.time = { s.time with raised := t.time.raised } ∧ t.kl = { s.kl with holdBcn := some s.time.bcn } ∧
      t.mem = s.mem := by
  have hj : ∀ d, (s.journal 0x08 0x03 0x00 1 d).kl = s.kl ∧ (s.journal 0x08 0x03 0x00 1 d).mem = s.mem ∧
      (s.journal 0x08 0x03 0x00 1 d).time = { s.time with raised := (s.journal 0x08 0x03 0x00 1 d).time.raised } := fun d => by
    have h := s.noted_journal 0x08 0x03 0x00 1 d
    unfold State.noted at h
    rw [h]
    exact ⟨rfl, rfl, rfl⟩
  obtain ⟨d, he⟩ : ∃ d, exec .holdover s = .next ({ s.journal 0x08 0x03 0x00 1 d with
      kl := { s.kl with holdBcn := some s.time.bcn } } : State).enterKlHoldover := by
    refine ⟨[if decide (s.fd F.KL_TIME_CTL_TR_LIMIT ≤ s.kl.trMiss) then 0 else 1] ++ dBytes 2 node, ?_⟩
    obtain ⟨hkl, -, htime⟩ := hj ([if decide (s.fd F.KL_TIME_CTL_TR_LIMIT ≤ s.kl.trMiss) then 0 else 1] ++ dBytes 2 node)
    have hbcn := congrArg TimeState.bcn htime
    show execHoldover s = _
    unfold execHoldover
    rw [href]
    dsimp only
    rw [if_pos, hkl, hbcn]
    simpa [hcs, hsync, hnode] using hmiss
  obtain ⟨hkl, hmem, htime⟩ := hj d
  have hcnt : (s.journal 0x08 0x03 0x00 1 d).fd F.TIM_CT_STAT_HOLD_CNT = s.fd F.TIM_CT_STAT_HOLD_CNT :=
    State.fd_journal _ _ _ _ _ _ _ _ _ (by decide)
  generalize s.journal 0x08 0x03 0x00 1 d = j at he hkl hmem htime hcnt
  obtain ⟨h1, h2, h3, h4⟩ := State.enterKlHoldover_spec { j with kl := { s.kl with holdBcn := some s.time.bcn } }
  refine ⟨_, he, h1, h2, h3.trans (congrArg (satInc 8) ((State.fd_of_regs (s := j) rfl _ 0 0).trans hcnt)), ?_, ?_, ?_⟩
  · rw [h4]
    exact htime
  · rw [h4]
  · rw [h4]
    exact hmem

/-! ### Sync frames (R153, R159, R160) -/

/-- Whether a network has the cold start is read from the straps and two registers (R152). -/
theorem State.coldNet_congr {s t : State} {p : Nat} (hch : t.ch = s.ch)
    (h1 : t.rg .KL_PORTn_CTL (p - 1) = s.rg .KL_PORTn_CTL (p - 1)) (h2 : t.rg .KL_TIME_CTL = s.rg .KL_TIME_CTL) :
    t.coldNet p = s.coldNet p := by
  unfold State.coldNet State.netOf State.flag State.fd
  rw [hch, show t.rg F.KL_PORTn_CTL_RING.reg (p - 1) 0 = s.rg F.KL_PORTn_CTL_RING.reg (p - 1) 0 from h1,
    show t.rg F.KL_TIME_CTL_REF_PORT.reg 0 0 = s.rg F.KL_TIME_CTL_REF_PORT.reg 0 0 from h2]

/-- The state in which a sync frame is taken: time has passed and its capture event has occurred (R73). -/
def State.atSync (s : State) (p dt : Nat) : State := (s.advance dt).captureAll (0x20 + p) true

theorem State.atSync_kept (s : State) (p dt : Nat) : (s.atSync p dt).ch = s.ch ∧ (s.atSync p dt).kl = (s.advance dt).kl ∧
    (s.atSync p dt).time.ct = (s.advance dt).time.ct ∧ (s.atSync p dt).mem = s.mem := by
  have h := (s.advance dt).shell_captureAll (0x20 + p) true
  rw [← s.ch_advance dt, ← s.advance_mem dt]
  unfold State.atSync
  generalize (s.advance dt).captureAll (0x20 + p) true = t at h ⊢
  exact ⟨congrArg (·.ch) h, congrArg (·.kl) h, congrArg (·.time.ct) h, congrArg (·.mem) h⟩

theorem State.rg_atSync (s : State) (p dt : Nat) {r : Reg} {i j : Nat} (h : 0x400000 ≤ r.addr i j)
    (h' : r.addr i j ≠ Reg.addr .KL_TIME_ERR 0 0) : (s.atSync p dt).rg r i j = s.rg r i j := by
  refine (State.rg_captureAll _ _ _ (.inr (by omega))).trans (State.rg_advance _ _ _ _ _ ?_ h')
  show r.addr i j ≠ 0x20000C
  omega

theorem State.fd_atSync (s : State) (p dt : Nat) {f : Field} {i j : Nat} (h : 0x400000 ≤ f.reg.addr i j)
    (h' : f.reg.addr i j ≠ Reg.addr .KL_TIME_ERR 0 0) : (s.atSync p dt).fd f i j = s.fd f i j := by
  rw [State.fd, State.rg_atSync _ _ _ h h', State.fd]

theorem State.coldNet_atSync (s : State) (p dt : Nat) : (s.atSync p dt).coldNet p = s.coldNet p := by
  refine State.coldNet_congr (s.atSync_kept p dt).1 (s.rg_atSync p dt ?_ ?_) (s.rg_atSync p dt (by decide) (by decide))
  · show 0x400000 ≤ 0x410000 + 0x1000 * (p - 1) + 1 * 0
    omega
  · show 0x410000 + 0x1000 * (p - 1) + 1 * 0 ≠ 0x400108
    omega

/-- The cell time that a sync frame carries to its receive stamp, in 2^-32 ns (R96, R159). -/
def syncTime (link : Nat) (bs : List Byte) : Nat :=
  ((klField bs 12 8 * 2 ^ 32 + link * 2 ^ 24 : Nat) + toSigned 64 (klField bs 20 8) * 2 ^ 16 : Int).toNat

/-- SYNC_FRAME_RECEIVE of a sound frame of another sender, on the network of the cold start, in a state that follows sync
frames (R153). -/
theorem exec_syncFrameReceive_taken {s : State} {p link dt : Nat} {bs : List Byte} (hon : s.portOn p = true)
    (hstby : s.isStandby = false) (hcold : s.coldNet p = true) (hrej : (s.advance dt).klReject p 1 true bs = none)
    (hself : klField bs 2 2 ≠ s.selfId)
    (hcs : s.csState = 2 ∨ s.csState = 3 ∨ (7 ≤ s.csState ∧ s.csState ≤ 9)) :
    exec (.syncFrameReceive p link dt true bs) s = .next ((s.atSync p dt).syncStep (syncTime link bs) (klField bs 28 2)
      (klField bs 30 1) (klField bs 4 4)) := by
  obtain ⟨hch, -, -, -⟩ := s.atSync_kept p dt
  have hself' : ¬ klField bs 2 2 = (s.atSync p dt).selfId := by
    unfold State.selfId
    rw [hch]
    exact hself
  have hstby' : ¬ (s.atSync p dt).isStandby = true := by
    unfold State.isStandby at hstby ⊢
    rw [s.fd_atSync p dt (by decide) (by decide), hstby]
    decide
  have hcs' : (s.atSync p dt).csState = s.csState := s.fd_atSync p dt (by decide) (by decide)
  have htake : ∀ x r k b, (s.atSync p dt).takeSync p x r k b = (s.atSync p dt).syncStep x r k b := fun x r k b => by
    unfold State.takeSync
    rw [if_neg hstby', if_pos]
    rw [s.coldNet_atSync p dt, hcs']
    exact ⟨hcold, hcs.imp_right (Or.imp_right Or.inl)⟩
  show execSyncFrameReceive p link dt true bs s = _
  unfold execSyncFrameReceive
  dsimp only
  rw [hon, if_neg (not_not_intro rfl), hrej]
  dsimp only
  rw [show (s.advance dt).captureAll (0x20 + p) true = s.atSync p dt from rfl, if_neg hself', htake, syncTime]
  push_cast
  rfl

/-- While listening and while waiting for the sync frames, the module loads cell time (R65, R153). -/
theorem State.syncStep_load {s : State} (h : s.csState = 2 ∨ s.csState = 3 ∨ s.csState = 7) (x r k b : Nat) :
    s.syncStep x r k b = (((s.loadTime x).setRef (some r) k).setCold { s.kl.cold with syncs := 1, syncBcn := b }).setCs 8 := by
  unfold State.syncStep
  rcases h with h | h | h <;> rw [h] <;> rfl

theorem State.setRef_frame (s : State) (r : Option Nat) (k : Nat) : ∃ R seen, s.setRef r k =
    { s with regs := R, kl := { s.kl with ref := r, refRank := k, refSeen := seen } } := ⟨_, _, rfl⟩

/-- A load of cell time at integration (R63, R651). -/
theorem State.loadTime_eq (s : State) (x : Nat) : ∃ T K, T.ct = x % 2 ^ 96 ∧ T.noBase = true ∧ K.trSeen = true ∧
    s.loadTime x = { s with time := T, kl := K } := by
  refine ⟨s.time.loadCt (x / 2 ^ 32) (x % 2 ^ 32), _, ?_, TimeState.loadCt_noBase _ _ _, ?_, rfl⟩
  · rw [TimeState.loadCt_ct, Nat.div_add_mod']
  · rfl

theorem State.syncStep_load_spec {s : State} (h : s.csState = 2 ∨ s.csState = 3 ∨ s.csState = 7) (x r k b : Nat) :
    (s.syncStep x r k b).csState = 8 ∧ (s.syncStep x r k b).kl.cold.syncs = 1 ∧
    (s.syncStep x r k b).time.ct = x % 2 ^ 96 ∧ (s.syncStep x r k b).time.noBase = true ∧
    (s.syncStep x r k b).kl.ref = some r ∧ (s.syncStep x r k b).mem = s.mem := by
  obtain ⟨T, K, hct, hno, -, hload⟩ := s.loadTime_eq x
  obtain ⟨R, seen, href⟩ := State.setRef_frame { s with time := T, kl := K } (some r) k
  rw [State.syncStep_load h, hload, href]
  refine ⟨State.csState_setCs _ (by decide), ?_⟩
  rw [State.setCs_frame]
  exact ⟨rfl, hct, hno, rfl, rfl⟩

/-- A sample that a sync frame gives leaves cell time, and the base cycle has its sample (R162). -/
theorem State.syncSample_kept (s : State) (e : Int) : (s.syncSample e).time.ct = s.time.ct ∧
    (s.syncSample e).kl.trSeen = true := by
  unfold State.syncSample
  split
  next h => exact ⟨rfl, h⟩
  next =>
    obtain ⟨-, hct, -, hkl⟩ := State.align_kept { s with kl := { s.kl with trSeen := true, syncMiss := 0 } } (e / 2 ^ 16)
    exact ⟨hct, by rw [hkl]⟩

/-- The third sync frame in a row integrates the module (R65, R160). -/
theorem State.syncStep_third {s : State} {x r k b : Nat} (hcs : s.csState = 8) (hn : s.kl.cold.syncs = 2)
    (hb : b % 2 ^ 32 = (s.kl.cold.syncBcn + 1) % 2 ^ 32) (hr : s.kl.ref = some r)
    (he : ((x : Int) - s.time.ct).natAbs ≤ 100 * 2 ^ 32) : (s.syncStep x r k b).csState = 9 ∧
    (s.syncStep x r k b).fd F.TIM_CT_STAT_SRC = 1 ∧ (s.syncStep x r k b).time.ct = s.time.ct ∧
    (s.syncStep x r k b).kl.trSeen = true := by
  obtain ⟨u, hu, hct, hseen⟩ : ∃ u : State, s.syncStep x r k b = { (u.setCs 9).setFd F.TIM_CT_STAT_SRC 0 0 1 with
      kl := { u.kl with bySync := true, syncMiss := 0 } } ∧ u.time.ct = s.time.ct ∧ u.kl.trSeen = true := by
    have hk := State.syncSample_kept (s.setCold { s.kl.cold with syncs := s.kl.cold.syncs + 1, syncBcn := b })
      ((x : Int) - s.time.ct)
    refine ⟨_, ?_, hk⟩
    unfold State.syncStep
    rw [hcs]
    exact (if_pos ⟨hb, hr, he⟩).trans (if_pos (by rw [hn]))
  have hframe := u.setCs_frame 9
  have hcs9 := u.csState_setCs (st := 9) (by decide)
  rw [hu]
  generalize u.setCs 9 = w at hframe hcs9
  refine ⟨?_, ?_, ?_, hseen⟩
  · exact (State.fd_of_regs (s := w.setFd F.TIM_CT_STAT_SRC 0 0 1) rfl _ 0 0).trans
      ((State.fd_setFd_apart (by decide) (by decide)).trans hcs9)
  · exact (State.fd_of_regs (s := w.setFd F.TIM_CT_STAT_SRC 0 0 1) rfl _ 0 0).trans
      (State.fd_setFd_of_lt (by decide) (by decide))
  · rw [hframe]
    exact hct

/-! ### Chain time (R171, R172) -/

/-- CHAIN_SOURCE_SWITCH to a port with words (R172). -/
theorem exec_chainSourceSwitch_spec {s : State} (hpos : s.ch.strap % 4 ≠ 0)
    (hsrc : s.fd F.KL_TIME_CHAIN_SRC_PORT = 1 ∨ s.fd F.KL_TIME_CHAIN_SRC_PORT = 2)
    (hold : 8 ≤ s.quietOf (s.fd F.KL_TIME_CHAIN_SRC_PORT - 1)) (hnew : s.quietOf (2 - s.fd F.KL_TIME_CHAIN_SRC_PORT) < 8) :
    ∃ t, exec .chainSourceSwitch s = .next t ∧
      t.fd F.KL_TIME_CHAIN_SRC_PORT = 3 - s.fd F.KL_TIME_CHAIN_SRC_PORT ∧
      t.fd F.KL_TIME_CHAIN_CHLOSS_CNT = satInc 8 (s.fd F.KL_TIME_CHAIN_CHLOSS_CNT) ∧
      s.sets t [(F.KL_TIME_CHAIN_SRC_PORT, 0), (F.KL_TIME_CHAIN_CHLOSS_CNT, 0)] := by
  have he : exec .chainSourceSwitch s = .next ((s.setFd F.KL_TIME_CHAIN_SRC_PORT 0 0
      (3 - s.fd F.KL_TIME_CHAIN_SRC_PORT)).incFd F.KL_TIME_CHAIN_CHLOSS_CNT 0 0) := by
    show execChainSourceSwitch s = _
    unfold execChainSourceSwitch
    dsimp only
    rw [if_neg, if_pos hnew]
    rintro (h | h | h)
    · exact hpos h
    · omega
    · omega
  refine ⟨_, he, ?_, ?_, State.sets_incFd (State.sets_setFd (s.sets_refl _) F.KL_TIME_CHAIN_SRC_PORT 0 _ (by decide)
    (by simp)) F.KL_TIME_CHAIN_CHLOSS_CNT 0 (by decide) (by simp)⟩
  · rw [State.fd_incFd_apart (by decide) (by decide), State.fd_setFd_of_lt (by decide) (by
      show _ < 2 ^ 2
      omega)]
  · rw [State.fd_incFd _ _ _ _ (by decide), State.fd_setFd_apart (by decide) (by decide)]
    rfl

/-- A word on chain port `p` is noted (R172). -/
def State.wordSeen (s : State) (p : Nat) : State :=
  ({ s with ch := if p = 0 then { s.ch with word0 := true, quiet0 := 0 }
                  else { s.ch with word1 := true, quiet1 := 0 } } : State).setFd
    (if p = 0 then F.CH_STAT_LINK0 else F.CH_STAT_LINK1) 0 0 1

/-- The exchange that rides with a word (R171). -/
def State.wordExchange (s : State) (p : Nat) (ask : Bool) (turn : Option Nat) : State :=
  let s := match turn with
    | some t => s.chainExchange p t
    | none => s
  if ask then s.chainAnswer p else s

theorem exec_chainTimeWordReceive_eq {s : State} {p ct dt : Nat} {ask : Bool} {turn : Option Nat}
    (hon : (s.advance dt).domOn 23 = true) (hp : p ≤ 1) :
    exec (.chainTimeWordReceive p ct dt ask turn) s =
      let t := ((s.advance dt).wordSeen p).wordExchange p ask turn
      let use := if t.quietOf t.nearPort < 8 then t.nearPort else 1 - t.nearPort
      if t.ch.strap % 4 = 0 ∨ use ≠ p then .next t else .next (t.chainWord p (ct + t.chainLink p * 2 ^ 24)) := by
  show execChainTimeWordReceive p ct dt ask turn s = _
  unfold execChainTimeWordReceive
  dsimp only
  rw [hon, if_neg (by simpa using hp)]
  rfl

/-- A change of the chain port in use that a loss has caused is counted (R172). -/
def State.lossNoted (s : State) (p : Nat) : State :=
  if s.fd F.KL_TIME_CHAIN_SRC_PORT ≠ 0 ∧ s.fd F.KL_TIME_CHAIN_SRC_PORT ≠ p + 1 ∧
      8 ≤ s.quietOf (s.fd F.KL_TIME_CHAIN_SRC_PORT - 1) then s.incFd F.KL_TIME_CHAIN_CHLOSS_CNT 0 0 else s

theorem State.lossNoted_kept (s : State) (p : Nat) : (s.lossNoted p).ch = s.ch ∧ (s.lossNoted p).csState = s.csState := by
  unfold State.lossNoted
  split
  · exact ⟨State.incFd_ch _ _ _ _, State.fd_incFd_apart (by decide) (by decide)⟩
  · exact ⟨rfl, rfl⟩

/-- The module is INTEGRATED by chain port `p` (R172). -/
def State.followChain (s : State) (p : Nat) : State :=
  ((s.setFd F.KL_TIME_CHAIN_SRC_PORT 0 0 (p + 1)).setCs 9).setFd F.TIM_CT_STAT_SRC 0 0 1

theorem State.followChain_spec (s : State) {p : Nat} (hp : p ≤ 1) : (s.followChain p).csState = 9 ∧
    (s.followChain p).fd F.KL_TIME_CHAIN_SRC_PORT = p + 1 ∧ (s.followChain p).fd F.TIM_CT_STAT_SRC = 1 ∧
    (s.followChain p).ch = s.ch := by
  unfold State.followChain
  refine ⟨?_, ?_, State.fd_setFd_of_lt (by decide) (by decide), ?_⟩
  · exact (State.fd_setFd_apart (by decide) (by decide)).trans (State.csState_setCs _ (by decide))
  · rw [State.fd_setFd_apart (by decide) (by decide), State.fd_setCs_apart (by decide) (by decide),
      State.fd_setFd_of_lt (by decide) (by show p + 1 < 2 ^ 2; omega)]
  · rw [State.setFd_ch, State.setCs_frame, State.setFd_ch]

/-- A chain time word that loads cell time (R62, R172). -/
theorem State.chainWord_first {s : State} {p x : Nat} (hp : p ≤ 1) (h9 : s.csState ≠ 9) (h11 : s.csState ≠ 11) :
    (s.chainWord p x).csState = 9 ∧ (s.chainWord p x).time.ct = x % 2 ^ 96 ∧ (s.chainWord p x).time.noBase = true ∧
    (s.chainWord p x).fd F.KL_TIME_CHAIN_SRC_PORT = p + 1 ∧ (s.chainWord p x).fd F.TIM_CT_STAT_SRC = 1 ∧
    (s.chainWord p x).ch = s.ch := by
  obtain ⟨hch, hcs⟩ := s.lossNoted_kept p
  have hw : s.chainWord p x = ((s.lossNoted p).followChain p).loadTime x := by
    unfold State.chainWord
    exact if_pos (show (s.lossNoted p).csState ≠ 9 ∧ (s.lossNoted p).csState ≠ 11 by rw [hcs]; exact ⟨h9, h11⟩)
  obtain ⟨h1, h2, h3, h4⟩ := (s.lossNoted p).followChain_spec hp
  obtain ⟨T, K, hct, hno, -, hload⟩ := State.loadTime_eq ((s.lossNoted p).followChain p) x
  rw [hw, hload]
  exact ⟨h1, hct, hno, h2, h3, h4.trans hch⟩

/-! #### The exchange with a word -/

theorem State.nearPort_congr {s t : State} (h1 : t.ch.strap = s.ch.strap)
    (h2 : t.fd F.CH_STAT_PRESENT = s.fd F.CH_STAT_PRESENT) : t.nearPort = s.nearPort := by
  unfold State.nearPort State.chainSize
  rw [h1, h2]

theorem State.wordSeen_spec (s : State) {p : Nat} (hp : p ≤ 1) : (s.wordSeen p).quietOf p = 0 ∧
    (s.wordSeen p).csState = s.csState ∧ (s.wordSeen p).nearPort = s.nearPort ∧ (s.wordSeen p).time = s.time ∧
    (s.wordSeen p).ch.strap = s.ch.strap ∧ (s.wordSeen p).ch.asks = s.ch.asks ∧
    (s.wordSeen p).ch.answers = s.ch.answers ∧ (s.wordSeen p).ch.links = s.ch.links := by
  have hfd : ∀ (c : ChState) (f : Field), f = F.CH_STAT_LINK0 ∨ f = F.CH_STAT_LINK1 →
      (({ s with ch := c } : State).setFd f 0 0 1).fd F.KL_TIME_STAT_CS_STATE = s.fd F.KL_TIME_STAT_CS_STATE ∧
      (({ s with ch := c } : State).setFd f 0 0 1).fd F.CH_STAT_PRESENT = s.fd F.CH_STAT_PRESENT := by
    rintro c f (rfl | rfl)
    · exact ⟨(State.fd_setFd_apart (by decide) (by decide)).trans (State.fd_of_regs rfl _ _ _),
        (State.fd_setFd_apart (by decide) (by decide)).trans (State.fd_of_regs rfl _ _ _)⟩
    · exact ⟨(State.fd_setFd_apart (by decide) (by decide)).trans (State.fd_of_regs rfl _ _ _),
        (State.fd_setFd_apart (by decide) (by decide)).trans (State.fd_of_regs rfl _ _ _)⟩
  unfold State.wordSeen
  obtain rfl | rfl : p = 0 ∨ p = 1 := by omega
  · obtain ⟨hcs, hpres⟩ := hfd { s.ch with word0 := true, quiet0 := 0 } F.CH_STAT_LINK0 (.inl rfl)
    rw [if_pos rfl, if_pos rfl]
    refine ⟨?_, hcs, State.nearPort_congr ?_ hpres, State.setFd_time _ _ _ _ _, ?_⟩
    · unfold State.quietOf
      rw [State.setFd_ch]
      rfl
    · rw [State.setFd_ch]
    · rw [State.setFd_ch]
      exact ⟨rfl, rfl, rfl, rfl⟩
  · obtain ⟨hcs, hpres⟩ := hfd { s.ch with word1 := true, quiet1 := 0 } F.CH_STAT_LINK1 (.inr rfl)
    rw [if_neg (by decide), if_neg (by decide)]
    refine ⟨?_, hcs, State.nearPort_congr ?_ hpres, State.setFd_time _ _ _ _ _, ?_⟩
    · unfold State.quietOf
      rw [State.setFd_ch]
      rfl
    · rw [State.setFd_ch]
    · rw [State.setFd_ch]
      exact ⟨rfl, rfl, rfl, rfl⟩

/-- The link of a chain port after the exchange, Q24.8 ns (R171). -/
def State.linkAfter (s : State) (ct p : Nat) (turn : Option Nat) : Nat :=
  match turn, s.ch.asks.find? (fun e => e.1 = p) with
  | some k, some e => ((ct - e.2) / 2 ^ 24 - k) / 2
  | _, _ => s.chainLink p

/-- What the exchange changes of the module. -/
theorem State.chainExchange_spec (s : State) (p k : Nat) : (∃ l a, s.chainExchange p k =
    { s with ch := { s.ch with links := l, asks := a } }) ∧ (s.chainExchange p k).chainLink p = s.linkAfter s.time.ct p (some k) := by
  unfold State.chainExchange State.linkAfter
  cases h : s.ch.asks.find? (fun e => e.1 = p) with
  | none => exact ⟨⟨_, _, rfl⟩, rfl⟩
  | some e =>
    refine ⟨⟨_, _, rfl⟩, ?_⟩
    generalize ((s.time.ct - e.2) / 2 ^ 24 - k) / 2 = x
    simp [State.chainLink]

theorem State.chainAnswer_eq (s : State) (p : Nat) : ∃ x, s.chainAnswer p =
    { s with freeCount := s.freeCount + 1, ch := { s.ch with answers := s.ch.answers ++ [(p, x)] } } := ⟨_, rfl⟩

/-- What the exchange and the answer leave, and what they set. -/
theorem State.wordExchange_spec (s : State) (p : Nat) (ask : Bool) (turn : Option Nat) : (∃ k a l b,
    s.wordExchange p ask turn = { s with freeCount := k, ch := { s.ch with asks := a, links := l, answers := b } }) ∧
    (s.wordExchange p ask turn).ch.answers.length = s.ch.answers.length + b2n ask ∧
    (s.wordExchange p ask turn).chainLink p = s.linkAfter s.time.ct p turn := by
  obtain ⟨u, ⟨l, a, hu⟩, hlink, hw⟩ : ∃ u : State, (∃ l a, u = { s with ch := { s.ch with links := l, asks := a } }) ∧
      u.chainLink p = s.linkAfter s.time.ct p turn ∧ s.wordExchange p ask turn = if ask then u.chainAnswer p else u := by
    cases turn with
    | none => exact ⟨s, ⟨_, _, rfl⟩, rfl, rfl⟩
    | some k => exact ⟨_, (s.chainExchange_spec p k).1, (s.chainExchange_spec p k).2, rfl⟩
  have hans : u.ch.answers = s.ch.answers := by rw [hu]
  rw [hw]
  cases ask with
  | false => exact ⟨⟨_, _, _, _, hu⟩, congrArg List.length hans, hlink⟩
  | true =>
    obtain ⟨x, hx⟩ := u.chainAnswer_eq p
    refine ⟨⟨s.freeCount + 1, a, l, s.ch.answers ++ [(p, x)], ?_⟩, ?_, ?_⟩
    · rw [if_pos rfl, hx, hu]
    · rw [if_pos rfl, hx, hans]
      simp [b2n]
    · rw [← hlink, if_pos rfl, hx]
      rfl

theorem State.nearPort_le (s : State) : s.nearPort ≤ 1 := by
  unfold State.nearPort
  dsimp only
  split <;> omega

theorem State.quietOf_congr {s t : State} {p : Nat} (h : t.ch = s.ch) : t.quietOf p = s.quietOf p := by
  unfold State.quietOf
  rw [h]

theorem State.chainLink_congr {s t : State} {p : Nat} (h : t.ch = s.ch) : t.chainLink p = s.chainLink p := by
  unfold State.chainLink
  rw [h]

theorem State.domOn_advance (s : State) (n d : Nat) : (s.advance n).domOn d = s.domOn d := by
  have hheld : (s.advance n).held = s.held := by
    have h := s.still_advance n
    generalize s.advance n = t at h ⊢
    exact congrArg (·.held) h
  have hfd : (s.advance n).fd F.PW_DOMd_STAT_STATE d = s.fd F.PW_DOMd_STAT_STATE d := by
    refine State.fd_advance _ _ _ _ _ ?_ ?_
    · show 0x1E00104 + 0x10 * d + 1 * 0 ≠ 0x20000C
      omega
    · show 0x1E00104 + 0x10 * d + 1 * 0 ≠ 0x400108
      omega
  unfold State.domOn State.domState
  rw [hheld, hfd]

/-- CHAIN_TIME_WORD_RECEIVE at the chain port nearer to position 0, before the module follows a reference (R171, R172). -/
theorem exec_chainTimeWordReceive_first {s : State} {p ct dt : Nat} {ask : Bool} {turn : Option Nat}
    (hon : s.domOn 23 = true) (hpos : s.ch.strap % 4 ≠ 0) (hnear : s.nearPort = p) (h9 : s.csState ≠ 9)
    (h11 : s.csState ≠ 11) :
    let link := s.linkAfter (s.advance dt).time.ct p turn
    ∃ t, exec (.chainTimeWordReceive p ct dt ask turn) s = .next t ∧ t.csState = 9 ∧
      t.ch.answers.length = s.ch.answers.length + b2n ask ∧ t.time.ct = (ct + link * 2 ^ 24) % 2 ^ 96 ∧
      t.time.noBase = true ∧ t.fd F.KL_TIME_CHAIN_SRC_PORT = p + 1 ∧ t.fd F.TIM_CT_STAT_SRC = 1 ∧ t.quietOf p = 0 ∧
      t.chainLink p = link := by
  have hp : p ≤ 1 := hnear ▸ s.nearPort_le
  have he := exec_chainTimeWordReceive_eq (ct := ct) (ask := ask) (turn := turn) ((s.domOn_advance dt 23).trans hon) hp
  have hch := s.ch_advance dt
  have hcs := s.csState_advance dt
  have hnear' : (s.advance dt).nearPort = p := (State.nearPort_congr (by rw [hch])
    (State.fd_advance _ _ _ _ _ (by decide) (by decide))).trans hnear
  generalize s.advance dt = u at he hch hcs hnear' ⊢
  obtain ⟨hquiet, hwcs, hwnear, htime, hstrap, hasks, hans, hlinks⟩ := u.wordSeen_spec hp
  obtain ⟨⟨k, a, l, b, ht⟩, hlen, hlink⟩ := (u.wordSeen p).wordExchange_spec p ask turn
  have hla : (u.wordSeen p).linkAfter (u.wordSeen p).time.ct p turn = s.linkAfter u.time.ct p turn := by
    unfold State.linkAfter State.chainLink
    rw [hasks, htime, hlinks, hch]
  rw [hla] at hlink
  rw [hans, hch] at hlen
  rw [hcs] at hwcs
  rw [hnear'] at hwnear
  rw [hch] at hstrap
  generalize u.wordSeen p = w at he hquiet hwcs hwnear hstrap ht hlen hlink
  have hq : (w.wordExchange p ask turn).quietOf p = 0 := by rw [ht]; exact hquiet
  have hn : (w.wordExchange p ask turn).nearPort = p := by rw [ht]; exact hwnear
  have hs : (w.wordExchange p ask turn).ch.strap = s.ch.strap := by rw [ht]; exact hstrap
  have hc : (w.wordExchange p ask turn).csState = s.csState := by rw [ht]; exact hwcs
  clear ht
  generalize w.wordExchange p ask turn = x at he hlen hlink hq hn hs hc
  obtain ⟨g1, g2, g3, g4, g5, g6⟩ := State.chainWord_first (s := x) (x := ct + x.chainLink p * 2 ^ 24) hp
    (by rw [hc]; exact h9) (by rw [hc]; exact h11)
  dsimp only at he
  rw [hn, hq, hs, if_neg (by simp [hpos])] at he
  exact ⟨_, he, g1, by rw [g6]; exact hlen, by rw [g2, hlink], g3, g4, g5, (State.quietOf_congr g6).trans hq,
    (State.chainLink_congr g6).trans hlink⟩

/-- Settles O27, by a lemma per source of time. -/
theorem referenceIsFollowed : Obligations.ReferenceIsFollowed := by
  unfold Obligations.ReferenceIsFollowed
  intro s p node dt bs u
  refine ⟨fun hcs href hseen hon hrej hsub hlen hnode hbcn => ⟨_, exec_timeReportReceive_taken hcs href hseen hon hrej hsub
    hlen hnode hbcn, s.reportTaken_spec dt _⟩, exec_holdover_spec, fun link hon hst hcold hrej hself => ?_,
    fun ct ask turn hon hpos hnear h9 h11 => ?_, exec_chainSourceSwitch_spec⟩
  rotate_left
  · intro link
    have hlink : link = s.linkAfter u.time.ct p turn := rfl
    rw [hlink]
    exact exec_chainTimeWordReceive_first hon hpos hnear h9 h11
  obtain ⟨-, hkl, hct, hmem⟩ := s.atSync_kept p dt
  have hkept : (s.atSync p dt).kl.cold = s.kl.cold ∧ (s.atSync p dt).kl.ref = s.kl.ref := by
    rw [hkl, s.kl_advance dt]
    exact ⟨rfl, rfl⟩
  have hcs : (s.atSync p dt).csState = s.csState := s.fd_atSync p dt (by decide) (by decide)
  refine ⟨fun h => ?_, fun h hn hb hr he => ?_⟩
  · obtain ⟨h1, h2, h3, h4, h5, h6⟩ := State.syncStep_load_spec (s := s.atSync p dt) (by rw [hcs]; exact h)
      (syncTime link bs) (klField bs 28 2) (klField bs 30 1) (klField bs 4 4)
    exact ⟨_, exec_syncFrameReceive_taken hon hst hcold hrej hself (by omega), h1, h2, h3, h4, h5, h6.trans hmem⟩
  · obtain ⟨h1, h2, h3, h4⟩ := State.syncStep_third (s := s.atSync p dt) (x := syncTime link bs) (r := klField bs 28 2)
      (k := klField bs 30 1) (b := klField bs 4 4) (hcs.trans h) (by rw [hkept.1, hn]) (by rw [hkept.1, hb])
      (hkept.2.trans hr) (by rw [hct]; exact he)
    exact ⟨_, exec_syncFrameReceive_taken hon hst hcold hrej hself (by omega), h1, h2, h3.trans hct, h4⟩

end Sys2Proof.Machine

/-!
## A boot that restores a saved word of HS_BOOT_STAT
-/

namespace Sys2Proof.Machine

/-! ### The end of a boot leaves BANK (R593) -/

theorem State.clearCounts_regs (s : State) : s.clearCounts.regs = s.regs :=
  forEach_keeps State.regs s _ _ fun _ _ => by simp

theorem State.setSrams_regs (s : State) (n : Nat) (l : List Nat) (adr : Nat → Nat) :
    (s.forEach l (fun x s => s.setSram (adr x) n x)).regs = s.regs :=
  forEach_keeps State.regs s l _ fun _ _ => by simp

theorem State.writeIds_regs (s : State) : s.writeIds.regs = s.regs :=
  (State.setSrams_regs _ 1 _ (fun p => 0x6000 + 160 * p)).trans ((State.setSrams_regs _ 1 _ (fun z => 0x4C00 + 64 * z)).trans
    ((State.setSrams_regs _ 2 _ axisAt).trans (s.setSrams_regs 1 _ (fun g => 64 * g))))

theorem State.fd_setBoot_bank (s : State) (st : Nat) :
    (s.setBoot st).fd F.HS_BOOT_STAT_BANK = s.fd F.HS_BOOT_STAT_BANK := by
  unfold State.setBoot
  split
  · rfl
  · rw [State.fd_vectorEvent _ _ _ _ _ _ (by decide), State.fd_setFd_apart (by decide) (by decide)]

theorem State.fd_bootFinish_bank (s : State) : s.bootFinish.fd F.HS_BOOT_STAT_BANK = s.fd F.HS_BOOT_STAT_BANK := by
  have hend : ∀ t : State, t.clearEnded.fd F.HS_BOOT_STAT_BANK = t.fd F.HS_BOOT_STAT_BANK := fun t =>
    State.fd_of_regs rfl _ _ _
  unfold State.bootFinish
  dsimp only
  split
  · rw [State.fd_journal _ _ _ _ _ _ _ _ _ (by decide), hend, State.fd_journal _ _ _ _ _ _ _ _ _ (by decide),
      State.fd_setBoot_bank, State.fd_of_regs s.writeIds_regs]
  · rw [State.fd_journal _ _ _ _ _ _ _ _ _ (by decide), State.fd_setBoot_bank, State.fd_of_regs s.writeIds_regs]

/-! ### The counterexample

The facts are evaluated by the elaborator, in parts: a run of the kernel for each would wait for all declarations before
it. -/

/-- An image of one section in bank 0: 0 bytes of code of arm group 0 (R590, R591). -/
def emptyCodeImage : List Host.Cell :=
  [(0, 0x4E#8), (1, 0x56#8), (2, 0x49#8), (3, 0x4D#8), (4, 1#8), (6, 1#8), (8, 0x10#8), (9, 1#8),
   (32, 131#8), (33, 113#8), (34, 73#8), (35, 68#8), (256, 1#8), (260, 0x10#8), (261, 1#8), (270, 7#8)]

/-- A module about to boot bank 0, with slice 0 in RETAIN and a word of HS_BOOT_STAT, BANK 1 in it, among the registers
saved for that slice. -/
def savedBankState : State :=
  let s : State := { State.reset with
    mem := { State.reset.mem with img := emptyCodeImage }
    sv := { State.reset.sv with imgValid := 1 }
    pw := { pwReset with saved := [(0, [(Reg.addr .HS_BOOT_STAT 0 0, 0x11#32)])] } }
  (s.setFd F.HS_BOOT_STAT_STATE 0 0 1).setFd F.PW_DOMd_STAT_STATE 0 0 2

/-- Step 4 of the boot of bank 0: its slices are ON and its sections are loaded (R593). -/
def savedBankLoaded : State :=
  let s := (((((savedBankState.setBootWait none).setBoot 1).bootPlaces.bootTake 0).setFd F.HS_BOOT_STAT_BANK 0 0 0).setBoot 2)
  let s := (s.bootSlices 0).setFd F.SV_IMG_STAT_WINDOW 0 0 0
  (s.imgSections 0).foldl (fun s e => s.loadSection 0 0 e) s

theorem savedBankState_sound : savedBankState.sound = true := rfl

set_option maxRecDepth 2000 in
/-- The hypotheses of the clause on a boot with an empty list hold. -/
theorem savedBankState_premises : savedBankState.held = false ∧ savedBankState.fd F.HS_BOOT_STAT_STATE = 1 ∧
    savedBankState.bootBank = some savedBankState.sv.imgActive ∧
    savedBankState.bootEntries savedBankState.sv.imgActive = [] ∧ savedBankState.sv.imgActive % 2 = 0 :=
  ⟨rfl, rfl, rfl, rfl, rfl⟩

set_option maxRecDepth 4000 in
/-- The return of slice 0 to ON has put the saved word back. -/
theorem savedBankLoaded_bank : savedBankLoaded.fd F.HS_BOOT_STAT_BANK = 1 := rfl

set_option maxRecDepth 2000 in
theorem savedBankState_bootBank : ((savedBankState.setBootWait none).setBoot 1).bootPlaces.bootBank = some 0 := rfl

set_option maxRecDepth 4000 in
theorem savedBankLoaded_entries : savedBankLoaded.bootEntries 0 = [] := rfl

theorem exec_boot_savedBankState : exec .boot savedBankState = .next savedBankLoaded.clearCounts.bootFinish := by
  obtain ⟨hheld, hst, -⟩ := savedBankState_premises
  have hfrom : savedBankState.bootFrom2 = ((savedBankState.setBootWait none).setBoot 1).bootPlaces.bootLoad 0 := by
    unfold State.bootFrom2
    dsimp only
    rw [savedBankState_bootBank]
  have hload : ((savedBankState.setBootWait none).setBoot 1).bootPlaces.bootLoad 0 =
      savedBankLoaded.clearCounts.runList (savedBankLoaded.bootEntries 0) 0 := rfl
  have hexec : execBoot savedBankState = .next savedBankState.bootFrom2 := by
    unfold execBoot
    rw [hheld, hst]
    rfl
  refine hexec.trans ?_
  rw [hfrom, hload, savedBankLoaded_entries]
  rfl

/-- Refutes O39 at its clause on a boot with an empty list: a slice that returns from RETAIN gets the registers saved for
it back after BANK was set, and BANK then reads what was saved. -/
theorem not_supplyResetAndBoot : ¬ Obligations.SupplyResetAndBoot := by
  unfold Obligations.SupplyResetAndBoot
  rintro ⟨-, hboot⟩
  obtain ⟨hheld, hst, hbank, hlist, hactive⟩ := savedBankState_premises
  obtain ⟨-, hrun, -⟩ := hboot savedBankState hheld
  obtain ⟨t, he, -, hread, -⟩ := hrun hst hbank hlist
  rw [exec_boot_savedBankState] at he
  obtain rfl := Host.Outcome.next.inj he
  rw [State.fd_bootFinish_bank, State.fd_of_regs (State.clearCounts_regs _), savedBankLoaded_bank, hactive] at hread
  exact Nat.one_ne_zero hread

end Sys2Proof.Machine

/-!
## Spine SRAM and the plant Ethernet registers
-/

namespace Sys2Proof.Machine

/-! ### Numbers in memory (R1) -/

theorem ofLe_leBytes (n v : Nat) : ofLe (leBytes n v) = v % 256 ^ n := by
  induction n generalizing v with
  | zero => simp [leBytes, ofLe, Nat.mod_one]
  | succ n ih =>
    rw [leBytes, ofLe, ih, BitVec.toNat_ofNat, pow_succ' 256 n]
    exact Nat.mod_mul.symm

/-- Bytes outside a run of written bytes read as before. -/
theorem Mem.readN_writeN_other (m : List (Nat × Byte)) (bs : List Byte) {a b n : Nat} (h : b + n ≤ a ∨ a + bs.length ≤ b) :
    Mem.readN (Mem.writeN m a bs) b n = Mem.readN m b n := by
  induction n generalizing b with
  | zero => rfl
  | succ n ih =>
    rw [Mem.readN, Mem.readN, Mem.read_writeN_other m bs a b (by omega), ih (by omega)]

theorem Mem.readN_length (m : List (Nat × Byte)) (a n : Nat) : (Mem.readN m a n).length = n := by
  induction n generalizing a with
  | zero => rfl
  | succ n ih => rw [Mem.readN, List.length_cons, ih]

theorem State.sramWrite_sram (s : State) {a : Nat} {bs : List Byte} (h : a + bs.length ≤ 0x1000000) :
    (s.sramWrite a bs).mem.sram = Mem.writeN s.mem.sram a bs := by
  unfold State.sramWrite
  dsimp only
  rw [State.noteCommit_mem, State.noteLines_mem, List.take_of_length_le (by omega)]

/-- What lies apart from a run that is written to spine SRAM reads as before. -/
theorem State.sramBytes_sramWrite_other (s : State) {a b n : Nat} {bs : List Byte} (h : a + bs.length ≤ 0x1000000)
    (hd : b + n ≤ a ∨ a + bs.length ≤ b) : (s.sramWrite a bs).sramBytes b n = s.sramBytes b n := by
  unfold State.sramBytes
  rw [State.sramWrite_sram s h, Mem.readN_writeN_other _ _ hd]

theorem State.sramN_eq (s : State) (a n : Nat) : s.sramN a n = ofLe (s.sramBytes a n) := rfl

theorem State.sramN_sramWrite_other (s : State) {a b n : Nat} {bs : List Byte} (h : a + bs.length ≤ 0x1000000)
    (hd : b + n ≤ a ∨ a + bs.length ≤ b) : (s.sramWrite a bs).sramN b n = s.sramN b n := by
  rw [State.sramN_eq, State.sramBytes_sramWrite_other s h hd, State.sramN_eq]

theorem State.sramBytes_sramWrite (s : State) {a : Nat} {bs : List Byte} (h : a + bs.length ≤ 0x1000000) :
    (s.sramWrite a bs).sramBytes a bs.length = bs := by
  unfold State.sramBytes
  rw [State.sramWrite_sram s h, Mem.readN_writeN]

theorem State.sramN_setSram (s : State) {a n : Nat} (v : Nat) (h : a + n ≤ 0x1000000) :
    (s.setSram a n v).sramN a n = v % 256 ^ n := by
  have hl := leBytes_length n v
  have hw := s.sramBytes_sramWrite (a := a) (bs := leBytes n v) (by rw [hl]; exact h)
  rw [hl] at hw
  rw [State.sramN_eq, State.setSram, hw, ofLe_leBytes]

theorem State.sramN_setSram_other (s : State) {a n b m v : Nat} (h : a + n ≤ 0x1000000) (hd : b + m ≤ a ∨ a + n ≤ b) :
    (s.setSram a n v).sramN b m = s.sramN b m := by
  have hl := leBytes_length n v
  exact s.sramN_sramWrite_other (by rw [hl]; exact h) (by rw [hl]; exact hd)

theorem State.sramBytes_setSram_other (s : State) {a n b m v : Nat} (h : a + n ≤ 0x1000000)
    (hd : b + m ≤ a ∨ a + n ≤ b) : (s.setSram a n v).sramBytes b m = s.sramBytes b m := by
  have hl := leBytes_length n v
  exact s.sramBytes_sramWrite_other (by rw [hl]; exact h) (by rw [hl]; exact hd)

theorem State.sramN_of_sram {s t : State} (h : t.mem.sram = s.mem.sram) (a n : Nat) : t.sramN a n = s.sramN a n := by
  unfold State.sramN
  rw [h]

theorem State.sramBytes_of_sram {s t : State} (h : t.mem.sram = s.mem.sram) (a n : Nat) :
    t.sramBytes a n = s.sramBytes a n := by
  unfold State.sramBytes
  rw [h]

/-! ### Descriptors (R586, R588) -/

/-- OWN of the descriptor at `d` is cleared. -/
def State.clearOwn (s : State) (d : Nat) : State := s.setSram (d + 6) 1 (setBits (s.sramN (d + 6) 1) 0 0 0)

theorem State.own_clearOwn (s : State) {d : Nat} (h : d + 32 ≤ 0x1000000) :
    ((s.clearOwn d).sramN (d + 6) 1).testBit 0 = false := by
  unfold State.clearOwn
  rw [State.sramN_setSram _ _ (by omega), pow_one, show 256 = 2 ^ 8 from rfl, Nat.testBit_mod_two_pow,
    setBits_testBit _ _ _ _ _ (by decide)]
  simp

/-- A descriptor of a valid ring lies in spine SRAM. -/
theorem ringOk_desc {base log tail : Nat} (h : ringOk base log = true) :
    base + 32 * (tail % 2 ^ log) + 32 ≤ 0x1000000 ∧ log ≤ 12 := by
  simp only [ringOk, decide_eq_true_eq] at h
  obtain ⟨-, hlog, -, hend⟩ := h
  have := Nat.mod_lt tail (Nat.two_pow_pos log)
  omega

/-! ### The registers of the host interface -/

theorem Reg.base_le_addr (r : Reg) (i j : Nat) : r.row.base ≤ r.addr i j := by
  unfold Reg.addr
  omega

theorem vectorReg_of_le {off : Nat} (h : 0x2010000 ≤ off) : vectorReg off = false := by
  simp [vectorReg]
  omega

section
variable {r : Reg} (h : 0x2010000 ≤ r.row.base)
include h

theorem State.rg_advance_host (s : State) (n i j : Nat) : (s.advance n).rg r i j = s.rg r i j := by
  have ha := r.base_le_addr i j
  refine State.rg_advance _ _ _ _ _ ?_ ?_
  · show r.addr i j ≠ 0x20000C
    omega
  · show r.addr i j ≠ 0x400108
    omega

theorem State.rg_captureAll_host (s : State) (src : Nat) (rising : Bool) (i j : Nat) :
    (s.captureAll src rising).rg r i j = s.rg r i j :=
  State.rg_captureAll _ _ _ (.inr (by have ha := r.base_le_addr i j; omega))

end

section
variable {f : Field} (h : 0x2010000 ≤ f.reg.row.base)
include h

theorem State.fd_advance_host (s : State) (n i j : Nat) : (s.advance n).fd f i j = s.fd f i j := by
  rw [State.fd, State.rg_advance_host h, State.fd]

theorem State.fd_captureAll_host (s : State) (src : Nat) (rising : Bool) (i j : Nat) :
    (s.captureAll src rising).fd f i j = s.fd f i j := by
  rw [State.fd, State.rg_captureAll_host h, State.fd]

theorem State.fd_vectorEvent_host (s : State) (src cls i j : Nat) : (s.vectorEvent src cls).fd f i j = s.fd f i j :=
  State.fd_vectorEvent _ _ _ _ _ _ (vectorReg_of_le (h.trans (f.reg.base_le_addr i j)))

end

end Sys2Proof.Machine

/-!
## Plant Ethernet: frames sent
-/

namespace Sys2Proof.Machine

/-! ### A queue and its line -/

/-- The registers of a transmit queue that its frames are sent by, and those of its port. -/
def txRegs : List Reg := [.HS_HEn_TXq_CTL, .HS_HEn_TXq_BASE, .HS_HEn_TXq_IDX]
def lineRegs : List Reg := [.HS_HEn_CTL, .HS_HEn_LAT]

/-- The queue, its port's line and spine SRAM stand as before. -/
def State.lineSame (s t : State) (p q : Nat) : Prop := t.mem.sram = s.mem.sram ∧ t.hs.sent = s.hs.sent ∧
  (∀ f : Field, f.reg ∈ txRegs → t.fd f p q = s.fd f p q) ∧ ∀ f : Field, f.reg ∈ lineRegs → t.fd f p = s.fd f p

theorem State.lineSame_refl (s : State) (p q : Nat) : s.lineSame s p q := ⟨rfl, rfl, fun _ _ => rfl, fun _ _ => rfl⟩

theorem State.lineSame_trans {s t u : State} {p q : Nat} (h1 : s.lineSame t p q) (h2 : t.lineSame u p q) :
    s.lineSame u p q := by
  obtain ⟨a1, b1, c1, d1⟩ := h1
  obtain ⟨a2, b2, c2, d2⟩ := h2
  exact ⟨a2.trans a1, b2.trans b1, fun f hf => (c2 f hf).trans (c1 f hf), fun f hf => (d2 f hf).trans (d1 f hf)⟩

theorem base_of_mem_txRegs {r : Reg} (h : r ∈ txRegs) : 0x2010000 ≤ r.row.base := by
  have : ∀ r ∈ txRegs, 0x2010000 ≤ r.row.base := by decide
  exact this r h

theorem base_of_mem_lineRegs {r : Reg} (h : r ∈ lineRegs) : 0x2010000 ≤ r.row.base := by
  have : ∀ r ∈ lineRegs, 0x2010000 ≤ r.row.base := by decide
  exact this r h

theorem State.lineSame_advance (s : State) (n p q : Nat) : s.lineSame (s.advance n) p q := by
  have h := s.still_advance n
  refine ⟨by rw [State.advance_mem], ?_, fun f hf => State.fd_advance_host (base_of_mem_txRegs hf) _ _ _ _,
    fun f hf => State.fd_advance_host (base_of_mem_lineRegs hf) _ _ _ _⟩
  generalize s.advance n = t at h ⊢
  exact congrArg (·.hs.sent) h

theorem State.lineSame_captureAll (s : State) (src : Nat) (rising : Bool) (p q : Nat) :
    s.lineSame (s.captureAll src rising) p q := by
  have h := s.shell_captureAll src rising
  refine ⟨by rw [(s.captureAll_kept src rising).2.2], ?_, fun f hf => State.fd_captureAll_host (base_of_mem_txRegs hf) _ _ _ _ _,
    fun f hf => State.fd_captureAll_host (base_of_mem_lineRegs hf) _ _ _ _ _⟩
  generalize s.captureAll src rising = t at h ⊢
  exact congrArg (·.hs.sent) h

/-- A count of the queue leaves what its frames are sent by. -/
theorem State.lineSame_count (s : State) {c : Field} (hc : c.reg = .HS_HEn_TXq_CNT) {p q : Nat} (hq : q < 8) :
    s.lineSame (s.incFd c p q) p q := by
  refine ⟨rfl, rfl, fun f hf => State.fd_setFd_reg _ _ _ _ _ _ _ _ ?_, fun f hf => State.fd_setFd_reg _ _ _ _ _ _ _ _ ?_⟩
  · rw [hc]
    have : ∀ r ∈ txRegs, r.row.stride = 0x1000 ∧ r.row.stride2 = 16 ∧ r.row.base ≠ 0x201010C := by decide
    obtain ⟨h1, h2, h3⟩ := this _ hf
    unfold Reg.addr
    rw [h1, h2]
    show _ ≠ 0x201010C + 0x1000 * p + 16 * q
    omega
  · rw [hc]
    have : ∀ r ∈ lineRegs, r.row.stride = 0x1000 ∧ r.row.base < 0x2010100 := by decide
    obtain ⟨h1, h2⟩ := this _ hf
    unfold Reg.addr
    rw [h1]
    show _ ≠ 0x201010C + 0x1000 * p + 16 * q
    omega

/-! ### What a queue's frames are sent by -/

section
variable {s t : State} {p q : Nat} (h : s.lineSame t p q)
include h

theorem State.txDesc_of_lineSame : t.txDesc p q = s.txDesc p q ∧ t.txSize p q = s.txSize p q := by
  obtain ⟨-, -, hr, -⟩ := h
  unfold State.txDesc State.txSize
  rw [hr F.HS_HEn_TXq_BASE_BASE (by decide), hr F.HS_HEn_TXq_IDX_TAIL (by decide),
    hr F.HS_HEn_TXq_CTL_LOG2SIZE (by decide)]
  exact ⟨rfl, rfl⟩

theorem State.heFree_of_lineSame : t.heFree p = s.heFree p := by
  obtain ⟨-, hs, -, -⟩ := h
  unfold State.heFree
  rw [hs]

end

/-- `t` has finished the head descriptor of the queue, as it stands in `s` (R588). -/
def State.txFinished (s t : State) (p q status : Nat) : Prop := t.sramN (s.txDesc p q + 7) 1 = status ∧
  (t.sramN (s.txDesc p q + 6) 1).testBit 0 = false ∧
  t.fd F.HS_HEn_TXq_IDX_TAIL p q = (s.fd F.HS_HEn_TXq_IDX_TAIL p q + 1) % s.txSize p q

theorem State.txFinished_of_lineSame {s t u : State} {p q status : Nat} (h : s.lineSame t p q)
    (hf : t.txFinished u p q status) : s.txFinished u p q status := by
  obtain ⟨hd, hz⟩ := State.txDesc_of_lineSame h
  unfold State.txFinished at hf ⊢
  rw [hd, hz, h.2.2.1 F.HS_HEn_TXq_IDX_TAIL (by decide)] at hf
  exact hf

/-! ### A descriptor finished (R588) -/

/-- STATUS, STAMP where there is one, and OWN of the descriptor at `d`. -/
def State.txMarked (s : State) (d status : Nat) (stamp : Option Nat) : State :=
  (match stamp with
    | some x => (s.setSram (d + 7) 1 status).setSram (d + 16) 8 x
    | none => s.setSram (d + 7) 1 status).clearOwn d

theorem State.txMarked_spec (s : State) {d status : Nat} (stamp : Option Nat) (h : d + 32 ≤ 0x1000000)
    (hs : status < 256) : (s.txMarked d status stamp).sramN (d + 7) 1 = status ∧
    ((s.txMarked d status stamp).sramN (d + 6) 1).testBit 0 = false ∧ (s.txMarked d status stamp).regs = s.regs ∧
    (s.txMarked d status stamp).hs = s.hs := by
  have hst : ∀ t : State, (t.setSram (d + 7) 1 status).sramN (d + 7) 1 = status := fun t => by
    rw [State.sramN_setSram _ _ (by omega), pow_one, Nat.mod_eq_of_lt hs]
  refine ⟨?_, State.own_clearOwn _ h, ?_⟩
  · unfold State.txMarked State.clearOwn
    rw [State.sramN_setSram_other _ (by omega) (.inr (by omega))]
    cases stamp with
    | none => exact hst s
    | some x =>
      dsimp only
      rw [State.sramN_setSram_other _ (by omega) (.inl (by omega))]
      exact hst s
  · unfold State.txMarked State.clearOwn
    cases stamp <;> simp

/-- The queue no longer waits for a launch (R80). -/
def State.txUnwait (s : State) (p q : Nat) : State :=
  { s with hs := { s.hs with waiting := s.hs.waiting.filter (· ≠ 8 * p + q), late := s.hs.late.filter (· ≠ 8 * p + q) } }

theorem State.txUnwait_regs (s : State) (p q : Nat) : (s.txUnwait p q).regs = s.regs := rfl

theorem State.txDone_eq (s : State) (p q status : Nat) (stamp : Option Nat) : ∃ m : State,
    m = s.txMarked (s.txDesc p q) status stamp ∧ s.txDone p q status stamp =
      ((m.setFd F.HS_HEn_TXq_IDX_TAIL p q ((m.fd F.HS_HEn_TXq_IDX_TAIL p q + 1) % m.txSize p q)).txUnwait p
        q).vectorEvent (2 + 2 * p) 0 := by
  refine ⟨_, rfl, ?_⟩
  unfold State.txDone State.txMarked
  cases stamp <;> rfl

/-- An event of a vector source leaves what is no register and no message (R584). -/
theorem State.vectorEvent_hs (s : State) (src cls : Nat) :
    (s.vectorEvent src cls).hs = { s.hs with msix := (s.vectorEvent src cls).hs.msix } := by
  have h := s.pended_vectorEvent src cls
  unfold State.pended at h
  exact congrArg State.hs h

/-- The port advances TAIL past a finished descriptor, and raises its vector source (R588). -/
def State.txAdvance (s : State) (p q tail : Nat) : State :=
  ((s.setFd F.HS_HEn_TXq_IDX_TAIL p q tail).txUnwait p q).vectorEvent (2 + 2 * p) 0

theorem State.fd_txAdvance {s : State} {p q tail : Nat} {f : Field} (h : 0x2010000 ≤ f.reg.row.base) :
    (s.txAdvance p q tail).fd f p q = (s.setFd F.HS_HEn_TXq_IDX_TAIL p q tail).fd f p q := by
  unfold State.txAdvance
  rw [State.fd_vectorEvent_host h, State.fd_of_regs (State.txUnwait_regs _ p q)]

theorem State.txAdvance_kept (s : State) (p q tail : Nat) : (s.txAdvance p q tail).mem = s.mem ∧
    (s.txAdvance p q tail).hs.sent = s.hs.sent ∧ (s.txAdvance p q tail).hs.waiting.contains (8 * p + q) = false := by
  unfold State.txAdvance
  rw [State.vectorEvent_mem, State.vectorEvent_hs]
  unfold State.txUnwait
  rw [State.setFd_hs, State.setFd_mem]
  exact ⟨rfl, rfl, by simp⟩

/-- What the end of a descriptor sets and leaves (R588). -/
theorem State.txDone_spec {s : State} {p q status : Nat} (stamp : Option Nat)
    (hok : ringOk (s.fd F.HS_HEn_TXq_BASE_BASE p q) (s.fd F.HS_HEn_TXq_CTL_LOG2SIZE p q) = true) (hst : status < 256) :
    s.txFinished (s.txDone p q status stamp) p q status ∧ (s.txDone p q status stamp).hs.sent = s.hs.sent ∧
    (s.txDone p q status stamp).hs.waiting.contains (8 * p + q) = false ∧
    ∀ c : Field, c.reg = .HS_HEn_TXq_CNT → (s.txDone p q status stamp).fd c p q = s.fd c p q := by
  obtain ⟨hend, hlog⟩ := ringOk_desc (tail := s.fd F.HS_HEn_TXq_IDX_TAIL p q) hok
  have htail : (s.fd F.HS_HEn_TXq_IDX_TAIL p q + 1) % s.txSize p q < 2 ^ 12 :=
    (Nat.mod_lt _ (Nat.two_pow_pos _)).trans_le (Nat.pow_le_pow_right (by decide) hlog)
  obtain ⟨m, hm, he⟩ := s.txDone_eq p q status stamp
  obtain ⟨h1, h2, hregs, hhs⟩ := s.txMarked_spec stamp (d := s.txDesc p q) hend hst
  rw [← hm] at h1 h2 hregs hhs
  clear hm
  have hfd : ∀ f : Field, m.fd f p q = s.fd f p q := fun f => State.fd_of_regs hregs f p q
  have hsize : m.txSize p q = s.txSize p q := congrArg (2 ^ ·) (hfd _)
  rw [hfd, hsize] at he
  unfold State.txFinished
  generalize (s.fd F.HS_HEn_TXq_IDX_TAIL p q + 1) % s.txSize p q = tail at he htail
  change s.txDone p q status stamp = m.txAdvance p q tail at he
  obtain ⟨hmem, hsent, hwait⟩ := m.txAdvance_kept p q tail
  rw [he]
  refine ⟨⟨?_, ?_, ?_⟩, by rw [hsent, hhs], hwait, fun c hc => ?_⟩
  · exact (State.sramN_of_sram (by rw [hmem]) _ _).trans h1
  · rw [State.sramN_of_sram (s := m) (by rw [hmem])]
    exact h2
  · rw [State.fd_txAdvance (by decide), State.fd_setFd_of_lt (by decide) htail]
  · rw [State.fd_txAdvance (by rw [hc]; decide), ← hfd]
    exact State.fd_setFd_reg _ _ _ _ _ _ _ _ (by rw [hc]; exact Reg.addr_ne p q rfl rfl (by decide))

end Sys2Proof.Machine

/-!
## Plant Ethernet: the head frame sent, late or launched
-/

namespace Sys2Proof.Machine

/-! ### A frame sent (R72, R585, R588) -/

/-- The head frame of a queue, padded to 60 bytes. -/
def State.txFrame (s : State) (p q : Nat) : List Byte :=
  let b := s.sramBytes (s.sramN (s.txDesc p q) 4) (min 1514 (s.sramN (s.txDesc p q + 4) 2))
  b ++ List.replicate (60 - b.length) 0#8

/-- The stamp of a frame that the port sends now. -/
def State.txStamp (s : State) (p : Nat) : Nat :=
  s.ptNs + (if s.fd F.HS_HEn_CTL_SPEED p = 0 then 6 else 64) - s.fd F.HS_HEn_LAT_TX_EXT p / 256

/-- The port has put a frame on its line. -/
def State.withSent (s : State) (f : HeFrame) : State := { s with hs := { s.hs with sent := s.hs.sent ++ [f] } }

theorem State.withSent_regs (s : State) (f : HeFrame) : (s.withSent f).regs = s.regs := rfl

theorem State.withSent_sent (s : State) (f : HeFrame) : (s.withSent f).hs.sent = s.hs.sent ++ [f] := rfl

theorem State.txFrame_spec (s : State) (p q : Nat) :
    (s.txFrame p q).take (min 1514 (s.sramN (s.txDesc p q + 4) 2)) =
      s.sramBytes (s.sramN (s.txDesc p q) 4) (min 1514 (s.sramN (s.txDesc p q + 4) 2)) ∧ 60 ≤ (s.txFrame p q).length := by
  have hl : ∀ a n, (s.sramBytes a n).length = n := Mem.readN_length _
  unfold State.txFrame
  dsimp only
  refine ⟨List.take_left' (hl _ _), ?_⟩
  rw [List.length_append, List.length_replicate]
  omega

/-- Whether the queue's ring is valid. -/
def State.txOk (s : State) (p q : Nat) : Prop :=
  ringOk (s.fd F.HS_HEn_TXq_BASE_BASE p q) (s.fd F.HS_HEn_TXq_CTL_LOG2SIZE p q) = true

section
variable {s t : State} {p q : Nat} (h : s.lineSame t p q)
include h

theorem State.txOk_of_lineSame (hok : s.txOk p q) : t.txOk p q := by
  obtain ⟨-, -, hr, -⟩ := h
  unfold State.txOk
  rw [hr F.HS_HEn_TXq_BASE_BASE (by decide), hr F.HS_HEn_TXq_CTL_LOG2SIZE (by decide)]
  exact hok

theorem State.txStamp_of_lineSame (hp : t.ptNs = s.ptNs) : t.txStamp p = s.txStamp p := by
  obtain ⟨-, -, -, hl⟩ := h
  unfold State.txStamp
  rw [hl F.HS_HEn_CTL_SPEED (by decide), hl F.HS_HEn_LAT_TX_EXT (by decide), hp]

end

theorem State.txFinished_of_regs {s t u : State} {p q status : Nat} (h : t.regs = s.regs)
    (hf : t.txFinished u p q status) : s.txFinished u p q status := by
  have hfd : ∀ f : Field, t.fd f p q = s.fd f p q := fun f => State.fd_of_regs h f p q
  unfold State.txFinished State.txDesc State.txSize at hf ⊢
  simpa only [hfd] using hf

/-- The port has captured the start of the head frame, where it is a PTP event message (R73). -/
def State.txSeen (s : State) (p q : Nat) : State := if ptpEvent (s.txFrame p q) then s.captureAll (0x28 + p) true else s

/-- The head frame of a queue as it stands in `s`, sent at the instant of `u`. -/
def State.txOnLine (s u : State) (p q : Nat) : HeFrame :=
  { port := p, queue := q, bytes := s.txFrame p q, stamp := u.txStamp p,
    ends := u.time.ticks + u.heTicks p (heWire (s.txFrame p q).length) }

theorem State.txSend_eq (s : State) (p q status : Nat) : s.txSend p q status =
    ((s.txSeen p q).withSent (s.txOnLine (s.txSeen p q) p q)).txDone p q status (some ((s.txSeen p q).txStamp p)) := by
  unfold State.txSend State.withSent State.txOnLine State.txStamp State.txSeen State.txFrame
  dsimp only

theorem State.txSeen_spec (s : State) (p q : Nat) : s.lineSame (s.txSeen p q) p q ∧ (s.txSeen p q).ptNs = s.ptNs ∧
    ∀ c : Field, c.reg = .HS_HEn_TXq_CNT → (s.txSeen p q).fd c p q = s.fd c p q := by
  obtain ⟨-, hcap, -⟩ := s.captureAll_kept (0x28 + p) true
  unfold State.txSeen
  split
  · exact ⟨s.lineSame_captureAll _ _ p q, by rw [State.ptNs, hcap, State.ptNs],
      fun c hc => State.fd_captureAll_host (by rw [hc]; decide) _ _ _ _ _⟩
  · exact ⟨s.lineSame_refl p q, rfl, fun _ _ => rfl⟩

/-- What the port does when it sends the head frame of a queue. -/
theorem State.txSend_spec {s : State} {p q status : Nat} (hok : s.txOk p q) (hst : status < 256) :
    ∃ f : HeFrame, (s.txSend p q status).hs.sent = s.hs.sent ++ [f] ∧ f.port = p ∧ f.queue = q ∧ f.bytes = s.txFrame p q ∧
      f.stamp = s.txStamp p ∧ s.txFinished (s.txSend p q status) p q status ∧
      (s.txSend p q status).hs.waiting.contains (8 * p + q) = false ∧
      ∀ c : Field, c.reg = .HS_HEn_TXq_CNT → (s.txSend p q status).fd c p q = s.fd c p q := by
  obtain ⟨hline, hpt, hcnt⟩ := s.txSeen_spec p q
  have he := s.txSend_eq p q status
  generalize s.txSeen p q = u at hline hpt hcnt he
  have hstamp : u.txStamp p = s.txStamp p := State.txStamp_of_lineSame hline hpt
  obtain ⟨f, hf⟩ : ∃ f, f = s.txOnLine u p q := ⟨_, rfl⟩
  rw [← hf] at he
  have hfd : ∀ g : Field, (u.withSent f).fd g p q = u.fd g p q := fun g => State.fd_of_regs (u.withSent_regs f) g p q
  have hok' : (u.withSent f).txOk p q := by
    unfold State.txOk
    rw [hfd, hfd]
    exact State.txOk_of_lineSame hline hok
  obtain ⟨hfin, hsent, hwait, hkeep⟩ := State.txDone_spec (some (u.txStamp p)) hok' hst
  rw [← he] at hfin hsent hwait hkeep
  refine ⟨f, ?_, by rw [hf]; rfl, by rw [hf]; rfl, by rw [hf]; rfl, by rw [hf]; exact hstamp,
    State.txFinished_of_lineSame hline (State.txFinished_of_regs (u.withSent_regs f) hfin), hwait,
    fun c hc => (hkeep c hc).trans ((hfd c).trans (hcnt c hc))⟩
  rw [hsent, State.withSent_sent, hline.2.1]

/-! ### A late frame (R78) -/

/-- A frame whose launch time has passed, by the late policy of its queue. -/
theorem State.txLate_spec {s : State} {p q : Nat} (hok : s.txOk p q) (hq : q < 8) :
    s.txFinished (s.txLate p q) p q 0x09 ∧
    (s.txLate p q).fd F.HS_HEn_TXq_CNT_LATE_CNT p q = satInc 16 (s.fd F.HS_HEn_TXq_CNT_LATE_CNT p q) ∧
    (s.flag F.HS_HEn_TXq_CTL_LATE p q = false → (s.txLate p q).hs.sent = s.hs.sent) ∧
    (s.flag F.HS_HEn_TXq_CTL_LATE p q = true → ∃ f : HeFrame, (s.txLate p q).hs.sent = s.hs.sent ++ [f] ∧ f.port = p ∧ f.queue = q) := by
  have hline := s.lineSame_count (c := F.HS_HEn_TXq_CNT_LATE_CNT) rfl (p := p) hq
  have hcnt : (s.incFd F.HS_HEn_TXq_CNT_LATE_CNT p q).fd F.HS_HEn_TXq_CNT_LATE_CNT p q =
      satInc 16 (s.fd F.HS_HEn_TXq_CNT_LATE_CNT p q) := s.fd_incFd _ _ _ (by decide)
  have hflag : (s.incFd F.HS_HEn_TXq_CNT_LATE_CNT p q).flag F.HS_HEn_TXq_CTL_LATE p q = s.flag F.HS_HEn_TXq_CTL_LATE p q :=
    State.flag_congr (hline.2.2.1 F.HS_HEn_TXq_CTL_LATE (by decide))
  unfold State.txLate
  dsimp only
  rw [hflag]
  generalize s.incFd F.HS_HEn_TXq_CNT_LATE_CNT p q = u at hline hcnt
  cases hlate : s.flag F.HS_HEn_TXq_CTL_LATE p q
  case false =>
    obtain ⟨hfin, hsent, -, hkeep⟩ := State.txDone_spec none (State.txOk_of_lineSame hline hok) (status := 0x09) (by decide)
    rw [if_neg Bool.false_ne_true]
    exact ⟨State.txFinished_of_lineSame hline hfin, (hkeep _ rfl).trans hcnt, fun _ => hsent.trans hline.2.1, nofun⟩
  case true =>
    have hadv := u.lineSame_advance (u.heFree p - u.time.ticks) p q
    have hall := State.lineSame_trans hline hadv
    obtain ⟨f, hsent, hport, hqueue, -, -, hfin, -, hkeep⟩ :=
      State.txSend_spec (State.txOk_of_lineSame hall hok) (status := 0x09) (by decide)
    rw [if_pos rfl]
    refine ⟨State.txFinished_of_lineSame hall hfin, (hkeep _ rfl).trans ((State.fd_advance_host (by decide) _ _ _ _).trans hcnt),
      nofun, fun _ => ⟨f, ?_, hport, hqueue⟩⟩
    rw [← hall.2.1]
    exact hsent

/-! ### A descriptor at the head of its queue (R76 to R80) -/

section
variable {s : State} {p q : Nat} (hready : s.txReady p q = true) (hp : p < 2) (hq : q < 8)
  (hw : s.hs.waiting.contains (8 * p + q) = false)
include hready hp hq hw

theorem State.head_at_port : ¬ (¬ s.txReady p q = true ∨ 2 ≤ p ∨ 8 ≤ q ∨ s.hs.waiting.contains (8 * p + q) = true) := by
  rw [hw]
  exact not_or.mpr ⟨not_not_intro hready, not_or.mpr ⟨hp.not_ge, not_or.mpr ⟨hq.not_ge, Bool.false_ne_true⟩⟩⟩

theorem execHeTxHead_untimed (h : ¬ bit (s.sramN (s.txDesc p q + 6) 1) 1 = true) (hfree : s.heFree p ≤ s.time.ticks)
    (hfit : s.untimedFits p q = true) : execHeTxHead p q s = .next (s.txSend p q 0) := by
  have h0 : s.advanceToTick (s.heFree p) = s := by
    unfold State.advanceToTick
    rw [Nat.sub_eq_zero_of_le hfree]
    rfl
  unfold execHeTxHead
  rw [if_neg (State.head_at_port hready hp hq hw)]
  dsimp only
  rw [if_pos h, h0, if_pos hfit]

theorem execHeTxHead_timed (h : bit (s.sramN (s.txDesc p q + 6) 1) 1 = true) : execHeTxHead p q s =
    if s.txLaunch p q < s.ptNs then .next (s.txLate p q)
    else if s.ptNs + 2000000000 < s.txLaunch p q then .next (s.txDone p q 0x03 none)
    else .next { s with hs := { s.hs with waiting := s.hs.waiting ++ [8 * p + q] } } := by
  unfold execHeTxHead
  rw [if_neg (State.head_at_port hready hp hq hw)]
  dsimp only
  rw [if_neg (not_not_intro h)]

end

/-! ### A waiting frame at its launch (R76, R78 to R80) -/

/-- A frame that starts now more than 16 ns after its launch time `l` counts as a slip. -/
def State.txSlip (s : State) (p q l : Nat) : State :=
  if l + 16 < s.ptNs then s.incFd F.HS_HEn_TXq_CNT_SLIP_CNT p q else s

theorem State.lineSame_ptJumped (s : State) (p q : Nat) : s.lineSame s.ptJumped p q := by
  unfold State.ptJumped
  split
  · exact s.lineSame_advance 1 p q
  · exact s.lineSame_refl p q

section
variable {s : State} {p q : Nat} (hready : s.txReady p q = true) (hw : s.hs.waiting.contains (8 * p + q) = true)
include hready hw

theorem execHeTxLaunch_far (h : s.ptJumped.ptNs + 2000000000 < s.txLaunch p q) :
    execHeTxLaunch p q s = .next (s.ptJumped.txDone p q 0x03 none) := by
  unfold execHeTxLaunch
  rw [if_neg (not_or.mpr ⟨not_not_intro hready, not_not_intro hw⟩), if_pos h]

theorem execHeTxLaunch_near (h : s.txLaunch p q ≤ s.ptJumped.ptNs + 2000000000) (hb : s.txBehind p q = false) :
    execHeTxLaunch p q s =
      let w := s.advance (s.ticksToPt (s.txLaunch p q))
      let u := w.advanceToTick (w.heFree p)
      if w.hs.late.contains (8 * p + q) then .next (w.txLate p q)
      else .next ((u.txSlip p q (s.txLaunch p q)).txSend p q 0) := by
  unfold execHeTxLaunch State.txSlip
  rw [if_neg (not_or.mpr ⟨not_not_intro hready, not_not_intro hw⟩), if_neg h.not_gt, if_neg (by simp [hb])]

end

theorem State.txSlip_spec (s : State) (p : Nat) {q : Nat} (l : Nat) (hq : q < 8) :
    s.lineSame (s.txSlip p q l) p q ∧ (s.txSlip p q l).ptNs = s.ptNs ∧
    (s.txSlip p q l).fd F.HS_HEn_TXq_CNT_SLIP_CNT p q = if l + 16 < s.ptNs
      then satInc 16 (s.fd F.HS_HEn_TXq_CNT_SLIP_CNT p q) else s.fd F.HS_HEn_TXq_CNT_SLIP_CNT p q := by
  unfold State.txSlip
  split
  · exact ⟨s.lineSame_count rfl hq, by rw [State.ptNs, State.incFd_time, State.ptNs], s.fd_incFd _ _ _ (by decide)⟩
  · exact ⟨s.lineSame_refl p q, rfl, rfl⟩

/-- A frame that starts at its launch time, or back to back with the one before it, from the state at its start (R80). -/
theorem State.txLaunched_spec {s : State} {p q : Nat} (l : Nat) (hok : s.txOk p q) (hq : q < 8) :
    ∃ f : HeFrame, ((s.txSlip p q l).txSend p q 0).hs.sent = s.hs.sent ++ [f] ∧ f.port = p ∧ f.queue = q ∧
      s.txFinished ((s.txSlip p q l).txSend p q 0) p q 0 ∧ f.stamp = s.txStamp p ∧
      ((s.txSlip p q l).txSend p q 0).hs.waiting.contains (8 * p + q) = false ∧
      ((s.txSlip p q l).txSend p q 0).fd F.HS_HEn_TXq_CNT_SLIP_CNT p q = if l + 16 < s.ptNs
        then satInc 16 (s.fd F.HS_HEn_TXq_CNT_SLIP_CNT p q) else s.fd F.HS_HEn_TXq_CNT_SLIP_CNT p q := by
  obtain ⟨hline, hpt, hcnt⟩ := s.txSlip_spec p l hq
  obtain ⟨f, hsent, hport, hqueue, -, hstamp, hfin, hwait, hkeep⟩ :=
    State.txSend_spec (State.txOk_of_lineSame hline hok) (status := 0) (by decide)
  refine ⟨f, ?_, hport, hqueue, State.txFinished_of_lineSame hline hfin,
    hstamp.trans (State.txStamp_of_lineSame hline hpt), hwait, (hkeep _ rfl).trans hcnt⟩
  rw [hsent, hline.2.1]

end Sys2Proof.Machine

/-!
## Plant Ethernet: frames received
-/

namespace Sys2Proof.Machine

/-! ### The host interface while time passes -/

/-- Memory and the registers of the plant Ethernet ports stand as before. -/
def State.hostSame (s t : State) : Prop :=
  t.mem = s.mem ∧ ∀ (r : Reg) (i j : Nat), 0x2010000 ≤ r.row.base → t.rg r i j = s.rg r i j

theorem State.hostSame_refl (s : State) : s.hostSame s := ⟨rfl, fun _ _ _ _ => rfl⟩

theorem State.hostSame_trans {s t u : State} (h1 : s.hostSame t) (h2 : t.hostSame u) : s.hostSame u := by
  obtain ⟨m1, r1⟩ := h1
  obtain ⟨m2, r2⟩ := h2
  exact ⟨m2.trans m1, fun r i j h => (r2 r i j h).trans (r1 r i j h)⟩

theorem State.hostSame_advance (s : State) (n : Nat) : s.hostSame (s.advance n) :=
  ⟨s.advance_mem n, fun _ i j h => State.rg_advance_host h s n i j⟩

theorem State.hostSame_captureAll (s : State) (src : Nat) (rising : Bool) : s.hostSame (s.captureAll src rising) :=
  ⟨(s.captureAll_kept src rising).2.2, fun _ i j h => State.rg_captureAll_host h s src rising i j⟩

section
variable {s t : State} (h : s.hostSame t)
include h

theorem State.fd_of_hostSame {f : Field} (hf : 0x2010000 ≤ f.reg.row.base) (i j : Nat) : t.fd f i j = s.fd f i j :=
  congrArg (bits · f.hi f.lo) (h.2 f.reg i j hf)

theorem State.sramN_of_hostSame (a n : Nat) : t.sramN a n = s.sramN a n := State.sramN_of_sram (by rw [h.1]) a n

theorem State.heAddressed_of_hostSame (p : Nat) (b : List Byte) : t.heAddressed p b = s.heAddressed p b := by
  unfold State.heAddressed State.heMac
  rw [State.rg64_congr (h.2 _ _ _ (by decide)) (h.2 _ _ _ (by decide))]

end

/-! ### A ring and its next descriptor (R587) -/

/-- The registers that the descriptors of a ring stand by. -/
def rxRegs : List Reg := [.HS_HEn_RXr_CTL, .HS_HEn_RXr_BASE, .HS_HEn_RXr_IDX]

def State.ringSame (s t : State) (p r : Nat) : Prop := ∀ f : Field, f.reg ∈ rxRegs → t.fd f p r = s.fd f p r

theorem State.ringSame_of_hostSame {s t : State} (h : s.hostSame t) (p r : Nat) : s.ringSame t p r := by
  have hb : ∀ x ∈ rxRegs, 0x2010000 ≤ x.row.base := by decide
  exact fun f hf => State.fd_of_hostSame h (hb _ hf) p r

theorem State.ringSame_count (s : State) {c : Field} (hc : c.reg = .HS_HEn_RXr_CNT) (p r : Nat) :
    s.ringSame (s.incFd c p r) p r := by
  have hb : ∀ x ∈ rxRegs, x.row.stride = Reg.HS_HEn_RXr_CNT.row.stride ∧ x.row.stride2 = Reg.HS_HEn_RXr_CNT.row.stride2 ∧
      x.row.base ≠ Reg.HS_HEn_RXr_CNT.row.base := by decide
  intro f hf
  obtain ⟨h1, h2, h3⟩ := hb _ hf
  exact State.fd_incFd_reg _ _ _ _ _ _ _ (by rw [hc]; exact Reg.addr_ne p r h1 h2 h3)

/-- Whether the ring is valid. -/
def State.rxOk (s : State) (p r : Nat) : Prop :=
  ringOk (s.fd F.HS_HEn_RXr_BASE_BASE p r) (s.fd F.HS_HEn_RXr_CTL_LOG2SIZE p r) = true

/-- `t` has finished the next descriptor of the ring, as it stands in `s`. -/
def State.rxFinished (s t : State) (p r status len stamp : Nat) : Prop :=
  t.sramN (s.rxDesc p r + 7) 1 = status ∧ t.sramN (s.rxDesc p r + 8) 2 = len % 2 ^ 16 ∧
  (t.sramN (s.rxDesc p r + 6) 1).testBit 0 = false ∧ t.sramN (s.rxDesc p r + 16) 8 = stamp % 2 ^ 64 ∧
  t.fd F.HS_HEn_RXr_IDX_TAIL p r = (s.fd F.HS_HEn_RXr_IDX_TAIL p r + 1) % s.rxSize p r

section
variable {s t : State} {p r : Nat} (h : s.ringSame t p r)
include h

theorem State.rxDesc_of_ringSame : t.rxDesc p r = s.rxDesc p r ∧ t.rxSize p r = s.rxSize p r := by
  unfold State.rxDesc State.rxSize
  rw [h F.HS_HEn_RXr_BASE_BASE (by decide), h F.HS_HEn_RXr_IDX_TAIL (by decide), h F.HS_HEn_RXr_CTL_LOG2SIZE (by decide)]
  exact ⟨rfl, rfl⟩

theorem State.rxOk_of_ringSame (hok : s.rxOk p r) : t.rxOk p r := by
  unfold State.rxOk
  rw [h F.HS_HEn_RXr_BASE_BASE (by decide), h F.HS_HEn_RXr_CTL_LOG2SIZE (by decide)]
  exact hok

theorem State.rxFinished_of_ringSame {u : State} {status len stamp : Nat} (hf : t.rxFinished u p r status len stamp) :
    s.rxFinished u p r status len stamp := by
  obtain ⟨hd, hz⟩ := State.rxDesc_of_ringSame h
  unfold State.rxFinished at hf ⊢
  rw [hd, hz, h F.HS_HEn_RXr_IDX_TAIL (by decide)] at hf
  exact hf

end

/-! ### A receive descriptor finished (R587, R588) -/

/-- STATUS, LEN, STAMP and OWN of the descriptor at `d`. -/
def State.rxMarked (s : State) (d status len stamp : Nat) : State :=
  (((s.setSram (d + 7) 1 status).setSram (d + 8) 2 len).setSram (d + 16) 8 stamp).clearOwn d

theorem State.rxMarked_spec (s : State) {d status : Nat} (len stamp : Nat) (h : d + 32 ≤ 0x1000000) (hs : status < 256) :
    (s.rxMarked d status len stamp).sramN (d + 7) 1 = status ∧
    (s.rxMarked d status len stamp).sramN (d + 8) 2 = len % 2 ^ 16 ∧
    ((s.rxMarked d status len stamp).sramN (d + 6) 1).testBit 0 = false ∧
    (s.rxMarked d status len stamp).sramN (d + 16) 8 = stamp % 2 ^ 64 ∧
    (∀ a n, a + n ≤ d ∨ d + 32 ≤ a → (s.rxMarked d status len stamp).sramBytes a n = s.sramBytes a n) ∧
    (s.rxMarked d status len stamp).regs = s.regs := by
  refine ⟨?_, ?_, State.own_clearOwn _ h, ?_, fun a n ha => ?_, ?_⟩ <;> unfold State.rxMarked State.clearOwn
  · rw [State.sramN_setSram_other _ (by omega) (.inr (by omega)), State.sramN_setSram_other _ (by omega) (.inl (by omega)),
      State.sramN_setSram_other _ (by omega) (.inl (by omega)), State.sramN_setSram _ _ (by omega), pow_one,
      Nat.mod_eq_of_lt hs]
  · rw [State.sramN_setSram_other _ (by omega) (.inr (by omega)), State.sramN_setSram_other _ (by omega) (.inl (by omega)),
      State.sramN_setSram _ _ (by omega)]
    rfl
  · rw [State.sramN_setSram_other _ (by omega) (.inr (by omega)), State.sramN_setSram _ _ (by omega)]
    rfl
  · rw [State.sramBytes_setSram_other _ (by omega) (by omega), State.sramBytes_setSram_other _ (by omega) (by omega),
      State.sramBytes_setSram_other _ (by omega) (by omega), State.sramBytes_setSram_other _ (by omega) (by omega)]
  · simp only [State.setSram_regs]

theorem State.rxDone_eq (s : State) (p r status len stamp : Nat) : ∃ m : State,
    m = s.rxMarked (s.rxDesc p r) status len stamp ∧ s.rxDone p r status len stamp =
      (m.setFd F.HS_HEn_RXr_IDX_TAIL p r ((m.fd F.HS_HEn_RXr_IDX_TAIL p r + 1) % m.rxSize p r)).vectorEvent (3 + 2 * p) 0 :=
  ⟨_, rfl, rfl⟩

/-- What the end of a receive descriptor sets and leaves. -/
theorem State.rxDone_spec {s : State} {p r status : Nat} (len stamp : Nat) (hok : s.rxOk p r) (hst : status < 256) :
    s.rxFinished (s.rxDone p r status len stamp) p r status len stamp ∧
    (∀ a n, a + n ≤ s.rxDesc p r ∨ s.rxDesc p r + 32 ≤ a →
      (s.rxDone p r status len stamp).sramBytes a n = s.sramBytes a n) ∧
    ∀ c : Field, c.reg = .HS_HEn_RXr_CNT → (s.rxDone p r status len stamp).fd c p r = s.fd c p r := by
  obtain ⟨hend, hlog⟩ := ringOk_desc (tail := s.fd F.HS_HEn_RXr_IDX_TAIL p r) hok
  have htail : (s.fd F.HS_HEn_RXr_IDX_TAIL p r + 1) % s.rxSize p r < 2 ^ 12 :=
    (Nat.mod_lt _ (Nat.two_pow_pos _)).trans_le (Nat.pow_le_pow_right (by decide) hlog)
  obtain ⟨m, hm, he⟩ := s.rxDone_eq p r status len stamp
  obtain ⟨hstat, hlen, hown, hstamp, hrest, hregs⟩ := s.rxMarked_spec len stamp (d := s.rxDesc p r) hend hst
  rw [← hm] at hstat hlen hown hstamp hrest hregs
  have hfd : ∀ f : Field, m.fd f p r = s.fd f p r := fun f => State.fd_of_regs hregs f p r
  have hsize : m.rxSize p r = s.rxSize p r := congrArg (2 ^ ·) (hfd _)
  rw [hfd, hsize] at he
  unfold State.rxFinished
  generalize (s.fd F.HS_HEn_RXr_IDX_TAIL p r + 1) % s.rxSize p r = tail at he htail
  have hsram : (s.rxDone p r status len stamp).mem.sram = m.mem.sram := by
    rw [he, State.vectorEvent_mem, State.setFd_mem]
  refine ⟨⟨(State.sramN_of_sram hsram _ _).trans hstat, (State.sramN_of_sram hsram _ _).trans hlen, ?_,
    (State.sramN_of_sram hsram _ _).trans hstamp, ?_⟩,
    fun a n ha => (State.sramBytes_of_sram hsram a n).trans (hrest a n ha), fun c hc => ?_⟩
  · rw [State.sramN_of_sram hsram]
    exact hown
  · rw [he, State.fd_vectorEvent_host (by decide), State.fd_setFd_of_lt (by decide) htail]
  · rw [he, State.fd_vectorEvent_host (by rw [hc]; decide), ← hfd]
    exact State.fd_setFd_reg _ _ _ _ _ _ _ _ (by rw [hc]; exact Reg.addr_ne p r rfl rfl (by decide))

/-! ### A frame at the port (R585, R587) -/

/-- The frame `b`, whose stamp point passes the port after `dt` ticks, has been received whole. -/
def State.rxArrived (s : State) (p : Nat) (b : List Byte) (fcsOk : Bool) (dt : Nat) : State :=
  let s := s.advance dt
  let s := if fcsOk ∧ ptpEvent b then s.captureAll (0x28 + p) true else s
  s.advance (s.heTicks p (b.length + 4))

theorem State.hostSame_rxArrived (s : State) (p : Nat) (b : List Byte) (fcsOk : Bool) (dt : Nat) :
    s.hostSame (s.rxArrived p b fcsOk dt) := by
  unfold State.rxArrived
  dsimp only
  refine State.hostSame_trans (s.hostSame_advance dt) (State.hostSame_trans ?_ (State.hostSame_advance _ _))
  split
  · exact State.hostSame_captureAll _ _ _
  · exact State.hostSame_refl _

/-- The stamp of a frame that passes the port after `dt` ticks. -/
def State.rxStamp (s : State) (p dt : Nat) : Nat := (s.advance dt).ptNs - s.fd F.HS_HEn_LAT_RX_EXT p / 256

/-- The next descriptor of the ring is the port's. -/
def State.rxOwn (s : State) (p r : Nat) : Bool := s.flag F.HS_HEn_RXr_CTL_EN p r &&
  decide (s.fd F.HS_HEn_RXr_IDX_HEAD p r ≠ s.fd F.HS_HEn_RXr_IDX_TAIL p r) && bit (s.sramN (s.rxDesc p r + 6) 1) 0

theorem State.rxOwn_iff (s : State) (p r : Nat) : s.rxOwn p r = true ↔ s.flag F.HS_HEn_RXr_CTL_EN p r = true ∧
    s.fd F.HS_HEn_RXr_IDX_HEAD p r ≠ s.fd F.HS_HEn_RXr_IDX_TAIL p r ∧ (s.sramN (s.rxDesc p r + 6) 1).testBit 0 = true := by
  simp only [State.rxOwn, bit, Bool.and_eq_true, decide_eq_true_eq, and_assoc]

theorem State.rxOwn_of_hostSame {s t : State} (h : s.hostSame t) (p r : Nat) : t.rxOwn p r = s.rxOwn p r := by
  unfold State.rxOwn
  rw [(State.rxDesc_of_ringSame (State.ringSame_of_hostSame h p r)).1, State.sramN_of_hostSame h, State.fd_of_hostSame h (by decide),
    State.fd_of_hostSame h (by decide), State.flag_congr (State.fd_of_hostSame h (f := F.HS_HEn_RXr_CTL_EN) (by decide) p r)]

/-- A frame that arrives at an enabled port. -/
theorem execHeRxFrame_eq {s : State} {p : Nat} (b : List Byte) (fcsOk : Bool) (dt : Nat) (hp : p < 2)
    (hdom : s.domOn 24 = true) (hen : s.flag F.HS_HEn_CTL_EN p = true) : execHeRxFrame p b fcsOk dt s =
      let t := s.rxArrived p b fcsOk dt
      let r := if ptpFrame b then 0 else 1
      if ¬ fcsOk then .next (t.incFd F.HS_HEn_CNT_FCS_ERR p 0)
      else if r = 1 ∧ ¬ t.heAddressed p b then .next t
      else if ¬ t.rxOwn p r then .next ((t.incFd F.HS_HEn_RXr_CNT_RX_OVR p r).incFd F.HS_HEn_CNT_RX_OVR p 0)
      else if t.sramN (t.rxDesc p r + 4) 2 < b.length then
        .next ((t.incFd F.HS_HEn_RXr_CNT_DISCARD p r).rxDone p r 0x03 b.length (s.rxStamp p dt))
      else .next ((t.sramWrite (t.sramN (t.rxDesc p r) 4) b).rxDone p r 0 b.length (s.rxStamp p dt)) := by
  have hflag : (s.advance dt).flag F.HS_HEn_CTL_EN p = true :=
    (State.flag_congr (State.fd_advance_host (by decide) s dt p 0)).trans hen
  have hlat : (s.advance dt).fd F.HS_HEn_LAT_RX_EXT p = s.fd F.HS_HEn_LAT_RX_EXT p := State.fd_advance_host (by decide) s dt p 0
  unfold execHeRxFrame State.rxStamp State.rxOwn
  dsimp only
  rw [if_neg (not_or.mpr ⟨hp.not_ge, not_or.mpr ⟨not_not_intro ((s.domOn_advance dt 24).trans hdom), not_not_intro hflag⟩⟩),
    hlat]
  rfl

end Sys2Proof.Machine

/-!
## Plant Ethernet: what becomes of a frame
-/

namespace Sys2Proof.Machine

theorem ofLe_lt (l : List Byte) : ofLe l < 256 ^ l.length := by
  induction l with
  | nil => decide
  | cons b l ih =>
    have hb := b.isLt
    rw [ofLe, List.length_cons, pow_succ]
    omega

theorem State.sramN_lt (s : State) (a n : Nat) : s.sramN a n < 256 ^ n := by
  have h := ofLe_lt (s.sramBytes a n)
  rwa [State.sramBytes, Mem.readN_length] at h

/-! ### A frame received (R587) -/

section
variable {s : State} {p : Nat} {b : List Byte} (dt : Nat) (hp : p < 2) (hdom : s.domOn 24 = true)
  (hen : s.flag F.HS_HEn_CTL_EN p = true)
include hp hdom hen

/-- A frame whose FCS fails. -/
theorem exec_heRxFrame_bad : ∃ t, exec (.heRxFrame p b false dt) s = .next t ∧ t.mem = s.mem ∧
    t.fd F.HS_HEn_CNT_FCS_ERR p = satInc 16 (s.fd F.HS_HEn_CNT_FCS_ERR p) := by
  have h := s.hostSame_rxArrived p b false dt
  refine ⟨_, (execHeRxFrame_eq b false dt hp hdom hen).trans (if_pos Bool.false_ne_true), ?_, ?_⟩
  · rw [State.incFd_mem, h.1]
  · rw [State.fd_incFd _ _ _ _ (by decide), State.fd_of_hostSame h (by decide)]
    rfl

variable {r : Nat} (hr : r = if ptpFrame b then 0 else 1) (hto : ptpFrame b = true ∨ s.heAddressed p b = true)
include hr hto

/-- A frame for this port goes by its ring. -/
theorem execHeRxFrame_ring : execHeRxFrame p b true dt s =
    let t := s.rxArrived p b true dt
    if ¬ s.rxOwn p r then .next ((t.incFd F.HS_HEn_RXr_CNT_RX_OVR p r).incFd F.HS_HEn_CNT_RX_OVR p 0)
    else if s.sramN (s.rxDesc p r + 4) 2 < b.length then
      .next ((t.incFd F.HS_HEn_RXr_CNT_DISCARD p r).rxDone p r 0x03 b.length (s.rxStamp p dt))
    else .next ((t.sramWrite (s.sramN (s.rxDesc p r) 4) b).rxDone p r 0 b.length (s.rxStamp p dt)) := by
  have h := s.hostSame_rxArrived p b true dt
  have hfor : ¬ (r = 1 ∧ ¬ (s.rxArrived p b true dt).heAddressed p b = true) := by
    rw [State.heAddressed_of_hostSame h]
    rintro ⟨hr1, hno⟩
    rcases hto with hptp | hadr
    · rw [hr, if_pos hptp] at hr1
      exact Nat.zero_ne_one hr1
    · exact hno hadr
  rw [execHeRxFrame_eq b true dt hp hdom hen]
  dsimp only
  rw [← hr, if_neg (not_not_intro rfl), if_neg hfor, State.rxOwn_of_hostSame h,
    (State.rxDesc_of_ringSame (State.ringSame_of_hostSame h p r)).1, State.sramN_of_hostSame h, State.sramN_of_hostSame h]

/-- No descriptor is the port's. -/
theorem exec_heRxFrame_overrun (hno : s.rxOwn p r = false) : ∃ t, exec (.heRxFrame p b true dt) s = .next t ∧
    t.mem = s.mem ∧ t.fd F.HS_HEn_RXr_CNT_RX_OVR p r = satInc 16 (s.fd F.HS_HEn_RXr_CNT_RX_OVR p r) := by
  have h := s.hostSame_rxArrived p b true dt
  have hap : Reg.addr .HS_HEn_RXr_CNT p r ≠ Reg.addr .HS_HEn_CNT p 0 := by
    show 0x201020C + 0x1000 * p + 16 * r ≠ 0x2010010 + 0x1000 * p + 1 * 0
    omega
  refine ⟨_, (execHeRxFrame_ring dt hp hdom hen hr hto).trans (if_pos (by rw [hno]; exact Bool.false_ne_true)), ?_, ?_⟩
  · rw [State.incFd_mem, State.incFd_mem, h.1]
  · rw [State.fd_incFd_reg _ F.HS_HEn_CNT_RX_OVR F.HS_HEn_RXr_CNT_RX_OVR p 0 p r hap, State.fd_incFd _ _ _ _ (by decide), State.fd_of_hostSame h (by decide)]
    rfl

variable (hown : s.rxOwn p r = true) (hok : s.rxOk p r)
include hown hok

/-- A frame that fits its buffer. -/
theorem exec_heRxFrame_stored (hlen : b.length ≤ s.sramN (s.rxDesc p r + 4) 2)
    (hend : s.sramN (s.rxDesc p r) 4 + b.length ≤ 0x1000000) (hd : s.sramN (s.rxDesc p r) 4 + b.length ≤ s.rxDesc p r ∨
      s.rxDesc p r + 32 ≤ s.sramN (s.rxDesc p r) 4) : ∃ t, exec (.heRxFrame p b true dt) s = .next t ∧
    t.sramBytes (s.sramN (s.rxDesc p r) 4) b.length = b ∧ s.rxFinished t p r 0 b.length (s.rxStamp p dt) := by
  have hring := State.ringSame_of_hostSame (s.hostSame_rxArrived p b true dt) p r
  have he := execHeRxFrame_ring dt hp hdom hen hr hto
  dsimp only at he
  rw [if_neg (not_not_intro hown), if_neg hlen.not_gt] at he
  generalize s.rxArrived p b true dt = t at hring he
  have hline : s.ringSame (t.sramWrite (s.sramN (s.rxDesc p r) 4) b) p r := fun f hf =>
    (State.fd_of_regs (t.sramWrite_regs _ _) f p r).trans (hring f hf)
  have hbuf := t.sramBytes_sramWrite hend
  generalize t.sramWrite (s.sramN (s.rxDesc p r) 4) b = u at hline hbuf he
  obtain ⟨hfin, hrest, -⟩ := State.rxDone_spec b.length (s.rxStamp p dt) (State.rxOk_of_ringSame hline hok) (status := 0) (by decide)
  rw [(State.rxDesc_of_ringSame hline).1] at hrest
  exact ⟨_, he, (hrest _ _ hd).trans hbuf, State.rxFinished_of_ringSame hline hfin⟩

/-- A frame longer than its buffer. -/
theorem exec_heRxFrame_long (hlen : s.sramN (s.rxDesc p r + 4) 2 < b.length) :
    ∃ t, exec (.heRxFrame p b true dt) s = .next t ∧ t.sramN (s.rxDesc p r + 7) 1 = 0x03 ∧
      t.fd F.HS_HEn_RXr_CNT_DISCARD p r = satInc 16 (s.fd F.HS_HEn_RXr_CNT_DISCARD p r) := by
  have h := s.hostSame_rxArrived p b true dt
  have he := execHeRxFrame_ring dt hp hdom hen hr hto
  dsimp only at he
  rw [if_neg (not_not_intro hown), if_pos hlen] at he
  generalize s.rxArrived p b true dt = t at h he
  have hline : s.ringSame (t.incFd F.HS_HEn_RXr_CNT_DISCARD p r) p r := fun f hf =>
    (t.ringSame_count rfl p r f hf).trans (State.ringSame_of_hostSame h p r f hf)
  obtain ⟨hfin, -, hkeep⟩ := State.rxDone_spec b.length (s.rxStamp p dt) (State.rxOk_of_ringSame hline hok) (status := 0x03) (by decide)
  refine ⟨_, he, (State.rxFinished_of_ringSame hline hfin).1, (hkeep F.HS_HEn_RXr_CNT_DISCARD rfl).trans ?_⟩
  rw [State.fd_incFd _ _ _ _ (by decide), State.fd_of_hostSame h (by decide)]
  rfl

end

/-! ### A launch (R76 to R80) -/

section
variable {s : State} {p q : Nat} (hready : s.txReady p q = true) (hw : s.hs.waiting.contains (8 * p + q) = true)
  (hnear : s.txLaunch p q ≤ s.ptJumped.ptNs + 2000000000) (hb : s.txBehind p q = false) (hok : s.txOk p q) (hq : q < 8)
include hready hw hnear hb hok hq

/-- A waiting frame goes at its launch time, or as soon as the line is free. -/
theorem exec_heTxLaunch_sent (hnl : (s.advance (s.ticksToPt (s.txLaunch p q))).hs.late.contains (8 * p + q) = false) :
    ∃ (t : State) (f : HeFrame), exec (.heTxLaunch p q) s = .next t ∧ t.hs.sent = s.hs.sent ++ [f] ∧ f.port = p ∧ f.queue = q ∧
      s.txFinished t p q 0 ∧
      f.stamp = ((s.advance (s.ticksToPt (s.txLaunch p q))).advanceToTick (s.heFree p)).ptNs +
        (if s.fd F.HS_HEn_CTL_SPEED p = 0 then 6 else 64) - s.fd F.HS_HEn_LAT_TX_EXT p / 256 ∧
      t.hs.waiting.contains (8 * p + q) = false ∧ t.fd F.HS_HEn_TXq_CNT_SLIP_CNT p q =
        if s.txLaunch p q + 16 < ((s.advance (s.ticksToPt (s.txLaunch p q))).advanceToTick (s.heFree p)).ptNs
        then satInc 16 (s.fd F.HS_HEn_TXq_CNT_SLIP_CNT p q) else s.fd F.HS_HEn_TXq_CNT_SLIP_CNT p q := by
  have he := execHeTxLaunch_near hready hw hnear hb
  have hline := s.lineSame_advance (s.ticksToPt (s.txLaunch p q)) p q
  have hcnt : ∀ (u : State) (n : Nat), (u.advance n).fd F.HS_HEn_TXq_CNT_SLIP_CNT p q = u.fd F.HS_HEn_TXq_CNT_SLIP_CNT p q :=
    fun u n => State.fd_advance_host (by decide) u n p q
  dsimp only at he
  rw [hnl, if_neg Bool.false_ne_true, State.heFree_of_lineSame hline] at he
  have hall : s.lineSame ((s.advance (s.ticksToPt (s.txLaunch p q))).advanceToTick (s.heFree p)) p q :=
    State.lineSame_trans hline (State.lineSame_advance _ _ p q)
  have hslip : ((s.advance (s.ticksToPt (s.txLaunch p q))).advanceToTick (s.heFree p)).fd F.HS_HEn_TXq_CNT_SLIP_CNT p q =
      s.fd F.HS_HEn_TXq_CNT_SLIP_CNT p q := (hcnt _ _).trans (hcnt _ _)
  generalize (s.advance (s.ticksToPt (s.txLaunch p q))).advanceToTick (s.heFree p) = u at he hall hslip
  obtain ⟨f, hsent, hport, hqueue, hfin, hstamp, hwait, hkeep⟩ :=
    State.txLaunched_spec (s.txLaunch p q) (State.txOk_of_lineSame hall hok) hq
  rw [hslip] at hkeep
  have hfin' := State.txFinished_of_lineSame hall hfin
  obtain ⟨-, hs, -, hl⟩ := hall
  rw [State.txStamp, hl F.HS_HEn_CTL_SPEED (by decide), hl F.HS_HEn_LAT_TX_EXT (by decide)] at hstamp
  exact ⟨_, f, he, by rw [hsent, hs], hport, hqueue, hfin', hstamp, hwait, hkeep⟩

/-- A waiting frame whose launch time has been put in the past, where the queue discards late frames. -/
theorem exec_heTxLaunch_late (hl : (s.advance (s.ticksToPt (s.txLaunch p q))).hs.late.contains (8 * p + q) = true)
    (hdrop : s.flag F.HS_HEn_TXq_CTL_LATE p q = false) : ∃ t, exec (.heTxLaunch p q) s = .next t ∧
      t.hs.sent = s.hs.sent ∧ s.txFinished t p q 0x09 ∧
      t.fd F.HS_HEn_TXq_CNT_LATE_CNT p q = satInc 16 (s.fd F.HS_HEn_TXq_CNT_LATE_CNT p q) := by
  have he := execHeTxLaunch_near hready hw hnear hb
  have hline := s.lineSame_advance (s.ticksToPt (s.txLaunch p q)) p q
  have hcnt : (s.advance (s.ticksToPt (s.txLaunch p q))).fd F.HS_HEn_TXq_CNT_LATE_CNT p q =
      s.fd F.HS_HEn_TXq_CNT_LATE_CNT p q := State.fd_advance_host (by decide) s _ p q
  dsimp only at he
  rw [if_pos hl] at he
  generalize s.advance (s.ticksToPt (s.txLaunch p q)) = w at he hline hcnt
  obtain ⟨hfin, hlate, hsent, -⟩ := State.txLate_spec (State.txOk_of_lineSame hline hok) hq
  have hflag : w.flag F.HS_HEn_TXq_CTL_LATE p q = false :=
    (State.flag_congr (hline.2.2.1 F.HS_HEn_TXq_CTL_LATE (by decide))).trans hdrop
  refine ⟨_, he, (hsent hflag).trans hline.2.1, State.txFinished_of_lineSame hline hfin, ?_⟩
  rw [hlate, hcnt]

end

/-- Settles O47: a lemma per outcome of a head descriptor, of a launch and of a frame received. -/
theorem plantEthernetFrames : Obligations.PlantEthernetFrames := by
  unfold Obligations.PlantEthernetFrames
  intro s p q hp hq
  refine ⟨?_, ?_, ?_, fun b dt hdom hen => ?_⟩
  · rintro ⟨hok, hready⟩ hw
    refine ⟨fun hu hfree hfit => ?_, fun ht hlate hdrop => ?_, fun ht hlate hsend => ?_, fun ht hfar => ?_, fun ht hle hnear => ?_⟩
    · obtain ⟨f, hsent, hport, hqueue, hbytes, -, hfin, -⟩ := State.txSend_spec hok (status := 0) (by decide)
      obtain ⟨htake, h60⟩ := s.txFrame_spec p q
      rw [← hbytes] at htake h60
      exact ⟨_, f, execHeTxHead_untimed hready hp hq hw hu hfree hfit, hsent, hport, hqueue, htake, h60, hfin⟩
    · obtain ⟨hfin, hcnt, hsent, -⟩ := State.txLate_spec hok hq
      exact ⟨_, (execHeTxHead_timed hready hp hq hw ht).trans (if_pos hlate), hsent hdrop, hfin, hcnt⟩
    · obtain ⟨hfin, hcnt, -, hsent⟩ := State.txLate_spec hok hq
      obtain ⟨f, hf, hport, hqueue⟩ := hsent hsend
      exact ⟨_, f, (execHeTxHead_timed hready hp hq hw ht).trans (if_pos hlate), hf, hport, hqueue, hfin, hcnt⟩
    · obtain ⟨hfin, hsent, -⟩ := State.txDone_spec none hok (status := 0x03) (by decide)
      exact ⟨_, (execHeTxHead_timed hready hp hq hw ht).trans ((if_neg (by omega)).trans (if_pos hfar)), hsent, hfin⟩
    · exact (execHeTxHead_timed hready hp hq hw ht).trans ((if_neg hle.not_gt).trans (if_neg hnear.not_gt))
  · rintro ⟨hok, hready⟩ hw hfar
    have hline := s.lineSame_ptJumped p q
    obtain ⟨hfin, hsent, hwait, -⟩ := State.txDone_spec none (State.txOk_of_lineSame hline hok) (status := 0x03) (by decide)
    exact ⟨_, execHeTxLaunch_far hready hw hfar, hsent.trans hline.2.1, State.txFinished_of_lineSame hline hfin, hwait⟩
  · rintro ⟨hok, hready⟩ hw hnear hb
    exact ⟨exec_heTxLaunch_sent hready hw hnear hb hok hq, exec_heTxLaunch_late hready hw hnear hb hok hq⟩
  · refine ⟨exec_heRxFrame_bad dt hp hdom hen, fun hto => ⟨fun hno => ?_, fun hown hok hlen hend hd => ?_, fun hown hok hlen => ?_⟩⟩
    · rw [← State.rxOwn_iff, Bool.not_eq_true] at hno
      exact exec_heRxFrame_overrun dt hp hdom hen rfl hto hno
    · obtain ⟨t, he, hbuf, hstat, hlength, hclear, hstamp, htail⟩ :=
        exec_heRxFrame_stored dt hp hdom hen rfl hto ((s.rxOwn_iff p _).mpr hown) hok hlen hend hd
      exact ⟨t, he, hbuf, hstat, hlength.trans (Nat.mod_eq_of_lt (hlen.trans_lt (s.sramN_lt _ 2))), hclear, hstamp, htail⟩
    · exact exec_heRxFrame_long dt hp hdom hen rfl hto ((s.rxOwn_iff p _).mpr hown) hok hlen

end Sys2Proof.Machine

/-!
## Delay measurement and cold start
-/

namespace Sys2Proof.Machine

/-! ### What the link reads while time passes -/

theorem State.ticked_ticks (s : State) (n : Nat) : (s.ticked n).time.ticks = s.time.ticks + n := by
  obtain ⟨-, -, -, h, -, -⟩ := s.time.tick_settles s.ptIncReg (n - 1)
  unfold State.ticked
  simp only
  generalize s.time.tick s.ptIncReg (n - 1) = t at h ⊢
  exact congrArg (· + n) h

theorem State.ticks_advance (s : State) (n : Nat) : (s.advance n).time.ticks = s.time.ticks + n := by
  cases n with
  | zero => rfl
  | succ k =>
    have h := (s.fresh (k + 1)).notePtJump.ticked_ticks (k + 1)
    rw [State.notePtJump_time] at h
    rw [State.advance_succ]
    split
    · split
      · rw [State.dropAlign_time]
        exact h
      · exact h
    · rfl

theorem State.ticks_advanceToTick (s : State) (k : Nat) : (s.advanceToTick k).time.ticks = max s.time.ticks k := by
  rw [State.advanceToTick, State.ticks_advance]
  omega

theorem State.cold_advance (s : State) (n : Nat) : (s.advance n).kl.cold = s.kl.cold := by rw [s.kl_advance n]

theorem State.out_advance (s : State) (n : Nat) : (s.advance n).kl.out = s.kl.out := by rw [s.kl_advance n]

/-- Time leaves every register above KL_TIME_ERR. -/
theorem State.rg_advance_above (s : State) (n : Nat) {r : Reg} (h : 0x400108 < r.row.base) (i j : Nat) :
    (s.advance n).rg r i j = s.rg r i j := by
  have hb := h.trans_le (r.base_le_addr i j)
  refine s.rg_advance n r i j ?_ ?_
  · show r.addr i j ≠ 0x20000C
    omega
  · show r.addr i j ≠ 0x400108
    omega

theorem State.fd_advance_above (s : State) (n : Nat) {f : Field} (h : 0x400108 < f.reg.row.base) (i j : Nat) :
    (s.advance n).fd f i j = s.fd f i j := by
  rw [State.fd, s.rg_advance_above n h, State.fd]

theorem State.flag_advance_above (s : State) (n : Nat) {f : Field} (h : 0x400108 < f.reg.row.base) (i j : Nat) :
    (s.advance n).flag f i j = s.flag f i j := State.flag_congr (s.fd_advance_above n h i j)

theorem State.isStandby_advance (s : State) (n : Nat) : (s.advance n).isStandby = s.isStandby := by
  rw [State.isStandby, s.fd_advance_above n (by decide), State.isStandby]

theorem State.netOf_advance (s : State) (n p : Nat) : (s.advance n).netOf p = s.netOf p := by
  rw [State.netOf, s.flag_advance_above n (by decide), State.netOf]

theorem State.coldNet_advance (s : State) (n p : Nat) : (s.advance n).coldNet p = s.coldNet p :=
  State.coldNet_congr (s.ch_advance n) (s.rg_advance_above n (by decide) _ _) (s.rg_advance n _ _ _ (by decide) (by decide))

/-! ### What sending leaves alone -/

/-- The state but for the nodes' records, the frames sent, and those that wait. -/
def State.unsent (s : State) : State :=
  { s with kl := { s.kl with nodes := [], out := [], busy := [], held := [], count := 0 } }

theorem State.unsent_setNode (s : State) (n : Nat) (k : KlNode) : (s.setNode n k).unsent = s.unsent := rfl

theorem State.unsent_sendDelayAt (s : State) (p ct sub : Nat) (body : List Byte) :
    (s.sendDelayAt p ct sub body).unsent = s.unsent := rfl

theorem State.unsent_takeLine (s : State) (p start len : Nat) : (s.takeLine p start len).unsent = s.unsent := rfl

theorem State.unsent_sendResult (s : State) (p : Nat) (body : List Byte) : (s.sendResult p body).unsent = s.unsent := by
  unfold State.sendResult
  dsimp only
  split
  · exact (State.unsent_sendDelayAt _ _ _ _ _).trans (s.unsent_takeLine _ _ _)
  · rfl

theorem State.unsent_sendNewResults (s : State) (n : Nat) : (s.sendNewResults n).unsent = s.unsent := by
  unfold State.sendNewResults
  split
  · exact (forEach_keeps State.unsent _ _ _ fun b t => t.unsent_sendResult n b).trans
      (forEach_keeps State.unsent _ _ _ fun e t => t.unsent_setNode _ _)
  · rfl

/-! ### Frames of the delay measurement (R145, R146) -/

/-- A sound frame of the delay measurement, of a subtype that is asked for, is acted on. -/
theorem State.delayFrame_taken {s : State} {p : Nat} {subs : List Nat} {bs : List Byte} (k : State → State)
    (hrej : s.klReject p 7 true bs = none) (hsub : subs.contains (klField bs 12 1) = true) (hlen : 34 ≤ klField bs 10 2) :
    s.delayFrame p subs true bs k = k s := by
  unfold State.delayFrame
  rw [hrej]
  dsimp only
  exact if_neg (not_or.mpr ⟨not_not_intro hsub, Nat.not_lt.mpr hlen⟩)

/-- A number laid down in a frame reads back. -/
theorem fieldAt_leBytes {pre : List Byte} {b : Nat} (h : pre.length = b) (n v : Nat) (post : List Byte) :
    fieldAt (pre ++ (leBytes n v ++ post)) b n = v % 256 ^ n := by
  rw [fieldAt, ← h, List.drop_left, List.take_left' (leBytes_length n v), ofLe_leBytes]

theorem State.klEthernet_length (s : State) (p : Nat) : (s.klEthernet p).length = 14 := by
  simp [State.klEthernet, leBytes_length]

theorem State.klHeader_length (s : State) (typ : Nat) (dir : Bool) (i n : Nat) : (s.klHeader typ dir i n).length = 12 := by
  simp [State.klHeader, leBytes_length]

/-- The bytes of a frame of the delay measurement with subtype `sub` and the payload `body` (R92, R145). -/
def State.delayBytes (s : State) (p sub : Nat) (body : List Byte) : List Byte :=
  let pay := leBytes 1 sub ++ leBytes 1 s.kl.count ++ body
  let pay := pay ++ List.replicate (34 - pay.length) 0#8
  s.klEthernet p ++ (s.klHeader 0x7 (decide (s.netOf p ≠ p)) s.kl.count pay.length ++ pay)

theorem State.sendDelayAt_eq (s : State) (p ct sub : Nat) (body : List Byte) : s.sendDelayAt p ct sub body =
    { s with kl := { s.kl with out := s.kl.out ++ [{ port := p, stamp := ct, bytes := s.delayBytes p sub body }],
                               count := (s.kl.count + 1) % 256 } } := rfl

/-- SUB of such a frame, and the number with which its payload goes on after the two reserved bytes (R145). -/
theorem State.delayBytes_fields (s : State) (p sub n v : Nat) : klField (s.delayBytes p sub (leBytes 2 0 ++ leBytes n v)) 12 1 =
    sub % 256 ∧ klField (s.delayBytes p sub (leBytes 2 0 ++ leBytes n v)) 16 n = v % 256 ^ n := by
  unfold State.delayBytes klField
  dsimp only
  generalize hh : s.klHeader _ _ _ _ = h
  have hlen : h.length = 12 := by rw [← hh, State.klHeader_length]
  generalize List.replicate _ _ = z
  constructor
  · have h26 : (s.klEthernet p ++ h).length = 14 + 12 := by rw [List.length_append, s.klEthernet_length, hlen]
    simpa only [List.append_assoc, pow_one] using fieldAt_leBytes h26 1 sub _
  · have h30 : (s.klEthernet p ++ (h ++ (leBytes 1 sub ++ (leBytes 1 s.kl.count ++ leBytes 2 0)))).length = 14 + 16 := by
      simp only [List.length_append, s.klEthernet_length, hlen, leBytes_length]
    simpa only [List.append_assoc] using fieldAt_leBytes h30 n v z

theorem State.le_clearOfGuard (s : State) (p ct : Nat) : ct ≤ s.clearOfGuard p ct := by
  unfold State.clearOfGuard
  dsimp only
  split
  · exact Nat.le_max_left _ _
  · exact Nat.le_refl _

/-- The CT at which a PREQ that arrives now is answered (R115, R146). -/
def State.answerAt (s : State) (p : Nat) : Nat := s.clearOfGuard p (s.time.ct + s.free.1 % 1000 * 2 ^ 33)

theorem State.le_answerAt (s : State) (p : Nat) : s.time.ct ≤ s.answerAt p :=
  (Nat.le_add_right _ _).trans (s.le_clearOfGuard p _)

/-- The PRESP that answers a PREQ arriving now (R145, R146). -/
def State.presp (s : State) (p : Nat) : List Byte :=
  s.delayBytes p 3 (leBytes 2 0 ++ leBytes 4 (s.turnOf p s.time.ct (s.answerAt p)))

/-- PREQ_RECEIVE of a PREQ: one PRESP goes out (R146). -/
theorem exec_preqReceive_answers {s : State} {p dt : Nat} {bs : List Byte} (hon : s.portOn p = true)
    (hstby : s.isStandby = false) (hrej : (s.advance dt).klReject p 7 true bs = none) (hsub : klField bs 12 1 = 2)
    (hlen : 34 ≤ klField bs 10 2) : let u := s.advance dt
    exec (.preqReceive p dt true bs) s = .next { u with
      kl := { u.kl with out := u.kl.out ++ [{ port := p, stamp := u.answerAt p, bytes := u.presp p }],
                        count := (u.kl.count + 1) % 256 },
      freeCount := u.freeCount + 1 } := by
  intro u
  show execPreqReceive p dt true bs s = _
  unfold execPreqReceive
  rw [hon, if_neg (not_not_intro rfl)]
  dsimp only
  rw [State.delayFrame_taken _ hrej (by rw [hsub]; rfl) hlen, hsub, if_neg (by decide),
    if_neg (by rw [s.isStandby_advance, hstby]; decide), State.sendDelayAt_eq]
  rfl

/-- What the PRESP says (R145, R146). -/
theorem State.presp_fields (s : State) (p : Nat) : klField (s.presp p) 12 1 = 3 ∧
    klField (s.presp p) 16 4 = s.turnOf p s.time.ct (s.answerAt p) % 2 ^ 32 := by
  unfold State.presp
  exact s.delayBytes_fields p 3 4 _

/-! ### The closing link of a ring (R146, R148) -/

/-- The network of an odd port of a ring is named by the port before it (R91). -/
theorem State.netOf_succ {s : State} {p : Nat} (h : s.netOf p ≠ p) : s.netOf p + 1 = p := by
  unfold State.netOf at h ⊢
  split at h
  · rename_i hp
    rw [if_pos hp]
    omega
  · exact absurd rfl h

/-- A PRESP gives the closing link, and closes its PREQ. -/
theorem State.takePresp_spec {s : State} {p turn : Nat} {e : Nat × Nat} (hn : s.netOf p ≠ p)
    (he : s.kl.preq.find? (fun e => e.1 = s.netOf p) = some e) :
    Tab.get (fun _ => 0) (s.takePresp p turn).kl.closing (s.netOf p) = s.closingLink (s.netOf p) e.2 s.time.ct turn ∧
    ∀ x ∈ (s.takePresp p turn).kl.preq, x.1 ≠ s.netOf p := by
  unfold State.takePresp
  dsimp only
  rw [he]
  dsimp only
  rw [if_neg hn]
  generalize hw : ({ s with kl := _ } : State) = w
  have hkl := congrArg (·.kl) (w.unsent_sendNewResults (s.netOf p))
  have hc : (w.sendNewResults (s.netOf p)).kl.closing = w.kl.closing := congrArg (·.closing) hkl
  have hp : (w.sendNewResults (s.netOf p)).kl.preq = w.kl.preq := congrArg (·.preq) hkl
  rw [hc, hp, ← hw]
  exact ⟨Tab.get_set _ _ _ _, fun x hx => of_decide_eq_true (List.mem_filter.mp hx).2⟩

/-- Time leaves the latencies of the ports, from which the closing link is computed (R146, R174). -/
theorem State.closingLink_advance (s : State) (dt : Nat) {n p : Nat} (hn : n + 1 = p) (t1 rx turn : Nat) :
    (s.advance dt).closingLink n t1 rx turn =
      ((((rx / 2 ^ 24 : Nat) : Int) - s.fd F.KL_PORTn_LAT_RX_EXT p -
        (((t1 / 2 ^ 24 : Nat) : Int) - s.fd F.KL_PORTn_LAT_TX_EXT p) - turn).toNat / 2) -
        s.fd F.KL_PORTn_LAT_TX_EXT p - s.fd F.KL_PORTn_LAT_RX_EXT p := by
  unfold State.closingLink State.lessLat
  rw [hn, s.fd_advance_above dt (by decide), s.fd_advance_above dt (by decide)]

/-- PREQ_RECEIVE of a PRESP. -/
theorem exec_preqReceive_presp {s : State} {p dt : Nat} {bs : List Byte} (hon : s.portOn p = true)
    (hrej : (s.advance dt).klReject p 7 true bs = none) (hsub : klField bs 12 1 = 3) (hlen : 34 ≤ klField bs 10 2) :
    exec (.preqReceive p dt true bs) s = .next ((s.advance dt).takePresp p (klField bs 16 4)) := by
  show execPreqReceive p dt true bs s = _
  unfold execPreqReceive
  rw [hon, if_neg (not_not_intro rfl)]
  dsimp only
  rw [State.delayFrame_taken _ hrej (by rw [hsub]; rfl) hlen, hsub, if_pos rfl]

/-! ### REPORT (R147, R148) -/

/-- A REPORT replaces what its node reported before. -/
theorem State.takeReport_reportsOf (s : State) (n : Nat) (r : KlReport) : r ∈ (s.takeReport n r).reportsOf n ∧
    ∀ x ∈ (s.takeReport n r).reportsOf n, x.node = r.node → x = r := by
  have hrep : Tab.get (fun _ => []) (s.takeReport n r).kl.reports n =
      (Tab.get (fun _ => []) s.kl.reports n).filter (fun x => x.node ≠ r.node) ++ [r] := by
    unfold State.takeReport
    dsimp only
    generalize hw : ({ s with kl := _ } : State) = w
    have h : (w.sendNewResults n).kl.reports = w.kl.reports := congrArg (·.kl.reports) (w.unsent_sendNewResults n)
    rw [h, ← hw]
    exact Tab.get_set _ _ _ _
  have hmem : ∀ x, x ∈ (s.takeReport n r).reportsOf n ↔
      (x ∈ Tab.get (fun _ => []) s.kl.reports n ∧ x.node ≠ r.node) ∨ x = r := fun x => by
    rw [State.reportsOf, hrep, List.mem_mergeSort, List.mem_append, List.mem_filter, List.mem_singleton, decide_eq_true_eq]
  refine ⟨(hmem r).mpr (.inr rfl), fun x hx hnode => ?_⟩
  rcases (hmem x).mp hx with ⟨-, hne⟩ | h
  · exact absurd hnode hne
  · exact h

/-- REPORT_RECEIVE of a sound REPORT. -/
theorem exec_reportReceive_taken {s : State} {p dt : Nat} {bs : List Byte} (hon : s.portOn p = true)
    (hrej : (s.advance dt).klReject p 7 true bs = none) (hsub : klField bs 12 1 = 4) (hlen : 34 ≤ klField bs 10 2) :
    exec (.reportReceive p dt true bs) s = .next ((s.advance dt).takeReport (s.netOf p)
      { node := klField bs 14 2, hop := klField bs 16 1, link := klField bs 20 4, resAB := klField bs 24 4,
        resBA := klField bs 28 4 }) := by
  show execReportReceive p dt true bs s = _
  unfold execReportReceive
  rw [hon, if_neg (not_not_intro rfl)]
  dsimp only
  rw [State.delayFrame_taken _ hrej (by rw [hsub]; rfl) hlen, s.netOf_advance]

/-! ### The end of MEASURE (R148, R157) -/

theorem State.resultsAt_advance (s : State) (n p : Nat) : (s.advance n).resultsAt p = s.resultsAt p := by
  unfold State.resultsAt State.reportsOf State.lessLat
  rw [s.kl_advance n]
  simp (disch := decide) only [s.flag_advance_above n, s.fd_advance_above n]

theorem State.schedEntries_advance (s : State) (n m : Nat) : (s.advance n).schedEntries m = s.schedEntries m := by
  have hlen : (s.advance n).fd F.KL_MODE_STATm_LEN m = s.fd F.KL_MODE_STATm_LEN m := by
    refine s.fd_advance n _ m 0 ?_ ?_
    · show 0x400040 + 0x10 * m + 0 * 0 ≠ 0x20000C
      omega
    · show 0x400040 + 0x10 * m + 0 * 0 ≠ 0x400108
      omega
  unfold State.schedEntries State.schedEntry
  rw [hlen]
  simp (disch := decide) only [s.rg_advance_above n]

theorem State.spreadBad_advance (s : State) (n p : Nat) (res : List (Nat × KlResult)) :
    (s.advance n).spreadBad p res = s.spreadBad p res := by
  unfold State.spreadBad State.candidates State.flag
  rw [s.schedEntries_advance n, s.fd_advance n F.KL_MODE_SW_ACTIVE 0 0 (by decide) (by decide),
    s.fd_advance n F.KL_TIME_CTL_CAP 0 0 (by decide) (by decide)]

@[simp] theorem State.setCs_kl (s : State) (st : Nat) : (s.setCs st).kl = s.kl := by rw [State.setCs_frame]
@[simp] theorem State.setCs_time (s : State) (st : Nat) : (s.setCs st).time = s.time := by rw [State.setCs_frame]

/-- The RESULT frames of a network go out, and its nodes have their results (R148). -/
def State.sendResults (s : State) (p : Nat) (res : List (Nat × KlResult)) : State :=
  let s := s.forEach res (fun e s => s.setNode e.1 { s.node e.1 with result := some e.2 })
  if s.isStandby then s else s.forEach (resultBodies 64 res) (fun b s => s.sendDelay p 0x5 b)

theorem State.unsent_sendResults (s : State) (p : Nat) (res : List (Nat × KlResult)) :
    (s.sendResults p res).unsent = s.unsent := by
  have hn := forEach_keeps State.unsent s res (fun e s => s.setNode e.1 { s.node e.1 with result := some e.2 })
    fun e t => t.unsent_setNode _ _
  unfold State.sendResults
  dsimp only
  split
  · exact hn
  · exact (forEach_keeps State.unsent _ _ _ fun b t => t.unsent_sendDelayAt _ _ _ _).trans hn

/-- Port `p` has left MEASURE. -/
def State.measuredAt (s : State) (p : Nat) : State :=
  { s with kl := { s.kl with measure := s.kl.measure.filter (fun e => e.1 ≠ p), measured := p :: s.kl.measured } }

/-- The cold start listens from now on (R153). -/
def State.listenFrom (s : State) : State :=
  (s.setCold { s.kl.cold with since := s.time.ticks, attempt := 0, spoiled := false, syncs := 0 }).setCs 2

theorem State.measureDone_eq {s : State} {p : Nat} (h : s.coldNet p = true → s.spreadBad p (s.resultsAt p) = false) :
    s.measureDone p = if s.coldNet p then ((s.measuredAt p).sendResults p (s.resultsAt p)).listenFrom
      else (s.measuredAt p).sendResults p (s.resultsAt p) := by
  have hcold : ((s.measuredAt p).sendResults p (s.resultsAt p)).coldNet p = s.coldNet p := by
    have hu := (s.measuredAt p).unsent_sendResults p (s.resultsAt p)
    have hregs := congrArg (·.regs) hu
    exact State.coldNet_congr (congrArg (·.ch) hu) (State.rg_of_regs hregs _ _ _) (State.rg_of_regs hregs _ _ _)
  have hspread : ¬ (s.coldNet p = true ∧ s.spreadBad p (s.resultsAt p) = true) := fun ⟨h1, h2⟩ => by
    rw [h h1] at h2
    cases h2
  rw [← hcold]
  exact if_neg hspread

/-- What the end of MEASURE sets, unless the spread of the candidates is too large (R148, R153). -/
theorem State.measureDone_spec {s : State} {p : Nat} (h : s.coldNet p = true → s.spreadBad p (s.resultsAt p) = false) :
    p ∈ (s.measureDone p).kl.measured ∧ (∀ y ∈ (s.measureDone p).kl.measure, y.1 ≠ p) ∧
    (s.measureDone p).time = s.time ∧
    (s.coldNet p = true → (s.measureDone p).csState = 2 ∧ (s.measureDone p).kl.cold.since = s.time.ticks) := by
  have hu := (s.measuredAt p).unsent_sendResults p (s.resultsAt p)
  rw [State.measureDone_eq h]
  generalize (s.measuredAt p).sendResults p (s.resultsAt p) = w at hu
  have htime : w.time = s.time := congrArg (·.time) hu
  have hmeas : w.kl.measured = p :: s.kl.measured := congrArg (·.kl.measured) hu
  have hrun : w.kl.measure = s.kl.measure.filter (fun e => e.1 ≠ p) := congrArg (·.kl.measure) hu
  have hin : p ∈ w.kl.measured := by
    rw [hmeas]
    exact List.mem_cons_self
  have hout : ∀ y ∈ w.kl.measure, y.1 ≠ p := fun y hy => by
    rw [hrun] at hy
    exact of_decide_eq_true (List.mem_filter.mp hy).2
  have hl : w.listenFrom.kl = { w.kl with cold := { w.kl.cold with
      since := w.time.ticks, attempt := 0, spoiled := false, syncs := 0 } } := State.setCs_kl _ _
  split
  next hc =>
    rw [hl]
    exact ⟨hin, hout, (State.setCs_time _ _).trans htime, fun _ => ⟨State.csState_setCs _ (by decide), by rw [htime]⟩⟩
  next hc => exact ⟨hin, hout, htime, fun h => absurd h hc⟩

/-- MEASURE_END: 200 µs after the last REPORT or 1 ms after START (R148). -/
theorem exec_measureEnd_spec {s : State} {p : Nat} {x : Nat × Nat × Option Nat}
    (hx : s.kl.measure.find? (fun e => e.1 = p) = some x)
    (hspread : s.coldNet p = true → s.spreadBad p (s.resultsAt p) = false) :
    ∃ t, exec (.measureEnd p) s = .next t ∧ p ∈ t.kl.measured ∧ (∀ y ∈ t.kl.measure, y.1 ≠ p) ∧
      t.time.ticks = max s.time.ticks (measureEndAt x.2.1 x.2.2) ∧
      (s.coldNet p = true → t.csState = 2 ∧ t.kl.cold.since = t.time.ticks) := by
  have he : exec (.measureEnd p) s = .next ((s.advanceToTick (measureEndAt x.2.1 x.2.2)).measureDone p) := by
    show execMeasureEnd p s = _
    unfold execMeasureEnd
    rw [hx]
  have hcold : (s.advanceToTick (measureEndAt x.2.1 x.2.2)).coldNet p = s.coldNet p := s.coldNet_advance _ p
  have hticks := s.ticks_advanceToTick (measureEndAt x.2.1 x.2.2)
  obtain ⟨hin, hout, htime, hlisten⟩ := State.measureDone_spec (s := s.advanceToTick (measureEndAt x.2.1 x.2.2)) (p := p) (by
    rw [hcold, State.advanceToTick, s.resultsAt_advance, s.spreadBad_advance]
    exact hspread)
  rw [hcold] at hlisten
  refine ⟨_, he, hin, hout, ?_, ?_⟩
  · rw [htime, hticks]
  · rw [htime]
    exact hlisten

/-! ### Listening and attempts (R153) -/

/-- The listen time, two super-cycles of 16 base cycles each, in TIME ticks of 2 ns (R153). -/
theorem State.listenTicks_eq (s : State) : s.listenTicks = 16 * s.lenNs := by
  unfold State.listenTicks
  omega

/-- LISTEN_ELAPSED of a module that may be the reference. -/
theorem exec_listenElapsed_spec {s : State} (hcs : s.csState = 2) (hcap : s.flag F.KL_TIME_CTL_CAP = true) :
    ∃ t, exec .listenElapsed s = .next t ∧ t.csState = 3 ∧
      t.time.ticks = max s.time.ticks (s.kl.cold.since + 16 * s.lenNs) ∧
      t.kl.cold = { s.kl.cold with since := t.time.ticks } := by
  have he : exec .listenElapsed s = .next
      (((s.advanceToTick (s.kl.cold.since + s.listenTicks)).setCold
        { (s.advanceToTick (s.kl.cold.since + s.listenTicks)).kl.cold with
          since := (s.advanceToTick (s.kl.cold.since + s.listenTicks)).time.ticks }).setCs 3) := if_pos ⟨hcs, hcap⟩
  have hticks := s.ticks_advanceToTick (s.kl.cold.since + s.listenTicks)
  have hcold : (s.advanceToTick (s.kl.cold.since + s.listenTicks)).kl.cold = s.kl.cold := s.cold_advance _
  generalize s.advanceToTick (s.kl.cold.since + s.listenTicks) = u at he hticks hcold
  refine ⟨_, he, State.csState_setCs _ (by decide), ?_, ?_⟩
  · rw [State.setCs_time, ← s.listenTicks_eq]
    exact hticks
  · rw [State.setCs_time, State.setCs_kl, ← hcold]
    rfl

/-- An attempt: the module's cold-start frame goes out (R151, R153). -/
theorem State.attempt_spec (s : State) : s.attempt.csState = 4 ∧ s.attempt.time = s.time ∧
    s.attempt.kl.cold = { s.kl.cold with attempt := s.kl.cold.attempt + 1, stamp := s.time.ticks, spoiled := false } ∧
    s.attempt.kl.out.length = s.kl.out.length + 1 := by
  unfold State.attempt
  refine ⟨State.csState_setCs _ (by decide), State.setCs_time _ _, ?_, ?_⟩
  · rw [State.setCs_kl]
    rfl
  · rw [State.setCs_kl]
    exact List.length_append

/-- An attempt made when a tick is reached. -/
theorem State.attempt_advanceToTick (s : State) (k : Nat) : (s.advanceToTick k).attempt.csState = 4 ∧
    (s.advanceToTick k).attempt.time.ticks = max s.time.ticks k ∧
    (s.advanceToTick k).attempt.kl.cold = { s.kl.cold with
      attempt := s.kl.cold.attempt + 1, stamp := (s.advanceToTick k).attempt.time.ticks, spoiled := false } ∧
    (s.advanceToTick k).attempt.kl.out.length = s.kl.out.length + 1 := by
  have hcold : (s.advanceToTick k).kl.cold = s.kl.cold := s.cold_advance _
  have hout : (s.advanceToTick k).kl.out = s.kl.out := s.out_advance _
  obtain ⟨h1, h2, h3, h4⟩ := (s.advanceToTick k).attempt_spec
  rw [hcold] at h3
  rw [hout] at h4
  rw [h2]
  exact ⟨h1, s.ticks_advanceToTick k, h3, h4⟩

/-- Setting the reference leaves every field but REF_NODE. -/
theorem State.fd_setRef_apart (s : State) (r : Option Nat) (k : Nat) {g : Field} {i j : Nat}
    (h : F.KL_TIME_STAT_REF_NODE.apart 0 0 g i j = true) : (s.setRef r k).fd g i j = s.fd g i j := by
  unfold State.setRef
  dsimp only
  generalize r.any _ = seen
  exact (State.fd_setFd_apart (by decide) h).trans (State.fd_of_regs rfl g i j)

/-- ATTEMPT_WINDOW_END: no other frame was heard, and the module is the reference (R153, R154). -/
theorem exec_attemptWindowEnd_spec {s : State} (hcs : s.csState = 4) : ∃ t, exec .attemptWindowEnd s = .next t ∧
    t.csState = 10 ∧ t.fd F.TIM_CT_STAT_SRC = 2 ∧ t.kl.ref = some (0x800 + s.ch.strap % 4) ∧
    t.time.ctInc = 2 * 2 ^ 32 ∧ t.time.ticks = max s.time.ticks (s.kl.cold.stamp + 25000) := by
  have hticks := s.ticks_advanceToTick (s.kl.cold.stamp + windowTicks)
  have hch : (s.advanceToTick (s.kl.cold.stamp + windowTicks)).ch = s.ch := s.ch_advance _
  have he : exec .attemptWindowEnd s = .next (((((s.advanceToTick (s.kl.cold.stamp + windowTicks)).setRef
      (some (s.advanceToTick (s.kl.cold.stamp + windowTicks)).selfId)
      ((s.advanceToTick (s.kl.cold.stamp + windowTicks)).fd F.KL_TIME_CTL_RANK)).nominalInc).setFd
      F.TIM_CT_STAT_SRC 0 0 2).setCs 10) := if_pos hcs
  generalize s.advanceToTick (s.kl.cold.stamp + windowTicks) = u at he hticks hch
  obtain ⟨R, seen, href⟩ := u.setRef_frame (some u.selfId) (u.fd F.KL_TIME_CTL_RANK)
  rw [href] at he
  refine ⟨_, he, State.csState_setCs _ (by decide), ?_, ?_, ?_, ?_⟩
  · rw [State.fd_setCs_apart (by decide) (by decide)]
    exact State.fd_setFd_of_lt (by decide) (by decide)
  · rw [State.setCs_kl, ← hch]
    rfl
  · rw [State.setCs_time]
    rfl
  · rw [State.setCs_time]
    exact hticks

/-! ### Cold-start frames of others (R152, R153) -/

/-- A sound frame heard in LISTEN, RANK_WAIT or BACKOFF is deferred to (R153). -/
theorem State.coldHear_defers {s : State} (h : s.csState = 2 ∨ s.csState = 3 ∨ s.csState = 5) (node ct : Nat) :
    s.coldHear false node ct = (s.setCold { s.kl.cold with
      stamp := s.time.ticks, spoiled := false, frm := node, frmCt := ct, ownCt := s.time.ct }).setCs 6 := by
  unfold State.coldHear
  rcases h with h | h | h <;> rw [h] <;> rfl

/-- COLD_START_FRAME_RECEIVE of a sound frame with the module's own base-cycle length. -/
theorem exec_coldStartFrameReceive_defers {s : State} {p dt : Nat} {bs : List Byte} (hon : s.portOn p = true)
    (hcold : s.coldNet p = true) (hcs : s.csState = 2 ∨ s.csState = 3 ∨ s.csState = 5)
    (hrej : (s.advance dt).klReject p 6 true bs = none) (hbase : klField bs 15 1 % 4 = s.time.base) :
    ∃ t, exec (.coldStartFrameReceive p dt true bs) s = .next t ∧ t.csState = 6 ∧ t.kl.cold.frm = klField bs 2 2 ∧
      t.kl.cold.frmCt = klField bs 16 8 * 2 ^ 32 + klField bs 24 4 ∧ t.kl.cold.stamp = s.time.ticks + dt := by
  have he : exec (.coldStartFrameReceive p dt true bs) s =
      .next ((s.advance dt).coldHear false (klField bs 2 2) (klField bs 16 8 * 2 ^ 32 + klField bs 24 4)) := by
    show execColdStartFrameReceive p dt true bs s = _
    unfold execColdStartFrameReceive
    rw [hon, if_neg (not_not_intro rfl)]
    dsimp only
    rw [hrej]
    dsimp only
    rw [s.coldNet_advance, if_pos hcold, (s.base_advance dt).2, hbase, decide_eq_false (not_not_intro rfl)]
  refine ⟨_, he, ?_⟩
  rw [State.coldHear_defers (by rw [s.csState_advance]; exact hcs)]
  refine ⟨State.csState_setCs _ (by decide), ?_⟩
  rw [State.setCs_kl]
  exact ⟨rfl, rfl, s.ticks_advance dt⟩

/-- A corrupted frame heard in RANK_WAIT takes the module back to LISTEN (R153). -/
theorem State.coldHear_bad_rankWait {s : State} (h : s.csState = 3) (node ct : Nat) :
    s.coldHear true node ct = (s.setCold { s.kl.cold with since := s.time.ticks }).setCs 2 := by
  unfold State.coldHear
  rw [h]
  rfl

/-- A corrupted frame heard in LISTEN starts the listening again (R153). -/
theorem State.coldHear_bad_listen {s : State} (h : s.csState = 2) (node ct : Nat) :
    s.coldHear true node ct = s.setCold { s.kl.cold with since := s.time.ticks } := by
  unfold State.coldHear
  rw [h]
  rfl

/-- A corrupted frame heard in LISTEN or RANK_WAIT makes the module listen afresh (R153). -/
theorem State.coldHear_bad_spec {s : State} (h : s.csState = 2 ∨ s.csState = 3) (node ct : Nat) :
    (s.coldHear true node ct).csState = 2 ∧
    (s.coldHear true node ct).kl.cold = { s.kl.cold with since := s.time.ticks } ∧
    ∀ r i j, 0x400108 < r.addr i j → (s.coldHear true node ct).rg r i j = s.rg r i j := by
  rcases h with h | h
  · rw [State.coldHear_bad_listen h]
    exact ⟨h, rfl, fun _ _ _ _ => rfl⟩
  · rw [State.coldHear_bad_rankWait h]
    refine ⟨State.csState_setCs _ (by decide), congrArg KlState.cold (State.setCs_kl _ _), fun r i j ha => ?_⟩
    have h1 : r.addr i j ≠ Reg.addr .KL_TIME_ERR 0 0 := fun hc => absurd ha (by rw [hc]; decide)
    have h2 : r.addr i j ≠ F.KL_TIME_STAT_CS_STATE.reg.addr 0 0 := fun hc => absurd ha (by rw [hc]; decide)
    exact (State.rg_setRg_other _ _ _ _ _ _ _ _ h1).trans (State.rg_setRg_other _ _ _ _ _ _ _ _ h2)

/-- Counting leaves every register but the counter. -/
theorem State.rg_klCount_other (s : State) {p k : Nat} {r : Reg} {i j : Nat}
    (h : r.addr i j ≠ Reg.addr .KL_PORTn_CNTk p k) : (s.klCount p k).rg r i j = s.rg r i j :=
  State.rg_setRg_other s .KL_PORTn_CNTk r p k i j _ h

theorem State.rg_klCount (s : State) (p k : Nat) :
    (s.klCount p k).rg .KL_PORTn_CNTk p k = satInc 32 (s.rg .KL_PORTn_CNTk p k) := by
  have hlt := s.rg_lt .KL_PORTn_CNTk p k
  refine (State.rg_setRg s .KL_PORTn_CNTk p k _).trans (Nat.mod_eq_of_lt ?_)
  unfold satInc
  split <;> omega

/-- A frame with a bad FCS on the network of the cold start is counted, and heard as corrupted (R94, R152). -/
theorem State.klDiscard_bad {s : State} {p : Nat} (h : s.coldNet p = true) :
    s.klDiscard p 3 = (s.klCount p 3).coldHear true 0 0 := by
  have hcold : (s.klCount p 3).coldNet p = s.coldNet p := by
    refine State.coldNet_congr rfl (s.rg_klCount_other ?_) (s.rg_klCount_other ?_)
    · show 0x410000 + 0x1000 * (p - 1) + 0 * 0 ≠ 0x410010 + 0x1000 * p + 4 * 3
      omega
    · show 0x400100 + 0 * 0 + 0 * 0 ≠ 0x410010 + 0x1000 * p + 4 * 3
      omega
  exact if_pos ⟨rfl, hcold.trans h⟩

/-- COLD_START_FRAME_RECEIVE of a frame with a bad FCS, in LISTEN or RANK_WAIT. -/
theorem exec_coldStartFrameReceive_bad {s : State} {p : Nat} (dt : Nat) (bs : List Byte) (hon : s.portOn p = true)
    (hcold : s.coldNet p = true) (hcs : s.csState = 2 ∨ s.csState = 3) :
    ∃ t, exec (.coldStartFrameReceive p dt false bs) s = .next t ∧ t.csState = 2 ∧
      t.kl.cold = { s.kl.cold with since := s.time.ticks + dt } ∧
      t.rg .KL_PORTn_CNTk p 3 = satInc 32 (s.rg .KL_PORTn_CNTk p 3) := by
  have he : exec (.coldStartFrameReceive p dt false bs) s = .next ((s.advance dt).klDiscard p 3) := by
    show execColdStartFrameReceive p dt false bs s = _
    unfold execColdStartFrameReceive
    rw [hon, if_neg (not_not_intro rfl)]
    rfl
  have hcs' : ((s.advance dt).klCount p 3).csState = s.csState := by
    refine Eq.trans ?_ (s.csState_advance dt)
    unfold State.csState State.fd
    rw [State.rg_klCount_other]
    show 0x400104 + 0 * 0 + 0 * 0 ≠ 0x410010 + 0x1000 * p + 4 * 3
    omega
  obtain ⟨h1, h2, h3⟩ := State.coldHear_bad_spec (s := (s.advance dt).klCount p 3) (by rw [hcs']; exact hcs) 0 0
  refine ⟨_, he, ?_⟩
  rw [State.klDiscard_bad ((s.coldNet_advance dt p).trans hcold)]
  refine ⟨h1, ?_, ?_⟩
  · rw [h2, ← s.ticks_advance dt, ← s.cold_advance dt]
    rfl
  · rw [h3, State.rg_klCount, s.rg_advance_above dt (by decide)]
    show 0x400108 < 0x410010 + 0x1000 * p + 4 * 3
    omega

/-- DEFER_WINDOW_END after a second or a corrupted frame (R153). -/
theorem exec_deferWindowEnd_spoiled {s : State} (hcs : s.csState = 6) (h : s.kl.cold.spoiled = true) :
    ∃ t, exec .deferWindowEnd s = .next t ∧ t.csState = 2 :=
  ⟨_, (if_pos hcs).trans (if_pos h), State.csState_setCs _ (by decide)⟩

/-- DEFER_WINDOW_END of a window in which no other frame was heard: the module is integrated (R153, R155). -/
theorem exec_deferWindowEnd_integrates {s : State} (hcs : s.csState = 6) (h : s.kl.cold.spoiled = false) :
    ∃ t, exec .deferWindowEnd s = .next t ∧ t.csState = 9 ∧ t.fd F.TIM_CT_STAT_SRC = 1 ∧ t.kl.ref = some s.kl.cold.frm ∧
      t.time.noBase = true := by
  obtain ⟨w, x, k, he⟩ : ∃ (w : State) (x k : Nat), exec .deferWindowEnd s = .next
      ((((w.loadTime x).setFd F.TIM_CT_STAT_SRC 0 0 1).setRef (some s.kl.cold.frm) k).setCs 9) := by
    show ∃ (w : State) (x k : Nat), execDeferWindowEnd s = _
    unfold execDeferWindowEnd
    rw [if_pos hcs]
    dsimp only
    rw [if_neg (by rw [h]; decide)]
    exact ⟨_, _, _, rfl⟩
  obtain ⟨T, K, -, hno, -, hload⟩ := w.loadTime_eq x
  rw [hload] at he
  refine ⟨_, he, State.csState_setCs _ (by decide), ?_, ?_, ?_⟩
  · rw [State.fd_setCs_apart (by decide) (by decide)]
    exact (State.fd_setRef_apart _ _ _ (by decide)).trans (State.fd_setFd_of_lt (by decide) (by decide))
  · rw [State.setCs_kl]
    rfl
  · rw [State.setCs_time]
    exact hno

/-! ### KL_TIME_CTL (R173) -/

/-- A write of KL_TIME_CTL that is let through and passes its checks is a plain write. -/
theorem exec_klTimeCtlWrite_plain {s : State} {q : Requester} {v : Word} (hg : s.grants q .KL_TIME_CTL = true)
    (hport : s.anyPort = false) (hlimit : bits v.toNat 15 8 ≠ 0) (hnet : s.netOf (bits v.toNat 2 0) = bits v.toNat 2 0) :
    exec (.klTimeCtlWrite q v) s = .next (s.plainWrite .KL_TIME_CTL 0 0 v.toNat) := by
  have he : exec (.klTimeCtlWrite q v) s = .next (writeTimeCtl q v s) := State.write_of_grants _ hg
  rw [he]
  unfold writeTimeCtl
  dsimp only
  rw [if_neg (by rw [hport]; decide), if_neg (show ¬ F.KL_TIME_CTL_TR_LIMIT.of v.toNat = 0 from hlimit),
    if_neg (show ¬ s.netOf (F.KL_TIME_CTL_REF_PORT.of v.toNat) ≠ F.KL_TIME_CTL_REF_PORT.of v.toNat from not_not_intro hnet)]

/-! ### The obligation -/

/-- Settles O26, by a lemma per frame received and per state that a time ends. -/
theorem coldStartAndMeasurement : Obligations.ColdStartAndMeasurement := by
  unfold Obligations.ColdStartAndMeasurement
  intro s q v p dt bs c u
  refine ⟨fun hon hstby hrej hsub hlen => ?_, fun hon hrej hsub hlen => ?_, fun e hon hnet hreq hrej hsub hlen => ?_,
    fun x hx hspread => exec_measureEnd_spec hx hspread, exec_listenElapsed_spec, fun hcs => ?_, fun hcs => ?_,
    exec_attemptWindowEnd_spec, fun hon hnet hpos => ?_,
    fun hcs => ⟨exec_deferWindowEnd_spoiled hcs, exec_deferWindowEnd_integrates hcs⟩, fun hg hport hlimit hnet => ?_⟩
  · have hout := s.out_advance dt
    have hcount : u.kl.count = s.kl.count := by rw [s.kl_advance dt]
    refine ⟨_, exec_preqReceive_answers hon hstby hrej hsub hlen, ?_, fun x hx => ?_,
      congrArg (fun k => (k + 1) % 256) hcount, rfl⟩
    · rw [hout]
      exact List.length_append
    · rw [hout, List.drop_left, List.mem_singleton] at hx
      subst hx
      exact ⟨rfl, (u.presp_fields p).1, u.le_answerAt p, (u.presp_fields p).2⟩
  · exact ⟨_, exec_reportReceive_taken hon hrej hsub hlen, u.takeReport_reportsOf (s.netOf p) _⟩
  · intro tx rx rtt
    have hu := s.netOf_advance dt p
    have hfind : u.kl.preq.find? (fun e => e.1 = u.netOf p) = some e := by rw [hu, s.kl_advance dt]; exact hreq
    obtain ⟨hlink, hclosed⟩ := State.takePresp_spec (turn := klField bs 16 4) (by rw [hu]; exact hnet) hfind
    rw [hu] at hlink hclosed
    exact ⟨_, exec_preqReceive_presp hon hrej hsub hlen, hlink.trans (s.closingLink_advance dt (State.netOf_succ hnet) _ _ _),
      hclosed⟩
  · obtain ⟨h1, h2, h3, h4⟩ := s.attempt_advanceToTick (c.since + s.rankTicks)
    exact ⟨_, if_pos hcs, h1, h2, h3, h4⟩
  · obtain ⟨h1, h2, h3, h4⟩ := s.attempt_advanceToTick (c.stamp + windowTicks + s.listenTicks + s.rankTicks)
    exact ⟨_, if_pos hcs, h1, congrArg KlCold.attempt h3, h4, s.listenTicks_eq ▸ h2⟩
  · have hcold : s.coldNet p = true := decide_eq_true ⟨hpos, hnet⟩
    exact ⟨exec_coldStartFrameReceive_defers hon hcold, exec_coldStartFrameReceive_bad dt bs hon hcold⟩
  · have hrw : ∀ f : Field, f.reg = .KL_TIME_CTL → f.ok = true →
        (∀ k, k < 32 → f.lo ≤ k → k ≤ f.hi → Reg.KL_TIME_CTL.row.rw.testBit k = true) →
        (s.plainWrite .KL_TIME_CTL 0 0 v.toNat).fd f = f.of v.toNat := fun f hr hok h => by
      rw [← hr] at h ⊢
      exact State.fd_plainWrite_rw hok h
    exact ⟨_, exec_klTimeCtlWrite_plain hg hport hlimit hnet, hrw F.KL_TIME_CTL_TR_LIMIT rfl (by decide) (by decide),
      hrw F.KL_TIME_CTL_RANK rfl (by decide) (by decide), hrw F.KL_TIME_CTL_CAP rfl (by decide) (by decide),
      hrw F.KL_TIME_CTL_REF_PORT rfl (by decide) (by decide), rfl⟩

end Sys2Proof.Machine

/-!
## Issuing of the cores' instructions

What the issue forms of the model come to on a core that is ready: a class-A instruction leads, a class-B instruction ends
its bundle, and a malformed or failing one enters the handler.
-/

namespace Sys2Proof.Machine

/-! ### What a write of a register leaves alone -/

/-- A write of a general register changes no field of the core but those registers (R176). -/
theorem Core.setG_eq (c : Core) (k : Nat) (v : Word) : c.setG k v = { c with g := (c.setG k v).g } := by
  obtain ⟨h, -, -⟩ := Core.wroteG_setG c k v
  exact h

@[simp] theorem Core.setG_haltReq (c : Core) (k : Nat) (v : Word) : (c.setG k v).haltReq = c.haltReq := by
  rw [c.setG_eq k v]
@[simp] theorem Core.setG_pair (c : Core) (k : Nat) (v : Word) : (c.setG k v).pair = c.pair := by
  rw [c.setG_eq k v]
@[simp] theorem Core.setG_pc (c : Core) (k : Nat) (v : Word) : (c.setG k v).pc = c.pc := by
  rw [c.setG_eq k v]

@[simp] theorem Core.setP_haltReq (c : Core) (k : Nat) (b : Bool) : (c.setP k b).haltReq = c.haltReq := by
  unfold Core.setP; split <;> rfl

@[simp] theorem Core.setF_haltReq (c : Core) (f : Bool) (k : Nat) (v : Word) : (c.setF f k v).haltReq = c.haltReq := by
  cases f
  · exact c.setG_haltReq k v
  · rfl
@[simp] theorem Core.setF_pair (c : Core) (f : Bool) (k : Nat) (v : Word) : (c.setF f k v).pair = c.pair := by
  cases f
  · exact c.setG_pair k v
  · rfl
@[simp] theorem Core.setF_pc (c : Core) (f : Bool) (k : Nat) (v : Word) : (c.setF f k v).pc = c.pc := by
  cases f
  · exact c.setG_pc k v
  · rfl

/-- A result that did not fit in 32 bits changes FLAGS.SAT and its count alone (R191). -/
theorem Core.clipped_eq (c : Core) (i : Int) :
    c.clipped i = { c with sat := (c.clipped i).sat, satCnt := (c.clipped i).satCnt } := by
  unfold Core.clipped
  split <;> rfl

@[simp] theorem Core.clipped_haltReq (c : Core) (i : Int) : (c.clipped i).haltReq = c.haltReq := by
  rw [c.clipped_eq i]
@[simp] theorem Core.clipped_pair (c : Core) (i : Int) : (c.clipped i).pair = c.pair := by
  rw [c.clipped_eq i]
@[simp] theorem Core.clipped_pc (c : Core) (i : Int) : (c.clipped i).pc = c.pc := by
  rw [c.clipped_eq i]

/-- A write of an accumulator changes the accumulators, and AOVF and its count, alone (R197, R199). -/
theorem Core.setAc_eq (c : Core) (k : Nat) (v : Int) : c.setAc k v =
    { c with acc := (c.setAc k v).acc, aovf := (c.setAc k v).aovf, aovfCnt := (c.setAc k v).aovfCnt } := by
  unfold Core.setAc
  dsimp only
  split <;> rfl

@[simp] theorem Core.setAc_haltReq (c : Core) (k : Nat) (v : Int) : (c.setAc k v).haltReq = c.haltReq := by
  rw [c.setAc_eq k v]
@[simp] theorem Core.setAc_pair (c : Core) (k : Nat) (v : Int) : (c.setAc k v).pair = c.pair := by
  rw [c.setAc_eq k v]
@[simp] theorem Core.setAc_pc (c : Core) (k : Nat) (v : Int) : (c.setAc k v).pc = c.pc := by
  rw [c.setAc_eq k v]

theorem Core.dropPair_of_some {c : Core} {p : Pair} (h : c.pair = some p) :
    c.dropPair = { c with rrb := p.rrb, pair := none } := by
  unfold Core.dropPair
  rw [h]

theorem Core.dropPair_of_none {c : Core} (h : c.pair = none) : c.dropPair = c := by
  unfold Core.dropPair
  rw [h]

/-- An open bundle that is left out changes the rotation base and the bundle alone (R184). -/
theorem Core.dropPair_eq (c : Core) : c.dropPair = { c with rrb := c.dropPair.rrb, pair := none } := by
  cases h : c.pair with
  | some p => rw [Core.dropPair_of_some h]
  | none => rw [Core.dropPair_of_none h, ← h]

@[simp] theorem Core.dropPair_handler (c : Core) : c.dropPair.handler = c.handler := by
  rw [c.dropPair_eq]

/-! ### Ready cores -/

/-- A ready core may fetch, and stands at a bundle boundary (R183, R211). -/
theorem State.ready_spec {s : State} {n : Nat} (h : s.ready n = true) : s.fetches n = true ∧ (s.core n).pair = none := by
  unfold State.ready at h
  simp only [Bool.and_eq_true, Option.isNone_iff_eq_none] at h
  obtain ⟨⟨⟨hf, hp⟩, -⟩, -⟩ := h
  exact ⟨hf, hp⟩

theorem State.ready_fetches {s : State} {n : Nat} (h : s.ready n = true) : s.fetches n = true := by
  obtain ⟨hf, -⟩ := State.ready_spec h
  exact hf

theorem State.ready_pair {s : State} {n : Nat} (h : s.ready n = true) : (s.core n).pair = none := by
  obtain ⟨-, hp⟩ := State.ready_spec h
  exact hp

theorem State.ready_haltReq {s : State} {n : Nat} (h : s.ready n = true) : (s.core n).haltReq = false :=
  State.fetches_haltReq (State.ready_fetches h)

theorem State.readyB_haltReq {s : State} {n : Nat} (h : s.readyB n = true) : (s.core n).haltReq = false :=
  State.fetches_haltReq (State.readyB_fetches h)

/-! ### Going past an instruction -/

/-- The core after a class-A instruction is the one that R179 and R183 describe. -/
theorem State.led_lead (s : State) (n : Nat) (wr : List RegName) (d : Core) (jump : Option Word) :
    s.led (s.lead n wr (s.core n) d jump) n wr jump d := by
  unfold State.led State.lead
  dsimp only
  by_cases hp : s.pairs n (s.core n).pc wr = true
  · rw [if_pos hp, if_pos hp]
    exact s.onlyCore_setCore n _
  · rw [if_neg hp, if_neg hp]
    exact s.onlyCore_setCore n _

/-- A class-A instruction is one write of its core, which is `d` but for PC, the rotation base and the bundle. -/
theorem State.lead_eq (s : State) (n : Nat) (wr : List RegName) (c d : Core) (jump : Option Word) :
    ∃ pc rrb pair, s.lead n wr c d jump = s.setCore n { d with pc := pc, rrb := rrb, pair := pair } := by
  by_cases hp : s.pairs n c.pc wr = true
  · exact ⟨_, _, _, if_pos hp⟩
  · exact ⟨_, _, _, if_neg hp⟩

theorem State.lead_haltReq (s : State) (n : Nat) (wr : List RegName) (c d : Core) (jump : Option Word) :
    ((s.lead n wr c d jump).core n).haltReq = d.haltReq := by
  obtain ⟨pc, rrb, pair, h⟩ := s.lead_eq n wr c d jump
  rw [h, State.core_setCore]

/-- A ready core whose instruction comes to a state in which no STEP is under way is in that state. -/
theorem State.issue_done {s t : State} {n : Nat} {act : Core → State → Issue} (hr : s.ready n = true)
    (ha : act (s.core n) s = .done t) (ht : (t.core n).haltReq = false) : s.issue n act = .next t := by
  rw [State.issue_of_ready _ hr, ha]
  exact congrArg _ (t.afterStep_of_run n ht)

theorem State.issueB_done {s t : State} {n : Nat} {act : Core → State → Issue} (hr : s.readyB n = true)
    (ha : act (s.core n) s = .done t) (ht : (t.core n).haltReq = false) : s.issueB n act = .next t := by
  rw [State.issueB_of_ready _ hr, ha]
  exact congrArg _ (t.afterStep_of_run n ht)

/-- A class-A instruction that is done as `lead` says. -/
theorem State.issue_lead {s : State} {n : Nat} {act : Core → State → Issue} {wr : List RegName} {d : Core}
    {jump : Option Word} (hr : s.ready n = true) (ha : act (s.core n) s = .done (s.lead n wr (s.core n) d jump))
    (hd : d.haltReq = false) : ∃ t, s.issue n act = .next t ∧ s.led t n wr jump d :=
  ⟨_, State.issue_done hr ha (by rw [State.lead_haltReq, hd]), s.led_lead n wr d jump⟩

/-- An instruction that issues alone and makes `d.next` of the core. -/
theorem State.issue_next {s : State} {n : Nat} {act : Core → State → Issue} {d : Core} (hr : s.ready n = true)
    (ha : act (s.core n) s = .done (s.setCore n d.next)) (hd : d.haltReq = false) (hpc : d.pc = (s.core n).pc) :
    ∃ t, s.issue n act = .next t ∧ s.retired t n d := by
  refine ⟨_, State.issue_done hr ha (by rw [State.core_setCore]; exact hd), ?_⟩
  unfold State.retired
  rw [← hpc]
  exact s.onlyCore_setCore n _

/-- A class-B instruction that makes `d.retire` of the core. -/
theorem State.issueB_retire {s : State} {n : Nat} {act : Core → State → Issue} {d : Core} (hr : s.readyB n = true)
    (ha : act (s.core n) s = .done (s.setCore n d.retire)) (hd : d.haltReq = (s.core n).haltReq)
    (hp : d.pair = (s.core n).pair) (hpc : d.pc = (s.core n).pc) :
    ∃ t, s.issueB n act = .next t ∧ s.ended t n d := by
  refine ⟨_, State.issueB_done hr ha ?_, ?_⟩
  · rw [State.core_setCore, Core.retire_haltReq, hd, State.readyB_haltReq hr]
  · unfold State.ended
    rw [← Core.retire_eq_past hp hpc]
    exact s.onlyCore_setCore n _

/-- A well-formed class-A instruction that acts on the core alone. -/
theorem State.issueA_led {s : State} {n : Nat} {wr : List RegName} {bad : Bool} {f : Core → Core} (hr : s.ready n = true)
    (hb : bad = false) (hf : (f (s.core n)).haltReq = (s.core n).haltReq) :
    ∃ t, s.issueA n wr bad f = .next t ∧ s.led t n wr none (f (s.core n)) :=
  State.issue_lead hr (by subst hb; rfl) (hf.trans (State.ready_haltReq hr))

/-- The same under a predicate that is 1 (R190). -/
theorem State.issueIf_led {s : State} {n pg : Nat} {wr : List RegName} {bad : Bool} {f : Core → Core}
    (hr : s.ready n = true) (hp : (s.core n).pr pg = true) (hb : bad = false)
    (hf : (f (s.core n)).haltReq = (s.core n).haltReq) :
    ∃ t, s.issueIf n pg wr bad f = .next t ∧ s.led t n wr none (f (s.core n)) := by
  have hif : (if (s.core n).pr pg then f (s.core n) else s.core n) = f (s.core n) := if_pos hp
  obtain ⟨t, ht, hl⟩ := State.issueA_led (wr := wr) (f := fun c => if c.pr pg then f c else c) hr hb
    ((congrArg Core.haltReq hif).trans hf)
  exact ⟨t, ht, by rw [← hif]; exact hl⟩

/-- A well-formed class-B instruction that acts on the core alone: `d` is the core it makes, under its predicate (R190). -/
theorem State.issueMac_leaves {s : State} {n pg : Nat} {bad : Bool} {f : Core → Core} {d : Core} (hr : s.readyB n = true)
    (hb : bad = false) (hif : (if (s.core n).pr pg then f (s.core n) else s.core n) = d)
    (hd : d.haltReq = (s.core n).haltReq) (hpair : d.pair = (s.core n).pair) (hpc : d.pc = (s.core n).pc) :
    ∃ t, s.issueMac n pg bad f = .next t ∧ s.ended t n d := by
  subst hb
  exact State.issueB_retire hr (congrArg (fun c : Core => Issue.done (s.setCore n c.retire)) hif) hd hpair hpc

/-- An instruction that issues alone and acts on the core alone. -/
theorem State.issueAlone_retired {s : State} {n : Nat} {f : Core → Core} (hr : s.ready n = true)
    (hf : (f (s.core n)).haltReq = (s.core n).haltReq) (hpc : (f (s.core n)).pc = (s.core n).pc) :
    ∃ t, s.issueAlone n f = .next t ∧ s.retired t n (f (s.core n)) :=
  State.issue_next hr rfl (hf.trans (State.ready_haltReq hr)) hpc

/-! ### The same of the instruction that is executed -/

/-- A class-A instruction that is done as `lead` says. -/
theorem State.exec_leads {s : State} {n : Nat} {i : Instr} {act : Core → State → Issue} {wr : List RegName} {d : Core}
    {jump : Option Word} (hr : s.ready n = true) (he : exec i s = s.issue n act)
    (ha : act (s.core n) s = .done (s.lead n wr (s.core n) d jump)) (hd : d.haltReq = (s.core n).haltReq) :
    ∃ t, exec i s = .next t ∧ s.led t n wr jump d :=
  he ▸ State.issue_lead hr ha (hd.trans (State.ready_haltReq hr))

/-- An instruction that issues alone and makes `d.next` of the core. -/
theorem State.exec_passes {s : State} {n : Nat} {i : Instr} {act : Core → State → Issue} {d : Core} (hr : s.ready n = true)
    (he : exec i s = s.issue n act) (ha : act (s.core n) s = .done (s.setCore n d.next))
    (hd : d.haltReq = (s.core n).haltReq) (hpc : d.pc = (s.core n).pc) : s.passes i n d := by
  obtain ⟨t, ht, hl⟩ := State.issue_next hr ha (hd.trans (State.ready_haltReq hr)) hpc
  exact ⟨t, he.trans ht, hl⟩

/-- An instruction that issues alone and writes a general register. -/
theorem State.exec_gives {s : State} {n k : Nat} {i : Instr} {act : Core → State → Issue} {v : Word} (hr : s.ready n = true)
    (he : exec i s = s.issue n act) (ha : act (s.core n) s = .done (s.setCore n ((s.core n).setG k v).next)) :
    s.givesG i n (s.core n) k v := by
  obtain ⟨t, ht, hl⟩ := State.exec_passes hr he ha (Core.setG_haltReq _ _ _) (Core.setG_pc _ _ _)
  exact ⟨t, _, ht, Core.wroteG_setG _ _ _, hl⟩

/-! ### Exceptions in TASK mode (R212) -/

/-- The core with its clock running again, `k` island cycles not counted. -/
def Core.ungated (c : Core) (k : Nat) : Core := { c with gateAt := none, cycOff := k }

theorem Core.dropPair_ungated (c : Core) (k : Nat) : (c.ungated k).dropPair = c.dropPair.ungated k := by
  cases h : c.pair with
  | some p =>
    rw [Core.dropPair_of_some h, Core.dropPair_of_some (c := c.ungated k) h]
    rfl
  | none => rw [Core.dropPair_of_none h, Core.dropPair_of_none (c := c.ungated k) h]

/-- The clock of the core runs: nothing else of the state, and of the core only the gate and the cycles not counted. -/
theorem State.ungate_spec (s : State) (n : Nat) : s.ungate n = { s with cores := (s.ungate n).cores } ∧
    (∃ k, (s.ungate n).core n = (s.core n).ungated k ∧ ((s.core n).gateAt = none → k = (s.core n).cycOff)) ∧
    ∀ m, m ≠ n → (s.ungate n).core m = s.core m := by
  unfold State.ungate
  dsimp only
  split
  · next g hg =>
    exact ⟨rfl, ⟨_, State.core_setCore _ _ _, fun h => by rw [hg] at h; cases h⟩, fun m hm => State.core_setCore_other _ _ hm⟩
  · next hg => exact ⟨rfl, ⟨(s.core n).cycOff, by rw [Core.ungated, ← hg], fun _ => rfl⟩, fun m _ => rfl⟩

/-- The core as it enters the handler for `cause`, with `st` the STATUS before it and `a` the EADDR (R212). -/
def Core.enters (c : Core) (cause : Cause) (st a : Word) : Core :=
  { c with run := .run, handler := true, epc := c.pc, ecause := BitVec.ofNat 32 cause.code, eaddr := a,
           estatus := st, pc := c.vbar + BitVec.ofNat 32 (cause.code * 0x40), twait := none,
           budgetDue := if cause = .budget then false else c.budgetDue, excCnt := satInc 8 c.excCnt,
           lastCause := cause.code }

/-- In TASK mode an exception takes the core to its handler; an EADDR left open is a free value (R212). -/
theorem State.exception_eq {s : State} {n : Nat} (cause : Cause) (ea : Option Word) (h : (s.core n).handler = false) :
    ∃ k a, (∀ b, ea = some b → a = b) ∧ s.exception n cause ea = State.setCore { s.ungate n with freeCount := k } n
      (((s.ungate n).core n).dropPair.enters cause (BitVec.ofNat 32 (s.coreStatus n)) a) := by
  obtain ⟨-, ⟨k, hc, -⟩, -⟩ := s.ungate_spec n
  have hh : ((s.ungate n).core n).dropPair.handler = false := by rw [Core.dropPair_handler, hc]; exact h
  have hst : (s.ungate n).coreStatus n = s.coreStatus n := by unfold State.coreStatus; rw [hc]; rfl
  rw [← hst]
  unfold State.exception
  cases ea with
  | some a =>
    refine ⟨(s.ungate n).freeCount, a, fun b hb => Option.some.inj hb, ?_⟩
    simp only [hh, Bool.false_eq_true, if_false]
    rfl
  | none =>
    refine ⟨(s.ungate n).freeCount + 1, BitVec.ofNat 32 (s.ungate n).free.1, nofun, ?_⟩
    simp only [hh, Bool.false_eq_true, if_false]
    rfl

/-- What an exception in TASK mode leaves, in terms of the core before it (R212). -/
theorem State.exception_spec {s : State} {n : Nat} (cause : Cause) (ea : Option Word) (h : (s.core n).handler = false) :
    ∃ t k a, s.exception n cause ea = t ∧ t = { s with cores := t.cores, freeCount := t.freeCount } ∧
      (∀ m, m ≠ n → t.core m = s.core m) ∧
      t.core n = ((s.core n).dropPair.ungated k).enters cause (BitVec.ofNat 32 (s.coreStatus n)) a ∧
      (∀ b, ea = some b → a = b) ∧ ((s.core n).gateAt = none → k = (s.core n).cycOff) := by
  obtain ⟨hs, ⟨k, hc, hk⟩, ho⟩ := s.ungate_spec n
  obtain ⟨fc, a, ha, he⟩ := State.exception_eq cause ea h
  rw [hc, Core.dropPair_ungated] at he
  refine ⟨_, k, a, he, ?_, fun m hm => (State.core_setCore_other _ _ hm).trans (ho m hm), State.core_setCore _ _ _, ha, hk⟩
  rw [hs]
  rfl

/-- An exception in TASK mode enters the handler as R212 says; EPC is the PC as it stands. -/
theorem State.exception_entered {s : State} {n : Nat} (cause : Cause) (ea : Option Word)
    (h : (s.core n).handler = false) : s.entered (s.exception n cause ea) n cause.code (s.core n).pc ea ∧
      ((s.exception n cause ea).core n).haltReq = (s.core n).haltReq := by
  obtain ⟨t, k, a, ht, hs, ho, hc, ha, hk⟩ := State.exception_spec cause ea h
  rw [ht]
  unfold State.entered
  rw [Core.dropPair_eq] at hc
  refine ⟨⟨hs, ho, ?_, fun b hb => ?_, fun hne => ?_, fun hg => ?_⟩, ?_⟩
  · rw [hc, Core.dropPair_eq]
    rfl
  · rw [hc]
    exact ha b hb
  · rw [hc]
    exact if_neg (by rintro rfl; exact hne rfl)
  · rw [hc]
    exact hk hg
  · rw [hc]
    rfl

/-- A ready core in TASK mode whose instruction raises an exception enters the handler. -/
theorem State.issue_raises {s : State} {n : Nat} {i : Instr} {act : Core → State → Issue} {cause : Cause}
    {ea : Option Word} (hr : s.ready n = true) (hh : (s.core n).handler = false) (he : exec i s = s.issue n act)
    (ha : act (s.core n) s = .raise s cause ea) : s.raises i n cause.code (s.core n).pc ea := by
  obtain ⟨hent, hreq⟩ := State.exception_entered cause ea hh
  refine ⟨s.exception n cause ea, ?_, hent⟩
  rw [he, State.issue_of_ready _ hr, ha]
  exact congrArg _ (State.afterStep_of_run _ _ (hreq.trans (State.ready_haltReq hr)))

theorem State.issueB_raises {s : State} {n : Nat} {i : Instr} {act : Core → State → Issue} {cause : Cause}
    {ea : Option Word} (hr : s.readyB n = true) (hh : (s.core n).handler = false) (he : exec i s = s.issueB n act)
    (ha : act (s.core n) s = .raise s cause ea) : s.raises i n cause.code (s.core n).pc ea := by
  obtain ⟨hent, hreq⟩ := State.exception_entered cause ea hh
  refine ⟨s.exception n cause ea, ?_, hent⟩
  rw [he, State.issueB_of_ready _ hr, ha]
  exact congrArg _ (State.afterStep_of_run _ _ (hreq.trans (State.readyB_haltReq hr)))

/-- A malformed class-A instruction raises ILLEGAL, whatever its predicate. -/
theorem State.issueA_illegal {s : State} {n : Nat} {i : Instr} {wr : List RegName} {bad : Bool} {f : Core → Core}
    (hr : s.ready n = true) (hh : (s.core n).handler = false) (he : exec i s = s.issueA n wr bad f) (hb : bad = true) :
    s.raises i n 0x04 (s.core n).pc none :=
  State.issue_raises (cause := .illegal) hr hh he (by subst hb; rfl)

/-- A malformed class-B instruction raises ILLEGAL, whatever its predicate. -/
theorem State.issueMac_illegal {s : State} {n pg : Nat} {i : Instr} {bad : Bool} {f : Core → Core}
    (hr : s.readyB n = true) (hh : (s.core n).handler = false) (he : exec i s = s.issueMac n pg bad f) (hb : bad = true) :
    s.raises i n 0x04 (s.core n).pc none :=
  State.issueB_raises (cause := .illegal) hr hh he (by subst hb; rfl)

end Sys2Proof.Machine

/-!
## The register ALU, compares, accumulators and rotating registers
-/

namespace Sys2Proof.Machine

/-! ### Results limited to 32 bits (R191) -/

/-- The value and the core that a limit to 32 bits gives. -/
theorem Core.limit_eq (c : Core) (i : Int) : c.limit i = (limit32 i, c.clipped i) := by
  unfold Core.limit limit32 Core.clipped sat32 ofSigned
  rw [clampInt_eq (by decide)]
  refine Prod.ext ?_ ?_
  · apply BitVec.eq_of_toNat_eq
    simp only [BitVec.toNat_ofNat, BitVec.toNat_ofInt]
    omega
  · dsimp only
    by_cases h : -(2 ^ 31) ≤ i ∧ i < 2 ^ 31
    · rw [if_neg (by omega), if_pos h]
    · rw [if_pos (by omega), if_neg h]
      rfl

/-! ### Class-A instructions that write one register -/

/-- An operation of two general registers into a third, under a predicate that is 1 (R190, R191). -/
theorem State.alu_leadsG {s : State} {n gd ga gb pg : Nat} {i : Instr} {f : Word → Word → Word} {v : Word}
    (hr : s.ready n = true) (hp : (s.core n).pr pg = true) (he : exec i s = s.alu n gd ga gb pg f)
    (hv : f ((s.core n).gr ga) ((s.core n).gr gb) = v) : s.leadsG i n (s.core n) gd v := by
  obtain ⟨t, ht, hl⟩ := State.issueIf_led (wr := [.g gd]) (bad := false)
    (f := fun c => c.setG gd (f (c.gr ga) (c.gr gb))) hr hp rfl (Core.setG_haltReq _ _ _)
  exact ⟨t, _, he.trans ht, hv ▸ Core.wroteG_setG _ _ _, hl⟩

/-- A saturating operation of two general registers into a third (R191). -/
theorem State.aluSat_leadsG {s : State} {n gd ga gb pg : Nat} {i : Instr} {f : Int → Int → Int} {x : Int}
    (hr : s.ready n = true) (hp : (s.core n).pr pg = true) (he : exec i s = s.aluSat n gd ga gb pg f)
    (hx : f ((s.core n).gr ga).toInt ((s.core n).gr gb).toInt = x) :
    s.leadsG i n ((s.core n).clipped x) gd (limit32 x) := by
  obtain ⟨t, ht, hl⟩ := State.issueIf_led (wr := [.g gd]) (bad := false)
    (f := fun c => (c.limit (f (c.gr ga).toInt (c.gr gb).toInt)).2.setG gd
      (c.limit (f (c.gr ga).toInt (c.gr gb).toInt)).1) hr hp rfl (by simp [Core.limit_eq])
  simp only [Core.limit_eq, hx] at hl
  exact ⟨t, _, he.trans ht, Core.wroteG_setG _ _ _, hl⟩

/-- A class-A instruction without a predicate that writes a general register. -/
theorem State.issueA_leadsG {s : State} {n gd : Nat} {i : Instr} {bad : Bool} {f : Core → Word} {v : Word}
    (hr : s.ready n = true) (he : exec i s = s.issueA n [.g gd] bad (fun c => c.setG gd (f c))) (hb : bad = false)
    (hv : f (s.core n) = v) : s.leadsG i n (s.core n) gd v := by
  obtain ⟨t, ht, hl⟩ := State.issueA_led (wr := [.g gd]) (f := fun c => c.setG gd (f c)) hr hb (Core.setG_haltReq _ _ _)
  exact ⟨t, _, he.trans ht, hv ▸ Core.wroteG_setG _ _ _, hl⟩

/-- A class-A instruction without a predicate that writes a predicate. -/
theorem State.issueA_leadsP {s : State} {n pd : Nat} {i : Instr} {bad : Bool} {f : Core → Bool} {b : Bool}
    (hr : s.ready n = true) (he : exec i s = s.issueA n [.p pd] bad (fun c => c.setP pd (f c))) (hb : bad = false)
    (hv : f (s.core n) = b) : s.leadsP i n pd b := by
  obtain ⟨t, ht, hl⟩ := State.issueA_led (wr := [.p pd]) (f := fun c => c.setP pd (f c)) hr hb (Core.setP_haltReq _ _ _)
  exact ⟨t, _, he.trans ht, hv ▸ Core.wroteP_setP _ _ _, hl⟩

/-- A predicated class-A instruction that writes a rotating register, whatever else it makes of the core first. -/
theorem State.issueIf_leadsW {s : State} {n wd pg : Nat} {i : Instr} {bad : Bool} {d : Core → Core} {f : Core → Word}
    {v : Word} (hr : s.ready n = true) (hp : (s.core n).pr pg = true)
    (he : exec i s = s.issueIf n pg [.w wd] bad (fun c => (d c).setW wd (f c))) (hb : bad = false)
    (hd : (d (s.core n)).haltReq = (s.core n).haltReq) (hv : f (s.core n) = v) : s.leadsW i n (d (s.core n)) wd v := by
  obtain ⟨t, ht, hl⟩ := State.issueIf_led (wr := [.w wd]) (f := fun c => (d c).setW wd (f c)) hr hp hb hd
  exact ⟨t, _, he.trans ht, hv ▸ Core.wroteW_setW _ _ _, hl⟩

/-! ### The operations as the spec words them -/

/-- The upper half of the signed product. -/
theorem mulh_eq (a b : Word) : BitVec.ofInt 32 (a.toInt * b.toInt / 2 ^ 32) =
    (a.signExtend 64 * b.signExtend 64).extractLsb' 32 32 := by
  unfold BitVec.signExtend
  rw [← BitVec.ofInt_mul]
  generalize a.toInt * b.toInt = p
  apply BitVec.eq_of_toNat_eq
  simp only [BitVec.toNat_ofInt, BitVec.extractLsb'_toNat, Nat.shiftRight_eq_div_pow]
  omega

/-- The upper half of the unsigned product. -/
theorem mulhu_eq (a b : Word) : BitVec.ofNat 32 (a.toNat * b.toNat / 2 ^ 32) =
    (a.zeroExtend 64 * b.zeroExtend 64).extractLsb' 32 32 := by
  have hlt : a.toNat * b.toNat < 2 ^ 64 := by
    have := Nat.mul_lt_mul'' a.isLt b.isLt
    omega
  apply BitVec.eq_of_toNat_eq
  simp only [BitVec.toNat_ofNat, BitVec.extractLsb'_toNat, Nat.shiftRight_eq_div_pow, BitVec.toNat_mul,
    BitVec.truncate_eq_setWidth, BitVec.toNat_setWidth]
  rw [Nat.mod_eq_of_lt (by omega : a.toNat < 2 ^ 64), Nat.mod_eq_of_lt (by omega : b.toNat < 2 ^ 64),
    Nat.mod_eq_of_lt hlt]

theorem ofInt_min_toInt (a b : Word) : (if a.toInt < b.toInt then a else b) = BitVec.ofInt 32 (min a.toInt b.toInt) := by
  split
  · rw [min_eq_left (by omega), BitVec.ofInt_toInt]
  · rw [min_eq_right (by omega), BitVec.ofInt_toInt]

theorem ofInt_max_toInt (a b : Word) : (if a.toInt < b.toInt then b else a) = BitVec.ofInt 32 (max a.toInt b.toInt) := by
  split
  · rw [max_eq_right (by omega), BitVec.ofInt_toInt]
  · rw [max_eq_left (by omega), BitVec.ofInt_toInt]

theorem ofNat_min_toNat (a b : Word) : (if a.toNat < b.toNat then a else b) = BitVec.ofNat 32 (min a.toNat b.toNat) := by
  split
  · rw [min_eq_left (by omega), BitVec.ofNat_toNat, BitVec.setWidth_eq]
  · rw [min_eq_right (by omega), BitVec.ofNat_toNat, BitVec.setWidth_eq]

theorem ofNat_max_toNat (a b : Word) : (if a.toNat < b.toNat then b else a) = BitVec.ofNat 32 (max a.toNat b.toNat) := by
  split
  · rw [max_eq_right (by omega), BitVec.ofNat_toNat, BitVec.setWidth_eq]
  · rw [max_eq_left (by omega), BitVec.ofNat_toNat, BitVec.setWidth_eq]

theorem natAbs_eq_max (i : Int) : (i.natAbs : Int) = max i (-i) := by omega

/-- The length of a number bounds it from both sides. -/
theorem bitLen_spec (m : Nat) : m < 2 ^ bitLen m ∧ (m ≠ 0 → 0 < bitLen m ∧ 2 ^ (bitLen m - 1) ≤ m) := by
  unfold bitLen
  by_cases h : m = 0
  · rw [if_pos h, h]
    exact ⟨by decide, fun hn => absurd rfl hn⟩
  · rw [if_neg h]
    exact ⟨Nat.lt_log2_self, fun _ => ⟨by omega, by simpa using Nat.log2_self_le h⟩⟩

theorem bitLen_le {m k : Nat} (h : m < 2 ^ k) : bitLen m ≤ k := by
  by_contra hk
  by_cases hm : m = 0
  · simp [bitLen, hm] at hk
  · obtain ⟨-, hpos⟩ := bitLen_spec m
    have := Nat.pow_le_pow_right (by decide : 0 < 2) (by omega : k ≤ bitLen m - 1)
    have := (hpos hm).2
    omega

/-- The leading zeros of a word, as CLZ counts them (R191). -/
theorem clz_spec (a : Word) : 32 - bitLen a.toNat ≤ 32 ∧ a.toNat < 2 ^ (32 - (32 - bitLen a.toNat)) ∧
    (32 - bitLen a.toNat < 32 → 2 ^ (31 - (32 - bitLen a.toNat)) ≤ a.toNat) := by
  have hle : bitLen a.toNat ≤ 32 := bitLen_le a.isLt
  obtain ⟨hlt, hge⟩ := bitLen_spec a.toNat
  refine ⟨by omega, ?_, fun h => ?_⟩
  · rw [show 32 - (32 - bitLen a.toNat) = bitLen a.toNat by omega]
    exact hlt
  · have hne : a.toNat ≠ 0 := by
      intro h0
      rw [h0] at h
      exact absurd h (by decide)
    rw [show 31 - (32 - bitLen a.toNat) = bitLen a.toNat - 1 by omega]
    exact (hge hne).2

/-- Settles O1: each operation is `alu` or `aluSat` of the operation that R191 words. -/
theorem registerAluWrites : Obligations.RegisterAluWrites := by
  unfold Obligations.RegisterAluWrites
  constructor
  · intro s n gd ga gb pg hr hp c a b
    exact ⟨State.alu_leadsG hr hp rfl rfl, State.alu_leadsG hr hp rfl rfl, State.alu_leadsG hr hp rfl rfl,
      State.alu_leadsG hr hp rfl rfl, State.alu_leadsG hr hp rfl rfl,
      State.alu_leadsG (f := fun a b => a <<< (b.toNat % 32)) hr hp rfl rfl,
      State.alu_leadsG (f := fun a b => a >>> (b.toNat % 32)) hr hp rfl rfl,
      State.alu_leadsG (f := fun a b => a.sshiftRight (b.toNat % 32)) hr hp rfl rfl, State.alu_leadsG hr hp rfl rfl,
      State.alu_leadsG (f := fun a b => BitVec.ofInt 32 (a.toInt * b.toInt / 2 ^ 32)) hr hp rfl (mulh_eq _ _),
      State.alu_leadsG (f := fun a b => BitVec.ofNat 32 (a.toNat * b.toNat / 2 ^ 32)) hr hp rfl (mulhu_eq _ _)⟩
  · intro s n gd ga gb pg hr hp c a b
    exact ⟨State.aluSat_leadsG (f := (· + ·)) hr hp rfl rfl, State.aluSat_leadsG (f := (· - ·)) hr hp rfl rfl,
      State.aluSat_leadsG (gb := ga) (f := fun a _ => (a.natAbs : Int)) hr hp rfl (natAbs_eq_max _),
      State.alu_leadsG (f := fun a b => if a.toInt < b.toInt then a else b) hr hp rfl (ofInt_min_toInt _ _),
      State.alu_leadsG (f := fun a b => if a.toInt < b.toInt then b else a) hr hp rfl (ofInt_max_toInt _ _),
      State.alu_leadsG (f := fun a b => if a.toNat < b.toNat then a else b) hr hp rfl (ofNat_min_toNat _ _),
      State.alu_leadsG (f := fun a b => if a.toNat < b.toNat then b else a) hr hp rfl (ofNat_max_toNat _ _),
      _, (clz_spec _).1, (clz_spec _).2.1, (clz_spec _).2.2,
      State.alu_leadsG (gb := ga) (f := fun a _ => BitVec.ofNat 32 (32 - bitLen a.toNat)) hr hp rfl rfl⟩

/-! ### Immediate forms (R189) -/

theorem zeroExtend_ofNat_imm (imm : Nat) : (BitVec.ofNat 16 imm).zeroExtend 32 = BitVec.ofNat 32 (imm % 2 ^ 16) := by
  apply BitVec.eq_of_toNat_eq
  simp only [BitVec.truncate_eq_setWidth, BitVec.toNat_setWidth, BitVec.toNat_ofNat]

/-- Settles O2. -/
theorem immediateAluWrites : Obligations.ImmediateAluWrites := by
  unfold Obligations.ImmediateAluWrites
  intro s n gd ga imm sh hr hsh c a u
  have hz : (BitVec.ofNat 16 imm).zeroExtend 32 = u := zeroExtend_ofNat_imm imm
  have hm : sh % 32 = sh := Nat.mod_eq_of_lt hsh
  refine ⟨State.issueA_leadsG hr rfl rfl rfl, State.issueA_leadsG hr rfl rfl ?_, State.issueA_leadsG hr rfl rfl ?_,
    State.issueA_leadsG hr rfl rfl ?_, State.issueA_leadsG hr rfl rfl ?_, State.issueA_leadsG hr rfl rfl ?_,
    State.issueA_leadsG hr rfl rfl ?_, State.issueA_leadsG hr rfl rfl ?_⟩
  · exact congrArg (a &&& ·) hz
  · exact congrArg (a ||| ·) hz
  · exact congrArg (a ^^^ ·) hz
  · exact congrArg (fun w : Word => w <<< 16) hz
  · exact congrArg (a <<< ·) hm
  · exact congrArg (a >>> ·) hm
  · exact congrArg a.sshiftRight hm

/-! ### Compares and the rotating group (R192) -/

/-- The eight conditions, in the order of their codes. -/
theorem condTrue_eq (x y : Word) {cond : Nat} (h : cond < 8) : condTrue cond x y =
    ([x == y, x != y, x.slt y, !x.slt y, x.ult y, !x.ult y, x.sle y, !x.sle y] : List Bool).getD cond false := by
  have hle : decide (y.toInt ≤ x.toInt) = !x.slt y := by simp [BitVec.slt, ← decide_not]
  have hleu : decide (y.toNat ≤ x.toNat) = !x.ult y := by simp [BitVec.ult, ← decide_not]
  have hgt : decide (y.toInt < x.toInt) = !x.sle y := by simp [BitVec.sle, ← decide_not]
  have hne : decide (x ≠ y) = (x != y) := by simp [bne, BEq.beq]
  interval_cases cond
  · rfl
  · exact hne
  · rfl
  · exact hle
  · rfl
  · exact hleu
  · rfl
  · exact hgt

/-- The functions of PLOG. -/
def plogOf (func : Nat) (a b : Bool) : Bool :=
  match func with
  | 0 => a && b
  | 1 => a || b
  | 2 => a != b
  | 3 => a && !b
  | 4 => !a
  | 5 => true
  | _ => false

theorem execPlog_eq (n pd pa pb func : Nat) (s : State) : execPlog n pd pa pb func s =
    s.issueA n [.p pd] (decide (7 ≤ func)) (fun c => c.setP pd (plogOf func (c.pr pa) (c.pr pb))) := rfl

/-- The seven functions of PLOG, in the order of their codes. -/
theorem plogOf_eq (a b : Bool) {func : Nat} (h : func < 7) : plogOf func a b =
    ([a && b, a || b, xor a b, a && !b, !a, true, false] : List Bool).getD func false := by
  interval_cases func <;> cases a <;> cases b <;> rfl

/-- An operation of two rotating registers into a third. -/
theorem State.ww_leadsW {s : State} {n wd wa wb pg : Nat} {i : Instr} (f : Word → Word → Word) {v : Word}
    (hr : s.ready n = true) (hp : (s.core n).pr pg = true) (he : exec i s = s.ww n wd wa wb pg f)
    (hv : f ((s.core n).wr wa) ((s.core n).wr wb) = v) : s.leadsW i n (s.core n) wd v :=
  State.issueIf_leadsW (d := fun c => c) (f := fun c => f (c.wr wa) (c.wr wb)) hr hp he rfl rfl hv

/-- A saturating operation of two rotating registers into a third. -/
theorem State.wwSat_leadsW {s : State} {n wd wa wb pg : Nat} {i : Instr} (f : Int → Int → Int) (hr : s.ready n = true)
    (hp : (s.core n).pr pg = true) (he : exec i s = s.wwSat n wd wa wb pg f) :
    let x := f ((s.core n).wr wa).toInt ((s.core n).wr wb).toInt
    s.leadsW i n ((s.core n).clipped x) wd (limit32 x) :=
  State.issueIf_leadsW (d := fun c => c.clipped (f (c.wr wa).toInt (c.wr wb).toInt))
    (f := fun c => limit32 (f (c.wr wa).toInt (c.wr wb).toInt)) hr hp
    (he.trans (by simp only [State.wwSat, Core.limit_eq])) rfl (Core.clipped_haltReq _ _) rfl

/-- A predicated class-A instruction that writes a general register. -/
theorem State.issueIf_leadsG {s : State} {n gd pg : Nat} {i : Instr} {bad : Bool} {f : Core → Word} {v : Word}
    (hr : s.ready n = true) (hp : (s.core n).pr pg = true)
    (he : exec i s = s.issueIf n pg [.g gd] bad (fun c => c.setG gd (f c))) (hb : bad = false)
    (hv : f (s.core n) = v) : s.leadsG i n (s.core n) gd v := by
  obtain ⟨t, ht, hl⟩ := State.issueIf_led (wr := [.g gd]) (f := fun c => c.setG gd (f c)) hr hp hb (Core.setG_haltReq _ _ _)
  exact ⟨t, _, he.trans ht, hv ▸ Core.wroteG_setG _ _ _, hl⟩

/-- A predicated class-A instruction that writes a predicate. -/
theorem State.issueIf_leadsP {s : State} {n pd pg : Nat} {i : Instr} {bad : Bool} {f : Core → Bool} {b : Bool}
    (hr : s.ready n = true) (hp : (s.core n).pr pg = true)
    (he : exec i s = s.issueIf n pg [.p pd] bad (fun c => c.setP pd (f c))) (hb : bad = false)
    (hv : f (s.core n) = b) : s.leadsP i n pd b := by
  obtain ⟨t, ht, hl⟩ := State.issueIf_led (wr := [.p pd]) (f := fun c => c.setP pd (f c)) hr hp hb (Core.setP_haltReq _ _ _)
  exact ⟨t, _, he.trans ht, hv ▸ Core.wroteP_setP _ _ _, hl⟩

/-- Settles O3. -/
theorem comparesAndRotatingGroup : Obligations.ComparesAndRotatingGroup := by
  unfold Obligations.ComparesAndRotatingGroup
  refine ⟨?_, ?_, ?_⟩
  · intro s n pd ga gb pg imm pa pb hr c holds
    refine ⟨fun cond hc => ⟨fun hp => ?_, ?_⟩, fun func hf => ?_⟩
    · exact State.issueIf_leadsP hr hp rfl (decide_eq_false (by omega)) (condTrue_eq _ _ hc)
    · exact State.issueA_leadsP hr rfl rfl ((congrArg (condTrue · _ _) (Nat.mod_eq_of_lt hc)).trans (condTrue_eq _ _ hc))
    · exact State.issueA_leadsP hr (execPlog_eq ..) (decide_eq_false (by omega)) (plogOf_eq _ _ hf)
  · intro s n wd wa wb g pg hr hp hg c a b
    exact ⟨State.ww_leadsW (· + ·) hr hp rfl rfl, State.ww_leadsW (· - ·) hr hp rfl rfl,
      State.wwSat_leadsW (· + ·) hr hp rfl, State.wwSat_leadsW (· - ·) hr hp rfl,
      State.ww_leadsW (wb := wa) (fun a _ => -a) hr hp rfl (BitVec.zero_sub _).symm,
      State.ww_leadsW (wb := wa) (fun a _ => a) hr hp rfl rfl,
      State.issueIf_leadsW (d := fun c => c) (f := fun c => c.gr g) hr hp rfl (decide_eq_false (by omega)) rfl rfl,
      State.issueIf_leadsG (f := fun c => c.wr wa) hr hp rfl (decide_eq_false (by omega)) rfl⟩
  · intro s n a b c k pg hr hh
    simp only [List.forall_mem_cons, List.not_mem_nil, false_implies, implies_true, and_true]
    exact ⟨State.issueA_illegal hr hh rfl (by simp), State.issueA_illegal hr hh rfl (by simp),
      State.issueA_illegal hr hh rfl (by simp), State.issueA_illegal hr hh rfl (by simp)⟩

/-! ### Accumulators (R196 to R198) -/

/-- A write of an accumulator saturates at 72 bits, and notes it (R197, R199). -/
theorem Core.wroteAcc_setAc (c : Core) (k : Nat) (v : Int) : c.wroteAcc (c.setAc k v) k v := by
  unfold Core.wroteAcc
  extract_lets lim
  have hlim : clampInt (-(2 ^ 71)) (2 ^ 71 - 1) v = lim := clampInt_eq (by decide : (-(2 ^ 71) : Int) ≤ 2 ^ 71 - 1) v
  have hb : -(2 ^ 71) ≤ lim ∧ lim ≤ 2 ^ 71 - 1 := by omega
  have hself : clampInt (-(2 ^ 71)) (2 ^ 71 - 1) lim = lim := by rw [clampInt_eq (by decide)]; omega
  have hset : c.setAc k v = Core.setAc (if lim = v then c else { c with aovf := true, aovfCnt := satInc 32 c.aovfCnt })
      k lim := by
    unfold Core.setAc
    dsimp only
    rw [hlim, hself, if_pos rfl]
    split <;> rfl
  rw [hset]
  exact Core.wroteA_setAc _ k lim hb

/-- A class-B instruction that writes an accumulator, under a predicate that is 1. -/
theorem State.issueMac_endsA {s : State} {n k pg : Nat} {i : Instr} {bad : Bool} {f : Core → Int} {v : Int}
    (hr : s.readyB n = true) (hp : (s.core n).pr pg = true)
    (he : exec i s = s.issueMac n pg bad (fun c => c.setAc k (f c))) (hb : bad = false) (hv : f (s.core n) = v) :
    s.endsA i n k v := by
  obtain ⟨t, ht, hl⟩ := State.issueMac_leaves (f := fun c => c.setAc k (f c)) hr hb (if_pos hp) (Core.setAc_haltReq _ _ _)
    (Core.setAc_pair _ _ _) (Core.setAc_pc _ _ _)
  exact ⟨t, _, he.trans ht, hv ▸ Core.wroteAcc_setAc _ _ _, hl⟩

/-- The rounding shift of R198. -/
theorem accRound_eq (v : Int) (sh : Nat) {rnd : Nat} (h : rnd < 3) : accRound v sh rnd =
    if sh = 0 ∨ rnd = 0 then v / 2 ^ sh
    else if rnd = 1 then (v + 2 ^ (sh - 1)) / 2 ^ sh
    else (v + 2 ^ (sh - 1) - 1 + v / 2 ^ sh % 2) / 2 ^ sh := by
  unfold accRound
  by_cases hs : sh = 0
  · simp [hs]
  · interval_cases rnd <;> simp [hs]

/-- The F and rt fields name a register (R188). -/
theorem generalName_ok {f : Bool} {rt : Nat} (h : f = false → rt < 32) : (!f && decide (32 ≤ rt)) = false := by
  cases f
  · simpa using h rfl
  · rfl

/-- What ACCRD makes of the core: the rounded accumulator, limited with `sat`, in the register that F and rt name (R198). -/
def Core.readOut (c : Core) (acc : Nat) (f : Bool) (rt sh rnd : Nat) (sat : Bool) : Core :=
  let x := accRound (c.ac acc) sh rnd
  if sat then (c.clipped x).setF f rt (limit32 x) else c.setF f rt (BitVec.ofInt 32 x)

theorem Core.readOut_false (c : Core) (acc : Nat) (f : Bool) (rt sh rnd : Nat) :
    c.readOut acc f rt sh rnd false = c.setF f rt (BitVec.ofInt 32 (accRound (c.ac acc) sh rnd)) := rfl

theorem Core.readOut_true (c : Core) (acc : Nat) (f : Bool) (rt sh rnd : Nat) : c.readOut acc f rt sh rnd true =
    (c.clipped (accRound (c.ac acc) sh rnd)).setF f rt (limit32 (accRound (c.ac acc) sh rnd)) := rfl

theorem execAccrd_eq (n acc : Nat) (f : Bool) (rt sh rnd : Nat) (sat : Bool) (pg : Nat) (s : State) :
    execAccrd n acc f rt sh rnd sat pg s =
      s.issueMac n pg (decide (rnd = 3) || (!f && decide (32 ≤ rt))) (fun c => c.readOut acc f rt sh rnd sat) := by
  cases sat
  · rfl
  · simp only [execAccrd, if_true, Core.limit_eq, Core.readOut_true]

/-- A well-formed ACCRD under a predicate that is 1. -/
theorem execAccrd_ended {s : State} {n acc rt sh rnd pg : Nat} {f : Bool} (sat : Bool) (hr : s.readyB n = true)
    (hp : (s.core n).pr pg = true) (hrnd : rnd < 3) (hf : f = false → rt < 32) :
    ∃ t, exec (.accrd n acc f rt sh rnd sat pg) s = .next t ∧ s.ended t n ((s.core n).readOut acc f rt sh rnd sat) := by
  have hb : (decide (rnd = 3) || (!f && decide (32 ≤ rt))) = false := by
    rw [decide_eq_false (by omega : ¬ rnd = 3), Bool.false_or]
    exact generalName_ok hf
  obtain ⟨t, ht, hl⟩ := State.issueMac_leaves (f := fun c => c.readOut acc f rt sh rnd sat) hr hb (if_pos hp)
    (by cases sat <;> simp [Core.readOut_false, Core.readOut_true])
    (by cases sat <;> simp [Core.readOut_false, Core.readOut_true])
    (by cases sat <;> simp [Core.readOut_false, Core.readOut_true])
  exact ⟨t, (execAccrd_eq ..).trans ht, hl⟩

/-- Settles O4. -/
theorem accumulators : Obligations.Accumulators := by
  unfold Obligations.Accumulators
  refine ⟨?_, ?_, ?_⟩
  · intro s n acc wa gb pg d u hr hp hd c coef p
    have hb : (d && (decide (30 < gb) || decide (62 < wa))) = false := by
      cases d
      · rfl
      · obtain ⟨hg, hw⟩ := hd rfl
        simp [hg, hw]
    exact ⟨State.issueMac_endsA hr hp rfl hb rfl, State.issueMac_endsA hr hp rfl hb rfl,
      State.issueMac_endsA hr hp rfl hb rfl⟩
  · intro s n acc rt sh pg f hr hp _ _ hf c v r
    have hb := generalName_ok hf
    refine ⟨State.issueMac_endsA hr hp rfl hb rfl, State.issueMac_endsA hr hp rfl rfl rfl,
      State.issueMac_endsA hr hp rfl rfl rfl, ?_⟩
    intro rnd hrnd x
    have hx : accRound ((s.core n).ac acc) sh rnd = x := accRound_eq v sh hrnd
    obtain ⟨t, ht, hl⟩ := execAccrd_ended (acc := acc) (sh := sh) false hr hp hrnd hf
    obtain ⟨t', ht', hl'⟩ := execAccrd_ended (acc := acc) (sh := sh) true hr hp hrnd hf
    rw [Core.readOut_false, hx] at hl
    rw [Core.readOut_true, hx] at hl'
    constructor <;> rintro rfl
    · exact ⟨⟨t, _, ht, Core.wroteG_setG _ _ _, hl⟩, t', _, ht', Core.wroteG_setG _ _ _, hl'⟩
    · exact ⟨⟨t, _, ht, Core.wroteW_setW _ _ _, hl⟩, t', _, ht', Core.wroteW_setW _ _ _, hl'⟩
  · intro s n a b c pg f u hr hh
    simp only [List.forall_mem_cons, List.not_mem_nil, false_implies, implies_true, and_true]
    exact ⟨State.issueMac_illegal hr hh rfl (by simp), State.issueMac_illegal hr hh rfl (by simp),
      State.issueMac_illegal hr hh rfl (by simp), State.issueMac_illegal hr hh rfl (by simp),
      State.issueMac_illegal hr hh rfl (by simp), State.issueMac_illegal hr hh rfl (by simp),
      State.issueMac_illegal hr hh rfl (by simp), State.issueMac_illegal hr hh rfl (by simp),
      State.issueMac_illegal hr hh rfl (by simp)⟩

/-! ### False predicates (R190) -/

/-- A class-A instruction that leads on with the core as it is. -/
theorem State.issue_skips {s : State} {n : Nat} {i : Instr} {act : Core → State → Issue} {wr : List RegName}
    (hr : s.ready n = true) (he : exec i s = s.issue n act)
    (ha : act (s.core n) s = .done (s.lead n wr (s.core n) (s.core n) none)) :
    ∃ t, exec i s = .next t ∧ s.led t n wr none (s.core n) :=
  he ▸ State.issue_lead hr ha (State.ready_haltReq hr)

section FalsePredicate

variable {s : State} {n pg : Nat} {i : Instr} (hr : s.ready n = true) (hp : (s.core n).pr pg = false)
include hr hp

theorem State.issueIf_passesBy {wr : List RegName} {bad : Bool} {f : Core → Core} (he : exec i s = s.issueIf n pg wr bad f)
    (hb : bad = false) : ∃ t, exec i s = .next t ∧ s.led t n wr none (s.core n) :=
  State.issue_skips hr he (by simp [hb, hp])

theorem State.fpOp_passesBy {gd ga gb : Nat} {f : Nat → Flt → Flt → FltRes} (he : exec i s = s.fpOp n gd ga gb pg f) :
    ∃ t, exec i s = .next t ∧ s.led t n [.g gd] none (s.core n) :=
  State.issue_skips hr he (by simp [hp])

theorem State.fpPick_passesBy {gd ga gb : Nat} {pick : Flt → Flt → Bool} (he : exec i s = s.fpPick n gd ga gb pg pick) :
    ∃ t, exec i s = .next t ∧ s.led t n [.g gd] none (s.core n) :=
  State.issue_skips hr he (by simp [hp])

end FalsePredicate

/-- A class-B instruction of the MAC group under a predicate that is 0. -/
theorem State.issueMac_passesBy {s : State} {n pg : Nat} {i : Instr} {bad : Bool} {f : Core → Core}
    (hr : s.readyB n = true) (hp : (s.core n).pr pg = false) (he : exec i s = s.issueMac n pg bad f) (hb : bad = false) :
    ∃ t, exec i s = .next t ∧ s.ended t n (s.core n) :=
  he ▸ State.issueMac_leaves hr hb (if_neg fun h => Bool.false_ne_true (hp.symm.trans h)) rfl rfl rfl

/-- Settles O5: each form of a predicated instruction leads on, or ends its bundle, with the core as it is. -/
theorem falsePredicateWritesNothing : Obligations.FalsePredicateWritesNothing := by
  unfold Obligations.FalsePredicateWritesNothing
  intro s n a b d pg f u sh rnd cond hp hrnd hcond hf ha
  refine ⟨fun hr => ⟨?_, ?_, ?_, ?_⟩, fun hr => ?_⟩
  · have alu {i} g (he : exec i s = s.issueIf n pg [.g d] false g) := State.issueIf_passesBy hr hp he rfl
    have fp {i ga gb} g (he : exec i s = s.fpOp n d ga gb pg g) := State.fpOp_passesBy hr hp he
    have pick {i ga gb} g (he : exec i s = s.fpPick n d ga gb pg g) := State.fpPick_passesBy hr hp he
    simp only [List.forall_mem_cons, List.not_mem_nil, false_implies, implies_true, and_true]
    exact ⟨alu _ rfl, alu _ rfl, alu _ rfl, alu _ rfl, alu _ rfl, alu _ rfl, alu _ rfl, alu _ rfl, alu _ rfl, alu _ rfl,
      alu _ rfl, alu _ rfl, alu _ rfl, alu _ rfl, alu _ rfl, alu _ rfl, alu _ rfl, alu _ rfl, alu _ rfl,
      fp fltAdd rfl, fp (fun rm a b => fltAdd rm a b.neg) rfl, fp fltMul rfl, fp fltDiv rfl,
      fp (gb := 0) (fun rm a _ => fltSqrt rm a) rfl, pick fltLess rfl, pick (fun a b => fltLess b a) rfl, alu _ rfl, alu _ rfl,
      alu _ rfl, alu _ rfl, alu _ rfl, alu _ rfl, alu _ rfl, alu _ rfl, alu _ rfl, State.issue_skips hr rfl (by simp [hp])⟩
  · simp only [List.forall_mem_cons, List.not_mem_nil, false_implies, implies_true, and_true]
    exact ⟨State.issueIf_passesBy hr hp rfl rfl, State.issueIf_passesBy hr hp rfl rfl,
      State.issueIf_passesBy hr hp rfl rfl, State.issueIf_passesBy hr hp rfl rfl, State.issueIf_passesBy hr hp rfl rfl,
      State.issueIf_passesBy hr hp rfl rfl, State.issueIf_passesBy hr hp rfl (decide_eq_false (by omega))⟩
  · exact State.issueIf_passesBy hr hp rfl (decide_eq_false (by omega))
  · exact State.issueIf_passesBy hr hp rfl (decide_eq_false (by omega))
  · have hname := generalName_ok hf
    simp only [List.forall_mem_cons, List.not_mem_nil, false_implies, implies_true, and_true]
    exact ⟨State.issueMac_passesBy hr hp rfl rfl, State.issueMac_passesBy hr hp rfl rfl,
      State.issueMac_passesBy hr hp rfl rfl,
      State.issueMac_passesBy hr hp rfl (by rw [decide_eq_false (by omega : ¬ rnd = 3), Bool.false_or, hname]),
      State.issueMac_passesBy hr hp rfl hname, State.issueMac_passesBy hr hp rfl rfl,
      State.issueMac_passesBy hr hp rfl rfl⟩

end Sys2Proof.Machine

/-!
## Exceptions and control registers of the cores
-/

namespace Sys2Proof.Machine

/-! ### Exceptions (R210 to R212) -/

/-- An exception that a core takes at another PC is one of the core itself: EPC alone tells the difference. -/
theorem State.entered_of_setCore {s t : State} {n cause : Nat} {p epc : Word} {ea : Option Word}
    (h : (s.setCore n { s.core n with pc := p }).entered t n cause epc ea) : s.entered t n cause epc ea := by
  obtain ⟨hs, ho, hc, ha, hdue, hcyc⟩ := h
  simp only [State.core_setCore] at hc hdue hcyc
  refine ⟨hs, fun m hm => (ho m hm).trans (State.core_setCore_other _ _ hm), ?_, ha, hdue, hcyc⟩
  have hst : (s.setCore n { s.core n with pc := p }).coreStatus n = s.coreStatus n := by
    unfold State.coreStatus
    rw [State.core_setCore]
  rw [hst] at hc
  rw [hc]
  cases hp : (s.core n).pair <;> simp only [Core.dropPair, hp]

/-- TRAP: the core has gone past it (R211). -/
theorem execTrap_raises {s : State} {n imm : Nat} (hr : s.ready n = true) (hh : (s.core n).handler = false)
    (hi : imm < 2 ^ 12) : s.raises (.trap n imm) n 0x09 ((s.core n).pc + 4) (some (BitVec.ofNat 32 imm)) := by
  have hcore : (s.setCore n (s.core n).next).core n = (s.core n).next := State.core_setCore _ _ _
  obtain ⟨hent, hreq⟩ := State.exception_entered (s := s.setCore n (s.core n).next) (n := n) .trap
    (some (BitVec.ofNat 32 imm)) (by rw [hcore]; exact hh)
  rw [hcore] at hent hreq
  refine ⟨_, ?_, State.entered_of_setCore hent⟩
  have he : exec (.trap n imm) s = s.issue n (fun c s => .raise (s.setCore n c.next) .trap
      (some (BitVec.ofNat 32 (imm % 2 ^ 12)))) := rfl
  rw [he, State.issue_of_ready _ hr, Nat.mod_eq_of_lt hi]
  exact congrArg _ (State.afterStep_of_run _ _ (hreq.trans (State.ready_haltReq hr)))

/-- A search with a destination of R202's malformed form raises ILLEGAL. -/
theorem State.searchOp_illegal {s : State} {n gd cb gn : Nat} {i : Instr} {empty : Word} {better : Word → Word → Bool}
    (hr : s.ready n = true) (hh : (s.core n).handler = false) (he : exec i s = s.searchOp n gd cb gn empty better)
    (hgd : gd % 2 ≠ 0 ∨ gd < 2 ∨ 30 < gd) : s.raises i n 0x04 (s.core n).pc none :=
  State.issue_raises (cause := .illegal) hr hh he (if_pos hgd)

/-- Settles O12. -/
theorem exceptionsEnter : Obligations.ExceptionsEnter := by
  unfold Obligations.ExceptionsEnter
  refine ⟨?_, ?_⟩
  · intro s n imm w hr hh pc
    refine ⟨fun hi => execTrap_raises hr hh hi, ?_, fun hw => ?_⟩
    · exact State.issue_raises (cause := .brk) hr hh rfl
        (if_neg (Bool.not_eq_true _ ▸ State.ready_haltReq hr))
    · exact State.issue_raises (cause := .illegal) hr hh (if_pos hw) rfl
  · intro s n a b c k pg hr hh pc
    refine ⟨?_, ?_, fun hp ha => ?_⟩
    · have alu {i : Instr} {wr : List RegName} {bad : Bool} {f : Core → Core} (he : exec i s = s.issueA n wr bad f)
          (hb : bad = true) := State.issueA_illegal hr hh he hb
      have ill {i : Instr} {act : Core → State → Issue} (he : exec i s = s.issue n act)
          (ha : act (s.core n) s = .raise s .illegal none) := State.issue_raises hr hh he ha
      simp only [List.forall_mem_cons, List.not_mem_nil, false_implies, implies_true, and_true]
      exact ⟨alu rfl rfl, alu rfl rfl, alu rfl (by simp), alu rfl (by simp), alu rfl (by simp),
        ill rfl (if_pos (by omega)), ill rfl (if_pos (by omega)), ill rfl (if_pos (by omega)),
        ill rfl (if_pos (by omega)), ill rfl (if_pos (by omega)), ill rfl (if_pos (by decide)),
        ill rfl (if_pos (by omega)), ill rfl (if_pos (by omega)), ill rfl (if_pos (by decide)),
        ill rfl (if_pos (by decide)), ill rfl (if_pos (by decide)), ill rfl (if_pos (by decide)),
        ill rfl (if_pos (by decide))⟩
    · have hpriv : ¬ (s.core n).handler = true := by simp [hh]
      have priv {i : Instr} {act : Core → State → Issue} (he : exec i s = s.issue n act)
          (ha : act (s.core n) s = .raise s .priv none) := State.issue_raises hr hh he ha
      simp only [List.forall_mem_cons, List.not_mem_nil, false_implies, implies_true, and_true]
      exact ⟨priv rfl ((if_neg (by decide)).trans (if_pos ⟨by decide, hpriv⟩)),
        priv rfl ((if_neg (by decide)).trans (if_pos ⟨by decide, hpriv⟩)),
        priv rfl ((if_neg (by decide)).trans (if_pos ⟨by decide, hpriv⟩)),
        priv rfl ((if_neg (by decide)).trans (if_pos ⟨by decide, hpriv⟩)), priv rfl (if_pos hpriv)⟩
    · exact State.issue_raises (cause := .fetchAlign) hr hh rfl ((if_neg (not_not.2 hp)).trans (if_pos ha))

/-! ### Control registers (R210, R216) -/

/-- MTC of a CSR that it may write in the core's mode. -/
theorem execMtc_passes {s : State} {n ga k : Nat} {d : Core} (hr : s.ready n = true)
    (hk : csrExists k = true ∧ csrReadOnly k = false) (hh : csrHandler k = true → (s.core n).handler = true)
    (hd : (s.core n).setCsr k ((s.core n).gr ga) = d) (hreq : d.haltReq = (s.core n).haltReq)
    (hpc : d.pc = (s.core n).pc) : s.passes (.mtc n ga k) n d := by
  subst hd
  exact State.exec_passes hr rfl ((if_neg (by simp [hk])).trans (if_neg fun h => h.2 (hh h.1))) hreq hpc

/-- MFC of a CSR other than CYCLE_LO that it may read in the core's mode. -/
theorem execMfc_gives {s : State} {n gd k : Nat} {v : Word} (hr : s.ready n = true) (hk : csrExists k = true)
    (hh : csrHandler k = true → (s.core n).handler = true) (hv : s.csr n k = v) (h17 : k ≠ 17) :
    s.givesG (.mfc n gd k) n (s.core n) gd v := by
  subst hv
  refine State.exec_gives hr rfl ((if_neg (not_not.2 hk)).trans ((if_neg fun h => h.2 (hh h.1)).trans ?_))
  simp only [if_neg h17]

/-- The CSRs of the circular sets, by set and register. -/
theorem Core.setCsr_cb (c : Core) {k j : Nat} (hj : j < 3) (v : Word) : c.setCsr (32 + 3 * k + j) v = c.setCb k j v := by
  have h : c.setCsr (32 + 3 * k + j) v = c.setCb ((32 + 3 * k + j - 32) / 3) ((32 + 3 * k + j - 32) % 3) v := by
    unfold Core.setCsr
    split <;> try omega
    rfl
  rw [h, show (32 + 3 * k + j - 32) / 3 = k by omega, show (32 + 3 * k + j - 32) % 3 = j by omega]

theorem State.csr_cb (s : State) (n : Nat) {k j : Nat} (hj : j < 3) : s.csr n (32 + 3 * k + j) = (s.core n).cbr k j := by
  have h : s.csr n (32 + 3 * k + j) = (s.core n).cbr ((32 + 3 * k + j - 32) / 3) ((32 + 3 * k + j - 32) % 3) := by
    unfold State.csr
    split <;> try omega
    rfl
  rw [h, show (32 + 3 * k + j - 32) / 3 = k by omega, show (32 + 3 * k + j - 32) % 3 = j by omega]

/-- One register of one circular set written. -/
theorem Core.cbr_setCb (c : Core) {k j : Nat} (hk : k < 8) (hj : j < 3) (v : Word) (k' : Nat) {j' : Nat} (hj' : j' < 3) :
    (c.setCb k j v).cbr k' j' = if k' % 8 = k ∧ j' = j then v else c.cbr k' j' := by
  unfold Core.setCb Core.cbr
  rw [Tab.get_set_if]
  have : 3 * (k' % 8) + j' = 3 * (k % 8) + j ↔ k' % 8 = k ∧ j' = j := by omega
  simp only [this]

/-- Settles O11. -/
theorem controlRegisters : Obligations.ControlRegisters := by
  unfold Obligations.ControlRegisters
  intro s n gd ga hr c v
  have hcb {k j : Nat} (hk : k < 8) (hj : j < 3) : csrExists (32 + 3 * k + j) = true ∧
      csrReadOnly (32 + 3 * k + j) = false ∧ csrHandler (32 + 3 * k + j) = false := by
    refine ⟨?_, ?_, ?_⟩
    · simp only [csrExists, Bool.or_eq_true, Bool.and_eq_true, decide_eq_true_eq]
      omega
    · simp only [csrReadOnly, Bool.or_eq_false_iff, Bool.and_eq_false_iff, decide_eq_false_iff_not]
      omega
    · simp only [csrHandler, Bool.and_eq_false_iff, decide_eq_false_iff_not]
      omega
  refine ⟨?_, fun hh => ?_, fun k j hk hj => ?_, ?_, fun hh => ?_, fun k j hk hj => ?_, fun hh => ?_⟩
  · simp only [List.mem_cons, List.not_mem_nil, or_false, Prod.mk.injEq]
    rintro k b (⟨rfl, rfl⟩ | ⟨rfl, rfl⟩ | ⟨rfl, rfl⟩ | ⟨rfl, rfl⟩) <;>
      exact execMtc_passes hr (by decide) (fun h => absurd h (by decide)) rfl rfl rfl
  · simp only [List.mem_cons, List.not_mem_nil, or_false, Prod.mk.injEq]
    rintro k b (⟨rfl, rfl⟩ | ⟨rfl, rfl⟩ | ⟨rfl, rfl⟩ | ⟨rfl, rfl⟩ | ⟨rfl, rfl⟩) <;>
      exact execMtc_passes hr (by decide) (fun _ => hh) rfl rfl rfl
  · obtain ⟨hex, hro, hha⟩ := hcb hk hj
    obtain ⟨t, ht, hl⟩ := execMtc_passes (d := c.setCb k j v) hr ⟨hex, hro⟩ (fun h => by simp [hha] at h)
      (c.setCsr_cb hj v) rfl rfl
    exact ⟨t, _, ht, hl, rfl, fun k' j' hj' => c.cbr_setCb hk hj v k' hj'⟩
  · simp only [List.mem_cons, List.not_mem_nil, or_false, Prod.mk.injEq]
    rintro k x (⟨rfl, rfl⟩ | ⟨rfl, rfl⟩ | ⟨rfl, rfl⟩ | ⟨rfl, rfl⟩ | ⟨rfl, rfl⟩ | ⟨rfl, rfl⟩ | ⟨rfl, rfl⟩) <;>
      exact execMfc_gives hr (by decide) (fun h => absurd h (by decide)) rfl (by decide)
  · simp only [List.mem_cons, List.not_mem_nil, or_false, Prod.mk.injEq]
    rintro k x (⟨rfl, rfl⟩ | ⟨rfl, rfl⟩ | ⟨rfl, rfl⟩ | ⟨rfl, rfl⟩ | ⟨rfl, rfl⟩) <;>
      exact execMfc_gives hr (by decide) (fun _ => hh) rfl (by decide)
  · obtain ⟨hex, -, hha⟩ := hcb hk hj
    exact execMfc_gives hr hex (fun h => by simp [hha] at h) (s.csr_cb n hj) (by omega)
  · refine ⟨_, State.issue_done hr (if_neg (not_not.2 hh)) ?_, s.onlyCore_setCore n _⟩
    rw [State.core_setCore]
    exact State.ready_haltReq hr

end Sys2Proof.Machine

/-!
## The debug window of a core (R217)
-/

namespace Sys2Proof.Machine

/-- The state with HALT of core `n` written `b`. -/
def State.halting (s : State) (n : Nat) (b : Bool) : State := s.setFd F.VC_CTLn_HALT n 0 (b2n b)

@[simp] theorem State.halting_core (s : State) (n : Nat) (b : Bool) (m : Nat) : (s.halting n b).core m = s.core m := rfl

/-- HALT reads back through any change of the cores. -/
theorem State.halting_flag (s : State) (n : Nat) (b : Bool) (m : Nat) (c : Core) :
    (s.halting n b).flag F.VC_CTLn_HALT n = b ∧ ((s.halting n b).setCore m c).flag F.VC_CTLn_HALT n = b := by
  have h : (s.halting n b).flag F.VC_CTLn_HALT n = b := by
    unfold State.flag State.halting
    rw [State.fd_setFd _ _ _ _ _ rfl]
    cases b <;> rfl
  exact ⟨h, h⟩

/-- A core at a bundle boundary, with no BUDGET due, is halted there. -/
theorem State.haltAsked_of_boundary {s : State} {n : Nat} (hrun : (s.core n).run = .run ∨ (s.core n).run = .wait)
    (hp : (s.core n).pair = none) (hd : (s.core n).budgetDue = false) : s.haltAsked n = s.haltNow n := by
  have hns : ¬ (s.core n).run = .stopped := by rcases hrun with h | h <;> simp [h]
  unfold State.haltAsked
  dsimp only
  rw [if_neg (by simp [hp, hrun]), if_neg (show ¬ ((s.core n).budgetDue = true ∧ ¬ (s.core n).frozen = true) by simp [hd]),
    if_neg hns]

/-- A BUDGET that is due is taken before the core is halted (R211). -/
theorem State.haltAsked_of_due {s : State} {n : Nat} (hrun : (s.core n).run = .run ∨ (s.core n).run = .wait)
    (hp : (s.core n).pair = none) (hd : (s.core n).budgetDue = true) (hf : (s.core n).frozen = false)
    (hh : (s.core n).handler = false) : s.haltAsked n = (s.exception n .budget none).haltNow n := by
  obtain ⟨⟨-, -, hc, -⟩, -⟩ := State.exception_entered (s := s) (n := n) .budget none hh
  have hns : ¬ ((s.exception n .budget none).core n).run = .stopped := by rw [hc]; simp
  unfold State.haltAsked
  dsimp only
  rw [if_neg (by simp [hp, hrun]), if_pos (show (s.core n).budgetDue = true ∧ ¬ (s.core n).frozen = true by simp [hd, hf]),
    if_neg hns]

section OpenLock

variable {s : State} {q : Requester} {n : Nat} (hl : s.lockOpen = true)
include hl

theorem writeVcCtl_halt (h : (s.core n).run ≠ .halted) : writeVcCtl q n 2 s = (s.halting n true).haltAsked n := by
  unfold writeVcCtl
  dsimp only
  rw [if_neg (fun hc => hc.1 hl), if_neg (by rintro (⟨hc, -⟩ | ⟨hc, -⟩) <;> exact absurd hc (by decide)),
    if_neg (by decide), if_pos ⟨by decide, h⟩]
  rfl

theorem writeVcCtl_resume : writeVcCtl q n 0 s = (s.halting n false).setCore n
    { s.core n with run := if (s.core n).run = .halted then (s.core n).resume else (s.core n).run, haltReq := false } := by
  unfold writeVcCtl
  dsimp only
  rw [if_neg (fun hc => hc.1 hl), if_neg (by rintro (⟨hc, -⟩ | ⟨hc, -⟩) <;> exact absurd hc (by decide)),
    if_neg (by decide), if_neg (by rintro ⟨hc, -⟩; exact absurd hc (by decide)), if_pos (by decide)]
  rfl

theorem writeVcCtl_step (h : (s.core n).run = .halted) : writeVcCtl q n 3 s =
    (s.halting n true).setCore n { s.core n with run := (s.core n).resume, haltReq := true } := by
  unfold writeVcCtl
  dsimp only
  rw [if_neg (fun hc => hc.1 hl), if_neg (by rintro (⟨hc, -⟩ | ⟨-, hc⟩); exacts [absurd hc (by decide), hc h]),
    if_neg (by decide), if_neg (fun hc => hc.2 h), if_neg (by decide), if_pos (by decide)]
  rfl

theorem writeVcCtl_clear (h : (s.core n).run = .stopped) : writeVcCtl q n 4 s =
    (s.halting n false).setCore n { s.core n with run := .idle, handler := false } := by
  unfold writeVcCtl
  dsimp only
  rw [if_neg (fun hc => hc.1 hl), if_neg (by rintro (⟨-, hc⟩ | ⟨hc, -⟩); exacts [hc h, absurd hc (by decide)]),
    if_pos (by decide)]
  rfl

end OpenLock

/-- Settles O18. -/
theorem debugWindowControlsTheCore : Obligations.DebugWindowControlsTheCore := by
  unfold Obligations.DebugWindowControlsTheCore
  intro s q n hg hl c
  have hw (v : Word) (t : State) (h : writeVcCtl q n v s = t) : s.write q .VC_CTLn n 0 (writeVcCtl q n v) = .next t :=
    (State.write_of_grants _ hg).trans (congrArg _ h)
  have hset (d : Core) (b : Bool) : ((s.halting n b).setCore n d).core n = d ∧
      ∀ m, m ≠ n → ((s.halting n b).setCore n d).core m = s.core m :=
    ⟨State.core_setCore _ _ _, fun m hm => State.core_setCore_other _ _ hm⟩
  refine ⟨fun hrun hp hd => ?_, fun hrun hp => ?_, fun hrun hp hd hf hh => ?_, fun hrun => ?_, fun hrun hq => ?_,
    fun hrun => ?_, fun hrun => ?_⟩
  · have hne : c.run ≠ .halted := by rcases hrun with h | h <;> simp [h]
    exact ⟨_, hw _ _ ((writeVcCtl_halt hl hne).trans (State.haltAsked_of_boundary hrun hp hd)),
      (s.halting_flag n true n _).2, hset _ _⟩
  · refine ⟨s.halting n true, hw _ _ ((writeVcCtl_halt hl (by rw [show (s.core n).run = .run from hrun]; decide)).trans ?_),
      (s.halting_flag n true n c).1, rfl, fun _ _ => rfl⟩
    exact if_pos (Or.inl hp)
  · have hne : c.run ≠ .halted := by rcases hrun with h | h <;> simp [h]
    obtain ⟨⟨-, -, hc, -⟩, -⟩ := State.exception_entered (s := s.halting n true) (n := n) .budget none hh
    refine ⟨_, hw _ _ ((writeVcCtl_halt hl hne).trans (State.haltAsked_of_due hrun hp hd hf hh)), ?_⟩
    unfold State.haltNow
    dsimp only
    rw [State.core_setCore, hc]
    exact ⟨rfl, rfl, rfl, rfl⟩
  · refine ⟨_, hw _ _ (writeVcCtl_resume hl), (s.halting_flag n false n _).2, ?_⟩
    rw [if_pos hrun]
    exact hset _ _
  · refine ⟨_, hw _ _ (writeVcCtl_resume hl), (s.halting_flag n false n _).2, ?_⟩
    rw [if_neg hrun]
    exact hset _ _
  · exact ⟨_, hw _ _ (writeVcCtl_step hl hrun), (s.halting_flag n true n _).2, hset _ _⟩
  · exact ⟨_, hw _ _ (writeVcCtl_clear hl hrun), hset _ _⟩

end Sys2Proof.Machine

/-!
## Loads of the cores, and the exceptions of data accesses
-/

namespace Sys2Proof.Machine

/-! ### The address map (R181) -/

theorem State.place_tcm (s : State) (n : Nat) {a : Nat} (h : a < 0x70000) : s.place n a = .tcm (n * 0x80000 + a) := by
  unfold State.place
  rw [if_pos h]

theorem State.place_win (s : State) (n : Nat) {a : Nat} (h : 0x70000 ≤ a) (h' : a < 0x80000) :
    s.place n a = .win ((n * 2 + s.coreBank n % 2) * 0x10000 + (a - 0x70000)) := by
  unfold State.place
  rw [if_neg (by omega), if_pos h']

theorem State.place_above (s : State) (n : Nat) {a : Nat} (h : 0x80000 ≤ a) : s.place n a =
    if 0x1000000 ≤ a ∧ a < 0x1100000 then .shared (n / 4 * 0x100000 + (a - 0x1000000))
    else if 0x10000000 ≤ a ∧ a < 0x11000000 then .sram (a - 0x10000000)
    else if 0x40000000 ≤ a ∧ a < 0x44000000 then .reg (a - 0x40000000)
    else if 0x80000000 ≤ a ∧ a < 0x100000000 then .dram (a - 0x80000000)
    else .nowhere := by
  unfold State.place
  rw [if_neg (by omega), if_neg (by omega)]

theorem State.place_dram (s : State) (n : Nat) {a : Nat} (h : 0x80000000 ≤ a) (h' : a < 0x100000000) :
    s.place n a = .dram (a - 0x80000000) := by
  rw [s.place_above n (by omega), if_neg (by omega), if_neg (by omega), if_neg (by omega), if_pos ⟨h, h'⟩]

/-! ### Loads -/

/-- A load from a memory that answers gives what the memory holds, and changes nothing (R181, R182). -/
theorem State.load_of_inMemory {s : State} {n a : Nat} (size : Nat) (h : s.inMemory n a = true) :
    s.load n a size = (.value (s.wordAt n a size), s) := by
  unfold State.inMemory at h
  unfold State.load State.wordAt
  cases hp : s.place n a with
  | dram o =>
    have hd : s.domOn 22 = true := by simpa [hp] using h
    have ha : s.answers 22 = true := by simp [State.answers, hd]
    simp [ha]
  | tcm o => rfl
  | win o => rfl
  | shared o => rfl
  | sram o => rfl
  | reg o => simp [hp] at h
  | nowhere => simp [hp] at h

/-- What a memory holds at an address fits in its bytes. -/
theorem State.wordAt_lt (s : State) (n a size : Nat) : s.wordAt n a size < 256 ^ size := by
  unfold State.wordAt State.placeBytes
  have hN (m : List (Nat × Byte)) (o : Nat) : ofLe (Mem.readN m o size) < 256 ^ size := by
    have h := ofLe_lt (Mem.readN m o size)
    rwa [Mem.readN_length] at h
  split
  · exact hN _ _
  · exact hN _ _
  · exact hN _ _
  · exact hN _ _
  · exact hN _ _
  · exact Nat.pow_pos (by decide)

theorem Core.stepIdx_pc (c : Core) (circ : Bool) (k : Nat) (off : Int) (size : Nat) :
    (c.stepIdx circ k off size).pc = c.pc := by cases circ <;> rfl

/-- A well-formed load from memory writes the value to its register, after IDX has stepped (R193, R194). -/
theorem State.loadOp_reads {s : State} {n rt base size : Nat} {f circ : Bool} {off : Int} {ext : Nat → Word} {a : Word}
    (hr : s.readyB n = true) (hi : memIllegal f rt circ base size = false)
    (ha : (s.core n).memAddr circ base off = some a) (hm : s.inMemory n a.toNat = true) (hal : a.toNat % size = 0) :
    ∃ t, s.loadOp n f rt circ base off size ext = .next t ∧
      s.ended t n (((s.core n).stepIdx circ base off size).setF f rt (ext (s.wordAt n a.toNat size))) := by
  refine State.issueB_retire hr ?_ ?_ ?_ ?_
  · simp only [hi, ha, hal, State.load_of_inMemory size hm, ne_eq, not_true_eq_false, Bool.false_eq_true, if_false]
  · rw [Core.setF_haltReq, Core.stepIdx_haltReq]
  · rw [Core.setF_pair, Core.stepIdx_pair]
  · rw [Core.setF_pc, Core.stepIdx_pc]

/-- A load of one or two bytes into a general register. -/
theorem State.loadOp_readsG {s : State} {n rt base size : Nat} {f circ : Bool} {off : Int} {ext : Nat → Word} {a v : Word}
    {i : Instr} (hr : s.readyB n = true) (he : exec i s = s.loadOp n f rt circ base off size ext) (hf : f = false)
    (hrt : rt < 32) (hb : circ = true → base < 8) (ha : (s.core n).memAddr circ base off = some a)
    (hm : s.inMemory n a.toNat = true) (hal : a.toNat % size = 0) (hv : ext (s.wordAt n a.toNat size) = v) :
    ∃ t d b, exec i s = .next t ∧ (s.core n).stepped b circ base off size ∧ b.wroteG d rt v ∧ s.ended t n d := by
  subst hf hv
  obtain ⟨t, ht, hl⟩ := State.loadOp_reads (ext := ext) hr
    (memIllegal_eq_false.mpr ⟨fun _ => hrt, fun h => (Bool.false_ne_true h).elim, hb⟩) ha hm hal
  exact ⟨t, _, _, he.trans ht, Core.stepped_stepIdx _ _ _ _ _, Core.wroteG_setG _ _ _, hl⟩

/-- A value that fits in `w` bits, extended with zeros, is the value. -/
theorem zeroExtend_ofNat_of_lt {w v : Nat} (h : v < 2 ^ w) : (BitVec.ofNat w v).zeroExtend 32 = BitVec.ofNat 32 v := by
  apply BitVec.eq_of_toNat_eq
  simp only [BitVec.truncate_eq_setWidth, BitVec.toNat_setWidth, BitVec.toNat_ofNat, Nat.mod_eq_of_lt h]

/-- Settles O14. -/
theorem loadsReadMemory : Obligations.LoadsReadMemory := by
  unfold Obligations.LoadsReadMemory
  refine ⟨fun s n a => ⟨s.place_tcm n, fun h h' => ⟨_, Nat.mod_lt _ (by decide), s.place_win n h h'⟩, fun h h' => ?_,
    fun h h' => ?_, fun h h' => ?_, s.place_dram n, fun h => ?_⟩, ?_⟩
  · rw [s.place_above n (by omega), if_pos ⟨h, h'⟩]
  · rw [s.place_above n (by omega), if_neg (by omega), if_pos ⟨h, h'⟩]
  · rw [s.place_above n (by omega), if_neg (by omega), if_neg (by omega), if_pos ⟨h, h'⟩]
  · rw [s.place_above n (by omega), if_neg (by omega), if_neg (by omega), if_neg (by omega), if_neg (by omega)]
  · intro s n rt base f circ off a hr c ha hb hm
    refine ⟨?_, fun hal hf => ?_⟩
    · simp only [List.forall_mem_cons, List.not_mem_nil, false_implies, implies_true, and_true]
      exact ⟨fun hf hrt hal => State.loadOp_readsG hr rfl hf hrt hb ha hm hal rfl,
        fun hf hrt hal => State.loadOp_readsG hr rfl hf hrt hb ha hm hal (zeroExtend_ofNat_of_lt (s.wordAt_lt n _ 2)),
        fun hf hrt hal => State.loadOp_readsG hr rfl hf hrt hb ha hm hal rfl,
        fun hf hrt hal => State.loadOp_readsG hr rfl hf hrt hb ha hm hal (zeroExtend_ofNat_of_lt (s.wordAt_lt n _ 1))⟩
    · obtain ⟨t, ht, hl⟩ := State.loadOp_reads (ext := fun v => BitVec.ofNat 32 v) hr
        (memIllegal_eq_false.mpr ⟨hf, fun _ => rfl, hb⟩) ha hm hal
      refine ⟨t, _, _, ht, Core.stepped_stepIdx _ _ _ _ _, ?_, ?_, hl⟩ <;> rintro rfl
      · exact Core.wroteG_setG _ _ _
      · exact Core.wroteW_setW _ _ _

/-! ### DATA_ALIGN and DATA_BUS (R182, R195) -/

/-- The loads and the stores as one: the form that comes to `ok` at an address that it may access. -/
def State.memOp (s : State) (n : Nat) (f : Bool) (rt : Nat) (circ : Bool) (base : Nat) (off : Int) (size : Nat)
    (ok : Core → Word → State → Issue) : Host.Outcome State Fault Refusal :=
  s.issueB n (fun c s =>
    if memIllegal f rt circ base size then .raise s .illegal none
    else match c.memAddr circ base off with
    | none => .raise s .dataAlign (some (c.cbr base 0 + c.cbr base 2))
    | some a => if a.toNat % size ≠ 0 then .raise s .dataAlign (some a) else ok c a s)

/-- What a load comes to at an aligned address. -/
def State.loadAt (n : Nat) (f : Bool) (rt : Nat) (circ : Bool) (base : Nat) (off : Int) (size : Nat) (ext : Nat → Word)
    (c : Core) (a : Word) (s : State) : Issue :=
  match s.load n a.toNat size with
  | (.outside, s) => .raise s .dataBus (some a)
  | (.off, s) => .raise (s.setCore n (c.setF f rt 0)) .dataBus (some a)
  | (.value v, s) => .done (s.setCore n ((c.stepIdx circ base off size).setF f rt (ext v)).retire)

/-- What a store comes to at an aligned address. -/
def State.storeAt (n : Nat) (f : Bool) (rt : Nat) (circ : Bool) (base : Nat) (off : Int) (size : Nat) (c : Core)
    (a : Word) (s : State) : Issue :=
  match s.store n a.toNat size (c.fr f rt) with
  | none => .raise s .dataBus (some a)
  | some s => .done (s.pastStore n (fun c => c.stepIdx circ base off size))

theorem State.loadOp_eq (s : State) (n : Nat) (f : Bool) (rt : Nat) (circ : Bool) (base : Nat) (off : Int) (size : Nat)
    (ext : Nat → Word) : s.loadOp n f rt circ base off size ext =
      s.memOp n f rt circ base off size (State.loadAt n f rt circ base off size ext) := rfl

theorem State.storeOp_eq (s : State) (n : Nat) (f : Bool) (rt : Nat) (circ : Bool) (base : Nat) (off : Int) (size : Nat) :
    s.storeOp n f rt circ base off size =
      s.memOp n f rt circ base off size (State.storeAt n f rt circ base off size) := rfl

/-- The load and store forms raise DATA_ALIGN and DATA_BUS alike. -/
def State.memForm (s : State) (n rt : Nat) (circ : Bool) (base : Nat) (off : Int) (e : Instr × Nat) : Prop :=
  ∃ ok, exec e.1 s = s.memOp n false rt circ base off e.2 ok ∧
    ∀ c a, s.place n a.toNat = .nowhere → ok c a s = .raise s .dataBus (some a)

theorem State.load_memForm {s : State} {n rt base : Nat} {circ : Bool} {off : Int} {i : Instr} {size : Nat}
    {ext : Nat → Word} (he : exec i s = s.loadOp n false rt circ base off size ext) :
    s.memForm n rt circ base off (i, size) := by
  refine ⟨_, he.trans (s.loadOp_eq ..), fun c a hp => ?_⟩
  unfold State.loadAt State.load
  simp only [hp]

theorem State.store_memForm {s : State} {n rt base : Nat} {circ : Bool} {off : Int} {i : Instr} {size : Nat}
    (he : exec i s = s.storeOp n false rt circ base off size) : s.memForm n rt circ base off (i, size) := by
  refine ⟨_, he.trans (s.storeOp_eq ..), fun c a hp => ?_⟩
  unfold State.storeAt State.store
  simp only [hp]

section MemForms

variable {s : State} {n rt base size : Nat} {f circ : Bool} {off : Int} {i : Instr} {ok : Core → Word → State → Issue}
  (hr : s.readyB n = true) (hh : (s.core n).handler = false)
  (hi : memIllegal f rt circ base size = false) (he : exec i s = s.memOp n f rt circ base off size ok)
include hr hh hi he

/-- Through a set whose LEN is 0. -/
theorem State.memOp_lenZero (ha : (s.core n).memAddr circ base off = none) :
    s.raises i n 0x06 (s.core n).pc (some ((s.core n).cbr base 0 + (s.core n).cbr base 2)) :=
  State.issueB_raises (cause := .dataAlign) hr hh he (by simp only [hi, ha, Bool.false_eq_true, if_false])

/-- At an address that is not a multiple of the size. -/
theorem State.memOp_unaligned {a : Word} (ha : (s.core n).memAddr circ base off = some a) (hal : a.toNat % size ≠ 0) :
    s.raises i n 0x06 (s.core n).pc (some a) :=
  State.issueB_raises (cause := .dataAlign) hr hh he
    (by simp only [hi, ha, hal, Bool.false_eq_true, if_false, ne_eq, not_false_eq_true, if_true])

/-- At an address where the access fails. -/
theorem State.memOp_fails {a : Word} (ha : (s.core n).memAddr circ base off = some a) (hal : a.toNat % size = 0)
    (hok : ok (s.core n) a s = .raise s .dataBus (some a)) : s.raises i n 0x07 (s.core n).pc (some a) :=
  State.issueB_raises (cause := .dataBus) hr hh he
    (by simp only [hi, ha, hal, hok, Bool.false_eq_true, if_false, ne_eq, not_true_eq_false])

end MemForms

/-- A store to the code window raises DATA_BUS (R553). -/
theorem State.storeOp_win {s : State} {n o rt base size : Nat} {circ : Bool} {off : Int} {i : Instr} {a : Word}
    (hr : s.readyB n = true) (hh : (s.core n).handler = false) (hi : memIllegal false rt circ base size = false)
    (he : exec i s = s.storeOp n false rt circ base off size) (ha : (s.core n).memAddr circ base off = some a)
    (hal : a.toNat % size = 0) (hp : s.place n a.toNat = .win o) : s.raises i n 0x07 (s.core n).pc (some a) := by
  refine State.memOp_fails hr hh hi (he.trans (s.storeOp_eq ..)) ha hal ?_
  unfold State.storeAt State.store
  simp only [hp]

/-! ### Accesses to a domain that is not ON (R518) -/

/-- The record of an access to a domain that is not ON. -/
def State.offRecord (s : State) (q : Requester) (w : Bool) (d adr : Nat) : State :=
  ((s.incFd F.PW_OFFACC_CNT_COUNT 0 0).setRg .PW_OFFACC 0 0 (q.code * 2 ^ 24 + b2n w * 2 ^ 16 + d % 32)).setRg
    .PW_OFFACC_ADR 0 0 adr

theorem State.offAccess_eq (s : State) (q : Requester) (w : Bool) (d adr : Nat) :
    s.offAccess q w d adr = if (s.offRecord q w d adr).pw.offSeen.contains d then s.offRecord q w d adr
      else State.journal { s.offRecord q w d adr with
          pw := { (s.offRecord q w d adr).pw with offSeen := d :: (s.offRecord q w d adr).pw.offSeen } }
        0x10 0x0B 0x07 1 ([d, q.code, b2n w] ++ dBytes 4 adr) := rfl

/-- A domain noted as seen, and a journal entry, change no register but those of the interrupt vectors. -/
theorem State.fd_journal_seen (t : State) (l : List Nat) (ev blk code cls : Nat) (b : List Nat) (f : Field) (i j : Nat)
    (hv : vectorReg (f.reg.addr i j) = false) :
    (State.journal { t with pw := { t.pw with offSeen := l } } ev blk code cls b).fd f i j = t.fd f i j :=
  (State.fd_journal _ _ _ _ _ _ _ _ _ hv).trans (State.fd_of_regs rfl _ _ _)

/-- Such an access records itself, and the first of a super-cycle is journaled. -/
theorem State.fd_offAccess_eq (s : State) (q : Requester) (w : Bool) (d adr : Nat) (f : Field) (i j : Nat)
    (hv : vectorReg (f.reg.addr i j) = false) : (s.offAccess q w d adr).fd f i j = (s.offRecord q w d adr).fd f i j := by
  rw [State.offAccess_eq]
  generalize s.offRecord q w d adr = t
  split
  · rfl
  · exact State.fd_journal_seen _ _ _ _ _ _ _ _ _ _ hv

/-- A register that no such access records itself in reads as before. -/
theorem State.fd_offAccess (s : State) (q : Requester) (w : Bool) (d adr : Nat) (f : Field) (i j : Nat)
    (hv : vectorReg (f.reg.addr i j) = false)
    (hc : f.reg.addr i j ≠ Reg.addr .PW_OFFACC_CNT 0 0) (hr : f.reg.addr i j ≠ Reg.addr .PW_OFFACC 0 0)
    (ha : f.reg.addr i j ≠ Reg.addr .PW_OFFACC_ADR 0 0) : (s.offAccess q w d adr).fd f i j = s.fd f i j := by
  rw [State.fd_offAccess_eq _ _ _ _ _ _ _ _ hv]
  unfold State.offRecord
  rw [State.fd_setRg_reg _ _ _ _ _ _ _ _ ha, State.fd_setRg_reg _ _ _ _ _ _ _ _ hr]
  exact State.fd_setFd_reg _ _ _ _ _ _ _ _ hc

/-- The count of such accesses. -/
theorem State.fd_offAccess_cnt (s : State) (q : Requester) (w : Bool) (d adr : Nat) :
    (s.offAccess q w d adr).fd F.PW_OFFACC_CNT_COUNT = satInc 32 (s.fd F.PW_OFFACC_CNT_COUNT) := by
  rw [State.fd_offAccess_eq _ _ _ _ _ _ _ _ (by decide)]
  unfold State.offRecord
  rw [State.fd_setRg_reg _ _ _ _ _ _ _ _ (by decide), State.fd_setRg_reg _ _ _ _ _ _ _ _ (by decide),
    State.fd_incFd _ _ _ _ (by decide)]
  rfl

/-- Such an access leaves every domain as it is. -/
theorem State.domOn_offAccess (s : State) (q : Requester) (w : Bool) (d adr k : Nat) :
    (s.offAccess q w d adr).domOn k = s.domOn k := by
  unfold State.domOn State.domState
  rw [State.offAccess_held]
  by_cases hk : 25 ≤ k
  · rw [if_pos hk, if_pos hk]
  · have hv : vectorReg (Reg.addr .PW_DOMd_STAT k 0) = false := by
      simp [vectorReg, Reg.addr, Reg.row]
      omega
    rw [if_neg hk, if_neg hk, State.fd_offAccess _ _ _ _ _ F.PW_DOMd_STAT_STATE k 0 hv] <;>
    · simp only [F.PW_DOMd_STAT_STATE, Reg.addr, Reg.row]
      omega

theorem State.core_offAccess (s : State) (q : Requester) (w : Bool) (d adr m : Nat) :
    (s.offAccess q w d adr).core m = s.core m := by
  unfold State.core
  rw [State.offAccess_cores]

section DramOff

variable {s : State} {n rt base : Nat} {off : Int} {a : Word} (hr : s.readyB n = true) (hrt : rt < 32)
  (hoff : s.answers 22 = false) (ha : (s.core n).memAddr false base off = some a) (hd : 0x80000000 ≤ a.toNat)
  (hal : a.toNat % 4 = 0)
include hr hrt hoff ha hd hal

/-- A load from DRAM that is off writes 0 to its destination and raises DATA_BUS. -/
theorem execLdw_of_off (hh : (s.core n).handler = false) :
    ∃ t, exec (.ldw n false rt false base off) s = .next t ∧ (t.core n).gr rt = 0 ∧ (t.core n).handler = true ∧
      (t.core n).ecause = 0x07 ∧ (t.core n).epc = (s.core n).pc ∧ (t.core n).eaddr = a ∧ t.mem = s.mem := by
  have hi : memIllegal false rt false base 4 = false := memIllegal_eq_false.mpr ⟨fun _ => hrt, fun _ => rfl, nofun⟩
  have hload : s.load n a.toNat 4 = (.off, s.offAccess (.core n) false 22 a.toNat) := by
    unfold State.load
    simp only [s.place_dram n hd a.isLt, hoff, Bool.false_eq_true, if_false]
  let u := (s.offAccess (.core n) false 22 a.toNat).setCore n ((s.core n).setG rt 0)
  have hu : u.core n = (s.core n).setG rt 0 := State.core_setCore _ _ _
  have huh : (u.core n).handler = false := by rw [hu, Core.setG]; split <;> exact hh
  obtain ⟨⟨hfr, -, hc, hea, -⟩, hreq⟩ := State.exception_entered .dataBus (some a) huh
  have hgr : ((u.exception n .dataBus (some a)).core n).gr rt = 0 := by
    have hg := Core.wroteG_setG (s.core n) rt 0
    rw [hc, Core.dropPair_eq, hu]
    exact hg.2.1.trans (ite_self _)
  refine ⟨u.exception n .dataBus (some a), ?_, hgr, by rw [hc], by rw [hc]; rfl, ?_, hea _ rfl, ?_⟩
  · have he : exec (.ldw n false rt false base off) s = s.loadOp n false rt false base off 4 (fun v => BitVec.ofNat 32 v) :=
      rfl
    rw [he, State.loadOp_eq, State.memOp, State.issueB_of_ready _ hr]
    simp only [hi, ha, hal, State.loadAt, hload, ne_eq, not_true_eq_false, Bool.false_eq_true, if_false]
    exact congrArg _ (State.afterStep_of_run _ _ (hreq.trans (by rw [hu, Core.setG_haltReq, State.readyB_haltReq hr])))
  · rw [hc, hu]
    exact Core.setG_pc _ _ _
  · rw [hfr]
    exact State.offAccess_mem _ _ _ _ _

/-- A store to DRAM that is off is discarded, and counted. -/
theorem execStw_of_off : ∃ t, exec (.stw n false rt false base off) s = .next t ∧ t.mem = s.mem ∧
    t.core n = (s.core n).past (s.core n) ∧ t.fd F.PW_OFFACC_CNT_COUNT = satInc 32 (s.fd F.PW_OFFACC_CNT_COUNT) := by
  have hi : memIllegal false rt false base 4 = false := memIllegal_eq_false.mpr ⟨fun _ => hrt, fun _ => rfl, nofun⟩
  have hstore : s.store n a.toNat 4 ((s.core n).fr false rt) = some (s.offAccess (.core n) true 22 a.toNat) := by
    unfold State.store
    simp only [s.place_dram n hd a.isLt, hoff, Bool.false_eq_true, if_false]
  have ht := State.storeOp_of_store hr hi ha hal hstore
  have hdom := (s.domOn_offAccess (.core n) true 22 a.toNat (n / 4)).trans
    (State.fetches_domOn (State.readyB_fetches hr))
  rw [State.pastStore, if_pos hdom, State.core_offAccess,
    State.afterStep_of_run _ _ (by simp [State.readyB_haltReq hr])] at ht
  refine ⟨_, ht, ?_, ?_, ?_⟩
  · rw [State.setCore_mem, State.offAccess_mem]
  · rw [State.core_setCore]
    exact Core.retire_eq_past rfl rfl
  · exact s.fd_offAccess_cnt (.core n) true 22 a.toNat

end DramOff

/-- Settles O16. -/
theorem dataAccessesRaise : Obligations.DataAccessesRaise := by
  unfold Obligations.DataAccessesRaise
  refine ⟨?_, ?_⟩
  · intro s n rt base circ off hr hh hrt hb c forms
    have hforms : ∀ e ∈ forms, s.memForm n rt circ base off e := by
      simp only [forms, List.forall_mem_cons, List.not_mem_nil, false_implies, implies_true, and_true]
      exact ⟨State.load_memForm (ext := fun v => BitVec.ofNat 32 v) rfl, State.store_memForm rfl,
        State.load_memForm (ext := fun v => (BitVec.ofNat 16 v).signExtend 32) rfl,
        State.load_memForm (ext := fun v => (BitVec.ofNat 16 v).zeroExtend 32) rfl, State.store_memForm rfl,
        State.load_memForm (ext := fun v => (BitVec.ofNat 8 v).signExtend 32) rfl,
        State.load_memForm (ext := fun v => (BitVec.ofNat 8 v).zeroExtend 32) rfl, State.store_memForm rfl⟩
    have hill (size : Nat) : memIllegal false rt circ base size = false :=
      memIllegal_eq_false.mpr ⟨fun _ => hrt, nofun, hb⟩
    refine ⟨fun hc hlen e he => ?_, fun a ha => ⟨fun e he => ?_, ?_⟩⟩
    · obtain ⟨ok, hex, -⟩ := hforms e he
      exact State.memOp_lenZero hr hh (hill _) hex (by simp only [Core.memAddr, hc, if_true]; exact if_pos hlen)
    · obtain ⟨ok, hex, hout⟩ := hforms e he
      exact ⟨State.memOp_unaligned hr hh (hill _) hex ha,
        fun hal hp => State.memOp_fails hr hh (hill _) hex ha hal (hout _ _ hp)⟩
    · simp only [List.forall_mem_cons, List.not_mem_nil, false_implies, implies_true, and_true]
      exact ⟨fun hal ⟨_, hp⟩ => State.storeOp_win hr hh (hill _) rfl ha hal hp,
        fun hal ⟨_, hp⟩ => State.storeOp_win hr hh (hill _) rfl ha hal hp,
        fun hal ⟨_, hp⟩ => State.storeOp_win hr hh (hill _) rfl ha hal hp⟩
  · intro s n rt base off hr hh hrt hoff c a hd hal
    exact ⟨execLdw_of_off hr hrt hoff rfl hd hal hh, execStw_of_off hr hrt hoff rfl hd hal⟩

end Sys2Proof.Machine

/-!
## Searches (R202, R203)
-/

namespace Sys2Proof.Machine

/-- The better of element `w` at position `k` and the best so far; of equal ones the earlier (R202). -/
def pickBest (better : Word → Word → Bool) (w : Word) (k : Nat) (best : Option (Word × Nat)) : Option (Word × Nat) :=
  match best with
  | none => some (w, k)
  | some (b, p) => if better w b then some (w, k) else some (b, p)

/-- The best of the elements `el` from `k` on, `m` of them, and of the best so far. -/
def bestFrom (better : Word → Word → Bool) (el : Nat → Word) : Nat → Nat → Option (Word × Nat) → Option (Word × Nat)
  | 0, _, best => best
  | m + 1, k, best => bestFrom better el m (k + 1) (pickBest better (el k) k best)

/-- `best` is the first of the best of the elements below `k`. -/
def IsBest (better : Word → Word → Bool) (el : Nat → Word) (k : Nat) (best : Option (Word × Nat)) : Prop :=
  (k = 0 ∧ best = none) ∨ ∃ p, p < k ∧ best = some (el p, p) ∧ (∀ j, j < p → better (el p) (el j) = true) ∧
    ∀ j, p < j → j < k → better (el j) (el p) = false

section Order

variable {better : Word → Word → Bool} {key : Word → Int} (hk : ∀ a b, better a b = decide (key b < key a))
include hk

/-- One more element. -/
theorem IsBest.next {el : Nat → Word} {k : Nat} {best : Option (Word × Nat)} (h : IsBest better el k best) :
    IsBest better el (k + 1) (pickBest better (el k) k best) := by
  simp only [IsBest, pickBest, hk, decide_eq_true_eq, decide_eq_false_iff_not] at h ⊢
  rcases h with ⟨rfl, rfl⟩ | ⟨p, hp, rfl, hlt, hge⟩
  · exact .inr ⟨0, by omega, rfl, fun j hj => by omega, fun j hj hj' => by omega⟩
  · by_cases hb : key (el p) < key (el k)
    · refine .inr ⟨k, by omega, if_pos hb, fun j hj => ?_, fun j hj hj' => by omega⟩
      rcases lt_trichotomy j p with hjp | rfl | hjp
      · exact lt_trans (hlt j hjp) hb
      · exact hb
      · exact lt_of_le_of_lt (not_lt.mp (hge j hjp hj)) hb
    · refine .inr ⟨p, by omega, if_neg hb, hlt, fun j hj hj' => ?_⟩
      rcases Nat.lt_succ_iff_lt_or_eq.mp hj' with hjk | rfl
      · exact hge j hj hjk
      · exact hb

theorem isBest_bestFrom {el : Nat → Word} (m : Nat) {k : Nat} {best : Option (Word × Nat)} (h : IsBest better el k best) :
    IsBest better el (k + m) (bestFrom better el m k best) := by
  induction m generalizing k best with
  | zero => exact h
  | succ m ih =>
    rw [show k + (m + 1) = k + 1 + m by omega]
    exact ih (h.next hk)

end Order

/-- The offset of element `k` from BASE (R194). -/
def Core.elementIdx (c : Core) (cb k : Nat) : Nat :=
  if k = 0 then (c.cbr cb 2).toNat else ((c.cbr cb 2).toNat + 4 * k) % (c.cbr cb 1).toNat

theorem Core.element_eq (c : Core) (cb k : Nat) : c.cbr cb 0 + BitVec.ofNat 32 (c.elementIdx cb k) = c.element cb k := by
  unfold Core.element Core.elementIdx
  by_cases h : k = 0
  · rw [if_pos h, if_pos h, BitVec.ofNat_toNat, BitVec.setWidth_eq]
  · rw [if_neg h, if_neg h]

theorem Core.elementIdx_succ (c : Core) (cb k : Nat) :
    (c.elementIdx cb k + 4) % (c.cbr cb 1).toNat = c.elementIdx cb (k + 1) := by
  unfold Core.elementIdx
  rw [if_neg (Nat.succ_ne_zero k)]
  by_cases h : k = 0
  · rw [if_pos h, h]
  · rw [if_neg h, Nat.mod_add_mod]
    congr 1

/-- The word at element `k` of the buffer of set `cb`. -/
def State.elementAt (s : State) (n cb k : Nat) : Word :=
  BitVec.ofNat 32 (s.wordAt n ((s.core n).element cb k).toNat 4)

/-- Element `k` may be loaded. -/
def State.elementLoads (s : State) (n cb k : Nat) : Prop :=
  ((s.core n).cbr cb 1).toNat ≠ 0 ∧ ((s.core n).element cb k).toNat % 4 = 0 ∧
    s.inMemory n ((s.core n).element cb k).toNat = true

/-- A search over elements that lie in memory finds the best of them, and changes nothing. -/
theorem State.searchFrom_eq {s : State} {n cb : Nat} (better : Word → Word → Bool) (m k : Nat) (best : Option (Word × Nat))
    (h : ∀ j, k ≤ j → j < k + m → s.elementLoads n cb j) :
    State.searchFrom n better ((s.core n).cbr cb 0) ((s.core n).cbr cb 1).toNat m k ((s.core n).elementIdx cb k) best s =
      (.found (bestFrom better (s.elementAt n cb) m k best), s) := by
  induction m generalizing k best with
  | zero => rfl
  | succ m ih =>
    obtain ⟨hlen, hal, hin⟩ := h k (le_refl k) (by omega)
    have hnext := ih (k + 1) (pickBest better (s.elementAt n cb k) k best)
      (fun j hj hj' => h j (by omega) (by omega))
    rw [← Core.elementIdx_succ] at hnext
    unfold State.searchFrom
    simp only [Core.element_eq, hlen, hal, ne_eq, not_true_eq_false, or_self, if_false, State.load_of_inMemory 4 hin]
    exact hnext

/-- What a search writes to gd, and to the register after it (R202, R203). -/
def foundValue (empty : Word) (best : Option (Word × Nat)) : Word := (best.map Prod.fst).getD empty
def foundPosition (best : Option (Word × Nat)) : Word := (best.map fun b => BitVec.ofNat 32 b.2).getD 0xFFFFFFFF

/-- A well-formed search that finds goes past it with both registers written. -/
theorem State.searchOp_passes {s : State} {n gd cb gn : Nat} {empty : Word} {better : Word → Word → Bool}
    {best : Option (Word × Nat)} (hr : s.ready n = true) (hgd : gd % 2 = 0 ∧ 2 ≤ gd ∧ gd ≤ 30)
    (hs : State.searchFrom n better ((s.core n).cbr cb 0) ((s.core n).cbr cb 1).toNat
      (((s.core n).gr gn).toNat % 2 ^ 16) 0 ((s.core n).cbr cb 2).toNat none s = (.found best, s)) :
    ∃ t, s.searchOp n gd cb gn empty better = .next t ∧
      s.retired t n (((s.core n).setG gd (foundValue empty best)).setG (gd + 1) (foundPosition best)) := by
  refine State.issue_next hr ?_ (by simp [State.ready_haltReq hr]) (by simp)
  rw [if_neg (by omega)]
  dsimp only
  rw [hs]
  cases best <;> rfl

/-- A well-formed search over elements that lie in memory. -/
theorem State.searchOp_finds {s : State} {n gd cb gn : Nat} {i : Instr} {empty : Word} {better : Word → Word → Bool}
    {key : Word → Int} (hr : s.ready n = true) (hgd : gd % 2 = 0 ∧ 2 ≤ gd ∧ gd ≤ 30)
    (hel : ∀ k, k < ((s.core n).gr gn).toNat % 2 ^ 16 → s.elementLoads n cb k)
    (he : exec i s = s.searchOp n gd cb gn empty better) (hk : ∀ a b, better a b = decide (key b < key a)) :
    ∃ t d1 d2 v p, exec i s = .next t ∧ (s.core n).wroteG d1 gd v ∧ d1.wroteG d2 (gd + 1) p ∧ s.retired t n d2 ∧
      (((s.core n).gr gn).toNat % 2 ^ 16 = 0 → v = empty ∧ p = 0xFFFFFFFF) ∧
      (0 < ((s.core n).gr gn).toNat % 2 ^ 16 → p.toNat < ((s.core n).gr gn).toNat % 2 ^ 16 ∧
        v = s.elementAt n cb p.toNat ∧ (∀ k, k < p.toNat → better v (s.elementAt n cb k) = true) ∧
        ∀ k, p.toNat < k → k < ((s.core n).gr gn).toNat % 2 ^ 16 → better (s.elementAt n cb k) v = false) := by
  have hcnt : ((s.core n).gr gn).toNat % 2 ^ 16 < 2 ^ 16 := Nat.mod_lt _ (by decide)
  have hs := State.searchFrom_eq better (((s.core n).gr gn).toNat % 2 ^ 16) 0 none (fun k _ hk => hel k (by omega))
  have hbest := isBest_bestFrom hk (el := s.elementAt n cb) (((s.core n).gr gn).toNat % 2 ^ 16) (.inl ⟨rfl, rfl⟩)
  obtain ⟨t, ht, hl⟩ := State.searchOp_passes (empty := empty) hr hgd hs
  generalize bestFrom better (s.elementAt n cb) _ 0 none = best at hbest ht hl
  refine ⟨t, _, _, _, _, he.trans ht, Core.wroteG_setG _ _ _, Core.wroteG_setG _ _ _, hl, ?_⟩
  rw [Nat.zero_add] at hbest
  rcases hbest with ⟨h0, rfl⟩ | ⟨p, hp, rfl, hlt, hge⟩
  · exact ⟨fun _ => ⟨rfl, rfl⟩, fun h => absurd h0 (by omega)⟩
  · have hpos : (foundPosition (some (s.elementAt n cb p, p))).toNat = p := by
      show (BitVec.ofNat 32 p).toNat = p
      rw [BitVec.toNat_ofNat]
      omega
    rw [hpos]
    exact ⟨fun h => absurd h (by omega), fun _ => ⟨hp, rfl, hlt, hge⟩⟩

/-- Settles O17: each of the five orders is that of an integer key. -/
theorem searchesFindTheBest : Obligations.SearchesFindTheBest := by
  unfold Obligations.SearchesFindTheBest
  refine ⟨?_, ?_⟩
  · intro s n gd cb gn hr h2 hge hle c cnt hel el
    have hfinds {i : Instr} {empty : Word} {better : Word → Word → Bool} (key : Word → Int)
        (hk : ∀ a b, better a b = decide (key b < key a)) (he : exec i s = s.searchOp n gd cb gn empty better) :=
      State.searchOp_finds hr ⟨h2, hge, hle⟩ hel he hk
    simp only [List.forall_mem_cons, List.not_mem_nil, false_implies, implies_true, and_true]
    exact ⟨hfinds (better := fun a b => b.slt a) BitVec.toInt (fun _ _ => rfl) rfl,
      hfinds (better := fun a b => a.slt b) (fun a => -a.toInt) (fun _ _ => by simp [BitVec.slt]) rfl,
      hfinds (better := fun a b => b.ult a) (fun a => a.toNat) (fun _ _ => by simp [BitVec.ult]) rfl,
      hfinds (better := fun a b => a.ult b) (fun a => -a.toNat) (fun _ _ => by simp [BitVec.ult]) rfl,
      hfinds (better := fun a b => decide (b.toInt.natAbs < a.toInt.natAbs)) (fun a => a.toInt.natAbs)
        (fun _ _ => by simp only [Int.ofNat_lt]) rfl⟩
  · intro s n gd cb gn hr hh hgd
    have hbad : gd % 2 ≠ 0 ∨ gd < 2 ∨ 30 < gd := by omega
    simp only [List.forall_mem_cons, List.not_mem_nil, false_implies, implies_true, and_true]
    exact ⟨State.searchOp_illegal (empty := 0x80000000) (better := fun a b => b.slt a) hr hh rfl hbad,
      State.searchOp_illegal (empty := 0x7FFFFFFF) (better := fun a b => a.slt b) hr hh rfl hbad,
      State.searchOp_illegal (empty := 0) (better := fun a b => b.ult a) hr hh rfl hbad,
      State.searchOp_illegal (empty := 0xFFFFFFFF) (better := fun a b => a.ult b) hr hh rfl hbad,
      State.searchOp_illegal (empty := 0) (better := fun a b => decide (b.toInt.natAbs < a.toInt.natAbs)) hr hh rfl hbad⟩

end Sys2Proof.Machine

/-!
## Branches, loops and bundles (R179, R183, R184, R200)
-/

namespace Sys2Proof.Machine

/-! ### A store as the second of a bundle -/

/-- The fields of a word that wordMem reads as STW. -/
theorem wordMem_stw {n n' w rt base : Nat} {f circ : Bool} {off : Int}
    (h : wordMem n w = some (.stw n' f rt circ base off)) :
    bits w 31 26 = 0x0D ∧ (f = false → rt < 32) ∧ wordMem 0 w = some (.stw 0 f rt circ base off) := by
  unfold wordMem at h ⊢
  dsimp only at h ⊢
  by_cases hill : (¬ bit w 25 = true ∧ 32 ≤ bits w 24 19) ∨ (bit w 18 = true ∧ 8 ≤ bits w 17 13) ∨
      (bit w 25 = true ∧ 0x0E ≤ bits w 31 26)
  · rw [if_pos hill] at h
    cases h
  · rw [if_neg hill] at h ⊢
    split at h <;> cases h
    next hop =>
    refine ⟨hop, fun hf => ?_, rfl⟩
    by_contra hrt
    exact hill (.inl ⟨by simp [hf], by omega⟩)

/-- The instruction is STW. -/
def Instr.isStw : Instr → Bool
  | .stw .. => true
  | _ => false

/-- No format but MEM spells a store. -/
theorem format_isStw (n w : Nat) : ∀ o ∈ [wordAlu n w, wordImm n w, wordPred n w, wordMac n w, wordAcc n w, wordRot n w,
    wordSearch n w, wordFlt n w, wordBranch n w, wordSys n w], o.any Instr.isStw = false := by
  simp only [List.forall_mem_cons, List.not_mem_nil, false_implies, implies_true, and_true]
  refine ⟨?_, ?_, ?_, ?_, ?_, ?_, ?_, ?_, ?_, ?_⟩
  all_goals
    simp only [wordAlu, wordImm, wordPred, wordMac, wordAcc, wordRot, wordSearch, wordFlt, wordBranch, wordSys]
    repeat' split
  all_goals rfl

/-- A word that spells STW has format MEM. -/
theorem velistDecode_stw {n n' w rt base : Nat} {f circ : Bool} {off : Int}
    (h : velistDecode n w = some (.stw n' f rt circ base off)) :
    (∀ m, velistDecode m w = wordMem m w) ∧ wordMem n w = some (.stw n' f rt circ base off) := by
  have hs : (velistDecode n w).any Instr.isStw = true := by rw [h]; rfl
  have hm : (∀ m, velistDecode m w = wordMem m w) ∨ (velistDecode n w).any Instr.isStw = false := by
    have hf := format_isStw n w
    simp only [List.forall_mem_cons] at hf
    unfold velistDecode
    split <;> simp [hf]
  rcases hm with hm | hm
  · exact ⟨hm, (hm n).symm.trans h⟩
  · rw [hm] at hs
    cases hs

/-- The second of a bundle whose first instruction writes nothing may be any store; a store that reads the register that
the first writes is none (R183). -/
theorem secondOf_stw {n w rt base : Nat} {f : Bool} {off : Int}
    (h : velistDecode n w = some (.stw n f rt false base off)) : secondOf [] w = true ∧ (f = false → rt < 32) ∧
      ∀ gd, gd ≠ 0 → (gd = base ∨ (f = false ∧ gd = rt)) → secondOf [.g gd] w = false := by
  obtain ⟨hm, hw⟩ := velistDecode_stw h
  obtain ⟨-, hrt, h0⟩ := wordMem_stw hw
  have hd : (velistDecode 0 w).bind classBReads = some [.g base, if f then .w rt else .g rt] := by
    rw [hm 0, h0]
    rfl
  refine ⟨by rw [secondOf, hd]; rfl, hrt, fun gd hg hread => ?_⟩
  rw [secondOf, hd]
  rcases hread with rfl | ⟨rfl, rfl⟩ <;> simp [RegName.stands, hg]

/-! ### The two halves of a bundle -/

/-- Core `n` of `t` is at the second of an open bundle: core `n` of `s` but for what the first has made of it. -/
theorem State.readyB_of_open {s t : State} {n : Nat} {d : Core} (hs : t = { s with cores := t.cores })
    (hf : s.fetches n = true) (hc : t.core n = d) (hpair : d.pair.isSome = true) (hrun : d.run = (s.core n).run)
    (hfr : d.frozen = (s.core n).frozen) (hreq : d.haltReq = (s.core n).haltReq) (hpc : fetchable d.pc.toNat = true) :
    t.readyB n = true := by
  have hdom : t.domOn (n / 4) = s.domOn (n / 4) := by rw [hs]; rfl
  simp only [State.readyB, State.fetches, State.issues, Bool.and_eq_true] at hf ⊢
  obtain ⟨⟨⟨⟨⟨h1, h2⟩, h3⟩, h4⟩, h5⟩, -⟩ := hf
  simp only [hc, hdom, hrun, hfr, hreq, hpc, hpair, h1, h2, h3, h4, h5, and_self, Bool.true_or]

/-- A word store that is not circular, to memory: the bytes are written, and of the cores only `n` goes on. -/
theorem execStw_plain {s : State} {n rt base : Nat} {f : Bool} {off : Int} (hr : s.readyB n = true)
    (hrt : f = false → rt < 32) (hw : s.inWritable n ((s.core n).gr base + BitVec.ofInt 32 off).toNat = true)
    (hal : ((s.core n).gr base + BitVec.ofInt 32 off).toNat % 4 = 0) :
    ∃ t, exec (.stw n f rt false base off) s = .next t ∧
      s.stored t (s.place n ((s.core n).gr base + BitVec.ofInt 32 off).toNat) (leBytes 4 ((s.core n).fr f rt).toNat) ∧
      t.core n = (s.core n).past (s.core n) := by
  generalize ha : (s.core n).gr base + BitVec.ofInt 32 off = a at hw hal ⊢
  have hi : memIllegal f rt false base 4 = false := memIllegal_eq_false.mpr ⟨hrt, fun _ => rfl, nofun⟩
  have hadr : (s.core n).memAddr false base off = some a := congrArg some ha
  have hmem := s.placeWrite_mem (s.place n a.toNat) (leBytes 4 ((s.core n).fr f rt).toNat)
  have hframe := s.placeWrite_frame (s.place n a.toNat) (leBytes 4 ((s.core n).fr f rt).toNat)
  have hstore := State.storeOp_of_store hr hi hadr hal (State.store_of_inWritable 4 _ hw)
  generalize s.placeWrite (s.place n a.toNat) (leBytes 4 ((s.core n).fr f rt).toNat) = u at hmem hframe hstore
  have hcore : u.core n = s.core n := by rw [hframe]; rfl
  have hdom : u.domOn (n / 4) = true := by rw [hframe]; exact State.fetches_domOn (State.readyB_fetches hr)
  rw [State.pastStore, if_pos hdom, hcore, State.afterStep_of_run _ _ (by simp [State.readyB_haltReq hr])] at hstore
  refine ⟨_, hstore, State.stored_of_mem (by rw [State.setCore_mem, hmem]) fun o ho => ?_, ?_⟩
  · obtain ⟨h1, h2, h3⟩ := State.place_sram ho
    rw [leBytes_length]
    omega
  · rw [State.core_setCore]
    exact Core.retire_eq_past rfl rfl

/-- The core inside the bundle of a LOOP: at its class-B instruction, under the rotation base of before it (R179). -/
def Core.looped (c : Core) (off : Int) : Core :=
  { c with lc := c.lc - 1, pc := c.pc + 4,
           pair := some { next := if c.lc = 1 then c.pc + 8 else c.target off, rrb := (c.rrb + 63) % 64 } }

/-- Past the class-B instruction the registers have rotated, and the branch is taken or not (R179, R200). -/
theorem Core.looped_past {c : Core} (off : Int) (h : c.pair = none) : (c.looped off).past (c.looped off) =
    { c with lc := c.lc - 1, rrb := (c.rrb + 63) % 64, pc := if c.lc = 1 then c.pc + 8 else c.target off } := by
  obtain ⟨⟩ := c
  cases h
  rfl

/-- LOOP on a ready core. -/
theorem execLoop_led {s : State} {n : Nat} {off : Int} (hr : s.ready n = true) : ∃ t, exec (.loop n off) s = .next t ∧
    s.led t n [] (if (s.core n).lc = 1 then none else some ((s.core n).target off))
      { s.core n with lc := (s.core n).lc - 1, rrb := ((s.core n).rrb + 63) % 64 } := by
  refine State.issue_lead hr (congrArg Issue.done ?_) (State.ready_haltReq hr)
  have hlc : (s.core n).lc - 1 = 0 ↔ (s.core n).lc = 1 := sub_eq_zero
  simp only [hlc]
  rfl

/-- LOOP with a class-B instruction behind it. -/
theorem execLoop_opens {s : State} {n : Nat} {off : Int} (hr : s.ready n = true)
    (hp : s.pairs n (s.core n).pc [] = true) : ∃ t, exec (.loop n off) s = .next t ∧
      t = { s with cores := t.cores } ∧ t.core n = (s.core n).looped off := by
  obtain ⟨t, ht, hs, hc, -⟩ := execLoop_led (off := off) hr
  rw [if_pos hp] at hc
  refine ⟨t, ht, hs, hc.trans ?_⟩
  unfold Core.looped
  by_cases h : (s.core n).lc = 1 <;> simp only [h, if_true, if_false] <;> rfl

/-- Settles O8: a bundle is two steps of the model, and the second finds the first's core open. -/
theorem branchesLoopsAndBundles : Obligations.BranchesLoopsAndBundles := by
  unfold Obligations.BranchesLoopsAndBundles
  refine ⟨?_, ?_⟩
  · intro s n gd ga pg neg off hr c next target taken
    refine ⟨State.exec_leads hr rfl rfl rfl, ?_, fun hp hal => ?_, execLoop_led hr,
      State.issueAlone_retired hr rfl rfl, State.issueAlone_retired hr rfl rfl⟩
    · by_cases ht : taken = true
      · obtain ⟨t, hn, hl⟩ := State.exec_leads (i := .call n pg neg off) hr rfl (congrArg Issue.done (if_pos ht))
          (Core.setG_haltReq _ _ _)
        refine ⟨t, _, hn, fun _ => Core.wroteG_setG _ _ _, fun h => absurd (h.symm.trans ht) Bool.false_ne_true, ?_⟩
        rw [if_pos ht]
        exact hl
      · obtain ⟨t, hn, hl⟩ := State.exec_leads (i := .call n pg neg off) hr rfl (congrArg Issue.done (if_neg ht)) rfl
        refine ⟨t, _, hn, fun h => absurd h ht, fun _ => rfl, ?_⟩
        rw [if_neg ht]
        exact hl
    · obtain ⟨t, hn, hl⟩ := State.exec_leads (i := .jr n gd ga pg) hr rfl
        ((if_neg (not_not.2 hp)).trans (if_neg (not_not.2 hal))) (Core.setG_haltReq _ _ _)
      exact ⟨t, _, hn, Core.wroteG_setG _ _ _, hl⟩
  · intro s n rt base gd ga gb pg f off off' hr c a i hfetch hdec
    obtain ⟨hsec, hrt, hread⟩ := secondOf_stw hdec
    have hpairs : s.pairs n c.pc [] = true := by
      simp only [State.pairs, hfetch, Bool.true_and]
      exact hsec
    obtain ⟨t, ht, hs, hc⟩ := execLoop_opens (off := off) hr hpairs
    have hB : t.readyB n = true := State.readyB_of_open hs (State.ready_fetches hr) hc rfl rfl rfl rfl hfetch
    have hgr : (t.core n).gr base + BitVec.ofInt 32 off' = a := by rw [hc]; rfl
    have hplace : ∀ b, t.place n b = s.place n b := fun b => by
      unfold State.place State.coreBank
      rw [hc]
      rw [hs]
      rfl
    refine ⟨fun hw hal => ?_, fun hal hh => ?_, fun hg hg32 hd => ?_⟩
    · have hw' : t.inWritable n a.toNat = true := by
        have hdom : t.domOn 22 = s.domOn 22 := by rw [hs]; rfl
        unfold State.inWritable State.inMemory at hw ⊢
        rw [hplace, hdom]
        exact hw
      obtain ⟨u, hu, hst, hcu⟩ := execStw_plain (off := off') hB hrt (by rw [hgr]; exact hw') (by rw [hgr]; exact hal)
      rw [hgr, hplace, hc] at hst
      refine ⟨t, u, ht, hu, hst, ?_⟩
      rw [hcu, hc]
      exact Core.looped_past off (State.ready_pair hr)
    · have hill : memIllegal f rt false base 4 = false := memIllegal_eq_false.mpr ⟨hrt, fun _ => rfl, nofun⟩
      have he : exec i t = t.storeOp n f rt false base off' 4 := rfl
      obtain ⟨u, hu, hs', -, hcu, hea, -⟩ := State.memOp_unaligned (off := off') hB (by rw [hc]; exact hh) hill
        (he.trans (t.storeOp_eq ..)) (congrArg some hgr) hal
      refine ⟨t, u, ht, hu, ?_, ?_, hea _ rfl, ?_, ?_, ?_, ?_⟩
      · rw [hcu, hc]
        rfl
      · rw [hcu]
        rfl
      · rw [hcu]
      · rw [hcu, hc]
        rfl
      · rw [hcu, hc]
        rfl
      · rw [hs', hs]
    · have hsec' : s.pairs n c.pc [.g gd] = false := by
        simp only [State.pairs, hfetch, Bool.true_and]
        exact hread gd hg hd
      obtain ⟨t, ht, -, hc, -⟩ := State.issueA_led (bad := false) (wr := [.g gd])
        (f := fun c => if c.pr pg then c.setG gd (c.gr ga + c.gr gb) else c) hr rfl (by split <;> simp)
      rw [if_neg (by rw [hsec']; exact Bool.false_ne_true)] at hc
      refine ⟨t, ht, ?_, by rw [hc]; rfl⟩
      rw [hc]
      dsimp only
      split <;> simp [State.ready_pair hr]

end Sys2Proof.Machine

/-!
## Handler stops, BUDGET and TWAIT (R208, R211, R214, R215)
-/

namespace Sys2Proof.Machine

/-! ### Flow records -/

/-- The state of a flow and the core that serves it: bytes 4 and 6 of its record (R236). -/
def flowState : Field := ⟨.LV_FLOWf_Ww, 7, 0⟩
def flowCore : Field := ⟨.LV_FLOWf_Ww, 23, 16⟩

theorem State.flow_four (s : State) (f : Nat) : s.flow f 4 = s.fd flowState f 1 := rfl

/-- The state byte of a flow reads back, whatever its core byte is set to. -/
theorem State.flow_setFlow (s : State) (f : Nat) {v w : Nat} (hv : v < 2 ^ 8) :
    ((s.setFlow f 4 v).setFlow f 6 w).flow f 4 = v := by
  exact (State.fd_setFd_apart (s := s.setFd flowState f 1 v) (f := flowCore) (g := flowState) (by decide)
    (Field.apart_of_bits rfl (by decide))).trans (State.fd_setFd_of_lt (f := flowState) (by decide) hv)

/-! ### The abnormal end of a service (R214, R236) -/

/-- A flow register lies apart from the registers of LV in the spine's first page, and from the interrupt vectors. -/
theorem flowAddr_apart {f : Nat} (h : f < 4096) : vectorReg (Reg.addr .LV_FLOWf_Ww f 1) = false ∧
    Reg.addr .LV_FLOWf_Ww f 1 ≠ Reg.addr .LV_FAULT 0 0 ∧ Reg.addr .LV_FLOWf_Ww f 1 ≠ Reg.addr .LV_CNTk 8 0 ∧
    Reg.addr .LV_FLOWf_Ww f 1 ≠ Reg.addr .LV_STAT 0 0 := by
  refine ⟨?_, ?_, ?_, ?_⟩
  · simp [vectorReg, Reg.addr, Reg.row]
    omega
  all_goals
    simp only [Reg.addr, Reg.row]
    omega

/-- The flow of a service that ends abnormally becomes HELD, and the end is counted, recorded and journaled. -/
def State.holdFlow (s : State) (v : Service) (cause : Nat) : State :=
  (((((s.setFlow v.flow 4 2).setFlow v.flow 6 0xFF).raiseFlag F.LV_STAT_HELD 0 0).lvCount 8).setRg .LV_FAULT 0 0
    (cause % 256 * 2 ^ 24 + v.lcore % 64 * 2 ^ 18 + v.flow)).journal 0x0A 0x04 0x00 2
      ([cause, v.lcore] ++ dBytes 2 v.flow)

theorem State.endAbnormal_of_some {s : State} {n cause : Nat} {v : Service} (h : (s.core n).svc = some v) :
    s.endAbnormal n cause = (s.setCore n { s.core n with svc := none }).holdFlow v cause := by
  unfold State.endAbnormal
  dsimp only
  rw [h]
  rfl

theorem State.endAbnormal_of_none {s : State} {n cause : Nat} (h : (s.core n).svc = none) : s.endAbnormal n cause = s := by
  unfold State.endAbnormal
  dsimp only
  rw [h]

theorem State.holdFlow_cores (s : State) (v : Service) (cause : Nat) : (s.holdFlow v cause).cores = s.cores := by
  unfold State.holdFlow State.lvCount State.setFlow
  rw [State.journal_cores, State.setRg_cores, State.incFd_cores, State.raiseFlag_cores, State.setRg_cores, State.setRg_cores]

theorem State.holdFlow_mem (s : State) (v : Service) (cause : Nat) : (s.holdFlow v cause).mem = s.mem := by
  unfold State.holdFlow State.lvCount State.setFlow
  rw [State.journal_mem, State.setRg_mem, State.incFd_mem, State.raiseFlag_mem, State.setRg_mem, State.setRg_mem]

theorem State.flow_holdFlow (s : State) {v : Service} (cause : Nat) (h : v.flow < 4096) :
    (s.holdFlow v cause).flow v.flow 4 = 2 := by
  obtain ⟨hvec, hfault, hcnt, hstat⟩ := flowAddr_apart h
  have hset := s.flow_setFlow v.flow (v := 2) (w := 0xFF) (by decide)
  rw [State.flow_four] at hset ⊢
  unfold State.holdFlow
  generalize (s.setFlow v.flow 4 2).setFlow v.flow 6 0xFF = u at hset ⊢
  rw [State.fd_journal _ _ _ _ _ _ flowState _ _ hvec, State.fd_setRg_reg _ _ flowState _ _ _ _ _ hfault]
  exact (State.fd_incFd_reg _ F.LV_CNTk_COUNT flowState _ _ _ _ hcnt).trans
    ((State.fd_raiseFlag_apart (f := F.LV_STAT_HELD) (by decide) (Field.apart_of_addr hstat)).trans hset)

/-- What the abnormal end of a service leaves: the core out of service, its flow HELD. -/
theorem State.endAbnormal_spec (s : State) (n cause : Nat) :
    (s.endAbnormal n cause).core n = { s.core n with svc := none } ∧
      (∀ m, m ≠ n → (s.endAbnormal n cause).core m = s.core m) ∧ (s.endAbnormal n cause).mem = s.mem ∧
      ∀ v, (s.core n).svc = some v → v.flow < 4096 → (s.endAbnormal n cause).flow v.flow 4 = 2 := by
  cases hv : (s.core n).svc with
  | none =>
    rw [State.endAbnormal_of_none hv, ← hv]
    exact ⟨rfl, fun _ _ => rfl, rfl, fun v h => by rw [hv] at h; cases h⟩
  | some v =>
    rw [State.endAbnormal_of_some hv]
    have hcore (u : State) (m : Nat) : (u.holdFlow v cause).core m = u.core m := by
      unfold State.core
      rw [State.holdFlow_cores]
    refine ⟨(hcore _ n).trans (State.core_setCore _ _ _), fun m hm => (hcore _ m).trans (State.core_setCore_other _ _ hm),
      State.holdFlow_mem _ _ _, fun w hw hlt => ?_⟩
    obtain rfl := Option.some.inj hw
    exact State.flow_holdFlow _ _ hlt

/-- What an exception in HANDLER mode leaves (R214). -/
theorem State.exception_stops {s : State} {n : Nat} (cause : Cause) (ea : Option Word) (hh : (s.core n).handler = true) :
    let t := s.exception n cause ea
    (t.core n).run = .stopped ∧ (t.core n).dfCnt = satInc 8 (s.core n).dfCnt ∧ (t.core n).svc = none ∧
      (t.core n).haltReq = false ∧ (∀ m, m ≠ n → t.core m = s.core m) ∧ t.mem = s.mem ∧
      ∀ v, (s.core n).svc = some v → v.flow < 4096 → t.flow v.flow 4 = 2 := by
  obtain ⟨hs, ⟨k, hc, -⟩, ho⟩ := s.ungate_spec n
  let d : Core := { ((s.ungate n).core n).dropPair with
    run := .stopped, budgetDue := false, twait := none, haltReq := false,
    dfCnt := satInc 8 ((s.ungate n).core n).dropPair.dfCnt }
  have hd : d.run = .stopped ∧ d.dfCnt = satInc 8 (s.core n).dfCnt ∧ d.haltReq = false ∧ d.svc = (s.core n).svc := by
    refine ⟨rfl, ?_, rfl, ?_⟩
    · show satInc 8 ((s.ungate n).core n).dropPair.dfCnt = _
      rw [hc, Core.dropPair_eq]
      rfl
    · show ((s.ungate n).core n).dropPair.svc = _
      rw [hc, Core.dropPair_eq]
      rfl
  have hh' : ((s.ungate n).core n).dropPair.handler = true := by rw [Core.dropPair_handler, hc]; exact hh
  have he : ∃ b, s.exception n cause ea =
      State.endAbnormal (((s.ungate n).setCore n d).journal 0x09 0x05 0x00 2 b) n cause.code := by
    unfold State.exception
    dsimp only
    rw [if_pos hh']
    exact ⟨_, rfl⟩
  obtain ⟨b, he⟩ := he
  have hcore : ∀ m, (((s.ungate n).setCore n d).journal 0x09 0x05 0x00 2 b).core m = ((s.ungate n).setCore n d).core m :=
    fun m => by unfold State.core; rw [State.journal_cores]
  obtain ⟨hn, hm, hmem, hflow⟩ := (((s.ungate n).setCore n d).journal 0x09 0x05 0x00 2 b).endAbnormal_spec n cause.code
  rw [hcore, State.core_setCore] at hn hflow
  intro t
  have ht : t = _ := he
  rw [ht, hn]
  obtain ⟨hrun, hdf, hreq, hsvc⟩ := hd
  refine ⟨hrun, hdf, rfl, hreq, fun m h => ?_, ?_, fun v hv => hflow v (hsvc.trans hv)⟩
  · rw [hm m h, hcore, State.core_setCore_other _ _ h, ho m h]
  · rw [hmem, State.journal_mem, State.setCore_mem, hs]

/-- A ready core whose instruction raises an exception. -/
theorem State.exec_excepts {s u : State} {n : Nat} {i : Instr} {act : Core → State → Issue} {cause : Cause}
    {ea : Option Word} (hr : s.ready n = true) (he : exec i s = s.issue n act)
    (ha : act (s.core n) s = .raise u cause ea) (hreq : ((u.exception n cause ea).core n).haltReq = false) :
    exec i s = .next (u.exception n cause ea) := by
  rw [he, State.issue_of_ready _ hr, ha]
  exact congrArg _ (State.afterStep_of_run _ _ hreq)

/-! ### Time and the cores (R215) -/

theorem Tab.get_map {α : Type} (d : Nat → α) (f : α → α) (hf : ∀ k, f (d k) = d k) (l : List (Nat × α)) (n : Nat) :
    Tab.get d (l.map (fun e => (e.1, f e.2))) n = f (Tab.get d l n) := by
  induction l with
  | nil => exact (hf n).symm
  | cons e l ih =>
    simp only [List.map_cons, Tab.get]
    split
    · rfl
    · exact ih

theorem Core.spend_zero (c : Core) : c.spend 0 = c := by
  unfold Core.spend
  split
  next h =>
    rw [decide_eq_false (by omega), Bool.or_false, Nat.sub_zero]
  · rfl

/-- The passing of time spends the budgets of the cores, while the clock runs, and nothing else of them. -/
theorem State.core_advance {s : State} (h : s.clockOn = true) (n m : Nat) : (s.advance n).core m = (s.core m).spend n := by
  cases n with
  | zero => exact (Core.spend_zero _).symm
  | succ k =>
    have hrun : ((s.fresh (k + 1)).notePtJump.ticked (k + 1)).core m = (s.core m).spend (k + 1) := by
      have hc : (s.fresh (k + 1)).notePtJump.cores = s.cores := by unfold State.notePtJump; split <;> rfl
      unfold State.core State.ticked
      rw [hc]
      exact Tab.get_map (fun _ => coreReset) (fun c => c.spend (k + 1)) (fun _ => rfl) s.cores m
    rw [State.advance_succ, if_pos (by rw [State.fresh_clockOn, h])]
    split
    · exact hrun
    · exact hrun

/-- The budget that is left, and whether BUDGET is due (R215). -/
theorem Core.spend_eq (c : Core) (n : Nat) : c.spend n = { c with
    budget := (c.spend n).budget
    budgetDue := c.budgetDue || decide (c.svc.isSome = true ∧ 0 < c.budget ∧ c.budget ≤ n) } := by
  unfold Core.spend
  by_cases h : c.svc.isSome = true ∧ 0 < c.budget
  · rw [if_pos h]
    simp only [h.1, h.2, true_and]
  · rw [if_neg h, decide_eq_false (fun hc => h ⟨hc.1, hc.2.1⟩), Bool.or_false]

/-- Settles O13. -/
theorem handlerStopsAndBudget : Obligations.HandlerStopsAndBudget := by
  unfold Obligations.HandlerStopsAndBudget
  refine ⟨?_, ?_⟩
  · intro s n imm w hr hh hw
    have hstop {i : Instr} {act : Core → State → Issue} {cause : Cause} {ea : Option Word}
        (he : exec i s = s.issue n act) (ha : act (s.core n) s = .raise s cause ea) :
        ∃ t, exec i s = .next t ∧ (t.core n).run = .stopped ∧ (t.core n).dfCnt = satInc 8 (s.core n).dfCnt ∧
          (t.core n).svc = none ∧ (∀ m, m ≠ n → t.core m = s.core m) ∧ t.mem = s.mem ∧
          ∀ v, (s.core n).svc = some v → v.flow < 4096 → t.flow v.flow 4 = 2 := by
      obtain ⟨hrun, hdf, hsvc, hreq, ho, hmem, hflow⟩ := State.exception_stops cause ea hh
      exact ⟨_, State.exec_excepts hr he ha hreq, hrun, hdf, hsvc, ho, hmem, hflow⟩
    simp only [List.forall_mem_cons, List.not_mem_nil, false_implies, implies_true, and_true]
    refine ⟨?_, hstop rfl (if_neg (Bool.not_eq_true _ ▸ State.ready_haltReq hr)), hstop (if_pos hw) rfl⟩
    have hcore : (s.setCore n (s.core n).next).core n = (s.core n).next := State.core_setCore _ _ _
    obtain ⟨hrun, hdf, hsvc, hreq, ho, hmem, hflow⟩ := State.exception_stops (s := s.setCore n (s.core n).next) (n := n)
      .trap (some (BitVec.ofNat 32 (imm % 2 ^ 12))) (by rw [hcore]; exact hh)
    rw [hcore] at hdf hflow
    exact ⟨_, State.exec_excepts hr rfl rfl hreq, hrun, hdf, hsvc,
      fun m hm => (ho m hm).trans (State.core_setCore_other _ _ hm), hmem, hflow⟩
  · intro s n hn hdom hclk hfr hrun hh hp hsvc hb hdue
    let u := s.advance (s.core n).budget
    have hc : u.core n = (s.core n).spend (s.core n).budget := State.core_advance hclk _ _
    have hspend : (s.core n).spend (s.core n).budget = { s.core n with budget := 0, budgetDue := true } := by
      unfold Core.spend
      rw [if_pos ⟨hsvc, hb⟩, Nat.sub_self, decide_eq_true (le_refl _), Bool.or_true]
    rw [hspend] at hc
    have hadv : (if (s.core n).svc.isSome = true ∧ ¬ (s.core n).budgetDue = true then s.advance (s.core n).budget else s) =
        u := if_pos ⟨hsvc, by simp [hdue]⟩
    have hdom' : u.domOn (n / 4) = true := (s.domOn_advance _ _).trans hdom
    have he : exec (.budget n) s = .next (u.exception n .budget none) := by
      have h1 : exec (.budget n) s = execBudget n s := rfl
      rw [h1]
      unfold execBudget
      dsimp only
      rw [hadv, hc, if_pos ⟨hn, hdom', rfl, by simp [hfr], hrun, hp⟩]
    obtain ⟨t, k, a, ht, hs, -, hct, -⟩ := State.exception_spec (s := u) (n := n) .budget none (by rw [hc]; exact hh)
    rw [hc, Core.dropPair_of_none (show ({ s.core n with budget := 0, budgetDue := true } : Core).pair = none from hp)] at hct
    refine ⟨t, by rw [he, ht], ?_, ?_⟩
    · rw [hs]
      exact State.ticks_advance _ _
    · rw [hct, hs]
      exact ⟨rfl, rfl, rfl, rfl, rfl, rfl, rfl, rfl, rfl, rfl, State.advance_mem _ _⟩

/-! ### TWAIT (R208) -/

/-- Ticks that are fewer than those up to a goal stay below it. -/
theorem lt_ticksUp_iff {inc now goal k : Nat} (hi : 0 < inc) : k < ticksUp inc now goal ↔ now + inc * k < goal := by
  unfold ticksUp
  by_cases hg : goal ≤ now
  · rw [if_pos (.inl hg)]
    constructor <;> intro h <;> omega
  · rw [if_neg (by omega), Nat.lt_iff_add_one_le, Nat.le_div_iff_mul_le hi, Nat.add_mul, Nat.mul_comm k inc]
    omega

/-- BUDGET is due when CT reaches the instant: it was, or the ticks up to it use the budget up (R208, R215). -/
theorem Core.spend_due_iff {c : Core} {inc now goal : Nat} (hi : 0 < inc) :
    (c.spend (ticksUp inc now goal)).budgetDue = true ↔
      c.budgetDue = true ∨ (c.svc.isSome = true ∧ 0 < c.budget ∧ now + inc * (c.budget - 1) < goal) := by
  rw [Core.spend_eq, ← lt_ticksUp_iff hi]
  simp only [Bool.or_eq_true, decide_eq_true_eq]
  refine or_congr_right (and_congr_right fun _ => and_congr_right fun hb => ?_)
  omega

section Wake

variable {s : State} {n t : Nat} (hrun : (s.core n).run = .wait) (hwait : (s.core n).twait = some t)
include hrun hwait

theorem execTwaitWake_eq : execTwaitWake n s =
    if ((s.advanceTo t).core n).budgetDue then .next ((s.advanceTo t).exception n .budget none)
    else .next (((s.advanceTo t).ungate n).setCore n (Core.next
      { (((s.advanceTo t).ungate n).core n).setG (((s.advanceTo t).ungate n).core n).twaitRd 0 with
        run := .run, twait := none })) := by
  unfold execTwaitWake
  dsimp only
  rw [hrun, hwait]

end Wake

/-- What the wake makes of the core, `b` of its budget left: gd receives 0, and the core resumes past the TWAIT. -/
theorem Core.woken_spec {c d : Core} {b k : Nat} {due : Bool}
    (hd : d = ({ c with budget := b, budgetDue := due } : Core).ungated k) :
    let e := Core.next { d.setG d.twaitRd 0 with run := .run, twait := none }
    e.run = .run ∧ e.twait = none ∧ e.pc = c.pc + 4 ∧ e.gr c.twaitRd = 0 ∧
      ∀ m, m % 32 ≠ c.twaitRd % 32 → e.gr m = c.gr m := by
  subst hd
  obtain ⟨-, hsame, hother⟩ := Core.wroteG_setG (({ c with budget := b, budgetDue := due } : Core).ungated k) c.twaitRd 0
  exact ⟨rfl, rfl, congrArg (· + 4) (Core.setG_pc _ _ _), hsame.trans (ite_self _), hother⟩

/-- Settles O10: BUDGET is due at the wake just when the ticks up to the instant use it up. -/
theorem waitsUntilTheInstant : Obligations.WaitsUntilTheInstant := by
  unfold Obligations.WaitsUntilTheInstant
  refine ⟨?_, ?_⟩
  · intro s n gd ga hr hga c t
    have hform : ¬ (ga % 2 ≠ 0 ∨ 0 % 32 ≠ 0) := by omega
    refine ⟨fun hpast => ?_, fun hahead hfar => ?_, fun hahead hnear => ?_⟩
    · exact State.exec_gives hr rfl ((if_neg hform).trans (if_pos hpast))
    · exact State.exec_gives hr rfl ((if_neg hform).trans ((if_neg (not_le.mpr hahead)).trans (if_pos hfar)))
    · refine ⟨_, State.issue_done hr ((if_neg hform).trans ((if_neg (not_le.mpr hahead)).trans (if_neg (not_lt.mpr hnear)))) ?_,
        s.onlyCore_setCore n _⟩
      rw [State.core_setCore]
      exact State.ready_haltReq hr
  · intro s n t hrun hwait hclk hinc hload hfit _ c late
    have hexec : exec (.twaitWake n) s = execTwaitWake n s := rfl
    rw [execTwaitWake_eq hrun hwait] at hexec
    have hticks : s.ticksTo t = ticksUp s.time.ctInc s.time.ct (t * 2 ^ 32) := by
      unfold State.ticksTo State.ticksToCt
      rw [hload]
    have hcore : (s.advanceTo t).core n = c.spend (ticksUp s.time.ctInc s.time.ct (t * 2 ^ 32)) := by
      rw [← hticks]
      exact State.core_advance hclk _ _
    have hlate : ((s.advanceTo t).core n).budgetDue = true ↔ late := by
      rw [hcore]
      exact Core.spend_due_iff hinc
    obtain ⟨hreach, hover⟩ := State.advance_ticksToCt hclk hload hinc hfit
    refine ⟨fun hnl => ?_, fun hl hp hh => ?_⟩
    · rw [if_neg (fun h => hnl (hlate.mp h))] at hexec
      obtain ⟨hs, ⟨k, hk, -⟩, -⟩ := (s.advanceTo t).ungate_spec n
      rw [hcore, Core.spend_eq] at hk
      refine ⟨_, hexec, ?_, ?_, ?_⟩
      · rw [State.setCore_time, hs]
        exact hreach
      · rw [State.setCore_time, hs]
        exact hover
      · rw [State.core_setCore]
        exact Core.woken_spec hk
    · rw [if_pos (hlate.mpr hl)] at hexec
      rw [Core.spend_eq] at hcore
      obtain ⟨u, k, a, hu, -, -, hcu, -⟩ := State.exception_spec (s := s.advanceTo t) (n := n) .budget none
        (by rw [hcore]; exact hh)
      rw [Core.dropPair_of_none (by rw [hcore]; exact hp), hcore] at hcu
      refine ⟨u, by rw [hexec, hu], ?_⟩
      rw [hcu]
      exact ⟨rfl, rfl, rfl, rfl, rfl⟩

end Sys2Proof.Machine

/-!
## POST, SOLVE and DONE (R205 to R207, R213)
-/

namespace Sys2Proof.Machine

/-! ### What Levain's operations leave of the cores -/

@[simp] theorem State.setTpl_cores (s : State) (t b n v : Nat) : (s.setTpl t b n v).cores = s.cores :=
  State.setRg_cores _ _ _ _ _
@[simp] theorem State.setFlow_cores (s : State) (f b v : Nat) : (s.setFlow f b v).cores = s.cores :=
  State.setRg_cores _ _ _ _ _
@[simp] theorem State.lvCount_cores (s : State) (k : Nat) : (s.lvCount k).cores = s.cores := State.incFd_cores _ _ _ _
@[simp] theorem State.freeEntries_cores (s : State) (n : Nat) : (s.freeEntries n).cores = s.cores :=
  State.setFd_cores _ _ _ _ _
@[simp] theorem State.recount_cores (s : State) (t f : Nat) : (s.recount t f).cores = s.cores :=
  (State.setFlow_cores _ _ _ _).trans (State.setTpl_cores _ _ _ _ _)
@[simp] theorem State.dropToken_cores (s : State) (c tok : Nat) : (s.dropToken c tok).cores = s.cores :=
  (State.journal_cores _ _ _ _ _ _).trans ((State.setRg_cores _ _ _ _ _).trans (State.raise_cores _ _ _ _ _))
@[simp] theorem State.knCount_cores (s : State) (k j : Nat) : (s.knCount k j).cores = s.cores := State.incFd_cores _ _ _ _

@[simp] theorem State.storeFull_cores (s : State) (src : TokSrc) (tok : Nat) : (s.storeFull src tok).cores = s.cores := by
  unfold State.storeFull
  split
  · simp
  · simp
  · rw [State.dropToken_cores]
    rfl

@[simp] theorem State.fire_cores (s : State) (x : Inst) (part : Bool) : (s.fire x part).1.cores = s.cores := by
  unfold State.fire
  extract_lets t f l0 s1 s2 s3 s4 l1 s5
  have h3 : s3.cores = s.cores := (State.setTpl_cores s2 _ _ _ _).trans (State.setTpl_cores s1 _ _ _ _)
  have h4 : s4.cores = s.cores := by
    cases part
    · exact h3
    · exact (State.lvCount_cores _ _).trans ((State.setTpl_cores s3 _ _ _ _).trans h3)
  split
  · rw [State.recount_cores, State.lvCount_cores, State.freeEntries_cores, h4]
  · exact (State.recount_cores s5 _ _).trans h4

@[simp] theorem State.matched_cores (s : State) (src : TokSrc) (t k tag : Nat) (p : Word) :
    (s.match_ src t k tag p).1.cores = s.cores := by
  unfold State.match_
  extract_lets old new w l0 s1 w' l1 s2 s3
  have h1 : s1.cores = s.cores := State.setFd_cores s F.LV_STAT_FREE 0 0 _
  have h3 : s3.cores = s.cores := (State.recount_cores s2 _ _).trans h1
  split
  · exact State.lvCount_cores _ _
  · split
    · exact State.storeFull_cores _ _ _
    · split
      · exact (State.fire_cores _ _ _).trans h3
      · exact h3

@[simp] theorem State.applyToken_cores (s : State) (src : TokSrc) (tok tag : Nat) (p : Word) :
    (s.applyToken src tok tag p).1.cores = s.cores := by
  unfold State.applyToken
  dsimp only
  split
  · rfl
  · split
    · exact State.lvCount_cores _ _
    · split
      · exact State.lvCount_cores _ _
      · exact State.matched_cores _ _ _ _ _ _

@[simp] theorem State.tickToken_cores (s : State) (k : Nat) : (s.tickToken k).cores = s.cores := by
  unfold State.tickToken
  dsimp only
  split
  · rfl
  · exact State.applyToken_cores _ _ _ _ _

@[simp] theorem State.tickTokens_cores (s : State) (n : Nat) : (s.tickTokens n).cores = s.cores := by
  unfold State.tickTokens
  refine forEach_keeps State.cores s _ _ fun k t => ?_
  split
  · exact State.tickToken_cores _ _
  · rfl

/-- Time takes back no STEP that is under way. -/
theorem State.haltReq_advance (s : State) (n m : Nat) : ((s.advance n).core m).haltReq = (s.core m).haltReq := by
  by_cases h : s.clockOn = true
  · rw [State.core_advance h, Core.spend_eq]
  · cases n with
    | zero => rfl
    | succ k =>
      rw [State.advance_succ, if_neg (by rw [State.fresh_clockOn]; exact h)]
      rfl

/-- The turn of a token leaves the cores as they are, or as one tick does. -/
theorem State.takeTurnOf_cores (s : State) (src : TokSrc) :
    (s.takeTurnOf src).cores = s.cores ∨ (s.takeTurnOf src).cores = (s.advance 1).cores := by
  unfold State.takeTurnOf State.takeTurn
  dsimp only
  split
  · split
    · exact .inr (State.tickTokens_cores _ _)
    · exact .inl (State.tickTokens_cores _ _)
  · exact .inl rfl

theorem State.haltReq_deposit (s : State) (src : TokSrc) (tok tag : Nat) (p : Word) (m : Nat) :
    ((s.deposit src tok tag p).1.core m).haltReq = (s.core m).haltReq := by
  unfold State.deposit
  rw [State.core, State.applyToken_cores]
  rcases s.takeTurnOf_cores src with h | h
  · rw [h]
    rfl
  · rw [h]
    exact s.haltReq_advance 1 m

/-! ### SOLVE and DONE -/

@[simp] theorem State.setKnCluster_cores (s : State) (k : Nat) (c : KnCluster) :
    (s.setKnCluster k c).cores = s.cores :=
  State.setRg_cores _ _ _ _ _

@[simp] theorem State.solveAccept_cores (s : State) (d : KnDesc) : (s.solveAccept d).cores = s.cores := by
  unfold State.solveAccept
  extract_lets d' s1 solve k c
  have h1 : s1.cores = s.cores := State.setFd_cores s F.KN_SLOTs_STAT_BUSY d'.slot 0 1
  split
  · exact h1
  · exact State.setKnCluster_cores _ _ _

@[simp] theorem State.solve_cores (s : State) (n a : Nat) (ahead : Bool) : (s.solve n a ahead).2.cores = s.cores := by
  unfold State.solve
  extract_lets d readable code
  generalize code = code
  cases code with
  | none => exact State.solveAccept_cores _ _
  | some c =>
    dsimp only
    rw [State.recordRefusal_cores]
    split
    · exact (State.knCount_cores _ _ _).trans (State.knCount_cores s _ _)
    · exact State.knCount_cores s _ _

/-- The point of a service goes to the cell alone (R43). -/
theorem State.pushPoint_eq (s : State) (v : Service) : s.pushPoint v = { s with cell := (s.pushPoint v).cell } := by
  unfold State.pushPoint
  dsimp only
  split <;> rfl

@[simp] theorem State.pushPoint_cores (s : State) (v : Service) : (s.pushPoint v).cores = s.cores := by rw [s.pushPoint_eq v]
@[simp] theorem State.pushPoint_mem (s : State) (v : Service) : (s.pushPoint v).mem = s.mem := by rw [s.pushPoint_eq v]

/-- A flow whose service ends is IDLE, and no core serves it (R236). -/
theorem State.flow_flowDone (s : State) (f : Nat) : (s.flowDone f).flow f 4 = 0 ∧ (s.flowDone f).flow f 6 = 0xFF :=
  ⟨s.flow_setFlow f (by decide), State.fd_setFd_of_lt (s := s.setFlow f 4 0) (f := flowCore) (by decide) (by decide)⟩

/-- What DONE makes of the rest of the state: the point of the service, and its flow. -/
def State.doneOf (s : State) (svc : Option Service) : State :=
  match svc with
  | some v => (s.pushPoint v).flowDone v.flow
  | none => s

theorem State.flowDone_cores (s : State) (f : Nat) : (s.flowDone f).cores = s.cores :=
  (State.setFlow_cores _ _ _ _).trans (State.setFlow_cores _ _ _ _)

theorem State.flowDone_mem (s : State) (f : Nat) : (s.flowDone f).mem = s.mem :=
  (State.setRg_mem _ _ _ _ _).trans (State.setRg_mem _ _ _ _ _)

theorem State.core_doneOf (s : State) (svc : Option Service) (m : Nat) : (s.doneOf svc).core m = s.core m := by
  unfold State.core
  cases svc with
  | none => rfl
  | some v => exact congrArg (Tab.get _ · m) ((State.flowDone_cores _ _).trans (State.pushPoint_cores s v))

theorem State.mem_doneOf (s : State) (svc : Option Service) : (s.doneOf svc).mem = s.mem := by
  cases svc with
  | none => rfl
  | some v => exact (State.flowDone_mem _ _).trans (State.pushPoint_mem s v)

/-- Settles O9. -/
theorem postSolveAndDone : Obligations.PostSolveAndDone := by
  unfold Obligations.PostSolveAndDone
  refine ⟨?_, ?_⟩
  · intro s n gd ga gb hr c a
    have hset (u : State) (v : Word) (hu : (u.core n).haltReq = false) :
        ((u.setCore n ((u.core n).setG gd v).next).core n).haltReq = false := by
      rw [State.core_setCore]
      exact (Core.setG_haltReq _ _ _).trans hu
    have hretired (u : State) (v : Word) :
        u.retired (u.setCore n ((u.core n).setG gd v).next) n ((u.core n).setG gd v) := by
      unfold State.retired
      rw [← Core.setG_pc (u.core n) gd v]
      exact u.onlyCore_setCore n _
    refine ⟨fun ha => ?_, fun ha => ?_, fun hgb => ?_⟩
    · exact State.exec_gives hr rfl (by simp only [a, c] at ha; simp only [ha, if_true]; rfl)
    · refine ⟨_, _, State.issue_done hr ?_ (hset _ _ ?_), Core.wroteG_setG _ _ _, hretired _ _⟩
      · simp only [a, c] at ha
        simp only [ha, if_false]
        rfl
      · rw [State.haltReq_deposit]
        exact State.ready_haltReq hr
    · let r := s.solve n a (s.coreAhead n)
      have hc : r.2.core n = c := by
        unfold State.core
        rw [State.solve_cores]
        rfl
      refine ⟨r.2.setCore n ((r.2.core n).setG gd (BitVec.ofNat 32 r.1)).next, _,
        State.issue_done hr (if_neg (not_not.2 hgb)) (hset _ _ ?_), ?_, hretired r.2 _⟩
      · rw [hc]
        exact State.ready_haltReq hr
      · rw [hc]
        exact Core.wroteG_setG _ _ _
  · intro s n hr c
    let d : Core := { c.next with run := .idle, handler := false, svc := none, budgetDue := false }
    have hcore : ((s.setCore n d).doneOf c.svc).core n = d := (State.core_doneOf _ _ _).trans (State.core_setCore _ _ _)
    refine ⟨(s.setCore n d).doneOf c.svc, State.issue_done hr rfl ?_, hcore,
      fun m hm => (State.core_doneOf _ _ _).trans (State.core_setCore_other _ _ hm), State.mem_doneOf _ _, fun v hv => ?_⟩
    · rw [hcore]
      exact State.ready_haltReq hr
    · rw [hv]
      exact State.flow_flowDone _ _

end Sys2Proof.Machine

/-!
## The binary32 unit (R204)
-/

namespace Sys2Proof.Machine

/-! ### Words that are no NaN, or the one NaN of R204 -/

theorem Flt.isNan_of_iff (w : Nat) : (Flt.of w).isNan = true ↔ 0x7F800000 < w % 2 ^ 31 := by
  have hx : bits w 30 23 = w / 2 ^ 23 % 2 ^ 8 := congrArg (· % 2 ^ 8) (Nat.shiftRight_eq_div_pow w 23)
  have hf : bits w 22 0 = w % 2 ^ 23 := rfl
  unfold Flt.of
  dsimp only
  rw [hx, hf]
  by_cases h1 : w / 2 ^ 23 % 2 ^ 8 = 255
  · rw [if_pos h1]
    by_cases h2 : w % 2 ^ 23 = 0
    · rw [if_pos h2]
      exact iff_of_false Bool.false_ne_true (by omega)
    · rw [if_neg h2]
      exact iff_of_true rfl (by omega)
  · rw [if_neg h1]
    split <;> exact iff_of_false Bool.false_ne_true (by omega)

/-- A word that is a NaN only as the quiet NaN of R204. -/
def QuietWord (w : Nat) : Prop := w = fltNan ∨ w % 2 ^ 31 ≤ 0x7F800000

theorem QuietWord.ofNat {w : Nat} (h : QuietWord w) : QuietWord (BitVec.ofNat 32 w).toNat := by
  rcases h with rfl | h
  · exact .inl rfl
  · right
    rw [BitVec.toNat_ofNat]
    omega

theorem QuietWord.eq_of_isNan {v : Word} (h : QuietWord v.toNat) (hn : (Flt.of v.toNat).isNan = true) : v = 0x7FC00000#32 := by
  rcases h with h | h
  · exact BitVec.eq_of_toNat_eq h
  · rw [Flt.isNan_of_iff] at hn
    omega

theorem quietWord_of_isNan {w : Word} (h : (Flt.of w.toNat).isNan = false) : QuietWord w.toNat :=
  .inr (not_lt.1 fun hlt => Bool.false_ne_true (h.symm.trans ((Flt.isNan_of_iff _).2 hlt)))

/-- A sign and a magnitude up to the infinity's are no NaN. -/
theorem quietWord_signed (s : Bool) {w : Nat} (h : w ≤ 0x7F800000) : QuietWord (b2n s * 2 ^ 31 + w) := by
  right
  rw [Nat.mul_add_mod_self_right]
  omega

theorem quietWord_fltInf (s : Bool) : QuietWord (fltInf s) := quietWord_signed s le_rfl
theorem quietWord_fltZero (s : Bool) : QuietWord (fltZero s) := by
  have h := quietWord_signed s (w := 0) (by decide)
  rwa [Nat.add_zero] at h
theorem quietWord_fltNan : QuietWord fltNan := .inl rfl

theorem roundAt_le (rm : Nat) (s : Bool) {m k b : Nat} (sticky : Bool) (h : m < b * 2 ^ k) : roundAt rm s m k sticky ≤ b := by
  have hq : m / 2 ^ k < b := Nat.div_lt_of_lt_mul (by rwa [Nat.mul_comm] at h)
  unfold roundAt
  dsimp only
  split <;> omega

/-- The magnitude that `fltRound` rounds, in units of the last place it keeps, has at most 24 bits. -/
theorem scaled_lt (m : Nat) {sh : Int} (h : (bitLen m : Int) - 24 ≤ sh) :
    m * 2 ^ (-sh).toNat < 2 ^ 24 * 2 ^ sh.toNat := by
  obtain ⟨hm, -⟩ := bitLen_spec m
  calc m * 2 ^ (-sh).toNat < 2 ^ bitLen m * 2 ^ (-sh).toNat := Nat.mul_lt_mul_of_pos_right hm (Nat.two_pow_pos _)
    _ = 2 ^ (bitLen m + (-sh).toNat) := (Nat.pow_add _ _ _).symm
    _ ≤ 2 ^ (24 + sh.toNat) := Nat.pow_le_pow_right (by decide) (by omega)
    _ = 2 ^ 24 * 2 ^ sh.toNat := Nat.pow_add _ _ _

/-- Rounding gives no NaN: what does not overflow has an exponent below the one of the infinity. -/
theorem quietWord_fltRound (rm : Nat) (s : Bool) (m : Nat) (e : Int) (sticky : Bool) :
    QuietWord (fltRound rm s m e sticky).word := by
  unfold fltRound
  split
  · exact quietWord_fltZero s
  · extract_lets norm sh k m' q inexact e'
    have hq : q ≤ 2 ^ 24 := roundAt_le rm s sticky (scaled_lt m (le_max_left _ _))
    clear_value q e'
    have hpair : ∃ q' f, (if q = 2 ^ 24 then (2 ^ 23, e' + 1) else (q, e')) = (q', f) ∧ q' < 2 ^ 24 := by
      split
      · exact ⟨_, _, rfl, by decide⟩
      · exact ⟨_, _, rfl, by omega⟩
    obtain ⟨q', f, hpair, hq'⟩ := hpair
    rw [hpair]
    dsimp only
    split
    · dsimp only
      split
      · exact quietWord_fltInf s
      · exact quietWord_signed s (by decide)
    · refine quietWord_signed s ?_
      split <;> omega

theorem quietWord_ite {p : Prop} [Decidable p] {x y : FltRes} (hx : QuietWord x.word) (hy : QuietWord y.word) :
    QuietWord (if p then x else y).word := by
  by_cases h : p
  · rwa [if_pos h]
  · rwa [if_neg h]

theorem quietWord_fltRoundInt (rm : Nat) (i e : Int) (z : Bool) : QuietWord (fltRoundInt rm i e z).word :=
  quietWord_ite (quietWord_fltZero z) (quietWord_fltRound _ _ _ _ _)

theorem quietWord_fltAdd (rm : Nat) (a b : Flt) : QuietWord (fltAdd rm a b).word := by
  cases a with
  | nan t => exact quietWord_fltNan
  | inf s =>
    cases b with
    | nan t => exact quietWord_fltNan
    | inf t => exact quietWord_ite (quietWord_fltInf _) quietWord_fltNan
    | num t n f => exact quietWord_fltInf _
  | num s m e =>
    cases b with
    | nan t => exact quietWord_fltNan
    | inf t => exact quietWord_fltInf _
    | num t n f => exact quietWord_fltRoundInt _ _ _ _

theorem quietWord_fltMul (rm : Nat) (a b : Flt) : QuietWord (fltMul rm a b).word := by
  cases a with
  | nan t => exact quietWord_fltNan
  | inf s =>
    cases b with
    | nan t => exact quietWord_fltNan
    | inf t => exact quietWord_fltInf _
    | num t n f => exact quietWord_ite quietWord_fltNan (quietWord_fltInf _)
  | num s m e =>
    cases b with
    | nan t => exact quietWord_fltNan
    | inf t => exact quietWord_ite quietWord_fltNan (quietWord_fltInf _)
    | num t n f => exact quietWord_fltRound _ _ _ _ _

theorem quietWord_fltDiv (rm : Nat) (a b : Flt) : QuietWord (fltDiv rm a b).word := by
  cases a with
  | nan t => exact quietWord_fltNan
  | inf s =>
    cases b with
    | nan t => exact quietWord_fltNan
    | inf t => exact quietWord_fltNan
    | num t n f => exact quietWord_fltInf _
  | num s m e =>
    cases b with
    | nan t => exact quietWord_fltNan
    | inf t => exact quietWord_fltZero _
    | num t n f =>
      exact quietWord_ite (quietWord_ite quietWord_fltNan (quietWord_fltInf _)) (quietWord_fltRound _ _ _ _ _)

theorem quietWord_fltSqrt (rm : Nat) (a : Flt) : QuietWord (fltSqrt rm a).word := by
  cases a with
  | nan t => exact quietWord_fltNan
  | inf s => exact quietWord_ite quietWord_fltNan (quietWord_fltInf _)
  | num s m e =>
    simp only [fltSqrt]
    exact quietWord_ite (quietWord_fltZero _) (quietWord_ite quietWord_fltNan (quietWord_fltRound _ _ _ _ _))

theorem quietWord_fltCompare (quiet : Bool) (p : Flt → Flt → Bool) (a b : Flt) : QuietWord (fltCompare quiet p a b).1 := by
  have hbit (q : Bool) : QuietWord (b2n q) := by cases q <;> exact .inr (by decide)
  unfold fltCompare
  split
  · exact hbit false
  · exact hbit _

/-- What FABS gives. -/
def fabsWord (a : Word) : Nat := if (Flt.of a.toNat).isNan then fltNan else bits a.toNat 30 0

/-- What FNEG gives. -/
def fnegWord (a : Word) : Nat := if (Flt.of a.toNat).isNan then fltNan else (a ^^^ 0x80000000).toNat

theorem quietWord_fabsWord (a : Word) : QuietWord (fabsWord a) := by
  unfold fabsWord
  split
  · exact quietWord_fltNan
  · next h =>
    rw [Flt.isNan_of_iff] at h
    exact .inr (by rw [show bits a.toNat 30 0 = a.toNat % 2 ^ 31 from rfl]; omega)

theorem quietWord_fnegWord (a : Word) : QuietWord (fnegWord a) := by
  unfold fnegWord
  split
  · exact quietWord_fltNan
  · next h =>
    rw [Flt.isNan_of_iff] at h
    refine .inr ?_
    rw [BitVec.toNat_xor, Nat.xor_mod_two_pow, show (0x80000000 : Word).toNat % 2 ^ 31 = 0 from rfl, Nat.xor_zero]
    omega

theorem ofNat_fabsWord (a : Word) :
    BitVec.ofNat 32 (fabsWord a) = if (Flt.of a.toNat).isNan then 0x7FC00000#32 else a &&& 0x7FFFFFFF#32 := by
  unfold fabsWord
  split
  · rfl
  · apply BitVec.eq_of_toNat_eq
    rw [BitVec.toNat_and, show (0x7FFFFFFF#32).toNat = 2 ^ 31 - 1 from rfl, Nat.and_two_pow_sub_one_eq_mod, BitVec.toNat_ofNat,
      show bits a.toNat 30 0 = a.toNat % 2 ^ 31 from rfl]
    omega

theorem ofNat_fnegWord (a : Word) :
    BitVec.ofNat 32 (fnegWord a) = if (Flt.of a.toNat).isNan then 0x7FC00000#32 else a ^^^ 0x80000000#32 := by
  unfold fnegWord
  split
  · rfl
  · exact BitVec.ofNat_toNat ..

/-! ### What the instructions of the unit leave -/

theorem State.lead_freeCount (s : State) (n : Nat) (wr : List RegName) (c d : Core) (jump : Option Word) :
    (s.lead n wr c d jump).freeCount = s.freeCount := by
  obtain ⟨pc, rrb, pair, h⟩ := s.lead_eq n wr c d jump
  rw [h]
  rfl

/-- A class-A instruction that may take a free value. -/
theorem State.exec_leadFree {s u : State} {n : Nat} {i : Instr} {act : Core → State → Issue} {wr : List RegName} {d : Core}
    (hr : s.ready n = true) (he : exec i s = s.issue n act) (hu : u = s ∨ u = s.free.2)
    (ha : act (s.core n) s = .done (u.lead n wr (s.core n) d none)) (hd : d.haltReq = (s.core n).haltReq) :
    ∃ t, exec i s = .next t ∧ State.led { s with freeCount := t.freeCount } t n wr none d ∧ t.freeCount = u.freeCount := by
  refine ⟨_, he.trans (State.issue_done hr ha (by rw [State.lead_haltReq, hd, State.ready_haltReq hr])), ?_,
    u.lead_freeCount _ _ _ _ _⟩
  rw [State.lead_freeCount]
  rcases hu with rfl | rfl
  · exact State.led_lead _ n wr d none
  · exact State.led_lead s.free.2 n wr d none

theorem Core.noteFp_zero (c : Core) : c.noteFp 0 = c := by
  unfold Core.noteFp
  rw [BitVec.or_zero]

theorem Core.noteFp_setG_haltReq (c : Core) (k gd : Nat) (v : Word) : ((c.noteFp k).setG gd v).haltReq = c.haltReq :=
  Core.setG_haltReq _ _ _

@[simp] theorem Core.setG_fpsr (c : Core) (k : Nat) (v : Word) : (c.setG k v).fpsr = c.fpsr := by
  rw [c.setG_eq k v]

/-- A register written and flags raised: but for FPSR, the register is all that changes. -/
theorem Core.wroteG_noteFp (c : Core) (k gd : Nat) (v : Word) :
    Core.wroteG { c with fpsr := ((c.noteFp k).setG gd v).fpsr } ((c.noteFp k).setG gd v) gd v := by
  rw [Core.setG_fpsr]
  exact Core.wroteG_setG (c.noteFp k) gd v

theorem State.led_gr {s t : State} {n m : Nat} {wr : List RegName} {jump : Option Word} {d : Core}
    (h : s.led t n wr jump d) : (t.core n).gr m = d.gr m := by
  unfold State.led State.onlyCore at h
  obtain ⟨-, hc, -⟩ := h
  rw [hc]
  split <;> rfl

/-- The register that the unit wrote holds no NaN but the one of R204. -/
theorem quiet_of_led {s t : State} {n gd : Nat} {wr : List RegName} {c d : Core} {v : Word} (h : s.led t n wr none d)
    (hg : c.wroteG d gd v) (hgd : gd % 32 ≠ 0) (hv : QuietWord v.toNat)
    (hn : (Flt.of ((t.core n).gr gd).toNat).isNan = true) : (t.core n).gr gd = 0x7FC00000#32 := by
  obtain ⟨-, hd, -⟩ := hg
  rw [if_neg hgd] at hd
  rw [State.led_gr h, hd] at hn ⊢
  exact hv.eq_of_isNan hn

/-- The flags of FMIN and FMAX: those of a NaN operand. -/
def pickFlags (wa wb : Word) : Nat :=
  let a := Flt.of wa.toNat
  let b := Flt.of wb.toNat
  if a.isNan || b.isNan then (fltNanRes a b).flags else 0

section PredicateSet

variable {s : State} {n gd ga gb pg : Nat} {i : Instr} (hr : s.ready n = true) (hp : (s.core n).pr pg = true)
include hr hp

/-- An operation of the unit under a predicate that is 1: where its underflow flag is open, a free value decides it. -/
theorem State.fpOp_led {f : Nat → Flt → Flt → FltRes} {r : FltRes} (he : exec i s = s.fpOp n gd ga gb pg f)
    (hf : f (s.core n).rm (Flt.of ((s.core n).gr ga).toNat) (Flt.of ((s.core n).gr gb).toNat) = r) :
    ∃ t d k, exec i s = .next t ∧ (k = 0 ∨ (r.ufOpen = true ∧ k = fUF)) ∧
      ((s.core n).noteFp (r.flags + k)).wroteG d gd (BitVec.ofNat 32 r.word) ∧
      State.led { s with freeCount := t.freeCount } t n [.g gd] none d ∧ (r.ufOpen = false → t.freeCount = s.freeCount) := by
  by_cases ho : r.ufOpen = true
  · obtain ⟨t, ht, hl, -⟩ := State.exec_leadFree (wr := [.g gd])
      (d := ((s.core n).noteFp (r.flags + b2n (decide (s.free.1 % 2 = 1)) * fUF)).setG gd (BitVec.ofNat 32 r.word)) hr he (.inr rfl)
      (by simp only [hp, if_true, hf, ho]) (Core.noteFp_setG_haltReq _ _ _ _)
    refine ⟨t, _, _, ht, ?_, Core.wroteG_setG _ _ _, hl, fun h => absurd (ho.symm.trans h) Bool.noConfusion⟩
    cases decide (s.free.1 % 2 = 1)
    · exact .inl rfl
    · exact .inr ⟨ho, rfl⟩
  · rw [Bool.not_eq_true] at ho
    obtain ⟨t, ht, hl, hc⟩ := State.exec_leadFree (wr := [.g gd])
      (d := ((s.core n).noteFp (r.flags + 0)).setG gd (BitVec.ofNat 32 r.word)) hr he (.inl rfl)
      (by simp [hp, hf, ho, b2n]) (Core.noteFp_setG_haltReq _ _ _ _)
    exact ⟨t, _, 0, ht, .inl rfl, Core.wroteG_setG _ _ _, hl, fun _ => hc⟩

/-- FMIN and FMAX under a predicate that is 1: of two results that are open, a free value picks one. -/
theorem State.fpPick_led {pick : Flt → Flt → Bool} {r : Word × Option Word} (he : exec i s = s.fpPick n gd ga gb pg pick)
    (hf : fltPick pick ((s.core n).gr ga) ((s.core n).gr gb) = r) :
    ∃ t v, exec i s = .next t ∧ (v = r.1 ∨ some v = r.2) ∧ State.led { s with freeCount := t.freeCount } t n [.g gd] none
        (((s.core n).noteFp (pickFlags ((s.core n).gr ga) ((s.core n).gr gb))).setG gd v) ∧
      (r.2 = none → t.freeCount = s.freeCount) := by
  obtain ⟨x, y⟩ := r
  cases y with
  | none =>
    obtain ⟨t, ht, hl, hc⟩ := State.exec_leadFree (wr := [.g gd]) hr he (.inl rfl)
      ((if_neg (not_not.2 hp)).trans (by simp only [hf]; rfl)) (Core.noteFp_setG_haltReq _ _ _ x)
    exact ⟨t, x, ht, .inl rfl, hl, fun _ => hc⟩
  | some y =>
    obtain ⟨t, ht, hl, -⟩ := State.exec_leadFree (wr := [.g gd]) hr he (.inr rfl)
      ((if_neg (not_not.2 hp)).trans (by simp only [hf]; rfl))
      (Core.noteFp_setG_haltReq _ _ _ (if s.free.1 % 2 = 0 then x else y))
    refine ⟨t, _, ht, ?_, hl, nofun⟩
    split
    · exact .inl rfl
    · exact .inr rfl

/-- An operation that gives a word and flags, under a predicate that is 1. -/
theorem State.fpWord_leadsG {f : Nat → Word → Word → Nat × Nat} {w k : Nat} (he : exec i s = s.fpWord n gd ga gb pg f)
    (hf : f (s.core n).rm ((s.core n).gr ga) ((s.core n).gr gb) = (w, k)) :
    s.leadsG i n ((s.core n).noteFp k) gd (BitVec.ofNat 32 w) := by
  obtain ⟨t, ht, hl⟩ := State.issueIf_led (wr := [.g gd]) (bad := false)
    (f := fun c => (c.noteFp (f c.rm (c.gr ga) (c.gr gb)).2).setG gd (BitVec.ofNat 32 (f c.rm (c.gr ga) (c.gr gb)).1))
    hr hp rfl (Core.noteFp_setG_haltReq _ _ _ _)
  rw [hf] at hl
  exact ⟨t, _, he.trans ht, Core.wroteG_setG _ _ _, hl⟩

end PredicateSet

/-! ### FADD to FSQRT -/

/-- What FMIN and FMAX may give: an operand that is no NaN, or the quiet NaN. -/
theorem fltPick_cases (pick : Flt → Flt → Bool) (wa wb v : Word)
    (hv : v = (fltPick pick wa wb).1 ∨ some v = (fltPick pick wa wb).2) :
    (v = wa ∧ (Flt.of wa.toNat).isNan = false) ∨ (v = wb ∧ (Flt.of wb.toNat).isNan = false) ∨ v = 0x7FC00000#32 := by
  unfold fltPick at hv
  dsimp only at hv
  cases ha : (Flt.of wa.toNat).isNan with
  | true =>
    cases hb : (Flt.of wb.toNat).isNan with
    | true =>
      simp only [ha, hb, Bool.and_self, if_true, reduceCtorEq, or_false] at hv
      exact .inr (.inr hv)
    | false =>
      simp only [ha, hb, Bool.and_false, Bool.false_eq_true, if_true, if_false, Option.some.injEq] at hv
      exact hv.elim (.inr ∘ .inr) fun h => .inr (.inl ⟨h, rfl⟩)
  | false =>
    cases hb : (Flt.of wb.toNat).isNan with
    | true =>
      simp only [ha, hb, Bool.false_and, Bool.false_eq_true, if_true, if_false, Option.some.injEq] at hv
      exact hv.elim (.inr ∘ .inr) fun h => .inl ⟨h, rfl⟩
    | false =>
      simp only [ha, hb, Bool.and_self, Bool.false_eq_true, if_false] at hv
      suffices h : v = wa ∨ v = wb from h.imp (⟨·, rfl⟩) fun h => .inl ⟨h, rfl⟩
      split at hv
      · split at hv
        · exact hv.imp_right nofun
        · exact hv.imp_right Option.some.inj
      · split at hv
        · exact .inl (hv.resolve_right nofun)
        · exact .inr (hv.resolve_right nofun)

/-- Settles O6. -/
theorem floatArithmetic : Obligations.FloatArithmetic := by
  unfold Obligations.FloatArithmetic
  refine ⟨?_, ?_⟩
  · intro s n gd ga gb pg hr hp c a b rm
    simp only [List.forall_mem_cons, List.not_mem_nil, false_implies, implies_true, and_true]
    exact ⟨State.fpOp_led (f := fltAdd) hr hp rfl rfl, State.fpOp_led (f := fun rm a b => fltAdd rm a b.neg) hr hp rfl rfl,
      State.fpOp_led (f := fltMul) hr hp rfl rfl, State.fpOp_led (f := fltDiv) hr hp rfl rfl,
      State.fpOp_led (gb := 0) (f := fun rm a _ => fltSqrt rm a) hr hp rfl rfl⟩
  · intro s n gd ga gb pg hr hp hgd
    have op {i ga gb} (f : Nat → Flt → Flt → FltRes) (he : exec i s = s.fpOp n gd ga gb pg f)
        (hq : ∀ rm a b, QuietWord (f rm a b).word) : ∃ t, exec i s = .next t ∧
          ((Flt.of ((t.core n).gr gd).toNat).isNan = true → (t.core n).gr gd = 0x7FC00000#32) := by
      obtain ⟨t, d, k, ht, -, hg, hl, -⟩ := State.fpOp_led hr hp he rfl
      exact ⟨t, ht, quiet_of_led hl hg hgd (hq _ _ _).ofNat⟩
    have word {i ga gb} (f : Nat → Word → Word → Nat × Nat) (he : exec i s = s.fpWord n gd ga gb pg f)
        (hq : ∀ rm a b, QuietWord (f rm a b).1) : ∃ t, exec i s = .next t ∧
          ((Flt.of ((t.core n).gr gd).toNat).isNan = true → (t.core n).gr gd = 0x7FC00000#32) := by
      obtain ⟨t, d, ht, hg, hl⟩ := State.fpWord_leadsG hr hp he rfl
      exact ⟨t, ht, quiet_of_led hl hg hgd (hq _ _ _).ofNat⟩
    have cmp {i ga gb} (quiet : Bool) (p : Flt → Flt → Bool) (he : exec i s = s.fpCmp n gd ga gb pg quiet p) :=
      word (fun _ a b => fltCompare quiet p (Flt.of a.toNat) (Flt.of b.toNat)) he fun _ _ _ => quietWord_fltCompare _ _ _ _
    have pick {i ga gb} (p : Flt → Flt → Bool) (he : exec i s = s.fpPick n gd ga gb pg p) : ∃ t, exec i s = .next t ∧
          ((Flt.of ((t.core n).gr gd).toNat).isNan = true → (t.core n).gr gd = 0x7FC00000#32) := by
      obtain ⟨t, v, ht, hv, hl, -⟩ := State.fpPick_led hr hp he rfl
      refine ⟨t, ht, quiet_of_led hl (Core.wroteG_setG _ _ _) hgd ?_⟩
      rcases fltPick_cases p _ _ v hv with ⟨rfl, h⟩ | ⟨rfl, h⟩ | rfl
      · exact quietWord_of_isNan h
      · exact quietWord_of_isNan h
      · exact quietWord_fltNan
    simp only [List.forall_mem_cons, List.not_mem_nil, false_implies, implies_true, and_true]
    exact ⟨op fltAdd rfl quietWord_fltAdd, op (fun rm a b => fltAdd rm a b.neg) rfl fun _ _ _ => quietWord_fltAdd _ _ _,
      op fltMul rfl quietWord_fltMul, op fltDiv rfl quietWord_fltDiv,
      op (gb := 0) (fun rm a _ => fltSqrt rm a) rfl fun _ _ _ => quietWord_fltSqrt _ _,
      pick fltLess rfl, pick (fun a b => fltLess b a) rfl,
      word (gb := ga) (fun _ a _ => (fabsWord a, 0)) rfl fun _ _ _ => quietWord_fabsWord _,
      word (gb := ga) (fun _ a _ => (fnegWord a, 0)) rfl fun _ _ _ => quietWord_fnegWord _,
      cmp true fltEq rfl, cmp false fltLess rfl, cmp false fltLe rfl,
      word (gb := ga) (fun rm a _ => intToFlt rm a 0) rfl fun _ _ _ => quietWord_fltRoundInt _ _ _ _,
      word (gb := ga) (fun rm a _ => intToFlt rm a (-16)) rfl fun _ _ _ => quietWord_fltRoundInt _ _ _ _⟩

/-! ### FMIN to FCVT.QS -/

theorem fltLess_asymm {a b : Flt} (h : fltLess a b = true) : fltLess b a = false := by
  cases a with
  | nan t => exact absurd h Bool.false_ne_true
  | inf s =>
    cases b with
    | nan t => rfl
    | inf t => cases s <;> cases t <;> trivial
    | num t n f => exact congrArg (!·) (show s = true from h)
  | num s m e =>
    cases b with
    | nan t => rfl
    | inf t => simpa [fltLess] using h
    | num t n f =>
      simp only [fltLess, min_comm f e, decide_eq_true_eq, decide_eq_false_iff_not] at h ⊢
      exact not_lt.2 h.le

section Numbers

variable {wa wb : Word} (ha : (Flt.of wa.toNat).isNan = false) (hb : (Flt.of wb.toNat).isNan = false)
include ha hb

theorem pickFlags_of_num : pickFlags wa wb = 0 := by
  simp only [pickFlags, ha, hb, Bool.or_self, Bool.false_eq_true, if_false]

/-- Of two numbers that differ, FMIN and FMAX give the one that `pick` names. -/
theorem fltPick_of_num (pick : Flt → Flt → Bool)
    (hlt : fltLess (Flt.of wa.toNat) (Flt.of wb.toNat) = true ∨ fltLess (Flt.of wb.toNat) (Flt.of wa.toNat) = true) :
    fltPick pick wa wb = (if pick (Flt.of wa.toNat) (Flt.of wb.toNat) then wa else wb, none) := by
  have hne : fltEq (Flt.of wa.toNat) (Flt.of wb.toNat) = false := by
    unfold fltEq
    rcases hlt with h | h <;> simp [h]
  unfold fltPick
  dsimp only
  rw [ha, hb, hne]
  rfl

end Numbers

theorem fltCompare_of_num (quiet : Bool) (p : Flt → Flt → Bool) {a b : Flt} (h : (a.isNan || b.isNan) = false) :
    fltCompare quiet p a b = (b2n (p a b), 0) := if_neg fun hn => Bool.false_ne_true (h.symm.trans hn)

theorem fltCompare_of_nan (quiet : Bool) (p : Flt → Flt → Bool) {a b : Flt} (h : (a.isNan || b.isNan) = true) :
    fltCompare quiet p a b = (0, if quiet then (fltNanRes a b).flags else fNV) := if_pos h

theorem fltToInt_of_nan (rm sh : Nat) {a : Flt} (h : a.isNan = true) : fltToInt rm sh a = (0, fNV) := by
  cases a with
  | nan t => rfl
  | inf s => exact absurd h Bool.false_ne_true
  | num s m e => exact absurd h Bool.false_ne_true

theorem ofNat_b2n (b : Bool) : BitVec.ofNat 32 (b2n b) = if b then 1 else 0 := by cases b <;> rfl

/-- Settles O7. -/
theorem floatComparesAndConverts : Obligations.FloatComparesAndConverts := by
  unfold Obligations.FloatComparesAndConverts
  refine ⟨?_, ?_⟩
  · intro s n gd ga gb pg hr hp c wa wb a b
    have picks {i ga gb} {x : Word} (p : Flt → Flt → Bool) (he : exec i s = s.fpPick n gd ga gb pg p)
        (hf : fltPick p (c.gr ga) (c.gr gb) = (x, none)) (hk : pickFlags (c.gr ga) (c.gr gb) = 0) :
        s.leadsG i n c gd x := by
      obtain ⟨t, v, ht, hv, hl, hc⟩ := State.fpPick_led hr hp he hf
      rw [hc rfl, hk, Core.noteFp_zero] at hl
      obtain rfl := hv.resolve_right nofun
      exact ⟨t, _, ht, Core.wroteG_setG _ _ _, hl⟩
    have open_ {i} (p : Flt → Flt → Bool) (he : exec i s = s.fpPick n gd ga gb pg p) :
        ∃ t d v, exec i s = .next t ∧ (v = wa ∨ v = wb ∨ v = 0x7FC00000#32) ∧
          Core.wroteG { c with fpsr := d.fpsr } d gd v ∧ State.led { s with freeCount := t.freeCount } t n [.g gd] none d := by
      obtain ⟨t, v, ht, hv, hl, -⟩ := State.fpPick_led hr hp he rfl
      exact ⟨t, _, v, ht, (fltPick_cases p wa wb v hv).imp And.left (Or.imp_left And.left),
        Core.wroteG_noteFp _ _ _ _, hl⟩
    have word {i} (f : Word → Nat) (he : exec i s = s.fpWord n gd ga ga pg (fun _ a _ => (f a, 0))) :
        s.leadsG i n c gd (BitVec.ofNat 32 (f wa)) := by
      have h := State.fpWord_leadsG hr hp he rfl
      rwa [Core.noteFp_zero] at h
    refine ⟨fun ha hb hlt => ?_, open_ fltLess rfl, open_ (fun a b => fltLess b a) rfl, ?_, ?_⟩
    · have hgt := fltLess_asymm hlt
      have hab : pickFlags wa wb = 0 := pickFlags_of_num ha hb
      have hba : pickFlags wb wa = 0 := pickFlags_of_num hb ha
      have hmin := fltPick_of_num ha hb fltLess (.inl hlt)
      have hmax := fltPick_of_num ha hb (fun a b => fltLess b a) (.inl hlt)
      have hmin' := fltPick_of_num hb ha fltLess (.inr hlt)
      have hmax' := fltPick_of_num hb ha (fun a b => fltLess b a) (.inr hlt)
      rw [if_pos hlt] at hmin hmax'
      rw [if_neg (Bool.not_eq_true _ ▸ hgt)] at hmax hmin'
      exact ⟨picks fltLess rfl hmin hab, picks (fun a b => fltLess b a) rfl hmax hab, picks fltLess rfl hmin' hba,
        picks (fun a b => fltLess b a) rfl hmax' hba⟩
    · rw [← ofNat_fabsWord]
      exact word fabsWord rfl
    · rw [← ofNat_fnegWord]
      exact word fnegWord rfl
  · intro s n gd ga gb pg hr hp c a b rm flags one
    have cmp {i} (quiet : Bool) (p : Flt → Flt → Bool) {w k : Nat} (he : exec i s = s.fpCmp n gd ga gb pg quiet p)
        (hf : fltCompare quiet p a b = (w, k)) : s.leadsG i n (flags k) gd (BitVec.ofNat 32 w) :=
      State.fpWord_leadsG hr hp he hf
    have conv {i} (f : Nat → Word → Nat × Nat) {w k : Nat} (he : exec i s = s.fpWord n gd ga ga pg (fun rm a _ => f rm a))
        (hf : f rm (c.gr ga) = (w, k)) : s.leadsG i n (flags k) gd (BitVec.ofNat 32 w) :=
      State.fpWord_leadsG hr hp he hf
    refine ⟨fun hn => ?_, fun hn => ?_, conv (intToFlt · · 0) rfl rfl, conv (intToFlt · · (-16)) rfl rfl, fun ha => ?_,
      conv (fun rm a => fltToInt rm 0 (Flt.of a.toNat)) rfl rfl, conv (fun rm a => fltToInt rm 16 (Flt.of a.toNat)) rfl rfl⟩
    · have quiet {i} (q : Bool) (p : Flt → Flt → Bool) (he : exec i s = s.fpCmp n gd ga gb pg q p) :
          s.leadsG i n c gd (one (p a b)) := by
        have h := cmp q p he (fltCompare_of_num q p hn)
        rwa [ofNat_b2n, show flags 0 = c from Core.noteFp_zero c] at h
      exact ⟨quiet true fltEq rfl, quiet false fltLess rfl, quiet false fltLe rfl⟩
    · exact ⟨⟨_, cmp true fltEq rfl (fltCompare_of_nan _ _ hn)⟩, cmp false fltLess rfl (fltCompare_of_nan _ _ hn),
        cmp false fltLe rfl (fltCompare_of_nan _ _ hn)⟩
    · exact ⟨conv (fun rm a => fltToInt rm 0 (Flt.of a.toNat)) rfl (fltToInt_of_nan _ _ ha),
        conv (fun rm a => fltToInt rm 16 (Flt.of a.toNat)) rfl (fltToInt_of_nan _ _ ha)⟩

end Sys2Proof.Machine

/-!
## Levain: deposits and the tick generators (R219, R220, R224, R246)

Both statements fail, each at the clause on the tick generators. The states below are evaluated by the model.
-/

namespace Sys2Proof.Machine

/-- The state with tick generator 0 enabled in phase 0 at an offset, in steps of 250 ns; its token is for template 0. -/
def State.withTick (s : State) (ofs : Nat) : State :=
  (((s.setFd F.LV_TICKk_OFS_EN 0 0 1).setFd F.LV_TICKk_OFS_OFS 0 0 ofs).setFd F.LV_TICKk_CTL_TOKEN 0 0 0).setFd
    F.LV_TICKk_CTL_PHASES 0 0 1

/-! ### A tick generator whose token the full store refuses (R6, R219, R220, R224) -/

/-- CT 0, at which tick generator 0 is due; template 0, for which its token is, is ON, and no operand entry is free. -/
def fullStoreState : State :=
  ((State.reset.setTpl 0 24 1 1).setFd F.LV_STAT_FREE 0 0 0).withTick 0

/-- The state is sound, no token was applied in its tick yet, and no event is noted in it. -/
theorem fullStoreState_premises : fullStoreState.sound = true ∧ fullStoreState.bridgeOf 1 = none ∧
    fullStoreState.lv.turn = (0, 0) ∧ fullStoreState.time.raised = [] := by decide

set_option maxRecDepth 8000 in
/-- Before the turn of a motion token the tick generator deposits: its token is dropped, and DROP is noted as raised in the
tick. -/
theorem fullStoreState_turn_notes_drop : (fullStoreState.takeTurnOf .ax).time.raised =
    [(F.LV_STAT_DROP.reg.addr 0 0, F.LV_STAT_DROP.lo)] := by decide

/-- Refutes O28 at its clause on the turn: where the token of a tick generator that stands before the source is dropped
(R224), the time is not that of the turn alone, for the DROP flag is noted as raised in the tick (R6, R7). -/
theorem not_depositMatchesTokens : ¬ Obligations.DepositMatchesTokens := by
  unfold Obligations.DepositMatchesTokens
  intro h
  obtain ⟨-, hbridge, hturn, hraised⟩ := fullStoreState_premises
  obtain ⟨hrank, -⟩ := h fullStoreState .ax 1 0 0 0 (by decide) (by decide) (by decide) hbridge
  obtain ⟨htime, -⟩ := hrank 76 rfl
  rw [if_neg (fun hn => by rw [hturn] at hn; exact Nat.not_lt_zero _ hn.2)] at htime
  have hnoted := fullStoreState_turn_notes_drop
  rw [htime, hraised] at hnoted
  cases hnoted

/-! ### A tick generator while CT stands still (R64, R246) -/

/-- CT stands at 0, its increment 0, with tick generator 0 enabled at 250 ns. -/
def stillTimeState : State :=
  let s : State := { State.reset with time := { timeReset with ctInc := 0 } }
  (s.setFd F.CLK_STAT_PLL_LOCK 0 0 1).withTick 1

/-- The hypotheses of the clause on the tick generators hold: none of them says that CT moves. -/
theorem stillTimeState_premises :
    let s := stillTimeState
    let ofs := s.offsetNs (s.fd F.LV_TICKk_OFS_OFS 0) * 2 ^ 32
    s.flag F.LV_TICKk_OFS_EN 0 = true ∧ bit (s.fd F.LV_TICKk_CTL_PHASES 0) s.phase = true ∧ s.time.noBase = false ∧
      0 ∉ s.lv.tickDone ∧ s.fd F.LV_TICKk_CTL_TOKEN 0 ≠ 0xFFFF ∧ s.clockOn = true ∧ s.time.ctLoad = none ∧
      s.time.ct < 2 ^ 96 ∧ s.time.ct < ofs + s.time.ctInc ∧ ofs + s.time.ctInc < 2 ^ 96 := by decide

/-- CT does not come to the offset, and the tick generator deposits nothing. -/
theorem stillTimeState_tick_idle : afterNext (fun t => t.lv.tickDone) (exec (.tick 0) stillTimeState) = some [] := by
  decide

/-- Refutes O29 at its clause on the tick generators, which lacks the hypothesis that CT moves: with an increment of 0 it
never comes to the offset, and the generator does not deposit. -/
theorem not_instancesMoveOn : ¬ Obligations.InstancesMoveOn := by
  unfold Obligations.InstancesMoveOn
  intro h
  obtain ⟨hen, hphase, hbase, hdone, htok, hclk, hload, hct, hofs, hfit⟩ := stillTimeState_premises
  obtain ⟨-, htick, -⟩ := h stillTimeState 0 0 0
  obtain ⟨u, he, hmem, -⟩ := htick (by decide) hen hphase hbase hdone htok hclk hload hct hofs hfit
  have hidle := stillTimeState_tick_idle
  rw [he, afterNext, Option.some.injEq] at hidle
  rw [hidle] at hmem
  cases hmem

end Sys2Proof.Machine
